-- ==== Sys2Proof/Word.lean ====
section
/-! DEFINITION. Word types and their plainest arithmetic. -/

namespace Sys2Proof

/-- One byte of a payload, a record or a store. -/
abbrev Byte := BitVec 8

/-- A 32-bit register word (R16, R629). -/
abbrev Word := BitVec 32

end Sys2Proof
end

