-- ==== Sys2Proof/Machine/Types.lean ====
section
/-! DEFINITION. The plain data that commands carry and state fields hold: status codes, records, frames,
messages. No state of its own. -/

namespace Sys2Proof.Machine

/-- The status codes ST1–ST11 of a response (R637, the table of status codes). -/
inductive Status
  | ok | pending | conflict | denied | badarg | busy | nospace | stale | unsupported | locked | rearmed
deriving DecidableEq, Repr

/-- The roles of R1; `none` of `Option Role` is no role (R4). -/
inductive Role
  | field | aggregation
deriving DecidableEq, Repr

/-- Lifecycle states (R681), in the order SY3 numbers them. -/
inductive Lifecycle
  | blank | provisioned | deployed | debug | returned
deriving DecidableEq, Repr

/-- Pair states (R730), in the order SY4 numbers them. -/
inductive PairState
  | solo | active | standby | resync | inSync
deriving DecidableEq, Repr

/-- Power states (R802), in the order SY5 numbers them. -/
inductive PowerState
  | run | trim | doze | hold
deriving DecidableEq, Repr

/-- States of the mains timebase, in the order T1 numbers them (R77). -/
inductive MainsState
  | virtual | acquiring | locked | holdover
deriving DecidableEq, Repr

/-- Meter states MC3 (R373). -/
inductive MeterState
  | unknown | joining | active | drifting | lost | retired
deriving DecidableEq, Repr

/-- Time sources of TIME.STAT.SRC, Q6 (R145). -/
inductive TimeSrc
  | freeRun | port0 | port1 | parent | host
deriving DecidableEq, Repr

/-- Servo states of TIME.STAT.SERVO, Q7 (R145). -/
inductive Servo
  | freeRun | acquiring | locked | holdover
deriving DecidableEq, Repr

/-- The classes of command, C4 of the control hierarchy, coded 0x01–0x12 in this order (R636, R758). -/
inductive CmdClass
  | sys | time | metro | reg | link | plc | meter | vee | bal | arch | upl | fleet | key | fwu | pair | evt | pwr | cfg
deriving DecidableEq, Repr

/-- The Reading Record of R394. -/
structure Record where
  /-- RR1 -/
  meter : Nat := 0
  /-- RR2 bits 15:0 -/
  channel : Nat := 0
  /-- RR2 bits 31:16: the FLAGS RF0–RF12 -/
  flags : BitVec 16 := 0
  /-- RR3 -/
  startTai : Nat := 0
  /-- RR4 -/
  startKey : Nat := 0
  /-- RR5, signed milli-units -/
  value : Int := 0
  /-- RR6 -/
  quality : BitVec 16 := 0
  /-- RR7 -/
  outcome : BitVec 16 := 0
  /-- RR8 -/
  src : Nat := 0
  /-- RR9 -/
  hops : Nat := 0
  /-- RR10 -/
  residenceUs : Nat := 0
  /-- RR11 -/
  seq : Nat := 0
  /-- rate-corrected instant (2⁻³² ns) at which this device took or created the record (R567) -/
  entryRc : Nat := 0
  /-- arrival key of the APDU (R425), for rule TIMESTAMP -/
  arrivalKey : Nat := 0
  /-- arrival stamp as TAI ns (QE7) -/
  arrivalTai : Nat := 0
  /-- child that brought it, and its position there (R556) -/
  brought : Option (Nat × Nat) := none
deriving DecidableEq, Repr

/-- One value of a plaintext row, as the parser reads it from its A-XDR coding (R388). -/
inductive Axdr
  | null
  /-- an integer type or boolean, enum, bit-string read as an unsigned integer; its A-XDR tag -/
  | int (tag : Nat) (v : Int)
  /-- a date-time octet-string: its fields as hundredths of a second since 1970-01-01 in the meter's own time, the deviation in
  minutes, whether that is 0x8000 (not specified), the clock status -/
  | dateTime (cs : Nat) (deviation : Int) (devUnspecified : Bool) (clockStatus : BitVec 8)
  /-- an octet-string that is not a date-time -/
  | octets (b : List Byte)
  /-- a bit-string of more than 64 bits, as a number, its first bit the most significant -/
  | bits (v : Nat)
  /-- an array or a structure within a row -/
  | compound
deriving DecidableEq, Repr

/-- What stands in a decrypted, well-formed plaintext APDU (R387). `bad`: outside the limits, tags or types of R388. -/
inductive PlainApdu
  /-- AP1 data-notification: the optional meter time, else null, and one row -/
  | notification (meterTime : Axdr) (row : List Axdr)
  /-- AP2 get-response-normal: rows -/
  | getResponse (invoke : Nat) (rows : List (List Axdr))
  /-- AP3 one block of a get-response-with-datablock -/
  | datablock (invoke : Nat) (block : Nat) (last : Bool) (raw : List Byte)
  /-- AP4 event-notification-request: the optional meter time, else null, and the attribute value -/
  | event (meterTime : Axdr) (value : Axdr)
  /-- a response whose rows stand in a compact-array, which firmware handles (R388) -/
  | compact (invoke : Nat) (rows : List (List Axdr))
  /-- a set-response, an action-response or a get-response that is no profile read (R579): success or refusal, with the data
  read -/
  | fleetAnswer (invoke : Nat) (success : Bool) (data : List Nat)
  /-- an APDU outside R388 -/
  | bad
deriving DecidableEq, Repr

/-- The wire form of a received DLMS/COSEM APDU (R380): its class and the fields in clear. -/
structure Apdu where
  /-- 0xDB general-glo-ciphering, 0xDF general-signing, else plaintext or another tag -/
  tag : Nat := 0
  /-- general-signing: the signed content is a general-glo-ciphering APDU -/
  signedCiphered : Bool := true
  title : Nat := 0
  /-- security control: suite -/
  suite : Nat := 0
  authBit : Bool := true
  encBit : Bool := true
  keySetBit : Bool := false
  ic : Nat := 0
  /-- ciphered or authenticated bytes with the 12-byte tag at the end; the plaintext of a signed APDU that is not ciphered -/
  body : List Byte := []
  /-- ECDSA signature of a general-signing APDU -/
  signature : List Byte := []
deriving DecidableEq, Repr

/-- The frame descriptor of R275 with the MAC fields the link layer reads (R309–R316). -/
structure RadioFrame where
  lane : Nat := 0
  phy : Nat := 0
  fcsOk : Bool := true
  agcChanged : Bool := false
  modeSwitch : Bool := false
  virtualMains : Bool := false
  modeT : Bool := false
  mcs : Nat := 0
  length : Nat := 0
  chanId : Nat := 0
  rssi : Int := 0
  freqErr : Int := 0
  lqi : Nat := 0
  fe : Nat := 0
  key : Nat := 0
  tai : Nat := 0
  /-- PSDU CRC, for R311 -/
  crc : Nat := 0
  /-- NT2 kind of the sender: 0 SUN, 1 wireless M-Bus -/
  kind : Nat := 0
  addr : Nat := 0
  seq : Nat := 0
  ackReq : Bool := false
  frameVersion : Nat := 0
  pan : Nat := 0
  /-- destination: short 0x0000 or extended address of this unit, or broadcast -/
  dst : Nat := 0
  dstBroadcast : Bool := false
  dstShort : Bool := true
  security : Bool := false
  /-- duration from the arrival stamp to the end of the frame, µs (R314) -/
  durationUs : Nat := 0
  /-- the transport is one a MAC unpacks (R371) -/
  unpacked : Bool := true
  /-- firmware can unpack it (R371) -/
  fwUnpackable : Bool := true
  /-- an acknowledgement frame of a downlink (R329) -/
  isAck : Bool := false
  apdu : Apdu := {}
  bytes : List Byte := []
deriving DecidableEq, Repr

/-- The Q2 entry of R370. -/
structure Q2Entry where
  nbr : Nat := 0xFFFF
  src : Nat := 0
  unwindowed : Bool := false
  virtualMains : Bool := false
  fromChild : Bool := false
  notUnpacked : Bool := false
  security : Bool := false
  fwUnpackable : Bool := true
  apduOff : Nat := 0
  apduLen : Nat := 0
  key : Nat := 0
  tai : Nat := 0
  slot : Nat := 0
  child : Nat := 0
  length : Nat := 0
  apdu : Apdu := {}
  /-- HOPS and RESIDENCE_US brought by a CIPHER entry (R565) -/
  hops : Nat := 0
  residenceUs : Nat := 0
  /-- rate-corrected instant of entry (R567) -/
  entryRc : Nat := 0
  addr : Nat := 0
  bytes : List Byte := []
deriving DecidableEq, Repr

/-- A parsed APDU on Q3: what IG5 hands to IG6 (R386, R387). -/
structure Parsed where
  meter : Nat := 0
  /-- JSEQ of the context delta that carries its counter (R400) -/
  jseq : Nat := 0
  ic : Nat := 0
  repeated : Bool := false
  signed : Bool := false
  entry : Q2Entry := {}
  plain : PlainApdu := .bad
deriving DecidableEq, Repr

/-- A power-line frame received by SE12 (R355, R356). -/
structure PlcFrame where
  addr : Nat := 0
  seq : Nat := 0
  crcOk : Bool := true
  /-- from the end of the preamble to the end of the frame, µs (R355) -/
  durationUs : Nat := 0
  /-- a request to join the domain: the bootstrap or registration of the mode (R360) -/
  join : Bool := false
  /-- the phase-detection field that G.9903 carries, in its own unit; none under G.9904 (R356) -/
  zc : Option Nat := none
  /-- the offset in pt that the meter reports at application level, which firmware writes in MODE 3 (R356) -/
  appOffset : Option Nat := none
  length : Nat := 0
  unpacked : Bool := true
  fwUnpackable : Bool := true
  isAck : Bool := false
  ackReq : Bool := false
  apdu : Apdu := {}
  bytes : List Byte := []
deriving DecidableEq, Repr

/-- A frame waiting on Q7 or Q8 for transmission (R279, R351). -/
structure TxFrame where
  /-- entry handle that binds it to its class 7 entry -/
  id : Nat := 0
  kind : Nat := 0
  addr : Nat := 0
  seq : Nat := 0
  phy : Nat := 0
  freqHz : Nat := 0
  widthHz : Nat := 0
  /-- on-air time from the first preamble symbol to the last symbol, ns -/
  airNs : Nat := 0
  /-- 0 downlink, 1 acknowledgement, 2 wake sequence, 3 multicast -/
  use : Nat := 0
  meter : Nat := 0xFFFFFFFF
  bytes : List Byte := []
deriving DecidableEq, Repr

/-- An event record as written (R755). -/
structure EvtRecord where
  opS : Nat := 0
  opSub : Nat := 0
  code : Nat := 0
  starts : Nat := 0
  eseq : Nat := 0
  severity : Nat := 0
  source : Nat := 0
  snapMask : Nat := 0
  eflags : Nat := 0
  suppressed : Nat := 0
  detail : List Byte := []
  snap : List Word := []
deriving DecidableEq, Repr

/-- The header of a command (R636). -/
structure CmdHeader where
  opcode : Nat := 0
  tag : Nat := 0
  hostId : Nat := 0
  flags : Nat := 0
  length : Nat := 0
  seq : Nat := 0
  claim : Nat := 0
deriving DecidableEq, Repr

/-- A response (R637). -/
structure Response where
  opcode : Nat := 0
  tag : Nat := 0
  hostId : Nat := 0
  status : Status := .ok
  payload : List Byte := []
  seq : Nat := 0
  detail : Nat := 0
deriving DecidableEq, Repr

/-- A command taken and dispatched to its block manager, its effect still to come (R641). -/
structure Taken where
  /-- the host went offline after the take, so that responses are discarded (R624) -/
  dead : Bool := false
  opcode : Nat := 0
  tag : Nat := 0
  seq : Nat := 0
  claim : Nat := 0
  payload : List Byte := []
deriving DecidableEq, Repr

/-- An event pushed onto Q10 (R760). -/
structure QEvent where
  code : Nat := 0
  source : Nat := 0
  severity : Nat := 0
  detail : List Byte := []
  opS : Nat := 0
  opSub : Nat := 0
  /-- a host's EVT_POST that raised it: the host and the command that waits for its fate (R785) -/
  reply : Option (Nat × Taken) := none
deriving DecidableEq, Repr

/-- A value a meter reported in a balance-relevant record kept in the record archive (R455). -/
structure ArchRec where
  pos : Nat := 0
  record : Record := {}
  /-- reported time of commit, ns -/
  commitTai : Nat := 0
  /-- rate-corrected commit time, 2⁻³² ns -/
  commitRc : Nat := 0
  /-- committed while Solo or Active (R732) -/
  active : Bool := true
deriving DecidableEq, Repr

/-! ### The Seam's frames (R22–R24) -/

/-- What a frame from the line side to the logic side holds (R24). Zero crossings, result sets and voltage reports act through
commands of their own. -/
inductive SeamRx
  /-- position 0: a zero-crossing stamp -/
  | crossing
  /-- position 0: a comparator stamp, with the delay from its event to the start of the frame in periods of the line-side clock -/
  | comparator (delay : Nat)
  /-- positions 1–6: resampled waveform samples -/
  | waveform
  /-- positions 7–10: power-line receive samples -/
  | plcSamples
  /-- positions 11, 12: metrology results -/
  | results
  /-- position 13: a write to the Lining -/
  | legal
  /-- position 14: TIN levels, line-side status and alarms, converter feedback and VIN in mV -/
  | status (tin : BitVec 8) (alarms feedback vin : Nat)
  /-- position 15: a management response -/
  | response (n : Nat)
deriving DecidableEq, Repr

/-- What a frame from the logic side to the line side holds (R24, R28, R33, R170). -/
inductive LineRx
  /-- position 0: mains cycle number and phase echo, of the instant at which its frame began -/
  | echo
  /-- positions 1–8: power-line transmit samples -/
  | txSamples
  /-- positions 9, 10: the oldest non-legal metrology setting that waits -/
  | control
  /-- positions 9, 10, 15: a frame that addresses a legal parameter -/
  | legalParameter
  /-- position 11: power-line driver control: enable and attenuation -/
  | driver
  /-- position 12: idle fill -/
  | idle
  /-- position 13: the oldest acknowledgement of a legal write on its way -/
  | ack
  /-- position 13: the stored calibration image, read without error or not -/
  | calImage (readOk : Bool)
  /-- position 13: the stored register images -/
  | registerImages
  /-- position 14: converter set-point in mV -/
  | setPoint (mv : Nat)
  /-- position 15: a management request -/
  | request (n : Nat)
deriving DecidableEq, Repr

/-- The positions whose frames to the logic side hold such a content (R24). -/
def SeamRx.fits : SeamRx → Nat → Bool
  | .crossing, n | .comparator _, n => n == 0
  | .waveform, n => decide (1 ≤ n ∧ n ≤ 6)
  | .plcSamples, n => decide (7 ≤ n ∧ n ≤ 10)
  | .results, n => n == 11 || n == 12
  | .legal, n => n == 13
  | .status .., n => n == 14
  | .response _, n => n == 15

/-- The positions whose frames to the line side hold such a content (R24); a frame that addresses a legal parameter may stand in any
that carries control or requests. -/
def LineRx.fits : LineRx → Nat → Bool
  | .echo, n => n == 0
  | .txSamples, n => decide (1 ≤ n ∧ n ≤ 8)
  | .control, n => n == 9 || n == 10
  | .legalParameter, n => n == 9 || n == 10 || n == 15
  | .driver, n => n == 11
  | .idle, n => n == 12
  | .ack, n | .calImage _, n | .registerImages, n => n == 13
  | .setPoint _, n => n == 14
  | .request _, n => n == 15

/-- A received frame: its place in the superframe, its 100 bits, and what its payload spells (R23, R24). -/
structure SeamFrame (α : Type) where
  position : Nat
  bits : BitVec 100
  body : α
deriving DecidableEq, Repr

/-! ### The memories (R39) -/

/-- The regions of the SRAM and MRAM, and the DRAM (M1–M6, N1–N4, R39, R40). -/
inductive MemRegion
  | engineLocal | supervisor | shared | sessionCache | schedTable | queueRings | lining | pocket | eventRing | counters | dram
deriving DecidableEq, Repr

/-- An error that SECDED finds outside engine local memory (R40). -/
inductive EccError
  /-- a single-bit error, corrected in place -/
  | corrected (region : MemRegion)
  /-- an uncorrectable one met by the access of the initiator at a fabric port, F0–F27 -/
  | uncorrectable (region : MemRegion) (port : Nat)
deriving DecidableEq, Repr

/-- The transports of U2 (R130). -/
inductive PtpTransport
  | ipv4 | ipv6 | ethernet
deriving DecidableEq, Repr

/-- What a Sync, with the Follow_Up of a two-step master, tells of the master's time, and the mean path delay measured with it (R131). -/
structure PtpSync where
  /-- originTimestamp plus every correctionField, 1/65,536 ns -/
  origin : Nat := 0
  /-- mean path delay, 1/65,536 ns -/
  delay : Nat := 0
deriving DecidableEq, Repr

/-- A received PTP message with what its frame carries around it (R130, R133). -/
structure PtpMsg where
  /-- messageType: 0 Sync, 1 Delay_Req, 2 Pdelay_Req, 3 Pdelay_Resp, 8 Follow_Up, 9 Delay_Resp, 10 Pdelay_Resp_Follow_Up -/
  kind : Nat := 0
  /-- sourcePortIdentity, of the request in a response -/
  ident : Nat := 0
  /-- sequenceId -/
  seqId : Nat := 0
  domain : Nat := 0
  twoStep : Bool := false
  transport : PtpTransport := .ethernet
  /-- VLAN tags -/
  vlans : Nat := 0
  /-- IPv6 extension headers before UDP -/
  extHeaders : Bool := false
  /-- the measurement that it completes, of a Sync or a Follow_Up -/
  sync : Option PtpSync := none
  /-- the link delay that it completes, of a Pdelay_Resp or its Follow_Up; 1/65,536 ns -/
  link : Option Nat := none
deriving DecidableEq, Repr

/-- The UDP datagram around a PTP message, as firmware handed the frame over (R136). A frame of IEEE 802.3 layer 2 has none. -/
structure PtpUdp where
  /-- its checksum field -/
  checksum : Nat := 0
  /-- carried by IPv4; else by IPv6 -/
  ipv4 : Bool := true
  /-- the timestamp field that I1 and I3 overwrite, ns -/
  stamp : Nat := 0
deriving DecidableEq, Repr

end Sys2Proof.Machine
end

