-- ==== Sys2Proof/Machine/StCfg.lean ====
section
/-! DEFINITION. The configuration image of "Configuration images and limited-count settings" as structured data: every base image field the chapters name, at its stated default. -/

namespace Sys2Proof.Machine

/-- One demand scheme, DM1–DM5 (R212). -/
structure DemandCfg where
  /-- DM1 ENABLE; 1; R212; reset false (spec) -/
  enable : Bool := false
  /-- DM2 TYPE, true sliding; 1; R212; reset false (spec) -/
  sliding : Bool := false
  /-- DM3 LENGTH in minutes; 6; R212; reset 15 (spec) -/
  lengthMin : Nat := 15
  /-- DM4 SUBINT; 4; R212; reset 1 (spec) -/
  subint : Nat := 1
  /-- DM5 PAIRS (point, code) in order; 1-64 pairs; R212, R881; reset [] (spec) -/
  pairs : List (Nat × Nat) := []
deriving DecidableEq, Repr

/-- One pulse output configuration, PU1–PU5 (R250). -/
structure PulseCfg where
  /-- PU1 ENABLE; 1; R250; reset false (spec) -/
  enable : Bool := false
  /-- PU2 POINT_MASK; 32; R250; reset 0 (spec) -/
  pointMask : BitVec 32 := 0
  /-- PU3 CODE; 3; R250; reset 0 (spec) -/
  code : Nat := 0
  /-- PU4 PER_PULSE; 32; R250; reset 1000 (spec) -/
  perPulse : Nat := 1000
  /-- PU5 WIDTH in ms; 7; R250; reset 40 (spec) -/
  widthMs : Nat := 40
deriving DecidableEq, Repr

/-- One radio front end, FE1–FE8 (R262). -/
structure FeCfg where
  /-- FE1 ENABLE; 1; R262; reset false (spec) -/
  enable : Bool := false
  /-- FE2 CENTER_HZ; 32; R262; reset 868000000 (spec) -/
  centerHz : Nat := 868000000
  /-- FE3 WIDTH code; 2; R262; reset 2 (spec) -/
  width : Nat := 2
  /-- FE4 TX_POWER, 0.5 dBm units; 16 signed; R262; reset 28 (spec) -/
  txPower : Int := 28
  /-- FE5 PA_LEAD in µs; 8; R262; reset 20 (spec) -/
  paLead : Nat := 20
  /-- FE6 PA_LAG in µs; 8; R262; reset 4 (spec) -/
  paLag : Nat := 4
  /-- FE7 CCA threshold in dBm, 0 disables; 8 signed; R262; reset 0 (spec) -/
  cca : Int := 0
  /-- FE8 BLANK_PEER; 1; R262; reset false (spec) -/
  blankPeer : Bool := false
deriving DecidableEq, Repr

/-- One demodulator lane, LN1–LN5 (R267). -/
structure LaneCfg where
  /-- LN1 ENABLE; 1; R267; reset false (spec) -/
  enable : Bool := false
  /-- LN2 FE; 1; R267; reset 0 (spec) -/
  fe : Nat := 0
  /-- LN3 PHY code; 8; R267; reset 0 (spec) -/
  phy : Nat := 0
  /-- LN4 OFFSET in 6,250 Hz units; 32 signed; R267; reset 0 (spec) -/
  offset : Int := 0
  /-- LN5 CHAN_ID; 16; R267; reset 0 (spec) -/
  chanId : Nat := 0
deriving DecidableEq, Repr

/-- The wake-up receiver settings (R290). -/
structure WurCfg where
  /-- ENABLE; 1; R290; reset false (spec) -/
  enable : Bool := false
  /-- RATE, true 4,096 b/s; 1; R290; reset true (spec) -/
  fast : Bool := true
  /-- FREQ_HZ; 32; R290; reset 868300000 (spec) -/
  freqHz : Nat := 868300000
  /-- wake addresses; up to four 16-bit addresses; R290, R299; reset [] (spec) -/
  addrs : List Nat := []
  /-- broadcast accepted; 1; R290; reset false (spec) -/
  broadcast : Bool := false
deriving DecidableEq, Repr

/-- One duty sub-band (R287). -/
structure SubBand where
  /-- LOW_HZ; 32; R287; reset 0 (DESIGN CHOICE 1) -/
  lowHz : Nat := 0
  /-- HIGH_HZ; 32; R287; reset 0 (DESIGN CHOICE 1) -/
  highHz : Nat := 0
  /-- LIMIT in 0.01 % of airtime, 0 none; 16; R287; reset 0 (DESIGN CHOICE 1) -/
  limit : Nat := 0
deriving DecidableEq, Repr

/-- One link profile, LP1–LP12 (R301). -/
structure LinkProfile where
  /-- LP1 CHECKIN_MC; 32; R301; reset 45000 (spec) -/
  checkinMc : Nat := 45000
  /-- LP2 BASE_GUARD_US; 32; R301; reset 2000 (spec) -/
  baseGuardUs : Nat := 2000
  /-- LP3 DRIFT_PPM; 16; R301; reset 40 (spec) -/
  driftPpm : Nat := 40
  /-- LP4 GUARD_CAP_US; 32; R301; reset 1000000 (spec) -/
  guardCapUs : Nat := 1000000
  /-- LP5 LOST_MISSES; 8; R301; reset 5 (spec) -/
  lostMisses : Nat := 5
  /-- LP6 ACK_DELAY_PT; 16; R301; reset 32768 (spec) -/
  ackDelayPt : Nat := 32768
  /-- LP7 MAX_RETRIES; 8; R301; reset 3 (spec) -/
  maxRetries : Nat := 3
  /-- LP8 RETRY_MC; 16; R301; reset 50 (spec) -/
  retryMc : Nat := 50
  /-- LP9 ACK_WAIT_PT; 16; R301; reset 65535 (spec) -/
  ackWaitPt : Nat := 65535
  /-- LP10 SEQ_RESET_MC; 32; R301; reset 180000 (spec) -/
  seqResetMc : Nat := 180000
  /-- LP11 WAKE_REPEAT; 8; R301; reset 9 (spec) -/
  wakeRepeat : Nat := 9
  /-- LP12 WAKE_GAP_US; 16; R301; reset 5000 (spec) -/
  wakeGapUs : Nat := 5000
deriving DecidableEq, Repr

/-- The power-line port settings, PG1–PG8 (R339). -/
structure PlcCfg where
  /-- PG1 MODE; 2; R339; reset 0 (spec) -/
  mode : Nat := 0
  /-- PG2 TX_ATT; 6; R339; reset 12 (spec) -/
  txAtt : Nat := 12
  /-- PG3 ATT_FLOOR; 6; R339; reset 0 (spec) -/
  attFloor : Nat := 0
  /-- PG4 NOISE_MARGIN in dB; 5; R339; reset 6 (spec) -/
  noiseMargin : Nat := 6
  /-- PG5 BLOCK_MASK; 64; R339; reset 0 (spec) -/
  blockMask : BitVec 64 := 0
  /-- PG6 TONE_MASK, all carriers on; 72; R339; reset -1 (spec) -/
  toneMask : BitVec 72 := -1
  /-- PG7 START_LIMIT_MC; 8; R339; reset 50 (spec) -/
  startLimitMc : Nat := 50
  /-- PG8 NODE_AGE in days; 7; R339; reset 30 (spec) -/
  nodeAgeDays : Nat := 30
deriving DecidableEq, Repr

/-- One column of a parse profile, PP8–PP13 (R390). -/
structure ParseCol where
  /-- PP8 CHANNEL; 16; R390; reset 0 (spec) -/
  channel : Nat := 0
  /-- PP9 ROLE; 8; R390; reset 0 (spec) -/
  role : Nat := 0
  /-- PP10 SCALER; 8 signed; R390; reset 0 (spec) -/
  scaler : Int := 0
  /-- PP11 TYPE; 8; R390; reset 0 (spec) -/
  type : Nat := 0
  /-- PP12 UNIT; 8; R390; reset 0 (spec) -/
  unit : Nat := 0
  /-- PP13 KIND; 8; R390; reset 0 (spec) -/
  kind : Nat := 0
deriving DecidableEq, Repr

/-- One parse profile (R390). -/
structure ParseProfile where
  /-- PP2 PFLAGS; 8; R390; reset 0 (spec) -/
  pflags : BitVec 8 := 0
  /-- PP4 CAPTURE_S; 32; R390; reset 900 (spec) -/
  captureS : Nat := 900
  /-- PP5 GUARD_MC; 32; R390, R106; reset 6000 (spec) -/
  guardMc : Nat := 6000
  /-- PP6 MAX_ROWS; 16; R390; reset 1024 (spec) -/
  maxRows : Nat := 1024
  /-- the columns in use, PP1 COLUMNS their number; 0-32 columns; R390; reset [] (spec) -/
  cols : List ParseCol := []
deriving DecidableEq, Repr

/-- One rule entry of a VEE profile, VE1–VE8 (R416). -/
structure VeeRule where
  /-- VE1 CODE; 8; R416; reset 1 (DESIGN CHOICE 1) -/
  code : Nat := 1
  /-- VE2 ACTION; 8; R416; reset 0 (DESIGN CHOICE 1) -/
  action : Nat := 0
  /-- VE3 CHANNEL; 16; R416; reset 0 (DESIGN CHOICE 1) -/
  channel : Nat := 0
  /-- VE4 CH_MASK; 16; R416; reset 0 (DESIGN CHOICE 1) -/
  chMask : Nat := 0
  /-- VE5 KIND_MASK; 8; R416; reset 0 (DESIGN CHOICE 1) -/
  kindMask : BitVec 8 := 0
  /-- VE7 P1; 32 signed; R416; reset 0 (DESIGN CHOICE 1) -/
  p1 : Int := 0
  /-- VE8 P2; 32 signed; R416; reset 0 (DESIGN CHOICE 1) -/
  p2 : Int := 0
deriving DecidableEq, Repr

/-- One VEE profile, VH1–VH8 (R416). -/
structure VeeProfile where
  /-- VH2 HFLAGS bit 0; 1; R416; reset false (spec) -/
  estimate : Bool := false
  /-- VH2 HFLAGS bit 1; 1; R416; reset false (spec) -/
  estimateShape : Bool := false
  /-- VH3 LINEAR_MAX; 16; R416; reset 4 (spec) -/
  linearMax : Nat := 4
  /-- VH4 PROFILE_MAX; 16; R416; reset 2880 (spec) -/
  profileMax : Nat := 2880
  /-- VH5 SHAPE; 8; R416; reset 0xFF (spec) -/
  shape : Nat := 0xFF
  /-- VH7 PERIOD_S; 32; R416; reset 900 (spec) -/
  periodS : Nat := 900
  /-- rule entries in use, VH1 RULES their number; 0-64 entries; R416; reset [] (spec) -/
  rules : List VeeRule := []
deriving DecidableEq, Repr

/-- One season, TC1 (R833). -/
structure Season where
  /-- start month; 8; R833; reset 1 (DESIGN CHOICE 1) -/
  month : Nat := 1
  /-- start day; 8; R833; reset 1 (DESIGN CHOICE 1) -/
  day : Nat := 1
  /-- week profile; 8; R833; reset 0 (DESIGN CHOICE 1) -/
  week : Nat := 0
deriving DecidableEq, Repr

/-- One special day, TC4 (R833). -/
structure SpecialDay where
  /-- year, 0 every year; 16; R833; reset 0 (DESIGN CHOICE 1) -/
  year : Nat := 0
  /-- month; 8; R833; reset 1 (DESIGN CHOICE 1) -/
  month : Nat := 1
  /-- day; 8; R833; reset 1 (DESIGN CHOICE 1) -/
  day : Nat := 1
  /-- day profile; 8; R833; reset 0 (DESIGN CHOICE 1) -/
  profile : Nat := 0
deriving DecidableEq, Repr

/-- The tariff calendar (R833). -/
structure Calendar where
  /-- TC1 seasons; 1-16; R833; reset [] (DESIGN CHOICE 1) -/
  seasons : List Season := []
  /-- TC2 week profiles, Monday to Sunday; 1-8; R833; reset [] (DESIGN CHOICE 1) -/
  weeks : List (List Nat) := []
  /-- TC3 day profiles: (minute of day, rate) rising; 1-16; R833; reset [] (DESIGN CHOICE 1) -/
  days : List (List (Nat × Nat)) := []
  /-- TC4 special days; 0-64; R833; reset [] (DESIGN CHOICE 1) -/
  special : List SpecialDay := []
deriving DecidableEq, Repr

/-- One host ring, QD1–QD8 (R656). -/
structure RingCfg where
  /-- ring number Q12–Q63; 6; R656; reset 12 (DESIGN CHOICE 1) -/
  number : Nat := 12
  /-- QD1 OWNER; 2; R656; reset 0 (DESIGN CHOICE 1) -/
  owner : Nat := 0
  /-- QD2 SOURCE; 3; R656; reset 0 (spec) -/
  source : Nat := 0
  /-- QD3 LOCATION, true host memory; 1; R656; reset false (spec) -/
  hostMemory : Bool := false
  /-- QD4 BASE; 64; R656; reset 0 (spec) -/
  base : Nat := 0
  /-- QD5 SLOT; 13; R656; reset 64 (spec) -/
  slot : Nat := 64
  /-- QD6 DEPTH; 17; R656; reset 256 (spec) -/
  depth : Nat := 256
  /-- QD7 SHADOW; 64; R656; reset 0 (spec) -/
  shadow : Nat := 0
  /-- QD8 THRESH; 17; R656; reset 1 (spec) -/
  thresh : Nat := 1
deriving DecidableEq, Repr

/-- One host binding, HP1–HP3 (R621); HP4 is the rings whose OWNER it is. -/
structure HostCfg where
  /-- HP1 PORT; 3; R621; reset 0 (spec) -/
  port : Nat := 0
  /-- HP2 PRECEDENCE; 3; R621; reset 0 (spec) -/
  precedence : Nat := 0
  /-- HP3 TIME_AUTH; 1; R621; reset false (spec) -/
  timeAuth : Bool := false
deriving DecidableEq, Repr

/-- One multicast carrier, MCA1–MCA4 (R602). -/
structure Carrier where
  /-- MCA1, MCA4 ENABLE; 1; R602; reset false (spec) -/
  enable : Bool := false
  /-- MCA2 FE; 1; R602; reset 0 (spec) -/
  fe : Nat := 0
  /-- MCA2 PHY; 8; R602; reset 0 (spec) -/
  phy : Nat := 0
  /-- MCA2 FREQ_HZ; 32; R602; reset 868000000 (spec) -/
  freqHz : Nat := 868000000
  /-- MCA3 WAKE_REPEAT; 8; R602; reset 0 (spec) -/
  wakeRepeat : Nat := 0
deriving DecidableEq, Repr

/-- An override of one event code (R763). -/
structure EvtCodeCfg where
  /-- event code; 16; R763; reset 0 (DESIGN CHOICE 1) -/
  code : Nat := 0
  /-- RATE, records per hour; 12; R763; reset 0 (DESIGN CHOICE 1) -/
  rate : Nat := 0
  /-- BURST; 8; R763; reset 1 (DESIGN CHOICE 1) -/
  burst : Nat := 1
  /-- snapshot list, Collar word indices; 0-8 words; R761, R763; reset [] (DESIGN CHOICE 1) -/
  snap : List Nat := []
deriving DecidableEq, Repr

/-- The settings of R482. -/
structure BalCfg where
  /-- TP1 TOPO_CH; 16; R482; reset 0x0201 (spec) -/
  topoCh : Nat := 0x0201
  /-- TP2 TOPO_MASK; 16; R482; reset 0xFFFF (spec) -/
  topoMask : Nat := 0xFFFF
  /-- TP3 WINDOW_DAYS; 5; R482; reset 7 (spec) -/
  windowDays : Nat := 7
  /-- TP4 N_MIN; 12; R482; reset 192 (spec) -/
  nMin : Nat := 192
  /-- TP5 R_MIN ×0.001; 10; R482; reset 500 (spec) -/
  rMin : Nat := 500
  /-- TP6 R_MIN_F ×0.001; 10; R482; reset 300 (spec) -/
  rMinF : Nat := 300
  /-- TP7 CONF_MIN; 10; R482; reset 950 (spec) -/
  confMin : Nat := 950
  /-- TP8 ZC_USE; 1; R482; reset true (spec) -/
  zcUse : Bool := true
  /-- TP9 ZC_SPREAD; 14; R482; reset 2048 (spec) -/
  zcSpread : Nat := 2048
  /-- TP10 PHASE_SEQ; 1; R482; reset false (spec) -/
  phaseSeq : Bool := false
  /-- BA1 BAL_IMPORT_CH; 16; R482; reset 0x0101 (spec) -/
  importCh : Nat := 0x0101
  /-- BA2 BAL_EXPORT_CH; 16; R482; reset 0x0102 (spec) -/
  exportCh : Nat := 0x0102
  /-- BA3 REPORT_DELAY; 11; R482; reset 360 (spec) -/
  reportDelayMin : Nat := 360
  /-- BA4 FIT_DAYS; 5; R482; reset 28 (spec) -/
  fitDays : Nat := 28
  /-- BA5 COVER_MIN; 17; R482; reset 95000 (spec) -/
  coverMin : Nat := 95000
  /-- BA6 RESID_ALERT_BP; 13; R482; reset 300 (spec) -/
  residAlertBp : Nat := 300
  /-- BA7 RESID_NEG_BP; 13; R482; reset 100 (spec) -/
  residNegBp : Nat := 100
  /-- BA8 BAL_RING; 6; R482; reset 0 (spec) -/
  ring : Nat := 0
  /-- SS1 W1–W4; four of 8 bits; R482; reset [4, 2, 1, 1] (spec) -/
  weights : List Nat := [4, 2, 1, 1]
  /-- SS2 SCORE_ALERT; 10; R482; reset 600 (spec) -/
  scoreAlert : Nat := 600
  /-- SS3 SCORE_DAYS; 7; R482; reset 28 (spec) -/
  scoreDays : Nat := 28
  /-- SS4 TAMPER_CODES; up to 16; R482; reset [] (spec) -/
  tamperCodes : List Nat := []
deriving DecidableEq, Repr

/-- The pair settings PR1–PR8 (R724). -/
structure PairCfg where
  /-- PR1 PAIR_ENABLE; 1; R724; reset false (spec) -/
  enable : Bool := false
  /-- PR2 SIDE; 1; R724; reset 0 (spec) -/
  side : Nat := 0
  /-- PR3 PARTNER_HASH; 256; R724; reset 0 (spec) -/
  partnerHash : Nat := 0
  /-- PR4 HB_PHASE; 16; R724; reset 0 (spec) -/
  hbPhase : Nat := 0
  /-- PR5 RETURN, true Revert; 1; R724; reset false (spec) -/
  revert : Bool := false
  /-- PR6 HOLDOFF_MC; 32; R724; reset 180000 (spec) -/
  holdoffMc : Nat := 180000
  /-- PR7 LISTEN_MC; 8; R724; reset 8 (spec) -/
  listenMc : Nat := 8
  /-- PR8 JOURNAL_MIB; 11; R724; reset 256 (spec) -/
  journalMib : Nat := 256
deriving DecidableEq, Repr

/-- The clock types of U1 (R130). -/
inductive PtpClock
  | ordinary0 | ordinary1 | boundary | endToEnd | peerToPeer
deriving DecidableEq, Repr

/-- The profiles of U3 (R130): the first measures by delay request-response, the others by peer delay. -/
inductive PtpProfile
  | delayRequest | peerToPeer | utility
deriving DecidableEq, Repr

/-- One uplink port, UP1–UP3 (R544), with its latency parameters B1–B3 (R140, in 1/65,536 ns). -/
structure PortCfg where
  /-- UP1 MODE; 2; R544; reset 0 (spec) -/
  mode : Nat := 0
  /-- UP2 USE bit 0 upstream; 1; R544; reset false (spec) -/
  useUp : Bool := false
  /-- UP2 USE bit 1 children; 1; R544; reset false (spec) -/
  useChildren : Bool := false
  /-- UP3 PREFER; 1; R544; reset false (spec) -/
  prefer : Bool := false
  /-- B1 TX_LAT; 2,000 ns in 1/65,536 ns; R140; reset 0 (spec) -/
  txLat : Nat := 0
  /-- B2 RX_LAT; 2,000 ns in 1/65,536 ns; R140; reset 0 (spec) -/
  rxLat : Nat := 0
  /-- B3 ASYM; ±100,000 ns in 1/65,536 ns; R140; reset 0 (spec) -/
  asym : Int := 0
deriving DecidableEq, Repr

/-- The archive settings of "Interval archive on raw NAND". -/
structure ArchCfg where
  /-- WIDTH; 6; R510; reset 16 (spec) -/
  width : Nat := 16
  /-- HOST_GIB; 11; R516; reset 0 (spec) -/
  hostGib : Nat := 0
  /-- OP_PCT; 5; R516; reset 7 (spec) -/
  opPct : Nat := 7
  /-- FLUSH_MC; 12; R524; reset 50 (spec) -/
  flushMc : Nat := 50
  /-- HIGH_WM; 5; R529; reset 6 (spec) -/
  highWm : Nat := 6
  /-- LOW_WM; 4; R529; reset 3 (spec) -/
  lowWm : Nat := 3
  /-- PATROL_DAYS; 7; R532; reset 30 (spec) -/
  patrolDays : Nat := 30
  /-- size of the version index; 10; R527; reset 128 (spec) -/
  versionMib : Nat := 128
  /-- VERSION_DAYS; 9; R527; reset 35 (spec) -/
  versionDays : Nat := 35
  /-- ARCH_AUTOFORMAT; 1; R542; reset true (spec) -/
  autoformat : Bool := true
  /-- the NAND part named in the base image; identifier; R496; reset 0 (DESIGN CHOICE 1) -/
  part : Nat := 0
  /-- a temperature feature address is named; 1; R533; reset false (DESIGN CHOICE 1) -/
  tempFeature : Bool := false
  /-- rated erase count; 32; R536; reset 3000 (DESIGN CHOICE 1) -/
  ratedPe : Nat := 3000
deriving DecidableEq, Repr

/-- The hardware blocks of the data path that push onto or take from Q0 to Q11 (R47). -/
inductive RingBlock
  | radioLanes | radioMacs | plcPath | macs | lookup | parser | radioTx | seamBridge | allBlocks | recorder
deriving DecidableEq, Repr

/-- An endpoint of a ring (R47); the default plan names whole clusters too. -/
inductive Endpoint
  | engine (n : Nat)
  | cluster (n : Nat)
  | engines
  | supervisor
  | block (b : RingBlock)
  | host (n : Nat)
deriving DecidableEq, Repr

/-- The endpoints of a ring (R47). -/
structure RingPlan where
  ring : Nat := 0
  producers : List Endpoint := []
  consumer : Endpoint := .supervisor
deriving DecidableEq, Repr

/-- The default ring plan of firmware 3.2, Q0 to Q11 (R47). -/
def defaultRingPlan : List RingPlan :=
  [⟨0, [.block .radioLanes], .block .radioMacs⟩, ⟨1, [.block .plcPath], .engine 12⟩, ⟨2, [.block .macs], .block .lookup⟩,
   ⟨3, [.block .parser], .cluster 0⟩, ⟨4, [.cluster 0], .cluster 1⟩, ⟨5, [.cluster 1], .engine 13⟩, ⟨6, [.cluster 1], .engine 14⟩,
   ⟨7, [.supervisor, .engine 15], .block .radioTx⟩, ⟨8, [.supervisor, .engine 15], .engine 12⟩, ⟨9, [.block .seamBridge], .cluster 0⟩,
   ⟨10, [.block .allBlocks], .block .recorder⟩, ⟨11, [.supervisor], .engines⟩]

/-- Every field of one whole configuration: a base section, with or without an overlay's entries over it (R822, R828). -/
structure BaseCfg where
  /-- role field; a valid image carries one; 2; R1; reset none (spec) -/
  role : Option Role := none
  /-- UNIT_ID; 12; R548; reset 0 (DESIGN CHOICE 1) -/
  unitId : Nat := 0
  /-- ALARM_PIN_MASK; 32; R632; reset 7 (spec) -/
  alarmPinMask : Word := 7
  /-- front end A powered; 1; R8; reset true (DESIGN CHOICE 1) -/
  feAPowered : Bool := true
  /-- front end B powered; 1; R8; reset true (DESIGN CHOICE 1) -/
  feBPowered : Bool := true
  /-- power-line port powered; 1; R8; reset true (DESIGN CHOICE 1) -/
  plcPowered : Bool := true
  /-- metrology front end powered; 1; R8; reset true (DESIGN CHOICE 1) -/
  metroPowered : Bool := true
  /-- work assigned to clusters 0–3; four entries; R35; reset [0, 1, 2, 3] (spec) -/
  clusters : List Nat := [0, 1, 2, 3]
  /-- endpoints of the device rings; Q0–Q11; R47; reset defaultRingPlan (spec) -/
  ringPlan : List RingPlan := defaultRingPlan
  /-- slot plan (slot, target port, initiator port); empty is the default plan; 64 slots × 4 targets; R42, R44; reset [] (spec) -/
  slotPlan : List (Nat × Nat × Nat) := []
  /-- HP1–HP3 of H0–H3; four hosts; R621, R622; reset [⟨1, 0, false⟩, ⟨5, 0, false⟩, ⟨7, 0, false⟩, ⟨2, 0, false⟩] (spec) -/
  hosts : List HostCfg := [⟨1, 0, false⟩, ⟨5, 0, false⟩, ⟨7, 0, false⟩, ⟨2, 0, false⟩]
  /-- host rings; up to 52 rings; R656, R50; reset [] (spec) -/
  rings : List RingCfg := []
  /-- step threshold; 10 µs-1 s; R123; reset 1000000 (spec) -/
  stepThresholdNs : Nat := 1000000
  /-- slew rate; 1-500; R123; reset 500 (spec) -/
  slewPpm : Nat := 500
  /-- source Y1 enabled; 1; R126; reset true (spec) -/
  srcPtp : Bool := true
  /-- source Y2 enabled (when a parent is named); 1; R126; reset true (spec) -/
  srcParent : Bool := true
  /-- source Y3 enabled; 1; R126; reset true (spec) -/
  srcHost : Bool := true
  /-- UTC_OFFSET, may be omitted; 16 signed; R129; reset none (spec) -/
  utcOffset : Option Int := none
  /-- standard local offset; signed minutes; R84; reset 0 (DESIGN CHOICE 1) -/
  localOffsetMin : Int := 0
  /-- daylight-saving spans: from UTC second, to UTC second, shift in minutes; list; R84; reset [] (DESIGN CHOICE 1) -/
  dst : List (Nat × Nat × Int) := []
  /-- domain number; 8; R130; reset 0 (spec) -/
  ptpDomain : Nat := 0
  /-- U1 clock type; 3; R130; reset .boundary (DESIGN CHOICE 1) -/
  ptpClock : PtpClock := .boundary
  /-- U3 profile, with its U4 delay mechanism; 2; R130; reset .delayRequest (DESIGN CHOICE 1) -/
  ptpProfile : PtpProfile := .delayRequest
  /-- nominal frequency, true 60 Hz; 1; R72, R77; reset false (spec) -/
  nominal60 : Bool := false
  /-- PQ1 DECLARED_V; 30; R234; reset 230000 (spec) -/
  declaredMv : Nat := 230000
  /-- PQ2 SAG_PCT; 10; R234; reset 900 (spec) -/
  sagPct : Nat := 900
  /-- PQ3 SWELL_PCT; 11; R234; reset 1100 (spec) -/
  swellPct : Nat := 1100
  /-- PQ4 INTR_PCT; 8; R234; reset 100 (spec) -/
  intrPct : Nat := 100
  /-- PQ5 HYST_PCT; 7; R234; reset 20 (spec) -/
  hystPct : Nat := 20
  /-- PQ6 MONITOR; 3; R234; reset 7 (spec) -/
  monitor : BitVec 3 := 7
  /-- UNIT per point, 1 where absent; 32 entries of 1, 10, 100, 1,000; R197; reset [] (spec) -/
  unit : List Nat := []
  /-- RATES_USED; 4; R202; reset 1 (spec) -/
  ratesUsed : Nat := 1
  /-- TIN_MODE; 2; R203; reset 0 (spec) -/
  tinMode : Nat := 0
  /-- TIN_MASK; 8; R208; reset 0xFF (spec) -/
  tinMask : BitVec 8 := 0xFF
  /-- TIN_INVERT; 8; R208; reset 0 (spec) -/
  tinInvert : BitVec 8 := 0
  /-- DEBOUNCE in mc; 8; R209; reset 5 (spec) -/
  debounce : Nat := 5
  /-- demand schemes 0–3; four schemes; R212, R881; reset [{ enable := true, pairs := [(3, 0), (3, 1), (7, 0), (7, 1), (11, 0), (11, 1), (15, 0), (15, 1), (19, 0), (19, 1), (23, 0), (23, 1), (27, 0), (27, 1), (31, 0), (31, 1)] }, {}, {}, {}] (spec) -/
  demand : List DemandCfg := [{ enable := true, pairs := [(3, 0), (3, 1), (7, 0), (7, 1), (11, 0), (11, 1), (15, 0), (15, 1), (19, 0), (19, 1), (23, 0), (23, 1), (27, 0), (27, 1), (31, 0), (31, 1)] }, {}, {}, {}]
  /-- SERIES_LEN; 6; R219; reset 15 (spec) -/
  seriesLen : Nat := 15
  /-- BILLING_DAY; 5; R222; reset 1 (spec) -/
  billingDay : Nat := 1
  /-- BILLING_TIME in minutes; 11; R222; reset 0 (spec) -/
  billingMin : Nat := 0
  /-- tariff calendar; structure; R833; reset none (DESIGN CHOICE 1) -/
  calendar : Option Calendar := none
  /-- pulse outputs; eight outputs; R250; reset [{}, {}, {}, {}, {}, {}, {}, {}] (spec) -/
  pulses : List PulseCfg := [{}, {}, {}, {}, {}, {}, {}, {}]
  /-- front end A; structure; R262; reset {} (spec) -/
  feA : FeCfg := {}
  /-- front end B; structure; R262; reset {} (spec) -/
  feB : FeCfg := {}
  /-- lanes that differ from the default; 64 lanes; R267; reset [] (spec) -/
  lanes : List (Nat × LaneCfg) := []
  /-- duty sub-bands; up to 8; R287; reset [] (spec) -/
  subBands : List SubBand := []
  /-- wake-up receiver; structure; R290; reset {} (spec) -/
  wur : WurCfg := {}
  /-- link profiles that differ from the default; 16 profiles; R301; reset [] (spec) -/
  linkProfiles : List (Nat × LinkProfile) := []
  /-- PAN_ID; 16; R882; reset 0xFFFF (spec) -/
  panId : Nat := 0xFFFF
  /-- EXT_ADDR; 64; R882; reset 0 (spec) -/
  extAddr : Nat := 0
  /-- power-line port; structure; R339; reset {} (spec) -/
  plc : PlcCfg := {}
  /-- ingest staging size; 256-2,048 MiB; R402; reset 1024 (spec) -/
  stagingMib : Nat := 1024
  /-- parse profiles that differ from the default; 64 profiles; R390; reset [] (spec) -/
  parse : List (Nat × ParseProfile) := []
  /-- VEE profiles that differ from the default; 32 profiles; R416; reset [] (spec) -/
  vee : List (Nat × VeeProfile) := []
  /-- OWN_VEE_PROFILE; 5; R415; reset 0 (spec) -/
  ownVee : Nat := 0
  /-- load shapes that differ from all ones; 64 shapes of 672 weights; R439; reset [] (spec) -/
  shapes : List (Nat × List Nat) := []
  /-- topology, balance and score settings; structure; R482; reset {} (spec) -/
  bal : BalCfg := {}
  /-- archive settings; structure; R510; reset {} (spec) -/
  arch : ArchCfg := {}
  /-- uplink ports; two ports; R544; reset [{ mode := 1, useUp := true, useChildren := true, prefer := true }, {}] (spec) -/
  ports : List PortCfg := [{ mode := 1, useUp := true, useChildren := true, prefer := true }, {}]
  /-- a parent DQ9100 is named; 1; R9, R547; reset false (DESIGN CHOICE 1) -/
  parent : Bool := false
  /-- a head end is named; 1; R547; reset false (DESIGN CHOICE 1) -/
  headEnd : Bool := false
  /-- BUNDLE_MAX_MS; 13; R568; reset 500 (spec) -/
  bundleMaxMs : Nat := 500
  /-- LAT_BUDGET_US; 32; R568; reset 4000000 (spec) -/
  latBudgetUs : Nat := 4000000
  /-- FLEET_MIB; 8; R583; reset 64 (spec) -/
  fleetMib : Nat := 64
  /-- FLEET_RING; 6; R584; reset 0 (DESIGN CHOICE 1) -/
  fleetRing : Nat := 0
  /-- multicast carriers for KIND 0–2; three kinds; R602; reset [{}, {}, {}] (spec) -/
  carriers : List Carrier := [{}, {}, {}]
  /-- pair settings; structure; R724; reset {} (spec) -/
  pair : PairCfg := {}
  /-- EVT_MODE; 1; R768; reset 0 (spec) -/
  evtMode : Nat := 0
  /-- event code overrides; up to 64; R763; reset [] (spec) -/
  evtCodes : List EvtCodeCfg := []
  /-- WARN_V; 28,000-45,000 mV; R787; reset 33000 (spec) -/
  warnMv : Nat := 33000
  /-- RECOVER_MS; 20-2,000; R795; reset 200 (spec) -/
  recoverMs : Nat := 200
  /-- PWR_DEFAULT_TOL_US; 20; R809; reset 0 (spec) -/
  defaultTolUs : Nat := 0
  /-- PWR_ALLOW; 3; R810; reset 1 (spec) -/
  allow : BitVec 3 := 1
  /-- OVL_AUTO; 8; R829; reset 0 (spec) -/
  ovlAuto : BitVec 8 := 0
  /-- ISLAND_MC; 18; R829; reset 15000 (spec) -/
  islandMc : Nat := 15000
  /-- CATCHUP_RECORDS; 24; R829; reset 100000 (spec) -/
  catchupRecords : Nat := 100000
deriving DecidableEq, Repr

/-- A whole configuration image as the schema of the release reads it (R821). Overlay n is held as the whole configuration that its entries give over the base. -/
structure CfgImage where
  /-- CV1: MAGIC, VERSION and lengths are right; 1; R821, R824; reset true (DESIGN CHOICE 1) -/
  magicOk : Bool := true
  /-- CV2: the signature verifies; 1; R824; reset true (DESIGN CHOICE 1) -/
  sigOk : Bool := true
  /-- CH3 ROOT; 8; R821; reset 0 (DESIGN CHOICE 1) -/
  root : Nat := 0
  /-- CH5 HW_TYPE; 32; R821; reset 0x9100 (spec) -/
  hwType : Nat := 0x9100
  /-- CH6 CFG_VERSION; 32; R821; reset 0 (DESIGN CHOICE 1) -/
  version : Nat := 0
  /-- CH7 ID_HASH, 0 any unit; 256; R821; reset 0 (DESIGN CHOICE 1) -/
  idHash : Nat := 0
  /-- CV5: every FIELD known, every LEN and value within the schema; 1; R824; reset true (DESIGN CHOICE 1) -/
  schemaOk : Bool := true
  /-- CV6: every overlay entry has OVERLAY_OK set; 1; R824; reset true (DESIGN CHOICE 1) -/
  overlayOk : Bool := true
  /-- an overlay names the role field; 1; R3; reset false (DESIGN CHOICE 1) -/
  overlayRole : Bool := false
  /-- the base section; structure; R821; reset {} (DESIGN CHOICE 1) -/
  base : BaseCfg := {}
  /-- overlay sections present, as whole configurations; up to 8; R821, R828; reset [] (DESIGN CHOICE 1) -/
  overlays : List (Nat × BaseCfg) := []
deriving DecidableEq, Repr

/-- A CFG_APPLY that answered PENDING (R826, R837). -/
structure CfgJob where
  /-- its host; 2; R837; reset 0 (DESIGN CHOICE 1) -/
  host : Nat := 0
  /-- its command; command; R837; reset {} (DESIGN CHOICE 1) -/
  taken : Taken := {}
  /-- effective key; 64; R827, R837; reset 0 (DESIGN CHOICE 1) -/
  key : Nat := 0
  /-- the image that is being moved from STAGED; image; R826; reset {} (DESIGN CHOICE 1) -/
  image : CfgImage := {}
deriving DecidableEq, Repr

/-- The configuration store and the CFG manager ("Configuration images and limited-count settings"). -/
structure CfgSt where
  /-- slot IN_FORCE; 512 KiB slot; R825; reset none (DESIGN CHOICE 6) -/
  inForce : Option CfgImage := none
  /-- slot PREVIOUS; 512 KiB slot; R825; reset none (DESIGN CHOICE 6) -/
  previous : Option CfgImage := none
  /-- slot STAGED, the bytes loaded; up to 524,288 bytes; R825, R837; reset [] (DESIGN CHOICE 1) -/
  staged : List Byte := []
  /-- host that began the staging; host; R690, R837; reset none (DESIGN CHOICE 1) -/
  stagedOwner : Option Nat := none
  /-- an apply in progress; job; R826, R837; reset none (DESIGN CHOICE 1) -/
  applying : Option CfgJob := none
  /-- the image in force since the last start or apply; image; R825, R827; reset none (DESIGN CHOICE 1) -/
  running : Option CfgImage := none
  /-- the configuration in force: the running base with the overlay in force over it; structure; R828; reset {} (DESIGN CHOICE 1) -/
  eff : BaseCfg := {}
  /-- the active copies of the control words and settings; structure; R53, R54; reset {} (spec) -/
  act : BaseCfg := {}
  /-- the values that the START_ONLY fields took at the last start; structure; R827; reset {} (DESIGN CHOICE 1) -/
  startCfg : BaseCfg := {}
  /-- highest CFG_VERSION applied, in MRAM; 32; R824; reset 0 (DESIGN CHOICE 1) -/
  version : Nat := 0
  /-- CF4 PENDING_START; 1; R827, R835; reset false (spec) -/
  pendingStart : Bool := false
  /-- CF1 SELECTED, in MRAM; 3; R835; reset 0 (spec) -/
  selected : Nat := 0
  /-- CF2 IN_FORCE, in MRAM; 3; R828, R835; reset 0 (spec) -/
  overlay : Nat := 0
  /-- CF3 AUTO; 1; R835; reset false (spec) -/
  autoOn : Bool := false
  /-- AT2 Islanded active; 1; R829; reset false (DESIGN CHOICE 1) -/
  trigIslanded : Bool := false
  /-- AT3 Catch-up active; 1; R829; reset false (DESIGN CHOICE 1) -/
  trigCatchup : Bool := false
  /-- cycle from which ISLAND_MC counts; 48; R829; reset 0 (DESIGN CHOICE 1) -/
  islandFrom : Nat := 0
  /-- key of the last overlay change; 64; R837; reset 0 (DESIGN CHOICE 1) -/
  lastChangeKey : Nat := 0
  /-- SUPERSEDED; 32; R831; reset 0 (DESIGN CHOICE 1) -/
  superseded : Nat := 0
  /-- commits counted as superseded; 32; R56; reset 0 (DESIGN CHOICE 1) -/
  ctlSuperseded : Nat := 0
deriving DecidableEq, Repr

end Sys2Proof.Machine
end

