-- ==== Sys2Proof/Machine/StMet.lean ====
section
/-! DEFINITION. The line side's metrology: channels, calibration, DSP cycle, registers, tariff inputs, voltage events, metrological log ("Metrology front end", "Energy registers, tariffs and demand", "Sag, swell, interruption and pulse outputs"). -/

namespace Sys2Proof.Machine

/-- The calibration record of one channel, C1–C14 (R159). -/
structure CalRec where
  /-- C1 SENSOR; 3 for CH0–CH3; 8; R159; reset 1 (spec) -/
  sensor : Nat := 1
  /-- C2 CFLAGS bit 0; 1; R159; reset true (spec) -/
  highPass : Bool := true
  /-- C2 CFLAGS bit 1; 1; R159; reset false (spec) -/
  invert : Bool := false
  /-- C3 PHASE_DELAY; 16 signed; R158, R159; reset 0 (spec) -/
  phaseDelay : Int := 0
  /-- C4 SCALE; 32; R159; reset 1000000 (spec) -/
  scale : Nat := 1000000
  /-- C5 GAIN_RMS, in 2⁻²²; 24; R159; reset 0x400000 (spec) -/
  gainRms : Nat := 0x400000
  /-- C6 OFFSET_RMS; 32; R159; reset 0 (spec) -/
  offsetRms : Nat := 0
  /-- C7 GAIN_P; 24; R159; reset 0x400000 (spec) -/
  gainP : Nat := 0x400000
  /-- C8 OFFSET_P in µW; 32 signed; R159; reset 0 (spec) -/
  offsetP : Int := 0
  /-- C9 GAIN_Q; 24; R159; reset 0x400000 (spec) -/
  gainQ : Nat := 0x400000
  /-- C10 OFFSET_Q in µvar; 32 signed; R159; reset 0 (spec) -/
  offsetQ : Int := 0
  /-- C11 GAIN_S; 24; R159; reset 0x400000 (spec) -/
  gainS : Nat := 0x400000
  /-- C12 GAIN_H; 24; R159; reset 0x400000 (spec) -/
  gainH : Nat := 0x400000
  /-- C13 SESSION; 16; R159; reset 0 (spec) -/
  session : Nat := 0
  /-- C14 STEP_MASK; 16; R159; reset 0 (spec) -/
  stepMask : Nat := 0
deriving DecidableEq, Repr

/-- The calibration image (R161). -/
structure CalImage where
  /-- the records of CH0–CH35; 36 records; R159, R161; reset List.replicate 4 ({ sensor := 3 } : CalRec) ++ List.replicate 32 ({} : CalRec) (spec) -/
  recs : List CalRec := List.replicate 4 ({ sensor := 3 } : CalRec) ++ List.replicate 32 ({} : CalRec)
  /-- nominal frequency, true 60 Hz; 1; R161; reset false (spec) -/
  nominal60 : Bool := false
  /-- session count; 16; R161, R180; reset 0 (spec) -/
  sessions : Nat := 0
  /-- sealed in lifecycle Debug; 1; R176; reset false (spec) -/
  madeInDebug : Bool := false
  /-- a session has committed it: calibration state Calibrated instead of Uncalibrated; 1; R161, R180; reset false (spec) -/
  calibrated : Bool := false
  /-- its 16-byte seal; 128; R161, R169; reset 0 (DESIGN CHOICE 8) -/
  sealTag : Nat := 0
deriving DecidableEq, Repr

/-- The step of an open session that the DSP measures (R182). -/
structure CalStepSt where
  /-- host of the CAL_STEP; 2; R182; reset 0 (DESIGN CHOICE 1) -/
  host : Nat := 0
  /-- the command that answered PENDING; command; R182; reset {} (DESIGN CHOICE 1) -/
  taken : Taken := {}
  /-- P1 CHANNEL; 8; R182; reset 0 (DESIGN CHOICE 1) -/
  channel : Nat := 0
  /-- P2 STEP; 8; R182; reset 0 (DESIGN CHOICE 1) -/
  step : Nat := 0
  /-- P3 CYCLES; 16; R182; reset 0 (DESIGN CHOICE 1) -/
  cycles : Nat := 0
  /-- P4 REF_VALUE; 64 signed; R182; reset 0 (DESIGN CHOICE 1) -/
  refValue : Int := 0
  /-- P5 REF_ANGLE; 32 signed; R182; reset 0 (DESIGN CHOICE 1) -/
  refAngle : Int := 0
  /-- P6 SENSOR; 8; R182; reset 0 (DESIGN CHOICE 1) -/
  sensor : Nat := 0
  /-- P7 CFLAGS; 8; R182; reset 0 (DESIGN CHOICE 1) -/
  cflags : Nat := 0
  /-- P9 SCALE; 32; R182; reset 0 (DESIGN CHOICE 1) -/
  scale : Nat := 0
  /-- DSP cycles since acceptance; 16; R182; reset 0 (DESIGN CHOICE 1) -/
  done : Nat := 0
  /-- values of the measured cycles, in 2⁻³² of the step's unit; up to 1,000; R182; reset [] (DESIGN CHOICE 1) -/
  vals : List Int := []
  /-- sum of their frequencies; mHz; R182; reset 0 (DESIGN CHOICE 1) -/
  freqSum : Nat := 0
deriving DecidableEq, Repr

/-- An open calibration session (R174–R185). -/
structure CalSession where
  /-- SESSION; 16; R181; reset 0 (DESIGN CHOICE 1) -/
  number : Nat := 0
  /-- the host that opened it; 2; R177; reset 0 (DESIGN CHOICE 1) -/
  host : Nat := 0
  /-- opened in lifecycle Debug; 1; R176; reset false (DESIGN CHOICE 1) -/
  debug : Bool := false
  /-- the image with the pending results of its steps; image; R183; reset {} (DESIGN CHOICE 1) -/
  pending : CalImage := {}
  /-- the step being measured; step; R182; reset none (DESIGN CHOICE 1) -/
  step : Option CalStepSt := none
  /-- line-side time of the last step; ns; R178; reset 0 (DESIGN CHOICE 1) -/
  lastStepNs : Nat := 0
deriving DecidableEq, Repr

/-- A complex value, as its two parts. -/
structure Phasor where
  /-- real part; 2⁻³² of full scale; R163; reset 0 (DESIGN CHOICE 7) -/
  re : Int := 0
  /-- imaginary part; 2⁻³² of full scale; R163; reset 0 (DESIGN CHOICE 7) -/
  im : Int := 0
deriving DecidableEq, Repr

/-- The 256 samples of one cycle of a channel, as their spectrum, in 2⁻³² of the full scale of 500 mV (R149). -/
structure ChanIn where
  /-- mean of the samples; 2⁻³² of full scale; R151; reset 0 (DESIGN CHOICE 7) -/
  dc : Int := 0
  /-- RMS phasors of orders 1 to 128, from the start of the cycle; 128 orders; R163; reset [] (DESIGN CHOICE 7) -/
  spec : List Phasor := []
deriving DecidableEq, Repr

/-- What the inputs give in one DSP cycle, before the integrator, the high-pass filter, the phase delay and every correction: operands of DSP_CYCLE_END (log entry 7). -/
structure CycleIn where
  /-- the channels at the decimator's output; 36 channels; R148, R156; reset [] (DESIGN CHOICE 7) -/
  chans : List ChanIn := []
  /-- a fundamental crossing of the reference channel ends the cycle; 1; R154, R155; reset true (DESIGN CHOICE 7) -/
  crossing : Bool := true
  /-- delay from that crossing to the start of the frame that carries its stamp; 24.576 MHz periods; R26, R156; reset 0 (DESIGN CHOICE 7) -/
  age : Nat := 0
  /-- channels with an overloaded sample; 36; R152; reset 0 (DESIGN CHOICE 7) -/
  overload : BitVec 36 := 0
  /-- the levels of TIN0–TIN7 that its samples found, the latest last; 8 each; R209, R211; reset [0] (DESIGN CHOICE 7) -/
  tin : List (BitVec 8) := [0]
deriving DecidableEq, Repr

/-- The values of one cycle after the signal chain, before gains and offsets (Y1–Y4). -/
structure CycleVals where
  /-- length of the cycle by the line-side crystal; ns; R188; reset 20000000 (DESIGN CHOICE 1) -/
  durNs : Nat := 20000000
  /-- frequency at which it was resampled; mHz; R155; reset 50000 (DESIGN CHOICE 1) -/
  freqMhz : Nat := 50000
  /-- mean(x²) per channel, of full scale squared; 36 of 2⁻⁶⁴; R158; reset [] (DESIGN CHOICE 1) -/
  ms : List Nat := []
  /-- mean(v·i) per phase current channel; 32 of 2⁻⁶⁴; R158; reset [] (DESIGN CHOICE 1) -/
  vi : List Int := []
  /-- mean(v′·i) per phase current channel; 32 of 2⁻⁶⁴; R158; reset [] (DESIGN CHOICE 1) -/
  vqi : List Int := []
deriving DecidableEq, Repr

/-- One sealed copy of a register in the Lining (R193). -/
structure RegCopy where
  /-- number of the write, by which the newer copy is known; 32; R193; reset 0 (DESIGN CHOICE 1) -/
  count : Nat := 0
  /-- the register, in 2⁻³² units; 96; R191, R193; reset 0 (DESIGN CHOICE 1) -/
  value : Nat := 0
  /-- its seal; 128; R169; reset 0 (DESIGN CHOICE 8) -/
  tag : Nat := 0
deriving DecidableEq, Repr

/-- One sealed copy of the rate selector in the Lining (R195, R228). -/
structure RateCopy where
  /-- number of the write; 32; R193; reset 0 (DESIGN CHOICE 1) -/
  count : Nat := 0
  /-- rate in force; 4; R228; reset 1 (DESIGN CHOICE 1) -/
  rate : Nat := 1
  /-- pending rate and its cycle; 4, 48; R228; reset none (DESIGN CHOICE 1) -/
  pending : Option (Nat × Nat) := none
  /-- its seal; 128; R169; reset 0 (DESIGN CHOICE 8) -/
  tag : Nat := 0
deriving DecidableEq, Repr

/-- A metrology result set (R156, R194). -/
structure ResultSet where
  /-- mains cycle number last echoed; 48; R156; reset 0 (DESIGN CHOICE 1) -/
  cycleTag : Nat := 0
  /-- the DSP's cycle count; 64; R156; reset 0 (DESIGN CHOICE 1) -/
  dspCycle : Nat := 0
  /-- compensated stamp of the cycle's start, as rate-corrected time; 2⁻³² ns; R156; reset 0 (DESIGN CHOICE 1) -/
  startRc : Nat := 0
  /-- rate-corrected time of the cycle's end; 2⁻³² ns; R201; reset 0 (DESIGN CHOICE 1) -/
  endRc : Nat := 0
  /-- exposed values of the registers after the cycle: the 256 of rate 0, then those of rates 1–8; 768 of 64 bits; R194, R223; reset [] (DESIGN CHOICE 1) -/
  cum : List Nat := []
  /-- rate the cycle accrued to; 4; R194; reset 1 (DESIGN CHOICE 1) -/
  rate : Nat := 1
  /-- points that accrued to code 0; 32; R194, R220; reset 0 (DESIGN CHOICE 1) -/
  imp : BitVec 32 := 0
  /-- points that accrued to code 1; 32; R194, R220; reset 0 (DESIGN CHOICE 1) -/
  exp : BitVec 32 := 0
  /-- partial; 1; R195; reset false (DESIGN CHOICE 1) -/
  partialSet : Bool := false
  /-- unsynchronised or off-range; 1; R155; reset false (DESIGN CHOICE 1) -/
  unsync : Bool := false
  /-- overloaded channels; 36; R152; reset 0 (DESIGN CHOICE 1) -/
  overload : BitVec 36 := 0
  /-- uncalibrated; 1; R172; reset false (DESIGN CHOICE 1) -/
  uncal : Bool := false
  /-- a register's lost flag is set; 1; R193; reset false (DESIGN CHOICE 1) -/
  lost : Bool := false
  /-- cycle RMS per channel; 36; R148, R456; reset [] (DESIGN CHOICE 1) -/
  rms : List Nat := []
  /-- fundamental angle per channel, behind CH0, in pt; 36; R148; reset [] (DESIGN CHOICE 1) -/
  angles : List Nat := []
  /-- active power per point, mW; 32; R148; reset [] (DESIGN CHOICE 1) -/
  p : List Int := []
  /-- reactive power per point, mvar; 32; R148; reset [] (DESIGN CHOICE 1) -/
  q : List Int := []
  /-- apparent power per point, mVA; 32; R148; reset [] (DESIGN CHOICE 1) -/
  va : List Nat := []
  /-- tracked frequency; mHz; R156; reset 50000 (DESIGN CHOICE 1) -/
  freqMhz : Nat := 50000
deriving DecidableEq, Repr

/-- An entry of the metrological log (R774). -/
structure MlogEntry where
  /-- ML1 LSEQ; 32; R774; reset 0 (DESIGN CHOICE 1) -/
  lseq : Nat := 0
  /-- ML2 LINE_STARTS; 32; R774; reset 0 (DESIGN CHOICE 1) -/
  starts : Nat := 0
  /-- ML3 LINE_OP_S; 32; R774; reset 0 (DESIGN CHOICE 1) -/
  opS : Nat := 0
  /-- ML4 KIND; 16; R774; reset 1 (DESIGN CHOICE 1) -/
  kind : Nat := 1
  /-- ML5 ARG; 16; R774; reset 0 (DESIGN CHOICE 1) -/
  arg : Nat := 0
  /-- ML6 DATA; 16 bytes; R774; reset [] (DESIGN CHOICE 1) -/
  data : List Byte := []
deriving DecidableEq, Repr

/-- An open voltage event of one phase or of the polyphase detector (R238–R241). -/
structure PqOpen where
  /-- line-side instant of the start update; ns; R240; reset 0 (DESIGN CHOICE 1) -/
  startNs : Nat := 0
  /-- updates since the start update; 32; R240; reset 0 (DESIGN CHOICE 1) -/
  updates : Nat := 0
  /-- mains cycle that the report names; 48; R243; reset 0 (DESIGN CHOICE 1) -/
  tagCycle : Nat := 0
  /-- start update at phase 32,768; 1; R243; reset false (DESIGN CHOICE 1) -/
  tagHalf : Bool := false
  /-- lowest or highest update value so far; mV; R240; reset 0 (DESIGN CHOICE 1) -/
  extreme : Nat := 0
  /-- qualified as an interruption; 1; R238; reset false (DESIGN CHOICE 1) -/
  intr : Bool := false
  /-- included an unsynchronised or off-range cycle; 1; R241; reset false (DESIGN CHOICE 1) -/
  unsync : Bool := false
  /-- its first update already lay beyond a threshold; 1; R244; reset false (DESIGN CHOICE 1) -/
  startup : Bool := false
deriving DecidableEq, Repr

/-- A report of a voltage event's start or end (R242). -/
structure PqReport where
  /-- an end report; 1; R242; reset false (DESIGN CHOICE 1) -/
  ending : Bool := false
  /-- PR1: 0 sag, 1 swell, 2 interruption; 2; R245; reset 0 (DESIGN CHOICE 1) -/
  kind : Nat := 0
  /-- PR3: 0 L1, 1 L2, 2 L3, 3 polyphase; 2; R245; reset 0 (DESIGN CHOICE 1) -/
  index : Nat := 0
  /-- cycle of the start update; 48; R243; reset 0 (DESIGN CHOICE 1) -/
  tagCycle : Nat := 0
  /-- phase 32,768; 1; R243; reset false (DESIGN CHOICE 1) -/
  tagHalf : Bool := false
  /-- duration in ms; 64; R245; reset 0 (DESIGN CHOICE 1) -/
  ms : Nat := 0
  /-- duration in half-cycles; 32; R245; reset 0 (DESIGN CHOICE 1) -/
  halves : Nat := 0
  /-- extreme so far; mV; R245; reset 0 (DESIGN CHOICE 1) -/
  extreme : Nat := 0
  /-- QB0–QB3: unsynchronised, truncated, started at start-up, reconfigured; 4; R246; reset 0 (DESIGN CHOICE 1) -/
  quality : Nat := 0
deriving DecidableEq, Repr

/-- The parameters PQ1–PQ6 in force at the DSP (R234). -/
structure PqParams where
  /-- PQ1 DECLARED_V; 30; R234; reset 230000 (spec) -/
  declaredMv : Nat := 230000
  /-- PQ2 SAG_PCT; 10; R234; reset 900 (spec) -/
  sagPct : Nat := 900
  /-- PQ3 SWELL_PCT; 11; R234; reset 1100 (spec) -/
  swellPct : Nat := 1100
  /-- PQ4 INTR_PCT; 8; R234; reset 100 (spec) -/
  intrPct : Nat := 100
  /-- PQ5 HYST_PCT; 7; R234; reset 20 (spec) -/
  hystPct : Nat := 20
  /-- PQ6 MONITOR; 3; R234; reset 7 (spec) -/
  monitor : BitVec 3 := 7
deriving DecidableEq, Repr

/-- The non-legal metrology settings in force at the DSP (R51, R207, R234). -/
structure MetroCtl where
  /-- PQ1–PQ6; structure; R234; reset {} (DESIGN CHOICE 1) -/
  pq : PqParams := {}
  /-- TIN_MODE; 2; R203; reset 0 (spec) -/
  tinMode : Nat := 0
  /-- TIN_MASK; 8; R208; reset 0xFF (spec) -/
  tinMask : BitVec 8 := 0xFF
  /-- TIN_INVERT; 8; R208; reset 0 (spec) -/
  tinInvert : BitVec 8 := 0
  /-- DEBOUNCE in mc; 8; R209; reset 5 (spec) -/
  debounce : Nat := 5
  /-- RATES_USED; 4; R202; reset 1 (spec) -/
  ratesUsed : Nat := 1
deriving DecidableEq, Repr

/-- One detector: L1, L2, L3 or polyphase (R238, R239). -/
structure PqPhase where
  /-- open sag; event; R238; reset none (spec) -/
  sag : Option PqOpen := none
  /-- open swell; event; R238; reset none (spec) -/
  swell : Option PqOpen := none
  /-- an update has been seen since line-side start or a reconfiguration; 1; R244; reset false (spec) -/
  seen : Bool := false
deriving DecidableEq, Repr

/-- The latest harmonic window (R163–R167). -/
structure HarmSt where
  /-- START_CYCLE; 48; R167; reset 0 (DESIGN CHOICE 1) -/
  startCycle : Nat := 0
  /-- FLAGS bits 0 unaligned, 1 unsynchronised or off-range; 16; R167; reset 0 (DESIGN CHOICE 1) -/
  flags : Nat := 0
  /-- channels overloaded in the window; 36; R167; reset 0 (DESIGN CHOICE 1) -/
  overload : BitVec 36 := 0
  /-- FREQ_MHZ; 32; R167; reset 0 (DESIGN CHOICE 1) -/
  freqMhz : Nat := 0
  /-- MAG per channel, corrected; 36 × 127; R167; reset [] (DESIGN CHOICE 1) -/
  mags : List (List Nat) := []
deriving DecidableEq, Repr

/-- A harmonic window in progress, or ended and not yet evaluated (R163–R167). -/
structure HarmWin where
  /-- mains cycle of its start; 48; R164; reset 0 (DESIGN CHOICE 1) -/
  start : Nat := 0
  /-- cycles in it; 4; R163; reset 0 (DESIGN CHOICE 1) -/
  cycles : Nat := 0
  /-- bit 0 unaligned, bit 1 unsynchronised or off-range; 2; R164, R166; reset 0 (DESIGN CHOICE 1) -/
  flags : Nat := 0
  /-- channels overloaded in it; 36; R167; reset 0 (DESIGN CHOICE 1) -/
  overload : BitVec 36 := 0
  /-- sum of its cycles' frequencies; mHz; R167; reset 0 (DESIGN CHOICE 1) -/
  freqSum : Nat := 0
  /-- sums of its cycles' phasors per channel; 36 × 128; R163; reset [] (DESIGN CHOICE 1) -/
  sums : List (List Phasor) := []
deriving DecidableEq, Repr

/-- The line side and its images in the Lining MRAM. -/
structure MetSt where
  /-- line-side operating time since manufacture; ns; R774; reset 0 (DESIGN CHOICE 1) -/
  lineNs : Nat := 0
  /-- line-side starts since manufacture; 32; R774; reset 0 (DESIGN CHOICE 1) -/
  lineStarts : Nat := 0
  /-- line-side operating time at the last line-side start; ns; R172; reset 0 (DESIGN CHOICE 1) -/
  startNs : Nat := 0
  /-- S1 ROM_ID, fixed in mask ROM; 32; R180; reset 0 (DESIGN CHOICE 1) -/
  romId : Nat := 0
  /-- S2 ROM_CRC, fixed in mask ROM; 32; R180; reset 0 (DESIGN CHOICE 1) -/
  romCrc : Nat := 0
  /-- calibration image stored in the Lining MRAM; image; R161, R170; reset some {} (spec) -/
  liningCal : Option CalImage := some {}
  /-- image that the DSP runs under; image; R171, R172; reset {} (spec) -/
  cal : CalImage := {}
  /-- committed image that takes effect at the next DSP cycle; image; R179; reset none (spec) -/
  calNext : Option CalImage := none
  /-- a calibration image has been verified since line-side start; 1; R171; reset false (spec) -/
  imageValid : Bool := false
  /-- calibration state Fallback; 1; R172; reset false (spec) -/
  fallback : Bool := false
  /-- cycles accumulated before the image arrived, with the rate of each; cycles; R171; reset [] (DESIGN CHOICE 1) -/
  span : List (CycleVals × Nat) := []
  /-- the registers without that span; 768 of 96 bits; R171; reset List.replicate 768 0 (DESIGN CHOICE 1) -/
  spanBase : List Nat := List.replicate 768 0
  /-- an image arrived whose seal failed; 1; R172; reset false (DESIGN CHOICE 1) -/
  sealBad : Bool := false
  /-- S6 SESSIONS, sessions opened in the unit's life; 16; R180; reset 0 (spec) -/
  sessions : Nat := 0
  /-- calibration reopen fuses left; 5; R174, R834; reset 16 (spec) -/
  reopens : Nat := 16
  /-- open calibration session; session; R174; reset none (spec) -/
  session : Option CalSession := none
  /-- level of CAL_EN_N, pulled up internally; 1; R174; reset true (spec) -/
  calEnHigh : Bool := true
  /-- line-side seal key in fuses; 128; R169; reset 0 (DESIGN CHOICE 8) -/
  sealKey : Nat := 0
  /-- reference channel of the frequency tracker; 2; R154; reset none (DESIGN CHOICE 1) -/
  ref : Option Nat := none
  /-- frequency last tracked since line-side start; mHz; R155; reset none (DESIGN CHOICE 1) -/
  lastFreq : Option Nat := none
  /-- line-side time at which the cycle in progress began; ns; R156; reset 0 (DESIGN CHOICE 1) -/
  boundNs : Nat := 0
  /-- compensated stamp of that beginning; 2⁻³² ns; R26, R156; reset 0 (DESIGN CHOICE 1) -/
  boundRc : Nat := 0
  /-- mains cycle number last echoed in position 0; 48; R24, R156; reset 0 (DESIGN CHOICE 1) -/
  echoCycle : Nat := 0
  /-- phase last echoed; 16; R24; reset 0 (DESIGN CHOICE 1) -/
  echoPhase : Nat := 0
  /-- line-side time at which that echo was true; ns; R24; reset 0 (DESIGN CHOICE 1) -/
  echoNs : Nat := 0
  /-- position 0 echoes arrive; 1; R164; reset false (DESIGN CHOICE 1) -/
  echoes : Bool := false
  /-- the DSP's cycle count; 64; R156; reset 0 (DESIGN CHOICE 1) -/
  dspCycle : Nat := 0
  /-- the last cycle was unsynchronised; 1; R155, R180; reset false (DESIGN CHOICE 1) -/
  unsync : Bool := false
  /-- the last cycle was off-range; 1; R155, R180; reset false (DESIGN CHOICE 1) -/
  offRange : Bool := false
  /-- S9 OVERLOAD; 36; R180; reset 0 (DESIGN CHOICE 1) -/
  overload : BitVec 36 := 0
  /-- channels in a run of overloaded cycles: channel, cycles in the run, DSP cycle of its start; per channel; R152; reset [] (DESIGN CHOICE 1) -/
  overRun : List (Nat × Nat × Nat) := []
  /-- energy registers in 2⁻³² units: 8 × point + code for rate 0, then 256 + 64 × (rate − 1) + 8 × feeder + code; 768 of 96 bits; R191, R192; reset List.replicate 768 0 (spec) -/
  regs : List Nat := List.replicate 768 0
  /-- two alternating sealed copies of each register in the Lining MRAM; 768 pairs; R193; reset List.replicate 768 ({}, {}) (DESIGN CHOICE 1) -/
  lining : List (RegCopy × RegCopy) := List.replicate 768 ({}, {})
  /-- two alternating sealed copies of the rate selector in the Lining MRAM; pair; R228; reset ({}, {}) (DESIGN CHOICE 1) -/
  rateImage : RateCopy × RateCopy := ({}, {})
  /-- number of the DSP's latest write of a copy; 32; R193; reset 0 (DESIGN CHOICE 1) -/
  imageCount : Nat := 0
  /-- the registers as last refreshed; 768 of 96 bits; R195; reset List.replicate 768 0 (DESIGN CHOICE 1) -/
  refreshed : List Nat := List.replicate 768 0
  /-- the stored register images have reached the DSP since line-side start; 1; R170, R193; reset true (DESIGN CHOICE 1) -/
  regsLoaded : Bool := true
  /-- registers whose lost flag is set; register numbers; R193; reset [] (spec) -/
  lostFlags : List Nat := []
  /-- rate in force at the DSP; 4; R203, R211; reset 1 (spec) -/
  rate : Nat := 1
  /-- last rate that the logic side committed; 4; R207; reset 1 (spec) -/
  committed : Nat := 1
  /-- rate committed for a later cycle, and that cycle; 4, 48; R205, R211; reset none (spec) -/
  pendingRate : Option (Nat × Nat) := none
  /-- TA7 TIN_RAW; 8; R211; reset 0 (spec) -/
  tinRaw : BitVec 8 := 0
  /-- TA8 TIN_STABLE; 8; R211; reset 0 (spec) -/
  tinStable : BitVec 8 := 0
  /-- levels that the DSP found last; 8; R209; reset 0 (DESIGN CHOICE 1) -/
  tinLast : BitVec 8 := 0
  /-- cycles for which each input has kept its level; 8 each; R211; reset [0, 0, 0, 0, 0, 0, 0, 0] (DESIGN CHOICE 1) -/
  tinHeld : List Nat := [0, 0, 0, 0, 0, 0, 0, 0]
  /-- selection that the latest cycles decode to; 0 no rate, 9 invalid; selection; R209; reset none (DESIGN CHOICE 1) -/
  tinSel : Option Nat := none
  /-- consecutive stable cycles of that selection; 8; R209; reset 0 (DESIGN CHOICE 1) -/
  tinCount : Nat := 0
  /-- rate that the inputs give; none when they give no valid rate; 4; R207; reset none (DESIGN CHOICE 1) -/
  tinRate : Option Nat := none
  /-- selection that has taken over; selection; R209; reset none (DESIGN CHOICE 1) -/
  tinTaken : Option Nat := none
  /-- the selection in force is invalid; 1; R210; reset false (DESIGN CHOICE 1) -/
  tinInvalid : Bool := false
  /-- rate kept when the selection became invalid, until a later commit; 4; R210; reset none (DESIGN CHOICE 1) -/
  tinKeep : Option Nat := none
  /-- result sets on their way to the logic side; sets; R156; reset [] (DESIGN CHOICE 1) -/
  results : List ResultSet := []
  /-- a result set was lost since the last one that was sent; 1; R194; reset false (DESIGN CHOICE 1) -/
  setsLost : Bool := false
  /-- L1, L2, L3 and polyphase; four detectors; R238, R239; reset [{}, {}, {}, {}] (spec) -/
  pq : List PqPhase := [{}, {}, {}, {}]
  /-- non-legal settings in force at the DSP; structure; R51, R234; reset {} (spec) -/
  ctl : MetroCtl := {}
  /-- settings received, in force from the next cycle boundary; structure; R234; reset none (DESIGN CHOICE 1) -/
  ctlNext : Option MetroCtl := none
  /-- reports on their way or held; up to 32 held; R242; reset [] (spec) -/
  pqQueue : List PqReport := []
  /-- reports discarded, passed on when the channel returns; 32; R242; reset 0 (spec) -/
  pqLost : Nat := 0
  /-- PS7 EVENTS; 16; R248; reset 0 (spec) -/
  pqEvents : Nat := 0
  /-- PS5 UNSYNC; 1; R248; reset false (spec) -/
  pqUnsync : Bool := false
  /-- latest harmonic window; window; R163; reset {} (DESIGN CHOICE 1) -/
  harm : HarmSt := {}
  /-- harmonic window in progress; window; R163; reset {} (DESIGN CHOICE 1) -/
  harmWin : HarmWin := {}
  /-- window that has ended and is being evaluated; window; R163; reset none (DESIGN CHOICE 1) -/
  harmEnded : Option HarmWin := none
  /-- metrological log, oldest first, in the Lining MRAM; 4,096 entries; R774; reset [] (spec) -/
  mlog : List MlogEntry := []
  /-- seals of the log's blocks of 64 entries; 64 of 128 bits; R774, R784; reset [] (DESIGN CHOICE 8) -/
  mlogTags : List (Nat × Nat) := []
  /-- next LSEQ; 32; R774; reset 0 (spec) -/
  mlogSeq : Nat := 0
  /-- sealed NOT_LOGGED counts per kind; 32 per kind; R775; reset [] (spec) -/
  notLogged : List (Nat × Nat) := []
  /-- kinds no longer written until the next start; kinds; R775; reset [] (spec) -/
  mlogStopped : List Nat := []
deriving DecidableEq, Repr

end Sys2Proof.Machine
end

