-- ==== Sys2Proof/Machine/StBal.lean ====
section
/-! DEFINITION. Topology, energy balance and loss scores ("Topology, energy balance and loss detection"). -/

namespace Sys2Proof.Machine

/-- A daily summary, BS1–BS15 (R476). -/
structure BalSummary where
  /-- BS1 DAY_TAI; 64; R476; reset 0 (spec) -/
  dayTai : Nat := 0
  /-- BS2 FEEDER; 8; R476; reset 0xFF (spec) -/
  feeder : Nat := 0xFF
  /-- BS3 PHASE; 8; R476; reset 0xFF (spec) -/
  phase : Nat := 0xFF
  /-- BS4 FLAGS; 16; R476; reset 0 (spec) -/
  flags : Nat := 0
  /-- BS5 CHILD; 16; R476; reset 0 (spec) -/
  child : Nat := 0
  /-- BS6 METERS; 16; R476; reset 0 (spec) -/
  meters : Nat := 0
  /-- BS7 E_FEEDER; 64 signed; R476; reset 0 (spec) -/
  eFeeder : Int := 0
  /-- BS8 E_METERS; 64 signed; R476; reset 0 (spec) -/
  eMeters : Int := 0
  /-- BS9 E_TECH; 64; R476; reset 0 (spec) -/
  eTech : Int := 0
  /-- BS10 RESIDUAL; 64 signed; R476; reset 0 (spec) -/
  residual : Int := 0
  /-- BS11 R_UOHM; 32; R476; reset 0 (spec) -/
  rUohm : Nat := 0
  /-- BS12 COVERAGE; 32; R476; reset 0 (spec) -/
  coverage : Nat := 0
  /-- BS13 INTERVALS; 16; R476; reset 0 (spec) -/
  intervals : Nat := 0
  /-- BS14 ESTIMATED; 16; R476; reset 0 (spec) -/
  estimated : Nat := 0
  /-- BS15 RESID_BP; 16 signed; R476; reset 0 (spec) -/
  residBp : Int := 0
deriving DecidableEq, Repr

/-- The sums of one day (R470). -/
structure FitDay where
  /-- UTC day; day; R470; reset 0 (DESIGN CHOICE 1) -/
  day : Nat := 0
  /-- n; count; R470; reset 0 (DESIGN CHOICE 1) -/
  n : Nat := 0
  /-- Σx; sum; R470; reset 0 (DESIGN CHOICE 1) -/
  sx : Int := 0
  /-- Σy; sum; R470; reset 0 (DESIGN CHOICE 1) -/
  sy : Int := 0
  /-- Σx²; sum; R470; reset 0 (DESIGN CHOICE 1) -/
  sxx : Int := 0
  /-- Σxy; sum; R470; reset 0 (DESIGN CHOICE 1) -/
  sxy : Int := 0
deriving DecidableEq, Repr

/-- The settings and the fit of one feeder phase (R470, R489). -/
structure FeederSet where
  /-- R_MODE 1; 1; R489; reset false (spec) -/
  declared : Bool := false
  /-- R_DECL, µΩ; 32; R489; reset 0 (spec) -/
  rDecl : Nat := 0
  /-- R_MAX, µΩ; 32; R489; reset 100000 (spec) -/
  rMax : Nat := 100000
  /-- FIXED_LOSS_W; 32; R489; reset 0 (spec) -/
  fixedW : Nat := 0
  /-- fitted R, µΩ; R_DECL while none has been fitted; 32; R470; reset none (spec) -/
  r : Option Nat := none
  /-- ring of daily sums, newest first; FIT_DAYS days; R470; reset [] (spec) -/
  fit : List FitDay := []
deriving DecidableEq, Repr

/-- A topology result (R463, R487). -/
structure TopoResult where
  /-- TR2 STATE; 8; R487; reset 0 (spec) -/
  state : Nat := 0
  /-- TR3 PHASE; 8; R487; reset 0xFF (spec) -/
  phase : Nat := 0xFF
  /-- TR4 FEEDER; 8; R487; reset 0xFF (spec) -/
  feeder : Nat := 0xFF
  /-- TR5 SOURCE bits 0–3; 4; R463, R487; reset 0 (spec) -/
  source : Nat := 0
  /-- TR6 PHASE_CONF; 16; R487; reset 0 (spec) -/
  phaseConf : Nat := 0
  /-- TR7 FEEDER_CONF; 16; R487; reset 0 (spec) -/
  feederConf : Nat := 0
  /-- TR8 R_PHASE; 16 signed; R487; reset 0 (spec) -/
  rPhase : Int := 0
  /-- TR9 R_FEEDER; 16 signed; R487; reset 0 (spec) -/
  rFeeder : Int := 0
  /-- TR10 N; 32; R487; reset 0 (spec) -/
  n : Nat := 0
  /-- TR12 ZC_MEAN; 16; R487; reset 0xFFFF (spec) -/
  zcMean : Nat := 0xFFFF
deriving DecidableEq, Repr

/-- Sums over scored intervals (R473), in 2⁻³² units: m is the meter's energy, r the residual of its feeder phase. -/
structure MrSums where
  /-- n; count; R473; reset 0 (DESIGN CHOICE 1) -/
  n : Int := 0
  /-- Σm; sum; R473; reset 0 (DESIGN CHOICE 1) -/
  sm : Int := 0
  /-- Σm²; sum; R473; reset 0 (DESIGN CHOICE 1) -/
  smm : Int := 0
  /-- Σr; sum; R473; reset 0 (DESIGN CHOICE 1) -/
  sr : Int := 0
  /-- Σr²; sum; R473; reset 0 (DESIGN CHOICE 1) -/
  srr : Int := 0
  /-- Σm·r; sum; R473; reset 0 (DESIGN CHOICE 1) -/
  smr : Int := 0
  /-- ZEROS; count; R473; reset 0 (DESIGN CHOICE 1) -/
  zeros : Int := 0
deriving DecidableEq, Repr

/-- Scoring state and the score of one meter (R473, R474); sums and counts in 2⁻³² units. -/
structure ScoreSt where
  /-- the sums and ZEROS; sums; R473; reset {} (spec) -/
  sums : MrSums := {}
  /-- what each of the latest 35 days adds to them, as decayed; sums per day; R493; reset [] (DESIGN CHOICE 1) -/
  days : List (Nat × MrSums) := []
  /-- TAMPER; count; R473; reset 0 (DESIGN CHOICE 1) -/
  tamper : Nat := 0
  /-- CHANGES; count; R473; reset 0 (DESIGN CHOICE 1) -/
  changes : Nat := 0
  /-- tamper events since the last compile; count; R473; reset 0 (DESIGN CHOICE 1) -/
  tamperDay : Nat := 0
  /-- topology changes since the last compile; count; R473; reset 0 (DESIGN CHOICE 1) -/
  changesDay : Nat := 0
  /-- C1–C4; four of 16 bits; R474; reset [0, 0, 0, 0] (spec) -/
  comps : List Nat := [0, 0, 0, 0]
  /-- SCORE; 16; R474; reset 0 (spec) -/
  score : Nat := 0
  /-- RHO ×1,000; 16 signed; R491; reset 0 (DESIGN CHOICE 1) -/
  rho : Int := 0
  /-- RHO_MED ×1,000; 16 signed; R491; reset 0 (DESIGN CHOICE 1) -/
  rhoMed : Int := 0
  /-- SCORE at its last alert kind 3; 16; R475; reset none (DESIGN CHOICE 1) -/
  alerted : Option Nat := none
deriving DecidableEq, Repr

/-- The topology block of one meter (R458). -/
structure TopoMeter where
  /-- child of its candidates; 16; R452; reset 0 (DESIGN CHOICE 1) -/
  child : Nat := 0
  /-- sample count of the open window; 32; R458; reset 0 (spec) -/
  n : Nat := 0
  /-- Σy; sum; R458; reset 0 (spec) -/
  sy : Int := 0
  /-- Σy²; sum; R458; reset 0 (spec) -/
  syy : Int := 0
  /-- Σx_p; three sums; R458; reset [0, 0, 0] (spec) -/
  sx : List Int := [0, 0, 0]
  /-- Σx_p²; three sums; R458; reset [0, 0, 0] (spec) -/
  sxx : List Int := [0, 0, 0]
  /-- Σy·x_p; three sums; R458; reset [0, 0, 0] (spec) -/
  sxy : List Int := [0, 0, 0]
  /-- Σd_p·I_fp by 3f + p; 24 sums; R458; reset [0, 0, 0, 0, 0, 0, 0, 0, 0, 0, 0, 0, 0, 0, 0, 0, 0, 0, 0, 0, 0, 0, 0, 0] (spec) -/
  sdi : List Int := [0, 0, 0, 0, 0, 0, 0, 0, 0, 0, 0, 0, 0, 0, 0, 0, 0, 0, 0, 0, 0, 0, 0, 0]
  /-- ΣI_fp; 24 sums; R458; reset [0, 0, 0, 0, 0, 0, 0, 0, 0, 0, 0, 0, 0, 0, 0, 0, 0, 0, 0, 0, 0, 0, 0, 0] (spec) -/
  si : List Int := [0, 0, 0, 0, 0, 0, 0, 0, 0, 0, 0, 0, 0, 0, 0, 0, 0, 0, 0, 0, 0, 0, 0, 0]
  /-- ΣI_fp²; 24 sums; R458; reset [0, 0, 0, 0, 0, 0, 0, 0, 0, 0, 0, 0, 0, 0, 0, 0, 0, 0, 0, 0, 0, 0, 0, 0] (spec) -/
  sii : List Int := [0, 0, 0, 0, 0, 0, 0, 0, 0, 0, 0, 0, 0, 0, 0, 0, 0, 0, 0, 0, 0, 0, 0, 0]
  /-- UTC day on which the open window starts; day; R461; reset 0 (DESIGN CHOICE 1) -/
  windowDay : Nat := 0
  /-- current result; result; R458; reset {} (spec) -/
  result : TopoResult := {}
  /-- previous final result; result; R458, R461; reset none (spec) -/
  prevFinal : Option TopoResult := none
  /-- latest final proposal; feeder, phase; R464, R488; reset none (DESIGN CHOICE 1) -/
  proposal : Option (Nat × Nat) := none
  /-- proposal of the previous final result; feeder, phase; R464; reset none (DESIGN CHOICE 1) -/
  prevProposal : Option (Nat × Nat) := none
  /-- window for which alert kind 5 was raised; day; R463; reset none (DESIGN CHOICE 1) -/
  conflictWin : Option Nat := none
  /-- assignment; feeder, phase; R464; reset none (spec) -/
  assigned : Option (Nat × Nat) := none
  /-- ASSIGNED_SINCE; 64; R464, R487; reset 0 (DESIGN CHOICE 1) -/
  since : Nat := 0
  /-- CHANGES since admission; 16; R487; reset 0 (DESIGN CHOICE 1) -/
  changes : Nat := 0
  /-- pinned by TOPO_PIN; 1; R465; reset false (spec) -/
  pinned : Bool := false
  /-- scoring state; scoring state; R473; reset {} (spec) -/
  score : ScoreSt := {}
deriving DecidableEq, Repr

/-- One value of a feeder series (R456). -/
structure SeriesVal where
  /-- child; 0 for the unit's own; 16; R452; reset 0 (DESIGN CHOICE 1) -/
  child : Nat := 0
  /-- point; 5; R454; reset 0 (DESIGN CHOICE 1) -/
  point : Nat := 0
  /-- 9 or 10; 4; R454; reset 0 (DESIGN CHOICE 1) -/
  code : Nat := 0
  /-- interval start; 64; R454; reset 0 (DESIGN CHOICE 1) -/
  tai : Nat := 0
  /-- value; 64 signed; R454; reset 0 (DESIGN CHOICE 1) -/
  value : Int := 0
deriving DecidableEq, Repr

/-- A balance checkpoint (R480, R520). -/
structure BalCkpt where
  /-- UTC day of the commit page; day; R520; reset 0 (DESIGN CHOICE 1) -/
  day : Nat := 0
  /-- topology blocks, scoring states and assignments; blocks; R480; reset [] (DESIGN CHOICE 1) -/
  topo : List (Nat × TopoMeter) := []
  /-- fit rings and settings; rings; R480; reset [] (DESIGN CHOICE 1) -/
  feeders : List (Nat × FeederSet) := []
deriving DecidableEq, Repr

/-- The balance engine. -/
structure BalSt where
  /-- topology blocks by meter index; 576 bytes per meter; R458; reset [] (spec) -/
  topo : List (Nat × TopoMeter) := []
  /-- settings and fits by 32 × child + 4 × feeder + phase; feeder phases; R470, R489; reset [] (spec) -/
  feeders : List (Nat × FeederSet) := []
  /-- code 9 and 10 series of the candidates; values; R456; reset [] (spec) -/
  series : List SeriesVal := []
  /-- entries of the commit log taken; position; R455; reset 0 (DESIGN CHOICE 1) -/
  logPos : Nat := 0
  /-- position at which the scan of the latest compile began; position; R455; reset 0 (DESIGN CHOICE 1) -/
  scanPos : Nat := 0
  /-- number of the last compiled UTC day; none before the first; day; R479, R481; reset none (DESIGN CHOICE 1) -/
  lastDay : Option Nat := none
  /-- summaries of the latest 35 days; 35 days; R476; reset [] (spec) -/
  summaries : List BalSummary := []
  /-- a BAL_RECOMPILE that waits for its compile; day; R493; reset none (DESIGN CHOICE 1) -/
  recompile : Option Nat := none
  /-- samples have been accumulated since the latest checkpoint; 1; R480; reset false (DESIGN CHOICE 1) -/
  sinceCkpt : Bool := false
  /-- the next result of each open window carries FLAGS bit 4; 1; R480; reset false (DESIGN CHOICE 1) -/
  lostMark : Bool := false
  /-- ALERT_SEQ of the next alert; 32; R477; reset 0 (DESIGN CHOICE 1) -/
  alertSeq : Nat := 0
  /-- TOPO_SAMPLES; 32; R492; reset 0 (spec) -/
  topoSamples : Nat := 0
  /-- NO_REFERENCE; 32; R492; reset 0 (spec) -/
  noReference : Nat := 0
  /-- TOPO_OVERRUN; 32; R492; reset 0 (spec) -/
  overrun : Nat := 0
  /-- EXCLUDED_PERIOD; 32; R492; reset 0 (spec) -/
  excluded : Nat := 0
  /-- LATE_FOR_BALANCE; 32; R492; reset 0 (spec) -/
  late : Nat := 0
  /-- COMPILES; 32; R492; reset 0 (spec) -/
  compiles : Nat := 0
  /-- ALERTS; 32; R492; reset 0 (spec) -/
  alerts : Nat := 0
  /-- a catch-up run is in progress, its alert raised; 1; R479; reset false (DESIGN CHOICE 1) -/
  catching : Bool := false
  /-- ALERTS_NOT_PUSHED; 32; R492; reset 0 (spec) -/
  notPushed : Nat := 0
deriving DecidableEq, Repr

end Sys2Proof.Machine
end

