-- ==== Sys2Proof/Machine/StFleet.lean ====
section
/-! DEFINITION. Tariff pushes, the token ledger and meter firmware campaigns ("Tariff push, token ledger and meter firmware campaigns"). -/

namespace Sys2Proof.Machine

/-- A fleet request to one meter (R577, R587, R589, R592, R597, R604, R607). -/
inductive FleetReq
  /-- method enter of the token gateway -/
  | token (account tid cs : Nat)
  /-- set-request of attribute 6–10 of the activity calendar -/
  | pushAttr (id attr : Nat)
  /-- attribute 10 rewritten with a new activation time -/
  | pushAgain (id : Nat)
  /-- method activate_passive_calendar -/
  | pushNow (id : Nat)
  /-- attribute 10 rewritten with a date-time not specified -/
  | pushClear (id : Nat)
  /-- CS1: read of image_block_size and image_transfer_enabled -/
  | campRead (slot : Nat)
  /-- CS1: action image_transfer_initiate -/
  | campInit (slot : Nat)
  /-- CS3: read of image_transferred_blocks_status -/
  | campBlocks (slot : Nat)
  /-- CS4: image_block_transfer of one block -/
  | campFill (slot block : Nat)
  /-- CS5: action image_verify -/
  | campVerify (slot : Nat)
  /-- CS5: read of image_transfer_status -/
  | campVerified (slot : Nat)
  /-- CS6: action image_activate -/
  | campActivate (slot : Nat)
  /-- CS6: read of image_transfer_status -/
  | campActivated (slot : Nat)
deriving DecidableEq, Repr

/-- A ledger entry, LG1–LG4 (R594). -/
structure LedgerEnt where
  /-- LG1 TID; 24; R594; reset 0 (spec) -/
  tid : Nat := 0
  /-- LG2 CS; 8; R594; reset 0 (spec) -/
  cs : Nat := 0
  /-- LG3 STATE; 8; R594; reset 0 (spec) -/
  state : Nat := 0
  /-- LG4 METER; 24; R594; reset 0 (spec) -/
  meter : Nat := 0
deriving DecidableEq, Repr

/-- An account block (R594). -/
structure Account where
  /-- FLOOR_TID; 24; R594; reset 0 (spec) -/
  floorTid : Nat := 0
  /-- FLOOR_VALID; 8; R594; reset false (spec) -/
  floorValid : Bool := false
  /-- entries; 31 entries; R594; reset [] (spec) -/
  entries : List LedgerEnt := []
deriving DecidableEq, Repr

/-- A token queued for delivery (R596, R616). -/
structure TokenJob where
  /-- METER; 32; R616; reset 0 (DESIGN CHOICE 1) -/
  meter : Nat := 0
  /-- account; 20; R593; reset 0 (DESIGN CHOICE 1) -/
  account : Nat := 0
  /-- TID; 24; R616; reset 0 (DESIGN CHOICE 1) -/
  tid : Nat := 0
  /-- CS; 8; R616; reset 0 (DESIGN CHOICE 1) -/
  cs : Nat := 0
  /-- HOSTREF; 32; R616; reset 0 (DESIGN CHOICE 1) -/
  hostref : Nat := 0
  /-- TOKEN; 20 digits; R616; reset [] (DESIGN CHOICE 1) -/
  digits : List Byte := []
  /-- JSEQ of the ledger delta; 64; R596; reset 0 (DESIGN CHOICE 1) -/
  jseq : Nat := 0
  /-- its request has been made; 1; R597; reset false (DESIGN CHOICE 1) -/
  sent : Bool := false
  /-- its entry is durable and mirrored; 1; R596; reset false (DESIGN CHOICE 1) -/
  ready : Bool := false
deriving DecidableEq, Repr

/-- A tariff push (R585, R613). -/
structure Push where
  /-- activation key; 64; R586; reset 0 (spec) -/
  actKey : Nat := 0
  /-- LATE; 8; R613; reset 0 (spec) -/
  late : Nat := 0
  /-- MAX_TRIES; 8; R613; reset 1 (spec) -/
  maxTries : Nat := 1
  /-- RESEND_MS; 16; R613; reset 10 (spec) -/
  resendMs : Nat := 10
  /-- HOSTREF; 32; R613; reset 0 (spec) -/
  hostref : Nat := 0
  /-- TABLE; up to 4,032 bytes; R613; reset [] (spec) -/
  table : List Byte := []
  /-- the key has been handled; 1; R589; reset false (DESIGN CHOICE 1) -/
  passed : Bool := false
  /-- key of the last recomputation; 64; R588; reset 0 (DESIGN CHOICE 1) -/
  lastCalc : Nat := 0
  /-- PUSH_CANCEL has been taken; 1; R592; reset false (DESIGN CHOICE 1) -/
  cancelled : Bool := false
  /-- next attribute to be written, 11 for activate_passive_calendar; 6 where not listed; step per member; R587, R589; reset [] (DESIGN CHOICE 1) -/
  progress : List (Nat × Nat) := []
  /-- confirmed members whose attribute 10 is to be written again; members; R588; reset [] (DESIGN CHOICE 1) -/
  again : List Nat := []
  /-- members that have ended: 4 active, 5 late applied, 6 failed, 8 cancelled; meter, end; R591, R615; reset [] (DESIGN CHOICE 1) -/
  ended : List (Nat × Nat) := []
deriving DecidableEq, Repr

/-- A campaign (R600, R618). -/
structure Camp where
  /-- STATE: 1 loading, 2 ready, 3 running; 8; R620; reset 1 (spec) -/
  state : Nat := 1
  /-- ACT_MODE; 8; R618; reset 0 (spec) -/
  actMode : Nat := 0
  /-- BLOCK_SIZE; 16; R618; reset 128 (spec) -/
  blockSize : Nat := 128
  /-- IMAGE_SIZE; 32; R618; reset 1 (spec) -/
  imageSize : Nat := 1
  /-- CAMP_UID; 32; R618; reset 0 (spec) -/
  uid : Nat := 0
  /-- KEY_SLOT; 8; R618; reset 0 (spec) -/
  keySlot : Nat := 0
  /-- MAX_ROUNDS; 8; R618; reset 1 (spec) -/
  maxRounds : Nat := 1
  /-- UNICAST_MAX; 16; R618; reset 0 (spec) -/
  unicastMax : Nat := 0
  /-- GAP_MC; 16; R618; reset 1 (spec) -/
  gapMc : Nat := 1
  /-- WIN_START; 16; R618; reset 0 (spec) -/
  winStart : Nat := 0
  /-- WIN_END; 16; R618; reset 0 (spec) -/
  winEnd : Nat := 0
  /-- MAX_TRIES; 8; R618; reset 1 (spec) -/
  maxTries : Nat := 1
  /-- ACT; 64; R618; reset 0 (spec) -/
  act : Nat := 0
  /-- DIGEST; 256; R618; reset 0 (spec) -/
  digest : Nat := 0
  /-- IMAGE_ID; up to 31 bytes; R618; reset [] (spec) -/
  imageId : List Byte := []
  /-- units held, by unit number: the piece map and the image slot; 1,000-byte units; R600; reset [] (spec) -/
  pieces : List (Nat × List Byte) := []
  /-- ROUND; 8; R620; reset 0 (spec) -/
  round : Nat := 0
  /-- blocks of the round that are still to be sent; none between rounds; block numbers; R606; reset none (DESIGN CHOICE 1) -/
  blocks : Option (List Nat) := none
  /-- UNION; 16; R620; reset 0 (spec) -/
  unionN : Nat := 0
  /-- key of the next block; 64; R606; reset 0 (DESIGN CHOICE 1) -/
  nextKey : Nat := 0
  /-- key at which the last round ended; 64; R606; reset 0 (DESIGN CHOICE 1) -/
  endKey : Nat := 0
  /-- members status-read since the last round; meters; R606; reset [] (DESIGN CHOICE 1) -/
  read : List Nat := []
  /-- blocks received by each member as last read; blocks per member; R601; reset [] (spec) -/
  bitmaps : List (Nat × List Nat) := []
  /-- the multicast activation has been sent; 1; R607; reset false (DESIGN CHOICE 1) -/
  actSent : Bool := false
  /-- second request of a step due: 1; 0 where not listed; step per member; R604; reset [] (DESIGN CHOICE 1) -/
  sub : List (Nat × Nat) := []
  /-- blocks still to be filled before the next status read; blocks per member; R604; reset [] (DESIGN CHOICE 1) -/
  fill : List (Nat × List Nat) := []
  /-- members to be status-read whatever the round does; members; R609; reset [] (DESIGN CHOICE 1) -/
  reread : List Nat := []
  /-- the notice of the last round has been sent; 1; R606; reset true (DESIGN CHOICE 1) -/
  noticed : Bool := true
  /-- members that have ended: 6 activated, 7 failed; meter, end; R610, R620; reset [] (DESIGN CHOICE 1) -/
  ended : List (Nat × Nat) := []
deriving DecidableEq, Repr

/-- A fleet request that is open (R578). -/
structure OpenReq where
  /-- the meter; 32; R578; reset 0 (DESIGN CHOICE 1) -/
  meter : Nat := 0
  /-- invoke-id, 12–15; 4; R578; reset 12 (DESIGN CHOICE 1) -/
  invoke : Nat := 12
  /-- the request; request; R578; reset .campRead 0 (DESIGN CHOICE 1) -/
  req : FleetReq := .campRead 0
  /-- its number as placer, or the TAG of its DOWN; 32; R577; reset 0 (DESIGN CHOICE 1) -/
  ref : Nat := 0
  /-- activation time written, ms; 64; R587; reset 0 (DESIGN CHOICE 1) -/
  time : Nat := 0
deriving DecidableEq, Repr

/-- The checkpoint in SR4 (R583). -/
structure FleetCkpt where
  /-- FR2; definitions; R582; reset [] (DESIGN CHOICE 1) -/
  pushes : List (Nat × Push) := []
  /-- FR1–FR3; definitions and bitmaps; R582; reset [] (DESIGN CHOICE 1) -/
  camps : List (Nat × Camp) := []
deriving DecidableEq, Repr

/-- Fleet work on SE15. -/
structure FleetSt where
  /-- pushes in use; 16 pushes; R585; reset [] (spec) -/
  pushes : List (Nat × Push) := []
  /-- campaigns in use; 8 slots; R600; reset [] (spec) -/
  camps : List (Nat × Camp) := []
  /-- account blocks, FR0; 1,048,576 accounts; R594; reset [] (spec) -/
  ledger : List (Nat × Account) := []
  /-- tokens in delivery, oldest first; tokens; R596; reset [] (spec) -/
  tokens : List TokenJob := []
  /-- open requests; one per meter; R578; reset [] (spec) -/
  reqs : List OpenReq := []
  /-- invoke-id of the next request; 4; R578; reset 12 (DESIGN CHOICE 1) -/
  invokeNext : Nat := 12
  /-- number of the next request; 32; R577; reset 0 (DESIGN CHOICE 1) -/
  nextRef : Nat := 0
  /-- activation time last sent to a confirmed member; ms per meter; R587, R588; reset [] (DESIGN CHOICE 1) -/
  sentTime : List (Nat × Nat) := []
  /-- CLK_OFFSET at that time; pt per meter; R588; reset [] (DESIGN CHOICE 1) -/
  sentOffset : List (Nat × Int) := []
  /-- broadcast invocation counters by Pocket slot; 32 per slot; R605; reset [] (spec) -/
  bcast : List (Nat × Nat) := []
  /-- saved counters, FR4; 32 per slot; R605; reset [] (spec) -/
  bcastSaved : List (Nat × Nat) := []
  /-- NOTICE_SEQ of the next notice; 32; R584; reset 0 (spec) -/
  noticeSeq : Nat := 0
  /-- notices refused; 32; R584; reset 0 (DESIGN CHOICE 1) -/
  ringRefused : Nat := 0
  /-- members refused for room; 32; R601; reset 0 (DESIGN CHOICE 1) -/
  bitmapRefused : Nat := 0
  /-- slot whose block went last; 3; R606; reset 0 (DESIGN CHOICE 1) -/
  turn : Nat := 0
  /-- key of the latest checkpoint; 64; R583; reset 0 (DESIGN CHOICE 1) -/
  ckptKey : Nat := 0
deriving DecidableEq, Repr

end Sys2Proof.Machine
end

