-- ==== Sys2Proof/Machine/StMains.lean ====
section
/-! DEFINITION. The mains count, the lock, the cross-reference and the scheduler ("Mains time and the scheduler"). -/

namespace Sys2Proof.Machine

/-- The record of one cycle's start (R79). -/
structure CycleRec where
  /-- cycle number; 48; R79; reset 0 (DESIGN CHOICE 1) -/
  cycle : Nat := 0
  /-- reported time of its start; 2⁻³² ns; R79; reset 0 (DESIGN CHOICE 1) -/
  startTai : Nat := 0
  /-- its length in rate-corrected time; 2⁻³² ns; R81; reset 0 (DESIGN CHOICE 1) -/
  lenRc : Nat := 0
  /-- it began at an accepted crossing; 1; R81; reset false (DESIGN CHOICE 1) -/
  accepted : Bool := false
  /-- mains state that timed it; 2; R79; reset .virtual (DESIGN CHOICE 1) -/
  state : MainsState := .virtual
  /-- startTai is a wall time (the unit was anchored, or was given one backwards); 1; R83; reset false (DESIGN CHOICE 1) -/
  wall : Bool := false
  /-- rate-corrected time of its start, from which anchoring assigns the wall time; 2⁻³² ns; R83; reset 0 (DESIGN CHOICE 1) -/
  startRc : Nat := 0
  /-- phase from which the record holds: 0, or the phase of the step that split the cycle; 16; R109; reset 0 (spec) -/
  phase0 : Nat := 0
  /-- phase at which the record ends: the end of the cycle, or the phase of the step that split it; 17; R109; reset 65536 (spec) -/
  phase1 : Nat := 65536
deriving DecidableEq, Repr

/-- A closed cross-reference segment (R80). -/
structure Segment where
  /-- first cycle; 48; R80; reset 0 (DESIGN CHOICE 1) -/
  first : Nat := 0
  /-- first cycle after it; 48; R80; reset 0 (DESIGN CHOICE 1) -/
  next : Nat := 0
  /-- wall time of its start; ns; R80; reset 0 (DESIGN CHOICE 1) -/
  startTai : Nat := 0
  /-- wall time of its end; ns; R80; reset 0 (DESIGN CHOICE 1) -/
  endTai : Nat := 0
  /-- greatest deviation of linear interpolation; ns; R80; reset 0 (DESIGN CHOICE 1) -/
  deviation : Nat := 0
  /-- Virtual flag; 1; R80; reset false (DESIGN CHOICE 1) -/
  virtual : Bool := false
  /-- Holdover flag; 1; R80; reset false (DESIGN CHOICE 1) -/
  holdover : Bool := false
  /-- step flag; 1; R80; reset false (DESIGN CHOICE 1) -/
  step : Bool := false
  /-- restart flag; 1; R80; reset false (DESIGN CHOICE 1) -/
  restart : Bool := false
  /-- alignment mark; 1; R64; reset false (DESIGN CHOICE 1) -/
  aligned : Bool := false
  /-- reported time at which it closed; ns; R889; reset 0 (DESIGN CHOICE 1) -/
  closedTai : Nat := 0
  /-- its times are wall times: the unit was anchored, or has been anchored since in the same start; 1; R83; reset false (DESIGN CHOICE 1) -/
  wall : Bool := false
deriving DecidableEq, Repr

/-- The mains count and lock, in the always-on island (R62). -/
structure MainsSt where
  /-- T1 STATE; 2; R77; reset .virtual (spec) -/
  state : MainsState := .virtual
  /-- T2 REF, 0 L1, 1 L2, 2 L3; 2; R65, R77; reset none (spec) -/
  ref : Option Nat := none
  /-- mains cycle number; 48; R58, R60; reset 0 (spec) -/
  cycle : Nat := 0
  /-- rate-corrected instant at which the cycle in progress started; 2⁻³² ns; R58; reset 0 (spec) -/
  startRc : Nat := 0
  /-- what the start of a Virtual or Acquiring cycle lies after the exact instant, in 1/50 or 1/60 of 2⁻³² ns; 6; R72; reset 0 (spec) -/
  virtFrac : Nat := 0
  /-- predicted period; the nominal cycle until one has been measured; 2⁻³² ns; R69; reset 85899345920000000 (DESIGN CHOICE 1) -/
  period : Nat := 85899345920000000
  /-- instant of the last crossing counted by the acquisition or accepted; 2⁻³² ns; R66, R68; reset none (DESIGN CHOICE 1) -/
  lastCross : Option Nat := none
  /-- intervals of the valid run, newest first; up to 8 intervals; R66; reset [] (DESIGN CHOICE 1) -/
  run : List Nat := []
  /-- the cycle in progress is the realigning cycle, held at 65,535 for the next crossing; 1; R67; reset false (spec) -/
  realign : Bool := false
  /-- holdover cycles ended without an accepted crossing; 4; R71; reset 0 (DESIGN CHOICE 1) -/
  holdCycles : Nat := 0
  /-- the cycle in progress did not begin at an accepted crossing; 1; R74; reset true (DESIGN CHOICE 1) -/
  flagged : Bool := true
  /-- T3 ANCHORED; 1; R77; reset false (spec) -/
  anchored : Bool := false
  /-- T4 NOMINAL; 1; R77; reset false (spec) -/
  nominal60 : Bool := false
  /-- T8 COUNT_VALID; 1; R77; reset false (spec) -/
  countValid : Bool := false
  /-- measured angles of L2 and L3 to L1, 120° and 240° until measured; pt, pt; R65; reset (21845, 43691) (spec) -/
  angles : Nat × Nat := (21845, 43691)
  /-- latest half-cycle RMS of L1, L2, L3; mV; R65; reset Vector.replicate 3 0 (DESIGN CHOICE 1) -/
  rms : Vector Nat 3 := Vector.replicate 3 0
  /-- the off-nominal event of this start has been recorded; 1; R76; reset false (DESIGN CHOICE 1) -/
  freqSeen : Bool := false
  /-- higher cycle number taken from a heartbeat, and the own cycle in which it came; 48, 48; R63, R64; reset none (DESIGN CHOICE 1) -/
  moveTo : Option (Nat × Nat) := none
  /-- a first crossing has come; the state becomes Acquiring at the cycle boundary; 1; R66, R73; reset false (DESIGN CHOICE 1) -/
  toAcquire : Bool := false
  /-- cycle number of the last completed Hem save, in MRAM; 48; R61; reset none (DESIGN CHOICE 1) -/
  savedCycle : Option Nat := none
  /-- last checkpoint of the cycle number, in MRAM; 48; R61; reset 0 (DESIGN CHOICE 1) -/
  checkpoint : Nat := 0
  /-- crossings counted and ignored; 32; R68; reset 0 (DESIGN CHOICE 1) -/
  ignored : Nat := 0
  /-- per-cycle record in DRAM, newest first; 262,144 cycles; R79; reset [] (DESIGN CHOICE 1) -/
  cycles : List CycleRec := []
  /-- kept segments, newest first; 400 days; R80, R889; reset [] (DESIGN CHOICE 1) -/
  segments : List Segment := []
  /-- first cycle of the segment in progress; 48; R80; reset 0 (DESIGN CHOICE 1) -/
  segFirst : Nat := 0
  /-- flags of the segment in progress: Virtual, Holdover, step, restart; 4; R80; reset 0 (DESIGN CHOICE 1) -/
  segFlags : BitVec 4 := 0
deriving DecidableEq, Repr

/-- What an entry does when it is dispatched (R86): a control-word commit, an engine work item or a host notice. -/
inductive SchedAction
  | heartbeat
  | hemStart
  | demandClose (scheme : Nat)
  | billingClose
  | tariffSwitch (rate : Nat)
  | snapshot (feeder : Nat)
  | overlayChange (target : Nat)
  | cfgTake
  | radioTx (fe : Nat) (frame : Nat)
  | plcTx (frame : Nat)
  | plcMode (mode : Nat)
  | hostNotice (handle : Nat)
  | restart
deriving DecidableEq, Repr

/-- One scheduler entry (R86). -/
structure SchedEntry where
  /-- insertion sequence; 32; R86; reset 0 (DESIGN CHOICE 1) -/
  seq : Nat := 0
  /-- mains key, as last converted; 64; R86; reset 0 (DESIGN CHOICE 1) -/
  key : Nat := 0
  /-- TAI of a wall-based entry; 2⁻³² ns; R86, R87, R98; reset none (DESIGN CHOICE 1) -/
  wall : Option Nat := none
  /-- class; 4; R90; reset 8 (DESIGN CHOICE 1) -/
  cls : Nat := 8
  /-- sub-order; 8; R90; reset 0 (DESIGN CHOICE 1) -/
  sub : Nat := 0
  /-- what it does; action; R86; reset .hemStart (DESIGN CHOICE 1) -/
  action : SchedAction := .hemStart
  /-- host that placed a class 8 entry; 2; R86; reset 0 (DESIGN CHOICE 1) -/
  owner : Nat := 0
  /-- set when late: nominal key of the latest missed occurrence, occurrences missed; 64, 32; R94; reset none (DESIGN CHOICE 1) -/
  late : Option (Nat × Nat) := none
  /-- converted at the start of the cycle before its instant; 1; R87; reset false (DESIGN CHOICE 1) -/
  lastConv : Bool := false
deriving DecidableEq, Repr

/-- A host-requested event placed by SCHED_ADD (R98), in MRAM (R97). -/
structure HostEvt where
  /-- HANDLE; 16; R98; reset 0 (DESIGN CHOICE 1) -/
  handle : Nat := 0
  /-- the host that placed it; 2; R98; reset 0 (DESIGN CHOICE 1) -/
  host : Nat := 0
  /-- RING; 16; R98; reset 12 (DESIGN CHOICE 1) -/
  ring : Nat := 12
  /-- BASIS; 1; R98; reset false (DESIGN CHOICE 1) -/
  wallBased : Bool := false
  /-- PERIOD in mc; 32; R98; reset 0 (DESIGN CHOICE 1) -/
  period : Nat := 0
  /-- repetitions after the first; 32; R98; reset 0 (DESIGN CHOICE 1) -/
  count : Nat := 0
  /-- firings and skipped repetitions so far; 32; R98; reset 0 (DESIGN CHOICE 1) -/
  fired : Nat := 0
  /-- USER_TAG; 32; R98; reset 0 (DESIGN CHOICE 1) -/
  userTag : Nat := 0
  /-- mains key of the first instant; 64; R98; reset 0 (DESIGN CHOICE 1) -/
  firstKey : Nat := 0
  /-- TAI of the first instant of a wall-based entry; 64; R98; reset 0 (DESIGN CHOICE 1) -/
  firstTai : Nat := 0
  /-- fired for the last time, or cancelled; 1; R100; reset false (DESIGN CHOICE 1) -/
  done : Bool := false
deriving DecidableEq, Repr

/-- The scheduler (R86–R101). -/
structure SchedSt where
  /-- the scheduler table; 4,096 entries; R86; reset [] (DESIGN CHOICE 1) -/
  entries : List SchedEntry := []
  /-- next insertion sequence; 32; R86; reset 0 (DESIGN CHOICE 1) -/
  nextSeq : Nat := 0
  /-- host-requested entries and known handles; 1,024 entries; R97, R98; reset [] (DESIGN CHOICE 1) -/
  hostEvts : List HostEvt := []
  /-- next handle to be given; 16; R98; reset 1 (DESIGN CHOICE 1) -/
  nextHandle : Nat := 1
  /-- key of the Hem start entry once dispatched; 64; R91, R92; reset none (DESIGN CHOICE 1) -/
  hemKey : Option Nat := none
  /-- class 7 entries dropped and counted; 32; R92, R96; reset 0 (DESIGN CHOICE 1) -/
  dropped7 : Nat := 0
  /-- wall instant of the last fired occurrence of each series, in MRAM; TAI ns per series; R92, R112; reset [] (DESIGN CHOICE 1) -/
  lastFired : List (Nat × Nat) := []
  /-- waiting entries of classes 3–6 saved by Hem; up to 512 entries; R92, R792; reset [] (DESIGN CHOICE 1) -/
  saved : List SchedEntry := []
deriving DecidableEq, Repr

end Sys2Proof.Machine
end

