-- ==== Sys2Proof/Machine/StReg.lean ====
section
/-! DEFINITION. The logic side's energy windows, demand, billing, tariff holds and pulse outputs ("Energy registers, tariffs and demand", "Sag, swell, interruption and pulse outputs"). -/

namespace Sys2Proof.Machine

/-- An energy window (R199–R201). -/
structure EnWindow where
  /-- start key; 64; R102; reset 0 (DESIGN CHOICE 1) -/
  startKey : Nat := 0
  /-- cumulative values before its first cycle; 256 of 64 bits; R194; reset [] (DESIGN CHOICE 1) -/
  base : List Nat := []
  /-- cumulative values after its last attributed cycle; 256 of 64 bits; R194; reset [] (DESIGN CHOICE 1) -/
  cur : List Nat := []
  /-- timed length; 2⁻³² ns; R201; reset 0 (DESIGN CHOICE 1) -/
  timed : Nat := 0
  /-- gap flag; 1; R194; reset false (DESIGN CHOICE 1) -/
  gap : Bool := false
  /-- rate of the last cycle attributed; 4; R216; reset 1 (DESIGN CHOICE 1) -/
  rate : Nat := 1
  /-- cycles that accrued to code 0 per point; 32 counts; R220; reset List.replicate 32 0 (DESIGN CHOICE 1) -/
  imp : List Nat := List.replicate 32 0
  /-- cycles that accrued to code 1 per point; 32 counts; R220; reset List.replicate 32 0 (DESIGN CHOICE 1) -/
  exp : List Nat := List.replicate 32 0
  /-- QUALITY indications of its cycles; 8; R395; reset 0 (DESIGN CHOICE 1) -/
  quality : Nat := 0
  /-- its interval start falls in a cycle that R74 flags; 1; R74; reset false (DESIGN CHOICE 1) -/
  virtual : Bool := false
  /-- the first window after lifecycle Blank or a change of its settings; 1; R888; reset false (DESIGN CHOICE 1) -/
  first : Bool := false
  /-- cycles attributed; count; R454; reset 0 (DESIGN CHOICE 1) -/
  cycles : Nat := 0
  /-- sums of the channels' cycle RMS; 36 sums; R454; reset [] (DESIGN CHOICE 1) -/
  sumV : List Nat := []
  /-- sums of squared cycle RMS times cycle length; 36 sums; R454; reset [] (DESIGN CHOICE 1) -/
  sumSq : List Nat := []
deriving DecidableEq, Repr

/-- A window whose close has been dispatched and which is not complete (R200). -/
structure Closing where
  /-- the window; window; R200; reset {} (DESIGN CHOICE 1) -/
  win : EnWindow := {}
  /-- 0–3 demand scheme, 4 billing, 8–15 series of feeder kind − 8; 4; R200; reset 0 (DESIGN CHOICE 1) -/
  kind : Nat := 0
  /-- K; 64; R200; reset 0 (DESIGN CHOICE 1) -/
  closeKey : Nat := 0
  /-- registers before the first cycle at or after K, for a billing close; 768 of 64 bits; R223; reset [] (DESIGN CHOICE 1) -/
  regs : List Nat := []
  /-- nominal length of a billing period that closes by the calendar; ms; R226; reset none (DESIGN CHOICE 1) -/
  nominalMs : Option Nat := none
  /-- nominal key of the latest missed occurrence, and their number; 64, 32; R226; reset none (DESIGN CHOICE 1) -/
  late : Option (Nat × Nat) := none
deriving DecidableEq, Repr

/-- A closed sub-interval of a sliding scheme (R214). -/
structure SubWin where
  /-- start key; 64; R214; reset 0 (DESIGN CHOICE 1) -/
  startKey : Nat := 0
  /-- energy per pair; per pair; R214; reset [] (DESIGN CHOICE 1) -/
  energy : List Nat := []
  /-- timed length; 2⁻³² ns; R201; reset 0 (DESIGN CHOICE 1) -/
  timed : Nat := 0
  /-- gap flag; 1; R194; reset false (DESIGN CHOICE 1) -/
  gap : Bool := false
  /-- rate of its last cycle; 4; R216; reset 1 (DESIGN CHOICE 1) -/
  rate : Nat := 1
  /-- quality; 8; R395; reset 0 (DESIGN CHOICE 1) -/
  quality : Nat := 0
  /-- cycles attributed; count; R216; reset 0 (DESIGN CHOICE 1) -/
  cycles : Nat := 0
  /-- virtual-mains flag; 1; R74; reset false (DESIGN CHOICE 1) -/
  virtual : Bool := false
deriving DecidableEq, Repr

/-- A maximum demand (R217). -/
structure MaxDemand where
  /-- pair number; 6; R217; reset 0 (DESIGN CHOICE 1) -/
  pair : Nat := 0
  /-- rate 0–8; 4; R217; reset 0 (DESIGN CHOICE 1) -/
  rate : Nat := 0
  /-- maximum, in mW, mvar or mVA; 64; R217; reset 0 (DESIGN CHOICE 1) -/
  value : Nat := 0
  /-- start key of the window that set it; 64; R217; reset 0 (DESIGN CHOICE 1) -/
  startKey : Nat := 0
deriving DecidableEq, Repr

/-- One demand scheme (R212–R218). -/
structure SchemeSt where
  /-- open window; window; R213; reset {} (DESIGN CHOICE 1) -/
  win : EnWindow := {}
  /-- last closed sub-intervals, oldest first; up to 15; R214; reset [] (DESIGN CHOICE 1) -/
  subs : List SubWin := []
  /-- maximum demands of the open billing period; 64 pairs × 9 rates; R217; reset [] (spec) -/
  maxima : List MaxDemand := []
deriving DecidableEq, Repr

/-- A closed billing period (R224). -/
structure BillPeriod where
  /-- billing close key; 64; R230; reset 0 (DESIGN CHOICE 1) -/
  closeKey : Nat := 0
  /-- registers at the close; 768 of 64 bits; R223; reset [] (DESIGN CHOICE 1) -/
  regs : List Nat := []
  /-- maxima of the schemes; per scheme; R223; reset [] (DESIGN CHOICE 1) -/
  maxima : List (List MaxDemand) := []
deriving DecidableEq, Repr

/-- A host's tariff hold (R231). -/
structure Hold where
  /-- RATE; 4; R231; reset 1 (DESIGN CHOICE 1) -/
  rate : Nat := 1
  /-- MODE 2; 1; R231; reset false (DESIGN CHOICE 1) -/
  untilSwitch : Bool := false
deriving DecidableEq, Repr

/-- One pulse output (R249–R261). -/
structure PulseSt where
  /-- BASE; 64; R252; reset 0 (DESIGN CHOICE 1) -/
  base : Nat := 0
  /-- OWED; 64; R252; reset 0 (spec) -/
  owed : Nat := 0
  /-- EMITTED; 64; R252; reset 0 (spec) -/
  emitted : Nat := 0
  /-- DISCARDED; 32; R258; reset 0 (spec) -/
  discarded : Nat := 0
  /-- LOST; 32; R257; reset 0 (spec) -/
  lost : Nat := 0
  /-- pulses dropped since BASE was set, left out of OWED; 64; R257; reset 0 (DESIGN CHOICE 1) -/
  dropped : Nat := 0
  /-- the output sinks; 1; R259; reset false (spec) -/
  active : Bool := false
  /-- end of the pulse in progress; 2⁻³² ns; R249; reset 0 (DESIGN CHOICE 1) -/
  endRc : Nat := 0
  /-- start of the latest pulse; 2⁻³² ns; R253; reset none (DESIGN CHOICE 1) -/
  lastStart : Option Nat := none
  /-- earliest start of the next pulse; 2⁻³² ns; R253; reset 0 (DESIGN CHOICE 1) -/
  nextStart : Nat := 0
  /-- s; 2⁻³² ns; R253; reset 0 (DESIGN CHOICE 1) -/
  spacing : Nat := 0
  /-- key from which the debt has exceeded one cycle's capacity; 64; R257; reset none (DESIGN CHOICE 1) -/
  overFrom : Option Nat := none
  /-- a result set has arrived since the output was last released; 1; R255; reset false (DESIGN CHOICE 1) -/
  paying : Bool := false
  /-- the debt alarm of the present run has been raised; 1; R257; reset false (DESIGN CHOICE 1) -/
  alarmed : Bool := false
  /-- the lost event of this start has been recorded; 1; R257; reset false (DESIGN CHOICE 1) -/
  lostSeen : Bool := false
  /-- configuration waiting for its cycle; structure, 48; R258; reset none (spec) -/
  pendingCfg : Option (PulseCfg × Nat) := none
  /-- partner pulses counted on the land; 64; R732; reset 0 (spec) -/
  seenEdges : Nat := 0
deriving DecidableEq, Repr

/-- Logic-side metering. -/
structure RegSt where
  /-- PQ.STAT without LOST, as the line side last told it; 32; R21, R248; reset 0 (spec) -/
  pqShown : Word := 0
  /-- cumulative values last attributed, in MRAM; rates 1–8 of the feeder totals from the rate each cycle accrued to; 768 of 64 bits; R194; reset List.replicate 768 0 (spec) -/
  cum : List Nat := List.replicate 768 0
  /-- cumulative values last attributed, as written to MRAM at the last window close or Hem save; 768 of 64 bits; R194; reset [] (DESIGN CHOICE 1) -/
  cumSaved : List Nat := []
  /-- a baseline has been received since lifecycle Blank; 1; R194; reset false (spec) -/
  cumValid : Bool := false
  /-- start key of the first cycle not included; 64; R230; reset 0 (DESIGN CHOICE 1) -/
  cumKey : Nat := 0
  /-- Q9: result sets from the Seam bridge to cluster 0, oldest first; ring Q9; R47; reset [] (DESIGN CHOICE 1) -/
  q9 : List ResultSet := []
  /-- the last set taken was a partial one; 1; R200; reset false (DESIGN CHOICE 1) -/
  partialSeen : Bool := false
  /-- no result set has been taken in this start; 1; R194; reset true (spec) -/
  firstSet : Bool := true
  /-- DSP cycle count of the last set taken; 64; R194; reset none (DESIGN CHOICE 1) -/
  lastDsp : Option Nat := none
  /-- demand schemes; four schemes; R212; reset [{}, {}, {}, {}] (DESIGN CHOICE 1) -/
  schemes : List SchemeSt := [{}, {}, {}, {}]
  /-- open series windows; eight feeders; R219; reset [{}, {}, {}, {}, {}, {}, {}, {}] (DESIGN CHOICE 1) -/
  series : List EnWindow := [{}, {}, {}, {}, {}, {}, {}, {}]
  /-- open billing window; window; R222; reset {} (DESIGN CHOICE 1) -/
  bill : EnWindow := {}
  /-- windows closed and not complete, oldest first; closings; R200; reset [] (DESIGN CHOICE 1) -/
  closings : List Closing := []
  /-- closed billing periods in MRAM, latest first; two; R224; reset [] (spec) -/
  periods : List BillPeriod := []
  /-- a host's billing close is placed and not dispatched; 1; R233; reset false (spec) -/
  billPlaced : Bool := false
  /-- windows that open afresh at the first cycle the logic side times, their settings having changed; kinds; R888; reset [] (DESIGN CHOICE 1) -/
  reopen : List Nat := []
  /-- the first windows have been opened; 1; R888; reset false (DESIGN CHOICE 1) -/
  windowsOpen : Bool := false
  /-- tariff holds, in MRAM; one per host; R231; reset [] (spec) -/
  holds : List (Nat × Hold) := []
  /-- rate of the calendar's last switch; 4; R203, R205; reset none (DESIGN CHOICE 1) -/
  calRate : Option Nat := none
  /-- pulse outputs, in the always-on island; eight outputs; R249; reset [{}, {}, {}, {}, {}, {}, {}, {}] (spec) -/
  pulses : List PulseSt := [{}, {}, {}, {}, {}, {}, {}, {}]
  /-- BASE, OWED and EMITTED of the last Hem save; eight; R256; reset [] (DESIGN CHOICE 1) -/
  pulseSaved : List (Nat × Nat × Nat) := []
deriving DecidableEq, Repr

end Sys2Proof.Machine
end

