-- ==== Sys2Proof/Machine/StSess.lean ====
section
/-! DEFINITION. Meter sessions and the ingest pipeline ("Meter sessions and the ingest pipeline"). -/

namespace Sys2Proof.Machine

/-- A datablock assembly (R389, MC33). -/
structure DbState where
  /-- an assembly is open; 1; R389; reset false (spec) -/
  active : Bool := false
  /-- invocation; 32; R389; reset 0 (DESIGN CHOICE 1) -/
  invoke : Nat := 0
  /-- next block number; 32; R389; reset 0 (DESIGN CHOICE 1) -/
  next : Nat := 0
  /-- bytes so far, in staging; bytes; R389; reset [] (DESIGN CHOICE 1) -/
  raw : List Byte := []
  /-- key of the last block; 64; R389; reset 0 (DESIGN CHOICE 1) -/
  lastKey : Nat := 0
deriving DecidableEq, Repr

/-- A meter context, MC1–MC35 (R373). -/
structure MeterCtx where
  /-- MC1 SYS_TITLE; 64; R373; reset 0 (spec) -/
  title : Nat := 0
  /-- MC3 STATE; 8; R373; reset .unknown (spec) -/
  state : MeterState := .unknown
  /-- MC4 CFLAGS bit 0; 1; R373; reset false (spec) -/
  keysPresent : Bool := false
  /-- MC4 CFLAGS bit 1; 1; R373; reset false (spec) -/
  direct : Bool := false
  /-- MC4 CFLAGS bit 2; 1; R373; reset false (spec) -/
  pinned : Bool := false
  /-- MC4 CFLAGS bit 3; 1; R373; reset false (spec) -/
  wur : Bool := false
  /-- MC4 CFLAGS bit 4; 1; R373; reset false (spec) -/
  signReq : Bool := false
  /-- MC4 CFLAGS bit 5; 1; R373; reset false (spec) -/
  atParent : Bool := false
  /-- MC4 CFLAGS bit 6; 1; R373; reset false (spec) -/
  icExhausted : Bool := false
  /-- MC4 CFLAGS bit 7; 1; R373; reset false (spec) -/
  prevHeld : Bool := false
  /-- MC5 LINK_PROFILE; 8; R373; reset 0 (spec) -/
  linkProfile : Nat := 0
  /-- MC6 PARSE_PROFILE; 8; R373; reset 0 (spec) -/
  parseProfile : Nat := 0
  /-- MC7 VEE_PROFILE; 8; R373; reset 0 (spec) -/
  veeProfile : Nat := 0
  /-- MC8 SUITE; 8; R373; reset 0 (spec) -/
  suite : Nat := 0
  /-- MC9 KIND; 8; R373; reset 0xFF (spec) -/
  kind : Nat := 0xFF
  /-- MC10 MISSES; 8; R373; reset 0 (spec) -/
  misses : Nat := 0
  /-- MC11 IC_HI; 32; R373; reset 0 (spec) -/
  icHi : Nat := 0
  /-- MC12 IC_MAP; 32; R373; reset 0 (spec) -/
  icMap : BitVec 32 := 0
  /-- MC13 PREV_IC; 32; R373; reset 0 (spec) -/
  prevIc : Nat := 0
  /-- MC14 WAKE_ADDR; 16; R373; reset 0 (spec) -/
  wakeAddr : Nat := 0
  /-- MC15 AUTH_FAILS; 16; R373; reset 0 (spec) -/
  authFails : Nat := 0
  /-- MC16 HOSTREF; 32; R373; reset 0 (spec) -/
  hostref : Nat := 0
  /-- MC17 ADDR; 64; R373; reset 0 (spec) -/
  addr : Nat := 0
  /-- MC18 NEXT_KEY; 64; R373; reset 0 (spec) -/
  nextKey : Nat := 0
  /-- MC19 LAST_CONTACT; 64; R373; reset 0 (spec) -/
  lastContact : Nat := 0
  /-- MC20 CLK_OFFSET; 64 signed; R373; reset 0 (spec) -/
  clkOffset : Int := 0
  /-- MC21 CLK_OFFSET_KEY; 64; R373; reset 0 (spec) -/
  clkOffsetKey : Nat := 0
  /-- MC22 KEY_CHANGE_KEY; 64; R373; reset 0 (spec) -/
  keyChangeKey : Nat := 0
  /-- MC23 ADMIT_KEY; 64; R373; reset 0 (spec) -/
  admitKey : Nat := 0
  /-- MC24 FRAMES; 32; R373; reset 0 (spec) -/
  frames : Nat := 0
  /-- MC25 DUPLICATES; 16; R373; reset 0 (spec) -/
  duplicates : Nat := 0
  /-- MC26 REPLAYS; 16; R373; reset 0 (spec) -/
  replays : Nat := 0
  /-- MC27 LAST_SEQ; 32; R373; reset 0 (spec) -/
  lastSeq : Nat := 0
  /-- MC29 WRAP_EK; 320; R373; reset 0 (spec) -/
  wrapEk : Nat := 0
  /-- MC30 WRAP_AK; 320; R373; reset 0 (spec) -/
  wrapAk : Nat := 0
  /-- MC31 WRAP_PREV_EK; 320; R373; reset 0 (spec) -/
  wrapPrevEk : Nat := 0
  /-- MC32 SIGN_PUB; 512; R373; reset 0 (spec) -/
  signPub : Nat := 0
  /-- MC33 DB_STATE; 16 bytes; R373; reset {} (spec) -/
  db : DbState := {}
  /-- CLK_OFFSET has been measured; 1; R105; reset false (DESIGN CHOICE 1) -/
  clkSet : Bool := false
  /-- arrival keys of contacts since the last evaluation; keys; R321; reset [] (DESIGN CHOICE 1) -/
  contacts : List Nat := []
  /-- end of the previous listen window; 64; R321; reset 0 (DESIGN CHOICE 1) -/
  prevEnd : Nat := 0
  /-- the window still to be evaluated after NEXT_KEY has moved on; keys; R321; reset none (DESIGN CHOICE 1) -/
  evalWin : Option (Nat × Nat) := none
  /-- neighbour by which the meter's last frame came; 16; R331; reset 0xFFFF (DESIGN CHOICE 1) -/
  via : Nat := 0xFFFF
  /-- VM1 MODULUS; 64; R418; reset 0 (spec) -/
  modulus : Nat := 0
  /-- VM2 RATE_CAP; 32; R418; reset 0 (spec) -/
  rateCap : Nat := 0
  /-- VM3 SHAPE; 8; R418; reset 0xFF (spec) -/
  veeShape : Nat := 0xFF
  /-- FM1 ACCOUNT; 32; R581; reset 0xFFFFFFFF (spec) -/
  account : Nat := 0xFFFFFFFF
  /-- FM2 PUSH_ID; 8; R581; reset 0xFF (spec) -/
  pushId : Nat := 0xFF
  /-- FM3 PUSH_STATE; 8; R581; reset 0 (spec) -/
  pushState : Nat := 0
  /-- FM4 PUSH_TRIES; 8; R581; reset 0 (spec) -/
  pushTries : Nat := 0
  /-- FM5 CAMP_SLOT; 8; R581; reset 0xFF (spec) -/
  campSlot : Nat := 0xFF
  /-- FM6 PUSH_KEY; 64; R581; reset 0 (spec) -/
  pushKey : Nat := 0
  /-- FM7 CAMP_UID; 32; R581; reset 0 (spec) -/
  campUid : Nat := 0
  /-- FM8 CAMP_STATE; 8; R581; reset 0 (spec) -/
  campState : Nat := 0
  /-- FM9 CAMP_ROUND; 8; R581; reset 0 (spec) -/
  campRound : Nat := 0
  /-- FM10 CAMP_TRIES; 8; R581; reset 0 (spec) -/
  campTries : Nat := 0
  /-- FM11 FAIL_REASON; 8; R581; reset 0 (spec) -/
  failReason : Nat := 0
  /-- FM12 MISSING; 16; R581; reset 0xFFFF (spec) -/
  missing : Nat := 0xFFFF
  /-- FM14 BITMAP_REF; 32; R581; reset 0xFFFFFFFF (spec) -/
  bitmapRef : Nat := 0xFFFFFFFF
  /-- FM15 CAMP_KEY; 64; R581; reset 0 (spec) -/
  campKey : Nat := 0
  /-- FM16 TID of the token in delivery; 24; R581; reset 0 (spec) -/
  tokenTid : Nat := 0
  /-- FM16 CS of the token in delivery; 6; R581; reset 0 (spec) -/
  tokenCs : Nat := 0
  /-- FM17 TOKEN_STATE; 8; R581; reset 0 (spec) -/
  tokenState : Nat := 0
  /-- the keys are wrapped under the substitute test root; 1; R663, R670; reset false (DESIGN CHOICE 1) -/
  wrapTest : Bool := false
  /-- child through which its latest authenticated APDU came; 16; R452; reset 0 (DESIGN CHOICE 1) -/
  child : Nat := 0
  /-- VM4 VFLAGS bit 0; 1; R418; reset false (spec) -/
  genReg : Bool := false
deriving DecidableEq, Repr

/-- A signed APDU that waits in staging for its signature check (R401). -/
structure SigWait where
  /-- the meter; 32; R369; reset 0 (DESIGN CHOICE 1) -/
  meter : Nat := 0
  /-- its entry; entry; R401; reset {} (DESIGN CHOICE 1) -/
  entry : Q2Entry := {}
deriving DecidableEq, Repr

/-- What Hem saves of a hot entry (R376). -/
structure HemCtx where
  /-- INDEX; 32; R376; reset 0 (spec) -/
  meter : Nat := 0
  /-- STATE; 8; R376; reset .unknown (spec) -/
  state : MeterState := .unknown
  /-- IC_HI; 32; R376; reset 0 (spec) -/
  icHi : Nat := 0
  /-- IC_MAP; 32; R376; reset 0 (spec) -/
  icMap : BitVec 32 := 0
deriving DecidableEq, Repr

/-- The records of one APDU that IG6 holds for the Yoke (R400). -/
structure HeldApdu where
  /-- JSEQ of the context delta that carries its counter; 64; R400; reset 0 (DESIGN CHOICE 1) -/
  jseq : Nat := 0
  /-- key at which they were first held; 64; R400; reset 0 (DESIGN CHOICE 1) -/
  key : Nat := 0
  /-- the meter; 32; R400; reset 0 (DESIGN CHOICE 1) -/
  meter : Nat := 0
  /-- the records; records; R400; reset [] (DESIGN CHOICE 1) -/
  recs : List Record := []
deriving DecidableEq, Repr

/-- Sessions and ingest. -/
structure SessSt where
  /-- the meter contexts that are not free, by meter index; contexts; R372, R373; reset [] (spec) -/
  ctxs : List (Nat × MeterCtx) := []
  /-- count of usable contexts, fixed until the next start; 21; R886; reset 0 (spec) -/
  usable : Nat := 0
  /-- contexts whose hot part is in the session cache, most recently used first; 16,384 meters; R374; reset [] (DESIGN CHOICE 1) -/
  hot : List Nat := []
  /-- contexts whose changes the context store lacks, and the key of the oldest change; key per meter; R375; reset [] (DESIGN CHOICE 1) -/
  dirty : List (Nat × Nat) := []
  /-- results of entries dispatched since Hem start, in the last Hem save; records; R92, R792; reset [] (DESIGN CHOICE 1) -/
  savedRecs : List Record := []
  /-- context deltas of the last Hem save; up to 4,096; R376; reset [] (spec) -/
  hemSaved : List HemCtx := []
  /-- IS5 LOADING; 1; R376, R405; reset true (spec) -/
  loading : Bool := true
  /-- ring Q2; entries; R370; reset [] (spec) -/
  q2 : List Q2Entry := []
  /-- entries in staging whose push Q2 refused, oldest first; entries; R49, R403; reset [] (DESIGN CHOICE 1) -/
  q2Held : List Q2Entry := []
  /-- entries that Q2 has delivered and that firmware has to unpack or drop; entries; R331, R371; reset [] (DESIGN CHOICE 1) -/
  unpackWait : List Q2Entry := []
  /-- entries that Q2 has delivered and that an earlier APDU of their meter holds; entries; R369; reset [] (DESIGN CHOICE 1) -/
  behind : List Q2Entry := []
  /-- ring Q3; APDUs; R368; reset [] (spec) -/
  q3 : List Parsed := []
  /-- APDUs whose push Q3 refused; APDUs; R49, R403; reset [] (DESIGN CHOICE 1) -/
  q3Held : List Parsed := []
  /-- signed APDUs that wait for verification, in order; APDUs; R401; reset [] (DESIGN CHOICE 1) -/
  sigWait : List SigWait := []
  /-- ring Q4, records that wait for validation; records; R51; reset [] (spec) -/
  q4 : List Record := []
  /-- records whose push Q4 refused, oldest first; records; R49, R403; reset [] (DESIGN CHOICE 1) -/
  q4Held : List Record := []
  /-- next SEQ; 32; R397; reset 0 (DESIGN CHOICE 1) -/
  seq : Nat := 0
  /-- records that IG6 holds for an acknowledgement of the Yoke, oldest first; APDUs; R400; reset [] (DESIGN CHOICE 1) -/
  held : List HeldApdu := []
  /-- next staging slot; 32; R370; reset 0 (DESIGN CHOICE 1) -/
  stagePtr : Nat := 0
  /-- IS2 PRESSURE; 1; R402, R405; reset false (spec) -/
  pressure : Bool := false
  /-- BURST_CREDIT; 21; R401; reset 1500000 (spec) -/
  credit : Nat := 1500000
  /-- APDUs processed in the present second; 32; R401; reset 0 (DESIGN CHOICE 1) -/
  apdus : Nat := 0
  /-- APDUs processed in the last second; 32; R401; reset 0 (DESIGN CHOICE 1) -/
  rate : Nat := 0
  /-- signatures verified in the present second; 32; R401; reset 0 (DESIGN CHOICE 1) -/
  sigs : Nat := 0
  /-- rate-corrected instant at which the present second began; 2⁻³² ns; R401; reset 0 (DESIGN CHOICE 1) -/
  creditRc : Nat := 0
  /-- NOT_DLMS; 32; R411; reset 0 (spec) -/
  notDlms : Nat := 0
  /-- UNKNOWN_TITLE; 32; R411; reset 0 (spec) -/
  unknownTitle : Nat := 0
  /-- NOKEY; 32; R411; reset 0 (spec) -/
  noKey : Nat := 0
  /-- AUTH_FAIL; 32; R411; reset 0 (spec) -/
  authFail : Nat := 0
  /-- REPLAY; 32; R411; reset 0 (spec) -/
  replay : Nat := 0
  /-- DUPLICATE_APDU; 32; R411; reset 0 (spec) -/
  dupApdu : Nat := 0
  /-- DUPLICATE_RECORD; 32; R411; reset 0 (spec) -/
  dupRecord : Nat := 0
  /-- SIG_OK; 32; R411; reset 0 (spec) -/
  sigOk : Nat := 0
  /-- SIG_FAIL; 32; R411; reset 0 (spec) -/
  sigFail : Nat := 0
  /-- UNSIGNED_REFUSED; 32; R411; reset 0 (spec) -/
  unsignedRefused : Nat := 0
  /-- PARSE_EXCEPT; 32; R411; reset 0 (spec) -/
  parseExcept : Nat := 0
  /-- STAGE_FULL; 32; R411; reset 0 (spec) -/
  stageFull : Nat := 0
  /-- PRESSURE_DISCARD; 32; R411; reset 0 (spec) -/
  pressDiscard : Nat := 0
  /-- frames of Retired contexts dropped at IG3; 32; R378; reset 0 (DESIGN CHOICE 1) -/
  retiredDrop : Nat := 0
  /-- frames handed to firmware for joining; frames; R378; reset [] (DESIGN CHOICE 1) -/
  joining : List Q2Entry := []
  /-- frames handed unopened to the uplink as ciphertext; entries; R379; reset [] (DESIGN CHOICE 1) -/
  forward : List Q2Entry := []
  /-- responses handed to SE15: meter, invocation, success, data; responses; R579; reset [] (DESIGN CHOICE 1) -/
  fleetIn : List (Nat × Nat × Bool × List Nat) := []
  /-- contacts reported to the link layer; 32; R386; reset 0 (DESIGN CHOICE 1) -/
  contactsOut : Nat := 0
deriving DecidableEq, Repr

end Sys2Proof.Machine
end

