-- ==== Sys2Proof/Machine/StPair.lean ====
section
/-! DEFINITION. The pair over the Yoke ("Redundant pairs over the Yoke"). -/

namespace Sys2Proof.Machine

/-- The data of one mirrored item, MD1–MD6 (R736). -/
inductive DeltaBody
  /-- MD1: a meter context; none when it is free -/
  | ctx (meter : Nat) (c : Option MeterCtx)
  /-- MD2: the invocation counter of a broadcast key -/
  | bcast (slot ic : Nat)
  /-- MD3: the 768 register images -/
  | legal (regs : List Nat)
  /-- MD4: the open demand state of a scheme -/
  | demand (scheme : Nat) (st : SchemeSt)
  /-- MD5: a scheduler entry; none when it has fired or is cancelled -/
  | sched (seq : Nat) (e : Option SchedEntry)
  /-- MD1: a ledger block (R596) -/
  | ledger (account : Nat) (b : Account)
  /-- MD6: fit ring, settings and summaries of a feeder phase (R481) -/
  | feeder (ix : Nat) (f : FeederSet) (l : List BalSummary)
  /-- MD6: number of the last compiled day -/
  | balDay (day : Option Nat)
deriving DecidableEq, Repr

/-- The item of a delta: its class and ITEM (R736, R737). -/
def DeltaBody.item : DeltaBody → Nat × Nat
  | .ctx m _ => (1, m)
  | .bcast n _ => (2, n)
  | .legal _ => (3, 0)
  | .demand n _ => (4, n)
  | .sched n _ => (5, n)
  | .ledger a _ => (1, 0x100000000 + a)
  | .feeder n _ _ => (6, n)
  | .balDay _ => (6, 0xFFFFFFFF)

/-- A heartbeat, by pin (HF2–HF7) or by lane (HM1–HM8); a pin frame carries no lane fields (R727, R735). -/
structure HbMsg where
  /-- it came or goes by the lane; 1; R735; reset false (DESIGN CHOICE 1) -/
  lane : Bool := false
  /-- HF2, HM2 STATE; 3; R727; reset .solo (DESIGN CHOICE 1) -/
  state : PairState := .solo
  /-- HF3 HEM; 1; R727; reset false (DESIGN CHOICE 1) -/
  hem : Bool := false
  /-- HF4 HANDOVER; 1; R727; reset false (DESIGN CHOICE 1) -/
  handover : Bool := false
  /-- HF5 SIDE; 1; R727; reset 0 (DESIGN CHOICE 1) -/
  side : Nat := 0
  /-- HF7 CYCLE; the cycle of HM1 KEY; 48; R727; reset 0 (DESIGN CHOICE 1) -/
  cycle : Nat := 0
  /-- HM3 bit 2; 1; R735; reset false (DESIGN CHOICE 1) -/
  revertReq : Bool := false
  /-- HM3 bit 3; 1; R735; reset false (DESIGN CHOICE 1) -/
  syncLost : Bool := false
  /-- HM4 RS_CYCLE; 48; R735; reset 0 (DESIGN CHOICE 1) -/
  rsCycle : Nat := 0
  /-- HM5 DEBT; 8 × 16; R735; reset [] (DESIGN CHOICE 1) -/
  debt : List Nat := []
  /-- HM6 TAKEOVER_KEY; 64; R735; reset 0 (DESIGN CHOICE 1) -/
  takeoverKey : Nat := 0
  /-- HM7 JSEQ_HI; 64; R735; reset 0 (DESIGN CHOICE 1) -/
  jseqHi : Nat := 0
  /-- HM8 KEY_COUNTER; 32; R735; reset 0 (DESIGN CHOICE 1) -/
  keyCounter : Nat := 0
  /-- the phase of HM1 KEY; 16; R735; reset 0 (DESIGN CHOICE 1) -/
  phase : Nat := 0
  /-- HF8 CRC; 16; R727; reset 0 (DESIGN CHOICE 1) -/
  crc : BitVec 16 := 0
deriving DecidableEq, Repr

/-- What protects a lane message besides its header and body (R733, R734). -/
structure LaneSeal where
  /-- CNT.STARTS of the sender; 32; R734; reset 0 (DESIGN CHOICE 1) -/
  starts : Nat := 0
  /-- YH4 MSG; 32; R733; reset 0 (DESIGN CHOICE 1) -/
  msg : Nat := 0
  /-- the tag; 128; R733; reset 0 (DESIGN CHOICE 1) -/
  tag : Nat := 0
deriving DecidableEq, Repr

/-- A lane message (R733). -/
inductive LaneMsg
  | heartbeat (h : HbMsg)
  | delta (jseq : Nat) (b : DeltaBody)
  | ack (jseq : Nat)
  | snapshot (jseq : Nat) (b : DeltaBody)
  | snapshotEnd (jseq : Nat)
  | syncLost
deriving DecidableEq, Repr

/-- The Yoke. -/
structure PairSt where
  /-- pair state; SY4, PY1; 3; R730; reset .solo (spec) -/
  state : PairState := .solo
  /-- cycle at which the listening after a start ends; 48; R730; reset none (DESIGN CHOICE 1) -/
  listenEnd : Option Nat := none
  /-- last good heartbeat; heartbeat; R728; reset none (DESIGN CHOICE 1) -/
  lastHb : Option HbMsg := none
  /-- LAST_GOOD_HB_KEY; 64; R752; reset 0 (DESIGN CHOICE 1) -/
  lastHbKey : Nat := 0
  /-- latest heartbeat by lane; heartbeat; R745; reset none (DESIGN CHOICE 1) -/
  laneHb : Option HbMsg := none
  /-- PY3 PARTNER; none reads 0b111; 3; R750; reset none (spec) -/
  partner : Option PairState := none
  /-- PY5 MISSES, saturating at 3; 2; R729, R750; reset 0 (spec) -/
  misses : Nat := 0
  /-- next deadline; 2⁻³² ns; R729; reset 0 (DESIGN CHOICE 1) -/
  deadline : Nat := 0
  /-- PY4 LANE; 1; R750; reset false (spec) -/
  laneUp : Bool := false
  /-- YH4 MSG of the next message; 32; R733; reset 0 (DESIGN CHOICE 1) -/
  msgCount : Nat := 0
  /-- highest JSEQ issued or applied; 64; R736; reset 0 (DESIGN CHOICE 1) -/
  jseq : Nat := 0
  /-- deltas are sent: since the journal was opened, until SYNC_LOST; 1; R736, R740; reset false (DESIGN CHOICE 1) -/
  mirroring : Bool := false
  /-- highest JSEQ acknowledged; 64; R736; reset 0 (DESIGN CHOICE 1) -/
  ackedJseq : Nat := 0
  /-- JSEQ held per item; 64 per item; R737; reset [] (DESIGN CHOICE 1) -/
  itemSeq : List ((Nat × Nat) × Nat) := []
  /-- journal of the active unit while it is open; JOURNAL_MIB; R741; reset [] (DESIGN CHOICE 1) -/
  journal : List (Nat × DeltaBody) := []
  /-- the journal is open; 1; R741; reset false (DESIGN CHOICE 1) -/
  journalOpen : Bool := false
  /-- JSEQ of the latest delta taken since resynchronisation began; 64; R736, R737; reset none (DESIGN CHOICE 1) -/
  rxJseq : Option Nat := none
  /-- edges counted per output at the last good heartbeat; eight counts; R745; reset [0, 0, 0, 0, 0, 0, 0, 0] (DESIGN CHOICE 1) -/
  hbEdges : List Nat := [0, 0, 0, 0, 0, 0, 0, 0]
  /-- key of the latest class 3 delta; 64; R736; reset 0 (DESIGN CHOICE 1) -/
  mirLegalKey : Nat := 0
  /-- key of the latest periodic class 4 deltas; 64; R736; reset 0 (DESIGN CHOICE 1) -/
  mirDemandKey : Nat := 0
  /-- JSEQ of the snapshot end that has been taken; 64; R741; reset none (DESIGN CHOICE 1) -/
  snapEndSeen : Option Nat := none
  /-- deltas that a resyncing unit keeps until the snapshot end; deltas; R741; reset [] (DESIGN CHOICE 1) -/
  jGap : List (Nat × DeltaBody) := []
  /-- PY11 RESYNC_PCT; 8; R750; reset 0 (spec) -/
  resyncPct : Nat := 0
  /-- key at which resynchronisation begins again; 64; R742; reset none (DESIGN CHOICE 1) -/
  retryKey : Option Nat := none
  /-- SYNC_LOST has been sent and the partner has not resynchronised; 1; R740; reset false (DESIGN CHOICE 1) -/
  lostSent : Bool := false
  /-- key at which the unit last entered Active or Solo; 64; R735, R752; reset 0 (DESIGN CHOICE 1) -/
  takeoverKey : Nat := 0
  /-- takeovers since start-up; PY12; 32; R750, R752; reset 0 (spec) -/
  takeovers : Nat := 0
  /-- cycle boundary K of a planned handover that has been placed; 48; R747; reset none (DESIGN CHOICE 1) -/
  handoverK : Option Nat := none
  /-- cycle boundary at which a forced Solo takes effect; 48; R753; reset none (DESIGN CHOICE 1) -/
  forceSolo : Option Nat := none
  /-- key at which InSync was entered; 64; R746; reset 0 (DESIGN CHOICE 1) -/
  insyncKey : Nat := 0
  /-- the unit has returned after a failure: it listened and resynchronised in this start; 1; R746; reset false (DESIGN CHOICE 1) -/
  returned : Bool := false
  /-- REVERT_REQ is set in its heartbeats; 1; R746; reset false (DESIGN CHOICE 1) -/
  revertReq : Bool := false
  /-- key until which a handover keeps the outputs released; 64; R747; reset none (DESIGN CHOICE 1) -/
  releaseUntil : Option Nat := none
  /-- partner image of class 3; 768 of 64 bits; R737; reset [] (DESIGN CHOICE 1) -/
  image : List Nat := []
  /-- key at which it came; 64; R743; reset 0 (DESIGN CHOICE 1) -/
  imageKey : Nat := 0
  /-- partner's mirrored demand state; per scheme; R736; reset [] (DESIGN CHOICE 1) -/
  demand : List (Nat × SchemeSt) := []
  /-- partner's mirrored scheduler entries; entries; R736; reset [] (DESIGN CHOICE 1) -/
  sched : List (Nat × SchedEntry) := []
  /-- OWED per output after the latest 8 result sets, by mains cycle, newest first; 8 result sets; R745; reset [] (DESIGN CHOICE 1) -/
  rsHist : List (Nat × List Nat) := []
  /-- PARTNER_COUNTER; 32; R737; reset 0 (DESIGN CHOICE 1) -/
  partnerCounter : Nat := 0
  /-- PY9 NO_SECRET; 1; R739, R750; reset false (spec) -/
  noSecret : Bool := false
  /-- the unit has yielded to a side clash; 1; R749; reset false (DESIGN CHOICE 1) -/
  clashed : Bool := false
  /-- SIDE at which it clashed; 1; R749; reset 0 (DESIGN CHOICE 1) -/
  clashSide : Nat := 0
  /-- the side clash event of this start has been recorded; 1; R749; reset false (DESIGN CHOICE 1) -/
  clashSeen : Bool := false
  /-- pair role locks written: PARTNER_HASH and SIDE, latest last; 4 fuse settings; R726; reset [] (spec) -/
  locks : List (Nat × Nat) := []
  /-- DELTAS_ACKED; 32; R752; reset 0 (spec) -/
  deltasAcked : Nat := 0
  /-- HOLD_RELEASES; 32; R752; reset 0 (spec) -/
  holdReleases : Nat := 0
  /-- LANE_DISCARDS; 32; R752; reset 0 (spec) -/
  laneDiscards : Nat := 0
  /-- lane messages sent, with their MSG, oldest first; messages; R733; reset [] (the model's own field, DESIGN CHOICE 10) -/
  laneOut : List (Nat × LaneMsg) := []
  /-- heartbeat frames sent by pin, oldest first; frames; R727; reset [] (the model's own field, DESIGN CHOICE 10) -/
  pinOut : List HbMsg := []
deriving DecidableEq, Repr

end Sys2Proof.Machine
end

