-- ==== Sys2Proof/Machine/StPwr.lean ====
section
/-! DEFINITION. Supply, start-up, Hem, power states and temperature ("Supply, start-up and power states"). -/

namespace Sys2Proof.Machine

/-- Where the logic side stands (R789, R794, R798). -/
inductive RunStage
  /-- below UVLO, power state Off -/
  | off
  /-- powered, RESET_N low -/
  | held
  /-- a start has reached step SUn and stands there -/
  | start (n : Nat)
  /-- ROM recovery (R713) -/
  | recovery
  /-- READY, past SU8 -/
  | running
  /-- Hem runs (R790) -/
  | hem
  /-- parked (R794) -/
  | parked
deriving DecidableEq, Repr

/-- The functions whose shutdown holds a Re-arm, RA1–RA7 (R812). -/
inductive ArmFn
  | fe (n : Nat)
  | lane (n : Nat)
  | wur
  | plc
  | port (n : Nat)
  | cluster (n : Nat)
  | power
deriving DecidableEq, Repr

/-- What a held request does when it executes (R812, R813). -/
inductive ArmReq
  | fe (c : FeCfg)
  | lane (c : LaneCfg)
  | wur (c : WurCfg)
  | plc (c : PlcCfg)
  | port (mode : Nat)
  | ungate
  | run
deriving DecidableEq, Repr

/-- What a start of the logic side meets, as the event that begins it tells (R701, R798): the strap, the verdicts on the signatures of the
Active image, of the staged image and of the image that a staged delta makes, the step that the start reaches (8 or more is READY), how long
the archive scan takes, the slots whose seal fails, the level of STRAP_NOR, and the LPNs of the system namespace whose page data do not
verify (R519, R860). -/
structure BootView where
  strap : Bool := false
  norOctal : Bool := false
  activeOk : Bool := true
  stagedOk : Bool := true
  resultOk : Bool := true
  /-- sectors of Active that a copy interrupted by the power or a reset has reached -/
  sectors : Nat := 0
  reach : Nat := 8
  scanMs : Nat := 0
  sealBad : List Nat := []
  unverified : List Nat := []
  /-- where a scan runs, pages whose metadata cannot be read, by SEQ -/
  unreadable : List Nat := []
deriving DecidableEq, Repr

/-- A shutdown or power-up in progress of one function (R812, R813). -/
structure Transit where
  /-- the function; function; R812; reset .power (DESIGN CHOICE 1) -/
  fn : ArmFn := .power
  /-- a power-up rather than a shutdown; 1; R813; reset false (DESIGN CHOICE 1) -/
  up : Bool := false
  /-- rate-corrected instant by which it completes; 2⁻³² ns; R812; reset 0 (DESIGN CHOICE 1) -/
  endRc : Nat := 0
  /-- the Re-arm held; request; R812, R813; reset none (DESIGN CHOICE 1) -/
  rearm : Option ArmReq := none
deriving DecidableEq, Repr

/-- The power controller, both dies' supply and the temperature. -/
structure PwrSt where
  /-- VIN; mV; R816, R818; reset 0 (DESIGN CHOICE 1) -/
  vinMv : Nat := 0
  /-- logic junction temperature; 16 signed, 0.1 °C; R816, R818; reset 0 (DESIGN CHOICE 1) -/
  tjDc : Int := 0
  /-- the line side is powered; 1; R789, R802; reset false (spec) -/
  lineOn : Bool := false
  /-- the always-on island is powered and out of reset; 1; R798, R802; reset false (spec) -/
  aonOn : Bool := false
  /-- where the logic side stands; stage; R789, R798; reset .off (DESIGN CHOICE 6) -/
  stage : RunStage := .off
  /-- RESET_N is low; 1; R799; reset true (DESIGN CHOICE 6) -/
  resetLow : Bool := true
  /-- the early-warning line is asserted; SY8, VIN_WARN_N; 1; R788; reset false (spec) -/
  warn : Bool := false
  /-- rate-corrected instant of the last deassertion, from which RECOVER_MS counts; 2⁻³² ns; R795; reset 0 (DESIGN CHOICE 1) -/
  warnDeRc : Nat := 0
  /-- the warning has asserted while parked, or caused the park; 1; R795, R814; reset true (DESIGN CHOICE 1) -/
  warnInPark : Bool := true
  /-- parked by a thermal stop; 1; R814; reset false (DESIGN CHOICE 1) -/
  parkThermal : Bool := false
  /-- rate-corrected instant of the warning that started Hem; 2⁻³² ns; R791, R818; reset 0 (DESIGN CHOICE 1) -/
  warnRc : Nat := 0
  /-- SY7 HEM; 1; R629; reset false (spec) -/
  hemFlag : Bool := false
  /-- state in which Hem found the device: 0 Run, Trim or Doze, 2 Hold, 5 boot, SU6 or recovery, 7 SU7; 3; R796; reset 0 (DESIGN CHOICE 1) -/
  hemFrom : Nat := 0
  /-- a completed save stands, which a power loss would resume from; 1; R792; reset false (DESIGN CHOICE 1) -/
  hemMark : Bool := false
  /-- the DSP final image has been written to the Lining; 1; R195, R791; reset false (DESIGN CHOICE 1) -/
  finalImage : Bool := false
  /-- HEM_OK_LAST: the last Hem completed; 1; R818; reset false (DESIGN CHOICE 1) -/
  hemOkLast : Bool := false
  /-- LAST_HEM_US; 32; R818; reset 0 (spec) -/
  lastHemUs : Nat := 0
  /-- HEM_OK of the present start, and between two starts of the next one; 1; R887; reset false (DESIGN CHOICE 1) -/
  hemOk : Bool := false
  /-- the run in progress has reached SU7; 1; R887; reset false (DESIGN CHOICE 1) -/
  runReached7 : Bool := false
  /-- a run of the logic side is in progress, its end not yet reckoned in HEM_OK; 1; R887; reset false (DESIGN CHOICE 1) -/
  runLive : Bool := false
  /-- rate-corrected instant at which the step that the start stands in began; 2⁻³² ns; R702; reset 0 (DESIGN CHOICE 1) -/
  stageRc : Nat := 0
  /-- SY5 POWER; 2; R629, R802; reset .run (spec) -/
  state : PowerState := .run
  /-- PW1 TARGET; 3; R816; reset 0 (spec) -/
  target : Nat := 0
  /-- PW2 ENTERING; 1; R816; reset false (spec) -/
  entering : Bool := false
  /-- the entry in progress is past its commit point; 1; R805; reset false (DESIGN CHOICE 1) -/
  committed : Bool := false
  /-- PW10 LAST_REFUSER; 2; R816; reset 0 (spec) -/
  lastRefuser : Nat := 0
  /-- PW7 GATED; 4; R816; reset 0 (spec) -/
  gated : BitVec 4 := 0
  /-- PW8 HOT; 1; R814; reset false (spec) -/
  hot : Bool := false
  /-- port of the doorbell last written while Doze or Hold was being entered or in force; 3; R802, R811; reset none (DESIGN CHOICE 1) -/
  bell : Option Nat := none
  /-- a wake request of the wake-up receiver stands; 1; R291, R811; reset false (DESIGN CHOICE 1) -/
  wakeReq : Bool := false
  /-- shutdowns and power-ups in progress; one per function; R812; reset [] (DESIGN CHOICE 1) -/
  transits : List Transit := []
  /-- ENTRIES for Trim, Doze, Hold; 32 each; R820; reset [0, 0, 0] (spec) -/
  entries : List Nat := [0, 0, 0]
  /-- REFUSED per state and refuser; 32 each; R820; reset [0, 0, 0, 0, 0, 0, 0, 0, 0, 0, 0, 0] (spec) -/
  refused : List Nat := [0, 0, 0, 0, 0, 0, 0, 0, 0, 0, 0, 0]
  /-- ABORTED per state and refuser; 32 each; R820; reset [0, 0, 0, 0, 0, 0, 0, 0, 0, 0, 0, 0] (spec) -/
  aborted : List Nat := [0, 0, 0, 0, 0, 0, 0, 0, 0, 0, 0, 0]
  /-- REARMS; 32; R820; reset 0 (spec) -/
  rearms : Nat := 0
  /-- REARM_SUPERSEDED; 32; R820; reset 0 (spec) -/
  rearmSuperseded : Nat := 0
  /-- REARM_CANCELLED; 32; R820; reset 0 (spec) -/
  rearmCancelled : Nat := 0
  /-- REARM_DROPPED; 32; R820; reset 0 (spec) -/
  rearmDropped : Nat := 0
  /-- PARKS, since power-on of the always-on island; 32; R820; reset 0 (spec) -/
  parks : Nat := 0
  /-- THERMAL_STOPS, since power-on of the always-on island; 32; R820; reset 0 (spec) -/
  thermalStops : Nat := 0
deriving DecidableEq, Repr

end Sys2Proof.Machine
end

