-- ==== Sys2Proof/Machine/StUpl.lean ====
section
/-! DEFINITION. Uplink and device trees ("Uplink and device trees"). -/

namespace Sys2Proof.Machine

/-- A message toward the upstream (R552–R555, R551). -/
inductive UpMsg
  /-- MT1: UNIT_ID, ROLE, FW_RELEASE, FORMAT_ID -/
  | hello (unit role release formatId : Nat)
  /-- MT3, or the data-notification toward a head end: BFLAGS, FIRST_POS and the records with their updated hops and residence, and the signature -/
  | bundle (skipped : Bool) (first : Nat) (recs : List Record) (sig : List Byte)
  /-- MT4: the entries and the signature -/
  | cipher (entries : List Q2Entry) (sig : List Byte)
  /-- MT7 -/
  | timeReq (t1 : Nat)
  /-- MT10 -/
  | downResult (tag outcome : Nat)
  /-- MT11 -/
  | keepalive
deriving DecidableEq, Repr

/-- A DOWN body (R562). -/
structure DownBody where
  /-- ADDR; all ones for a multicast -/
  addr : Nat := 0
  kind : Nat := 0
  tag : Nat := 0
  notBefore : Nat := 0
  deadline : Nat := 0
  bytes : List Byte := []
deriving DecidableEq, Repr

/-- A message toward a child (R552). -/
inductive DnMsg
  /-- MT2: STATUS, NEXT_POS, PATH_BOUND_US, CREDIT, DEPTH -/
  | helloAck (status : Status) (nextPos bound credit depth : Nat)
  /-- MT5: ACK_SEQ, ACK_POS -/
  | ack (seq pos : Nat)
  /-- MT6 -/
  | credit (n : Nat)
  /-- MT8: T1, T2, T3, UTC offset, anchored, LEAP61, LEAP59 -/
  | timeResp (t1 t2 t3 : Nat) (utc : Int) (anchored l61 l59 : Bool)
  /-- MT9 -/
  | down (d : DownBody)
  /-- MT11 -/
  | keepalive
deriving DecidableEq, Repr

/-- A BUNDLE or CIPHER that the parent has not acknowledged (R556, R560). -/
structure Unacked where
  /-- MSG_SEQ; 32; R556; reset 0 (DESIGN CHOICE 1) -/
  seq : Nat := 0
  /-- position after its last record; none for a CIPHER; 64; R556; reset none (DESIGN CHOICE 1) -/
  nextPos : Option Nat := none
  /-- entries of a CIPHER; entries; R558; reset [] (DESIGN CHOICE 1) -/
  entries : List Q2Entry := []
deriving DecidableEq, Repr

/-- The upstream connection (R549). -/
structure UpConn where
  /-- port; 1; R546; reset 0 (DESIGN CHOICE 1) -/
  port : Nat := 0
  /-- HELLO_ACK has been accepted, or the head end's association stands; 1; R571; reset false (DESIGN CHOICE 1) -/
  up : Bool := false
  /-- MSG_SEQ of the next message sent; 32; R552; reset 1 (DESIGN CHOICE 1) -/
  sendSeq : Nat := 1
  /-- rate-corrected instant of the last message received; 2⁻³² ns; R561; reset 0 (DESIGN CHOICE 1) -/
  lastRx : Nat := 0
  /-- rate-corrected instant of the last message sent; 2⁻³² ns; R561; reset 0 (DESIGN CHOICE 1) -/
  lastTx : Nat := 0
  /-- BUNDLE and CIPHER messages not acknowledged, oldest first; messages; R560; reset [] (DESIGN CHOICE 1) -/
  unacked : List Unacked := []
  /-- next position to send; 64; R553, R558; reset 0 (DESIGN CHOICE 1) -/
  sendPos : Nat := 0
  /-- rate-corrected instant of the last TIME_REQ; 2⁻³² ns; R563; reset 0 (DESIGN CHOICE 1) -/
  timeReqRc : Nat := 0
  /-- T1 of a TIME_REQ not answered; 64; R563; reset none (DESIGN CHOICE 1) -/
  t1 : Option Nat := none
deriving DecidableEq, Repr

/-- The connection of one child (R549). -/
structure ChildConn where
  /-- MSG_SEQ of the next message sent; 32; R552; reset 1 (DESIGN CHOICE 1) -/
  sendSeq : Nat := 1
  /-- rate-corrected instant of the last message received; 2⁻³² ns; R561; reset 0 (DESIGN CHOICE 1) -/
  lastRx : Nat := 0
  /-- rate-corrected instant of the last message sent; 2⁻³² ns; R561; reset 0 (DESIGN CHOICE 1) -/
  lastTx : Nat := 0
  /-- messages received and not acknowledged, with the position after their last record; MSG_SEQ and position; R556; reset [] (DESIGN CHOICE 1) -/
  waiting : List (Nat × Nat) := []
  /-- CREDIT last sent; 16; R560; reset 64 (DESIGN CHOICE 1) -/
  credit : Nat := 64
deriving DecidableEq, Repr

/-- A named child (R574, R575). -/
structure Child where
  /-- ENABLE; 1; R575; reset false (spec) -/
  enabled : Bool := false
  /-- ID_HASH; 256; R575; reset 0 (spec) -/
  idHash : Nat := 0
  /-- NEXT_POS; 64; R557; reset 0 (spec) -/
  nextPos : Nat := 0
  /-- FORMAT_ID last seen; 64; R559; reset none (spec) -/
  formatId : Option Nat := none
  /-- its connection; connection; R550; reset none (spec) -/
  conn : Option ChildConn := none
  /-- positions accepted and not committed yet; positions; R556; reset [] (DESIGN CHOICE 1) -/
  uncommitted : List Nat := []
  /-- LAST_SEEN_TAI; 64; R574; reset 0 (spec) -/
  lastSeenTai : Nat := 0
  /-- RECORDS_IN; 32; R574; reset 0 (spec) -/
  recordsIn : Nat := 0
  /-- CIPHER_IN; 32; R574; reset 0 (spec) -/
  cipherIn : Nat := 0
  /-- OVER_BOUND; 32; R574; reset 0 (spec) -/
  overBound : Nat := 0
  /-- PATH_BOUND_US as announced to the child; 32; R574; reset 0 (spec) -/
  boundUs : Nat := 0
  /-- cursor resets; 32; R559; reset 0 (DESIGN CHOICE 1) -/
  resets : Nat := 0
deriving DecidableEq, Repr

/-- A DOWN that a child is carrying out (R562, R603). -/
structure DownJob where
  /-- the DOWN; message; R562; reset {} (DESIGN CHOICE 1) -/
  body : DownBody := {}
  /-- number of the frame placed for it; 32; R562; reset none (DESIGN CHOICE 1) -/
  frame : Option Nat := none
deriving DecidableEq, Repr

/-- The uplink and the tree. -/
structure UplSt where
  /-- US1, US2 LINK0, LINK1; two of 2 bits; R571; reset [0, 0] (spec) -/
  link : List Nat := [0, 0]
  /-- US3 STATE; 3; R571; reset 0 (spec) -/
  state : Nat := 0
  /-- the upstream connection; connection; R549; reset none (spec) -/
  conn : Option UpConn := none
  /-- port of the last attempt; 1; R546; reset 0 (DESIGN CHOICE 1) -/
  lastPort : Nat := 0
  /-- start of the latest attempt to connect upstream; 2⁻³² ns; R546; reset 0 (DESIGN CHOICE 1) -/
  attemptRc : Nat := 0
  /-- the other port is tried next; 1; R546; reset false (DESIGN CHOICE 1) -/
  tryOther : Bool := false
  /-- the connection has been up since start-up; 1; R573; reset false (DESIGN CHOICE 1) -/
  everUp : Bool := false
  /-- acknowledged cursor, in MRAM; 64; R556; reset 0 (spec) -/
  acked : Nat := 0
  /-- CREDIT last received; 16; R560; reset 0 (spec) -/
  credit : Nat := 0
  /-- PATH_BOUND_US that the parent announced; 32; R569; reset 0 (DESIGN CHOICE 1) -/
  parentBound : Nat := 0
  /-- US8 DEPTH; 8; R569, R571; reset 0 (spec) -/
  depth : Nat := 0
  /-- an over-budget stop has been lifted; 1; R569; reset true (DESIGN CHOICE 1) -/
  retryOk : Bool := true
  /-- round trip, offset and anchored flag of the latest exchanges, newest first; 8 exchanges; R563; reset [] (DESIGN CHOICE 1) -/
  exchanges : List (Nat × Int × Bool) := []
  /-- consecutive exchanges missing or failing; 3; R563; reset 0 (DESIGN CHOICE 1) -/
  badEx : Nat := 0
  /-- named children by UNIT_ID; 4,095 entries; R575; reset [] (spec) -/
  children : List (Nat × Child) := []
  /-- DOWN messages being carried out; DOWN messages; R562; reset [] (DESIGN CHOICE 1) -/
  downs : List DownJob := []
  /-- results of DOWN messages sent, oldest first; child, TAG, OUTCOME; R562; reset [] (DESIGN CHOICE 1) -/
  downSeen : List (Nat × Nat × Nat) := []
  /-- TAG of the next DOWN; 32; R562; reset 0 (DESIGN CHOICE 1) -/
  nextTag : Nat := 0
  /-- messages sent upstream with MSG_SEQ, oldest first; messages; R552; reset [] (the model's own field, DESIGN CHOICE 10) -/
  upOut : List (Nat × UpMsg) := []
  /-- messages sent to children: UNIT_ID, MSG_SEQ, message; messages; R552; reset [] (the model's own field, DESIGN CHOICE 10) -/
  dnOut : List (Nat × Nat × DnMsg) := []
  /-- OVER_BOUND; 32; R570, R573; reset 0 (spec) -/
  overBound : Nat := 0
  /-- RESENT; 32; R557, R573; reset 0 (spec) -/
  resent : Nat := 0
  /-- SKIPS; 32; R557, R573; reset 0 (spec) -/
  skips : Nat := 0
  /-- RECONNECTS; 32; R573; reset 0 (spec) -/
  reconnects : Nat := 0
  /-- DOWN_SENT; 32; R573; reset 0 (spec) -/
  downSent : Nat := 0
  /-- DOWN_FAILED; 32; R573; reset 0 (spec) -/
  downFailed : Nat := 0
deriving DecidableEq, Repr

end Sys2Proof.Machine
end

