-- ==== Sys2Proof/Syntax.lean ====
section
/-! DEFINITION. The commands: one constructor per row of spec/opcode_table.json. The first operand `dt` of every command
is the number of ticks of the time counter (2 ns each) that have passed since the command before it (log entry 3); a
mailbox command's operand `host` is the host whose oldest dispatched command of that opcode runs (log entry 5). -/

namespace Sys2Proof

open Machine

/-- The commands of the block (spec/opcode_table.json). -/
inductive Instr where
  /-- VIN_RISE (R798): VIN rises above the rising UVLO threshold; the line-side rails, crystal and DSP start and the converter soft-starts the logic-side supply. -/
  | vinRise (dt : Nat) (mv : Nat)
  /-- VIN_UVLO (R789): VIN falls below UVLO; both dies lose power and the DQ9100 is Off. -/
  | vinUvlo (dt : Nat) (mv : Nat)
  /-- RESET_N_RELEASE (R799): The board releases RESET_N; the device samples its straps and runs start-up steps SU3 to SU8. -/
  | resetNRelease (dt : Nat) (view : BootView)
  /-- RESET_N_ASSERT (R799): RESET_N is held low for 1 µs or more in service and causes a warm reset of the logic side. -/
  | resetNAssert (dt : Nat)
  /-- BOOT_WATCHDOG (R702): The boot watchdog expires before SU7 begins or before READY, resets the logic side and raises BOOT_FAILS. -/
  | bootWatchdog (dt : Nat) (view : BootView)
  /-- RECOVERY_FRAME (R713): In ROM recovery an Ethernet frame of EtherType 0x88B5 carrying one command is taken and answered to its source. -/
  | recoveryFrame (dt : Nat) (source : Nat) (broadcast : Bool) (hdr : CmdHeader) (payload : List Byte)
  /-- SEAM_FRAME_RECEIVE (R27): The logic side receives a Seam frame and acts on it, or discards and counts it on a bad CRC or a mismatched TYPE. -/
  | seamFrameReceive (dt : Nat) (frame : SeamFrame SeamRx)
  /-- LEGAL_WRITE_REPEAT (R28): The line side repeats its latest unacknowledged legal register image in the next superframe. -/
  | legalWriteRepeat (dt : Nat)
  /-- SEAM_CHANNEL_DOWN (R29): After 8 consecutive discarded frames the channel is declared down and resynchronisation starts. -/
  | seamChannelDown (dt : Nat) (rxBroken : Nat)
  /-- SEAM_RESYNC (R29): The framed channel resynchronises and one event records the outage with its duration. -/
  | seamResync (dt : Nat)
  /-- ENGINE_MEMORY_ERROR (R37): An engine meets an uncorrectable local-memory error and is halted and reloaded, and its item is returned once to its ring. -/
  | engineMemoryError (dt : Nat) (engine ring item meter : Nat)
  /-- LOCKSTEP_MISMATCH (R38): A supervisor lockstep mismatch asserts ALARM_N, logs an event and warm-resets the logic side. -/
  | lockstepMismatch (dt : Nat) (view : BootView)
  /-- ECC_UNCORRECTABLE (R40): An uncorrectable memory error outside engine local memory raises an event and fails the access. -/
  | eccUncorrectable (dt : Nat) (error : EccError)
  /-- CONTROL_WORD_COMMIT (R53): A committed shadow control word becomes active at the block's next boundary between items. -/
  | controlWordCommit (dt : Nat) (n : Nat)
  /-- ZERO_CROSSING (R68): A compensated zero-crossing stamp arrives and is judged for acquisition or acceptance, possibly ending the current cycle. -/
  | zeroCrossing (dt : Nat) (chan delay : Nat)
  /-- HOLDOVER_ENTRY (R71): No accepted crossing arrives within 1.1 predicted periods, so the cycle ends and the timebase enters Holdover. -/
  | holdoverEntry (dt : Nat)
  /-- HOLDOVER_CYCLE_END (R71): A holdover cycle ends at the last predicted period. -/
  | holdoverCycleEnd (dt : Nat)
  /-- HOLDOVER_TO_VIRTUAL (R71): Eight holdover cycles pass without an accepted crossing and the timebase enters Virtual. -/
  | holdoverToVirtual (dt : Nat)
  /-- VIRTUAL_CYCLE_END (R72): A virtual cycle ends on the rate-corrected time at nominal frequency. -/
  | virtualCycleEnd (dt : Nat)
  /-- CYCLE_CHECKPOINT (R61): Every 4,096 cycles the supervisor checkpoints the cycle number into MRAM. -/
  | cycleCheckpoint (dt : Nat)
  /-- MAINS_COUNT_ALIGN (R64): At the next cycle boundary after a heartbeat carrying a higher cycle number, the count moves forward, a segment closes and an event is logged. -/
  | mainsCountAlign (dt : Nat)
  /-- XREF_SEGMENT_CLOSE (R80): Every 65,536 cycles the supervisor closes a cross-reference segment and archives it. -/
  | xrefSegmentClose (dt : Nat)
  /-- ANCHOR_APPLY (R83): At the phase tick after the first OFFSET write, segments close, wall-based entries are converted and series are placed. -/
  | anchorApply (dt : Nat)
  /-- STEP_APPLY (R109): At the tick after a time step, the segment closes, wall-based entries are converted again, and late entries are resolved. -/
  | stepApply (dt : Nat)
  /-- ENTRY_RECONVERT (R87): At the start of the cycle before its instant, a wall-based entry is converted to its final mains key. -/
  | entryReconvert (dt : Nat) (seq : Nat)
  /-- HEM_START (R91): The Hem start entry is dispatched, opening the save, stopping commands and ingest, and releasing outputs. -/
  | hemStart (dt : Nat)
  /-- HEM_COMPLETE (R792): The Hem save items and the DSP final image are written and the completion mark is set. -/
  | hemComplete (dt : Nat)
  /-- BROWNOUT_RESTART (R795): The warning stays deasserted for RECOVER_MS while parked, so the logic side restarts as a warm reset. -/
  | brownoutRestart (dt : Nat) (view : BootView)
  /-- EARLY_WARNING_ASSERT (R788): VIN stays below the warning threshold for the deglitch time; the early-warning line and VIN_WARN_N assert and the DSP sends its partial set and final image. -/
  | earlyWarningAssert (dt : Nat) (mv : Nat) (cyc : CycleIn)
  /-- EARLY_WARNING_DEASSERT (R788): VIN rises above the rising warning threshold and the early-warning line deasserts. -/
  | earlyWarningDeassert (dt : Nat) (mv : Nat)
  /-- HEARTBEAT_SEND (R727): The class 1 entry sends a heartbeat frame on YOKE_HB_OUT and a heartbeat message on the lane. -/
  | heartbeatSend (dt : Nat)
  /-- DEMAND_CLOSE (R214): The class 3 entry closes a demand window, computes demand, updates maxima and emits records. -/
  | demandClose (dt : Nat)
  /-- BILLING_PERIOD_CLOSE (R223): The class 3 billing entry emits every register and maximum demand record and resets the maxima. -/
  | billingPeriodClose (dt : Nat)
  /-- TARIFF_SWITCH (R205): The class 4 entry commits the calendar's rate to the DSP for the cycle at which it applies. -/
  | tariffSwitch (dt : Nat)
  /-- REGISTER_SNAPSHOT (R219): The class 5 entry emits a feeder's series records, with reference series and reversal events. -/
  | registerSnapshot (dt : Nat)
  /-- OVERLAY_CHANGE (R830): The class 6 entry puts a new overlay in force and commits the affected control words. -/
  | overlayChange (dt : Nat)
  /-- HOST_EVENT (R99): A class 8 entry fires and pushes its 24-byte notice onto the host's ring. -/
  | hostEvent (dt : Nat)
  /-- FWU_RESTART (R720): The class 8 restart entry placed by FWU_FINISH warm-resets the logic side at its key. -/
  | fwuRestart (dt : Nat) (view : BootView)
  /-- TIME_PAIR_COMMIT (R121): The shadow INCR and OFFSET pair is committed at one counter tick. -/
  | timePairCommit (dt : Nat)
  /-- SLEW_END (R123): A slew's computed number of ticks ends and INCR is restored. -/
  | slewEnd (dt : Nat)
  /-- SOURCE_SELECT (R126): At a change of qualification, the highest-priority qualifying time source is selected. -/
  | sourceSelect (dt : Nat) (q0 q1 : Bool) (best : Nat) (announce : Option (Int × Bool × Bool))
  /-- SOURCE_LOSS (R127): The selected source loses qualification, so INCR and OFFSET are kept, the servo enters Holdover and the next source is taken. -/
  | sourceLoss (dt : Nat)
  /-- PTP_EVENT_RECEIVE (R133): A PTP event message is stamped at the reference plane and passed to the supervisor, whose servo steers time. -/
  | ptpEventReceive (dt : Nat) (port : Nat) (msg : PtpMsg)
  /-- PTP_EGRESS (R134): A departing PTP frame has its timestamp fields, UDP checksum and FCS rewritten in flight. -/
  | ptpEgress (dt : Nat) (port kind ident seqId : Nat) (corr : Int) (forwarded : Bool) (udp : Option PtpUdp)
  /-- LEAP_APPLY (R129): A received leap indicator is applied at the end of the UTC day that it names. -/
  | leapApply (dt : Nat)
  /-- TIME_SET (R141): TIME 0x0201 sets the reported time as a step, or as the anchoring. -/
  | timeSet (dt : Nat) (host : Fin 4)
  /-- TIME_ADJ (R142): TIME 0x0202 sets the rate or starts a slew. -/
  | timeAdj (dt : Nat) (host : Fin 4)
  /-- TIME_STEP (R143): TIME 0x0203, the authorised step, moves time or applies a held correction. -/
  | timeStep (dt : Nat) (host : Fin 4)
  /-- TIME_STATUS (R144): TIME 0x0204 returns the servo offset, path delay, INCR, source and counts. -/
  | timeStatus (dt : Nat) (host : Fin 4)
  /-- SCHED_ADD (R98): TIME 0x0220 places a class 8 host-requested entry. -/
  | schedAdd (dt : Nat) (host : Fin 4)
  /-- SCHED_CANCEL (R100): TIME 0x0221 cancels a host-requested entry. -/
  | schedCancel (dt : Nat) (host : Fin 4)
  /-- XREF (R101): TIME 0x0222 converts an instant between mains key and wall time. -/
  | xref (dt : Nat) (host : Fin 4)
  /-- TIME_NOW_LO_READ (R146): A read of TIME.NOW_LO latches the high, fraction and mains-key time registers for the reading host. -/
  | timeNowLoRead (dt : Nat) (host : Fin 4)
  /-- MAINS_CYC_LO_READ (R78): A read of MAINS.CYC_LO latches MAINS.CYC_HI for the reading host. -/
  | mainsCycLoRead (dt : Nat) (host : Fin 4)
  /-- DSP_CYCLE_END (R156): The DSP ends a cycle, accumulates energy and sends its stamped result set. -/
  | dspCycleEnd (dt : Nat) (cyc : CycleIn)
  /-- RESULT_SET_RECEIVE (R194): The logic side takes a result set and attributes cumulative energy to windows, pulse debt and series. -/
  | resultSetReceive (dt : Nat)
  /-- WINDOW_COMPLETE (R200): A window closed at key K completes once the last cycle starting before K has been attributed. -/
  | windowComplete (dt : Nat)
  /-- REGISTER_IMAGE_REFRESH (R193): The DSP refreshes a register's sealed Lining image at least every 2 mc. -/
  | registerImageRefresh (dt : Nat) (reg : Nat)
  /-- HARMONIC_WINDOW_END (R163): A harmonic window of 10 or 12 cycles ends and the DSP computes orders 1 to 127. -/
  | harmonicWindowEnd (dt : Nat)
  /-- CAL_FALLBACK_TIMEOUT (R172): No calibration image verifies within 500 ms of line-side start, so the DSP runs in Fallback and logs it. -/
  | calFallbackTimeout (dt : Nat)
  /-- CAL_EN_RELEASE (R178): CAL_EN_N goes high and aborts any open calibration session. -/
  | calEnRelease (dt : Nat)
  /-- CAL_SESSION_TIMEOUT (R178): An open calibration session sees no step for 3,600 s and aborts. -/
  | calSessionTimeout (dt : Nat)
  /-- CAL_STEP_COMPLETE (R182): The DSP has measured CYCLES cycles and completes the pending calibration step. -/
  | calStepComplete (dt : Nat)
  /-- MET_STATUS (R180): METRO 0x0301 returns the ROM identity, CAL_TAG and calibration state. -/
  | metStatus (dt : Nat) (host : Fin 4)
  /-- CAL_OPEN (R181): METRO 0x0302 opens a calibration session and blows a reopen fuse. -/
  | calOpen (dt : Nat) (host : Fin 4) (calEnLow : Bool)
  /-- CAL_STEP (R182): METRO 0x0303 starts a calibration measurement step. -/
  | calStep (dt : Nat) (host : Fin 4)
  /-- CAL_CLOSE (R185): METRO 0x0304 commits or aborts the calibration session. -/
  | calClose (dt : Nat) (host : Fin 4)
  /-- CAL_READ (R186): METRO 0x0305 returns a channel's committed calibration record. -/
  | calRead (dt : Nat) (host : Fin 4)
  /-- HARM_READ (R167): METRO 0x0306 returns a channel's harmonic magnitudes. -/
  | harmRead (dt : Nat) (host : Fin 4)
  /-- TARIFF_INPUT_TAKEOVER (R209): A tariff input selection stable for DEBOUNCE cycles takes over from the next cycle start. -/
  | tariffInputTakeover (dt : Nat)
  /-- REG_READ (R230): REG 0x0401 returns register values for a point and code. -/
  | regRead (dt : Nat) (host : Fin 4)
  /-- TARIFF_SET (R231): REG 0x0402 sets or releases the calling host's tariff hold. -/
  | tariffSet (dt : Nat) (host : Fin 4)
  /-- DEMAND_READ (R232): REG 0x0403 returns maximum demands of a scheme pair. -/
  | demandRead (dt : Nat) (host : Fin 4)
  /-- BILLING_CLOSE (R233): REG 0x0404 places a billing close at the first cycle start at least 64 pt ahead. -/
  | billingClose (dt : Nat) (host : Fin 4)
  /-- PQ_UPDATE (R238): A half-cycle RMS update drives the sag, swell and interruption state machines. -/
  | pqUpdate (dt : Nat) (ms : List Nat) (half : Bool)
  /-- PQ_REPORT_RECEIVE (R243): The logic side takes a voltage-event start or end report, keys it, and on an end emits its records. -/
  | pqReportReceive (dt : Nat)
  /-- PULSE_START (R253): A pulse output starts a pulse at its computed spacing while debt remains. -/
  | pulseStart (dt : Nat) (out : Nat)
  /-- PULSE_END (R249): A pulse's WIDTH ends and the output is released. -/
  | pulseEnd (dt : Nat) (out : Nat)
  /-- PULSE_DEBT_ALARM (R257): A debt that has exceeded one cycle's capacity for 250 mc raises an event. -/
  | pulseDebtAlarm (dt : Nat) (out : Nat)
  /-- PULSE_CONFIG_APPLY (R258): A new pulse configuration takes effect, discarding debt and setting a new BASE. -/
  | pulseConfigApply (dt : Nat) (out : Nat)
  /-- PULSE_LAND_EDGE (R732): A unit in Standby, Resync or InSync counts a falling edge on an enabled PULSEn land as a partner pulse. -/
  | pulseLandEdge (dt : Nat) (out : Nat)
  /-- PULSE_SET (R260): REG 0x0410 reconfigures a pulse output. -/
  | pulseSet (dt : Nat) (host : Fin 4)
  /-- PULSE_STATUS (R261): REG 0x0411 returns a pulse output's counts. -/
  | pulseStatus (dt : Nat) (host : Fin 4)
  /-- FE_CALIBRATION_DONE (R263): A front end finishes its 2.0 ms LO and I/Q calibration and its lanes may deliver frames. -/
  | feCalibrationDone (dt : Nat) (fe : Nat)
  /-- FE_RETUNE (R264): A capture change takes effect when no lane is inside a frame or after 10 ms, discarding frames and stopping lanes for 150 µs. -/
  | feRetune (dt : Nat) (fe inFrame : Nat)
  /-- LANE_FRAME_RECEIVE (R275): A lane decodes a frame and pushes it with its descriptor onto Q0, or drops it when Q0 is full. -/
  | laneFrameReceive (dt : Nat) (frame : RadioFrame)
  /-- TX_RELEASE (R279): A class 7 radio entry is released to its front end, which loads, settles, runs CCA and the duty check, and transmits at the key. -/
  | txRelease (dt : Nat) (cca : Int)
  /-- TX_END (R286): A transmission ends; PA_EN deasserts after PA_LAG and the airtime is added to the duty sums. -/
  | txEnd (dt : Nat) (fe : Nat)
  /-- WUR_FRAME (R291): The wake-up receiver decodes a matching frame, logs it and issues a wake request. -/
  | wurFrame (dt : Nat) (addr check rssiClass : Nat)
  /-- FE_SET (R296): LINK 0x0501 sets a front end's fields. -/
  | feSet (dt : Nat) (host : Fin 4)
  /-- LANE_SET (R297): LINK 0x0502 sets a demodulator lane. -/
  | laneSet (dt : Nat) (host : Fin 4)
  /-- RF_STATUS (R298): LINK 0x0503 returns a front end's counts. -/
  | rfStatus (dt : Nat) (host : Fin 4)
  /-- WUR_SET (R299): LINK 0x0504 sets the wake-up receiver. -/
  | wurSet (dt : Nat) (host : Fin 4)
  /-- WAKE_SEND (R300): LINK 0x0505 places a wake sequence for a rendezvous key. -/
  | wakeSend (dt : Nat) (host : Fin 4)
  /-- MAC_FRAME_ACCEPT (R309): A radio MAC takes a frame from Q0, applies checks FA1 to FA6 and the duplicate window, resynchronises and pushes it onto Q2. -/
  | macFrameAccept (dt : Nat) (ackCap : Bool)
  /-- CHECKIN_EVALUATE (R321): 2 mc after a listen window ends, an expected check-in is judged met or missed and the meter state may change. -/
  | checkinEvaluate (dt : Nat) (meter : Nat)
  /-- JOIN_TIMEOUT (R323): A Joining meter has no contact within 180,000 mc of admission and returns to Unknown. -/
  | joinTimeout (dt : Nat) (meter : Nat)
  /-- ACK_WAIT_EXPIRE (R329): No acknowledgement arrives within ACK_WAIT_PT, so the MAC places a retry or abandons the downlink frame. -/
  | ackWaitExpire (dt : Nat) (id : Nat)
  /-- NBR_READ (R334): LINK 0x0510 returns a neighbour entry. -/
  | nbrRead (dt : Nat) (host : Fin 4)
  /-- LPROF_SET (R335): LINK 0x0511 changes a link profile. -/
  | lprofSet (dt : Nat) (host : Fin 4)
  /-- NBR_PIN (R336): LINK 0x0512 pins or releases a neighbour entry. -/
  | nbrPin (dt : Nat) (host : Fin 4)
  /-- LINK_COUNTERS (R337): LINK 0x0513 returns the link counts. -/
  | linkCounters (dt : Nat) (host : Fin 4)
  /-- PLC_MODE_APPLY (R341): A MODE change takes effect, ends transmission, clears queues and nodes and starts retraining. -/
  | plcModeApply (dt : Nat)
  /-- PLC_RETRAIN_END (R341): The 50 mc of retraining after a mode change ends. -/
  | plcRetrainEnd (dt : Nat)
  /-- PLC_DRIVER_MUTE (R344): The line side mutes the enabled driver when transmit samples are missing for two superframes. -/
  | plcDriverMute (dt : Nat)
  /-- PLC_NOISE_UPDATE (R350): At a cycle boundary SE12 averages the bin noise and re-evaluates noisy bins. -/
  | plcNoiseUpdate (dt : Nat) (meas : List (Option Int))
  /-- PLC_TX_DUE (R351): A power-line entry falls due and SE12 runs the channel access of its MAC. -/
  | plcTxDue (dt : Nat)
  /-- PLC_FRAME_START (R351): After channel access, the frame starts at the first quiet phase, after carrier sense over the preceding 1 ms. -/
  | plcFrameStart (dt : Nat) (csmaFail busy : Bool)
  /-- PLC_NO_WINDOW (R352): A frame not started within START_LIMIT_MC of its key is dropped as no-window. -/
  | plcNoWindow (dt : Nat)
  /-- PLC_FRAME_RECEIVE (R355): SE12 receives a power-line frame, stamps it, records its zero-crossing offset and passes it to the MAC. -/
  | plcFrameReceive (dt : Nat) (frame : PlcFrame)
  /-- PLC_THERMAL (R347): The driver junction reaches 140 °C, so 6 dB of attenuation is added until it falls below 125 °C. -/
  | plcThermal (dt : Nat)
  /-- PLC_NODE_AGE (R361): A domain node silent for NODE_AGE days is freed with its zero-crossing record. -/
  | plcNodeAge (dt : Nat) (node : Nat)
  /-- PLC_SET (R364): PLC 0x0601 changes the port fields. -/
  | plcSet (dt : Nat) (host : Fin 4)
  /-- PLC_STATUS (R365): PLC 0x0602 returns the port counts. -/
  | plcStatus (dt : Nat) (host : Fin 4)
  /-- NOISE_READ (R366): PLC 0x0603 returns the noise map. -/
  | noiseRead (dt : Nat) (host : Fin 4)
  /-- ZC_READ (R367): PLC 0x0604 returns a node's zero-crossing record. -/
  | zcRead (dt : Nat) (host : Fin 4)
  /-- FIRMWARE_UNPACK (R371): Firmware unpacks a frame marked transport not unpacked and pushes it back onto Q2, or drops it. -/
  | firmwareUnpack (dt : Nat)
  /-- SESSION_STAGE (R378): A Q2 entry passes context lookup, authentication, decryption, counter check and APDU parsing. -/
  | sessionStage (dt : Nat)
  /-- ECDSA_VERIFY (R382): A waiting signed APDU has its ECDSA P-256 signature verified before its content is handled. -/
  | ecdsaVerify (dt : Nat) (ok : Bool)
  /-- DATABLOCK_TIMEOUT (R389): A datablock assembly with no block for 3,000 mc is discarded. -/
  | datablockTimeout (dt : Nat) (meter : Nat)
  /-- PREV_KEY_EXPIRE (R384): 180,000 mc after a key change the previous key is dropped. -/
  | prevKeyExpire (dt : Nat) (meter : Nat)
  /-- NORMALISE (R394): Cluster 0 turns a parsed APDU into Reading Records and removes duplicates. -/
  | normalise (dt : Nat)
  /-- PAIR_HOLD_TIMEOUT (R400): No Yoke acknowledgement arrives within 1 mc, so IG6 releases the held records. -/
  | pairHoldTimeout (dt : Nat)
  /-- CONTEXT_WRITEBACK (R375): A changed context is written back to the NAND context store within 3,000 mc. -/
  | contextWriteback (dt : Nat) (meter : Nat)
  /-- BURST_CREDIT_UPDATE (R401): Each second BURST_CREDIT falls or rises with the processed rate. -/
  | burstCreditUpdate (dt : Nat)
  /-- METER_ADMIT (R407): METER 0x0701 admits a meter into a free context in Joining. -/
  | meterAdmit (dt : Nat) (host : Fin 4)
  /-- METER_RETIRE (R408): METER 0x0702 retires a meter or frees a Retired context. -/
  | meterRetire (dt : Nat) (host : Fin 4)
  /-- METER_READ (R409): METER 0x0703 returns a meter context. -/
  | meterRead (dt : Nat) (host : Fin 4)
  /-- PARSE_SET (R410): METER 0x0704 changes a parse profile. -/
  | parseSet (dt : Nat) (host : Fin 4)
  /-- INGEST_COUNTERS (R411): METER 0x0705 returns the ingest counts. -/
  | ingestCounters (dt : Nat) (host : Fin 4)
  /-- METER_FIND (R412): METER 0x0706 finds a context by system title. -/
  | meterFind (dt : Nat) (host : Fin 4)
  /-- VALIDATE (R424): Cluster 1 evaluates a record's rules, creates estimates, replacements and versions, and pushes records onto Q5 and Q6. -/
  | validate (dt : Nat)
  /-- VEE_PROFILE_SET (R445): VEE 0x0801 changes a VEE profile. -/
  | veeProfileSet (dt : Nat) (host : Fin 4)
  /-- VEE_SHAPE_SET (R446): VEE 0x0802 loads a load shape. -/
  | veeShapeSet (dt : Nat) (host : Fin 4)
  /-- VEE_METER_SET (R447): VEE 0x0803 writes a meter's VEE declarations. -/
  | veeMeterSet (dt : Nat) (host : Fin 4)
  /-- VEE_EDIT (R448): VEE 0x0804 emits a host edit or releases one. -/
  | veeEdit (dt : Nat) (host : Fin 4)
  /-- VEE_ESTIMATE (R449): VEE 0x0805 fills a span with estimates. -/
  | veeEstimate (dt : Nat) (host : Fin 4)
  /-- VEE_COUNTERS (R450): VEE 0x0806 returns the validation counts. -/
  | veeCounters (dt : Nat) (host : Fin 4)
  /-- TOPO_SAMPLE (R457): Cluster 2 reads a committed record from the commit log and accumulates topology samples. -/
  | topoSample (dt : Nat)
  /-- BAL_COMPILE (R478): At REPORT_DELAY after a UTC day, the day is compiled for balance, fit, topology and scores. -/
  | balCompile (dt : Nat)
  /-- TOPO_READ (R487): BAL 0x0901 returns a meter's topology result. -/
  | topoRead (dt : Nat) (host : Fin 4)
  /-- TOPO_PIN (R488): BAL 0x0902 pins or releases a meter's assignment. -/
  | topoPin (dt : Nat) (host : Fin 4)
  /-- BAL_FEEDER_SET (R489): BAL 0x0903 sets a feeder phase's loss settings. -/
  | balFeederSet (dt : Nat) (host : Fin 4)
  /-- BAL_REPORT_READ (R490): BAL 0x0904 returns a daily summary. -/
  | balReportRead (dt : Nat) (host : Fin 4)
  /-- SCORE_READ (R491): BAL 0x0905 returns a meter's score. -/
  | scoreRead (dt : Nat) (host : Fin 4)
  /-- BAL_COUNTERS (R492): BAL 0x0906 returns the balance counts. -/
  | balCounters (dt : Nat) (host : Fin 4)
  /-- BAL_RECOMPILE (R493): BAL 0x0907 compiles a day's balance and scoring again. -/
  | balRecompile (dt : Nat) (host : Fin 4)
  /-- RECORD_PACK (R524): SE13 takes a record from Q5 and packs it into the open record page, closing the page when full. -/
  | recordPack (dt : Nat)
  /-- PAGE_FLUSH (R524): FLUSH_MC after a page's first record, the page is flushed with padding and parity. -/
  | pageFlush (dt : Nat)
  /-- PAGE_PROGRAM_DONE (R512): A NAND program completes and pages that have become durable are committed. -/
  | pageProgramDone (dt : Nat) (die : Nat) (ok : Bool)
  /-- DIE_FAIL (R513): A die is declared failed and its rebuild starts. -/
  | dieFail (dt : Nat) (die : Nat)
  /-- DIE_REBUILD_DONE (R513): Every valid page of a failed die has been rebuilt onto other dies. -/
  | dieRebuildDone (dt : Nat) (die : Nat)
  /-- SPACE_RECOVERY (R530): SE13 collects a victim superblock, relocating its valid pages and erasing it. -/
  | spaceRecovery (dt : Nat) (fails : List Nat)
  /-- PATROL_READ (R532): SE13 reads valid pages on patrol and relocates weak ones. -/
  | patrolRead (dt : Nat) (corr : List Nat) (step : Nat) (second : Option Nat)
  /-- NAND_TEMP_READ (R533): Every 60 s each die's temperature is read and binned. -/
  | nandTempRead (dt : Nat) (temps : List (Nat × Int))
  /-- HOST_BLOCK_REQUEST (R522): SE13 takes a host block request when its completion has room and starts it. -/
  | hostBlockRequest (dt : Nat) (ring : Nat) (data : List (List Byte))
  /-- HOST_BLOCK_COMPLETE (R523): A host block request completes and its completion entry is pushed. -/
  | hostBlockComplete (dt : Nat) (n : Nat)
  /-- ARCH_QUERY_SCAN (R539): A running query scans record pages and pushes matching records, ending with its end record. -/
  | archQueryScan (dt : Nat) (host : Nat) (corr : List Nat) (step : Nat) (second : Option Nat)
  /-- EVENT_COPY (R766): SE13 copies 256 event records, or those waiting 60 s, from the MRAM ring to the event extension. -/
  | eventCopy (dt : Nat)
  /-- ARCH_HEALTH (R536): ARCH 0x0A01 returns the archive health report. -/
  | archHealth (dt : Nat) (host : Fin 4)
  /-- ARCH_DIE_READ (R537): ARCH 0x0A02 returns a die's report. -/
  | archDieRead (dt : Nat) (host : Fin 4)
  /-- ARCH_QUERY (R538): ARCH 0x0A03 starts a query of the record archive. -/
  | archQuery (dt : Nat) (host : Fin 4)
  /-- ARCH_QUERY_CANCEL (R540): ARCH 0x0A04 cancels the host's query. -/
  | archQueryCancel (dt : Nat) (host : Fin 4)
  /-- ARCH_FORMAT (R542): ARCH 0x0A05 formats the NAND archive. -/
  | archFormat (dt : Nat) (host : Fin 4)
  /-- ARCH_DIE_RETIRE (R543): ARCH 0x0A06 declares a die failed. -/
  | archDieRetire (dt : Nat) (host : Fin 4)
  /-- UPLINK_CONNECT (R549): The DQ9100 opens a TLS connection toward its upstream on the preferred port. -/
  | uplinkConnect (dt : Nat) (ok : Bool)
  /-- UPLINK_LINK_LOSS (R546): The upstream port loses link or fails to connect within 2 s, so the other port is tried. -/
  | uplinkLinkLoss (dt : Nat) (port : Nat) (lost : Bool)
  /-- CONNECTION_TIMEOUT (R561): A connection with no message received for 30 s is closed. -/
  | connectionTimeout (dt : Nat) (child : Option Nat)
  /-- KEEPALIVE_SEND (R561): After 10 s without sending, an end sends KEEPALIVE. -/
  | keepaliveSend (dt : Nat) (child : Option Nat)
  /-- BUNDLE_SEND (R568): SE14 sends a bundle once 256 committed records are held or BUNDLE_MAX_MS has passed. -/
  | bundleSend (dt : Nat)
  /-- HELLO (R550): A parent takes a child's HELLO, checks its identity and FORMAT_ID, and answers HELLO_ACK. -/
  | hello (dt : Nat) (port unit idHash formatId : Nat)
  /-- HELLO_ACK (R569): A child takes HELLO_ACK, checks its path bound and resends from NEXT_POS. -/
  | helloAck (dt : Nat) (status : Status) (nextPos bound credit depth : Nat)
  /-- BUNDLE (R557): A parent takes a BUNDLE, drops resent positions and passes the records on. -/
  | bundle (dt : Nat) (child seq first : Nat) (recs : List Record)
  /-- CIPHER (R555): A parent takes a CIPHER and stages its ciphertext entries for ingest. -/
  | cipher (dt : Nat) (child seq : Nat) (entries : List Q2Entry)
  /-- ACK (R556): A child takes an ACK and stores the acknowledged cursor. -/
  | ack (dt : Nat) (seq pos : Nat)
  /-- CREDIT (R560): A child takes a CREDIT grant that governs its sending. -/
  | credit (dt : Nat) (credit : Nat)
  /-- TIME_REQ_SEND (R563): Every 16 s the child sends TIME_REQ stamped with T1. -/
  | timeReqSend (dt : Nat)
  /-- TIME_REQ (R563): The parent takes TIME_REQ and answers TIME_RESP with T2 and T3. -/
  | timeReq (dt : Nat) (child t1 : Nat)
  /-- TIME_RESP (R563): The child takes TIME_RESP, stamps T4 and judges time qualification. -/
  | timeResp (dt : Nat) (t1 t2 t3 : Nat) (utc : Int) (anchored leap61 leap59 : Bool)
  /-- DOWN (R562): A child takes a DOWN and places its frame for transmission. -/
  | down (dt : Nat) (body : DownBody)
  /-- DOWN_RESULT (R562): A parent takes a DOWN_RESULT reporting the outcome of a DOWN. -/
  | downResult (dt : Nat) (child tag outcome : Nat)
  /-- KEEPALIVE (R561): A KEEPALIVE is received and restarts the idle timer. -/
  | keepalive (dt : Nat) (child : Option Nat)
  /-- HEAD_END_ACK (R551): The head end writes the next expected position into attribute 2 of 0-128:96.240.0.255. -/
  | headEndAck (dt : Nat) (pos : Nat)
  /-- UPL_STATUS (R573): UPL 0x0B01 returns uplink status. -/
  | uplStatus (dt : Nat) (host : Fin 4)
  /-- CHILD_READ (R574): UPL 0x0B02 returns a child's status. -/
  | childRead (dt : Nat) (host : Fin 4)
  /-- CHILD_SET (R575): UPL 0x0B03 names, enables or disables a child. -/
  | childSet (dt : Nat) (host : Fin 4)
  /-- FLEET_RESPONSE (R579): A response matching an open fleet request goes to SE15, which advances that request's state and sends the meter's next request. -/
  | fleetResponse (dt : Nat)
  /-- PUSH_RECOMPUTE (R588): SE15 recomputes confirmed members' activation times and rewrites attribute 10 where they moved. -/
  | pushRecompute (dt : Nat)
  /-- PUSH_ACTIVATE (R589): At the first cycle on or after the key, confirmed members become active and late members follow the late policy. -/
  | pushActivate (dt : Nat)
  /-- FLEET_CHECKPOINT (R583): Every 3,000 mc SE15 checkpoints the fleet area and definitions to SR4. -/
  | fleetCheckpoint (dt : Nat)
  /-- TOKEN_DELIVER (R596): Once its ledger entry is durable and mirrored, SE15 delivers the token to the meter. -/
  | tokenDeliver (dt : Nat)
  /-- CAMPAIGN_ROUND_START (R606): A multicast round of missing blocks starts. -/
  | campaignRoundStart (dt : Nat)
  /-- CAMPAIGN_BLOCK_SEND (R606): The next block of a round is sent GAP_MC after the previous one, inside the window. -/
  | campaignBlockSend (dt : Nat)
  /-- CAMPAIGN_ACTIVATE (R607): At ACT, image_activate is sent as multicast on the carriers serving verified members. -/
  | campaignActivate (dt : Nat)
  /-- PUSH_CREATE (R613): FLEET 0x0C01 creates a tariff push. -/
  | pushCreate (dt : Nat) (host : Fin 4)
  /-- PUSH_MEMBER (R614): FLEET 0x0C02 adds or removes push members. -/
  | pushMember (dt : Nat) (host : Fin 4)
  /-- PUSH_STATUS (R615): FLEET 0x0C03 returns a push's counts. -/
  | pushStatus (dt : Nat) (host : Fin 4)
  /-- PUSH_CANCEL (R592): FLEET 0x0C04 cancels a push. -/
  | pushCancel (dt : Nat) (host : Fin 4)
  /-- TOKEN_SEND (R616): FLEET 0x0C10 queues a token for a meter after the ledger check. -/
  | tokenSend (dt : Nat) (host : Fin 4)
  /-- LEDGER_NOTE (R598): FLEET 0x0C11 records a token delivered by another path. -/
  | ledgerNote (dt : Nat) (host : Fin 4)
  /-- LEDGER_READ (R617): FLEET 0x0C12 returns an account's ledger block. -/
  | ledgerRead (dt : Nat) (host : Fin 4)
  /-- FLEET_METER_SET (R617): FLEET 0x0C13 sets a meter's ledger account. -/
  | fleetMeterSet (dt : Nat) (host : Fin 4)
  /-- CAMP_CREATE (R618): FLEET 0x0C20 creates a campaign. -/
  | campCreate (dt : Nat) (host : Fin 4)
  /-- CAMP_LOAD (R619): FLEET 0x0C21 loads a piece of a campaign image. -/
  | campLoad (dt : Nat) (host : Fin 4)
  /-- CAMP_MEMBER (R614): FLEET 0x0C22 adds or removes campaign members. -/
  | campMember (dt : Nat) (host : Fin 4)
  /-- CAMP_START (R620): FLEET 0x0C23 starts a ready campaign. -/
  | campStart (dt : Nat) (host : Fin 4)
  /-- CAMP_STATUS (R620): FLEET 0x0C24 returns a campaign's status. -/
  | campStatus (dt : Nat) (host : Fin 4)
  /-- CAMP_CANCEL (R610): FLEET 0x0C25 cancels a campaign. -/
  | campCancel (dt : Nat) (host : Fin 4)
  /-- DOORBELL_CMD (R635): A host writes HOST.DOORBELL.CMD and CMD_FREE drops until the take. -/
  | doorbellCmd (dt : Nat) (host : Fin 4) (hdr : CmdHeader) (payload : List Byte)
  /-- COMMAND_TAKE (R641): At the end of an arbitration tick, commands are taken, checked, arbitrated and dispatched. -/
  | commandTake (dt : Nat)
  /-- RESP_ACK (R637): A host writes HOST.DOORBELL.RESP_ACK and the next queued response is delivered. -/
  | respAck (dt : Nat) (host : Fin 4)
  /-- DETACH (R624): A host writes HOST.DOORBELL.DETACH and goes offline. -/
  | detach (dt : Nat) (host : Fin 4)
  /-- HOST_OFFLINE (R624): A PCIe function's link goes down or takes a reset, so its host goes offline and its leases and queues end. -/
  | hostOffline (dt : Nat) (host : Fin 4)
  /-- COLLAR_HALFWORD_READ (R627): A Host Local Bus read of a Collar low half-word latches all 32 bits for that chip select. -/
  | collarHalfwordRead (dt : Nat) (cs : Fin 2) (off : Nat)
  /-- RING_PROD_WRITE (R658): A host writes PROD of its request ring, checked against DEPTH and monotonicity. -/
  | ringProdWrite (dt : Nat) (host : Fin 4) (ordinal prod : Nat) (items : List (List Byte))
  /-- RING_CONS_WRITE (R658): A host writes CONS of a ring it consumes, freeing room for held items. -/
  | ringConsWrite (dt : Nat) (host : Fin 4) (ordinal cons : Nat)
  /-- REGISTER_WRITE (R630): A host writes a register with no row of its own, clearing its own W1C copies. -/
  | registerWrite (dt : Nat) (host : Fin 4) (off : Nat) (half : Option Bool) (value : Word)
  /-- LEASE_EXPIRE (R654): A lease reaches DURATION_MS since its last grant and ends, setting LEASE_LOST. -/
  | leaseExpire (dt : Nat)
  /-- SYS_INFO (R655): SYS 0x0101 returns device information. -/
  | sysInfo (dt : Nat) (host : Fin 4)
  /-- LEASE_TAKE (R652): SYS 0x0110 takes, renews or breaks a lease. -/
  | leaseTake (dt : Nat) (host : Fin 4)
  /-- LEASE_RELEASE (R653): SYS 0x0111 releases a lease. -/
  | leaseRelease (dt : Nat) (host : Fin 4)
  /-- LEASE_READ (R653): SYS 0x0112 returns the host's leases. -/
  | leaseRead (dt : Nat) (host : Fin 4)
  /-- KEY_STATUS (R689): KEY 0x0D01 returns key store status. -/
  | keyStatus (dt : Nat) (host : Fin 4)
  /-- KEY_LOAD (R690): KEY 0x0D02 stages a piece of a Key Update Message. -/
  | keyLoad (dt : Nat) (host : Fin 4)
  /-- KEY_APPLY (R677): KEY 0x0D03 checks the staged KUM and starts applying it. -/
  | keyApply (dt : Nat) (host : Fin 4) (sigOk : Bool)
  /-- KEY_APPLY_COMPLETE (R680): Changes are durable, sealed and mirrored, so the counter is updated and KEY_APPLY's final response is sent. -/
  | keyApplyComplete (dt : Nat)
  /-- SLOT_READ (R692): KEY 0x0D04 returns a slot's public description. -/
  | slotRead (dt : Nat) (host : Fin 4)
  /-- ATTEST (R693): KEY 0x0D05 starts a signed attestation statement. -/
  | attest (dt : Nat) (host : Fin 4)
  /-- ATTEST_COMPLETE (R685): The attestation statement has been signed and is returned in the final response. -/
  | attestComplete (dt : Nat)
  /-- FWU_STATUS (R717): FWU 0x0E01 returns update status. -/
  | fwuStatus (dt : Nat) (host : Fin 4)
  /-- FWU_BEGIN (R718): FWU 0x0E02 begins or resumes a staging. -/
  | fwuBegin (dt : Nat) (host : Fin 4) (head : Option (List Byte))
  /-- FWU_BEGIN_COMPLETE (R708): The erase of the Staging sectors finishes and FWU_BEGIN completes. -/
  | fwuBeginComplete (dt : Nat)
  /-- FWU_LOAD (R719): FWU 0x0E03 writes a piece into Staging. -/
  | fwuLoad (dt : Nat) (host : Fin 4) (head : Option (List Byte))
  /-- FWU_FINISH (R720): FWU 0x0E04 starts the check of the staged image. -/
  | fwuFinish (dt : Nat) (host : Fin 4) (head : Option (List Byte))
  /-- FWU_FINISH_COMPLETE (R720): The staged image check ends and Staging is armed or failed. -/
  | fwuFinishComplete (dt : Nat) (sigOk resOk : Bool)
  /-- FWU_ABORT (R721): FWU 0x0E05 empties Staging. -/
  | fwuAbort (dt : Nat) (host : Fin 4) (head : Option (List Byte))
  /-- FWU_FLOOR (R722): FWU 0x0E06 raises the rollback floor. -/
  | fwuFloor (dt : Nat) (host : Fin 4)
  /-- HEARTBEAT_RECEIVE (R728): A heartbeat arrives by pin or lane, is judged good and drives pair transitions, side clash and dual-active yielding. -/
  | heartbeatReceive (dt : Nat) (hb : HbMsg) (mark : LaneSeal)
  /-- HEARTBEAT_MISS (R729): A heartbeat deadline passes without a good heartbeat, adding a miss; the third miss leads to takeover or Solo. -/
  | heartbeatMiss (dt : Nat)
  /-- LISTEN_END (R730): LISTEN_MC after a start ends and the unit becomes Solo, Active or stays in Standby. -/
  | listenEnd (dt : Nat)
  /-- YOKE_LANE_CHANGE (R730): The Yoke lane comes up or drops. -/
  | yokeLaneChange (dt : Nat) (up : Bool)
  /-- DELTA (R737): The partner applies a mirrored delta and acknowledges it. -/
  | delta (dt : Nat) (jseq : Nat) (body : DeltaBody) (mark : LaneSeal)
  /-- YOKE_ACKNOWLEDGEMENT (R736): The active unit takes an acknowledgement covering every lower JSEQ. -/
  | yokeAcknowledgement (dt : Nat) (jseq : Nat) (mark : LaneSeal)
  /-- SNAPSHOT (R741): A resyncing unit applies a snapshot item. -/
  | snapshot (dt : Nat) (jseq : Nat) (body : DeltaBody) (mark : LaneSeal)
  /-- SNAPSHOT_END (R741): A resyncing unit takes the snapshot end and applies the journal deltas. -/
  | snapshotEnd (dt : Nat) (jseq : Nat) (mark : LaneSeal)
  /-- SYNC_LOST (R740): The partner takes SYNC_LOST and returns to Standby. -/
  | syncLost (dt : Nat) (mark : LaneSeal)
  /-- MIRROR_PERIODIC (R736): The active unit sends the periodic deltas of register images and open demand state. -/
  | mirrorPeriodic (dt : Nat)
  /-- RESYNC_RETRY (R742): 3,000 mc after a journal overflow, the unit begins resynchronisation again. -/
  | resyncRetry (dt : Nat)
  /-- REVERT_HOLDOFF (R746): A returned SIDE 0 unit in InSync for HOLDOFF_MC sets REVERT_REQ. -/
  | revertHoldoff (dt : Nat)
  /-- HANDOVER (R747): At cycle boundary K the active unit hands over and the InSync unit becomes Active. -/
  | handover (dt : Nat)
  /-- PAIR_STATUS (R752): PAIR 0x0F01 returns pair status. -/
  | pairStatus (dt : Nat) (host : Fin 4)
  /-- PAIR_SWITCH (R753): PAIR 0x0F02 places a planned handover or forces Solo. -/
  | pairSwitch (dt : Nat) (host : Fin 4)
  /-- PAIR_LOCK (R754): PAIR 0x0F03 blows a pair role lock. -/
  | pairLock (dt : Nat) (host : Fin 4)
  /-- EVENT_RAISE (R760): The event recorder front end takes an event from Q10, rate-limits it, snapshots registers and writes the record. -/
  | eventRaise (dt : Nat)
  /-- BUCKET_REFILL (R765): A code's bucket becomes full with suppressed events counted, so a SUPPRESSED record is written. -/
  | bucketRefill (dt : Nat) (code : Nat)
  /-- OP_TIME_CHECKPOINT (R757): Operating time reaches a multiple of 64 s and is checkpointed to MRAM. -/
  | opTimeCheckpoint (dt : Nat)
  /-- EVT_STATUS (R779): EVT 0x1001 returns recorder status with time read at one instant. -/
  | evtStatus (dt : Nat) (host : Fin 4)
  /-- EVT_READ (R780): EVT 0x1002 returns matching event records. -/
  | evtRead (dt : Nat) (host : Fin 4)
  /-- EVT_CODE_READ (R781): EVT 0x1003 returns a code's catalogue entry. -/
  | evtCodeRead (dt : Nat) (host : Fin 4)
  /-- EVT_CODE_SET (R782): EVT 0x1004 overrides a code's rate, burst and snapshot list. -/
  | evtCodeSet (dt : Nat) (host : Fin 4)
  /-- EVT_CLEAR (R783): EVT 0x1005 empties the ring, resets ESEQ and starts the extension trim. -/
  | evtClear (dt : Nat) (host : Fin 4)
  /-- EVT_CLEAR_COMPLETE (R783): The extension trim is durable and EVT_CLEAR completes. -/
  | evtClearComplete (dt : Nat)
  /-- EVT_MLOG_READ (R784): EVT 0x1006 returns metrological log entries. -/
  | evtMlogRead (dt : Nat) (host : Fin 4)
  /-- EVT_POST (R785): EVT 0x1007 posts a host event. -/
  | evtPost (dt : Nat) (host : Fin 4)
  /-- POWER_STATE_ENTRY (R805): The supervisor executes WAIT for Doze or Hold, and the check phase and commit run. -/
  | powerStateEntry (dt : Nat) (target : Nat) (commit : Bool)
  /-- WAKE (R811): A wake source ends Doze or Hold, or aborts an entry before commit. -/
  | wake (dt : Nat) (source : Nat)
  /-- CLUSTER_GATE (R804): A cluster idle with empty input rings for 1,000 ec is gated in Trim. -/
  | clusterGate (dt : Nat) (cluster : Fin 4)
  /-- CLUSTER_UNGATE (R804): A push to a gated cluster's input ring ungates it. -/
  | clusterUngate (dt : Nat) (cluster : Fin 4)
  /-- REARM_EXECUTE (R812): A shutdown or power-up completes and the held Re-arm executes. -/
  | rearmExecute (dt : Nat)
  /-- THERMAL_WARN (R814): The logic junction reaches 105 °C, setting HOT and THERMAL and logging an event. -/
  | thermalWarn (dt : Nat) (tjDc : Int)
  /-- THERMAL_STOP (R814): The junction stays at or above 115 °C for 1 s, so Hem runs and the logic side parks. -/
  | thermalStop (dt : Nat) (tjDc : Int)
  /-- THERMAL_RESTART (R814): After a thermal stop the junction falls below 100 °C and the logic side warm-resets. -/
  | thermalRestart (dt : Nat) (view : BootView)
  /-- PWR_STATUS (R818): PWR 0x1101 returns power status. -/
  | pwrStatus (dt : Nat) (host : Fin 4)
  /-- PWR_TOLERANCE (R819): PWR 0x1102 states or withdraws the caller's wake tolerance. -/
  | pwrTolerance (dt : Nat) (host : Fin 4)
  /-- PWR_COUNTERS (R820): PWR 0x1103 returns the power counts. -/
  | pwrCounters (dt : Nat) (host : Fin 4)
  /-- ISLANDED_TRIGGER (R829): The upstream has not been up for ISLAND_MC, so the Islanded trigger becomes active. -/
  | islandedTrigger (dt : Nat)
  /-- CFG_STATUS (R837): CFG 0x1201 returns configuration status. -/
  | cfgStatus (dt : Nat) (host : Fin 4)
  /-- CFG_LOAD (R837): CFG 0x1202 stages a piece of a configuration image. -/
  | cfgLoad (dt : Nat) (host : Fin 4)
  /-- CFG_APPLY (R824): CFG 0x1203 checks the staged image and starts moving it into force. -/
  | cfgApply (dt : Nat) (host : Fin 4) (image : CfgImage)
  /-- CFG_APPLY_COMPLETE (R826): The store moves end and the stored CFG_VERSION is raised. -/
  | cfgApplyComplete (dt : Nat)
  /-- CFG_OVERLAY (R830): CFG 0x1204 selects an overlay at a cycle start. -/
  | cfgOverlay (dt : Nat) (host : Fin 4)
  /-- CFG_SCHEMA (R837): CFG 0x1205 returns schema entries. -/
  | cfgSchema (dt : Nat) (host : Fin 4)
  /-- CFG_FUSES (R837): CFG 0x1206 returns the limited-count fuse settings. -/
  | cfgFuses (dt : Nat) (host : Fin 4)
  /-- LINE_SIDE_FRAME_RECEIVE (R28): The line side receives a logic-to-line Seam frame and acts on it: a legal-write acknowledgement stops the repeat, and metrology control, driver control, management requests and Lining image deliveries are applied, with legal-parameter frames ignored and counted. -/
  | lineSideFrameReceive (dt : Nat) (frame : SeamFrame LineRx)
  /-- PLC_FRAME_END (R352): A power-line transmission ends, the port becomes free for the next waiting entry in key order, and the acknowledgement wait of the frame begins. -/
  | plcFrameEnd (dt : Nat) (ilim : Bool)
  /-- PLC_THERMAL_RECOVER (R347): The power-line driver junction falls below 125 °C and the added 6 dB of attenuation is removed. -/
  | plcThermalRecover (dt : Nat)
  /-- THERMAL_CLEAR (R814): The logic junction falls below 100 °C and PWR.STAT.HOT clears. -/
  | thermalClear (dt : Nat) (tjDc : Int)
  /-- CONVERTER_FEEDBACK_LOSS (R800): The framed Seam channel has been down for more than 10 ms, so the converter controller returns to primary-side regulation. -/
  | converterFeedbackLoss (dt : Nat)
  /-- FORMAT_COMPLETE (R542): A running archive format finishes erasing, forming stripe groups and writing the journal; the archive becomes ready, the event extension is emptied with an EXT_LOST record, and the acknowledged cursor and FORMAT_ID are renewed. -/
  | formatComplete (dt : Nat)
  /-- NAND_OPERATION_TIMEOUT (R513): A NAND operation on a die times out and is counted toward the three timeouts within 10 min that fail the die. -/
  | nandOperationTimeout (dt : Nat) (die : Nat)
  /-- AGC_OVERLOAD (R266): The total in-capture power at a front end's receive land exceeds −40 dBm, so the AGC lowers the gain and RADIO.STAT.OVLD_A or OVLD_B is set. -/
  | agcOverload (dt : Nat) (fe : Nat)
deriving DecidableEq, Repr

end Sys2Proof
end

