-- ==== Sys2Proof/Decode.lean ====
section
/-! DEFINITION. The decoder of table words. The rows of the opcode table give no bits: the commands of this block are register
accesses, messages and events, and no word spells one. -/

namespace Sys2Proof

/-- The command that a word spells by the table's bits: no row gives any, so no word spells a command. -/
def decodeTableWord (nbits w : Nat) : Option Instr :=
  match nbits, w with
  | _, _ => none

end Sys2Proof
end

