-- ==== Sys2Proof/Machine/EvName.lean ====
section
/-! DEFINITION. The events that the rules of the spec require, by name, and the class of the block manager that owns each
(R758, R884). The catalogue's numbers are not in the spec (log entry 9). -/

namespace Sys2Proof.Machine

/-- The events that a rule requires. -/
inductive EvName
  -- SYS
  | seamOutage | engineHalt | engineItem | lockstep | eccUncorr | fabricPlan | leaseBreak
  -- TIME
  | countMoved | realigned | freqOff | anchored | timeStep | heldBackward | sourceLoss
  -- METRO
  | calFallback
  -- REG
  | tariffInvalid | reversal | seriesMissed | pqStart | pqEnd | pulseLost | pulseDebt
  -- LINK
  | dutyDefer | wurHit | nbrFull | meterDrifting | meterLost | meterBack | joinExpired
  -- PLC
  | plcMode | plcFull
  -- METER
  | admitRefused | icRestart | authFails | icExhausted | apduDropped
  -- VEE
  | versionFull | veeEdit | estimateNone
  -- BAL
  | balAlert
  -- ARCH
  | dieAbsent | dieFail | archUncorr | archReadOnly
  -- UPL
  | childRefused | bodyMalformed | cursorReset | pathBound
  -- FLEET
  | campHash
  -- KEY
  | kumReject
  -- FWU
  | stagingDropped
  -- PAIR
  | syncLost | journalFull | takeover | sideClash | dualActive | handover
  -- PWR
  | thermal
  -- CFG
  | cfgFallback
deriving DecidableEq, Repr

/-- The class code of the owning block manager (R758, the class table of the control hierarchy; DEDUCED, log entry 9). -/
def EvName.cls : EvName → Nat
  | .seamOutage | .engineHalt | .engineItem | .lockstep | .eccUncorr | .fabricPlan | .leaseBreak => 0x01
  | .countMoved | .realigned | .freqOff | .anchored | .timeStep | .heldBackward | .sourceLoss => 0x02
  | .calFallback => 0x03
  | .tariffInvalid | .reversal | .seriesMissed | .pqStart | .pqEnd | .pulseLost | .pulseDebt => 0x04
  | .dutyDefer | .wurHit | .nbrFull | .meterDrifting | .meterLost | .meterBack | .joinExpired => 0x05
  | .plcMode | .plcFull => 0x06
  | .admitRefused | .icRestart | .authFails | .icExhausted | .apduDropped => 0x07
  | .versionFull | .veeEdit | .estimateNone => 0x08
  | .balAlert => 0x09
  | .dieAbsent | .dieFail | .archUncorr | .archReadOnly => 0x0A
  | .childRefused | .bodyMalformed | .cursorReset | .pathBound => 0x0B
  | .campHash => 0x0C
  | .kumReject => 0x0D
  | .stagingDropped => 0x0E
  | .syncLost | .journalFull | .takeover | .sideClash | .dualActive | .handover => 0x0F
  | .thermal => 0x11
  | .cfgFallback => 0x12

/-- Every event that a rule requires. -/
def requiredEvents : List EvName :=
  [.seamOutage, .engineHalt, .engineItem, .lockstep, .eccUncorr, .fabricPlan, .leaseBreak, .countMoved, .realigned, .freqOff,
   .anchored, .timeStep, .heldBackward, .sourceLoss, .calFallback, .tariffInvalid, .reversal, .seriesMissed, .pqStart, .pqEnd,
   .pulseLost, .pulseDebt, .dutyDefer, .wurHit, .nbrFull, .meterDrifting, .meterLost, .meterBack, .joinExpired, .plcMode, .plcFull,
   .admitRefused, .icRestart, .authFails, .icExhausted, .apduDropped, .versionFull, .veeEdit, .estimateNone, .balAlert, .dieAbsent,
   .dieFail, .archUncorr, .archReadOnly, .childRefused, .bodyMalformed, .cursorReset, .pathBound, .campHash, .kumReject,
   .stagingDropped, .syncLost, .journalFull, .takeover, .sideClash, .dualActive, .handover, .thermal, .cfgFallback]

end Sys2Proof.Machine
end

