-- ==== Sys2Proof/Config.lean ====
section
/-! DEFINITION. What the spec leaves open, as constants without a body: nothing can be proved of their values. -/

namespace Sys2Proof.Config

open Machine

/-- The n-th free value taken (log entry 10). -/
opaque freeNat : Nat → Nat

/-- The number of an event within its class (R758, R884; log entry 9). -/
opaque evtNumber : EvName → Nat

/-- The severity that the catalogue gives a code (R763, R884; log entry 9). -/
opaque evtSeverity : Nat → Nat

/-- The catalogue's default RATE, BURST and snapshot list of a code, and whether it is of extended form (R763; log entry 9). -/
opaque evtRate : Nat → Nat
/-- The catalogue's default BURST of a code (R763). -/
opaque evtBurst : Nat → Nat
/-- The catalogue's default snapshot list of a code (R761). -/
opaque evtSnap : Nat → List Nat
/-- Whether a code number is known to release 3.2 (R781). -/
opaque evtKnown : Nat → Bool
/-- FORM of a code: extended or not (R763). -/
opaque evtExtended : Nat → Bool

/-- The INCR that the servo chooses after a measured offset and mean path delay, from the INCR in force (R133; the servo's
law is not stated). -/
opaque servoIncr : Int → Nat → Nat → Nat

/-! ### The seals of the Lining: AES-CMAC tags under the line-side seal key, its first argument (R169; log entry 8) -/

/-- The seal of a calibration image, whose own tag stands at 0. -/
opaque calSeal : Nat → CalImage → Nat

/-- The seal of a copy of a register: of the register, the number of the write and the value (R193). -/
opaque regSeal : Nat → Nat → Nat → Nat → Nat

/-- The seal of a copy of the rate selector: of the number of the write, the rate and the pending rate (R228). -/
opaque rateSeal : Nat → Nat → Nat → Option (Nat × Nat) → Nat

/-- The seal of a block of the metrological log (R774). -/
opaque logSeal : Nat → List MlogEntry → Nat

/-! ### The Seam (R23; log entry 439) -/

/-- TYPE of a position, towards the logic side or towards the line side. -/
opaque seamType : Bool → Nat → BitVec 4

/-- The CRC-16 of bits 99:16 of a frame. -/
opaque crc16 : BitVec 84 → BitVec 16

/-! ### What the DSP's arithmetic leaves open -/

/-- What the mean and the orders above 63 of a voltage and a current channel add to mean(v′·i) (Y3 states v′ for orders 1 to 63). -/
opaque quadratureRest : ChanIn → ChanIn → Int

/-- SPREAD_PPM of values whose mean is 0 (R182). -/
opaque voidSpread : Nat

/-- The depth of a device ring Q0–Q9 or Q11, less one (R49; the depths are not stated). -/
opaque ringDepthLess : Nat → Nat

/-- The depth of a device ring: at least one entry (R47, R49). -/
def ringDepth (ring : Nat) : Nat := ringDepthLess ring + 1

/-- Width in Hz of the channel that a wake sequence occupies (R289 states none). -/
opaque wakeWidthHz : Nat

/-- On-air time in ns of a frame of a PHY code and a number of bytes, by the PHY's own standard (R314). -/
opaque frameAirNs : Nat → Nat → Nat

/-- The bytes of an acknowledgement that a MAC builds: frame version, sequence number, Frame Pending, time correction in µs
(R313; the layouts are the IEEE 802.15.4 standard's). -/
opaque ackBytes : Nat → Nat → Bool → Int → List Byte

/-- The circular deviation of a node's zero-crossing offsets after one more: of the deviation before, the mean before and the new
offset (ZC4 of R358; its averaging is not stated). -/
opaque zcSpread : Nat → Nat → Nat → Nat

/-- The pt since a node's zero crossing that the phase-detection field of G.9903 spells (R356; log entry 3). -/
opaque zcPhase : Nat → Nat

/-- The 16 bytes of DB_STATE while an assembly is open (MC33; their layout is not stated): of its invocation, next block, bytes and
last key. -/
opaque dbStateBytes : Nat → Nat → Nat → Nat → List Byte

/-- Whether the quotient of a dividend and a divisor, in a place where a rule gives no rounding, is rounded up rather than down
(log entry 15). -/
opaque roundsUp : Int → Nat → Bool

/-- The correlation of samples of which one does not vary, by n and the five sums, in 2⁻⁶⁰ (R457, R473 state none; log entry 22). -/
opaque voidCorr : List Int → Int

/-- The coverage of a line with no (assigned meter, interval) pair, in 0.001 % (R468 states none; log entry 22). -/
opaque voidCover : Nat

/-! ### The Pocket's cryptography, uninterpreted (log entry 8) -/

/-- ID_HASH of the identity under the production or the test root of a unit of that SERIAL, 256 bits (R668). -/
opaque idHashBits : Bool → Nat → BitVec 256

/-- ID_HASH as a little-endian number (R668). -/
def idHash (testRoot : Bool) (serial : Nat) : Nat := (idHashBits testRoot serial).toNat

/-- The public key in force in slot 0, x then y (R668). -/
opaque identityKey : Bool → Nat → List Byte

/-- The public key of slot 1 (KD3). -/
opaque agreementKey : Bool → Nat → List Byte

/-- A 32-byte key wrapped under the unit's KD4 for a meter index, 40 bytes as a number (R670): of the root in force, SERIAL, index and
key. -/
opaque wrapKey : Bool → Nat → Nat → List Byte → Nat

/-- The public key that belongs to imported material of a TYPE: of a private scalar or a public key; empty for secrets (R692). -/
opaque publicPart : Nat → List Byte → List Byte

/-- The public key of a pair generated by the Pocket for a TYPE from a free value (R679). -/
opaque generatedKey : Nat → Nat → List Byte

/-- The x-coordinate of the ECDH point that a P-384 public key shares with slot 1 under the root in force of a unit of that SERIAL (R674). -/
opaque ecdhX : Bool → Nat → List Byte → List Byte

/-- HKDF-SHA-384 of a salt, input key material and info (R674). -/
opaque hkdf384 : List Byte → List Byte → List Byte → List Byte

/-- The 32 bytes that a wrapped key of a meter context holds under KD4 of the root in force, for a SERIAL and meter index (R670). -/
opaque unwrapKey : Bool → Nat → Nat → Nat → List Byte

/-- The n-th byte of the AES-GCM key stream of a key, 128 or 256 bits, and an IV (R381, R674). -/
opaque gcmStream : List Byte → List Byte → Nat → Byte

/-- The 16-byte AES-GCM tag under a key and an IV of additional data and ciphertext (R381, R674). -/
opaque gcmTag : List Byte → List Byte → List Byte → List Byte → BitVec 128

/-- An ECDSA signature over bytes by the private key that belongs to a public one, which depends on a free value (R554, R685). -/
opaque signature : List Byte → Nat → List Byte → List Byte

/-- SHA-256 of bytes (R600, R698). -/
opaque sha256Bits : List Byte → BitVec 256

/-- SHA-256 of bytes, as a little-endian number (R600, R698). -/
def sha256 (bytes : List Byte) : Nat := (sha256Bits bytes).toNat

/-- The bytes of the unicast APDU of a fleet request: of the request, meter, invoke-id and what it carries (R577, R587; the coding and
the ciphering under the meter's session keys are the DLMS/COSEM standard's). -/
opaque fleetApdu : FleetReq → Nat → Nat → List Byte → List Byte

/-- The bytes of a multicast APDU under the broadcast key of a slot: of the slot, invocation counter, 0 for a block or 1 for
image_activate, block number and the block's bytes (R605, R607; the coding is the DLMS/COSEM standard's). -/
opaque multicastApdu : Nat → Nat → Nat → Nat → List Byte → List Byte

/-- The full image that a delta makes of the Active image (R703; the delta's coding is not stated). -/
opaque applyDelta : List Byte → List Byte → List Byte

/-- The data of a delta or snapshot item, in the layouts of the rules that MD1–MD6 name (R736; those of demand state, scheduler entries and
balance accumulators are not stated). -/
opaque deltaData : DeltaBody → List Byte

/-- A key that a delta carries, wrapped again under this unit's KD4: of the root in force, SERIAL, meter index and the partner's wrapped
key (R672). -/
opaque rewrapKey : Bool → Nat → Nat → Nat → Nat

/-- The schema of the release in ascending FIELD: FIELD, LEN, FLAGS, MIN and MAX of every field (R822, R837; the fields' numbers are not
stated, log entry 29). -/
opaque cfgSchema : List (Nat × Nat × Nat × Nat × Nat)

end Sys2Proof.Config
end

