-- ==== Sys2Proof/Machine/StEvt.lean ====
section
/-! DEFINITION. The event recorder ("Event recorder"). -/

namespace Sys2Proof.Machine

/-- The recorder's state for one event code. -/
structure CodeSt where
  /-- override by EVT_CODE_SET, until the next start; structure; R763, R782; reset none (spec) -/
  override : Option EvtCodeCfg := none
  /-- tokens in the bucket, in 1/(3,600 × 10⁹ × 2³²) token; none while it has stood full since the start; tokens; R764; reset none (spec) -/
  tokens : Option Nat := none
  /-- operating time at which tokens was reckoned; 2⁻³² ns; R764; reset 0 (DESIGN CHOICE 1) -/
  tokensOp : Nat := 0
  /-- suppressed count; 32; R764; reset 0 (spec) -/
  suppressed : Nat := 0
  /-- RECORDED since start-up; 32; R781; reset 0 (spec) -/
  recorded : Nat := 0
  /-- SUPPRESSED_TOTAL since start-up; 32; R781; reset 0 (spec) -/
  suppressedTotal : Nat := 0
  /-- severity of the latest suppressed event of the code; 2; R765; reset 0 (DESIGN CHOICE 1) -/
  sev : Nat := 0
deriving DecidableEq, Repr

/-- The event recorder. -/
structure EvtSt where
  /-- ring Q10; 1,024 entries; R760; reset [] (spec) -/
  q10 : List QEvent := []
  /-- lost count per SOURCE; 32 each; R762; reset [] (spec) -/
  lost : List (Nat × Nat) := []
  /-- event ring N3 in MRAM, oldest first, without the FULL record; 4,096 records; R766; reset [] (spec) -/
  ring : List EvtRecord := []
  /-- the FULL record in the ring's last slot; 64 bytes; R769; reset none (spec) -/
  fullRec : Option EvtRecord := none
  /-- event extension SR3, oldest first; 1,048,576 records; R766; reset [] (spec) -/
  ext : List EvtRecord := []
  /-- SEQ of the trim page of a clear in progress; SEQ; R783; reset none (DESIGN CHOICE 1) -/
  trimSeq : Option Nat := none
  /-- pages of the extension of which neither copy verified at this start; page of 256 records; R514, R519; reset [] (DESIGN CHOICE 1) -/
  extGone : List Nat := []
  /-- rate-corrected instant of the first waiting record; 2⁻³² ns; R766; reset none (DESIGN CHOICE 1) -/
  copyFrom : Option Nat := none
  /-- ESEQ of the next record, in MRAM; 32; R759; reset 0 (spec) -/
  eseq : Nat := 0
  /-- EV1 MODE, EVT_MODE read at start-up; 1; R768, R777; reset 0 (spec) -/
  mode : Nat := 0
  /-- DISCARDED since the last clear; 32; R769, R779; reset 0 (spec) -/
  discarded : Nat := 0
  /-- discards counted in the FULL record; 32; R769; reset 0 (spec) -/
  fullDisc : Nat := 0
  /-- CN7 CNT.EVENTS; 32; R634; reset 0 (spec) -/
  events : Nat := 0
  /-- state of the codes that have occurred or are overridden; per code; R763; reset [] (spec) -/
  codes : List (Nat × CodeSt) := []
  /-- the EVT_CLEAR whose trim runs; its host and command; host, command; R783; reset none (spec) -/
  clearing : Option (Nat × Taken) := none
  /-- a trim to be completed before copying resumes, in MRAM; 1; R783; reset false (DESIGN CHOICE 1) -/
  trimPending : Bool := false
  /-- operating time at the last power-on of the always-on island; operating time is opBase plus the rate-corrected time since; 2⁻³² ns; R756; reset 0 (spec) -/
  opBase : Nat := 0
  /-- last checkpoint, in MRAM, a multiple of 64 s; s; R757; reset 0 (spec) -/
  opCheckpoint : Nat := 0
  /-- operating time of a completed Hem save that the next power-on restores; 2⁻³² ns; R757; reset none (DESIGN CHOICE 1) -/
  opSaved : Option Nat := none
  /-- OP_CREDIT of the present start; 32; R757; reset 0 (spec) -/
  opCredit : Nat := 0
  /-- CN16 CNT.STARTS, in MRAM; 32; R634; reset 0 (spec) -/
  starts : Nat := 0
  /-- CN15 CNT.HEM_SAVES, in MRAM; 32; R634; reset 0 (spec) -/
  hemSaves : Nat := 0
  /-- MLOG_FULL recorded in this start; 1; R775; reset false (DESIGN CHOICE 1) -/
  mlogFull : Bool := false
deriving DecidableEq, Repr

end Sys2Proof.Machine
end

