-- ==== Sys2Proof/Machine/StVee.lean ====
section
/-! DEFINITION. Validation state ("Validation, estimation and editing"). -/

namespace Sys2Proof.Machine

/-- A channel slot (R420). -/
structure ChSlot where
  /-- the channel; 16; R420; reset 0 (DESIGN CHOICE 1) -/
  channel : Nat := 0
  /-- START_TAI of the record that took the slot; 64; R527; reset 0 (DESIGN CHOICE 1) -/
  since : Nat := 0
  /-- latest start key; 64; R420; reset none (DESIGN CHOICE 1) -/
  key : Option Nat := none
  /-- latest START_TAI; 64; R420; reset 0 (DESIGN CHOICE 1) -/
  tai : Nat := 0
  /-- latest value; 64 signed; R437; reset 0 (DESIGN CHOICE 1) -/
  value : Int := 0
  /-- the latest value was clean; 1; R437; reset false (DESIGN CHOICE 1) -/
  wasClean : Bool := false
  /-- latest register value; 64 signed; R420; reset none (DESIGN CHOICE 1) -/
  reg : Option Int := none
  /-- its key; 64; R420; reset 0 (DESIGN CHOICE 1) -/
  regKey : Nat := 0
  /-- its START_TAI; 64; R426; reset 0 (DESIGN CHOICE 1) -/
  regTai : Nat := 0
  /-- latest clean values, oldest first; 7 values; R420; reset [] (DESIGN CHOICE 1) -/
  clean : List Int := []
  /-- zero-streak count; count per rule entry; R420; reset [] (DESIGN CHOICE 1) -/
  zeros : List (Nat × Nat) := []
  /-- measured interval values since the latest register reading: the sum and count are theirs; key and value; R420, R428; reset [] (DESIGN CHOICE 1) -/
  meas : List (Nat × Int) := []
  /-- pending clock-set mark; 1; R425; reset false (DESIGN CHOICE 1) -/
  mark : Bool := false
deriving DecidableEq, Repr

/-- An entry of the version index (R527). -/
structure VerEntry where
  /-- METER; 32; R527; reset 0 (DESIGN CHOICE 1) -/
  meter : Nat := 0
  /-- CHANNEL; 16; R527; reset 0 (DESIGN CHOICE 1) -/
  channel : Nat := 0
  /-- START_TAI; 64; R527; reset 0 (DESIGN CHOICE 1) -/
  tai : Nat := 0
  /-- highest VERSION; none while the interval holds no version; 8; R527; reset none (DESIGN CHOICE 1) -/
  high : Option Nat := none
  /-- origin of the standing version; 2; R527; reset 0 (DESIGN CHOICE 1) -/
  standOrigin : Nat := 0
  /-- VERSION of the standing version; 5; R527; reset 0 (DESIGN CHOICE 1) -/
  standVer : Nat := 0
deriving DecidableEq, Repr

/-- Validation state, the version index and the rings IG7 writes. -/
structure VeeSt where
  /-- channel slots by meter; 8 slots per meter; R420; reset [] (spec) -/
  meters : List (Nat × List ChSlot) := []
  /-- entries; version index; R527; reset [] (spec) -/
  index : List VerEntry := []
  /-- entries dropped because the table was full; 32; R527; reset 0 (DESIGN CHOICE 1) -/
  indexDrops : Nat := 0
  /-- VEE_COUNTERS; twenty of 32 bits; R450; reset [0, 0, 0, 0, 0, 0, 0, 0, 0, 0, 0, 0, 0, 0, 0, 0, 0, 0, 0, 0] (spec) -/
  counts : List Nat := [0, 0, 0, 0, 0, 0, 0, 0, 0, 0, 0, 0, 0, 0, 0, 0, 0, 0, 0, 0]
  /-- day of the last VERSION_FULL event of a meter; day per meter; R434; reset [] (DESIGN CHOICE 1) -/
  fullDay : List (Nat × Nat) := []
  /-- records that wait for the archive; ring Q5; R368, R524; reset [] (spec) -/
  q5 : List Record := []
  /-- records whose push Q5 refused, oldest first; records; R49, R403; reset [] (DESIGN CHOICE 1) -/
  q5Held : List Record := []
  /-- records whose push Q6 refused, oldest first; records; R49, R403; reset [] (DESIGN CHOICE 1) -/
  q6Held : List Record := []
  /-- records that wait for the uplink; ring Q6; R368, R561; reset [] (spec) -/
  q6 : List Record := []
deriving DecidableEq, Repr

end Sys2Proof.Machine
end

