-- ==== Sys2Proof/Machine/StArch.lean ====
section
/-! DEFINITION. The NAND archive ("Interval archive on raw NAND"). -/

namespace Sys2Proof.Machine

/-- The format record of the journal (R510, R516, R542, R559). -/
structure FormatRec where
  /-- dies of the format; die indices; R497; reset [] (DESIGN CHOICE 1) -/
  dies : List Nat := []
  /-- stripe groups, dies in the order taken; dies per group; R510; reset [] (DESIGN CHOICE 1) -/
  groups : List (List Nat) := []
  /-- WIDTH; 6; R510; reset 16 (DESIGN CHOICE 1) -/
  width : Nat := 16
  /-- pages of LA2; 32; R516; reset 0 (DESIGN CHOICE 1) -/
  hostPages : Nat := 0
  /-- pages of LA3; 32; R516; reset 0 (DESIGN CHOICE 1) -/
  recPages : Nat := 0
  /-- spare pages at format; 32; R534; reset 0 (DESIGN CHOICE 1) -/
  spare : Nat := 0
  /-- the key check value was made under the substitute test root; 1; R501; reset false (DESIGN CHOICE 1) -/
  testRoot : Bool := false
  /-- FORMAT_ID; 64; R559; reset 0 (spec) -/
  formatId : Nat := 0
deriving DecidableEq, Repr

/-- What a page of the system namespace holds, by region (R518). -/
inductive SysData
  /-- SR0: the format record with its key check value, the bad-block table and the die states -/
  | journal (fmt : FormatRec) (bad : List (Nat × Nat × Bool)) (dies : List (Nat × Nat))
  /-- SR0: a trim page: SEQ, first LPN and count of each range -/
  | trims (l : List (Nat × Nat × Nat))
  /-- SR1: 32 contexts, those in use -/
  | contexts (l : List (Nat × MeterCtx))
  /-- SR2: the balance checkpoint, at its commit page -/
  | balance (c : BalCkpt)
  /-- SR3: up to 256 event records -/
  | events (l : List EvtRecord)
  /-- FR0: 64 account blocks, those in use -/
  | accounts (l : List (Nat × Account))
  /-- FR1–FR3: the fleet checkpoint, at its commit page -/
  | fleet (c : FleetCkpt)
  /-- FR4: the saved broadcast counters by Pocket slot -/
  | counters (l : List (Nat × Nat))
  /-- SR6: validation state of 32 meters, those in use -/
  | meters (l : List (Nat × List ChSlot))
deriving DecidableEq, Repr

/-- What a programmed NAND page holds (R500, R518, R522, R524). -/
inductive PageData
  /-- Reading Records with their positions -/
  | records (l : List ArchRec)
  /-- cross-reference segments -/
  | segments (l : List Segment)
  /-- balance summaries -/
  | summaries (l : List BalSummary)
  /-- four host sectors -/
  | host (l : List (List Byte))
  /-- a page of the system namespace -/
  | system (d : SysData)
  | parity
  | padding
deriving DecidableEq, Repr

/-- The write streams; the system stream fills one superblock with copies A and another with copies B (R510, R519). -/
inductive Stream
  | records | host | system | systemB | relocation
deriving DecidableEq, Repr

/-- A programmed or queued NAND page and its metadata (R500). -/
structure PhysPage where
  /-- die index; 7; R495; reset 0 (DESIGN CHOICE 1) -/
  die : Nat := 0
  /-- block; block; R503; reset 0 (DESIGN CHOICE 1) -/
  blk : Nat := 0
  /-- page in the block, also the stripe's page index; page; R503; reset 0 (DESIGN CHOICE 1) -/
  page : Nat := 0
  /-- PMD1 LPN; 32; R500; reset 0xFFFFFFFF (DESIGN CHOICE 1) -/
  lpn : Nat := 0xFFFFFFFF
  /-- PMD2 SEQ; 64; R500; reset 0 (DESIGN CHOICE 1) -/
  seq : Nat := 0
  /-- PMD3 NS; 8; R500; reset 0xFF (DESIGN CHOICE 1) -/
  ns : Nat := 0xFF
  /-- PMD6 STRIPE; 32; R500; reset 0 (DESIGN CHOICE 1) -/
  stripe : Nat := 0
  /-- PMD7 POS; 8; R500; reset 0 (DESIGN CHOICE 1) -/
  pos : Nat := 0
  /-- PMD8 GROUP; 8; R500; reset 0 (DESIGN CHOICE 1) -/
  group : Nat := 0
  /-- PMD9 PFLAGS; 16; R500; reset 0 (DESIGN CHOICE 1) -/
  flags : Nat := 0
  /-- PMD5 FILL; 16; R500; reset 0 (DESIGN CHOICE 1) -/
  fill : Nat := 0
  /-- data area; PMD4 TYPE by its kind; 16,384 bytes; R499; reset .padding (DESIGN CHOICE 1) -/
  data : PageData := .padding
  /-- write stream; stream; R510; reset .records (DESIGN CHOICE 1) -/
  stream : Stream := .records
  /-- its program has completed; 1; R512; reset false (DESIGN CHOICE 1) -/
  programmed : Bool := false
  /-- it is durable; 1; R512; reset false (DESIGN CHOICE 1) -/
  durable : Bool := false
  /-- its data are lost; 1; R514; reset false (DESIGN CHOICE 1) -/
  lost : Bool := false
  /-- commit time of a record page, ns; 64; R538; reset 0 (DESIGN CHOICE 1) -/
  commitTai : Nat := 0
deriving DecidableEq, Repr

/-- An open superblock of a write stream (R510, R883). -/
structure OpenSb where
  /-- stripe group; 8; R510; reset 0 (DESIGN CHOICE 1) -/
  group : Nat := 0
  /-- block index; block; R510; reset 0 (DESIGN CHOICE 1) -/
  blk : Nat := 0
  /-- page index of the open stripe; page; R883; reset 0 (DESIGN CHOICE 1) -/
  page : Nat := 0
  /-- next position; 8; R883; reset 0 (DESIGN CHOICE 1) -/
  pos : Nat := 0
  /-- stripe number; 32; R500; reset 0 (DESIGN CHOICE 1) -/
  stripe : Nat := 0
deriving DecidableEq, Repr

/-- One die in use (R495, R513, R537). -/
structure DieSt where
  /-- stripe group; 8; R510; reset none (DESIGN CHOICE 1) -/
  group : Option Nat := none
  /-- AD2 STATE; 8; R537; reset 0 (spec) -/
  state : Nat := 0
  /-- AD5 BAD_FACTORY; 16; R537; reset 0 (spec) -/
  badFactory : Nat := 0
  /-- AD6 BAD_GROWN; 16; R537; reset 0 (spec) -/
  badGrown : Nat := 0
  /-- AD9 HIST; sixteen of 32 bits; R536, R537; reset [0, 0, 0, 0, 0, 0, 0, 0, 0, 0, 0, 0, 0, 0, 0, 0] (spec) -/
  hist : List Nat := [0, 0, 0, 0, 0, 0, 0, 0, 0, 0, 0, 0, 0, 0, 0, 0]
  /-- AD10 READS; four of 32 bits; R537; reset [0, 0, 0, 0] (spec) -/
  reads : List Nat := [0, 0, 0, 0]
  /-- AD11 TEMP; 33 of 32 bits; R533, R537; reset [0, 0, 0, 0, 0, 0, 0, 0, 0, 0, 0, 0, 0, 0, 0, 0, 0, 0, 0, 0, 0, 0, 0, 0, 0, 0, 0, 0, 0, 0, 0, 0, 0] (spec) -/
  temps : List Nat := [0, 0, 0, 0, 0, 0, 0, 0, 0, 0, 0, 0, 0, 0, 0, 0, 0, 0, 0, 0, 0, 0, 0, 0, 0, 0, 0, 0, 0, 0, 0, 0, 0]
  /-- AD12 TEMP_NOW, °C; 16 signed; R537; reset 0 (DESIGN CHOICE 1) -/
  tempNow : Int := 0
  /-- rate-corrected instants of the latest timeouts; instants; R513; reset [] (DESIGN CHOICE 1) -/
  timeouts : List Nat := []
  /-- rate-corrected instants of the latest reconstructions of its pages; instants; R513; reset [] (DESIGN CHOICE 1) -/
  recons : List Nat := []
deriving DecidableEq, Repr

/-- A running query (R538, R539). -/
structure ArchQuery where
  /-- its host; 2; R538; reset 0 (DESIGN CHOICE 1) -/
  host : Nat := 0
  /-- SE13 has taken it from Q11; 1; R47, R51; reset false (DESIGN CHOICE 1) -/
  started : Bool := false
  /-- QUERY_ID; 16; R538; reset 0 (DESIGN CHOICE 1) -/
  id : Nat := 0
  /-- MODE; 8; R538; reset 0 (DESIGN CHOICE 1) -/
  mode : Nat := 0
  /-- RING; 6; R538; reset 12 (DESIGN CHOICE 1) -/
  ring : Nat := 12
  /-- METER; 32; R538; reset 0 (DESIGN CHOICE 1) -/
  meter : Nat := 0
  /-- CHANNEL; 16; R538; reset 0 (DESIGN CHOICE 1) -/
  channel : Nat := 0
  /-- CH_MASK; 16; R538; reset 0 (DESIGN CHOICE 1) -/
  mask : Nat := 0
  /-- LIMIT; 32; R538; reset 0 (DESIGN CHOICE 1) -/
  limit : Nat := 0
  /-- FROM; 64; R538; reset 0 (DESIGN CHOICE 1) -/
  lo : Nat := 0
  /-- TO; 64; R538; reset 0 (DESIGN CHOICE 1) -/
  hi : Nat := 0
  /-- SCAN_FROM; 64; R538; reset 0 (DESIGN CHOICE 1) -/
  scanFrom : Nat := 0
  /-- SCAN_TO; 64; R538; reset 0 (DESIGN CHOICE 1) -/
  scanTo : Nat := 0
  /-- position from which the next page to scan is sought; 64; R539; reset 0 (DESIGN CHOICE 1) -/
  nextPos : Nat := 0
  /-- position at which the scan ends; 64; R539; reset 0 (DESIGN CHOICE 1) -/
  endPos : Nat := 0
  /-- matching records that wait for room; records; R539; reset [] (DESIGN CHOICE 1) -/
  out : List Record := []
  /-- records delivered; 32; R539; reset 0 (DESIGN CHOICE 1) -/
  delivered : Nat := 0
  /-- part of the span had been released; 1; R539; reset false (DESIGN CHOICE 1) -/
  released : Bool := false
  /-- the scan has ended; the end record is still to be pushed; 1; R539; reset false (DESIGN CHOICE 1) -/
  ended : Bool := false
  /-- cancelled; 1; R540; reset false (DESIGN CHOICE 1) -/
  cancelled : Bool := false
deriving DecidableEq, Repr

/-- A host block request that SE13 has taken (R521). -/
structure HostReq where
  /-- its host; 2; R521; reset 0 (DESIGN CHOICE 1) -/
  host : Nat := 0
  /-- completion ring; 6; R661; reset 12 (DESIGN CHOICE 1) -/
  ring : Nat := 12
  /-- HB1 OP; 8; R521; reset 0 (DESIGN CHOICE 1) -/
  op : Nat := 0
  /-- HB3 COUNT; 16; R521; reset 0 (DESIGN CHOICE 1) -/
  count : Nat := 0
  /-- HB4 TAG; 32; R521; reset 0 (DESIGN CHOICE 1) -/
  tag : Nat := 0
  /-- HB5 LBA; 64; R521; reset 0 (DESIGN CHOICE 1) -/
  lba : Nat := 0
  /-- HB6 BUF; 64; R521; reset 0 (DESIGN CHOICE 1) -/
  buf : Nat := 0
  /-- status found when it was taken; status; R523; reset .ok (DESIGN CHOICE 1) -/
  status : Status := .ok
  /-- sectors that a write brings; sectors; R522; reset [] (DESIGN CHOICE 1) -/
  data : List (List Byte) := []
  /-- SEQ of the pages that must be durable before it completes; SEQs; R522; reset [] (DESIGN CHOICE 1) -/
  pages : List Nat := []
  /-- writes taken before a flush, by TAG; tags; R522; reset [] (DESIGN CHOICE 1) -/
  after : List Nat := []
deriving DecidableEq, Repr

/-- The archive and its NAND. -/
structure ArchSt where
  /-- dies that answer; die indices; R494, R495; reset [0, 16, 32, 48, 64, 80, 96, 112] (DESIGN CHOICE 6) -/
  installed : List Nat := [0, 16, 32, 48, 64, 80, 96, 112]
  /-- part of the installed dies; part; R496, R497; reset 0 (DESIGN CHOICE 6) -/
  part : Nat := 0
  /-- the parameter pages stand within NG1–NG6; 1; R496, R497; reset true (DESIGN CHOICE 6) -/
  limitsOk : Bool := true
  /-- NG3 planes per LUN; 1, 2 or 4; R496; reset 4 (DESIGN CHOICE 6) -/
  planes : Nat := 4
  /-- blocks per die; blocks; R496; reset 1024 (DESIGN CHOICE 6) -/
  blocks : Nat := 1024
  /-- NG4 pages per block; 64–3,072; R496; reset 512 (DESIGN CHOICE 6) -/
  pagesPerBlock : Nat := 512
  /-- tR of the installed part; ns; R496, R508; reset 80000 (DESIGN CHOICE 1) -/
  readNs : Nat := 80000
  /-- pages on one wordline of a block; pages; R512; reset 1 (DESIGN CHOICE 6) -/
  wlPages : Nat := 1
  /-- factory bad-block marks; die, block; R498; reset [] (DESIGN CHOICE 6) -/
  factoryBad : List (Nat × Nat) := []
  /-- every page is erased; 1; R542; reset true (DESIGN CHOICE 6) -/
  allErased : Bool := true
  /-- AS1 STATE; 3; R534; reset 0 (spec) -/
  state : Nat := 0
  /-- the format; none before the first; record; R510, R542; reset none (DESIGN CHOICE 6) -/
  format : Option FormatRec := none
  /-- bad-block table, in MRAM with a copy in the system namespace; die, block, grown; R498; reset [] (spec) -/
  bad : List (Nat × Nat × Bool) := []
  /-- erase counts, from format; count per die and block; R530, R536; reset [] (spec) -/
  erases : List ((Nat × Nat) × Nat) := []
  /-- programmed and queued pages, in SEQ order; pages; R500; reset [] (spec) -/
  pages : List PhysPage := []
  /-- page map; the address is that of the page with that SEQ; LPN to SEQ; R503; reset [] (spec) -/
  map : List (Nat × Nat) := []
  /-- SEQ of the next page; 64; R500; reset 0 (spec) -/
  nextSeq : Nat := 0
  /-- next stripe number; 32; R500; reset 0 (DESIGN CHOICE 1) -/
  nextStripe : Nat := 0
  /-- open superblocks; four streams; R510; reset [] (spec) -/
  opens : List (Stream × OpenSb) := []
  /-- programs queued at each die, oldest first; SEQs per die; R883; reset [] (DESIGN CHOICE 1) -/
  queues : List (Nat × List Nat) := []
  /-- state per die in use; dies; R537; reset [] (spec) -/
  dies : List (Nat × DieSt) := []
  /-- records of the open record page; up to 256 records; R524; reset [] (spec) -/
  openRecs : List ArchRec := []
  /-- key at which its first record arrived; 64; R524; reset 0 (DESIGN CHOICE 1) -/
  openKey : Nat := 0
  /-- position of the next record packed; 64; R553; reset 0 (spec) -/
  nextPos : Nat := 0
  /-- next page of the record ring, from LA3; 32; R524; reset 0 (DESIGN CHOICE 1) -/
  recHead : Nat := 0
  /-- superblock being collected; group, block; R530; reset none (DESIGN CHOICE 1) -/
  victim : Option (Nat × Nat) := none
  /-- commit log, with the number of its first entry below; 16 MiB; R455, R525; reset [] (spec) -/
  commitLog : List Record := []
  /-- entries that have left the commit log; position; R455; reset 0 (DESIGN CHOICE 1) -/
  logBase : Nat := 0
  /-- running queries; one per host; R540; reset [] (spec) -/
  queries : List ArchQuery := []
  /-- next QUERY_ID; 16; R538; reset 0 (DESIGN CHOICE 1) -/
  nextQuery : Nat := 0
  /-- host block requests taken and not completed; requests; R521; reset [] (DESIGN CHOICE 1) -/
  reqs : List HostReq := []
  /-- data delivered to host buffers, oldest first; host, buffer, bytes; R521; reset [] (the model's own field, DESIGN CHOICE 10) -/
  hostReads : List (Nat × Nat × List Byte) := []
  /-- AH23 SCAN_MS; 32; R536; reset 0 (spec) -/
  scanMs : Nat := 0
  /-- AS7 SCAN_PCT; 7; R534; reset 0 (spec) -/
  scanPct : Nat := 0
  /-- AH12 HIST; sixteen of 32 bits; R536; reset [0, 0, 0, 0, 0, 0, 0, 0, 0, 0, 0, 0, 0, 0, 0, 0] (spec) -/
  hist : List Nat := [0, 0, 0, 0, 0, 0, 0, 0, 0, 0, 0, 0, 0, 0, 0, 0]
  /-- AH13; 32; R536; reset 0 (spec) -/
  retryReads : Nat := 0
  /-- AH14; 32; R536; reset 0 (spec) -/
  softReads : Nat := 0
  /-- AH15 UNCORRECTABLE; 32; R536; reset 0 (spec) -/
  uncorr : Nat := 0
  /-- AH16 PARITY_REBUILDS; 32; R536; reset 0 (spec) -/
  rebuilds : Nat := 0
  /-- AH17 PAGES_LOST; 32; R536; reset 0 (spec) -/
  pagesLost : Nat := 0
  /-- AH18 RECORDS_LOST; 32; R536; reset 0 (spec) -/
  recordsLost : Nat := 0
  /-- AH19, in pages: records, host, relocation, system; four counts of 16 KiB pages; R536; reset [0, 0, 0, 0] (spec) -/
  written : List Nat := [0, 0, 0, 0]
  /-- AH8 TEMP_MAX; 16 signed; R536; reset -32768 (DESIGN CHOICE 1) -/
  tempMax : Int := -32768
  /-- AH24 UNSENT_RELEASED; 32; R526, R536; reset 0 (spec) -/
  unsent : Nat := 0
  /-- closed segments that wait for their page; segments; R80, R524; reset [] (DESIGN CHOICE 1) -/
  segWait : List Segment := []
  /-- balance summaries that wait for their page; summaries; R476, R524; reset [] (DESIGN CHOICE 1) -/
  sumWait : List BalSummary := []
  /-- trim ranges that the journal's trim pages list; page offset, SEQ, first LPN, count; R506, R520, R522; reset [] (spec) -/
  trims : List (Nat × Nat × Nat × Nat) := []
  /-- system pages whose copy B waits for copy A; SEQ of copy A, page offset; R519, R520; reset [] (DESIGN CHOICE 1) -/
  copyB : List (Nat × Nat) := []
  /-- host write credits earned by relocation; credits; R530; reset 0 (DESIGN CHOICE 1) -/
  credits : Nat := 0
  /-- rate-corrected instant of the last host block write; 2⁻³² ns; R529; reset 0 (DESIGN CHOICE 1) -/
  lastHostWrite : Nat := 0
  /-- LPN from which patrol reads on; 32; R532; reset 0 (DESIGN CHOICE 1) -/
  patrolNext : Nat := 0
  /-- rate-corrected instant at which its pass over the pages began; 2⁻³² ns; R532; reset 0 (DESIGN CHOICE 1) -/
  patrolRc : Nat := 0
  /-- rate-corrected instant of the latest temperature reading; 2⁻³² ns; R533; reset none (DESIGN CHOICE 1) -/
  tempRc : Option Nat := none
deriving DecidableEq, Repr

end Sys2Proof.Machine
end

