-- ==== Sys2Proof/Machine/StFab.lean ====
section
/-! DEFINITION. The Seam, the stream engines, the fabric's plan, the memories' error counts, the queue rings' refused pushes and the shadow control words ("Two sides, two hierarchies"). -/

namespace Sys2Proof.Machine

/-- What the DSP writes to the Lining (R32, R168): a register's copy with the rate selector (R193, R228), the final image (R195), a
calibration image (R179), an entry of the metrological log (R774). -/
inductive LegalBody
  | register (reg : Nat) (copy : RegCopy) (rate : RateCopy)
  | final (regs : List (Nat × RegCopy)) (rate : RateCopy)
  | cal (image : CalImage)
  | log (entry : MlogEntry)
deriving DecidableEq, Repr

/-- What the line side tells the logic side in its status (R21, R24). -/
inductive LineNotice
  /-- calibration state Fallback (R172) -/
  | fallback
  /-- the inputs decode to an invalid rate (R210) -/
  | tariffInvalid
  /-- the metrological log is full (R775) -/
  | mlogFull (notLogged : Nat)
  /-- the driver's thermal limiter (R347) -/
  | plcThermal
  /-- the driver has been muted (R344) -/
  | seamMute
deriving DecidableEq, Repr

/-- A non-legal metrology setting on its way to the line side in positions 9 and 10 (R24, R51). -/
inductive LineCtl
  /-- a rate, tagged with the cycle at which it applies (R205) -/
  | rate (rate cycle : Nat)
  /-- the settings of the detectors and the tariff inputs (R207, R234) -/
  | metro (m : MetroCtl)
  /-- WARN_V (R787) -/
  | warnV (mv : Nat)
deriving DecidableEq, Repr

/-- A write to the Lining that the line side holds until it is acknowledged (R28): of a register only the latest image is kept. -/
structure LegalImage where
  /-- SEQ of its latest frame, while that names this write alone; 8; R28; reset none (DESIGN CHOICE 1) -/
  seq : Option Nat := none
  /-- what it writes; write; R32; reset .final [] {} (DESIGN CHOICE 1) -/
  body : LegalBody := .final [] {}
deriving DecidableEq, Repr

/-- What a control word of a meter context does (X4): admission with the context, retirement, the end of a Retired context. -/
inductive CtxWord
  | enrol (c : MeterCtx)
  | retire
  | free
deriving DecidableEq, Repr

/-- A shadow control word that waits for its commit (R53): the crossings of R51. -/
inductive CtlWord
  | fe (n : Nat) (c : FeCfg)
  | lane (n : Nat) (c : LaneCfg)
  | wur (c : WurCfg)
  | linkProfile (n : Nat) (c : LinkProfile)
  | parse (n : Nat) (c : ParseProfile)
  | vee (n : Nat) (c : VeeProfile)
  | shape (n : Nat) (w : List Nat)
  | subBands (b : List SubBand)
  | plc (c : PlcCfg)
  | pin (addr : Nat) (on : Bool)
  | context (meter : Nat) (w : CtxWord)
  | metro (m : MetroCtl)
  | arch (c : ArchCfg)
  | uplink (bundleMaxMs latBudgetUs : Nat)
  | port (n : Nat) (c : PortCfg)
  | veeMeter (meter modulus rateCap shape : Nat) (genReg : Bool)
deriving DecidableEq, Repr

/-- Work of a block manager for an engine, on Q11 (R47, X12). -/
inductive ManagerWork
  /-- an archive query of a host, for SE13 (R535) -/
  | query (host : Nat)
deriving DecidableEq, Repr

/-- Seam channel, engines, memories and control words. -/
structure FabSt where
  /-- the framed channel is up; 1; R29, R798; reset false (DESIGN CHOICE 1) -/
  seamUp : Bool := false
  /-- resynchronisation runs; 1; R29; reset false (DESIGN CHOICE 1) -/
  resync : Bool := false
  /-- consecutive frames discarded by the logic side; 4; R29; reset 0 (DESIGN CHOICE 1) -/
  badToLogic : Nat := 0
  /-- consecutive frames discarded by the line side; 4; R29; reset 0 (DESIGN CHOICE 1) -/
  badToLine : Nat := 0
  /-- rate-corrected instant at which the outage began; 2⁻³² ns; R29; reset 0 (DESIGN CHOICE 1) -/
  downRc : Nat := 0
  /-- length of an outage that has ended and whose event waits for the logic side; 2⁻³² ns; R29; reset none (DESIGN CHOICE 1) -/
  outage : Option Nat := none
  /-- instant since which samples are missing: the channel down or the logic side in reset; 2⁻³² ns; R30; reset none (DESIGN CHOICE 1) -/
  missFrom : Option Nat := none
  /-- CN9 CNT.SEAM_DISCARDS; 32; R27, R634; reset 0 (spec) -/
  seamDiscards : Nat := 0
  /-- SEQ of the next frame to the logic side; 8; R23; reset 0 (DESIGN CHOICE 1) -/
  seqToLogic : Nat := 0
  /-- SEQ of the next frame to the line side; 8; R23; reset 0 (DESIGN CHOICE 1) -/
  seqToLine : Nat := 0
  /-- writes to the Lining not yet acknowledged, held by the line side; writes; R28; reset [] (DESIGN CHOICE 1) -/
  legalPend : List LegalImage := []
  /-- repeats of legal register images; 32; R28; reset 0 (DESIGN CHOICE 1) -/
  legalRepeats : Nat := 0
  /-- SEQs acknowledged by the logic side, on their way to the line side; 8 each; R28; reset [] (DESIGN CHOICE 1) -/
  legalAcks : List Nat := []
  /-- control frames that addressed a legal parameter, counted in the line-side status; 32; R33; reset 0 (DESIGN CHOICE 1) -/
  legalIgnored : Nat := 0
  /-- non-legal metrology settings on their way to the line side, oldest first; settings; R24, R51, R205; reset [] (DESIGN CHOICE 1) -/
  toLine : List LineCtl := []
  /-- power-line driver enabled at the line side by position 11; 1; R24, R343; reset false (DESIGN CHOICE 1) -/
  lineDriver : Bool := false
  /-- power-line attenuation last received in position 11; 0.5 dB; R343; reset 0 (DESIGN CHOICE 1) -/
  lineAtt : Nat := 0
  /-- WARN_V that the line side uses; 28,000-45,000; R787; reset 33000 (spec) -/
  lineWarnMv : Nat := 33000
  /-- management requests the line side has taken; requests; R24; reset [] (DESIGN CHOICE 1) -/
  mgmtRequests : List Nat := []
  /-- management responses the logic side has taken; responses; R24; reset [] (DESIGN CHOICE 1) -/
  mgmtResponses : List Nat := []
  /-- line-side alarms not yet told over position 14, oldest first; notices; R21, R24; reset [] (DESIGN CHOICE 1) -/
  notices : List LineNotice := []
  /-- compensated instant of the last comparator stamp; 2⁻³² ns; R24, R26; reset none (DESIGN CHOICE 1) -/
  compRc : Option Nat := none
  /-- converter set-point last received over position 14; mV; R24; reset 0 (DESIGN CHOICE 1) -/
  setPointMv : Nat := 0
  /-- converter feedback last received over position 14; mV; R24, R800; reset 0 (DESIGN CHOICE 1) -/
  feedbackMv : Nat := 0
  /-- mains cycle in which VIN was last refreshed; cycle; R816; reset none (DESIGN CHOICE 1) -/
  vinCycle : Option Nat := none
  /-- line-side status and alarms last received over position 14; 32; R24; reset 0 (DESIGN CHOICE 1) -/
  lineAlarms : Nat := 0
  /-- superframes of waveform or power-line samples marked as gaps; 32; R30; reset 0 (DESIGN CHOICE 1) -/
  gaps : Nat := 0
  /-- the converter regulates from the feedback over position 14; 1; R800; reset false (spec) -/
  convFeedback : Bool := false
  /-- waveform frames delivered to the logic side; 32; R24; reset 0 (DESIGN CHOICE 1) -/
  waveFrames : Nat := 0
  /-- power-line receive-sample frames delivered to the logic side; 32; R24, R342; reset 0 (DESIGN CHOICE 1) -/
  rxFrames : Nat := 0
  /-- power-line transmit-sample frames delivered to the line side; 32; R24; reset 0 (DESIGN CHOICE 1) -/
  txFrames : Nat := 0
  /-- idle frames delivered to the line side; 32; R24; reset 0 (DESIGN CHOICE 1) -/
  idleFrames : Nat := 0
  /-- items returned once to the head of their ring; (cluster, ring, item); R37; reset [] (DESIGN CHOICE 1) -/
  engRetried : List (Nat × Nat × Nat) := []
  /-- items that failed a second time, handed to the supervisor; meter indices; R37; reset [] (DESIGN CHOICE 1) -/
  engSupervisor : List Nat := []
  /-- CN10 CNT.ECC_CORRECTED; 32; R40, R634; reset 0 (spec) -/
  eccCorrected : Nat := 0
  /-- corrected errors per region; 32 each; R40; reset [] (DESIGN CHOICE 1) -/
  eccByRegion : List (MemRegion × Nat) := []
  /-- accesses that failed, with the fabric port that reports the error, latest first; (port, region); R40; reset [] (DESIGN CHOICE 1) -/
  accessErrors : List (Nat × MemRegion) := []
  /-- the default slot plan runs; 1; R44; reset true (spec) -/
  defaultPlan : Bool := true
  /-- the slot plan (slot, target port, initiator port) loaded at start-up, fixed until the next start; 64 × 4; R42; reset [] (spec) -/
  slotPlan : List (Nat × Nat × Nat) := []
  /-- work of the block managers for the engines, oldest first; ring Q11; R47, R51; reset [] (DESIGN CHOICE 1) -/
  q11 : List ManagerWork := []
  /-- work whose push Q11 refused; work; R49; reset [] (DESIGN CHOICE 1) -/
  q11Held : List ManagerWork := []
  /-- pushes refused per ring Q0–Q63; 32 each; R49; reset [] (DESIGN CHOICE 1) -/
  refused : List (Nat × Nat) := []
  /-- shadow copies that wait for their commit, oldest first; shadow words; R53; reset [] (DESIGN CHOICE 1) -/
  shadow : List CtlWord := []
  /-- commits held because their block's power domain is off; shadow words; R57; reset [] (DESIGN CHOICE 1) -/
  heldWords : List CtlWord := []
  /-- installed DRAM in MiB; 32; R7, R655; reset 4096 (DESIGN CHOICE 1) -/
  dramMib : Nat := 4096
deriving DecidableEq, Repr

end Sys2Proof.Machine
end

