-- ==== Sys2Proof/Machine/StFwu.lean ====
section
/-! DEFINITION. Firmware images, the boot record and the rollback floor ("Device firmware update and recovery"). -/

namespace Sys2Proof.Machine

/-- An FWU_BEGIN or FWU_FINISH that answered PENDING (R718, R720). -/
structure FwuJob where
  /-- its host: H0–H3, or 16 + n for an Ethernet source n; 32; R707; reset 0 (DESIGN CHOICE 1) -/
  host : Nat := 0
  /-- its command; command; R718; reset {} (DESIGN CHOICE 1) -/
  taken : Taken := {}
  /-- FWU_FINISH rather than FWU_BEGIN; 1; R720; reset false (DESIGN CHOICE 1) -/
  finish : Bool := false
  /-- RESTART_KEY; 64; R720; reset 0 (DESIGN CHOICE 1) -/
  restartKey : Nat := 0
deriving DecidableEq, Repr

/-- The boot flash and its record. -/
structure FwuSt where
  /-- size of the boot flash in MiB; 64, 128 or 256; R694; reset 64 (DESIGN CHOICE 6) -/
  norMib : Nat := 64
  /-- ROM recovery strapped: BOOT_RCVR_N was low when RESET_N last rose; 1; R701, R799; reset false (DESIGN CHOICE 1) -/
  rcvrStrap : Bool := false
  /-- protocol of the first SFDP read, as STRAP_NOR gave it when RESET_N last rose: octal rather than quad SPI; 1; R860; reset false (DESIGN CHOICE 1) -/
  norOctal : Bool := false
  /-- FW1 STAGING, in the boot record; 3; R696, R715; reset 0 (spec) -/
  staging : Nat := 0
  /-- header of the staged image; 256 bytes; R696, R697; reset [] (DESIGN CHOICE 1) -/
  header : List Byte := []
  /-- granules written into Staging, by granule index: the piece map and its content; 1,024-byte granules; R696, R710; reset [] (spec) -/
  pieces : List (Nat × List Byte) := []
  /-- host or uplink that began the staging; host; R707; reset none (DESIGN CHOICE 1) -/
  owner : Option Nat := none
  /-- the command that is pending; command; R718, R720; reset none (DESIGN CHOICE 1) -/
  job : Option FwuJob := none
  /-- next sector of the copy in progress; sector; R703, R704; reset none (DESIGN CHOICE 1) -/
  copying : Option Nat := none
  /-- STAGED_DIGEST, 0 until verified; 256; R717; reset 0 (spec) -/
  stagedDigest : Nat := 0
  /-- the image in the Active slot: a full production image of release 3.2.0 for any unit, SVN 0, without a body; bytes; R695, R697; reset [0x44, 0x51, 0x46, 0x57, 1, 0, 0, 0, 0, 0x91, 0, 0, 3, 2, 0, 0, 0, 0, 0, 0, 0x60, 1, 0, 0] ++ List.replicate 328 0 (DESIGN CHOICE 6) -/
  active : List Byte := [0x44, 0x51, 0x46, 0x57, 1, 0, 0, 0, 0, 0x91, 0, 0, 3, 2, 0, 0, 0, 0, 0, 0, 0x60, 1, 0, 0] ++ List.replicate 328 0
  /-- FW4 BOOT_FAILS, in MRAM; 2; R702, R715; reset 0 (spec) -/
  bootFails : Nat := 0
  /-- FW5 FLOOR, fuses; 6; R711, R715; reset 0 (spec) -/
  floor : Nat := 0
  /-- FW3 REASON; 2; R701, R715; reset 0 (spec) -/
  reason : Nat := 0
  /-- the present start is confirmed; 1; R702; reset false (DESIGN CHOICE 1) -/
  confirmed : Bool := false
  /-- the ROM is to restart after a copy in recovery; 1; R714; reset false (DESIGN CHOICE 1) -/
  restartRc : Bool := false
  /-- answers to Ethernet sources in recovery (source) and to the head end's image transfer (16); responses; R707, R713; reset [] (the model's own field, DESIGN CHOICE 10) -/
  otherOut : List (Nat × Response) := []
  /-- Ethernet source addresses seen, the n-th being host 17 + n; addresses; R713; reset [] (DESIGN CHOICE 1) -/
  sources : List Nat := []
deriving DecidableEq, Repr

end Sys2Proof.Machine
end

