-- ==== Sys2Proof/Machine/StHost.lean ====
section
/-! DEFINITION. Hosts, mailboxes, leases and rings ("Hosts, mailboxes and the Collar"). -/

namespace Sys2Proof.Machine

/-- A lease of one host (R651). -/
structure Lease where
  /-- the resource, kind and instance; 32; R651; reset 0 (DESIGN CHOICE 1) -/
  claim : Nat := 0
  /-- instant at which it ends; 2⁻³² ns of rate-corrected time; R654; reset 0 (DESIGN CHOICE 1) -/
  endRc : Nat := 0
  /-- TAG of the LEASE_TAKE that established it; 16; R649; reset 0 (DESIGN CHOICE 1) -/
  tag : Nat := 0
deriving DecidableEq, Repr

/-- One host H0–H3. -/
structure HostSt where
  /-- PORT bound at start-up; 3; R632; reset 0 (spec) -/
  port : Nat := 0
  /-- PRECEDENCE bound at start-up; 3; R621; reset 0 (spec) -/
  precedence : Nat := 0
  /-- TIME_AUTH bound at start-up; 1; R621; reset false (spec) -/
  timeAuth : Bool := false
  /-- the host is online; 1; R624; reset false (DESIGN CHOICE 1) -/
  online : Bool := false
  /-- the command that stands in the command mailbox, its doorbell written; 4,096 bytes; R635; reset none (DESIGN CHOICE 1) -/
  box : Option (CmdHeader × List Byte) := none
  /-- arbitration tick in which that doorbell arrived; µs; R635, R645; reset 0 (DESIGN CHOICE 1) -/
  boxTick : Nat := 0
  /-- the response in the response mailbox; HR6 RESP_READY; 4,096 bytes; R637; reset none (spec) -/
  resp : Option Response := none
  /-- responses queued behind it; HR7; 32 responses; R637; reset [] (spec) -/
  respQ : List Response := []
  /-- commands that answered PENDING and are not final; HR11; 16 commands; R639; reset [] (spec) -/
  openCmds : List Taken := []
  /-- last SEQ of the host's series; none while the series is empty; 32; R640; reset none (spec) -/
  lastSeq : Option Nat := none
  /-- response last produced for that SEQ; response; R640; reset none (DESIGN CHOICE 1) -/
  lastResp : Option Response := none
  /-- leases held; 64 leases; R652; reset [] (DESIGN CHOICE 1) -/
  leases : List Lease := []
  /-- HOST.IRQ bits but RING; 5; R632; reset 0 (spec) -/
  irq : BitVec 5 := 0
  /-- HOST.IRQ_EN; 5; R632; reset 0 (spec) -/
  irqEn : BitVec 5 := 0
  /-- HOST.RING_IRQ; 16; R632; reset 0 (spec) -/
  ringIrq : BitVec 16 := 0
  /-- this host's copies of the Collar's W1C bits, by Collar offset; 32 bits per register; R630; reset [] (spec) -/
  sticky : List (Nat × Word) := []
  /-- MAINS.CYC_HI latched for the host; 32; R78; reset 0 (spec) -/
  mainsLatch : Word := 0
  /-- TIME.NOW_HI, NOW_FRAC, MK_LO, MK_HI latched for the host; four words; R146; reset [0, 0, 0, 0] (spec) -/
  timeLatch : List Word := [0, 0, 0, 0]
  /-- CN13 CNT.CMDS; 32; R634; reset 0 (spec) -/
  cmds : Nat := 0
  /-- CN14 CNT.CONFLICTS; 32; R634; reset 0 (spec) -/
  conflicts : Nat := 0
  /-- wake tolerance stated; 32; R809, R819; reset none (DESIGN CHOICE 1) -/
  tolUs : Option Nat := none
  /-- vectors sent to a PCIe host, oldest first; MSI-X vectors; R633; reset [] (DESIGN CHOICE 1) -/
  msi : List Nat := []
  /-- scheduler notices held for rings without room; 64 notices; R660; reset [] (DESIGN CHOICE 1) -/
  heldNotices : List (Nat × List Byte) := []
deriving DecidableEq, Repr

/-- One host ring (R656–R658). -/
structure RingSt where
  /-- ring number; 6; R656; reset 12 (DESIGN CHOICE 1) -/
  number : Nat := 12
  /-- OWNER; 2; R656; reset 0 (DESIGN CHOICE 1) -/
  owner : Nat := 0
  /-- SOURCE; 3; R656; reset 0 (spec) -/
  source : Nat := 0
  /-- LOCATION; 1; R656; reset false (spec) -/
  hostMemory : Bool := false
  /-- BASE; 64; R656; reset 0 (spec) -/
  base : Nat := 0
  /-- SLOT; 13; R656; reset 64 (spec) -/
  slot : Nat := 64
  /-- DEPTH; 17; R656; reset 256 (spec) -/
  depth : Nat := 256
  /-- SHADOW; 64; R656; reset 0 (spec) -/
  shadow : Nat := 0
  /-- THRESH; 17; R658; reset 1 (spec) -/
  thresh : Nat := 1
  /-- RC1 PROD; 32; R658; reset 0 (spec) -/
  prod : Nat := 0
  /-- RC2 CONS; 32; R658; reset 0 (spec) -/
  cons : Nat := 0
  /-- RC4 STAT: bit 0 bad index write, bit 1 item dropped; 2; R658; reset 0 (spec) -/
  stat : BitVec 2 := 0
  /-- RC5 DROPS; 16; R658; reset 0 (spec) -/
  drops : Nat := 0
  /-- items between CONS and PROD, oldest first; up to DEPTH items; R657; reset [] (spec) -/
  items : List (List Byte) := []
deriving DecidableEq, Repr

/-- The mailbox block as a whole. -/
structure HostsSt where
  /-- H0–H3; four hosts; R621; reset Vector.replicate 4 {} (DESIGN CHOICE 1) -/
  hosts : Vector HostSt 4 := Vector.replicate 4 {}
  /-- host rings of the base image; Q12–Q63; R656; reset [] (DESIGN CHOICE 1) -/
  rings : List RingSt := []
  /-- commands that passed CK8, in the order of R647, waiting for their own checks and effect; the host and the command; list; R641, R647; reset [] (DESIGN CHOICE 5) -/
  dispatchQ : List (Nat × Taken) := []
  /-- words latched by the latest low half-word read of chip selects HLB_CS0_N and HLB_CS1_N; 32 each; R627; reset [0, 0] (DESIGN CHOICE 1) -/
  hlbRead : List Word := [0, 0]
  /-- low half-words last written by chip selects HLB_CS0_N and HLB_CS1_N; 16 each; R627; reset [0, 0] (DESIGN CHOICE 1) -/
  hlbWrite : List (BitVec 16) := [0, 0]
  /-- the ALARM_N copy of SYS.ALARM; 12; R632; reset 0 (spec) -/
  alarmN : Word := 0
  /-- SY6 READY; 1; R631; reset false (spec) -/
  ready : Bool := false
  /-- CN11 CNT.TAP_DROPS; 32; R634; reset 0 (spec) -/
  tapDrops : Nat := 0
  /-- CN1 CNT.FRAMES_IN; 32; R634; reset 0 (spec) -/
  framesIn : Nat := 0
  /-- CN2 CNT.APDUS_AUTH; 32; R634; reset 0 (spec) -/
  apdusAuth : Nat := 0
  /-- CN3 CNT.RECORDS_OUT; 32; R634; reset 0 (spec) -/
  recordsOut : Nat := 0
  /-- CN4 CNT.RECORDS_EMITTED; 32; R634; reset 0 (spec) -/
  recordsEmitted : Nat := 0
  /-- CN5 CNT.RECORDS_COMMITTED; 32; R634; reset 0 (spec) -/
  recordsCommitted : Nat := 0
  /-- CN8 CNT.TX_FRAMES; 32; R634; reset 0 (spec) -/
  txFrames : Nat := 0
  /-- CN12 CNT.SPILLS; 32; R634; reset 0 (spec) -/
  spills : Nat := 0
deriving DecidableEq, Repr

end Sys2Proof.Machine
end

