-- ==== Sys2Proof/Machine/StKey.lean ====
section
/-! DEFINITION. The Pocket ("Pocket key store and attestation"). -/

namespace Sys2Proof.Machine

/-- One Pocket slot (R666, R692). -/
structure Slot where
  /-- TYPE; 8; R692; reset 0 (spec) -/
  type : Nat := 0
  /-- ORIGIN; 8; R692; reset 0 (spec) -/
  origin : Nat := 0
  /-- USAGE; 16; R692; reset 0 (spec) -/
  usage : Nat := 0
  /-- VERSION; 32; R679; reset 0 (spec) -/
  version : Nat := 0
  /-- LABEL; 16 bytes; R692; reset [] (spec) -/
  label : List Byte := []
  /-- material as imported; empty for material that the Pocket generated or derived; up to 96 bytes; R675; reset [] (DESIGN CHOICE 1) -/
  material : List Byte := []
  /-- public key, x then y; up to 96 bytes; R692; reset [] (DESIGN CHOICE 1) -/
  pub : List Byte := []
  /-- sealed under the substitute test root; 1; R665; reset false (DESIGN CHOICE 1) -/
  testRoot : Bool := false
  /-- the seal failed verification at the last start; 1; R665; reset false (DESIGN CHOICE 1) -/
  sealBad : Bool := false
deriving DecidableEq, Repr

/-- A KEY_APPLY whose KUM has passed KC1–KC8 (R680). -/
structure Applying where
  /-- its host; 2; R691; reset 0 (DESIGN CHOICE 1) -/
  host : Nat := 0
  /-- its command; command; R691; reset {} (DESIGN CHOICE 1) -/
  taken : Taken := {}
  /-- KIND; 8; R675; reset 0 (DESIGN CHOICE 1) -/
  kind : Nat := 0
  /-- COUNTER; 32; R676; reset 0 (DESIGN CHOICE 1) -/
  counter : Nat := 0
  /-- entries, decrypted; entries; R675; reset [] (DESIGN CHOICE 1) -/
  entries : List (List Byte) := []
  /-- JSEQ of the last delta of the changed contexts; 64; R680; reset 0 (DESIGN CHOICE 1) -/
  jseq : Nat := 0
  /-- the partner was InSync when the changes went to the Yoke; 1; R680; reset false (DESIGN CHOICE 1) -/
  waits : Bool := false
deriving DecidableEq, Repr

/-- An ATTEST that is being signed (R693). -/
structure Attest where
  /-- its host; 2; R693; reset 0 (DESIGN CHOICE 1) -/
  host : Nat := 0
  /-- its command; command; R693; reset {} (DESIGN CHOICE 1) -/
  taken : Taken := {}
deriving DecidableEq, Repr

/-- The Pocket. -/
structure KeySt where
  /-- lifecycle fuses; 3; R681, R12; reset .provisioned (spec) -/
  lifecycle : Lifecycle := .provisioned
  /-- lifecycle that an applied LIFECYCLE KUM gives at the next start; 3; R679, R681; reset none (DESIGN CHOICE 1) -/
  nextLifecycle : Option Lifecycle := none
  /-- the unit is a DQ9100-LMS; 1; R14, R629; reset false (DESIGN CHOICE 6) -/
  lms : Bool := false
  /-- SERIAL, fixed at manufacture; 64; R882; reset 0 (DESIGN CHOICE 6) -/
  serial : Nat := 0
  /-- slots that are not empty; the identity key, the key-agreement key and the Nalwinyx transfer authority at manufacture; 256 slots of 256 bytes; R666, R669; reset [(0, { type := 4, usage := 8 }), (1, { type := 4, origin := 2, usage := 64 }), (2, { type := 6, origin := 1, usage := 16 })] (spec) -/
  slots : List (Nat × Slot) := [(0, { type := 4, usage := 8 }), (1, { type := 4, origin := 2, usage := 64 }), (2, { type := 6, origin := 1, usage := 16 })]
  /-- production counter, in MRAM; 32; R676; reset 0 (spec) -/
  counter : Nat := 0
  /-- test counter, in MRAM; 32; R676; reset 0 (spec) -/
  testCounter : Nat := 0
  /-- KS1 ROOT, chosen at each start; 2; R663, R687; reset 0 (spec) -/
  root : Nat := 0
  /-- KS2 UNLOCK_NEXT; 1; R683, R687; reset false (spec) -/
  unlockNext : Bool := false
  /-- the present start is a debug session; 1; R683; reset false (DESIGN CHOICE 1) -/
  session : Bool := false
  /-- the JTAG port is open; 1; R12, R681, R683; reset false (spec) -/
  debugOpen : Bool := false
  /-- the staged KUM; up to 65,536 bytes; R690; reset [] (DESIGN CHOICE 1) -/
  staged : List Byte := []
  /-- host that began the staging; 2; R690; reset none (DESIGN CHOICE 1) -/
  stagedOwner : Option Nat := none
  /-- the KUM that is being applied; KS4 APPLYING; KUM; R680, R687; reset none (spec) -/
  applying : Option Applying := none
  /-- statements being signed, oldest first; commands; R693; reset [] (DESIGN CHOICE 1) -/
  attests : List Attest := []
  /-- KUM_REJECTS; 32; R677, R689; reset 0 (spec) -/
  kumRejects : Nat := 0
  /-- UNWRAP_FAILS; 32; R671, R689; reset 0 (spec) -/
  unwrapFails : Nat := 0
deriving DecidableEq, Repr

end Sys2Proof.Machine
end

