-- ==== Sys2Proof/Machine/StLink.lean ====
section
/-! DEFINITION. The link layer ("Link layer: neighbours, rendezvous and duplicates"). -/

namespace Sys2Proof.Machine

/-- One neighbour entry, NT1–NT20 (R304). -/
structure Nbr where
  /-- NT1 ADDR; 64; R304; reset 0 (spec) -/
  addr : Nat := 0
  /-- NT2 KIND; 8; R304; reset 0xFF (spec) -/
  kind : Nat := 0xFF
  /-- NT3 FLAGS bit 0; 1; R304; reset false (spec) -/
  winValid : Bool := false
  /-- NT3 FLAGS bit 1; 1; R304; reset false (spec) -/
  wur : Bool := false
  /-- NT3 FLAGS bit 2; 1; R304, R318; reset false (spec) -/
  trained : Bool := false
  /-- NT3 FLAGS bit 3; 1; R304, R307; reset false (spec) -/
  pinned : Bool := false
  /-- NT3 FLAGS bit 4; 1; R304, R328; reset false (spec) -/
  downPending : Bool := false
  /-- NT3 FLAGS bit 5; 1; R304, R313; reset false (spec) -/
  ackCap : Bool := false
  /-- NT4 WAKE_ADDR; 16; R304; reset 0 (spec) -/
  wakeAddr : Nat := 0
  /-- NT5 METER_INDEX; 32; R304; reset 0xFFFFFFFF (spec) -/
  meter : Nat := 0xFFFFFFFF
  /-- NT6 SEQ_HI; 8; R304; reset 0 (spec) -/
  seqHi : Nat := 0
  /-- NT7 LAST_LANE; 8; R304; reset 0 (spec) -/
  lastLane : Nat := 0
  /-- NT8 LAST_CHAN; 16; R304; reset 0 (spec) -/
  lastChan : Nat := 0
  /-- NT9 RSSI; 16 signed; R304; reset 0 (spec) -/
  rssi : Int := 0
  /-- NT10 LQI; 8; R304; reset 0 (spec) -/
  lqi : Nat := 0
  /-- NT11 PROFILE; 8; R304; reset 0 (spec) -/
  profile : Nat := 0
  /-- NT12 SEQ_MAP; 64; R304, R310; reset 0 (spec) -/
  seqMap : BitVec 64 := 0
  /-- NT13 LAST_KEY; 64; R304; reset 0 (spec) -/
  lastKey : Nat := 0
  /-- NT14 NEXT_KEY; 64; R304; reset 0 (spec) -/
  nextKey : Nat := 0
  /-- NT15 RATE_PPB; 32 signed; R304, R318; reset 0 (spec) -/
  ratePpb : Int := 0
  /-- NT16 DUPLICATES; 16; R304; reset 0 (spec) -/
  duplicates : Nat := 0
  /-- NT17 REPLAYS; 16; R304; reset 0 (spec) -/
  replays : Nat := 0
  /-- NT18 ACCEPTED; 32; R304; reset 0 (spec) -/
  accepted : Nat := 0
  /-- NT19 MISSES; 8; R304; reset 0 (spec) -/
  misses : Nat := 0
  /-- NT20 TX_SEQ; 8; R304, R328; reset 0 (spec) -/
  txSeq : Nat := 0
  /-- resynchronised since start; 1; R319; reset false (DESIGN CHOICE 1) -/
  synced : Bool := false
  /-- rate-corrected instant of LAST_KEY; 2⁻³² ns; R319; reset 0 (DESIGN CHOICE 1) -/
  lastRc : Nat := 0
  /-- updates of RATE_PPB, up to 3; 2; R318; reset 0 (DESIGN CHOICE 1) -/
  trains : Nat := 0
  /-- measured offset, saturated at ±2,047; µs; R313; reset 0 (DESIGN CHOICE 1) -/
  offsetUs : Int := 0
  /-- accepted frames of the last mc; CRC, key, lane; R311; reset [] (DESIGN CHOICE 1) -/
  recent : List (Nat × Nat × Nat) := []
  /-- guard of an open window kept over a profile change; pt; R335; reset none (DESIGN CHOICE 1) -/
  heldGuard : Option Nat := none
deriving DecidableEq, Repr

/-- A downlink frame placed and neither acknowledged nor abandoned (R328–R330). -/
structure Downlink where
  /-- number of the frame; 32; R328; reset 0 (DESIGN CHOICE 1) -/
  id : Nat := 0
  /-- neighbour index; 13; R328; reset 0 (DESIGN CHOICE 1) -/
  nbr : Nat := 0
  /-- the frame, with its TX_SEQ; frame; R328; reset {} (DESIGN CHOICE 1) -/
  frame : TxFrame := {}
  /-- sent by radio rather than power line; 1; R328, R351; reset true (DESIGN CHOICE 1) -/
  radio : Bool := true
  /-- front end; 1; R328; reset 0 (DESIGN CHOICE 1) -/
  fe : Nat := 0
  /-- key of its latest entry; 64; R329; reset 0 (DESIGN CHOICE 1) -/
  key : Nat := 0
  /-- retries placed or counted; 3; R329; reset 0 (DESIGN CHOICE 1) -/
  retries : Nat := 0
  /-- end of its latest transmission, from which ACK_WAIT_PT counts; 2⁻³² ns; R329; reset none (DESIGN CHOICE 1) -/
  endRc : Option Nat := none
  /-- placer: 0 firmware or a host, 1 the FLEET manager, 2 a DOWN of the parent; 2; R329; reset 0 (DESIGN CHOICE 1) -/
  origin : Nat := 0
  /-- the placer's own number; 64; R329; reset 0 (DESIGN CHOICE 1) -/
  ref : Nat := 0
deriving DecidableEq, Repr

/-- The neighbour table and the downlink state. -/
structure LinkSt where
  /-- occupied neighbour entries by index; 8,192 entries; R303; reset [] (spec) -/
  nbrs : List (Nat × Nbr) := []
  /-- ACCEPTED; 32; R337; reset 0 (spec) -/
  accepted : Nat := 0
  /-- DUPLICATES; 32; R337; reset 0 (spec) -/
  duplicates : Nat := 0
  /-- REPLAYS; 32; R337; reset 0 (spec) -/
  replays : Nat := 0
  /-- WINDOW_RESTARTS; 32; R337; reset 0 (spec) -/
  restarts : Nat := 0
  /-- ACKS_SENT; 32; R337; reset 0 (spec) -/
  acksSent : Nat := 0
  /-- ACKS_LATE; 32; R337; reset 0 (spec) -/
  acksLate : Nat := 0
  /-- UNWINDOWED; 32; R337; reset 0 (spec) -/
  unwindowed : Nat := 0
  /-- FILTERED; 32; R337; reset 0 (spec) -/
  filtered : Nat := 0
  /-- frames dropped as bad at FA1; 32; R309; reset 0 (spec) -/
  bad : Nat := 0
  /-- mode-switch PHRs dropped at FA2; 32; R309; reset 0 (spec) -/
  modeSwitch : Nat := 0
  /-- frames of Retired meters dropped at FA5; 32; R309; reset 0 (spec) -/
  retired : Nat := 0
  /-- diversity copies; 32; R311; reset 0 (spec) -/
  diversity : Nat := 0
  /-- evictions; 32; R305; reset 0 (spec) -/
  evictions : Nat := 0
  /-- wake sequences refused; 32; R324; reset 0 (spec) -/
  wakeRefused : Nat := 0
  /-- the full event of this start has been recorded; 1; R306; reset false (DESIGN CHOICE 1) -/
  fullSeen : Bool := false
  /-- downlink frames not acknowledged or abandoned; downlinks; R328; reset [] (DESIGN CHOICE 1) -/
  downs : List Downlink := []
  /-- reports to placers: origin, ref, acknowledged; reports; R329, R330; reset [] (DESIGN CHOICE 1) -/
  results : List (Nat × Nat × Bool) := []
  /-- key at which the last start, or the last exit from Hold, completed; 64; R325; reset 0 (DESIGN CHOICE 1) -/
  startKey : Nat := 0
deriving DecidableEq, Repr

end Sys2Proof.Machine
end

