-- ==== Sys2Proof/Machine/StPlc.lean ====
section
/-! DEFINITION. The power-line port ("Power-line carrier port"). -/

namespace Sys2Proof.Machine

/-- The zero-crossing record of a domain node, ZC1–ZC6 (R358). -/
structure ZcRec where
  /-- ZC1 ADDR; 64; R358; reset 0 (spec) -/
  addr : Nat := 0
  /-- ZC2 LAST; 16; R358; reset 0 (spec) -/
  last : Nat := 0
  /-- ZC3 MEAN; 16; R358; reset 0 (spec) -/
  mean : Nat := 0
  /-- ZC4 SPREAD; 16; R358; reset 0xFFFF (spec) -/
  spread : Nat := 0xFFFF
  /-- ZC5 COUNT; 16; R358; reset 0 (spec) -/
  count : Nat := 0
  /-- ZC6 LAST_KEY; 64; R358; reset 0 (spec) -/
  lastKey : Nat := 0
  /-- rate-corrected instant of the node's last frame; 2⁻³² ns; R361; reset 0 (DESIGN CHOICE 1) -/
  heardRc : Nat := 0
deriving DecidableEq, Repr

/-- A power-line entry that has fallen due (R351, R352). -/
structure PlcTx where
  /-- the frame; frame; R351; reset {} (DESIGN CHOICE 1) -/
  frame : TxFrame := {}
  /-- key of its entry, the earliest start; 64; R351; reset 0 (DESIGN CHOICE 1) -/
  key : Nat := 0
deriving DecidableEq, Repr

/-- The power-line port. -/
structure PlcSt where
  /-- PX1 MODE in force; 2; R338, R362; reset 0 (spec) -/
  mode : Nat := 0
  /-- cycle at which retraining ends; 48; R341; reset none (DESIGN CHOICE 1) -/
  retrainEnd : Option Nat := none
  /-- ring Q1: the samples of received frames, for SE12; frames; R47, R342; reset [] (DESIGN CHOICE 1) -/
  q1 : List PlcFrame := []
  /-- ring Q8; frames; R351; reset [] (spec) -/
  q8 : List TxFrame := []
  /-- entries that have fallen due and not started, in key order; entries; R352; reset [] (DESIGN CHOICE 1) -/
  waiting : List PlcTx := []
  /-- frame on the line and its end; frame, 2⁻³² ns; R352; reset none (DESIGN CHOICE 1) -/
  tx : Option (TxFrame × Nat) := none
  /-- the driver is muted by the line side; 1; R343, R344; reset true (spec) -/
  muted : Bool := true
  /-- average noise per phase bin, 0.25 dBm; 64 × 16 signed; R349; reset List.replicate 64 none (DESIGN CHOICE 1) -/
  bins : List (Option Int) := List.replicate 64 none
  /-- noisy bins; 64; R350; reset 0 (DESIGN CHOICE 1) -/
  noisy : BitVec 64 := 0
  /-- PX7 NOQUIET; 1; R353, R362; reset false (spec) -/
  noQuiet : Bool := false
  /-- cycles measured since the last mode change; 32; R366; reset 0 (DESIGN CHOICE 1) -/
  measured : Nat := 0
  /-- domain nodes and their zero-crossing records by node index; 2,048 nodes; R358, R359; reset [] (spec) -/
  nodes : List (Nat × ZcRec) := []
  /-- 6 dB are added; 1; R347; reset false (spec) -/
  thermal : Bool := false
  /-- FRAMES_OK; 32; R365; reset 0 (spec) -/
  framesOk : Nat := 0
  /-- FRAMES_BAD; 32; R365; reset 0 (spec) -/
  framesBad : Nat := 0
  /-- BROKEN; 32; R365; reset 0 (spec) -/
  broken : Nat := 0
  /-- TX_SENT; 32; R365; reset 0 (spec) -/
  txSent : Nat := 0
  /-- NO_WINDOW; 32; R365; reset 0 (spec) -/
  noWindow : Nat := 0
  /-- TRUNCATED; 32; R365; reset 0 (spec) -/
  truncated : Nat := 0
  /-- CSMA_FAIL; 32; R365; reset 0 (spec) -/
  csmaFail : Nat := 0
  /-- JOIN_REFUSED; 32; R365; reset 0 (spec) -/
  joinRefused : Nat := 0
  /-- queued frames discarded at a mode change; 32; R341; reset 0 (DESIGN CHOICE 1) -/
  discarded : Nat := 0
  /-- the full event of this start has been recorded; 1; R360; reset false (DESIGN CHOICE 1) -/
  fullSeen : Bool := false
  /-- frames sent: start key, frame, newest first; frames; R351; reset [] (the model's own field, DESIGN CHOICE 10) -/
  sent : List (Nat × TxFrame) := []
deriving DecidableEq, Repr

end Sys2Proof.Machine
end

