-- ==== Sys2Proof/Machine/StRad.lean ====
section
/-! DEFINITION. Radio front ends, lanes and the wake-up receiver ("Radio front ends and the channelizer"). -/

namespace Sys2Proof.Machine

/-- A released or running transmission of a front end (R279, R284). -/
structure RunTx where
  /-- the frame; frame; R279; reset {} (DESIGN CHOICE 1) -/
  frame : TxFrame := {}
  /-- key of its entry; 64; R279; reset 0 (DESIGN CHOICE 1) -/
  key : Nat := 0
  /-- rate-corrected instant of PA_EN assertion; 2⁻³² ns; R284; reset 0 (DESIGN CHOICE 1) -/
  onRc : Nat := 0
  /-- rate-corrected instant of PA_EN deassertion; 2⁻³² ns; R284; reset 0 (DESIGN CHOICE 1) -/
  offRc : Nat := 0
deriving DecidableEq, Repr

/-- The airtime of one transmission (R287). -/
structure Air where
  /-- operating time at its PA_EN assertion; 2⁻³² ns; R287, R288; reset 0 (DESIGN CHOICE 1) -/
  onRc : Nat := 0
  /-- lower edge of its channel; Hz; R288; reset 0 (DESIGN CHOICE 1) -/
  lowHz : Nat := 0
  /-- upper edge of its channel; Hz; R288; reset 0 (DESIGN CHOICE 1) -/
  highHz : Nat := 0
  /-- PA_EN assertion to deassertion; 2⁻³² ns; R287; reset 0 (DESIGN CHOICE 1) -/
  airRc : Nat := 0
deriving DecidableEq, Repr

/-- One front end. -/
structure FeSt where
  /-- calibrated: its lanes may deliver frames; 1; R263; reset false (DESIGN CHOICE 1) -/
  ready : Bool := false
  /-- end of the calibration in progress; 2⁻³² ns; R263; reset none (DESIGN CHOICE 1) -/
  calEnd : Option Nat := none
  /-- a capture change committed and not yet in effect, and its commit; structure, 2⁻³² ns; R264; reset none (DESIGN CHOICE 1) -/
  retune : Option (FeCfg × Nat) := none
  /-- end of the 150 µs for which a retune stops the lanes; 2⁻³² ns; R264; reset 0 (DESIGN CHOICE 1) -/
  retuneEnd : Nat := 0
  /-- the transmission in progress or next to start; transmission; R281; reset none (DESIGN CHOICE 1) -/
  tx : Option RunTx := none
  /-- transmissions released while another runs, each starting after the one before it ends; transmissions; R279, R281; reset [] (DESIGN CHOICE 1) -/
  txNext : List RunTx := []
  /-- end of the last blanking of its lanes; 2⁻³² ns; R284; reset 0 (DESIGN CHOICE 1) -/
  blankEnd : Nat := 0
  /-- latest PA_EN deassertion; 2⁻³² ns; R281; reset 0 (DESIGN CHOICE 1) -/
  paOff : Nat := 0
  /-- RS5, RS6 DUTY; 1; R288, R294; reset false (spec) -/
  dutyHold : Bool := false
  /-- FRAMES_OK; 32; R298; reset 0 (spec) -/
  framesOk : Nat := 0
  /-- FRAMES_BAD; 32; R298; reset 0 (spec) -/
  framesBad : Nat := 0
  /-- DROPPED_FULL; 32; R298; reset 0 (spec) -/
  droppedFull : Nat := 0
  /-- BLANKED; 32; R298; reset 0 (spec) -/
  blanked : Nat := 0
  /-- TX_SENT; 32; R298; reset 0 (spec) -/
  txSent : Nat := 0
  /-- TX_DROPPED; 32; R298; reset 0 (spec) -/
  txDropped : Nat := 0
  /-- dropped transmissions: late, overlapping, busy, truncated, over the duty budget; five of 32 bits; R280, R281, R282, R283, R288; reset [0, 0, 0, 0, 0] (DESIGN CHOICE 1) -/
  drops : List Nat := [0, 0, 0, 0, 0]
  /-- key at which the front end last became able to hear; 64; R325; reset 0 (DESIGN CHOICE 1) -/
  deafEnd : Nat := 0
deriving DecidableEq, Repr

/-- The radio subsystem. -/
structure RadSt where
  /-- front ends A and B; two; R262; reset [{}, {}] (DESIGN CHOICE 1) -/
  fes : List FeSt := [{}, {}]
  /-- ring Q0; frames; R275; reset [] (spec) -/
  q0 : List RadioFrame := []
  /-- ring Q7; frames; R279; reset [] (spec) -/
  q7 : List TxFrame := []
  /-- number that ties the next frame to its entry; 32; R279; reset 1 (the model's own field, DESIGN CHOICE 10) -/
  nextFrame : Nat := 1
  /-- frames discarded per lane because Q0 was full; 32 each; R277; reset [] (DESIGN CHOICE 1) -/
  laneDrops : List (Nat × Nat) := []
  /-- key at which a lane was last enabled; key per lane; R325; reset [] (DESIGN CHOICE 1) -/
  laneDeaf : List (Nat × Nat) := []
  /-- transmissions of the last 3,600 s, newest first; transmissions; R287; reset [] (spec) -/
  airs : List Air := []
  /-- latest duty event per sub-band; 2⁻³² ns per sub-band; R288; reset [] (DESIGN CHOICE 1) -/
  dutyEvts : List (Nat × Nat) := []
  /-- RS13 TX_DROPS; 8; R294; reset 0 (spec) -/
  txDrops : Nat := 0
  /-- transmissions that have ended: front end, key, frame, newest first; frames; R279; reset [] (the model's own field, DESIGN CHOICE 10) -/
  sent : List (Nat × Nat × TxFrame) := []
  /-- duty sums of the last Hem save; transmissions; R288; reset [] (DESIGN CHOICE 1) -/
  savedAirs : List Air := []
deriving DecidableEq, Repr

end Sys2Proof.Machine
end

