-- ==== Sys2Proof/Machine/StTime.lean ====
section
/-! DEFINITION. The time counter, the servo and one-step stamping ("Network time and one-step stamping"). -/

namespace Sys2Proof.Machine

/-- A slew in progress (R123). -/
structure Slew where
  /-- COUNT at which it ends, once its commit has started it; 64; R123; reset 0 (DESIGN CHOICE 1) -/
  endCount : Nat := 0
  /-- computed number of ticks of a slew that waits for its commit; 0 once it runs; 64; R123; reset 0 (DESIGN CHOICE 1) -/
  ticks : Nat := 0
  /-- INCR to restore; 34; R123; reset 0x200000000 (DESIGN CHOICE 1) -/
  restore : Nat := 0x200000000
  /-- correction each tick makes; signed 2⁻³² ns; R123; reset 0 (DESIGN CHOICE 1) -/
  perTick : Int := 0
deriving DecidableEq, Repr

/-- A PTP frame sent, with the fields that the egress pipeline rewrote (R134). -/
structure PtpOut where
  /-- port; 1; R134; reset 0 (DESIGN CHOICE 1) -/
  port : Nat := 0
  /-- message: 0 Sync, 1 Delay_Req, 2 Pdelay_Req, 3 Pdelay_Resp, 9 Delay_Resp, others unstamped; 4; R134; reset 0 (DESIGN CHOICE 1) -/
  kind : Nat := 0
  /-- originTimestamp of a Sync, receiveTimestamp of a Delay_Resp; ns; R134; reset 0 (DESIGN CHOICE 1) -/
  origin : Nat := 0
  /-- correctionField; 1/65,536 ns; R134; reset 0 (DESIGN CHOICE 1) -/
  correction : Int := 0
  /-- UDP checksum sent; none in a frame without UDP; 16; R136; reset none (DESIGN CHOICE 1) -/
  checksum : Option Nat := none
  /-- FCS recomputed; 1; R137; reset false (DESIGN CHOICE 1) -/
  fcsRecomputed : Bool := false
  /-- twoStepFlag of a message of this unit; 1; R130; reset false (spec) -/
  twoStep : Bool := false
deriving DecidableEq, Repr

/-- A received PTP frame as the supervisor takes it (R133). -/
structure PtpIn where
  /-- port; 1; R133; reset 0 (DESIGN CHOICE 1) -/
  port : Nat := 0
  /-- messageType; 4; R133; reset 0 (DESIGN CHOICE 1) -/
  kind : Nat := 0
  /-- sourcePortIdentity; 80; R135; reset 0 (DESIGN CHOICE 1) -/
  ident : Nat := 0
  /-- sequenceId; 16; R135; reset 0 (DESIGN CHOICE 1) -/
  seqId : Nat := 0
  /-- receive stamp at the reference plane; none for a frame that passed unstamped; 2⁻³² ns; R133, R140; reset none (DESIGN CHOICE 1) -/
  stamp : Option Nat := none
deriving DecidableEq, Repr

/-- UTC offset and leap indicators as one source supplies them (R129). -/
structure UtcInfo where
  /-- TAI − UTC in s; 16 signed; R129; reset 0 (DESIGN CHOICE 1) -/
  utc : Int := 0
  /-- a leap second is to be inserted; 1; R145; reset false (DESIGN CHOICE 1) -/
  leap61 : Bool := false
  /-- a leap second is to be deleted; 1; R145; reset false (DESIGN CHOICE 1) -/
  leap59 : Bool := false
  /-- UTC day that the leap indicator names; UTC day number; R129; reset 0 (DESIGN CHOICE 1) -/
  day : Nat := 0
deriving DecidableEq, Repr

/-- The counter and the servo. -/
structure TimeSt where
  /-- COUNT, 2 ns ticks since power-on of the always-on island; 64; R114; reset 0 (spec) -/
  count : Nat := 0
  /-- rate-corrected time, the sum written COUNT × INCR; 2⁻³² ns; R116; reset 0 (spec) -/
  rc : Nat := 0
  /-- INCR; 34; R119; reset 0x200000000 (spec) -/
  incr : Nat := 0x200000000
  /-- OFFSET; 96 signed, 2⁻³² ns; R117, R119; reset 0 (spec) -/
  offset : Int := 0
  /-- OFFSET has been written since power-on of the always-on island; 1; R83; reset false (spec) -/
  offsetWritten : Bool := false
  /-- shadow pair waiting for its commit; INCR, OFFSET; R121; reset none (DESIGN CHOICE 1) -/
  shadow : Option (Nat × Option Int) := none
  /-- slew that the waiting commit starts or goes on with; slew; R121, R123; reset none (DESIGN CHOICE 1) -/
  shadowSlew : Option Slew := none
  /-- the waiting OFFSET applies the held correction; 1; R125; reset false (DESIGN CHOICE 1) -/
  shadowTake : Bool := false
  /-- slew in progress; slew; R123; reset none (DESIGN CHOICE 1) -/
  slew : Option Slew := none
  /-- slews whose unremoved part was discarded; 32; R124; reset 0 (DESIGN CHOICE 1) -/
  slewDiscarded : Nat := 0
  /-- held backward correction; ns signed; R125; reset none (spec) -/
  held : Option Int := none
  /-- Q6 SRC; 3; R145; reset .freeRun (spec) -/
  src : TimeSrc := .freeRun
  /-- Q7 SERVO; 2; R145; reset .freeRun (spec) -/
  servo : Servo := .freeRun
  /-- port 0 is a qualified IEEE 1588 slave; 1; R126; reset false (DESIGN CHOICE 1) -/
  qual0 : Bool := false
  /-- port 1 is a qualified IEEE 1588 slave; 1; R126; reset false (DESIGN CHOICE 1) -/
  qual1 : Bool := false
  /-- port the best master clock algorithm chooses; 1; R126; reset 0 (DESIGN CHOICE 1) -/
  bestPort : Nat := 0
  /-- the parent link reports time qualified; 1; R126, R563; reset false (spec) -/
  qualParent : Bool := false
  /-- a TIME_SET accepted since start-up and no higher source qualified since; 1; R126; reset false (DESIGN CHOICE 1) -/
  hostSet : Bool := false
  /-- the selection followed the loss of an IEEE 1588 or parent source with no TIME_SET since; 1; R147; reset false (DESIGN CHOICE 1) -/
  lostHigher : Bool := false
  /-- consecutive Sync intervals below 1 µs; 5; R147; reset 0 (DESIGN CHOICE 1) -/
  below1us : Nat := 0
  /-- servo offset of the selected source; 64 signed; R144; reset 0 (spec) -/
  offsetNs : Int := 0
  /-- PATH_DELAY_NS; 32; R144; reset 0 (spec) -/
  pathDelayNs : Nat := 0
  /-- steps counted; 16; R144; reset 0 (DESIGN CHOICE 1) -/
  steps : Nat := 0
  /-- trims counted; 32; R108; reset 0 (DESIGN CHOICE 1) -/
  trims : Nat := 0
  /-- what the selected IEEE 1588 source's Announce messages supply; offset, indicators; R129; reset none (spec) -/
  utcPtp : Option UtcInfo := none
  /-- what the parent's latest TIME_RESP supplies; offset, indicators; R129, R563; reset none (spec) -/
  utcParent : Option UtcInfo := none
  /-- UTC offset that a source supplied last; 16 signed; R129; reset none (DESIGN CHOICE 424) -/
  utcLast : Option Int := none
  /-- UTC offset of the latest TIME_SET with FLAGS bit 0; 16 signed; R129; reset none (spec) -/
  utcFromHost : Option Int := none
  /-- Delay_Req receive stamps: port, identity, sequenceId, stamp in 2⁻³² ns, rate-corrected time of receipt; 64 per port; R135; reset [] (DESIGN CHOICE 1) -/
  delayReqs : List (Nat × Nat × Nat × Nat × Nat) := []
  /-- PTP frames passed to the supervisor with their stamps; frames; R133; reset [] (DESIGN CHOICE 1) -/
  ptpIn : List PtpIn := []
  /-- measured link delay of each port; 1/65,536 ns per port; R134; reset [0, 0] (DESIGN CHOICE 1) -/
  linkDelay : List Nat := [0, 0]
  /-- frames sent, oldest first; frames; R134; reset [] (DESIGN CHOICE 1) -/
  ptpOut : List PtpOut := []
  /-- Delay_Resp without a match, dropped and counted; 32; R135; reset 0 (DESIGN CHOICE 1) -/
  delayRespDropped : Nat := 0
  /-- 1 the anchoring, 2 a step, waits for its phase tick's work; 0 none; 2; R83, R109; reset 0 (DESIGN CHOICE 1) -/
  stepDue : Nat := 0
  /-- mains key at which the last OFFSET commit took effect; 64; R109; reset 0 (DESIGN CHOICE 1) -/
  stepKey : Nat := 0
  /-- hosts and commands of the TIME_STEPs whose responses wait for the phase tick of the step; host, command; R143; reset [] (DESIGN CHOICE 1) -/
  stepOwners : List (Nat × Taken) := []
deriving DecidableEq, Repr

end Sys2Proof.Machine
end

