-- ==== Sys2Proof/Machine/State.lean ====
section
/-! DEFINITION. The state of the DQ9100 as plain data, its faults and refusals, and the state right after manufacture. -/

namespace Sys2Proof.Machine

/-- The machine's faults: no rule of the spec stops the block with a fault, so there is none. -/
inductive Fault
deriving DecidableEq, Repr

/-- The machine's refusals. -/
inductive Refusal
  /-- Raised by an arm of `exec` that has no meaning yet, and by nothing else; safe, since it stops. -/
  | notModelled (mnemonic : String)
deriving DecidableEq, Repr

/-- Everything the spec gives the machine, one block per chapter, and the queue of waiting commands. -/
structure State where
  /-- the configuration store and the settings in force -/
  cfg : CfgSt := {}
  /-- hosts, mailboxes, leases and rings -/
  hosts : HostsSt := {}
  /-- the mains count and lock -/
  mains : MainsSt := {}
  /-- the scheduler -/
  sched : SchedSt := {}
  /-- the time counter and the servo -/
  time : TimeSt := {}
  /-- the Seam, engines, memories and control words -/
  fab : FabSt := {}
  /-- the event recorder -/
  evt : EvtSt := {}
  /-- supply, start-up, Hem and power states -/
  pwr : PwrSt := {}
  /-- the line side's metrology and the Lining -/
  met : MetSt := {}
  /-- the radio subsystem -/
  rad : RadSt := {}
  /-- the link layer -/
  link : LinkSt := {}
  /-- the power-line port -/
  plc : PlcSt := {}
  /-- meter sessions and ingest -/
  sess : SessSt := {}
  /-- validation state and the version index -/
  vee : VeeSt := {}
  /-- topology, balance and scores -/
  bal : BalSt := {}
  /-- the NAND archive -/
  arch : ArchSt := {}
  /-- the uplink and the device tree -/
  upl : UplSt := {}
  /-- fleet work -/
  fleet : FleetSt := {}
  /-- the Pocket -/
  pocket : KeySt := {}
  /-- firmware images and the boot record -/
  fwu : FwuSt := {}
  /-- the pair link -/
  pair : PairSt := {}
  /-- energy windows, demand, billing, tariffs and pulse outputs -/
  reg : RegSt := {}
  /-- the commands that wait, first in, first out; the model's own, R635's host side and every other agent; reset [] (log entry 2) -/
  pending : List Instr := []
  /-- counter of the free values taken; the model's own; reset 0 (DESIGN CHOICE, log entry 10) -/
  free : Nat := 0
deriving DecidableEq, Repr

/-- The Lining as manufacture seals it: the default calibration image, every register at 0 and rate 1 (R161, R169, R193). -/
def sealLining (m : MetSt) : MetSt :=
  let reg := fun (r : Nat) => ({ tag := Config.regSeal m.sealKey r 0 0 } : RegCopy)
  let rate : RateCopy := { tag := Config.rateSeal m.sealKey 0 1 none }
  { m with
    liningCal := some { sealTag := Config.calSeal m.sealKey {} }
    lining := (List.range 768).map fun r => (reg r, reg r)
    rateImage := (rate, rate) }

/-- The unit as it leaves Nalwinyx, unpowered, nothing stored (log entry 6): a DQ9100-LM in lifecycle Provisioned with its identity key
generated and its debug port locked (R12), or a DQ9100-LMS in lifecycle Debug with the port open (R13, R681). -/
def State.delivered (lms : Bool) : State :=
  { met := sealLining {}
    pocket := if lms then { lms := true, lifecycle := .debug, debugOpen := true, root := 1 } else {} }

/-- The DQ9100-LM as it leaves Nalwinyx (R12). -/
def State.reset : State := State.delivered false

end Sys2Proof.Machine
end

