-- ==== Sys2Proof/Machine/Blocks.lean ====
section
/-! DEFINITION. One updater per block of State, so that a meaning names only the block it changes. -/

namespace Sys2Proof.Machine

/-- Changes the configuration store and the settings in force, and nothing else. -/
def State.onCfg (s : State) (f : CfgSt → CfgSt) : State := { s with cfg := f s.cfg }

/-- Changes hosts, mailboxes, leases and rings, and nothing else. -/
def State.onHosts (s : State) (f : HostsSt → HostsSt) : State := { s with hosts := f s.hosts }

/-- Changes the mains count and lock, and nothing else. -/
def State.onMains (s : State) (f : MainsSt → MainsSt) : State := { s with mains := f s.mains }

/-- Changes the scheduler, and nothing else. -/
def State.onSched (s : State) (f : SchedSt → SchedSt) : State := { s with sched := f s.sched }

/-- Changes the time counter and the servo, and nothing else. -/
def State.onTime (s : State) (f : TimeSt → TimeSt) : State := { s with time := f s.time }

/-- Changes the Seam, engines, memories and control words, and nothing else. -/
def State.onFab (s : State) (f : FabSt → FabSt) : State := { s with fab := f s.fab }

/-- Changes the event recorder, and nothing else. -/
def State.onEvt (s : State) (f : EvtSt → EvtSt) : State := { s with evt := f s.evt }

/-- Changes supply, start-up, Hem and power states, and nothing else. -/
def State.onPwr (s : State) (f : PwrSt → PwrSt) : State := { s with pwr := f s.pwr }

/-- Changes the line side's metrology and the Lining, and nothing else. -/
def State.onMet (s : State) (f : MetSt → MetSt) : State := { s with met := f s.met }

/-- Changes the radio subsystem, and nothing else. -/
def State.onRad (s : State) (f : RadSt → RadSt) : State := { s with rad := f s.rad }

/-- Changes the link layer, and nothing else. -/
def State.onLink (s : State) (f : LinkSt → LinkSt) : State := { s with link := f s.link }

/-- Changes the power-line port, and nothing else. -/
def State.onPlc (s : State) (f : PlcSt → PlcSt) : State := { s with plc := f s.plc }

/-- Changes meter sessions and ingest, and nothing else. -/
def State.onSess (s : State) (f : SessSt → SessSt) : State := { s with sess := f s.sess }

/-- Changes validation state and the version index, and nothing else. -/
def State.onVee (s : State) (f : VeeSt → VeeSt) : State := { s with vee := f s.vee }

/-- Changes topology, balance and scores, and nothing else. -/
def State.onBal (s : State) (f : BalSt → BalSt) : State := { s with bal := f s.bal }

/-- Changes the NAND archive, and nothing else. -/
def State.onArch (s : State) (f : ArchSt → ArchSt) : State := { s with arch := f s.arch }

/-- Changes the uplink and the device tree, and nothing else. -/
def State.onUpl (s : State) (f : UplSt → UplSt) : State := { s with upl := f s.upl }

/-- Changes fleet work, and nothing else. -/
def State.onFleet (s : State) (f : FleetSt → FleetSt) : State := { s with fleet := f s.fleet }

/-- Changes the Pocket, and nothing else. -/
def State.onPocket (s : State) (f : KeySt → KeySt) : State := { s with pocket := f s.pocket }

/-- Changes firmware images and the boot record, and nothing else. -/
def State.onFwu (s : State) (f : FwuSt → FwuSt) : State := { s with fwu := f s.fwu }

/-- Changes the pair link, and nothing else. -/
def State.onPair (s : State) (f : PairSt → PairSt) : State := { s with pair := f s.pair }

/-- Changes energy windows, demand, billing, tariffs and pulse outputs, and nothing else. -/
def State.onReg (s : State) (f : RegSt → RegSt) : State := { s with reg := f s.reg }

end Sys2Proof.Machine
end

