-- ==== Sys2Proof/Machine/Operands.lean ====
section
/-! DEFINITION. The operand forms: numbers, bits and bytes, and the fields of a little-endian payload (R16, R17, R19). -/

namespace Sys2Proof.Machine

/-! ### Numbers and bytes -/

/-- Wrap modulo 2³², as the Collar counters do (R634). -/
def w32 (n : Nat) : Nat := n % 0x100000000

/-- Wrap modulo 2¹⁶. -/
def w16 (n : Nat) : Nat := n % 0x10000

/-- One more, modulo 2³². -/
def inc32 (n : Nat) : Nat := w32 (n + 1)

/-- `size` bytes of `n`, little-endian (R17). -/
def leBytes : Nat → Nat → List Byte
  | 0, _ => []
  | k + 1, n => BitVec.ofNat 8 n :: leBytes k (n / 256)

/-- The number that little-endian bytes spell (R17). -/
def leNat : List Byte → Nat
  | [] => 0
  | b :: bs => b.toNat + 256 * leNat bs

/-- The little-endian field of `size` bytes at `off`. -/
def fld (b : List Byte) (off size : Nat) : Nat := leNat ((b.drop off).take size)

/-- A number of `bits` bits read as two's complement. -/
def signed (bits n : Nat) : Int := if n < 2 ^ (bits - 1) then (n : Int) else (n : Int) - (2 ^ bits : Nat)

/-- The signed little-endian field of `size` bytes at `off`. -/
def fldI (b : List Byte) (off size : Nat) : Int := signed (8 * size) (fld b off size)

/-- `size` bytes of a signed value, two's complement, little-endian. -/
def leBytesI (size : Nat) (v : Int) : List Byte := leBytes size (v % (2 ^ (8 * size) : Nat)).toNat

/-- Whether every byte from `off`, `size` of them, is zero (R19). -/
def zeroAt (b : List Byte) (off size : Nat) : Bool := ((b.drop off).take size).all (· == 0)

/-- A Boolean as 0 or 1. -/
def bit (b : Bool) : Nat := if b then 1 else 0

/-- Whether bit `k` of `n` is set (R16). -/
def hasBit (n k : Nat) : Bool := n.testBit k

/-- The CHECK byte of a wake frame: CRC-8, polynomial 0x07, initial value 0, over the 16 bits of ADDRESS, most significant first (WF4). -/
def wakeCheck (addr : Nat) : Nat :=
  ((List.range 16).foldl (fun (c : BitVec 8) i => if c.msb != addr.testBit (15 - i) then (c <<< 1) ^^^ 0x07#8 else c <<< 1) 0#8).toNat

/-- The division of integers rounded toward minus infinity, by a positive number. -/
def floorDiv (a : Int) (b : Nat) : Int := a.fdiv b

/-- `v` limited to `lo` … `hi`. -/
def clamp (lo hi v : Nat) : Nat := if v < lo then lo else if hi < v then hi else v

end Sys2Proof.Machine
end

