-- ==== Sys2Proof/Machine/Ops.lean ====
section
/-! DEFINITION. The named operations that the meanings share: sparse tables, time, events, the Collar's
W1C copies, responses, host rings. -/

namespace Sys2Proof.Machine

open Host (Outcome)

/-! ### Quotients -/

/-- A quotient in whole numbers where the rule gives no rounding: exact when it is whole, else the next lower or the next higher
number, which of them being open (log entry 15). -/
def openDiv (a : Int) (b : Nat) : Int :=
  if a % b = 0 then a / b else if Config.roundsUp a b then a.fdiv b + 1 else a.fdiv b

/-- A quotient of counts whose rounding the spec leaves open (log entry 15); 0 of nothing. -/
def ratioOf (a b : Nat) : Nat := if b = 0 then 0 else (openDiv a b).toNat

/-! ### Sparse tables -/

/-- The value of key `k`, or `d` when it is not listed. -/
def tget {α : Type} (t : List (Nat × α)) (k : Nat) (d : α) : α :=
  match t.find? (fun p => p.1 == k) with
  | some p => p.2
  | none => d

/-- The value of key `k`, if listed. -/
def tfind {α : Type} (t : List (Nat × α)) (k : Nat) : Option α := (t.find? (fun p => p.1 == k)).map (·.2)

/-- The table with key `k` at `v`; keys stay rising. -/
def tput {α : Type} : List (Nat × α) → Nat → α → List (Nat × α)
  | [], k, v => [(k, v)]
  | (j, w) :: t, k, v =>
    if k < j then (k, v) :: (j, w) :: t
    else if k = j then (k, v) :: t
    else (j, w) :: tput t k v

/-- The table without key `k`. -/
def tdel {α : Type} (t : List (Nat × α)) (k : Nat) : List (Nat × α) := t.filter (fun p => p.1 != k)

/-- One more in the counter of key `k`, modulo 2³². -/
def tbump (t : List (Nat × Nat)) (k : Nat) : List (Nat × Nat) := tput t k (inc32 (tget t k 0))

/-- The n-th element changed. -/
def modAt {α : Type} : List α → Nat → (α → α) → List α
  | [], _, _ => []
  | x :: xs, 0, f => f x :: xs
  | x :: xs, n + 1, f => x :: modAt xs n f

/-- The n-th counter of a list one higher, modulo 2³². -/
def bumpAt (l : List Nat) (n : Nat) : List Nat := modAt l n inc32

/-! ### Free values (log entry 10) -/

/-- Takes the next free value. -/
def State.takeFree (s : State) : Nat × State := (Config.freeNat s.free, { s with free := s.free + 1 })

/-! ### Time -/

/-- 2³², the number of fraction units in one nanosecond (R116). -/
def nsUnit : Nat := 0x100000000

/-- Nanoseconds as 2⁻³² ns. -/
def ofNs (n : Nat) : Nat := n * nsUnit

/-- Microseconds as 2⁻³² ns. -/
def ofUs (n : Nat) : Nat := n * 1000 * nsUnit

/-- Milliseconds as 2⁻³² ns. -/
def ofMs (n : Nat) : Nat := n * 1000000 * nsUnit

/-- Seconds as 2⁻³² ns. -/
def ofS (n : Nat) : Nat := n * 1000000000 * nsUnit

/-- `dt` ticks of the time counter pass: COUNT and the rate-corrected time advance while the always-on island is powered
(R114–R116; log entry 3), and the line side's operating time while it is powered (ML3). -/
def tick (dt : Nat) (s : State) : State :=
  let s := if s.pwr.lineOn then s.onMet fun m => { m with lineNs := m.lineNs + 2 * dt } else s
  if s.pwr.aonOn then
    s.onTime fun t => { t with count := t.count + dt, rc := t.rc + dt * t.incr }
  else s

/-- The rate-corrected time, in 2⁻³² ns (R116). -/
def State.rc (s : State) : Nat := s.time.rc

/-- The reported time in 2⁻³² ns: OFFSET plus the rate-corrected time (R117); a value before the PTP epoch is 0 (R889). -/
def reportedAt (s : State) (rc : Nat) : Nat := (s.time.offset + (rc : Int)).toNat

/-- The reported time now, in 2⁻³² ns. -/
def State.reported (s : State) : Nat := reportedAt s s.time.rc

/-- The reported time now, in whole ns. -/
def State.tai (s : State) : Nat := s.reported / nsUnit

/-- Operating time in 2⁻³² ns (R756). -/
def State.opTime (s : State) : Nat := s.evt.opBase + s.time.rc

/-- OP_S (ER1). -/
def State.opS (s : State) : Nat := w32 (s.opTime / (1000000000 * nsUnit))

/-- OP_SUB, in 2⁻¹⁶ s (ER2). -/
def State.opSub (s : State) : Nat := (s.opTime % (1000000000 * nsUnit)) * 65536 / (1000000000 * nsUnit)

/-- What the source of the UTC offset and leap indicators supplies: the selected IEEE 1588 source, else the parent while its link reports
time qualified (R129). -/
def utcSource (s : State) : Option UtcInfo :=
  let t := s.time
  let parent := if s.cfg.act.parent && t.qualParent then t.utcParent else none
  match t.src with
  | .port0 | .port1 => t.utcPtp.or parent
  | .parent | .host | .freeRun => parent

/-- The UTC offset in use, TAI − UTC in s, and UTC_VALID; when the source that supplied it is lost and nothing else gives one, the last
that a source supplied stays (R129; log entry 424). -/
def utcOffset (s : State) : Int × Bool :=
  match (((utcSource s).map (·.utc)).or s.time.utcFromHost).or (s.cfg.act.utcOffset.or s.time.utcLast) with
  | some u => (u, true)
  | none => (37, false)

/-- LEAP61 and LEAP59 (R129, R145). -/
def leapFlags (s : State) : Bool × Bool :=
  match utcSource s with
  | some i => (i.leap61, i.leap59)
  | none => (false, false)

/-- The end in UTC seconds of the UTC day that a received leap indicator names, and the change of the offset there (R84, R129). -/
def leapAhead (s : State) : Option (Nat × Int) :=
  match utcSource s with
  | some i => if i.leap61 then some ((i.day + 1) * 86400, 1) else if i.leap59 then some ((i.day + 1) * 86400, -1) else none
  | none => none

/-- The UTC offset for an instant given in TAI seconds: after the end of the UTC day that a received leap indicator names,
the offset after that leap (R84). -/
def utcOffsetAt (s : State) (taiS : Nat) : Int :=
  let u := (utcOffset s).1
  match leapAhead s with
  | some (day, shift) => if (day : Int) ≤ (taiS : Int) - (u + shift) then u + shift else u
  | none => u

/-- UTC seconds of an instant in TAI seconds (R84). -/
def utcOf (s : State) (taiS : Nat) : Nat := ((taiS : Int) - utcOffsetAt s taiS).toNat

/-- TAI seconds of an instant in UTC seconds (R84). -/
def taiOfUtc (s : State) (utcS : Nat) : Nat :=
  let shift : Int := match leapAhead s with
    | some (day, shift) => if day ≤ utcS then shift else 0
    | none => 0
  ((utcS : Int) + (utcOffset s).1 + shift).toNat

/-- The local offset in seconds at a UTC instant: the standard offset and the daylight-saving shift in force (R84). -/
def localShift (c : BaseCfg) (utcS : Nat) : Int :=
  let d := match c.dst.find? (fun p => p.1 ≤ utcS && utcS < p.2.1) with
    | some p => p.2.2
    | none => 0
  (c.localOffsetMin + d) * 60

/-! ### Stamps across the Seam (R25, R26) -/

/-- The fixed latency of the framed channel: 1,250 ns (R25). -/
def seamLatency : Nat := ofNs 1250

/-- The compensated instant of a stamp delivered at `delivery`: its delay, in periods of the 24.576 MHz line-side clock, and the fixed
latency are subtracted (R26). -/
def compensate (delivery delay : Nat) : Nat := delivery - delay * (1000000000 * nsUnit) / 24576000 - seamLatency

/-! ### The mains key -/

/-- The nominal frequency in Hz (R72). -/
def nominalHz (s : State) : Nat := if s.mains.nominal60 then 60 else 50

/-- The length of the cycle in progress as the phase generator takes it, in 2⁻³² ns: the nominal cycle in Virtual and
Acquiring (R72), the predicted period otherwise (R69, R71). -/
def cycleLen (s : State) : Nat :=
  match s.mains.state with
  | .virtual | .acquiring => ofS 1 / nominalHz s
  | .locked | .holdover => s.mains.period

/-- The phase at a rate-corrected instant of the cycle in progress: it holds at 65,535 (R58, R69). In Virtual and Acquiring it advances
exactly 65,536 ticks per nominal cycle of rate-corrected time (R72). -/
def phaseAt (s : State) (rc : Nat) : Nat :=
  let age := rc - s.mains.startRc
  match s.mains.state with
  | .virtual | .acquiring => min 65535 ((age * nominalHz s + s.mains.virtFrac) * 65536 / ofS 1)
  | .locked | .holdover => min 65535 (age * 65536 / s.mains.period)

/-- The phase now. -/
def State.phase (s : State) : Nat := phaseAt s s.time.rc

/-- The mains key of a cycle and a phase (R59). -/
def mkKey (cycle phase : Nat) : Nat := cycle * 65536 + phase

/-- The mains key now (R59). -/
def State.key (s : State) : Nat := mkKey s.mains.cycle s.phase

/-- Whether the cycle in progress carries the virtual-mains flag (R74). -/
def State.virtualFlag (s : State) : Bool := s.mains.flagged

/-! ### Events (R760, R884) -/

/-- The class code and number of an event (R758; log entry 9). -/
def evCode (e : EvName) : Nat := e.cls * 256 + Config.evtNumber e % 256

/-- Whether events that arrive now are recorded: not while the logic side is in reset, nor after Hem has completed (R771). -/
def recorderLives (s : State) : Bool :=
  match s.pwr.stage with
  | .off | .held | .parked => false
  | _ => true

/-- Sets W1C bits of a Collar register: all four host copies (R630). -/
def setSticky (off : Nat) (mask : Word) (s : State) : State :=
  s.onHosts fun h => { h with hosts := h.hosts.map fun x => { x with sticky := tput x.sticky off (tget x.sticky off 0 ||| mask) } }

/-- A host's copy of the W1C bits of the register at `off`. -/
def stickyOf (h : HostSt) (off : Nat) : Word := tget h.sticky off 0

/-- Pushes an event onto Q10; a full Q10 makes the producer drop it and count it as lost (R760, R762). -/
def pushEvent (e : QEvent) (s : State) : State :=
  if recorderLives s then
    if s.evt.q10.length < 1024 then s.onEvt fun v => { v with q10 := v.q10 ++ [e] }
    else setSticky 0x078 0x10 (s.onEvt fun v => { v with lost := tbump v.lost e.source })
  else s

/-- A block raises an event by name (R760, R884). -/
def raise (e : EvName) (source : Nat) (detail : List Byte) (s : State) : State :=
  pushEvent { code := evCode e, source := source, severity := Config.evtSeverity (evCode e) % 4, detail := detail,
              opS := s.opS, opSub := s.opSub } s

/-! ### The pair's deltas (R736, R741, R742) -/

/-- Bytes that a delta takes in the journal: header, body fields, data and tag (R733, R736). -/
def deltaBytes : DeltaBody → Nat
  | .ctx _ c => 44 + (if c.isSome then 512 else 0)
  | .bcast _ _ => 48
  | .legal r => 44 + 8 * r.length
  | .demand _ _ => 44 + 64
  | .sched _ _ => 44 + 64
  | .ledger _ _ => 44 + 256
  | .feeder _ f l => 44 + 16 + 40 * f.fit.length + 64 * l.length
  | .balDay _ => 48

/-- Sends a lane message: it takes the next MSG (R733). -/
def PairSt.send (m : LaneMsg) (p : PairSt) : PairSt := { p with laneOut := p.laneOut ++ [(p.msgCount, m)], msgCount := inc32 p.msgCount }

/-- The active unit sends a change of a mirrored class as a delta, numbered with JSEQ, and keeps it in the journal while that is
open; a journal that fills is discarded (R736, R741, R742). -/
def mirror (b : DeltaBody) (s : State) : State :=
  match s.pair.state, s.pair.mirroring with
  | .active, true =>
    let j := s.pair.jseq + 1
    let s := s.onPair fun p =>
      { p.send (.delta j b) with
               jseq := j
               itemSeq := (b.item, j) :: p.itemSeq.filter (fun q => q.1 != b.item)
               journal := if p.journalOpen then p.journal ++ [(j, b)] else p.journal }
    if s.pair.journalOpen && s.cfg.startCfg.pair.journalMib * 1048576 < s.pair.journal.foldl (fun n q => n + deltaBytes q.2) 0 then
      let s := s.onPair fun p =>
        { p.send .syncLost with journal := [], journalOpen := false, mirroring := false, lostSent := true }
      setSticky 0x074 0x1000 (raise .journalFull 0x60 [] s)
    else s
  | _, _ => s

/-- Whether entries of a class are mirrored (MD5). -/
def mirroredClass (cls : Nat) : Bool := (3 ≤ cls && cls ≤ 6) || cls == 8

/-- SOURCE of the supervisor (SO2). -/
def srcSup : Nat := 0x10

/-! ### Hosts -/

/-- A host of the mailbox block. -/
def State.host (s : State) (h : Fin 4) : HostSt := s.hosts.hosts[h]

/-- Replaces a host. -/
def State.setHost (s : State) (h : Fin 4) (x : HostSt) : State :=
  s.onHosts fun b => { b with hosts := b.hosts.set h x }

/-- The ordinals of a host's rings are their places in ascending ring number (R632). -/
def ringsOf (s : State) (h : Nat) : List RingSt := s.hosts.rings.filter fun r => r.owner == h

/-- Whether the host's interrupt condition holds: an enabled bit of HOST.IRQ, RING among them, is set (R633). -/
def irqOn (x : HostSt) : Bool :=
  (x.irq ||| (if x.ringIrq == 0 then 0 else 0x10)) &&& x.irqEn != 0

/-- Changes a host's interrupt registers: a PCIe host gets vector 0 when the condition rises and vector 1 + n when bit n of
RING_IRQ becomes set (R633). -/
def irqChange (f : HostSt → HostSt) (x : HostSt) : HostSt :=
  let y := f x
  let pcie := 1 ≤ x.port && x.port ≤ 4
  let newRings := (List.range 16).filter fun n => y.ringIrq.getLsbD n && !x.ringIrq.getLsbD n
  let v0 := if irqOn y && !irqOn x then [0] else []
  if pcie then { y with msi := y.msi ++ v0 ++ newRings.map (· + 1) } else y

/-- Sets bits of HOST.IRQ (R632). -/
def setIrq (mask : BitVec 5) (x : HostSt) : HostSt := irqChange (fun y => { y with irq := y.irq ||| mask }) x

/-- Sets a bit of SYS.ALARM in all five copies, and HOST.IRQ.ALARM of each host in whose copy it became 1 (R630, R632). -/
def setAlarm (mask : Word) (s : State) : State :=
  s.onHosts fun b =>
    { b with
      alarmN := b.alarmN ||| mask
      hosts := b.hosts.map fun x =>
        let old := tget x.sticky 0x008 0
        let y := { x with sticky := tput x.sticky 0x008 (old ||| mask) }
        if mask &&& ~~~old == 0 then y else setIrq 0x04 y }

/-- A host's responses that wait: the one in the mailbox and those behind it (R635). -/
def waiting (x : HostSt) : Nat := (if x.resp.isSome then 1 else 0) + x.respQ.length

/-- Whether commands are taken: READY or in ROM recovery, not from Hem start on, and the supervisor's domain not retained (R631,
R643, R713, R802). -/
def taking (s : State) : Bool :=
  !s.pwr.hemFlag && (s.pwr.stage == .recovery ||
    (s.hosts.ready && (match s.pwr.state with | .run | .trim => true | .doze | .hold => false)))

/-- HOST.MBOX.CMD_FREE (R635). -/
def cmdFree (s : State) (x : HostSt) : Bool := taking s && x.box.isNone && waiting x ≤ 15

/-- Delivers a response: into the response mailbox if it is free, else behind those that wait (R637); the series remembers
it when it answers the last command taken (R640). -/
def deliver (r : Response) (x : HostSt) : HostSt :=
  let x := { x with lastResp := if x.lastSeq == some r.seq then some r else x.lastResp }
  match x.resp with
  | none => setIrq 0x01 { x with resp := some r }
  | some _ => { x with respQ := x.respQ ++ [r] }

/-- What a command's meaning answers. -/
structure Reply where
  status : Status := .ok
  payload : List Byte := []
  detail : Nat := 0
  /-- no response now: it is produced by a later step -/
  silent : Bool := false
deriving DecidableEq, Repr

/-- A status without a payload. -/
def answer (st : Status) : Reply := { status := st }

/-- OK with a payload. -/
def okWith (p : List Byte) : Reply := { payload := p }

/-- Answers a command of a host (R637–R639); a command taken before its host went offline is answered to nobody (R624). -/
def respond (h : Fin 4) (t : Taken) (r : Reply) (s : State) : State :=
  if t.dead || r.silent then s else
    let x := s.host h
    let x := deliver { opcode := t.opcode, tag := t.tag, hostId := h.val, status := r.status, payload := r.payload,
                       seq := t.seq, detail := r.detail } x
    let x := if r.status == .conflict then { x with conflicts := inc32 x.conflicts } else x
    let x := if r.status == .pending then { x with openCmds := x.openCmds ++ [t] } else x
    s.setHost h x

/-- The final response of a command that answered PENDING (R639); nobody is answered once its host has gone offline or a
restart has ended it (R624, R885). -/
def finish (h : Fin 4) (t : Taken) (r : Reply) (s : State) : State :=
  match (s.host h).openCmds.find? (fun u => u.opcode == t.opcode && u.seq == t.seq && u.tag == t.tag) with
  | none => s
  | some u =>
    respond h u r (s.setHost h { s.host h with openCmds := (s.host h).openCmds.erase u })

/-- `finish` for a host number kept in State. -/
def finishAt (h : Nat) (t : Taken) (r : Reply) (s : State) : State :=
  if hh : h < 4 then finish ⟨h, hh⟩ t r s else s

/-- Runs a mailbox command: when the command dispatched first among those that wait (R647) is this host's and has this opcode,
its own checks are made, its effect done and its answer given (CK9 of R641). Otherwise nothing happens (log entry 5). -/
def runCmd (opcode : Nat) (host : Fin 4) (f : Taken → State → State × Reply) (s : State) : State :=
  match s.hosts.dispatchQ with
  | [] => s
  | (h, t) :: rest =>
    if h = host.val ∧ t.opcode = opcode then
      let s := s.onHosts fun b => { b with dispatchQ := rest }
      let (s', r) := f t s
      if r.status == .pending && 16 ≤ ((s.host host).openCmds.filter fun u => !u.dead).length then respond host t (answer .busy) s
      else respond host t r s'
    else s

/-! ### Host rings (R657–R660) -/

/-- The bit of HOST.RING_IRQ of a ring: its ordinal among its owner's rings (R632). -/
def ringOrdinal (s : State) (r : RingSt) : Nat := ((ringsOf s r.owner).findIdx fun q => q.number == r.number)

/-- Replaces a ring. -/
def setRing (r : RingSt) (s : State) : State :=
  s.onHosts fun b => { b with rings := b.rings.map fun q => if q.number == r.number then r else q }

/-- PROD − CONS modulo 2³². -/
def ringFill (r : RingSt) : Nat := (r.prod + 0x100000000 - r.cons) % 0x100000000

/-- The device pushes an item onto a host ring; `none` when the ring is full or absent (R49, R657, R658). -/
def pushRing (number : Nat) (item : List Byte) (s : State) : Option State :=
  match s.hosts.rings.find? (fun r => r.number == number) with
  | none => none
  | some r =>
    if r.depth ≤ ringFill r then none else
      let padded := item ++ List.replicate (r.slot - item.length) 0
      let r' := { r with items := r.items ++ [padded], prod := inc32 r.prod }
      let s' := setRing r' s
      if r'.thresh ≤ ringFill r' && r.owner < 4 then
        let n := ringOrdinal s r
        some (s'.onHosts fun b =>
          { b with hosts := b.hosts.mapIdx fun i x =>
              if i = r.owner then
                irqChange (fun y => { y with ringIrq := y.ringIrq ||| BitVec.ofNat 16 (2 ^ n) }) x
              else x })
      else some s'

/-- A dropped item is counted in DROPS and CNT.TAP_DROPS and sets STAT bit 1 of its ring (R659, R660). -/
def dropOnRing (number : Nat) (s : State) : State :=
  match s.hosts.rings.find? (fun r => r.number == number) with
  | none => s
  | some r =>
    (setRing { r with drops := w16 (r.drops + 1), stat := r.stat ||| 2 } s).onHosts
      fun b => { b with tapDrops := inc32 b.tapDrops }

/-- A tap push that its ring refuses drops the item (R659). -/
def tapRing (number : Nat) (item : List Byte) (s : State) : State :=
  match pushRing number item s with
  | some s' => s'
  | none => dropOnRing number s

/-- Whether a host owns a ring of SOURCE 0 with that number, and its SLOT holds items of that size (R98, R656). -/
def namesRing (s : State) (h : Nat) (number size : Nat) : Bool :=
  s.hosts.rings.any fun r => r.number == number && r.owner == h && r.source == 0 && size ≤ r.slot

/-- A push onto a device ring that its depth refuses is counted against the ring (R49). -/
def countRefused (q : Nat) (s : State) : State := s.onFab fun f => { f with refused := tbump f.refused q }

/-- The ring and the items held behind it after one more item: it is pushed, or held when the ring is full or others are held before it
(R48, R49, R403). -/
def pushOrHold {α : Type} (depth : Nat) (ring held : List α) (x : α) : List α × List α :=
  if held.isEmpty && ring.length < depth then (ring ++ [x], held) else (ring, held ++ [x])

/-- The ring and the items held behind it once those that find room are pushed (R48, R403). -/
def refill {α : Type} (depth : Nat) (ring held : List α) : List α × List α :=
  (ring ++ held.take (depth - ring.length), held.drop (depth - ring.length))

/-- Counts the push of one more item against a ring that refuses it (R49). -/
def countPush (q : Nat) {α : Type} (ring held : List α) (s : State) : State :=
  if held.isEmpty && ring.length < Config.ringDepth q then s else countRefused q s

/-! ### The engines' work (R35) -/

/-- The work of an engine in the default assignment (K0–K3). -/
inductive EngineWork
  /-- normalisation, de-duplication, feeder series records -/
  | normalise
  /-- validation, estimation and editing -/
  | validate
  /-- topology correlation, energy balance, loss scoring -/
  | balance
  /-- power-line modem and MAC -/
  | plcModem
  /-- page map and space recovery -/
  | pageMap
  /-- uplink bundling and record signing -/
  | uplink
  /-- fleet campaigns -/
  | fleet
deriving DecidableEq, Repr

/-- The number in the base image of the work of a cluster that does this work (K0–K3). -/
def workOf : EngineWork → Nat
  | .normalise => 0
  | .validate => 1
  | .balance => 2
  | .plcModem | .pageMap | .uplink | .fleet => 3

/-- The engine of a cluster that does a work of K3, by its place in the cluster; the work of K0–K2 is shared by all four. -/
def engineOf : EngineWork → Option Nat
  | .plcModem => some 0
  | .pageMap => some 1
  | .uplink => some 2
  | .fleet => some 3
  | .normalise | .validate | .balance => none

/-- What engine `e` works on: the work that the base image assigns to its cluster, in a cluster of K3 its own share (R35). -/
def engineWork (s : State) (e : Nat) : List EngineWork :=
  [EngineWork.normalise, .validate, .balance, .plcModem, .pageMap, .uplink, .fleet].filter fun w =>
    workOf w = s.cfg.startCfg.clusters.getD (e / 4) (e / 4) && (engineOf w).all (· == e % 4)

/-- Whether a cluster is powered: in Run, and in Trim while it is not gated (DO3 of R802). -/
def clusterOn (s : State) (n : Nat) : Bool :=
  match s.pwr.state with
  | .run | .trim => !s.pwr.gated.getLsbD n
  | .doze | .hold => false

/-- Whether a work of the engines runs: a powered cluster is assigned it (R35, R802). -/
def workRuns (s : State) (w : EngineWork) : Bool :=
  (List.range 4).any fun n => s.cfg.startCfg.clusters.getD n n = workOf w && clusterOn s n

/-- Whether an endpoint of a ring is powered; the supervisor, the hardware blocks and the hosts have rules of their own (R47, R802). -/
def endpointOn (s : State) : Endpoint → Bool
  | .engine e => clusterOn s (e / 4)
  | .cluster n => clusterOn s n
  | .engines => (List.range 4).any (clusterOn s)
  | .supervisor | .block _ | .host _ => true

/-- Whether the consumer that the base image names for a device ring takes items (R47). -/
def consumerOn (s : State) (ring : Nat) : Bool :=
  (s.cfg.startCfg.ringPlan.find? fun p => p.ring == ring).all fun p => endpointOn s p.consumer

/-- Whether a work of the engines runs and takes items from a ring (R35, R47). -/
def workTakes (s : State) (w : EngineWork) (ring : Nat) : Bool := workRuns s w && consumerOn s ring

end Sys2Proof.Machine
end

