-- ==== Sys2Proof/Machine/Calendar.lean ====
section
/-! DEFINITION. Dates, the local time of R84–R85 and the next occurrence of each calendar and grid series. -/

namespace Sys2Proof.Machine

/-- Days since 1970-01-01 of a proleptic Gregorian date, counted in years that begin in March. -/
def daysOfDate (y m d : Nat) : Int :=
  let y' := if m ≤ 2 then y - 1 else y
  let m' := if m ≤ 2 then m + 9 else m - 3
  let yoe := y' % 400
  let doy := (153 * m' + 2) / 5 + (d - 1)
  let doe := yoe * 365 + yoe / 4 - yoe / 100 + doy
  ((y' / 400 * 146097 + doe : Nat) : Int) - 719468

/-- Year, month and day of a number of days since 1970-01-01. -/
def dateOfDays (n : Nat) : Nat × Nat × Nat :=
  let z := n + 719468
  let doe := z % 146097
  let yoe := (doe - doe / 1460 + doe / 36524 - doe / 146096) / 365
  let doy := doe - (365 * yoe + yoe / 4 - yoe / 100)
  let mp := (5 * doy + 2) / 153
  let d := doy - (153 * mp + 2) / 5 + 1
  let m := if mp < 10 then mp + 3 else mp - 9
  let y := yoe + z / 146097 * 400
  (if m ≤ 2 then y + 1 else y, m, d)

/-- Local seconds of a UTC instant (R84). -/
def localOf (c : BaseCfg) (utcS : Nat) : Nat := ((utcS : Int) + localShift c utcS).toNat

/-- The UTC instant of a local time: the first one when it occurs twice, the transition when it does not occur (R85). -/
def localToUtc (c : BaseCfg) (loc : Nat) : Nat :=
  let shifts := c.localOffsetMin :: c.dst.map fun p => c.localOffsetMin + p.2.2
  let cands := (shifts.map fun m => ((loc : Int) - m * 60).toNat).filter fun u => localOf c u == loc
  match cands with
  | u :: us => us.foldl min u
  | [] =>
    let trans := (c.dst.map (·.1) ++ c.dst.map (·.2.1)).filter fun t => loc < localOf c t && localOf c (t - 1) < loc
    match trans with
    | t :: ts => ts.foldl min t
    | [] => ((loc : Int) - c.localOffsetMin * 60).toNat

/-- The grid instant after `after` on a grid of `secs` aligned to UTC minutes, in TAI ns (R85). -/
def nextGrid (s : State) (secs after : Nat) : Nat :=
  let step := max 1 secs
  let utc := utcOf s (after / 1000000000)
  let cand := taiOfUtc s ((utc / step + 1) * step) * 1000000000
  if after < cand then cand else taiOfUtc s ((utc / step + 2) * step) * 1000000000

/-- The grid of a demand scheme in seconds: the window, or the subinterval of a sliding scheme (R212, R213). -/
def demandGrid (d : DemandCfg) : Nat := if d.sliding then d.lengthMin * 60 / max 1 d.subint else d.lengthMin * 60

/-- The day profile of a local day: the special day's, else its season's week profile (R833). -/
def dayProfile (cal : Calendar) (day : Nat) : Nat :=
  let (y, m, d) := dateOfDays day
  match cal.special.find? (fun q => (q.year == 0 || q.year == y) && q.month == m && q.day == d) with
  | some q => q.profile
  | none =>
    let before := cal.seasons.filter fun q => q.month * 32 + q.day ≤ m * 32 + d
    let season := match before.getLast? with
      | some q => some q
      | none => cal.seasons.getLast?
    match season with
    | none => 0
    | some q => ((cal.weeks.getD q.week []).getD ((day + 3) % 7) 0)

/-- The switches of a local day: minute of the day and rate, rising (R833). -/
def daySwitches (cal : Calendar) (day : Nat) : List (Nat × Nat) := cal.days.getD (dayProfile cal day) []

/-- The first tariff switch after a TAI instant (ns) and its rate, searched over `fuel` local days; of switches that fall on one instant,
such as those inside an hour that does not occur, the last gives the rate (R85, R205, R833). -/
def nextSwitchIn (s : State) (cal : Calendar) (after : Nat) : Nat → Nat → Option (Nat × Nat)
  | 0, _ => none
  | fuel + 1, day =>
    let c := s.cfg.act
    let insts := (daySwitches cal day).map fun p =>
      (taiOfUtc s (localToUtc c (day * 86400 + p.1 * 60)) * 1000000000, p.2)
    match insts.filter (fun p => after < p.1) with
    | [] => nextSwitchIn s cal after fuel (day + 1)
    | p :: l => some (l.foldl (fun a b => if b.1 ≤ a.1 then b else a) p)

/-- The first tariff switch after a TAI instant, if the calendar holds any. -/
def nextSwitch (s : State) (after : Nat) : Option (Nat × Nat) :=
  match s.cfg.act.calendar with
  | none => none
  | some cal => nextSwitchIn s cal after 400 ((localOf s.cfg.act (utcOf s (after / 1000000000))) / 86400)

/-- The rate of the last switch at or before a local instant, searched back over `fuel` days: each day starts with the rate
of the last switch of the day before (R833). -/
def rateBack (cal : Calendar) : Nat → Nat → Nat → Option Nat
  | 0, _, _ => none
  | fuel + 1, day, minute =>
    match ((daySwitches cal day).filter fun p => p.1 ≤ minute).getLast? with
    | some p => some p.2
    | none => match day with
      | 0 => none
      | d + 1 => rateBack cal fuel d 1440

/-- The calendar's rate at a TAI instant (R205, R833). -/
def calendarRate (s : State) (tai : Nat) : Option Nat :=
  match s.cfg.act.calendar with
  | none => none
  | some cal =>
    let loc := localOf s.cfg.act (utcOf s (tai / 1000000000))
    rateBack cal 400 (loc / 86400) (loc % 86400 / 60)

/-- The next billing instant after a TAI instant: BILLING_DAY at BILLING_TIME, local (R222). -/
def nextBilling (s : State) (after : Nat) : Nat :=
  let c := s.cfg.act
  let loc := localOf c (utcOf s (after / 1000000000))
  let (y, m, _) := dateOfDays (loc / 86400)
  let inst := fun (y m : Nat) =>
    taiOfUtc s (localToUtc c ((daysOfDate y m c.billingDay).toNat * 86400 + c.billingMin * 60)) * 1000000000
  let next := fun (y m : Nat) => if m = 12 then (y + 1, 1) else (y, m + 1)
  let a := inst y m
  if after < a then a else
    let (y1, m1) := next y m
    let b := inst y1 m1
    if after < b then b else
      let (y2, m2) := next y1 m1
      inst y2 m2

/-! ### The rate that the logic side gives (R202, R203, R205, R231) -/

/-- The host whose hold is in force: highest PRECEDENCE, then lower host ID (R231). -/
def bestHold (s : State) : Option (Nat × Hold) :=
  s.reg.holds.foldl (fun acc p =>
    match acc with
    | none => some p
    | some q =>
      let pr := fun (h : Nat) => if hh : h < 4 then (s.host ⟨h, hh⟩).precedence else 0
      if pr q.1 < pr p.1 then some p else some q) none

/-- Whether a rate selection is valid (R202). -/
def rateOk (s : State) (r : Nat) : Bool := 1 ≤ r && r ≤ s.cfg.act.ratesUsed

/-- The rate that the logic side gives: the hold in force, the calendar, rate 1 (R203). -/
def logicRate (s : State) : Nat :=
  let hold := (bestHold s).bind fun p => if rateOk s p.2.rate then some p.2.rate else none
  let cal := s.reg.calRate.bind fun r => if rateOk s r then some r else none
  (hold.or cal).getD 1

/-- Whether a setting on its way to the line side is a rate. -/
def isRate : LineCtl → Bool
  | .rate .. => true
  | .metro _ | .warnV _ => false

/-- Commits a rate to the DSP, tagged with the first cycle at which it applies: it goes by position 9 or 10 and waits while the framed
channel is down; a later commit replaces one that still waits (R24, R205). -/
def commitRate (cycle : Nat) (s : State) : State :=
  let r := logicRate s
  s.onFab fun f => { f with toLine := (f.toLine.filter fun c => !isRate c) ++ [.rate r cycle] }

end Sys2Proof.Machine
end

