-- ==== Sys2Proof/Machine/Axdr.lean ====
section
/-! DEFINITION. The reading of a plaintext APDU from its bytes: the A-XDR types of R388 and the APDUs of R387 in the coding of the
DLMS/COSEM standard (PRESUMED, log entry 24). -/

namespace Sys2Proof.Machine

/-- The number that bytes spell, most significant first. -/
def beNat (b : List Byte) : Nat := b.foldl (fun n x => n * 256 + x.toNat) 0

/-- `size` bytes of `n`, most significant first. -/
def beBytes (size n : Nat) : List Byte := (leBytes size n).reverse

/-- The next `n` bytes and the rest, where there are so many. -/
def takeBytes (n : Nat) (b : List Byte) : Option (List Byte × List Byte) :=
  if n ≤ b.length then some (b.take n, b.drop n) else none

/-- A length: one byte below 0x80, else 0x80 plus the number of bytes that spell it. -/
def readLen : List Byte → Option (Nat × List Byte)
  | [] => none
  | x :: b =>
    if x.toNat < 0x80 then some (x.toNat, b)
    else if x.toNat = 0x80 || 0x84 < x.toNat then none
    else (takeBytes (x.toNat - 0x80) b).map fun q => (beNat q.1, q.2)

/-- An unsigned integer of `size` bytes. -/
def readUnsigned (tag size : Nat) (b : List Byte) : Option (Axdr × List Byte) :=
  (takeBytes size b).map fun q => (.int tag (beNat q.1), q.2)

/-- A signed integer of `size` bytes. -/
def readSigned (tag size : Nat) (b : List Byte) : Option (Axdr × List Byte) :=
  (takeBytes size b).map fun q => (.int tag (signed (8 * size) (beNat q.1)), q.2)

/-- A bit-string, its first bit the most significant; beyond 64 bits the parser takes none (R388). -/
def readBits (b : List Byte) : Option (Axdr × List Byte) :=
  match readLen b with
  | none => none
  | some (n, b) => (takeBytes ((n + 7) / 8) b).map fun q =>
    let v := beNat q.1 / 2 ^ (8 * ((n + 7) / 8) - n)
    (if n ≤ 64 then .int 0x04 v else .bits v, q.2)

/-- Twelve bytes as a date-time where every field down to the second is specified, else as plain octets. -/
def dateTimeOf (b : List Byte) : Axdr :=
  let at8 := fun n => (b.getD n 0).toNat
  let y := beNat (b.take 2)
  let (mo, d, h, mi, se) := (at8 2, at8 3, at8 5, at8 6, at8 7)
  let cs := if at8 8 = 0xFF then 0 else at8 8
  let dev := beNat ((b.drop 9).take 2)
  if 1970 ≤ y && y < 0xFFFF && 1 ≤ mo && mo ≤ 12 && 1 ≤ d && d ≤ 31 && h < 24 && mi < 60 && se < 60 && cs < 100 then
    .dateTime (((daysOfDate y mo d).toNat * 86400 + h * 3600 + mi * 60 + se) * 100 + cs) (signed 16 dev) (dev = 0x8000) (b.getD 11 0)
  else .octets b

/-- An octet-string; one of 12 bytes is read as a date-time (R388). -/
def readOctets (b : List Byte) : Option (Axdr × List Byte) :=
  match readLen b with
  | none => none
  | some (n, b) => (takeBytes n b).map fun q => (if n = 12 then dateTimeOf q.1 else .octets q.1, q.2)

/-- A value of a simple type, its tag already read (R388). -/
def readSimple (tag : Nat) (b : List Byte) : Option (Axdr × List Byte) :=
  match tag with
  | 0x00 => some (.null, b)
  | 0x03 => readUnsigned 0x03 1 b
  | 0x04 => readBits b
  | 0x05 => readSigned 0x05 4 b
  | 0x06 => readUnsigned 0x06 4 b
  | 0x09 => readOctets b
  | 0x0F => readSigned 0x0F 1 b
  | 0x10 => readSigned 0x10 2 b
  | 0x11 => readUnsigned 0x11 1 b
  | 0x12 => readUnsigned 0x12 2 b
  | 0x14 => readSigned 0x14 8 b
  | 0x15 => readUnsigned 0x15 8 b
  | 0x16 => readUnsigned 0x16 1 b
  | _ => none

/-- Passes over the values of arrays and structures, `open` holding how many are left on each level, of which at most `levels` may be
open; the first argument bounds the steps. -/
def skipData (levels : Nat) : Nat → List Nat → List Byte → Option (List Byte)
  | 0, _, _ => none
  | _ + 1, [], b => some b
  | n + 1, 0 :: rest, b => skipData levels n rest b
  | n + 1, (k + 1) :: rest, b =>
    match b with
    | [] => none
    | t :: b =>
      if t.toNat = 1 || t.toNat = 2 then
        match readLen b with
        | some (c, b) => if levels < rest.length + 2 then none else skipData levels n (c :: k :: rest) b
        | none => none
      else
        match readSimple t.toNat b with
        | some (.bits _, _) => none
        | some (_, b) => skipData levels n (k :: rest) b
        | none => none

/-- An element of a row that stands at nesting level `level`: a simple value, or an array or structure that no column reads; nesting goes
at most 4 levels deep (R388). -/
def readElem (level : Nat) : List Byte → Option (Axdr × List Byte)
  | [] => none
  | t :: b =>
    if t.toNat = 1 || t.toNat = 2 then
      match readLen b with
      | some (c, b) => if 4 < level + 1 then none else (skipData (4 - level) (2 * b.length + 2) [c] b).map fun r => (.compound, r)
      | none => none
    else readSimple t.toNat b

/-- The elements of a row. -/
def readElems (level : Nat) : Nat → List Byte → Option (List Axdr × List Byte)
  | 0, b => some ([], b)
  | n + 1, b =>
    match readElem level b with
    | some (x, b) => (readElems level n b).map fun q => (x :: q.1, q.2)
    | none => none

/-- A row at a nesting level: the elements of a structure, or one value alone. -/
def readRow (level : Nat) : List Byte → Option (List Axdr × List Byte)
  | [] => none
  | t :: b =>
    if t.toNat = 2 then
      match readLen b with
      | some (c, b) => readElems level c b
      | none => none
    else (readElem (level - 1) (t :: b)).map fun q => ([q.1], q.2)

/-- The rows of an array. -/
def readRows : Nat → List Byte → Option (List (List Axdr) × List Byte)
  | 0, b => some ([], b)
  | n + 1, b =>
    match readRow 2 b with
    | some (r, b) => (readRows n b).map fun q => (r :: q.1, q.2)
    | none => none

/-- The untagged values of one row of a compact-array. -/
def readTyped : List Nat → List Byte → Option (List Axdr × List Byte)
  | [], b => some ([], b)
  | t :: ts, b =>
    match readSimple t b with
    | some (x, b) => (readTyped ts b).map fun q => (x :: q.1, q.2)
    | none => none

/-- The rows of a compact-array's contents; the first argument bounds their number. -/
def readTypedRows (types : List Nat) : Nat → List Byte → Option (List (List Axdr))
  | _, [] => some []
  | 0, _ :: _ => none
  | n + 1, b =>
    match readTyped types b with
    | some (r, b) => (readTypedRows types n b).map fun q => r :: q
    | none => none

/-- A compact-array of simple values or of structures of them, its tag already read. -/
def readCompact (b : List Byte) : Option (List (List Axdr) × List Byte) :=
  let types : Option (List Nat × List Byte) := match b with
    | [] => none
    | t :: b =>
      if t.toNat = 2 then
        match readLen b with
        | some (c, b) => (takeBytes c b).map fun q => (q.1.map (·.toNat), q.2)
        | none => none
      else some ([t.toNat], b)
  match types with
  | none => none
  | some (types, b) =>
    match readOctetsRaw b with
    | some (body, rest) => (readTypedRows types body.length body).map fun rows => (rows, rest)
    | none => none
where
  /-- Bytes behind their length. -/
  readOctetsRaw (b : List Byte) : Option (List Byte × List Byte) :=
    match readLen b with
    | some (n, b) => takeBytes n b
    | none => none

/-- The data of a response: an array of rows, a compact-array or one row, and whether it is a compact-array (AP2, R388). -/
def readData : List Byte → Option (List (List Axdr) × Bool)
  | [] => none
  | t :: b =>
    let whole := fun (compact : Bool) (q : List (List Axdr) × List Byte) => if q.2.isEmpty then some (q.1, compact) else none
    if t.toNat = 1 then
      match readLen b with
      | some (c, b) => (readRows c b).bind (whole false)
      | none => none
    else if t.toNat = 0x13 then (readCompact b).bind (whole true)
    else (readRow 1 (t :: b)).bind fun q => whole false ([q.1], q.2)

/-- Rows as the response to an invocation. -/
def rowsApdu (invoke : Nat) (b : List Byte) : PlainApdu :=
  match readData b with
  | some (rows, true) => .compact invoke rows
  | some (rows, false) => .getResponse invoke rows
  | none => .bad

/-- The integers of rows, as SE15 reads a response (R579). -/
def rowInts (rows : List (List Axdr)) : List Nat :=
  rows.flatten.filterMap fun x => match x with
    | .int _ v => some v.toNat
    | .bits v => some v
    | _ => none

/-- The time that an optional octet-string gives: absent at length 0 (AP1, AP4). -/
def readTime (b : List Byte) : Option (Axdr × List Byte) :=
  match b with
  | [] => none
  | n :: b =>
    if n.toNat = 0 then some (.null, b)
    else if n.toNat = 12 then (takeBytes 12 b).map fun q => (dateTimeOf q.1, q.2)
    else none

/-- AP1, its tag read: invoke-id, time and one row. -/
def readNotification (b : List Byte) : PlainApdu :=
  match readTime (b.drop 4) with
  | some (t, b) =>
    match readRow 1 b with
    | some (row, []) => .notification t row
    | _ => .bad
  | none => .bad

/-- AP2 and AP3, their tag read. -/
def readGet : List Byte → PlainApdu
  | choice :: inv :: b =>
    let invoke := inv.toNat % 16
    match choice.toNat, b with
    | 1, ok :: b => if ok.toNat = 0 then rowsApdu invoke b else .fleetAnswer invoke false []
    | 2, last :: b =>
      match takeBytes 4 b with
      | some (block, ok :: b) =>
        if ok.toNat ≠ 0 then .fleetAnswer invoke false []
        else
          match readCompact.readOctetsRaw b with
          | some (raw, []) => .datablock invoke (beNat block) (last.toNat ≠ 0) raw
          | _ => .bad
      | _ => .bad
    | _, _ => .bad
  | _ => .bad

/-- AP4, its tag read: time, the attribute's 9 bytes, its value. -/
def readEvent (b : List Byte) : PlainApdu :=
  let t : Option (Axdr × List Byte) := match b with
    | [] => none
    | flag :: b => if flag.toNat = 0 then some (.null, b) else readTime b
  match t with
  | some (t, b) =>
    match readElem 0 (b.drop 9) with
    | some (v, []) => if 9 ≤ b.length then .event t v else .bad
    | _ => .bad
  | none => .bad

/-- A set-response or an action-response, its tag read, with the data that an action returns (R579). -/
def readAnswer : List Byte → PlainApdu
  | choice :: inv :: result :: b =>
    if choice.toNat ≠ 1 then .bad
    else
      let data := match b with
        | p :: q :: b => if p.toNat = 1 && q.toNat = 0 then ((readData b).map fun d => rowInts d.1).getD [] else []
        | _ => []
      .fleetAnswer (inv.toNat % 16) (result.toNat = 0) data
  | _ => .bad

/-- What a plaintext APDU is (R387, R388, R579). -/
def readApdu : List Byte → PlainApdu
  | [] => .bad
  | t :: b =>
    match t.toNat with
    | 0x0F => readNotification b
    | 0xC4 => readGet b
    | 0xC2 => readEvent b
    | 0xC5 | 0xC7 => readAnswer b
    | _ => .bad

/-- Whether a plaintext APDU is one of those of R387 (R380). -/
def plainTag (b : List Byte) : Bool := [0x0F, 0xC4, 0xC2].contains (b.headD 0).toNat

end Sys2Proof.Machine
end

