-- ==== Sys2Proof/Machine/Cipher.lean ====
section
/-! DEFINITION. AES-GCM over an uninterpreted key stream and tag: what a key, an IV, additional data, a text and a tag give (R381, R674). -/

namespace Sys2Proof.Machine

/-- A text with the key stream of a key and an IV over it: encryption and decryption alike. -/
def gcmXor (key iv text : List Byte) : List Byte := text.mapIdx fun n x => x ^^^ Config.gcmStream key iv n

/-- The first `size` bytes of the tag of additional data and a ciphertext, as a little-endian number. -/
def gcmTagOf (size : Nat) (key iv add text : List Byte) : Nat := (Config.gcmTag key iv add text).toNat % 2 ^ (8 * size)

/-- The plaintext of a ciphertext whose tag of `size` bytes verifies. -/
def gcmOpen (size : Nat) (key iv add text : List Byte) (tag : Nat) : Option (List Byte) :=
  if tag = gcmTagOf size key iv add text then some (gcmXor key iv text) else none

/-- Whether the tag of data that is authenticated and not encrypted verifies (R380). -/
def gmacOk (size : Nat) (key iv add : List Byte) (tag : Nat) : Bool := tag == gcmTagOf size key iv add []

end Sys2Proof.Machine
end

