-- ==== Sys2Proof/Machine/Sched.lean ====
section
/-! DEFINITION. Wall time on the mains count (R79–R82, R889) and the scheduler (R86–R96). Wall times are in 2⁻³² ns. -/

namespace Sys2Proof.Machine

/-! ### The cross-reference -/

/-- The length a cycle record spans: that of its cycle, or of the cycle in progress. -/
def recLen (s : State) (r : CycleRec) : Nat := if r.lenRc == 0 then cycleLen s else r.lenRc

/-- A converted instant: the value, whether the kept record covers it, the error bound and SEG_FLAGS (R81, R101). -/
structure Conv where
  value : Nat := 0
  kept : Bool := false
  errNs : Nat := 0
  flags : Nat := 0
deriving DecidableEq, Repr

/-- The kept segments: those with wall times that closed within the latest 400 days (R83, R889; log entry 425). -/
def keptSegments (s : State) : List Segment :=
  s.mains.segments.filter fun g => g.wall && s.tai < g.closedTai + 400 * 86400 * 1000000000

/-- SEG_FLAGS bits 2 and 3 of the segment that holds a cycle, the one in progress included. -/
def segMarks (s : State) (cycle : Nat) : Nat :=
  if s.mains.segFirst ≤ cycle then (s.mains.segFlags.toNat / 4) * 4
  else match s.mains.segments.find? (fun g => g.first ≤ cycle && cycle < g.next) with
    | some g => 4 * bit g.step + 8 * bit g.restart
    | none => 0

/-- Error bound and flags of the cycle of a per-cycle record (R81, R101). -/
def recBound (s : State) (r : CycleRec) : Nat × Nat :=
  let f := match r.state with
    | .virtual | .acquiring => 1
    | .holdover => 2
    | .locked => 0
  (if r.accepted then 21 else 0, f + segMarks s r.cycle)

/-- The segment's flags as SEG_FLAGS, interpolated (R101). -/
def segFlagsOf (g : Segment) : Nat := bit g.virtual + 2 * bit g.holdover + 4 * bit g.step + 8 * bit g.restart + 16

/-- A stretch of the kept record over which keys and wall time go together linearly: keys from `key0` to below `keyN`, wall
times from `start` to below `stop`, `num` ticks in `den` of 2⁻³² ns (R79–R81). -/
structure Span where
  key0 : Nat
  keyN : Nat
  start : Nat
  stop : Nat
  num : Nat
  den : Nat
  errNs : Nat
  flags : Nat
deriving DecidableEq, Repr

/-- The wall time of a key of a span (R81). -/
def Span.wallAt (g : Span) (key : Nat) : Nat := g.start + (key - g.key0) * g.den / max 1 g.num

/-- The key of a wall time in a span, rounded down to the phase tick and held below the next span's first key (R82). -/
def Span.keyAt (g : Span) (w : Nat) : Nat := min (g.keyN - 1) (g.key0 + (w - g.start) * g.num / max 1 g.den)

/-- Whether a wall time lies in a span. -/
def Span.covers (g : Span) (w : Nat) : Bool := g.start ≤ w && w < g.stop

/-- The span of a per-cycle record; the cycle in progress reaches to the present, its phase held (R69, R81, R109). -/
def recSpan (s : State) (r : CycleRec) : Span :=
  let b := recBound s r
  let stop := r.startTai + recLen s r * (r.phase1 - r.phase0) / 65536
  let open_ := r.lenRc == 0 && r.phase1 == 65536
  { key0 := mkKey r.cycle r.phase0, keyN := mkKey r.cycle r.phase1, start := r.startTai, stop := if open_ then s.reported + 1 else stop
    num := 65536, den := recLen s r, errNs := b.1, flags := b.2 }

/-- The span of a segment, cut where the per-cycle records begin (R80, R81). -/
def segSpan (oldest : Nat) (g : Segment) : Span :=
  let whole : Span :=
    { key0 := mkKey g.first 0, keyN := mkKey g.next 0, start := ofNs g.startTai, stop := ofNs g.endTai
      num := mkKey (g.next - g.first) 0, den := ofNs (g.endTai - g.startTai), errNs := g.deviation + 21, flags := segFlagsOf g }
  if oldest < whole.keyN then { whole with keyN := oldest, stop := whole.wallAt oldest } else whole

/-- The kept record, newest first: the per-cycle records, then the segments of the cycles before them (R889). -/
def spans (s : State) : List Span :=
  let oldest := match s.mains.cycles.getLast? with
    | some r => mkKey r.cycle r.phase0
    | none => s.key
  s.mains.cycles.map (recSpan s) ++ ((keptSegments s).filter fun g => mkKey g.first 0 < oldest).map (segSpan oldest)

/-- The mean cycle length of the oldest kept segment, else the length of the oldest cycle on record (R889; log entry 426). -/
def oldestCycle (s : State) : Nat :=
  match (keptSegments s).getLast? with
  | some g => max 1 (ofNs (g.endTai - g.startTai) / max 1 (g.next - g.first))
  | none => match s.mains.cycles.getLast? with
    | some r => recLen s r
    | none => cycleLen s

/-- The time since the cycle in progress began, in 2⁻³² ns. -/
def cycleAge (s : State) : Nat := s.time.rc - s.mains.startRc

/-- A mains key to wall time; past the present the cycle in progress goes on at its predicted length, a key in a hole lies as far
from the nearer end of the kept record as its length gives (R81, R889; log entry 426). -/
def keyToWall (s : State) (key : Nat) : Conv :=
  let l := spans s
  if s.key < key then
    { value := max s.reported (s.reported + (key - mkKey s.mains.cycle 0) * cycleLen s / 65536 - cycleAge s) }
  else match l.find? (fun g => g.key0 ≤ key && key < g.keyN) with
    | some g => { value := g.wallAt key, kept := true, errNs := g.errNs, flags := g.flags }
    | none =>
      match l.find? (fun g => g.keyN ≤ key), (l.filter fun g => key < g.key0).getLast? with
      | some b, some a =>
        { value := if key - b.keyN < a.key0 - key then b.stop + (key - b.keyN) * b.den / max 1 b.num
                   else a.start - (a.key0 - key) * a.den / max 1 a.num }
      | some b, none => { value := b.stop + (key - b.keyN) * b.den / max 1 b.num }
      | none, some a => { value := a.start - (a.key0 - key) * oldestCycle s / 65536 }
      | none, none => { value := s.reported - (s.key - key) * cycleLen s / 65536 }

/-- The first span after a hole of the kept record that a wall time falls into, the latest such hole (R889). -/
def afterHole (w : Nat) : List Span → Option Span
  | later :: earlier :: l => if earlier.stop ≤ w && w < later.start then some later else afterHole w (earlier :: l)
  | _ => none

/-- The key at which a wall time still to come falls due, the cycle in progress going on at its predicted length (R889). -/
def futureKey (s : State) (w : Nat) : Nat := mkKey s.mains.cycle 0 + (cycleAge s + (w - s.reported)) * 65536 / cycleLen s

/-- A wall time to a mains key, rounding down to the phase tick; a wall time that has occurred converts to its latest occurrence, one
between two stretches of the kept record to the first key of the later (R82, R889). -/
def wallToKey (s : State) (w : Nat) : Conv :=
  let l := spans s
  match l.filter fun g => g.covers w with
  | g :: rest =>
    { value := min s.key (g.keyAt w), kept := true, errNs := g.errNs, flags := g.flags + (if rest.isEmpty then 0 else 32) }
  | [] =>
    if s.reported < w then { value := futureKey s w }
    else match afterHole w l with
      | some g => { value := g.key0, kept := true, errNs := g.errNs, flags := g.flags }
      | none => match l.getLast? with
        | some a => { value := a.key0 - (a.start - w) * 65536 / oldestCycle s }
        | none => { value := s.key - (s.reported - w) * 65536 / cycleLen s }

/-- The key of a scheduler entry's wall instant: one still to come in the present wall time falls due in the cycles to come, even
where it has occurred before a backward step (R87, R112; log entry 427). -/
def entryKey (s : State) (w : Nat) : Nat := if s.reported < w then futureKey s w else (wallToKey s w).value

/-- TAI ns of a mains key, for a record's fields (R889). -/
def taiOfKey (s : State) (key : Nat) : Nat := (keyToWall s key).value / nsUnit

/-- Mains key of a TAI ns, for a record's fields (R889). -/
def keyOfTai (s : State) (tai : Nat) : Nat := (wallToKey s (ofNs tai)).value

/-- Whether the cycle of a key carries the virtual-mains flag: by its record, else by the flags of its segment; a cycle that no
kept record holds carries none (R74, R80; log entry 428). -/
def flaggedCycle (s : State) (key : Nat) : Bool :=
  match s.mains.cycles.find? (fun r => r.cycle == key / 65536) with
  | some r => !r.accepted
  | none =>
    if s.key < key then s.mains.flagged
    else s.mains.segments.any fun g => g.first ≤ key / 65536 && key / 65536 < g.next && (g.virtual || g.holdover)

/-- The greatest deviation in ns of linear interpolation over the per-cycle records of a segment; its first cycle has none (R80). -/
def segDeviation (s : State) (first next startTai endTai : Nat) : Nat :=
  (s.mains.cycles.filter fun r => first < r.cycle && r.cycle < next && r.phase0 == 0).foldl (fun m r =>
    let lin := startTai + (r.cycle - first) * (endTai - startTai) / max 1 (next - first)
    max m ((max lin r.startTai - min lin r.startTai) / nsUnit)) 0

/-- The wall time of the start of a segment's first cycle: that of the newest record of the cycle, taken back to phase 0 where a step
has split the cycle (R80, R109). -/
def segStart (s : State) (first : Nat) : Nat :=
  match s.mains.cycles.find? (fun r => r.cycle == first) with
  | some r => r.startTai - r.phase0 * recLen s r / 65536
  | none => s.reported

/-- The wall time of the end of a segment: the start of the cycle after it, before any step that splits that cycle (R80, R109). -/
def segEnd (s : State) (next : Nat) : Nat :=
  match s.mains.cycles.find? (fun r => r.cycle == next && r.phase0 == 0) with
  | some r => r.startTai
  | none => s.reported

/-- The bits of a segment's flags that a cycle timed in this state sets (R80). -/
def segFlagOf : MainsState → BitVec 4
  | .virtual | .acquiring => 1
  | .holdover => 2
  | .locked => 0

/-- Closes the cross-reference segment in progress at the present cycle and opens the next one (R64, R80). -/
def closeSegment (aligned : Bool) (s : State) : State :=
  let m := s.mains
  let startTai := segStart s m.segFirst
  let endTai := segEnd s m.cycle
  let g : Segment :=
    { first := m.segFirst, next := m.cycle, startTai := startTai / nsUnit, endTai := endTai / nsUnit,
      deviation := segDeviation s m.segFirst m.cycle startTai endTai
      virtual := m.segFlags.getLsbD 0, holdover := m.segFlags.getLsbD 1, step := m.segFlags.getLsbD 2,
      restart := m.segFlags.getLsbD 3, aligned := aligned, closedTai := s.tai, wall := m.anchored }
  (s.onMains fun m => { m with segments := g :: m.segments, segFirst := m.cycle, segFlags := 0 }).onArch
    fun a => { a with segWait := a.segWait ++ [g] }

/-! ### The scheduler -/

/-- The order of coincident events: key, class, sub-order, insertion sequence (R90). -/
def entryBefore (a b : SchedEntry) : Bool :=
  if a.key ≠ b.key then a.key < b.key
  else if a.cls ≠ b.cls then a.cls < b.cls
  else if a.sub ≠ b.sub then a.sub < b.sub
  else a.seq < b.seq

/-- Whether a forward move of the count waits for its work: a boundary has come since the heartbeat that carried the higher number
(R63, R64). -/
def movePending (s : State) : Bool :=
  match s.mains.moveTo with
  | some (n, came) => came < s.mains.cycle && s.mains.cycle < n
  | none => false

/-- Whether the scheduler may dispatch an entry now: it is due, a step or a forward move in progress has done its work (R64, R109),
and after Hem start it is a heartbeat or an entry of classes 3–6 at or before the Hem start key (R92). Before the unit is anchored no
wall-based entry is executed (R83), nor before its last conversion, at whose key it executes (R87). A radio entry is released to
its front end ahead of its key instead (R279). -/
def dispatchable (s : State) (e : SchedEntry) : Bool :=
  e.key ≤ s.key && !movePending s
    && (match e.action with | .radioTx _ _ => false | _ => true)
    && (s.time.stepDue == 0 || e.key ≤ s.time.stepKey)
    && (match e.wall with
        | none => true
        | some w => s.mains.anchored && (e.lastConv || e.late.isSome || entryKey s w ≤ s.key))
    && (match s.sched.hemKey with
        | none => true
        | some hk => e.cls == 1 || (3 ≤ e.cls && e.cls ≤ 6 && e.key ≤ hk))

/-- The entry that is dispatched next (R90). -/
def nextDue (s : State) : Option SchedEntry :=
  (s.sched.entries.filter (dispatchable s)).foldl (fun acc e =>
    match acc with
    | none => some e
    | some b => if entryBefore e b then some e else some b) none

/-- Removes entries: fired or cancelled; the pair is told of those it mirrors (R736). -/
def dropEntries (p : SchedEntry → Bool) (s : State) : State :=
  let gone := s.sched.entries.filter fun e => p e && mirroredClass e.cls
  gone.foldl (fun s e => mirror (.sched e.seq none) s) (s.onSched fun c => { c with entries := c.entries.filter fun e => !p e })

/-- Removes an entry by its insertion sequence. -/
def dropEntry (seq : Nat) (s : State) : State := dropEntries (fun e => e.seq == seq) s

/-- Dispatches the next entry if its action is one `p` accepts; an entry dispatched after its own phase tick sets SPILL and is
counted (R88, CN12). An entry that falls due at an early crossing sets it too, its phase tick having been passed over (R70; log
entry 429). -/
def dispatch (p : SchedAction → Bool) (s : State) : Option (SchedEntry × State) :=
  match nextDue s with
  | none => none
  | some e =>
    if p e.action then
      let s := dropEntry e.seq s
      if e.key < s.key && e.late.isNone then
        some (e, setSticky 0x030 0x100 (s.onHosts fun h => { h with spills := inc32 h.spills }))
      else some (e, s)
    else none

/-- Entries of the classes that share a quota of R86. -/
def quotaUsed (s : State) (cls owner : Nat) : Nat :=
  (s.sched.entries.filter fun e =>
    if cls ≤ 6 then e.cls ≤ 6 else if cls = 7 then e.cls == 7 else e.cls == 8 && e.owner == owner).length

/-- Places an entry; `none` beyond its quota (R86). -/
def place (e : SchedEntry) (s : State) : Option State :=
  let quota := if e.cls ≤ 6 then 512 else if e.cls = 7 then 2560 else 256
  if quota ≤ quotaUsed s e.cls e.owner then none
  else
    let e := { e with seq := s.sched.nextSeq }
    let s := s.onSched fun c => { c with entries := c.entries ++ [e], nextSeq := c.nextSeq + 1 }
    some (if mirroredClass e.cls then mirror (.sched e.seq (some e)) s else s)

/-- Places an entry of a block manager; a full table leaves the state as it is. -/
def placeOr (e : SchedEntry) (s : State) : State := (place e s).getD s

/-- Whether a key lies at least 64 pt ahead of the present one (R89). -/
def aheadEnough (s : State) (key : Nat) : Bool := s.key + 64 ≤ key

/-- The first cycle start at least 64 pt ahead (R827, R831). -/
def nextCycleStart (s : State) : Nat :=
  let c := s.mains.cycle + 1
  if aheadEnough s (mkKey c 0) then mkKey c 0 else mkKey (c + 1) 0

/-! ### Series (R86, R92–R94) -/

/-- The number under which MRAM remembers a series. -/
def seriesId : SchedAction → Nat
  | .demandClose n => n
  | .billingClose => 4
  | .tariffSwitch _ => 5
  | .snapshot f => 8 + f
  | _ => 99

/-- Class of a series' entries (R90). -/
def seriesClass : SchedAction → Nat
  | .demandClose _ | .billingClose => 3
  | .tariffSwitch _ => 4
  | .snapshot _ => 5
  | _ => 6

/-- Sub-order of a series' entries (R90). -/
def seriesSub : SchedAction → Nat
  | .demandClose n => n
  | .billingClose => 4
  | .snapshot f => f
  | _ => 0

/-- The next occurrence of a series after a TAI instant (ns), with the action it takes then. -/
def nextOccurrence (s : State) (a : SchedAction) (after : Nat) : Option (Nat × SchedAction) :=
  match a with
  | .demandClose n =>
    match s.cfg.act.demand[n]? with
    | some d => if d.enable then some (nextGrid s (demandGrid d) after, a) else none
    | none => none
  | .billingClose => if s.cfg.act.billingDay = 0 then none else some (nextBilling s after, a)
  | .tariffSwitch _ => (nextSwitch s after).map fun p => (p.1, .tariffSwitch p.2)
  | .snapshot _ => some (nextGrid s (s.cfg.act.seriesLen * 60) after, a)
  | _ => none

/-- Whether the key of a wall instant (TAI ns) has passed (R59, R93). -/
def hasPassed (s : State) (tai : Nat) : Bool := entryKey s (ofNs tai) < s.key

/-- The latest occurrence whose key has passed, starting from one that has, the action it takes, and how many have passed. -/
def missedFrom (s : State) : Nat → Nat × SchedAction → Nat → (Nat × SchedAction) × Nat
  | 0, w, n => (w, n)
  | fuel + 1, w, n =>
    match nextOccurrence s w.2 w.1 with
    | some w' => if hasPassed s w'.1 then missedFrom s fuel w' (n + 1) else (w, n)
    | none => (w, n)

/-- Converts a wall-based entry to its mains key. One whose key has passed is late and stamped with the present tick; a series carries
the nominal key of its latest missed occurrence and their number (R59, R87, R93, R94, R111). -/
def convertEntry (s : State) (e : SchedEntry) : SchedEntry :=
  match e.wall with
  | none => e
  | some w =>
    let k := entryKey s w
    if s.key ≤ k then (if e.late.isSome then e else { e with key := k, lastConv := false })
    else if e.cls == 8 then (if e.late.isSome then e else { e with key := s.key, late := some (k, 1) })
    else
      let (last, n) := missedFrom s ((s.reported - w) / ofS 1 + 1) (w / nsUnit, e.action) (match e.late with | some l => l.2 | none => 1)
      { e with action := last.2, wall := some (ofNs last.1), key := s.key, late := some (entryKey s (ofNs last.1), n) }

/-- Places the next occurrence of a series after `base` (TAI ns); a series already waiting is replaced (R93, R94). -/
def placeSeries (a : SchedAction) (base : Nat) (s : State) : State :=
  let s := dropEntries (fun e => seriesId e.action == seriesId a && e.cls ≤ 6 && e.wall.isSome) s
  match nextOccurrence s a base with
  | none => s
  | some w => placeOr (convertEntry s { cls := seriesClass a, sub := seriesSub a, action := w.2, wall := some (ofNs w.1) }) s

/-- Every calendar and grid series of the block managers. -/
def allSeries : List SchedAction :=
  (List.range 4).map .demandClose ++ [.billingClose, .tariffSwitch 0] ++ (List.range 8).map .snapshot

/-- The start of the time that this start has counted, in TAI ns (R83). -/
def startOfCount (s : State) : Nat :=
  match s.mains.cycles.getLast? with
  | some r => r.startTai / nsUnit
  | none => s.tai

/-- Places a series from the instant of its last fired occurrence. One that has never fired goes on with the entry that a Hem kept,
where its settings still give that occurrence, else from the start of the time counted (R83, R92). -/
def placeFrom (s : State) (a : SchedAction) : State :=
  match tfind s.sched.lastFired (seriesId a) with
  | some w => placeSeries a w s
  | none =>
    let kept := fun (e : SchedEntry) => seriesId e.action == seriesId a && e.cls ≤ 6 && match e.wall with
      | some w => (nextOccurrence s a (w / nsUnit - 1)).map (·.1) == some (w / nsUnit)
      | none => false
    if s.sched.entries.any kept then s.onSched fun c => { c with entries := c.entries.map fun e => if kept e then convertEntry s e else e }
    else placeSeries a (startOfCount s) s

/-- Every block manager places the next occurrence of each of its series (R83, R92). -/
def placeAllSeries (s : State) : State := allSeries.foldl placeFrom s

/-- A fired occurrence: MRAM remembers its instant, and the next occurrence is placed (R86, R92, R112). -/
def refireSeries (e : SchedEntry) (s : State) : State :=
  match e.wall with
  | none => s
  | some w =>
    let s := s.onSched fun c => { c with lastFired := tput c.lastFired (seriesId e.action) (w / nsUnit) }
    placeSeries e.action (w / nsUnit) s

/-- Converts every wall-based entry again (R87, R109). -/
def reconvertAll (s : State) : State := s.onSched fun c => { c with entries := c.entries.map (convertEntry s) }

/-- A mains-based entry whose key has passed without dispatch is late and stamped with the present tick, a wall-based one by its
conversion once the unit is anchored (R83, R93). -/
def lateNow (s : State) (e : SchedEntry) : SchedEntry :=
  if e.wall.isSome then (if s.mains.anchored then convertEntry s e else e)
  else if e.key < s.key && e.late.isNone then { e with late := some (e.key, 1), key := s.key }
  else e

/-- Entries whose key falls in skipped numbers, from cycle `lo` to before cycle `hi`, the one in progress. Mains-based ones become late:
classes 3–6 and 8 at the present tick; class 7 is dropped and counted; a heartbeat is not sent and the next follows as scheduled
(R64, R93–R96). Wall-based ones are converted again, their instants being still to come (log entry 430). -/
def lateSkipped (lo hi : Nat) (s : State) : State :=
  let hit := fun (e : SchedEntry) => mkKey lo 0 ≤ e.key && e.key < mkKey hi 0
  let lost := s.sched.entries.filter fun e => hit e && e.wall.isNone && (e.cls == 1 || e.cls == 7)
  let s := s.onSched fun c =>
    { c with
      entries := (c.entries.filter fun e => !(hit e && e.wall.isNone && (e.cls == 1 || e.cls == 7))).map fun e =>
        if hit e then (if e.wall.isNone then { e with late := some (e.key, 1), key := s.key } else convertEntry s e) else e
      dropped7 := w32 (c.dropped7 + (lost.filter fun e => e.cls == 7).length) }
  (lost.filter fun e => e.cls == 1).foldl (fun s e =>
    let k := mkKey hi (e.key % 65536)
    placeOr { cls := 1, action := .heartbeat, key := if s.key ≤ k then k else k + 65536 } s) s

end Sys2Proof.Machine
end

