-- ==== Sys2Proof/Machine/Emit.lean ====
section
/-! DEFINITION. Records of the unit's own metering (R394–R397). -/

namespace Sys2Proof.Machine

/-- The meter index of the unit's own metering (MX2). -/
def ownMeter : Nat := 0xFFFFFFFE

/-- KIND in FLAGS bits 15:12 (RF12). -/
def kindBits (k : Nat) : BitVec 16 := BitVec.ofNat 16 (k * 4096)

/-- FLAGS of a record from its named bits (RF0, RF3–RF5) and KIND. -/
def ownFlags (kind : Nat) (virtual gap long short : Bool) : BitVec 16 :=
  BitVec.ofNat 16 (bit virtual + 8 * bit gap + 16 * bit long + 32 * bit short) ||| kindBits kind

/-- Pushes a record onto Q4, or holds it while Q4 refuses it, which is counted (R49, R403). -/
def pushQ4 (r : Record) (s : State) : State :=
  (countPush 4 s.sess.q4 s.sess.q4Held s).onSess fun b =>
    let (ring, held) := pushOrHold (Config.ringDepth 4) b.q4 b.q4Held r
    { b with q4 := ring, q4Held := held }

/-- IG6 pushes a record that this unit originates onto Q4: it is numbered with SEQ in push order (R397) and counted (CN3);
its arrival is the present (R425). -/
def pushRecord (r : Record) (s : State) : State :=
  let s := pushQ4 { r with seq := s.sess.seq, entryRc := s.rc, arrivalKey := s.key, arrivalTai := s.tai } s
  let s := s.onSess fun b => { b with seq := inc32 b.seq }
  s.onHosts fun h => { h with recordsOut := inc32 h.recordsOut }

/-- A record of the unit's own metering: MX2, SRC 0x80, both start fields filled by R889. -/
def emitOwn (channel startKey : Nat) (value : Int) (flags : BitVec 16) (quality : Nat) (s : State) : State :=
  pushRecord { meter := ownMeter, channel := channel, flags := flags, startTai := taiOfKey s startKey, startKey := startKey,
               value := value, quality := BitVec.ofNat 16 quality, src := 0x80 } s

/-- An event with a code that the spec numbers. -/
def raiseCode (code severity source : Nat) (detail : List Byte) (s : State) : State :=
  pushEvent { code := code, source := source, severity := severity, detail := detail, opS := s.opS, opSub := s.opSub } s

/-- Whether the metrology front end is unpowered: the aggregation role with its block off (R8, R157). -/
def metroOff (s : State) : Bool := s.cfg.startCfg.role == some .aggregation && !s.cfg.startCfg.metroPowered

end Sys2Proof.Machine
end

