-- ==== Sys2Proof/Machine/Dsp.lean ====
section
/-! DEFINITION. The metrology DSP's arithmetic: the signal chain of one cycle and its corrected quantities ("Metrology front end",
"Energy registers, tariffs and demand"). -/

namespace Sys2Proof.Machine

/-! ### Arithmetic -/

/-- The greatest r with r² ≤ n, found from bit k down. -/
def isqrtFrom : Nat → Nat → Nat → Nat
  | 0, r, n => if (r + 1) * (r + 1) ≤ n then r + 1 else r
  | k + 1, r, n =>
    let c := r + 2 ^ (k + 1)
    isqrtFrom k (if c * c ≤ n then c else r) n

/-- Integer square root of a number below 2³⁸⁴. -/
def isqrt (n : Nat) : Nat := isqrtFrom 191 0 n

/-- A square root in whole numbers: exact, or the next lower or higher one, which being open (log entry 15). -/
def openRoot (n : Nat) : Nat :=
  let k := isqrt n
  if k * k ≠ n && Config.roundsUp n 0 then k + 1 else k

/-- `n / d` rounded to the nearest, halves up. -/
def roundDiv (n d : Nat) : Nat := (2 * n + d) / (2 * max 1 d)

/-- A signed quotient rounded to the nearest. -/
def roundDivI (n : Int) (d : Nat) : Int :=
  if n < 0 then -((roundDiv n.natAbs d : Nat) : Int) else (roundDiv n.natAbs d : Nat)

/-- 2³². -/
def unit32 : Nat := 0x100000000

/-- 2⁶⁴. -/
def unit64 : Nat := 0x10000000000000000

/-- 2²², the unit of a gain (C5). -/
def gainUnit : Nat := 0x400000

/-! ### Angles -/

/-- Cosine and sine, in 2⁻⁶⁴, by their series from term `k` on, whose value is `t`, at `x` in 2⁻⁶⁴ rad. -/
def sinCosFrom (x : Nat) : Nat → Nat → Nat → Int × Int
  | 0, _, _ => (0, 0)
  | n + 1, k, t =>
    let r := sinCosFrom x n (k + 1) (t * x / (unit64 * (k + 1)))
    match k % 4 with
    | 0 => (r.1 + t, r.2)
    | 1 => (r.1, r.2 + t)
    | 2 => (r.1 - t, r.2)
    | _ => (r.1, r.2 - t)

/-- Cosine and sine of num/den of a turn, in 2⁻⁶⁴, for num < den: the quadrant, then the series at the rest. -/
def sinCos (num den : Nat) : Int × Int :=
  let r := sinCosFrom (115904311329233965478 * (4 * num % max 1 den) / (4 * max 1 den)) 28 0 unit64
  match 4 * num / max 1 den with
  | 0 => r
  | 1 => (-r.2, r.1)
  | 2 => (-r.1, -r.2)
  | _ => (r.2, -r.1)

/-- A phasor delayed by num/den of a turn; the last place of its parts is open (log entry 15). -/
def delayed (num den : Nat) (p : Phasor) : Phasor :=
  let r := sinCos num den
  ⟨openDiv (p.re * r.1 + p.im * r.2) unit64, openDiv (p.im * r.1 - p.re * r.2) unit64⟩

/-- The greatest k ≤ k₀ + 2^(i+1) - 1 with k/n of a turn not past the direction (x, y). -/
def turnFrom (n : Nat) (x y : Int) : Nat → Nat → Nat
  | 0, k => k
  | i + 1, k =>
    let c := k + 2 ^ i
    let r := sinCos c n
    turnFrom n x y i (if 4 * c < n && 0 ≤ r.1 * y - r.2 * x then c else k)

/-- The direction (x, y) in n-ths of a turn, rounded down; 0 for no direction. -/
def turnDown (n : Nat) (x y : Int) : Nat :=
  if 0 < x ∧ 0 ≤ y then turnFrom n x y 28 0
  else if x ≤ 0 ∧ 0 < y then n / 4 + turnFrom n y (-x) 28 0
  else if x < 0 then n / 2 + turnFrom n (-x) (-y) 28 0
  else if y < 0 then 3 * n / 4 + turnFrom n (-y) x 28 0
  else 0

/-- The direction (x, y) in 4n-ths of a turn; whether its last place is rounded down or up is open (log entry 15). -/
def turnsOf (n : Nat) (x y : Int) : Nat := (openDiv (turnDown (256 * n) x y : Nat) 256).toNat

/-- The phase by which `b` lags `a`, as a direction (Y3, Y6). -/
def lagOf (a b : Phasor) : Int × Int := (a.re * b.re + a.im * b.im, a.im * b.re - a.re * b.im)

/-! ### The signal chain (G3–G5, R150, R151, R158) -/

/-- The calibration record of a channel. -/
def calRec (i : CalImage) (ch : Nat) : CalRec := i.recs.getD ch {}

/-- The nominal frequency of a calibration image, in mHz (R161). -/
def nominalMhz (i : CalImage) : Nat := if i.nominal60 then 60000 else 50000

/-- The gain of the integrator before its pole: √(500² + f₀²) mHz in 2⁻³² mHz, which makes its gain 1 at the nominal frequency f₀
(R151; the pole lies at 500 mHz). -/
def integratorGain (i : CalImage) : Nat := isqrt ((250000 + nominalMhz i * nominalMhz i) * unit64)

/-- The digital integrator at order h of a frequency: a leaky pole at 0.5 Hz; at the fundamental its phase is compensated to 90°
(R151; at the other orders the pole's own phase stays, log entry 440). -/
def integrated (i : CalImage) (f h : Nat) (p : Phasor) : Phasor :=
  let k : Int := integratorGain i
  if h = 1 then
    let d := isqrt ((250000 + f * f) * unit64)
    ⟨openDiv (p.im * k) d, openDiv (-p.re * k) d⟩
  else
    let d := (250000 + h * f * (h * f)) * unit32
    ⟨openDiv ((500 * p.re + h * f * p.im) * k) d, openDiv ((500 * p.im - h * f * p.re) * k) d⟩

/-- A phasor of order h after a channel's chain: the integrator of a Rogowski coil, the phase delay in units of 2⁻¹⁰ of a 32 kSPS
period, which turns with the frequency, and the polarity (R151, R158, C2). -/
def chainOrder (i : CalImage) (r : CalRec) (f h : Nat) (p : Phasor) : Phasor :=
  let p := if r.sensor = 2 then integrated i f h p else p
  let den : Nat := 32768000000
  let p := if r.phaseDelay = 0 then p else delayed ((r.phaseDelay * (h * f : Nat)) % den).toNat den p
  if r.invert then ⟨-p.re, -p.im⟩ else p

/-- The mean of a channel after its chain: the high-pass filter removes it, the integrator's pole enlarges it (G3, R151). -/
def chainMean (i : CalImage) (r : CalRec) (dc : Int) : Int :=
  let d := if r.highPass then 0 else if r.sensor = 2 then openDiv (dc * integratorGain i) (500 * unit32) else dc
  if r.invert then -d else d

/-- One channel after its chain at a frequency; one of sensor type 0 is powered down and gives nothing (R150). -/
def chain (i : CalImage) (f ch : Nat) (c : ChanIn) : ChanIn :=
  let r := calRec i ch
  if r.sensor = 0 then {}
  else { dc := chainMean i r c.dc, spec := c.spec.mapIdx fun n p => chainOrder i r f (n + 1) p }

/-- All channels after their chains. -/
def chains (i : CalImage) (f : Nat) (l : List ChanIn) : List ChanIn := (List.range 36).map fun ch => chain i f ch (l.getD ch {})

/-- The fundamental of a channel. -/
def fundOf (c : ChanIn) : Phasor := c.spec.getD 0 {}

/-- mean(x²) of a cycle, in 2⁻⁶⁴ of full scale squared. -/
def meanSquare (c : ChanIn) : Nat :=
  c.spec.foldl (fun a p => a + p.re.natAbs * p.re.natAbs + p.im.natAbs * p.im.natAbs) (c.dc.natAbs * c.dc.natAbs)

/-- mean(v·i) of a cycle (Y2). -/
def meanProduct (v i : ChanIn) : Int :=
  (v.spec.zip i.spec).foldl (fun a p => a + (p.1.re * p.2.re + p.1.im * p.2.im)) (v.dc * i.dc)

/-- mean(v′·i) of a cycle, v′ being v delayed by 90° at every order from 1 to 63: positive when the current lags (Y3). What the mean
and the higher orders add is open. -/
def meanQuadrature (v i : ChanIn) : Int :=
  let low := ((v.spec.zip i.spec).take 63).foldl (fun a p => a + (p.1.im * p.2.re - p.1.re * p.2.im)) 0
  if v.dc = 0 && v.spec.length ≤ 63 then low else low + Config.quadratureRest v i

/-- The values of a cycle's channels after their chains. -/
def cycleVals (dur f : Nat) (l : List ChanIn) : CycleVals :=
  let phase := fun (ci : Nat) => ci % 4 ≠ 3
  let at_ := fun (n : Nat) => l.getD n {}
  { durNs := dur, freqMhz := f, ms := l.map meanSquare
    vi := (List.range 32).map fun ci => if phase ci then meanProduct (at_ (ci % 4)) (at_ (4 + ci)) else 0
    vqi := (List.range 32).map fun ci => if phase ci then meanQuadrature (at_ (ci % 4)) (at_ (4 + ci)) else 0 }

/-- The fundamental angle of a channel behind CH0, in pt, after phase delay (Y6). -/
def angleOf (l : List ChanIn) (ch : Nat) : Nat :=
  let d := lagOf (fundOf (l.getD 0 {})) (fundOf (l.getD ch {}))
  turnsOf 65536 d.1 d.2 % 65536

/-! ### Quantities (Y1–Y5, R188–R190) -/

/-- A gain in 2⁻²² applied to a signed value. -/
def gained (gain : Nat) (v : Int) : Int := openDiv (gain * v) gainUnit

/-- Y1 before its root: the corrected mean square, in 2⁻¹⁰⁸ mV² or mA², of a mean square in 2⁻⁶⁴ of full scale squared. -/
def squareOf (r : CalRec) (ms : Nat) : Nat :=
  r.gainRms * r.gainRms * (r.scale * r.scale) * ms - r.offsetRms * (gainUnit * gainUnit * unit64)

/-- Y1: RMS in mV or mA of a mean square, corrected. -/
def rmsOf (r : CalRec) (ms : Nat) : Nat := (openDiv (isqrt (squareOf r ms)) (gainUnit * unit32)).toNat

/-- The RMS that a channel reports: zero for sensor type 0 (R150). -/
def rmsOfChan (i : CalImage) (ch ms : Nat) : Nat := if (calRec i ch).sensor = 0 then 0 else rmsOf (calRec i ch) ms

/-- 2⁸⁶, the unit of a power: a gain's unit times that of a mean product. -/
def powUnit : Nat := gainUnit * unit64

/-- The powers of one phase point in 2⁻⁸⁶ µW, µvar and µVA, and its threshold scaled by 10,000, in µVA (Y2–Y4, R189). -/
structure Powers where
  p : Int := 0
  q : Int := 0
  s : Nat := 0
  thr : Nat := 0
deriving DecidableEq, Repr

/-- The powers of feeder f, phase p: nothing when one of its two channels is of type 0 (R150, R190). -/
def phasePowers (i : CalImage) (c : CycleVals) (f p : Nat) : Powers :=
  let ci := 4 * f + p
  let ch := 4 + ci
  let rv := calRec i p
  let ri := calRec i ch
  if rv.sensor = 0 || ri.sensor = 0 then {}
  else
    let scale := rv.scale * ri.scale
    { p := ri.gainP * scale * c.vi.getD ci 0 - ri.offsetP * powUnit
      q := ri.gainQ * scale * c.vqi.getD ci 0 - ri.offsetQ * powUnit
      s := ri.gainS * isqrt (squareOf rv (c.ms.getD p 0) * squareOf ri (c.ms.getD ch 0)) / (gainUnit * gainUnit)
      thr := scale }

/-- A feeder total: sums of the three phases (R190). -/
def totalPowers (a b c : Powers) : Powers := ⟨a.p + b.p + c.p, a.q + b.q + c.q, a.s + b.s + c.s, a.thr + b.thr + c.thr⟩

/-- The powers of point 4f + p, p = 3 the total (R187). -/
def pointPowers (i : CalImage) (c : CycleVals) (pt : Nat) : Powers :=
  let f := pt / 4
  if pt % 4 = 3 then totalPowers (phasePowers i c f 0) (phasePowers i c f 1) (phasePowers i c f 2)
  else phasePowers i c f (pt % 4)

/-- Energy of a power in 2⁻⁸⁶ µW over a duration, in 2⁻³² mWh, mvarh or mVAh: the register's fraction holds no finer unit (R191; log
entry 402). -/
def energyOf (p durNs : Nat) : Nat := p * durNs * unit32 / (3600000000000000 * powUnit)

/-- What a cycle adds to the codes 0–7 of a point (R188, R189). A magnitude reaches the threshold when 10,000 times it reaches
the product of the scales. -/
def accruals (w : Powers) (durNs : Nat) : List Nat :=
  let t : Int := w.thr * powUnit
  let hi := fun (x : Int) => t ≤ x * 10000
  let lo := fun (x : Int) => x * 10000 ≤ -t
  let eP := energyOf w.p.natAbs durNs
  let eQ := energyOf w.q.natAbs durNs
  let eS := energyOf w.s durNs
  let pos := decide (0 ≤ w.p)
  let c0 := decide (hi w.p)
  let c1 := decide (lo w.p) && !(c0 && w.p == 0)
  let c2 := pos && decide (hi w.q)
  let c3 := !pos && decide (hi w.q)
  let c4 := !pos && decide (lo w.q)
  let c5 := pos && decide (lo w.q)
  let c6 := pos && (c0 || c2 || c5)
  let c7 := !pos && (c1 || c3 || c4)
  let on := fun (b : Bool) (e : Nat) => if b then e else 0
  [on c0 eP, on c1 eP, on c2 eQ, on c3 eQ, on c4 eQ, on c5 eQ, on c6 eS, on c7 eS]

/-- Place of a rate-0 register (R192). -/
def regIx0 (pt code : Nat) : Nat := 8 * pt + code

/-- Place of a rate register of a feeder total, rates 1–8 (R192). -/
def regIxR (rate f code : Nat) : Nat := 256 + 64 * (rate - 1) + 8 * f + code

/-- Adds to the n-th element. -/
def addAt (l : List Nat) (n v : Nat) : List Nat := if v = 0 then l else modAt l n (· + v)

/-- Adds a point's accruals to its rate-0 registers and, for a feeder total, to those of the rate in force (R192, R199). -/
def accruePoint (rate pt : Nat) (acc regs : List Nat) : List Nat :=
  (List.range 8).foldl (fun l code =>
    let v := acc.getD code 0
    let l := addAt l (regIx0 pt code) v
    if pt % 4 = 3 ∧ 1 ≤ rate then addAt l (regIxR rate (pt / 4) code) v else l) regs

/-- One cycle accumulates over all 32 points (R188, R190). -/
def accrueCycle (i : CalImage) (rate : Nat) (c : CycleVals) (regs : List Nat) : List Nat :=
  (List.range 32).foldl (fun l pt => accruePoint rate pt (accruals (pointPowers i c pt) c.durNs) l) regs

/-- The points that accrue to a code in a cycle. -/
def accruedMask (i : CalImage) (c : CycleVals) (code : Nat) : BitVec 32 :=
  (List.range 32).foldl (fun m pt =>
    if (accruals (pointPowers i c pt) c.durNs).getD code 0 = 0 then m else m ||| BitVec.ofNat 32 (2 ^ pt)) 0

/-! ### The seals and copies of the Lining (R169, R193) -/

/-- Whether a calibration image's seal verifies under a key. -/
def calVerifies (key : Nat) (i : CalImage) : Bool := i.sealTag == Config.calSeal key { i with sealTag := 0 }

/-- Whether a copy of a register verifies. -/
def regVerifies (key reg : Nat) (c : RegCopy) : Bool := c.tag == Config.regSeal key reg c.count c.value

/-- Whether a copy of the rate selector verifies. -/
def rateVerifies (key : Nat) (c : RateCopy) : Bool := c.tag == Config.rateSeal key c.count c.rate c.pending

/-- The newer of two copies that verifies. -/
def newer {α : Type} (ok : α → Bool) (count : α → Nat) (p : α × α) : Option α :=
  if ok p.1 && (!ok p.2 || count p.2 ≤ count p.1) then some p.1 else if ok p.2 then some p.2 else none

/-- A write replaces the copy of its own number, which it repeats, or else the older one (R193). -/
def putCopy {α : Type} (count : α → Nat) (c : α) (p : α × α) : α × α :=
  if count p.1 = count c then (c, p.2) else if count p.2 = count c then (p.1, c)
  else if count p.1 ≤ count p.2 then (c, p.2) else (p.1, c)

/-- The value that a register resumes from; none when neither copy verifies (R193). -/
def resumeReg (m : MetSt) (reg : Nat) : Option Nat :=
  (newer (regVerifies m.sealKey reg) (·.count) (m.lining.getD reg ({}, {}))).map (·.value)

/-- The DSP's sealed copy of a register as it stands. -/
def regCopy (m : MetSt) (reg : Nat) : RegCopy :=
  let v := m.regs.getD reg 0
  ⟨m.imageCount, v, Config.regSeal m.sealKey reg m.imageCount v⟩

/-- The DSP's sealed copy of the rate selector as it stands (R228). -/
def rateCopy (m : MetSt) : RateCopy :=
  ⟨m.imageCount, m.rate, m.pendingRate, Config.rateSeal m.sealKey m.imageCount m.rate m.pendingRate⟩

/-! ### What crosses the Seam to the logic side (R21, R24, R28, R30) -/

/-- Whether the logic side takes Seam frames: the channel is up and the logic side is not in reset (R30). -/
def seamTakes (s : State) : Bool :=
  s.fab.seamUp && (match s.pwr.stage with | .off | .held => false | _ => true)

/-- What the logic side does with a notice of the line-side status (R172, R210, R347, R775). -/
def hearNotice (n : LineNotice) (s : State) : State :=
  match n with
  | .fallback => setAlarm 0x40 (raise .calFallback 0x30 [] s)
  | .tariffInvalid => raise .tariffInvalid 0x30 [] (setSticky 0x040 0x400 s)
  | .mlogFull n =>
    if s.evt.mlogFull then s
    else raiseCode 0x1006 2 0x30 (leBytes 4 n ++ [0, 0, 0, 0]) (s.onEvt fun v => { v with mlogFull := true })
  | .plcThermal => setSticky 0x054 0x40 s
  | .seamMute => setSticky 0x054 0x20 s

/-- The line side tells the logic side in its status of position 14, of which every superframe carries one; while the logic side takes no
frames the notice waits (R21, R24; log entry 441). -/
def tellLogic (n : LineNotice) (s : State) : State :=
  if seamTakes s then hearNotice n s else s.onFab fun f => { f with notices := f.notices ++ [n] }

/-- The notices that wait are told, oldest first. -/
def hearNotices (s : State) : State :=
  s.fab.notices.foldl (fun s n => hearNotice n s) (s.onFab fun f => { f with notices := [] })

/-- The register that a write to the Lining carries. -/
def bodyReg : LegalBody → Option Nat
  | .register r _ _ => some r
  | .final .. | .cal _ | .log _ => none

/-- The DSP sends a write to the Lining in position 13: of one register only the latest image waits (R28, R32, R168). -/
def postLegal (b : LegalBody) (s : State) : State :=
  s.onFab fun f =>
    { f with legalPend := (f.legalPend.filter fun p => (bodyReg b).isNone || bodyReg p.body != bodyReg b) ++ [⟨none, b⟩] }

/-- Whether the tracker runs without a reference, or off its range (R154, R155). -/
def unsyncNow (m : MetSt) : Bool := m.ref.isNone || m.offRange

end Sys2Proof.Machine
end

