-- ==== Sys2Proof/Machine/Pq.lean ====
section
/-! DEFINITION. Sag, swell and interruption ("Sag, swell, interruption and pulse outputs"). -/

namespace Sys2Proof.Machine

open Host (Outcome)

/-- Whether an RMS value in mV lies below a threshold in 0.1 % of the declared voltage (R234). -/
def below (p : PqParams) (v pct : Nat) : Bool := v * 1000 < p.declaredMv * pct

/-- Whether it lies above. -/
def above (p : PqParams) (v pct : Nat) : Bool := p.declaredMv * pct < v * 1000

/-- The DSP reports to the logic side; while the channel is down or the logic side takes no report it holds up to 32 and keeps the oldest (R242;
log entry 451). -/
def pqReport (r : PqReport) (s : State) : State :=
  s.onMet fun m =>
    if (s.fab.seamUp && s.hosts.ready) || m.pqQueue.length < 32 then { m with pqQueue := m.pqQueue ++ [r] }
    else { m with pqLost := m.pqLost + 1 }

/-- The kind of an open event: 0 sag, 1 swell, 2 interruption (PR1). -/
def pqKind (swell : Bool) (e : PqOpen) : Nat := if swell then 1 else if e.intr then 2 else 0

/-- A report of an open event (R240, R242). `why` holds the truncated and reconfigured indications, QB1 and QB3. -/
def pqReportOf (ending swell : Bool) (index why lineNs : Nat) (e : PqOpen) : PqReport :=
  { ending := ending, kind := pqKind swell e, index := index, tagCycle := e.tagCycle, tagHalf := e.tagHalf
    ms := (lineNs - e.startNs + 500000) / 1000000, halves := e.updates, extreme := e.extreme
    quality := bit e.unsync + why + 4 * bit e.startup }

/-- The open event of a detector. -/
def pqOpenOf (swell : Bool) (d : PqPhase) : Option PqOpen := if swell then d.swell else d.sag

/-- Sets the open event of a detector. -/
def pqSet (swell : Bool) (o : Option PqOpen) (d : PqPhase) : PqPhase := if swell then { d with swell := o } else { d with sag := o }

/-- Ends an open event, if there is one, with a report and a count (R240, R242, PS7). -/
def pqClose (swell : Bool) (index why : Nat) (s : State) : State :=
  match pqOpenOf swell (s.met.pq.getD index {}) with
  | none => s
  | some e =>
    let s := pqReport (pqReportOf true swell index why s.met.lineNs e) s
    s.onMet fun m => { m with pq := modAt m.pq index (pqSet swell none), pqEvents := w16 (m.pqEvents + 1) }

/-- Starts an event with a report (R238, R239, R244). -/
def pqStart (swell : Bool) (index : Nat) (e : PqOpen) (s : State) : State :=
  let s := s.onMet fun m => { m with pq := modAt m.pq index (pqSet swell (some e)) }
  pqReport (pqReportOf false swell index 0 s.met.lineNs e) s

/-- Whether the DSP monitors a channel CH0–CH2 (R237). -/
def pqMonitored (s : State) (n : Nat) : Bool := s.met.ctl.pq.monitor.getLsbD n && (s.met.cal.recs.getD n {}).sensor ≠ 0

/-- An open event after one more update. -/
def pqMore (swell unsync : Bool) (v : Nat) (intr : Bool) (e : PqOpen) : PqOpen :=
  { e with updates := e.updates + 1, extreme := if swell then max e.extreme v else min e.extreme v
           intr := e.intr || intr, unsync := e.unsync || unsync }

/-- One kind of event of one detector: `begins` and `ends` are its conditions at this update (R238, R239). -/
def pqStep (swell begins ends unsync intr half : Bool) (index v : Nat) (s : State) : State :=
  let d := s.met.pq.getD index {}
  match pqOpenOf swell d with
  | some e =>
    let s := s.onMet fun m => { m with pq := modAt m.pq index (pqSet swell (some (pqMore swell unsync v intr e))) }
    if ends then pqClose swell index 0 s else s
  | none =>
    if begins then
      pqStart swell index { startNs := s.met.lineNs, tagCycle := s.met.echoCycle, tagHalf := half, extreme := v, intr := intr
                            unsync := unsync, startup := !d.seen } s
    else s

/-- One update of one phase (R238); a channel no longer monitored has its open events closed as reconfigured (R237, R244). -/
def pqPhase (n v : Nat) (unsync half : Bool) (s : State) : State :=
  if pqMonitored s n then
    let p := s.met.ctl.pq
    let s := pqStep false (below p v p.sagPct) (!below p v (p.sagPct + p.hystPct)) unsync (below p v p.intrPct) half n v s
    let s := pqStep true (above p v p.swellPct) (!above p v (p.swellPct - p.hystPct)) unsync false half n v s
    s
  else pqClose true n 8 (pqClose false n 8 s)

/-- The polyphase detector: it starts with the first phase of the kind and ends with the last; it is an interruption only if
every monitored phase was below the interruption threshold in one update (R239). Its extreme is taken over the phases whose
event of the kind includes the update (log entry 13). -/
def pqPoly (swell : Bool) (rms : List Nat) (was : List PqPhase) (unsync half : Bool) (s : State) : State :=
  let p := s.met.ctl.pq
  let mon := (List.range 3).filter (pqMonitored s)
  let isIn := fun n => (pqOpenOf swell (was.getD n {})).isSome || (pqOpenOf swell (s.met.pq.getD n {})).isSome
  let vals := (mon.filter isIn).map fun n => rms.getD n 0
  let v := if swell then vals.foldl max 0 else vals.foldl min (vals.headD 0)
  let anyOpen := mon.any fun n => (pqOpenOf swell (s.met.pq.getD n {})).isSome
  let intr := !swell && !mon.isEmpty && mon.all fun n => below p (rms.getD n 0) p.intrPct
  if mon.isEmpty then pqClose swell 3 8 s
  else
    let s := pqStep swell anyOpen (!anyOpen) unsync intr half 3 (if vals.isEmpty then (s.met.pq.getD 3 {} |> pqOpenOf swell).elim 0 (·.extreme) else v) s
    s

/-- The detectors' open events, UNSYNC and EVENTS as PQ.STAT has them (R248). -/
def pqBits (m : MetSt) : Word :=
  let bits := fun (f : PqPhase → Bool) => (List.range 4).foldl (fun a n => a + bit (f (m.pq.getD n {})) * 2 ^ n) 0
  BitVec.ofNat 32 (bits (·.sag.isSome) + 16 * bits (·.swell.isSome) + 256 * bits (fun d => d.sag.elim false (·.intr))
    + 8192 * bit m.pqUnsync + 65536 * m.pqEvents)

/-- The line side tells the detectors' state while the channel is up (R21, R24). -/
def showPq (s : State) : State := if s.fab.seamUp && s.hosts.ready then s.onReg fun g => { g with pqShown := pqBits s.met } else s

/-- PQ_UPDATE: a half-cycle update of CH0–CH2, 128 samples after the last: `ms` are the mean squares of their last 256 samples after the
chain; Y1 corrects them, a channel of type 0 reads zero (R150, R236–R241). The reference selection of the mains timebase sees the RMS
too (R65). -/
def execPqUpdate (dt : Nat) (ms : List Nat) (half : Bool) (s : State) : Outcome State Fault Refusal :=
  let s := tick dt s
  if s.pwr.lineOn && !metroOff s then
    let was := s.met.pq
    let unsync := unsyncNow s.met
    let rms := (List.range 3).map fun n => rmsOfChan s.met.cal n (ms.getD n 0)
    let s := (List.range 3).foldl (fun s n => pqPhase n (rms.getD n 0) unsync half s) s
    let s := pqPoly true rms was unsync half (pqPoly false rms was unsync half s)
    let s := s.onMet fun m => { m with pqUnsync := unsync, pq := m.pq.map fun d => { d with seen := true } }
    .next (if s.fab.seamUp then
        (showPq s).onMains fun m => { m with rms := ⟨#[rms.getD 0 0, rms.getD 1 0, rms.getD 2 0], rfl⟩ }
      else s)
  else .next s

/-- At a cycle boundary the DSP takes the settings that it has received; a change of a threshold or of MONITOR closes each affected open
event as reconfigured (R51, R234, R244). -/
def takeCtl (s : State) : State :=
  match s.met.ctlNext with
  | none => s
  | some c =>
    let p := s.met.ctl.pq
    let q := c.pq
    let both := p.declaredMv ≠ q.declaredMv || p.hystPct ≠ q.hystPct
    let sag := both || p.sagPct ≠ q.sagPct || p.intrPct ≠ q.intrPct
    let swell := both || p.swellPct ≠ q.swellPct
    let hit := fun (n : Nat) => if n = 3 then p.monitor ≠ q.monitor else p.monitor.getLsbD n ≠ q.monitor.getLsbD n
    let s := (List.range 4).foldl (fun s n =>
      let s := if sag || hit n then pqClose false n 8 s else s
      if swell || hit n then pqClose true n 8 s else s) s
    showPq (s.onMet fun m => { m with ctl := c, ctlNext := none })

/-- When the early-warning line asserts, every open event is closed as truncated (R244). -/
def pqTruncate (s : State) : State := showPq ((List.range 4).foldl (fun s n => pqClose true n 2 (pqClose false n 2 s)) s)

/-- At line-side start every detector begins idle, under the default parameters (R234, R244). -/
def pqLineStart (m : MetSt) : MetSt := { m with pq := [{}, {}, {}, {}], ctl := {}, ctlNext := none, pqEvents := 0, pqUnsync := false, pqQueue := [], pqLost := 0 }

/-- What the logic side does with a report: an event, and three records at the end of a voltage event (R243, R245–R247). -/
def takePqReport (r : PqReport) (s : State) : State :=
  let key := mkKey r.tagCycle (if r.tagHalf then 32768 else 0)
  let det := [BitVec.ofNat 8 r.kind, BitVec.ofNat 8 r.index] ++ leBytes 4 r.extreme
  if !r.ending then raise .pqStart 0x30 det s
  else
    let virtual := match s.mains.cycles.find? (fun c => c.cycle == r.tagCycle) with
      | some c => !c.accepted
      | none => s.mains.flagged
    let flags := ownFlags 6 virtual false false false
    let rec1 := fun (f : Nat) (v : Nat) (s : State) => emitOwn (0xC000 + 256 * r.kind + 16 * f + r.index) key (v : Nat) flags r.quality s
    raise .pqEnd 0x30 det (rec1 2 r.extreme (rec1 1 (r.halves * 1000) (rec1 0 r.ms s)))

/-- PQ_REPORT_RECEIVE: the logic side takes the oldest report that the line side has sent (R242). -/
def execPqReportReceive (dt : Nat) (s : State) : Outcome State Fault Refusal :=
  let s := tick dt s
  match s.met.pqQueue with
  | r :: rest =>
    if s.fab.seamUp && s.hosts.ready then .next (takePqReport r (s.onMet fun m => { m with pqQueue := rest })) else .next s
  | [] => .next s

/-- PQ.STAT (R248). -/
def pqStat (s : State) (w1c : Word) : Word := s.reg.pqShown ||| (w1c &&& 0x1000)

end Sys2Proof.Machine
end

