-- ==== Sys2Proof/Machine/Metro.lean ====
section
/-! DEFINITION. The line side: DSP cycles, registers, tariff inputs, calibration, harmonics and the metrological log ("Metrology front
end"; the line-side rules of "Energy registers, tariffs and demand"). -/

namespace Sys2Proof.Machine

open Host (Outcome)

/-! ### The metrological log (R774–R776) -/

/-- Line-side operating seconds (ML3). -/
def lineOpS (s : State) : Nat := w32 (s.met.lineNs / 1000000000)

/-- Entries of the log: those in the Lining and those on their way to it. -/
def mlogCount (s : State) : Nat :=
  s.met.mlog.length
    + (s.fab.legalPend.filter fun p => match p.body with
        | .log e => !s.met.mlog.any fun x => x.lseq == e.lseq
        | _ => false).length

/-- The DSP writes a log entry by position 13 (R32, R168). An entry that finds no place is counted as not logged, its kind stops until
the next start, and the logic side records one MLOG_FULL event per start (R775). `cal` marks an entry of kinds 1–3 of a session outside
Debug, for which the last 64 places are kept. -/
def writeMlog (kind arg : Nat) (data : List Byte) (cal : Bool) (s : State) : State :=
  let m := s.met
  let room := if cal then 4096 else 4032
  if m.mlogStopped.contains kind then
    s.onMet fun m => { m with notLogged := tbump m.notLogged kind }
  else if mlogCount s < room then
    let pad := data ++ List.replicate (16 - data.length) (0 : Byte)
    let e : MlogEntry := { lseq := m.mlogSeq, starts := m.lineStarts, opS := lineOpS s, kind := kind, arg := arg, data := pad }
    postLegal (.log e) (s.onMet fun m => { m with mlogSeq := inc32 m.mlogSeq })
  else
    let s := s.onMet fun m => { m with notLogged := tbump m.notLogged kind, mlogStopped := kind :: m.mlogStopped }
    tellLogic (.mlogFull (s.met.notLogged.foldl (fun n p => n + p.2) 0)) s

/-! ### Tariff inputs (R207–R210) -/

/-- What the inputs select: 0 no rate, else a rate number (R208). -/
def tinSelection (c : MetroCtl) (raw : BitVec 8) : Nat :=
  let act := (raw ^^^ c.tinInvert) &&& c.tinMask
  if c.tinMode = 1 then
    match (List.range 8).find? fun n => act.getLsbD n with
    | some n => n + 1
    | none => 0
  else (act &&& 7).toNat + 1

/-- The rate that applies from the next cycle start (R203, R207, R210). -/
def dspRate (m : MetSt) : Nat :=
  if m.ctl.tinMode = 0 then m.committed
  else match m.tinRate with
    | some r => r
    | none => if m.tinInvalid then m.tinKeep.getD m.committed else m.committed

/-- The mains key of a line-side instant as the DSP reckons it: the echo last received, and the time since at a cycle's length (R24,
R204). -/
def dspKey (m : MetSt) (ns cycleNs : Nat) : Nat :=
  mkKey m.echoCycle m.echoPhase + ((ns - m.echoNs) * 65536 + cycleNs / 2) / max 1 cycleNs

/-- The mains cycle in which a DSP cycle starts; a start within one tick before a cycle counts as its start (log entry 443). -/
def startCycle (m : MetSt) (ns cycleNs : Nat) : Nat := (dspKey m ns cycleNs + 1) / 65536

/-- A cycle start: a committed rate whose cycle has come takes effect (R204, R205, R210). -/
def takePending (cycle : Nat) (m : MetSt) : MetSt :=
  let m := match m.pendingRate with
    | some (r, c) => if c ≤ cycle then { m with committed := r, pendingRate := none, tinKeep := none } else m
    | none => m
  { m with rate := dspRate m }

/-- Debouncing after one cycle: the count of consecutive stable cycles of one selection, and of each input's unchanged level (R209,
R211). -/
def debounceTin (c : CycleIn) (m : MetSt) : MetSt :=
  let raw := c.tin.getLastD m.tinLast
  let sel := tinSelection m.ctl raw
  let stable := c.tin.all fun x => tinSelection m.ctl x = sel
  let n := if stable then (if m.tinSel == some sel then min 255 (m.tinCount + 1) else 1) else 0
  let same := fun (k : Nat) => c.tin.all fun x => x.getLsbD k = raw.getLsbD k
  let held := (List.range 8).map fun k =>
    if same k then (if m.tinLast.getLsbD k = raw.getLsbD k then min 255 (m.tinHeld.getD k 0 + 1) else 1) else 0
  let level := fun (k : Nat) => if m.ctl.debounce ≤ held.getD k 0 then raw.getLsbD k else m.tinStable.getLsbD k
  { m with tinRaw := raw, tinLast := raw, tinSel := if stable then some sel else none, tinCount := n, tinHeld := held
           tinStable := (List.range 8).foldl (fun b k => if level k then b ||| BitVec.ofNat 8 (2 ^ k) else b) 0 }

/-- TARIFF_INPUT_TAKEOVER: a selection stable for DEBOUNCE cycles takes over from the cycle that starts now; an invalid one keeps
the rate in force and sets INVALID with one event (R208–R210). -/
def execTariffInputTakeover (dt : Nat) (s : State) : Outcome State Fault Refusal :=
  let s := tick dt s
  let c := s.met.ctl
  match s.met.tinSel with
  | some sel =>
    if s.pwr.lineOn && c.tinMode ≠ 0 && c.debounce ≤ s.met.tinCount && s.met.tinTaken ≠ some sel then
      let bad := decide (c.ratesUsed < sel)
      let rate := if sel = 0 || bad then none else some sel
      let was := s.met.tinInvalid
      let s := s.onMet fun m =>
        let m := { m with tinTaken := some sel, tinRate := rate, tinInvalid := bad
                          tinKeep := if bad then some m.rate else none }
        { m with rate := dspRate m }
      .next (if bad && !was then tellLogic .tariffInvalid s else s)
    else .next s
  | none => .next s

/-! ### The frequency tracker (R154, R155) -/

/-- The frequency at which a cycle is resampled: the nearer limit outside 45–65 Hz (R155). -/
def resampleMhz (f : Nat) : Nat := max 45000 (min 65000 f)

/-- The frequency of a cycle that no crossing times: the last tracked one, else the nominal one of the image (R155). -/
def freeMhz (m : MetSt) : Nat := resampleMhz (m.lastFreq.getD (nominalMhz m.cal))

/-- Frequency in mHz of a length in ns; its rounding is open (log entry 15). -/
def mhzOf (ns : Nat) : Nat := ratioOf 1000000000000 (max 1 ns)

/-- Length in ns of a cycle of a frequency in mHz. -/
def nsOfMhz (f : Nat) : Nat := ratioOf 1000000000000 (max 1 f)

/-- The reference channel: the lowest of CH0–CH2 whose cycle RMS is at least 10 % of full scale, 353.6 mV (R149, R154). -/
def referenceOf (ms : List Nat) : Option Nat := (List.range 3).find? fun n => unit64 ≤ 200 * ms.getD n 0

/-- Periods of the 24.576 MHz line-side clock in ns. -/
def clockNs (n : Nat) : Nat := n * 1000000000 / 24576000

/-! ### DSP cycles -/

/-- Runs of overloaded cycles: a run of 50 or more gives one log entry when it ends (R152). -/
def overloadRuns (exceeds : BitVec 36) (s : State) : State :=
  let ended := s.met.overRun.filter fun r => !exceeds.getLsbD r.1
  let s := ended.foldl (fun s r => if 50 ≤ r.2.1 then writeMlog 6 r.1 (leBytes 4 r.2.1 ++ leBytes 8 r.2.2) false s else s) s
  s.onMet fun m =>
    { m with overload := exceeds
             overRun := (List.range 36).filterMap fun ch =>
               if exceeds.getLsbD ch then
                 match m.overRun.find? fun r => r.1 == ch with
                 | some r => some (ch, r.2.1 + 1, r.2.2)
                 | none => some (ch, 1, m.dspCycle)
               else none }

/-- Length of a harmonic window in cycles (R163). -/
def harmLen (i : CalImage) : Nat := if i.nominal60 then 12 else 10

/-- Sums of phasors by place. -/
def addPhasors (a b : List Phasor) : List Phasor :=
  (List.range (max a.length b.length)).map fun n => ⟨(a.getD n {}).re + (b.getD n {}).re, (a.getD n {}).im + (b.getD n {}).im⟩

/-- One cycle, which started in mains cycle `cycle`, joins the harmonic window in progress; a window ends with its 10th or 12th cycle.
While echoes arrive a window starts at a cycle number divisible by its length (R163, R164, R166). -/
def harmCycle (cycle f : Nat) (bad : Bool) (ovl : BitVec 36) (l : List ChanIn) (m : MetSt) : MetSt :=
  let n := harmLen m.cal
  let w := m.harmWin
  let first := decide (w.cycles = 0)
  if first && m.echoes && cycle % n ≠ 0 then m
  else
    let w : HarmWin :=
      { start := if first then cycle else w.start
        cycles := w.cycles + 1
        flags := (if first then (if m.echoes then 0 else 1) else w.flags) ||| (if bad then 2 else 0)
        overload := w.overload ||| ovl
        freqSum := w.freqSum + f
        sums := (List.range 36).map fun ch => addPhasors (w.sums.getD ch []) (l.getD ch {}).spec }
    if w.cycles < n then { m with harmWin := w } else { m with harmWin := {}, harmEnded := some w }

/-- The exposed values of the registers, which a result set carries (R191, R194, R223). -/
def cumOf (m : MetSt) : List Nat := m.regs.map (· / nsUnit)

/-- The value of a cycle that a calibration step measures, in 2⁻³² of the step's unit, before the pending correction of the step's own
field; earlier results of the session are applied (R182, R183): mV or mA, their squares for OFFSET_RMS, 0.001° for PHASE, mW or mvar,
mVA. -/
def stepValue (i : CalImage) (t : CalStepSt) (f : Nat) (c : CycleIn) : Int :=
  let ch := t.channel
  let v := (ch - 4) % 4
  let own := fun (g : CalRec → CalRec) => { i with recs := modAt i.recs ch g }
  let l := chains (if t.step = 3 then own fun r => { r with phaseDelay := 0 } else i) f c.chans
  let r := calRec i ch
  let scale := (calRec i v).scale * r.scale
  let ms := meanSquare (l.getD ch {})
  match t.step with
  | 1 => (isqrt (ms * (r.scale * r.scale)) : Nat)
  | 2 => (ms * (r.scale * r.scale) / unit32 : Nat)
  | 3 =>
    let d := lagOf (fundOf (l.getD v {})) (fundOf (l.getD ch {}))
    let a := (turnDown 92160000 d.1 d.2 : Nat)
    ((if 46080000 < a then (a : Int) - 92160000 else a) * 16777216 : Int)
  | 4 | 5 => openDiv (scale * meanProduct (l.getD v {}) (l.getD ch {})) (1000 * unit32)
  | 6 | 7 => openDiv (scale * meanQuadrature (l.getD v {}) (l.getD ch {})) (1000 * unit32)
  | 8 => (isqrt (squareOf (calRec i v) (meanSquare (l.getD v {})) * squareOf r ms) / (1000 * unit32 * gainUnit * gainUnit) : Nat)
  | 9 =>
    let p := fundOf (l.getD ch {})
    (isqrt ((p.re.natAbs * p.re.natAbs + p.im.natAbs * p.im.natAbs) * (r.scale * r.scale)) : Nat)
  | _ => 0

/-- A step in progress after one more cycle: the first ends what ran at its acceptance, the next CYCLES are measured (R182; log entry
444). -/
def stepCycle (f : Nat) (c : CycleIn) (q : CalSession) : CalSession :=
  { q with step := q.step.map fun t =>
      let take := decide (1 ≤ t.done ∧ t.done ≤ t.cycles)
      { t with done := t.done + 1
               vals := if take then t.vals ++ [stepValue q.pending t f c] else t.vals
               freqSum := if take then t.freqSum + f else t.freqSum } }

/-- How a DSP cycle ends: at a line-side time and its compensated instant, timed by crossings of the reference channel or not. -/
structure CycleEnd where
  ns : Nat := 0
  rc : Nat := 0
  measured : Bool := false
  partialSet : Bool := false
deriving DecidableEq, Repr

/-- The result set of a cycle (R148, R156, R194). -/
def resultOf (e : CycleEnd) (rate f : Nat) (bad : Bool) (img : CalImage) (v : CycleVals) (l : List ChanIn) (ovl : BitVec 36) (m : MetSt) :
    ResultSet :=
  let milli := fun (x : Int) => openDiv x (1000 * powUnit)
  { cycleTag := m.echoCycle, dspCycle := m.dspCycle, startRc := m.boundRc, endRc := e.rc, cum := cumOf m, rate := rate
    imp := accruedMask img v 0, exp := accruedMask img v 1, partialSet := e.partialSet, unsync := bad, overload := ovl, uncal := m.fallback
    lost := !m.lostFlags.isEmpty
    rms := (List.range 36).map fun ch => rmsOfChan img ch (v.ms.getD ch 0)
    angles := (List.range 36).map (angleOf l)
    p := (List.range 32).map fun pt => milli (pointPowers img v pt).p
    q := (List.range 32).map fun pt => milli (pointPowers img v pt).q
    va := (List.range 32).map fun pt => (milli (pointPowers img v pt).s).toNat
    freqMhz := f }

/-- What a DSP cycle does but for its result set: energy under the image in force, the tracker, overloads, harmonics, tariff inputs, a
calibration step. Until an image is verified the cycle joins the span besides (R152–R156, R171, R188–R191). -/
def measureCycle (e : CycleEnd) (f : Nat) (v : CycleVals) (l : List ChanIn) (c : CycleIn) (s : State) : State :=
  let off := e.measured && f != mhzOf v.durNs
  let bad := !e.measured && !(e.partialSet && s.met.ref.isSome)
  let s := overloadRuns c.overload s
  s.onMet fun m =>
    let cycle := startCycle m m.boundNs v.durNs
    let m := harmCycle cycle f (bad || off) c.overload l (debounceTin c m)
    { m with
      regs := accrueCycle m.cal m.rate v m.regs
      span := if m.imageValid || m.fallback then m.span else m.span ++ [(v, m.rate)]
      unsync := bad, offRange := off, dspCycle := m.dspCycle + 1
      lastFreq := if e.measured then some (mhzOf v.durNs) else m.lastFreq
      ref := referenceOf v.ms
      session := m.session.map (stepCycle f c) }

/-- The DSP ends a cycle and sends its result set, which is lost while the channel is down; a committed image and a committed rate take
effect (R30, R156, R179, R188–R195, R204). -/
def endDspCycle (e : CycleEnd) (c : CycleIn) (s : State) : State :=
  let dur := e.ns - s.met.boundNs
  let f := if e.measured then resampleMhz (mhzOf dur) else freeMhz s.met
  let img := s.met.cal
  let rate := s.met.rate
  let l := chains img f c.chans
  let v := cycleVals dur f l
  let s := measureCycle e f v l c s
  let r := resultOf e rate f (s.met.unsync || s.met.offRange) img v l c.overload s.met
  let s := s.onMet fun m =>
    { m with
      results := if s.fab.seamUp then m.results ++ [r] else m.results
      setsLost := !s.fab.seamUp
      cal := m.calNext.getD m.cal, calNext := none
      boundNs := e.ns, boundRc := e.rc }
  takeCtl (s.onMet fun m => takePending (startCycle m e.ns (nsOfMhz f)) m)

/-- How the cycle in progress ends now: with the crossing of the reference channel that the operand tells, else at the DSP's internal
boundary, when that has come (R154–R156). -/
def cycleEndNow (c : CycleIn) (s : State) : Option CycleEnd :=
  let m := s.met
  if m.ref.isSome && c.crossing then
    some { ns := m.lineNs - clockNs c.age, rc := compensate (s.rc + seamLatency) c.age, measured := true }
  else
    let ns := m.boundNs + nsOfMhz (freeMhz m)
    if ns ≤ m.lineNs then some { ns := ns, rc := s.rc - ofNs (m.lineNs - ns) } else none

/-- DSP_CYCLE_END: the DSP ends a cycle and sends its result set; with the front end unpowered nothing accumulates (R156,
R157, R188–R194). -/
def execDspCycleEnd (dt : Nat) (cyc : CycleIn) (s : State) : Outcome State Fault Refusal :=
  let s := tick dt s
  if s.pwr.lineOn && !metroOff s then
    match cycleEndNow cyc s with
    | some e => .next (endDspCycle e cyc s)
    | none => .next s
  else .next s

/-- REGISTER_IMAGE_REFRESH: the DSP sends a register's cumulative image, and with it the rate in force and any pending rate, in position
13; the latest replaces one not yet acknowledged (R28, R193, R228). -/
def execRegisterImageRefresh (dt reg : Nat) (s : State) : Outcome State Fault Refusal :=
  let s := tick dt s
  if s.pwr.lineOn && reg < 768 then
    let s := s.onMet fun m =>
      { m with imageCount := m.imageCount + 1, refreshed := modAt m.refreshed reg fun _ => m.regs.getD reg 0 }
    .next (postLegal (.register reg (regCopy s.met reg) (rateCopy s.met)) s)
  else .next s

/-- A harmonic magnitude of a window in mV or mA RMS, corrected by GAIN_H (Y5, R163). -/
def harmMag (r : CalRec) (n : Nat) (p : Phasor) : Nat :=
  if r.sensor = 0 then 0
  else
    let x := r.gainH * r.scale
    (openDiv (isqrt ((p.re.natAbs * p.re.natAbs + p.im.natAbs * p.im.natAbs) * (x * x))) (max 1 n * unit32 * gainUnit)).toNat

/-- HARMONIC_WINDOW_END: the DSP computes the magnitudes of orders 1–127 of the window that has ended: the transform over its cycles at
bin 10h or 12h is the mean of theirs at order h (Y5, R163–R167). -/
def execHarmonicWindowEnd (dt : Nat) (s : State) : Outcome State Fault Refusal :=
  let s := tick dt s
  match s.met.harmEnded with
  | some w =>
    if s.pwr.lineOn && !metroOff s then
      .next (s.onMet fun m =>
        { m with
          harmEnded := none
          harm := { startCycle := w.start, flags := w.flags, overload := w.overload, freqMhz := ratioOf w.freqSum w.cycles
                    mags := (List.range 36).map fun ch =>
                      (List.range 127).map fun h => harmMag (calRec m.cal ch) w.cycles ((w.sums.getD ch []).getD h {}) } })
    else .next s
  | none => .next s

/-! ### Calibration -/

/-- Aborts an open session with the cause numbered in the order of R178: pending results are discarded and logged; the fuse
stays blown (MK3). A step in progress ends with STALE (log entry 12). -/
def abortSession (cause : Nat) (s : State) : State :=
  match s.met.session with
  | none => s
  | some q =>
    let s := s.onMet fun m => { m with session := none }
    let s := writeMlog 3 q.number [BitVec.ofNat 8 cause] (!q.debug) s
    match q.step with
    | some t => finishAt t.host t.taken (answer .stale) s
    | none => s

/-- CAL_EN_RELEASE: CAL_EN_N goes high; an open session aborts (R178). -/
def execCalEnRelease (dt : Nat) (s : State) : Outcome State Fault Refusal :=
  let s := tick dt s
  if s.pwr.lineOn then .next (abortSession 1 (s.onMet fun m => { m with calEnHigh := true }))
  else .next (s.onMet fun m => { m with calEnHigh := true })

/-- CAL_SESSION_TIMEOUT: 3,600 s without a step (R178). -/
def execCalSessionTimeout (dt : Nat) (s : State) : Outcome State Fault Refusal :=
  let s := tick dt s
  match s.met.session with
  | some q => if q.lastStepNs + 3600000000000 ≤ s.met.lineNs then .next (abortSession 5 s) else .next s
  | none => .next s

/-- The default records, which the DSP runs under until an image is verified and in Fallback (R159, R171, R172). -/
def defaultImage (m : MetSt) : CalImage := { sessions := m.cal.sessions }

/-- Why no image is in use: 0 absent, 1 its seal failed, 2 a Debug image outside Debug (MK5). -/
def fallbackArg (m : MetSt) : Nat :=
  if m.sealBad then (match m.liningCal with
    | some i => if i.madeInDebug && calVerifies m.sealKey i then 2 else 1
    | none => 1) else 0

/-- CAL_FALLBACK_TIMEOUT: 500 ms after line-side start no image has verified; the DSP runs with the default records, under which the
span has accumulated, and tells it in its status (R172, R176). -/
def execCalFallbackTimeout (dt : Nat) (s : State) : Outcome State Fault Refusal :=
  let s := tick dt s
  let m := s.met
  if s.pwr.lineOn && !m.imageValid && !m.fallback && m.startNs + 500000000 ≤ m.lineNs then
    let s := s.onMet fun m => { m with fallback := true, cal := defaultImage m, span := [] }
    .next (tellLogic .fallback (writeMlog 5 (fallbackArg m) [] false s))
  else .next s

/-- The registers when the image's gains, offsets and scales are applied to the span that accumulated before it, each of its cycles at
its own rate; no register goes back (R171, R191, R199; log entry 445). -/
def applyToSpan (i : CalImage) (m : MetSt) : List Nat :=
  let fresh := m.span.foldl (fun l c => accrueCycle i c.2 c.1 l) m.spanBase
  (List.range 768).map fun n => max (m.regs.getD n 0) (fresh.getD n 0)

/-- The stored calibration image arrives, read without error or not; the DSP uses it when its seal verifies, but a Debug image outside
Debug fails (R170, R171, R172, R176). -/
def deliverCalImage (readOk : Bool) (s : State) : State :=
  match s.met.liningCal with
  | none => s
  | some i =>
    if s.met.fallback || s.met.imageValid then s
    else if readOk && calVerifies s.met.sealKey i && !(i.madeInDebug && s.pocket.lifecycle != .debug) then
      let n := s.met.span.length
      let s := s.onMet fun m => { m with imageValid := true, cal := i, regs := applyToSpan i m, span := [] }
      writeMlog 4 0 (leBytes 8 n) false s
    else s.onMet fun m => { m with sealBad := true }

/-- The stored register images arrive: each register resumes from the newer copy that verifies, or from zero with its lost flag and a log
entry (R170, R193). -/
def deliverRegisters (s : State) : State :=
  if s.met.regsLoaded then s else
  let old := (List.range 768).map (resumeReg s.met)
  let add := fun (l : List Nat) => (List.range 768).map fun i => l.getD i 0 + ((old.getD i none).getD 0)
  let gone := (List.range 768).filter fun i => (old.getD i none).isNone
  let s := s.onMet fun m =>
    { m with regsLoaded := true, regs := add m.regs, spanBase := add m.spanBase
             refreshed := old.map (·.getD 0)
             imageCount := m.lining.foldl (fun n p => max n (max p.1.count p.2.count)) m.imageCount
             lostFlags := m.lostFlags ++ gone.filter fun i => !m.lostFlags.contains i }
  gone.foldl (fun s i => writeMlog 7 i [] false s) s

/-- CAL_TAG: the first 8 bytes of the seal (R173). -/
def calTag (i : CalImage) : Nat := i.sealTag % 0x10000000000000000

/-- CAL_STATE (S4). -/
def calState (s : State) : Nat :=
  if s.met.session.isSome then 3
  else if s.met.fallback then 2
  else if s.met.cal.madeInDebug then 4
  else if s.met.cal.calibrated then 1
  else 0

/-- METRO 0x0301 MET_STATUS (R180). -/
def metStatus (_t : Taken) (s : State) : State × Reply :=
  let m := s.met
  (s, okWith (leBytes 4 m.romId ++ leBytes 4 m.romCrc ++ leBytes 8 (calTag m.cal) ++ leBytes 1 (calState s) ++ leBytes 1 m.reopens
    ++ leBytes 2 m.sessions ++ leBytes 1 (if m.unsync then 1 else if m.offRange then 2 else 0)
    ++ leBytes 1 (if metroOff s then 0 else 1) ++ leBytes 8 m.overload.toNat ++ [0, 0]))

/-- MET_STATUS runs the oldest one dispatched for the host (R180). -/
def execMetStatus (dt : Nat) (host : Fin 4) (s : State) : Outcome State Fault Refusal :=
  .next (runCmd 0x0301 host metStatus (tick dt s))

/-- METRO 0x0302 CAL_OPEN: a fuse is blown before any step, except in Debug (R174, R176, R181). `low` is the level that the DSP finds on
CAL_EN_N. Where several statuses hold the spec gives no order: this one is DESIGN CHOICE (log entry 446). -/
def calOpen (low : Bool) (h : Fin 4) (t : Taken) (s : State) : State × Reply :=
  let s := s.onMet fun m => { m with calEnHigh := !low }
  let m := s.met
  let debug := s.pocket.lifecycle == .debug
  if metroOff s then (s, answer .locked)
  else if fld t.payload 0 4 ≠ 0x43414C4F then (s, answer .badarg)
  else if m.calEnHigh then (s, answer .denied)
  else if m.reopens = 0 && !debug then (s, answer .locked)
  else if m.session.isSome then (s, answer .busy)
  else if fld t.payload 4 1 ≠ m.reopens then (s, answer .stale)
  else
    let n := w16 (m.sessions + 1)
    let left := if debug then m.reopens else m.reopens - 1
    let s := s.onMet fun m =>
      { m with reopens := left, sessions := n
               session := some { number := n, host := h.val, debug := debug, pending := m.calNext.getD m.cal, lastStepNs := m.lineNs } }
    let s := writeMlog 1 n [BitVec.ofNat 8 left, if debug then 1 else 0] (!debug) s
    (s, okWith (leBytes 2 n ++ leBytes 1 left ++ List.replicate 5 0))

/-- CAL_OPEN runs the oldest one dispatched for the host (R181). -/
def execCalOpen (dt : Nat) (host : Fin 4) (calEnLow : Bool) (s : State) : Outcome State Fault Refusal :=
  .next (runCmd 0x0302 host (calOpen calEnLow host) (tick dt s))

/-- Whether a channel accepts a sensor type (R148, R150). -/
def sensorOk (ch sensor : Nat) : Bool := sensor = 0 || (if ch < 4 then sensor = 3 else sensor = 1 || sensor = 2)

/-- Whether a channel is a phase current channel (R160). -/
def phaseCurrent (ch : Nat) : Bool := 4 ≤ ch && ch < 36 && ch % 4 ≠ 3

/-- A calibration request outside an open window: a frame that addresses a legal parameter, which the DSP ignores and counts (R33,
R175). -/
def ignoreRequest (s : State) : State := s.onFab fun f => { f with legalIgnored := inc32 f.legalIgnored }

/-- METRO 0x0303 CAL_STEP: PENDING at once (R177, R182, R184). -/
def calStep (h : Fin 4) (t : Taken) (s : State) : State × Reply :=
  let p := t.payload
  let ch := fld p 0 1
  let step := fld p 1 1
  let cycles := fld p 2 2
  match s.met.session with
  | none => (ignoreRequest s, answer .badarg)
  | some q =>
    if q.host ≠ h.val then (s, answer .denied)
    else if 35 < ch || 9 < step || (step = 0 && cycles ≠ 0) || (step ≠ 0 && (cycles < 10 || 1000 < cycles)) then (s, answer .badarg)
    else if 4 ≤ step && step ≤ 8 && !phaseCurrent ch then (s, answer .badarg)
    else if step = 0 && (!sensorOk ch (fld p 16 1) || 3 < fld p 17 1) then (s, answer .badarg)
    else
      let st : CalStepSt :=
        { host := h.val, taken := t, channel := ch, step := step, cycles := cycles, refValue := fldI p 4 8
          refAngle := fldI p 12 4, sensor := fld p 16 1, cflags := fld p 17 1, scale := fld p 20 4 }
      (s.onMet fun m => { m with session := some { q with step := some st, lastStepNs := m.lineNs } }, answer .pending)

/-- CAL_STEP runs the oldest one dispatched for the host (R182). -/
def execCalStep (dt : Nat) (host : Fin 4) (s : State) : Outcome State Fault Refusal :=
  .next (runCmd 0x0303 host (calStep host) (tick dt s))

/-- A gain in 2⁻²² that brings a measured value in 2⁻³² to `ref`, rounded to the nearest; none outside the C5 range (R182, R184). -/
def gainFor (ref measured : Int) : Option Nat :=
  if measured ≤ 0 || ref < 0 then none
  else
    let g := roundDiv (ref.toNat * gainUnit * unit32) measured.toNat
    if g < 0x1000000 then some g else none

/-- The low 32 bits of a value as a signed field (C8, C10). -/
def signed32 (x : Int) : Int := (BitVec.ofInt 32 x).toInt

/-- STEP_MASK after a step of session `n`: a session that first changes the record begins it anew (C14). -/
def markStep (n step : Nat) (r : CalRec) : CalRec :=
  { r with session := n, stepMask := Nat.lor (if r.session = n then r.stepMask else 0) (2 ^ step) }

/-- The new field of a step and the record with it; none for a result that R184 refuses. `mean` is the mean of the measured values, in
2⁻³² of the step's unit, and `f` that of the frequencies. -/
def calResult (i : CalImage) (t : CalStepSt) (mean : Int) (f : Nat) : Option (Nat × CalRec) :=
  let r := calRec i t.channel
  let gain := fun (put : Nat → CalRec) => (gainFor t.refValue mean).map fun g => (g, put g)
  match t.step with
  | 0 => some (t.scale, { r with sensor := t.sensor, highPass := hasBit t.cflags 0, invert := hasBit t.cflags 1, scale := t.scale })
  | 1 => gain fun g => { r with gainRms := g }
  | 2 =>
    let o := w32 (openDiv (r.gainRms * r.gainRms * mean.toNat : Nat) (gainUnit * gainUnit * unit32)).toNat
    some (o, { r with offsetRms := o })
  | 3 =>
    let d := roundDivI ((t.refAngle * unit32 - mean) * 32768000000) (360000 * max 1 f * unit32)
    if -32768 ≤ d ∧ d ≤ 32767 then some ((d % 0x100000000).toNat, { r with phaseDelay := d }) else none
  | 4 => gain fun g => { r with gainP := g }
  | 5 =>
    let o := signed32 (openDiv (r.gainP * mean * 1000) (gainUnit * unit32))
    some ((o % 0x100000000).toNat, { r with offsetP := o })
  | 6 => gain fun g => { r with gainQ := g }
  | 7 =>
    let o := signed32 (openDiv (r.gainQ * mean * 1000) (gainUnit * unit32))
    some ((o % 0x100000000).toNat, { r with offsetQ := o })
  | 8 => gain fun g => { r with gainS := g }
  | 9 => gain fun g => { r with gainH := g }
  | _ => none

/-- The mean of the values of the measured cycles; its rounding is open (log entry 15). -/
def meanOf (l : List Int) : Int := openDiv (l.foldl (· + ·) 0) (max 1 l.length)

/-- SPREAD_PPM: the standard deviation of the values relative to their mean, in ppm, at most 65,535 (R182); of a mean of 0 it is open. -/
def spreadPpm (l : List Int) : Nat :=
  let sum := l.foldl (· + ·) (0 : Int)
  let sq := l.foldl (fun a x => a + x * x) (0 : Int)
  if l.isEmpty then 0
  else if sum = 0 then min 65535 Config.voidSpread
  else min 65535 (openRoot (((l.length : Int) * sq - sum * sum).toNat * 1000000000000 / (sum.natAbs * sum.natAbs)))

/-- CAL_STEP_COMPLETE: the DSP has measured CYCLES cycles (CYCLES + 2 mc after acceptance); the step completes with its result,
with STALE for a spread above 1,000 ppm, or with BADARG (R182–R184). -/
def execCalStepComplete (dt : Nat) (s : State) : Outcome State Fault Refusal :=
  let s := tick dt s
  match s.met.session with
  | none => .next s
  | some q =>
    match q.step with
    | none => .next s
    | some t =>
      if t.cycles + 2 ≤ t.done then
        let mean := meanOf t.vals
        let spread := spreadPpm t.vals
        let out := fun (v : Nat) => leBytesI 8 (openDiv mean unit32) ++ leBytes 4 v ++ leBytes 2 spread ++ [0, 0]
        let close := fun (i : CalImage) (s : State) => s.onMet fun m => { m with session := some { q with step := none, pending := i } }
        match calResult q.pending t mean (ratioOf t.freqSum t.vals.length) with
        | none => .next (finishAt t.host t.taken (answer .badarg) (close q.pending s))
        | some (v, r) =>
          if t.step ≠ 0 && 1000 < spread then
            .next (finishAt t.host t.taken { status := .stale, payload := out v } (close q.pending s))
          else
            .next (finishAt t.host t.taken (okWith (out v))
              (close { q.pending with recs := modAt q.pending.recs t.channel fun _ => markStep q.number t.step r } s))
      else .next s

/-- The committed image: one that waits for the next DSP cycle, else the one in force (R179, R186). -/
def committedImage (m : MetSt) : CalImage := m.calNext.getD m.cal

/-- METRO 0x0304 CAL_CLOSE: a commit seals a new image, which goes to the Lining and takes effect at the next DSP cycle (R32, R177, R179,
R185). -/
def calClose (h : Fin 4) (t : Taken) (s : State) : State × Reply :=
  match s.met.session with
  | none => (ignoreRequest s, answer .badarg)
  | some q =>
    let mode := fld t.payload 0 1
    if q.host ≠ h.val then (s, answer .denied)
    else if 1 < mode then (s, answer .badarg)
    else if mode = 1 then
      -- the cause of a host's own abort has no number in R178: a free value
      let (v, s) := s.takeFree
      let s := abortSession (v % 256) s
      (s, okWith (leBytes 8 (calTag (committedImage s.met))))
    else
      let i := { q.pending with sessions := s.met.sessions, madeInDebug := q.debug, calibrated := true, sealTag := 0 }
      let i := { i with sealTag := Config.calSeal s.met.sealKey i }
      let old := calTag (committedImage s.met)
      let s := postLegal (.cal i) (s.onMet fun m => { m with session := none, calNext := some i })
      let s := writeMlog 2 q.number (leBytes 8 old ++ leBytes 8 (calTag i)) (!q.debug) s
      (s, okWith (leBytes 8 (calTag i)))

/-- CAL_CLOSE runs the oldest one dispatched for the host (R185). -/
def execCalClose (dt : Nat) (host : Fin 4) (s : State) : Outcome State Fault Refusal :=
  .next (runCmd 0x0304 host (calClose host) (tick dt s))

/-- The 48 bytes of a calibration record (R159). -/
def calRecBytes (r : CalRec) : List Byte :=
  leBytes 1 r.sensor ++ leBytes 1 (bit r.highPass + 2 * bit r.invert) ++ leBytesI 2 r.phaseDelay ++ leBytes 4 r.scale
    ++ leBytes 4 r.gainRms ++ leBytes 4 r.offsetRms ++ leBytes 4 r.gainP ++ leBytesI 4 r.offsetP ++ leBytes 4 r.gainQ
    ++ leBytesI 4 r.offsetQ ++ leBytes 4 r.gainS ++ leBytes 4 r.gainH ++ leBytes 2 r.session ++ leBytes 2 r.stepMask
    ++ List.replicate 4 0

/-- METRO 0x0305 CAL_READ (R186). -/
def calRead (t : Taken) (s : State) : State × Reply :=
  let ch := fld t.payload 0 1
  if 35 < ch then (s, answer .badarg) else (s, okWith (calRecBytes (calRec (committedImage s.met) ch)))

/-- CAL_READ runs the oldest one dispatched for the host (R186). -/
def execCalRead (dt : Nat) (host : Fin 4) (s : State) : Outcome State Fault Refusal :=
  .next (runCmd 0x0305 host calRead (tick dt s))

/-- THD_PPM over orders 2–63 relative to order 1 (R167). -/
def thdPpm (mags : List Nat) : Nat :=
  let m1 := mags.getD 0 0
  if m1 = 0 then 0
  else w32 (openRoot (((mags.drop 1).take 62).foldl (fun a m => a + m * m) 0 * 1000000000000 / (m1 * m1)))

/-- METRO 0x0306 HARM_READ (R167). -/
def harmRead (t : Taken) (s : State) : State × Reply :=
  let ch := fld t.payload 0 1
  if metroOff s then (s, answer .locked)
  else if 35 < ch then (s, answer .badarg)
  else
    let h := s.met.harm
    let mags := (List.range 127).map fun k => (h.mags.getD ch []).getD k 0
    (s, okWith (leBytes 6 h.startCycle ++ leBytes 2 (h.flags % 4 + 4 * bit (h.overload.getLsbD ch)) ++ leBytes 4 h.freqMhz
      ++ leBytes 4 (thdPpm mags) ++ (mags.map (leBytes 4)).flatten))

/-- HARM_READ runs the oldest one dispatched for the host (R167). -/
def execHarmRead (dt : Nat) (host : Fin 4) (s : State) : Outcome State Fault Refusal :=
  .next (runCmd 0x0306 host harmRead (tick dt s))

end Sys2Proof.Machine
end

