-- ==== Sys2Proof/Machine/Pulse.lean ====
section
/-! DEFINITION. Pulse outputs ("Sag, swell, interruption and pulse outputs"). -/

namespace Sys2Proof.Machine

open Host (Outcome)

/-- The state of an output. -/
def pulseOf (s : State) (n : Nat) : PulseSt := s.reg.pulses.getD n {}

/-- The configuration of an output in force. -/
def pulseCfg (s : State) (n : Nat) : PulseCfg := s.cfg.act.pulses.getD n {}

/-- Changes the state of an output. -/
def onPulse (n : Nat) (f : PulseSt → PulseSt) (s : State) : State := s.onReg fun r => { r with pulses := modAt r.pulses n f }

/-- Whether an output is held released (R255). -/
def pulseReleased (s : State) (n : Nat) : Bool :=
  !(pulseCfg s n).enable || s.cfg.startCfg.role.isNone
    || (match s.pwr.stage with | .running => s.pwr.hemFlag | _ => true)
    || s.pwr.state == .hold
    || (match s.pair.state with | .solo | .active => false | _ => true)
    || (match s.pair.releaseUntil with | some k => s.key < k | none => false)

/-- Every output stops sinking: a pulse in progress is cut short and not owed again, and debt is paid again from the first result set after the
release (R254, R255). -/
def releasePulses (s : State) : State :=
  s.onReg fun r => { r with pulses := r.pulses.map fun p => { p with active := false, paying := false } }

/-- The sum of the selected points' rate-0 cumulative values of CODE (R252). -/
def pulseSum (c : PulseCfg) (cum : List Nat) : Nat :=
  (List.range 32).foldl (fun a pt => if c.pointMask.getLsbD pt then a + cum.getD (regIx0 pt c.code) 0 else a) 0

/-- The debt: OWED − EMITTED (R252). -/
def debt (p : PulseSt) : Nat := p.owed - p.emitted

/-- One cycle's capacity L / (2 × WIDTH), as a comparison: whether a debt exceeds it (R257, PT2). -/
def overCapacity (s : State) (n : Nat) : Bool := cycleLen s < debt (pulseOf s n) * (2 * ofMs (pulseCfg s n).widthMs)

/-- The pulse outputs take a result set: OWED follows the cumulative sum, the debt is capped at 65,535, and the spacing is
computed again from the arrival (R252, R253, R257). -/
def owePulses (n : Nat) (cum : List Nat) (s : State) : State :=
  let c := pulseCfg s n
  if !c.enable && c.pointMask == 0 then s
  else
    let p := pulseOf s n
    let owed := (pulseSum c cum - p.base) / max 1 c.perPulse - p.dropped
    let excess := owed - p.emitted - 65535
    let owed := owed - excess
    let p := { p with owed := owed, lost := w32 (p.lost + excess), dropped := p.dropped + excess }
    let n' := debt p
    let two := 2 * ofMs c.widthMs
    let sp := if n' = 0 then cycleLen s else max two (cycleLen s / n')
    let earliest := match p.lastStart with | some t => max s.rc (t + two) | none => s.rc
    let p := { p with spacing := sp, nextStart := earliest }
    let isOver := decide (cycleLen s < n' * two)
    let p := { p with overFrom := if isOver then some (p.overFrom.getD s.key) else none, alarmed := isOver && p.alarmed
                      paying := !pulseReleased s n }
    let s := onPulse n (fun _ => p) s
    if excess = 0 then s
    else
      let s := setSticky 0x048 0x1000000 s
      if p.lostSeen then s
      else raise .pulseLost srcSup [BitVec.ofNat 8 n] (onPulse n (fun p => { p with lostSeen := true }) s)

/-- PULSE_START: while debt remains and the output is not released, a pulse starts at its spacing, and counts as emitted; after a release the
first one waits for a result set (R253–R255). -/
def execPulseStart (dt out : Nat) (s : State) : Outcome State Fault Refusal :=
  let s := tick dt s
  let p := pulseOf s out
  let c := pulseCfg s out
  if out < 8 && !pulseReleased s out && p.paying && 0 < debt p && !p.active && p.nextStart ≤ s.rc then
    let isOver := decide (cycleLen s < (debt p - 1) * (2 * ofMs c.widthMs))
    .next (onPulse out (fun p =>
      { p with overFrom := if isOver then p.overFrom else none, alarmed := isOver && p.alarmed
               emitted := p.emitted + 1, active := true, endRc := s.rc + ofMs c.widthMs, lastStart := some s.rc
               nextStart := s.rc + max p.spacing (2 * ofMs c.widthMs) }) s)
  else .next s

/-- PULSE_END: WIDTH after its start the output is released (R249). -/
def execPulseEnd (dt out : Nat) (s : State) : Outcome State Fault Refusal :=
  let s := tick dt s
  let p := pulseOf s out
  if out < 8 && p.active && p.endRc ≤ s.rc then .next (onPulse out (fun p => { p with active := false }) s)
  else .next s

/-- PULSE_DEBT_ALARM: a debt over one cycle's capacity for 250 consecutive mc raises one event naming the output (R257). -/
def execPulseDebtAlarm (dt out : Nat) (s : State) : Outcome State Fault Refusal :=
  let s := tick dt s
  let p := pulseOf s out
  let due : Bool := match p.overFrom with
    | some k => k + 250 * 65536 ≤ s.key
    | none => false
  if out < 8 && due && !p.alarmed then
    .next (raise .pulseDebt srcSup [BitVec.ofNat 8 out] (onPulse out (fun p => { p with alarmed := true }) s))
  else .next s

/-- A configuration takes effect: debt and fraction are discarded, and BASE is set anew (R258). -/
def applyPulseCfg (n : Nat) (c : PulseCfg) (s : State) : State :=
  let s := s.onCfg fun g => { g with act := { g.act with pulses := modAt g.act.pulses n fun _ => c } }
  onPulse n (fun p =>
    { p with discarded := w32 (p.discarded + debt p), base := pulseSum c s.reg.cum, owed := 0, emitted := 0, dropped := 0
             pendingCfg := none, overFrom := none, alarmed := false, paying := p.paying && c.enable }) s

/-- PULSE_CONFIG_APPLY: a new configuration takes effect at its cycle (R258). -/
def execPulseConfigApply (dt out : Nat) (s : State) : Outcome State Fault Refusal :=
  let s := tick dt s
  match (pulseOf s out).pendingCfg with
  | some (c, cycle) => if out < 8 && cycle ≤ s.mains.cycle then .next (applyPulseCfg out c s) else .next s
  | none => .next s

/-- Whether a POINT_MASK is refused: zero while enabled, or a feeder total together with a phase of the same feeder (R251). -/
def maskRefused (enable : Bool) (m : BitVec 32) : Bool :=
  (enable && m == 0) || (List.range 8).any fun f =>
    m.getLsbD (4 * f + 3) && (m.getLsbD (4 * f) || m.getLsbD (4 * f + 1) || m.getLsbD (4 * f + 2))

/-- REG 0x0410 PULSE_SET (R260). -/
def pulseSet (t : Taken) (s : State) : State × Reply :=
  let p := t.payload
  let out := fld p 0 1
  let en := fld p 1 1
  let c : PulseCfg := { enable := en == 1, pointMask := BitVec.ofNat 32 (fld p 4 4), code := fld p 2 1, perPulse := fld p 8 4
                        widthMs := fld p 3 1 }
  if 7 < out || 1 < en || 7 < c.code || c.widthMs < 2 || 100 < c.widthMs || c.perPulse < 1 || 4000000000 < c.perPulse
      || maskRefused c.enable c.pointMask then (s, answer .badarg)
  else
    let cycle := nextCycleStart s / 65536
    (onPulse out (fun q => { q with pendingCfg := some (c, cycle) }) s, okWith (leBytes 6 cycle ++ [0, 0]))

/-- PULSE_SET runs the oldest one dispatched for the host (R260). -/
def execPulseSet (dt : Nat) (host : Fin 4) (s : State) : Outcome State Fault Refusal :=
  .next (runCmd 0x0410 host pulseSet (tick dt s))

/-- REG 0x0411 PULSE_STATUS (R261). -/
def pulseStatus (t : Taken) (s : State) : State × Reply :=
  let out := fld t.payload 0 1
  if 7 < out then (s, answer .badarg)
  else
    let p := pulseOf s out
    (s, okWith (leBytes 8 p.owed ++ leBytes 8 p.emitted ++ leBytes 4 (debt p) ++ leBytes 4 p.discarded ++ leBytes 4 p.lost
      ++ leBytes 2 (bit (pulseReleased s out) + 2 * bit (overCapacity s out)) ++ [0, 0]))

/-- PULSE_STATUS runs the oldest one dispatched for the host (R261). -/
def execPulseStatus (dt : Nat) (host : Fin 4) (s : State) : Outcome State Fault Refusal :=
  .next (runCmd 0x0411 host pulseStatus (tick dt s))

/-- PULSE.STAT (R259). -/
def pulseStat (s : State) (w1c : Word) : Word :=
  let mask := fun (f : Nat → Bool) => (List.range 8).foldl (fun a n => if f n then a + 2 ^ n else a) 0
  BitVec.ofNat 32 (mask (fun n => (pulseOf s n).active) + 256 * mask (overCapacity s) + 65536 * mask (pulseReleased s))
    ||| (w1c &&& 0x1000000)

end Sys2Proof.Machine
end

