-- ==== Sys2Proof/Machine/Energy.lean ====
section
/-! DEFINITION. The logic side's energy windows, demand, series, billing and tariff rates ("Energy registers, tariffs and
demand"). -/

namespace Sys2Proof.Machine

open Host (Outcome)

/-! ### Attribution -/

/-- The mains key of a rate-corrected instant, by the per-cycle record (R156). -/
def keyOfRc (s : State) (x : Nat) : Nat :=
  match s.mains.cycles.find? (fun r => r.phase0 == 0 && r.startRc ≤ x) with
  | some r => mkKey r.cycle (min 65535 ((x - r.startRc) * 65536 / recLen s r))
  | none =>
    match s.mains.cycles.getLast? with
    | some r => mkKey r.cycle 0
    | none => s.key

/-- A window that opens at a key. -/
def openWindow (s : State) (key : Nat) : EnWindow := { startKey := key, virtual := flaggedCycle s key }

/-- QUALITY indications of a cycle (QB0, QB4, QB5, QB7). -/
def setQuality (r : ResultSet) : Nat :=
  bit r.unsync + 16 * bit r.uncal + 32 * bit (r.overload != 0) + 128 * bit r.lost

/-- One cycle attributed whole to a window: `old` are the cumulative values before it (R194, R199, R201, R216, R220). -/
def creditCycle (old : List Nat) (r : ResultSet) (gap : Bool) (w : EnWindow) : EnWindow :=
  { w with
    base := if w.cur.isEmpty then old else w.base
    cur := r.cum
    timed := w.timed + (r.endRc - r.startRc)
    gap := w.gap || gap
    rate := r.rate
    imp := (List.range 32).map fun pt => w.imp.getD pt 0 + bit (r.imp.getLsbD pt)
    exp := (List.range 32).map fun pt => w.exp.getD pt 0 + bit (r.exp.getLsbD pt)
    quality := Nat.lor w.quality (setQuality r)
    cycles := w.cycles + 1
    sumV := (List.range 36).map fun ch => w.sumV.getD ch 0 + r.rms.getD ch 0
    sumSq := (List.range 36).map fun ch => w.sumSq.getD ch 0 + r.rms.getD ch 0 * r.rms.getD ch 0 * (r.endRc - r.startRc) }

/-- Attributes a cycle to the window of one kind that contains its start key: the first dispatched close after it, else the
open window (R199, R102). -/
def attributeKind (old : List Nat) (r : ResultSet) (key : Nat) (gap : Bool) (k : Nat) (g : RegSt) : RegSt :=
  match g.closings.findIdx? (fun c => c.kind == k && key < c.closeKey) with
  | some i => { g with closings := modAt g.closings i fun c => { c with win := creditCycle old r gap c.win } }
  | none =>
    if k < 4 then { g with schemes := modAt g.schemes k fun m => { m with win := creditCycle old r gap m.win } }
    else if k = 4 then { g with bill := creditCycle old r gap g.bill }
    else { g with series := modAt g.series (k - 8) fun w => creditCycle old r gap w }

/-- The kinds of windows: demand schemes 0–3, billing 4, series 8–15. -/
def windowKinds : List Nat := [0, 1, 2, 3, 4, 8, 9, 10, 11, 12, 13, 14, 15]

/-- Every window whose cycles' result sets were lost carries the gap flag: those closed after the last attributed key (R194). -/
def markLost (g : RegSt) : RegSt :=
  { g with closings := g.closings.map fun c => if g.cumKey < c.closeKey then { c with win := { c.win with gap := true } } else c }

/-- A window of one kind opens afresh; what its earlier settings left goes with it (R888). -/
def reopenKind (w : EnWindow) (g : RegSt) (k : Nat) : RegSt :=
  if k < 4 then { g with schemes := modAt g.schemes k fun _ => { win := w } }
  else if k = 4 then { g with bill := w, schemes := g.schemes.map fun m => { m with maxima := [] } }
  else { g with series := modAt g.series (k - 8) fun _ => w }

/-- The first windows, and those whose settings a start has changed, open at the first cycle the logic side times (R888). -/
def openFirst (s : State) (key : Nat) (g : RegSt) : RegSt :=
  let kinds := if g.windowsOpen then g.reopen else windowKinds
  { kinds.foldl (reopenKind { openWindow s key with first := true }) g with windowsOpen := true, reopen := [] }

/-- The logic side takes a result set, dates its cycle by its start stamp and attributes its energy to
every window and every pulse output; the fundamental angles of CH1 and CH2 are those of R65 (R194, R199–R201, R252). The first set after
lifecycle Blank is the baseline. -/
def takeResult (r : ResultSet) (s : State) : State :=
  let key := keyOfRc s r.startRc
  let old := s.reg.cum
  let fresh := !s.reg.cumValid
  let missing := match s.reg.lastDsp with
    | some d => decide (r.dspCycle ≠ d + 1)
    | none => false
  let gap := !fresh && (missing || s.reg.firstSet)
  let g := openFirst s key s.reg
  let g := if missing then markLost g else g
  let g := { g with closings := g.closings.map fun c =>
      if c.kind == 4 && c.regs.isEmpty && c.closeKey ≤ key then { c with regs := old } else c }
  let base := if fresh then r.cum else old
  let g := windowKinds.foldl (fun g k => attributeKind base r key gap k g) g
  let g :=
    { g with
      cum := r.cum, cumValid := true, cumSaved := if fresh then r.cum else g.cumSaved, cumKey := keyOfRc s r.endRc
      firstSet := false, lastDsp := some r.dspCycle, partialSeen := r.partialSet }
  let s := (s.onReg fun _ => g).onMains fun m => { m with angles := (r.angles.getD 1 0, r.angles.getD 2 0) }
  let s := (List.range 8).foldl (fun s n => owePulses n s.reg.cum s) s
  s.onPair fun p => { p with rsHist := (key / 65536, s.reg.pulses.map (·.owed)) :: p.rsHist.take 7 }

/-- The Seam bridge pushes the oldest set that has arrived onto Q9; a full Q9 refuses it and counts the push (R47, R49). -/
def pushResult (s : State) : State :=
  match s.met.results with
  | r :: rest =>
    let s := s.onMet fun m => { m with results := rest }
    if s.reg.q9.length < Config.ringDepth 9 then s.onReg fun g => { g with q9 := g.q9 ++ [r] } else countRefused 9 s
  | [] => s

/-- Cluster 0's work takes the oldest set of Q9 (R35, R48). -/
def takeQ9 (s : State) : State :=
  match s.reg.q9 with
  | r :: rest => if workTakes s .normalise 9 then takeResult r (s.onReg fun g => { g with q9 := rest }) else s
  | [] => s

/-- RESULT_SET_RECEIVE: the oldest result set on its way arrives at the logic side and passes Q9 (R47, R194). -/
def execResultSetReceive (dt : Nat) (s : State) : Outcome State Fault Refusal :=
  let s := tick dt s
  match s.pwr.stage with
  | .running | .hem => .next (takeQ9 (pushResult s))
  | _ => .next s

/-! ### Completing windows -/

/-- Energy of a (point, code) pair in a window, in whole units (R194, R214). -/
def windowEnergy (w : EnWindow) (pt code : Nat) : Nat := w.cur.getD (regIx0 pt code) 0 - w.base.getD (regIx0 pt code) 0

/-- Whether a window is long or short against a nominal length in ms: by more than 1 % (R215). -/
def isLong (timed nominalMs : Nat) : Bool := ofMs nominalMs * 101 < timed * 100
/-- See `isLong`. -/
def isShort (timed nominalMs : Nat) : Bool := timed * 100 < ofMs nominalMs * 99

/-- Demand of an energy over T (R214, R215). -/
def demandOf (energy timed nominalMs : Nat) : Nat :=
  let t := if isLong timed nominalMs then timed / (1000000 * nsUnit) else nominalMs
  energy * 3600000 / max 1 t

/-- Replaces a maximum wherever the new demand is greater (R217). -/
def raiseMax (pair rate value startKey : Nat) (l : List MaxDemand) : List MaxDemand :=
  match l.find? (fun m => m.pair == pair && m.rate == rate) with
  | some m => if m.value < value then l.map fun q => if q.pair == pair && q.rate == rate then ⟨pair, rate, value, startKey⟩ else q
    else l
  | none => if 0 < value then l ++ [⟨pair, rate, value, startKey⟩] else l

/-- A demand window completes: the demand of every pair, the maxima of rate 0 and of the window's rate, one record per pair
(R214–R218). -/
def completeDemand (n : Nat) (w : EnWindow) (s : State) : State :=
  match s.cfg.act.demand[n]?, s.reg.schemes[n]? with
  | some d, some st =>
    let sub : SubWin :=
      { startKey := w.startKey, energy := d.pairs.map fun p => windowEnergy w p.1 p.2, timed := w.timed, gap := w.gap
        rate := w.rate, quality := w.quality, cycles := w.cycles, virtual := w.virtual }
    let keep := if d.sliding then max 1 d.subint else 1
    let all := st.subs ++ [sub]
    let subs := all.drop (all.length - keep)
    let first := subs.headD sub
    let timed := subs.foldl (fun a q => a + q.timed) 0
    let gap := subs.any (·.gap)
    let quality := subs.foldl (fun a q => Nat.lor a q.quality) 0
    let nominal := d.lengthMin * 60000
    let flags := ownFlags 4 first.virtual gap (isLong timed nominal) (w.first || isShort timed nominal)
    let rate := (subs.filter fun q => q.cycles ≠ 0).getLast?.elim 1 (·.rate)
    let vals := (List.range d.pairs.length).map fun i =>
      demandOf (subs.foldl (fun a q => a + q.energy.getD i 0) 0) timed nominal
    let maxima := (List.range d.pairs.length).foldl (fun l i =>
      let v := vals.getD i 0
      let l := raiseMax i 0 v first.startKey l
      if rate = 0 then l else raiseMax i rate v first.startKey l) st.maxima
    let s := s.onReg fun g => { g with schemes := modAt g.schemes n fun m => { m with subs := subs, maxima := maxima } }
    (List.range d.pairs.length).foldl (fun s i =>
      let p := d.pairs.getD i (0, 0)
      emitOwn (0xE000 + 256 * n + 8 * p.1 + p.2) first.startKey (vals.getD i 0 : Nat) flags quality s) s
  | _, _ => s

/-- Code 9 of a point: the mean of the cycle RMS of the phase's voltage channel (RS1). -/
def meanVoltage (w : EnWindow) (pt : Nat) : Nat := (openDiv (w.sumV.getD (pt % 4) 0 : Nat) (max 1 w.cycles)).toNat

/-- Code 10 of a point: the RMS over the interval of its current channel (RS2). -/
def rmsCurrent (w : EnWindow) (pt : Nat) : Nat := openRoot (w.sumSq.getD (4 + pt) 0 / max 1 w.timed)

/-- A series window of feeder f completes: records of its four points and codes 0–10, and the reversal events (R219–R221,
R454). -/
def completeSeries (f : Nat) (w : EnWindow) (s : State) : State :=
  let nominal := s.cfg.act.seriesLen * 60000
  let flags := ownFlags 7 w.virtual w.gap (isLong w.timed nominal) (w.first || isShort w.timed nominal)
  (List.range 4).foldl (fun s p =>
    let pt := 4 * f + p
    let s := (List.range 8).foldl (fun s c => emitOwn (0xF000 + 16 * pt + c) w.startKey (windowEnergy w pt c : Nat) flags w.quality s) s
    let s := emitOwn (0xF000 + 16 * pt + 8) w.startKey ((windowEnergy w pt 0 : Int) - windowEnergy w pt 1) flags w.quality s
    let s := if p < 3 then emitOwn (0xF000 + 16 * pt + 9) w.startKey (meanVoltage w pt : Nat) flags w.quality s else s
    let s := emitOwn (0xF000 + 16 * pt + 10) w.startKey (rmsCurrent w pt : Nat) flags w.quality s
    let a := w.imp.getD pt 0
    let b := w.exp.getD pt 0
    if a ≠ 0 ∧ b ≠ 0 then raise .reversal srcSup ([BitVec.ofNat 8 pt] ++ leBytes 8 w.startKey ++ leBytes 4 a ++ leBytes 4 b) s
    else s) s

/-- A billing period completes: every register, every maximum demand of the enabled schemes, the period kept, the maxima
cleared; one that closes by the calendar is long or short against its calendar length (R215, R223, R224, R226, R888; log entry 447). -/
def completeBilling (c : Closing) (s : State) : State :=
  let regs := if c.regs.isEmpty then s.reg.cum else c.regs
  let w := c.win
  let long := c.nominalMs.elim false (isLong w.timed)
  let flags := ownFlags 5 w.virtual w.gap long (w.first || c.nominalMs.elim false (isShort w.timed))
  let s := (List.range 32).foldl (fun s pt => (List.range 8).foldl (fun s code =>
      let s := emitOwn (0xD000 + 8 * pt + code) w.startKey (regs.getD (regIx0 pt code) 0 : Nat) flags w.quality s
      if pt % 4 = 3 then
        (List.range 8).foldl (fun s r =>
          emitOwn (0xD000 + 256 * (r + 1) + 8 * pt + code) w.startKey (regs.getD (regIxR (r + 1) (pt / 4) code) 0 : Nat) flags w.quality s) s
      else s) s) s
  let s := (List.range 4).foldl (fun s n =>
    match s.cfg.act.demand[n]?, s.reg.schemes[n]? with
    | some d, some st =>
      if d.enable then
        st.maxima.foldl (fun s m =>
          let p := d.pairs.getD m.pair (0, 0)
          emitOwn (0x8000 + 4096 * n + 256 * m.rate + 8 * p.1 + p.2) m.startKey (m.value : Nat) (ownFlags 5 (flaggedCycle s m.startKey) false false false) 0 s) s
      else s
    | _, _ => s) s
  s.onReg fun g =>
    { g with
      periods := (⟨c.closeKey, regs, g.schemes.map (·.maxima)⟩ :: g.periods).take 2
      schemes := g.schemes.map fun m => { m with maxima := [] } }

/-- The first closing whose last cycle has been attributed; a partial set is the last of every close (R195, R200). -/
def completeFirst (s : State) : State :=
  match s.reg.closings.find? (fun c => c.closeKey ≤ s.reg.cumKey || s.reg.partialSeen) with
  | none => s
  | some c =>
    let s := s.onReg fun g => { g with closings := g.closings.erase c }
    if c.kind < 4 then completeDemand c.kind c.win s
    else if c.kind = 4 then completeBilling c s
    else completeSeries (c.kind - 8) c.win s

/-- WINDOW_COMPLETE: a window closed at K is complete when the last cycle that starts before K has been attributed (R200). -/
def execWindowComplete (dt : Nat) (s : State) : Outcome State Fault Refusal :=
  let s := tick dt s
  match s.pwr.stage with
  | .running | .hem => .next (completeFirst s)
  | _ => .next s

/-! ### Closes -/

/-- One event for a late series: the series, the nominal instant of the latest missed occurrence, the count (R226). -/
def missedEvent (e : SchedEntry) (s : State) : State :=
  match e.late with
  | some (nominal, n) => raise .seriesMissed srcSup ([BitVec.ofNat 8 (seriesId e.action)] ++ leBytes 8 nominal ++ leBytes 4 n) s
  | none => s

/-- The calendar length in ms of the billing period that ends at a calendar instant in 2⁻³² ns: from the instant before it (R222, R226). -/
def billingMs (s : State) (wall : Nat) : Nat :=
  let w := wall / nsUnit
  (w - nextBilling s (w - 2721600000000000)) / 1000000

/-- Closes the open window of a kind at the entry's key and opens the next (R102, R200). Its close completes with its last
cycle. -/
def closeWindow (k : Nat) (e : SchedEntry) (s : State) : State :=
  let next := openWindow s e.key
  let nominal := if k = 4 then e.wall.map (billingMs s) else none
  let told := fun (s : State) => if k < 4 then mirror (.demand k (s.reg.schemes.getD k {})) s else s
  told <| s.onReg fun g =>
    let win := if k < 4 then (g.schemes.getD k {}).win else if k = 4 then g.bill else g.series.getD (k - 8) {}
    let g := { g with closings := g.closings ++ [({ win := win, kind := k, closeKey := e.key, nominalMs := nominal, late := e.late } : Closing)]
                      cumSaved := g.cum }
    if k < 4 then { g with schemes := modAt g.schemes k fun m => { m with win := next } }
    else if k = 4 then { g with bill := next, billPlaced := if e.wall.isNone then false else g.billPlaced }
    else { g with series := modAt g.series (k - 8) fun _ => next }

/-- The close of a class 3 or class 5 entry; with the front end unpowered no values are produced (R196). -/
def fireClose (k : Nat) (e : SchedEntry) (s : State) : State :=
  let s := if metroOff s then s.onReg fun g => { g with billPlaced := g.billPlaced && !(k == 4 && e.wall.isNone) }
    else closeWindow k e (missedEvent e s)
  refireSeries e s

/-- DEMAND_CLOSE: the class 3 entry of a scheme (R213, R214). -/
def execDemandClose (dt : Nat) (s : State) : Outcome State Fault Refusal :=
  let s := tick dt s
  match dispatch (fun a => match a with | .demandClose _ => true | _ => false) s with
  | some (e, s) => .next (fireClose (seriesId e.action) e s)
  | none => .next s

/-- BILLING_PERIOD_CLOSE: the class 3 entry after scheme 3 (R222, R223). -/
def execBillingPeriodClose (dt : Nat) (s : State) : Outcome State Fault Refusal :=
  let s := tick dt s
  match dispatch (fun a => a == .billingClose) s with
  | some (e, s) => .next (fireClose 4 e s)
  | none => .next s

/-- REGISTER_SNAPSHOT: the class 5 entry of a feeder (R219). -/
def execRegisterSnapshot (dt : Nat) (s : State) : Outcome State Fault Refusal :=
  let s := tick dt s
  match dispatch (fun a => match a with | .snapshot _ => true | _ => false) s with
  | some (e, s) => .next (fireClose (seriesId e.action) e s)
  | none => .next s

/-! ### Tariff rates -/

/-- TARIFF_SWITCH: the calendar's rate is committed for the first cycle that begins at or after the entry's instant; holds
until the next calendar switch end (R204, R205, R227, R231). -/
def execTariffSwitch (dt : Nat) (s : State) : Outcome State Fault Refusal :=
  let s := tick dt s
  match dispatch (fun a => match a with | .tariffSwitch _ => true | _ => false) s with
  | some (e, s) =>
    match e.action with
    | .tariffSwitch r =>
      let s := s.onReg fun g => { g with calRate := some r, holds := g.holds.filter fun h => !h.2.untilSwitch }
      let cycle := if e.key % 65536 = 0 then e.key / 65536 else e.key / 65536 + 1
      .next (refireSeries e (commitRate cycle s))
    | _ => .next s
  | none => .next s

/-- Whether the inputs give a valid rate (R203). -/
def inputsOverride (s : State) : Bool := s.cfg.act.tinMode ≠ 0 && s.met.tinRate.isSome

/-- REG 0x0402 TARIFF_SET (R206, R231). -/
def tariffSet (h : Fin 4) (t : Taken) (s : State) : State × Reply :=
  let mode := fld t.payload 0 1
  let rate := fld t.payload 1 1
  if 2 < mode || (mode = 0 && rate ≠ 0) || (mode ≠ 0 && !rateOk s rate) then (s, answer .badarg)
  else
    let cycle := nextCycleStart s / 65536
    let s := s.onReg fun g =>
      { g with holds := if mode = 0 then tdel g.holds h.val else tput g.holds h.val ⟨rate, mode == 2⟩ }
    let s := commitRate cycle s
    let mine := match bestHold s with
      | some (k, _) => k == h.val
      | none => false
    (s, okWith (leBytes 6 cycle ++ [if mine && !inputsOverride s then 1 else 0, 0]))

/-- TARIFF_SET runs the oldest one dispatched for the host (R231). -/
def execTariffSet (dt : Nat) (host : Fin 4) (s : State) : Outcome State Fault Refusal :=
  .next (runCmd 0x0402 host (tariffSet host) (tick dt s))

/-- REG.TARIFF (R211). -/
def regTariff (s : State) (w1c : Word) : Word :=
  let m := s.met
  let sent := s.fab.toLine.findSome? fun c => match c with | .rate r _ => some r | .metro _ | .warnV _ => none
  let pend := (sent.or (m.pendingRate.map (·.1))).getD 0
  let src := if inputsOverride s then 1 else if s.reg.holds.isEmpty then 0 else 2
  BitVec.ofNat 32 (m.rate + 16 * pend + 256 * src + 2048 * bit (!s.reg.holds.isEmpty) + 65536 * m.tinRaw.toNat
    + 0x1000000 * m.tinStable.toNat) ||| (w1c &&& 0x400)

/-! ### Reading -/

/-- The compact view of a register (R197). -/
def compactView (unit e : Nat) : Nat := e / (1000 * max 1 unit) % 1000000000

/-- REG 0x0401 REG_READ (R230). -/
def regRead (t : Taken) (s : State) : State × Reply :=
  let p := t.payload
  let pt := fld p 0 1
  let code := fld p 1 1
  let first := fld p 2 1
  let n := fld p 3 1
  let form := fld p 4 1
  let period := fld p 5 1
  if 31 < pt || 7 < code || 8 < first || n < 1 || 9 < n || 1 < form || 2 < period || 9 < first + n
      || (pt % 4 ≠ 3 && 1 < first + n) then (s, answer .badarg)
  else
    let val := fun (regs : List Nat) (r : Nat) =>
      let v := if r = 0 then regs.getD (regIx0 pt code) 0 else regs.getD (regIxR r (pt / 4) code) 0
      if form = 1 then compactView (s.cfg.act.unit.getD pt 1) v else v
    let body := fun (key : Nat) (regs : List Nat) => okWith (leBytes 8 key ++ ((List.range n).map fun i => leBytes 8 (val regs (first + i))).flatten)
    if period = 0 then (s, body s.reg.cumKey s.reg.cum)
    else match s.reg.periods[period - 1]? with
      | some b => (s, body b.closeKey b.regs)
      | none => (s, answer .stale)

/-- REG_READ runs the oldest one dispatched for the host (R230). -/
def execRegRead (dt : Nat) (host : Fin 4) (s : State) : Outcome State Fault Refusal :=
  .next (runCmd 0x0401 host regRead (tick dt s))

/-- REG 0x0403 DEMAND_READ (R232). -/
def demandRead (t : Taken) (s : State) : State × Reply :=
  let p := t.payload
  let sc := fld p 0 1
  let pair := fld p 1 1
  let period := fld p 2 1
  let d := s.cfg.act.demand.getD sc {}
  if 3 < sc || 2 < period then (s, answer .badarg)
  else if !d.enable then (s, answer .locked)
  else if d.pairs.length ≤ pair then (s, answer .badarg)
  else
    let body := fun (l : List MaxDemand) =>
      let q := d.pairs.getD pair (0, 0)
      okWith (leBytes 1 q.1 ++ leBytes 1 q.2 ++ List.replicate 6 0 ++ ((List.range 9).map fun r =>
        match l.find? (fun m => m.pair == pair && m.rate == r) with
        | some m => leBytes 8 m.value ++ leBytes 8 m.startKey
        | none => List.replicate 16 0).flatten)
    if period = 0 then (s, body (s.reg.schemes.getD sc {}).maxima)
    else match s.reg.periods[period - 1]? with
      | some b => (s, body (b.maxima.getD sc []))
      | none => (s, answer .stale)

/-- DEMAND_READ runs the oldest one dispatched for the host (R232). -/
def execDemandRead (dt : Nat) (host : Fin 4) (s : State) : Outcome State Fault Refusal :=
  .next (runCmd 0x0403 host demandRead (tick dt s))

/-- REG 0x0404 BILLING_CLOSE (R233). -/
def billingClose (t : Taken) (s : State) : State × Reply :=
  if fld t.payload 0 4 ≠ 0x42494C4C then (s, answer .badarg)
  else if s.reg.billPlaced then (s, answer .busy)
  else
    let key := nextCycleStart s
    match place { cls := 3, sub := 4, action := .billingClose, key := key } s with
    | none => (s, answer .nospace)
    | some s => (s.onReg fun g => { g with billPlaced := true }, okWith (leBytes 6 (key / 65536) ++ [0, 0]))

/-- BILLING_CLOSE runs the oldest one dispatched for the host (R233). -/
def execBillingClose (dt : Nat) (host : Fin 4) (s : State) : Outcome State Fault Refusal :=
  .next (runCmd 0x0404 host billingClose (tick dt s))

end Sys2Proof.Machine
end

