-- ==== Sys2Proof/Machine/Seam.lean ====
section
/-! DEFINITION. The Seam's framed channel, memory errors and the control words ("Two sides, two hierarchies"). -/

namespace Sys2Proof.Machine

open Host (Outcome)

/-! ### The framed channel -/

/-- SEQ of a frame (S2). -/
def frameSeq (bits : BitVec 100) : Nat := (bits.extractLsb' 88 8).toNat

/-- Whether a frame's TYPE is that of its position and its CRC is right (S1, S4); `up` towards the logic side. -/
def frameGood (up : Bool) (position : Nat) (bits : BitVec 100) : Bool :=
  bits.extractLsb' 96 4 == Config.seamType up position && bits.extractLsb' 0 16 == Config.crc16 (bits.extractLsb' 16 84)

/-- A register's image is written to its older copy, and with it the rate selector (R193, R228). -/
def writeReg (p : Nat × RegCopy) (m : MetSt) : MetSt := { m with lining := modAt m.lining p.1 (putCopy (·.count) p.2) }

/-- The rate selector's copy is written (R228). -/
def writeRate (c : RateCopy) (m : MetSt) : MetSt := { m with rateImage := putCopy (·.count) c m.rateImage }

/-- A metrological entry is written once, and its block of 64 sealed anew (R774). -/
def writeEntry (e : MlogEntry) (m : MetSt) : MetSt :=
  let log := m.mlog ++ [e]
  let blk := m.mlog.length / 64
  { m with mlog := log, mlogTags := tput m.mlogTags blk (Config.logSeal m.sealKey (log.drop (64 * blk))) }

/-- The Lining's legal-write port takes a write (R32, R168, R193, R195, R228); for a new metrological entry the logic side records an
event (R776). -/
def writeLegal (b : LegalBody) (s : State) : State :=
  match b with
  | .register reg c rate => s.onMet fun m => writeRate rate (writeReg (reg, c) m)
  | .final regs rate =>
    (s.onPwr fun p => { p with finalImage := true }).onMet fun m => writeRate rate (regs.foldl (fun m p => writeReg p m) m)
  | .cal i => s.onMet fun m => { m with liningCal := some i }
  | .log e =>
    if s.met.mlog.any fun x => x.lseq == e.lseq then s
    else
      let code := 0x0380 + e.kind
      raiseCode code (Config.evtSeverity code % 4) 0x30 (leBytes 4 e.lseq ++ leBytes 2 e.arg ++ [0, 0]) (s.onMet (writeEntry e))

/-- Gives SEQ `q` to the first write that has not been sent since it was posted or repeated; of older writes none is named by it any
longer (R28). -/
def sendFirst (q : Nat) : List LegalImage → List LegalImage
  | [] => []
  | p :: ps => if p.seq.isNone then { p with seq := some q } :: ps else p :: sendFirst q ps

/-- A position-13 frame carries the first write that waits for it; the logic side writes it and acknowledges it by its SEQ (R28, R32). -/
def takeLegal (q : Nat) (s : State) : State :=
  match s.fab.legalPend.find? (fun p => p.seq.isNone) with
  | none => s
  | some p =>
    (writeLegal p.body s).onFab fun f =>
      { f with legalPend := sendFirst q (f.legalPend.map fun p => if p.seq == some q then { p with seq := none } else p)
               legalAcks := f.legalAcks ++ [q] }

/-- What a good frame from the line side brings (R24, R26, R32). -/
def takeUpFrame (q : Nat) (b : SeamRx) (s : State) : State :=
  match b with
  | .crossing | .results => s
  | .comparator d => s.onFab fun f => { f with compRc := some (compensate s.rc d) }
  | .waveform => s.onFab fun f => { f with waveFrames := inc32 f.waveFrames }
  | .plcSamples => s.onFab fun f => { f with rxFrames := inc32 f.rxFrames }
  | .legal => takeLegal q s
  | .status tin alarms mv vin =>
    let s := if s.fab.vinCycle == some s.mains.cycle then s
      else (s.onPwr fun p => { p with vinMv := vin }).onFab fun f => { f with vinCycle := some s.mains.cycle }
    hearNotices ((s.onFab fun f => { f with lineAlarms := alarms, feedbackMv := mv }).onMet fun m => { m with tinRaw := tin })
  | .response n => s.onFab fun f => { f with mgmtResponses := f.mgmtResponses ++ [n] }

/-- SEAM_FRAME_RECEIVE: a frame from the line side, by its position. One with a bad CRC or a TYPE that does not match its position is
discarded and counted (R23, R24, R27, R29). -/
def execSeamFrameReceive (dt : Nat) (frame : SeamFrame SeamRx) (s : State) : Outcome State Fault Refusal :=
  let s := tick dt s
  if s.pwr.lineOn && seamTakes s then
    let s := s.onFab fun f => { f with seqToLogic := (f.seqToLogic + 1) % 256 }
    if frameGood true frame.position frame.bits && frame.body.fits frame.position then
      .next (takeUpFrame (frameSeq frame.bits) frame.body (s.onFab fun f => { f with badToLogic := 0 }))
    else .next (s.onFab fun f => { f with seamDiscards := inc32 f.seamDiscards, badToLogic := f.badToLogic + 1 })
  else .next s

/-- The latest image of what a write carries: a register's is cumulative (R28). -/
def latestImage (m : MetSt) : LegalBody → LegalBody
  | .register reg _ _ => .register reg (regCopy m reg) (rateCopy m)
  | b => b

/-- LEGAL_WRITE_REPEAT: in the next superframe an unacknowledged write, that which has waited longest, is repeated with its latest
image (R28). -/
def execLegalWriteRepeat (dt : Nat) (s : State) : Outcome State Fault Refusal :=
  let s := tick dt s
  if s.pwr.lineOn && s.fab.seamUp then
    match s.fab.legalPend.find? (fun p => p.seq.isSome) with
    | none => .next s
    | some p =>
      let s := s.onMet fun m => { m with imageCount := m.imageCount + 1 }
      .next (s.onFab fun f =>
        { f with legalPend := f.legalPend.erase p ++ [⟨none, latestImage s.met p.body⟩], legalRepeats := inc32 f.legalRepeats })
  else .next s

/-- The waveform and power-line samples missed until now are marked as gaps, one per superframe of 8 µs (R22, R30). -/
def markGaps (s : State) : State :=
  match s.fab.missFrom with
  | some t => s.onFab fun f => { f with gaps := w32 (f.gaps + (s.rc - t) / ofUs 8), missFrom := none }
  | none => s

/-- The event of an outage that has ended, with its duration (R29). -/
def tellOutage (s : State) : State :=
  match s.fab.outage with
  | some t => raise .seamOutage 0x31 (leBytes 8 (t / nsUnit)) (s.onFab fun f => { f with outage := none })
  | none => s

/-- The logic side takes frames again: it marks the gap, records an outage and hears what the line side tells, reports that were lost
there among it (R29, R30, R242). -/
def logicHears (s : State) : State :=
  let s := hearNotices (tellOutage (markGaps s))
  if s.met.pqLost = 0 then s else setSticky 0x044 0x1000 (s.onMet fun m => { m with pqLost := 0 })

/-- The channel is up: the converter's feedback closes (R29, R800). -/
def seamComesUp (s : State) : State :=
  s.onFab fun f =>
    { f with seamUp := true, resync := false, badToLogic := 0, badToLine := 0, convFeedback := true
             outage := if f.resync then some (s.rc - f.downRc) else f.outage }

/-- SEAM_RESYNC: the channel that was down comes up again (R29, R30). -/
def execSeamResync (dt : Nat) (s : State) : Outcome State Fault Refusal :=
  let s := tick dt s
  if s.fab.resync && s.pwr.lineOn then
    let s := seamComesUp s
    .next (if seamTakes s then logicHears s else s)
  else .next s

/-- A non-legal setting reaches the DSP: a rate waits for its cycle, the detectors' and inputs' settings for the next cycle boundary
(R205, R234, R787). -/
def takeCtlFrame (c : LineCtl) (s : State) : State :=
  match c with
  | .rate r n => s.onMet fun m => { m with pendingRate := some (r, n) }
  | .metro m => s.onMet fun x => { x with ctlNext := some m }
  | .warnV mv => s.onFab fun f => { f with lineWarnMv := mv }

/-- The echo of position 0: the number and phase that the logic side had when it began to send, taken at its arrival, the fixed latency
later (R24, R25). -/
def takeMainsEcho (s : State) : State :=
  let k := keyOfRc s (s.rc - seamLatency)
  s.onMet fun m => { m with echoCycle := k / 65536, echoPhase := k % 65536, echoNs := m.lineNs - 1250, echoes := true }

/-- The oldest acknowledgement arrives: the writes that its SEQ names are held no longer (R28). -/
def takeLegalAck (s : State) : State :=
  match s.fab.legalAcks with
  | [] => s
  | q :: rest => s.onFab fun f => { f with legalAcks := rest, legalPend := f.legalPend.filter fun p => p.seq != some q }

/-- What a good frame from the logic side brings (R24, R33, R170, R343). -/
def takeDownFrame (b : LineRx) (s : State) : State :=
  match b with
  | .echo => takeMainsEcho s
  | .txSamples => s.onFab fun f => { f with txFrames := inc32 f.txFrames }
  | .control => match s.fab.toLine with
    | [] => s
    | c :: rest => takeCtlFrame c (s.onFab fun f => { f with toLine := rest })
  | .legalParameter => ignoreRequest s
  | .driver => s.onFab fun f => { f with lineDriver := s.plc.tx.isSome, lineAtt := s.cfg.act.plc.txAtt }
  | .idle => s.onFab fun f => { f with idleFrames := inc32 f.idleFrames }
  | .ack => takeLegalAck s
  | .calImage ok => deliverCalImage ok s
  | .registerImages => deliverRegisters s
  | .setPoint mv => s.onFab fun f => { f with setPointMv := mv }
  | .request n => s.onFab fun f => { f with mgmtRequests := f.mgmtRequests ++ [n] }

/-- LINE_SIDE_FRAME_RECEIVE: a frame from the logic side, by its position; a bad or mismatched one is discarded (R23, R24, R29). -/
def execLineSideFrameReceive (dt : Nat) (frame : SeamFrame LineRx) (s : State) : Outcome State Fault Refusal :=
  let s := tick dt s
  if s.pwr.lineOn && seamTakes s then
    let s := s.onFab fun f => { f with seqToLine := (f.seqToLine + 1) % 256 }
    if frameGood false frame.position frame.bits && frame.body.fits frame.position then
      .next (takeDownFrame frame.body (s.onFab fun f => { f with badToLine := 0 }))
    else .next (s.onFab fun f => { f with badToLine := f.badToLine + 1 })
  else .next s

/-- CONVERTER_FEEDBACK_LOSS: the channel has been down for more than 10 ms (R800). -/
def execConverterFeedbackLoss (dt : Nat) (s : State) : Outcome State Fault Refusal :=
  let s := tick dt s
  if !s.fab.seamUp && s.fab.convFeedback && s.fab.downRc + ofMs 10 < s.rc then
    .next (s.onFab fun f => { f with convFeedback := false })
  else .next s

/-! ### Memory errors -/

/-- The size of a region in KiB, or of an M1 to an engine; 0 for the DRAM, whose size is installed (M1–M6, N1–N4, R39). -/
def MemRegion.kib : MemRegion → Nat
  | .engineLocal => 4096
  | .supervisor => 1024
  | .shared => 8192
  | .sessionCache => 2048
  | .schedTable | .lining | .eventRing => 256
  | .queueRings => 768
  | .pocket => 64
  | .counters => 448
  | .dram => 0

/-- The fabric ports whose initiators use a region of SRAM, or write a region of MRAM (M1–M6, N1–N4, R32, R39): F0–F15 the engines, F16
the supervisor, F22 crypto and Pocket, F24 the Seam bridge, F27 the event recorder's front end. -/
def MemRegion.users : MemRegion → List Nat
  | .engineLocal => List.range 16
  | .supervisor | .counters => [16]
  | .shared | .schedTable | .queueRings | .dram => (List.range 17) ++ (List.range 7).map (· + 21)
  | .sessionCache => (List.range 17) ++ [22]
  | .lining => [24]
  | .pocket => [22]
  | .eventRing => [27]

/-- The number of a region in the DETAIL of its event, which the spec does not lay out: M1–M6, N1–N4, the DRAM (DESIGN CHOICE, log entry
9). -/
def MemRegion.number : MemRegion → Nat
  | .engineLocal => 0
  | .supervisor => 1
  | .shared => 2
  | .sessionCache => 3
  | .schedTable => 4
  | .queueRings => 5
  | .lining => 6
  | .pocket => 7
  | .eventRing => 8
  | .counters => 9
  | .dram => 10

/-- The count of corrected errors of a region, one more (R40). -/
def bumpRegion (r : MemRegion) (l : List (MemRegion × Nat)) : List (MemRegion × Nat) :=
  if l.any fun p => p.1 == r then l.map fun p => if p.1 == r then (p.1, inc32 p.2) else p else l ++ [(r, 1)]

/-- ECC_UNCORRECTABLE: SECDED finds an error. A single bit is corrected in place and counted per region; an uncorrectable error outside
engine local memory raises an event and fails the access, which its requester reports; one of an engine's memory is R37's (R40). -/
def execEccUncorrectable (dt : Nat) (error : EccError) (s : State) : Outcome State Fault Refusal :=
  let s := tick dt s
  match error with
  | .corrected r =>
    .next (s.onFab fun f => { f with eccCorrected := inc32 f.eccCorrected, eccByRegion := bumpRegion r f.eccByRegion })
  | .uncorrectable .engineLocal _ => .next s
  | .uncorrectable r port =>
    .next (raise .eccUncorr srcSup (leBytes 4 r.number) (s.onFab fun f => { f with accessErrors := (port, r) :: f.accessErrors }))

/-! ### Control words -/

/-- Whether two shadow words are of one control word (R56). -/
def sameWord : CtlWord → CtlWord → Bool
  | .fe n _, .fe m _ => n == m
  | .lane n _, .lane m _ => n == m
  | .wur _, .wur _ => true
  | .linkProfile n _, .linkProfile m _ => n == m
  | .parse n _, .parse m _ => n == m
  | .vee n _, .vee m _ => n == m
  | .shape n _, .shape m _ => n == m
  | .subBands _, .subBands _ => true
  | .plc _, .plc _ => true
  | .pin a _, .pin b _ => a == b
  | .context m _, .context n _ => m == n
  | .metro _, .metro _ => true
  | .arch _, .arch _ => true
  | .uplink .., .uplink .. => true
  | .port n _, .port m _ => n == m
  | .veeMeter m .., .veeMeter n .. => m == n
  | _, _ => false

/-- Puts a word behind the others of a list, where it takes the place of an earlier one of the same control word. -/
def putWord (w : CtlWord) (l : List CtlWord) : List CtlWord := (l.filter fun v => !sameWord w v) ++ [w]

/-- Counts a superseded commit when a list holds one (R56). -/
def countSuperseded (w : CtlWord) (l : List CtlWord) (s : State) : State :=
  if l.any (sameWord w) then s.onCfg fun c => { c with ctlSuperseded := inc32 c.ctlSuperseded } else s

/-- A block manager writes a shadow copy; an earlier commit of the same word that still waits is superseded and counted (R53,
R56). -/
def postWord (w : CtlWord) (s : State) : State :=
  (countSuperseded w s.fab.shadow s).onFab fun f => { f with shadow := putWord w f.shadow }

/-- A commit to a block whose power domain is off is held; an earlier one held of the same word is superseded (R56, R57). -/
def holdWord (w : CtlWord) (s : State) : State :=
  (countSuperseded w s.fab.heldWords s).onFab fun f => { f with heldWords := putWord w f.heldWords }

/-- Sets a front end's fields. -/
def setFe (n : Nat) (f : FeCfg) (c : BaseCfg) : BaseCfg := if n = 0 then { c with feA := f } else { c with feB := f }

/-- The settings of X11 with those of a control word; RATES_USED is the REG manager's. -/
def setMetro (m : MetroCtl) (c : BaseCfg) : BaseCfg :=
  { c with declaredMv := m.pq.declaredMv, sagPct := m.pq.sagPct, swellPct := m.pq.swellPct, intrPct := m.pq.intrPct
           hystPct := m.pq.hystPct, monitor := m.pq.monitor, tinMode := m.tinMode, tinMask := m.tinMask, tinInvert := m.tinInvert
           debounce := m.debounce }

/-- The non-legal metrology settings of a configuration (X11). -/
def metroOf (c : BaseCfg) : MetroCtl :=
  { pq := { declaredMv := c.declaredMv, sagPct := c.sagPct, swellPct := c.swellPct, intrPct := c.intrPct, hystPct := c.hystPct
            monitor := c.monitor }
    tinMode := c.tinMode, tinMask := c.tinMask, tinInvert := c.tinInvert, debounce := c.debounce, ratesUsed := c.ratesUsed }

/-- The active copies with one word's shadow copy (R53); MODE of the power-line port changes at its cycle and MODE of an uplink port by
its own request instead (R341, R544). -/
def applyWord (w : CtlWord) (c : BaseCfg) : BaseCfg :=
  match w with
  | .fe n f => setFe n f c
  | .lane n l => { c with lanes := tput c.lanes n l }
  | .wur x => { c with wur := x }
  | .linkProfile n p => { c with linkProfiles := tput c.linkProfiles n p }
  | .parse n p => { c with parse := tput c.parse n p }
  | .vee n p => { c with vee := tput c.vee n p }
  | .shape n v => { c with shapes := tput c.shapes n v }
  | .subBands b => { c with subBands := b }
  | .plc x => { c with plc := { x with mode := c.plc.mode } }
  | .metro m => setMetro m c
  | .arch a => { c with arch := a }
  | .uplink b l => { c with bundleMaxMs := b, latBudgetUs := l }
  | .port n x => { c with ports := modAt c.ports n fun q => { x with mode := q.mode } }
  | .pin .. | .context .. | .veeMeter .. => c

/-- Sends the metrology settings to the line side; of those that wait only the latest are sent (R51, X11). -/
def sendMetro (m : MetroCtl) (s : State) : State :=
  let old := fun (c : LineCtl) => match c with
    | .metro _ => true
    | .rate .. | .warnV _ => false
  s.onFab fun f => { f with toLine := (f.toLine.filter fun c => !old c) ++ [.metro m] }

/-- Commits a word to its active copy. -/
def commitWord (w : CtlWord) (s : State) : State := s.onCfg fun c => { c with act := applyWord w c.act }

end Sys2Proof.Machine
end

