-- ==== Sys2Proof/Machine/Radio.lean ====
section
/-! DEFINITION. Radio front ends, lanes, the wake-up receiver and their commands ("Radio front ends and the channelizer"), and
the commits of control words with the shutdowns they begin (R53, R57, R812, R813). -/

namespace Sys2Proof.Machine

open Host (Outcome)

/-! ### Front ends and lanes -/

/-- A front end's fields in a configuration. -/
def feIn (c : BaseCfg) (n : Nat) : FeCfg := if n = 0 then c.feA else c.feB

/-- A lane's fields in a configuration. -/
def laneIn (c : BaseCfg) (n : Nat) : LaneCfg := tget c.lanes n {}

/-- Whether R8 leaves a front end powered. -/
def fePowered (s : State) (n : Nat) : Bool := if n = 0 then s.cfg.startCfg.feAPowered else s.cfg.startCfg.feBPowered

/-- Whether the logic side works on items: past READY, Hem included (R317). -/
def stageAlive (s : State) : Bool := match s.pwr.stage with | .running | .hem => true | _ => false

/-- Whether the logic side works and the domains that Doze and Hold switch off are on (R802). -/
def itemsRun (s : State) : Bool := stageAlive s && (match s.pwr.state with | .run | .trim => true | _ => false)

/-- Whether the radio domain is on (R802). -/
def radioOn (s : State) : Bool := itemsRun s

/-- Whether a front end is powered and enabled (R262, R278). -/
def feOn (s : State) (n : Nat) : Bool := n < 2 && radioOn s && fePowered s n && (feIn s.cfg.act n).enable

/-- The state of a front end. -/
def feSt (s : State) (n : Nat) : FeSt := s.rad.fes.getD n {}

/-- Changes the state of a front end. -/
def onFe (n : Nat) (f : FeSt → FeSt) (s : State) : State := s.onRad fun r => { r with fes := modAt r.fes n f }

/-- The channel width of a PHY code in Hz (R271). -/
def phyWidth (code : Nat) : Option Nat :=
  match code with
  | 0x10 => some 200000 | 0x11 => some 400000 | 0x12 => some 400000 | 0x13 => some 400000 | 0x14 => some 600000
  | 0x20 => some 1200000 | 0x21 => some 800000 | 0x22 => some 400000 | 0x23 => some 200000
  | 0x30 => some 600000 | 0x31 => some 600000 | 0x32 => some 600000 | 0x33 => some 600000
  | 0x34 => some 12500 | 0x35 => some 12500 | 0x36 => some 50000
  | _ => none

/-- The capture width of a WIDTH code in Hz (FE3). -/
def captureHz (w : Nat) : Nat := if w = 0 then 1500000 else if w = 1 then 3000000 else 6000000

/-- Whether the fields of a front end stand in the ranges of R262. -/
def feOk (f : FeCfg) : Bool :=
  f.width ≤ 2 && f.centerHz % 6250 = 0 && 160000000 + captureHz f.width / 2 ≤ f.centerHz
    && f.centerHz + captureHz f.width / 2 ≤ 960000000
    && -20 ≤ f.txPower && f.txPower ≤ 40 && f.paLead ≤ 100 && f.paLag ≤ 50
    && (f.cca = 0 || (-120 ≤ f.cca && f.cca ≤ -40))

/-- Whether an enabled lane is valid under its front end's capture (R268). -/
def laneValid (c : BaseCfg) (l : LaneCfg) : Bool :=
  match phyWidth l.phy with
  | some w => 2 * (l.offset * 6250).natAbs + w ≤ captureHz (feIn c l.fe).width
  | none => true

/-- The enabled lanes of a configuration, with their numbers; PHY 0x00 disables a lane (LN1, LN3). -/
def lanesOn (c : BaseCfg) : List (Nat × LaneCfg) := c.lanes.filter fun p => p.2.enable && p.2.phy != 0

/-- The copies that a new commit builds on: the active ones with the capture changes and the shadow words that wait. -/
def shadowCfg (s : State) : BaseCfg :=
  let c := (List.range 2).foldl (fun c n => match (feSt s n).retune with
    | some (f, _) => setFe n f c
    | none => c) s.cfg.act
  (s.fab.heldWords ++ s.fab.shadow).foldl (fun c w => applyWord w c) c

/-! ### Shutdowns, power-ups and Re-arms (R812, R813) -/

/-- The transit of a function in progress. -/
def transitOf (s : State) (fn : ArmFn) : Option Transit := s.pwr.transits.find? fun t => t.fn == fn

/-- Begins a shutdown or power-up. -/
def beginTransit (fn : ArmFn) (up : Bool) (span : Nat) (s : State) : State :=
  s.onPwr fun p => { p with transits := (p.transits.filter fun t => t.fn != fn) ++ [{ fn := fn, up := up, endRc := s.rc + span }] }

/-- A request to a function: held as a Re-arm when it enables during a shutdown or disables during a power-up; a disabling one
cancels a held Re-arm; else it is done at once (R812, R813). -/
def armRequest (fn : ArmFn) (enable : Bool) (req : ArmReq) (now : State → State) (s : State) : State × Reply :=
  match transitOf s fn with
  | none => (now s, answer .ok)
  | some t =>
    if t.up != enable then
      let s := s.onPwr fun p =>
        { p with transits := p.transits.map fun u => if u.fn == fn then { u with rearm := some req } else u
                 rearms := inc32 p.rearms
                 rearmSuperseded := if t.rearm.isSome then inc32 p.rearmSuperseded else p.rearmSuperseded }
      (s, answer .rearmed)
    else
      match t.rearm with
      | some _ =>
        (s.onPwr fun p =>
          { p with transits := p.transits.map fun u => if u.fn == fn then { u with rearm := none } else u
                   rearmCancelled := inc32 p.rearmCancelled }, answer .ok)
      | none => (now s, answer .ok)

/-! ### The power-line MODE at its cycle (R55, R341) -/

/-- The MODE that a waiting entry sets. -/
def modeOf : SchedAction → Option Nat
  | .plcMode m => some m
  | .heartbeat | .hemStart | .demandClose _ | .billingClose | .tariffSwitch _ | .snapshot _ | .overlayChange _ | .cfgTake | .radioTx ..
  | .plcTx _ | .hostNotice _ | .restart => none

/-- The MODE that waits for its cycle, and that cycle. -/
def modeNext (s : State) : Option (Nat × Nat) :=
  s.sched.entries.findSome? fun e => (modeOf e.action).map fun m => (m, e.key / 65536)

/-- The MODE that the port will have. -/
def modeToBe (s : State) : Nat := match modeNext s with
  | some (m, _) => m
  | none => s.plc.mode

/-- A commit of MODE set for the first cycle start at least 64 pt ahead is a scheduler entry of the PLC manager, class 7, in place of one
that waits; none when the table has no room (R55, R86, R90, R341; log entry 407). -/
def placeMode (mode : Nat) (s : State) : Option State :=
  let t := dropEntries (fun e => (modeOf e.action).isSome) s
  if mode = s.plc.mode then some t else place { cls := 7, sub := 2, action := .plcMode mode, key := nextCycleStart s } t

/-! ### Commits (R53, R57) -/

/-- A front end starts its calibration of 2.0 ms (R263). -/
def startCalibration (n : Nat) (s : State) : State :=
  onFe n (fun f => { f with ready := false, calEnd := some (s.rc + ofMs 2) }) s

/-- A lane becomes able to hear (R325). -/
def laneHears (n : Nat) (s : State) : State := s.onRad fun r => { r with laneDeaf := tput r.laneDeaf n s.key }

/-- A committed front end word: an enabling begins the calibration, a disabling the shutdown; a changed capture waits for
FE_RETUNE, and one that already waits is superseded (R56, R263, R264, R812). -/
def commitFe (n : Nat) (c : FeCfg) (s : State) : State :=
  let old := feIn s.cfg.act n
  if old.enable && c.enable && (old.centerHz ≠ c.centerHz || old.width ≠ c.width) then
    let s := if (feSt s n).retune.isSome then s.onCfg fun g => { g with ctlSuperseded := inc32 g.ctlSuperseded } else s
    let s := commitWord (.fe n { c with centerHz := old.centerHz, width := old.width }) s
    onFe n (fun f => { f with retune := some (c, s.rc) }) s
  else
    let s := onFe n (fun f => { f with retune := none }) (commitWord (.fe n c) s)
    if c.enable && !old.enable then beginTransit (.fe n) true (ofMs 2) (startCalibration n s)
    else if old.enable && !c.enable then
      beginTransit (.fe n) false (ofUs 200) (onFe n (fun f => { f with ready := false, calEnd := none }) s)
    else s

/-- A committed lane word (R267, R812). -/
def commitLane (n : Nat) (c : LaneCfg) (s : State) : State :=
  let old := laneIn s.cfg.act n
  let s := commitWord (.lane n c) s
  if old.enable && !c.enable then beginTransit (.lane n) false (ofUs 10) s
  else if !old.enable && c.enable then laneHears n s
  else s

/-- A committed wake-up receiver word (R290, R812). -/
def commitWur (c : WurCfg) (s : State) : State :=
  let old := s.cfg.act.wur
  let s := commitWord (.wur c) s
  if old.enable && !c.enable then beginTransit .wur false (ofUs 50) s else s

/-- A committed word of X1, X3 and X5 to X11; the metrology settings go on to the line side (R51). -/
def commitAny (w : CtlWord) (s : State) : State :=
  match w with
  | .fe n c => commitFe n c s
  | .lane n c => commitLane n c s
  | .wur c => commitWur c s
  | .metro m => sendMetro m (commitWord w s)
  | w => commitWord w s

/-- Whether the power domain of a word's block is on (R8, R57, R802). The wake-up receiver and the line side are powered in every state;
X7 and X8 are the uplink domain's and follow the Ethernet ports into Hold. -/
def wordDomainOn (s : State) (w : CtlWord) : Bool :=
  let awake := match s.pwr.state with
    | .run | .trim => true
    | .doze | .hold => false
  match w with
  | .wur _ | .metro _ => true
  | .fe n _ => awake && fePowered s n
  | .lane n _ => awake && fePowered s (laneIn (shadowCfg s) n).fe
  | .plc _ => awake && s.cfg.startCfg.plcPowered && workRuns s .plcModem
  | .parse .. => awake && workRuns s .normalise
  | .vee .. | .shape .. | .veeMeter .. => awake && workRuns s .validate
  | .arch _ => awake && workRuns s .pageMap
  | .uplink .. | .port .. => awake && workRuns s .uplink
  | .linkProfile .. | .subBands _ | .pin .. | .context .. => awake

/-- FE_CALIBRATION_DONE: the lanes of a front end may deliver frames (R263). -/
def execFeCalibrationDone (dt fe : Nat) (s : State) : Outcome State Fault Refusal :=
  let s := tick dt s
  match (feSt s fe).calEnd with
  | some t =>
    if feOn s fe && t ≤ s.rc then .next (onFe fe (fun f => { f with ready := true, calEnd := none, deafEnd := s.key }) s) else .next s
  | none => .next s

/-- FE_RETUNE: a capture change takes effect when no lane is inside a frame or 10 ms after the commit; the frames in progress
are discarded as blanked, and the lanes stop for 150 µs (R264). -/
def execFeRetune (dt fe inFrame : Nat) (s : State) : Outcome State Fault Refusal :=
  let s := tick dt s
  match (feSt s fe).retune with
  | some (c, at_) =>
    if inFrame = 0 || at_ + ofMs 10 ≤ s.rc then
      let s := commitWord (.fe fe c) s
      .next (onFe fe (fun f =>
        { f with retune := none, retuneEnd := s.rc + ofUs 150, blanked := w32 (f.blanked + inFrame)
                 deafEnd := s.key + (ofUs 150 * 65536 + cycleLen s - 1) / cycleLen s }) s)
    else .next s
  | none => .next s

/-- AGC_OVERLOAD: the in-capture power exceeds −40 dBm (R266). -/
def execAgcOverload (dt fe : Nat) (s : State) : Outcome State Fault Refusal :=
  let s := tick dt s
  if feOn s fe then .next (setSticky 0x04C (if fe = 0 then 0x100 else 0x200) s) else .next s

/-! ### Reception -/

/-- The descriptor of a frame, 32 bytes (R275). -/
def frameDesc (f : RadioFrame) : List Byte :=
  leBytes 1 f.lane ++ leBytes 1 f.phy
    ++ leBytes 2 (bit f.fcsOk + 2 * bit f.agcChanged + 4 * bit f.modeSwitch + 8 * bit f.virtualMains + 16 * bit f.modeT + 32 * (f.mcs % 8))
    ++ leBytes 2 f.length ++ leBytes 2 f.chanId ++ leBytesI 2 f.rssi ++ leBytesI 2 f.freqErr ++ leBytes 1 f.lqi ++ leBytes 1 f.fe
    ++ [0, 0] ++ leBytes 8 f.key ++ leBytes 8 f.tai

/-- The numeric value of SERIAL, or EXT_ADDR (R882). -/
def extAddr (s : State) : Nat := if s.cfg.act.extAddr = 0 then s.pocket.serial else s.cfg.act.extAddr

/-- FA3: PAN and destination of an 802.15.4 frame (R309, R882). -/
def addressed (s : State) (f : RadioFrame) : Bool :=
  f.kind ≠ 0 ||
    ((s.cfg.act.panId = 0xFFFF || f.pan = s.cfg.act.panId || f.pan = 0xFFFF)
      && (f.dstBroadcast || (if f.dstShort then f.dst = 0 else f.dst = extAddr s)))

/-- A frame tap takes each radio frame with its descriptor, as Q0 receives it; a ring of SOURCE 1 leaves out the frames that FA3
filters (R309, R656, R659). -/
def tapFrame (f : RadioFrame) (s : State) : State :=
  let item := frameDesc f ++ f.bytes
  let rings := (s.hosts.rings.filter fun r => r.source == 2 || (r.source == 1 && addressed s f)).map (·.number)
  rings.foldl (fun s n => tapRing n item s) s

/-- Whether PA_EN of a front end is asserted at some instant from `from_` to the present (R284). -/
def paOver (s : State) (fe from_ : Nat) : Bool := match (feSt s fe).tx with
  | some t => decide (t.onRc ≤ s.rc ∧ from_ < t.offRc)
  | none => false

/-- Whether a blank overlaps a frame that ends now on a front end (R284). -/
def blankedNow (s : State) (fe durUs : Nat) : Bool :=
  let from_ := s.rc - ofUs durUs
  let other := 1 - fe
  paOver s fe from_ || (paOver s other from_ && (feIn s.cfg.act other).blankPeer) || from_ < (feSt s fe).blankEnd

/-- Whether a lane follows a carrier offset, in 10 Hz units as FD7 has it: up to the smaller of 40 kHz and 25 % of the lane's
channel width, in hertz; a lane without a format follows none (R272, FD7). -/
def carrierFollowed (phy : Nat) (freqErr : Int) : Bool :=
  match phyWidth phy with
  | none => false
  | some width => freqErr.natAbs * 10 ≤ 40000 && freqErr.natAbs * 40 ≤ width

/-- A frame as its format announces it: MCS only for SUN-OFDM, the mode T flag only on 0x33, and a mode-switch PHR, which only SUN-FSK has, as
a frame of length 0 (R273, R275). -/
def frameAs (phy : Nat) (f : RadioFrame) : RadioFrame :=
  let sw := f.modeSwitch && 0x10 ≤ phy && phy ≤ 0x14
  { f with mcs := if 0x20 ≤ phy && phy ≤ 0x23 then f.mcs else 0, modeT := f.modeT && phy == 0x33, modeSwitch := sw
           length := if sw then 0 else f.length, bytes := if sw then [] else f.bytes }

/-- LANE_FRAME_RECEIVE: a lane decodes a frame and pushes it with its descriptor onto Q0; a blanked frame is discarded and
counted, and so is one that Q0 refuses (R263, R274–R277, R284). -/
def execLaneFrameReceive (dt : Nat) (frame : RadioFrame) (s : State) : Outcome State Fault Refusal :=
  let s := tick dt s
  let l := laneIn s.cfg.act frame.lane
  let fe := l.fe
  if 64 ≤ frame.lane || !l.enable || !carrierFollowed l.phy frame.freqErr || !feOn s fe || !(feSt s fe).ready || s.rc - ofUs frame.durationUs < (feSt s fe).retuneEnd then
    .next s
  else if blankedNow s fe frame.durationUs then .next (onFe fe (fun f => { f with blanked := inc32 f.blanked }) s)
  else
    let rcA := s.rc - ofUs frame.durationUs
    let key := keyOfRc s rcA
    let f :=
      { frameAs l.phy frame with
        fe := fe, phy := l.phy, chanId := l.chanId, key := key, tai := reportedAt s rcA / nsUnit, virtualMains := flaggedCycle s key }
    let s := onFe fe (fun e => if f.fcsOk then { e with framesOk := inc32 e.framesOk } else { e with framesBad := inc32 e.framesBad }) s
    if s.rad.q0.length < Config.ringDepth 0 then .next (tapFrame f (s.onRad fun r => { r with q0 := r.q0 ++ [f] }))
    else
      let s := countRefused 0 (s.onRad fun r => { r with laneDrops := tbump r.laneDrops f.lane })
      .next (setSticky 0x04C 0x400 (onFe fe (fun e => { e with droppedFull := inc32 e.droppedFull }) s))

/-! ### The wake-up receiver -/

/-- Whether the wake-up receiver runs (R290). -/
def wurOn (s : State) : Bool := s.pwr.aonOn && s.cfg.act.wur.enable && s.cfg.startCfg.role.isSome

/-- The length of a wake frame in 2⁻³² ns: 56 bits (R289). -/
def wakeFrameLen (fast : Bool) : Nat := 56 * ofS 1 / (if fast then 4096 else 1024)

/-- WUR_FRAME: a matching frame with a correct CHECK sets WUR_HIT, records an event and issues a wake request; front end A's
transmission blanks the receiver (R284, R289–R291). -/
def execWurFrame (dt addr check rssiClass : Nat) (s : State) : Outcome State Fault Refusal :=
  let s := tick dt s
  let w := s.cfg.act.wur
  let start := s.rc - wakeFrameLen w.fast
  let blank := start < (feSt s 0).paOff || paOver s 0 start
  let hit := addr ≠ 0 && ((addr = 0xFFFF && w.broadcast) || w.addrs.contains addr)
  if wurOn s && check = wakeCheck addr && hit && !blank then
    let s := raise .wurHit 0x42 (leBytes 2 addr ++ leBytes 1 rssiClass) (setSticky 0x04C 0x20 s)
    .next (s.onPwr fun p => { p with wakeReq := true })
  else .next s

/-! ### Transmission entries (R279) -/

/-- Places a frame for a front end as a class 7 entry: STALE less than 16,384 pt ahead, NOSPACE beyond Z2. The frame goes to Q7;
one that Q7 refuses is missing when its entry is released (R279, R280). -/
def placeRadio (fe key : Nat) (f : TxFrame) (s : State) : Except Status State :=
  if key < s.key + 16384 then .error .stale
  else
    match place { cls := 7, sub := fe, action := .radioTx fe f.id, key := key } s with
    | none => .error .nospace
    | some s =>
      if s.rad.q7.length < Config.ringDepth 7 then .ok (s.onRad fun r => { r with q7 := r.q7 ++ [f] })
      else .ok (countRefused 7 s)

/-- A number for a frame. -/
def newFrame (s : State) : Nat × State := (s.rad.nextFrame, s.onRad fun r => { r with nextFrame := r.nextFrame + 1 })

/-- The key of a wake sequence: the rendezvous key less REPEAT frames and GAP, at the predicted cycle length (R292), rounded down
to the phase tick. -/
def wakeKey (s : State) (fast : Bool) (rep gapUs rdv : Nat) : Nat :=
  rdv - ((rep * wakeFrameLen fast + ofUs gapUs) * 65536 + cycleLen s - 1) / cycleLen s

/-- The transmission of a wake sequence: REPEAT times the frame of R289, whose bytes go out most significant bit first (R292). -/
def wakeTx (id freqHz addr rep : Nat) (fast : Bool) : TxFrame :=
  { id := id, addr := addr, freqHz := freqHz, widthHz := Config.wakeWidthHz, airNs := rep * wakeFrameLen fast / nsUnit, use := 2
    bytes := [0x55, 0x55, 0xB3, 0x8E, BitVec.ofNat 8 (addr / 256), BitVec.ofNat 8 addr, BitVec.ofNat 8 (wakeCheck addr)] }

/-- A placed sequence with its key. -/
def withKey (key : Nat) : Except Status State → Except Status (Nat × State)
  | .error e => .error e
  | .ok s => .ok (key, s)

/-- Places a wake sequence (R292, R293). -/
def placeWake (fe freqHz addr rep gapUs rdv : Nat) (fast : Bool) (s : State) : Except Status (Nat × State) :=
  withKey (wakeKey s fast rep gapUs rdv)
    (placeRadio fe (wakeKey s fast rep gapUs rdv) (wakeTx (newFrame s).1 freqHz addr rep fast) (newFrame s).2)

/-! ### Commands -/

/-- LINK 0x0501 FE_SET (R262, R268, R296). -/
def feSet (t : Taken) (s : State) : State × Reply :=
  let p := t.payload
  let n := fld p 0 1
  let c : FeCfg :=
    { enable := fld p 1 1 = 1, width := fld p 2 1, blankPeer := hasBit (fld p 3 1) 0, centerHz := fld p 4 4, txPower := fldI p 8 2
      paLead := fld p 10 1, paLag := fld p 11 1, cca := fldI p 12 1 }
  let base := setFe n c (shadowCfg s)
  if 1 < n || 1 < fld p 1 1 || 1 < fld p 3 1 || !feOk c || (lanesOn base).any (fun q => q.2.fe == n && !laneValid base q.2) then
    (s, answer .badarg)
  else armRequest (.fe n) c.enable (.fe c) (postWord (.fe n c)) s

/-- FE_SET runs the oldest one dispatched for the host (R296). -/
def execFeSet (dt : Nat) (host : Fin 4) (s : State) : Outcome State Fault Refusal :=
  .next (runCmd 0x0501 host feSet (tick dt s))

/-- LINK 0x0502 LANE_SET (R267–R270, R297). -/
def laneSet (t : Taken) (s : State) : State × Reply :=
  let p := t.payload
  let n := fld p 0 1
  let c : LaneCfg := { enable := fld p 1 1 = 1, fe := fld p 2 1, phy := fld p 3 1, offset := fldI p 4 4, chanId := fld p 8 2 }
  let base := shadowCfg s
  let others := (lanesOn base).filter fun q => q.1 != n
  let ofdm := fun (phy : Nat) => 0x20 ≤ phy && phy ≤ 0x23
  if 63 < n || 1 < fld p 1 1 || 1 < c.fe || (c.phy ≠ 0 && (phyWidth c.phy).isNone) || (c.enable && !laneValid base c) then (s, answer .badarg)
  else if c.enable && c.phy ≠ 0 && others.any (fun q => q.2.fe == c.fe && q.2.phy == c.phy && q.2.offset == c.offset) then (s, answer .badarg)
  else if c.enable && ofdm c.phy && 16 ≤ (others.filter fun q => ofdm q.2.phy).length then (s, answer .nospace)
  else armRequest (.lane n) c.enable (.lane c) (postWord (.lane n c)) s

/-- LANE_SET runs the oldest one dispatched for the host (R297). -/
def execLaneSet (dt : Nat) (host : Fin 4) (s : State) : Outcome State Fault Refusal :=
  .next (runCmd 0x0502 host laneSet (tick dt s))

/-- Whether a sub-band overlaps a channel; edges that only touch do not (log entry 15). -/
def bandHit (b : SubBand) (low high : Nat) : Bool := b.lowHz < high && low < b.highHz

/-- The transmissions whose start lies in the last 3,600 s of rate-corrected time (R287), the released ones with what they take. -/
def airsNow (s : State) : List Air :=
  let now := s.rad.airs.filter fun a => s.opTime < a.onRc + ofS 3600
  (List.range 2).foldl (fun l n => ((feSt s n).tx.toList ++ (feSt s n).txNext).foldl (fun l t =>
    ⟨s.evt.opBase + t.onRc, t.frame.freqHz - t.frame.widthHz / 2, t.frame.freqHz + t.frame.widthHz / 2, t.offRc - t.onRc⟩ :: l) l) now

/-- The airtime of a sub-band (R287). -/
def bandSum (s : State) (b : SubBand) : Nat :=
  (airsNow s).foldl (fun a x => if bandHit b x.lowHz x.highHz then a + x.airRc else a) 0

/-- LINK 0x0503 RF_STATUS (R298): NOISE_FLOOR is a measurement, so a free value. -/
def rfStatus (t : Taken) (s : State) : State × Reply :=
  let n := fld t.payload 0 1
  if 1 < n then (s, answer .badarg)
  else
    let f := feSt s n
    let (noise, s) := s.takeFree
    let duty := (s.cfg.act.subBands.map fun b => bandSum s b * 10000 / ofS 3600).foldl max 0
    (s, okWith (leBytes 4 f.framesOk ++ leBytes 4 f.framesBad ++ leBytes 4 f.droppedFull ++ leBytes 4 f.blanked ++ leBytes 4 f.txSent
      ++ leBytes 4 f.txDropped ++ leBytes 2 duty ++ leBytes 2 noise ++ List.replicate 4 0))

/-- RF_STATUS runs the oldest one dispatched for the host (R298). -/
def execRfStatus (dt : Nat) (host : Fin 4) (s : State) : Outcome State Fault Refusal :=
  .next (runCmd 0x0503 host rfStatus (tick dt s))

/-- Whether a frequency stands on the 6,250 Hz grid within 160–960 MHz (R290, R299). -/
def wurFreqOk (hz : Nat) : Bool := 160000000 ≤ hz && hz ≤ 960000000 && hz % 6250 = 0

/-- LINK 0x0504 WUR_SET (R290, R299). -/
def wurSet (t : Taken) (s : State) : State × Reply :=
  let p := t.payload
  let addrs := (List.range 4).map fun i => fld p (8 + 2 * i) 2
  let c : WurCfg :=
    { enable := fld p 0 1 = 1, fast := fld p 1 1 = 1, broadcast := hasBit (fld p 2 1) 0, freqHz := fld p 4 4
      addrs := addrs.filter (· != 0) }
  if 1 < fld p 0 1 || 1 < fld p 1 1 || 1 < fld p 2 1 || !wurFreqOk c.freqHz || addrs.contains 0xFFFF then (s, answer .badarg)
  else armRequest .wur c.enable (.wur c) (postWord (.wur c)) s

/-- WUR_SET runs the oldest one dispatched for the host (R299). -/
def execWurSet (dt : Nat) (host : Fin 4) (s : State) : Outcome State Fault Refusal :=
  .next (runCmd 0x0504 host wurSet (tick dt s))

/-- LINK 0x0505 WAKE_SEND (R292, R300). -/
def wakeSend (t : Taken) (s : State) : State × Reply :=
  let p := t.payload
  let fe := fld p 0 1
  let rate := fld p 1 1
  let rep := fld p 2 1
  let freq := fld p 4 4
  let addr := fld p 8 2
  if 1 < fe || 1 < rate || rep = 0 || addr = 0 || !wurFreqOk freq then (s, answer .badarg)
  else
    match placeWake fe freq addr rep (fld p 10 2) (fld p 12 8) (rate == 1) s with
    | .error e => (s, answer e)
    | .ok (key, s) => (s, okWith (leBytes 8 key))

/-- WAKE_SEND runs the oldest one dispatched for the host (R300). -/
def execWakeSend (dt : Nat) (host : Fin 4) (s : State) : Outcome State Fault Refusal :=
  .next (runCmd 0x0505 host wakeSend (tick dt s))

/-- RADIO.STAT (R294). -/
def radioStat (s : State) (w1c : Word) : Word :=
  let fe := fun (n : Nat) =>
    let f := feSt s n
    if !feOn s n then 0
    else if paOver s n s.rc then 2
    else if f.calEnd.isSome || s.rc < f.retuneEnd then 3
    else 1
  BitVec.ofNat 32 (fe 0 + 4 * fe 1 + 16 * bit (wurOn s) + 64 * bit (feSt s 0).dutyHold + 128 * bit (feSt s 1).dutyHold
    + 65536 * min 64 (lanesOn s.cfg.act).length + 0x1000000 * (s.rad.txDrops % 256)) ||| (w1c &&& 0x720)

end Sys2Proof.Machine
end

