-- ==== Sys2Proof/Machine/Place.lean ====
section
/-! DEFINITION. NAND placement: dies, stripe groups, superblocks, write streams, stripes, and the two copies of the system namespace
("Interval archive on raw NAND"). -/

namespace Sys2Proof.Machine

open Host (Outcome)

/-! ### Whether the archive works -/

/-- The storage domain is on and Hem has not begun (R531, R802). -/
def nandOn (s : State) : Bool :=
  s.pwr.stage == .running && (match s.pwr.state with | .run | .trim => true | _ => false)

/-- STATE ready or host namespace read-only (AS1). -/
def archReady (s : State) : Bool := s.arch.state == 2 || s.arch.state == 3

/-- The archive can place pages now. -/
def archWorks (s : State) : Bool := nandOn s && archReady s

/-- Whether SE13 works on the archive (R35). -/
def se13Works (s : State) : Bool := archWorks s && workRuns s .pageMap

/-! ### Dies, groups, blocks -/

/-- The stripe groups of the format (R510). -/
def groupsOf (s : State) : List (List Nat) := (s.arch.format.map (·.groups)).getD []

/-- A die in use. -/
def dieOf (s : State) (d : Nat) : Option DieSt := tfind s.arch.dies d

/-- Whether a die in use has not failed (R513). -/
def dieGood (s : State) (d : Nat) : Bool := match dieOf s d with
  | some x => x.state == 0
  | none => false

/-- Changes a die. -/
def onDie (d : Nat) (f : DieSt → DieSt) (s : State) : State :=
  match dieOf s d with
  | some x => s.onArch fun a => { a with dies := tput a.dies d (f x) }
  | none => s

/-- Whether a block is marked bad (R498). -/
def blockBad (s : State) (d b : Nat) : Bool := s.arch.bad.any fun x => x.1 == d && x.2.1 == b

/-- Adds a grown bad block (R498). -/
def growBad (d b : Nat) (s : State) : State :=
  if blockBad s d b then s
  else onDie d (fun x => { x with badGrown := x.badGrown + 1 }) (s.onArch fun a => { a with bad := a.bad ++ [(d, b, true)] })

/-- The dies of a superblock, in the order taken at format, skipping failed dies and bad blocks (R498, R510, R883). -/
def sbDies (s : State) (g b : Nat) : List Nat := ((groupsOf s).getD g []).filter fun d => dieGood s d && !blockBad s d b

/-- Superblocks that hold pages or are open. -/
def usedSbs (s : State) : List (Nat × Nat) :=
  ((s.arch.pages.map fun p => (p.group, p.blk)) ++ s.arch.opens.map (fun o => (o.2.group, o.2.blk))).eraseDups

/-- All superblocks. -/
def totalSbs (s : State) : Nat := (groupsOf s).length * s.arch.blocks

/-- Erased superblocks (R529). -/
def freeSbs (s : State) : Nat := totalSbs s - (usedSbs s).length

/-- The reserve: 1 %, and at least 4 superblocks (R529). -/
def reserveSbs (s : State) : Nat := max 4 (totalSbs s / 100)

/-- The level of R529: 0 GC1, 1 GC2, 2 GC3, 3 GC4. -/
def gcLevel (s : State) : Nat :=
  let f := freeSbs s
  if f ≤ reserveSbs s then 3
  else if f * 100 < s.cfg.act.arch.lowWm * totalSbs s then 2
  else if f * 100 < s.cfg.act.arch.highWm * totalSbs s then 1
  else 0

/-- Good raw pages less parity pages: the pages that data may take (R516). -/
def dataPages (s : State) : Nat :=
  let good := ((groupsOf s).map fun g => (g.filter (dieGood s)).length * s.arch.blocks).foldl (· + ·) 0
  let bad := (s.arch.bad.filter fun x => (groupsOf s).any (·.contains x.1) && dieGood s x.1).length
  (good - bad - totalSbs s) * s.arch.pagesPerBlock

/-- Pages of LA1 (R516). -/
def sysPages : Nat := 524288

/-- First LPN of LA3 (R516). -/
def recFirst (s : State) : Nat := sysPages + ((s.arch.format.map (·.hostPages)).getD 0)

/-- Pages of LA3 (R516). -/
def recPages (s : State) : Nat := (s.arch.format.map (·.recPages)).getD 0

/-- Spare pages left (AS9, AH5). -/
def spareNow (s : State) : Nat := dataPages s - (recFirst s + recPages s)

/-! ### The page map -/

/-- The page that an LPN is mapped to (R503). -/
def pageOfLpn (s : State) (lpn : Nat) : Option PhysPage :=
  match tfind s.arch.map lpn with
  | some q => s.arch.pages.find? fun p => p.seq == q
  | none => none

/-- Whether a page holds the current contents of its LPN. -/
def validPage (s : State) (p : PhysPage) : Bool := tfind s.arch.map p.lpn == some p.seq

/-- Valid pages of a superblock. -/
def validIn (s : State) (g b : Nat) : List PhysPage := s.arch.pages.filter fun p => p.group == g && p.blk == b && validPage s p

/-! ### Placing pages (R510, R883) -/

/-- Counts a queued page in AH19: records, host, relocation. A system write is counted when its page is durable (R512, R536). -/
def countQueued (p : PhysPage) (l : List Nat) : List Nat :=
  if p.flags.testBit 1 then bumpAt l 2
  else match p.stream with
    | .records => bumpAt l 0
    | .host => bumpAt l 1
    | .relocation => bumpAt l 2
    | .system | .systemB => l

/-- The open superblock of a stream, or an erased one opened for it: the first by block, then by group (log entry 20), outside the group
`away` where the device has more than one (R519); its stripe takes a number. -/
def openSb (st : Stream) (away : Option Nat) (s : State) : Option (OpenSb × State) :=
  match s.arch.opens.find? (fun o => o.1 == st) with
  | some o => some (o.2, s)
  | none =>
    let used := usedSbs s
    let ok := fun (q : Nat × Nat) => !used.contains q && 2 ≤ (sbDies s q.1 q.2).length && ((groupsOf s).length ≤ 1 || away != some q.1)
    let ng := (groupsOf s).length
    match (List.range s.arch.blocks).findSome? (fun b => (List.range ng).findSome? fun g => if ok (g, b) then some (g, b) else none) with
    | none => none
    | some (g, b) =>
      let o : OpenSb := { group := g, blk := b, page := 0, pos := 0, stripe := s.arch.nextStripe }
      some (o, s.onArch fun a => { a with opens := a.opens ++ [(st, o)], nextStripe := w32 (a.nextStripe + 1) })

/-- Replaces or closes a stream's open superblock. -/
def setOpen (st : Stream) (o : Option OpenSb) (s : State) : State :=
  s.onArch fun a =>
    let rest := a.opens.filter fun q => q.1 != st
    { a with opens := match o with
        | some x => rest ++ [(st, x)]
        | none => rest }

/-- Queues one page at its die; it takes the next SEQ. -/
def queuePage (p : PhysPage) (s : State) : State :=
  s.onArch fun a =>
    { a with pages := a.pages ++ [{ p with seq := a.nextSeq }]
             queues := tput a.queues p.die (tget a.queues p.die [] ++ [a.nextSeq])
             nextSeq := a.nextSeq + 1
             written := countQueued p a.written }

/-- The page index that follows the wordline of page `p`. -/
def nextWordline (s : State) (p : Nat) : Nat := (p / max 1 s.arch.wlPages + 1) * max 1 s.arch.wlPages

/-- The stream goes on at a page index with a new stripe, or closes its superblock when that was the last (R883). -/
def nextStripe (st : Stream) (o : OpenSb) (page : Nat) (s : State) : State :=
  if page < s.arch.pagesPerBlock then
    (setOpen st (some { o with page := page, pos := 0, stripe := s.arch.nextStripe }) s).onArch
      fun a => { a with nextStripe := w32 (a.nextStripe + 1) }
  else setOpen st none s

/-- Queues the parity page after the last data page (R511, R883). -/
def queueParity (st : Stream) (o : OpenSb) (die : Nat) (s : State) : State :=
  queuePage { die := die, blk := o.blk, page := o.page, ns := 3, stripe := o.stripe, pos := o.pos, group := o.group, fill := o.pos
              data := .parity, stream := st } s

/-- Padding pages to the end of the wordline on every die that holds a page of it (R524, R883). -/
def padWordline (st : Stream) (o : OpenSb) (s : State) : State :=
  let w := max 1 s.arch.wlPages
  let lo := o.page / w * w
  let here := fun (s : State) (d p : Nat) => s.arch.pages.any fun x => x.die == d && x.blk == o.blk && x.page == p
  (sbDies s o.group o.blk).foldl (fun s d =>
    if (List.range w).any (fun k => here s d (lo + k)) then
      (List.range w).foldl (fun s k =>
        if here s d (lo + k) || s.arch.pagesPerBlock ≤ lo + k then s
        else queuePage { die := d, blk := o.blk, page := lo + k, ns := 4, stripe := o.stripe, group := o.group, stream := st } s) s
    else s) s

/-- A flush: parity closes the stripe, padding fills the rest of the wordline on each die concerned, and the next page starts a
new stripe (R524, R883). -/
def flushStripe (st : Stream) (s : State) : State :=
  match s.arch.opens.find? (fun o => o.1 == st) with
  | none => s
  | some (_, o) =>
    let dies := sbDies s o.group o.blk
    if o.pos = 0 then
      if o.page % max 1 s.arch.wlPages = 0 then s
      else nextStripe st o (nextWordline s o.page) (padWordline st o s)
    else nextStripe st o (nextWordline s o.page) (padWordline st o (queueParity st o (dies.getD o.pos 0) s))

/-- A stream leaves a superblock of the group `away`: its stripe is closed, and the next page opens another superblock (R519). -/
def leaveGroup (st : Stream) (away : Option Nat) (s : State) : State :=
  match s.arch.opens.find? (fun o => o.1 == st) with
  | some o => if away == some o.2.group && 1 < (groupsOf s).length then setOpen st none (flushStripe st s) else s
  | none => s

/-- Queues a data page on its stream at the next position; a stripe that becomes full is closed by its parity page. Answers the
SEQ; none when no erased superblock is left. The map takes the page at once. A system page keeps away from the group of its other
copy (R519). -/
def program (p : PhysPage) (away : Option Nat) (s : State) : Option (Nat × State) :=
  match openSb p.stream away (leaveGroup p.stream away s) with
  | none => none
  | some (o, s) =>
    let dies := sbDies s o.group o.blk
    let seq := s.arch.nextSeq
    let s := queuePage { p with die := dies.getD o.pos 0, blk := o.blk, page := o.page, stripe := o.stripe, pos := o.pos
                                group := o.group, programmed := false, durable := false, lost := false } s
    let s := s.onArch fun a => { a with map := tput a.map p.lpn seq }
    let o := { o with pos := o.pos + 1 }
    if o.pos + 1 < dies.length then some (seq, setOpen p.stream (some o) s)
    else some (seq, nextStripe p.stream o (o.page + 1) (queueParity p.stream o (dies.getD o.pos 0) s))

/-! ### The system namespace (R518–R520) -/

/-- Pages of one copy: copy A at LPN 0, copy B after it (R518). -/
def copyPages : Nat := 262144

/-- First page offsets of the regions within a copy (R518). -/
def contextRegion : Nat := 2048
def balanceRegion : Nat := 34816
def eventRegion : Nat := 73728
def fleetRegion : Nat := 77824
/-- The parts FR2 and FR4 of SR4 (R582). -/
def definitionsPage : Nat := fleetRegion + 17408
def countersPage : Nat := fleetRegion + 31808
def metersRegion : Nat := 131072

/-- The other copy of a system page. -/
def otherCopy (lpn : Nat) : Nat := if lpn < copyPages then lpn + copyPages else lpn - copyPages

/-- The group that holds the other copy of a system page. -/
def groupOfOther (s : State) (lpn : Nat) : Option Nat := (pageOfLpn s (otherCopy lpn)).map (·.group)

/-- The stream of a system page by its copy (R510, R519). -/
def sysStream (lpn : Nat) : Stream := if lpn < copyPages then .system else .systemB

/-- PFLAGS of a system page: a trim page carries bit 2 (R500). -/
def sysFlags : SysData → Nat
  | .trims _ => 4
  | _ => 0

/-- Writes one copy of a system page and closes its stripe (R512, R519). -/
def writeCopy (lpn : Nat) (d : SysData) (relocated : Bool) (away : Option Nat) (s : State) : Option (Nat × State) :=
  let flags := sysFlags d ||| (if relocated then 2 else 0)
  match program { lpn := lpn, ns := 2, flags := flags, data := .system d, stream := sysStream lpn } away s with
  | some (q, s) => some (q, flushStripe (sysStream lpn) s)
  | none => none

/-- Writes a system page: copy A now, outside the group that copies B are filling; copy B once copy A is durable (R519, R520). -/
def writeSystem (off : Nat) (d : SysData) (s : State) : Option (Nat × State) :=
  let away := (s.arch.opens.find? (fun o => o.1 == .systemB)).map (·.2.group)
  match writeCopy off d false away s with
  | some (q, s) => some (q, s.onArch fun a => { a with copyB := (a.copyB.filter fun c => c.2 != off) ++ [(q, off)] })
  | none => none

/-- Whether a system page with these contents is on its way to NAND. -/
def beingWritten (s : State) (off : Nat) (d : SysData) : Bool :=
  match pageOfLpn s off with
  | some p => !p.durable && p.data == .system d
  | none => false

/-- What a system page held on a NAND page, none where it is lost or its data do not verify (R514, R519). -/
def copyData (unverified : List Nat) (p : PhysPage) : Option SysData :=
  match p.data with
  | .system d => if p.lost || unverified.contains p.lpn then none else some d
  | _ => none

/-- A system page at a start: the copy with the newer SEQ whose data verify, and otherwise the other copy (R519). -/
def readSystem (unverified : List Nat) (off : Nat) (s : State) : Option SysData :=
  let a := pageOfLpn s off
  let b := pageOfLpn s (off + copyPages)
  let get := fun (p : Option PhysPage) => p.bind (copyData unverified)
  let newerB := decide ((a.map (·.seq)).getD 0 < (b.map (·.seq)).getD 0)
  if a.isNone || (b.isSome && newerB) then (get b).or (get a) else (get a).or (get b)

/-- Page offsets of a region of which some copy is mapped. -/
def offsetsIn (first count : Nat) (s : State) : List Nat :=
  ((s.arch.map.map fun p => if copyPages ≤ p.1 then p.1 - copyPages else p.1).filter
    fun o => first ≤ o && o < first + count).eraseDups

/-- What a region holds at a start, page by page. -/
def readRegion (unverified : List Nat) (first count : Nat) (s : State) : List SysData :=
  (offsetsIn first count s).filterMap fun o => readSystem unverified o s

/-- SR0: the journal's format record, bad-block table and die states are written (R498, R518, R542). -/
def writeJournal (s : State) : State :=
  match s.arch.format with
  | none => s
  | some f =>
    match writeSystem 0 (.journal f s.arch.bad (s.arch.dies.map fun d => (d.1, d.2.state))) s with
    | some (_, s) => s
    | none => s

/-- The page offset at which a further trim page stands: a free one of the journal, else its last (log entry 450). -/
def trimSlot (s : State) : Nat :=
  ((List.range 2046).map (· + 1)).find? (fun o => !(s.arch.trims.any fun t => t.1 == o)) |>.getD 2047

/-- Unmaps ranges of LPNs and writes them on a trim page of the journal, whose SEQ they take (R500, R506, R522). Answers the SEQ of the
page. -/
def trimRanges (l : List (Nat × Nat)) (s : State) : Option Nat × State :=
  let off := trimSlot s
  let s := s.onArch fun a => { a with map := a.map.filter fun p => !(l.any fun r => r.1 ≤ p.1 && p.1 < r.1 + r.2) }
  let seq := s.arch.nextSeq
  let here := (s.arch.trims.filter fun t => t.1 == off).map (·.2) ++ l.map fun r => (seq, r)
  let s := s.onArch fun a => { a with trims := a.trims ++ l.map fun r => (off, seq, r) }
  match writeSystem off (.trims here) s with
  | some (q, s) => (some q, s)
  | none => (none, s)

/-- Drops trim ranges whose every trimmed page has been erased; a trim page none of whose ranges is left is valid no more (R520). -/
def pruneTrims (s : State) : State :=
  let live := fun (t : Nat × Nat × Nat × Nat) => s.arch.pages.any fun p => p.seq < t.2.1 && t.2.2.1 ≤ p.lpn && p.lpn < t.2.2.1 + t.2.2.2
  let keep := s.arch.trims.filter live
  let gone := (s.arch.trims.map (·.1)).filter fun o => !(keep.any fun t => t.1 == o)
  s.onArch fun a =>
    { a with trims := keep, map := a.map.filter fun p => !(gone.contains p.1 || (copyPages ≤ p.1 && gone.contains (p.1 - copyPages))) }

end Sys2Proof.Machine
end

