-- ==== Sys2Proof/Machine/Ctx.lean ====
section
/-! DEFINITION. Meter contexts: the table, the session cache, the context store, and the ingest staging area ("Meter sessions and
the ingest pipeline"). -/

namespace Sys2Proof.Machine

open Host (Outcome)

/-- One cycle of the mains in pt. -/
def mc : Nat := 65536

/-- The context of a meter; none while it is free (R372). -/
def ctxOf (s : State) (m : Nat) : Option MeterCtx := tfind s.sess.ctxs m

/-- Whether a meter's session ends at a parent: a field unit forwards every session while its base image names a parent, and else ends them
all itself; a unit in the aggregation role goes by CFLAGS bit 5 (R9, R10, R379). -/
def sessionAtParent (s : State) (c : MeterCtx) : Bool :=
  if s.cfg.startCfg.role == some .field then s.cfg.act.parent else c.atParent

/-- Entries of a table that share a page of 32 with an index. -/
def pageMates {α : Type} (l : List (Nat × α)) (m : Nat) : List (Nat × α) := l.filter fun p => p.1 / 32 == m / 32

/-- Writes a system page unless these contents are on their way. -/
def storePage (off : Nat) (d : SysData) (s : State) : State :=
  if beingWritten s off d then s
  else match writeSystem off d s with
    | some (_, s) => s
    | none => s

/-- Writes a context to the store, with its validation state: the pages of SR1 and SR6 that hold the entry go to NAND while the archive works;
the store has the change once its page is durable (R375, R422, R512, R518). -/
def writeBack (m : Nat) (s : State) : State :=
  if archWorks s then
    storePage (metersRegion + m / 32) (.meters (pageMates s.vee.meters m))
      (storePage (contextRegion + m / 32) (.contexts (pageMates s.sess.ctxs m)) s)
  else s

/-- The ledger's account blocks that share a page of FR0 with an account (R582). -/
def accountMates (s : State) (a : Nat) : List (Nat × Account) := s.fleet.ledger.filter fun p => p.1 / 64 == a / 64

/-- Writes an account's block, and its page of FR0 while the archive works (R582, R596). -/
def writeAccount (a : Nat) (b : Account) (s : State) : State :=
  let s := s.onFleet fun f => { f with ledger := tput f.ledger a b }
  if archWorks s then storePage (fleetRegion + a / 64) (.accounts (accountMates s a)) s else s

/-- A slot's broadcast counter goes to FR4 (R605). -/
def saveCounter (slot v : Nat) (s : State) : State :=
  let s := s.onFleet fun b => { b with bcastSaved := tput b.bcastSaved slot v }
  if archWorks s then storePage countersPage (.counters s.fleet.bcastSaved) s else s

/-- Writes a slot's broadcast counter; the first and every 4,096th go to FR4 (R605). -/
def writeCounter (slot v : Nat) (s : State) : State :=
  let s := s.onFleet fun b => { b with bcast := tput b.bcast slot v }
  match tfind s.fleet.bcastSaved slot with
  | some w => if v < w + 4096 then s else saveCounter slot v s
  | none => saveCounter slot v s

/-- The dirty entry whose change is oldest. -/
def oldestDirty (l : List (Nat × Nat)) : Option Nat :=
  (l.foldl (fun acc p => match acc with
    | none => some p
    | some q => if p.2 < q.2 then some p else some q) none).map (·.1)

/-- Marks a context changed; beyond 4,096 such entries the oldest is written back first (R375). -/
def touch (m : Nat) (s : State) : State :=
  if (tfind s.sess.dirty m).isSome then s
  else
    let s := if 4096 ≤ s.sess.dirty.length then (match oldestDirty s.sess.dirty with
      | some k => writeBack k s
      | none => s) else s
    s.onSess fun b => { b with dirty := tput b.dirty m s.key }

/-- Changes a context that is not free; the change is marked for the store and mirrored (R375, R736). -/
def onCtx (m : Nat) (f : MeterCtx → MeterCtx) (s : State) : State :=
  match ctxOf s m with
  | none => s
  | some c =>
    if f c = c then s
    else mirror (.ctx m (some (f c))) (touch m (s.onSess fun b => { b with ctxs := tput b.ctxs m (f c) }))

/-- Whether an APDU of a meter is in flight past IG3. -/
def inFlight (s : State) (m : Nat) : Bool :=
  (s.sess.q3 ++ s.sess.q3Held).any (fun p => p.meter == m) || s.sess.sigWait.any (fun w => w.meter == m)

/-- A lookup takes the hot part into the session cache; beyond 16,384 the least recently used entry without an APDU in flight
leaves (R374). -/
def takeHot (m : Nat) (s : State) : State :=
  let l := m :: s.sess.hot.filter (· != m)
  let l := if 16384 < l.length then (match l.reverse.find? (fun k => !inFlight s k) with
    | some k => l.filter (· != k)
    | none => l) else l
  s.onSess fun b => { b with hot := l }

/-- A member of a push or campaign whose context goes: its end stays with the push or campaign (R590, R608). -/
def leaveFleet (m : Nat) (s : State) : State :=
  match ctxOf s m with
  | none => s
  | some c =>
    let pe := if c.pushState = 4 || c.pushState = 5 || c.pushState = 8 then c.pushState else 6
    let ce := if c.campState = 6 then 6 else 7
    s.onFleet fun b =>
      { b with
        pushes := b.pushes.map fun q => if q.1 = c.pushId then (q.1, { q.2 with ended := q.2.ended ++ [(m, pe)] }) else q
        camps := b.camps.map fun q =>
          if q.1 = c.campSlot then (q.1, { q.2 with ended := q.2.ended ++ [(m, ce)], bitmaps := tdel q.2.bitmaps m }) else q }

/-- Frees a context (R408, MS3) and its channel slots (R420): its neighbour entry names no meter any more. -/
def freeCtx (m : Nat) (s : State) : State :=
  let s := touch m (leaveFleet m s)
  let s := mirror (.ctx m none) (s.onSess fun b => { b with ctxs := tdel b.ctxs m, hot := b.hot.filter (· != m) })
  let s := s.onVee fun v => { v with meters := tdel v.meters m }
  s.onLink fun l => { l with nbrs := l.nbrs.map fun p => if p.2.meter = m then (p.1, { p.2 with meter := 0xFFFFFFFF }) else p }

/-! ### Messages to children (R552, R556) -/

/-- A named child. -/
def childOf (s : State) (c : Nat) : Option Child := tfind s.upl.children c

/-- Changes a named child. -/
def onChild (c : Nat) (f : Child → Child) (s : State) : State :=
  match childOf s c with
  | some x => s.onUpl fun u => { u with children := tput u.children c (f x) }
  | none => s

/-- Sends a message to a connected child, under the next MSG_SEQ of its connection (R552). -/
def sendChild (c : Nat) (m : DnMsg) (s : State) : State :=
  match (childOf s c).bind (·.conn) with
  | none => s
  | some n =>
    (onChild c (fun x => { x with conn := some { n with sendSeq := inc32 n.sendSeq, lastTx := s.rc } }) s).onUpl
      fun u => { u with dnOut := u.dnOut ++ [(c, n.sendSeq, m)] }

/-- The messages at the front of a child's list whose records are all committed: the last of them, and the rest. -/
def readyAcks (uncommitted : List Nat) : List (Nat × Nat) → Option Nat × List (Nat × Nat)
  | [] => (none, [])
  | (m, p) :: l =>
    if uncommitted.all (p ≤ ·) then
      match readyAcks uncommitted l with
      | (none, r) => (some m, r)
      | (some k, r) => (some k, r)
    else (none, (m, p) :: l)

/-- Acknowledges what a child has sent and is committed or staged (R556). -/
def ackChild (c : Nat) (s : State) : State :=
  match childOf s c with
  | none => s
  | some x =>
    match x.conn with
    | none => s
    | some n =>
      match readyAcks x.uncommitted n.waiting with
      | (none, _) => s
      | (some m, rest) =>
        sendChild c (.ack m x.nextPos) (onChild c (fun x => { x with conn := some { n with waiting := rest } }) s)

/-! ### Messages toward the upstream (R552) -/

/-- Sends a message upstream, under the next MSG_SEQ of the connection (R552). -/
def sendUp (m : UpMsg) (s : State) : State :=
  match s.upl.conn with
  | none => s
  | some c =>
    s.onUpl fun u => { u with conn := some { c with sendSeq := inc32 c.sendSeq, lastTx := s.rc }, upOut := u.upOut ++ [(c.sendSeq, m)] }

/-- Answers a DOWN of the parent, if the connection to it stands (R562). -/
def answerDown (tag outcome : Nat) (s : State) : State :=
  let s := s.onUpl fun u => { u with downs := u.downs.filter fun d => d.body.tag != tag }
  if ((s.upl.conn.map (·.up)).getD false) && s.cfg.act.parent then sendUp (.downResult tag outcome) s else s

/-- The frame of a multicast DOWN has been sent, or its entry dropped (R603). -/
def multicastEnd (id outcome : Nat) (s : State) : State :=
  match s.upl.downs.find? (fun d => d.frame == some id) with
  | some d => answerDown d.body.tag outcome s
  | none => s

/-! ### Staging (R402) -/

/-- Slots of a frame. -/
def slotsOf (length : Nat) : Nat := (32 + length + 511) / 512

/-- Slots in use: frames from IG2 until IG6 finishes with them, and forwarded frames until the parent has acknowledged them
(R402, R558). -/
def stagingUsed (s : State) : Nat :=
  let f := fun (a : Nat) (e : Q2Entry) => a + slotsOf e.length
  let sent : List Q2Entry := match s.upl.conn with
    | some c => c.unacked.flatMap Unacked.entries
    | none => []
  let b := s.sess
  (((b.q3 ++ b.q3Held).map (·.entry)) ++ b.sigWait.map (·.entry) ++ b.q2 ++ b.q2Held ++ b.unpackWait ++ b.behind ++ b.forward
    ++ sent).foldl f 0

/-- Slots in all. -/
def stagingSlots (s : State) : Nat := s.cfg.startCfg.stagingMib * 2048

/-- CREDIT that the unit grants its children (R560). -/
def creditOf (s : State) : Nat := if s.sess.pressure then 0 else 64

/-- Sends CREDIT to the connected children whose last one differs (R560). -/
def grantCredit (s : State) : State :=
  s.upl.children.foldl (fun s k =>
    match k.2.conn with
    | some n =>
      if n.credit = creditOf s then s
      else sendChild k.1 (.credit (creditOf s)) (onChild k.1 (fun x => { x with conn := some { n with credit := creditOf s } }) s)
    | none => s) s

/-- BP2 begins at 75 % and ends below 50 %; the children's credit follows (R402, R560). -/
def refreshPressure (s : State) : State :=
  let u := stagingUsed s
  let n := stagingSlots s
  let p := if n * 75 ≤ u * 100 then true else if u * 100 < n * 50 then false else s.sess.pressure
  if p = s.sess.pressure then s else grantCredit (s.onSess fun b => { b with pressure := p })

/-- Whether a frame finds no room (BP3). -/
def stagingFull (s : State) (length : Nat) : Bool := stagingSlots s < stagingUsed s + slotsOf length

/-- A new frame at the edge: whether it is discarded under BP2 or BP3, with the counts (R402). -/
def stagingRefuses (length : Nat) (ackReq : Bool) (s : State) : Option State :=
  if stagingFull s length then
    some (setSticky 0x058 0x400 (s.onSess fun b => { b with stageFull := inc32 b.stageFull }))
  else if s.sess.pressure && ackReq then some (s.onSess fun b => { b with pressDiscard := inc32 b.pressDiscard })
  else none

/-- Pushes an entry onto Q2, its frame in staging, and counts it; one that Q2 refuses waits in staging (R49, R370, R403, CN1). -/
def pushQ2 (e : Q2Entry) (s : State) : State :=
  let s := (countPush 2 s.sess.q2 s.sess.q2Held s).onSess fun b =>
    let (ring, held) := pushOrHold (Config.ringDepth 2) b.q2 b.q2Held { e with slot := b.stagePtr }
    { b with q2 := ring, q2Held := held
             stagePtr := (b.stagePtr + slotsOf e.length) % max 1 (s.cfg.startCfg.stagingMib * 2048) }
  refreshPressure (s.onHosts fun h => { h with framesIn := inc32 h.framesIn })

end Sys2Proof.Machine
end

