-- ==== Sys2Proof/Machine/Link.lean ====
section
/-! DEFINITION. The link layer: neighbours, the duplicate window, timing, check-ins, downlink frames ("Link layer: neighbours,
rendezvous and duplicates"). -/

namespace Sys2Proof.Machine

open Host (Outcome)

/-! ### Neighbours -/

/-- A link profile in force (R301). -/
def linkProfile (s : State) (n : Nat) : LinkProfile := tget s.cfg.act.linkProfiles n {}

/-- Changes a neighbour entry. -/
def onNbr (n : Nat) (f : Nbr → Nbr) (s : State) : State :=
  s.onLink fun l => { l with nbrs := match tfind l.nbrs n with
    | some e => tput l.nbrs n (f e)
    | none => l.nbrs }

/-- A neighbour entry; an empty one reads as reset (R304). -/
def nbrOf (s : State) (n : Nat) : Nbr := tget s.link.nbrs n {}

/-- The entry of an address. -/
def nbrByAddr (s : State) (addr : Nat) : Option Nat := (s.link.nbrs.find? fun p => p.2.addr == addr).map (·.1)

/-- The entry whose meter this is. -/
def nbrOfMeter (s : State) (m : Nat) : Option Nat := (s.link.nbrs.find? fun p => p.2.meter == m).map (·.1)

/-- What an entry takes from a context (R308). -/
def nbrFromCtx (m : Nat) (c : MeterCtx) (e : Nbr) : Nbr :=
  { e with addr := c.addr, kind := c.kind, wakeAddr := c.wakeAddr, meter := m, profile := c.linkProfile, pinned := c.pinned
           wur := c.wur }

/-- Whether an entry may be evicted (R305). -/
def evictable (s : State) (e : Nbr) : Bool :=
  !e.pinned && (match ctxOf s e.meter with
    | none => true
    | some c => c.state == .unknown || c.state == .lost || c.state == .retired)

/-- The first empty index. -/
def firstEmpty (l : List (Nat × Nbr)) : Option Nat :=
  if l.length < 8192 then some (l.foldl (fun k p => if p.1 = k then k + 1 else k) 0) else none

/-- The evictable entry with the oldest LAST_KEY. -/
def evictee (s : State) : Option Nat :=
  ((s.link.nbrs.filter fun p => evictable s p.2).foldl (fun acc p => match acc with
    | none => some p
    | some q => if p.2.lastKey < q.2.lastKey then some p else some q) (none : Option (Nat × Nbr))).map (·.1)

/-- An entry for an address: the one that it has, else a new one, in the first empty place or by eviction (R305). A context that
holds the address gives its fields. -/
def allotNbr (addr kind : Nat) (s : State) : Option (Nat × State) :=
  match nbrByAddr s addr with
  | some n => some (n, s)
  | none =>
    let e : Nbr := { addr := addr, kind := kind }
    let e := match s.sess.ctxs.find? (fun p => p.2.addr == addr && p.2.direct) with
      | some (m, c) => { nbrFromCtx m c e with kind := kind }
      | none => e
    match firstEmpty s.link.nbrs with
    | some n => some (n, s.onLink fun l => { l with nbrs := tput l.nbrs n e })
    | none =>
      match evictee s with
      | some n =>
        let s := s.onLink fun l => { l with nbrs := tput l.nbrs n e, evictions := inc32 l.evictions }
        some (n, setSticky 0x050 0x8000 s)
      | none => none

/-- At a start, and when a unit becomes active, the table is filled from the contexts that record a direct neighbour; FLAGS but the pin are
cleared (R308). -/
def fillNeighbours (s : State) : State :=
  let s := s.onLink fun l => { l with nbrs := [] }
  s.sess.ctxs.foldl (fun s p =>
    if p.2.direct && p.2.state != .unknown then
      match allotNbr p.2.addr p.2.kind s with
      | some (n, s) => onNbr n (fun e => { nbrFromCtx p.1 p.2 e with wur := false }) s
      | none => s
    else s) s

/-! ### The duplicate window (R310) -/

/-- How a sequence number is classed, SQ1–SQ5. -/
inductive SeqClass
  | restart | new (d : Nat) | late (d : Nat) | duplicate | replay
deriving DecidableEq, Repr

/-- The class of a sequence number at a key (R310). -/
def seqClass (p : LinkProfile) (e : Nbr) (seq key : Nat) : SeqClass :=
  if !e.winValid || p.seqResetMc * mc < key - e.lastKey then .restart
  else
    let d := (seq + 256 - e.seqHi) % 256
    if d = 0 then (if e.seqMap.getLsbD 0 then .duplicate else .late 0)
    else if d < 128 then .new d
    else
      let b := 256 - d
      if b ≤ 63 then (if e.seqMap.getLsbD b then .duplicate else .late b) else .replay

/-- The window after a frame of a class (R310). -/
def seqTake (c : SeqClass) (seq : Nat) (e : Nbr) : Nbr :=
  match c with
  | .restart => { e with seqHi := seq, seqMap := 1, winValid := true }
  | .new d => { e with seqMap := (e.seqMap <<< d) ||| 1, seqHi := seq }
  | .late b => { e with seqMap := e.seqMap ||| BitVec.ofNat 64 (2 ^ b) }
  | .duplicate | .replay => e

/-! ### Timing (R318–R320) -/

/-- The rate-corrected instant of a key near the present, at the predicted cycle length. -/
def rcOfKey (s : State) (k : Nat) : Nat :=
  if s.key ≤ k then s.rc + (k - s.key) * cycleLen s / mc else s.rc - (s.key - k) * cycleLen s / mc

/-- The ceiling of the listen guard in 2⁻³² ns (R319). -/
def guardCap (s : State) (p : LinkProfile) : Nat := min (ofUs p.guardCapUs) (p.checkinMc * cycleLen s / 2)

/-- The listen guard in 2⁻³² ns of a meter at a key (R319, R327). -/
def guardRc (s : State) (p : LinkProfile) (st : MeterState) (nbr : Option Nbr) (k : Nat) : Nat :=
  let cap := guardCap s p
  if s.cfg.startCfg.role == some .aggregation then ofUs p.guardCapUs
  else
    match nbr with
    | none => cap
    | some e =>
      if st == .drifting || st == .lost || !e.synced then cap
      else min cap (ofUs p.baseGuardUs + (2 * p.driftPpm * (rcOfKey s k - e.lastRc) + 999999) / 1000000)

/-- The listen guard in pt, rounded up (R319); one kept over a profile change stands (R335). -/
def guardPt (s : State) (p : LinkProfile) (st : MeterState) (nbr : Option Nbr) (k : Nat) : Nat :=
  match nbr.bind (·.heldGuard) with
  | some g => g
  | none => (guardRc s p st nbr k * mc + cycleLen s - 1) / cycleLen s

/-- Whether a key lies in the listen window [next − g, next + g) (R320). -/
def inListen (next g k : Nat) : Bool := next - g ≤ k && k < next + g

/-- The time correction in µs of an arrival against the expectation, saturated at ±2,047 (R313). -/
def timeCorrection (s : State) (next k : Nat) : Int :=
  let d := openDiv (((k : Int) - next) * cycleLen s) (mc * 1000 * nsUnit)
  max (-2047) (min 2047 d)

/-- RATE_PPB after an arrival: weight 1/8 on the rate that the arrival minus NEXT_KEY implies over the elapsed time (R318). -/
def newRate (old : Int) (next last k : Nat) : Int :=
  let implied := openDiv (((k : Int) - next) * 1000000000) (max 1 (k - last))
  old + openDiv (implied - old) 8

/-- Resynchronises a neighbour at an arrival key (R312, R318). -/
def resync (n k : Nat) (s : State) : State :=
  let e := nbrOf s n
  let p := linkProfile s e.profile
  let c := ctxOf s e.meter
  let next := match c with | some c => c.nextKey | none => e.nextKey
  let st := match c with | some c => c.state | none => .unknown
  let g := guardPt s p st (some e) next
  let base := fun (e : Nbr) => { e with lastKey := k, lastRc := rcOfKey s k, synced := true }
  if p.checkinMc = 0 || e.kind = 2 then onNbr n base s
  else if next = 0 then
    let nk := k + p.checkinMc * mc
    onCtx e.meter (fun c => { c with nextKey := nk, prevEnd := k + 1 }) (onNbr n (fun e => { base e with nextKey := nk }) s)
  else if inListen next g k then
    let r := if e.synced then newRate e.ratePpb next e.lastKey k else e.ratePpb
    let trains := if e.synced then min 3 (e.trains + 1) else e.trains
    let nk := (k : Int) + openDiv ((p.checkinMc * mc : Int) * (1000000000 + r)) 1000000000
    let s := onNbr n (fun e =>
      { base e with ratePpb := r, trains := trains, trained := e.trained || 3 ≤ trains, nextKey := nk.toNat, heldGuard := none
                    offsetUs := timeCorrection s next k }) s
    onCtx e.meter (fun c => { c with nextKey := nk.toNat, evalWin := some (c.evalWin.getD (next - g, next + g)) }) s
  else onNbr n base s

/-! ### Contacts and meter states (R321–R326) -/

/-- A contact of a meter (R322): MS2 and MS6. -/
def contact (m k : Nat) (s : State) : State :=
  match ctxOf s m with
  | none => s
  | some c =>
    let p := linkProfile s c.linkProfile
    let act := c.state == .joining || c.state == .drifting || c.state == .lost
    let first := p.checkinMc ≠ 0 && c.nextKey = 0
    let s := onCtx m (fun c =>
      { c with lastContact := k, contacts := c.contacts ++ [k]
               state := if act then .active else c.state
               misses := if act then 0 else c.misses
               nextKey := if first then k + p.checkinMc * mc else c.nextKey
               prevEnd := if first then k + 1 else c.prevEnd }) s
    let s := match nbrOfMeter s m with
      | some n => onNbr n (fun e =>
          { e with misses := if act then 0 else e.misses, nextKey := if first then k + p.checkinMc * mc else e.nextKey }) s
      | none => s
    if c.state == .lost then raise .meterBack srcSup (leBytes 4 m) s else s

/-! ### Downlink frames (R328–R330) -/

/-- The channel centre of a lane in Hz. -/
def laneFreq (s : State) (lane : Nat) : Nat :=
  let l := laneIn s.cfg.act lane
  (((feIn s.cfg.act l.fe).centerHz : Int) + l.offset * 6250).toNat

/-- Reports a downlink frame to its placer (R329). -/
def reportDown (d : Downlink) (ok : Bool) (s : State) : State :=
  let s := if d.origin = 2 then answerDown d.ref (if ok then 0 else 1) s else s
  s.onLink fun l =>
    { l with downs := l.downs.filter (fun x => x.id != d.id), results := l.results ++ [(d.origin, d.ref, ok)]
             nbrs := if l.downs.any (fun x => x.id != d.id && x.nbr == d.nbr) then l.nbrs
               else match tfind l.nbrs d.nbr with
                 | some e => tput l.nbrs d.nbr { e with downPending := false }
                 | none => l.nbrs }

/-- Places a power-line frame as a class 7 entry, its frame on Q8 (R89, R351). -/
def placePlc (key : Nat) (f : TxFrame) (s : State) : Except Status State :=
  if !aheadEnough s key then .error .stale
  else
    match place { cls := 7, sub := 2, action := .plcTx f.id, key := key } s with
    | none => .error .nospace
    | some s =>
      if s.plc.q8.length < Config.ringDepth 8 then .ok (s.onPlc fun p => { p with q8 := p.q8 ++ [f] })
      else .ok (countRefused 8 s)

/-- Places the entry of a downlink frame at a key. -/
def placeDownAt (d : Downlink) (key : Nat) (s : State) : Except Status State :=
  if d.radio then placeRadio d.fe key d.frame s else placePlc key d.frame s

/-- A wake sequence before a downlink to a neighbour with a wake-up receiver, in the field role (R293, R327, R329); one refused is counted. -/
def wakeBefore (n fe key : Nat) (s : State) : State :=
  let e := nbrOf s n
  let p := linkProfile s e.profile
  let w := s.cfg.act.wur
  if e.wur && s.cfg.startCfg.role != some .aggregation then
    match placeWake fe w.freqHz e.wakeAddr p.wakeRepeat p.wakeGapUs key w.fast s with
    | .ok (_, s) => s
    | .error _ => s.onLink fun l => { l with wakeRefused := inc32 l.wakeRefused }
  else s

/-- Places a downlink frame for a neighbour: TX_SEQ is assigned and FLAGS bit 4 set (R328). -/
def placeDownlink (n key origin ref use : Nat) (bytes : List Byte) (s : State) : Except Status State :=
  let e := nbrOf s n
  let l := laneIn s.cfg.act e.lastLane
  let (id, s) := newFrame s
  let f : TxFrame :=
    { id := id, kind := e.kind, addr := e.addr, seq := e.txSeq, phy := l.phy, freqHz := laneFreq s e.lastLane
      widthHz := (phyWidth l.phy).getD 0, airNs := Config.frameAirNs l.phy bytes.length, use := use, meter := e.meter, bytes := bytes }
  let d : Downlink := { id := id, nbr := n, frame := f, radio := e.kind ≠ 2, fe := l.fe, key := key, origin := origin, ref := ref }
  match placeDownAt d key s with
  | .error x => .error x
  | .ok s =>
    let s := onNbr n (fun e => { e with txSeq := (e.txSeq + 1) % 256, downPending := true }) s
    .ok (s.onLink fun l => { l with downs := l.downs ++ [d] })

/-- The next retry of a downlink frame: one that cannot be placed counts as one of MAX_RETRIES; after them the frame is abandoned
(R329, R330). -/
def retryDown : Nat → Downlink → State → State
  | 0, d, s => reportDown d false s
  | fuel + 1, d, s =>
    let p := linkProfile s (nbrOf s d.nbr).profile
    if p.maxRetries ≤ d.retries then reportDown d false s
    else
      let key := d.key + p.retryMc * mc
      let d' := { d with key := key, retries := d.retries + 1, endRc := none }
      match placeDownAt d' key s with
      | .error _ => retryDown fuel d' s
      | .ok s =>
        let s := s.onLink fun l => { l with downs := l.downs.map fun x => if x.id == d.id then d' else x }
        if d.radio then wakeBefore d.nbr d.fe key s else s

/-- An entry of a frame was dropped: an acknowledgement counts as late, a downlink frame goes to its next retry (R315, R330). -/
def frameDropped (id : Nat) (use : Nat) (s : State) : State :=
  if use = 1 then s.onLink fun l => { l with acksLate := inc32 l.acksLate }
  else if use = 3 then multicastEnd id 1 s
  else
    match s.link.downs.find? (fun d => d.id == id) with
    | some d => retryDown 8 d s
    | none => s

/-- A frame cut short: a multicast DOWN is answered as not sent; the acknowledgement wait of a downlink frame begins, so that its retry
follows (R329, R344, R603). -/
def frameCut (f : TxFrame) (s : State) : State :=
  if f.use = 3 then multicastEnd f.id 1 s
  else s.onLink fun l => { l with downs := l.downs.map fun d => if d.id == f.id then { d with endRc := some s.rc } else d }

/-- Hem start abandons every unacknowledged downlink frame; it is reported after the next start (R330). -/
def abandonDowns (s : State) : State := s.link.downs.foldl (fun s d => reportDown d false s) s

/-- An acknowledgement of a downlink frame: from its neighbour, with its number, within ACK_WAIT_PT of its end (R329). -/
def takeAck (addr seq k : Nat) (s : State) : State :=
  let hit := fun (d : Downlink) =>
    let e := nbrOf s d.nbr
    e.addr == addr && d.frame.seq == seq && (match d.endRc with
      | some t => decide ((rcOfKey s k - t) * mc ≤ (linkProfile s e.profile).ackWaitPt * cycleLen s)
      | none => false)
  match s.link.downs.find? hit with
  | some d => reportDown d true s
  | none => s

/-- ACK_WAIT_EXPIRE: no acknowledgement within ACK_WAIT_PT (R329). -/
def execAckWaitExpire (dt id : Nat) (s : State) : Outcome State Fault Refusal :=
  let s := tick dt s
  match s.link.downs.find? (fun d => d.id == id) with
  | some d =>
    match d.endRc with
    | some t =>
      if (linkProfile s (nbrOf s d.nbr).profile).ackWaitPt * cycleLen s < (s.rc - t) * mc then .next (retryDown 8 d s) else .next s
    | none => .next s
  | none => .next s

/-! ### Acknowledgements (R313–R316) -/

/-- The MAC acknowledges a frame: placed at the end of the frame plus ACK_DELAY_PT, or counted as late (R313–R316). -/
def acknowledge (n : Nat) (f : RadioFrame) (s : State) : State :=
  let e := nbrOf s n
  if f.kind = 0 && f.ackReq && !f.dstBroadcast && e.ackCap && f.frameVersion ≤ 2 then
    let p := linkProfile s e.profile
    let fin := f.key + (ofUs f.durationUs * mc + cycleLen s - 1) / cycleLen s
    let (id, s) := newFrame s
    let b := Config.ackBytes f.frameVersion f.seq e.downPending e.offsetUs
    let t : TxFrame :=
      { id := id, kind := 0, addr := e.addr, seq := f.seq, phy := f.phy, freqHz := laneFreq s f.lane
        widthHz := (phyWidth f.phy).getD 0, airNs := Config.frameAirNs f.phy b.length, use := 1, meter := e.meter, bytes := b }
    match placeRadio f.fe (fin + p.ackDelayPt) t s with
    | .ok s => s
    | .error _ => s.onLink fun l => { l with acksLate := inc32 l.acksLate }
  else s

/-! ### Frame acceptance (R309) -/

/-- The Q2 entry of a radio frame (R370, R371). -/
def radioQ2 (s : State) (n : Nat) (unwindowed : Bool) (f : RadioFrame) : Q2Entry :=
  { nbr := n, src := f.lane, unwindowed := unwindowed, virtualMains := f.virtualMains, notUnpacked := !f.unpacked
    security := f.security, fwUnpackable := f.fwUnpackable, apduLen := if f.unpacked then f.apdu.body.length else 0, key := f.key
    entryRc := rcOfKey s f.key, tai := f.tai, length := f.length, apdu := f.apdu, addr := f.addr, bytes := f.bytes }

/-- An accepted frame: the neighbour's last-frame fields and the push onto Q2 (R309, R318). -/
def acceptFrame (n : Nat) (c : SeqClass) (f : RadioFrame) (s : State) : State :=
  let s := resync n f.key s
  let s := onNbr n (fun e =>
    let e := seqTake c f.seq e
    { e with lastLane := f.lane, lastChan := f.chanId, rssi := f.rssi, lqi := (openDiv (7 * (e.lqi : Int) + f.lqi) 8).toNat, accepted := inc32 e.accepted
             recent := (f.crc, f.key, f.lane) :: e.recent.filter (fun r => f.key < r.2.1 + mc) }) s
  let s := s.onLink fun l =>
    { l with accepted := inc32 l.accepted, restarts := if c = .restart then inc32 l.restarts else l.restarts }
  let s := pushQ2 (radioQ2 s n false f) s
  let s := acknowledge n f s
  match ctxOf s (nbrOf s n).meter with
  | some x => if sessionAtParent s x then contact (nbrOf s n).meter f.key s else s
  | none => s

/-- A frame with a neighbour entry: FA5, FA6 and the diversity copies (R309–R312, R402). -/
def judgeFrame (n : Nat) (f : RadioFrame) (s : State) : State :=
  let e := nbrOf s n
  let retired : Bool := match ctxOf s e.meter with | some c => c.state == .retired | none => false
  if retired then s.onLink fun l => { l with retired := inc32 l.retired }
  else if e.recent.any (fun r => r.1 == f.crc && r.2.2 != f.lane && f.key < r.2.1 + mc && r.2.1 < f.key + mc) then
    s.onLink fun l => { l with diversity := inc32 l.diversity }
  else
    match seqClass (linkProfile s e.profile) e f.seq f.key with
    | .replay => (onNbr n (fun e => { e with replays := w16 (e.replays + 1) }) s).onLink fun l => { l with replays := inc32 l.replays }
    | .duplicate =>
      let s := resync n f.key s
      let s := (onNbr n (fun e => { e with duplicates := w16 (e.duplicates + 1) }) s).onLink fun l => { l with duplicates := inc32 l.duplicates }
      acknowledge n f s
    | c =>
      match stagingRefuses f.length f.ackReq s with
      | some s => s
      | none => acceptFrame n c f s

/-- A frame delivered unwindowed because no entry can be freed (R306). -/
def deliverUnwindowed (f : RadioFrame) (s : State) : State :=
  let s := setSticky 0x050 0x4000 s
  let s := if s.link.fullSeen then s
    else raise .nbrFull (0x40 + f.fe) [] (s.onLink fun l => { l with fullSeen := true })
  match stagingRefuses f.length f.ackReq s with
  | some s => s
  | none => pushQ2 (radioQ2 s 0xFFFF true f) (s.onLink fun l => { l with unwindowed := inc32 l.unwindowed })

/-- One frame from Q0 through FA1–FA6. `ackCap` is FLAGS bit 5 as firmware has set it for the neighbour (log entry 14). -/
def macFrame (ackCap : Bool) (f : RadioFrame) (s : State) : State :=
  if !f.fcsOk then s.onLink fun l => { l with bad := inc32 l.bad }
  else if f.modeSwitch then s.onLink fun l => { l with modeSwitch := inc32 l.modeSwitch }
  else if !addressed s f then s.onLink fun l => { l with filtered := inc32 l.filtered }
  else if f.isAck then takeAck f.addr f.seq f.key s
  else
    match allotNbr f.addr f.kind s with
    | none => deliverUnwindowed f s
    | some (n, s) => judgeFrame n f (onNbr n (fun e => { e with ackCap := ackCap }) s)

/-- MAC_FRAME_ACCEPT: a radio MAC takes the next frame from Q0; while Q2 has no room it stalls (R309, R403). -/
def execMacFrameAccept (dt : Nat) (ackCap : Bool) (s : State) : Outcome State Fault Refusal :=
  let s := tick dt s
  match s.rad.q0 with
  | f :: rest =>
    if radioOn s then .next (macFrame ackCap f (s.onRad fun r => { r with q0 := rest }))
    else .next s
  | [] => .next s

/-! ### Check-ins (R321–R325) -/

/-- Whether the unit could not hear the meter during a window that began at a key (R325). -/
def deafDuring (s : State) (nbr : Option Nbr) (from_ : Nat) : Bool :=
  from_ < s.link.startKey || !stageAlive s || s.pwr.state == .hold ||
    (match nbr with
      | none => false
      | some e =>
        e.kind ≠ 2 &&
          (let l := laneIn s.cfg.act e.lastLane
           !l.enable || from_ < tget s.rad.laneDeaf e.lastLane 0 || !feOn s l.fe || !(feSt s l.fe).ready || from_ < (feSt s l.fe).deafEnd))

/-- A wake sequence for the expected check-in of a Drifting direct neighbour (R324). -/
def wakeForCheckin (m : Nat) (s : State) : State :=
  match ctxOf s m, nbrOfMeter s m with
  | some c, some n =>
    let e := nbrOf s n
    if c.state == .drifting && c.direct && e.wur then
      let p := linkProfile s c.linkProfile
      let g := guardPt s p c.state (some e) c.nextKey
      wakeBefore n (laneIn s.cfg.act e.lastLane).fe (c.nextKey - g) s
    else s
  | _, _ => s

/-- CHECKIN_EVALUATE: 2 mc after its listen window ends an expected check-in is met, missed or neither, and the meter changes state
(R321–R326; MS4, MS5). -/
def execCheckinEvaluate (dt meter : Nat) (s : State) : Outcome State Fault Refusal :=
  let s := tick dt s
  match ctxOf s meter with
  | none => .next s
  | some c =>
    let p := linkProfile s c.linkProfile
    let n := nbrOfMeter s meter
    let e := n.map (nbrOf s)
    let g := guardPt s p c.state e c.nextKey
    let win := c.evalWin.getD (c.nextKey - g, c.nextKey + g)
    let live := c.state == .active || c.state == .drifting || c.state == .lost
    if live && p.checkinMc ≠ 0 && c.nextKey ≠ 0 && win.2 + 2 * mc ≤ s.key then
      let deaf := deafDuring s e win.1
      let met := c.contacts.any fun k => c.prevEnd ≤ k && k < win.2
      let misses := if deaf then c.misses else if met then 0 else min 255 (c.misses + 1)
      let st := if deaf || met then c.state
        else if c.state == .active && 3 ≤ misses then .drifting
        else if c.state == .drifting && 3 + p.lostMisses ≤ misses then .lost
        else c.state
      let next := if c.evalWin.isSome then c.nextKey else c.nextKey + p.checkinMc * mc
      let s := onCtx meter (fun c =>
        { c with misses := misses, state := st, nextKey := next, evalWin := none, prevEnd := win.2
                 contacts := c.contacts.filter (win.2 ≤ ·) }) s
      let s := match n with
        | some n => onNbr n (fun e => { e with misses := misses, nextKey := next, heldGuard := none }) s
        | none => s
      let s := if st = c.state then s
        else raise (if st == .lost then .meterLost else .meterDrifting) srcSup (leBytes 4 meter ++ leBytes 1 misses) s
      .next (wakeForCheckin meter s)
    else .next s

/-- JOIN_TIMEOUT: a Joining meter without a contact within 180,000 mc of its admission returns to Unknown (MS3). -/
def execJoinTimeout (dt meter : Nat) (s : State) : Outcome State Fault Refusal :=
  let s := tick dt s
  match ctxOf s meter with
  | some c =>
    if stageAlive s && c.state == .joining && c.admitKey + 180000 * mc ≤ s.key then
      .next (raise .joinExpired srcSup (leBytes 4 meter) (freeCtx meter s))
    else .next s
  | none => .next s

/-! ### Commits (R53, R335) -/

/-- The guards of open listen windows are kept over a change of their profile (R335). -/
def keepGuards (profile : Nat) (s : State) : State :=
  s.onLink fun l =>
    { l with nbrs := l.nbrs.map fun p =>
        match ctxOf s p.2.meter with
        | some c =>
          let g := guardPt s (linkProfile s profile) c.state (some p.2) c.nextKey
          if p.2.profile = profile && inListen c.nextKey g s.key then (p.1, { p.2 with heldGuard := some g }) else p
        | none => p }

/-- A profile without check-in tracking: its meters are Drifting or Lost no longer (R326; log entry 452). -/
def untracked (n : Nat) (p : LinkProfile) (s : State) : State :=
  if p.checkinMc ≠ 0 then s
  else (s.sess.ctxs.filter fun c => c.2.linkProfile == n && (c.2.state == .drifting || c.2.state == .lost)).foldl
    (fun s c => onCtx c.1 (fun c => { c with state := .active, misses := 0 }) s) s

/-- A committed pin: in the entry, and in its meter's context, from which a start fills the entry (R307, R308). -/
def pinNbr (addr : Nat) (on : Bool) (s : State) : State :=
  match nbrByAddr s addr with
  | some n => onCtx (nbrOf s n).meter (fun c => { c with pinned := on }) (onNbr n (fun e => { e with pinned := on }) s)
  | none => s

/-- Whether an entry is pinned once the waiting pins have taken effect. -/
def willBePinned (s : State) (e : Nbr) : Bool :=
  (s.fab.heldWords ++ s.fab.shadow).foldl (fun b w => match w with
    | .pin a on => if a = e.addr then on else b
    | _ => b) e.pinned

/-- The context of a meter once the words that wait have taken effect (R53): what METER_ADMIT, METER_RETIRE and METER_READ judge. -/
def ctxToBe (s : State) (m : Nat) : Option MeterCtx :=
  (s.fab.heldWords ++ s.fab.shadow).foldl (fun c w => match w with
    | .context k w => if k ≠ m then c else match w with
      | .enrol x => some x
      | .retire => c.map fun x => { x with state := .retired }
      | .free => none
    | _ => c) (ctxOf s m)

/-- A committed context word (X4): an admission fills the context, and a direct neighbour takes its entry (R308, R407); a retirement
sets STATE, and a freed context is cleared (R408). -/
def commitCtx (m : Nat) (w : CtxWord) (s : State) : State :=
  match w with
  | .enrol c =>
    let s := touch m (s.onSess fun x => { x with ctxs := tput x.ctxs m c })
    let s := mirror (.ctx m (some c)) s
    if c.direct then (match allotNbr c.addr c.kind s with
      | some (n, s) => onNbr n (fun e => nbrFromCtx m c e) s
      | none => s) else s
  | .retire => onCtx m (fun c => { c with state := .retired }) s
  | .free => if (ctxOf s m).isSome then freeCtx m s else s

/-- Commits a shadow word (R53). -/
def commitShadow (w : CtlWord) (s : State) : State :=
  match w with
  | .context m w => commitCtx m w s
  | .linkProfile n p => untracked n p (commitWord (.linkProfile n p) (keepGuards n s))
  | .pin a on => pinNbr a on s
  | .veeMeter m mod cap sh gen => onCtx m (fun c => { c with modulus := mod, rateCap := cap, veeShape := sh, genReg := gen }) s
  | w => commitAny w s

/-- CONTROL_WORD_COMMIT: the n-th waiting shadow word becomes active at its block's boundary between items; that of a block whose
power domain is off is held (R53, R57). -/
def execControlWordCommit (dt n : Nat) (s : State) : Outcome State Fault Refusal :=
  let s := tick dt s
  match s.fab.shadow[n]? with
  | some w =>
    let s := s.onFab fun f => { f with shadow := f.shadow.eraseIdx n }
    if wordDomainOn s w then .next (commitShadow w s) else .next (holdWord w s)
  | none => .next s

/-- A power domain is on: the commits held for it take effect before its block's first item, oldest first (R57). -/
def releaseHeld (s : State) : State :=
  let words := s.fab.heldWords
  words.foldl (fun s w => if wordDomainOn s w then commitShadow w s else s.onFab fun f => { f with heldWords := f.heldWords ++ [w] })
    (s.onFab fun f => { f with heldWords := [] })

/-! ### Commands -/

/-- The 64 bytes of a neighbour entry (R304). -/
def nbrBytes (e : Nbr) : List Byte :=
  leBytes 8 e.addr ++ leBytes 1 e.kind
    ++ leBytes 1 (bit e.winValid + 2 * bit e.wur + 4 * bit e.trained + 8 * bit e.pinned + 16 * bit e.downPending + 32 * bit e.ackCap)
    ++ leBytes 2 e.wakeAddr ++ leBytes 4 e.meter ++ leBytes 1 e.seqHi ++ leBytes 1 e.lastLane ++ leBytes 2 e.lastChan
    ++ leBytesI 2 e.rssi ++ leBytes 1 e.lqi ++ leBytes 1 e.profile ++ leBytes 8 e.seqMap.toNat ++ leBytes 8 e.lastKey
    ++ leBytes 8 e.nextKey ++ leBytesI 4 e.ratePpb ++ leBytes 2 e.duplicates ++ leBytes 2 e.replays ++ leBytes 4 e.accepted
    ++ leBytes 1 e.misses ++ leBytes 1 e.txSeq ++ [0, 0]

/-- LINK 0x0510 NBR_READ (R334). -/
def nbrRead (t : Taken) (s : State) : State × Reply :=
  let p := t.payload
  let i := fld p 4 4
  match fld p 0 1 with
  | 0 => if 8191 < i then (s, answer .badarg) else (s, okWith (nbrBytes (nbrOf s i)))
  | 1 =>
    match nbrByAddr s (fld p 8 8) with
    | some n => (s, okWith (nbrBytes (nbrOf s n)))
    | none => (s, answer .badarg)
  | _ => (s, answer .badarg)

/-- NBR_READ runs the oldest one dispatched for the host (R334). -/
def execNbrRead (dt : Nat) (host : Fin 4) (s : State) : Outcome State Fault Refusal :=
  .next (runCmd 0x0510 host nbrRead (tick dt s))

/-- Whether the fields of a link profile stand in the ranges of R301 and R302. -/
def linkProfileOk (p : LinkProfile) : Bool :=
  (p.checkinMc = 0 || (3000 ≤ p.checkinMc && p.checkinMc ≤ 4320000)) && 100 ≤ p.baseGuardUs && p.baseGuardUs ≤ 100000
    && 1 ≤ p.driftPpm && p.driftPpm ≤ 500 && 1000 ≤ p.guardCapUs && p.guardCapUs ≤ 10000000 && 1 ≤ p.lostMisses && p.lostMisses ≤ 250
    && 20480 ≤ p.ackDelayPt && p.ackDelayPt ≤ 65535 && p.maxRetries ≤ 7 && 1 ≤ p.retryMc && p.retryMc ≤ 65535 && 4096 ≤ p.ackWaitPt
    && p.ackWaitPt ≤ 65535 && 3000 ≤ p.seqResetMc && p.seqResetMc ≤ 4320000 && 1 ≤ p.wakeRepeat && p.wakeRepeat ≤ 255
    && p.wakeGapUs ≤ 65535 && p.baseGuardUs ≤ p.guardCapUs

/-- LINK 0x0511 LPROF_SET (R335). -/
def lprofSet (t : Taken) (s : State) : State × Reply :=
  let b := t.payload
  let n := fld b 0 1
  let p : LinkProfile :=
    { lostMisses := fld b 1 1, ackDelayPt := fld b 2 2, checkinMc := fld b 4 4, baseGuardUs := fld b 8 4, guardCapUs := fld b 12 4
      driftPpm := fld b 16 2, maxRetries := fld b 18 1, wakeRepeat := fld b 19 1, retryMc := fld b 20 2, ackWaitPt := fld b 22 2
      seqResetMc := fld b 24 4, wakeGapUs := fld b 28 2 }
  if 15 < n || !linkProfileOk p then (s, answer .badarg) else (postWord (.linkProfile n p) s, answer .ok)

/-- LPROF_SET runs the oldest one dispatched for the host (R335). -/
def execLprofSet (dt : Nat) (host : Fin 4) (s : State) : Outcome State Fault Refusal :=
  .next (runCmd 0x0511 host lprofSet (tick dt s))

/-- LINK 0x0512 NBR_PIN (R307, R336). -/
def nbrPin (t : Taken) (s : State) : State × Reply :=
  let pin := fld t.payload 8 1
  match nbrByAddr s (fld t.payload 0 8) with
  | none => (s, answer .badarg)
  | some n =>
    if 1 < pin then (s, answer .badarg)
    else if pin = 1 && !willBePinned s (nbrOf s n) && 1024 ≤ (s.link.nbrs.filter fun p => willBePinned s p.2).length then
      (s, answer .nospace)
    else (postWord (.pin (fld t.payload 0 8) (pin == 1)) s, answer .ok)

/-- NBR_PIN runs the oldest one dispatched for the host (R336). -/
def execNbrPin (dt : Nat) (host : Fin 4) (s : State) : Outcome State Fault Refusal :=
  .next (runCmd 0x0512 host nbrPin (tick dt s))

/-- LINK 0x0513 LINK_COUNTERS (R337). -/
def linkCounters (_t : Taken) (s : State) : State × Reply :=
  let l := s.link
  (s, okWith (([l.accepted, l.duplicates, l.replays, l.restarts, l.acksSent, l.acksLate, l.unwindowed, l.filtered].map (leBytes 4)).flatten))

/-- LINK_COUNTERS runs the oldest one dispatched for the host (R337). -/
def execLinkCounters (dt : Nat) (host : Fin 4) (s : State) : Outcome State Fault Refusal :=
  .next (runCmd 0x0513 host linkCounters (tick dt s))

/-- LINK.STAT (R332). -/
def linkStat (s : State) (w1c : Word) : Word :=
  BitVec.ofNat 32 (s.link.nbrs.length % 16384
    + 65536 * min 65535 (s.sess.ctxs.filter fun p => p.2.state == .drifting).length) ||| (w1c &&& 0xC000)

end Sys2Proof.Machine
end

