-- ==== Sys2Proof/Machine/RadioTx.lean ====
section
/-! DEFINITION. Radio transmission: the release of class 7 entries, the duty budget, the end of a transmission (R278–R288). -/

namespace Sys2Proof.Machine

open Host (Outcome)

/-- Whether the unit may transmit at all (R278, R354): a role, Solo or Active, Hem not started. -/
def mayTransmit (s : State) : Bool :=
  s.cfg.startCfg.role.isSome && (s.pair.state == .solo || s.pair.state == .active) && !s.pwr.hemFlag && s.sched.hemKey.isNone
    && (match s.pwr.stage with | .running => true | _ => false)

/-- The radio entry that is released next: its release comes 16,384 pt before its key (R279). -/
def nextRelease (s : State) : Option SchedEntry :=
  (s.sched.entries.filter fun e => (match e.action with | .radioTx _ _ => true | _ => false) && e.key ≤ s.key + 16384).foldl
    (fun acc e => match acc with
      | none => some e
      | some b => if entryBefore e b then some e else some b) none

/-- Why a transmission is dropped: late, in the way of the one before it, busy, cut short, over the duty budget (R280–R283, R288). -/
inductive TxDrop
  | late | overlap | busy | truncated | duty
deriving DecidableEq, Repr

/-- Its place among a front end's counts. -/
def TxDrop.ix : TxDrop → Nat
  | .late => 0
  | .overlap => 1
  | .busy => 2
  | .truncated => 3
  | .duty => 4

/-- Counts a dropped transmission by its reason (R280–R283, R288), in TX_DROPPED and in RS13. -/
def countTxDrop (why : TxDrop) (fe : Nat) (s : State) : State :=
  (onFe fe (fun f => { f with txDropped := inc32 f.txDropped, drops := bumpAt f.drops why.ix }) s).onRad fun r =>
    { r with txDrops := (r.txDrops + 1) % 256 }

/-- The airtime of a frame in 2⁻³² ns, from PA_EN assertion to deassertion (R262, R287). -/
def airTime (c : FeCfg) (f : TxFrame) : Nat := ofUs c.paLead + ofNs f.airNs + ofUs c.paLag

/-- The first sub-band whose sum a transmission would raise above LIMIT (R287, R288). -/
def overDuty (s : State) (f : TxFrame) (air : Nat) : Option Nat :=
  s.cfg.act.subBands.findIdx? fun b =>
    b.limit ≠ 0 && bandHit b (f.freqHz - f.widthHz / 2) (f.freqHz + f.widthHz / 2) && b.limit * ofS 3600 < (bandSum s b + air) * 10000

/-- A duty drop: DUTY is set until a transmission is next allowed, and one event per sub-band per hour (R288). -/
def dutyDrop (fe band : Nat) (s : State) : State :=
  let s := onFe fe (fun f => { f with dutyHold := true }) (countTxDrop .duty fe s)
  let due : Bool := match tfind s.rad.dutyEvts band with
    | some t => decide (t + ofS 3600 ≤ s.rc)
    | none => true
  if due then
    raise .dutyDefer (0x40 + fe) (leBytes 1 band) (s.onRad fun r => { r with dutyEvts := tput r.dutyEvts band s.rc })
  else s

/-- When the last transmission released to a front end deasserts PA_EN (R281). -/
def lastOff (f : FeSt) : Nat := (f.tx.toList ++ f.txNext).foldl (fun m t => max m t.offRc) f.paOff

/-- A released entry with its frame: the front end's conditions, the transmission before it, CCA, the duty budget, then the
transmission (R278, R281, R282, R288). -/
def releaseFrame (fe key : Nat) (cca : Int) (f : TxFrame) (s : State) : State :=
  let c := feIn s.cfg.act fe
  let start := rcOfKey s key
  let on := start - ofUs c.paLead
  let air := airTime c f
  if !(mayTransmit s && feOn s fe) then
    let s := if f.use = 2 then s.onLink fun l => { l with wakeRefused := inc32 l.wakeRefused } else s
    frameDropped f.id f.use (onFe fe (fun e => { e with txDropped := inc32 e.txDropped }) s)
  else if on < lastOff (feSt s fe) then frameDropped f.id f.use (countTxDrop .overlap fe s)
  else if c.cca ≠ 0 && c.cca < cca then frameDropped f.id f.use (countTxDrop .busy fe s)
  else
    match overDuty s f air with
    | some b => frameDropped f.id f.use (dutyDrop fe b s)
    | none =>
      let run : RunTx := { frame := f, key := key, onRc := on, offRc := on + air }
      onFe fe (fun e => match e.tx with
        | none => { e with dutyHold := false, tx := some run }
        | some _ => { e with dutyHold := false, txNext := e.txNext ++ [run] }) s

/-- TX_RELEASE: the next radio entry is released to its front end; `cca` is the power in dBm that the CCA window measures. After
Hem start it is dropped and counted; without its frame on Q7, or after its key, it is late (R92, R279–R282, R288). -/
def execTxRelease (dt : Nat) (cca : Int) (s : State) : Outcome State Fault Refusal :=
  let s := tick dt s
  match nextRelease s with
  | none => .next s
  | some e =>
    match e.action with
    | .radioTx fe id =>
      let s := dropEntry e.seq s
      let frame := s.rad.q7.find? fun f => f.id == id
      let s := s.onRad fun r => { r with q7 := r.q7.filter fun f => f.id != id }
      if s.sched.hemKey.isSome then
        let s := s.onSched fun c => { c with dropped7 := inc32 c.dropped7 }
        .next (match frame with
          | some f => if f.use = 1 then frameDropped id 1 s else s
          | none => s)
      else
        match frame with
        | none => .next (frameDropped id 0 (countTxDrop .late fe s))
        | some f =>
          if e.key < s.key then .next (frameDropped id f.use (countTxDrop .late fe s)) else .next (releaseFrame fe e.key cca f s)
    | _ => .next s

/-- The blanking of the lanes ends with PA_EN, on the peer too with BLANK_PEER (R284). -/
def endBlank (fe offRc : Nat) (s : State) : State :=
  let s := onFe fe (fun f => { f with blankEnd := offRc }) s
  if (feIn s.cfg.act fe).blankPeer then onFe (1 - fe) (fun f => { f with blankEnd := max f.blankEnd offRc }) s else s

/-- Adds what a transmission used to the duty sums (R287). -/
def addAir (t : RunTx) (offRc : Nat) (s : State) : State :=
  s.onRad fun r =>
    { r with airs := ⟨s.evt.opBase + t.onRc, t.frame.freqHz - t.frame.widthHz / 2, t.frame.freqHz + t.frame.widthHz / 2, offRc - t.onRc⟩
               :: r.airs.filter fun a => s.opTime < a.onRc + ofS 3600 }

/-- TX_END: PA_EN deasserts after PA_LAG; the airtime counts, the frame counts as sent, and an acknowledgement of a downlink frame is
awaited from its end (R281, R284, R287, R329). -/
def execTxEnd (dt fe : Nat) (s : State) : Outcome State Fault Refusal :=
  let s := tick dt s
  match (feSt s fe).tx with
  | none => .next s
  | some t =>
    if t.offRc ≤ s.rc then
      let s := addAir t t.offRc (endBlank fe t.offRc s)
      let s := onFe fe (fun f => { f with tx := f.txNext.head?, txNext := f.txNext.drop 1, paOff := t.offRc, txSent := inc32 f.txSent }) s
      let s := s.onRad fun r => { r with sent := (fe, t.key, t.frame) :: r.sent }
      let s := s.onHosts fun h => { h with txFrames := inc32 h.txFrames }
      let fin := t.offRc - ofUs (feIn s.cfg.act fe).paLag
      let s := if t.frame.use = 3 then multicastEnd t.frame.id 0 s else s
      .next (s.onLink fun l =>
        { l with acksSent := if t.frame.use = 1 then inc32 l.acksSent else l.acksSent
                 downs := l.downs.map fun d => if d.id == t.frame.id then { d with endRc := some fin } else d })
    else .next s

/-- Every released or running transmission of a front end ends at once: a frame cut short is truncated (R283). -/
def cutTx (fe : Nat) (s : State) : State :=
  match (feSt s fe).tx with
  | none => s
  | some t =>
    let s := if t.onRc < s.rc then onFe fe (fun f => { f with paOff := s.rc }) (addAir t s.rc (endBlank fe s.rc s)) else s
    let s := (t :: (feSt s fe).txNext).foldl (fun s r => frameCut r.frame (countTxDrop .truncated fe s)) s
    onFe fe (fun f => { f with tx := none, txNext := [] }) s

/-- Hem start and a logic-side reset end the transmissions of both front ends (R283). -/
def cutRadio (s : State) : State := cutTx 1 (cutTx 0 s)

end Sys2Proof.Machine
end

