-- ==== Sys2Proof/Machine/Plc.lean ====
section
/-! DEFINITION. The power-line port ("Power-line carrier port"). -/

namespace Sys2Proof.Machine

open Host (Outcome)

/-! ### The port -/

/-- Whether the port is powered and in a mode (R8, R338, R354). -/
def plcOn (s : State) : Bool := radioOn s && s.cfg.startCfg.plcPowered && s.plc.mode ≠ 0

/-- The line side mutes the driver and tells SEAM_MUTE in its status; the frame on the line is counted as truncated (R344). -/
def muteDriver (s : State) : State :=
  match s.plc.tx with
  | none => s.onPlc fun p => { p with muted := true }
  | some (f, _) =>
    frameCut f (tellLogic .seamMute (s.onPlc fun p => { p with muted := true, tx := none, truncated := inc32 p.truncated }))

/-- PLC_DRIVER_MUTE: transmit samples are missing for two consecutive superframes while the driver is enabled (R344). -/
def execPlcDriverMute (dt : Nat) (s : State) : Outcome State Fault Refusal :=
  let s := tick dt s
  if s.pwr.lineOn && s.plc.tx.isSome then .next (muteDriver s) else .next s

/-- SEAM_CHANNEL_DOWN: 8 consecutive discarded frames in a direction; the driver mutes, and power-line frames in reception are broken
(R29, R344, R345). -/
def execSeamChannelDown (dt rxBroken : Nat) (s : State) : Outcome State Fault Refusal :=
  let s := tick dt s
  if s.fab.seamUp && (8 ≤ s.fab.badToLogic || 8 ≤ s.fab.badToLine) then
    let s := s.onFab fun f => { f with seamUp := false, resync := true, downRc := s.rc, missFrom := some (f.missFrom.getD s.rc) }
    let s := s.onMet fun m => { m with echoes := false }
    .next (muteDriver (s.onPlc fun p => { p with broken := w32 (p.broken + rxBroken) }))
  else .next s

/-- Frames that are discarded before they start go to their retry rules. -/
def dropFrames (l : List TxFrame) (s : State) : State := l.foldl (fun s f => frameDropped f.id f.use s) s

/-- A MODE change takes effect (R341). -/
def applyMode (mode : Nat) (s : State) : State :=
  let old := s.plc.mode
  let gone := s.plc.q8 ++ s.plc.waiting.map (·.frame)
  let cut := s.plc.tx
  let s := s.onPlc fun p =>
    { p with mode := mode, retrainEnd := if mode = 0 then none else some (s.mains.cycle + 50), q8 := [], waiting := []
             tx := none, muted := true, truncated := if cut.isSome then inc32 p.truncated else p.truncated
             discarded := w32 (p.discarded + gone.length), nodes := [], measured := 0, bins := List.replicate 64 none
             noisy := BitVec.ofNat 64 s.cfg.act.plc.blockMask.toNat, noQuiet := false }
  let s := s.onLink fun l => { l with nbrs := l.nbrs.map fun q => if q.2.kind = 2 then (q.1, { q.2 with winValid := false }) else q }
  let s := s.onCfg fun c => { c with act := { c.act with plc := { c.act.plc with mode := mode } } }
  let s := match cut with
    | some (f, _) => frameCut f s
    | none => s
  let s := dropFrames gone s
  let s := if mode = 0 then beginTransit .plc false (cycleLen s) s else s
  raise .plcMode 0x48 (leBytes 1 old ++ leBytes 1 mode) s

/-- PLC_MODE_APPLY: the entry of a MODE change is dispatched (R55, R341). -/
def execPlcModeApply (dt : Nat) (s : State) : Outcome State Fault Refusal :=
  let s := tick dt s
  if stageAlive s then
    match dispatch (fun a => (modeOf a).isSome) s with
    | some (e, s) => .next (applyMode ((modeOf e.action).getD 0) s)
    | none => .next s
  else .next s

/-- PLC_RETRAIN_END: 50 mc after a mode change (R341). -/
def execPlcRetrainEnd (dt : Nat) (s : State) : Outcome State Fault Refusal :=
  let s := tick dt s
  match s.plc.retrainEnd with
  | some c => if c ≤ s.mains.cycle then .next (s.onPlc fun p => { p with retrainEnd := none }) else .next s
  | none => .next s

/-- PLC_THERMAL: the driver's junction reaches 140 °C; 6 dB are added (R347). -/
def execPlcThermal (dt : Nat) (s : State) : Outcome State Fault Refusal :=
  let s := tick dt s
  if s.pwr.lineOn then .next (tellLogic .plcThermal (s.onPlc fun p => { p with thermal := true })) else .next s

/-- The attenuation at which the line side drives, in 0.5 dB: TX_ATT as driver control last told it, and 6 dB more while the junction is hot (R343,
R347). -/
def driverAtt (s : State) : Nat := s.fab.lineAtt + if s.plc.thermal then 12 else 0

/-- PLC_THERMAL_RECOVER: the junction falls below 125 °C (R347). -/
def execPlcThermalRecover (dt : Nat) (s : State) : Outcome State Fault Refusal :=
  .next ((tick dt s).onPlc fun p => { p with thermal := false })

/-! ### The noise map (R349, R350, R353) -/

/-- Inserts into a sorted list. -/
def insertSorted (x : Int) : List Int → List Int
  | [] => [x]
  | y :: ys => if x ≤ y then x :: y :: ys else y :: insertSorted x ys

/-- The values in rising order. -/
def sortInts (l : List Int) : List Int := l.foldl (fun a x => insertSorted x a) []

/-- The median; of an even number of values the mean of the middle two (log entry 15). -/
def medianOf (l : List Int) : Int :=
  let v := sortInts l
  let n := v.length
  if n = 0 then 0
  else if n % 2 = 1 then v.getD (n / 2) 0
  else openDiv (v.getD (n / 2 - 1) 0 + v.getD (n / 2) 0) 2

/-- The median of the averages. -/
def binMedian (bins : List (Option Int)) : Int := medianOf (bins.filterMap id)

/-- The preamble of a mode in µs (R338). -/
def preambleUs (mode : Nat) : Nat := if mode = 1 then 6080 else if mode = 2 then 2030 else if mode = 3 then 2050 else 0

/-- The preamble in pt, rounded up. -/
def preamblePt (s : State) : Nat := (ofUs (preambleUs s.plc.mode) * mc + cycleLen s - 1) / cycleLen s

/-- Whether the whole preamble span from a phase lies in bins that are not noisy, wrapping across the cycle boundary (R351). -/
def quietFrom (noisy : BitVec 64) (len phase : Nat) : Bool :=
  let b0 := phase / 1024
  let b1 := (phase + len - 1) / 1024
  (List.range (b1 - b0 + 1)).all fun i => !noisy.getLsbD ((b0 + i) % 64)

/-- Whether any span of preamble length is free of noisy bins. -/
def anyQuiet (noisy : BitVec 64) (len : Nat) : Bool := (List.range 64).any fun b => quietFrom noisy len (b * 1024)

/-- The noisy bins by the averages and BLOCK_MASK (R350). -/
def noisyBins (c : PlcCfg) (bins : List (Option Int)) : BitVec 64 :=
  let m := binMedian bins
  (List.range 64).foldl (fun n b =>
    match bins.getD b none with
    | some v => if m + 4 * (c.noiseMargin : Int) ≤ v then n ||| BitVec.ofNat 64 (2 ^ b) else n
    | none => n) c.blockMask

/-- PLC_NOISE_UPDATE: at a cycle boundary each bin measured takes weight 1/16 on the newest and every bin is judged again; `meas`
holds the bins measured in the cycle, in 0.25 dBm (R349, R350, R353). -/
def execPlcNoiseUpdate (dt : Nat) (meas : List (Option Int)) (s : State) : Outcome State Fault Refusal :=
  let s := tick dt s
  if plcOn s && s.fab.seamUp then
    let bins := (List.range 64).map fun b =>
      match s.plc.bins.getD b none, meas.getD b none with
      | some v, some x => some (v + openDiv (x - v) 16)
      | none, some x => some x
      | v, none => v
    let noisy := noisyBins s.cfg.act.plc bins
    let none_ := !anyQuiet noisy (preamblePt s)
    .next (s.onPlc fun p =>
      { p with bins := bins, noisy := if none_ then s.cfg.act.plc.blockMask else noisy, noQuiet := none_
               measured := if meas.any (·.isSome) then inc32 p.measured else p.measured })
  else .next s

/-! ### Transmission (R351–R354) -/

/-- Inserts a due entry in key order. -/
def insertWaiting (w : PlcTx) : List PlcTx → List PlcTx
  | [] => [w]
  | x :: xs => if w.key < x.key then w :: x :: xs else x :: insertWaiting w xs

/-- After Hem start a due power-line entry is dropped and counted, its frame with it (R92). -/
def dropDuePlc (s : State) : State :=
  let hit := fun (e : SchedEntry) => e.key ≤ s.key && match e.action with
    | .plcTx _ => true
    | _ => false
  let n := (s.sched.entries.filter hit).length
  (dropEntries hit s).onSched fun c => { c with dropped7 := w32 (c.dropped7 + n) }

/-- PLC_TX_DUE: an entry falls due; SE12 runs the channel access of its MAC. After Hem start it is dropped and counted, and where the
port may not transmit or the frame is missing it is dropped (R92, R351, R354). -/
def execPlcTxDue (dt : Nat) (s : State) : Outcome State Fault Refusal :=
  let s := tick dt s
  if s.sched.hemKey.isSome then .next (dropDuePlc s)
  else if !workTakes s .plcModem 8 then .next s else
  match dispatch (fun a => match a with | .plcTx _ => true | _ => false) s with
  | some (e, s) =>
    match e.action with
    | .plcTx id =>
      let frame := s.plc.q8.find? fun f => f.id == id
      let s := s.onPlc fun p => { p with q8 := p.q8.filter fun f => f.id != id }
      match frame with
      | none => .next (frameDropped id 0 s)
      | some f =>
        if mayTransmit s && plcOn s then .next (s.onPlc fun p => { p with waiting := insertWaiting ⟨f, e.key⟩ p.waiting })
        else .next (frameDropped id f.use s)
    | _ => .next s
  | none => .next s

/-- Whether a frame may start at the present phase (R351, R353). -/
def quietNow (s : State) : Bool :=
  match s.mains.state with
  | .holdover | .virtual => true
  | _ => quietFrom s.plc.noisy (preamblePt s) s.phase

/-- PLC_FRAME_START: channel access has ended and the line was idle over the preceding 1 ms (`busy` false): the frame first in key
order starts if the phase is quiet and START_LIMIT_MC has not passed. A channel access that fails counts and drops it (R351, R352). -/
def execPlcFrameStart (dt : Nat) (csmaFail busy : Bool) (s : State) : Outcome State Fault Refusal :=
  let s := tick dt s
  match s.plc.waiting with
  | [] => .next s
  | w :: rest =>
    if s.plc.tx.isSome || s.plc.retrainEnd.isSome || !(mayTransmit s && plcOn s && s.fab.seamUp && workRuns s .plcModem) then .next s
    else if csmaFail then
      .next (frameDropped w.frame.id w.frame.use (s.onPlc fun p => { p with waiting := rest, csmaFail := inc32 p.csmaFail }))
    else if busy || !quietNow s || w.key + s.cfg.act.plc.startLimitMc * mc < s.key then .next s
    else
      let s := s.onPlc fun p =>
        { p with waiting := rest, tx := some (w.frame, s.rc + ofNs w.frame.airNs), muted := false, sent := (s.key, w.frame) :: p.sent }
      .next (s.onFab fun f => { f with lineDriver := true })

/-- PLC_NO_WINDOW: a frame not started within START_LIMIT_MC of its key is dropped and counted (R352). -/
def execPlcNoWindow (dt : Nat) (s : State) : Outcome State Fault Refusal :=
  let s := tick dt s
  match s.plc.waiting.find? (fun w => w.key + s.cfg.act.plc.startLimitMc * mc < s.key) with
  | some w =>
    .next (frameDropped w.frame.id w.frame.use
      (s.onPlc fun p => { p with waiting := p.waiting.erase w, noWindow := inc32 p.noWindow }))
  | none => .next s

/-- PLC_FRAME_END: the port becomes free and the acknowledgement wait of the frame begins; ILIM when the current limit acted on more
than 1 % of its samples (R329, R347, R352). -/
def execPlcFrameEnd (dt : Nat) (ilim : Bool) (s : State) : Outcome State Fault Refusal :=
  let s := tick dt s
  match s.plc.tx with
  | none => .next s
  | some (f, fin) =>
    if fin ≤ s.rc then
      let s := s.onPlc fun p => { p with tx := none, muted := true, txSent := inc32 p.txSent }
      let s := s.onHosts fun h => { h with txFrames := inc32 h.txFrames }
      let s := if ilim then setSticky 0x054 0x80 s else s
      let s := if f.use = 3 then multicastEnd f.id 0 s else s
      .next (s.onLink fun l => { l with downs := l.downs.map fun d => if d.id == f.id then { d with endRc := some fin } else d })
    else .next s

/-! ### Reception -/

/-- The circular mean with weight 1/16 on the newest offset (ZC3). -/
def zcMean (r : ZcRec) (o : Nat) : Nat :=
  if r.count = 0 then o else (((r.mean : Int) + openDiv (signed 16 ((o + 65536 - r.mean) % 65536)) 16) % 65536).toNat

/-- A node's record after one more offset (R358). -/
def zcTake (o key : Nat) (r : ZcRec) : ZcRec :=
  let n := min 65535 (r.count + 1)
  { r with last := o, mean := zcMean r o, count := n, lastKey := key
           spread := if n < 8 then 0xFFFF else Config.zcSpread r.spread r.mean o }

/-- The node of an address; a frame of the bootstrap or registration joins it if the domain has room (R359, R360). -/
def plcNode (f : PlcFrame) (s : State) : Option Nat × State :=
  match s.plc.nodes.find? (fun p => p.2.addr == f.addr) with
  | some (n, _) => (some n, s)
  | none =>
    if !f.join then (none, s)
    else if s.plc.nodes.length < 2048 then
      let n := s.plc.nodes.foldl (fun k p => if p.1 = k then k + 1 else k) 0
      (some n, s.onPlc fun p => { p with nodes := tput p.nodes n { addr := f.addr } })
    else
      let s := setSticky 0x054 0x100 (s.onPlc fun p => { p with joinRefused := inc32 p.joinRefused })
      (none, if s.plc.fullSeen then s else raise .plcFull 0x48 [] (s.onPlc fun p => { p with fullSeen := true }))

/-- The key of a frame's arrival stamp: the end of its preamble at the line-side converter, compensated for the Seam (R25, R355). -/
def plcStamp (f : PlcFrame) (s : State) : Nat := keyOfRc s (s.rc - ofUs f.durationUs - seamLatency)

/-- The zero-crossing offset that a frame gives: in the Locked state from its stamp and its phase-detection field, in MODE 3 as the meter
reports it (R356, R357). -/
def zcOffset (f : PlcFrame) (s : State) : Option Nat :=
  if s.plc.mode = 3 then f.appOffset.map (· % 65536)
  else if s.mains.state == .locked then f.zc.map fun z => (plcStamp f s % 65536 + 65536 - Config.zcPhase z % 65536) % 65536
  else none

/-- Records the frame against its node: the time it was heard, and its zero-crossing offset (R356–R358, R361). -/
def noteNode (f : PlcFrame) (s : State) : State :=
  let (n, s) := plcNode f s
  match n with
  | none => s
  | some n =>
    s.onPlc fun p =>
      { p with nodes := match tfind p.nodes n with
          | none => p.nodes
          | some r =>
            let r := { r with heardRc := s.rc }
            match zcOffset f s with
            | some o => tput p.nodes n (zcTake o (plcStamp f s) r)
            | none => tput p.nodes n r }

/-- A power-line frame as the MAC rules take it: lane 0x40, kind 2 (R396, NT2). -/
def plcAsFrame (s : State) (f : PlcFrame) : RadioFrame :=
  { lane := 0x40, kind := 2, addr := f.addr, seq := f.seq, ackReq := f.ackReq, length := f.length, unpacked := f.unpacked
    fwUnpackable := f.fwUnpackable, isAck := f.isAck, apdu := f.apdu, bytes := f.bytes, key := plcStamp f s
    tai := reportedAt s (s.rc - ofUs f.durationUs - seamLatency) / nsUnit, virtualMains := flaggedCycle s (plcStamp f s)
    durationUs := f.durationUs, fe := 8 }

/-- The MAC on SE12: the neighbour table and the duplicate window as for radio (R303, R309, R310). -/
def plcMac (f : PlcFrame) (s : State) : State :=
  let r := plcAsFrame s f
  if f.isAck then takeAck f.addr f.seq s.key s
  else
    match allotNbr f.addr 2 s with
    | none => deliverUnwindowed r s
    | some (n, s) => judgeFrame n r s

/-- SE12 demodulates a frame: in Standby, Resync and InSync it counts and does not deliver (R354–R358). -/
def takePlc1 (frame : PlcFrame) (s : State) : State :=
  if !frame.crcOk then s.onPlc fun p => { p with framesBad := inc32 p.framesBad }
  else
    let s := noteNode frame (s.onPlc fun p => { p with framesOk := inc32 p.framesOk })
    if s.pair.state == .solo || s.pair.state == .active then plcMac frame s else s

/-- SE12 takes what stands on Q1, in the order pushed (R47, R48, R342). -/
def takeQ1 (s : State) : State :=
  if workTakes s .plcModem 1 then s.plc.q1.foldl (fun s f => takePlc1 f s) (s.onPlc fun p => { p with q1 := [] }) else s

/-- PLC_FRAME_RECEIVE: the samples of a frame pass Q1, of which a full one refuses them and counts the push, and SE12 receives it at its
arrival stamp (R47, R49, R342, R345, R354–R358). -/
def execPlcFrameReceive (dt : Nat) (frame : PlcFrame) (s : State) : Outcome State Fault Refusal :=
  let s := tick dt s
  if !(plcOn s && s.fab.seamUp) || s.plc.tx.isSome then .next s
  else if s.plc.q1.length < Config.ringDepth 1 then .next (takeQ1 (s.onPlc fun p => { p with q1 := p.q1 ++ [frame] }))
  else .next (countRefused 1 s)

/-- PLC_NODE_AGE: a node whose meter is Retired, or silent for NODE_AGE days, is freed with its record (R361). -/
def execPlcNodeAge (dt node : Nat) (s : State) : Outcome State Fault Refusal :=
  let s := tick dt s
  match tfind s.plc.nodes node with
  | none => .next s
  | some r =>
    let retired := s.sess.ctxs.any fun c => c.2.addr == r.addr && c.2.kind == 2 && c.2.state == .retired
    if retired || r.heardRc + ofS (86400 * s.cfg.act.plc.nodeAgeDays) ≤ s.rc then
      .next (s.onPlc fun p => { p with nodes := tdel p.nodes node })
    else .next s

/-! ### Commands -/

/-- Whether the settings stand in the ranges of R339 and R340. -/
def plcCfgOk (c : PlcCfg) : Bool :=
  c.mode ≤ 3 && c.txAtt ≤ 48 && c.attFloor ≤ c.txAtt && 1 ≤ c.noiseMargin && c.noiseMargin ≤ 20 && c.blockMask != BitVec.allOnes 64
    && 1 ≤ c.startLimitMc && c.startLimitMc ≤ 250 && 1 ≤ c.nodeAgeDays && c.nodeAgeDays ≤ 90

/-- PLC 0x0601 PLC_SET: a MODE change applies at the first cycle start at least 64 pt ahead, the other fields by commit (R339–R341,
R364). -/
def plcSet (t : Taken) (s : State) : State × Reply :=
  let p := t.payload
  let old := (shadowCfg s).plc
  let c : PlcCfg :=
    { old with mode := fld p 0 1, txAtt := fld p 1 1, noiseMargin := fld p 2 1, startLimitMc := fld p 3 1, blockMask := BitVec.ofNat 64 (fld p 4 8) }
  if !plcCfgOk c then (s, answer .badarg)
  else
    let cycle := nextCycleStart s / mc
    let fields := postWord (.plc { c with mode := old.mode })
    if c.mode = modeToBe s && (transitOf s .plc).isNone then (fields s, okWith (leBytes 6 s.mains.cycle))
    else if (placeMode c.mode s).isNone then (s, answer .nospace)
    else
      let (s, r) := armRequest .plc (c.mode ≠ 0) (.plc c) (fun s => let s := fields s; (placeMode c.mode s).getD s) s
      (s, { r with payload := leBytes 6 cycle })

/-- PLC_SET runs the oldest one dispatched for the host (R364). -/
def execPlcSet (dt : Nat) (host : Fin 4) (s : State) : Outcome State Fault Refusal :=
  .next (runCmd 0x0601 host plcSet (tick dt s))

/-- PLC 0x0602 PLC_STATUS (R365). -/
def plcStatus (_t : Taken) (s : State) : State × Reply :=
  let p := s.plc
  (s, okWith (([p.framesOk, p.framesBad, p.broken, p.txSent, p.noWindow, p.truncated, p.csmaFail, p.joinRefused].map (leBytes 4)).flatten))

/-- PLC_STATUS runs the oldest one dispatched for the host (R365). -/
def execPlcStatus (dt : Nat) (host : Fin 4) (s : State) : Outcome State Fault Refusal :=
  .next (runCmd 0x0602 host plcStatus (tick dt s))

/-- PLC 0x0603 NOISE_READ (R366). -/
def noiseRead (_t : Taken) (s : State) : State × Reply :=
  let p := s.plc
  if p.measured < 16 then (s, answer .stale)
  else
    let n := p.noisy.toNat
    (s, okWith (leBytesI 2 (binMedian p.bins) ++ leBytes 4 (n % 0x100000000) ++ leBytes 2 (n / 0x100000000 % 0x10000)
      ++ (p.bins.map fun b => leBytesI 2 (b.getD 0)).flatten))

/-- NOISE_READ runs the oldest one dispatched for the host (R366). -/
def execNoiseRead (dt : Nat) (host : Fin 4) (s : State) : Outcome State Fault Refusal :=
  .next (runCmd 0x0603 host noiseRead (tick dt s))

/-- The 24 bytes of a zero-crossing record (R358). -/
def zcBytes (r : ZcRec) : List Byte :=
  leBytes 8 r.addr ++ leBytes 2 r.last ++ leBytes 2 r.mean ++ leBytes 2 r.spread ++ leBytes 2 r.count ++ leBytes 8 r.lastKey

/-- PLC 0x0604 ZC_READ (R367). -/
def zcRead (t : Taken) (s : State) : State × Reply :=
  let p := t.payload
  match fld p 0 1 with
  | 0 => let i := fld p 4 2; if 2047 < i then (s, answer .badarg) else (s, okWith (zcBytes (tget s.plc.nodes i {})))
  | 1 =>
    match s.plc.nodes.find? (fun q => q.2.addr == fld p 4 8) with
    | some (_, r) => (s, okWith (zcBytes r))
    | none => (s, answer .badarg)
  | _ => (s, answer .badarg)

/-- ZC_READ runs the oldest one dispatched for the host (R367). -/
def execZcRead (dt : Nat) (host : Fin 4) (s : State) : Outcome State Fault Refusal :=
  .next (runCmd 0x0604 host zcRead (tick dt s))

/-- PLC.STAT (R362). -/
def plcStat (s : State) (w1c : Word) : Word :=
  let p := s.plc
  let st := if !plcOn s then 0 else if p.retrainEnd.isSome then 3 else if p.tx.isSome then 2 else 1
  BitVec.ofNat 32 (p.mode + 8 * st + 512 * bit p.noQuiet + 65536 * p.nodes.length) ||| (w1c &&& 0x1E0)

end Sys2Proof.Machine
end

