-- ==== Sys2Proof/Machine/Ingest.lean ====
section
/-! DEFINITION. The ingest pipeline IG3–IG6, the context store and the METER commands ("Meter sessions and the ingest
pipeline"). -/

namespace Sys2Proof.Machine

open Host (Outcome)

/-! ### IG3: lookup (R371, R378, R379) -/

/-- Whether the pipeline runs: the unit is up and its domain is powered, the context table is loaded (R376, R404). -/
def ingestRuns (s : State) : Bool :=
  s.pwr.stage == .running && !s.sess.loading && (match s.pwr.state with | .run | .trim => true | _ => false)

/-- The meter of an entry: by system title for the ciphered APDUs, else by the neighbour (R378). -/
def meterOf (s : State) (e : Q2Entry) : Option Nat :=
  if e.apdu.tag == 0xDB || e.apdu.tag == 0xDF then (s.sess.ctxs.find? fun p => p.2.title == e.apdu.title).map (·.1)
  else if e.nbr == 0xFFFF then none
  else
    let m := (nbrOf s e.nbr).meter
    if (ctxOf s m).isSome then some m else none

/-- Whether a signed APDU of the entry's meter waits for its signature check, which holds the later ones (R369). -/
def heldBack (s : State) (e : Q2Entry) : Bool :=
  match meterOf s e with
  | none => false
  | some m => s.sess.sigWait.any fun w => w.meter == m

/-- Whether an entry that Q2 has delivered waits behind an earlier APDU of the entry's meter. -/
def waitsBehind (s : State) (e : Q2Entry) : Bool :=
  match meterOf s e with
  | none => false
  | some m => heldBack s e || s.sess.behind.any fun x => meterOf s x == some m

/-- APDUs that IG3–IG6 may process in a second (R401). -/
def apduLimit (s : State) : Nat := if s.sess.credit = 0 then 250000 else 400000

/-- Takes the head of Q2; an entry held in staging behind it is pushed (R48, R403). -/
def popQ2 (s : State) : State :=
  s.onSess fun b =>
    let (ring, held) := refill (Config.ringDepth 2) (b.q2.drop 1) b.q2Held
    { b with q2 := ring, q2Held := held }

/-- What the lookup finds next. -/
inductive NextApdu
  /-- an entry that goes through IG3 now -/
  | run (e : Q2Entry)
  /-- the head of Q2 goes to firmware, or behind an earlier APDU of its meter -/
  | aside
  | none
deriving DecidableEq, Repr

/-- The lookup takes first what no earlier APDU of its meter holds any longer, then the head of Q2: a frame for firmware and one that an
earlier APDU of its meter holds are set aside (R48, R369, R371). -/
def nextApdu (s : State) : NextApdu × State :=
  match s.sess.behind.find? (fun e => !heldBack s e) with
  | some e => (.run e, s.onSess fun b => { b with behind := b.behind.erase e })
  | none =>
    match s.sess.q2 with
    | [] => (.none, s)
    | e :: _ =>
      let t := popQ2 s
      if e.notUnpacked || e.security then (.aside, t.onSess fun b => { b with unpackWait := b.unpackWait ++ [e] })
      else if waitsBehind s e then (.aside, t.onSess fun b => { b with behind := b.behind ++ [e] })
      else (.run e, t)

/-! ### IG4: authentication and counters (R380–R386) -/

/-- The class of an invocation counter, IC1–IC4 (R383). -/
inductive IcClass
  | fresh | late | repeated | replay
deriving DecidableEq, Repr

/-- The class of a counter against IC_HI and IC_MAP (R383). -/
def icClass (hi : Nat) (map : BitVec 32) (ic : Nat) : IcClass :=
  if hi < ic then .fresh
  else if hi - ic ≤ 31 then (if map.getLsbD (hi - ic) then .repeated else .late)
  else .replay

/-- IC_HI and IC_MAP after a counter of a class (R383). -/
def icTake (c : MeterCtx) (ic : Nat) : MeterCtx :=
  match icClass c.icHi c.icMap ic with
  | .fresh => { c with icMap := (if 32 ≤ ic - c.icHi then 0 else c.icMap <<< (ic - c.icHi)) ||| 1, icHi := ic }
  | .late => { c with icMap := c.icMap ||| BitVec.ofNat 32 (2 ^ (c.icHi - ic)) }
  | .repeated => { c with duplicates := w16 (c.duplicates + 1) }
  | .replay => { c with replays := w16 (c.replays + 1) }

/-- A verified APDU (R383): AUTH_FAILS clears, FRAMES and CNT.APDUS_AUTH count it. -/
def verified (m : Nat) (s : State) : State :=
  (onCtx m (fun c => { c with authFails := 0, frames := inc32 c.frames }) s).onHosts
    fun h => { h with apdusAuth := inc32 h.apdusAuth }

/-- Span of the previous key and of Joining, in pt: 180,000 mc (R384). -/
def keySpan : Nat := 180000 * mc

/-- A refusal counted as AUTH_FAIL. -/
def countAuthFail (s : State) : State := s.onSess fun b => { b with authFail := inc32 b.authFail }

/-- A tag failure: AUTH_FAILS rises, with one event at 16 (R383). -/
def tagFailure (m : Nat) (s : State) : State :=
  let s := countAuthFail (onCtx m (fun c => { c with authFails := min 0xFFFF (c.authFails + 1) }) s)
  if ((ctxOf s m).map (·.authFails)) == some 16 then raise .authFails srcSup (leBytes 4 m) s else s

/-! ### IG5: the parser (R387–R391) -/

/-- A-XDR tags of integer types (R388). -/
def intTags : List Nat := [0x05, 0x06, 0x0F, 0x10, 0x11, 0x12, 0x14, 0x15]

/-- A-XDR tags read as unsigned integers with scaler 0: boolean, bit-string, enum (R393). -/
def flatTags : List Nat := [0x03, 0x04, 0x16]

/-- Whether an element matches its column: a skipped one always, a clock column by a date-time or null-data, any other by an
integer reading of its TYPE (R390–R393). -/
def fits (c : ParseCol) (x : Axdr) : Bool :=
  if c.role == 0 then true
  else if c.role == 2 then
    (match x with
     | .null => true
     | .dateTime .. => c.type == 0 || c.type == 0x09
     | _ => false)
  else
    match x with
    | .int tag _ => (intTags.contains tag || flatTags.contains tag) && (c.type == 0 || c.type == tag)
    | _ => false

/-- Whether a row matches a profile by position (R391). -/
def rowFits (p : ParseProfile) (row : List Axdr) : Bool :=
  row.length == p.cols.length && (p.cols.zip row).all fun q => fits q.1 q.2

/-- Whether rows stand within a profile and the limits on rows and records (R388, R390, R391). -/
def rowsFit (p : ParseProfile) (rows : List (List Axdr)) : Bool :=
  rows.length ≤ p.maxRows && rows.length * (p.cols.filter fun c => c.role == 1).length ≤ 4096 && rows.all (rowFits p)

/-- A parse profile in force (R390). -/
def parseProfile (s : State) (n : Nat) : ParseProfile := tget s.cfg.act.parse n {}

/-- Whether a meter's time is a date-time or absent. -/
def isTime : Axdr → Bool
  | .null | .dateTime .. => true
  | _ => false

/-- Whether the hardware parser takes an APDU under a profile (R387, R388, R390, R391). -/
def parses (p : ParseProfile) : PlainApdu → Bool
  | .notification t row => p.pflags.getLsbD 1 && isTime t && rowsFit p [row]
  | .getResponse _ rows => p.pflags.getLsbD 2 && rowsFit p rows
  | .datablock _ _ _ _ => p.pflags.getLsbD 2
  | .event t v => p.pflags.getLsbD 3 && isTime t && (match p.cols.find? (fun c => c.role == 4) with
    | some c => fits c v
    | none => false)
  | .fleetAnswer _ _ _ | .compact _ _ => false
  | .bad => false

/-- An exception that firmware drops, counted and with an event (R388). -/
def parseDrop (m : Nat) (s : State) : State :=
  raise .apduDropped srcSup (leBytes 4 m) (s.onSess fun b => { b with parseExcept := inc32 b.parseExcept })

/-- Hands an APDU to IG6 on Q3; the stage holds one that Q3 refuses (R49, R403). -/
def pushQ3 (p : Parsed) (s : State) : State :=
  (countPush 3 s.sess.q3 s.sess.q3Held s).onSess fun b =>
    let (ring, held) := pushOrHold (Config.ringDepth 3) b.q3 b.q3Held p
    { b with q3 := ring, q3Held := held }

/-- Takes the head of Q3; an APDU held behind it is pushed (R48, R403). -/
def popQ3 (s : State) : State :=
  s.onSess fun b =>
    let (ring, held) := refill (Config.ringDepth 3) (b.q3.drop 1) b.q3Held
    { b with q3 := ring, q3Held := held }

/-- The size of the plaintext: the body less its tag, or the whole content of a signed plaintext APDU (R388). -/
def plainSize (a : Apdu) : Nat := if a.tag == 0xDF && !a.signedCiphered then a.body.length else a.body.length - 12

/-- IG5 on an accepted APDU: one that answers an open fleet request goes whole to SE15, any other is parsed (R386–R388, R579). -/
def parseAccepted (m : Nat) (e : Q2Entry) (signed : Bool) (plain : PlainApdu) (s : State) : State :=
  let p := parseProfile s ((ctxOf s m).getD {}).parseProfile
  let inv := match plain with
    | .getResponse i _ | .datablock i _ _ _ | .fleetAnswer i _ _ | .compact i _ => some i
    | _ => none
  let matched : Bool := s.fleet.reqs.any fun o => o.meter == m && some o.invoke == inv
  let item : Parsed := { meter := m, jseq := s.pair.jseq, ic := e.apdu.ic, signed := signed, entry := e, plain := plain }
  let toFleet := fun (i : Nat) (ok : Bool) (data : List Nat) =>
    s.onSess fun b => { b with fleetIn := b.fleetIn ++ [(m, i, ok, data)] }
  if 2048 < plainSize e.apdu then parseDrop m s
  else if matched then
    match plain with
    | .fleetAnswer i ok data => toFleet i ok data
    | .getResponse i rows | .compact i rows => toFleet i true (rowInts rows)
    | _ => pushQ3 item s
  else if parses p plain then pushQ3 item s
  else
    match plain with
    | .compact i rows =>
      if p.pflags.getLsbD 2 && rowsFit p rows then
        pushQ3 { item with plain := .getResponse i rows } (s.onSess fun b => { b with parseExcept := inc32 b.parseExcept })
      else parseDrop m s
    | _ => parseDrop m s

/-- A contact of a verified APDU (R386), noting the neighbour that brought it (R331). -/
def frameContact (m : Nat) (e : Q2Entry) (s : State) : State :=
  let s := s.onSess fun b => { b with contactsOut := inc32 b.contactsOut }
  contact m e.key (onCtx m (fun c => { c with via := e.nbr, child := e.child }) s)

/-- An accepted counter of 0xFFFF_FFFF sets CFLAGS bit 6 and records an event (R385). -/
def lastCounter (m ic : Nat) (s : State) : State :=
  if ic = 0xFFFFFFFF then raise .icExhausted srcSup (leBytes 4 m) (onCtx m (fun c => { c with icExhausted := true }) s) else s

/-- An APDU whose tag has verified under the current key: its counter is classified (R383, R385, R386). -/
def acceptCurrent (m : Nat) (e : Q2Entry) (signed : Bool) (plain : PlainApdu) (s : State) : State :=
  match ctxOf s m with
  | none => s
  | some c =>
    let cls := icClass c.icHi c.icMap e.apdu.ic
    let s := onCtx m (fun c => icTake c e.apdu.ic) (verified m s)
    match cls with
    | .replay => s.onSess fun b => { b with replay := inc32 b.replay }
    | .repeated =>
      pushQ3 { meter := m, jseq := s.pair.jseq, ic := e.apdu.ic, repeated := true, signed := signed, entry := e, plain := plain }
        (frameContact m e s)
    | _ =>
      parseAccepted m e signed plain (lastCounter m e.apdu.ic (frameContact m e s))

/-- An APDU that verified under the previous key only (R384). -/
def acceptPrevious (m : Nat) (e : Q2Entry) (signed : Bool) (plain : PlainApdu) (s : State) : State :=
  match ctxOf s m with
  | none => s
  | some c =>
    let s := verified m s
    if c.prevIc < e.apdu.ic then
      parseAccepted m e signed plain
        (lastCounter m e.apdu.ic (frameContact m e (onCtx m (fun c => { c with prevIc := e.apdu.ic }) s)))
    else
      (onCtx m (fun c => { c with replays := w16 (c.replays + 1) }) s).onSess fun b => { b with replay := inc32 b.replay }

/-- Whether the substitute test root is in force (R663). -/
def testRoot (s : State) : Bool := s.pocket.root != 0

/-- A key of a meter's suite, unwrapped for its index under the root in force (R381, R670). -/
def meterKey (s : State) (m : Nat) (c : MeterCtx) (wrapped : Nat) : List Byte :=
  (Config.unwrapKey (testRoot s) s.pocket.serial m wrapped).take (if c.suite = 2 then 32 else 16)

/-- The security control byte: suite, authentication, encryption and key-set bits (CA1). -/
def controlByte (a : Apdu) : Byte := BitVec.ofNat 8 (a.suite % 16 + 16 * bit a.authBit + 32 * bit a.encBit + 64 * bit a.keySetBit)

/-- The IV: system title, then invocation counter (R381). -/
def apduIv (a : Apdu) : List Byte := leBytes 8 a.title ++ beBytes 4 a.ic

/-- The plaintext of a general-glo-ciphering APDU under an encryption key and the meter's authentication key, where its 12-byte tag
verifies; with the encryption bit clear it is authenticated only (R380, R381; log entry 24). -/
def openUnder (ek ak : List Byte) (a : Apdu) : Option (List Byte) :=
  let n := a.body.length - 12
  let text := a.body.take n
  let tag := leNat (a.body.drop n)
  let head := controlByte a :: ak
  if a.body.length < 12 then none
  else if a.encBit then gcmOpen 12 ek (apduIv a) head text tag
  else if gmacOk 12 ek (apduIv a) (head ++ text) tag then some text
  else none

/-- The plaintext of a meter's APDU under one of its wrapped keys (R381, R384). -/
def openApdu (s : State) (m : Nat) (c : MeterCtx) (wrapped : Nat) (a : Apdu) : Option (List Byte) :=
  openUnder (meterKey s m c wrapped) (meterKey s m c c.wrapAk) a

/-- IG4 on a general-glo-ciphering APDU: under the current key, and within 180,000 mc of a replacement under the previous one (R380,
R381, R383–R385, R671). -/
def cipheredIn (m : Nat) (e : Q2Entry) (signed : Bool) (s : State) : State :=
  match ctxOf s m with
  | none => s
  | some c =>
    if c.wrapTest != testRoot s then
      setSticky 0x06C 0x20 ((s.onPocket fun p => { p with unwrapFails := inc32 p.unwrapFails }).onSess
        fun b => { b with noKey := inc32 b.noKey })
    else if c.icExhausted then countAuthFail s
    else if e.apdu.suite != c.suite || !e.apdu.authBit || e.apdu.keySetBit then countAuthFail s
    else
      match openApdu s m c c.wrapEk e.apdu with
      | some b => acceptCurrent m e signed (readApdu b) s
      | none =>
        match openApdu s m c c.wrapPrevEk e.apdu with
        | some b =>
          if c.prevHeld && s.key < c.keyChangeKey + keySpan then acceptPrevious m e signed (readApdu b) s else tagFailure m s
        | none => tagFailure m s

/-- IG3 and IG4 on one entry (R378–R385). -/
def stage (e : Q2Entry) (s : State) : State :=
  match meterOf s e with
  | none => s.onSess fun b => { b with unknownTitle := inc32 b.unknownTitle, joining := b.joining ++ [e] }
  | some m =>
    match ctxOf s m with
    | none => s
    | some c =>
      let s := takeHot m s
      if c.state == .retired then s.onSess fun b => { b with retiredDrop := inc32 b.retiredDrop }
      else if sessionAtParent s c then s.onSess fun b => { b with forward := b.forward ++ [{ e with child := m }] }
      else if !c.keysPresent then s.onSess fun b => { b with noKey := inc32 b.noKey }
      else if e.apdu.tag == 0xDF then
        if c.icExhausted then countAuthFail s
        else if c.suite == 2 then s.onSess fun b => { b with sigFail := inc32 b.sigFail }
        else if c.suite != 1 then countAuthFail s
        else s.onSess fun b => { b with sigWait := b.sigWait ++ [{ meter := m, entry := e }] }
      else if c.signReq then s.onSess fun b => { b with unsignedRefused := inc32 b.unsignedRefused }
      else if e.apdu.tag == 0xDB then cipheredIn m e false s
      else countAuthFail s

/-- SESSION_STAGE: the next entry of Q2 passes IG3 to IG5 or is set aside; while Q3 refuses an APDU the stage stalls (R48, R369, R371,
R378–R391, R401, R403). -/
def execSessionStage (dt : Nat) (s : State) : Outcome State Fault Refusal :=
  let s := tick dt s
  if ingestRuns s && s.sess.apdus < apduLimit s && s.sess.q3Held.isEmpty then
    match nextApdu s with
    | (.run e, s) => .next (refreshPressure (stage e (s.onSess fun b => { b with apdus := b.apdus + 1 })))
    | (_, s) => .next s
  else .next s

/-- ECDSA_VERIFY: the signed APDU that has waited longest is verified, `ok` being the verdict on its signature, then its content handled
(R380–R382, R401); a signed plaintext APDU carries no counter. -/
def execEcdsaVerify (dt : Nat) (ok : Bool) (s : State) : Outcome State Fault Refusal :=
  let s := tick dt s
  if ingestRuns s && s.sess.sigs < 20000 && s.sess.q3Held.isEmpty then
    match s.sess.sigWait with
    | [] => .next s
    | w :: rest =>
      let s := s.onSess fun b => { b with sigWait := rest, sigs := b.sigs + 1 }
      let known := (((ctxOf s w.meter).map (·.signPub)).getD 0) != 0
      if !(ok && known) then .next (refreshPressure (s.onSess fun b => { b with sigFail := inc32 b.sigFail }))
      else
        let s := s.onSess fun b => { b with sigOk := inc32 b.sigOk }
        if w.entry.apdu.signedCiphered then .next (refreshPressure (cipheredIn w.meter w.entry true s))
        else if plainTag w.entry.apdu.body then
          .next (refreshPressure (parseAccepted w.meter w.entry true (readApdu w.entry.apdu.body)
            (frameContact w.meter w.entry (verified w.meter s))))
        else .next (refreshPressure (countAuthFail s))
  else .next s

/-- Firmware pushes an unpacked frame back onto Q2, its frame where it stood in staging (R371). -/
def pushBack (e : Q2Entry) (s : State) : State :=
  (countPush 2 s.sess.q2 s.sess.q2Held s).onSess fun b =>
    let (ring, held) := pushOrHold (Config.ringDepth 2) b.q2 b.q2Held e
    { b with q2 := ring, q2Held := held }

/-- FIRMWARE_UNPACK: firmware unpacks a frame that the lookup has set aside and pushes it back onto Q2, or drops it (R331, R371). -/
def execFirmwareUnpack (dt : Nat) (s : State) : Outcome State Fault Refusal :=
  let s := tick dt s
  if ingestRuns s then
    match s.sess.unpackWait with
    | [] => .next s
    | e :: rest =>
      let s := s.onSess fun b => { b with unpackWait := rest }
      if e.security || !e.fwUnpackable then .next (refreshPressure (s.onSess fun b => { b with notDlms := inc32 b.notDlms }))
      else .next (pushBack { e with notUnpacked := false } s)
  else .next s

/-! ### IG6: normalisation (R392–R400) -/

/-- The TAI ns of a date-time, by its deviation or the local-time rule (R84, R392); null for one whose clock status marks it
invalid or doubtful. -/
def timeOf (s : State) (pflags : BitVec 8) : Axdr → Option Nat
  | .dateTime cs dev unspec status =>
    if status.getLsbD 0 || status.getLsbD 1 then none
    else
      let utc := if unspec then localToUtc s.cfg.act (cs / 100)
        else (if pflags.getLsbD 0 then (cs / 100 : Int) - dev * 60 else (cs / 100 : Int) + dev * 60).toNat
      some (taiOfUtc s utc * 1000000000 + cs % 100 * 10000000)
  | _ => none

/-- How an APDU's timestamps are placed (R104, R105). -/
inductive Placing
  | byMeter | unverified | shift (pt : Int)
deriving DecidableEq, Repr

/-- Places by an offset and a guard (R104, R106). -/
def placeBy (off : Int) (guardMc : Nat) : Placing := if off.natAbs < guardMc * mc then .byMeter else .shift off

/-- Whether CLK_OFFSET has been measured within the last 24 h, by the wall time of CLK_OFFSET_KEY (R105). -/
def clkFresh (s : State) (c : MeterCtx) : Bool := c.clkSet && s.reported ≤ (keyToWall s c.clkOffsetKey).value + ofS 86400

/-- The placing of an APDU that carries no meter time (R105). -/
def placeLast (s : State) (c : MeterCtx) (guardMc : Nat) : Placing :=
  if clkFresh s c then placeBy c.clkOffset guardMc else .unverified

/-- 10 to a power. -/
def pow10 (n : Nat) : Nat := 10 ^ n

/-- Division by a positive number, rounded half away from zero. -/
def roundHalfAway (a : Int) (b : Nat) : Int :=
  let q : Int := ((a.natAbs * 2 + b) / (2 * b) : Nat)
  if a < 0 then -q else q

/-- The value of a raw integer in milli-units, and whether it saturated or was rounded (R393). -/
def scale (tag : Nat) (scaler raw : Int) : Int × Bool × Bool :=
  let e := (if flatTags.contains tag then 0 else scaler) + 3
  if 0 ≤ e then
    let v := raw * pow10 e.toNat
    if v < -(2 ^ 63 : Nat) then (-(2 ^ 63 : Nat), true, false)
    else if (2 ^ 63 : Nat) ≤ v then ((2 ^ 63 : Nat) - 1, true, false)
    else (v, false, false)
  else
    let d := pow10 (-e).toNat
    (roundHalfAway raw d, false, raw % d != 0)

/-- One record of a column (R393–R396): `ts` its interval start, `own` that the arrival stamp timed it. -/
def meterRecord (s : State) (q : Parsed) (c : ParseCol) (x : Axdr) (kind ts : Nat) (own unver alert : Bool) (pl : Placing) :
    Record :=
  let (value, sat, rnd) := match x with
    | .int tag v => scale tag c.scaler v
    | _ => (0, false, false)
  let key0 := keyOfTai s ts
  let (key, tai, shifted) := match own, pl with
    | false, .shift off =>
      let k := ((key0 : Int) - off).toNat
      (k, taiOfKey s k, true)
    | _, _ => (key0, ts, false)
  let unv := unver || pl == .unverified
  let e := q.entry
  { meter := q.meter, channel := c.channel
    flags := BitVec.ofNat 16 (bit (flaggedCycle s key) + 2 * bit shifted + 4 * bit unv + 64 * bit e.unwindowed + 128 * bit q.signed
      + 512 * bit rnd + 1024 * bit sat) ||| kindBits kind
    startTai := tai, startKey := key, value := value, quality := BitVec.ofNat 16 (64 * bit alert), src := e.src
    hops := e.hops, residenceUs := e.residenceUs, entryRc := if e.fromChild then e.entryRc else s.rc, arrivalKey := e.key, arrivalTai := e.tai }

/-- The records of rows, in order, from the row before (R391, R392). -/
def rowRecords (s : State) (q : Parsed) (p : ParseProfile) (pl : Placing) : List (List Axdr) → Option (Nat × Bool) → List Record
  | [], _ => []
  | row :: rest, prev =>
    let pairs := p.cols.zip row
    let clock := (pairs.find? fun r => r.1.role == 2).map (·.2)
    let said := clock.bind (timeOf s p.pflags)
    let doubtful := match clock with
      | some (.dateTime ..) => said.isNone
      | _ => false
    let (ts, own, unver) : Nat × Bool × Bool := match said, prev with
      | some t, _ => (t, false, false)
      | none, some (t, o) => (t + p.captureS * 1000000000, o, doubtful)
      | none, none => (q.entry.tai, true, true)
    let start := if p.pflags.getLsbD 4 then ts - p.captureS * 1000000000 else ts
    let alert := pairs.any fun r => r.1.role == 3 && (match r.2 with | .int _ v => v != 0 | _ => false)
    (pairs.filter fun r => r.1.role == 1).map (fun r => meterRecord s q r.1 r.2 r.1.kind start own unver alert pl)
      ++ rowRecords s q p pl rest (some (ts, own))

/-- Removes within one APDU the records that repeat a CHANNEL and START_TAI (R398); the second component counts them. -/
def dedup : List Record → List Record → List Record × Nat
  | [], acc => (acc.reverse, 0)
  | r :: rest, acc =>
    if acc.any fun a => a.channel == r.channel && a.startTai == r.startTai then
      let (l, n) := dedup rest acc
      (l, n + 1)
    else dedup rest (r :: acc)

/-- Pushes a meter's records onto Q4: each takes SEQ in push order, which LAST_SEQ keeps (R397). -/
def pushMeterRecords (m : Nat) (recs : List Record) (s : State) : State :=
  recs.foldl (fun s r =>
    let n := s.sess.seq
    let s := (pushQ4 { r with seq := n } s).onSess fun b => { b with seq := inc32 n }
    onCtx m (fun c => { c with lastSeq := n }) (s.onHosts fun h => { h with recordsOut := inc32 h.recordsOut })) s

/-- Whether IG6 holds records for the Yoke: Active, with a partner InSync (R400). -/
def holdsForYoke (s : State) : Bool := s.pair.state == .active && s.pair.partner == some .inSync && s.pair.mirroring

/-- Sends the records of an APDU on: at once, or held until the Yoke has acknowledged its counter, or while an earlier APDU of the
meter is held (R369, R398–R400). -/
def sendOn (q : Parsed) (recs : List Record) (s : State) : State :=
  let (recs, dups) := dedup recs []
  let s := s.onSess fun b => { b with dupRecord := w32 (b.dupRecord + dups) }
  if (holdsForYoke s && s.pair.ackedJseq < q.jseq) || s.sess.held.any (fun h => h.meter == q.meter) then
    s.onSess fun b => { b with held := b.held ++ [{ jseq := q.jseq, key := s.key, meter := q.meter, recs := recs }] }
  else pushMeterRecords q.meter recs s

/-- Releases the held records whose delta an acknowledgement covers (R400, R736). -/
def releaseAcked (s : State) : State :=
  let go := s.sess.held.filter fun h => h.jseq ≤ s.pair.ackedJseq
  go.foldl (fun s h => pushMeterRecords h.meter h.recs s)
    (s.onSess fun b => { b with held := b.held.filter fun h => s.pair.ackedJseq < h.jseq })

/-- Records of rows that carry no meter time (R105). -/
def rowsWithoutTime (q : Parsed) (rows : List (List Axdr)) (s : State) : State :=
  let c := (ctxOf s q.meter).getD {}
  let p := parseProfile s c.parseProfile
  sendOn q (rowRecords s q p (placeLast s c p.guardMc) rows none) s

/-- The placing of an APDU by the meter time it carries, and the context's new offset (R104, R105). -/
def placeTime (q : Parsed) (t : Axdr) (s : State) : Placing × State :=
  let c := (ctxOf s q.meter).getD {}
  let p := parseProfile s c.parseProfile
  match timeOf s p.pflags t with
  | some tai =>
    let off := (keyOfTai s tai : Int) - q.entry.key
    (placeBy off p.guardMc,
     onCtx q.meter (fun c => { c with clkOffset := off, clkOffsetKey := q.entry.key, clkSet := true }) s)
  | none => (placeLast s c p.guardMc, s)

/-- A block of a datablock response (R389). -/
def takeBlock (q : Parsed) (invoke block : Nat) (last : Bool) (raw : List Byte) (s : State) : State :=
  let c := (ctxOf s q.meter).getD {}
  let except := fun (s : State) => parseDrop q.meter (onCtx q.meter (fun c => { c with db := {} }) s)
  let go := fun (db : DbState) (s : State) =>
    let db := { db with next := block + 1, raw := db.raw ++ raw, lastKey := s.key }
    if 65535 < db.raw.length then except s
    else if last then
      let s := onCtx q.meter (fun c => { c with db := {} }) s
      match readData db.raw with
      | none => parseDrop q.meter s
      | some (rows, compact) =>
        if s.fleet.reqs.any (fun o => o.meter == q.meter && o.invoke == invoke) then
          s.onSess fun b => { b with fleetIn := b.fleetIn ++ [(q.meter, invoke, true, rowInts rows)] }
        else if rowsFit (parseProfile s c.parseProfile) rows then
          rowsWithoutTime q rows (if compact then s.onSess fun b => { b with parseExcept := inc32 b.parseExcept } else s)
        else parseDrop q.meter s
    else onCtx q.meter (fun c => { c with db := db }) s
  if c.db.active then
    if c.db.invoke == invoke && c.db.next == block then go c.db s
    else if block == 1 then go { active := true, invoke := invoke } (except s)
    else except s
  else if block == 1 then go { active := true, invoke := invoke } s
  else parseDrop q.meter s

/-- IG6 on one APDU (R389–R400). -/
def normalise (q : Parsed) (s : State) : State :=
  if q.repeated then s.onSess fun b => { b with dupApdu := inc32 b.dupApdu }
  else
    match q.plain with
    | .notification t row =>
      let (pl, s) := placeTime q t s
      let p := parseProfile s ((ctxOf s q.meter).getD {}).parseProfile
      sendOn q (rowRecords s q p pl [row] none) s
    | .getResponse _ rows | .compact _ rows => rowsWithoutTime q rows s
    | .datablock i b l raw => takeBlock q i b l raw s
    | .event t v =>
      let (pl, s) := placeTime q t s
      let p := parseProfile s ((ctxOf s q.meter).getD {}).parseProfile
      match p.cols.find? (fun c => c.role == 4), timeOf s p.pflags t with
      | some c, some tai => sendOn q [meterRecord s q c v 3 tai false false false pl] s
      | some c, none => sendOn q [meterRecord s q c v 3 q.entry.tai true true false pl] s
      | none, _ => s
    | .fleetAnswer _ _ _ | .bad => s

/-- NORMALISE: the cluster that normalises turns the APDU at the head of Q3 into records on Q4; it stalls while Q4 refuses a push (R35,
R48, R49, R394, R403). -/
def execNormalise (dt : Nat) (s : State) : Outcome State Fault Refusal :=
  let s := tick dt s
  if ingestRuns s && workTakes s .normalise 3 && s.sess.q4Held.isEmpty then
    match s.sess.q3 with
    | [] => .next s
    | q :: _ =>
      let s := popQ3 s
      .next (refreshPressure (if (ctxOf s q.meter).isSome then normalise q s else s))
  else .next s

/-- PAIR_HOLD_TIMEOUT: no acknowledgement within 1 mc; the records are released, the partner is told SYNC_LOST and mirroring
stops (R400, R740). -/
def execPairHoldTimeout (dt : Nat) (s : State) : Outcome State Fault Refusal :=
  let s := tick dt s
  match s.sess.held with
  | [] => .next s
  | h :: _ =>
    if ingestRuns s && h.key + mc ≤ s.key then
      let held := s.sess.held
      let s := s.onSess fun b => { b with held := [] }
      let s := held.foldl (fun s h => pushMeterRecords h.meter h.recs s) s
      if !holdsForYoke s then .next s
      else
      let s := s.onPair fun p =>
        { p.send .syncLost with
            holdReleases := inc32 p.holdReleases, mirroring := false, lostSent := true, journalOpen := false, journal := [] }
      .next (setAlarm 0x400 (raise .syncLost 0x60 [] s))
    else .next s

/-! ### The events of a context -/

/-- DATABLOCK_TIMEOUT: an assembly without a block for 3,000 mc is discarded (R389). -/
def execDatablockTimeout (dt meter : Nat) (s : State) : Outcome State Fault Refusal :=
  let s := tick dt s
  match ctxOf s meter with
  | none => .next s
  | some c =>
    if ingestRuns s && c.db.active && c.db.lastKey + 3000 * mc ≤ s.key then
      .next (parseDrop meter (onCtx meter (fun c => { c with db := {} }) s))
    else .next s

/-- PREV_KEY_EXPIRE: 180,000 mc after a key change the previous key is dropped (R384). -/
def execPrevKeyExpire (dt meter : Nat) (s : State) : Outcome State Fault Refusal :=
  let s := tick dt s
  match ctxOf s meter with
  | none => .next s
  | some c =>
    if s.pwr.stage == .running && c.prevHeld && c.keyChangeKey + keySpan ≤ s.key then
      .next (onCtx meter (fun c => { c with prevHeld := false, wrapPrevEk := 0 }) s)
    else .next s

/-- CONTEXT_WRITEBACK: a changed context reaches the store (R375). -/
def execContextWriteback (dt meter : Nat) (s : State) : Outcome State Fault Refusal :=
  let s := tick dt s
  if itemsRun s && (tfind s.sess.dirty meter).isSome then .next (writeBack meter s) else .next s

/-- BURST_CREDIT_UPDATE: a second after the last update the credit falls or rises by the difference from 250,000 (R401). -/
def execBurstCreditUpdate (dt : Nat) (s : State) : Outcome State Fault Refusal :=
  let s := tick dt s
  if stageAlive s && s.sess.creditRc + ofS 1 ≤ s.rc then
    .next (s.onSess fun b =>
      { b with credit := min 1500000 (b.credit + 250000 - b.apdus), rate := b.apdus, apdus := 0, sigs := 0, creditRc := s.rc })
  else .next s

/-! ### METER commands (R406–R412) -/

/-- A meter context's 512 bytes with its key fields zero (R373, R409, R418, R581). -/
def ctxBytes (m : Nat) (c : MeterCtx) : List Byte :=
  let st := match c.state with
    | .unknown => 0 | .joining => 1 | .active => 2 | .drifting => 3 | .lost => 4 | .retired => 5
  let cf := bit c.keysPresent + 2 * bit c.direct + 4 * bit c.pinned + 8 * bit c.wur + 16 * bit c.signReq + 32 * bit c.atParent
    + 64 * bit c.icExhausted + 128 * bit c.prevHeld
  let z := fun n => List.replicate n (0 : Byte)
  leBytes 8 c.title ++ leBytes 4 m ++ leBytes 1 st ++ leBytes 1 cf ++ leBytes 1 c.linkProfile ++ leBytes 1 c.parseProfile
    ++ leBytes 1 c.veeProfile ++ leBytes 1 c.suite ++ leBytes 1 c.kind ++ leBytes 1 c.misses ++ leBytes 4 c.icHi
    ++ leBytes 4 c.icMap.toNat ++ leBytes 4 c.prevIc ++ leBytes 2 c.wakeAddr ++ leBytes 2 c.authFails ++ leBytes 4 c.hostref
    ++ leBytes 8 c.addr ++ leBytes 8 c.nextKey ++ leBytes 8 c.lastContact ++ leBytesI 8 c.clkOffset ++ leBytes 8 c.clkOffsetKey
    ++ leBytes 8 c.keyChangeKey ++ leBytes 8 c.admitKey ++ leBytes 4 c.frames ++ leBytes 2 c.duplicates ++ leBytes 2 c.replays
    ++ leBytes 4 c.lastSeq ++ z 20 ++ z 120 ++ leBytes 64 c.signPub
    ++ (if c.db.active then (Config.dbStateBytes c.db.invoke c.db.next c.db.raw.length c.db.lastKey ++ z 16).take 16 else z 16)
    ++ leBytes 4 c.account ++ leBytes 1 c.pushId ++ leBytes 1 c.pushState ++ leBytes 1 c.pushTries ++ leBytes 1 c.campSlot
    ++ leBytes 8 c.pushKey ++ leBytes 4 c.campUid ++ leBytes 1 c.campState ++ leBytes 1 c.campRound ++ leBytes 1 c.campTries
    ++ leBytes 1 c.failReason ++ leBytes 2 c.missing ++ z 2 ++ leBytes 4 c.bitmapRef ++ leBytes 8 c.campKey
    ++ leBytes 4 (c.tokenTid + c.tokenCs * 0x1000000) ++ leBytes 1 c.tokenState ++ z 19
    ++ leBytes 8 c.modulus ++ leBytes 4 c.rateCap ++ leBytes 1 c.veeShape ++ leBytes 1 (bit c.genReg) ++ z 50
    ++ z 56

/-- Whether a context holds a system title, or will once the words that wait have taken effect. -/
def titleHeld (s : State) (title : Nat) : Bool :=
  s.sess.ctxs.any (fun p => p.2.title == title && (ctxToBe s p.1).isSome)
    || (s.fab.heldWords ++ s.fab.shadow).any fun w => match w with
      | .context _ (.enrol c) => c.title == title
      | _ => false

/-- METER_ADMIT's work: the context by its control word; an admission beyond the contexts held records an event (R6, R51, R407, R379,
R884). -/
def meterAdmit (t : Taken) (s : State) : State × Reply :=
  let b := t.payload
  let m := fld b 0 4
  let cf := fld b 25 1
  if s.sess.usable ≤ m then (raise .admitRefused srcSup (leBytes 4 m) s, answer .nospace)
  else if (ctxToBe s m).isSome then (s, answer .busy)
  else if titleHeld s (fld b 4 8) || 2 < fld b 20 1 || 15 < fld b 21 1 || 63 < fld b 22 1
      || 31 < fld b 23 1 || 2 < fld b 24 1 || cf &&& 0xC1 != 0 then (s, answer .badarg)
  else
    let c : MeterCtx :=
      { title := fld b 4 8, state := .joining, addr := fld b 12 8, kind := fld b 20 1, linkProfile := fld b 21 1
        parseProfile := fld b 22 1, veeProfile := fld b 23 1, suite := fld b 24 1, direct := hasBit cf 1, pinned := hasBit cf 2
        wur := hasBit cf 3, signReq := hasBit cf 4
        atParent := hasBit cf 5 || (s.cfg.startCfg.role == some .field && s.cfg.act.parent)
        wakeAddr := fld b 26 2, hostref := fld b 28 4, admitKey := s.key }
    (postWord (.context m (.enrol c)) s, answer .ok)

/-- METER_ADMIT (R407). -/
def execMeterAdmit (dt : Nat) (host : Fin 4) (s : State) : Outcome State Fault Refusal :=
  .next (runCmd 0x0701 host meterAdmit (tick dt s))

/-- METER_RETIRE's work, by the context's control word; with an admission that still waits the two make one word (R51, R56, R408). -/
def meterRetire (t : Taken) (s : State) : State × Reply :=
  let m := fld t.payload 0 4
  let mode := fld t.payload 4 1
  match ctxToBe s m with
  | none => (s, answer .badarg)
  | some c =>
    if mode = 0 then
      (postWord (.context m (if (ctxOf s m).isSome then .retire else .enrol { c with state := .retired })) s, answer .ok)
    else if mode = 1 && c.state == .retired then (postWord (.context m .free) s, answer .ok)
    else (s, answer .badarg)

/-- METER_RETIRE (R408). -/
def execMeterRetire (dt : Nat) (host : Fin 4) (s : State) : Outcome State Fault Refusal :=
  .next (runCmd 0x0702 host meterRetire (tick dt s))

/-- METER_READ's work (R409). -/
def meterRead (t : Taken) (s : State) : State × Reply :=
  let m := fld t.payload 0 4
  match ctxOf s m with
  | none => (s, answer .badarg)
  | some c => (s, okWith (ctxBytes m c))

/-- METER_READ (R409). -/
def execMeterRead (dt : Nat) (host : Fin 4) (s : State) : Outcome State Fault Refusal :=
  .next (runCmd 0x0703 host meterRead (tick dt s))

/-- A profile as bytes spell it (R390). -/
def parseOfBytes (b : List Byte) : ParseProfile :=
  { pflags := BitVec.ofNat 8 (fld b 1 1), captureS := fld b 4 4, guardMc := fld b 8 4, maxRows := fld b 12 2
    cols := (List.range (fld b 0 1)).map fun k =>
      { channel := fld b (16 + 8 * k) 2, role := fld b (18 + 8 * k) 1, scaler := fldI b (19 + 8 * k) 1, type := fld b (20 + 8 * k) 1
        unit := fld b (21 + 8 * k) 1, kind := fld b (22 + 8 * k) 1 } }

/-- Whether a profile stands within R390 and R410. -/
def parseFieldsOk (p : ParseProfile) : Bool :=
  p.cols.length ≤ 32 && p.pflags.toNat < 32 && 1 ≤ p.captureS && p.captureS ≤ 86400 && p.guardMc ≤ 180000 && 1 ≤ p.maxRows
    && p.maxRows ≤ 1024 && p.cols.all (fun c => c.role ≤ 4 && c.kind ≤ 3 && -12 ≤ c.scaler && c.scaler ≤ 12 && c.channel < 0x8000)
    && (p.cols.filter fun c => c.role == 2).length ≤ 1

/-- Whether the bytes of a profile stand within R390 and R410, their reserved bytes zero (R19). -/
def parseProfileOk (b : List Byte) : Bool :=
  parseFieldsOk (parseOfBytes b) && zeroAt b 2 2 && zeroAt b 14 2 && (List.range 32).all (fun k => zeroAt b (23 + 8 * k) 1)

/-- PARSE_SET's work (R410, R53). -/
def parseSet (t : Taken) (s : State) : State × Reply :=
  let n := fld t.payload 0 1
  let b := t.payload.drop 16
  if 63 < n || !parseProfileOk b then (s, answer .badarg) else (postWord (.parse n (parseOfBytes b)) s, answer .ok)

/-- PARSE_SET (R410). -/
def execParseSet (dt : Nat) (host : Fin 4) (s : State) : Outcome State Fault Refusal :=
  .next (runCmd 0x0704 host parseSet (tick dt s))

/-- The sixteen counts of INGEST_COUNTERS (R411). -/
def ingestCounts (s : State) : List Nat :=
  let b := s.sess
  [s.hosts.framesIn, s.hosts.apdusAuth, b.notDlms, b.unknownTitle, b.noKey, b.authFail, b.replay, b.dupApdu, b.dupRecord, b.sigOk,
   b.sigFail, b.unsignedRefused, b.parseExcept, s.hosts.recordsOut, b.stageFull, b.pressDiscard]

/-- INGEST_COUNTERS' work (R411). -/
def ingestCounters (_t : Taken) (s : State) : State × Reply := (s, okWith ((ingestCounts s).flatMap (leBytes 4)))

/-- INGEST_COUNTERS (R411). -/
def execIngestCounters (dt : Nat) (host : Fin 4) (s : State) : Outcome State Fault Refusal :=
  .next (runCmd 0x0705 host ingestCounters (tick dt s))

/-- METER_FIND's work (R412). -/
def meterFind (t : Taken) (s : State) : State × Reply :=
  match s.sess.ctxs.find? (fun p => p.2.title == fld t.payload 0 8) with
  | some (m, _) => (s, okWith (leBytes 4 m ++ leBytes 4 0))
  | none => (s, answer .badarg)

/-- METER_FIND (R412). -/
def execMeterFind (dt : Nat) (host : Fin 4) (s : State) : Outcome State Fault Refusal :=
  .next (runCmd 0x0706 host meterFind (tick dt s))

/-- INGEST.STAT (R405) with a host's W1C bits. -/
def ingestStat (s : State) (w1c : Word) : Word :=
  let fill := min 100 (ratioOf (stagingUsed s * 100) (stagingSlots s))
  BitVec.ofNat 32 (fill + 256 * bit s.sess.pressure + 512 * bit (250000 < s.sess.rate) + 2048 * bit s.sess.loading
    + 4096 * bit (20000 < s.sess.sigWait.length) + 65536 * ratioOf (s.sess.credit * 100) 1500000) ||| (w1c &&& 0x400)

/-- The count of usable contexts (R886). -/
def usableContexts (s : State) : Nat :=
  let c := s.cfg.startCfg
  let mib := 1048576
  let cost := (512 + c.stagingMib + c.arch.versionMib + c.fleetMib + (if c.pair.enable then c.pair.journalMib else 0)) * mib
    + s.arch.installed.length * s.arch.blocks * s.arch.pagesPerBlock * 4
  let n := (s.fab.dramMib * mib - cost) / 1664 / 1024 * 1024
  match c.role with
  | none => 0
  | some .field => min 65536 n
  | some .aggregation => min 1048576 n

end Sys2Proof.Machine
end

