-- ==== Sys2Proof/Machine/Vee.lean ====
section
/-! DEFINITION. Stage IG7: rules, versions, estimates, host edits ("Validation, estimation and editing"). -/

namespace Sys2Proof.Machine

open Host (Outcome)

/-! ### Bits of OUTCOME and QUALITY (R429, R430) -/

/-- OUTCOME bits that are failures: 1, 2 and 4–11 (R429). -/
def failureBits : BitVec 16 := 0x0FF6

/-- ORIGIN of a record (VQ1). -/
def originOf (r : Record) : Nat := (r.quality.toNat / 256) % 4

/-- VERSION of a record (VQ3). -/
def versionOf (r : Record) : Nat := r.quality.toNat / 2048

/-- Whether a record stands (VQ2). -/
def standsOf (r : Record) : Bool := r.quality.getLsbD 10

/-- KIND of a record (RF12). -/
def kindOf (r : Record) : Nat := r.flags.toNat / 4096

/-- Whether a rule of OUTCOME has failed. -/
def failed (out : BitVec 16) : Bool := out &&& failureBits != 0

/-- Adds one to a VEE counter, by its place in R450. -/
def countVee (k : Nat) (s : State) : State := s.onVee fun v => { v with counts := bumpAt v.counts k }

/-! ### What the archive holds of an interval (R431, R527) -/

/-- The records of the archive that is mapped, in page order, and those on their way to it. -/
def allRecords (s : State) : List Record :=
  (s.arch.pages.flatMap fun p => match p.data with
    | .records l => if p.lost || tfind s.arch.map p.lpn != some p.seq then [] else l.map (·.record)
    | _ => []) ++ s.arch.openRecs.map (·.record) ++ s.vee.q5 ++ s.vee.q5Held

/-- The records of one interval. -/
def recordsOf (s : State) (m ch tai : Nat) : List Record :=
  (allRecords s).filter fun r => r.meter == m && r.channel == ch && r.startTai == tai

/-- The record that a reader takes of several: the later VERSION, and of one VERSION the later in the archive (R527). -/
def latestRec : List Record → Option Record
  | [] => none
  | r :: rest =>
    match latestRec rest with
    | none => some r
    | some q => if versionOf q < versionOf r then some r else some q

/-- The channel slots of a meter. -/
def slotsOfMeter (s : State) (m : Nat) : List ChSlot := tget s.vee.meters m []

/-- The slot of a channel. -/
def slotOf (s : State) (m ch : Nat) : Option ChSlot := (slotsOfMeter s m).find? fun c => c.channel == ch

/-- Changes one slot of a meter. -/
def onSlot (m ch : Nat) (f : ChSlot → ChSlot) (s : State) : State :=
  s.onVee fun v => { v with meters := tput v.meters m ((tget v.meters m []).map fun c => if c.channel == ch then f c else c) }

/-- Whether an interval start is older than VERSION_DAYS (R527). -/
def olderThanIndex (s : State) (tai : Nat) : Bool := tai + s.cfg.act.arch.versionDays * 86400 * 1000000000 < s.tai

/-- The index entry of an interval. -/
def indexEntry (s : State) (m ch tai : Nat) : Option VerEntry :=
  s.vee.index.find? fun e => e.meter == m && e.channel == ch && e.tai == tai

/-- The versions of an interval, as IG7 uses the index (R527); none when it holds no version. -/
def heldVersions (s : State) (m ch tai : Nat) : Option VerEntry :=
  if olderThanIndex s tai then none
  else
    match indexEntry s m ch tai with
    | some e => if e.high.isSome then some e else none
    | none =>
      match slotOf s m ch with
      | some c => if c.key.isSome && c.since ≤ tai && tai ≤ c.tai then some { meter := m, channel := ch, tai := tai, high := some 0 } else none
      | none => none

/-- The greatest VERSION that a held entry states. -/
def highOf (e : Option VerEntry) : Option Nat := e.bind (·.high)

/-- Entries that the version index has room for (R527). -/
def indexRoom (s : State) : Nat := s.cfg.startCfg.arch.versionMib * 65536

/-- Writes an index entry: entries older than VERSION_DAYS leave, and of a full table the one with the oldest START_TAI (R527). -/
def putIndex (e : VerEntry) (s : State) : State :=
  let rest := s.vee.index.filter fun x => !(x.meter == e.meter && x.channel == e.channel && x.tai == e.tai) && !olderThanIndex s x.tai
  if rest.length < indexRoom s then s.onVee fun v => { v with index := rest ++ [e] }
  else
    let old := rest.foldl (fun a x => min a x.tai) e.tai
    match rest.find? (fun x => x.tai == old) with
    | some x => s.onVee fun v => { v with index := rest.erase x ++ [e], indexDrops := inc32 v.indexDrops }
    | none => s.onVee fun v => { v with index := rest, indexDrops := inc32 v.indexDrops }

/-- Rank of an origin: host edit, then meter, then estimate (R433). -/
def originRank (o : Nat) : Nat := if o = 2 then 2 else if o = 0 then 1 else 0

/-- Gives a record its VERSION, STANDS and SECOND_READING, and keeps the index (R430, R431, R433, R527). -/
def assignVersion (origin : Nat) (stands : Option Bool) (second : Bool) (r : Record) (s : State) : Record × State :=
  let e := heldVersions s r.meter r.channel r.startTai
  let ver := match highOf e with
    | some h => h + 1
    | none => 0
  let st := stands.getD (match e with
    | some x => originRank x.standOrigin ≤ originRank origin
    | none => true)
  let old := (indexEntry s r.meter r.channel r.startTai).isSome
  let entry : VerEntry :=
    { meter := r.meter, channel := r.channel, tai := r.startTai, high := some ver
      standOrigin := if st then origin else (e.map (·.standOrigin)).getD origin
      standVer := if st then ver else (e.map (·.standVer)).getD ver }
  let s := if old || e.isSome || origin ≠ 0 then putIndex entry s else s
  ({ r with
      outcome := if second && e.isSome then r.outcome ||| 0x2000 else r.outcome
      quality := (r.quality &&& 0xFF) ||| BitVec.ofNat 16 (origin * 256 + bit st * 1024 + ver * 2048) }, s)

/-! ### Emission (R413, R659) -/

/-- A record's 64 bytes (R394). -/
def recordBytes (r : Record) : List Byte :=
  leBytes 4 r.meter ++ leBytes 2 r.channel ++ leBytes 2 r.flags.toNat ++ leBytes 8 r.startTai ++ leBytes 8 r.startKey
    ++ leBytesI 8 r.value ++ leBytes 2 r.quality.toNat ++ leBytes 2 r.outcome.toNat ++ leBytes 1 r.src ++ leBytes 1 r.hops
    ++ leBytes 4 r.residenceUs ++ leBytes 4 r.seq ++ List.replicate 18 0

/-- Pushes a record onto Q5 and Q6, or holds it for a ring that refuses it, and into the record taps (R49, R51, R403, R659); CNT.RECORDS_EMITTED counts it. -/
def emitRecord (r : Record) (s : State) : State :=
  let s := countPush 6 s.vee.q6 s.vee.q6Held (countPush 5 s.vee.q5 s.vee.q5Held s)
  let s := s.onVee fun v =>
    let (q5, h5) := pushOrHold (Config.ringDepth 5) v.q5 v.q5Held r
    let (q6, h6) := pushOrHold (Config.ringDepth 6) v.q6 v.q6Held r
    { v with q5 := q5, q5Held := h5, q6 := q6, q6Held := h6 }
  let s := s.onHosts fun h => { h with recordsEmitted := inc32 h.recordsEmitted }
  (s.hosts.rings.filter fun q => q.source == 3).foldl (fun s q => tapRing q.number (recordBytes r) s) s

/-- The next SEQ, for a record that IG7 or cluster 2 creates (R435). -/
def takeSeq (s : State) : Nat × State := (s.sess.seq, s.onSess fun b => { b with seq := inc32 b.seq })

/-- A record that IG7 creates, of the KIND and SRC of a model record (R435). -/
def createdLike (q : Record) (tai key : Nat) (value : Int) (outcome : BitVec 16) (s : State) : Record × State :=
  let (n, s) := takeSeq s
  ({ meter := q.meter, channel := q.channel, flags := kindBits (kindOf q), startTai := tai, startKey := key, value := value
     outcome := outcome, src := q.src, seq := n, entryRc := s.rc, arrivalKey := s.key, arrivalTai := s.tai }, s)

/-! ### Rules (R416, R417, R424–R428) -/

/-- A VEE profile in force (R416). -/
def veeProfile (s : State) (n : Nat) : VeeProfile := tget s.cfg.act.vee n {}

/-- The VEE profile of a meter's records (R415). -/
def profileOf (s : State) (m : Nat) : VeeProfile :=
  if m == ownMeter then veeProfile s s.cfg.act.ownVee else veeProfile s (((ctxOf s m).map (·.veeProfile)).getD 0)

/-- Whether a rule applies to a channel and KIND (R417). -/
def ruleApplies (u : VeeRule) (ch kind : Nat) : Bool := ch &&& u.chMask == u.channel &&& u.chMask && u.kindMask.getLsbD kind

/-- The rules that keep a slot (R420). -/
def stateful (code : Nat) : Bool := code == 1 || code == 2 || code == 4 || code == 5 || code == 6

/-- Inserts into a rising list. -/
def insertInt (x : Int) : List Int → List Int
  | [] => [x]
  | y :: l => if x ≤ y then x :: y :: l else y :: insertInt x l

/-- The median; of an even count the mean of the middle two (R424 states no rounding: log entry 15). -/
def median (l : List Int) : Int :=
  let t := l.foldr insertInt []
  let n := t.length
  if n % 2 = 1 then t.getD (n / 2) 0 else openDiv (t.getD (n / 2 - 1) 0 + t.getD (n / 2) 0) 2

/-- What ROLLOVER finds (R426). -/
inductive Roll
  | noBaseline | implausible | ambiguous | plain (d : Int) | wrapped (d : Int)
deriving DecidableEq, Repr

/-- The consumption between a register record and its slot's baseline (R426, R427). -/
def rollover (c : MeterCtx) (sl : ChSlot) (r : Record) : Roll :=
  match sl.reg with
  | none => .noBaseline
  | some prev =>
    if c.modulus ≠ 0 && (r.value < 0 || (c.modulus : Int) ≤ r.value) then .implausible
    else
      let raw := r.value - prev
      let fits := (if c.modulus = 0 then [0] else [0, 1, 2]).filter fun (k : Nat) =>
        let d := raw + k * c.modulus
        0 ≤ d && (c.rateCap = 0 || d * 3600000000000 ≤ (c.rateCap : Int) * 1000 * ((r.startTai : Int) - sl.regTai))
      match fits with
      | [] => .implausible
      | [0] => .plain raw
      | [1] => .wrapped (raw + c.modulus)
      | [2] => .plain (raw + 2 * c.modulus)
      | _ => .ambiguous

/-- Whether SUM_CHECK fires for a consumption (R428). -/
def sumMismatch (s : State) (p : VeeProfile) (u : VeeRule) (sl : ChSlot) (r : Record) (d : Int) : Bool :=
  match slotOf s r.meter u.p1.toNat with
  | none => false
  | some c =>
    let vals := c.meas.filter fun q => sl.regKey ≤ q.1 && q.1 < r.startKey
    let period := max 1 p.periodS * 1000000000
    if vals.length * period == r.startTai - sl.regTai then
      let sum := vals.foldl (fun a q => a + q.2) 0
      decide ((d - sum).natAbs > (u.p2 * 1000).toNat)
    else false

/-- Whether TIMESTAMP fires (VR9). -/
def timestampBad (s : State) (p : VeeProfile) (u : VeeRule) (r : Record) : Bool :=
  r.arrivalKey + u.p1.toNat * mc < r.startKey || r.startTai + u.p2.toNat * 86400 * 1000000000 < r.arrivalTai
    || (kindOf r == 0 && (r.startTai % 1000000000 != 0 || utcOf s (r.startTai / 1000000000) % max 1 p.periodS != 0))

/-- What the rules have found so far. -/
structure Found where
  out : BitVec 16 := 0
  gap : Nat := 0
  replace : Bool := false
  mark : Bool := false
  zeros : List (Nat × Nat) := []
deriving DecidableEq, Repr

/-- Evaluates one rule of the profile that applies, by its ordinal (R423, R424, R426–R428). -/
def evalRule (s : State) (p : VeeProfile) (c : MeterCtx) (sl : Option ChSlot) (r : Record) (n : Nat) (u : VeeRule) (f : Found) :
    Found :=
  let hit := fun (bitNo : Nat) (fires : Bool) =>
    if fires then { f with out := f.out ||| BitVec.ofNat 16 (2 ^ bitNo), replace := f.replace || u.action == 1 } else f
  let noHist := { f with out := f.out ||| 0x1000 }
  let later := match sl with
    | some x => (match x.key with | some k => k < r.startKey | none => true)
    | none => true
  let hist := match sl with
    | some x => later && x.key.isSome
    | none => false
  let x := sl.getD {}
  if stateful u.code && !later then f
  else if stateful u.code && !hist then
    (if u.code == 6 && sl.isSome then { noHist with zeros := tput f.zeros n (bit (decide (r.value.natAbs ≤ u.p2.toNat))) } else noHist)
  else
    match u.code with
    | 1 =>
      let per := max 1 p.periodS * 1000000000
      let k := ((r.startTai - x.tai) + per / 2) / per - 1
      if 1 ≤ k then { (hit 0 true) with gap := max f.gap k } else f
    | 2 => if x.clean.length < 5 then noHist else hit 1 (median x.clean * u.p1 + u.p2 * 1000000 < r.value * 1000)
    | 3 => hit 2 (r.value < -(u.p1 * 1000))
    | 4 =>
      match rollover c x r with
      | .noBaseline => noHist
      | .implausible => hit 5 true
      | .ambiguous => hit 4 true
      | .plain _ => f
      | .wrapped _ => hit 3 true
    | 5 =>
      match rollover c x r with
      | .noBaseline => noHist
      | .plain d | .wrapped d => hit 6 (sumMismatch s p u x r d)
      | _ => f
    | 6 =>
      let k := if r.value.natAbs ≤ u.p2.toNat then tget x.zeros n 0 + 1 else 0
      { (hit 7 (u.p1.toNat ≤ k)) with zeros := tput f.zeros n k }
    | 7 => hit 8 (!c.genReg && decide (u.p1 * 1000 < r.value))
    | 8 =>
      let byCode := kindOf r == 3 && r.value % 1000 == 0 && ((u.p1 != 0 && r.value / 1000 == u.p1) || (u.p2 != 0 && r.value / 1000 == u.p2))
      { (hit 9 (r.flags.getLsbD 1 || r.flags.getLsbD 2 || byCode || x.mark)) with mark := f.mark || byCode }
    | 9 => hit 10 (timestampBad s p u r)
    | 10 => hit 11 (r.value < u.p1 * 1000 || u.p2 * 1000 < r.value)
    | _ => f

/-- Evaluates every applicable rule in entry order (R424). -/
def evalRules (s : State) (p : VeeProfile) (c : MeterCtx) (sl : Option ChSlot) (r : Record) : Found :=
  let f := (p.rules.zipIdx).foldl (fun f q =>
    if ruleApplies q.1 r.channel (kindOf r) then evalRule s p c sl r q.2 q.1 f else f) ({} : Found)
  if failed f.out then { f with out := f.out ||| 0x8000 } else f

/-- Whether a record of a channel takes a slot: a stateful rule applies to it, or SUM_CHECK names its channel (R420, R428). -/
def wantsSlot (p : VeeProfile) (ch kind : Nat) : Bool :=
  p.rules.any fun u => (stateful u.code && ruleApplies u ch kind) || (u.code == 5 && kind == 0 && u.p1.toNat == ch)

/-- Takes a slot for a channel that has none, while one of the eight is free (R420). -/
def takeSlot (p : VeeProfile) (r : Record) (s : State) : State :=
  let l := slotsOfMeter s r.meter
  if wantsSlot p r.channel (kindOf r) && l.length < 8 && (slotOf s r.meter r.channel).isNone then
    s.onVee fun v => { v with meters := tput v.meters r.meter (l ++ [{ channel := r.channel, since := r.startTai }]) }
  else s

/-- Drops measured values that no register baseline needs any more (R420). -/
def pruneMeas (m : Nat) (s : State) : State :=
  let l := slotsOfMeter s m
  match (l.filter fun c => c.reg.isSome).map (·.regKey) with
  | [] => s
  | k :: ks =>
    let lo := ks.foldl min k
    s.onVee fun v => { v with meters := tput v.meters m (l.map fun c => { c with meas := c.meas.filter fun q => lo ≤ q.1 }) }

/-- The slot after a record (R423, R427). -/
def updateSlot (r : Record) (f : Found) (measured : Bool) (s : State) : State :=
  match slotOf s r.meter r.channel with
  | none => s
  | some x =>
    let later := match x.key with
      | some k => decide (k < r.startKey)
      | none => true
    if !later || f.out.getLsbD 10 then s
    else
      let ok := !failed f.out
      let s := onSlot r.meter r.channel (fun x =>
        { x with
          key := some r.startKey, tai := r.startTai, value := r.value, wasClean := ok
          clean := if ok then (x.clean ++ [r.value]).drop (x.clean.length + 1 - 7) else x.clean
          zeros := f.zeros.foldl (fun z q => tput z q.1 q.2) x.zeros
          meas := if measured && kindOf r == 0 then x.meas ++ [(r.startKey, r.value)] else x.meas
          reg := if kindOf r == 1 then some r.value else x.reg
          regKey := if kindOf r == 1 then r.startKey else x.regKey
          regTai := if kindOf r == 1 then r.startTai else x.regTai }) s
      if kindOf r == 1 then pruneMeas r.meter s else s

/-! ### Estimation (R436–R440) -/

/-- The 672 weights of a load shape (R439). -/
def shapeWeights (s : State) (n : Nat) : List Nat := tget s.cfg.act.shapes n (List.replicate 672 1)

/-- The slot of the local week of a TAI instant in ns (R439, R84). -/
def weekSlot (s : State) (tai : Nat) : Nat :=
  let loc := localOf s.cfg.act (utcOf s (tai / 1000000000))
  ((loc / 86400 + 3) % 7) * 96 + loc % 86400 / 900

/-- The shape that a meter's gaps are filled from (VM3, else VH5). -/
def shapeOf (p : VeeProfile) (c : MeterCtx) : Option Nat :=
  if c.veeShape != 0xFF then some c.veeShape else if p.shape != 0xFF then some p.shape else none

/-- Estimate of one interval from the shape (R438), when its conditions hold. -/
def shapeEstimate (s : State) (p : VeeProfile) (c : MeterCtx) (clean : List Int) (tai : Nat) : Option Int :=
  match shapeOf p c with
  | none => none
  | some n =>
    if (p.periodS == 900 || p.periodS == 1800 || p.periodS == 3600) && 5 ≤ clean.length then
      let w := shapeWeights s n
      let k := p.periodS / 900
      let at_ := weekSlot s tai
      let wj := (List.range k).foldl (fun a i => a + w.getD ((at_ + i) % 672) 0) 0
      let total := w.foldl (· + ·) 0
      some (roundHalfAway (median clean * wj * (672 / k : Nat)) (max 1 total))
    else none

/-- Linear estimate i of n (R437). -/
def linearEstimate (vb va : Int) (i n : Nat) : Int := roundHalfAway (vb * (n + 1) + (va - vb) * i) (n + 1)

/-- Emits one estimate of an interval that holds no version (R436). -/
def emitEstimate (like : Record) (tai : Nat) (v : Int) (s : State) : State :=
  let (r, s) := createdLike like tai (keyOfTai s tai) v 1 s
  let (r, s) := assignVersion 1 (some true) true r s
  countVee 16 (emitRecord r s)

/-- The starts of n missing intervals after an interval start. -/
def missingStarts (p : VeeProfile) (from_ n : Nat) : List Nat :=
  (List.range n).map fun i => from_ + (i + 1) * p.periodS * 1000000000

/-- Notes the missing intervals in the index (R527). -/
def noteMissing (r : Record) (l : List Nat) (s : State) : State :=
  l.foldl (fun s t =>
    if (indexEntry s r.meter r.channel t).isSome || (heldVersions s r.meter r.channel t).isSome then s
    else putIndex { meter := r.meter, channel := r.channel, tai := t } s) s

/-- Fills a gap before the record that closes it (R436–R438). -/
def fillGap (p : VeeProfile) (c : MeterCtx) (before : ChSlot) (r : Record) (f : Found) (s : State) : State :=
  if f.gap = 0 then s
  else
    let n := f.gap
    let starts := missingStarts p before.tai n
    let s := noteMissing r starts s
    if !p.estimate then s
    else if p.profileMax < n then countVee 4 s
    else
      let linear : Bool := n ≤ p.linearMax && !failed f.out && before.wasClean
      let vals := starts.zipIdx.map fun q =>
        if linear then some (linearEstimate before.value r.value (q.2 + 1) n)
        else if p.estimateShape then shapeEstimate s p c before.clean q.1 else none
      if vals.any Option.isNone then countVee 4 s
      else
        (starts.zip vals).foldl (fun s q =>
          if (heldVersions s r.meter r.channel q.1).isSome then s else emitEstimate r q.1 (q.2.getD 0) s) s

/-! ### VALIDATE -/

/-- The OUTCOME bits that R450 counts, with the places of their counters. -/
def countedBits : List (Nat × Nat) :=
  [(0, 3), (1, 5), (2, 6), (3, 7), (4, 8), (5, 9), (6, 10), (7, 11), (8, 12), (9, 13), (10, 14), (11, 15)]

/-- Counts what the rules found (R450). -/
def countFound (f : Found) (s : State) : State :=
  let s := countVee (if failed f.out then 2 else 1) s
  countedBits.foldl (fun s q => if f.out.getLsbD q.1 then countVee q.2 s else s) s

/-- A reading beyond 32 versions (R434). -/
def versionFull (m : Nat) (s : State) : State :=
  let s := countVee 19 s
  let day := s.tai / (86400 * 1000000000)
  if tfind s.vee.fullDay m == some day then s
  else raise .versionFull 0x04 (leBytes 4 m) (s.onVee fun v => { v with fullDay := tput v.fullDay m day })

/-- Whether a record has been validated by a child (R415). -/
def fromChild (r : Record) : Bool := r.flags.getLsbD 8 || (r.meter / 65536 == 0xFFFE)

/-- The marks of clock setting that a record clears and sets (R425). -/
def clockMarks (p : VeeProfile) (r : Record) (f : Found) (s : State) : State :=
  let s := if p.rules.any (fun u => u.code == 8 && ruleApplies u r.channel (kindOf r)) then
    onSlot r.meter r.channel (fun x => { x with mark := false }) s else s
  if f.mark then s.onVee fun v => { v with meters := tput v.meters r.meter ((tget v.meters r.meter []).map fun x => { x with mark := true }) }
  else s

/-- IG7 on one record (R415–R440). -/
def validateRecord (r : Record) (s : State) : State :=
  let s := countVee 0 s
  if fromChild r then emitRecord r s
  else
    let p := profileOf s r.meter
    let e := heldVersions s r.meter r.channel r.startTai
    let lastReading := latestRec ((recordsOf s r.meter r.channel r.startTai).filter fun q => originOf q == 0)
    if e.isSome && (lastReading.map (·.value)) == some r.value then countVee 18 s
    else if (highOf e).any (31 ≤ ·) then versionFull r.meter s
    else if p.rules.isEmpty then
      let (r, s) := assignVersion 0 none false { r with outcome := 0x4000 } s
      emitRecord r s
    else
      let c := (ctxOf s r.meter).getD {}
      let s := touch r.meter (takeSlot p r s)
      let before := slotOf s r.meter r.channel
      let f := evalRules s p c before r
      let s := countFound f s
      let s := clockMarks p r f s
      let s := fillGap p c (before.getD {}) r f s
      let clean := (before.map (·.clean)).getD []
      let r := { r with outcome := f.out }
      if f.replace && 5 ≤ clean.length && !(highOf e).any (30 ≤ ·) then
        let edited := (e.map (·.standOrigin)) == some 2
        let (r1, s) := assignVersion 0 (some false) true r s
        let s := if (indexEntry s r.meter r.channel r.startTai).isSome then s
          else putIndex { meter := r.meter, channel := r.channel, tai := r.startTai, high := some (versionOf r1) } s
        let s := updateSlot r f false (emitRecord r1 s)
        let (r2, s) := createdLike r r.startTai r.startKey (median clean) (f.out &&& (failureBits ||| 0x8000)) s
        let (r2, s) := assignVersion 1 (some !edited) true r2 s
        countVee 16 (emitRecord r2 s)
      else
        let (r1, s) := assignVersion 0 none true r s
        updateSlot r f (standsOf r1) (emitRecord r1 s)

/-- Takes the head of Q4 away; a record held behind it is pushed (R48, R403). -/
def popQ4 (s : State) : State :=
  s.onSess fun b =>
    let (ring, held) := refill (Config.ringDepth 4) (b.q4.drop 1) b.q4Held
    { b with q4 := ring, q4Held := held }

/-- VALIDATE: the cluster that validates takes the record at the head of Q4; it stalls while Q5 or Q6 refuses a push (R35, R49, R403,
R413, R414). -/
def execValidate (dt : Nat) (s : State) : Outcome State Fault Refusal :=
  let s := tick dt s
  if itemsRun s && workTakes s .validate 4 && s.vee.q5Held.isEmpty && s.vee.q6Held.isEmpty then
    match s.sess.q4 with
    | [] => .next s
    | r :: _ => .next (validateRecord r (popQ4 s))
  else .next s

/-! ### VEE commands (R444–R450) -/

/-- A profile as bytes spell it (R416). -/
def veeOfBytes (b : List Byte) : VeeProfile :=
  { estimate := hasBit (fld b 1 1) 0, estimateShape := hasBit (fld b 1 1) 1, linearMax := fld b 2 2, profileMax := fld b 4 2
    shape := fld b 6 1, periodS := fld b 8 4
    rules := (List.range (fld b 0 1)).map fun k =>
      let o := 16 + 16 * k
      { code := fld b o 1, action := fld b (o + 1) 1, channel := fld b (o + 2) 2, chMask := fld b (o + 4) 2
        kindMask := BitVec.ofNat 8 (fld b (o + 6) 1), p1 := fldI b (o + 8) 4, p2 := fldI b (o + 12) 4 } }

/-- KINDs that the rule table permits a rule, as a mask (R424). -/
def kindsOf (code : Nat) : BitVec 8 :=
  match code with
  | 1 | 3 | 6 | 7 => 0x01
  | 2 => 0x05
  | 4 | 5 => 0x02
  | 8 | 9 => 0xFF
  | 10 => 0x07
  | _ => 0

/-- Whether a rule entry stands within R416, R417, R424 and R445. -/
def veeRuleOk (u : VeeRule) : Bool :=
  1 ≤ u.code && u.code ≤ 10 && u.kindMask &&& ~~~(kindsOf u.code) == 0
    && (u.action == 0 || (u.action == 1 && (u.code == 2 || u.code == 3 || u.code == 10)))
    && (match u.code with
        | 2 => 1000 ≤ u.p1 && u.p1 ≤ 100000 && 0 ≤ u.p2
        | 3 => 0 ≤ u.p1
        | 5 => 0 ≤ u.p1 && u.p1 ≤ 0xFFFF && 0 ≤ u.p2
        | 6 => 1 ≤ u.p1 && u.p1 ≤ 65535 && 0 ≤ u.p2
        | 9 => 0 ≤ u.p1 && u.p1 ≤ 180000 && 1 ≤ u.p2 && u.p2 ≤ 3650
        | 10 => u.p1 ≤ u.p2
        | _ => true)

/-- Whether a profile stands within R416 and R445. -/
def veeFieldsOk (p : VeeProfile) : Bool :=
  p.rules.length ≤ 64 && p.linearMax ≤ 96 && p.profileMax ≤ 8640 && p.linearMax ≤ p.profileMax && (p.shape ≤ 63 || p.shape == 0xFF)
    && 60 ≤ p.periodS && p.periodS ≤ 86400 && 86400 % p.periodS == 0 && p.rules.all veeRuleOk

/-- Whether the bytes of a profile stand within R416 and R445, their reserved bytes zero (R19). -/
def veeProfileOk (b : List Byte) : Bool :=
  let n := fld b 0 1
  veeFieldsOk (veeOfBytes b) && fld b 1 1 < 4 && zeroAt b 7 1 && zeroAt b 12 4 && (List.range n).all (fun k => zeroAt b (23 + 16 * k) 1)
    && zeroAt b (16 + 16 * n) (16 * (64 - n))

/-- VEE_PROFILE_SET's work (R445, R53). -/
def veeProfileSet (t : Taken) (s : State) : State × Reply :=
  let b := t.payload.drop 16
  if 31 < fld t.payload 0 1 || !veeProfileOk b then (s, answer .badarg)
  else (postWord (.vee (fld t.payload 0 1) (veeOfBytes b)) s, answer .ok)

/-- VEE_PROFILE_SET (R445). -/
def execVeeProfileSet (dt : Nat) (host : Fin 4) (s : State) : Outcome State Fault Refusal :=
  .next (runCmd 0x0801 host veeProfileSet (tick dt s))

/-- VEE_SHAPE_SET's work (R446). -/
def veeShapeSet (t : Taken) (s : State) : State × Reply :=
  let w := (List.range 672).map fun k => fld t.payload (8 + 4 * k) 4
  if 63 < fld t.payload 0 1 || w.all (· == 0) then (s, answer .badarg)
  else (postWord (.shape (fld t.payload 0 1) w) s, answer .ok)

/-- VEE_SHAPE_SET (R446). -/
def execVeeShapeSet (dt : Nat) (host : Fin 4) (s : State) : Outcome State Fault Refusal :=
  .next (runCmd 0x0802 host veeShapeSet (tick dt s))

/-- VEE_METER_SET's work: the declarations change by commit (R419, R444, R447). -/
def veeMeterSet (t : Taken) (s : State) : State × Reply :=
  let b := t.payload
  let m := fld b 0 4
  if (ctxOf s m).isNone || (63 < fld b 20 1 && fld b 20 1 != 0xFF) || 1 < fld b 21 1 || (fld b 8 8 != 0 && fld b 16 4 == 0) then
    (s, answer .badarg)
  else
    (postWord (.veeMeter m (fld b 8 8) (fld b 16 4) (fld b 20 1) (hasBit (fld b 21 1) 0)) s, answer .ok)

/-- VEE_METER_SET (R447). -/
def execVeeMeterSet (dt : Nat) (host : Fin 4) (s : State) : Outcome State Fault Refusal :=
  .next (runCmd 0x0803 host veeMeterSet (tick dt s))

/-- VEE_EDIT's work; an edited interval holds no measured value for SUM_CHECK (R428, R441–R443, R448). -/
def veeEdit (h : Fin 4) (t : Taken) (s : State) : State × Reply :=
  let b := t.payload
  let m := fld b 0 4
  let ch := fld b 4 2
  let mode := fld b 6 1
  let tai := fld b 8 8
  if 1 < mode || (mode = 1 && fld b 16 8 != 0) then (s, answer .badarg)
  else if m == ownMeter then (s, answer .locked)
  else if (ctxOf s m).isNone then (s, answer .badarg)
  else
    match heldVersions s m ch tai with
    | none => (s, answer .stale)
    | some e =>
      if (highOf (some e)).any (31 ≤ ·) then (s, answer .nospace)
      else
        let recs := recordsOf s m ch tai
        let like := (latestRec recs).getD { meter := m, channel := ch, startTai := tai, startKey := keyOfTai s tai }
        let work := fun (origin : Nat) (v : Int) (s : State) =>
          let (r, s) := createdLike like tai like.startKey v 0x2000 s
          let (r, s) := assignVersion origin (some true) true r s
          (r, emitRecord r s)
        if mode = 0 then
          let (r, s) := work 2 (fldI b 16 8) s
          let s := onSlot m ch (fun c => { c with meas := c.meas.filter fun q => q.1 != like.startKey }) (countVee 17 s)
          let s := raise .veeEdit (0x20 + h.val)
            (leBytes 1 h.val ++ leBytes 4 m ++ leBytes 2 ch ++ leBytes 8 tai ++ leBytes 1 (versionOf r) ++ leBytes 4 (fld b 24 4)) s
          (s, okWith (leBytes 1 (versionOf r) ++ leBytes 3 0 ++ leBytes 4 r.seq))
        else if e.standOrigin != 2 then (s, answer .badarg)
        else
          match latestRec (recs.filter fun q => originOf q != 2) with
          | none => (s, answer .badarg)
          | some q =>
            let (r, s) := work (originOf q) q.value s
            (s, okWith (leBytes 1 (versionOf r) ++ leBytes 3 0 ++ leBytes 4 r.seq))

/-- VEE_EDIT (R448). -/
def execVeeEdit (dt : Nat) (host : Fin 4) (s : State) : Outcome State Fault Refusal :=
  .next (runCmd 0x0804 host (veeEdit host) (tick dt s))

/-- The measured record of a channel with the greatest start before an instant, or the least at or after it. -/
def readingNear (s : State) (m ch tai : Nat) (after : Bool) : Option Record :=
  ((allRecords s).filter fun r => r.meter == m && r.channel == ch && originOf r == 0 && !failed r.outcome
      && (if after then tai ≤ r.startTai else r.startTai < tai)).foldl (fun acc r => match acc with
    | none => some r
    | some q => if (if after then r.startTai < q.startTai else q.startTai ≤ r.startTai) then some r else some q) none

/-- VEE_ESTIMATE's work (R449). -/
def veeEstimate (t : Taken) (s : State) : State × Reply :=
  let b := t.payload
  let m := fld b 0 4
  let ch := fld b 4 2
  let lo := fld b 8 8
  let hi := fld b 16 8
  let p := profileOf s m
  let per := max 1 p.periodS * 1000000000
  let n := (hi - lo + per - 1) / per
  match slotOf s m ch with
  | none => if s.tai < hi then (s, answer .stale) else (s, answer .badarg)
  | some sl =>
    if s.tai < hi then (s, answer .stale)
    else if p.profileMax < n || lo % 1000000000 != 0 || utcOf s (lo / 1000000000) % max 1 p.periodS != 0 then (s, answer .badarg)
    else
      let c := (ctxOf s m).getD {}
      let vb := readingNear s m ch lo false
      let va := readingNear s m ch hi true
      let starts := ((List.range n).map fun i => lo + i * per)
      let val := fun (i t : Nat) => match vb, va with
        | some x, some y => if n ≤ p.linearMax then some (linearEstimate x.value y.value (i + 1) n) else shapeEstimate s p c sl.clean t
        | _, _ => shapeEstimate s p c sl.clean t
      let like := match va, vb with
        | some y, _ => y
        | none, some x => x
        | none, none => { meter := m, channel := ch }
      let todo := (starts.zipIdx.filter fun q => (heldVersions s m ch q.1).isNone).map fun q => (q.1, val q.2 q.1)
      if !todo.isEmpty && todo.all (fun q => q.2.isNone) then
        (raise .estimateNone 0x04 (leBytes 4 m ++ leBytes 2 ch) s, okWith (leBytes 4 0 ++ leBytes 4 0))
      else
        let good := todo.filter fun q => q.2.isSome
        (good.foldl (fun s q => emitEstimate like q.1 (q.2.getD 0) s) s, okWith (leBytes 4 good.length ++ leBytes 4 0))

/-- VEE_ESTIMATE (R449). -/
def execVeeEstimate (dt : Nat) (host : Fin 4) (s : State) : Outcome State Fault Refusal :=
  .next (runCmd 0x0805 host veeEstimate (tick dt s))

/-- VEE_COUNTERS' work (R450). -/
def veeCounters (_t : Taken) (s : State) : State × Reply := (s, okWith (s.vee.counts.flatMap (leBytes 4)))

/-- VEE_COUNTERS (R450). -/
def execVeeCounters (dt : Nat) (host : Fin 4) (s : State) : Outcome State Fault Refusal :=
  .next (runCmd 0x0806 host veeCounters (tick dt s))

end Sys2Proof.Machine
end

