-- ==== Sys2Proof/Machine/Nand.lean ====
section
/-! DEFINITION. Durability on NAND, and what a page that has become durable brings ("Interval archive on raw
NAND"). -/

namespace Sys2Proof.Machine

open Host (Outcome)

/-! ### Durability (R512) -/

/-- Whether the three programs of R512 have completed for a page. -/
def isDurable (s : State) (p : PhysPage) : Bool :=
  let w := max 1 s.arch.wlPages
  let lo := p.page / w * w
  p.programmed &&
  (List.range w).all (fun k => s.arch.pagesPerBlock ≤ lo + k ||
    s.arch.pages.any fun x => x.die == p.die && x.blk == p.blk && x.page == lo + k && x.programmed) &&
  s.arch.pages.any fun x => x.group == p.group && x.blk == p.blk && x.page == p.page && x.ns == 3 && x.programmed

/-- Whether cluster 2 takes a record from the commit log: KIND 2, 3 or 7 (R455). -/
def toCommitLog (r : Record) : Bool := kindOf r == 2 || kindOf r == 3 || kindOf r == 7

/-- Entries that the commit log of 16 MiB holds (R455). -/
def commitLogDepth : Nat := 262144

/-- A record that a child brought is committed: its position no longer keeps an acknowledgement back (R556). -/
def committedFrom (r : Record) (s : State) : State :=
  match r.brought with
  | none => s
  | some (c, p) => onChild c (fun x => { x with uncommitted := x.uncommitted.filter (· != p) }) s

/-- A record is committed: counted, copied to the commit log, and free for the uplink (R512, R525, R553). -/
def commitRecord (r : Record) (s : State) : State :=
  let s := s.onHosts fun h => { h with recordsCommitted := inc32 h.recordsCommitted }
  let s := s.onVee fun v =>
    let (ring, held) := refill (Config.ringDepth 6) (v.q6.erase r) v.q6Held
    { v with q6 := ring, q6Held := held }
  let s := if toCommitLog r then
      s.onArch fun a =>
        let l := a.commitLog ++ [r]
        if commitLogDepth < l.length then { a with commitLog := l.drop 1, logBase := a.logBase + 1 } else { a with commitLog := l }
    else s
  committedFrom r s

/-- Copy A of a system page is durable: the store holds the contexts it lacked, and event records leave the ring for the extension; the FULL
record takes its place at the ring's end and recording resumes (R375, R512, R766, R769). -/
def commitSystem (off : Nat) (d : SysData) (s : State) : State :=
  match d with
  | .contexts l =>
    let first := (off - contextRegion) * 32
    s.onSess fun b =>
      { b with dirty := b.dirty.filter fun e => !(first ≤ e.1 && e.1 < first + 32 && tfind b.ctxs e.1 == tfind l e.1) }
  | .events l =>
    let n := (s.evt.ring.takeWhile l.contains).length
    if n = 0 then s
    else s.onEvt fun v =>
      let rest := v.ring.drop n ++ v.fullRec.toList
      { v with ext := v.ext ++ v.ring.take n, ring := rest, fullRec := none, fullDisc := 0
               copyFrom := if rest.isEmpty then none else some s.rc }
  | .balance c => if s.bal.topo = c.topo && s.bal.feeders = c.feeders then s.onBal fun b => { b with sinceCkpt := false } else s
  | _ => s

/-- Copy B of the system pages whose copy A is durable is written, outside the group of copy A; a page written again meanwhile waits for its
newer copy A (R519, R520). -/
def writeCopiesB (s : State) : State :=
  s.arch.copyB.foldl (fun s c =>
    let drop := fun (s : State) => s.onArch fun a => { a with copyB := a.copyB.filter (· != c) }
    match pageOfLpn s c.2 with
    | some p =>
      match p.data with
      | .system d =>
        if p.seq ≠ c.1 then drop s
        else if !p.durable then s
        else match writeCopy (c.2 + copyPages) d false (some p.group) s with
          | some (_, s) => drop s
          | none => s
      | _ => drop s
    | none => drop s) s

/-- A page that has become durable: its records are committed unless they were before (R512). -/
def commitPage (p : PhysPage) (s : State) : State :=
  let s := s.onArch fun a =>
    { a with pages := a.pages.map fun q =>
        if q.seq = p.seq then
          { q with durable := true
                   commitTai := if q.flags.testBit 1 then q.commitTai else s.tai
                   data := match q.data with
                     | .records l => if q.flags.testBit 1 then .records l
                         else .records (l.map fun x =>
                           { x with commitTai := s.tai, commitRc := s.rc, active := s.pair.state == .solo || s.pair.state == .active })
                     | d => d }
        else q }
  match p.data with
  | .records l => if p.flags.testBit 1 then s else l.foldl (fun s x => commitRecord x.record s) s
  | .system d =>
    let s := if p.flags.testBit 1 then s else s.onArch fun a => { a with written := bumpAt a.written 3 }
    if p.lpn < copyPages && validPage s p then commitSystem p.lpn d s else s
  | _ => s

/-- NEXT_POS_LOCAL: the next position to be committed (R553, R573). -/
def nextPosLocal (s : State) : Nat :=
  let open1 := (s.arch.openRecs.map (·.pos)) ++ (s.arch.pages.filter fun p => !p.durable).flatMap fun p => match p.data with
    | .records l => l.map (·.pos)
    | _ => []
  open1.foldl min s.arch.nextPos

/-- Commits every page that has become durable, in SEQ order, writes the copies B that waited, and acknowledges what children brought;
BEHIND once more than 1,000,000 records are not acknowledged (R519, R571). -/
def commitNew (s : State) : State :=
  let s := writeCopiesB ((s.arch.pages.filter fun p => !p.durable && isDurable s p).foldl (fun s p => commitPage p s) s)
  let s := if s.upl.acked + 1000000 < nextPosLocal s then setSticky 0x064 0x200 s else s
  s.upl.children.foldl (fun s k => ackChild k.1 s) s

/-- What waits for a page waits for the page that replaces it (R519, R522). -/
def replaced (p q : Nat) (s : State) : State :=
  s.onArch fun a =>
    { a with reqs := a.reqs.map fun r => { r with pages := r.pages.map fun x => if x = p then q else x }
             copyB := a.copyB.map fun c => if c.1 = p then (q, c.2) else c }

/-- Programs a page's data at a new place; a system page keeps away from its other copy (R511, R519, R530). -/
def placeAgain (p : PhysPage) (relocated : Bool) (s : State) : Option (Nat × State) :=
  match p.data with
  | .system d => writeCopy p.lpn d relocated (groupOfOther s p.lpn) s
  | _ =>
    let flags := if relocated then p.flags ||| 2 else p.flags
    program { p with flags := flags, stream := if relocated then .relocation else p.stream } none s

/-- Takes a page that has not become durable out of its place and queues its data again (log entry 20). A page of records keeps
its records; a host request waits for the new page. -/
def programAgain (p : PhysPage) (s : State) : State :=
  if p.ns < 3 && validPage s p then
    match placeAgain p (p.flags.testBit 1) s with
    | some (q, s) => replaced p.seq q s
    | none => s
  else s

/-- Closes the open superblocks of a group at a block index (any, for none), and queues what they hold that is not durable
again (log entry 20). -/
def abandonSb (g : Nat) (b : Option Nat) (s : State) : State :=
  let inIt := fun (x : Nat × Nat) => x.1 == g && (match b with | some k => x.2 == k | none => true)
  let hit := s.arch.opens.filter fun o => inIt (o.2.group, o.2.blk)
  let mine := fun (p : PhysPage) => inIt (p.group, p.blk) && !p.durable
  let again := s.arch.pages.filter mine
  let s := s.onArch fun a =>
    { a with opens := a.opens.filter fun o => !hit.contains o
             queues := a.queues.map fun q => (q.1, q.2.filter fun n => !(again.any fun p => p.seq == n)) }
  let s := again.foldl (fun s p => programAgain p s) s
  s.onArch fun a => { a with pages := a.pages.filter fun p => !(again.any (fun q => q.seq == p.seq)) || validPage s p || p.programmed }

end Sys2Proof.Machine
end

