-- ==== Sys2Proof/Machine/Arch.lean ====
section
/-! DEFINITION. The archive at work: packing, flushes, die failure and rebuild, space recovery, patrol, host block requests,
queries, formats and the ARCH commands ("Interval archive on raw NAND"). -/

namespace Sys2Proof.Machine

open Host (Outcome)

/-! ### The record ring (R524–R526) -/

/-- Pages that the ring releases at once: a superblock's worth (R526). -/
def sbWorth (s : State) : Nat := (((groupsOf s).headD []).length - 1) * s.arch.pagesPerBlock

/-- Records of a page. -/
def recsOf (p : PhysPage) : List ArchRec := match p.data with
  | .records l => l
  | _ => []

/-- Before the head reaches the oldest page, the oldest superblock's worth of record pages is trimmed; released records that the
uplink had not acknowledged are counted (R526). -/
def releaseOldest (s : State) : State :=
  let first := recFirst s + s.arch.recHead
  if (tfind s.arch.map first).isNone then s
  else
    let n := min (sbWorth s) (recPages s - s.arch.recHead)
    let gone := s.arch.pages.filter fun p => validPage s p && first ≤ p.lpn && p.lpn < first + n
    let unsent := (gone.flatMap recsOf).filter fun r => s.upl.acked ≤ r.pos
    setSticky 0x060 0x100 ((trimRanges [(first, n)] s).2.onArch fun a => { a with unsent := w32 (a.unsent + unsent.length) })

/-- Writes a page of the record ring at its head. -/
def ringPage (data : PageData) (fill flags : Nat) (s : State) : Option State :=
  let s := releaseOldest s
  match program { lpn := recFirst s + s.arch.recHead, ns := 0, flags := flags, fill := fill, data := data, stream := .records } none s with
  | none => none
  | some (_, s) => some (s.onArch fun a => { a with recHead := (a.recHead + 1) % max 1 (recPages s) })

/-- Writes the open record page. -/
def writeOpen (flags : Nat) (s : State) : Option State :=
  match ringPage (.records s.arch.openRecs) s.arch.openRecs.length flags s with
  | none => none
  | some s => some (s.onArch fun a => { a with openRecs := [] })

/-- Writes the segments and the summaries that wait, on pages of their own TYPE (R524). -/
def writeSide (s : State) : State :=
  let s := if s.arch.segWait.isEmpty then s else (match ringPage (.segments s.arch.segWait) 0 0 s with
    | some s => s.onArch fun a => { a with segWait := [] }
    | none => s)
  if s.arch.sumWait.isEmpty then s
  else match ringPage (.summaries (s.arch.sumWait.take 256)) (min 256 s.arch.sumWait.length) 0 s with
    | some s => s.onArch fun a => { a with sumWait := a.sumWait.drop 256 }
    | none => s

/-- Takes the next record of Q5 into the open page (R524, R553). -/
def packOne (s : State) : State :=
  match s.vee.q5 with
  | [] => s
  | r :: rest =>
    if 256 ≤ s.arch.openRecs.length || !workTakes s .pageMap 5 then s
    else
      let s := s.onVee fun v =>
        let (ring, held) := refill (Config.ringDepth 5) rest v.q5Held
        { v with q5 := ring, q5Held := held }
      s.onArch fun a =>
        { a with openKey := if a.openRecs.isEmpty then s.key else a.openKey
                 openRecs := a.openRecs ++ [{ pos := a.nextPos, record := r }], nextPos := a.nextPos + 1 }

/-- RECORD_PACK (R524, R526, R883). -/
def execRecordPack (dt : Nat) (s : State) : Outcome State Fault Refusal :=
  let s := tick dt s
  if se13Works s then
    let s := packOne (writeSide s)
    .next (if 256 ≤ s.arch.openRecs.length then (writeOpen 0 s).getD s else s)
  else .next s

/-- PAGE_FLUSH (R524, R883): FLUSH_MC after the page's first record arrived. -/
def execPageFlush (dt : Nat) (s : State) : Outcome State Fault Refusal :=
  let s := tick dt s
  if se13Works s && !s.arch.openRecs.isEmpty && s.arch.openKey + s.cfg.act.arch.flushMc * mc ≤ s.key then
    match writeOpen 1 s with
    | some s => .next (flushStripe .records s)
    | none => .next s
  else .next s

/-- PAGE_PROGRAM_DONE: the program at the front of a die's queue ends (R498, R512). After a failed program the block is grown bad
and what is not durable of its superblock is programmed again elsewhere (log entry 20). -/
def execPageProgramDone (dt die : Nat) (ok : Bool) (s : State) : Outcome State Fault Refusal :=
  let s := tick dt s
  let on := nandOn s || (s.pwr.stage == .hem && (match s.pwr.state with | .run | .trim => true | _ => false))
  match on, tget s.arch.queues die [] with
  | true, q :: rest =>
    let s := s.onArch fun a => { a with queues := tput a.queues die rest }
    if ok then
      .next (commitNew (s.onArch fun a => { a with pages := a.pages.map fun p => if p.seq = q then { p with programmed := true } else p }))
    else
      match s.arch.pages.find? (fun p => p.seq == q) with
      | some p => .next (abandonSb p.group (some p.blk) (writeJournal (growBad p.die p.blk s)))
      | none => .next s
  | _, _ => .next s

/-! ### Reads (R502, R511, R514) -/

/-- Bin of AH12 of a codeword corrected by hard decision. -/
def histBin (corr : Nat) : Nat := if corr = 0 then 0 else if 104 < corr then 14 else (corr + 7) / 8

/-- Instants of the last `span` (2⁻³² ns) with the present one. -/
def recent (l : List Nat) (now span : Nat) : List Nat := (l.filter fun t => now < t + span) ++ [now]

/-- Relocates a page: its data go to a new place on the relocation stream, a system page on the stream of its copy (R511, R519, R530, R532; log
entry 450). -/
def relocate (p : PhysPage) (s : State) : State :=
  match placeAgain p true s with
  | some (q, s) =>
    (replaced p.seq q s).onArch fun a => { a with pages := a.pages.map fun x => if x.seq = q then { x with commitTai := p.commitTai } else x }
  | none => s

/-- Both pages of a stripe are lost (R514). -/
def losePages (l : List PhysPage) (s : State) : State :=
  let n := (l.flatMap recsOf).length
  let s := s.onArch fun a =>
    { a with pages := a.pages.map fun q => if l.any (fun p => p.seq == q.seq) then { q with lost := true } else q
             pagesLost := w32 (a.pagesLost + l.length), recordsLost := w32 (a.recordsLost + n) }
  setSticky 0x060 0x80 (raise .archUncorr 0x50 (leBytes 4 ((l.map (·.stripe)).headD 0)) s)

/-- A page of four codewords is read: the bits that hard decision corrected in each, the others being corrected at step 2 or 3, and
the step of R502 at which the read succeeds are counted; at step 4 the page is rebuilt from its stripe to a new place, unless another
page of the stripe is unreadable too (R511, R514). -/
def readPage (p : PhysPage) (corr : List Nat) (step : Nat) (second : Option Nat) (s : State) : State :=
  let hard := (corr.take 4).map histBin
  let bins := if step = 2 || step = 3 then hard ++ List.replicate (4 - hard.length) 15 else hard
  let count := fun (h : List Nat) => bins.foldl (fun h b => bumpAt h b) h
  let s := s.onArch fun a =>
    { a with hist := count a.hist, retryReads := if 2 ≤ step then inc32 a.retryReads else a.retryReads
             softReads := if 3 ≤ step then inc32 a.softReads else a.softReads
             uncorr := if 4 ≤ step then inc32 a.uncorr else a.uncorr }
  let s := onDie p.die (fun d =>
    { d with hist := count d.hist
             reads := (([0, 1, 2].filter fun k => k + 2 ≤ step).foldl (fun r k => bumpAt r k) d.reads) }) s
  if step < 4 then s
  else
    let other := second.bind fun q => s.arch.pages.find? fun x => x.seq == q && x.stripe == p.stripe && x.seq != p.seq
    match other with
    | some x => losePages ([p, x].filter fun y => !y.lost) s
    | none =>
      let s := s.onArch fun a => { a with rebuilds := inc32 a.rebuilds }
      let s := onDie p.die (fun d => { d with reads := bumpAt d.reads 3, recons := recent d.recons s.rc (ofS 3600) }) s
      relocate p s

/-! ### Die failure (R513, R515) -/

/-- A running die rebuild. -/
def rebuilding (s : State) : Bool := s.arch.dies.any fun d => d.2.state == 1

/-- Whether a die is to be declared failed (R513). -/
def dieDue (s : State) (d : DieSt) : Bool :=
  d.state == 0 && (3 ≤ (d.timeouts.filter fun t => s.rc < t + ofS 600).length ||
    16 ≤ (d.recons.filter fun t => s.rc < t + ofS 3600).length)

/-- NAND_OPERATION_TIMEOUT (R513). -/
def execNandOperationTimeout (dt die : Nat) (s : State) : Outcome State Fault Refusal :=
  let s := tick dt s
  if nandOn s then .next (onDie die (fun d => { d with timeouts := recent d.timeouts s.rc (ofS 600) }) s) else .next s

/-- When usable space can no longer hold LA1, LA2 and 65,536 record pages, the host namespace becomes read-only (R530). -/
def checkReadOnly (s : State) : State :=
  if s.arch.state == 2 && dataPages s - ratioOf (dataPages s * s.cfg.startCfg.arch.opPct) 100 < recFirst s + 65536 then
    raise .archReadOnly 0x50 [] (s.onArch fun a => { a with state := 3 })
  else s

/-- A die is declared failed: its group's open superblocks close, and every valid page on it goes to other dies (R513). -/
def failDie (die : Nat) (s : State) : State :=
  let s := onDie die (fun d => { d with state := 1 }) s
  let s := (groupsOf s).zipIdx.foldl (fun s g => if g.1.contains die then abandonSb g.2 none s else s) s
  let s := s.onArch fun a => { a with queues := tdel a.queues die }
  let s := writeJournal ((s.arch.pages.filter fun p => p.die == die && validPage s p).foldl (fun s p => relocate p s) s)
  checkReadOnly (setSticky 0x060 0x40 (raise .dieFail 0x50 (leBytes 4 die) s))

/-- DIE_FAIL (R513): after three timeouts within 10 min or 16 reconstructions within an hour. -/
def execDieFail (dt die : Nat) (s : State) : Outcome State Fault Refusal :=
  let s := tick dt s
  match dieOf s die with
  | none => .next s
  | some d => .next (if archWorks s && dieDue s d then failDie die s else s)

/-- Whether a relocated page is not durable yet. -/
def relocating (s : State) : Bool := s.arch.pages.any fun p => p.flags.testBit 1 && validPage s p && !p.durable

/-- DIE_REBUILD_DONE (R513): no valid page is left on the die and what left it is durable. -/
def execDieRebuildDone (dt die : Nat) (s : State) : Outcome State Fault Refusal :=
  let s := tick dt s
  match dieOf s die with
  | none => .next s
  | some d =>
    if archWorks s && d.state == 1 then
      let left := s.arch.pages.filter fun p => p.die == die && validPage s p
      if left.isEmpty then
        if relocating s then .next (flushStripe .relocation s)
        else .next (writeJournal (onDie die (fun d => { d with state := 2 }) s))
      else .next (left.foldl (fun s p => relocate p s) s)
    else .next s

/-! ### Space recovery (R505, R507, R529, R530) -/

/-- Erase count of a block. -/
def eraseCount (s : State) (d b : Nat) : Nat :=
  match s.arch.erases.find? (fun e => e.1 == (d, b)) with
  | some e => e.2
  | none => 0

/-- One more erase. -/
def countErase (d b : Nat) (s : State) : State :=
  let n := eraseCount s d b + 1
  s.onArch fun a => { a with erases := ((d, b), n) :: a.erases.filter fun e => e.1 != (d, b) }

/-- Superblocks that hold pages and are not open. -/
def fullSbs (s : State) : List (Nat × Nat) :=
  (usedSbs s).filter fun q => !(s.arch.opens.any fun o => (o.2.group, o.2.blk) == q)

/-- The least element of a list by a measure, the earlier one on equality. -/
def leastBy (f : Nat × Nat → Nat) : List (Nat × Nat) → Option (Nat × Nat)
  | [] => none
  | x :: l =>
    match leastBy f l with
    | none => some x
    | some y => if f y < f x then some y else some x

/-- First SEQ of a superblock. -/
def firstSeq (s : State) (q : Nat × Nat) : Nat :=
  match s.arch.pages.find? (fun p => p.group == q.1 && p.blk == q.2) with
  | some p => p.seq
  | none => 0

/-- Whether the erase counts of two good blocks differ by more than 500 (R530). -/
def wearSpread (s : State) : Bool :=
  let good := s.arch.erases.filter fun e => !blockBad s e.1.1 e.1.2
  let hi := good.foldl (fun m e => max m e.2) 0
  let lo := if good.length + s.arch.bad.length < s.arch.dies.length * s.arch.blocks then 0
    else good.foldl (fun m e => min m e.2) hi
  lo + 500 < hi

/-- The victim (R530): the full superblock with the fewest valid pages, the older first SEQ on equality; the least-erased one when
the erase counts differ by more than 500. -/
def pickVictim (s : State) : Option (Nat × Nat) :=
  let full := fullSbs s
  if wearSpread s then leastBy (fun q => ((sbDies s q.1 q.2).map fun d => eraseCount s d q.2).foldl (· + ·) 0) full
  else
    let v := fun q => (validIn s q.1 q.2).length
    match leastBy v full with
    | none => none
    | some x => leastBy (firstSeq s) (full.filter fun q => v q == v x)

/-- Host credits earned per relocated page in foreground collection (R530). -/
def gcCredit (s : State) (v : Nat) (g b : Nat) : Nat :=
  let p := ((sbDies s g b).length - 1) * s.arch.pagesPerBlock
  if v = 0 then 0 else max 1 ((p - v) / v)

/-- Erases a superblock: the pages leave, the erases are counted; a block whose erase fails is grown bad (R498, R507). -/
def eraseSb (g b : Nat) (fails : List Nat) (s : State) : State :=
  let dies := sbDies s g b
  let s := s.onArch fun a =>
    { a with pages := a.pages.filter (fun p => !(p.group == g && p.blk == b)), victim := none }
  let s := dies.foldl (fun s d => if fails.contains d then growBad d b s else countErase d b s) s
  pruneTrims (if dies.any fails.contains then writeJournal s else s)

/-- The streams with a page that is not durable and stands for contents whose older version is on a superblock: until it is durable the older
version is kept, so that a power loss finds the one or the other (R519, R522). -/
def superseding (s : State) (g b : Nat) : List Stream :=
  ((s.arch.pages.filter fun p => !p.durable && p.ns < 3 && s.arch.pages.any fun x => x.group == g && x.blk == b && x.lpn == p.lpn).map
    (·.stream)).eraseDups

/-- SPACE_RECOVERY (R529, R530): a victim's valid pages are queued for relocation; once they are durable elsewhere it is erased.
`fails` are the dies on which the erase fails. -/
def execSpaceRecovery (dt : Nat) (fails : List Nat) (s : State) : Outcome State Fault Refusal :=
  let s := tick dt s
  if se13Works s then
    match s.arch.victim with
    | some (g, b) =>
      let left := validIn s g b
      if !left.isEmpty then .next (left.foldl (fun s p => relocate p s) s)
      else if relocating s then .next (flushStripe .relocation s)
      else if !(superseding s g b).isEmpty then .next ((superseding s g b).foldl (fun s st => flushStripe st s) s)
      else .next (checkReadOnly (eraseSb g b fails s))
    | none =>
      let lvl := gcLevel s
      if lvl = 0 && !wearSpread s then .next s
      else if lvl ≤ 1 && s.rc < s.arch.lastHostWrite + ofMs 100 then .next s
      else
        match pickVictim s with
        | none => .next s
        | some (g, b) =>
          let l := validIn s g b
          let s := s.onArch fun a =>
            { a with victim := some (g, b), credits := if 2 ≤ lvl then a.credits + l.length * gcCredit s l.length g b else a.credits }
          .next (l.foldl (fun s p => relocate p s) s)
  else .next s

/-- The page that patrol reads next: of those mapped, durable and not lost, the one with the least LPN from where patrol stands. -/
def patrolPage (s : State) : Option PhysPage :=
  (s.arch.pages.filter fun p => validPage s p && p.durable && !p.lost && s.arch.patrolNext ≤ p.lpn).foldl (fun acc p => match acc with
    | none => some p
    | some q => if p.lpn < q.lpn then some p else some q) none

/-- PATROL_READ (R505, R532): a pass over the valid pages by rising LPN in every PATROL_DAYS (log entry 455). The next page is read and
relocated when a codeword had 90 or more corrected bits, when it needed step 2 or later, or when its SEQ lies 2³⁰ or more below the
next. -/
def execPatrolRead (dt : Nat) (corr : List Nat) (step : Nat) (second : Option Nat) (s : State) : Outcome State Fault Refusal :=
  let s := tick dt s
  if se13Works s then
    match patrolPage s with
    | none =>
      .next (if s.arch.patrolRc + ofS (86400 * s.cfg.act.arch.patrolDays) ≤ s.rc then
        s.onArch fun a => { a with patrolNext := 0, patrolRc := s.rc } else s)
    | some p =>
      let s := readPage p corr step second (s.onArch fun a => { a with patrolNext := p.lpn + 1 })
      let weak := corr.any (90 ≤ ·) || 2 ≤ step || p.seq + 1073741824 ≤ s.arch.nextSeq
      .next (if weak && step < 4 then relocate p s else s)
  else .next s

/-- Bin of a die temperature (R533). -/
def tempBin (c : Int) : Nat := if c < -35 then 0 else if 120 ≤ c then 32 else ((c + 40) / 5).toNat

/-- NAND_TEMP_READ (R533): 60 s after the last reading, the temperatures of the dies, by die index; none without a feature address. -/
def execNandTempRead (dt : Nat) (temps : List (Nat × Int)) (s : State) : Outcome State Fault Refusal :=
  let s := tick dt s
  let due := match s.arch.tempRc with
    | none => true
    | some t => decide (t + ofS 60 ≤ s.rc)
  if nandOn s && s.cfg.startCfg.arch.tempFeature && due then
    let s := s.onArch fun a => { a with tempRc := some s.rc }
    .next (temps.foldl (fun s t =>
      (onDie t.1 (fun d => { d with temps := bumpAt d.temps (tempBin t.2), tempNow := t.2 }) s).onArch
        fun a => { a with tempMax := if (tfind a.dies t.1).isSome then max a.tempMax t.2 else a.tempMax }) s)
  else .next s

/-! ### Host block requests (R521–R523, R661) -/

/-- A sector of zeros. -/
def zeroSector : List Byte := List.replicate 4096 0

/-- The four sectors of a logical page; a page that is not mapped reads as zero (R522). -/
def hostPage (s : State) (lpn : Nat) : List (List Byte) :=
  match pageOfLpn s lpn with
  | some { data := .host l, .. } => l
  | _ => List.replicate 4 zeroSector

/-- Whether the page of a sector has been lost (R514). -/
def sectorLost (s : State) (lba : Nat) : Bool :=
  match pageOfLpn s (sysPages + lba / 4) with
  | some p => p.lost
  | none => false

/-- One sector. -/
def sectorOf (s : State) (lba : Nat) : List Byte := (hostPage s (sysPages + lba / 4)).getD (lba % 4) zeroSector

/-- Sectors of the namespace. -/
def hostSectors (s : State) : Nat := 4 * ((s.arch.format.map (·.hostPages)).getD 0)

/-- Writes sectors page by page; each page is rewritten whole (R522). Answers the SEQs. -/
def writeSectors (lba : Nat) (data : List (List Byte)) (s : State) : Option (List Nat × State) :=
  let lpns := (data.zipIdx.map fun d => sysPages + (lba + d.2) / 4).eraseDups
  lpns.foldl (fun acc lpn => match acc with
    | none => none
    | some (seqs, s) =>
      let page := (hostPage s lpn).zipIdx.map fun q =>
        let l := (lpn - sysPages) * 4 + q.2
        if lba ≤ l && l < lba + data.length then data.getD (l - lba) zeroSector else q.1
      match program { lpn := lpn, ns := 1, data := .host page, stream := .host } none s with
      | some (n, s) => some (seqs ++ [n], s)
      | none => none) (some ([], s))

/-- A trim: whole pages are unmapped, sectors of other pages are written with zeros (R522). -/
def trimSectors (lba count : Nat) (s : State) : Option (List Nat × State) :=
  let first := (lba + 3) / 4
  let last := (lba + count) / 4
  if last ≤ first then
    writeSectors lba (List.replicate count zeroSector) s
  else
    match writeSectors lba (List.replicate (first * 4 - lba) zeroSector) s with
    | none => none
    | some (a, s) =>
      match writeSectors (last * 4) (List.replicate (lba + count - last * 4) zeroSector) s with
      | none => none
      | some (b, s) =>
        let (q, s) := trimRanges [(sysPages + first, last - first)] s
        some (a ++ b ++ q.toList, s)

/-- The request entry of R521. -/
def hostReqOf (host ring : Nat) (b : List Byte) : HostReq :=
  { host := host, ring := ring, op := fld b 0 1, count := fld b 2 2, tag := fld b 4 4, lba := fld b 8 8, buf := fld b 16 8 }

/-- The status that a request meets when it is taken (R509, R523, R661). -/
def hostReqStatus (s : State) (r : HostReq) : Status :=
  let pcie := match s.hosts.hosts.toList[r.host]? with
    | some x => 1 ≤ x.port && x.port ≤ 4
    | none => false
  if !archReady s then .locked
  else if 3 < r.op || (r.op = 2 && r.count ≠ 0) || (r.op ≠ 2 && (r.count = 0 || 256 < r.count)) ||
      (r.op ≠ 2 && hostSectors s < r.lba + r.count) then .badarg
  else if r.op ≤ 1 && !pcie && 0x400000 < r.buf + 4096 * r.count then .badarg
  else if r.op = 1 && s.arch.state == 3 then .nospace
  else .ok

/-- Whether collection lets a write start now: by credit below LOW_WM, held at the reserve (R529). -/
def writeAllowed (s : State) (pages : Nat) : Bool :=
  let l := gcLevel s
  l ≤ 1 || (l = 2 && pages ≤ s.arch.credits)

/-- HOST_BLOCK_REQUEST: SE13 takes the oldest entry of a request ring while the completion ring of the same owner has room for
its completion and every one still owed (R661). `data` are the sectors that a write's buffer holds. -/
def execHostBlockRequest (dt ring : Nat) (data : List (List Byte)) (s : State) : Outcome State Fault Refusal :=
  let s := tick dt s
  if !radioOn s then .next s else
  match s.hosts.rings.find? (fun r => r.number == ring && r.source == 4) with
  | none => .next s
  | some q =>
    match q.items, s.hosts.rings.find? (fun r => r.owner == q.owner && r.source == 5) with
    | b :: rest, some c =>
      let owed := (s.arch.reqs.filter fun r => r.host == q.owner).length
      if c.depth ≤ ringFill c + owed then .next s
      else
        let r := hostReqOf q.owner c.number b
        let st := hostReqStatus s r
        let n := (r.lba % 4 + r.count + 3) / 4
        if st == .ok && r.op = 1 && !writeAllowed s n then .next s
        else
          let take := setRing { q with items := rest, cons := inc32 q.cons }
          let keep := fun (r : HostReq) (s : State) => Outcome.next (s.onArch fun a => { a with reqs := a.reqs ++ [r] })
          if st != .ok then keep { r with status := st } (take s)
          else if r.op = 1 then
            let d := (data ++ List.replicate r.count zeroSector).take r.count
            match writeSectors r.lba d s with
            | none => .next s
            | some (seqs, s') =>
              let s' := s'.onArch fun a =>
                { a with lastHostWrite := s.rc, credits := if gcLevel s = 2 then a.credits - n else a.credits }
              keep { r with data := d, pages := seqs } (take s')
          else if r.op = 3 then
            match trimSectors r.lba r.count s with
            | none => .next s
            | some (seqs, s') => keep { r with pages := seqs } (take s')
          else if r.op = 2 then
            keep { r with after := ((s.arch.reqs.filter fun x => x.host == r.host && x.op == 1).map (·.tag)) } (take s)
          else keep r (take s)
    | _, _ => .next s

/-- Sectors of a read before the first one that is lost. -/
def goodSectors (s : State) (r : HostReq) : Nat :=
  ((List.range r.count).findIdx? fun k => sectorLost s (r.lba + k)).getD r.count

/-- Whether a request can complete: what it wrote is durable, the writes before a flush have completed (R522). -/
def reqDone (s : State) (r : HostReq) : Bool :=
  r.pages.all (fun q => s.arch.pages.all fun p => p.seq != q || p.durable) &&
    r.after.all fun t => !(s.arch.reqs.any fun x => x.host == r.host && x.op == 1 && x.tag == t)

/-- The numbers of the status codes ST1–ST11 (R637). -/
def statusCode : Status → Nat
  | .ok => 0
  | .pending => 1
  | .conflict => 2
  | .denied => 3
  | .badarg => 4
  | .busy => 5
  | .nospace => 6
  | .stale => 7
  | .unsupported => 8
  | .locked => 9
  | .rearmed => 10

/-- HOST_BLOCK_COMPLETE: the n-th request taken completes; a write or trim whose stripe still waits ends it with a flush (R522,
R523). A read delivers its sectors, and STALE at the first lost one. -/
def execHostBlockComplete (dt n : Nat) (s : State) : Outcome State Fault Refusal :=
  let s := tick dt s
  if !radioOn s then .next s else
  match s.arch.reqs[n]? with
  | none => .next s
  | some r =>
    if reqDone s r then
      let good := if r.op = 0 && r.status == .ok then goodSectors s r else r.count
      let stale := r.op = 0 && r.status == .ok && good < r.count
      let st : Status := if stale then .stale else r.status
      let done := if r.status != .ok || r.op = 2 then 0 else good
      let item := leBytes 4 r.tag ++ leBytes 1 (statusCode st) ++ [0] ++ leBytes 2 done ++ leBytes 8 (if stale then r.lba + good else 0)
      let bytes := (List.range good).flatMap fun k => sectorOf s (r.lba + k)
      let s := if r.op = 0 && r.status == .ok then s.onArch fun a => { a with hostReads := a.hostReads ++ [(r.host, r.buf, bytes)] } else s
      match pushRing r.ring item (s.onArch fun a => { a with reqs := a.reqs.eraseIdx n }) with
      | some s => .next s
      | none => .next s
    else .next (if nandOn s && (s.arch.pages.any fun p => r.pages.contains p.seq && p.programmed && !p.durable) then flushStripe .host s else s)

/-! ### Queries (R538–R540) -/

/-- Insertion by first position. -/
def insertPage (p : PhysPage) : List PhysPage → List PhysPage
  | [] => [p]
  | q :: l => if ((recsOf p).headD {}).pos < ((recsOf q).headD {}).pos then p :: q :: l else q :: insertPage p l

/-- Record pages committed and held, in ring order; lost ones among them. -/
def recordPages (s : State) : List PhysPage :=
  (s.arch.pages.filter fun p => p.durable && validPage s p && !(recsOf p).isEmpty).foldl (fun l p => insertPage p l) []

/-- Position of the first record of a page. -/
def firstPos (p : PhysPage) : Nat := ((recsOf p).headD {}).pos

/-- `a` is at or after `b` modulo 2³². -/
def seqGe (a b : Nat) : Bool := (a + 0x100000000 - b % 0x100000000) % 0x100000000 < 0x80000000

/-- Whether a record matches a query (R538). -/
def matchesQuery (q : ArchQuery) (r : Record) : Bool :=
  if q.mode = 0 then seqGe r.seq q.lo && !seqGe r.seq q.hi
  else r.meter == q.meter && r.channel &&& q.mask == q.channel &&& q.mask && q.lo ≤ r.startTai && r.startTai < q.hi

/-- The record pages that a query scans: for MODE 0 from the first to the last page that holds a record of the span, for MODE 1
those committed in the scan span. -/
def pagesOfQuery (s : State) (q : ArchQuery) : List PhysPage :=
  let l := recordPages s
  if q.mode = 0 then l.filter fun p => (recsOf p).any fun r => matchesQuery q r.record
  else l.filter fun p => q.scanFrom ≤ p.commitTai && p.commitTai < q.scanTo

/-- ARCH_QUERY's payload. -/
def queryOf (host : Nat) (b : List Byte) : ArchQuery :=
  { host := host, mode := fld b 0 1, ring := fld b 2 2, meter := fld b 4 4, channel := fld b 8 2, mask := fld b 10 2
    limit := fld b 12 4, lo := fld b 16 8, hi := fld b 24 8, scanFrom := fld b 32 8, scanTo := fld b 40 8 }

/-- Whether FROM or SCAN_FROM lies before the oldest record held (R540). -/
def queryStale (s : State) (q : ArchQuery) : Bool :=
  match recordPages s with
  | [] => false
  | p :: _ =>
    if q.mode = 0 then !seqGe q.lo (((recsOf p).headD {}).record.seq) else q.scanFrom < p.commitTai

/-- A block manager gives the engines work on Q11 (X12); it holds what Q11 refuses, which is counted (R47, R49, R51). -/
def pushQ11 (w : ManagerWork) (s : State) : State :=
  (countPush 11 s.fab.q11 s.fab.q11Held s).onFab fun f =>
    let (ring, held) := pushOrHold (Config.ringDepth 11) f.q11 f.q11Held w
    { f with q11 := ring, q11Held := held }

/-- Takes the head of Q11. -/
def popQ11 (s : State) : State :=
  s.onFab fun f =>
    let (ring, held) := refill (Config.ringDepth 11) (f.q11.drop 1) f.q11Held
    { f with q11 := ring, q11Held := held }

/-- ARCH_QUERY: SE13 gets the query by Q11 (R47, R538, R540). -/
def archQuery (h : Fin 4) (t : Taken) (s : State) : State × Reply :=
  let q := queryOf h.val t.payload
  let lo := if q.mode = 0 then q.lo % 0x100000000 else q.lo
  let hi := if q.mode = 0 then q.hi % 0x100000000 else q.hi
  let q := { q with lo := lo, hi := hi }
  let empty : Bool := if q.mode = 0 then lo == hi || !seqGe hi lo else hi ≤ lo
  if s.arch.queries.any (fun x => x.host == h.val) then (s, answer .busy)
  else if q.mode ≤ 1 && queryStale s q then (s, answer .stale)
  else if 1 < q.mode || !namesRing s h.val q.ring 64 || empty then (s, answer .badarg)
  else
    let l := pagesOfQuery s q
    let q := { q with id := s.arch.nextQuery, nextPos := (l.map firstPos).headD 0
                      endPos := ((l.map fun p => firstPos p + (recsOf p).length).getLast?).getD 0, ended := l.isEmpty }
    (pushQ11 (.query h.val) (s.onArch fun a => { a with queries := a.queries ++ [q], nextQuery := w16 (a.nextQuery + 1) }),
     okWith (leBytes 2 q.id ++ [0, 0] ++ leBytes 4 l.length))

/-- ARCH_QUERY, the command. -/
def execArchQuery (dt : Nat) (host : Fin 4) (s : State) : Outcome State Fault Refusal :=
  .next (runCmd 0x0A03 host (archQuery host) (tick dt s))

/-- ARCH_QUERY_CANCEL (R540). -/
def archQueryCancel (h : Fin 4) (t : Taken) (s : State) : State × Reply :=
  let id := fld t.payload 0 2
  if s.arch.queries.any (fun q => q.host == h.val && q.id == id) then
    (s.onArch fun a => { a with queries := a.queries.map fun q =>
        if q.host == h.val && q.id == id then { q with ended := true, cancelled := !q.ended, out := if q.ended then q.out else [] } else q }, answer .ok)
  else (s, answer .badarg)

/-- ARCH_QUERY_CANCEL, the command. -/
def execArchQueryCancel (dt : Nat) (host : Fin 4) (s : State) : Outcome State Fault Refusal :=
  .next (runCmd 0x0A04 host (archQueryCancel host) (tick dt s))

/-- The end record (R539). -/
def endRecord (q : ArchQuery) : Record :=
  { meter := 0xFFFFFFFF, channel := 0xFFFF, value := q.delivered
    quality := if q.cancelled then 5 else if q.released then 7 else 0 }

/-- Pushes what a query has found while its ring has room, then, once it has ended, the end record (R539). The Boolean says that
the end record has gone. -/
def pushFound (q : ArchQuery) : List Record → State → (ArchQuery × Bool) × State
  | [], s =>
    if q.ended then
      match pushRing q.ring (recordBytes (endRecord q)) s with
      | some s => (({ q with out := [] }, true), s)
      | none => (({ q with out := [] }, false), s)
    else (({ q with out := [] }, false), s)
  | r :: l, s =>
    match pushRing q.ring (recordBytes r) s with
    | some s => pushFound { q with delivered := q.delivered + 1 } l s
    | none => (({ q with out := r :: l }, false), s)

/-- Scans the next page of a query: a page released meanwhile is noted, a lost one skipped (R539). -/
def scanPage (q : ArchQuery) (corr : List Nat) (step : Nat) (second : Option Nat) (s : State) : ArchQuery × State :=
  if q.ended then (q, s) else
  let inSpan := fun (p : PhysPage) => q.nextPos ≤ firstPos p && firstPos p < q.endPos &&
    (q.mode == 0 || (q.scanFrom ≤ p.commitTai && p.commitTai < q.scanTo))
  match (recordPages s).find? inSpan with
  | none => ({ q with ended := true }, s)
  | some p =>
    let oldest := ((recordPages s).map firstPos).headD 0
    let s := if p.lost then s else readPage p corr step second s
    let lostNow := s.arch.pages.any fun x => x.seq == p.seq && x.lost
    let found := if lostNow then [] else ((recsOf p).map (·.record)).filter (matchesQuery q)
    let room := if q.limit = 0 then found.length else q.limit - q.delivered - q.out.length
    let next := firstPos p + (recsOf p).length
    ({ q with out := q.out ++ found.take room, nextPos := next
              released := q.released || q.nextPos < oldest
              ended := q.endPos ≤ next || (q.limit != 0 && room ≤ found.length) }, s)

/-- The query of a host that SE13 works on: one taken before, or that at the head of Q11, which it takes now (R35, R47). -/
def queryAtWork (host : Nat) (s : State) : Option (ArchQuery × State) :=
  match s.arch.queries.find? (fun q => q.host == host) with
  | none => none
  | some q =>
    if q.started then (if workRuns s .pageMap then some (q, s) else none)
    else if workTakes s .pageMap 11 && s.fab.q11.head? == some (.query host) then some ({ q with started := true }, popQ11 s)
    else none

/-- ARCH_QUERY_SCAN (R502, R511, R539): a host's query scans its next page and pushes what it found. -/
def execArchQueryScan (dt host : Nat) (corr : List Nat) (step : Nat) (second : Option Nat) (s : State) : Outcome State Fault Refusal :=
  let s := tick dt s
  if se13Works s then
    match queryAtWork host s with
    | none => .next s
    | some (q, s) =>
      let (q1, s) := if q.out.isEmpty then scanPage q corr step second s else (q, s)
      let ((q2, ended), s) := pushFound q1 q1.out s
      .next (s.onArch fun a =>
        { a with queries := if ended then a.queries.filter (fun x => x.host != host)
            else a.queries.map fun x => if x.host = host then q2 else x })
  else .next s

/-! ### Format (R510, R516, R517, R542, R559) -/

/-- Dies in the order in which a format takes them: in turn across the channels (R510). -/
def dieOrder (l : List Nat) : List Nat :=
  (List.range 16).flatMap fun r => (List.range 8).filterMap fun ch => (l.filter fun d => d / 16 == ch)[r]?

/-- Cuts a list into groups of `w`; those left over form a group when they number 8 or more (R510). -/
def cutGroups (w : Nat) : Nat → List Nat → List (List Nat)
  | 0, _ => []
  | n + 1, l =>
    if l.length < 8 then []
    else if l.length ≤ w then [l]
    else l.take w :: cutGroups w n (l.drop w)

/-- What a format would give: groups, and the pages of LA3 if there are 65,536 or more (R516, R517). -/
def formatPlan (s : State) : List (List Nat) × Option (Nat × Nat) :=
  let c := s.cfg.startCfg.arch
  let groups := cutGroups c.width 128 (dieOrder s.arch.installed)
  let inGroups := groups.flatMap fun l => l
  let bad := (s.arch.factoryBad.filter fun x => inGroups.contains x.1).length
  let data := (inGroups.length * s.arch.blocks - bad - groups.length * s.arch.blocks) * s.arch.pagesPerBlock
  let usable := data - ratioOf (data * c.opPct) 100
  let taken := sysPages + 65536 * c.hostGib
  if usable < taken + 65536 then (groups, none) else (groups, some (usable - taken, data - usable))

/-- A format starts: STATE reads formatting (R542). -/
def startFormat (s : State) : State := s.onArch fun a => { a with state := 5 }

/-- ARCH_FORMAT (R517, R542): answered at once; FORMAT_COMPLETE ends the format (log entry 21). -/
def archFormat (t : Taken) (s : State) : State × Reply :=
  let locked := s.arch.state == 4
  if !(s.cfg.overlay == 2 || s.cfg.overlay == 4 || locked) then (s, answer .locked)
  else if s.arch.state == 5 || !s.arch.queries.isEmpty then (s, answer .busy)
  else if fld t.payload 0 4 ≠ 0x464F524D then (s, answer .badarg)
  else if (formatPlan s).2.isNone then (setAlarm 0x80 (s.onArch fun a => { a with state := 4 }), answer .nospace)
  else (startFormat s, answer .ok)

/-- ARCH_FORMAT, the command. -/
def execArchFormat (dt : Nat) (host : Fin 4) (s : State) : Outcome State Fault Refusal :=
  .next (runCmd 0x0A05 host archFormat (tick dt s))

/-- The programs in progress complete. -/
def settle (s : State) : State :=
  commitNew (s.onArch fun a => { a with pages := a.pages.map fun p => { p with programmed := true }, queues := [] })

/-- What a format leaves: empty map, factory bad blocks, groups, journal, counts from format at zero, FORMAT_ID drawn, acknowledged
cursor 0, stores empty (R542, R559, R536). Records of the event extension are lost; `extLost` of the event recorder reports them. -/
def formatted (groups : List (List Nat)) (pages spare : Nat) (s : State) : State :=
  let (id, s) := s.takeFree
  let inGroups := groups.flatMap fun l => l
  let s := s.onArch fun a =>
    { a with
      state := 2, allErased := false
      format := some { dies := inGroups, groups := groups, width := s.cfg.startCfg.arch.width
                       hostPages := 65536 * s.cfg.startCfg.arch.hostGib, recPages := pages, spare := spare
                       testRoot := testRoot s, formatId := id % 0x10000000000000000 }
      bad := a.factoryBad.map fun x => (x.1, x.2, false)
      erases := [], pages := [], map := [], nextSeq := 0, nextStripe := 0, opens := [], queues := []
      dies := inGroups.foldl (fun t d => tput t d { badFactory := (a.factoryBad.filter fun x => x.1 == d).length }) []
      openRecs := [], nextPos := 0, recHead := 0, victim := none, trims := [], copyB := [], segWait := [], sumWait := [], credits := 0
      hist := List.replicate 16 0, retryReads := 0, softReads := 0, uncorr := 0, rebuilds := 0, pagesLost := 0, recordsLost := 0
      written := [0, 0, 0, 0], tempMax := -32768, unsent := 0, patrolNext := 0, patrolRc := s.rc }
  let s := s.onVee fun v => { v with indexDrops := 0 }
  let s := s.onSess fun b => { b with dirty := b.ctxs.map fun c => (c.1, s.key) }
  let s := s.onBal fun b => { b with sinceCkpt := b.sinceCkpt || !b.topo.isEmpty }
  let s := s.onUpl fun u => { u with acked := 0 }
  settle (settle (writeJournal s))

/-- FORMAT_COMPLETE (R542, R517, R559, R767). -/
def execFormatComplete (dt : Nat) (s : State) : Outcome State Fault Refusal :=
  let s := tick dt s
  if nandOn s && s.arch.state == 5 then
    match formatPlan s with
    | (_, none) => .next (setAlarm 0x80 (s.onArch fun a => { a with state := 4 }))
    | (groups, some (pages, spare)) =>
      let lost := s.evt.ext.length
      let s := formatted groups pages spare s
      let s := s.onEvt fun v => { v with ext := [], extGone := [] }
      .next (if lost = 0 then s else raiseCode 0x1007 2 0x50 (leBytes 4 lost ++ [0, 0, 0, 0]) s)
  else .next s

/-! ### The other ARCH commands -/

/-- Erase counts of a die. -/
def dieErases (s : State) (d : Nat) : List Nat := (s.arch.erases.filter fun e => e.1.1 == d).map (·.2)

/-- The mean of a sum of erase counts over a number of blocks, in ‰ of the rated erase count. -/
def wearOf (s : State) (sum blocks : Nat) : Nat := min 65535 (ratioOf (sum * 1000) (blocks * s.cfg.startCfg.arch.ratedPe))

/-- ARCH_HEALTH (R536). -/
def archHealth (_t : Taken) (s : State) : State × Reply :=
  let a := s.arch
  let f : FormatRec := a.format.getD {}
  let blocks := max 1 (a.dies.length * a.blocks)
  let oldest := (recordPages s).head?
  (s, okWith (
    leBytes 1 a.dies.length ++ leBytes 1 (a.dies.filter fun d => d.2.state != 0).length ++ leBytes 1 f.width ++ leBytes 1 a.state
    ++ leBytes 2 (ratioOf (spareNow s * 1000) f.spare) ++ leBytes 2 (wearOf s ((a.erases.map (·.2)).foldl (· + ·) 0) blocks)
    ++ leBytes 2 (wearOf s ((a.erases.map (·.2)).foldl max 0) 1) ++ leBytesI 2 a.tempMax
    ++ leBytes 4 (a.bad.filter fun b => b.2.2).length ++ leBytes 4 (ratioOf f.recPages 65536) ++ leBytes 4 (f.hostPages / 65536)
    ++ a.hist.flatMap (leBytes 4) ++ [a.retryReads, a.softReads, a.uncorr, a.rebuilds, a.pagesLost, a.recordsLost].flatMap (leBytes 4)
    ++ (a.written.map fun n => ratioOf n 65536).flatMap (leBytes 4)
    ++ leBytes 4 ((oldest.map fun p => ((recsOf p).headD {}).record.seq).getD 0) ++ leBytes 4 s.vee.indexDrops
    ++ leBytes 8 ((oldest.map (·.commitTai)).getD 0) ++ leBytes 4 a.scanMs ++ leBytes 4 a.unsent ++ leBytes 8 0))

/-- ARCH_HEALTH, the command. -/
def execArchHealth (dt : Nat) (host : Fin 4) (s : State) : Outcome State Fault Refusal :=
  .next (runCmd 0x0A01 host archHealth (tick dt s))

/-- ARCH_DIE_READ (R537). -/
def archDieRead (t : Taken) (s : State) : State × Reply :=
  let d := fld t.payload 0 1
  match dieOf s d with
  | none => (s, answer .badarg)
  | some x =>
    let e := dieErases s d
    let g := ((groupsOf s).findIdx? (·.contains d)).getD 0
    (s, okWith (
      leBytes 1 d ++ leBytes 1 x.state ++ leBytes 1 g ++ [0] ++ leBytes 2 x.badFactory ++ leBytes 2 x.badGrown
      ++ leBytes 4 (ratioOf (e.foldl (· + ·) 0) s.arch.blocks) ++ leBytes 4 (e.foldl max 0) ++ x.hist.flatMap (leBytes 4)
      ++ x.reads.flatMap (leBytes 4) ++ x.temps.flatMap (leBytes 4) ++ leBytesI 2 x.tempNow ++ leBytes 2 0))

/-- ARCH_DIE_READ, the command. -/
def execArchDieRead (dt : Nat) (host : Fin 4) (s : State) : Outcome State Fault Refusal :=
  .next (runCmd 0x0A02 host archDieRead (tick dt s))

/-- ARCH_DIE_RETIRE (R515, R543): the die is declared failed. -/
def archDieRetire (t : Taken) (s : State) : State × Reply :=
  let d := fld t.payload 0 1
  match dieOf s d with
  | none => (s, answer .badarg)
  | some x =>
    let group := ((groupsOf s).find? (·.contains d)).getD []
    let rest := onDie d (fun y => { y with state := 1 }) s
    if x.state != 0 || fld t.payload 4 4 ≠ 0x44494521 then (s, answer .badarg)
    else if (group.filter fun k => k != d && dieGood s k).length < 8 ||
        dataPages rest < recFirst s + 65536 + reserveSbs rest * sbWorth s then (s, answer .nospace)
    else if rebuilding s then (s, answer .busy)
    else (failDie d s, answer .ok)

/-- ARCH_DIE_RETIRE, the command. -/
def execArchDieRetire (dt : Nat) (host : Fin 4) (s : State) : Outcome State Fault Refusal :=
  .next (runCmd 0x0A06 host archDieRetire (tick dt s))

/-! ### The event extension (R766, R767) -/

/-- Records that the extension holds at most (R766). -/
def extDepth : Nat := 1048576

/-- Whether copying to the extension runs (R767, R768, R783). -/
def copyingRuns (s : State) : Bool := archWorks s && s.evt.ext.length < extDepth && s.evt.clearing.isNone && !s.evt.trimPending

/-- EVENT_COPY (R766, R769): once 256 records wait or 60 s after the first, the extension's page is written with the records that the ring holds
for it, up to 256 on a page; a ring slot is freed when its record is durable. -/
def execEventCopy (dt : Nat) (s : State) : Outcome State Fault Refusal :=
  let s := tick dt s
  let v := s.evt
  let late : Bool := match v.copyFrom with
    | some t => t + ofS 60 ≤ s.rc
    | none => false
  if copyingRuns s && !v.ring.isEmpty && (256 ≤ v.ring.length || late) then
    let page := v.ext.length / 256
    let d := SysData.events ((v.ext ++ v.ring).drop (256 * page) |>.take 256)
    .next (if (s.arch.pages.any fun p => p.lpn == eventRegion + page && validPage s p && !p.durable) then s
      else storePage (eventRegion + page) d s)
  else .next s

/-! ### Status -/

/-- ARCH.STAT without its W1C bits (R534). -/
def archStat (s : State) (w1c : Word) : Word :=
  let total := max 1 (totalSbs s)
  let spare := (s.arch.format.map (·.spare)).getD 0
  BitVec.ofNat 32 (s.arch.state + (if s.arch.format.isSome && archReady s then gcLevel s else 0) * 8 + bit (rebuilding s) * 32
    + s.arch.scanPct * 512 + ratioOf (freeSbs s * 100) total % 256 * 65536 + min 100 (ratioOf (spareNow s * 100) spare) * 16777216) ||| (w1c &&& 0x1C0)

end Sys2Proof.Machine
end

