-- ==== Sys2Proof/Machine/Topo.lean ====
section
/-! DEFINITION. Topology: samples, scores, confidences, windows, assignment; alerts ("Topology, energy balance and loss
detection"). -/

namespace Sys2Proof.Machine

open Host (Outcome)

/-! ### Where the engine runs (R451–R453) -/

/-- BT1: topology, balance and scoring are disabled (R451). -/
def balDisabled (s : State) : Bool :=
  s.cfg.startCfg.role.isNone || (s.cfg.startCfg.role == some .field && s.cfg.startCfg.parent) ||
    (match s.pair.state with | .solo | .active => false | _ => true)

/-- Whether the unit runs in the aggregation role. -/
def aggregates (s : State) : Bool := s.cfg.startCfg.role == some .aggregation

/-- The candidate feeder phases of a child, as 3f + p (R453): in the field role those whose voltage and current channels have a
sensor; in the aggregation role those whose code 9 and code 10 series the child sends. -/
def isCandidate (s : State) (child f p : Nat) : Bool :=
  if aggregates s then
    [9, 10].all fun c => s.bal.series.any fun v => v.child == child && v.point == 4 * f + p && v.code == c
  else (s.met.cal.recs.getD p {}).sensor != 0 && (s.met.cal.recs.getD (4 + 4 * f + p) {}).sensor != 0

/-- Feeders that are candidates on a phase. -/
def feedersOn (s : State) (child p : Nat) : List Nat := (List.range 8).filter fun f => isCandidate s child f p

/-! ### Days and intervals (R461, R467) -/

/-- UTC day number of a TAI ns. -/
def utcDay (s : State) (tai : Nat) : Nat := utcOf s (tai / 1000000000) / 86400

/-- TAI ns of the start of a UTC day (BS1). -/
def dayTai (s : State) (day : Nat) : Nat := taiOfUtc s (day * 86400) * 1000000000

/-- Length of a balance interval in s (R467). -/
def ivLenS (s : State) : Nat := max 1 s.cfg.act.seriesLen * 60

/-- UTC ns of a TAI ns. -/
def utcNs (s : State) (tai : Nat) : Nat := ((tai : Int) - utcOffsetAt s (tai / 1000000000) * 1000000000).toNat

/-- Number of the interval that contains a TAI ns, by keys: it belongs to the later one when its key is within `slack` ticks of the boundary's
(R103, R107). -/
def ivByKey (s : State) (slack tai : Nat) : Nat :=
  let n := utcNs s tai / (ivLenS s * 1000000000)
  if keyOfTai s (taiOfUtc s ((n + 1) * ivLenS s) * 1000000000) ≤ keyOfTai s tai + slack then n + 1 else n

/-- Number of the balance interval that contains a TAI ns (R103, R467). -/
def ivOf (s : State) (tai : Nat) : Nat := ivByKey s 0 tai

/-- Number of the interval of a feeder series record: its unit has rounded its START_TAI down to a tick of the unit's own and to whole ns, so
that it may lie two ticks before the boundary (log entry 438). -/
def seriesIv (s : State) (tai : Nat) : Nat := ivByKey s 2 tai

/-! ### Samples (R455–R458) -/

/-- Value of a code 9 or 10 series in an interval. -/
def seriesAt (s : State) (child pt code iv : Nat) : Option Int :=
  (s.bal.series.find? fun v => v.child == child && v.point == pt && v.code == code && seriesIv s v.tai == iv).map (·.value)

/-- The busbar voltage of a phase in an interval: the code 9 value of any of the child's points of that phase (R454). -/
def busVoltage (s : State) (child p iv : Nat) : Option Int :=
  (List.range 8).findSome? fun f => seriesAt s child (4 * f + p) 9 iv

/-- Adds two lists place by place. -/
def addInts : List Int → List Int → List Int
  | a :: l, b :: m => (a + b) :: addInts l m
  | l, [] => l
  | [], m => m

/-- The child of a meter's candidates: 0 in the field role (R452). -/
def childOfMeter (s : State) (m : Nat) : Nat := if aggregates s then ((ctxOf s m).map (·.child)).getD 0 else 0

/-- A window that restarts: it begins empty on the next UTC day (R452, R461). -/
def restartWindow (s : State) (b : TopoMeter) : TopoMeter :=
  { b with n := 0, sy := 0, syy := 0, sx := [0, 0, 0], sxx := [0, 0, 0], sxy := [0, 0, 0], sdi := List.replicate 24 0
           si := List.replicate 24 0, sii := List.replicate 24 0, windowDay := utcDay s s.tai + 1 }

/-- The UTC day on which the regular window that holds the present began (R461). -/
def regularWindow (s : State) : Nat :=
  let w := max 1 s.cfg.act.bal.windowDays
  utcDay s s.tai / w * w

/-- A meter's topology block; when its child has changed, the window restarts (R452). -/
def topoOf (s : State) (m : Nat) : TopoMeter :=
  let c := childOfMeter s m
  match tfind s.bal.topo m with
  | none => { child := c, windowDay := regularWindow s }
  | some b => if b.child = c then b else restartWindow s { b with child := c }

/-- Replaces a topology block. -/
def setTopo (m : Nat) (b : TopoMeter) (s : State) : State := s.onBal fun x => { x with topo := tput x.topo m b }

/-- One sample enters the sums. They are kept as exact integers, of y' = 3u − ΣV, x'_p = 3V_p − ΣV and d_p = u − V_p in mV (R458; log
entry 22). -/
def addSample (u : Int) (v : List Int) (i : List (Option Int)) (b : TopoMeter) : TopoMeter :=
  let sv := v.foldl (· + ·) 0
  let y := 3 * u - sv
  let x := v.map fun w => 3 * w - sv
  let d := (List.range 24).map fun k => match i.getD k none with
    | some a => (u - v.getD (k % 3) 0) * a
    | none => 0
  { b with n := b.n + 1, sy := b.sy + y, syy := b.syy + y * y, sx := addInts b.sx x, sxx := addInts b.sxx (x.map fun a => a * a)
           sxy := addInts b.sxy (x.map fun a => a * y), sdi := addInts b.sdi d
           si := addInts b.si (i.map fun a => a.getD 0), sii := addInts b.sii (i.map fun a => a.getD 0 * a.getD 0) }

/-- Whether a record is a meter voltage sample, but for its reference (R457). -/
def isSample (s : State) (r : Record) : Bool :=
  let c := s.cfg.act.bal
  kindOf r == 2 && (ctxOf s r.meter).isSome && r.channel &&& c.topoMask == c.topoCh &&& c.topoMask &&
    originOf r == 0 && versionOf r == 0 && !failed r.outcome

/-- The feeder series record of a code 9 or 10 value: child, point, code (R454, R564). -/
def feederSeries (s : State) (r : Record) : Option (Nat × Nat × Nat) :=
  let pt := (r.channel - 0xF000) / 16
  let code := r.channel % 16
  let child := if r.meter == ownMeter && !aggregates s then some 0
    else if r.meter / 65536 == 0xFFFE && r.meter % 65536 < 4096 then some (r.meter % 65536) else none
  if kindOf r == 7 && 0xF000 ≤ r.channel && r.channel < 0xF200 && (code = 9 || code = 10) then child.map fun c => (c, pt, code)
  else none

/-- Cluster 2 takes one committed record (R455–R458, R473). -/
def topoTake (r : Record) (s : State) : State :=
  match feederSeries s r with
  | some (c, pt, code) =>
    let keep := (s.cfg.act.bal.windowDays + 1) * 86400 * 1000000000
    s.onBal fun b => { b with series := (b.series.filter fun v => s.tai < v.tai + keep) ++
        [{ child := c, point := pt, code := code, tai := r.startTai, value := r.value }] }
  | none =>
    if kindOf r == 3 && (ctxOf s r.meter).isSome then
      let code := r.value / 1000
      if code != 0 && (s.cfg.act.bal.tamperCodes.any fun k => (k : Int) == code) then
        let b := topoOf s r.meter
        setTopo r.meter { b with score := { b.score with tamperDay := b.score.tamperDay + 1 } } s
      else s
    else if isSample s r then
      let b := topoOf s r.meter
      let iv := ivOf s r.startTai
      match busVoltage s b.child 0 iv, busVoltage s b.child 1 iv, busVoltage s b.child 2 iv with
      | some v0, some v1, some v2 =>
        if utcDay s r.startTai < b.windowDay then setTopo r.meter b s
        else
          let i := (List.range 24).map fun k => seriesAt s b.child (4 * (k / 3) + k % 3) 10 iv
          (setTopo r.meter (addSample r.value [v0, v1, v2] i b) s).onBal
            fun x => { x with topoSamples := inc32 x.topoSamples, sinceCkpt := true }
      | _, _, _ => s.onBal fun x => { x with noReference := inc32 x.noReference }
    else s

/-- TOPO_SAMPLE: the next record of the commit log; records that left the log unread are counted as TOPO_OVERRUN (R455). -/
def execTopoSample (dt : Nat) (s : State) : Outcome State Fault Refusal :=
  let s := tick dt s
  if !archWorks s || !workRuns s .balance then .next s
  else
    let s := if s.bal.logPos < s.arch.logBase then
        s.onBal fun b => { b with overrun := w32 (b.overrun + (s.arch.logBase - b.logPos)), logPos := s.arch.logBase }
      else s
    match s.arch.commitLog[s.bal.logPos - s.arch.logBase]? with
    | none => .next s
    | some r =>
      let s := s.onBal fun b => { b with logPos := b.logPos + 1 }
      .next (if balDisabled s then s else topoTake r s)

/-! ### Scores and confidences (R459, R460) -/

/-- A correlation as the signed square of its numerator over the product of the two variances; its square is `num / den`. A
correlation with a variance of 0 is free between −1 and 1 (log entry 22). -/
structure Corr where
  num : Int := 0
  den : Nat := 1
deriving DecidableEq, Repr

/-- The free correlation of samples of which one does not vary, in 2⁻⁶⁰, from −1 to 1. -/
def voidOf (l : List Int) : Int := max (-1152921504606846976) (min 1152921504606846976 (Config.voidCorr l))

/-- Pearson's correlation from n, Σa, Σa², Σb, Σb², Σab. -/
def corrOf (n : Nat) (sa saa sb sbb sab : Int) : Corr :=
  let cov := n * sab - sa * sb
  let va := (n * saa - sa * sa).toNat
  let vb := (n * sbb - sb * sb).toNat
  if va * vb = 0 then
    let c := voidOf [n, sa, saa, sb, sbb, sab]
    { num := c * c.natAbs, den := 1152921504606846976 * 1152921504606846976 }
  else { num := cov * (cov.natAbs : Int), den := va * vb }

/-- Minus a correlation. -/
def Corr.neg (c : Corr) : Corr := { c with num := -c.num }

/-- `a` is at most `b`. -/
def Corr.le (a b : Corr) : Bool := a.num * b.den ≤ b.num * a.den

/-- Whether a correlation reaches k / 1,000. -/
def Corr.reaches (c : Corr) (k : Nat) : Bool := (k * k * c.den : Int) ≤ c.num * 1000000

/-- A correlation × `unit`, rounded toward zero. -/
def Corr.scaled (c : Corr) (unit : Nat) : Int :=
  let m : Int := (isqrtFrom 100 0 (c.num.natAbs * unit * unit / max 1 c.den) : Nat)
  if c.num < 0 then -m else m

/-- A correlation × 1,000 as a field holds it: a whole number next to it, which of them being open (R487; log entry 15). -/
def Corr.milli (c : Corr) : Int :=
  let k := (c.scaled 1000).natAbs
  let m : Nat := if k * k * c.den ≠ c.num.natAbs * 1000000 && Config.roundsUp c.num c.den then k + 1 else k
  if c.num < 0 then -(m : Int) else m

/-- 2⁶⁰, the unit of the fixed-point numbers below. -/
def fix : Nat := 1152921504606846976

/-- The artanh series of a fraction t (in units of 2⁻⁶⁰): Σ t^(2k+1)/(2k+1), `n` terms from k on. -/
def artanhSum (t2 : Nat) : Nat → Nat → Nat → Nat
  | 0, _, _ => 0
  | n + 1, k, pow => pow / (2 * k + 1) + artanhSum t2 n (k + 1) (pow * t2 / fix)

/-- ln of a number in [1, 2], both in units of 2⁻⁶⁰. -/
def lnNear (m : Nat) : Nat :=
  let t := (m - fix) * fix / (m + fix)
  2 * artanhSum (t * t / fix) 40 0 t

/-- Powers of 2 by which a number below 2⁶⁰ is raised to reach it. -/
def raiseBy : Nat → Nat → Nat
  | 0, _ => 0
  | n + 1, m => if m < fix then 1 + raiseBy n (2 * m) else 0

/-- −ln of a fraction above 0, in units of 2⁻⁶⁰. -/
def negLn (m : Nat) : Int :=
  let k := raiseBy 60 m
  (k * lnNear (2 * fix) : Nat) - (lnNear (m * 2 ^ k) : Nat)

/-- artanh of |r| below 1, in units of 2⁻⁶⁰: (ln(1 + r) − ln(1 − r)) / 2. -/
def artanhFix (r : Nat) : Int := ((lnNear (fix + r) : Int) + negLn (fix - r)) / 2

/-- artanh of a correlation; none when it is ±1. -/
def artanhOf (c : Corr) : Option Int :=
  let r := c.scaled fix
  if fix ≤ r.natAbs then none else some (if r < 0 then -artanhFix r.natAbs else artanhFix r.natAbs)

/-- Σ (−1)^k z^(2k+1) / (2^k k! (2k+1)), `n` terms from k on; `term` is z^(2k+1) / (2^k k!). -/
def erfSum (z2 : Nat) : Nat → Nat → Nat → Int
  | 0, _, _ => 0
  | n + 1, k, term => (term / (2 * k + 1) : Nat) - erfSum z2 n (k + 1) (term * z2 / fix / (2 * (k + 1)))

/-- 1,000 × (2Φ(Z) − 1), rounded down, of Z in units of 2⁻⁶⁰: √(2/π) × Σ. From Z = 4 on it is 999. -/
def confOfZ (z : Nat) : Nat :=
  if 4 * fix ≤ z then 999
  else (erfSum (z * z / fix) 70 0 z * 919898268343412806 / fix * 1000 / fix).toNat

/-- The confidence of the best of two correlations over n samples (R459). -/
def confidence (a b : Corr) (n : Nat) : Nat :=
  match artanhOf a, artanhOf b with
  | some x, some y => if n ≤ 3 then 0 else confOfZ ((x - y).toNat * isqrtFrom 100 0 ((n - 3) * fix * fix / 2) / fix)
  | none, some _ => 1000
  | _, none => 0

/-- The best and the second-best of scored alternatives, the earlier one on equality. -/
def bestTwo : List (Nat × Corr) → Option ((Nat × Corr) × Option (Nat × Corr))
  | [] => none
  | x :: l =>
    match bestTwo l with
    | none => some (x, none)
    | some (y, z) =>
      if y.2.le x.2 then some (x, some y)
      else match z with
        | none => some (y, some x)
        | some z => some (y, some (if z.2.le x.2 then x else z))

/-- Phase score of phase p (R457, R459). -/
def phaseScore (b : TopoMeter) (p : Nat) : Corr := corrOf b.n b.sy b.syy (b.sx.getD p 0) (b.sxx.getD p 0) (b.sxy.getD p 0)

/-- Feeder score of (f, p): minus the correlation of the drop and the current. The sums of 3d_p follow from those of y' and x'_p. -/
def feederScore (b : TopoMeter) (f p : Nat) : Corr :=
  let k := 3 * f + p
  let sd := b.sy - b.sx.getD p 0
  let sdd := b.syy - 2 * b.sxy.getD p 0 + b.sxx.getD p 0
  (corrOf b.n sd sdd (b.si.getD k 0) (b.sii.getD k 0) (3 * b.sdi.getD k 0)).neg

/-- The valid zero-crossing phase of a meter, whether it is inverted, and the MEAN used (R462). -/
def zcPhase (s : State) (m : Nat) : Option (Nat × Bool × Nat) :=
  if aggregates s || !s.cfg.act.bal.zcUse || s.plc.mode = 0 then none
  else
    match ctxOf s m with
    | none => none
    | some c =>
      match s.plc.nodes.find? (fun n => n.2.addr == c.addr) with
      | none => none
      | some (_, z) =>
        if z.count < 8 || s.cfg.act.bal.zcSpread < z.spread then none
        else
          let k := (6 * z.mean + 32768) / 65536 % 6
          let t := if s.cfg.act.bal.phaseSeq then [0, 1, 2, 0, 1, 2] else [0, 2, 1, 0, 2, 1]
          some (t.getD k 0, k % 2 == 1, z.mean)

/-- The result of a meter's window (R459, R460, R463), and on a ZK3 conflict the two phases. -/
def topoResult (s : State) (m : Nat) (b : TopoMeter) (final : Bool) : TopoResult × Option (Nat × Nat) :=
  let c := s.cfg.act.bal
  let phases := ((List.range 3).filter fun p => !(feedersOn s b.child p).isEmpty).map fun p => (p, phaseScore b p)
  let best := bestTwo phases
  let p1 : Option (Nat × Nat) := match best with
    | none => none
    | some (x, y) =>
      if b.n < c.nMin || !x.2.reaches c.rMin then none
      else some (x.1, match y with
        | some y => confidence x.2 y.2 b.n
        | none => 1000)
  let rPhase := match best with
    | some (x, _) => x.2.milli
    | none => 0
  let zc := zcPhase s m
  let (phase, conf, source, conflict) : Nat × Nat × Nat × Option (Nat × Nat) :=
    match zc, p1 with
    | none, some (p, k) => (p, k, 1, none)
    | none, none => (0xFF, 0, 1, none)
    | some (z, inv, _), some (p, k) =>
      if z = p then (p, max k 990, 3 + 8 * bit inv, none)
      else if c.confMin ≤ k then (0xFF, 0, 5, some (p, z))
      else (z, 990, 2 + 8 * bit inv, none)
    | some (z, inv, _), none => (z, 990, 2 + 8 * bit inv, none)
  let fs := if phase = 0xFF then [] else (feedersOn s b.child phase).map fun f => (f, feederScore b f phase)
  let (feeder, fconf, rf) : Nat × Nat × Int := match bestTwo fs with
    | none => (0xFF, 0, 0)
    | some (x, none) => if x.2.reaches c.rMinF then (x.1, 1000, x.2.milli) else (0xFF, 0, x.2.milli)
    | some (x, some y) =>
      if b.n < c.nMin || !x.2.reaches c.rMinF then (0xFF, 0, x.2.milli)
      else (x.1, confidence x.2 y.2 b.n, x.2.milli)
  ({ state := if final then 2 else 1, phase := phase, feeder := feeder, source := source, phaseConf := conf, feederConf := fconf
     rPhase := rPhase, rFeeder := rf, n := b.n, zcMean := (zc.map (·.2.2)).getD 0xFFFF }, conflict)

/-! ### Alerts (R477) -/

/-- Raises an alert: a 32-byte notice on BAL_RING, one event, and BAL.STAT.ALERT (R477, BT3). -/
def balAlert (kind flags meter day feeder phase child : Nat) (v1 v2 : Int) (s : State) : State :=
  let notice := leBytes 2 kind ++ leBytes 2 flags ++ leBytes 4 meter ++ leBytes 8 (dayTai s day) ++ leBytes 1 feeder ++ leBytes 1 phase
    ++ leBytes 2 child ++ leBytesI 4 v1 ++ leBytesI 4 v2 ++ leBytes 4 s.bal.alertSeq
  let s := s.onBal fun b => { b with alertSeq := inc32 b.alertSeq, alerts := inc32 b.alerts }
  let ring := s.cfg.act.bal.ring
  let s := if ring = 0 then s else match pushRing ring notice s with
    | some s => s
    | none => s.onBal fun b => { b with notPushed := inc32 b.notPushed }
  setSticky 0x05C 0x4 (raise .balAlert 0x04 ((notice.take 2) ++ leBytes 4 meter ++ leBytes 1 feeder ++ leBytes 1 phase) s)

/-! ### Windows and assignment (R461, R464, R465) -/

/-- A topology change of a meter (R464). -/
def reassign (m day : Nat) (fp : Nat × Nat) (b : TopoMeter) (s : State) : TopoMeter × State :=
  let old := match b.assigned with
    | some (f, p) => 256 * f + p
    | none => 0xFFFF
  ({ b with assigned := some fp, since := dayTai s b.windowDay, changes := min 65535 (b.changes + 1)
            score := { b.score with changesDay := b.score.changesDay + 1 } },
   balAlert 4 0 m day fp.1 fp.2 b.child (old : Nat) ((256 * fp.1 + fp.2 : Nat) : Int) s)

/-- A final result proposes an assignment (R464, R465). -/
def propose (m day : Nat) (r : TopoResult) (b : TopoMeter) (s : State) : TopoMeter × State :=
  let c := s.cfg.act.bal
  if c.confMin ≤ r.phaseConf && c.confMin ≤ r.feederConf then
    let fp := (r.feeder, r.phase)
    let prev := b.prevProposal
    let b := { b with proposal := some fp, prevProposal := some fp }
    match b.assigned with
    | none => ({ b with assigned := some fp, since := dayTai s b.windowDay }, s)
    | some a =>
      if a = fp then (b, s)
      else if b.pinned then (b, balAlert 4 1 m day fp.1 fp.2 b.child ((256 * a.1 + a.2 : Nat) : Int) ((256 * fp.1 + fp.2 : Nat) : Int) s)
      else if prev = some fp then reassign m day fp b s
      else (b, s)
  else ({ b with prevProposal := none }, s)

/-- The topology part of a compile for one meter: a provisional result, or at the end of a window the final one, which proposes,
is kept, and clears the sums (R461). -/
def topoMeterCompile (day m : Nat) (s : State) : State :=
  let b := topoOf s m
  let ends := (day + 1) % max 1 s.cfg.act.bal.windowDays = 0 && b.windowDay ≤ day
  let (r, conflict) := topoResult s m b ends
  let (b, s) := match conflict with
    | some (p, z) =>
      if b.conflictWin == some b.windowDay then (b, s)
      else ({ b with conflictWin := some b.windowDay }, balAlert 5 0 m day 0xFF 0xFF b.child (p : Nat) (z : Nat) s)
    | none => (b, s)
  let b := { b with result := r }
  if ends then
    let (b, s) := propose m day r b s
    let b := restartWindow s { b with prevFinal := some r }
    setTopo m { b with windowDay := day + 1 } s
  else setTopo m b s

/-- Meters whose contexts are not free. -/
def balMeters (s : State) : List Nat := s.sess.ctxs.map (·.1)

/-- Every window restarts after a change of a TP field (R484). -/
def restartWindows (s : State) : State :=
  s.onBal fun b => { b with topo := b.topo.map fun t => (t.1, restartWindow s t.2) }

end Sys2Proof.Machine
end

