-- ==== Sys2Proof/Machine/Bal.lean ====
section
/-! DEFINITION. The daily compile: energy balance, technical loss, scores, summaries, checkpoints; the BAL commands ("Topology,
energy balance and loss detection"). -/

namespace Sys2Proof.Machine

open Host (Outcome)

/-! ### What the compile scan finds (R455, R467) -/

/-- Committed records, with their positions (R455). -/
def committedRecs (s : State) : List ArchRec := (recordPages s).flatMap fun p => if p.lost then [] else recsOf p

/-- The standing version of each interval start among records of one meter and channel: the last that stands (R433, R467). -/
def standing (l : List Record) : List Record :=
  l.foldl (fun acc r =>
    if !standsOf r then acc
    else match acc.find? (fun q => q.startTai == r.startTai) with
      | none => acc ++ [r]
      | some q => if versionOf r < versionOf q then acc else acc.map fun x => if x.startTai == r.startTai then r else x) []

/-- The records of one UTC day that a compile uses: KIND 0 meter records of the two energy channels, KIND 7 feeder series. -/
def dayRecords (s : State) (day : Nat) : List Record :=
  let c := s.cfg.act.bal
  ((committedRecs s).map (·.record)).filter fun r =>
    (kindOf r == 0 && (r.channel == c.importCh || r.channel == c.exportCh) && ivOf s r.startTai * ivLenS s / 86400 == day) ||
    (kindOf r == 7 && 0xF000 ≤ r.channel && r.channel < 0xF200 && r.channel % 16 ≤ 10 &&
      seriesIv s r.startTai * ivLenS s / 86400 == day)

/-- Standing values of a meter on a channel, with their interval numbers. -/
def meterValues (s : State) (l : List Record) (m ch : Nat) : List (Nat × Record) :=
  (standing (l.filter fun r => r.meter == m && r.channel == ch && kindOf r == 0)).map fun r => (ivOf s r.startTai, r)

/-- Whether a meter takes part in balance: its PERIOD_S divides the interval (R467). -/
def periodFits (s : State) (m : Nat) : Bool :=
  let p := (profileOf s m).periodS
  p != 0 && p ≤ ivLenS s && ivLenS s % p == 0

/-- One meter's day: per interval number its energy, the part of it from estimates, whether it holds an estimate or edit, and
whether a value carries ZERO_STREAK (R467, R470, R473, BS14). -/
structure MeterIv where
  iv : Nat := 0
  energy : Int := 0
  est : Int := 0
  dirty : Bool := false
  zero : Bool := false
deriving DecidableEq, Repr

/-- The intervals of a day in which a meter holds a standing value. -/
def meterDay (s : State) (l : List Record) (m : Nat) : List MeterIv :=
  let c := s.cfg.act.bal
  let imp := meterValues s l m c.importCh
  let exp := if c.exportCh = 0xFFFF then [] else meterValues s l m c.exportCh
  (((imp ++ exp).map (·.1)).eraseDups).map fun iv =>
    let a := (imp.filter fun q => q.1 == iv).map (·.2)
    let b := (exp.filter fun q => q.1 == iv).map (·.2)
    let sum := fun (x : List Record) => x.foldl (fun t r => t + r.value) (0 : Int)
    { iv := iv, energy := sum a - sum b
      est := sum (a.filter fun r => originOf r == 1) - sum (b.filter fun r => originOf r == 1)
      dirty := (a ++ b).any fun r => originOf r != 0, zero := a.any fun r => r.outcome.getLsbD 7 }

/-- The value of a feeder series code of a child in an interval, with its FLAGS (R468). -/
def feederVal (s : State) (l : List Record) (child pt code iv : Nat) : Option Record :=
  let m := if aggregates s then 0xFFFE0000 + child else ownMeter
  l.find? fun r => r.meter == m && kindOf r == 7 && r.channel == 0xF000 + 16 * pt + code && seriesIv s r.startTai == iv

/-! ### One interval of a feeder phase (R468–R471) -/

/-- The evaluation of one interval of a feeder phase. -/
structure IvEval where
  iv : Nat := 0
  ef : Int := 0
  em : Int := 0
  est : Int := 0
  /-- x = I²T in mA²s (R468) -/
  x : Nat := 0
  /-- L as a numerator over 3.6 × 10¹² (R468) -/
  lnum : Nat := 0
  held : Nat := 0
  pairs : Nat := 0
  dirty : Bool := false
  marked : Bool := false
  virtual : Bool := false
deriving DecidableEq, Repr

/-- L in mWh (rounding: log entry 15). -/
def lossOf (lnum : Nat) : Int := openDiv (lnum * 10) 36000000000000

/-- Coverage in 0.001 %, rounded down; of no pairs it is free (log entry 22). -/
def coverOf (held pairs : Nat) : Nat := if pairs = 0 then min 100000 Config.voidCover else held * 100000 / pairs

/-- The residual of an interval. -/
def IvEval.residual (e : IvEval) : Int := e.ef - e.em - lossOf e.lnum

/-- R in force, µΩ (R470). -/
def rOf (f : FeederSet) : Nat := if f.declared then f.rDecl else f.r.getD f.rDecl

/-- Index of a feeder phase in the settings table. -/
def feederIx (child f p : Nat) : Nat := 32 * child + 4 * f + p

/-- Settings of a feeder phase. -/
def feederOf (s : State) (child f p : Nat) : FeederSet := tget s.bal.feeders (feederIx child f p) {}

/-- Evaluates one interval of a feeder phase when its series holds codes 0, 1 and 10 (R468); E_f is the code 8 value. -/
def evalIv (s : State) (l : List Record) (child f p iv : Nat) (set : FeederSet) (days : List (Nat × List MeterIv)) : Option IvEval :=
  let pt := 4 * f + p
  match feederVal s l child pt 0 iv, feederVal s l child pt 1 iv, feederVal s l child pt 10 iv with
  | some a, some b, some i =>
    let ef := match feederVal s l child pt 8 iv with
      | some r => r.value
      | none => a.value - b.value
    let mine := days.filterMap fun d => d.2.find? fun q => q.iv == iv
    let t := ivLenS s
    let sq := i.value.natAbs * i.value.natAbs * t
    let recs := [a, b, i] ++ (feederVal s l child pt 8 iv).toList
    some { iv := iv, ef := ef, em := mine.foldl (fun t q => t + q.energy) 0, est := mine.foldl (fun t q => t + q.est) 0
           x := sq, lnum := rOf set * sq + set.fixedW * t * 1000000000000
           held := mine.length, pairs := days.length, dirty := mine.any (·.dirty)
           marked := recs.any fun r => r.flags &&& 0x39 != 0, virtual := recs.any fun r => r.flags.getLsbD 0 }
  | _, _, _ => none

/-- The day's sums of a feeder phase: the intervals that R470 admits. -/
def fitDayOf (day : Nat) (l : List IvEval) : FitDay :=
  (l.filter fun e => e.held == e.pairs && !e.dirty && !e.marked).foldl (fun d e =>
    let y := e.ef - e.em
    { d with n := d.n + 1, sx := d.sx + (e.x : Int), sy := d.sy + y, sxx := d.sxx + ((e.x * e.x : Nat) : Int), sxy := d.sxy + (e.x : Int) * y }) { day := day }

/-- R = 3.6 × the slope of y on x over the ring, in µΩ (rounding: log entry 15); none when n is below 672 or the variance of x is 0 (R470). -/
def fittedR (l : List FitDay) : Option Int :=
  let n := l.foldl (fun t d => t + d.n) (0 : Nat)
  let sx := l.foldl (fun t d => t + d.sx) (0 : Int)
  let sy := l.foldl (fun t d => t + d.sy) (0 : Int)
  let sxx := l.foldl (fun t d => t + d.sxx) (0 : Int)
  let sxy := l.foldl (fun t d => t + d.sxy) (0 : Int)
  let v := (n : Int) * sxx - sx * sx
  if n < 672 || v ≤ 0 then none else some (openDiv (((n : Int) * sxy - sx * sy) * 3600000000000) v.toNat)

/-- Refits a feeder phase after a day (R470): the new settings, and the fitted value when it was clamped. -/
def refit (s : State) (day : Nat) (l : List IvEval) (f : FeederSet) : FeederSet × Option Int :=
  let ring := ((f.fit.filter fun d => day < d.day) ++ fitDayOf day l :: (f.fit.filter fun d => d.day < day)).take s.cfg.act.bal.fitDays
  let f := { f with fit := ring }
  if f.declared then (f, none)
  else match fittedR ring with
    | none => (f, none)
    | some v =>
      let r := if v < 0 then 0 else min v.toNat f.rMax
      ({ f with r := some r }, if (r : Int) = v then none else some v)

/-! ### Summaries and records (R469, R471, R472, R476) -/

/-- RESIDUAL / E_FEEDER in 0.01 %, rounded toward zero (BS15). -/
def residBp (resid ef : Int) : Int := if ef = 0 then 0 else (resid * 10000).tdiv ef

/-- The summary of a list of evaluations. -/
def summaryOf (s : State) (day child f p meters : Nat) (flags rU ivs : Nat) (l : List IvEval) : BalSummary :=
  let ef := l.foldl (fun t e => t + e.ef) 0
  let em := l.foldl (fun t e => t + e.em) 0
  let est := l.foldl (fun t e => t + e.est) 0
  let et := lossOf (l.foldl (fun t e => t + e.lnum) 0)
  let cov := coverOf (l.foldl (fun t e => t + e.held) 0) (l.foldl (fun t e => t + e.pairs) 0)
  let resid := ef - em - et
  { dayTai := dayTai s day, feeder := f, phase := p, child := child, meters := meters, eFeeder := ef, eMeters := em, eTech := et
    residual := resid, rUohm := rU, coverage := cov, intervals := ivs
    estimated := if em = 0 then 0 else (est.natAbs * 1000 / em.natAbs)
    residBp := residBp resid ef
    flags := flags ||| bit (cov < s.cfg.act.bal.coverMin) ||| 8 * bit (l.any (·.virtual)) ||| 64 * bit (aggregates s) }

/-- One balance record (R471, R472). -/
def balRecord (child channel iv : Nat) (value : Int) (s : State) : State :=
  let tai := taiOfUtc s (iv * ivLenS s) * 1000000000
  let (n, s) := takeSeq s
  let key := keyOfTai s tai
  let r : Record :=
    { meter := if aggregates s then 0xFFFE0000 + child else ownMeter, channel := channel
      flags := kindBits 7 ||| BitVec.ofNat 16 (bit (flaggedCycle s key)), startTai := tai, startKey := key, value := value, outcome := 0x4000, src := if aggregates s then 0xC0 else 0x80, seq := n
      entryRc := s.rc, arrivalKey := s.key, arrivalTai := s.tai }
  let (r, s) := assignVersion 0 (some true) false r s
  emitRecord r s

/-- The four balance records of an evaluated interval (BR1–BR4; rounding: log entry 15). -/
def balRecords (child channel : Nat) (e : IvEval) (s : State) : State :=
  let s := balRecord child (channel + 11) e.iv e.em s
  let s := balRecord child (channel + 12) e.iv (lossOf e.lnum) s
  let s := balRecord child (channel + 13) e.iv e.residual s
  balRecord child (channel + 14) e.iv (if e.pairs = 0 then (coverOf 0 0 : Nat) else openDiv (e.held * 100000) e.pairs) s

/-- Sums evaluations of one interval (R469, R471). -/
def joinEvals (iv : Nat) (l : List IvEval) : IvEval :=
  l.foldl (fun a e =>
    { a with ef := a.ef + e.ef, em := a.em + e.em, est := a.est + e.est, x := a.x + e.x, lnum := a.lnum + e.lnum
             held := a.held + e.held, pairs := a.pairs + e.pairs, dirty := a.dirty || e.dirty, marked := a.marked || e.marked
             virtual := a.virtual || e.virtual }) { iv := iv }

/-- The numbers of a UTC day's intervals. -/
def dayIvs (s : State) (day : Nat) : List Nat :=
  let d := 86400 / ivLenS s
  (List.range d).map fun k => day * d + k

/-- Writes a summary: kept for 35 days and put into the record archive (R476). -/
def keepSummary (day : Nat) (x : BalSummary) (s : State) : State :=
  (s.onBal fun b =>
    { b with summaries := (b.summaries.filter fun y => dayTai s (day - 35) < y.dayTai &&
        !(y.dayTai == x.dayTai && y.child == x.child && y.feeder == x.feeder && y.phase == x.phase)) ++ [x] }).onArch
    fun a => { a with sumWait := a.sumWait ++ [x] }

/-- The alerts AK1 and AK2 of a feeder phase. -/
def residAlerts (day : Nat) (x : BalSummary) (s : State) : BalSummary × State :=
  let c := s.cfg.act.bal
  if 10000000 ≤ x.eFeeder && c.coverMin ≤ x.coverage then
    if (c.residAlertBp : Int) ≤ x.residBp then
      ({ x with flags := x.flags ||| 32 }, balAlert 1 0 0xFFFFFFFF day x.feeder x.phase x.child x.residBp x.coverage s)
    else if x.residBp ≤ -(c.residNegBp : Int) then
      ({ x with flags := x.flags ||| 32 }, balAlert 2 0 0xFFFFFFFF day x.feeder x.phase x.child x.residBp x.coverage s)
    else (x, s)
  else (x, s)

/-- A feeder phase's part of a compile: evaluation, fit, records, summary, alerts. Answers its evaluations. -/
def phaseCompile (l : List Record) (day child f p : Nat) (meters : List (Nat × List MeterIv)) (s : State) : List IvEval × State :=
  let set := feederOf s child f p
  let first := (dayIvs s day).filterMap fun iv => evalIv s l child f p iv set meters
  let (set, clamped) := refit s day first set
  let evals := (dayIvs s day).filterMap fun iv => evalIv s l child f p iv set meters
  let s := s.onBal fun b => { b with feeders := tput b.feeders (feederIx child f p) set }
  let s := evals.foldl (fun s e => balRecords child (0xF000 + 16 * (4 * f + p)) e s) s
  let missing := bit (evals.length < (dayIvs s day).length || s.bal.lostMark)
  let flags := 2 * bit clamped.isSome + 4 * bit (set.declared || set.r.isNone) + 16 * missing
  let x := summaryOf s day child f p meters.length flags (rOf set) evals.length evals
  let (x, s) := match clamped with
    | some v => ({ x with flags := x.flags ||| 32 }, balAlert 6 0 0xFFFFFFFF day f p child v set.rMax s)
    | none => (x, s)
  let (x, s) := residAlerts day x s
  (evals, keepSummary day x s)

/-- A total's part of a compile: records and summary over the evaluations of several feeder phases; with `all`, E_m and coverage
are those of every meter of the child (R469, R471). -/
def totalCompile (day child f p channel meters : Nat) (all : Option (List (Nat × List MeterIv))) (parts : List IvEval) (s : State) : State :=
  let sums := (dayIvs s day).filterMap fun iv =>
    match parts.filter (fun e => e.iv == iv) with
    | [] => none
    | l =>
      let e := joinEvals iv l
      match all with
      | none => some e
      | some ms =>
        let mine := ms.filterMap fun d => d.2.find? fun q => q.iv == iv
        some { e with em := mine.foldl (fun t q => t + q.energy) 0, est := mine.foldl (fun t q => t + q.est) 0
                      held := mine.length, pairs := ms.length }
  let s := sums.foldl (fun s e => balRecords child channel e s) s
  let missing := bit (sums.length < (dayIvs s day).length || s.bal.lostMark)
  keepSummary day (summaryOf s day child f p meters (16 * missing) 0 sums.length sums) s

/-- The part of a compile of one child, or of the unit itself. Answers the evaluations of every feeder phase. -/
def childCompile (l : List Record) (day child : Nat) (s : State) : List ((Nat × Nat) × List IvEval) × State :=
  let ms := ((balMeters s).filter fun m => childOfMeter s m == child && periodFits s m).map fun m => (m, meterDay s l m)
  let on := fun (f p : Nat) => ms.filter fun m => ((tfind s.bal.topo m.1).bind (·.assigned)) == some (f, p)
  let (evals, s) := (List.range 8).foldl (fun acc f =>
    let (here, s) := (List.range 3).foldl (fun (acc : List ((Nat × Nat) × List IvEval) × State) p =>
      let (e, s) := phaseCompile l day child f p (on f p) acc.2
      (acc.1 ++ [((f, p), e)], s)) (([] : List ((Nat × Nat) × List IvEval)), acc.2)
    let n := (List.range 3).foldl (fun t p => t + (on f p).length) 0
    (acc.1 ++ here, totalCompile day child f 3 (0xF000 + 16 * (4 * f + 3)) n none (here.flatMap (·.2)) s)) (([] : List ((Nat × Nat) × List IvEval)), s)
  (evals, totalCompile day child 0xFF 0xFF 0xF200 ms.length (some ms) (evals.flatMap (·.2)) s)

/-! ### Scores (R473–R475) -/

/-- 2³², the unit of the scoring sums. -/
def scoreUnit : Int := 4294967296

/-- Sums of two. -/
def MrSums.add (a b : MrSums) : MrSums :=
  ⟨a.n + b.n, a.sm + b.sm, a.smm + b.smm, a.sr + b.sr, a.srr + b.srr, a.smr + b.smr, a.zeros + b.zeros⟩

/-- The difference of two. -/
def MrSums.sub (a b : MrSums) : MrSums :=
  ⟨a.n - b.n, a.sm - b.sm, a.smm - b.smm, a.sr - b.sr, a.srr - b.srr, a.smr - b.smr, a.zeros - b.zeros⟩

/-- Every sum × (d − 1) / d (R473; rounding: log entry 15). -/
def MrSums.decay (d : Nat) (a : MrSums) : MrSums :=
  let g := fun (x : Int) => openDiv (x * ((d : Int) - 1)) (max 1 d)
  ⟨g a.n, g a.sm, g a.smm, g a.sr, g a.srr, g a.smr, g a.zeros⟩

/-- A meter's contributions of a day: the intervals of its assigned feeder phase with coverage of COVER_MIN or more in which it holds
a value (R473). -/
def dayScore (s : State) (evals : List IvEval) (mine : List MeterIv) : MrSums :=
  (evals.filter fun e => s.cfg.act.bal.coverMin ≤ coverOf e.held e.pairs).foldl (fun a e =>
    match mine.find? (fun q => q.iv == e.iv) with
    | none => a
    | some q =>
      let m := q.energy
      let r := e.residual
      a.add ⟨scoreUnit, m * scoreUnit, m * m * scoreUnit, r * scoreUnit, r * r * scoreUnit, m * r * scoreUnit,
        if q.zero && 0 < r then scoreUnit else 0⟩) {}

/-- ρ of scoring sums in 2⁻³² units; free when a variance is 0 (log entry 22). -/
def rhoFix (a : MrSums) : Int :=
  let cov := a.n * a.smr - a.sm * a.sr
  let vm := (a.n * a.smm - a.sm * a.sm).toNat
  let vr := (a.n * a.srr - a.sr * a.sr).toNat
  if vm * vr = 0 then (voidOf [a.n, a.sm, a.smm, a.sr, a.srr, a.smr]).tdiv 268435456
  else
    let q : Int := (isqrtFrom 100 0 (cov.natAbs * cov.natAbs * 18446744073709551616 / (vm * vr)) : Nat)
    if cov < 0 then -q else q

/-- Whether ρ is undefined or n is below D (SC1). -/
def rhoVoid (s : State) (a : MrSums) : Bool :=
  a.n < ((86400 / ivLenS s : Nat) : Int) * scoreUnit || a.n * a.smm - a.sm * a.sm ≤ 0 || a.n * a.srr - a.sr * a.sr ≤ 0

/-- A meter's scoring sums take a day: first the decay, unless the day is compiled again, then the contributions, in place of those
that an earlier compile of that day added (R473, R493; log entry 22). -/
def scoreTake (s : State) (day : Nat) (again : Bool) (d : MrSums) (b : ScoreSt) : ScoreSt :=
  let k := s.cfg.act.bal.scoreDays
  let b := if again then b
    else { b with sums := b.sums.decay k, days := (b.days.map fun q => (q.1, q.2.decay k)).filter fun q => day < q.1 + 36
                  tamper := ratioOf (b.tamper * (k - 1)) k + b.tamperDay * 4294967296
                  changes := ratioOf (b.changes * (k - 1)) k + b.changesDay * 4294967296, tamperDay := 0, changesDay := 0 }
  let old := tget b.days day {}
  { b with sums := (b.sums.sub old).add d, days := tput b.days day d }

/-- The components and the score (R474). -/
def scoreFill (s : State) (assigned : Bool) (med : Int) (b : ScoreSt) : ScoreSt :=
  let ρ := rhoFix b.sums
  let dPerDay := 86400 / ivLenS s
  let c1 := if !assigned || rhoVoid s b.sums then 0 else min 1000 (max 0 (floorDiv ((ρ - med) * 2000) 4294967296)).toNat
  let c2 := min 1000 (250 * b.tamper / 4294967296)
  let c3 := min 1000 (1000 * b.sums.zeros.toNat / (7 * dPerDay * 4294967296))
  let c4 := min 1000 (500 * b.changes / 4294967296)
  let w := s.cfg.act.bal.weights
  let wsum := max 1 (w.foldl (· + ·) 0)
  let num := w.getD 0 0 * c1 + w.getD 1 0 * c2 + w.getD 2 0 * c3 + w.getD 3 0 * c4
  { b with comps := [c1, c2, c3, c4], score := num / wsum, rho := openDiv (ρ * 1000) 4294967296, rhoMed := openDiv (med * 1000) 4294967296 }

/-- Alert kind 3 (R475, AK3). -/
def scoreAlert (day m : Nat) (b : TopoMeter) (s : State) : TopoMeter × State :=
  let x := b.score
  let due : Bool := s.cfg.act.bal.scoreAlert ≤ x.score && (match x.alerted with
    | none => true
    | some old => old + 100 ≤ x.score)
  if due then
    let bits := (List.range 4).foldl (fun t k => t + bit (500 ≤ x.comps.getD k 0) * 2 ^ k) 0
    let (f, p) := b.assigned.getD (0xFF, 0xFF)
    ({ b with score := { x with alerted := some x.score } }, balAlert 3 0 m day f p b.child (x.score : Nat) (bits : Nat) s)
  else (b, s)

/-- Scores of every meter after a day. -/
def scoreCompile (l : List Record) (day : Nat) (again : Bool) (evals : List (Nat × List ((Nat × Nat) × List IvEval))) (s : State) : State :=
  let ms := balMeters s
  let s := ms.foldl (fun s m =>
    let b := topoOf s m
    let e := match b.assigned with
      | some fp => (((tget evals b.child []).find? fun q => q.1 == fp).map (·.2)).getD []
      | none => []
    let d := dayScore s e (if periodFits s m then meterDay s l m else [])
    setTopo m { b with score := scoreTake s day again d b.score } s) s
  ms.foldl (fun s m =>
    let b := topoOf s m
    let peers := ms.filterMap fun k =>
      let q := topoOf s k
      if q.child == b.child && q.assigned == b.assigned then some (rhoFix q.score.sums) else none
    let med := median peers
    let b := { b with score := scoreFill s b.assigned.isSome (if b.assigned.isSome then med else 0) b.score }
    let (b, s) := scoreAlert day m b s
    setTopo m b s) s

/-! ### The compile (R478–R481) -/

/-- Children whose lines are compiled: the unit itself in the field role, else every child with a series or a meter. -/
def balChildren (s : State) : List Nat :=
  if aggregates s then
    ((s.bal.series.map (·.child)) ++ (balMeters s).map (childOfMeter s)).eraseDups.foldl (fun l c => if l.contains c then l else l ++ [c]) []
  else [0]

/-- The item of a summary: its feeder point, the transformer line apart (MD6). -/
def summaryIx (x : BalSummary) : Nat := if x.feeder = 255 then 0x80000000 + x.child else feederIx x.child x.feeder x.phase

/-- The balance items that a pair mirrors (R481, MD6). -/
def balItems (s : State) : List DeltaBody :=
  let ixs := (s.bal.feeders.map (·.1) ++ s.bal.summaries.map summaryIx).foldl (fun l i => if l.contains i then l else l ++ [i]) []
  ixs.map (fun i => .feeder i (tget s.bal.feeders i {}) (s.bal.summaries.filter fun x => summaryIx x == i)) ++ [.balDay s.bal.lastDay]

/-- Mirrors the balance accumulators (R481, R736). -/
def mirrorBal (s : State) : State := (balItems s).foldl (fun s b => mirror b s) s

/-- Writes a checkpoint to SR2: copy A, and copy B once copy A has committed (R480, R520; its contents stand at its commit page, log entry
450). -/
def balCheckpoint (day : Nat) (s : State) : State :=
  if archWorks s then storePage balanceRegion (.balance { day := day, topo := s.bal.topo, feeders := s.bal.feeders }) s else s

/-- Compiles a day; `again` for BAL_RECOMPILE, which leaves topology unchanged (R478, R493). -/
def compileDay (day : Nat) (again : Bool) (s : State) : State :=
  let l := dayRecords s day
  let bad := (balMeters s).filter fun m => !periodFits s m
  let late := if again then 0 else ((committedRecs s).filter fun r =>
    s.bal.scanPos ≤ r.pos && kindOf r.record == 0 &&
      (r.record.channel == s.cfg.act.bal.importCh || r.record.channel == s.cfg.act.bal.exportCh) &&
      (match s.bal.lastDay with | some d => utcDay s r.record.startTai ≤ d | none => false)).length
  let s := s.onBal fun b =>
    { b with excluded := w32 (b.excluded + bad.length), late := w32 (b.late + late), compiles := inc32 b.compiles
             scanPos := if again then b.scanPos else s.arch.nextPos }
  let (evals, s) := (balChildren s).foldl (fun acc c =>
    let (e, s) := childCompile l day c acc.2
    (tput acc.1 c e, s)) (([] : List (Nat × List ((Nat × Nat) × List IvEval))), s)
  let s := if again then s else (balMeters s).foldl (fun s m => topoMeterCompile day m s) s
  let s := scoreCompile l day again evals s
  let s := if again then s else s.onBal fun b => { b with lastDay := some day, lostMark := false }
  mirrorBal (balCheckpoint day s)

/-- The instant from which a day's compile is due, TAI ns (R478). -/
def compileDue (s : State) (day : Nat) : Nat := dayTai s (day + 1) + s.cfg.act.bal.reportDelayMin * 60000000000

/-- The oldest day still to be compiled and how many are due; days are made up for at most 35 days back (R479). -/
def dueDays (s : State) : List Nat :=
  let today := utcDay s s.tai
  let first := match s.bal.lastDay with
    | some d => max (d + 1) (today - 35)
    | none => today - 1
  ((List.range (today - first)).map (first + ·)).filter fun d => compileDue s d ≤ s.tai

/-- BAL_COMPILE: the compile that a BAL_RECOMPILE asked for, else the oldest day that is due; the first compile of a catch-up run
raises alert kind 7 (R478, R479). -/
def execBalCompile (dt : Nat) (s : State) : Outcome State Fault Refusal :=
  let s := tick dt s
  if balDisabled s || !archWorks s || !workRuns s .balance then .next s
  else
    match s.bal.recompile with
    | some d => .next (compileDay d true (s.onBal fun b => { b with recompile := none }))
    | none =>
      match dueDays s with
      | [] => .next s
      | d :: rest =>
        let minutes := (s.tai - compileDue s d) / 60000000000
        let late : Bool := 0 < minutes || !rest.isEmpty
        let s := if late && !s.bal.catching then
            balAlert 7 0 0xFFFFFFFF d 0xFF 0xFF 0 (minutes : Nat) ((rest.length + 1 : Nat) : Int) s
          else s
        .next (compileDay d false (s.onBal fun b => { b with catching := late && !rest.isEmpty }))

/-! ### Commands (R485–R493) -/

/-- TOPO_READ (R487). -/
def topoRead (t : Taken) (s : State) : State × Reply :=
  let m := fld t.payload 0 4
  if (ctxOf s m).isNone then (s, answer .badarg)
  else
    let b := topoOf s m
    let r := b.result
    let (f, p) := b.assigned.getD (0xFF, 0xFF)
    (s, okWith (leBytes 4 m ++ leBytes 1 r.state ++ leBytes 1 r.phase ++ leBytes 1 r.feeder ++ leBytes 1 (r.source + 16 * bit b.pinned)
      ++ leBytes 2 r.phaseConf ++ leBytes 2 r.feederConf ++ leBytesI 2 r.rPhase ++ leBytesI 2 r.rFeeder ++ leBytes 4 r.n
      ++ leBytes 2 b.child ++ leBytes 2 r.zcMean ++ leBytes 8 (dayTai s b.windowDay) ++ leBytes 8 b.since ++ leBytes 1 p ++ leBytes 1 f
      ++ leBytes 2 b.changes ++ leBytes 4 0))

/-- TOPO_READ, the command. -/
def execTopoRead (dt : Nat) (host : Fin 4) (s : State) : Outcome State Fault Refusal :=
  .next (runCmd 0x0901 host topoRead (tick dt s))

/-- TOPO_PIN (R465, R488). -/
def topoPin (t : Taken) (s : State) : State × Reply :=
  let m := fld t.payload 0 4
  let mode := fld t.payload 4 1
  let f := fld t.payload 5 1
  let p := fld t.payload 6 1
  if (ctxOf s m).isNone || 1 < mode then (s, answer .badarg)
  else
    let b := topoOf s m
    if mode = 0 then (setTopo m { b with pinned := false, assigned := b.proposal } s, answer .ok)
    else if 7 < f || 2 < p || !isCandidate s b.child f p then (s, answer .badarg)
    else (setTopo m { b with pinned := true, assigned := some (f, p), since := s.tai } s, answer .ok)

/-- TOPO_PIN, the command. -/
def execTopoPin (dt : Nat) (host : Fin 4) (s : State) : Outcome State Fault Refusal :=
  .next (runCmd 0x0902 host topoPin (tick dt s))

/-- BAL_FEEDER_SET (R489): it acts from the next compile, which alone reads the settings. -/
def balFeederSet (t : Taken) (s : State) : State × Reply :=
  let b := t.payload
  let child := fld b 0 2
  let f := fld b 2 1
  let p := fld b 3 1
  let rMax := fld b 12 4
  if 7 < f || 2 < p || 1 < fld b 4 1 || rMax = 0 || 10000000 < rMax || rMax < fld b 8 4 || 4095 < child ||
      (child ≠ 0 && !aggregates s) then (s, answer .badarg)
  else
    let ix := feederIx child f p
    let x := { feederOf s child f p with declared := fld b 4 1 = 1, rDecl := fld b 8 4, rMax := rMax, fixedW := fld b 16 4 }
    let s := s.onBal fun q => { q with feeders := tput q.feeders ix x }
    (mirror (.feeder ix x (s.bal.summaries.filter fun y => feederIx y.child y.feeder y.phase == ix)) s, answer .ok)

/-- BAL_FEEDER_SET, the command. -/
def execBalFeederSet (dt : Nat) (host : Fin 4) (s : State) : Outcome State Fault Refusal :=
  .next (runCmd 0x0903 host balFeederSet (tick dt s))

/-- The 64 bytes of a summary (R476). -/
def summaryBytes (x : BalSummary) : List Byte :=
  leBytes 8 x.dayTai ++ leBytes 1 x.feeder ++ leBytes 1 x.phase ++ leBytes 2 x.flags ++ leBytes 2 x.child ++ leBytes 2 x.meters
    ++ leBytesI 8 x.eFeeder ++ leBytesI 8 x.eMeters ++ leBytesI 8 x.eTech ++ leBytesI 8 x.residual ++ leBytes 4 x.rUohm
    ++ leBytes 4 x.coverage ++ leBytes 2 x.intervals ++ leBytes 2 x.estimated ++ leBytesI 2 x.residBp ++ leBytes 2 0

/-- Whether a TAI ns is a UTC midnight. -/
def isMidnight (s : State) (tai : Nat) : Bool := tai == dayTai s (utcDay s tai)

/-- Whether a day has not been compiled, or is older than 35 days (R490, R493). -/
def dayStale (s : State) (day : Nat) : Bool := match s.bal.lastDay with
  | none => true
  | some d => d < day || day + 35 < utcDay s s.tai

/-- BAL_REPORT_READ (R490). -/
def balReportRead (t : Taken) (s : State) : State × Reply :=
  let tai := fld t.payload 0 8
  let child := fld t.payload 8 2
  let f := fld t.payload 10 1
  let p := fld t.payload 11 1
  let combo : Bool := ((f ≤ 7 && p ≤ 3) || (f = 0xFF && p = 0xFF)) && (balChildren s).contains child
  if !isMidnight s tai || !combo then (s, answer .badarg)
  else if dayStale s (utcDay s tai) then (s, answer .stale)
  else match s.bal.summaries.find? (fun x => x.dayTai == tai && x.child == child && x.feeder == f && x.phase == p) with
    | some x => (s, okWith (summaryBytes x))
    | none => (s, answer .stale)

/-- BAL_REPORT_READ, the command. -/
def execBalReportRead (dt : Nat) (host : Fin 4) (s : State) : Outcome State Fault Refusal :=
  .next (runCmd 0x0904 host balReportRead (tick dt s))

/-- SCORE_READ (R491). -/
def scoreRead (t : Taken) (s : State) : State × Reply :=
  let m := fld t.payload 0 4
  if (ctxOf s m).isNone then (s, answer .badarg)
  else
    let x := (topoOf s m).score
    (s, okWith (leBytes 2 x.score ++ x.comps.flatMap (leBytes 2) ++ leBytesI 2 x.rho ++ leBytesI 2 x.rhoMed
      ++ leBytes 2 (x.tamper / 4294967296) ++ leBytes 2 (x.sums.zeros.toNat / 4294967296) ++ leBytes 2 (x.changes / 4294967296) ++ leBytes 4 0))

/-- SCORE_READ, the command. -/
def execScoreRead (dt : Nat) (host : Fin 4) (s : State) : Outcome State Fault Refusal :=
  .next (runCmd 0x0905 host scoreRead (tick dt s))

/-- BAL_COUNTERS (R492). -/
def balCounters (_t : Taken) (s : State) : State × Reply :=
  let b := s.bal
  (s, okWith ([b.topoSamples, b.noReference, b.overrun, b.excluded, b.late, b.compiles, b.alerts, b.notPushed].flatMap (leBytes 4)))

/-- BAL_COUNTERS, the command. -/
def execBalCounters (dt : Nat) (host : Fin 4) (s : State) : Outcome State Fault Refusal :=
  .next (runCmd 0x0906 host balCounters (tick dt s))

/-- BAL_RECOMPILE (R493): the compile runs at the next BAL_COMPILE. -/
def balRecompile (t : Taken) (s : State) : State × Reply :=
  let tai := fld t.payload 0 8
  if s.bal.recompile.isSome then (s, answer .busy)
  else if !isMidnight s tai then (s, answer .badarg)
  else if dayStale s (utcDay s tai) then (s, answer .stale)
  else (s.onBal fun b => { b with recompile := some (utcDay s tai) }, answer .ok)

/-- BAL_RECOMPILE, the command. -/
def execBalRecompile (dt : Nat) (host : Fin 4) (s : State) : Outcome State Fault Refusal :=
  .next (runCmd 0x0907 host balRecompile (tick dt s))

/-- BAL.STAT (R485): DISABLED, COMPILING, the W1C bits, UNASSIGNED. -/
def balStat (s : State) (w1c : Word) : Word :=
  let un := ((balMeters s).filter fun m => ((tfind s.bal.topo m).bind (·.assigned)).isNone).length
  BitVec.ofNat 32 (bit (balDisabled s) + 2 * bit s.bal.recompile.isSome + 65536 * min 65535 un) ||| (w1c &&& 0xC)

end Sys2Proof.Machine
end

