-- ==== Sys2Proof/Machine/Mains.lean ====
section
/-! DEFINITION. The mains count, the lock and the cross-reference: the commands of "Mains time and the scheduler" that no host
gives. -/

namespace Sys2Proof.Machine

open Host (Outcome)

/-! ### Cycles -/

/-- The reference channel that qualifies: the lowest-numbered of L1–L3 with at least 40 % of the declared voltage; none in the
aggregation role with the metrology front end unpowered (R65, R75). -/
def refCandidate (s : State) : Option Nat :=
  if s.cfg.startCfg.role == some .aggregation && !s.cfg.startCfg.metroPowered then none
  else (List.range 3).find? fun n => s.cfg.act.declaredMv * 2 ≤ (s.mains.rms.toList.getD n 0) * 5

/-- The length of the Virtual or Acquiring cycle in progress in 2⁻³² ns: up to the first instant at or after its exact end (R72). -/
def nominalCycle (s : State) : Nat := (ofS 1 - s.mains.virtFrac + nominalHz s - 1) / nominalHz s

/-- What the start of the next Virtual cycle lies after the exact end of the one in progress (R72). -/
def nextVirtFrac (s : State) : Nat := nominalCycle s * nominalHz s + s.mains.virtFrac - ofS 1

/-- Whether the always-on island writes the cycle number to MRAM at each boundary: parked after Hem, and in Hold (R61). -/
def rewritesCount (s : State) : Bool := s.pwr.stage == .parked || (s.pwr.stage == .held && s.pwr.hemMark) || s.pwr.state == .hold

/-- Ends the cycle in progress at a rate-corrected instant and starts the next one: every change of state and of reference
takes effect here (R65, R73), the start is recorded (R79) and its flag set (R74). -/
def endCycle (at' : Nat) (accepted : Bool) (next : MainsState) (s : State) : State :=
  let cand := refCandidate s
  let next := if cand.isNone then .virtual else next
  let m := s.mains
  let len := at' - m.startRc
  let ended := m.cycles.map fun r => if r.cycle == m.cycle then { r with lenRc := len } else r
  let r : CycleRec :=
    { cycle := m.cycle + 1, startTai := reportedAt s at', lenRc := 0, accepted := accepted && next == .locked, state := next,
      wall := m.anchored, startRc := at', phase0 := 0 }
  s.onMains fun m =>
    { m with
      cycle := m.cycle + 1
      startRc := at'
      virtFrac := 0
      state := next
      ref := cand
      flagged := !(accepted && next == .locked)
      cycles := (r :: ended).take 262144
      segFlags := m.segFlags ||| segFlagOf m.state
      toAcquire := false
      realign := false
      holdCycles := if next == .holdover then m.holdCycles else 0
      run := if next == .acquiring then m.run else []
      lastCross := if cand.isNone then none else m.lastCross
      savedCycle := if rewritesCount s then some (m.cycle + 1) else m.savedCycle }

/-- The compensated instant of a crossing: the delay in periods of the 24.576 MHz clock and the fixed latency are subtracted,
and a crossing of L2 or L3 is shifted by its angle to L1 (R25, R26, R65). -/
def crossInstant (s : State) (chan delay : Nat) : Nat :=
  let raw := compensate s.rc delay
  let angle := if chan = 1 then s.mains.angles.1 else if chan = 2 then s.mains.angles.2 else 0
  raw - angle * cycleLen s / 65536

/-- Whether `x` lies between 0.9 and 1.1 predicted periods after `base` (R68, R71). -/
def inWindow (period base x : Nat) : Bool := base * 10 + period * 9 ≤ x * 10 && x * 10 ≤ base * 10 + period * 11

/-- Measured frequency in 0.001 Hz of a period in 2⁻³² ns (T10); its rounding is open (log entry 15). -/
def freqOf (period : Nat) : Nat := ratioOf (1000 * ofS 1) (max 1 period)

/-- Locked more than 5 Hz from nominal: one event per start (R76). -/
def checkOffNominal (s : State) : State :=
  let p := s.mains.period
  let nom := nominalHz s
  if !s.mains.freqSeen && s.mains.state == .locked && (ofS 1 < p * (nom - 5) || p * (nom + 5) < ofS 1) then
    raise .freqOff srcSup [] (s.onMains fun m => { m with freqSeen := true })
  else s

/-- The realigning cycle ends in Locked: REALIGNED, one event, a segment closed (R67, R80). -/
def noteRealigned (s : State) : State :=
  raise .realigned srcSup [] (setSticky 0x030 0x40 s)

/-- One crossing in Virtual or Acquiring (R66, R67). -/
def acquire (x : Nat) (s : State) : State :=
  let m := s.mains
  match m.lastCross with
  | none => s.onMains fun m => { m with lastCross := some x, run := [], toAcquire := true }
  | some last =>
    let i := x - last
    let freqOk := ofS 1 ≤ i * 65 && i * 45 ≤ ofS 1
    let near := match m.run with
      | [] => true
      | p :: _ => (max i p - min i p) * 100 ≤ p
    let run := if !freqOk then [] else if near then i :: m.run else [i]
    let s := s.onMains fun m => { m with lastCross := some x, run := run, toAcquire := true }
    if 8 ≤ run.length then
      let mean := (run.take 8).foldl (· + ·) 0 / 8
      let ph := phaseAt s x
      if 32768 ≤ ph then
        let s := noteRealigned s
        let s := s.onMains fun m => { m with period := mean, run := [] }
        checkOffNominal (closeSegment false (endCycle x true .locked s))
      else s.onMains fun m => { m with realign := true, period := mean, run := [] }
    else s

/-- One crossing while the realigning cycle holds at 65,535 (R67). -/
def realignCross (x : Nat) (s : State) : State :=
  match s.mains.lastCross with
  | some last =>
    if inWindow s.mains.period last x then
      let s := noteRealigned s
      checkOffNominal (closeSegment false (endCycle x true .locked (s.onMains fun m => { m with lastCross := some x })))
    else s.onMains fun m => { m with ignored := inc32 m.ignored }
  | none => s

/-- One crossing while Locked (R68, R69). -/
def lockedCross (x : Nat) (s : State) : State :=
  match s.mains.lastCross with
  | some last =>
    if inWindow s.mains.period last x then
      let s := endCycle x true .locked s
      checkOffNominal (s.onMains fun m => { m with lastCross := some x, period := (7 * m.period + (x - last)) / 8 })
    else s.onMains fun m => { m with ignored := inc32 m.ignored }
  | none => s

/-- One crossing in Holdover: accepted from the start of the holdover cycle in progress, its interval not averaged in (R71). -/
def holdoverCross (x : Nat) (s : State) : State :=
  if inWindow s.mains.period s.mains.startRc x then
    (endCycle x true .locked s).onMains fun m => { m with lastCross := some x }
  else s.onMains fun m => { m with ignored := inc32 m.ignored }

/-- ZERO_CROSSING: a stamp of a voltage channel arrives over position 0 (R26, R65–R71). Stamps of a channel that is not the
reference, or while the framed channel is down, have no effect. -/
def execZeroCrossing (dt chan delay : Nat) (s : State) : Outcome State Fault Refusal :=
  let s := tick dt s
  if s.pwr.aonOn && s.fab.seamUp && s.mains.ref == some chan then
    let x := crossInstant s chan delay
    if s.mains.realign then .next (realignCross x s)
    else match s.mains.state with
      | .virtual | .acquiring => .next (acquire x s)
      | .locked => .next (lockedCross x s)
      | .holdover => .next (holdoverCross x s)
  else .next s

/-- HOLDOVER_ENTRY: 1.1 predicted periods after the last accepted crossing, or after the crossing that closed the eighth
interval, the cycle ends at that moment (R67, R71). -/
def execHoldoverEntry (dt : Nat) (s : State) : Outcome State Fault Refusal :=
  let s := tick dt s
  match s.mains.lastCross with
  | some last =>
    let due := last + s.mains.period * 11 / 10
    if s.pwr.aonOn && due ≤ s.rc && (s.mains.state == .locked || s.mains.realign) then
      let s' := endCycle due false .holdover (s.onMains fun m => { m with holdCycles := 0 })
      .next (if s.mains.realign then closeSegment false (noteRealigned s') else s')
    else .next s
  | none => .next s

/-- HOLDOVER_CYCLE_END: one of the first seven holdover cycles ends at the last predicted period (R71). -/
def execHoldoverCycleEnd (dt : Nat) (s : State) : Outcome State Fault Refusal :=
  let s := tick dt s
  let due := s.mains.startRc + s.mains.period
  if s.pwr.aonOn && s.mains.state == .holdover && due ≤ s.rc && s.mains.holdCycles < 7 then
    .next (endCycle due false .holdover (s.onMains fun m => { m with holdCycles := m.holdCycles + 1 }))
  else .next s

/-- HOLDOVER_TO_VIRTUAL: the eighth holdover cycle ends without an accepted crossing (R71). -/
def execHoldoverToVirtual (dt : Nat) (s : State) : Outcome State Fault Refusal :=
  let s := tick dt s
  let due := s.mains.startRc + s.mains.period
  if s.pwr.aonOn && s.mains.state == .holdover && due ≤ s.rc && s.mains.holdCycles == 7 then
    .next (endCycle due false .virtual (s.onMains fun m => { m with lastCross := none }))
  else .next s

/-- VIRTUAL_CYCLE_END: a cycle in Virtual or Acquiring ends on the rate-corrected time at nominal frequency, unless the phase
has been stopped from wrapping (R67, R72, R73). -/
def execVirtualCycleEnd (dt : Nat) (s : State) : Outcome State Fault Refusal :=
  let s := tick dt s
  let due := s.mains.startRc + nominalCycle s
  if s.pwr.aonOn && (s.mains.state == .virtual || s.mains.state == .acquiring) && !s.mains.realign && due ≤ s.rc then
    .next ((endCycle due false (if s.mains.toAcquire || s.mains.state == .acquiring then .acquiring else .virtual) s).onMains fun m =>
      { m with virtFrac := nextVirtFrac s })
  else .next s

/-- CYCLE_CHECKPOINT: 4,096 cycles after the last one, the cycle number is checkpointed into MRAM, in every stage in which the always-on
island counts, so that no number repeats (R60, R61; log entry 346). -/
def execCycleCheckpoint (dt : Nat) (s : State) : Outcome State Fault Refusal :=
  let s := tick dt s
  if s.pwr.aonOn && s.mains.checkpoint + 4096 ≤ s.mains.cycle then
    .next (s.onMains fun m => { m with checkpoint := m.cycle })
  else .next s

/-- MAINS_COUNT_ALIGN: at the cycle boundary after the heartbeat that carried a higher number, the count moves forward to it: the cycle
that has begun takes that number and the numbers from the next after the old count are skipped; a segment closes and is marked as an
alignment, one event holds both numbers, and entries in the skipped numbers become late (R63, R64). The new number is
checkpointed, so that it does not repeat (R61; log entry 346). -/
def execMainsCountAlign (dt : Nat) (s : State) : Outcome State Fault Refusal :=
  let s := tick dt s
  match s.mains.moveTo with
  | some (n, came) =>
    if s.pwr.aonOn && came < s.mains.cycle then
      let next := s.mains.cycle
      if next < n then
        let s := closeSegment true s
        let s := s.onMains fun m =>
          { m with
            cycle := n
            segFirst := n
            moveTo := none
            checkpoint := n
            cycles := m.cycles.map fun r => if r.cycle == next then { r with cycle := n } else r }
        let s := lateSkipped next n s
        .next (raise .countMoved srcSup (leBytes 8 (next - 1) ++ leBytes 8 n) s)
      else .next (s.onMains fun m => { m with moveTo := none })
    else .next s
  | none => .next s

/-- XREF_SEGMENT_CLOSE: 65,536 cycles after the segment opened, the supervisor closes it (R80). -/
def execXrefSegmentClose (dt : Nat) (s : State) : Outcome State Fault Refusal :=
  let s := tick dt s
  if s.pwr.stage == .running && s.mains.segFirst + 65536 ≤ s.mains.cycle then .next (closeSegment false s)
  else .next s

/-! ### Anchoring and steps -/

/-- Whether the tick in which OFFSET was written has passed and every entry due at it has been dispatched (R109). -/
def stepTickDone (s : State) : Bool := s.time.stepKey < s.key && (nextDue s).isNone

/-- Splits the cycle in progress at the phase tick of a step: from here its wall time is the new one (R79, R82). -/
def splitCycle (s : State) : State :=
  let p := s.phase
  let r : CycleRec :=
    { cycle := s.mains.cycle, startTai := s.reported, lenRc := 0, accepted := !s.mains.flagged, state := s.mains.state,
      wall := true, startRc := s.rc, phase0 := p }
  s.onMains fun m =>
    { m with cycles := (r :: m.cycles.map fun q =>
        if q.cycle == s.mains.cycle && q.phase1 == 65536 then { q with phase1 := p } else q).take 262144 }

/-- The calendar's rate at the anchoring, where no switch has given it yet (R203, R205). -/
def startRate (s : State) : State :=
  if s.cfg.act.calendar.isSome && s.reg.calRate.isNone then
    commitRate s.mains.cycle (s.onReg fun g => { g with calRate := calendarRate s s.tai })
  else s

/-- ANCHOR_APPLY: at the phase tick after the first OFFSET write the segment closes, the wall-based entries that hosts placed
are converted and every series is placed; the entries due are then evaluated (R83). A calendar that could not yet give its rate gives it
(R203). -/
def execAnchorApply (dt : Nat) (s : State) : Outcome State Fault Refusal :=
  let s := tick dt s
  if s.time.stepDue == 1 && stepTickDone s then
    let s := closeSegment false s
    let s := reconvertAll s
    let s := startRate (placeAllSeries s)
    .next (s.onTime fun t => { t with stepDue := 0 })
  else .next s

/-- STEP_APPLY: at the tick after a step the segment closes with the step flag, and every wall-based entry is converted again
(R109, R111, R112). -/
def execStepApply (dt : Nat) (s : State) : Outcome State Fault Refusal :=
  let s := tick dt s
  if s.time.stepDue == 2 && stepTickDone s then
    let s := s.onMains fun m => { m with segFlags := m.segFlags ||| 4 }
    let s := closeSegment false s
    let s := splitCycle s
    let s := reconvertAll s
    .next (s.onTime fun t => { t with stepDue := 0 })
  else .next s

/-- ENTRY_RECONVERT: at the start of the cycle before its instant a wall-based entry is converted to its final key (R87). -/
def execEntryReconvert (dt seq : Nat) (s : State) : Outcome State Fault Refusal :=
  let s := tick dt s
  match s.sched.entries.find? (fun e => e.seq == seq) with
  | some e =>
    match e.wall with
    | some w =>
      if !e.lastConv && s.mains.anchored && e.late.isNone && s.key < entryKey s w && entryKey s w / 65536 ≤ s.mains.cycle + 1 then
        .next (s.onSched fun c =>
          { c with entries := c.entries.map fun q =>
              if q.seq == seq then { q with key := entryKey s w, lastConv := true } else q })
      else .next s
    | none => .next s
  | none => .next s

/-! ### Registers of the mains -/

/-- MAINS.STAT (R77); `w1c` are the host's copies of its W1C bits. FREQ in Acquiring is that of the latest interval of the run; without one
it is the nominal frequency (T10; log entry 431). -/
def mainsStat (s : State) (w1c : Word) : Word :=
  let m := s.mains
  let st := match m.state with | .virtual => 0 | .acquiring => 1 | .locked => 2 | .holdover => 3
  let ref := match m.ref with | some r => r | none => 3
  let freq := match m.state with
    | .virtual => nominalHz s * 1000
    | .acquiring => if m.realign then freqOf m.period else match m.run with
      | i :: _ => freqOf i
      | [] => nominalHz s * 1000
    | .locked | .holdover => freqOf m.period
  BitVec.ofNat 32 (st + 4 * ref + 16 * bit m.anchored + 32 * bit m.nominal60 + 512 * bit m.countValid + 65536 * w16 freq)
    ||| (w1c &&& 0x1C0)

/-- A host's access makes it online again (R624). -/
def touchHost (h : Fin 4) (s : State) : State :=
  if (s.host h).port == 0 then s else s.setHost h { s.host h with online := true }

/-- A read of MAINS.CYC_LO latches MAINS.CYC_HI for the reading host (R78). -/
def latchMains (host : Fin 4) (s : State) : State :=
  let s := touchHost host s
  s.setHost host { s.host host with
    mainsLatch := BitVec.ofNat 32 (s.mains.cycle / 0x100000000 % 65536 + 65536 * s.phase) }

/-- MAINS_CYC_LO_READ (R78). -/
def execMainsCycLoRead (dt : Nat) (host : Fin 4) (s : State) : Outcome State Fault Refusal :=
  let s := tick dt s
  if s.pwr.aonOn then .next (latchMains host s) else .next s

end Sys2Proof.Machine
end

