-- ==== Sys2Proof/Machine/Time.lean ====
section
/-! DEFINITION. Network time, the TIME commands and the host-requested events ("Network time and one-step stamping", the
host-requested events of "Mains time and the scheduler"). -/

namespace Sys2Proof.Machine

open Host (Outcome)

/-! ### Steering -/

/-- The lowest INCR of R120. -/
def incrMin : Nat := 0x1FFBE76C9
/-- The highest INCR of R120. -/
def incrMax : Nat := 0x200418937

/-- Whether INCR may take this value (R120). -/
def incrOk (n : Nat) : Bool := incrMin ≤ n && n ≤ incrMax

/-- INCR without any slew, as the commit that waits will leave it, else the one in force (R123). -/
def baseIncr (s : State) : Nat :=
  match s.time.shadow, s.time.shadowSlew, s.time.slew with
  | some _, some w, _ => w.restore
  | some (incr, _), none, _ => incr
  | none, _, some w => w.restore
  | none, _, none => s.time.incr

/-- The part of a slew not yet removed, in ns, signed: all of one that waits for its commit (R124, R142). -/
def slewLeft (s : State) (w : Slew) : Int :=
  openDiv (((if w.ticks = 0 then w.endCount - s.time.count else w.ticks : Nat) : Int) * w.perTick) nsUnit

/-- The slew that a new one or a step would replace: the one that waits for its commit, else the one in progress. -/
def replacedSlew (s : State) : Option Slew :=
  match s.time.shadow with
  | some _ => s.time.shadowSlew
  | none => s.time.slew

/-- The part of any replaced slew not yet removed (R124, R142). -/
def slewRemaining (s : State) : Int :=
  match replacedSlew s with
  | some w => slewLeft s w
  | none => 0

/-- The change of INCR that a slew at `ppm` of an amount in ns makes, in units per tick, signed: that part of the nominal INCR, to the
nearest unit, as the worked case of R123 takes it (log entry 401). -/
def slewDelta (ppm : Nat) (amount : Int) : Int :=
  let d : Int := ((0x200000000 * ppm + 500000) / 1000000 : Nat)
  if amount < 0 then -d else if amount = 0 then 0 else d

/-- Writes the shadow pair; an OFFSET that waits there for its phase tick stays, so that no pair written is lost (R121, R122). -/
def writeShadow (incr : Nat) (slew : Option Slew) (t : TimeSt) : TimeSt :=
  { t with shadow := some (incr, t.shadow.bind (·.2)), shadowSlew := slew }

/-- A slew that is replaced is counted as discarded (R124). -/
def countReplaced (s : State) (t : TimeSt) : TimeSt :=
  if (replacedSlew s).isSome then { t with slewDiscarded := inc32 t.slewDiscarded } else t

/-- The rate `base` under the slew in progress or waiting, which goes on; the combined INCR stays within R120 (R120, R123). -/
def prepareRate (base : Nat) (s : State) : State :=
  s.onTime fun t =>
    match replacedSlew s with
    | none => writeShadow (clamp incrMin incrMax base) none t
    | some w =>
      let incr := clamp incrMin incrMax ((clamp incrMin incrMax base : Nat) + w.perTick).toNat
      writeShadow incr (some { w with restore := ((incr : Int) - w.perTick).toNat }) t

/-- Prepares a slew of `amount` ns at `ppm` from the rate `base`, to start with the next commit; the combined INCR stays
within R120 (R121, R123, R124). -/
def prepareSlew (base ppm : Nat) (amount : Int) (s : State) : State :=
  let d := (clamp incrMin incrMax ((base : Int) + slewDelta ppm amount).toNat : Int) - base
  let ticks := ratioOf (amount.natAbs * nsUnit) d.natAbs
  s.onTime fun t =>
    writeShadow ((base : Int) + d).toNat (if ticks = 0 then none else some { ticks := ticks, restore := base, perTick := d })
      (countReplaced s t)

/-- Prepares an OFFSET that moves the reported time by `delta` (2⁻³² ns) together with the rate `base`, the INCR without the
slew in progress, whose unremoved part is discarded and counted; `take` applies the held correction (R121, R124, R125). -/
def prepareStep (base : Nat) (delta : Int) (take : Bool) (s : State) : State :=
  s.onTime fun t =>
    { countReplaced s t with shadow := some (base, some (t.offset + delta)), shadowSlew := none, shadowTake := take }

/-- A correction of `ns` that a source proposes: an OFFSET write while OFFSET has not been written; else a slew up to the step
threshold, a step beyond it, and a backward one of more than 1 s held with one event (R113, R123, R125). -/
def proposeCorrection (base : Nat) (ns : Int) (s : State) : State :=
  let s := if s.time.held.isSome && ns.natAbs ≤ 1000000000 then s.onTime fun t => { t with held := none } else s
  if !s.time.offsetWritten then prepareStep base (ns * nsUnit) false s
  else if ns == 0 then s
  else if ns.natAbs ≤ s.cfg.act.stepThresholdNs then prepareSlew base s.cfg.act.slewPpm ns s
  else if -1000000000 ≤ ns then prepareStep base (ns * nsUnit) false s
  else
    let s' := s.onTime fun t => { t with held := some ns }
    if s.time.held.isSome then s' else raise .heldBackward srcSup (leBytesI 8 ns) s'

/-- Whether the present counter tick is the first of a phase tick (R122). -/
def firstOfPhaseTick (s : State) : Bool :=
  s.rc < s.mains.startRc + s.time.incr || phaseAt s s.rc != phaseAt s (s.rc - s.time.incr)

/-- The cycles already timed in this start get wall times, backwards from the anchoring, and the segments closed in it with them: all move
by what OFFSET has moved (R83). -/
def anchorCycles (delta : Int) (s : State) : State :=
  let shift := fun (ns : Nat) => ((ofNs ns : Int) + delta).toNat / nsUnit
  s.onMains fun m =>
    { m with anchored := true
             cycles := m.cycles.map fun r => { r with startTai := reportedAt s r.startRc, wall := true }
             segments := m.segments.map fun g =>
               if g.wall then g
               else { g with startTai := shift g.startTai, endTai := shift g.endTai, closedTai := shift g.closedTai, wall := true } }

/-- A slew as its commit starts it, or goes on with it (R123). -/
def startSlew (count : Nat) (w : Slew) : Slew := if w.ticks = 0 then w else { w with endCount := count + w.ticks, ticks := 0 }

/-- Answers the TIME_STEPs that waited for the phase tick of the step (R143). -/
def answerSteps (dates : List Byte) (s : State) : State :=
  s.time.stepOwners.foldl (fun s q => if hh : q.1 < 4 then respond ⟨q.1, hh⟩ q.2 (okWith dates) s else s)
    (s.onTime fun t => { t with stepOwners := [] })

/-- An OFFSET commit: the anchoring, a trim or a step (R83, R108, R110, R125). -/
def commitOffset (incr : Nat) (offset : Int) (s : State) : State :=
  let before := s.tai
  let key := s.key
  let first := !s.time.offsetWritten
  let delta := offset - s.time.offset
  let s := s.onTime fun t =>
    { t with
      incr := incr, offset := offset, offsetWritten := true, shadow := none, slew := t.shadowSlew.map (startSlew t.count), shadowSlew := none
      stepKey := key, stepDue := if first then 1 else 2, held := if t.shadowTake then none else t.held, shadowTake := false }
  let dates := leBytes 8 before ++ leBytes 8 s.tai
  let s :=
    if first then raise .anchored srcSup dates (anchorCycles delta s)
    else if delta.natAbs ≤ ofMs 1 then s.onTime fun t => { t with trims := inc32 t.trims }
    else
      let s := s.onTime fun t => { t with steps := w16 (t.steps + 1) }
      setSticky 0x030 0x80 (raise .timeStep srcSup (dates ++ leBytes 8 key) s)
  answerSteps dates s

/-- TIME_PAIR_COMMIT: the shadow INCR and OFFSET become active in one step; a commit that changes OFFSET does so at the first
counter tick of a phase tick, and is the anchoring, a trim or a step (R83, R108, R110, R121–R124). -/
def execTimePairCommit (dt : Nat) (s : State) : Outcome State Fault Refusal :=
  let s := tick dt s
  match s.time.shadow with
  | none => .next s
  | some (incr, none) =>
    .next (s.onTime fun t =>
      { t with incr := incr, shadow := none, slew := t.shadowSlew.map (startSlew t.count), shadowSlew := none })
  | some (incr, some offset) => if firstOfPhaseTick s then .next (commitOffset incr offset s) else .next s

/-- A rate that waits for its commit under a slew that has ended is committed without it. -/
def dropEnded (t : TimeSt) : TimeSt :=
  match t.shadow, t.shadowSlew with
  | some (_, o), some w => if w.ticks = 0 then { t with shadow := some (w.restore, o), shadowSlew := none } else t
  | _, _ => t

/-- SLEW_END: after the computed number of ticks INCR is restored; ticks that have passed since count at the restored INCR
(R116, R123). -/
def execSlewEnd (dt : Nat) (s : State) : Outcome State Fault Refusal :=
  let s := tick dt s
  match s.time.slew with
  | some w =>
    if w.endCount ≤ s.time.count then
      let past := s.time.count - w.endCount
      .next (s.onTime fun t =>
        dropEnded { t with rc := t.rc - past * t.incr + past * w.restore, incr := w.restore, slew := none })
    else .next s
  | none => .next s

/-! ### Sources -/

/-- The highest-priority source that qualifies (R126). -/
def bestSource (s : State) : TimeSrc :=
  let c := s.cfg.act
  let t := s.time
  let ptp := if t.bestPort == 0 then (if t.qual0 then some TimeSrc.port0 else if t.qual1 then some .port1 else none)
    else if t.qual1 then some .port1 else if t.qual0 then some .port0 else none
  match ptp, c.srcPtp with
  | some p, true => p
  | _, _ =>
    if c.srcParent && c.parent && t.qualParent then .parent
    else if c.srcHost && t.hostSet then .host
    else .freeRun

/-- Whether a source is an IEEE 1588 port or the parent. -/
def networkSource : TimeSrc → Bool
  | .port0 | .port1 | .parent => true
  | .host | .freeRun => false

/-- Whether the selected source still qualifies (R126). -/
def stillQualifies (s : State) : Bool :=
  match s.time.src with
  | .port0 => s.time.qual0 && s.cfg.act.srcPtp
  | .port1 => s.time.qual1 && s.cfg.act.srcPtp
  | .parent => s.time.qualParent && s.cfg.act.srcParent && s.cfg.act.parent
  | .host => s.time.hostSet && s.cfg.act.srcHost
  | .freeRun => true

/-- SERVO right after a selection (R147). -/
def servoAt (src : TimeSrc) (lost : Bool) : Servo :=
  match src with
  | .port0 | .port1 => .acquiring
  | .parent => .locked
  | .host | .freeRun => if lost then .holdover else .freeRun

/-- Selects the best source; a change of source starts its SERVO afresh, and offset, delay and what Announce supplied go with the source
(R126, R129, R144, R147). A higher source that qualifies ends the host's (Y3). -/
def selectSource (s : State) : State :=
  let lost := if networkSource s.time.src && !stillQualifies s then true else s.time.lostHigher
  let b := bestSource s
  if b == s.time.src then s
  else s.onTime fun t =>
    { t with
      src := b
      servo := servoAt b lost
      lostHigher := if networkSource b then false else lost
      below1us := 0
      offsetNs := 0
      pathDelayNs := 0
      hostSet := if networkSource b then false else t.hostSet
      utcPtp := none }

/-- The selected source has lost qualification: INCR and OFFSET stay, SERVO reads Holdover, an event and
SYS.ALARM.TIME_HOLDOVER, then the next source (R127). -/
def loseSource (s : State) : State :=
  let s := s.onTime fun t => { t with servo := .holdover }
  selectSource (setAlarm 0x100 (raise .sourceLoss srcSup [] s))

/-- What a source supplies now, after what it supplied before: a leap indicator names the UTC day on which it was first received (R129). -/
def heardUtc (s : State) (old : Option UtcInfo) (u : Int) (l61 l59 : Bool) : UtcInfo :=
  let today := (((s.tai / 1000000000 : Nat) : Int) - u).toNat / 86400
  { utc := u, leap61 := l61, leap59 := l59
    day := match old with
      | some i => if i.leap61 || i.leap59 then i.day else today
      | none => today }

/-- SOURCE_SELECT: the ports' states and the best master clock algorithm's choice change; `announce` is the selected IEEE 1588
source's UTC offset and leap indicators (R126, R129). -/
def execSourceSelect (dt : Nat) (q0 q1 : Bool) (best : Nat) (announce : Option (Int × Bool × Bool)) (s : State) :
    Outcome State Fault Refusal :=
  let s := tick dt s
  if s.pwr.stage == .running then
    let s := s.onTime fun t => { t with qual0 := q0, qual1 := q1, bestPort := best % 2 }
    let s := if stillQualifies s then selectSource s else loseSource s
    match announce, s.time.src with
    | some (u, l61, l59), .port0 | some (u, l61, l59), .port1 =>
      .next (s.onTime fun t => { t with utcPtp := some (heardUtc s t.utcPtp u l61 l59), utcLast := some u })
    | _, _ => .next s
  else .next s

/-- SOURCE_LOSS: the selected source loses qualification (R127). -/
def execSourceLoss (dt : Nat) (s : State) : Outcome State Fault Refusal :=
  let s := tick dt s
  match s.pwr.stage, s.time.src with
  | .running, .port0 => .next (loseSource (s.onTime fun t => { t with qual0 := false }))
  | .running, .port1 => .next (loseSource (s.onTime fun t => { t with qual1 := false }))
  | .running, .parent => .next (loseSource (s.onTime fun t => { t with qualParent := false }))
  | _, _ => .next s

/-- What a source has supplied once the end of the UTC day that its leap indicator names has passed (R129). -/
def afterLeap (s : State) (i : UtcInfo) : UtcInfo :=
  let shift : Int := if i.leap61 then 1 else -1
  if (i.leap61 || i.leap59) && (((i.day + 1) * 86400 : Nat) : Int) + i.utc + shift ≤ ((s.tai / 1000000000 : Nat) : Int) then
    { utc := i.utc + shift, day := i.day }
  else i

/-- LEAP_APPLY: at the end of the UTC day that the leap indicator names the offset changes by one second (R129). -/
def execLeapApply (dt : Nat) (s : State) : Outcome State Fault Refusal :=
  let s := tick dt s
  .next (s.onTime fun t =>
    { t with utcPtp := t.utcPtp.map (afterLeap s), utcParent := t.utcParent.map (afterLeap s)
             utcLast := match utcSource s with
               | some i => some (afterLeap s i).utc
               | none => t.utcLast })

/-! ### IEEE 1588 frames -/

/-- Units of 1/65,536 ns as 2⁻³² ns (R140). -/
def lat (n : Nat) : Nat := n * 65536

/-- The servo takes a measurement of the selected port: offset and delay are kept, SERVO follows R147, INCR is the servo's
(its law is not stated: a free value within R120), a slew in progress going on over it, and the offset is a proposed correction
(R123, R133). -/
def servoMeasure (offsetNs : Int) (delayNs : Nat) (s : State) : State :=
  let small := offsetNs.natAbs < 1000
  let n := if small then s.time.below1us + 1 else 0
  let servo := match s.time.servo with
    | .locked => if 10000 ≤ offsetNs.natAbs then .acquiring else .locked
    | _ => if 16 ≤ n then .locked else .acquiring
  let s := prepareRate (clamp incrMin incrMax (Config.servoIncr offsetNs delayNs (baseIncr s))) s
  let s := s.onTime fun t => { t with offsetNs := offsetNs, pathDelayNs := delayNs, below1us := min n 16, servo := servo }
  proposeCorrection (baseIncr s) (-offsetNs) s

/-- Whether a message of a frame is recognised as PTP: one of the three transports, at most two VLAN tags, no IPv6 extension header before
UDP (U2, R133). -/
def ptpRecognised (m : PtpMsg) : Bool :=
  m.vlans ≤ 2 && match m.transport with
    | .ipv6 => !m.extHeaders
    | .ipv4 | .ethernet => true

/-- The ports on which this clock type takes part in PTP (U1). -/
def ptpPort (s : State) (port : Nat) : Bool :=
  match s.cfg.act.ptpClock with
  | .ordinary0 => port == 0
  | .ordinary1 => port == 1
  | .boundary | .endToEnd | .peerToPeer => port < 2

/-- Whether the delay mechanism is peer delay (U1, U3, U4). -/
def peerDelay (s : State) : Bool := s.cfg.act.ptpClock == .peerToPeer || s.cfg.act.ptpProfile != .delayRequest

/-- Whether the clock is transparent (U1). -/
def isTransparent (s : State) : Bool := s.cfg.act.ptpClock == .endToEnd || s.cfg.act.ptpClock == .peerToPeer

/-- The receive stamp kept with the frame of a port, messageType, identity and sequenceId, the newest. -/
def stampOf (s : State) (port kind ident seqId : Nat) : Option Nat :=
  (s.time.ptpIn.reverse.find? fun q => q.port == port && q.kind == kind && q.ident == ident && q.seqId == seqId).bind (·.stamp)

/-- The servo offset in ns that a Sync gives: its receive stamp less the master's time, the path delay and the delay asymmetry, times in
1/65,536 ns (R131, R140; rounding: log entry 15). -/
def syncOffset (s : State) (port stamp : Nat) (y : PtpSync) : Int :=
  openDiv ((stamp : Int) - ((y.origin + y.delay : Nat) + (s.cfg.act.ports.getD port {}).asym) * 65536) nsUnit

/-- Takes the measurement that a Sync, or the Follow_Up of a two-step master's Sync, completes, on the selected port and in the domain of
the device (R130, R131, R133). -/
def takeSync (port : Nat) (m : PtpMsg) (s : State) : State :=
  let stamp := if m.kind = 0 || m.kind = 8 then stampOf s port 0 m.ident m.seqId else none
  match m.sync, stamp with
  | some y, some x =>
    if m.domain == s.cfg.act.ptpDomain && (m.kind = 8 || !m.twoStep) && s.time.src == (if port = 0 then TimeSrc.port0 else .port1) then
      servoMeasure (syncOffset s port x y) (y.delay / 65536) s
    else s
  | _, _ => s

/-- Keeps the receive stamp of a Delay_Req: the latest 64 of each port (R135). -/
def keepDelayReq (port ident seqId stamp : Nat) (s : State) : State :=
  s.onTime fun t =>
    let mine := ((t.delayReqs.filter fun q => q.1 == port).reverse.take 63).reverse
    { t with delayReqs := (t.delayReqs.filter fun q => q.1 != port) ++ mine ++ [(port, ident, seqId, stamp, t.rc)] }

/-- PTP_EVENT_RECEIVE: a frame received on a port. A recognised event message (messageTypes 0 Sync, 1 Delay_Req, 2 Pdelay_Req, 3
Pdelay_Resp) is stamped at the reference plane and passed with its stamp; others pass unstamped. A message may complete a
measurement of the offset or of the link delay (R130, R131, R133–R135, R140). -/
def execPtpEventReceive (dt port : Nat) (msg : PtpMsg) (s : State) : Outcome State Fault Refusal :=
  let s := tick dt s
  if s.pwr.stage == .running && port < 2 then
    let event := ptpRecognised msg && msg.kind ≤ 3
    let stamp := s.reported - lat (s.cfg.act.ports.getD port {}).rxLat
    let s := s.onTime fun t =>
      { t with ptpIn := t.ptpIn ++
          [{ port := port, kind := msg.kind, ident := msg.ident, seqId := msg.seqId, stamp := if event then some stamp else none }] }
    if ptpRecognised msg && ptpPort s port then
      let s := if msg.kind = 1 then keepDelayReq port msg.ident msg.seqId stamp s else s
      let s := match msg.link with
        | some d => if peerDelay s && (msg.kind = 3 || msg.kind = 10) then s.onTime fun t => { t with linkDelay := t.linkDelay.set port d } else s
        | none => s
      .next (takeSync port msg s)
    else .next s
  else .next s

/-- The 16-bit words of a PTP timestamp field: six bytes of seconds and four of nanoseconds (IEEE 1588). -/
def stampWords (ns : Nat) : List Nat :=
  let sec := ns / 1000000000
  let part := ns % 1000000000
  [sec / 4294967296 % 65536, sec / 65536 % 65536, sec % 65536, part / 65536, part % 65536]

/-- The 16-bit words of a correctionField, signed, in 1/65,536 ns. -/
def correctionWords (c : Int) : List Nat :=
  let w := (c % 18446744073709551616).toNat
  [w / 281474976710656, w / 4294967296 % 65536, w / 65536 % 65536, w % 65536]

/-- A sum of 16-bit words with its carries added back, for sums below 2³². -/
def onesFold (n : Nat) : Nat :=
  let m := n % 65536 + n / 65536
  m % 65536 + m / 65536

/-- The one's-complement incremental update of a checksum for words that replace others (R136). -/
def checksumUpdate (old : Nat) (before after : List Nat) : Nat :=
  65535 - onesFold (65535 - old + (before.map (65535 - ·)).sum + after.sum)

/-- The UDP checksum sent after values are inserted: an IPv4 checksum of 0 stays 0, a computed 0 is sent as 0xFFFF (R136). -/
def udpChecksum (udp : PtpUdp) (before after : List Nat) : Nat :=
  if udp.ipv4 && udp.checksum == 0 then 0
  else
    let c := checksumUpdate udp.checksum before after
    if c == 0 then 0xFFFF else c

/-- A PTP frame leaves with its fields written, its UDP checksum corrected and its frame check sequence recomputed; `origin` is the
timestamp field written (R134, R136, R137). -/
def sendPtp (port kind : Nat) (corr c : Int) (origin : Option Nat) (udp : Option PtpUdp) (s : State) : State :=
  let sum := udp.map fun u =>
    match origin with
    | some o => udpChecksum u (stampWords u.stamp ++ correctionWords corr) (stampWords o ++ correctionWords c)
    | none => udpChecksum u (correctionWords corr) (correctionWords c)
  s.onTime fun t => { t with ptpOut := t.ptpOut ++
    [{ port := port, kind := kind, origin := origin.getD 0, correction := c, checksum := sum, fcsRecomputed := true }] }

/-- PTP_EGRESS: a PTP frame departs; one that a transparent clock forwards came in on the other port. Its own receive stamps give the
residence time and the turnaround time, and in a peer-to-peer transparent clock the Sync gains the measured link delay of its
ingress port. A message without a field of R134 leaves as it is; a Follow_Up or Pdelay_Resp_Follow_Up of its own is never sent (R130,
R134–R137, R140; log entry 433). -/
def execPtpEgress (dt port kind ident seqId : Nat) (corr : Int) (forwarded : Bool) (udp : Option PtpUdp) (s : State) :
    Outcome State Fault Refusal :=
  let s := tick dt s
  if s.pwr.stage == .running && ptpPort s port then
    let egress := s.reported + lat (s.cfg.act.ports.getD port {}).txLat
    let plain := s.onTime fun t => { t with ptpOut := t.ptpOut ++
      [{ port := port, kind := kind, correction := corr, checksum := udp.map fun u => u.checksum }] }
    if forwarded then
      if !isTransparent s then .next s
      else if kind ≤ 3 then match stampOf s (1 - port) kind ident seqId with
        | some rx =>
          let link : Int := if kind = 0 && s.cfg.act.ptpClock == .peerToPeer then (s.time.linkDelay.getD (1 - port) 0 : Nat) else 0
          .next (sendPtp port kind corr (corr + ((egress - rx) / 65536 : Nat) + link) none udp s)
        | none => .next s
      else .next plain
    else match kind with
      | 0 => .next (sendPtp port kind corr (corr + (egress % nsUnit / 65536 : Nat)) (some (egress / nsUnit)) udp s)
      | 3 => match stampOf s port 2 ident seqId with
        | some rx => .next (sendPtp port kind corr (corr + ((egress - rx) / 65536 : Nat)) none udp s)
        | none => .next s
      | 8 | 10 => .next s
      | 9 =>
        match s.time.delayReqs.reverse.find? (fun q =>
            q.1 == port && q.2.1 == ident && q.2.2.1 == seqId && s.rc ≤ q.2.2.2.2 + ofS 1) with
        | some q =>
          let stamp := q.2.2.2.1
          .next (sendPtp port kind corr (corr - (stamp % nsUnit / 65536 : Nat)) (some (stamp / nsUnit)) udp s)
        | none => .next (s.onTime fun t => { t with delayRespDropped := inc32 t.delayRespDropped })
      | _ => .next plain
  else .next s

/-! ### TIME commands -/

/-- Whether TIME_SET and TIME_ADJ are locked: source Y1 or Y2 is selected (R128). -/
def timeLocked (s : State) : Bool := networkSource s.time.src

/-- TIME 0x0201 TIME_SET (R141). TAI_NS is the reported time at the acceptance: the step moves by that difference (log entry 434). -/
def timeSet (t : Taken) (s : State) : State × Reply :=
  let tai := fld t.payload 0 8
  let flags := fld t.payload 10 2
  if 1 < flags then (s, answer .badarg)
  else if timeLocked s || !s.cfg.act.srcHost then (s, answer .locked)
  else if ofNs (tai + 1000000000) < s.reported then (s, answer .denied)
  else
    let s := prepareStep (baseIncr s) ((ofNs tai : Int) - s.reported) false s
    let s := s.onTime fun u =>
      { u with hostSet := true, lostHigher := false
               utcFromHost := if hasBit flags 0 then some (fldI t.payload 8 2) else u.utcFromHost }
    let s := selectSource s
    (s.onTime fun u => { u with servo := servoAt u.src false }, answer .ok)

/-- TIME_SET runs the oldest one dispatched for the host (R141). -/
def execTimeSet (dt : Nat) (host : Fin 4) (s : State) : Outcome State Fault Refusal :=
  .next (runCmd 0x0201 host timeSet (tick dt s))

/-- TIME 0x0202 TIME_ADJ: mode 0 sets the rate, under a slew in progress if there is one; mode 1 slews. The part of a replaced
slew not yet removed is returned (R142). A rate whose sum with the slew in progress leaves R120 is answered with BADARG too (log
entry 435). -/
def timeAdj (t : Taken) (s : State) : State × Reply :=
  let mode := fld t.payload 0 1
  let ppm := fld t.payload 2 2
  let value := fld t.payload 8 8
  let amount := fldI t.payload 8 8
  let under : Int := match replacedSlew s with
    | some w => w.perTick
    | none => 0
  if 1 < mode || (mode = 0 && (ppm ≠ 0 || !incrOk value || !incrOk ((value : Int) + under).toNat))
      || (mode = 1 && (ppm < 1 || 500 < ppm || !incrOk ((baseIncr s : Int) + slewDelta ppm amount).toNat)) then (s, answer .badarg)
  else if timeLocked s then (s, answer .locked)
  else if mode = 0 then (prepareRate value s, okWith (leBytes 8 0))
  else (prepareSlew (baseIncr s) ppm amount s, okWith (leBytesI 8 (slewRemaining s)))

/-- TIME_ADJ runs the oldest one dispatched for the host (R142). -/
def execTimeAdj (dt : Nat) (host : Fin 4) (s : State) : Outcome State Fault Refusal :=
  .next (runCmd 0x0202 host timeAdj (tick dt s))

/-- TIME 0x0203 TIME_STEP, the authorised step; it is answered at the phase tick of the step (R113, R125, R143). TARGET_TAI_NS is the
reported time at the acceptance (log entry 434). -/
def timeStep (h : Fin 4) (t : Taken) (s : State) : State × Reply :=
  let target := fld t.payload 0 8
  let expect := fld t.payload 8 8
  let tol := fld t.payload 16 2
  let take := hasBit (fld t.payload 18 2) 0
  let off := ((ofNs expect : Int) - s.reported).natAbs
  if !(s.host h).timeAuth then (s, answer .denied)
  else if take && (s.time.held.isNone || target ≠ 0) then (s, answer .badarg)
  else if ofMs tol < off then (s, answer .stale)
  else
    let delta : Int := if take then s.time.held.getD 0 * nsUnit else (ofNs target : Int) - s.reported
    let s := prepareStep (baseIncr s) delta take s
    (s.onTime fun u => { u with stepOwners := u.stepOwners ++ [(h.val, t)] }, { silent := true })

/-- TIME_STEP runs the oldest one dispatched for the host (R143). -/
def execTimeStep (dt : Nat) (host : Fin 4) (s : State) : Outcome State Fault Refusal :=
  .next (runCmd 0x0203 host (timeStep host) (tick dt s))

/-- SRC as TIME.STAT encodes it (Q6). -/
def srcCode : TimeSrc → Nat
  | .freeRun => 0 | .port0 => 1 | .port1 => 2 | .parent => 3 | .host => 4

/-- SERVO as TIME.STAT encodes it (Q7). -/
def servoCode : Servo → Nat
  | .freeRun => 0 | .acquiring => 1 | .locked => 2 | .holdover => 3

/-- PEND_MS: the held backward correction in ms, signed and saturating (Q14). -/
def pendMs (s : State) : Int :=
  match s.time.held with
  | some ns => max (-2147483648) (min 2147483647 (Int.tdiv ns 1000000))
  | none => 0

/-- TIME 0x0204 TIME_STATUS (R144). -/
def timeStatus (_t : Taken) (s : State) : State × Reply :=
  let net := networkSource s.time.src
  (s, okWith (leBytesI 8 (if net then s.time.offsetNs else 0) ++ leBytes 4 (if net then s.time.pathDelayNs else 0)
    ++ leBytes 8 s.time.incr ++ leBytes 1 (srcCode s.time.src) ++ leBytes 1 (servoCode s.time.servo)
    ++ leBytes 2 s.time.steps ++ leBytes 4 s.time.trims ++ leBytesI 4 (pendMs s)))

/-- TIME_STATUS runs the oldest one dispatched for the host (R144). -/
def execTimeStatus (dt : Nat) (host : Fin 4) (s : State) : Outcome State Fault Refusal :=
  .next (runCmd 0x0204 host timeStatus (tick dt s))

/-! ### Host-requested events -/

/-- The wall instant of firing n of a wall-based host-requested event, n = 0 the first, in 2⁻³² ns: n × PERIOD nominal cycles of exactly
1/50 s or 1/60 s after it (R98). -/
def hostEvtWall (s : State) (e : HostEvt) (n : Nat) : Nat := ofNs e.firstTai + n * e.period * ofS 1 / nominalHz s

/-- The key of firing n of a host-requested event (R98). -/
def hostEvtKey (s : State) (e : HostEvt) (n : Nat) : Nat :=
  if e.wallBased then entryKey s (hostEvtWall s e n) else e.firstKey + n * e.period * 65536

/-- Places firing n of a host-requested event; one whose key has passed is late (R86, R93, R98). -/
def placeHostEvt (e : HostEvt) (n : Nat) (s : State) : State :=
  placeOr { key := hostEvtKey s e n, wall := if e.wallBased then some (hostEvtWall s e n) else none
            cls := 8, sub := e.host, owner := e.host, action := .hostNotice e.handle } s

/-- The first handle from `n` on that names no known entry: handles are numbered from 1 to 65,535 and round again (R98, R100; log entry
436). -/
def freeHandle (s : State) : Nat → Nat → Nat
  | 0, n => n
  | fuel + 1, n => if s.sched.hostEvts.any (fun e => e.handle == n) then freeHandle s fuel (n % 65535 + 1) else n

/-- TIME 0x0220 SCHED_ADD (R98). -/
def schedAdd (h : Fin 4) (t : Taken) (s : State) : State × Reply :=
  let p := t.payload
  let key := mkKey (fld p 0 6) (fld p 6 2)
  let tai := fld p 8 8
  let basis := fld p 16 1
  let ring := fld p 18 2
  let period := fld p 20 4
  let count := fld p 24 4
  let k := if basis = 0 then key else entryKey s (ofNs tai)
  if !namesRing s h.val ring 24 || 1 < basis || (period = 0 && count ≠ 0) then (s, answer .badarg)
  else if basis = 1 && !s.mains.anchored then (s, answer .locked)
  else if !aheadEnough s k then (s, answer .stale)
  else if 256 ≤ quotaUsed s 8 h.val then (s, answer .nospace)
  else
    let e : HostEvt :=
      { handle := freeHandle s 65535 s.sched.nextHandle, host := h.val, ring := ring, wallBased := basis == 1, period := period, count := count
        fired := 0, userTag := fld p 28 4, firstKey := k, firstTai := tai, done := false }
    let s := s.onSched fun c => { c with hostEvts := c.hostEvts ++ [e], nextHandle := e.handle % 65535 + 1 }
    (placeHostEvt e 0 s, okWith (leBytes 2 e.handle ++ [0, 0] ++ leBytes 6 (k / 65536) ++ leBytes 2 (k % 65536)))

/-- SCHED_ADD runs the oldest one dispatched for the host (R98). -/
def execSchedAdd (dt : Nat) (host : Fin 4) (s : State) : Outcome State Fault Refusal :=
  .next (runCmd 0x0220 host (schedAdd host) (tick dt s))

/-- TIME 0x0221 SCHED_CANCEL (R100). -/
def schedCancel (h : Fin 4) (t : Taken) (s : State) : State × Reply :=
  let handle := fld t.payload 0 2
  match s.sched.hostEvts.find? (fun e => e.handle == handle) with
  | none => (s, answer .badarg)
  | some e =>
    if e.host ≠ h.val then (s, answer .denied)
    else if e.done then (s, answer .stale)
    else ((dropEntries (fun q => q.action == .hostNotice handle) s).onSched fun c =>
      { c with hostEvts := c.hostEvts.filter fun q => q.handle != handle }, answer .ok)

/-- SCHED_CANCEL runs the oldest one dispatched for the host (R100). -/
def execSchedCancel (dt : Nat) (host : Fin 4) (s : State) : Outcome State Fault Refusal :=
  .next (runCmd 0x0221 host (schedCancel host) (tick dt s))

/-- TIME 0x0222 XREF (R101): LOCKED while not anchored, STALE for an instant outside the kept record; LOCKED comes first where both apply,
and the rounding of a wall time to whole ns is open (log entries 437 and 15). -/
def xref (t : Taken) (s : State) : State × Reply :=
  let dir := fld t.payload 0 1
  let v := fld t.payload 8 8
  let c := if dir = 0 then keyToWall s v else wallToKey s (ofNs v)
  if 1 < dir then (s, answer .badarg)
  else if !s.mains.anchored then (s, answer .locked)
  else if !c.kept then (s, answer .stale)
  else (s, okWith (leBytes 8 (if dir = 0 then ratioOf c.value nsUnit else c.value) ++ leBytes 4 c.errNs ++ leBytes 2 c.flags ++ [0, 0]))

/-- XREF runs the oldest one dispatched for the host (R101). -/
def execXref (dt : Nat) (host : Fin 4) (s : State) : Outcome State Fault Refusal :=
  .next (runCmd 0x0222 host xref (tick dt s))

/-- The number of the next firing of a repeating event after it has fired as number n: after a late firing, the next one after
the present (R59, R95). -/
def nextFiring (s : State) (e : HostEvt) (late : Bool) (n : Nat) : Nat :=
  if late && e.period ≠ 0 then
    if e.wallBased then
      let k := (s.reported - ofNs e.firstTai) * nominalHz s / (e.period * ofS 1) + 1
      max (n + 1) (if hostEvtKey s e k ≤ s.key then k + 1 else k)
    else max (n + 1) ((s.key - e.firstKey) / (e.period * 65536) + 1)
  else n + 1

/-- Pushes a scheduler notice; one that its ring refuses is held, up to 64 per host, and beyond that dropped as a tap drop
(R660). -/
def pushNotice (h : Fin 4) (ring : Nat) (item : List Byte) (s : State) : State :=
  if (s.host h).heldNotices.any (fun p => p.1 == ring) then
    if (s.host h).heldNotices.length < 64 then s.setHost h { s.host h with heldNotices := (s.host h).heldNotices ++ [(ring, item)] }
    else dropOnRing ring s
  else match pushRing ring item s with
    | some s' => s'
    | none =>
      if (s.host h).heldNotices.length < 64 then s.setHost h { s.host h with heldNotices := (s.host h).heldNotices ++ [(ring, item)] }
      else dropOnRing ring s

/-- Whether an entry fires a host-requested event. -/
def isHostNotice : SchedAction → Bool
  | .hostNotice _ => true
  | _ => false

/-- HOST_EVENT: a class 8 entry fires and its 24-byte notice goes to the host's ring; a repeating one is placed again (R95,
R98, R99). -/
def execHostEvent (dt : Nat) (s : State) : Outcome State Fault Refusal :=
  let s := tick dt s
  match dispatch isHostNotice s with
  | none => .next s
  | some (en, s) =>
    match en.action with
    | .hostNotice handle =>
      match s.sched.hostEvts.find? (fun e => e.handle == handle) with
      | none => .next s
      | some e =>
        let late := en.late.isSome
        let nominal := match en.late with | some l => l.1 | none => en.key
        let n := nextFiring s e late e.fired
        let last := e.period == 0 || e.count < n
        let vflag := flaggedCycle s en.key
        let item := leBytes 2 handle ++ leBytes 2 (bit late + 2 * bit last + 4 * bit vflag) ++ leBytes 4 e.userTag
          ++ leBytes 6 (nominal / 65536) ++ leBytes 2 (nominal % 65536) ++ leBytes 6 (en.key / 65536) ++ leBytes 2 (en.key % 65536)
        let s := s.onSched fun c =>
          { c with hostEvts := c.hostEvts.map fun q => if q.handle == handle then { q with fired := n, done := last } else q }
        let s := if last then s else placeHostEvt { e with fired := n } n s
        if hh : e.host < 4 then .next (pushNotice ⟨e.host, hh⟩ e.ring item s) else .next s
    | _ => .next s

/-! ### The time snapshot -/

/-- TIME.STAT (R145). -/
def timeStat (s : State) : Word :=
  let u := utcOffset s
  BitVec.ofNat 32 (srcCode s.time.src + 8 * servoCode s.time.servo + 32 * bit s.time.held.isSome + 64 * bit (leapFlags s).1
    + 128 * bit (leapFlags s).2 + 256 * bit u.2 + 65536 * (u.1 % 65536).toNat)

/-- A read of TIME.NOW_LO latches TIME.NOW_HI, NOW_FRAC, MK_LO and MK_HI for the reading host (R146). -/
def latchTime (host : Fin 4) (s : State) : State :=
  let s := touchHost host s
  s.setHost host { s.host host with
    timeLatch := [BitVec.ofNat 32 (s.tai / 0x100000000), BitVec.ofNat 32 (s.reported % nsUnit),
                  BitVec.ofNat 32 (s.key % 0x100000000), BitVec.ofNat 32 (s.key / 0x100000000)] }

/-- TIME_NOW_LO_READ (R146). -/
def execTimeNowLoRead (dt : Nat) (host : Fin 4) (s : State) : Outcome State Fault Refusal :=
  let s := tick dt s
  if s.pwr.aonOn then .next (latchTime host s) else .next s

end Sys2Proof.Machine
end

