-- ==== Sys2Proof/Machine/Trig.lean ====
section
/-! DEFINITION. The overlays' automatic triggers and the one overlay change that waits ("Configuration images and limited-count
settings", R829–R831). -/

namespace Sys2Proof.Machine

/-- Whether OVL_AUTO enables trigger `n` (R829). -/
def autoEnabled (s : State) (n : Nat) : Bool := s.cfg.act.ovlAuto.getLsbD n

/-- The overlay that a selection gives under the triggers as they stand, and whether a trigger decides it (R830). -/
def overlayFor (s : State) (selected : Nat) : Nat × Bool :=
  if selected = 2 || selected = 4 then (selected, false)
  else if autoEnabled s 3 && (match s.pair.state with | .standby | .resync | .inSync => true | _ => false) then (3, true)
  else if autoEnabled s 5 && s.cfg.trigIslanded then (5, true)
  else if autoEnabled s 6 && s.cfg.trigCatchup then (6, true)
  else (selected, false)

/-- Whether an action is an overlay change: of a host's selection below 8, of a trigger's target from 8 on. -/
def isOverlayChange : SchedAction → Bool
  | .overlayChange _ => true
  | _ => false

/-- The overlay change that waits (R831). -/
def waitingOverlay (s : State) : Option SchedEntry := s.sched.entries.find? fun e => isOverlayChange e.action

/-- Places an overlay change; one that waits is replaced and counted as superseded (R831). -/
def placeOverlay (target key : Nat) (s : State) : State :=
  let old := (waitingOverlay s).isSome
  let s := dropEntries (fun e => isOverlayChange e.action) s
  let s := if old then s.onCfg fun c => { c with superseded := inc32 c.superseded } else s
  placeOr { cls := 6, action := .overlayChange target, key := key } s

/-- A trigger has changed state: the CFG manager places the entry that puts the overlay which the triggers and the selection now
give in force at the first cycle start at least 64 pt ahead (R830, R831). -/
def evalTriggers (s : State) : State :=
  let want := (overlayFor s s.cfg.selected).1
  let due := match waitingOverlay s with
    | some e => match e.action with
      | .overlayChange t => if 8 ≤ t then t - 8 else s.cfg.overlay
      | _ => s.cfg.overlay
    | none => s.cfg.overlay
  if want = due || s.cfg.running.isNone then s else placeOverlay (8 + want) (nextCycleStart s) s

/-- Records that the upstream has not acknowledged (AT3). -/
def unackedRecords (s : State) : Nat := nextPosLocal s - s.upl.acked

/-- The upstream is up: Islanded ends, and Catch-up begins when more than CATCHUP_RECORDS wait (R829). -/
def endIslanded (s : State) : State :=
  if s.cfg.trigIslanded then
    evalTriggers (s.onCfg fun c =>
      { c with trigIslanded := false
               trigCatchup := c.trigCatchup || (autoEnabled s 6 && s.cfg.act.catchupRecords < unackedRecords s) })
  else s

/-- Catch-up ends when fewer than 10 % of CATCHUP_RECORDS wait (R829). -/
def endCatchup (s : State) : State :=
  if s.cfg.trigCatchup && unackedRecords s * 10 < s.cfg.act.catchupRecords then
    evalTriggers (s.onCfg fun c => { c with trigCatchup := false })
  else s

/-- The upstream is lost: ISLAND_MC counts from this cycle (R829). -/
def startIsland (s : State) : State := s.onCfg fun c => { c with islandFrom := s.mains.cycle }

end Sys2Proof.Machine
end

