-- ==== Sys2Proof/Machine/Upl.lean ====
section
/-! DEFINITION. The uplink and the device tree: connections, bundles, ciphertext, cursors, credit, the parent's time, DOWN messages
and the UPL commands ("Uplink and device trees"). -/

namespace Sys2Proof.Machine

open Host (Outcome)

/-- SE14 works: the supervisor and the clusters are on (R802). -/
def uplinkRuns (s : State) : Bool :=
  s.pwr.stage == .running && (match s.pwr.state with | .run | .trim => true | .doze | .hold => false)

/-- An upstream is named (R547). -/
def namesUpstream (s : State) : Bool := s.cfg.act.parent || s.cfg.act.headEnd

/-- A port's settings. -/
def portCfg (s : State) (p : Nat) : PortCfg := s.cfg.act.ports.getD p {}

/-- Whether a port may carry the upstream connection (UP1, UP2). -/
def upPort (s : State) (p : Nat) : Bool := (portCfg s p).mode ≠ 0 && (portCfg s p).useUp

/-- The port tried first, by PREFER, then by number (UP3, R546). -/
def firstPort (s : State) : Option Nat :=
  let l := [0, 1].filter (upPort s)
  (l.find? fun p => (portCfg s p).prefer).or l.head?

/-- The port of the next attempt (R546). -/
def nextPort (s : State) : Option Nat :=
  if s.upl.tryOther && upPort s (1 - s.upl.lastPort) then some (1 - s.upl.lastPort) else firstPort s

/-- A device's hop bound in µs (R568). -/
def hopBound (s : State) : Nat := 1000 * (s.cfg.act.bundleMaxMs + s.cfg.act.arch.flushMc * 20) + 25000

/-- The path bound in µs (R569). -/
def pathBound (s : State) : Nat := hopBound s + (if s.cfg.act.parent then s.upl.parentBound else 0)

/-- RELEASE of the Active image (FH6). -/
def release (s : State) : Nat := fld s.fwu.active 12 4

/-- ACTIVE_DIGEST: the digest of the Active image (R698). -/
def activeDigest (s : State) : Nat := Config.sha256 s.fwu.active

/-- The state of a link code (US1, US2). -/
def setLink (p v : Nat) (s : State) : State := s.onUpl fun u => { u with link := modAt u.link p fun _ => v }

/-- Whether the parent's time no longer serves: the qualification goes, and a selected parent is lost (R127, R563). -/
def dropParentTime (s : State) : State :=
  let s := s.onTime fun t => { t with qualParent := false }
  if s.time.src = .parent then loseSource s else s

/-- The upstream connection ends: CIPHER entries that the parent has not acknowledged are sent again in a new connection, and the
credit is gone (R558, R560). -/
def endUp (st : Nat) (s : State) : State :=
  match s.upl.conn with
  | none => s.onUpl fun u => { u with state := st }
  | some c =>
    let s := if s.upl.state = 2 then startIsland s else s
    let s := s.onSess fun b => { b with forward := c.unacked.flatMap Unacked.entries ++ b.forward }
    let s := s.onUpl fun u => { u with conn := none, state := st, credit := 0, exchanges := [], badEx := 0 }
    if s.time.qualParent then dropParentTime s else s

/-- A child's connection ends. -/
def endChild (c : Nat) (s : State) : State := onChild c (fun x => { x with conn := none }) s

/-- The connection is up: STATE up, and a connection after the first counts as RECONNECTS (R571, R573). -/
def goUp (c : UpConn) (s : State) : State :=
  endIslanded (s.onUpl fun u =>
    { u with conn := some { c with up := true, timeReqRc := s.rc }, state := 2, everUp := true
             reconnects := if u.everUp then inc32 u.reconnects else u.reconnects })

/-- UPLINK_CONNECT: a TLS connection toward the upstream is opened on the port of R546; with `ok` it is established, mutually
authenticated. A child then sends HELLO; a head end needs none, and counts as depth 1 (R546, R549, R551, R569). -/
def execUplinkConnect (dt : Nat) (ok : Bool) (s : State) : Outcome State Fault Refusal :=
  let s := tick dt s
  if uplinkRuns s && namesUpstream s && s.upl.conn.isNone && (s.upl.state ≠ 3 || s.upl.retryOk) then
    match nextPort s with
    | none => .next s
    | some p =>
      let s := s.onUpl fun u => { u with lastPort := p, attemptRc := s.rc, state := 1, tryOther := false, retryOk := true }
      if !ok then .next s
      else
        let c : UpConn := { port := p, lastRx := s.rc, lastTx := s.rc, sendPos := s.upl.acked }
        let s := setLink p (portCfg s p).mode (s.onUpl fun u => { u with conn := some c })
        if s.cfg.act.parent then
          .next (sendUp (.hello s.cfg.act.unitId (if s.cfg.startCfg.role == some .aggregation then 2 else 1) (release s)
            ((s.arch.format.map (·.formatId)).getD 0)) s)
        else .next (goUp c (s.onUpl fun u => { u with depth := 1 }))
  else .next s

/-- UPLINK_LINK_LOSS: the upstream connection's port loses link (`lost`), or the connection has not been established there within
2 s; the other port is tried if it may carry the upstream (R546). -/
def execUplinkLinkLoss (dt port : Nat) (lost : Bool) (s : State) : Outcome State Fault Refusal :=
  let s := tick dt s
  if uplinkRuns s && port < 2 then
    let s := if lost then setLink port 0 s else s
    let slow : Bool := s.upl.attemptRc + ofS 2 ≤ s.rc
    let mine := match s.upl.conn with
      | some c => c.port == port && (lost || (!c.up && slow))
      | none => s.upl.state = 1 && s.upl.lastPort = port && (lost || slow)
    if mine then
      let other := port = s.upl.lastPort && upPort s (1 - port) && firstPort s == some port
      .next ((endUp 1 s).onUpl fun u => { u with tryOther := other })
    else .next s
  else .next s

/-- CONNECTION_TIMEOUT: no message for 30 s on a child's connection, or on the upstream one (R561). -/
def execConnectionTimeout (dt : Nat) (child : Option Nat) (s : State) : Outcome State Fault Refusal :=
  let s := tick dt s
  if uplinkRuns s then
    match child with
    | some c =>
      match (childOf s c).bind (·.conn) with
      | some n => .next (if n.lastRx + ofS 30 ≤ s.rc then endChild c s else s)
      | none => .next s
    | none =>
      match s.upl.conn with
      | some n => .next (if n.lastRx + ofS 30 ≤ s.rc then endUp 1 s else s)
      | none => .next s
  else .next s

/-- KEEPALIVE_SEND: 10 s without sending (R561). -/
def execKeepaliveSend (dt : Nat) (child : Option Nat) (s : State) : Outcome State Fault Refusal :=
  let s := tick dt s
  if uplinkRuns s then
    match child with
    | some c =>
      match (childOf s c).bind (·.conn) with
      | some n => .next (if n.lastTx + ofS 10 ≤ s.rc then sendChild c .keepalive s else s)
      | none => .next s
    | none =>
      match s.upl.conn with
      | some n => .next (if n.up && s.cfg.act.parent && n.lastTx + ofS 10 ≤ s.rc then sendUp .keepalive s else s)
      | none => .next s
  else .next s

/-- KEEPALIVE: one is received (R561). -/
def execKeepalive (dt : Nat) (child : Option Nat) (s : State) : Outcome State Fault Refusal :=
  let s := tick dt s
  if uplinkRuns s then
    match child with
    | some c => .next (onChild c (fun x => { x with conn := x.conn.map fun n => { n with lastRx := s.rc } }) s)
    | none => .next (s.onUpl fun u => { u with conn := u.conn.map fun n => { n with lastRx := s.rc } })
  else .next s

/-! ### The messages' bytes and signatures (R552, R554, R555) -/

/-- The 16-byte header of a message: TYPE, STATUS 0, LENGTH, MSG_SEQ (R552). -/
def msgHeader (type len seq : Nat) : List Byte :=
  leBytes 1 type ++ leBytes 1 1 ++ leBytes 2 0 ++ leBytes 4 len ++ leBytes 4 seq ++ leBytes 4 0

/-- A BUNDLE's body up to its signature (R554). -/
def bundleBody (skipped : Bool) (first : Nat) (recs : List Record) : List Byte :=
  leBytes 2 recs.length ++ leBytes 2 (bit skipped) ++ leBytes 4 0 ++ leBytes 8 first ++ recs.flatMap recordBytes

/-- One entry of a CIPHER, CE1–CE9 and its frame padded to a multiple of 8 (R555). -/
def cipherEntry (e : Q2Entry) : List Byte :=
  leBytes 2 e.length ++ leBytes 1 e.src ++ leBytes 1 e.hops ++ leBytes 4 e.residenceUs ++ leBytes 8 e.tai ++ leBytes 8 e.addr
    ++ leBytes 2 e.apduOff ++ leBytes 2 e.apduLen ++ leBytes 4 e.child ++ e.bytes ++ List.replicate ((8 - e.bytes.length % 8) % 8) 0

/-- A CIPHER's body up to its signature (R555). -/
def cipherBody (l : List Q2Entry) : List Byte := leBytes 2 l.length ++ leBytes 6 0 ++ l.flatMap cipherEntry

/-- An ECDSA signature of `size` bytes over bytes, r then s, by the private key of a public one (R554, R685). -/
def signBytes (pub : List Byte) (size : Nat) (b : List Byte) (s : State) : List Byte × State :=
  let (v, s) := s.takeFree
  ((Config.signature pub v b ++ List.replicate size 0).take size, s)

/-- The signature of a message by the record-signing key in slot 4, over its header and its body (R554; log entry 456). -/
def signMessage (type seq : Nat) (body : List Byte) (s : State) : List Byte × State :=
  signBytes (((tfind s.pocket.slots 4).map (·.pub)).getD []) 64 (msgHeader type (body.length + 64) seq ++ body) s

/-! ### Sending upward (R553–R560, R566–R568) -/

/-- RESIDENCE_US after this hop: the time inside, rounded up to the µs, saturating (R566, R567). -/
def residence (s : State) (us entryRc : Nat) : Nat := min 0xFFFFFFFF (us + (s.rc - entryRc + ofUs 1 - 1) / ofUs 1)

/-- A record as it leaves in a bundle (R566). -/
def hopRecord (s : State) (r : Record) : Record :=
  { r with hops := min 255 (r.hops + 1), residenceUs := residence s r.residenceUs r.entryRc }

/-- A CIPHER entry as it leaves (R566). -/
def hopEntry (s : State) (e : Q2Entry) : Q2Entry :=
  { e with hops := min 255 (e.hops + 1), residenceUs := residence s e.residenceUs e.entryRc }

/-- Bytes of an entry of a CIPHER: the head and the frame padded to a multiple of 8 (R555). -/
def cipherEntryBytes (e : Q2Entry) : Nat := 32 + (e.length + 7) / 8 * 8

/-- The entries at the front that fit one CIPHER: at most 64, and 16,464 bytes with head and signature (R555). -/
def cipherFit : Nat → Nat → List Q2Entry → List Q2Entry
  | 0, _, _ => []
  | _, _, [] => []
  | n + 1, room, e :: l => if cipherEntryBytes e ≤ room then e :: cipherFit n (room - cipherEntryBytes e) l else []

/-- Committed records that may be sent, from the connection's next position: below the next position to be committed, and on a unit
in Standby, Resync or InSync only those committed while Solo or Active (R553, R732). -/
def sendable (s : State) (from0 : Nat) : List ArchRec :=
  let all := s.pair.state == .solo || s.pair.state == .active
  (committedRecs s).filter fun r => from0 ≤ r.pos && r.pos < nextPosLocal s && (all || r.active)

/-- The records at consecutive positions from `pos`, at most `n`. -/
def consecutive : Nat → Nat → List ArchRec → List ArchRec
  | 0, _, _ => []
  | _, _, [] => []
  | n + 1, pos, r :: l => if r.pos = pos then r :: consecutive n (pos + 1) l else []

/-- Whether the connection may carry one more BUNDLE or CIPHER (R560). -/
def hasCredit (s : State) (c : UpConn) : Bool := !s.cfg.act.parent || c.unacked.length < s.upl.credit

/-- Sends a message that the upstream acknowledges. -/
def sendNumbered (m : UpMsg) (nextPos : Option Nat) (entries : List Q2Entry) (s : State) : State :=
  match s.upl.conn with
  | none => s
  | some c =>
    (sendUp m s).onUpl fun u => { u with conn := u.conn.map fun n =>
      { n with unacked := n.unacked ++ [{ seq := c.sendSeq, nextPos := nextPos, entries := entries }]
               sendPos := nextPos.getD n.sendPos } }

/-- BUNDLE_SEND: forwarded frames go to a parent in a CIPHER; else a bundle goes once 256 committed records are held or
BUNDLE_MAX_MS has passed since the first of them was committed (R553–R556, R560, R566, R568). -/
def execBundleSend (dt : Nat) (s : State) : Outcome State Fault Refusal :=
  let s := tick dt s
  match s.upl.conn with
  | none => .next s
  | some c =>
    if uplinkRuns s && workTakes s .uplink 6 && c.up && hasCredit s c then
      if s.cfg.act.parent && !s.sess.forward.isEmpty then
        let l := cipherFit 64 (16464 - 8 - 64) s.sess.forward
        let s' := s.onSess fun b => { b with forward := b.forward.drop l.length }
        let out := l.map (hopEntry s)
        let (sig, s') := signMessage 4 c.sendSeq (cipherBody out) s'
        .next (sendNumbered (.cipher out sig) none l s')
      else
        match sendable s c.sendPos with
        | [] => .next s
        | r :: l =>
          if 256 ≤ (r :: l).length || r.commitRc + ofMs s.cfg.act.bundleMaxMs ≤ s.rc then
            let out := (consecutive 256 r.pos (r :: l)).map fun x => hopRecord s x.record
            let (sig, s) := signMessage 3 c.sendSeq (bundleBody (c.sendPos < r.pos) r.pos out) s
            .next (sendNumbered (.bundle (c.sendPos < r.pos) r.pos out sig) (some (r.pos + out.length)) [] s)
          else .next s
    else .next s

/-! ### A parent's side (R550, R556–R560, R564, R565) -/

/-- HELLO_ACK DENIED on a connection that is refused, and one event (R550). -/
def refuseChild (unit : Nat) (s : State) : State :=
  raise .childRefused 0x58 (leBytes 2 unit) (s.onUpl fun u => { u with dnOut := u.dnOut ++ [(unit, 1, .helloAck .denied 0 0 0 0)] })

/-- HELLO on a connection of a port: the certificate's identity hash must be the one CHILD_SET stored; a FORMAT_ID that differs
resets the cursor (R550, R557–R560, R569). -/
def execHello (dt port unit idHash formatId : Nat) (s : State) : Outcome State Fault Refusal :=
  let s := tick dt s
  let p := portCfg s port
  if uplinkRuns s && port < 2 && p.mode ≠ 0 && p.useChildren then
    let s := setLink port p.mode s
    match childOf s unit with
    | none => .next (refuseChild unit s)
    | some x =>
      let n := (s.upl.children.filter fun k => k.1 != unit && k.2.conn.isSome).length
      if !x.enabled || x.idHash ≠ idHash || 512 ≤ n then .next (refuseChild unit s)
      else
        let s := match x.formatId with
          | some f =>
            if f = formatId then s
            else raise .cursorReset 0x58 (leBytes 8 f ++ leBytes 8 formatId)
              (onChild unit (fun x => { x with nextPos := 0, uncommitted := [], resets := inc32 x.resets }) s)
          | none => s
        let b := min 0xFFFFFFFF (pathBound s)
        let s := onChild unit (fun x =>
          { x with formatId := some formatId, conn := some { lastRx := s.rc, lastTx := s.rc, credit := creditOf s }
                   lastSeenTai := s.tai, boundUs := b }) s
        .next (sendChild unit (.helloAck .ok (((childOf s unit).map (·.nextPos)).getD 0) b (creditOf s) (s.upl.depth + 1)) s)
  else .next s

/-- The fields of a connection and its child that every message of the child renews. -/
def heardChild (c : Nat) (s : State) : State :=
  onChild c (fun x => { x with lastSeenTai := s.tai, conn := x.conn.map fun n => { n with lastRx := s.rc } }) s

/-- A record of a child as the parent passes it on (R397, R564). -/
def childRecord (s : State) (c pos : Nat) (r : Record) : Record :=
  let own := r.meter = 0xFFFFFFFE
  { r with flags := r.flags ||| 0x100#16, meter := if own then 0xFFFE0000 + c else r.meter, src := if own then 0xC0 else r.src
           entryRc := s.rc, brought := some (c, pos) }

/-- Takes one record of a bundle at its position (R557, R564, R570). -/
def takeChildRecord (c pos : Nat) (r : Record) (s : State) : State :=
  match childOf s c with
  | none => s
  | some x =>
    let late := x.boundUs < r.residenceUs
    let s := if late then
        onChild c (fun x => { x with overBound := inc32 x.overBound }) (s.onUpl fun u => { u with overBound := inc32 u.overBound })
      else s
    if pos < x.nextPos then s.onUpl fun u => { u with resent := inc32 u.resent }
    else
      pushQ4 (childRecord s c pos r)
        (onChild c (fun x => { x with nextPos := pos + 1, recordsIn := inc32 x.recordsIn, uncommitted := x.uncommitted ++ [pos] }) s)

/-- Takes the records of a bundle, in position order. -/
def takeBundle (c : Nat) : Nat → List Record → State → State
  | _, [], s => s
  | pos, r :: l, s => takeBundle c (pos + 1) l (takeChildRecord c pos r s)

/-- A message outside its limits closes the connection and records one event (R555). -/
def malformed (c : Nat) (s : State) : State := raise .bodyMalformed 0x58 (leBytes 2 c) (endChild c s)

/-- BUNDLE from a connected child; while records are held because Q4 refuses them it is not taken (R403, R554, R556, R557, R564). -/
def execBundle (dt child seq first : Nat) (recs : List Record) (s : State) : Outcome State Fault Refusal :=
  let s := tick dt s
  match (childOf s child).bind (·.conn) with
  | none => .next s
  | some _ =>
    if !uplinkRuns s || !s.sess.q4Held.isEmpty then .next s
    else if recs.isEmpty || 256 < recs.length then .next (malformed child s)
    else
      let s := heardChild child s
      let at0 := ((childOf s child).map (·.nextPos)).getD 0
      let s := if at0 < first then s.onUpl fun u => { u with skips := inc32 u.skips } else s
      let s := takeBundle child first recs s
      let s := onChild child (fun x => { x with conn := x.conn.map fun n => { n with waiting := n.waiting ++ [(seq, first + recs.length)] } }) s
      .next (ackChild child s)

/-- The Q2 entry of a CIPHER entry at the parent (R370, R555, R565, R567). -/
def childEntry (s : State) (c : Nat) (e : Q2Entry) : Q2Entry :=
  { e with nbr := 0xFFFF, unwindowed := false, fromChild := true, child := c, notUnpacked := e.apduLen = 0, security := false
           key := keyOfTai s e.tai, entryRc := s.rc }

/-- CIPHER from a connected child: every entry goes to staging; while they find no room there it is not taken (R402, R403,
R555, R556, R565). -/
def execCipher (dt child seq : Nat) (entries : List Q2Entry) (s : State) : Outcome State Fault Refusal :=
  let s := tick dt s
  match (childOf s child).bind (·.conn) with
  | none => .next s
  | some _ =>
    let bytes := entries.foldl (fun n e => n + cipherEntryBytes e) (8 + 64)
    let slots := entries.foldl (fun n e => n + slotsOf e.length) 0
    if !uplinkRuns s then .next s
    else if entries.isEmpty || 64 < entries.length || 16464 < bytes then .next (malformed child s)
    else if stagingSlots s < stagingUsed s + slots then .next s
    else
      let s := heardChild child s
      let s := entries.foldl (fun s e => pushQ2 (childEntry s child e) s) s
      let s := onChild child (fun x =>
        { x with cipherIn := w32 (x.cipherIn + entries.length), conn := x.conn.map fun n => { n with waiting := n.waiting ++ [(seq, 0)] } }) s
      .next (ackChild child s)

/-- TIME_REQ from a child: T2 and T3 are this unit's reported time (R563). -/
def execTimeReq (dt child t1 : Nat) (s : State) : Outcome State Fault Refusal :=
  let s := tick dt s
  match (childOf s child).bind (·.conn) with
  | none => .next s
  | some _ =>
    if uplinkRuns s then
      .next (sendChild child (.timeResp t1 s.tai s.tai (utcOffset s).1 s.mains.anchored (leapFlags s).1 (leapFlags s).2)
        (heardChild child s))
    else .next s

/-- DOWN_RESULT from a child (R562, R573, R577). -/
def execDownResult (dt child tag outcome : Nat) (s : State) : Outcome State Fault Refusal :=
  let s := tick dt s
  match (childOf s child).bind (·.conn) with
  | none => .next s
  | some _ =>
    if uplinkRuns s then
      .next ((heardChild child s).onUpl fun u =>
        { u with downSeen := u.downSeen ++ [(child, tag, outcome)]
                 downFailed := if outcome = 0 then u.downFailed else inc32 u.downFailed })
    else .next s

/-! ### A child's side -/

/-- The upstream connection has brought a message. -/
def heardUp (s : State) : State := s.onUpl fun u => { u with conn := u.conn.map fun n => { n with lastRx := s.rc } }

/-- HELLO_ACK: a path bound over the budget ends the connection; else the archive is sent again from NEXT_POS (R550, R558, R560,
R569). -/
def execHelloAck (dt : Nat) (status : Status) (nextPos bound credit depth : Nat) (s : State) : Outcome State Fault Refusal :=
  let s := tick dt s
  match s.upl.conn with
  | none => .next s
  | some c =>
    if !uplinkRuns s || c.up || !s.cfg.act.parent then .next s
    else if status ≠ .ok then .next (endUp 4 s)
    else
      let s := s.onUpl fun u => { u with parentBound := bound, depth := depth % 256 }
      if s.cfg.act.latBudgetUs < pathBound s then
        .next ((endUp 3 (raise .pathBound 0x58 (leBytes 8 (pathBound s)) s)).onUpl fun u => { u with retryOk := false })
      else .next (goUp { c with lastRx := s.rc, sendPos := nextPos } (s.onUpl fun u => { u with credit := credit % 65536 }))

/-- ACK: every message up to ACK_SEQ is acknowledged, and ACK_POS becomes the cursor (R556). -/
def execAck (dt seq pos : Nat) (s : State) : Outcome State Fault Refusal :=
  let s := tick dt s
  match s.upl.conn with
  | none => .next s
  | some c =>
    if uplinkRuns s && c.up && s.cfg.act.parent then
      .next (endCatchup (refreshPressure ((heardUp s).onUpl fun u =>
        { u with acked := pos, conn := u.conn.map fun n => { n with unacked := n.unacked.filter fun m => seq < m.seq } })))
    else .next s

/-- HEAD_END_ACK: the head end writes the next position it expects, with the meaning of ACK_POS (R551, R556). -/
def execHeadEndAck (dt pos : Nat) (s : State) : Outcome State Fault Refusal :=
  let s := tick dt s
  match s.upl.conn with
  | none => .next s
  | some c =>
    if uplinkRuns s && c.up && !s.cfg.act.parent then
      .next (endCatchup ((heardUp s).onUpl fun u =>
        { u with acked := pos, conn := u.conn.map fun n => { n with unacked := n.unacked.filter fun m => pos < m.nextPos.getD 0 } }))
    else .next s

/-- CREDIT (R560). -/
def execCredit (dt credit : Nat) (s : State) : Outcome State Fault Refusal :=
  let s := tick dt s
  match s.upl.conn with
  | none => .next s
  | some c =>
    if uplinkRuns s && c.up && s.cfg.act.parent then .next ((heardUp s).onUpl fun u => { u with credit := credit % 65536 }) else .next s

/-- An exchange by itself: answered within 20 ms, by an anchored parent (R563). -/
def goodExchange (e : Nat × Int × Bool) : Bool := e.1 ≤ 20000000 && e.2.2

/-- Whether 8 consecutive exchanges qualify: each good, the offsets spread by at most 1 ms (R563). -/
def exchangesQualify (l : List (Nat × Int × Bool)) : Bool :=
  match l with
  | [] => false
  | e :: _ =>
    let hi := l.foldl (fun a x => max a x.2.1) e.2.1
    let lo := l.foldl (fun a x => min a x.2.1) e.2.1
    l.length = 8 && l.all goodExchange && hi - lo ≤ 1000000

/-- Takes the result of an exchange, none for a missing one (R563). -/
def noteExchange (e : Option (Nat × Int × Bool)) (s : State) : State :=
  let l := (e.getD (0, 0, false) :: s.upl.exchanges).take 8
  let fits : Bool := match e with
    | some x =>
      let hi := l.foldl (fun a y => max a y.2.1) x.2.1
      let lo := l.foldl (fun a y => min a y.2.1) x.2.1
      goodExchange x && (l.any (fun y => !goodExchange y) || hi - lo ≤ 1000000)
    | none => false
  let bad := if fits then 0 else min 4 (s.upl.badEx + 1)
  let s := s.onUpl fun u => { u with exchanges := l, badEx := bad }
  if s.time.qualParent then (if bad = 4 then dropParentTime s else s)
  else if exchangesQualify l then selectSource (s.onTime fun t => { t with qualParent := true })
  else s

/-- TIME_REQ_SEND: every 16 s; a request still unanswered is a missing exchange (R563). -/
def execTimeReqSend (dt : Nat) (s : State) : Outcome State Fault Refusal :=
  let s := tick dt s
  match s.upl.conn with
  | none => .next s
  | some c =>
    if uplinkRuns s && c.up && s.cfg.act.parent && c.timeReqRc + ofS 16 ≤ s.rc then
      let s := if c.t1.isSome then noteExchange none s else s
      let s := s.onUpl fun u => { u with conn := u.conn.map fun n => { n with timeReqRc := s.rc, t1 := some s.tai } }
      .next (sendUp (.timeReq s.tai) s)
    else .next s

/-- TIME_RESP: T4 is stamped and the exchange judged; a selected parent steers the clock and supplies UTC offset and leap
indicators (R126, R129, R563). -/
def execTimeResp (dt t1 t2 t3 : Nat) (utc : Int) (anchored leap61 leap59 : Bool) (s : State) : Outcome State Fault Refusal :=
  let s := tick dt s
  match s.upl.conn with
  | none => .next s
  | some c =>
    if uplinkRuns s && c.up && s.cfg.act.parent && c.t1 == some t1 then
      let t4 := s.tai
      let off : Int := openDiv (((t1 : Int) - t2) + ((t4 : Int) - t3)) 2
      let s := (heardUp s).onUpl fun u => { u with conn := u.conn.map fun n => { n with t1 := none } }
      let s := noteExchange (some (t4 - t1, off, anchored)) s
      let s := s.onTime fun t => { t with utcParent := some (heardUtc s t.utcParent utc leap61 leap59), utcLast := some utc }
      if s.time.src = .parent then
        let delay := ratioOf (t4 - t1 - (t3 - t2)) 2
        let s := s.onTime fun t => { t with offsetNs := off, pathDelayNs := if s.upl.badEx = 0 then delay else t.pathDelayNs }
        .next (proposeCorrection (baseIncr s) (-off) s)
      else .next s
    else .next s

/-! ### DOWN (R562, R603) -/

/-- The first instant at or after a TAI time at which an entry of a radio frame (or a power-line one) may be placed (R89, R279). -/
def firstDownKey (s : State) (radio : Bool) (notBefore : Nat) : Nat :=
  max (if radio then s.key + 16384 else s.key + 64) (if s.tai < notBefore then keyOfTai s notBefore else 0)

/-- The same with room for the wake sequence before it (R292). -/
def firstWakeKey (s : State) (e : Nbr) (k : Nat) : Nat :=
  let p := linkProfile s e.profile
  let w := wakeKey s s.cfg.act.wur.fast p.wakeRepeat p.wakeGapUs k
  if e.wur && w < s.key + 16384 then k + (s.key + 16384 - w) else k

/-- The address of a multicast DOWN (R603). -/
def allOnes64 : Nat := 0xFFFFFFFFFFFFFFFF

/-- Places a multicast frame on the unit's own carrier of a KIND at a key: its number (R602); it carries no acknowledgement. -/
def placeMulticast (kind key : Nat) (bytes : List Byte) (s : State) : Except Status (Nat × State) :=
  let c := s.cfg.act.carriers.getD kind {}
  let (id, s) := newFrame s
  let f : TxFrame :=
    { id := id, kind := kind, addr := allOnes64, phy := c.phy, freqHz := c.freqHz, widthHz := (phyWidth c.phy).getD 0
      airNs := Config.frameAirNs c.phy bytes.length, use := 3, bytes := bytes }
  match (if kind = 2 then placePlc key f s else placeRadio c.fe key f s) with
  | .ok s => .ok (id, s)
  | .error e => .error e

/-- Whether a carrier of a KIND is enabled (R602). -/
def carrierOn (s : State) (kind : Nat) : Bool := kind < 3 && (s.cfg.act.carriers.getD kind {}).enable

/-- A multicast DOWN at a child (R603). -/
def takeMulticast (d : DownBody) (s : State) : State :=
  if !carrierOn s d.kind then answerDown d.tag 4 s
  else
    let k := firstDownKey s (d.kind ≠ 2) d.notBefore
    if d.deadline < taiOfKey s k then answerDown d.tag 2 s
    else match placeMulticast d.kind k d.bytes s with
      | .ok (id, s) => s.onUpl fun u => { u with downs := u.downs ++ [{ body := d, frame := some id }] }
      | .error _ => answerDown d.tag 1 s

/-- A unicast DOWN at a child (R328, R562). -/
def takeUnicast (d : DownBody) (s : State) : State :=
  match nbrByAddr s d.addr with
  | none => answerDown d.tag 3 s
  | some n =>
    let e := nbrOf s n
    let k := firstWakeKey s e (firstDownKey s (e.kind ≠ 2) d.notBefore)
    if d.deadline < taiOfKey s k then answerDown d.tag 2 s
    else match placeDownlink n k 2 d.tag 0 d.bytes s with
      | .ok s =>
        let s := s.onUpl fun u => { u with downs := u.downs ++ [{ body := d }] }
        if e.kind ≠ 2 then wakeBefore n (laneIn s.cfg.act e.lastLane).fe k s else s
      | .error _ => answerDown d.tag 1 s

/-- DOWN: a child places the frame and answers with its outcome; a unit that may not transmit answers 1 (R562, R603, R732). -/
def execDown (dt : Nat) (body : DownBody) (s : State) : Outcome State Fault Refusal :=
  let s := tick dt s
  match s.upl.conn with
  | none => .next s
  | some c =>
    if uplinkRuns s && c.up && s.cfg.act.parent then
      let s := heardUp s
      if !mayTransmit s then .next (answerDown body.tag 1 s)
      else if body.addr = allOnes64 then .next (takeMulticast body s)
      else .next (takeUnicast body s)
    else .next s

/-! ### Commands -/

/-- UPL 0x0B01 UPL_STATUS (R573). -/
def uplStatus (_ : Taken) (s : State) : State × Reply :=
  let u := s.upl
  (s, okWith (leBytes 8 u.acked ++ leBytes 8 (nextPosLocal s) ++ leBytes 4 (min 0xFFFFFFFF (pathBound s)) ++ leBytes 4 u.overBound
    ++ leBytes 4 u.resent ++ leBytes 4 u.skips ++ leBytes 4 u.reconnects ++ leBytes 4 u.downSent ++ leBytes 4 u.downFailed ++ leBytes 4 0))

/-- UPL_STATUS runs the oldest one dispatched for the host (R573). -/
def execUplStatus (dt : Nat) (host : Fin 4) (s : State) : Outcome State Fault Refusal :=
  .next (runCmd 0x0B01 host uplStatus (tick dt s))

/-- UPL 0x0B02 CHILD_READ (R574). -/
def childRead (t : Taken) (s : State) : State × Reply :=
  let n := fld t.payload 0 2
  match childOf s n with
  | none => (s, answer .badarg)
  | some x =>
    let st := if !x.enabled then 3 else if x.conn.isSome then 2 else 1
    (s, okWith (leBytes 2 n ++ leBytes 1 st ++ leBytes 5 0 ++ leBytes 8 x.nextPos ++ leBytes 8 x.lastSeenTai ++ leBytes 4 x.recordsIn
      ++ leBytes 4 x.cipherIn ++ leBytes 4 x.overBound ++ leBytes 4 x.boundUs ++ leBytes 8 0))

/-- CHILD_READ runs the oldest one dispatched for the host (R574). -/
def execChildRead (dt : Nat) (host : Fin 4) (s : State) : Outcome State Fault Refusal :=
  .next (runCmd 0x0B02 host childRead (tick dt s))

/-- Whether the unit may have children (R575). -/
def mayHaveChildren (s : State) : Bool :=
  s.cfg.startCfg.role == some .aggregation
    || (s.cfg.startCfg.role == some .field && s.cfg.act.ports.any fun p => p.useChildren)

/-- UPL 0x0B03 CHILD_SET (R559, R575). -/
def childSet (t : Taken) (s : State) : State × Reply :=
  let n := fld t.payload 0 2
  let en := fld t.payload 2 1
  let h := fld t.payload 8 32
  if !mayHaveChildren s then (s, answer .locked)
  else if 4095 < n || n = s.cfg.act.unitId || 1 < en || (s.upl.children.any fun k => k.1 != n && k.2.idHash == h) then (s, answer .badarg)
  else
    let x := (childOf s n).getD {}
    let same := (childOf s n).isSome && x.idHash == h
    let x := if same then x else { x with nextPos := 0, formatId := none, uncommitted := [] }
    let x := { x with enabled := en == 1, idHash := h, conn := if en = 1 && same then x.conn else none }
    (s.onUpl fun u => { u with children := tput u.children n x }, answer .ok)

/-- CHILD_SET runs the oldest one dispatched for the host (R575). -/
def execChildSet (dt : Nat) (host : Fin 4) (s : State) : Outcome State Fault Refusal :=
  .next (runCmd 0x0B03 host childSet (tick dt s))

end Sys2Proof.Machine
end

