-- ==== Sys2Proof/Machine/Key.lean ====
section
/-! DEFINITION. The Pocket: slots, Key Update Messages, attestation and the KEY commands ("Pocket key store and attestation"). -/

namespace Sys2Proof.Machine

open Host (Outcome)

/-! ### Slots (R665–R669) -/

/-- A slot's contents, if it is not empty. -/
def keySlot (s : State) (n : Nat) : Option Slot := tfind s.pocket.slots n

/-- STATE of SLOT_READ: 0 empty, 1 usable, 2 sealed under another root. Slots 0 and 1 follow the root in force, and the authority
imported into slot 2 is ignored under the test root (R665, R668, R669, R692). -/
def slotState (s : State) (n : Nat) : Nat :=
  match keySlot s n with
  | none => 0
  | some x => if n ≤ 1 then 1 else if x.sealBad || x.testRoot != testRoot s then 2 else 1

/-- Whether a slot may be used (R665). -/
def slotUsable (s : State) (n : Nat) : Bool := slotState s n == 1

/-- KS8 SLOTS. -/
def usableSlots (s : State) : Nat := (s.pocket.slots.filter fun p => slotUsable s p.1).length

/-- ID_HASH of the identity in force (R668). -/
def idHashNow (s : State) : Nat := Config.idHash (testRoot s) s.pocket.serial

/-- LIFECYCLE as SY3 numbers it. -/
def lifecycleCode : Lifecycle → Nat
  | .blank => 0
  | .provisioned => 1
  | .deployed => 2
  | .debug => 3
  | .returned => 4

/-- The counter of the root in force (R676). -/
def kumCounter (s : State) : Nat := if testRoot s then s.pocket.testCounter else s.pocket.counter

/-- The public part of a slot, 96 bytes (R692). -/
def slotPublic (s : State) (n : Nat) (x : Slot) : List Byte :=
  let b : List Byte := if n = 0 then Config.identityKey (testRoot s) s.pocket.serial
    else if n = 1 then Config.agreementKey (testRoot s) s.pocket.serial else x.pub
  (b ++ List.replicate 96 0).take 96

/-! ### The Key Update Message (R673–R680) -/

/-- Bytes of an entry by KIND, KK1–KK7. -/
def kumEntrySize : Nat → Nat
  | 1 => 136
  | 2 => 120
  | 3 => 24
  | 4 => 8
  | 5 => 96
  | 6 => 8
  | 7 => 8
  | _ => 0

/-- The entries of a decrypted body. -/
def kumEntries (size : Nat) : Nat → List Byte → List (List Byte)
  | 0, _ => []
  | n + 1, b => b.take size :: kumEntries size n (b.drop size)

/-- The body key and the nonce of a KUM: 44 bytes of HKDF with salt ID_HASH, the x-coordinate that EPH_PUB shares with slot 1, and the info
KUM and COUNTER (R674). -/
def kumSecret (s : State) (k : List Byte) : List Byte × List Byte :=
  let okm := Config.hkdf384 ((k.drop 16).take 32) (Config.ecdhX (testRoot s) s.pocket.serial ((k.drop 56).take 96))
    ([0x4B, 0x55, 0x4D] ++ leBytes 4 (fld k 12 4))
  (okm.take 32, (okm.drop 32).take 12)

/-- What the body of a KUM decrypts to; none when its tag fails over the body and bytes 0–159 (R673, R674, R677). -/
def kumOpen (s : State) (k : List Byte) : Option (List Byte) :=
  let (key, nonce) := kumSecret s k
  let body := (k.drop 160).take (fld k 152 4)
  gcmOpen 16 key nonce (k.take 160) body (fld k (160 + fld k 152 4) 16)

/-- KC1: version, kind and sizes (R673, R675, R677). -/
def kumForm (k : List Byte) : Bool :=
  let kind := fld k 2 1
  let count := fld k 4 2
  let len := fld k 152 4
  k.length ≤ 65536 && 272 ≤ k.length && fld k 0 2 = 1 && 1 ≤ kind && kind ≤ 7 && len = count * kumEntrySize kind && k.length = 272 + len
    && (kind ≤ 4 || count = 1)

/-- KC7: whether the kind is permitted in the lifecycle and the pair state (R677, R680, R682). -/
def kumPermitted (s : State) (kind target : Nat) : Bool :=
  (match s.pocket.lifecycle with
    | .provisioned => kind = 5 || (kind = 6 && (target = 2 || target = 4))
    | .deployed => kind ≠ 6 || target ≠ 2
    | .debug => kind ≠ 7 && (kind ≠ 6 || target ≠ 2)
    | .returned | .blank => false)
  && !(kind = 1 && (match s.pair.state with | .solo | .active => false | _ => true))

/-- Whether a TYPE is a private ECDSA key. -/
def privateType (t : Nat) : Bool := t = 3 || t = 4

/-- KC8 on one entry: the conditions of R678, and a TARGET that KK6 knows; `before` are the meter indices of earlier entries. -/
def kumEntryOk (s : State) (kind : Nat) (before : List Nat) (e : List Byte) : Bool :=
  let slot := fld e 0 2
  let free := 16 ≤ slot && slot ≤ 255
  match kind with
  | 1 =>
    match ctxOf s (fld e 0 4) with
    | none => false
    | some c => c.state != .retired && !sessionAtParent s c && fld e 5 1 == c.suite && !before.contains (fld e 0 4)
  | 2 => (slot = 5 && fld e 2 1 = 7 || free && 1 ≤ fld e 2 1 && fld e 2 1 ≤ 7) && fld e 4 2 &&& 0x58 = 0
  | 3 => (slot = 3 && privateType (fld e 2 1)) || (slot = 4 && fld e 2 1 = 3) || (free && privateType (fld e 2 1))
  | 4 => (3 ≤ slot && slot ≤ 5) || free
  | 6 => fld e 0 1 = 2 || fld e 0 1 = 4
  | _ => true

/-- The ordinal from 1 of the first entry refused at KC8; 0 for none (R677, R691). -/
def firstBad (s : State) (kind : Nat) : Nat → List Nat → List (List Byte) → Nat
  | _, _, [] => 0
  | n, before, e :: l => if kumEntryOk s kind before e then firstBad s kind (n + 1) (fld e 0 4 :: before) l else n

/-- Takes the keys of one METER_KEYS entry (R384, R670, R679). -/
def applyMeterKeys (e : List Byte) (s : State) : State :=
  let m := fld e 0 4
  let f := fld e 4 1
  let t := testRoot s
  let ek := Config.wrapKey t s.pocket.serial m ((e.drop 8).take 32)
  let ak := Config.wrapKey t s.pocket.serial m ((e.drop 40).take 32)
  onCtx m (fun c =>
    let c :=
      if !c.keysPresent then { c with wrapEk := ek, wrapAk := ak, keysPresent := true, wrapTest := t }
      else if c.wrapEk = ek && c.wrapAk = ak then c
      else
        { c with wrapPrevEk := c.wrapEk, wrapEk := ek, wrapAk := ak, prevIc := c.icHi, icHi := 0, icMap := 0, prevHeld := true
                 keyChangeKey := s.key, icExhausted := false, wrapTest := t }
    { c with signPub := if hasBit f 0 then leNat ((e.drop 72).take 64) else c.signPub, signReq := c.signReq || hasBit f 1 }) s

/-- Writes a slot. -/
def putSlot (n : Nat) (x : Slot) (s : State) : State := s.onPocket fun k => { k with slots := tput k.slots n x }

/-- The effect of one entry of the other kinds (R679). -/
def applyEntry (kind counter : Nat) (e : List Byte) (s : State) : State :=
  let slot := fld e 0 2
  match kind with
  | 2 =>
    let m := (e.drop 24).take 96
    putSlot slot
      { type := fld e 2 1, origin := 1, usage := fld e 4 2, version := counter, label := (e.drop 8).take 16, material := m
        pub := Config.publicPart (fld e 2 1) m, testRoot := testRoot s } s
  | 3 =>
    let (v, s) := s.takeFree
    putSlot slot
      { type := fld e 2 1, origin := 0, usage := fld e 4 2, version := counter, label := (e.drop 8).take 16
        pub := Config.generatedKey (fld e 2 1) v, testRoot := testRoot s } s
  | 4 => s.onPocket fun k => { k with slots := tdel k.slots slot }
  | 5 =>
    let old := (keySlot s 2).getD {}
    putSlot 2 { old with type := 6, origin := 1, usage := 16, version := counter, pub := e.take 96, testRoot := testRoot s, sealBad := false } s
  | 6 => s.onPocket fun k =>
    { k with nextLifecycle := if fld e 0 1 = 2 && k.nextLifecycle ≠ some .returned then some .deployed else some .returned }
  | 7 => s.onPocket fun k => { k with unlockNext := true }
  | _ => s

/-- The staging is empty again (R691). -/
def clearStaging (s : State) : State := s.onPocket fun k => { k with staged := [], stagedOwner := none }

/-- The final payload of KEY_APPLY (R691). -/
def keyApplyPayload (s : State) (kind applied bad : Nat) : List Byte :=
  leBytes 1 kind ++ leBytes 1 0 ++ leBytes 2 applied ++ leBytes 4 (kumCounter s) ++ leBytes 2 bad ++ leBytes 6 0

/-- A rejection at KC2, KC3 or KC6 (R677). -/
def kumReject (s : State) : State :=
  raise .kumReject srcSup [] (setSticky 0x06C 0x40 (s.onPocket fun k => { k with kumRejects := inc32 k.kumRejects }))

/-- Ends a KEY_APPLY at once: the staging is cleared (R691). -/
def keyRefuse (st : Status) (kind bad : Nat) (s : State) : State × Reply :=
  (clearStaging s, { status := st, payload := keyApplyPayload s kind 0 bad })

/-- KC2 to KC8 on a staged KUM of good form; when all pass it is being applied and the keys of meters stand in their contexts
(R677, R680). -/
def keyCheck (h : Nat) (t : Taken) (sigOk : Bool) (s : State) : State × Reply :=
  let k := s.pocket.staged
  let body := kumOpen s k
  let kind := fld k 2 1
  let after := fld k 48 8
  let lists := kumEntries (kumEntrySize kind) (fld k 4 2) (body.getD [])
  let bad := firstBad s kind 1 [] lists
  if !sigOk then keyRefuse .denied kind 0 (kumReject s)
  else if fld k 8 4 ≠ 0x9100 || fld k 16 32 ≠ idHashNow s || fld k 3 1 ≠ bit (testRoot s) then keyRefuse .denied kind 0 (kumReject s)
  else if fld k 12 4 ≤ kumCounter s then keyRefuse .stale kind 0 s
  else if after ≠ 0 && !s.mains.anchored then keyRefuse .locked kind 0 s
  else if after ≠ 0 && after < s.tai then keyRefuse .stale kind 0 s
  else if body.isNone then keyRefuse .denied kind 0 (kumReject s)
  else if !kumPermitted s kind (fld ((lists.headD [])) 0 1) then keyRefuse .locked kind 0 s
  else if bad ≠ 0 then keyRefuse .badarg kind bad s
  else
    let s := if kind = 1 then lists.foldl (fun s e => applyMeterKeys e s) s else s
    (s.onPocket fun p =>
      { p with applying := some { host := h, taken := t, kind := kind, counter := fld k 12 4, entries := lists, jseq := s.pair.jseq
                                  waits := holdsForYoke s } },
     answer .pending)

/-- KEY 0x0D03 KEY_APPLY: `sigOk` is the verdict on the signature (R677, R690, R691; log entry 7). -/
def keyApply (h : Nat) (sigOk : Bool) (t : Taken) (s : State) : State × Reply :=
  if s.pocket.lifecycle == .returned then (s, answer .locked)
  else if s.pocket.applying.isSome || (s.pocket.stagedOwner.isSome && s.pocket.stagedOwner ≠ some h) then (s, answer .busy)
  else if fld t.payload 0 4 ≠ s.pocket.staged.length || !kumForm s.pocket.staged then
    keyRefuse .badarg (fld s.pocket.staged 2 1) 0 s
  else keyCheck h t sigOk s

/-- KEY_APPLY runs the oldest one dispatched for the host (R677). -/
def execKeyApply (dt : Nat) (host : Fin 4) (sigOk : Bool) (s : State) : Outcome State Fault Refusal :=
  .next (runCmd 0x0D03 host (keyApply host.val sigOk) (tick dt s))

/-- The supervisor is at work. -/
def supRuns (s : State) : Bool :=
  s.pwr.stage == .running && (match s.pwr.state with | .run | .trim | .doze => true | .hold => false)

/-- Whether every delta of the KUM has been acknowledged, in a pair whose partner is InSync (R680). -/
def kumMirrored (s : State) (a : Applying) : Bool := !holdsForYoke s || a.jseq ≤ s.pair.ackedJseq

/-- The partner's acknowledgement is lost before the counter update: the KUM is applied again whole (R680). -/
def applyAgain (a : Applying) (s : State) : State :=
  let s := if a.kind = 1 then a.entries.foldl (fun s e => applyMeterKeys e s) s else s
  s.onPocket fun p => { p with applying := some { a with jseq := s.pair.jseq, waits := holdsForYoke s } }

/-- KEY_APPLY_COMPLETE: meter keys go to the context store; once the changes are durable, sealed and mirrored the counter is the last step, and the final response is
sent (R679, R680, R691). -/
def execKeyApplyComplete (dt : Nat) (s : State) : Outcome State Fault Refusal :=
  let s := tick dt s
  match s.pocket.applying with
  | none => .next s
  | some a =>
    let unsaved : Bool := a.kind = 1 && a.entries.any fun e => (tfind s.sess.dirty (fld e 0 4)).isSome
    if supRuns s && a.waits && !holdsForYoke s then .next (applyAgain a s)
    else if supRuns s && unsaved then .next (a.entries.foldl (fun s e => writeBack (fld e 0 4) s) s)
    else if supRuns s && kumMirrored s a then
      let s := if a.kind = 1 then s
        else a.entries.foldl (fun s e => applyEntry a.kind a.counter e s) s
      let s := s.onPocket fun k =>
        { k with counter := if testRoot s then k.counter else max k.counter a.counter
                 testCounter := if testRoot s then max k.testCounter a.counter else k.testCounter, applying := none }
      let s := clearStaging s
      .next (finishAt a.host a.taken (okWith (keyApplyPayload s a.kind a.entries.length 0)) s)
    else .next s

/-! ### Commands -/

/-- KEY 0x0D01 KEY_STATUS (R689). -/
def keyStatus (_ : Taken) (s : State) : State × Reply :=
  let k := s.pocket
  (s, okWith (leBytes 1 k.root ++ leBytes 1 (lifecycleCode k.lifecycle) ++ leBytes 1 (bit k.unlockNext) ++ leBytes 1 0 ++ leBytes 4 k.counter
    ++ leBytes 4 k.testCounter ++ leBytes 4 s.pair.partnerCounter ++ leBytes 2 (usableSlots s) ++ leBytes 2 0
    ++ leBytes 4 k.kumRejects ++ leBytes 4 k.unwrapFails ++ leBytes 4 0 ++ leBytes 32 (idHashNow s)))

/-- KEY_STATUS runs the oldest one dispatched for the host (R689). -/
def execKeyStatus (dt : Nat) (host : Fin 4) (s : State) : Outcome State Fault Refusal :=
  .next (runCmd 0x0D01 host keyStatus (tick dt s))

/-- KEY 0x0D02 KEY_LOAD (R690); in Returned it is not answered with its effect (R682). -/
def keyLoad (h : Nat) (t : Taken) (s : State) : State × Reply :=
  let off := fld t.payload 0 4
  let piece := t.payload.drop 8
  let k := s.pocket
  if k.lifecycle == .returned then (s, answer .locked)
  else if k.applying.isSome || (k.stagedOwner.isSome && k.stagedOwner ≠ some h) then (s, answer .busy)
  else if off ≠ 0 && off ≠ k.staged.length then (s, answer .stale)
  else if piece.isEmpty || 65536 < off + piece.length then (s, answer .badarg)
  else
    let b := if off = 0 then piece else k.staged ++ piece
    (s.onPocket fun k => { k with staged := b, stagedOwner := some h }, okWith (leBytes 4 b.length ++ leBytes 4 0))

/-- KEY_LOAD runs the oldest one dispatched for the host (R690). -/
def execKeyLoad (dt : Nat) (host : Fin 4) (s : State) : Outcome State Fault Refusal :=
  .next (runCmd 0x0D02 host (keyLoad host.val) (tick dt s))

/-- KEY 0x0D04 SLOT_READ (R692). -/
def slotRead (t : Taken) (s : State) : State × Reply :=
  let n := fld t.payload 0 2
  if 255 < n || (6 ≤ n && n ≤ 15) then (s, answer .badarg)
  else
    let x := (keySlot s n).getD {}
    let pub := if 3 ≤ x.type && x.type ≤ 6 then slotPublic s n x else List.replicate 96 0
    (s, okWith (leBytes 1 x.type ++ leBytes 1 x.origin ++ leBytes 2 x.usage ++ leBytes 4 x.version
      ++ (x.label ++ List.replicate 16 0).take 16 ++ leBytes 1 (slotState s n) ++ leBytes 7 0 ++ pub))

/-- SLOT_READ runs the oldest one dispatched for the host (R692). -/
def execSlotRead (dt : Nat) (host : Fin 4) (s : State) : Outcome State Fault Refusal :=
  .next (runCmd 0x0D04 host slotRead (tick dt s))

/-- KEY 0x0D05 ATTEST: slot 0, a slot whose ORIGIN is internal, or 0xFFFF for the device (R686, R693). -/
def attest (h : Nat) (t : Taken) (s : State) : State × Reply :=
  let n := fld t.payload 0 2
  let ok := n = 0xFFFF || n = 0 || ((keySlot s n).any fun x => x.origin == 0 && x.pub.length ≠ 0)
  if !ok then (s, answer .badarg)
  else (s.onPocket fun k => { k with attests := k.attests ++ [{ host := h, taken := t }] }, answer .pending)

/-- ATTEST runs the oldest one dispatched for the host (R693). -/
def execAttest (dt : Nat) (host : Fin 4) (s : State) : Outcome State Fault Refusal :=
  .next (runCmd 0x0D05 host (attest host.val) (tick dt s))

/-- The 272-byte statement, AT1–AT27 (R685). -/
def statement (s : State) (slot : Nat) (nonce : List Byte) : List Byte :=
  let x := (keySlot s slot).getD {}
  let dev := slot = 0xFFFF
  let debug := s.pocket.session || s.pocket.root = 2
  let keyType := if dev then 0 else if x.type = 3 || x.type = 5 then 1 else 2
  leBytes 2 1 ++ leBytes 1 (if dev then 0 else 1) ++ leBytes 1 (bit s.pocket.lms) ++ leBytes 1 (lifecycleCode s.pocket.lifecycle)
    ++ leBytes 1 (bit (testRoot s) + 2 * bit debug) ++ leBytes 2 slot ++ leBytes 4 0x9100 ++ leBytes 4 (release s)
    ++ leBytes 8 s.pocket.serial ++ leBytes 32 (idHashNow s) ++ nonce ++ leBytes 8 (if s.mains.anchored then s.tai else 0)
    ++ leBytes 8 s.key ++ leBytes 4 s.met.romId ++ leBytes 4 s.met.romCrc ++ leBytes 8 (calTag s.met.cal) ++ leBytes 4 (kumCounter s)
    ++ leBytes 4 s.evt.starts ++ leBytes 1 keyType ++ leBytes 1 0 ++ leBytes 1 0 ++ leBytes 1 0
    ++ leBytes 2 (if dev then 0 else x.usage) ++ leBytes 2 0
    ++ (if dev then List.replicate 96 0 else slotPublic s slot x) ++ leBytes 32 (activeDigest s) ++ leBytes 8 0

/-- ATTEST_COMPLETE: the statement is signed and returned with its signature (R685, R693). -/
def execAttestComplete (dt : Nat) (s : State) : Outcome State Fault Refusal :=
  let s := tick dt s
  match s.pocket.attests with
  | [] => .next s
  | a :: rest =>
    if supRuns s then
      let b := statement s (fld a.taken.payload 0 2) ((a.taken.payload.drop 8).take 32)
      let (sig, s) := signBytes (slotPublic s 0 ((keySlot s 0).getD {})) 96 b s
      .next (finishAt a.host a.taken (okWith (b ++ sig))
        (s.onPocket fun k => { k with attests := rest }))
    else .next s

end Sys2Proof.Machine
end

