-- ==== Sys2Proof/Machine/Fleet.lean ====
section
/-! DEFINITION. Fleet work on SE15: requests to meters, tariff pushes, the token ledger and firmware campaigns, with the FLEET
commands ("Tariff push, token ledger and meter firmware campaigns"). -/

namespace Sys2Proof.Machine

open Host (Outcome)

/-! ### Where fleet work runs (R576), notices (R584) -/

/-- Fleet work runs: the conditions of R576 are those of R451. -/
def fleetOn (s : State) : Bool := !balDisabled s

/-- SE15 may send: fleet work runs, and the unit transmits. -/
def fleetSends (s : State) : Bool := fleetOn s && uplinkRuns s && workRuns s .fleet && mayTransmit s

/-- A push in use. -/
def pushOf (s : State) (id : Nat) : Option Push := tfind s.fleet.pushes id

/-- A campaign in use. -/
def campOf (s : State) (n : Nat) : Option Camp := tfind s.fleet.camps n

/-- Changes a push in use. -/
def onPush (id : Nat) (f : Push → Push) (s : State) : State :=
  match pushOf s id with
  | some p => s.onFleet fun b => { b with pushes := tput b.pushes id (f p) }
  | none => s

/-- Changes a campaign in use. -/
def onCamp (n : Nat) (f : Camp → Camp) (s : State) : State :=
  match campOf s n with
  | some p => s.onFleet fun b => { b with camps := tput b.camps n (f p) }
  | none => s

/-- Pushes a notice, FN1–FN9; one that the ring refuses is counted and sets RING_FULL (R584). -/
def notice (kind slot meter v1 v2 v3 : Nat) (s : State) : State :=
  let r := s.cfg.act.fleetRing
  if r = 0 then s
  else
    let item := leBytes 1 kind ++ leBytes 1 slot ++ leBytes 2 0 ++ leBytes 4 meter ++ leBytes 8 s.key ++ leBytes 4 v1 ++ leBytes 4 v2
      ++ leBytes 4 v3 ++ leBytes 4 s.fleet.noticeSeq
    let t := s.onFleet fun b => { b with noticeSeq := inc32 b.noticeSeq }
    match pushRing r item t with
    | some t => t
    | none => setSticky 0x068 0x8000 (t.onFleet fun b => { b with ringRefused := inc32 b.ringRefused })

/-! ### Members of a push -/

/-- The contexts that name a push. -/
def pushMembers (s : State) (id : Nat) : List (Nat × MeterCtx) := s.sess.ctxs.filter fun p => p.2.pushId == id

/-- Members in a PUSH_STATE, those whose context no longer names the push included. -/
def pushCount (s : State) (id st : Nat) : Nat :=
  ((pushMembers s id).filter fun p => p.2.pushState == st).length
    + (((pushOf s id).map (·.ended)).getD [] |>.filter fun e => e.2 == st).length

/-- Whether a PUSH_STATE is an end (R591). -/
def pushEnded (st : Nat) : Bool := st = 4 || st = 5 || st = 6 || st = 8

/-- A push whose every member has ended sends notice kind 1 and frees its ID (R591). -/
def checkPush (id : Nat) (s : State) : State :=
  match pushOf s id with
  | none => s
  | some p =>
    let l := pushMembers s id
    let some1 := !l.isEmpty || !p.ended.isEmpty || p.passed || p.cancelled
    if some1 && l.all (fun q => pushEnded q.2.pushState) then
      let s := notice 1 id 0xFFFFFFFF (pushCount s id 4) (pushCount s id 5) (pushCount s id 6) s
      let s := l.foldl (fun s q => onCtx q.1 (fun c => { c with pushId := 0xFF }) s) s
      s.onFleet fun b => { b with pushes := tdel b.pushes id }
    else s

/-- A member takes a PUSH_STATE. -/
def setPush (m st : Nat) (s : State) : State := onCtx m (fun c => { c with pushState := st }) s

/-- The next attribute of a member's push. -/
def progressOf (p : Push) (m : Nat) : Nat := tget p.progress m 6

/-! ### Activation times (R587) -/

/-- Wall time of an activation key: at the predicted cycle length within 3,000 mc, at the nominal one beyond (R587). -/
def wallOfAct (s : State) (k : Nat) : Nat :=
  if s.key ≤ k then s.reported + (if k ≤ s.key + 3000 * mc then (k - s.key) * cycleLen s / 65536 else (k - s.key) * ofS 1 / (65536 * nominalHz s))
  else (keyToWall s k).value

/-- CLK_OFFSET as R587 uses it: 0 when measured more than 24 h earlier or never. -/
def usedOffset (s : State) (c : MeterCtx) : Int := if clkFresh s c then c.clkOffset else 0

/-- The activation time by the meter's clock, rounded to 10 ms, in ms of TAI (R587). -/
def pushTime (s : State) (c : MeterCtx) (k : Nat) : Nat :=
  let w : Int := wallOfAct s k + openDiv (usedOffset s c * cycleLen s) 65536
  ((w.toNat + ofMs 5) / ofMs 10) * 10

/-- A date-time of 12 bytes: local time with its deviation, in the sign of a parse profile's PFLAGS, the clock status with its
daylight-saving bit (R84, R392, R587; the layout is the DLMS/COSEM standard's, log entry 24). The time is in ms of TAI. -/
def dateTimeBytes (s : State) (pflags : BitVec 8) (ms : Nat) : List Byte :=
  let utc := utcOf s (ms / 1000)
  let loc := localOf s.cfg.act utc
  let (y, mo, d) := dateOfDays (loc / 86400)
  let shift := localShift s.cfg.act utc / 60
  let summer := s.cfg.act.dst.any fun p => p.1 ≤ utc && utc < p.2.1
  beBytes 2 y ++ [BitVec.ofNat 8 mo, BitVec.ofNat 8 d, BitVec.ofNat 8 ((loc / 86400 + 3) % 7 + 1), BitVec.ofNat 8 (loc % 86400 / 3600), BitVec.ofNat 8 (loc % 3600 / 60)
    , BitVec.ofNat 8 (loc % 60), BitVec.ofNat 8 (ms % 1000 / 10)]
    ++ (leBytesI 2 (if pflags.getLsbD 0 then shift else -shift)).reverse ++ [if summer then 0x80 else 0x00]

/-- The activation key by the meter's clock: PUSH_KEY. -/
def pushKeyOf (s : State) (c : MeterCtx) (k : Nat) : Nat := ((k : Int) + usedOffset s c).toNat

/-! ### The ledger (R593–R599) -/

/-- An account's block. -/
def accountOf (s : State) (a : Nat) : Account := (tfind s.fleet.ledger a).getD {}

/-- Writes an account's block, mirrored in a pair (R596). -/
def putAccount (a : Nat) (b : Account) (s : State) : State := mirror (.ledger a b) (writeAccount a b s)

/-- Whether a system page on NAND holds a ledger entry and is durable. -/
def entryOn (s : State) (lpn a : Nat) (e : LedgerEnt) : Bool :=
  match pageOfLpn s lpn with
  | some p => p.durable && !p.lost && (match p.data with
    | .system (.accounts l) => ((tfind l a).getD {}).entries.contains e
    | _ => false)
  | none => false

/-- Whether a ledger entry is durable in both copies of its page (R512, R519, R596). -/
def entryDurable (s : State) (a : Nat) (e : LedgerEnt) : Bool :=
  entryOn s (fleetRegion + a / 64) a e && entryOn s (fleetRegion + a / 64 + copyPages) a e

/-- Writes the pages of FR0 and FR4 whose contents NAND does not hold. -/
def syncLedger (s : State) : State :=
  let write := fun (s : State) (off : Nat) (d : SysData) => if (pageOfLpn s off).map (·.data) = some (.system d) then s else storePage off d s
  let s := ((s.fleet.ledger.map (·.1 / 64)).eraseDups).foldl (fun s k => write s (fleetRegion + k) (.accounts (accountMates s (64 * k)))) s
  if s.fleet.bcastSaved.isEmpty then s else write s countersPage (.counters s.fleet.bcastSaved)

/-- The entry with a CS and TID. -/
def ledgerEntry (b : Account) (tid cs : Nat) : Option LedgerEnt := b.entries.find? fun e => e.tid == tid && e.cs == cs

/-- A token is used (R595). -/
def tokenUsed (b : Account) (tid cs : Nat) : Bool := (ledgerEntry b tid cs).isSome || (b.floorValid && tid ≤ b.floorTid)

/-- The entry that makes room: the lowest TID that is not in delivery (R599). -/
def lowestEntry (l : List LedgerEnt) : Option LedgerEnt :=
  (l.filter fun e => e.state != 0).foldl (fun acc e => match acc with
    | none => some e
    | some b => if e.tid < b.tid then some e else some b) none

/-- Adds an entry; a full block drops one and raises its floor (R599). -/
def addEntry (a : Nat) (e : LedgerEnt) (s : State) : State :=
  let b := accountOf s a
  if b.entries.length < 31 then putAccount a { b with entries := b.entries ++ [e] } s
  else
    match lowestEntry b.entries with
    | none => putAccount a b s
    | some low =>
      let fl := if b.floorValid then max b.floorTid low.tid else low.tid
      let s := putAccount a { b with entries := b.entries.erase low ++ [e], floorTid := fl, floorValid := true } s
      notice 5 0xFF a fl 0 0 (setSticky 0x068 0x4000 s)

/-- An entry takes a STATE (R597). -/
def setEntry (a tid cs st : Nat) (s : State) : State :=
  let b := accountOf s a
  putAccount a { b with entries := b.entries.map fun e => if e.tid = tid && e.cs = cs then { e with state := st } else e } s

/-- A token's delivery ends with a STATE (R597). -/
def endToken (m a tid cs st : Nat) (s : State) : State :=
  let job := s.fleet.tokens.find? fun j => j.meter == m && j.tid == tid && j.cs == cs
  let s := setEntry a tid cs st (s.onFleet fun b => { b with tokens := b.tokens.filter fun j => some j != job })
  let s := onCtx m (fun c => { c with tokenState := 0, tokenTid := 0, tokenCs := 0 }) s
  notice 2 0xFF m st tid ((job.map (·.hostref)).getD 0) s

/-! ### Campaigns: members and blocks (R600–R610) -/

/-- Blocks of a campaign (R601). -/
def campBlocksN (p : Camp) : Nat := (p.imageSize + p.blockSize - 1) / max 1 p.blockSize

/-- A block of a campaign's image; the image is held whole once the campaign runs (R600, R601). -/
def campBlock (p : Camp) (b : Nat) : List Byte := ((p.pieces.flatMap (·.2)).drop (b * p.blockSize)).take p.blockSize

/-- Bytes of a member's bitmap (R601). -/
def bitmapBytes (p : Camp) : Nat := (campBlocksN p + 7) / 8

/-- The contexts that name a campaign slot. -/
def campMembers (s : State) (n : Nat) : List (Nat × MeterCtx) := s.sess.ctxs.filter fun p => p.2.campSlot == n

/-- Members in a CAMP_STATE. -/
def campCount (s : State) (n st : Nat) : Nat :=
  ((campMembers s n).filter fun p => p.2.campState == st).length
    + (((campOf s n).map (·.ended)).getD [] |>.filter fun e => e.2 == st).length

/-- Blocks that a member misses: those its bitmap does not hold. -/
def missingOf (p : Camp) (m : Nat) : List Nat :=
  let got := tget p.bitmaps m []
  (List.range (campBlocksN p)).filter fun b => !got.contains b

/-- Blocks that at least one transferring member misses, ascending (R606). -/
def unionOf (s : State) (n : Nat) (p : Camp) : List Nat :=
  let ms := (campMembers s n).filter fun q => q.2.campState == 2
  (List.range (campBlocksN p)).filter fun b => ms.any fun q => !(tget p.bitmaps q.1 []).contains b

/-- A campaign whose every member has ended sends notice kind 4 and frees its slot (R610). -/
def checkCamp (n : Nat) (s : State) : State :=
  match campOf s n with
  | none => s
  | some p =>
    let l := campMembers s n
    if p.state = 3 && (!l.isEmpty || !p.ended.isEmpty) && l.all (fun q => q.2.campState == 6 || q.2.campState == 7) then
      let s := notice 4 n 0xFFFFFFFF (campCount s n 6) (campCount s n 7) p.uid s
      let s := l.foldl (fun s q => onCtx q.1 (fun c => { c with campSlot := 0xFF, bitmapRef := 0xFFFFFFFF }) s) s
      s.onFleet fun b => { b with camps := tdel b.camps n }
    else s

/-- A member fails with a FAIL_REASON (R610). -/
def failMember (m reason : Nat) (s : State) : State := onCtx m (fun c => { c with campState := 7, failReason := reason }) s

/-- A member takes a CAMP_STATE and starts its first request. -/
def setCamp (m n st : Nat) (s : State) : State :=
  onCamp n (fun p => { p with sub := tdel p.sub m, fill := tdel p.fill m }) (onCtx m (fun c => { c with campState := st }) s)

/-- A step of a member has failed: CAMP_TRIES (R604). -/
def stepFailed (m n : Nat) (s : State) : State :=
  match ctxOf s m, campOf s n with
  | some c, some p =>
    let s := onCtx m (fun c => { c with campTries := c.campTries + 1 }) s
    if p.maxTries ≤ c.campTries + 1 then failMember m 3 s else s
  | _, _ => s

/-- CS3: the member's bitmap after a status read; `v` has block 0 in its first bit (R604). -/
def takeBitmap (m n v : Nat) (s : State) : State :=
  match ctxOf s m, campOf s n with
  | some c, some p =>
    let k := campBlocksN p
    let got := (List.range k).filter fun b => v.testBit (k - 1 - b)
    let miss := k - got.length
    let progress := c.missing = 0xFFFF || miss < c.missing
    let p' := { p with bitmaps := tput p.bitmaps m got }
    let s := onCamp n (fun p => { p with bitmaps := tput p.bitmaps m got, read := m :: p.read.filter (· != m), reread := p.reread.filter (· != m) }) s
    let s := onCtx m (fun c => { c with missing := miss, campKey := s.key }) s
    if miss = 0 then setCamp m n 4 s
    else if miss ≤ p.unicastMax || p.maxRounds ≤ p.round then
      let s := if c.campState = 3 then (if progress then onCtx m (fun c => { c with campTries := 0 }) s else stepFailed m n s) else s
      if ((ctxOf s m).map (·.campState)).getD 7 = 7 then s
      else onCamp n (fun p => { p with fill := tput p.fill m (missingOf p' m) }) (setCamp m n 3 s)
    else setCamp m n 2 s
  | _, _ => s

/-! ### Requests to meters (R577–R580) -/

/-- Class 7 entries of fleet work: unicast frames and multicast ones (R580). -/
def fleetEntries (s : State) : Nat :=
  (s.link.downs.filter fun d => d.origin == 1).length + ((s.rad.q7 ++ s.plc.q8).filter fun f => f.use == 3).length

/-- The A-XDR items that bytes are made of, so many of them, under the limits of R388. -/
def tableItems : Nat → List Byte → Option (List (List Byte))
  | 0, b => if b.isEmpty then some [] else none
  | n + 1, b => match skipData 5 (2 * b.length + 2) [1] b with
    | some rest => (tableItems n rest).map fun l => b.take (b.length - rest.length) :: l
    | none => none

/-- The next request for a meter: token first, then push, then campaign (R578, R587, R589, R592, R597, R604, R607–R609). -/
def nextReq (s : State) (m : Nat) (c : MeterCtx) : Option FleetReq :=
  let away := c.state == .lost || c.state == .retired
  let token : Option FleetReq :=
    (s.fleet.tokens.find? fun j => j.meter == m && j.ready && !j.sent).map fun j => .token j.account j.tid j.cs
  let push : Option FleetReq :=
    match pushOf s c.pushId with
    | none => none
    | some p =>
      if away then none
      else match c.pushState with
        | 1 | 2 =>
          let a := progressOf p m
          if 11 ≤ a || (p.passed && a = 10) then some (.pushNow c.pushId) else some (.pushAttr c.pushId a)
        | 3 => if p.again.contains m && !p.passed then some (.pushAgain c.pushId) else none
        | 7 => some (.pushClear c.pushId)
        | _ => none
  let camp : Option FleetReq :=
    match campOf s c.campSlot with
    | none => none
    | some p =>
      let n := c.campSlot
      let second := tget p.sub m 0 = 1
      if away || p.state ≠ 3 || p.uid ≠ c.campUid then none
      else if c.campState = 8 || p.reread.contains m then some (.campBlocks n)
      else match c.campState with
        | 1 => some (if second then .campInit n else .campRead n)
        | 2 => if p.blocks.isNone && 1 ≤ p.round && !p.read.contains m then some (.campBlocks n) else none
        | 3 => match tget p.fill m [] with
          | b :: _ => some (.campFill n b)
          | [] => some (.campBlocks n)
        | 4 => some (if second then .campVerified n else .campVerify n)
        | 5 => if p.actMode = 0 || p.actSent then some (if second then .campActivated n else .campActivate n) else none
        | _ => none
  token.or (push.or camp)

/-- The neighbour by which SE15 reaches a meter in the field role: that of its latest frame, else its own entry. -/
def fleetNbr (s : State) (m : Nat) (c : MeterCtx) : Option Nat :=
  if (tfind s.link.nbrs c.via).isSome then some c.via else nbrOfMeter s m

/-- Sends the APDU of a request: a downlink frame in the field role, a DOWN in the aggregation role; none when it cannot be placed
now (R577, R580, R608). -/
def sendApdu (m : Nat) (c : MeterCtx) (ref : Nat) (bytes : List Byte) (s : State) : Option State :=
  if aggregates s then
    match (childOf s c.child).bind (·.conn) with
    | none => none
    | some _ =>
      let d : DownBody := { addr := c.addr, kind := c.kind, tag := ref, notBefore := s.tai, deadline := s.tai + 3600000000000, bytes := bytes }
      some ((sendChild c.child (.down d) s).onUpl fun u => { u with downSent := inc32 u.downSent })
  else if 128 ≤ fleetEntries s then none
  else
    match fleetNbr s m c with
    | none => none
    | some n =>
      let e := nbrOf s n
      let k := firstWakeKey s e (firstDownKey s (e.kind ≠ 2) 0)
      match placeDownlink n k 1 ref 0 bytes s with
      | .ok s => some (if e.kind ≠ 2 then wakeBefore n (laneIn s.cfg.act e.lastLane).fe k s else s)
      | .error _ => none

/-- What a request carries: the token's digits, a TABLE item, an activation time, the image's identification and size, a block (R585,
R587, R592, R597, R604). -/
def reqContent (s : State) (m : Nat) (c : MeterCtx) (time : Nat) : FleetReq → List Byte
  | .token a tid cs =>
    ((s.fleet.tokens.find? fun j => j.meter == m && j.account == a && j.tid == tid && j.cs == cs).map (·.digits)).getD []
  | .pushAttr id a =>
    if a < 10 then ((pushOf s id).map fun p => ((tableItems 4 p.table).getD []).getD (a - 6) []).getD []
    else dateTimeBytes s (parseProfile s c.parseProfile).pflags time
  | .pushAgain _ => dateTimeBytes s (parseProfile s c.parseProfile).pflags time
  | .pushClear _ => List.replicate 9 0xFF ++ [0x80, 0x00, 0xFF]
  | .campInit n => ((campOf s n).map fun p => p.imageId ++ beBytes 4 p.imageSize).getD []
  | .campFill n b => ((campOf s n).map fun p => campBlock p b).getD []
  | _ => []

/-- Opens a request: its invoke-id, and the activation time it carries (R578, R587). -/
def openReq (m : Nat) (c : MeterCtx) (r : FleetReq) (s : State) : State :=
  let t := match r with
    | .pushAttr id _ | .pushAgain id => ((pushOf s id).map fun p => pushTime s c p.actKey).getD 0
    | _ => 0
  let inv := s.fleet.invokeNext
  let ref := s.fleet.nextRef
  match sendApdu m c ref (Config.fleetApdu r m inv (reqContent s m c t r)) s with
  | none => s
  | some s =>
    let s := s.onFleet fun b =>
      { b with reqs := b.reqs ++ [{ meter := m, invoke := inv, req := r, ref := ref, time := t }]
               invokeNext := if inv = 15 then 12 else inv + 1, nextRef := inc32 ref }
    match r with
    | .token _ tid cs => s.onFleet fun b =>
        { b with tokens := b.tokens.map fun j => if j.meter = m && j.tid = tid && j.cs = cs then { j with sent := true } else j }
    | .pushAttr _ _ => if c.pushState = 1 then setPush m 2 s else s
    | .pushAgain id => onPush id (fun p => { p with again := p.again.filter (· != m) }) s
    | _ => s

/-- A campaign member follows its meter and its slot: paused while Lost or without the campaign, failed once Retired (R608, R609). -/
def followMember (m : Nat) (c : MeterCtx) (s : State) : State :=
  if c.campSlot = 0xFF || c.campState = 6 || c.campState = 7 then s
  else if c.state == .retired then failMember m 5 s
  else
    let held := (campOf s c.campSlot).any fun p => p.uid == c.campUid
    if (c.state == .lost || !held) && c.campState ≠ 8 then onCtx m (fun c => { c with campState := 8 }) s else s

/-- A push member that has become Retired fails (R590). -/
def followPush (m : Nat) (c : MeterCtx) (s : State) : State :=
  if c.pushId ≠ 0xFF && c.state == .retired && !pushEnded c.pushState then setPush m 6 s else s

/-- Sends notice kind 3 once every transferring member has been status-read since the round, or 45,000 mc after it (R606). -/
def roundReport (n : Nat) (p : Camp) (s : State) : State :=
  let ms := (campMembers s n).filter fun q => q.2.campState == 2
  if p.noticed || p.blocks.isSome || (!ms.all (fun q => p.read.contains q.1) && s.key < p.endKey + 45000 * mc) then s
  else
    let still := campCount s n 2 + campCount s n 3
    onCamp n (fun p => { p with noticed := true }) (notice 3 n 0xFFFFFFFF p.round (unionOf s n p).length still s)

/-- Tokens in delivery whose digits this unit does not hold, those of before a start or a takeover, are undelivered (R596, R597; log entry
457). -/
def endOrphans (s : State) : State :=
  let held := fun (a : Nat) (e : LedgerEnt) => s.fleet.tokens.any fun j => j.account == a && j.tid == e.tid && j.cs == e.cs
  let lost := s.fleet.ledger.flatMap fun a => (a.2.entries.filter fun e => e.state == 0 && !held a.1 e).map fun e => (a.1, e)
  let s := lost.foldl (fun s q =>
    let names := fun (c : MeterCtx) => c.tokenState == 1 && c.account == q.1 && c.tokenTid == q.2.tid && c.tokenCs == q.2.cs
    endToken (((s.sess.ctxs.find? fun c => names c.2).map (·.1)).getD q.2.meter) q.1 q.2.tid q.2.cs 3 s) s
  let idle := s.sess.ctxs.filter fun c => c.2.tokenState == 1 && !(s.fleet.tokens.any fun j => j.meter == c.1)
  idle.foldl (fun s c => onCtx c.1 (fun c => { c with tokenState := 0, tokenTid := 0, tokenCs := 0 }) s) s

/-- SE15 at work: members follow their meters, ends are noticed, and each meter without an open request gets its next one. -/
def fleetPump (s : State) : State :=
  if !fleetSends s then s
  else
    let s := endOrphans s
    let s := s.sess.ctxs.foldl (fun s q => followPush q.1 q.2 (followMember q.1 q.2 s)) s
    let s := s.sess.ctxs.foldl (fun s q =>
      if s.fleet.reqs.any (fun o => o.meter == q.1) then s
      else match nextReq s q.1 q.2 with
        | some r => openReq q.1 q.2 r s
        | none => s) s
    let s := s.fleet.camps.foldl (fun s q => roundReport q.1 q.2 s) s
    (List.range 16).foldl (fun s n => checkPush n (checkCamp n s)) s

/-! ### What becomes of a request (R577, R590, R597, R604) -/

/-- An attempt has failed (R577, R590, R597, R604). -/
def attemptFailed (o : OpenReq) (s : State) : State :=
  let m := o.meter
  let push := fun (id back : Nat) (s : State) =>
    match ctxOf s m, pushOf s id with
    | some c, some p =>
      if c.pushId ≠ id || pushEnded c.pushState then s
      else
        let s := onCtx m (fun c => { c with pushTries := c.pushTries + 1 }) s
        let s := onPush id (fun p => { p with progress := tdel p.progress m }) s
        if p.maxTries ≤ c.pushTries + 1 then setPush m 6 s else if c.pushState = 7 then s else setPush m back s
    | _, _ => s
  let camp := fun (n : Nat) (s : State) =>
    match ctxOf s m with
    | some c => if c.campSlot ≠ n || c.campState = 6 || c.campState = 7 then s else stepFailed m n s
    | none => s
  match o.req with
  | .token a tid cs => endToken m a tid cs 3 s
  | .pushAttr id _ | .pushAgain id | .pushNow id | .pushClear id => push id 1 s
  | .campRead n | .campInit n | .campBlocks n | .campFill n _ | .campVerify n | .campVerified n | .campActivate n | .campActivated n =>
    camp n s

/-- A member of a push that has answered (R587–R589, R592). -/
def pushAnswered (o : OpenReq) (id : Nat) (ok : Bool) (s : State) : State :=
  let m := o.meter
  match ctxOf s m, pushOf s id with
  | some c, some p =>
    if c.pushId ≠ id || pushEnded c.pushState then s
    else if c.pushState = 7 then
      match o.req with
      | .pushClear _ => setPush m (if ok then 8 else 6) s
      | _ => s
    else if !ok then setPush m 6 s
    else
      match o.req with
      | .pushAttr _ a =>
        if a < 10 then onPush id (fun p => { p with progress := tput p.progress m (if a = 9 && p.passed then 11 else a + 1) }) s
        else if p.passed then onPush id (fun p => { p with progress := tput p.progress m 11 }) s
        else
          let s := onCtx m (fun c => { c with pushState := 3, pushKey := pushKeyOf s c p.actKey }) s
          s.onFleet fun b => { b with sentTime := tput b.sentTime m o.time, sentOffset := tput b.sentOffset m c.clkOffset }
      | .pushAgain _ =>
        let s := onCtx m (fun c => { c with pushKey := pushKeyOf s c p.actKey }) s
        s.onFleet fun b => { b with sentTime := tput b.sentTime m o.time, sentOffset := tput b.sentOffset m c.clkOffset }
      | .pushNow _ => setPush m 5 s
      | _ => s
  | _, _ => s

/-- A member of a campaign that has answered (R604, R607). Values of image_transfer_status are the DLMS/COSEM standard's: 3 verification
successful, 4 failed, 6 activation successful, 7 failed (PRESUMED, log entry 24). -/
def campAnswered (o : OpenReq) (n : Nat) (ok : Bool) (data : List Nat) (s : State) : State :=
  let m := o.meter
  match ctxOf s m, campOf s n with
  | some c, some p =>
    let d0 := data.headD 0
    let next := fun (s : State) => onCamp n (fun p => { p with sub := tput p.sub m 1 }) s
    let first := fun (s : State) => onCamp n (fun p => { p with sub := tdel p.sub m }) s
    if c.campSlot ≠ n || c.campState = 6 || c.campState = 7 then s
    else if !ok then
      match o.req with
      | .campFill _ b => stepFailed m n (onCamp n (fun p => { p with fill := tput p.fill m ((tget p.fill m []).filter (· != b)) }) s)
      | .campBlocks _ => stepFailed m n (if c.campState = 8 then setCamp m n 1 s else s)
      | _ => stepFailed m n (first s)
    else
      match o.req with
      | .campRead _ =>
        if d0 ≠ p.blockSize then failMember m 1 s
        else if (data.getD 1 0) = 0 then failMember m 2 s
        else next s
      | .campInit _ => setCamp m n 2 s
      | .campBlocks _ => takeBitmap m n d0 s
      | .campFill _ b => onCamp n (fun p => { p with fill := tput p.fill m ((tget p.fill m []).filter (· != b)) }) s
      | .campVerify _ => next s
      | .campVerified _ => if d0 = 3 then setCamp m n 5 s else if d0 = 4 then failMember m 4 s else s
      | .campActivate _ => next s
      | .campActivated _ =>
        if d0 = 6 then onCtx m (fun c => { c with campState := 6 }) s
        else if d0 = 5 then s
        else if d0 = 7 then stepFailed m n (first s)
        else first s
      | _ => s
  | _, _ => s

/-- A response to an open request (R579). -/
def answered (o : OpenReq) (ok : Bool) (data : List Nat) (s : State) : State :=
  match o.req with
  | .token a tid cs => endToken o.meter a tid cs (if ok then 1 else 2) s
  | .pushAttr id _ | .pushAgain id | .pushNow id | .pushClear id => pushAnswered o id ok s
  | .campRead n | .campInit n | .campBlocks n | .campFill n _ | .campVerify n | .campVerified n | .campActivate n | .campActivated n =>
    campAnswered o n ok data s

/-- Closes a request. -/
def closeReq (o : OpenReq) (s : State) : State := s.onFleet fun b => { b with reqs := b.reqs.filter (· != o) }

/-- The open request of a number. -/
def reqByRef (s : State) (ref : Nat) : Option OpenReq := s.fleet.reqs.find? fun o => o.ref == ref

/-- Takes the next response, or the next report of an attempt, and acts on the request it belongs to (R577–R579). -/
def takeReport (s : State) : State :=
  match s.sess.fleetIn with
  | (m, inv, ok, data) :: rest =>
    let s := s.onSess fun b => { b with fleetIn := rest }
    match s.fleet.reqs.find? (fun o => o.meter == m && o.invoke == inv) with
    | some o => answered o ok data (closeReq o s)
    | none => s
  | [] =>
    match s.link.results.find? (fun r => r.1 == 1) with
    | some r =>
      let s := s.onLink fun l => { l with results := l.results.erase r }
      match reqByRef s r.2.1 with
      | some o => if r.2.2 then s else attemptFailed o (closeReq o s)
      | none => s
    | none =>
      match s.upl.downSeen with
      | [] => s
      | r :: rest =>
        let s := s.onUpl fun u => { u with downSeen := rest }
        match reqByRef s r.2.1 with
        | some o => if r.2.2 = 0 then s else attemptFailed o (closeReq o s)
        | none => s

/-- FLEET_RESPONSE: SE15 takes the next response or report, advances its request and sends what comes next (R577–R579). -/
def execFleetResponse (dt : Nat) (s : State) : Outcome State Fault Refusal :=
  let s := tick dt s
  if fleetOn s && uplinkRuns s then .next (fleetPump (takeReport s)) else .next s

/-! ### Pushes in time (R588, R589) -/

/-- Recomputes one push (R588). -/
def recomputePush (id : Nat) (p : Push) (s : State) : State :=
  let due := p.lastCalc + 180000 * mc ≤ s.key || p.lastCalc < s.time.stepKey
  if p.passed || p.actKey < s.key + 3000 * mc then s
  else
    let moved := (pushMembers s id).filter fun q =>
      q.2.pushState == 3 && (due || tget s.fleet.sentOffset q.1 q.2.clkOffset != q.2.clkOffset)
    let again := moved.filter fun q =>
      let t := pushTime s q.2 p.actKey
      let old := tget s.fleet.sentTime q.1 t
      p.resendMs < (if old ≤ t then t - old else old - t)
    let s := s.onFleet fun b => { b with sentOffset := moved.foldl (fun l q => tput l q.1 q.2.clkOffset) b.sentOffset }
    onPush id (fun p =>
      { p with lastCalc := if due then s.key else p.lastCalc
               again := p.again.filter (fun m => !again.any (fun q => q.1 == m)) ++ again.map (·.1) }) s

/-- PUSH_RECOMPUTE (R588). -/
def execPushRecompute (dt : Nat) (s : State) : Outcome State Fault Refusal :=
  let s := tick dt s
  if fleetOn s && uplinkRuns s then .next (fleetPump (s.fleet.pushes.foldl (fun s q => recomputePush q.1 q.2 s) s)) else .next s

/-- The key at which the present mains cycle began. -/
def cycleStart (s : State) : Nat := s.key / mc * mc

/-- The first cycle on or after the key of a push has come (R589). -/
def activatePush (id : Nat) (p : Push) (s : State) : State :=
  if p.passed || cycleStart s < p.actKey then s
  else
    let s := onPush id (fun p => { p with passed := true, again := [] }) s
    (pushMembers s id).foldl (fun s q =>
      match q.2.pushState with
      | 3 => setPush q.1 4 s
      | 1 | 2 => if p.late = 1 then setPush q.1 6 s else s
      | _ => s) s

/-- PUSH_ACTIVATE (R589). -/
def execPushActivate (dt : Nat) (s : State) : Outcome State Fault Refusal :=
  let s := tick dt s
  if fleetOn s && uplinkRuns s then
    let s := s.fleet.pushes.foldl (fun s q => activatePush q.1 q.2 s) s
    .next (fleetPump ((List.range 16).foldl (fun s n => checkPush n s) s))
  else .next s

/-- Takes a checkpoint to SR4 (R583). -/
def fleetCheckpoint (s : State) : State :=
  match writeSystem definitionsPage (.fleet { pushes := s.fleet.pushes, camps := s.fleet.camps }) (syncLedger s) with
  | some (_, s) => s.onFleet fun b => { b with ckptKey := s.key }
  | none => s

/-- FLEET_CHECKPOINT: every 3,000 mc (R583). -/
def execFleetCheckpoint (dt : Nat) (s : State) : Outcome State Fault Refusal :=
  let s := tick dt s
  if fleetOn s && uplinkRuns s && archWorks s && s.fleet.ckptKey + 3000 * mc ≤ s.key then .next (fleetPump (fleetCheckpoint s)) else .next s

/-- TOKEN_DELIVER: the oldest token whose ledger entry is durable, and acknowledged by the Yoke where the partner is InSync, may go
(R596, R597). -/
def execTokenDeliver (dt : Nat) (s : State) : Outcome State Fault Refusal :=
  let s := tick dt s
  if fleetOn s && uplinkRuns s && archWorks s then
    let entry := fun (j : TokenJob) => (ledgerEntry (accountOf s j.account) j.tid j.cs).getD {}
    match s.fleet.tokens.find? (fun j => !j.ready && entryDurable s j.account (entry j) && (!holdsForYoke s || j.jseq ≤ s.pair.ackedJseq)) with
    | some j => .next (fleetPump (s.onFleet fun b => { b with tokens := b.tokens.map fun x => if x = j then { x with ready := true } else x }))
    | none => .next s
  else .next s

/-! ### Rounds (R602–R607) -/

/-- Minute of the local day now. -/
def localMinute (s : State) : Nat := localOf s.cfg.act (utcOf s (s.tai / 1000000000)) % 86400 / 60

/-- Whether a campaign is inside its window (R606). -/
def campInWindow (s : State) (p : Camp) : Bool :=
  let m := localMinute s
  if p.winStart = p.winEnd then true
  else if p.winStart < p.winEnd then p.winStart ≤ m && m < p.winEnd
  else p.winStart ≤ m || m < p.winEnd

/-- The next value of a slot's broadcast counter, saved every 4,096 frames and mirrored (R605). -/
def nextBcast (slot : Nat) (s : State) : Nat × State :=
  let v := inc32 (tget s.fleet.bcast slot 0)
  (v, mirror (.bcast slot v) (writeCounter slot v s))

/-- The KINDs of the carriers in use. -/
def carriers (s : State) : List Nat := [0, 1, 2].filter (carrierOn s)

/-- Sends one multicast APDU to the members that satisfy `who`: on the unit's own carriers of their KINDs in the field role, as one
DOWN per child and KIND in the aggregation role (R602, R603, R605, R607). -/
def sendMulticast (p : Camp) (n key : Nat) (who : MeterCtx → Bool) (byKind : Bool) (image : Nat → List Byte) (s : State) : State :=
  let ms := (campMembers s n).filter fun q => who q.2
  let kinds := (carriers s).filter fun k => !byKind || ms.any fun q => q.2.kind == k
  if aggregates s then
    let cs := (ms.map fun q => q.2.child).eraseDups.filter fun c => ((childOf s c).bind (·.conn)).isSome
    cs.foldl (fun s c => kinds.foldl (fun s k =>
      let (ic, s) := nextBcast p.keySlot s
      let tag := s.fleet.nextRef
      let d : DownBody := { addr := allOnes64, kind := k, tag := tag, notBefore := max s.tai (taiOfKey s key), deadline := s.tai + 3600000000000
                            bytes := image ic }
      ((sendChild c (.down d) s).onUpl fun u => { u with downSent := inc32 u.downSent }).onFleet fun b => { b with nextRef := inc32 tag }) s) s
  else
    kinds.foldl (fun s k =>
      let (ic, s) := nextBcast p.keySlot s
      let k0 := max key (firstDownKey s (k ≠ 2) 0)
      match placeMulticast k k0 (image ic) s with
      | .ok (_, s) => s
      | .error _ => s) s

/-- Whether a campaign may start a round now (R606). -/
def roundDue (s : State) (n : Nat) (p : Camp) : Bool :=
  let ms := campMembers s n
  let moving := ms.filter fun q => q.2.campState == 2
  let ready := if p.round = 0 then !ms.any (fun q => q.2.campState == 1) else moving.all (fun q => p.read.contains q.1)
  p.state = 3 && p.blocks.isNone && p.round < p.maxRounds && !moving.isEmpty && !(unionOf s n p).isEmpty && campInWindow s p
    && slotUsable s p.keySlot && (ready || p.endKey + 45000 * mc ≤ s.key)

/-- Broadcast wake frames before the first block of a round, on the carriers that have them (MCA3). -/
def wakeAll (key : Nat) (s : State) : State :=
  if aggregates s then s
  else ((carriers s).filter (· ≠ 2)).foldl (fun s k =>
    let c := s.cfg.act.carriers.getD k {}
    if c.wakeRepeat = 0 then s
    else match placeWake c.fe s.cfg.act.wur.freqHz 0xFFFF c.wakeRepeat 0 key s.cfg.act.wur.fast s with
      | .ok (_, s) => s
      | .error _ => s) s

/-- The key of a round's first block: as soon as its wake frames fit before it. -/
def roundKey (s : State) : Nat :=
  let k := s.key + 2 * 16384
  ((carriers s).filter (· ≠ 2)).foldl (fun a i =>
    let c := s.cfg.act.carriers.getD i {}
    if c.wakeRepeat = 0 then a else max a (k + (k - wakeKey s s.cfg.act.wur.fast c.wakeRepeat 0 k))) k

/-- CAMPAIGN_ROUND_START (R606). -/
def execCampaignRoundStart (dt : Nat) (s : State) : Outcome State Fault Refusal :=
  let s := tick dt s
  if fleetSends s then
    match s.fleet.camps.find? (fun q => roundDue s q.1 q.2) with
    | none => .next s
    | some (n, p) =>
      let u := unionOf s n p
      let k := roundKey s
      let r := p.round + 1
      let s := (campMembers s n).foldl (fun s q => if q.2.campState = 2 then onCtx q.1 (fun c => { c with campRound := r }) s else s) s
      let s := onCamp n (fun p => { p with round := r, blocks := some u, unionN := u.length, nextKey := k, read := [], noticed := true }) s
      .next (fleetPump (wakeAll k s))
  else .next s

/-- Campaigns whose next block is due within the placing time, the one after the slot that sent last first (R606). -/
def blockDue (s : State) : Option (Nat × Camp) :=
  let due := s.fleet.camps.filter fun q =>
    (match q.2.blocks with | some (_ :: _) => true | _ => false) && campInWindow s q.2 && slotUsable s q.2.keySlot && q.2.nextKey ≤ s.key + 2 * 16384
  (due.find? fun q => s.fleet.turn < q.1).or due.head?

/-- The end of a round: the checkpoint, and the status reads begin (R583, R604, R606). -/
def endRound (n : Nat) (s : State) : State :=
  fleetCheckpoint (onCamp n (fun p => { p with blocks := none, endKey := s.key, read := [], noticed := false }) s)

/-- CAMPAIGN_BLOCK_SEND: the next block of a round, GAP_MC after the one before (R580, R603, R605, R606). -/
def execCampaignBlockSend (dt : Nat) (s : State) : Outcome State Fault Refusal :=
  let s := tick dt s
  if fleetSends s && fleetEntries s + 3 ≤ 128 then
    match blockDue s with
    | none => .next s
    | some (n, p) =>
      match p.blocks with
      | some (b :: rest) =>
        let who := fun (c : MeterCtx) => c.campState == 2
        let s := sendMulticast p n p.nextKey who false (fun ic => Config.multicastApdu p.keySlot ic 0 b (campBlock p b)) s
        let s := s.onFleet fun x => { x with turn := n }
        let s := onCamp n (fun p => { p with blocks := some rest, nextKey := max s.key p.nextKey + p.gapMc * mc }) s
        .next (fleetPump (if rest.isEmpty then endRound n s else s))
      | _ => .next s
  else .next s

/-- CAMPAIGN_ACTIVATE: image_activate as multicast at ACT on every carrier that serves a verified member; it is placed within the two
cycles before ACT, or at once when ACT has passed. The members' status is then read (R607). -/
def execCampaignActivate (dt : Nat) (s : State) : Outcome State Fault Refusal :=
  let s := tick dt s
  let due := s.fleet.camps.find? fun q =>
    q.2.state = 3 && q.2.actMode = 1 && !q.2.actSent && q.2.act ≤ s.key + 2 * mc && slotUsable s q.2.keySlot
  if fleetSends s then
    match due with
    | none => .next s
    | some (n, p) =>
      let s := sendMulticast p n p.act (fun c => c.campState == 5) true (fun ic => Config.multicastApdu p.keySlot ic 1 0 []) s
      let ms := (campMembers s n).filter fun q => q.2.campState == 5
      let s := onCamp n (fun p => { p with actSent := true, sub := ms.foldl (fun l q => tput l q.1 1) p.sub }) s
      .next (fleetPump s)
  else .next s

end Sys2Proof.Machine
end

