-- ==== Sys2Proof/Machine/FleetCmd.lean ====
section
/-! DEFINITION. The FLEET commands (R612–R620). -/

namespace Sys2Proof.Machine

open Host (Outcome)

/-- A FLEET command's meaning where fleet work runs, LOCKED elsewhere (R576, R612). -/
def fleetCmd (f : Taken → State → State × Reply) (t : Taken) (s : State) : State × Reply :=
  if fleetOn s then f t s else (s, answer .locked)

/-! ### The TABLE of a push (R585) -/

/-- Whether TABLE is four A-XDR items (R585). -/
def tableOk (b : List Byte) : Bool := (tableItems 4 b).isSome

/-! ### Pushes -/

/-- FLEET 0x0C01 PUSH_CREATE (R586, R613). -/
def pushCreate (t : Taken) (s : State) : State × Reply :=
  let b := t.payload
  let id := fld b 0 1
  let len := fld b 6 2
  let key := if fld b 1 1 = 1 then keyOfTai s (fld b 8 8) else fld b 8 8
  if 15 < id || 1 < fld b 1 1 || 1 < fld b 2 1 || fld b 3 1 < 1 || 16 < fld b 3 1 || fld b 4 2 < 10 || 60000 < fld b 4 2
      || len < 1 || 4032 < len || b.length ≠ 32 + len || !tableOk (b.drop 32) then (s, answer .badarg)
  else if (pushOf s id).isSome then (s, answer .busy)
  else if fld b 1 1 = 1 && !s.mains.anchored then (s, answer .locked)
  else if key < s.key + 3000 * mc then (s, answer .stale)
  else
    let p : Push :=
      { actKey := key, late := fld b 2 1, maxTries := fld b 3 1, resendMs := fld b 4 2, hostref := fld b 16 4, table := b.drop 32
        lastCalc := s.key }
    (s.onFleet fun f => { f with pushes := tput f.pushes id p }, okWith (leBytes 8 key))

/-- PUSH_CREATE runs the oldest one dispatched for the host (R613). -/
def execPushCreate (dt : Nat) (host : Fin 4) (s : State) : Outcome State Fault Refusal :=
  .next (runCmd 0x0C01 host (fleetCmd pushCreate) (tick dt s))

/-- A meter leaves its push: it ends as cancelled, a confirmed one after its activation time has been rewritten (R592, R614). -/
def leavePush (m : Nat) (c : MeterCtx) (keep : Bool) (s : State) : State :=
  if keep then setPush m (if c.pushState = 3 then 7 else 8) s
  else
    let st := if pushEnded c.pushState then c.pushState else 8
    onPush c.pushId (fun p => { p with ended := p.ended ++ [(m, st)] }) s

/-- One index of PUSH_MEMBER: the state after it, none where it is refused (R614). -/
def pushMemberOne (id mode m : Nat) (s : State) : Option State :=
  match ctxOf s m, pushOf s id with
  | some c, some p =>
    if mode = 1 then
      if c.pushId ≠ id then none
      else some (if pushEnded c.pushState then s else leavePush m c true s)
    else if c.pushId ≠ 0xFF && c.pushId ≠ id && mode = 0 then none
    else if p.late = 1 && p.actKey ≤ s.key then none
    else if c.pushId = id && !pushEnded c.pushState then some s
    else
      let s := if c.pushId ≠ 0xFF && c.pushId ≠ id then checkPush c.pushId (leavePush m c false s) else s
      some (onCtx m (fun c => { c with pushId := id, pushState := 1, pushTries := 0, pushKey := 0 })
        (onPush id (fun p => { p with progress := tdel p.progress m }) s))
  | _, _ => none

/-- The indices of a member list. -/
def memberList (b : List Byte) : Nat → List Nat
  | 0 => []
  | n + 1 => fld b 0 4 :: memberList (b.drop 4) n

/-- Applies a member command to its indices: ADDED, REFUSED, FIRST_REFUSED (R614). -/
def eachMember (f : Nat → State → Option State) (l : List Nat) (s : State) : State × Nat × Nat × Nat :=
  l.foldl (fun (acc : State × Nat × Nat × Nat) m => match f m acc.1 with
    | some s => (s, acc.2.1 + 1, acc.2.2.1, acc.2.2.2)
    | none => (acc.1, acc.2.1, acc.2.2.1 + 1, if acc.2.2.1 = 0 then m else acc.2.2.2)) (s, 0, 0, 0)

/-- The reply of a member command (R614). -/
def memberReply (r : State × Nat × Nat × Nat) : Reply := okWith (leBytes 2 r.2.1 ++ leBytes 2 r.2.2.1 ++ leBytes 4 r.2.2.2)

/-- Whether the COUNT of a member command is in range and spans its payload (R614). -/
def memberForm (b : List Byte) : Bool := 1 ≤ fld b 2 2 && fld b 2 2 ≤ 1000 && b.length == 8 + 4 * fld b 2 2

/-- FLEET 0x0C02 PUSH_MEMBER (R614). -/
def pushMember (t : Taken) (s : State) : State × Reply :=
  let b := t.payload
  if (pushOf s (fld b 0 1)).isNone || 2 < fld b 1 1 || !memberForm b then (s, answer .badarg)
  else
    let r := eachMember (pushMemberOne (fld b 0 1) (fld b 1 1)) (memberList (b.drop 8) (fld b 2 2)) s
    (fleetPump r.1, memberReply r)

/-- PUSH_MEMBER runs the oldest one dispatched for the host (R614). -/
def execPushMember (dt : Nat) (host : Fin 4) (s : State) : Outcome State Fault Refusal :=
  .next (runCmd 0x0C02 host (fleetCmd pushMember) (tick dt s))

/-- FLEET 0x0C03 PUSH_STATUS (R615); PENDING counts pending and sending members. -/
def pushStatus (t : Taken) (s : State) : State × Reply :=
  let id := fld t.payload 0 1
  match pushOf s id with
  | none => (s, answer .badarg)
  | some p =>
    let n := fun st => leBytes 4 (pushCount s id st)
    (s, okWith (leBytes 8 p.actKey ++ leBytes 4 ((pushMembers s id).length + p.ended.length)
      ++ leBytes 4 (pushCount s id 1 + pushCount s id 2) ++ n 3 ++ n 4 ++ n 5 ++ n 6))

/-- PUSH_STATUS runs the oldest one dispatched for the host (R615). -/
def execPushStatus (dt : Nat) (host : Fin 4) (s : State) : Outcome State Fault Refusal :=
  .next (runCmd 0x0C03 host (fleetCmd pushStatus) (tick dt s))

/-- FLEET 0x0C04 PUSH_CANCEL (R592). -/
def pushCancel (t : Taken) (s : State) : State × Reply :=
  let id := fld t.payload 0 1
  match pushOf s id with
  | none => (s, answer .badarg)
  | some _ =>
    let s := onPush id (fun p => { p with cancelled := true, again := [] }) s
    let s := (pushMembers s id).foldl (fun s q =>
      match q.2.pushState with
      | 1 | 2 => setPush q.1 8 s
      | 3 => setPush q.1 7 s
      | _ => s) s
    (fleetPump (checkPush id s), answer .ok)

/-- PUSH_CANCEL runs the oldest one dispatched for the host (R592). -/
def execPushCancel (dt : Nat) (host : Fin 4) (s : State) : Outcome State Fault Refusal :=
  .next (runCmd 0x0C04 host (fleetCmd pushCancel) (tick dt s))

/-! ### Tokens -/

/-- Queues a token: its entry stands in delivery, and the meter's context names it (R596). -/
def queueToken (m a tid cs href : Nat) (digits : List Byte) (fresh : Bool) (s : State) : State :=
  let s := if fresh then addEntry a { tid := tid, cs := cs, state := 0, meter := m % 0x1000000 } s else setEntry a tid cs 0 s
  let s := onCtx m (fun c => { c with tokenState := 1, tokenTid := tid, tokenCs := cs }) s
  s.onFleet fun b =>
    { b with tokens := b.tokens ++ [{ meter := m, account := a, tid := tid, cs := cs, hostref := href, digits := digits, jseq := s.pair.jseq }] }

/-- FLEET 0x0C10 TOKEN_SEND (R595–R597, R616). -/
def tokenSend (t : Taken) (s : State) : State × Reply :=
  let b := t.payload
  let m := fld b 0 4
  let cs := fld b 4 1
  let retry := hasBit (fld b 5 1) 0
  let tid := fld b 8 4
  let digits := (b.drop 16).take 20
  match ctxOf s m with
  | none => (s, answer .badarg)
  | some c =>
    if 1048575 < c.account || !digits.all (fun d => 48 ≤ d.toNat && d.toNat ≤ 57) || 0x40 ≤ cs || 0x1000000 ≤ tid || 1 < fld b 5 1 then
      (s, answer .badarg)
    else if c.tokenState = 1 then (s, answer .busy)
    else
      let blk := accountOf s c.account
      let prior := ledgerEntry blk tid cs
      let pay := fun (e : Option LedgerEnt) => match e with
        | some e => leBytes 1 e.state ++ leBytes 3 0 ++ leBytes 4 e.meter
        | none => leBytes 8 0
      if retry then
        match prior with
        | some e =>
          if (e.state = 2 || e.state = 3) && e.meter = m % 0x1000000 then
            (queueToken m c.account tid cs (fld b 12 4) digits false s, okWith (pay prior))
          else (s, { status := .denied, payload := pay prior })
        | none => (s, { status := .denied, payload := pay none })
      else if tokenUsed blk tid cs then (s, { status := .stale, payload := pay prior })
      else (queueToken m c.account tid cs (fld b 12 4) digits true s, okWith (pay none))

/-- TOKEN_SEND runs the oldest one dispatched for the host (R616). -/
def execTokenSend (dt : Nat) (host : Fin 4) (s : State) : Outcome State Fault Refusal :=
  .next (runCmd 0x0C10 host (fleetCmd tokenSend) (tick dt s))

/-- FLEET 0x0C11 LEDGER_NOTE (R598, R617). -/
def ledgerNote (t : Taken) (s : State) : State × Reply :=
  let b := t.payload
  let a := fld b 0 4
  let tid := fld b 4 4
  let cs := fld b 8 1
  let m := fld b 12 4
  if 1048575 < a || 0x1000000 ≤ tid || 0x40 ≤ cs || (ctxOf s m).isNone then (s, answer .badarg)
  else if tokenUsed (accountOf s a) tid cs then (s, answer .stale)
  else (addEntry a { tid := tid, cs := cs, state := 4, meter := m % 0x1000000 } s, answer .ok)

/-- LEDGER_NOTE runs the oldest one dispatched for the host (R617). -/
def execLedgerNote (dt : Nat) (host : Fin 4) (s : State) : Outcome State Fault Refusal :=
  .next (runCmd 0x0C11 host (fleetCmd ledgerNote) (tick dt s))

/-- An account block's 256 bytes (R594). -/
def accountBytes (b : Account) : List Byte :=
  let l := b.entries.flatMap fun e => leBytes 3 e.tid ++ leBytes 1 e.cs ++ leBytes 1 e.state ++ leBytes 3 e.meter
  (leBytes 3 b.floorTid ++ leBytes 1 (bit b.floorValid) ++ leBytes 1 b.entries.length ++ leBytes 3 0 ++ l ++ List.replicate 248 0).take 256

/-- FLEET 0x0C12 LEDGER_READ (R594, R617). -/
def ledgerRead (t : Taken) (s : State) : State × Reply :=
  let a := fld t.payload 0 4
  if 1048575 < a then (s, answer .badarg) else (s, okWith (accountBytes (accountOf s a)))

/-- LEDGER_READ runs the oldest one dispatched for the host (R617). -/
def execLedgerRead (dt : Nat) (host : Fin 4) (s : State) : Outcome State Fault Refusal :=
  .next (runCmd 0x0C12 host (fleetCmd ledgerRead) (tick dt s))

/-- FLEET 0x0C13 FLEET_METER_SET (R593, R617). -/
def fleetMeterSet (t : Taken) (s : State) : State × Reply :=
  let m := fld t.payload 0 4
  let a := fld t.payload 4 4
  if (ctxOf s m).isNone || (1048575 < a && a ≠ 0xFFFFFFFF) then (s, answer .badarg)
  else (onCtx m (fun c => { c with account := a }) s, answer .ok)

/-- FLEET_METER_SET runs the oldest one dispatched for the host (R617). -/
def execFleetMeterSet (dt : Nat) (host : Fin 4) (s : State) : Outcome State Fault Refusal :=
  .next (runCmd 0x0C13 host (fleetCmd fleetMeterSet) (tick dt s))

/-! ### Campaigns -/

/-- FLEET 0x0C20 CAMP_CREATE (R618). -/
def campCreate (t : Taken) (s : State) : State × Reply :=
  let b := t.payload
  let n := fld b 0 1
  let idLen := fld b 64 1
  if 7 < n || 1 < fld b 1 1 || fld b 2 2 < 128 || 1024 < fld b 2 2 || fld b 4 4 < 1 || 2097152 < fld b 4 4 || fld b 13 1 < 1
      || 16 < fld b 13 1 || 256 < fld b 14 2 || fld b 16 2 < 1 || 1439 < fld b 18 2 || 1440 < fld b 20 2 || fld b 22 1 < 1
      || 16 < fld b 22 1 || idLen < 1 || 31 < idLen then (s, answer .badarg)
  else if (campOf s n).isSome then (s, answer .busy)
  else
    let p : Camp :=
      { actMode := fld b 1 1, blockSize := fld b 2 2, imageSize := fld b 4 4, uid := fld b 8 4, keySlot := fld b 12 1
        maxRounds := fld b 13 1, unicastMax := fld b 14 2, gapMc := fld b 16 2, winStart := fld b 18 2, winEnd := fld b 20 2
        maxTries := fld b 22 1, act := fld b 24 8, digest := fld b 32 32, imageId := (b.drop 65).take idLen }
    (s.onFleet fun f => { f with camps := tput f.camps n p }, answer .ok)

/-- CAMP_CREATE runs the oldest one dispatched for the host (R618). -/
def execCampCreate (dt : Nat) (host : Fin 4) (s : State) : Outcome State Fault Refusal :=
  .next (runCmd 0x0C20 host (fleetCmd campCreate) (tick dt s))

/-- The 1,000-byte units of a piece, by number (R600). -/
def pieceUnits : Nat → Nat → List Byte → List (Nat × List Byte)
  | 0, _, _ => []
  | n + 1, k, b => if b.isEmpty then [] else (k, b.take 1000) :: pieceUnits n (k + 1) (b.drop 1000)

/-- Bytes held of an image. -/
def loadedBytes (p : Camp) : Nat := p.pieces.foldl (fun n q => n + q.2.length) 0

/-- FLEET 0x0C21 CAMP_LOAD; the piece map goes to SR4 with each piece, so that it survives a restart (R600, R619). -/
def campLoad (t : Taken) (s : State) : State × Reply :=
  let b := t.payload
  let n := fld b 0 1
  let off := fld b 4 4
  let piece := b.drop 8
  match campOf s n with
  | none => (s, answer .badarg)
  | some p =>
    if p.state ≠ 1 then (s, answer .busy)
    else if piece.isEmpty || 4000 < piece.length || off % 1000 ≠ 0 || p.imageSize < off + piece.length
        || (piece.length % 1000 ≠ 0 && off + piece.length ≠ p.imageSize) then (s, answer .badarg)
    else
      let p := { p with pieces := (pieceUnits 4 (off / 1000) piece).foldl (fun l u => tput l u.1 u.2) p.pieces }
      let whole := loadedBytes p = p.imageSize
      let good := Config.sha256 (p.pieces.flatMap (·.2)) = p.digest
      let p' := if whole then (if good then { p with state := 2 } else { p with pieces := [] }) else p
      let s := s.onFleet fun f => { f with camps := tput f.camps n p' }
      let s := if archWorks s then fleetCheckpoint s else s
      let s := if whole && !good then raise .campHash srcSup (leBytes 1 n) s else s
      (s, okWith (leBytes 4 (loadedBytes p') ++ leBytes 1 p'.state ++ leBytes 3 0))

/-- CAMP_LOAD runs the oldest one dispatched for the host (R619). -/
def execCampLoad (dt : Nat) (host : Fin 4) (s : State) : Outcome State Fault Refusal :=
  .next (runCmd 0x0C21 host (fleetCmd campLoad) (tick dt s))

/-- The bitmaps in the fleet area: offset and length (R601). -/
def bitmapSpans (s : State) : List (Nat × Nat) :=
  s.sess.ctxs.filterMap fun q =>
    if q.2.bitmapRef = 0xFFFFFFFF then none
    else (campOf s q.2.campSlot).map fun p => (q.2.bitmapRef, bitmapBytes p)

/-- The lowest offset at which a bitmap of `len` bytes fits in the fleet area (R583, R601). -/
def bitmapRoom (s : State) (len : Nat) : Option Nat :=
  let l := bitmapSpans s
  let size := s.cfg.startCfg.fleetMib * 1048576
  let fits := fun (o : Nat) => o + len ≤ size && !(l.any fun q => o < q.1 + q.2 && q.1 < o + len)
  ((0 :: l.map fun q => q.1 + q.2).filter fits).foldl (fun acc o => match acc with
    | none => some o
    | some b => some (min b o)) none

/-- A meter leaves its campaign: it fails with reason 6 unless it has ended (R610, R614). -/
def leaveCamp (m : Nat) (c : MeterCtx) (keep : Bool) (s : State) : State :=
  let ended := c.campState = 6 || c.campState = 7
  let s := onCamp c.campSlot (fun p => { p with bitmaps := tdel p.bitmaps m }) s
  let s := onCtx m (fun c => { c with bitmapRef := 0xFFFFFFFF }) (if ended then s else failMember m 6 s)
  if keep then s else onCamp c.campSlot (fun p => { p with ended := p.ended ++ [(m, if ended then c.campState else 7)] }) s

/-- One index of CAMP_MEMBER (R601, R614). -/
def campMemberOne (n mode m : Nat) (s : State) : Option State :=
  match ctxOf s m, campOf s n with
  | some c, some p =>
    if mode = 1 then
      if c.campSlot ≠ n then none else some (leaveCamp m c true s)
    else if c.campSlot ≠ 0xFF && c.campSlot ≠ n && mode = 0 then none
    else if c.campSlot = n && c.campState ≠ 6 && c.campState ≠ 7 then some s
    else
      let s := if c.campSlot ≠ 0xFF && c.campSlot ≠ n then checkCamp c.campSlot (leaveCamp m c false s) else s
      match bitmapRoom s (bitmapBytes p) with
      | none => none
      | some o =>
        some (onCtx m (fun c =>
          { c with campSlot := n, campUid := p.uid, campState := 1, campRound := 0, campTries := 0, failReason := 0, missing := 0xFFFF
                   bitmapRef := o, campKey := 0 })
          (onCamp n (fun p => { p with sub := tdel p.sub m, fill := tdel p.fill m, bitmaps := tdel p.bitmaps m }) s))
  | _, _ => none

/-- Counts the members refused for room (R601). -/
def countNoRoom (n mode : Nat) (l : List Nat) (s s' : State) : State :=
  let full := l.filter fun m => match ctxOf s m, campOf s n with
    | some c, some p => mode ≠ 1 && (c.campSlot = 0xFF || mode = 2) && ((ctxOf s' m).map (·.campSlot)) ≠ some n
        && (bitmapRoom s' (bitmapBytes p)).isNone
    | _, _ => false
  if full.isEmpty then s'
  else setSticky 0x068 0x2000 (s'.onFleet fun f => { f with bitmapRefused := w32 (f.bitmapRefused + full.length) })

/-- FLEET 0x0C22 CAMP_MEMBER (R601, R614). -/
def campMember (t : Taken) (s : State) : State × Reply :=
  let b := t.payload
  if (campOf s (fld b 0 1)).isNone || 2 < fld b 1 1 || !memberForm b then (s, answer .badarg)
  else
    let l := memberList (b.drop 8) (fld b 2 2)
    let r := eachMember (campMemberOne (fld b 0 1) (fld b 1 1)) l s
    (fleetPump (countNoRoom (fld b 0 1) (fld b 1 1) l s r.1), memberReply r)

/-- CAMP_MEMBER runs the oldest one dispatched for the host (R614). -/
def execCampMember (dt : Nat) (host : Fin 4) (s : State) : Outcome State Fault Refusal :=
  .next (runCmd 0x0C22 host (fleetCmd campMember) (tick dt s))

/-- FLEET 0x0C23 CAMP_START (R620). -/
def campStart (t : Taken) (s : State) : State × Reply :=
  let n := fld t.payload 0 1
  match campOf s n with
  | none => (s, answer .badarg)
  | some p =>
    if p.state ≠ 2 then (s, answer .busy)
    else if p.actMode = 1 && p.act < s.key + 3000 * mc then (s, answer .stale)
    else (fleetPump (onCamp n (fun p => { p with state := 3, endKey := s.key }) s), answer .ok)

/-- CAMP_START runs the oldest one dispatched for the host (R620). -/
def execCampStart (dt : Nat) (host : Fin 4) (s : State) : Outcome State Fault Refusal :=
  .next (runCmd 0x0C23 host (fleetCmd campStart) (tick dt s))

/-- FLEET 0x0C24 CAMP_STATUS (R620); a slot that is not in use reads as free. -/
def campStatus (t : Taken) (s : State) : State × Reply :=
  let n := fld t.payload 0 1
  if 7 < n then (s, answer .badarg)
  else
    match campOf s n with
    | none => (s, okWith (List.replicate 48 0))
    | some p =>
      let k := fun st => leBytes 4 (campCount s n st)
      (s, okWith (leBytes 1 p.state ++ leBytes 1 p.round ++ leBytes 2 0 ++ leBytes 4 p.uid ++ leBytes 2 (campBlocksN p)
        ++ leBytes 2 (if p.blocks.isSome then p.unionN else 0) ++ leBytes 4 (loadedBytes p)
        ++ leBytes 4 ((campMembers s n).length + p.ended.length) ++ k 2 ++ k 5 ++ k 6 ++ k 7 ++ k 8 ++ leBytes 8 0))

/-- CAMP_STATUS runs the oldest one dispatched for the host (R620). -/
def execCampStatus (dt : Nat) (host : Fin 4) (s : State) : Outcome State Fault Refusal :=
  .next (runCmd 0x0C24 host (fleetCmd campStatus) (tick dt s))

/-- FLEET 0x0C25 CAMP_CANCEL: every member that is not activated fails, nothing is sent, and the slot is free (R610). -/
def campCancel (t : Taken) (s : State) : State × Reply :=
  let n := fld t.payload 0 1
  match campOf s n with
  | none => (s, answer .badarg)
  | some p =>
    let s := (campMembers s n).foldl (fun s q => if q.2.campState = 6 || q.2.campState = 7 then s else failMember q.1 6 s) s
    let s := notice 4 n 0xFFFFFFFF (campCount s n 6) (campCount s n 7) p.uid s
    let s := (campMembers s n).foldl (fun s q => onCtx q.1 (fun c => { c with campSlot := 0xFF, bitmapRef := 0xFFFFFFFF }) s) s
    (s.onFleet fun b => { b with camps := tdel b.camps n }, answer .ok)

/-- CAMP_CANCEL runs the oldest one dispatched for the host (R610). -/
def execCampCancel (dt : Nat) (host : Fin 4) (s : State) : Outcome State Fault Refusal :=
  .next (runCmd 0x0C25 host (fleetCmd campCancel) (tick dt s))

end Sys2Proof.Machine
end

