-- ==== Sys2Proof/Machine/Fwu.lean ====
section
/-! DEFINITION. Firmware images: staging, the checks of an image, the boot stage's copy, the rollback floor and the FWU commands
("Device firmware update and recovery"). -/

namespace Sys2Proof.Machine

open Host (Outcome)

/-! ### Images (R694–R700) -/

/-- Bytes of a slot (R695). -/
def slotBytes (s : State) : Nat := (s.fwu.norMib - 2) * 1048576 / 2

/-- SIZE of a header (FH10). -/
def imgSize (h : List Byte) : Nat := fld h 20 4

/-- SVN of a header (FH7). -/
def imgSvn (h : List Byte) : Nat := fld h 16 1

/-- KIND delta (FH3). -/
def isDelta (h : List Byte) : Bool := fld h 6 1 == 1

/-- The header of the Active image (R697). -/
def activeHeader (s : State) : List Byte := s.fwu.active.take 256

/-- GRANULES of the staged image (R696). -/
def granules (s : State) : Nat := (imgSize s.fwu.header + 1023) / 1024

/-- The staged image's bytes. -/
def stagedBytes (s : State) : List Byte := s.fwu.pieces.flatMap (·.2)

/-- ROOT accepted, RT1–RT4 (R700). -/
def rootAccepted (s : State) (r : Nat) : Bool :=
  match s.pocket.lifecycle with
  | .provisioned | .deployed => r = 0 || (r = 1 && s.pocket.session)
  | .debug | .blank | .returned => r = 1

/-- MAGIC, VERSION and KIND are known (R697, R718). -/
def imgForm (h : List Byte) : Bool := fld h 0 4 == 0x57465144 && fld h 4 2 == 1 && fld h 6 1 ≤ 1

/-- HW_TYPE, ID_HASH and ROOT suit the unit (R700). -/
def imgBinding (s : State) (h : List Byte) : Bool :=
  fld h 8 4 == 0x9100 && (fld h 24 32 == 0 || fld h 24 32 == idHashNow s) && rootAccepted s (fld h 7 1)

/-- R700 on a header, `sig` being the verdict on the signature. -/
def acceptable (s : State) (h : List Byte) (sig : Bool) : Bool := imgForm h && imgBinding s h && sig && s.fwu.floor ≤ imgSvn h

/-! ### The boot stage (R701–R706) -/

/-- Empties Staging (R708, R721). -/
def emptyStaging (st : Nat) (s : State) : State :=
  s.onFwu fun f => { f with staging := st, header := [], pieces := [], owner := none, copying := none, stagedDigest := 0 }

/-- Staging is dropped: FWU.STAT.DROPPED and one event (R703, R711). -/
def dropStaging (s : State) : State := raise .stagingDropped 0x11 [] (setSticky 0x070 0x8000 (emptyStaging 0 s))

/-- The full image that a staged one yields: itself, or what the delta makes of the Active image; none where R703 refuses it.
`sig` and `resSig` are the verdicts on the signatures. -/
def stagedResult (s : State) (sig resSig : Bool) : Option (List Byte) :=
  let b := stagedBytes s
  let h := b.take 256
  if !acceptable s h sig then none
  else if !isDelta h then some b
  else
    let r := Config.applyDelta s.fwu.active b
    if fld h 56 32 = activeDigest s && fld h 88 32 = Config.sha256 r && acceptable s (r.take 256) resSig && !isDelta (r.take 256) then some r
    else none

/-- The copy begins or resumes: what Staging holds is the full image from now on (R703, R704). -/
def beginCopy (sig resSig : Bool) (s : State) : State :=
  if s.fwu.staging = 4 then s
  else
    match stagedResult s sig resSig with
    | none => dropStaging s
    | some r => s.onFwu fun f => { f with staging := 4, header := r.take 256, pieces := [(0, r)], copying := some 0 }

/-- The copy has reached a sector of 64 KiB: Active holds the new image up to it and the old one from it (R703, R704). -/
def copyTo (sector : Nat) (s : State) : State :=
  let k := max ((s.fwu.copying).getD 0) sector
  let r := stagedBytes s
  s.onFwu fun f => { f with copying := some k, active := r.take (65536 * k) ++ f.active.drop (65536 * k) }

/-- The copy is complete: the image stands in Active, Staging is empty and COPIED is set (R704). -/
def endCopy (s : State) : State :=
  let r := stagedBytes s
  setSticky 0x070 0x4000 ((emptyStaging 0 s).onFwu fun f => { f with active := r })

/-- An image staged below the floor is dropped at the start (R711). -/
def dropBelowFloor (s : State) : State :=
  if s.fwu.staging ≠ 0 && s.fwu.staging ≠ 4 && imgSvn s.fwu.header < s.fwu.floor then dropStaging s else s

/-- The start is confirmed: BOOT_FAILS is 0, and an image with RAISE_FLOOR raises the floor to its SVN (R702, R706). -/
def confirmStart (s : State) : State :=
  s.onFwu fun f =>
    { f with confirmed := true, bootFails := 0
             floor := if hasBit (fld f.active 17 1) 0 then max f.floor (min 63 (imgSvn f.active)) else f.floor }

/-! ### Commands (R707–R710, R716–R722) -/

/-- Whether another host's staging stands in the way (R707). -/
def othersStaging (s : State) (h : Nat) : Bool :=
  (s.fwu.staging = 1 || s.fwu.staging = 2) && s.fwu.owner.isSome && s.fwu.owner ≠ some h

/-- Whether a staging command finds Staging busy: another host's staging, or a command that is pending (R650, R707). -/
def fwuBusy (s : State) (h : Nat) : Bool := s.fwu.job.isSome || othersStaging s h

/-- FWU 0x0E02 FWU_BEGIN (R708, R709, R718). -/
def fwuBegin (h : Nat) (t : Taken) (s : State) : State × Reply :=
  let hd := (t.payload.drop 8).take 256
  if fwuBusy s h then (s, answer .busy)
  else if 1 < fld t.payload 0 1 || !imgForm hd then (s, answer .badarg)
  else if !imgBinding s hd then (s, answer .denied)
  else if imgSvn hd < s.fwu.floor then (s, answer .stale)
  else if slotBytes s < imgSize hd then (s, answer .nospace)
  else if isDelta hd && s.cfg.overlay ≠ 4 && s.pwr.stage ≠ .recovery then (s, answer .locked)
  else
    let resume := hasBit (fld t.payload 0 1) 0 && s.fwu.staging ≠ 0 && hd = s.fwu.header
    let s := if resume then s else (emptyStaging 0 s).onFwu fun f => { f with header := hd }
    (s.onFwu fun f => { f with staging := 1, owner := some h, copying := none, stagedDigest := 0, job := some { host := h, taken := t } }, answer .pending)

/-- FWU 0x0E03 FWU_LOAD (R710, R719). -/
def fwuLoad (h : Nat) (t : Taken) (s : State) : State × Reply :=
  let off := fld t.payload 0 4
  let piece := t.payload.drop 8
  let size := imgSize s.fwu.header
  if fwuBusy s h then (s, answer .busy)
  else if s.fwu.staging ≠ 1 then (s, answer .stale)
  else if piece.isEmpty || 3072 < piece.length || off % 1024 ≠ 0 || size < off + piece.length
      || (piece.length % 1024 ≠ 0 && off + piece.length ≠ size) then (s, answer .badarg)
  else
    let put := fun (l : List (Nat × List Byte)) (k : Nat) =>
      let g := off / 1024 + k
      let b := (piece.drop (1024 * k)).take 1024
      if b.isEmpty || (tfind l g).isSome then l else tput l g b
    let s := s.onFwu fun f => { f with pieces := [0, 1, 2].foldl put f.pieces }
    (s, okWith (leBytes 4 s.fwu.pieces.length ++ leBytes 4 0))

/-- FWU 0x0E04 FWU_FINISH (R720). -/
def fwuFinish (h : Nat) (t : Taken) (s : State) : State × Reply :=
  if fwuBusy s h then (s, answer .busy)
  else if s.fwu.staging ≠ 1 || s.fwu.pieces.length < granules s then (s, answer .badarg)
  else
    (s.onFwu fun f => { f with staging := 2, job := some { host := h, taken := t, finish := true, restartKey := fld t.payload 0 8 } },
     answer .pending)

/-- FWU 0x0E05 FWU_ABORT: BUSY only for another host's staging; a command of the caller's own that is still pending finds Staging
empty (R707, R721). -/
def fwuAbort (h : Nat) (_ : Taken) (s : State) : State × Reply :=
  if othersStaging s h then (s, answer .busy) else (emptyStaging 0 s, answer .ok)

/-- FWU 0x0E01 FWU_STATUS (R717). -/
def fwuStatus (_ : Taken) (s : State) : State × Reply :=
  let f := s.fwu
  (s, okWith (leBytes 4 (release s) ++ leBytes 4 (fld f.header 12 4) ++ leBytes 1 (imgSvn f.active) ++ leBytes 1 (imgSvn f.header)
    ++ leBytes 1 (fld f.header 6 1) ++ leBytes 1 f.staging ++ leBytes 1 f.floor ++ leBytes 1 f.bootFails ++ leBytes 1 f.reason ++ leBytes 1 0
    ++ leBytes 4 f.pieces.length ++ leBytes 4 (granules s) ++ leBytes 32 (activeDigest s) ++ leBytes 32 f.stagedDigest ++ leBytes 8 0))

/-- FWU 0x0E06 FWU_FLOOR (R711, R722). -/
def fwuFloor (t : Taken) (s : State) : State × Reply :=
  let n := fld t.payload 0 1
  if imgSvn s.fwu.active < n || 63 < n || fld t.payload 4 4 ≠ 0x464C4F52 || !s.fwu.confirmed then (s, answer .badarg)
  else if n ≤ s.fwu.floor then (s, answer .stale)
  else (s.onFwu fun f => { f with floor := n }, okWith (leBytes 1 n ++ leBytes 1 (63 - n) ++ leBytes 6 0))

/-! ### Running them: mailbox hosts, and the head end's image transfer (R707) -/

/-- Answers a sender that is no mailbox host. -/
def answerOther (src : Nat) (t : Taken) (r : Reply) (s : State) : State :=
  s.onFwu fun f => { f with otherOut := f.otherOut ++
    [(src, { opcode := t.opcode, tag := t.tag, seq := t.seq, status := r.status, payload := r.payload })] }

/-- Runs a command that came without a mailbox, under a host number above 15. -/
def runOther (src : Nat) (t : Taken) (f : Nat → Taken → State → State × Reply) (s : State) : State :=
  let (s, r) := f src t s
  answerOther src t r s

/-- Whether the head end's image transfer may drive the commands: its connection is up (R551, R707). -/
def headEndUp (s : State) : Bool := uplinkRuns s && !s.cfg.act.parent && ((s.upl.conn.map (·.up)).getD false)

/-- Runs an FWU command: the oldest dispatched one of the host, or the one the head end's image transfer drives. -/
def runFwu (opcode : Nat) (host : Fin 4) (head : Option (List Byte)) (f : Nat → Taken → State → State × Reply) (s : State) : State :=
  match head with
  | none => runCmd opcode host (f host.val) s
  | some p => if headEndUp s then runOther 16 { opcode := opcode, payload := p } f s else s

/-- FWU_STATUS (R717). -/
def execFwuStatus (dt : Nat) (host : Fin 4) (s : State) : Outcome State Fault Refusal :=
  .next (runCmd 0x0E01 host fwuStatus (tick dt s))

/-- FWU_BEGIN (R718). -/
def execFwuBegin (dt : Nat) (host : Fin 4) (head : Option (List Byte)) (s : State) : Outcome State Fault Refusal :=
  .next (runFwu 0x0E02 host head fwuBegin (tick dt s))

/-- FWU_LOAD (R719). -/
def execFwuLoad (dt : Nat) (host : Fin 4) (head : Option (List Byte)) (s : State) : Outcome State Fault Refusal :=
  .next (runFwu 0x0E03 host head fwuLoad (tick dt s))

/-- FWU_FINISH (R720). -/
def execFwuFinish (dt : Nat) (host : Fin 4) (head : Option (List Byte)) (s : State) : Outcome State Fault Refusal :=
  .next (runFwu 0x0E04 host head fwuFinish (tick dt s))

/-- FWU_ABORT (R721). -/
def execFwuAbort (dt : Nat) (host : Fin 4) (head : Option (List Byte)) (s : State) : Outcome State Fault Refusal :=
  .next (runFwu 0x0E05 host head fwuAbort (tick dt s))

/-- FWU_FLOOR (R722). -/
def execFwuFloor (dt : Nat) (host : Fin 4) (s : State) : Outcome State Fault Refusal :=
  .next (runCmd 0x0E06 host fwuFloor (tick dt s))

/-- The final response of a pending FWU command. -/
def fwuEnd (j : FwuJob) (r : Reply) (s : State) : State :=
  let s := s.onFwu fun f => { f with job := none }
  if j.host < 4 then finishAt j.host j.taken r s else answerOther j.host j.taken r s

/-- FWU runs: in service, or in ROM recovery (R709, R712). -/
def fwuRuns (s : State) : Bool := supRuns s || s.pwr.stage == .recovery

/-- FWU_BEGIN_COMPLETE: the erase has finished (R708, R718). -/
def execFwuBeginComplete (dt : Nat) (s : State) : Outcome State Fault Refusal :=
  let s := tick dt s
  match s.fwu.job with
  | none => .next s
  | some j =>
    if fwuRuns s && !j.finish then
      .next (fwuEnd j (okWith (leBytes 4 s.fwu.pieces.length ++ leBytes 4 (granules s))) s)
    else .next s

/-- The verdict on the staged image (R720). -/
def finishVerdict (s : State) (sigOk : Bool) : Status :=
  let h := (stagedBytes s).take 256
  if !sigOk || !imgForm h || !imgBinding s h then .denied
  else if imgSvn h < s.fwu.floor || (isDelta h && fld h 56 32 ≠ activeDigest s) then .stale
  else .ok

/-- Places the restart that FWU_FINISH asks for, as a class 8 entry in the caller's quota: STALE under R89, NOSPACE under R86 (R720; log
entry 432). -/
def placeRestart (j : FwuJob) (s : State) : Except Status State :=
  let h := if j.host < 4 then j.host else 0
  if j.restartKey = 0 || s.pwr.stage == .recovery then .ok s
  else if !aheadEnough s j.restartKey then .error .stale
  else match place { cls := 8, sub := h, action := .restart, key := j.restartKey, owner := h } s with
    | some s => .ok s
    | none => .error .nospace

/-- FWU_FINISH_COMPLETE: `sigOk` is the verdict on the signature; a staging emptied meanwhile misses its granules. In recovery the ROM
copies at once and is to restart; `resOk` is the verdict on the signature of the image that a delta makes (R714, R720). -/
def execFwuFinishComplete (dt : Nat) (sigOk resOk : Bool) (s : State) : Outcome State Fault Refusal :=
  let s := tick dt s
  match s.fwu.job with
  | none => .next s
  | some j =>
    if fwuRuns s && j.finish && s.fwu.staging ≠ 2 then .next (fwuEnd j (answer .badarg) s)
    else if fwuRuns s && j.finish then
      let v := finishVerdict s sigOk
      if v = .ok then match placeRestart j s with
        | .error .stale => .next (fwuEnd j (answer .stale) (s.onFwu fun f => { f with staging := 5 }))
        | .error e => .next (fwuEnd j (answer e) (s.onFwu fun f => { f with staging := 1 }))
        | .ok s =>
        let s := s.onFwu fun f => { f with staging := 3, stagedDigest := Config.sha256 (stagedBytes s) }
        let s := fwuEnd j (answer .ok) s
        if s.pwr.stage == .recovery then
          let s := beginCopy true resOk s
          if s.fwu.staging = 4 then .next ((endCopy s).onFwu fun f => { f with bootFails := 0, restartRc := true }) else .next s
        else .next s
      else .next (fwuEnd j (answer v) (s.onFwu fun f => { f with staging := 5 }))
    else .next s

end Sys2Proof.Machine
end

