-- ==== Sys2Proof/Machine/Pair.lean ====
section
/-! DEFINITION. The pair over the Yoke: heartbeats, pair states, mirroring, resynchronisation, takeover, handover and the PAIR
commands ("Redundant pairs over the Yoke"). -/

namespace Sys2Proof.Machine

open Host (Outcome)

/-- Pair settings, which take effect at a start (R724). -/
def pairCfg (s : State) : PairCfg := s.cfg.startCfg.pair

/-- The unit takes part in a pair (R724, R727). -/
def pairOn (s : State) : Bool := (pairCfg s).enable && s.cfg.startCfg.role.isSome

/-- The unit runs, or runs Hem (R92, R727). -/
def pairAlive (s : State) : Bool := match s.pwr.stage with
  | .running | .hem => true
  | _ => false

/-- The listening after a start is still going on, or the unit has yielded to a side clash (R730, R749). -/
def pairBound (s : State) : Bool := s.pair.listenEnd.isSome || s.pair.clashed

/-- Active or Solo. -/
def leads (p : PairState) : Bool := p == .active || p == .solo

/-- Takes a pair state; entering Active or Solo sets TAKEOVER_KEY, entering InSync its key (R735, R746). -/
def toPair (p : PairState) (s : State) : State :=
  evalTriggers (s.onPair fun x =>
    { x with state := p
             takeoverKey := if leads p then s.key else x.takeoverKey
             insyncKey := if p = .inSync then s.key else x.insyncKey
             revertReq := x.revertReq && p == .inSync })

/-- Ends every transmission and releases every output at once (R283, R747–R749). -/
def silence (s : State) : State :=
  let s := cutRadio s
  let s := if s.plc.tx.isSome then muteDriver s else s
  releasePulses s

/-- The active unit stops mirroring (R740, PT9). -/
def stopMirror (s : State) : State :=
  s.onPair fun p => { p with mirroring := false, journalOpen := false, journal := [], resyncPct := 0 }

/-- A unit returns to Standby (PT7, R742). -/
def toStandby (retry : Bool) (s : State) : State :=
  (toPair .standby s).onPair fun p =>
    { p with rxJseq := none, snapEndSeen := none, jGap := [], resyncPct := 0
             retryKey := if retry then some (s.key + 3000 * mc) else p.retryKey }

/-! ### Mirrored items (R736, R737, R741) -/

/-- Every item of classes 1–6 (R741). -/
def mirrorItems (s : State) : List DeltaBody :=
  (s.sess.ctxs.map fun c => DeltaBody.ctx c.1 (some c.2)) ++ (s.fleet.ledger.map fun a => DeltaBody.ledger a.1 a.2)
    ++ (s.fleet.bcast.map fun b => DeltaBody.bcast b.1 b.2) ++ [.legal s.reg.cum]
    ++ ((List.range s.reg.schemes.length).map fun n => DeltaBody.demand n (s.reg.schemes.getD n {}))
    ++ ((s.sched.entries.filter fun e => mirroredClass e.cls).map fun e => DeltaBody.sched e.seq (some e)) ++ balItems s

/-- JSEQ of the last change of an item. -/
def itemJseq (s : State) (k : Nat × Nat) : Nat :=
  match s.pair.itemSeq.find? (fun q => q.1 == k) with
  | some q => q.2
  | none => 0

/-- The active unit opens the journal at the current JSEQ and streams the snapshot, then its end (R741). -/
def startResync (s : State) : State :=
  s.onPair fun p =>
    let p := (mirrorItems s).foldl (fun p b => p.send (.snapshot (max 1 (itemJseq s b.item)) b)) p
    { p.send (.snapshotEnd p.jseq) with journalOpen := true, journal := [], mirroring := true, lostSent := false, resyncPct := 100 }

/-- A mirrored context as this unit keeps it: its keys are wrapped again under its own KD4 (R672). -/
def adoptCtx (s : State) (m : Nat) (c : MeterCtx) : MeterCtx :=
  let w := fun (k : Nat) => if k = 0 then 0 else Config.rewrapKey (testRoot s) s.pocket.serial m k
  { c with wrapEk := w c.wrapEk, wrapAk := w c.wrapAk, wrapPrevEk := w c.wrapPrevEk, wrapTest := testRoot s, via := 0xFFFF }

/-- Applies an item: class 3 stays the partner image (R737). -/
def applyItem (b : DeltaBody) (s : State) : State :=
  match b with
  | .ctx m (some c) => touch m (s.onSess fun x => { x with ctxs := tput x.ctxs m (adoptCtx s m c) })
  | .ctx m none => touch m (s.onSess fun x => { x with ctxs := tdel x.ctxs m, hot := x.hot.filter (· != m) })
  | .bcast n v => writeCounter n v s
  | .legal r => s.onPair fun p => { p with image := r, imageKey := s.key }
  | .demand n d => s.onPair fun p => { p with demand := tput p.demand n d }
  | .sched n (some e) => s.onPair fun p => { p with sched := tput p.sched n e }
  | .sched n none => s.onPair fun p => { p with sched := tdel p.sched n }
  | .ledger a x => writeAccount a x s
  | .feeder n f l => s.onBal fun x =>
      { x with feeders := tput x.feeders n f, summaries := (x.summaries.filter fun q => summaryIx q != n) ++ l }
  | .balDay d => s.onBal fun x => { x with lastDay := d }

/-- Applies an item when its JSEQ is above the one held for it (R737). -/
def applyAt (j : Nat) (b : DeltaBody) (s : State) : State :=
  if itemJseq s b.item < j then
    (applyItem b s).onPair fun p => { p with itemSeq := (b.item, j) :: p.itemSeq.filter fun q => q.1 != b.item }
  else s

/-- Applies a delta and acknowledges it (R736, R737). -/
def applyDelta (j : Nat) (b : DeltaBody) (s : State) : State :=
  (applyAt j b s).onPair fun p => { p.send (.ack j) with jseq := max p.jseq j }

/-! ### Takeover (R743–R745) -/

/-- Arms the mirrored scheduler entries; an occurrence that the unit's own table already holds stands once, and entries due already
are late (R93, R743). -/
def armMirrored (s : State) : State :=
  s.pair.sched.foldl (fun s q =>
    let e := q.2
    if e.cls ≠ 8 && s.sched.entries.any (fun o => o.cls == e.cls && o.action == e.action) then s
    else placeOr (if e.key ≤ s.key then { e with late := some (e.key, 1), key := s.key } else e) s) s

/-- Raises the maxima to the partner's where those are greater (R743). -/
def mergeMaxima (s : State) : State :=
  s.onReg fun r => { r with schemes := r.schemes.mapIdx fun n m =>
    let l := ((tfind s.pair.demand n).map (·.maxima)).getD []
    { m with maxima := l.foldl (fun acc d => raiseMax d.pair d.rate d.value d.startKey acc) m.maxima } }

/-- The debt of each output from the partner's latest heartbeat message (R745). -/
def takeDebts (s : State) : State :=
  match s.pair.laneHb with
  | none => s
  | some h =>
    let hist := (s.pair.rsHist.find? fun q => q.1 == h.rsCycle).map (·.2)
    s.onReg fun r => { r with pulses := r.pulses.mapIdx fun n p =>
      if (pulseCfg s n).enable then
        let o := p.owed
        let or := (hist.map fun l => l.getD n o).getD o
        let d := (h.debt.getD n 0 + (o - or)) - (p.seenEdges - s.pair.hbEdges.getD n 0)
        { p with emitted := o - d }
      else p }

/-- Steps 2 to 6 of R743: what a unit does that becomes active. -/
def becomeActive (s : State) : State :=
  let s := takeDebts (fillNeighbours (mergeMaxima (armMirrored s)))
  let topo := match readSystem [] balanceRegion s with
    | some (.balance c) => c.topo
    | _ => s.bal.topo
  (s.onBal fun b => { b with topo := topo }).onPair fun p => { p with sched := [], demand := [] }

/-- Rate-0 import of the eight feeder totals: the transformer's import. -/
def transformerImport (l : List Nat) : Nat := (List.range 8).foldl (fun a f => a + l.getD (regIx0 (4 * f + 3) 0) 0) 0

/-- A takeover at the third miss (R743). -/
def takeover (s : State) : State :=
  let s := toPair .solo (stopMirror s)
  let s := s.onPair fun p => { p with takeovers := inc32 p.takeovers, rxJseq := none, snapEndSeen := none, jGap := [] }
  let d : Int := (transformerImport s.reg.cum : Int) - transformerImport s.pair.image
  let s := raise .takeover 0x60 (leBytes 8 (s.key - s.pair.imageKey) ++ leBytesI 8 d) (setAlarm 0x400 (setSticky 0x074 0x400 s))
  becomeActive s

/-! ### The lane's protection (R733–R735) -/

/-- PAIR as SY4 numbers it. -/
def pairCode : PairState → Nat
  | .solo => 0
  | .active => 1
  | .standby => 2
  | .resync => 3
  | .inSync => 4

/-- YH1 TYPE. -/
def laneType : LaneMsg → Nat
  | .heartbeat _ => 1
  | .delta .. => 2
  | .ack _ => 3
  | .snapshot .. => 4
  | .snapshotEnd _ => 5
  | .syncLost => 6

/-- YH5 JSEQ. -/
def laneJseq : LaneMsg → Nat
  | .delta j _ | .snapshot j _ => j
  | _ => 0

/-- CLASS, ITEM, OFFSET, LEN and the data of an item sent whole (R736). -/
def itemBytes (b : DeltaBody) : List Byte :=
  let d := Config.deltaData b
  leBytes 1 b.item.1 ++ leBytes 3 0 ++ leBytes 4 b.item.2 ++ leBytes 2 0 ++ leBytes 2 d.length ++ d

/-- The body of a lane message; an acknowledgement and a snapshot end hold their JSEQ (R735, R736, R741; log entry 460). -/
def laneBody : LaneMsg → List Byte
  | .heartbeat h =>
    leBytes 8 (mkKey h.cycle h.phase) ++ leBytes 1 (pairCode h.state)
      ++ leBytes 1 (bit h.hem + 2 * bit h.handover + 4 * bit h.revertReq + 8 * bit h.syncLost) ++ leBytes 6 h.rsCycle
      ++ ((List.range 8).flatMap fun n => leBytes 2 (h.debt.getD n 0)) ++ leBytes 8 h.takeoverKey ++ leBytes 8 h.jseqHi
      ++ leBytes 4 h.keyCounter ++ leBytes 4 0
  | .delta _ b | .snapshot _ b => itemBytes b
  | .ack j | .snapshotEnd j => leBytes 8 j
  | .syncLost => []

/-- The header of a lane message (R733). -/
def laneHead (msg : Nat) (m : LaneMsg) : List Byte :=
  leBytes 1 (laneType m) ++ [0] ++ leBytes 2 (laneBody m).length ++ leBytes 4 msg ++ leBytes 8 (laneJseq m)

/-- The direction key of the unit of a SIDE (R734). -/
def laneKey (s : State) (side : Nat) : List Byte :=
  let secret := (((keySlot s 5).map (·.material)).getD []).take 32
  (Config.hkdf384 [] secret ([0x44, 0x51, 0x39, 0x31, 0x30, 0x30, 0x2F, 0x79, 0x6F, 0x6B, 0x65] ++ leBytes 1 side)).take 32

/-- The nonce of a lane message (R734). -/
def laneNonce (starts msg side : Nat) : List Byte := leBytes 4 starts ++ leBytes 4 msg ++ leBytes 1 side ++ [0, 0, 0]

/-- The body of a lane message as it goes: encrypted under the direction key of its sender (R733, R734). -/
def laneText (s : State) (side starts msg : Nat) (m : LaneMsg) : List Byte :=
  gcmXor (laneKey s side) (laneNonce starts msg side) (laneBody m)

/-- The tag of a lane message, its header the additional data (R733, R734). -/
def laneTag (s : State) (side starts msg : Nat) (m : LaneMsg) : Nat :=
  gcmTagOf 16 (laneKey s side) (laneNonce starts msg side) (laneHead msg m) (laneText s side starts msg m)

/-- A message of this unit as the lane carries it (R733). -/
def laneWire (s : State) (msg : Nat) (m : LaneMsg) : List Byte :=
  let side := (pairCfg s).side
  laneHead msg m ++ laneText s side s.evt.starts msg m ++ leBytes 16 (laneTag s side s.evt.starts msg m)

/-- Whether a message of the partner verifies: slot 5 is usable, and the tag is that of the other SIDE's key (R733, R734, R739). -/
def laneVerifies (s : State) (m : LaneMsg) (x : LaneSeal) : Bool :=
  slotUsable s 5 && x.tag == laneTag s (1 - (pairCfg s).side) x.starts x.msg m

/-- A lane message comes in: one that does not verify is discarded and counted (R734, R752). -/
def onLane (m : LaneMsg) (x : LaneSeal) (f : State → State) (s : State) : State :=
  if pairOn s && s.pwr.stage == .running && s.pair.laneUp then
    if laneVerifies s m x then f s else s.onPair fun p => { p with laneDiscards := inc32 p.laneDiscards }
  else s

/-- HF2–HF7 of a heartbeat frame, 56 bits, the first the most significant (R727). -/
def frameBits (h : HbMsg) : Nat :=
  ((((pairCode h.state * 2 + bit h.hem) * 2 + bit h.handover) * 2 + h.side % 2) * 4) * 2 ^ 48 + h.cycle % 2 ^ 48

/-- One bit into the CRC-16 of polynomial 0x1021. -/
def crcStep (c : BitVec 16) (b : Bool) : BitVec 16 := if c.msb != b then (c <<< 1) ^^^ 0x1021 else c <<< 1

/-- The CRC-16 of a heartbeat frame (HF8). -/
def frameCrc (h : HbMsg) : BitVec 16 := (List.range 56).foldl (fun c k => crcStep c ((frameBits h).testBit (55 - k))) 0xFFFF

/-! ### Heartbeats (R727–R729) -/

/-- The heartbeat as it is sent, by pin or by lane (R727, R735). -/
def heartbeatOf (s : State) (lane handover : Bool) : HbMsg :=
  let p := s.pair
  let b : HbMsg :=
    { lane := lane, state := p.state, hem := s.pwr.hemFlag || s.sched.hemKey.isSome, handover := handover, side := (pairCfg s).side
      cycle := s.mains.cycle }
  if lane then
    { b with phase := s.phase, revertReq := p.revertReq, syncLost := p.lostSent, rsCycle := (p.rsHist.headD (0, [])).1
             debt := s.reg.pulses.map debt, takeoverKey := p.takeoverKey, jseqHi := p.jseq, keyCounter := kumCounter s }
  else { b with crc := frameCrc b }

/-- Sends a heartbeat by pin, and by lane where it is up and slot 5 gives its key (R727, R734, R739). -/
def sendHeartbeat (handover : Bool) (s : State) : State :=
  s.onPair fun p =>
    let p := { p with pinOut := p.pinOut ++ [heartbeatOf s false handover] }
    if p.laneUp && slotUsable s 5 then p.send (.heartbeat (heartbeatOf s true handover)) else p

/-- Step 4 of R741: every delta up to the latest JSEQ known is applied, and the store holds the snapshot. -/
def resyncDone (s : State) : Bool :=
  s.pair.state == .resync && s.pair.snapEndSeen.isSome && s.pair.jGap.isEmpty && s.sess.dirty.isEmpty
    && (match s.pair.laneHb with | some h => h.jseqHi ≤ s.pair.jseq | none => true)

/-- The active unit hands over: it ends every transmission, releases its outputs, is InSync and says so in the heartbeat with HANDOVER
(R747, PT11); with a partner that is InSync no more, nothing is handed over (log entry 461). -/
def handOver (s : State) : State :=
  let s := s.onPair fun p => { p with handoverK := none }
  if s.pair.state != .active || s.pair.partner != some .inSync then s
  else
    let s := toPair .inSync (stopMirror (raise .handover 0x60 [] (silence s)))
    (sendHeartbeat true s).onPair fun p => { p with rxJseq := none, snapEndSeen := some p.jseq }

/-- Whether the boundary of a planned handover has come. -/
def handoverDue (s : State) : Bool := s.pair.state == .active && s.pair.handoverK.any fun k => k ≤ s.mains.cycle

/-- HEARTBEAT_SEND: the class 1 entry; a resyncing unit that has caught up declares InSync in it, and one at the boundary of a planned
handover hands over with it (R727, R741, R747). -/
def execHeartbeatSend (dt : Nat) (s : State) : Outcome State Fault Refusal :=
  let s := tick dt s
  if pairOn s && pairAlive s then
    match dispatch (fun a => a == .heartbeat) s with
    | none => .next s
    | some (e, s) =>
      let next := mkKey (s.mains.cycle + 1) (e.key % 65536)
      let s := placeOr { cls := 1, action := .heartbeat, key := next } s
      let s := if resyncDone s then toPair .inSync s else s
      .next (if handoverDue s && s.pair.partner == some .inSync then handOver s else sendHeartbeat false s)
  else .next s

/-- The number that 32 bytes spell big-endian (R749). -/
def bigEndian32 (n : Nat) : Nat := leNat (leBytes 32 n).reverse

/-- A side clash (R749). -/
def sideClash (s : State) : State :=
  let s := setAlarm 0x400 (setSticky 0x074 0x4000 s)
  let s := if s.pair.clashSeen then s else raise .sideClash 0x60 [] (s.onPair fun p => { p with clashSeen := true })
  if s.pair.clashed || bigEndian32 (idHashNow s) ≤ bigEndian32 (pairCfg s).partnerHash then s
  else (toStandby false (stopMirror (silence s))).onPair fun p => { p with clashed := true, clashSide := (pairCfg s).side, listenEnd := none }

/-- Yields to the other of two active units (R748, PT10). -/
def yieldDual (s : State) : State :=
  let s := raise .dualActive 0x60 [] (setAlarm 0x400 (setSticky 0x074 0x800 (silence s)))
  (toPair .resync (stopMirror s)).onPair fun p => { p with rxJseq := none, snapEndSeen := none, jGap := [], itemSeq := [], resyncPct := 0 }

/-- Whether slot 5 is known to be usable on the partner: its heartbeats by lane verify (R734, R739; log entry 460). -/
def partnerSecret (p : PairSt) : Bool :=
  match p.laneHb, p.lastHb with
  | some l, some h => h.cycle ≤ l.cycle + 2
  | _, _ => false

/-- PT5: Standby to Resync, once the partner leads, the lane is up and slot 5 is usable on both units; NO_SECRET reads 1 while it is
empty here, or while the partner heard over a lane that is up shows none (R739). -/
def tryResync (s : State) : State :=
  let p := s.pair
  let keys := slotUsable s 5 && partnerSecret p
  let s := s.onPair fun p => { p with noSecret := !slotUsable s 5 || (p.laneUp && p.lastHb.isSome && !partnerSecret p) }
  match p.state, p.partner with
  | .standby, some q =>
    if leads q && p.laneUp && keys && !pairBound s && p.retryKey.isNone then
      (toPair .resync s).onPair fun p => { p with rxJseq := none, snapEndSeen := none, jGap := [], itemSeq := [], resyncPct := 0 }
    else s
  | _, _ => s

/-- A leading unit hears its partner's state: mirroring follows it (R739–R742, PT4). -/
def followPartner (h : HbMsg) (s : State) : State :=
  let s := if s.pair.state == .solo && !leads h.state then toPair .active s else s
  if s.pair.state != .active then s
  else
    match h.state with
    | .resync => if !s.pair.journalOpen && !s.pair.lostSent && s.pair.laneUp && slotUsable s 5 then startResync s else s
    | .inSync => s.onPair fun p => { p with journalOpen := false, journal := [] }
    | .standby => (stopMirror s).onPair fun p => { p with lostSent := false }
    | _ => s

/-- Places a planned handover at the first cycle boundary at least 2 mc ahead (R746, R747). -/
def placeHandover (s : State) : State :=
  s.onPair fun p => { p with handoverK := some (if s.phase = 0 then s.mains.cycle + 2 else s.mains.cycle + 3) }

/-- PT12: the InSync unit takes a heartbeat with HANDOVER (R747). -/
def takeHandover (h : HbMsg) (s : State) : State :=
  (becomeActive (toPair .active s)).onPair fun p =>
    { p with jseq := max p.jseq h.jseqHi, ackedJseq := max p.jseq h.jseqHi, releaseUntil := some (mkKey (h.cycle + 1) 0), rxJseq := none, mirroring := true }

/-- What a good heartbeat, or a lane message of its cycle, does to the pair state (R730, R739–R748). -/
def pairReact (h : HbMsg) (s : State) : State :=
  if pairBound s then s
  else if leads s.pair.state then
    if leads h.state then
      let other := if h.lane then h.takeoverKey else s.pair.takeoverKey
      if s.pair.laneUp && !h.lane then s
      else if other < s.pair.takeoverKey || (other = s.pair.takeoverKey && (pairCfg s).side = 1) then yieldDual s
      else s
    else
      let s := followPartner h s
      if h.revertReq && h.side = 0 && s.pair.state == .active && h.state == .inSync && s.pair.handoverK.isNone then placeHandover s else s
  else if h.handover && s.pair.state == .inSync then takeHandover h s
  else if h.lane && h.syncLost && (s.pair.state == .resync || s.pair.state == .inSync) then toStandby (s.pair.state == .resync) s
  else tryResync s

/-- A good heartbeat is noted: misses, deadline, partner and the partner's cycle number (R63, R64, R728, R729, R750). -/
def noteGood (h : HbMsg) (s : State) : State :=
  let s := s.onPair fun p =>
    { p with misses := 0, deadline := s.rc + cycleLen s * 12 / 10, lastHb := some h, lastHbKey := s.key, partner := some h.state
             hbEdges := s.reg.pulses.map (·.seenEdges) }
  if s.mains.cycle < h.cycle then s.onMains fun m => { m with moveTo := some (h.cycle, m.cycle) } else s

/-- A heartbeat of the other SIDE, its CRC or its tag correct (R728). -/
def takeHeartbeat (hb : HbMsg) (s : State) : State :=
  let s := if hb.lane then s.onPair fun p => { p with laneHb := if hb.hem then p.laneHb else some hb, partnerCounter := hb.keyCounter } else s
  if hb.hem then s
  else
    let last := (s.pair.lastHb.map (·.cycle)).getD 0
    let fresh := s.pair.lastHb.isNone || last < hb.cycle
    if fresh then pairReact hb (noteGood hb s)
    else if hb.lane && last = hb.cycle then pairReact hb s
    else s

/-- HEARTBEAT_RECEIVE: by lane it has to verify, by pin its CRC to be correct; a SIDE equal to the unit's own is a clash (R727, R728, R733,
R734, R747–R749). -/
def execHeartbeatReceive (dt : Nat) (hb : HbMsg) (mark : LaneSeal) (s : State) : Outcome State Fault Refusal :=
  let s := tick dt s
  if hb.lane then .next (onLane (.heartbeat hb) mark (takeHeartbeat { hb with side := 1 - (pairCfg s).side }) s)
  else if !(pairOn s && s.pwr.stage == .running) || hb.crc != frameCrc hb then .next s
  else if hb.side = (pairCfg s).side then .next (sideClash s)
  else .next (takeHeartbeat hb s)

/-- HEARTBEAT_MISS: a deadline passes without a good heartbeat; the third miss leads to takeover or Solo (R729, R743, PT9). -/
def execHeartbeatMiss (dt : Nat) (s : State) : Outcome State Fault Refusal :=
  let s := tick dt s
  if pairOn s && s.pwr.stage == .running && s.pair.lastHb.isSome && s.pair.deadline ≤ s.rc then
    let third := s.pair.misses = 2
    let s := s.onPair fun p => { p with misses := min 3 (p.misses + 1), deadline := p.deadline + cycleLen s }
    if third && !pairBound s then
      match s.pair.state with
      | .inSync => .next (if s.pwr.hemFlag then s else takeover s)
      | .active => .next (raise .takeover 0x60 [] (toPair .solo (stopMirror s)))
      | _ => .next s
    else .next s
  else .next s

/-- LISTEN_END: PT2, PT3, or Standby as it is (R730). -/
def execListenEnd (dt : Nat) (s : State) : Outcome State Fault Refusal :=
  let s := tick dt s
  match s.pair.listenEnd with
  | none => .next s
  | some c =>
    if pairOn s && s.pwr.stage == .running && c ≤ s.mains.cycle then
      let s := s.onPair fun p => { p with listenEnd := none }
      if s.pair.clashed then .next s
      else match s.pair.partner with
        | none => .next (toPair .solo s)
        | some q =>
          if (pairCfg s).side = 0 && q == .standby then .next (toPair .active s)
          else .next (tryResync (s.onPair fun p => { p with returned := leads q }))
    else .next s

/-- YOKE_LANE_CHANGE (PT5, PT7). -/
def execYokeLaneChange (dt : Nat) (up : Bool) (s : State) : Outcome State Fault Refusal :=
  let s := tick dt s
  if pairOn s && s.pwr.stage == .running then
    let s := s.onPair fun p => { p with laneUp := up }
    if up then .next (tryResync s)
    else match s.pair.state with
      | .resync | .inSync => .next (toStandby false s)
      | .active => .next (stopMirror s)
      | _ => .next s
  else .next s

/-! ### Deltas and snapshots (R736, R737, R740–R742) -/

/-- Whether a lane message of the mirror is taken. -/
def takesMirror (s : State) : Bool := s.pair.state == .resync || s.pair.state == .inSync

/-- A delta of the partner's. -/
def takeDelta (jseq : Nat) (body : DeltaBody) (s : State) : State :=
  let gap : Bool := match s.pair.rxJseq with
    | some k => k + 1 < jseq
    | none => false
  if gap then toStandby false s
  else
    let s := s.onPair fun p => { p with rxJseq := some (max jseq (p.rxJseq.getD 0)) }
    if s.pair.state == .resync && s.pair.snapEndSeen.isNone then s.onPair fun p => { p with jGap := p.jGap ++ [(jseq, body)] }
    else applyDelta jseq body s

/-- DELTA: applied and acknowledged; while the snapshot still runs it waits; a gap in JSEQ ends the mirror (R736, R737, R741, PT7). -/
def execDelta (dt jseq : Nat) (body : DeltaBody) (mark : LaneSeal) (s : State) : Outcome State Fault Refusal :=
  .next (onLane (.delta jseq body) mark (fun s => if takesMirror s then takeDelta jseq body s else s) (tick dt s))

/-- SNAPSHOT: an item with the JSEQ of its last change (R737, R741). -/
def execSnapshot (dt jseq : Nat) (body : DeltaBody) (mark : LaneSeal) (s : State) : Outcome State Fault Refusal :=
  .next (onLane (.snapshot jseq body) mark (fun s => if s.pair.state == .resync then applyAt jseq body s else s) (tick dt s))

/-- The snapshot has ended: the journal deltas that waited are applied (R741). -/
def endSnapshot (jseq : Nat) (s : State) : State :=
  let wait := s.pair.jGap
  let s := s.onPair fun p => { p with snapEndSeen := some jseq, jGap := [], resyncPct := 100, jseq := max p.jseq jseq }
  wait.foldl (fun s q => applyDelta q.1 q.2 s) s

/-- SNAPSHOT_END (R741). -/
def execSnapshotEnd (dt jseq : Nat) (mark : LaneSeal) (s : State) : Outcome State Fault Refusal :=
  .next (onLane (.snapshotEnd jseq) mark (fun s => if s.pair.state == .resync then endSnapshot jseq s else s) (tick dt s))

/-- SYNC_LOST: the partner returns to Standby; while it was resynchronising it begins again 3,000 mc later (R740, R742, PT7). -/
def execSyncLost (dt : Nat) (mark : LaneSeal) (s : State) : Outcome State Fault Refusal :=
  .next (onLane .syncLost mark (fun s => if takesMirror s then toStandby (s.pair.state == .resync) s else s) (tick dt s))

/-- An acknowledgement covers every lower JSEQ; records held for it are released (R400, R736). -/
def takeAckJseq (jseq : Nat) (s : State) : State :=
  if s.pair.state == .active && jseq ≤ s.pair.jseq && s.pair.ackedJseq < jseq then
    releaseAcked (s.onPair fun p => { p with deltasAcked := w32 (p.deltasAcked + (jseq - p.ackedJseq)), ackedJseq := jseq })
  else s

/-- YOKE_ACKNOWLEDGEMENT (R736). -/
def execYokeAcknowledgement (dt jseq : Nat) (mark : LaneSeal) (s : State) : Outcome State Fault Refusal :=
  .next (onLane (.ack jseq) mark (takeAckJseq jseq) (tick dt s))

/-- MIRROR_PERIODIC: class 3 every 2 mc, class 4 every 50 mc (R736). -/
def execMirrorPeriodic (dt : Nat) (s : State) : Outcome State Fault Refusal :=
  let s := tick dt s
  if pairOn s && s.pwr.stage == .running && s.pair.state == .active && s.pair.mirroring then
    let s := if s.pair.mirLegalKey + 2 * mc ≤ s.key then mirror (.legal s.reg.cum) (s.onPair fun p => { p with mirLegalKey := s.key }) else s
    if s.pair.mirDemandKey + 50 * mc ≤ s.key then
      let s := s.onPair fun p => { p with mirDemandKey := s.key }
      .next ((List.range s.reg.schemes.length).foldl (fun s n => mirror (.demand n (s.reg.schemes.getD n {})) s) s)
    else .next s
  else .next s

/-- RESYNC_RETRY: 3,000 mc after a journal overflow the unit begins again (R742). -/
def execResyncRetry (dt : Nat) (s : State) : Outcome State Fault Refusal :=
  let s := tick dt s
  match s.pair.retryKey with
  | none => .next s
  | some k =>
    if pairOn s && s.pwr.stage == .running && k ≤ s.key then .next (tryResync (s.onPair fun p => { p with retryKey := none })) else .next s

/-! ### Return and handover (R746, R747) -/

/-- REVERT_HOLDOFF: a returned SIDE 0 unit asks for the lead after HOLDOFF_MC in InSync (R746). -/
def execRevertHoldoff (dt : Nat) (s : State) : Outcome State Fault Refusal :=
  let s := tick dt s
  let c := pairCfg s
  if pairOn s && s.pwr.stage == .running && c.revert && c.side = 0 && s.pair.returned && s.pair.state == .inSync
      && s.pair.insyncKey + c.holdoffMc * mc ≤ s.key then
    .next (s.onPair fun p => { p with revertReq := true })
  else .next s

/-- The heartbeat with HANDOVER stands for the one of its cycle: the class 1 entry waits for the next (R727, R747). -/
def nextHeartbeat (s : State) : State :=
  s.onSched fun c => { c with entries := c.entries.map fun e =>
    if e.cls == 1 && e.action == .heartbeat && e.key / 65536 ≤ s.mains.cycle then { e with key := mkKey (s.mains.cycle + 1) (e.key % 65536) } else e }

/-- HANDOVER: at cycle boundary K the active unit becomes InSync, its heartbeat carrying HANDOVER; a forced Solo placed by PAIR_SWITCH
takes effect at its boundary too (R747, R753, PT11, PT13). -/
def execHandover (dt : Nat) (s : State) : Outcome State Fault Refusal :=
  let s := tick dt s
  if !(pairOn s && s.pwr.stage == .running) then .next s
  else
    match s.pair.forceSolo with
    | some c =>
      if c ≤ s.mains.cycle then
        let s := s.onPair fun p => { p with forceSolo := none }
        .next (match s.pair.state with
          | .standby | .resync => becomeActive (toPair .solo (s.onPair fun p => { p with retryKey := none }))
          | _ => s)
      else .next s
    | none =>
      match s.pair.handoverK with
      | none => .next s
      | some k => if k ≤ s.mains.cycle then .next (nextHeartbeat (handOver s)) else .next s

/-- PULSE_LAND_EDGE: a falling edge on an enabled output's land while the unit does not lead counts as the partner's pulse (R732). -/
def execPulseLandEdge (dt out : Nat) (s : State) : Outcome State Fault Refusal :=
  let s := tick dt s
  if out < 8 && (pulseCfg s out).enable && pairOn s && !leads s.pair.state && s.pwr.stage == .running then
    .next (onPulse out (fun p => { p with seenEdges := p.seenEdges + 1 }) s)
  else .next s

/-! ### Commands -/

/-- PARTNER as PY3 reads it. -/
def partnerCode (s : State) : Nat := (s.pair.partner.map pairCode).getD 7

/-- LOCKS_LEFT (R754). -/
def locksLeft (s : State) : Nat := 4 - s.pair.locks.length

/-- PAIR 0x0F01 PAIR_STATUS (R752). -/
def pairStatus (_ : Taken) (s : State) : State × Reply :=
  let p := s.pair
  let used := (p.journal.foldl (fun n q => n + deltaBytes q.2) 0 + 1048575) / 1048576
  (s, okWith (leBytes 1 (pairCode p.state) ++ leBytes 1 (partnerCode s) ++ leBytes 1 (pairCfg s).side ++ leBytes 1 p.misses
    ++ leBytes 4 p.takeovers ++ leBytes 8 p.takeoverKey ++ leBytes 4 used ++ leBytes 1 p.resyncPct ++ leBytes 1 (locksLeft s) ++ leBytes 2 0
    ++ leBytes 8 p.lastHbKey ++ leBytes 4 p.deltasAcked ++ leBytes 4 p.holdReleases ++ leBytes 4 p.laneDiscards ++ leBytes 4 0))

/-- PAIR_STATUS runs the oldest one dispatched for the host (R752). -/
def execPairStatus (dt : Nat) (host : Fin 4) (s : State) : Outcome State Fault Refusal :=
  .next (runCmd 0x0F01 host pairStatus (tick dt s))

/-- PAIR 0x0F02 PAIR_SWITCH (R753). -/
def pairSwitch (t : Taken) (s : State) : State × Reply :=
  let mode := fld t.payload 0 1
  if 1 < mode then (s, answer .badarg)
  else if mode = 0 then
    if s.pair.state != .active then (s, answer .denied)
    else if s.pair.partner != some .inSync then (s, answer .locked)
    else if s.pair.handoverK.isSome then (s, answer .busy)
    else
      let s := placeHandover s
      (s, okWith (leBytes 8 (mkKey (s.pair.handoverK.getD 0) 0)))
  else if (s.pair.state == .standby || s.pair.state == .resync) && s.pair.misses = 3 && !s.pair.clashed then
    let c := s.mains.cycle + 1
    (s.onPair fun p => { p with forceSolo := some c }, okWith (leBytes 8 (mkKey c 0)))
  else (s, answer .denied)

/-- PAIR_SWITCH runs the oldest one dispatched for the host (R753). -/
def execPairSwitch (dt : Nat) (host : Fin 4) (s : State) : Outcome State Fault Refusal :=
  .next (runCmd 0x0F02 host pairSwitch (tick dt s))

/-- PAIR 0x0F03 PAIR_LOCK (R726, R754). -/
def pairLock (t : Taken) (s : State) : State × Reply :=
  let h := fld t.payload 0 32
  let side := fld t.payload 32 1
  if fld t.payload 33 4 ≠ 0x50414952 || h = 0 || h = idHashNow s || 1 < side then (s, answer .badarg)
  else if 4 ≤ s.pair.locks.length then (s, answer .nospace)
  else
    let s := s.onPair fun p => { p with locks := p.locks ++ [(h, side)] }
    (s, okWith (leBytes 1 (locksLeft s) ++ leBytes 7 0))

/-- PAIR_LOCK runs the oldest one dispatched for the host (R754). -/
def execPairLock (dt : Nat) (host : Fin 4) (s : State) : Outcome State Fault Refusal :=
  .next (runCmd 0x0F03 host pairLock (tick dt s))

end Sys2Proof.Machine
end

