-- ==== Sys2Proof/Machine/Flags.lean ====
section
/-! DEFINITION. The status words of the Collar and what a host reads there ("Hosts, mailboxes and the Collar"). The words of the
blocks whose chapters compute them stand in those chapters' files. -/

namespace Sys2Proof.Machine

open Host (Outcome)

/-! ### Status words of the blocks that have none yet -/

/-- UPL.STAT (R571). -/
def uplStat (s : State) (w1c : Word) : Word :=
  let u := s.upl
  let kids := (u.children.filter fun c => c.2.conn.isSome).length
  BitVec.ofNat 32 (u.link.getD 0 0 + 4 * u.link.getD 1 0 + 16 * u.state
    + 128 * bit (s.cfg.act.parent && u.state == 2 && u.credit == 0) + 256 * bit s.time.qualParent
    + 65536 * ((if u.state == 0 then 0 else u.depth) % 256) + 0x1000000 * min 255 kids) ||| (w1c &&& 0x200)

/-- The campaigns that run: started and not ended (FS3). -/
def campsRunning (s : State) : List (Nat × Camp) := s.fleet.camps.filter fun p => p.2.state == 3

/-- FLEET.STAT (R611). -/
def fleetStat (s : State) (w1c : Word) : Word :=
  let run := campsRunning s
  BitVec.ofNat 32 (min 16 s.fleet.pushes.length + 256 * min 8 run.length + 4096 * bit (run.any fun p => campInWindow s p.2)
    + 65536 * min 65535 s.fleet.tokens.length) ||| (w1c &&& 0xE000)

/-- KEY.STAT (R686). -/
def keyStat (s : State) (w1c : Word) : Word :=
  let k := s.pocket
  BitVec.ofNat 32 (k.root % 4 + 4 * bit k.unlockNext + 8 * bit (!k.staged.isEmpty)
    + 16 * bit k.applying.isSome + 256 * min 256 (usableSlots s)) ||| (w1c &&& 0x60)

/-- FWU.STAT (R715). -/
def fwuStat (s : State) (w1c : Word) : Word :=
  let f := s.fwu
  let pct := if f.staging == 0 then 0 else min 100 (ratioOf (f.pieces.length * 100) (granules s))
  BitVec.ofNat 32 (f.staging + 8 * bit (s.pwr.stage == .recovery) + 16 * (if s.pwr.stage == .recovery then f.reason else 0)
    + 64 * min 3 f.bootFails + 256 * min 63 f.floor + 65536 * pct) ||| (w1c &&& 0xC000)

/-- PAIR.STAT (R751). -/
def pairStat (s : State) (w1c : Word) : Word :=
  let p := s.pair
  BitVec.ofNat 32 (pairCode p.state + 8 * ((pairCfg s).side % 2) + 16 * partnerCode s + 128 * bit p.laneUp + 256 * min 3 p.misses
    + 8192 * bit p.noSecret + 65536 * min 100 p.resyncPct + 0x1000000 * (p.takeovers % 256)) ||| (w1c &&& 0x5C00)

/-- The ring slots that ordinary records may fill: 4,095 in native mode, 4,096 in compatibility mode (R769, R770). -/
def ringSlots (s : State) : Nat := if s.evt.mode == 0 then 4095 else 4096

/-- Whether a snapshot list may name a Collar word: no TIME register and no banked word but SYS.ALARM (R761). -/
def snapAllowed (w : Nat) : Bool :=
  let off := 4 * w
  !(0x010 ≤ off && off ≤ 0x028) && !(0x0C0 ≤ off && off ≤ 0x0D4) && off ≠ 0x130 && off ≠ 0x134

/-- Whether the event store is full: every slot allowed holds a record and none can be copied (R768). -/
def storeFull (s : State) : Bool := ringSlots s ≤ s.evt.ring.length && !copyingRuns s

/-- Entries that the first 4,032 places of the metrological log still take (R775, EV7). -/
def mlogFree (s : State) : Nat := 4032 - s.met.mlog.length

/-- EVT.STAT (R777). -/
def evtStat (s : State) (w1c : Word) : Word :=
  let used := s.evt.ring.length + bit s.evt.fullRec.isSome
  BitVec.ofNat 32 (s.evt.mode % 2 + 2 * bit (storeFull s) + 32 * bit (copyingRuns s && !s.evt.ring.isEmpty)
    + 64 * bit (mlogFree s ≤ 256) + 256 * ratioOf (used * 100) 4096 + 65536 * ratioOf (s.evt.ext.length * 1000) 1048576) ||| (w1c &&& 0x1C)

/-- PWR.STAT (R816). -/
def pwrStat (s : State) (w1c : Word) : Word :=
  let p := s.pwr
  BitVec.ofNat 32 (p.target % 8 + 8 * bit p.entering + 16 * bit (p.stage == .parked)
    + 128 * bit (p.transits.any fun t => t.rearm.isSome) + 256 * p.gated.toNat + 4096 * bit p.hot + 16384 * (p.lastRefuser % 4)
    + 65536 * min 255 (p.vinMv / 500) + 0x1000000 * (clamp 0 255 ((p.tjDc / 10) + 64).toNat)) ||| (w1c &&& 0x2060)

/-- CFG.STAT (R835). -/
def cfgStat (s : State) (w1c : Word) : Word :=
  let c := s.cfg
  BitVec.ofNat 32 (c.selected % 8 + 8 * (c.overlay % 8) + 64 * bit c.autoOn + 128 * bit c.pendingStart + 256 * bit (!c.staged.isEmpty)
    + 2048 * bit c.running.isSome) ||| (w1c &&& 0x600)

/-- The number of a role as SY1 gives it. -/
def roleCode : Option Role → Nat
  | none => 0
  | some .field => 1
  | some .aggregation => 2

/-- The number of a power state as SY5 gives it. -/
def powerCode : PowerState → Nat
  | .run => 0 | .trim => 1 | .doze => 2 | .hold => 3

/-- The role taken at the next start under R2; 0 when none is pending (SY2). -/
def rolePending (s : State) : Nat :=
  match s.cfg.inForce with
  | some i => if s.cfg.pendingStart && i.base.role != s.cfg.startCfg.role then roleCode i.base.role else 0
  | none => 0

/-- SY11 OVERLAY_ON: the overlay in force carries entries (R828). -/
def overlayOn (s : State) : Bool :=
  match s.cfg.running with
  | some i => i.overlays.any fun o => o.1 == s.cfg.overlay
  | none => false

/-- SYS.ID (R629). -/
def sysId (s : State) : Word := if s.pocket.lms then 0x00119100 else 0x00019100

/-- SYS.STAT (R629). -/
def sysStat (s : State) : Word :=
  BitVec.ofNat 32 (roleCode s.cfg.startCfg.role + 4 * rolePending s + 16 * lifecycleCode s.pocket.lifecycle + 128 * pairCode s.pair.state
    + 1024 * powerCode s.pwr.state + 4096 * bit s.hosts.ready + 8192 * bit s.pwr.hemFlag + 16384 * bit s.pwr.warn
    + 32768 * bit (testRoot s) + 65536 * (s.cfg.overlay % 8) + 0x80000 * bit (overlayOn s))

/-- TIME.PEND: the held backward correction in ms, signed and saturating (R146). -/
def timePend (s : State) : Word :=
  match s.time.held with
  | some v => BitVec.ofInt 32 (max (-2147483648) (min 2147483647 (v.tdiv 1000000)))
  | none => 0

/-! ### Which registers read live (R631) -/

/-- Whether the supervisor's firmware has started: SU7 or later, in Hem too (R631, R798). -/
def logicUp (s : State) : Bool :=
  match s.pwr.stage with
  | .running | .hem => true
  | .start n => 7 ≤ n
  | _ => false

/-- The reset value of a status word (R629). -/
def statReset (off : Nat) : Word :=
  if off = 0x040 then 0x1 else if off = 0x048 then 0x00FF0000 else if off = 0x058 then 0x00640800 else if off = 0x05C then 0x1
  else if off = 0x074 then 0x70 else 0

/-- Whether the source block of a status word is powered and out of reset (R631, R802; log entry 28). -/
def sourceUp (s : State) (off : Nat) : Bool :=
  let st := s.pwr.state
  let awake := st == .run || st == .trim
  if off = 0x048 || off = 0x07C then true
  else if off = 0x070 then logicUp s || s.pwr.stage == .recovery
  else if off = 0x04C || off = 0x050 || off = 0x060 then logicUp s && awake
  else if off = 0x054 || off = 0x05C || off = 0x064 || off = 0x068 then logicUp s && st != .hold
  else logicUp s

/-- A status word from a host's copies of its W1C bits. -/
def statWord (s : State) (off : Nat) (w1c : Word) : Word :=
  match off with
  | 0x030 => mainsStat s w1c
  | 0x040 => regTariff s w1c
  | 0x044 => pqStat s w1c
  | 0x048 => pulseStat s w1c
  | 0x04C => radioStat s w1c
  | 0x050 => linkStat s w1c
  | 0x054 => plcStat s w1c
  | 0x058 => ingestStat s w1c
  | 0x05C => balStat s w1c
  | 0x060 => archStat s w1c
  | 0x064 => uplStat s w1c
  | 0x068 => fleetStat s w1c
  | 0x06C => keyStat s w1c
  | 0x070 => fwuStat s w1c
  | 0x074 => pairStat s w1c
  | 0x078 => evtStat s w1c
  | 0x07C => pwrStat s w1c
  | 0x080 => cfgStat s w1c
  | _ => 0

/-- A status word as it reads: its reset value while its source is unpowered or in reset (R631). -/
def statRead (s : State) (off : Nat) (w1c : Word) : Word := if sourceUp s off then statWord s off w1c else statReset off

/-- A counter of the Collar that is not banked (R634). -/
def counterWord (s : State) (off : Nat) : Nat :=
  match off with
  | 0x100 => s.hosts.framesIn
  | 0x104 => s.hosts.apdusAuth
  | 0x108 => s.hosts.recordsOut
  | 0x10C => s.hosts.recordsEmitted
  | 0x110 => s.hosts.recordsCommitted
  | 0x114 => s.upl.acked
  | 0x118 => s.evt.events
  | 0x11C => s.hosts.txFrames
  | 0x120 => s.fab.seamDiscards
  | 0x124 => s.fab.eccCorrected
  | 0x128 => s.hosts.tapDrops
  | 0x12C => s.hosts.spills
  | 0x138 => s.evt.hemSaves
  | 0x13C => s.evt.starts
  | _ => 0

/-- A shared Collar word; `w1c` are the reader's copies of its W1C bits, `zero` for a reader that has none (R629). -/
def sharedWord (s : State) (off : Nat) (w1c : Word) : Word :=
  match off with
  | 0x000 => sysId s
  | 0x004 => sysStat s
  | 0x008 => w1c &&& 0xFFF
  | 0x010 => BitVec.ofNat 32 s.tai
  | 0x024 => timeStat s
  | 0x028 => timePend s
  | 0x030 => mainsStat s w1c
  | 0x034 => BitVec.ofNat 32 s.mains.cycle
  | _ => if 0x100 ≤ off then BitVec.ofNat 32 (counterWord s off) else statRead s off w1c

/-- HOST.MBOX (R632). -/
def mboxWord (s : State) (x : HostSt) : Word :=
  BitVec.ofNat 32 (bit (cmdFree s x) + 2 * bit x.resp.isSome + 4 * min 63 x.respQ.length + 256 * bit s.hosts.ready + 512 * bit s.pwr.hemFlag
    + 65536 * min 31 (x.openCmds.filter fun t => !t.dead).length)

/-- HOST.ID (R632). -/
def hostIdWord (h : Fin 4) (x : HostSt) : Word :=
  BitVec.ofNat 32 (h.val + 4 * (x.precedence % 8) + 32 * (x.port % 8) + 256 * bit x.timeAuth)

/-- What host `h` reads at a Collar offset (R629, R632, R634). -/
def collarRead (s : State) (h : Fin 4) (off : Nat) : Word :=
  let x := s.host h
  match off with
  | 0x014 => x.timeLatch.getD 0 0
  | 0x018 => x.timeLatch.getD 1 0
  | 0x01C => x.timeLatch.getD 2 0
  | 0x020 => x.timeLatch.getD 3 0
  | 0x038 => x.mainsLatch
  | 0x0C4 => mboxWord s x
  | 0x0C8 => x.irq.setWidth 32 ||| (if x.ringIrq == 0 then 0 else 0x10)
  | 0x0CC => x.irqEn.setWidth 32
  | 0x0D0 => x.ringIrq.setWidth 32
  | 0x0D4 => hostIdWord h x
  | 0x130 => BitVec.ofNat 32 x.cmds
  | 0x134 => BitVec.ofNat 32 x.conflicts
  | _ => sharedWord s off (stickyOf x off)

/-- ALARM_N: asserted while the ALARM_N copy holds a bit that ALARM_PIN_MASK selects, LOCKSTEP always (R632). -/
def alarmPin (s : State) : Bool := s.hosts.alarmN &&& (s.cfg.act.alarmPinMask ||| 0x2) != 0

end Sys2Proof.Machine
end

