-- ==== Sys2Proof/Machine/Events.lean ====
section
/-! DEFINITION. The event recorder: the catalogue's settings, the rate limit, the store and its commands ("Event recorder"). -/

namespace Sys2Proof.Machine

open Host (Outcome)

/-! ### Catalogue (R763, R773, R781) -/

/-- The recorder's state for a code. -/
def codeSt (s : State) (code : Nat) : CodeSt := (tfind s.evt.codes code).getD {}

/-- Changes the recorder's state for a code. -/
def onCode (code : Nat) (f : CodeSt → CodeSt) (s : State) : State :=
  s.onEvt fun v => { v with codes := tput v.codes code (f ((tfind v.codes code).getD {})) }

/-- Whether a code is one that a host posts (R758). -/
def hostCode (code : Nat) : Bool := 0xFF00 ≤ code && code ≤ 0xFFFF

/-- Whether a code is one of the recorder's own, which are never rate-limited (R765, R773). -/
def recorderCode (code : Nat) : Bool := 0x1001 ≤ code && code ≤ 0x1007

/-- SEVERITY of a code in the catalogue; 0xFF for a host code (R773, R781). -/
def codeSeverity (code : Nat) : Nat :=
  if hostCode code then 0xFF
  else match code with
    | 0x1001 => 0
    | 0x1002 | 0x1006 | 0x1007 => 2
    | 0x1004 | 0x1005 => 1
    | c => Config.evtSeverity c % 4

/-- Whether a code is of extended form; the time-step event of R110 is (R755, R763). -/
def codeExtended (code : Nat) : Bool :=
  if hostCode code || recorderCode code then false else code == evCode .timeStep || Config.evtExtended code

/-- Whether release 3.2 knows a code: of a host, of the recorder, of a metrological entry, of an event that a rule requires, or one that its
catalogue holds besides, under a class code of R758 (R773, R776, R781). -/
def codeKnown (code : Nat) : Bool :=
  hostCode code || recorderCode code || (0x0381 ≤ code && code ≤ 0x0387) || requiredEvents.any (fun e => evCode e == code)
    || (0x100 ≤ code && code < 0x1300 && Config.evtKnown code)

/-- RATE, BURST and snapshot list in force: EVT_CODE_SET over the base image over the catalogue; a code of severity 3 always
runs with RATE 0 (R763). -/
def codeCfg (s : State) (code : Nat) : EvtCodeCfg :=
  let c := match (codeSt s code).override with
    | some o => o
    | none => match s.cfg.act.evtCodes.find? fun o => o.code == code with
      | some o => o
      | none =>
        if hostCode code then { code := code, rate := 60, burst := 16 }
        else { code := code, rate := min 3600 (Config.evtRate code), burst := clamp 1 255 (Config.evtBurst code), snap := (Config.evtSnap code).take 8 }
  if codeSeverity code = 3 || recorderCode code then { c with rate := 0 } else c

/-! ### The rate limit (R764, R765) -/

/-- One token, in the units of `CodeSt.tokens`. -/
def tokenUnit : Nat := 3600 * 1000000000 * nsUnit

/-- The tokens of a code's bucket now: up to BURST, RATE / 3,600 per second of operating time, full at the start. -/
def tokensNow (s : State) (code : Nat) : Nat :=
  let c := codeCfg s code
  let x := codeSt s code
  match x.tokens with
  | none => c.burst * tokenUnit
  | some t => min (c.burst * tokenUnit) (t + c.rate * (s.opTime - x.tokensOp))

/-! ### Writing a record (R755, R759–R761, R769, R770) -/

/-- The Collar word that a snapshot copies: SYS.ALARM from the ALARM_N copy; W1C bits elsewhere have one copy per host and the
spec does not say which is copied, so they are a free value; MAINS.CYC_HI is the count's, since no read latches it here (R761; log entry
10). -/
def snapWord (s : State) (free : Nat) (idx : Nat) : Word :=
  if idx = 14 then BitVec.ofNat 32 (s.mains.cycle / 0x100000000)
  else sharedWord s (4 * idx) (if idx = 2 then s.hosts.alarmN else BitVec.ofNat 32 free)

/-- The record of an event as the front end writes it, but for ESEQ and EFLAGS bit 2. -/
def recordOf (s : State) (free : Nat) (e : QEvent) (sup : Nat) : EvtRecord :=
  let ext := codeExtended e.code
  let snap := if ext then [] else (codeCfg s e.code).snap.map (snapWord s free)
  let size := if ext then 40 else 8
  { opS := e.opS, opSub := e.opSub, code := e.code, starts := s.evt.starts, severity := e.severity, source := e.source
    snapMask := 2 ^ snap.length - 1, eflags := bit ext + 2 * bit s.pwr.hemFlag + 8 * bit e.reply.isSome
    suppressed := min 65535 sup, detail := (e.detail ++ List.replicate 40 0).take size, snap := snap }

/-- A record takes the next ESEQ and a slot of the ring; it is counted (R759, R766, CN7). -/
def appendRecord (r : EvtRecord) (s : State) : State :=
  let s := s.onEvt fun v =>
    { v with ring := v.ring ++ [{ r with eseq := v.eseq }], eseq := inc32 v.eseq, events := inc32 v.events
             copyFrom := if v.copyFrom.isNone then some s.rc else v.copyFrom }
  onCode r.code (fun c => { c with recorded := inc32 c.recorded }) s

/-- What became of an event (R785). -/
inductive Fate
  | recorded (eseq : Nat)
  | suppressed
  | discarded
deriving DecidableEq, Repr

/-- The discard of an event in native mode: the FULL record is written at the first discard and counts every further one
(R769). -/
def discardNative (r : EvtRecord) (s : State) : State :=
  let s := setSticky 0x078 0x10 (s.onEvt fun v => { v with discarded := inc32 v.discarded, fullDisc := inc32 v.fullDisc })
  match s.evt.fullRec with
  | some f => s.onEvt fun v => { v with fullRec := some { f with detail := leBytes 4 v.fullDisc ++ f.detail.drop 4 } }
  | none =>
    let f : EvtRecord := { recordOf s 0 { code := 0x1002, source := 0xFF, severity := 2, opS := s.opS, opSub := s.opSub } 0 with
      detail := leBytes 4 s.evt.fullDisc ++ leBytes 4 r.opS, snapMask := 0, snap := [], eseq := s.evt.eseq }
    onCode 0x1002 (fun c => { c with recorded := inc32 c.recorded })
      (s.onEvt fun v => { v with fullRec := some f, eseq := inc32 v.eseq, events := inc32 v.events })

/-- The record that a record of the given severity replaces in compatibility mode: the oldest of the lowest severity among those at
or below it (R770). -/
def replaceable (ring : List EvtRecord) (sev : Nat) : Option Nat :=
  let low := ((ring.filter fun r => r.severity ≤ sev).map (·.severity)).foldl min 4
  if low = 4 then none else ring.findIdx? fun r => r.severity == low

/-- Stores a record: in a free slot, or under the mode's rule when the store is full (R768–R770). -/
def storeRecord (r : EvtRecord) (s : State) : State × Fate :=
  if s.evt.ring.length < ringSlots s then (appendRecord r s, .recorded s.evt.eseq)
  else if s.evt.mode = 0 then (discardNative r s, .discarded)
  else
    match replaceable s.evt.ring r.severity with
    | some i =>
      let s' := setSticky 0x078 0x4 (s.onEvt fun v => { v with ring := v.ring.eraseIdx i })
      (appendRecord { r with eflags := r.eflags + 4 } s', .recorded s.evt.eseq)
    | none => (s.onEvt fun v => { v with discarded := inc32 v.discarded }, .discarded)

/-- Whether the front end may take an event: not while every slot holds a record that copying is about to free (R768). -/
def mayTake (s : State) : Bool := s.evt.ring.length < ringSlots s || !copyingRuns s

/-- Judges an event against its code's bucket and stores it (R764). -/
def judgeEvent (e : QEvent) (s : State) : State × Fate :=
  let c := codeCfg s e.code
  let t := tokensNow s e.code
  let sup := (codeSt s e.code).suppressed
  if c.rate ≠ 0 && t < tokenUnit then
    (setSticky 0x078 0x8 (onCode e.code (fun x =>
      { x with suppressed := inc32 x.suppressed, suppressedTotal := inc32 x.suppressedTotal, sev := e.severity
               tokens := some t, tokensOp := s.opTime }) s), .suppressed)
  else
    let (free, s) := s.takeFree
    let s := if c.rate = 0 then s
      else onCode e.code (fun x => { x with tokens := some (t - tokenUnit), tokensOp := s.opTime }) s
    let (s, f) := storeRecord (recordOf s free e sup) s
    match f with
    | .recorded n => (onCode e.code (fun x => { x with suppressed := 0 }) s, .recorded n)
    | f => (s, f)

/-- The answer of EVT_POST (R785). -/
def postReply (f : Fate) : Reply :=
  match f with
  | .recorded n => okWith (leBytes 4 n ++ [0, 0, 0, 0])
  | .suppressed => okWith (leBytes 4 0 ++ [1, 0, 0, 0])
  | .discarded => okWith (leBytes 4 0 ++ [2, 0, 0, 0])

/-- Producers whose events Q10 refused push one LOST record each as room appears (R762). -/
def pushLost (s : State) : State :=
  s.evt.lost.foldl (fun s p =>
    if s.evt.q10.length < 1024 then
      let e : QEvent := { code := 0x1004, source := p.1, severity := 1, detail := leBytes 1 p.1 ++ [0, 0, 0] ++ leBytes 4 p.2
                          opS := s.opS, opSub := s.opSub }
      s.onEvt fun v => { v with q10 := v.q10 ++ [e], lost := tdel v.lost p.1 }
    else s) s

/-- EVENT_RAISE: the front end takes the oldest entry of Q10, judges it and writes its record (R760–R764, R768–R771). -/
def execEventRaise (dt : Nat) (s : State) : Outcome State Fault Refusal :=
  let s := tick dt s
  match s.evt.q10 with
  | [] => .next s
  | e :: rest =>
    if recorderLives s && mayTake s then
      let s := s.onEvt fun v => { v with q10 := rest }
      let (s, f) := judgeEvent e s
      let s := match e.reply with
        | some (h, t) => if hh : h < 4 then respond ⟨h, hh⟩ t (postReply f) s else s
        | none => s
      .next (pushLost s)
    else .next s

/-- BUCKET_REFILL: a full bucket with suppressed events writes one SUPPRESSED record and resets the count (R765). -/
def execBucketRefill (dt code : Nat) (s : State) : Outcome State Fault Refusal :=
  let s := tick dt s
  let x := codeSt s code
  let c := codeCfg s code
  if recorderLives s && mayTake s && x.suppressed ≠ 0 && c.burst * tokenUnit ≤ tokensNow s code then
    let sev := if hostCode code then x.sev else codeSeverity code
    let e : QEvent := { code := 0x1003, source := 0xFF, severity := sev, detail := leBytes 2 code ++ [0, 0] ++ leBytes 4 x.suppressed
                        opS := s.opS, opSub := s.opSub }
    .next (judgeEvent e (onCode code (fun y => { y with suppressed := 0 }) s)).1
  else .next s

/-! ### Operating time (R757) -/

/-- OP_TIME_CHECKPOINT: operating time has reached a multiple of 64 s; the supervisor checkpoints it, or, while that does not run, the
always-on island, so that operating time never repeats (R757; log entry 346). -/
def execOpTimeCheckpoint (dt : Nat) (s : State) : Outcome State Fault Refusal :=
  let s := tick dt s
  let n := s.opTime / ofS 64 * 64
  if s.pwr.aonOn && s.evt.opCheckpoint < n then .next (s.onEvt fun v => { v with opCheckpoint := n }) else .next s

/-! ### Commands (R778–R785) -/

/-- Records of the extension on pages of which some copy can be read (R514, R519, R766). -/
def extHeld (s : State) : List EvtRecord :=
  let lost := fun (k : Nat) => s.evt.extGone.contains k ||
    (archReady s && [eventRegion + k, eventRegion + k + copyPages].all fun l => match pageOfLpn s l with
      | some p => p.lost
      | none => true)
  (s.evt.ext.zipIdx.filter fun r => !lost (r.2 / 256)).map (·.1)

/-- Every record the store holds, oldest first. -/
def heldRecords (s : State) : List EvtRecord := extHeld s ++ s.evt.ring ++ s.evt.fullRec.toList

/-- The 64 bytes of a record (R755). -/
def evtRecordBytes (r : EvtRecord) : List Byte :=
  leBytes 4 r.opS ++ leBytes 2 r.opSub ++ leBytes 2 r.code ++ leBytes 4 r.starts ++ leBytes 4 r.eseq ++ leBytes 1 r.severity
    ++ leBytes 1 r.source ++ leBytes 1 r.snapMask ++ leBytes 1 r.eflags ++ leBytes 2 r.suppressed ++ leBytes 2 0
    ++ ((r.detail ++ r.snap.flatMap fun (w : Word) => leBytes 4 w.toNat) ++ List.replicate 40 0).take 40

/-- EVT 0x1001 EVT_STATUS (R779). -/
def evtStatus (_ : Taken) (s : State) : State × Reply :=
  let v := s.evt
  let oldest := match heldRecords s with | r :: _ => r.eseq | [] => v.eseq
  (s, okWith (leBytes 4 s.opS ++ leBytes 2 s.opSub ++ leBytes 2 0 ++ leBytes 4 v.starts ++ leBytes 4 v.eseq ++ leBytes 4 oldest
    ++ leBytes 8 s.tai ++ leBytes 8 s.key ++ leBytes 2 (v.ring.length + bit v.fullRec.isSome) ++ leBytes 2 0 ++ leBytes 4 v.ext.length
    ++ leBytes 4 v.discarded))

/-- EVT_STATUS, the command. -/
def execEvtStatus (dt : Nat) (host : Fin 4) (s : State) : Outcome State Fault Refusal :=
  .next (runCmd 0x1001 host evtStatus (tick dt s))

/-- EVT 0x1002 EVT_READ (R780). -/
def evtRead (t : Taken) (s : State) : State × Reply :=
  let p := t.payload
  let first := fld p 0 4
  let count := fld p 4 1
  let minSev := fld p 5 1
  let mask := fld p 10 2
  if count = 0 || 63 < count || 3 < minSev then (s, answer .badarg)
  else
    let held := (heldRecords s).filter fun r => seqGe r.eseq first
    let extOn := archWorks s
    let shown := held.filter fun r => extOn || !(s.evt.ext.any fun q => q.eseq == r.eseq)
    let hit := shown.filter fun r => minSev ≤ r.severity && Nat.land r.code mask == Nat.land (fld p 8 2) mask
    let out := hit.take count
    let next := if out.length < hit.length then inc32 ((out.getLast?.map (·.eseq)).getD first)
      else if seqGe s.evt.eseq first then s.evt.eseq else first
    let span := (next + 0x100000000 - first) % 0x100000000
    let inSpan := fun (l : List EvtRecord) => (l.filter fun r => (r.eseq + 0x100000000 - first) % 0x100000000 < span).length
    let skipped := inSpan shown < inSpan held
    (s, okWith (leBytes 4 next ++ leBytes 1 out.length ++ leBytes 1 (bit skipped + 2 * bit (inSpan held < span)) ++ leBytes 2 0
      ++ out.flatMap evtRecordBytes))

/-- EVT_READ, the command. -/
def execEvtRead (dt : Nat) (host : Fin 4) (s : State) : Outcome State Fault Refusal :=
  .next (runCmd 0x1002 host evtRead (tick dt s))

/-- EVT 0x1003 EVT_CODE_READ (R781). -/
def evtCodeRead (t : Taken) (s : State) : State × Reply :=
  let code := fld t.payload 0 2
  if !codeKnown code then (s, answer .badarg)
  else
    let c := codeCfg s code
    let x := codeSt s code
    let snap := (c.snap.take 8)
    (s, okWith (leBytes 2 code ++ leBytes 1 (codeSeverity code) ++ leBytes 1 (bit (codeExtended code)) ++ leBytes 2 c.rate ++ leBytes 1 c.burst
      ++ leBytes 1 snap.length ++ ((snap.map fun w => BitVec.ofNat 8 w) ++ List.replicate 8 0xFF).take 8 ++ leBytes 4 x.recorded
      ++ leBytes 4 x.suppressedTotal))

/-- EVT_CODE_READ, the command. -/
def execEvtCodeRead (dt : Nat) (host : Fin 4) (s : State) : Outcome State Fault Refusal :=
  .next (runCmd 0x1003 host evtCodeRead (tick dt s))

/-- Sets or ends a code's override; what its bucket holds by then is settled under the settings before it (R763, R764). -/
def setOverride (code : Nat) (c : Option EvtCodeCfg) (s : State) : State :=
  let now := tokensNow s code
  onCode code (fun x => { x with override := c, tokens := x.tokens.map fun _ => now, tokensOp := s.opTime }) s

/-- EVT 0x1004 EVT_CODE_SET (R763, R782). -/
def evtCodeSet (t : Taken) (s : State) : State × Reply :=
  let p := t.payload
  let code := fld p 0 2
  let n := fld p 7 1
  let snap := (List.range n).map fun i => fld p (8 + i) 1
  let base := s.cfg.act.evtCodes.map (·.code)
  let set := (s.evt.codes.filter fun q => q.2.override.isSome && !base.contains q.1).length + base.length
  if !codeKnown code || 1 < fld p 2 1 then (s, answer .badarg)
  else if fld p 2 1 = 1 then (setOverride code none s, answer .ok)
  else if 3600 < fld p 4 2 || fld p 6 1 = 0 || 8 < n || !snap.all snapAllowed || (fld p 4 2 ≠ 0 && codeSeverity code = 3) then
    (s, answer .badarg)
  else if (codeSt s code).override.isNone && !base.contains code && 64 ≤ set then (s, answer .nospace)
  else
    let c : EvtCodeCfg := { code := code, rate := fld p 4 2, burst := fld p 6 1, snap := snap }
    (setOverride code (some c) s, answer .ok)

/-- EVT_CODE_SET, the command. -/
def execEvtCodeSet (dt : Nat) (host : Fin 4) (s : State) : Outcome State Fault Refusal :=
  .next (runCmd 0x1004 host evtCodeSet (tick dt s))

/-- The extension's trim: the pages of SR3 of both copies leave the map by one trim page, whose SEQ is kept until the trim is durable, or none
while the archive does not work (R520, R783). -/
def trimExtension (s : State) : State :=
  if archWorks s then
    let (q, s) := trimRanges [(eventRegion, 4096), (eventRegion + copyPages, 4096)] s
    s.onEvt fun v => { v with trimSeq := q }
  else s.onEvt fun v => { v with trimSeq := none }

/-- EVT 0x1005 EVT_CLEAR: in one MRAM step the ring is emptied, ESEQ is 0 and a CLEARED record is written; the extension's trim
follows (R783). -/
def evtClear (h : Fin 4) (t : Taken) (s : State) : State × Reply :=
  if !(s.cfg.overlay = 2 || s.cfg.overlay = 4) then (s, answer .locked)
  else if fld t.payload 0 4 ≠ 0x434C5245 then (s, answer .badarg)
  else
    let n := (heldRecords s).length
    let (free, s) := s.takeFree
    let s := s.onEvt fun v =>
      { v with ring := [], fullRec := none, ext := [], extGone := [], eseq := 0, discarded := 0, fullDisc := 0, copyFrom := none
               clearing := some (h.val, t), trimPending := true }
    let s := trimExtension s
    let e : QEvent := { code := 0x1005, source := 0x20 + h.val, severity := 1, detail := leBytes 1 h.val ++ [0, 0, 0] ++ leBytes 4 n
                        opS := s.opS, opSub := s.opSub }
    (appendRecord (recordOf s free e 0) s, answer .pending)

/-- EVT_CLEAR, the command. -/
def execEvtClear (dt : Nat) (host : Fin 4) (s : State) : Outcome State Fault Refusal :=
  .next (runCmd 0x1005 host (evtClear host) (tick dt s))

/-- EVT_CLEAR_COMPLETE: the clear ends once the extension's trim is durable; a trim that Hem or a reset interrupted, or that found the archive
not at work, is made first (R783). -/
def execEvtClearComplete (dt : Nat) (s : State) : Outcome State Fault Refusal :=
  let s := tick dt s
  if s.evt.trimPending && archWorks s then
    match s.evt.trimSeq with
    | none => .next (trimExtension s)
    | some q =>
      if s.arch.pages.any fun p => p.seq == q && !p.durable then .next s
      else
        let s' := s.onEvt fun v => { v with trimPending := false, trimSeq := none, clearing := none }
        .next (match s.evt.clearing with
          | some (h, t) => finishAt h t (answer .ok) s'
          | none => s')
  else .next s

/-- Whether the seal of a block of 64 entries of the metrological log verifies (R774). -/
def blockOk (m : MetSt) (blk : Nat) : Bool :=
  tfind m.mlogTags blk == some (Config.logSeal m.sealKey ((m.mlog.drop (64 * blk)).take 64))

/-- The 32 bytes of the n-th entry of the metrological log; one whose block seal fails is returned with KIND 0xFFFF (R774, R784). -/
def mlogBytes (m : MetSt) (n : Nat) (e : MlogEntry) : List Byte :=
  leBytes 4 e.lseq ++ leBytes 4 e.starts ++ leBytes 4 e.opS ++ leBytes 2 (if blockOk m (n / 64) then e.kind else 0xFFFF)
    ++ leBytes 2 e.arg ++ (e.data ++ List.replicate 16 0).take 16

/-- EVT 0x1006 EVT_MLOG_READ (R784). -/
def evtMlogRead (t : Taken) (s : State) : State × Reply :=
  let first := fld t.payload 0 4
  let count := fld t.payload 4 1
  if count = 0 || 126 < count then (s, answer .badarg)
  else
    let out := (s.met.mlog.zipIdx.filter fun e => first ≤ e.1.lseq).take count
    let next := match out.getLast? with | some e => inc32 e.1.lseq | none => first
    (s, okWith (leBytes 4 next ++ leBytes 1 out.length ++ [0, 0, 0] ++ leBytes 2 (mlogFree s) ++ [0, 0]
      ++ leBytes 4 (s.met.notLogged.foldl (fun n p => n + p.2) 0) ++ out.flatMap fun e => mlogBytes s.met e.2 e.1))

/-- EVT_MLOG_READ, the command. -/
def execEvtMlogRead (dt : Nat) (host : Fin 4) (s : State) : Outcome State Fault Refusal :=
  .next (runCmd 0x1006 host evtMlogRead (tick dt s))

/-- EVT 0x1007 EVT_POST: its answer tells the fate of the event, so it is given when the front end takes the event (R785). -/
def evtPost (h : Fin 4) (t : Taken) (s : State) : State × Reply :=
  let p := t.payload
  let sev := fld p 1 1
  if 2 < sev then (s, answer .badarg)
  else
    let e : QEvent := { code := 0xFF00 + fld p 0 1, source := 0x20 + h.val, severity := sev, detail := (p.drop 4).take 8
                        opS := s.opS, opSub := s.opSub, reply := some (h.val, t) }
    if s.evt.q10.length < 1024 && recorderLives s then (pushEvent e s, { silent := true })
    else (pushEvent e s, postReply .discarded)

/-- EVT_POST, the command. -/
def execEvtPost (dt : Nat) (host : Fin 4) (s : State) : Outcome State Fault Refusal :=
  .next (runCmd 0x1007 host (evtPost host) (tick dt s))

end Sys2Proof.Machine
end

