-- ==== Sys2Proof/Machine/Table.lean ====
section
/-! DEFINITION. The mailbox commands: opcode, payload length, reserved payload bytes and the resource claimed (CK4 and CK6 of
R641, R644, and the payload layouts of every chapter). -/

namespace Sys2Proof.Machine

/-- Where the instance of a resource stands in the payload (R644). -/
inductive InstRule
  | zero
  | field (off size : Nat)
  /-- RK14: CHILD in bits 23:12, FEEDER in 11:4, PHASE in 3:0 -/
  | feeder
deriving DecidableEq, Repr

/-- One mailbox command. `kind` 0 claims nothing; 255 is carried in CLAIM by the host (R652, R653). -/
structure CmdSpec where
  opcode : Nat
  minLen : Nat
  maxLen : Nat
  reserved : List (Nat × Nat)
  kind : Nat
  inst : InstRule
deriving DecidableEq, Repr

/-- The commands of class 0x01. -/
def cmdTable01 : List CmdSpec :=
  [⟨0x0101, 0, 0, [], 0, .zero⟩,
   ⟨0x0110, 8, 8, [(5, 3)], 255, .zero⟩,
   ⟨0x0111, 0, 0, [], 255, .zero⟩,
   ⟨0x0112, 0, 0, [], 0, .zero⟩]

/-- The commands of class 0x02. -/
def cmdTable02 : List CmdSpec :=
  [⟨0x0201, 16, 16, [(12, 4)], 2, .zero⟩,
   ⟨0x0202, 16, 16, [(1, 1), (4, 4)], 2, .zero⟩,
   ⟨0x0203, 24, 24, [(20, 4)], 2, .zero⟩,
   ⟨0x0204, 0, 0, [], 0, .zero⟩,
   ⟨0x0220, 32, 32, [(17, 1)], 0, .zero⟩,
   ⟨0x0221, 4, 4, [(2, 2)], 0, .zero⟩,
   ⟨0x0222, 16, 16, [(1, 7)], 0, .zero⟩]

/-- The commands of class 0x03. -/
def cmdTable03 : List CmdSpec :=
  [⟨0x0301, 0, 0, [], 0, .zero⟩,
   ⟨0x0302, 8, 8, [(5, 3)], 3, .zero⟩,
   ⟨0x0303, 24, 24, [(18, 2)], 3, .zero⟩,
   ⟨0x0304, 8, 8, [(1, 7)], 3, .zero⟩,
   ⟨0x0305, 4, 4, [(1, 3)], 0, .zero⟩,
   ⟨0x0306, 4, 4, [(1, 3)], 0, .zero⟩]

/-- The commands of class 0x04. -/
def cmdTable04 : List CmdSpec :=
  [⟨0x0401, 8, 8, [(6, 2)], 0, .zero⟩,
   ⟨0x0402, 8, 8, [(2, 6)], 4, .zero⟩,
   ⟨0x0403, 8, 8, [(3, 5)], 0, .zero⟩,
   ⟨0x0404, 8, 8, [(4, 4)], 4, .zero⟩,
   ⟨0x0410, 16, 16, [(12, 4)], 5, .field 0 1⟩,
   ⟨0x0411, 4, 4, [(1, 3)], 0, .zero⟩]

/-- The commands of class 0x05. -/
def cmdTable05 : List CmdSpec :=
  [⟨0x0501, 16, 16, [(13, 3)], 6, .field 0 1⟩,
   ⟨0x0502, 16, 16, [(10, 6)], 7, .field 0 1⟩,
   ⟨0x0503, 4, 4, [(1, 3)], 0, .zero⟩,
   ⟨0x0504, 16, 16, [(3, 1)], 6, .zero⟩,
   ⟨0x0505, 24, 24, [(3, 1), (20, 4)], 0, .zero⟩,
   ⟨0x0510, 16, 16, [(1, 3)], 0, .zero⟩,
   ⟨0x0511, 32, 32, [(30, 2)], 8, .field 0 1⟩,
   ⟨0x0512, 16, 16, [(9, 7)], 9, .zero⟩,
   ⟨0x0513, 0, 0, [], 0, .zero⟩]

/-- The commands of class 0x06. -/
def cmdTable06 : List CmdSpec :=
  [⟨0x0601, 16, 16, [(12, 4)], 10, .zero⟩,
   ⟨0x0602, 0, 0, [], 0, .zero⟩,
   ⟨0x0603, 0, 0, [], 0, .zero⟩,
   ⟨0x0604, 12, 12, [(1, 3)], 0, .zero⟩]

/-- The commands of class 0x07. -/
def cmdTable07 : List CmdSpec :=
  [⟨0x0701, 32, 32, [], 11, .field 0 4⟩,
   ⟨0x0702, 8, 8, [(5, 3)], 11, .field 0 4⟩,
   ⟨0x0703, 8, 8, [(4, 4)], 0, .zero⟩,
   ⟨0x0704, 288, 288, [(1, 15)], 12, .field 0 1⟩,
   ⟨0x0705, 0, 0, [], 0, .zero⟩,
   ⟨0x0706, 8, 8, [], 0, .zero⟩]

/-- The commands of class 0x08. -/
def cmdTable08 : List CmdSpec :=
  [⟨0x0801, 1056, 1056, [(1, 15)], 13, .field 0 1⟩,
   ⟨0x0802, 2696, 2696, [(1, 7)], 14, .field 0 1⟩,
   ⟨0x0803, 24, 24, [(4, 4), (22, 2)], 11, .field 0 4⟩,
   ⟨0x0804, 32, 32, [(7, 1), (28, 4)], 11, .field 0 4⟩,
   ⟨0x0805, 24, 24, [(6, 2)], 11, .field 0 4⟩,
   ⟨0x0806, 0, 0, [], 0, .zero⟩]

/-- The commands of class 0x09. -/
def cmdTable09 : List CmdSpec :=
  [⟨0x0901, 8, 8, [(4, 4)], 0, .zero⟩,
   ⟨0x0902, 8, 8, [(7, 1)], 11, .field 0 4⟩,
   ⟨0x0903, 20, 20, [(5, 3)], 15, .feeder⟩,
   ⟨0x0904, 16, 16, [(12, 4)], 0, .zero⟩,
   ⟨0x0905, 8, 8, [(4, 4)], 0, .zero⟩,
   ⟨0x0906, 0, 0, [], 0, .zero⟩,
   ⟨0x0907, 16, 16, [(8, 8)], 16, .zero⟩]

/-- The commands of class 0x0A. -/
def cmdTable0A : List CmdSpec :=
  [⟨0x0A01, 0, 0, [], 0, .zero⟩,
   ⟨0x0A02, 4, 4, [(1, 3)], 0, .zero⟩,
   ⟨0x0A03, 48, 48, [(1, 1)], 0, .zero⟩,
   ⟨0x0A04, 4, 4, [(2, 2)], 0, .zero⟩,
   ⟨0x0A05, 8, 8, [(4, 4)], 17, .zero⟩,
   ⟨0x0A06, 8, 8, [(1, 3)], 17, .zero⟩]

/-- The commands of class 0x0B. -/
def cmdTable0B : List CmdSpec :=
  [⟨0x0B01, 0, 0, [], 0, .zero⟩,
   ⟨0x0B02, 4, 4, [(2, 2)], 0, .zero⟩,
   ⟨0x0B03, 40, 40, [(3, 5)], 18, .field 0 2⟩]

/-- The commands of class 0x0C. -/
def cmdTable0C : List CmdSpec :=
  [⟨0x0C01, 33, 4064, [(20, 12)], 19, .field 0 1⟩,
   ⟨0x0C02, 12, 4008, [(4, 4)], 19, .field 0 1⟩,
   ⟨0x0C03, 4, 4, [(1, 3)], 0, .zero⟩,
   ⟨0x0C04, 4, 4, [(1, 3)], 19, .field 0 1⟩,
   ⟨0x0C10, 40, 40, [(6, 2), (36, 4)], 11, .field 0 4⟩,
   ⟨0x0C11, 16, 16, [(9, 3)], 21, .field 0 4⟩,
   ⟨0x0C12, 8, 8, [(4, 4)], 0, .zero⟩,
   ⟨0x0C13, 8, 8, [], 11, .field 0 4⟩,
   ⟨0x0C20, 96, 96, [(23, 1)], 20, .field 0 1⟩,
   ⟨0x0C21, 9, 4008, [(1, 3)], 20, .field 0 1⟩,
   ⟨0x0C22, 12, 4008, [(4, 4)], 20, .field 0 1⟩,
   ⟨0x0C23, 4, 4, [(1, 3)], 20, .field 0 1⟩,
   ⟨0x0C24, 4, 4, [(1, 3)], 0, .zero⟩,
   ⟨0x0C25, 4, 4, [(1, 3)], 20, .field 0 1⟩]

/-- The commands of class 0x0D. -/
def cmdTable0D : List CmdSpec :=
  [⟨0x0D01, 0, 0, [], 0, .zero⟩,
   ⟨0x0D02, 9, 4080, [(4, 4)], 32, .zero⟩,
   ⟨0x0D03, 8, 8, [(4, 4)], 32, .zero⟩,
   ⟨0x0D04, 4, 4, [(2, 2)], 0, .zero⟩,
   ⟨0x0D05, 40, 40, [(2, 6)], 0, .zero⟩]

/-- The commands of class 0x0E. -/
def cmdTable0E : List CmdSpec :=
  [⟨0x0E01, 0, 0, [], 0, .zero⟩,
   ⟨0x0E02, 264, 264, [(1, 7), (26, 2), (132, 132)], 33, .zero⟩,
   ⟨0x0E03, 9, 3080, [(4, 4)], 33, .zero⟩,
   ⟨0x0E04, 16, 16, [(8, 8)], 33, .zero⟩,
   ⟨0x0E05, 0, 0, [], 33, .zero⟩,
   ⟨0x0E06, 8, 8, [(1, 3)], 33, .zero⟩]

/-- The commands of class 0x0F. -/
def cmdTable0F : List CmdSpec :=
  [⟨0x0F01, 0, 0, [], 0, .zero⟩,
   ⟨0x0F02, 8, 8, [(1, 7)], 34, .zero⟩,
   ⟨0x0F03, 40, 40, [(37, 3)], 34, .zero⟩]

/-- The commands of class 0x10. -/
def cmdTable10 : List CmdSpec :=
  [⟨0x1001, 0, 0, [], 0, .zero⟩,
   ⟨0x1002, 16, 16, [(6, 2), (12, 4)], 0, .zero⟩,
   ⟨0x1003, 4, 4, [(2, 2)], 0, .zero⟩,
   ⟨0x1004, 24, 24, [(3, 1), (16, 8)], 35, .zero⟩,
   ⟨0x1005, 8, 8, [(4, 4)], 35, .zero⟩,
   ⟨0x1006, 8, 8, [(5, 3)], 0, .zero⟩,
   ⟨0x1007, 16, 16, [(2, 2), (12, 4)], 0, .zero⟩]

/-- The commands of class 0x11. -/
def cmdTable11 : List CmdSpec :=
  [⟨0x1101, 0, 0, [], 0, .zero⟩,
   ⟨0x1102, 8, 8, [(4, 4)], 0, .zero⟩,
   ⟨0x1103, 0, 0, [], 0, .zero⟩]

/-- The commands of class 0x12. -/
def cmdTable12 : List CmdSpec :=
  [⟨0x1201, 0, 0, [], 0, .zero⟩,
   ⟨0x1202, 8, 4080, [(4, 4)], 37, .zero⟩,
   ⟨0x1203, 16, 16, [(4, 4)], 37, .zero⟩,
   ⟨0x1204, 16, 16, [(1, 7)], 37, .zero⟩,
   ⟨0x1205, 4, 4, [], 0, .zero⟩,
   ⟨0x1206, 0, 0, [], 0, .zero⟩]

/-- Every command of release 3.2. -/
def cmdTable : List CmdSpec :=
  cmdTable01 ++ cmdTable02 ++ cmdTable03 ++ cmdTable04 ++ cmdTable05 ++ cmdTable06 ++ cmdTable07 ++ cmdTable08 ++ cmdTable09 ++ cmdTable0A ++ cmdTable0B ++ cmdTable0C ++ cmdTable0D ++ cmdTable0E ++ cmdTable0F ++ cmdTable10 ++ cmdTable11 ++ cmdTable12

/-- The command of an opcode, if the running release knows it (CK4). -/
def cmdSpec (opcode : Nat) : Option CmdSpec := cmdTable.find? fun c => c.opcode == opcode

/-- The instance that a payload names, the low 24 bits of its fields (R644). -/
def instanceOf (r : InstRule) (p : List Byte) : Nat :=
  match r with
  | .zero => 0
  | .field off size => fld p off size % 0x1000000
  | .feeder => Nat.lor (Nat.lor (fld p 0 2 % 4096 * 4096) (fld p 2 1 % 256 * 16)) (fld p 3 1 % 16)

/-- The CLAIM that a command has to carry (R644); a lease command names its own. -/
def claimOf (c : CmdSpec) (p : List Byte) (carried : Nat) : Nat :=
  if c.kind = 255 then carried else if c.kind = 0 then 0 else c.kind * 0x1000000 + instanceOf c.inst p

end Sys2Proof.Machine
end

