-- ==== Sys2Proof/Machine/Hosts.lean ====
section
/-! DEFINITION. Mailboxes, arbitration, leases, host rings and register accesses ("Hosts, mailboxes and the Collar"). -/

namespace Sys2Proof.Machine

open Host (Outcome)

/-! ### Interrupts and mailboxes -/

/-- HOST.IRQ.CMD_FREE of every host whose CMD_FREE became 1 (HR14). -/
def freeEdge (before s : State) : State :=
  let f := fun (i : Nat) (x : HostSt) =>
    if cmdFree s x && !cmdFree before (before.hosts.hosts.toList.getD i {}) then setIrq 0x02 x else x
  s.onHosts fun b => { b with hosts := b.hosts.mapIdx f }

/-- A doorbell written while Doze or Hold is being entered or in force stands as a wake source (R802, R811). -/
def ringBell (h : Fin 4) (s : State) : State :=
  let asleep := s.pwr.state == .doze || s.pwr.state == .hold || s.pwr.entering
  if asleep then s.onPwr fun p => { p with bell := some (s.host h).port } else s

/-- DOORBELL_CMD: the header and payload that the host wrote stand in its command mailbox until the take; a doorbell while
CMD_FREE is 0, from Hem start on, before READY or on an unbound port changes nothing (R623, R635, R643, R802). -/
def execDoorbellCmd (dt : Nat) (host : Fin 4) (hdr : CmdHeader) (payload : List Byte) (s : State) : Outcome State Fault Refusal :=
  let s := tick dt s
  let x := s.host host
  if s.pwr.aonOn && x.port ≠ 0 then
    let s := ringBell host (touchHost host s)
    let x := s.host host
    if cmdFree s x then .next (s.setHost host { x with box := some (hdr, payload), boxTick := s.rc / ofUs 1 }) else .next s
  else .next s

/-- RESP_ACK: the host has finished with the response mailbox and the next queued response is delivered (R637). -/
def execRespAck (dt : Nat) (host : Fin 4) (s : State) : Outcome State Fault Refusal :=
  let s := tick dt s
  if s.pwr.aonOn && (s.host host).port ≠ 0 then
    let s := ringBell host (touchHost host s)
    let x := s.host host
    match x.resp, x.respQ with
    | none, _ => .next s
    | some _, [] => .next (freeEdge s (s.setHost host { x with resp := none }))
    | some _, r :: q => .next (freeEdge s (s.setHost host (setIrq 0x01 { x with resp := some r, respQ := q })))
  else .next s

/-! ### The checks of R641 -/

/-- CK5: whether the class or block of a command is not available (R4, R8, R157, R295, R333, R363, R451, R535, R541, R575, R576,
R684). -/
def classLocked (s : State) (op : Nat) (p : List Byte) : Bool :=
  let c := s.cfg.startCfg
  let cls := op / 256
  let agg := c.role == some .aggregation
  let feOff := fun (n : Nat) => agg && ((n = 0 && !c.feAPowered) || (n = 1 && !c.feBPowered))
  if c.role.isNone && !([0x01, 0x02, 0x0D, 0x0E, 0x10, 0x11, 0x12].contains cls) then true
  else match op with
    | 0x0302 | 0x0303 | 0x0304 | 0x0306 => metroOff s
    | 0x0501 | 0x0503 | 0x0505 => feOff (fld p 0 1)
    | 0x0502 => feOff (fld p 2 1)
    | 0x0510 | 0x0511 | 0x0512 | 0x0513 => feOff 0 && feOff 1 && agg && !c.plcPowered
    | 0x0601 | 0x0602 | 0x0603 | 0x0604 => agg && !c.plcPowered
    | 0x0901 | 0x0902 | 0x0903 | 0x0904 | 0x0905 | 0x0907 => balDisabled s
    | 0x0A01 | 0x0A05 => false
    | 0x0A02 => !(s.arch.state == 2 || s.arch.state == 3 || s.arch.state == 4)
    | 0x0A03 | 0x0A04 | 0x0A06 => !(s.arch.state == 2 || s.arch.state == 3)
    | 0x0B03 => !mayHaveChildren s
    | 0x0D02 | 0x0D03 => s.pocket.lifecycle == .returned
    | _ => cls = 0x0C && !fleetOn s

/-- What the checks CK1 to CK6 decide. -/
inductive Verdict
  /-- answered without moving the series, or as a repeat -/
  | plain (r : Response)
  /-- the series moves and the status is answered -/
  | fail (st : Status)
  /-- passes CK1 to CK6 -/
  | pass (t : Taken)
deriving DecidableEq, Repr

/-- The command that a mailbox holds, its payload LENGTH bytes long. -/
def takenOf (hdr : CmdHeader) (payload : List Byte) : Taken :=
  { opcode := hdr.opcode, tag := hdr.tag, seq := hdr.seq, claim := hdr.claim
    payload := (payload ++ List.replicate (hdr.length - payload.length) 0).take hdr.length }

/-- The status response to a command. -/
def statusOf (h : Fin 4) (t : Taken) (st : Status) : Response :=
  { opcode := t.opcode, tag := t.tag, hostId := h.val, status := st, seq := t.seq }

/-- The opcodes that the boot ROM answers (R712). -/
def romCommand (op : Nat) : Bool := [0x0101, 0x0E01, 0x0E02, 0x0E03, 0x0E04, 0x0E05].contains op

/-- CK4 to CK6. In ROM recovery every opcode but those of R712 is answered with LOCKED. -/
def checkCommand (s : State) (t : Taken) : Verdict :=
  if s.pwr.stage == .recovery && !romCommand t.opcode then .fail .locked
  else match cmdSpec t.opcode with
  | none => .fail .unsupported
  | some c =>
    if classLocked s t.opcode t.payload then .fail .locked
    else if t.payload.length < c.minLen || c.maxLen < t.payload.length || !(c.reserved.all fun q => zeroAt t.payload q.1 q.2)
        || t.claim ≠ claimOf c t.payload t.claim then .fail .badarg
    else .pass t

/-- CK1 to CK6 for the command in a host's mailbox (R640, R641). -/
def checkBox (s : State) (h : Fin 4) (hdr : CmdHeader) (payload : List Byte) : Verdict :=
  let x := s.host h
  let t := takenOf hdr payload
  if 4080 < hdr.length || 1 < hdr.flags then .plain (statusOf h t .badarg)
  else if hdr.hostId ≠ h.val then .plain (statusOf h t .denied)
  else if hdr.flags = 1 then checkCommand s t
  else match x.lastSeq with
    | none => .plain (statusOf h t .stale)
    | some n =>
      if hdr.seq = n then
        match x.lastResp with
        | some r => .plain r
        | none => .plain (statusOf h t .pending)
      else if hdr.seq = inc32 n then checkCommand s t
      else .plain (statusOf h t .stale)

/-- Delivers a response that the series does not remember. -/
def deliverPlain (r : Response) (x : HostSt) : HostSt := { deliver r x with lastResp := x.lastResp }

/-- Takes the command of one host: it is counted, the mailbox is free, the checks CK1 to CK6 are made. -/
def takeBox (k : Nat) (acc : State × List (Fin 4 × Taken)) (h : Fin 4) : State × List (Fin 4 × Taken) :=
  let (s, l) := acc
  let x := s.host h
  match x.box with
  | none => acc
  | some (hdr, payload) =>
    if x.boxTick ≠ k then acc
    else
      let v := checkBox s h hdr payload
      let x := { x with box := none, cmds := inc32 x.cmds }
      let moved := { x with lastSeq := some hdr.seq, lastResp := none }
      match v with
      | .plain r => (s.setHost h (deliverPlain r x), l)
      | .fail st => (respond h (takenOf hdr payload) (answer st) (s.setHost h moved), l)
      | .pass t => (s.setHost h moved, l ++ [(h, t)])

/-! ### Leases (R651–R654) -/

/-- Kind of a resource. -/
def claimKind (c : Nat) : Nat := c / 0x1000000

/-- Instance of a resource. -/
def claimInst (c : Nat) : Nat := c % 0x1000000

/-- Whether a lease on `l` covers the resource `c` (R651). -/
def leaseCovers (l c : Nat) : Bool := claimKind l == claimKind c && (claimInst l == claimInst c || claimInst l == 0xFFFFFF)

/-- The leases that last. -/
def liveLeases (s : State) (h : Fin 4) : List Lease := (s.host h).leases.filter fun l => s.rc < l.endRc

/-- A lease of another host that `p` accepts, with its holder. -/
def otherLease (s : State) (h : Fin 4) (p : Nat → Bool) : Option (Fin 4 × Lease) :=
  ((List.finRange 4).filter (· != h)).findSome? fun k => ((liveLeases s k).find? fun l => p l.claim).map fun l => (k, l)

/-- CK7, the lease: the lease of another host that stops a command. LEASE_TAKE is stopped by any overlap, and not at all when it
carries BREAK (R651, R652). -/
def leaseBar (s : State) (h : Fin 4) (t : Taken) : Option (Fin 4 × Lease) :=
  if t.claim = 0 then none
  else if t.opcode = 0x0110 then
    if hasBit (fld t.payload 4 1) 0 then none
    else otherLease s h fun l => leaseCovers l t.claim || leaseCovers t.claim l
  else otherLease s h fun l => leaseCovers l t.claim

/-- DETAIL of a CONFLICT response (R649). -/
def conflictDetail (tag host : Nat) (lease : Bool) : Nat := w16 tag + 65536 * host + 0x1000000 * bit lease

/-- Whether `a` wins an arbitration over `b` (R646). -/
def beats (s : State) (a b : Fin 4) : Bool :=
  let pa := (s.host a).precedence
  let pb := (s.host b).precedence
  pb < pa || (pa == pb && a.val < b.val)

/-- The command that wins against a given one among those taken in the tick: of the same resource, and of the best host (R646,
R648). -/
def winnerOver (s : State) (l : List (Fin 4 × Taken)) (h : Fin 4) (t : Taken) : Option (Fin 4 × Taken) :=
  if t.claim = 0 then none
  else
    let rivals := l.filter fun q => q.2.claim == t.claim && beats s q.1 h
    rivals.find? fun q => rivals.all fun r => r.1 == q.1 || beats s q.1 r.1

/-- CK8: whether a command that answered PENDING holds the resource; FWU_ABORT answers BUSY only under R707 (R650, R721). -/
def resourceHeld (s : State) (t : Taken) : Bool :=
  t.claim ≠ 0 && t.opcode ≠ 0x0E05 && (List.finRange 4).any fun h => (s.host h).openCmds.any fun u => u.claim == t.claim

/-- The hosts in the order of R647. -/
def execOrder (s : State) : List (Fin 4) :=
  (List.range 8).reverse.flatMap fun p => (List.finRange 4).filter fun h => (s.host h).precedence == p

/-- COMMAND_TAKE: the commands whose doorbells arrived in one arbitration tick are taken at its end, checked, arbitrated and
dispatched in the order of R647. A tick's commands are taken after those of the ticks before have run (R647; log entry 28). -/
def execCommandTake (dt : Nat) (s : State) : Outcome State Fault Refusal :=
  let s := tick dt s
  let ticks := (List.finRange 4).filterMap fun h => if (s.host h).box.isSome then some (s.host h).boxTick else none
  match ticks with
  | [] => .next s
  | k0 :: ks =>
    let k := ks.foldl min k0
    if taking s && s.hosts.dispatchQ.isEmpty && ofUs (k + 1) ≤ s.rc then
      let before := s
      let (s, l) := (List.finRange 4).foldl (takeBox k) (s, [])
      let barred := l.filterMap fun q => (leaseBar s q.1 q.2).map fun b => (q, b)
      let l := l.filter fun q => (leaseBar s q.1 q.2).isNone
      let lost := l.filterMap fun q => (winnerOver s l q.1 q.2).map fun w => (q, w)
      let l := l.filter fun q => (winnerOver s l q.1 q.2).isNone
      let held := l.filter fun q => resourceHeld s q.2
      let run := l.filter fun q => !resourceHeld s q.2
      let s := barred.foldl (fun s q =>
        respond q.1.1 q.1.2 { status := .conflict, detail := conflictDetail q.2.2.tag q.2.1.val true } s) s
      let s := lost.foldl (fun s q =>
        respond q.1.1 q.1.2 { status := .conflict, detail := conflictDetail q.2.2.tag q.2.1.val false } s) s
      let s := held.foldl (fun s q => respond q.1 q.2 (answer .busy) s) s
      let order := (execOrder s).flatMap fun h => (run.filter fun q => q.1 == h).map fun q => (h.val, q.2)
      .next (freeEdge before (s.onHosts fun b => { b with dispatchQ := order }))
    else .next s

/-- A lease of a host ends other than by its release: LEASE_LOST (R654). -/
def loseLease (h : Fin 4) (l : Lease) (s : State) : State :=
  s.setHost h (setIrq 0x08 { s.host h with leases := (s.host h).leases.erase l })

/-- LEASE_EXPIRE: leases whose DURATION_MS has passed end (R654). -/
def execLeaseExpire (dt : Nat) (s : State) : Outcome State Fault Refusal :=
  let s := tick dt s
  .next ((List.finRange 4).foldl (fun s h =>
    ((s.host h).leases.filter fun l => l.endRc ≤ s.rc).foldl (fun s l => loseLease h l s) s) s)

/-- The kinds that may be leased (R652). -/
def leasable (c : Nat) : Bool :=
  let k := claimKind c
  (2 ≤ k && k ≤ 0x15) || (0x20 ≤ k && k ≤ 0x25)

/-- SYS 0x0110 LEASE_TAKE (R652). -/
def leaseTake (h : Fin 4) (t : Taken) (s : State) : State × Reply :=
  let ms := fld t.payload 0 4
  let brk := hasBit (fld t.payload 4 1) 0
  let meets := fun (l : Nat) => leaseCovers l t.claim || leaseCovers t.claim l
  if ms < 10 || 3600000 < ms || 1 < fld t.payload 4 1 || !leasable t.claim then (s, answer .badarg)
  else if brk && (s.host h).precedence ≠ 7 then (s, answer .denied)
  else
    match (if brk then none else otherLease s h meets) with
    | some (k, l) => (s, { status := .conflict, detail := conflictDetail l.tag k.val true })
    | none =>
      let mine := (liveLeases s h).find? fun l => l.claim == t.claim
      if mine.isNone && 64 ≤ (liveLeases s h).length then (s, answer .nospace)
      else
        let holders := ((List.finRange 4).filter (· != h)).filter fun k => (liveLeases s k).any fun l => meets l.claim
        let s := holders.foldl (fun s k =>
          raise .leaseBreak (0x20 + h.val) [BitVec.ofNat 8 h.val, BitVec.ofNat 8 k.val]
            (((liveLeases s k).filter fun l => meets l.claim).foldl (fun s l => loseLease k l s) s)) s
        let n : Lease := { claim := t.claim, endRc := s.rc + ofMs ms, tag := (mine.map (·.tag)).getD t.tag }
        let x := s.host h
        (s.setHost h { x with leases := (x.leases.filter fun l => l.claim != t.claim) ++ [n] }, okWith (leBytes 4 ms ++ [0, 0, 0, 0]))

/-- LEASE_TAKE, the command. -/
def execLeaseTake (dt : Nat) (host : Fin 4) (s : State) : Outcome State Fault Refusal :=
  .next (runCmd 0x0110 host (leaseTake host) (tick dt s))

/-- SYS 0x0111 LEASE_RELEASE (R653). -/
def leaseRelease (h : Fin 4) (t : Taken) (s : State) : State × Reply :=
  if (liveLeases s h).any fun l => l.claim == t.claim then
    (s.setHost h { s.host h with leases := (s.host h).leases.filter fun l => l.claim != t.claim }, answer .ok)
  else (s, answer .badarg)

/-- LEASE_RELEASE, the command. -/
def execLeaseRelease (dt : Nat) (host : Fin 4) (s : State) : Outcome State Fault Refusal :=
  .next (runCmd 0x0111 host (leaseRelease host) (tick dt s))

/-- SYS 0x0112 LEASE_READ (R653). -/
def leaseRead (h : Fin 4) (_ : Taken) (s : State) : State × Reply :=
  let l := (liveLeases s h).take 64
  (s, okWith (leBytes 1 l.length ++ List.replicate 7 0
    ++ ((l.flatMap fun (q : Lease) => leBytes 4 q.claim ++ leBytes 4 ((q.endRc - s.rc) / ofMs 1)) ++ List.replicate 512 0).take 512))

/-- LEASE_READ, the command. -/
def execLeaseRead (dt : Nat) (host : Fin 4) (s : State) : Outcome State Fault Refusal :=
  .next (runCmd 0x0112 host (leaseRead host) (tick dt s))

/-- The 32 bytes of SYS_INFO, for a caller with the given host ID, precedence, rings and authority (R655). -/
def sysInfoBytes (s : State) (hostId prec : Nat) (rings : List Nat) (auth : Bool) : List Byte :=
  leBytes 4 (release s) ++ leBytes 1 (roleCode s.cfg.startCfg.role) ++ leBytes 1 (rolePending s) ++ leBytes 1 (lifecycleCode s.pocket.lifecycle)
    ++ leBytes 1 (bit s.pocket.lms) ++ leBytes 2 s.cfg.startCfg.unitId ++ leBytes 1 hostId ++ leBytes 1 prec
    ++ leBytes 4 (if s.cfg.startCfg.role.isNone then 0 else s.sess.usable) ++ leBytes 4 s.fab.dramMib
    ++ leBytes 8 (rings.foldl (fun a n => a + 2 ^ n) 0) ++ leBytes 2 (bit auth + 2 * bit (testRoot s)) ++ [0, 0]

/-- SYS 0x0101 SYS_INFO (R655). -/
def sysInfo (h : Fin 4) (_ : Taken) (s : State) : State × Reply :=
  let x := s.host h
  (s, okWith (sysInfoBytes s h.val x.precedence ((ringsOf s h.val).map (·.number)) x.timeAuth))

/-- SYS_INFO, the command. -/
def execSysInfo (dt : Nat) (host : Fin 4) (s : State) : Outcome State Fault Refusal :=
  .next (runCmd 0x0101 host (sysInfo host) (tick dt s))

/-! ### Going offline (R624) -/

/-- A host goes offline: leases end, queued responses are discarded, the series is reset, the items of its rings are discarded and
their indices are 0; its stagings of R690 and R837 are dropped and its tolerance is withdrawn (R624, R690, R819). -/
def goOffline (h : Fin 4) (s : State) : State :=
  let s := (s.host h).leases.foldl (fun s l => loseLease h l s) s
  let x := s.host h
  let s := s.setHost h { x with
    online := false, respQ := [], lastSeq := none, lastResp := none, heldNotices := [], tolUs := none
    openCmds := x.openCmds.map fun t => { t with dead := true } }
  let s := s.onHosts fun b =>
    { b with
      rings := b.rings.map fun r => if r.owner == h.val then { r with items := [], prod := 0, cons := 0 } else r
      dispatchQ := b.dispatchQ.map fun q => if q.1 = h.val then (q.1, { q.2 with dead := true }) else q }
  let s := s.onEvt fun v => { v with q10 := v.q10.map fun e =>
    match e.reply with
    | some (k, t) => if k = h.val then { e with reply := some (k, { t with dead := true }) } else e
    | none => e }
  let s := if s.pocket.stagedOwner == some h.val && s.pocket.applying.isNone then clearStaging s else s
  if s.cfg.stagedOwner == some h.val && s.cfg.applying.isNone then s.onCfg fun c => { c with staged := [], stagedOwner := none } else s

/-- DETACH: the host writes HOST.DOORBELL.DETACH (R624). -/
def execDetach (dt : Nat) (host : Fin 4) (s : State) : Outcome State Fault Refusal :=
  let s := tick dt s
  if s.pwr.aonOn && (s.host host).port ≠ 0 then .next (freeEdge s (goOffline host (ringBell host s))) else .next s

/-- HOST_OFFLINE: a PCIe function's link goes down or takes a function-level reset (R624). -/
def execHostOffline (dt : Nat) (host : Fin 4) (s : State) : Outcome State Fault Refusal :=
  let s := tick dt s
  let p := (s.host host).port
  if s.pwr.aonOn && 1 ≤ p && p ≤ 4 then .next (freeEdge s (goOffline host s)) else .next s

/-! ### Host rings (R657–R661) -/

/-- Whether the ring control page takes writes: its memory is in the fabric's domain (R802; log entry 28). -/
def ringPageOn (s : State) : Bool := logicUp s && (s.pwr.state == .run || s.pwr.state == .trim)

/-- A bad index write is ignored and sets STAT bit 0 (R658). -/
def badIndex (r : RingSt) (s : State) : State := setRing { r with stat := r.stat ||| 1 } s

/-- RING_PROD_WRITE: the host advances PROD of its request ring over the items it has written (R657, R658, R661). -/
def execRingProdWrite (dt : Nat) (host : Fin 4) (ordinal prod : Nat) (items : List (List Byte)) (s : State) : Outcome State Fault Refusal :=
  let s := tick dt s
  if ringPageOn s && (s.host host).port ≠ 0 then
    let s := touchHost host s
    match (ringsOf s host.val)[ordinal]? with
    | none => .next s
    | some r =>
      if r.source ≠ 4 then .next s
      else
        let n := (prod + 0x100000000 - r.prod) % 0x100000000
        if 0x80000000 ≤ n || r.depth < ringFill r + n then .next (badIndex r s)
        else
          let new := (List.range n).map fun i => ((items.getD i []) ++ List.replicate r.slot 0).take r.slot
          .next (setRing { r with prod := w32 prod, items := r.items ++ new } s)
  else .next s

/-- Pushes the notices held for a host's rings, oldest first, as far as their rings have room (R660). -/
def pushHeld (host : Fin 4) (s : State) : State :=
  let held := (s.host host).heldNotices
  let s := s.setHost host { s.host host with heldNotices := [] }
  held.foldl (fun s q =>
    let keep := fun (s : State) => s.setHost host { s.host host with heldNotices := (s.host host).heldNotices ++ [q] }
    if (s.host host).heldNotices.any fun p => p.1 == q.1 then keep s
    else match pushRing q.1 q.2 s with
      | some s' => s'
      | none => keep s) s

/-- RING_CONS_WRITE: the host advances CONS of a ring it consumes, which makes room for held notices (R658, R660). -/
def execRingConsWrite (dt : Nat) (host : Fin 4) (ordinal cons : Nat) (s : State) : Outcome State Fault Refusal :=
  let s := tick dt s
  if ringPageOn s && (s.host host).port ≠ 0 then
    let s := touchHost host s
    match (ringsOf s host.val)[ordinal]? with
    | none => .next s
    | some r =>
      if r.source = 4 then .next s
      else
        let n := (cons + 0x100000000 - r.cons) % 0x100000000
        if ringFill r < n then .next (badIndex r s)
        else .next (pushHeld host (setRing { r with cons := w32 cons, items := r.items.drop n } s))
  else .next s

/-! ### Register accesses (R627–R632) -/

/-- COLLAR_HALFWORD_READ: a read of the low half-word at a chip select latches all 32 bits; it is the read that latches the time
and mains snapshots (R623, R627). -/
def execCollarHalfwordRead (dt : Nat) (cs : Fin 2) (off : Nat) (s : State) : Outcome State Fault Refusal :=
  let s := tick dt s
  if s.pwr.aonOn then
    let port := 5 + cs.val
    let put := fun (w : Word) (s : State) => s.onHosts fun b => { b with hlbRead := b.hlbRead.set cs.val w }
    match (List.finRange 4).find? fun h => (s.host h).port == port with
    | none => .next (put (sharedWord s off 0) s)
    | some h =>
      let s := touchHost h s
      let s := if off = 0x010 then latchTime h s else if off = 0x034 then latchMains h s else s
      .next (put (collarRead s h off) s)
  else .next s

/-- Clears bits of a host's own copies of W1C bits (R630). -/
def clearSticky (h : Fin 4) (off : Nat) (v : Word) (s : State) : State :=
  let x := s.host h
  s.setHost h { x with sticky := tput x.sticky off (stickyOf x off &&& ~~~v) }

/-- A 32-bit write of a host to the Collar (R630, R632). -/
def collarWrite (h : Fin 4) (off : Nat) (v : Word) (s : State) : State :=
  let x := s.host h
  if off = 0x008 then clearSticky h off v (s.onHosts fun b => { b with alarmN := b.alarmN &&& ~~~v })
  else if off = 0x030 || (0x040 ≤ off && off ≤ 0x080 && off % 4 = 0) then clearSticky h off v s
  else if off = 0x0C8 then s.setHost h { x with irq := x.irq &&& ~~~(v.setWidth 5) }
  else if off = 0x0CC then s.setHost h (irqChange (fun y => { y with irqEn := v.setWidth 5 }) x)
  else if off = 0x0D0 then s.setHost h { x with ringIrq := x.ringIrq &&& ~~~(v.setWidth 16) }
  else s

/-- A write to THRESH or STAT of the ring control page (RC3, RC4); a THRESH outside QD8 is ignored (log entry 28). -/
def ringPageWrite (h : Fin 4) (off : Nat) (v : Word) (s : State) : State :=
  if !ringPageOn s then s
  else
    match (ringsOf s h.val)[(off - 0x3000) / 16]? with
    | none => s
    | some r =>
      if off % 16 = 8 then (if 1 ≤ v.toNat && v.toNat ≤ r.depth then setRing { r with thresh := v.toNat } s else s)
      else if off % 16 = 12 then setRing { r with stat := r.stat &&& ~~~(v.setWidth 2) } s
      else s

/-- A whole write to the address map of R625. -/
def hostWrite (h : Fin 4) (off : Nat) (v : Word) (s : State) : State :=
  if off < 0x400 then collarWrite h off v s else if 0x3000 ≤ off && off < 0x3100 then ringPageWrite h off v s else s

/-- REGISTER_WRITE: a host writes a register with no row of its own. `half` is none for a 32-bit write of a PCIe or QSPI host;
on the Host Local Bus it says which half-word of a Collar register is written: the low one waits, the high one makes the
write take effect (R627). -/
def execRegisterWrite (dt : Nat) (host : Fin 4) (off : Nat) (half : Option Bool) (value : Word) (s : State) : Outcome State Fault Refusal :=
  let s := tick dt s
  let port := (s.host host).port
  if s.pwr.aonOn && port ≠ 0 then
    let s := touchHost host s
    match half with
    | none => if port = 5 || port = 6 then .next s else .next (hostWrite host off value s)
    | some high =>
      if port = 5 || port = 6 then
        let i := port - 5
        if high then .next (hostWrite host off ((value.setWidth 16 ++ s.hosts.hlbWrite.getD i 0 : BitVec 32)) s)
        else .next (s.onHosts fun b => { b with hlbWrite := b.hlbWrite.set i (value.setWidth 16) })
      else .next s
  else .next s

end Sys2Proof.Machine
end

