-- ==== Sys2Proof/Machine/Cfg.lean ====
section
/-! DEFINITION. Configuration images, their checks, overlays and the CFG commands ("Configuration images and limited-count
settings"). -/

namespace Sys2Proof.Machine

open Host (Outcome)

/-! ### The checks of an image (R824) -/

/-- Whether `v` stands from `lo` to `hi`. -/
def within (lo hi v : Nat) : Bool := lo ≤ v && v ≤ hi

/-- Lengths in minutes that DM3 and R219 allow. -/
def gridMinutes (n : Nat) : Bool := [1, 2, 3, 4, 5, 6, 10, 12, 15, 20, 30, 60].contains n

/-- Hosts, rings, the endpoints of Q0 to Q11 and rings named by settings (R47, R50, R483, R584, R621, R656). -/
def hostsOk (c : BaseCfg) : Bool :=
  let ports := (c.hosts.map (·.port)).filter (· != 0)
  let least := fun (src : Nat) => if src = 1 || src = 2 then 2080 else if src = 3 then 64 else 32
  let named := fun (q : Nat) => q = 0 || c.rings.any fun r => r.number == q
  c.hosts.length = 4 && c.hosts.all (fun h => h.port ≤ 7 && h.precedence ≤ 7) && ports.eraseDups.length = ports.length
    && (c.rings.map (·.number)).eraseDups.length = c.rings.length
    && c.rings.all (fun r => within 12 63 r.number && r.owner ≤ 3 && r.source ≤ 5 && r.base % 4096 = 0 && within 32 4096 r.slot
      && r.slot % 32 = 0 && least r.source ≤ r.slot && [8, 16, 32, 64, 128, 256, 512, 1024, 2048, 4096, 8192, 16384, 32768, 65536].contains r.depth
      && r.shadow % 8 = 0 && within 1 r.depth r.thresh
      && (!r.hostMemory || within 1 4 ((c.hosts.map (·.port)).getD r.owner 0)) && (r.shadow = 0 || r.hostMemory))
    && (List.range 4).all (fun h =>
      let mine := c.rings.filter fun r => r.owner == h
      mine.length ≤ 16 && (mine.filter fun r => r.source == 4).length ≤ 1 && (mine.filter fun r => r.source == 5).length ≤ 1)
    && named c.bal.ring && named c.fleetRing
    && (c.ringPlan.map (·.ring)).eraseDups.length = 12 && c.ringPlan.length = 12
    && c.ringPlan.all (fun p => p.ring ≤ 11 && !p.producers.isEmpty)

/-- Time, sag and swell, tariffs, demand, billing and pulses (R123, R129, R140, R202, R203, R209, R212, R219, R222, R234, R235, R250,
R251). -/
def meteringOk (c : BaseCfg) : Bool :=
  within 10000 1000000000 c.stepThresholdNs && within 1 500 c.slewPpm
    && (match c.utcOffset with | some u => -32768 ≤ u && u ≤ 32767 | none => true)
    && within 1000 1000000000 c.declaredMv && within 500 950 c.sagPct && within 1050 1500 c.swellPct && within 10 200 c.intrPct
    && c.hystPct ≤ 100 && c.intrPct + c.hystPct < c.sagPct && c.sagPct + c.hystPct ≤ 1000 && 1000 + c.hystPct ≤ c.swellPct
    && c.unit.all (fun u => u = 1 || u = 10 || u = 100 || u = 1000) && within 1 8 c.ratesUsed && c.tinMode ≤ 2 && within 1 250 c.debounce
    && c.demand.all (fun d => gridMinutes d.lengthMin && within 1 15 d.subint && d.lengthMin * 60 % d.subint = 0
      && (d.sliding || d.subint = 1) && d.pairs.length ≤ 64 && d.pairs.all (fun p => p.1 ≤ 31 && p.2 ≤ 7) && (!d.enable || !d.pairs.isEmpty))
    && gridMinutes c.seriesLen && c.billingDay ≤ 28 && c.billingMin ≤ 1439
    && c.pulses.all (fun p => p.code ≤ 7 && within 1 4000000000 p.perPulse && within 2 100 p.widthMs && !maskRefused p.enable p.pointMask)

/-- Radio, links and power line (R262, R267–R270, R287, R290, R302, R339, R340, R602). -/
def linksOk (c : BaseCfg) : Bool :=
  let on := lanesOn c
  feOk c.feA && feOk c.feB
    && c.lanes.all (fun p => p.1 ≤ 63 && p.2.fe ≤ 1 && p.2.chanId ≤ 65535 && (p.2.phy = 0 || (phyWidth p.2.phy).isSome) && (!p.2.enable || laneValid c p.2))
    && (on.map fun p => (p.2.fe, p.2.phy, p.2.offset)).eraseDups.length = on.length
    && (on.filter fun p => within 0x20 0x23 p.2.phy).length ≤ 16
    && c.subBands.length ≤ 8 && c.panId ≤ 65535 && wurFreqOk c.wur.freqHz && c.wur.addrs.length ≤ 4
    && c.linkProfiles.all (fun p => p.1 ≤ 15 && linkProfileOk p.2) && plcCfgOk c.plc
    && c.carriers.all (fun x => x.fe ≤ 1 && (x.phy = 0 || (phyWidth x.phy).isSome) && wurFreqOk x.freqHz && x.wakeRepeat ≤ 255)

/-- The calendar of R833: rates within RATES_USED, profiles that exist, seasons and switches in rising order. -/
def calendarOk (c : BaseCfg) (t : Calendar) : Bool :=
  let rising := fun (l : List Nat) => (l.zip (l.drop 1)).all fun p => p.1 < p.2
  within 1 16 t.seasons.length && within 1 8 t.weeks.length && within 1 16 t.days.length && t.special.length ≤ 64
    && rising (t.seasons.map fun x => x.month * 32 + x.day) && t.seasons.all (fun x => x.week < t.weeks.length)
    && t.weeks.all (fun w => w.length = 7 && w.all (· < t.days.length))
    && t.days.all (fun d => within 1 12 d.length && rising (d.map (·.1)) && d.all (fun q => q.1 < 1440 && within 1 c.ratesUsed q.2))
    && t.special.all (fun x => x.profile < t.days.length)

/-- Parsing, validation, balance and scores (R390, R410, R415, R416, R482, R483). -/
def dataOk (c : BaseCfg) : Bool :=
  let b := c.bal
  c.parse.all (fun p => p.1 ≤ 63 && parseFieldsOk p.2) && c.vee.all (fun p => p.1 ≤ 31 && veeFieldsOk p.2) && c.ownVee ≤ 31
    && c.shapes.all (fun p => p.1 ≤ 63 && p.2.length = 672)
    && b.topoCh ≤ 0x7FFF && within 1 28 b.windowDays && within 96 2688 b.nMin && b.rMin ≤ 1000 && b.rMinF ≤ 1000 && within 500 999 b.confMin
    && within 1 10922 b.zcSpread && b.importCh ≤ 0x7FFF && (b.exportCh ≤ 0x7FFF || b.exportCh = 0xFFFF) && within 60 1440 b.reportDelayMin
    && within 7 28 b.fitDays && b.coverMin ≤ 100000 && within 10 5000 b.residAlertBp && within 10 5000 b.residNegBp
    && (b.ring = 0 || within 12 63 b.ring) && b.weights.length = 4 && b.weights.all (· ≤ 255) && b.weights.any (· != 0)
    && within 1 1000 b.scoreAlert && within 7 90 b.scoreDays && b.tamperCodes.length ≤ 16
    && (match c.calendar with | some t => calendarOk c t | none => true)

/-- UP1 and the latency parameters B1–B3, in 1/65,536 ns (R140, R544). -/
def portOk (p : PortCfg) : Bool := p.mode ≤ 2 && p.txLat ≤ 131072000 && p.rxLat ≤ 131072000 && p.asym.natAbs ≤ 6553600000

/-- Archive, uplink, fleet, pair, recorder and power (R402, R510, R516, R524, R527, R529, R532, R544, R548, R568, R583, R724, R761,
R763, R787, R795, R809, R829). -/
def systemOk (c : BaseCfg) : Bool :=
  let a := c.arch
  within 256 2048 c.stagingMib && within 8 32 a.width && a.hostGib ≤ 1024 && within 4 28 a.opPct && within 5 3000 a.flushMc
    && within 2 20 a.highWm && within 1 10 a.lowWm && a.lowWm < a.highWm && within 7 90 a.patrolDays && within 16 512 a.versionMib
    && within 1 400 a.versionDays && c.ports.all portOk && c.unitId ≤ 4095 && !(c.parent && c.headEnd)
    && within 10 5000 c.bundleMaxMs && within 10000 4000000000 c.latBudgetUs && within 16 224 c.fleetMib
    && (c.fleetRing = 0 || within 12 63 c.fleetRing) && c.pair.side ≤ 1 && c.pair.hbPhase ≤ 65535 && within 3000 4320000 c.pair.holdoffMc
    && within 8 250 c.pair.listenMc && within 64 1024 c.pair.journalMib && c.evtMode ≤ 1 && c.evtCodes.length ≤ 64
    && c.evtCodes.all (fun e => e.rate ≤ 3600 && within 1 255 e.burst && e.snap.length ≤ 8 && e.snap.all snapAllowed)
    && within 28000 45000 c.warnMv && c.warnMv % 500 = 0 && within 20 2000 c.recoverMs && c.defaultTolUs ≤ 1000000
    && c.ovlAuto &&& 0x97 == 0 && within 3000 180000 c.islandMc && within 1000 10000000 c.catchupRecords

/-- A pair setting names another unit, and the one that the last pair role lock binds (R725, R726). -/
def pairCfgOk (s : State) (p : PairCfg) : Bool :=
  !p.enable || (p.partnerHash ≠ 0 && p.partnerHash ≠ idHashNow s
    && (match s.pair.locks.getLast? with | some l => l == (p.partnerHash, p.side) | none => true))

/-- Every rule of the chapters on one whole configuration but the role. -/
def wholeOk (s : State) (c : BaseCfg) : Bool := hostsOk c && meteringOk c && linksOk c && dataOk c && systemOk c && pairCfgOk s c.pair

/-- CV1–CV3, CV5 and CV6, which the store's slots must pass too (R824, R825); `none` when all pass. -/
def imageFault (s : State) (i : CfgImage) (stale : Bool) : Option Status :=
  if !i.magicOk then some .badarg
  else if !i.sigOk then some .denied
  else if i.hwType ≠ 0x9100 || (i.idHash ≠ 0 && i.idHash ≠ idHashNow s) || i.root ≠ bit (testRoot s) then some .denied
  else if stale then some .stale
  else if !i.schemaOk || i.base.role.isNone || i.overlayRole || !wholeOk s i.base || i.overlays.any (fun o => !wholeOk s o.2) then some .badarg
  else if !i.overlayOk then some .badarg
  else none

/-- The FIELDs of a section's entries; none where an entry does not fit, is not padded with zeros, or names no class code (R822). -/
def sectionFields : Nat → List Byte → Option (List Nat)
  | 0, b => if b.isEmpty then some [] else none
  | n + 1, b =>
    if b.isEmpty then some []
    else
      let len := fld b 2 2
      let whole := 4 + (len + 3) / 4 * 4
      if b.length < whole || !((b.take whole).drop (4 + len)).all (· == 0) || !within 0x01 0x12 (fld b 1 1) then none
      else (sectionFields n (b.drop whole)).map (fld b 0 2 :: ·)

/-- Whether a section is a sequence of entries in which no FIELD appears twice (R822). -/
def sectionOk (b : List Byte) : Bool :=
  match sectionFields (b.length / 4) b with
  | some l => l.eraseDups.length = l.length
  | none => false

/-- The image that staged bytes hold: the header and the sections' entries as R821 and R822 lay them out, `i` being what the schema reads in
its sections. -/
def imageOfStaged (b : List Byte) (i : CfgImage) : CfgImage :=
  let mask := fld b 7 1
  let lens := (List.range 8).map fun n => fld b (52 + 2 * n) 2
  let lensOk := (List.range 8).all fun n => if hasBit mask n then lens.getD n 0 ≤ 4096 && lens.getD n 0 % 4 = 0 else lens.getD n 0 = 0
  let base := fld b 48 4
  let starts := (List.range 8).map fun n => 128 + base + (lens.take n).foldl (· + ·) 0
  { i with
    magicOk := fld b 0 4 == 0x47464344 && fld b 4 2 == 1 && base ≤ 262144 && base % 4 == 0 && lensOk
      && 128 + base + lens.foldl (· + ·) 0 + 96 == b.length
    schemaOk := i.schemaOk && sectionOk ((b.drop 128).take base)
      && (List.range 8).all fun n => sectionOk ((b.drop (starts.getD n 0)).take (lens.getD n 0))
    root := fld b 6 1, hwType := fld b 8 4, version := fld b 12 4, idHash := fld b 16 32
    overlays := ((List.range 8).filter (hasBit mask)).map fun n => (n, tget i.overlays n i.base) }

/-! ### Settings in force (R827, R828) -/

/-- A configuration whose START_ONLY fields are those of another (R827; log entry 29). -/
def withStart (s c : BaseCfg) : BaseCfg :=
  { c with
    role := s.role, unitId := s.unitId, feAPowered := s.feAPowered, feBPowered := s.feBPowered, plcPowered := s.plcPowered
    arch := { c.arch with
      width := s.arch.width, hostGib := s.arch.hostGib, opPct := s.arch.opPct, versionMib := s.arch.versionMib
      autoformat := s.arch.autoformat, part := s.arch.part, tempFeature := s.arch.tempFeature, ratedPe := s.arch.ratedPe }
    demand := s.demand, seriesLen := s.seriesLen, billingDay := s.billingDay, billingMin := s.billingMin
    metroPowered := s.metroPowered, clusters := s.clusters, ringPlan := s.ringPlan, slotPlan := s.slotPlan, hosts := s.hosts, rings := s.rings
    stagingMib := s.stagingMib, parent := s.parent, headEnd := s.headEnd, fleetMib := s.fleetMib
    pair := s.pair, evtMode := s.evtMode, warnMv := s.warnMv, nominal60 := s.nominal60 }

/-- The configuration that an image gives under an overlay (R828). -/
def underOverlay (i : CfgImage) (n : Nat) : BaseCfg := tget i.overlays n i.base

/-- A value that a change from `o` to `n` touches becomes `n`; any other stays `a`. -/
def mergeOne {α : Type} [DecidableEq α] (o n a : α) : α := if o = n then a else n

/-- `mergeOne` for every key of sparse tables. -/
def mergeTab {α : Type} [DecidableEq α] (d : α) (o n a : List (Nat × α)) : List (Nat × α) :=
  ((o ++ n ++ a).map (·.1)).foldl (fun t k => tput t k (mergeOne (tget o k d) (tget n k d) (tget a k d))) []

/-- The configuration that a change of the settings in force from `o` to `n` leads to: what commands have changed since stays where
the change does not touch it, `a` being the words with the copies that wait (log entry 29). -/
def mergeCfg (o n a : BaseCfg) : BaseCfg :=
  { n with
    feA := mergeOne o.feA n.feA a.feA, feB := mergeOne o.feB n.feB a.feB, lanes := mergeTab {} o.lanes n.lanes a.lanes
    subBands := mergeOne o.subBands n.subBands a.subBands, wur := mergeOne o.wur n.wur a.wur
    linkProfiles := mergeTab {} o.linkProfiles n.linkProfiles a.linkProfiles, plc := mergeOne o.plc n.plc a.plc
    parse := mergeTab {} o.parse n.parse a.parse, vee := mergeTab {} o.vee n.vee a.vee, shapes := mergeTab [] o.shapes n.shapes a.shapes
    pulses := (List.range 8).map fun k => mergeOne (o.pulses.getD k {}) (n.pulses.getD k {}) (a.pulses.getD k {}) }

/-- Posts the entries of a table that differ. -/
def postTab {α : Type} [DecidableEq α] (d : α) (word : Nat → α → CtlWord) (cur new : List (Nat × α)) (s : State) : State :=
  ((cur ++ new).map (·.1)).foldl (fun s k =>
    if tget cur k d = tget new k d || s.fab.shadow.contains (word k (tget new k d)) then s else postWord (word k (tget new k d)) s) s

/-- Posts the control words of the radio, link, ingest, validation, metrology, archive and uplink stages that differ (R51, R53, R812,
R830). -/
def postWords (new : BaseCfg) (s : State) : State :=
  let cur := shadowCfg s
  let s := if cur.feA = new.feA then s else (armRequest (.fe 0) new.feA.enable (.fe new.feA) (postWord (.fe 0 new.feA)) s).1
  let s := if cur.feB = new.feB then s else (armRequest (.fe 1) new.feB.enable (.fe new.feB) (postWord (.fe 1 new.feB)) s).1
  let lane := fun (s : State) (k : Nat) =>
    let c := laneIn new k
    if laneIn cur k = c then s else (armRequest (.lane k) c.enable (.lane c) (postWord (.lane k c)) s).1
  let s := (List.range 64).foldl lane s
  let s := if cur.wur = new.wur then s else (armRequest .wur new.wur.enable (.wur new.wur) (postWord (.wur new.wur)) s).1
  let s := if cur.subBands = new.subBands then s else postWord (.subBands new.subBands) s
  let s := postTab {} .linkProfile cur.linkProfiles new.linkProfiles s
  let s := postTab {} .parse cur.parse new.parse s
  let s := postTab {} .vee cur.vee new.vee s
  let s := if metroOf cur = metroOf new then s else postWord (.metro (metroOf new)) s
  let s := if cur.arch = new.arch then s else postWord (.arch new.arch) s
  let s := if (cur.bundleMaxMs, cur.latBudgetUs) = (new.bundleMaxMs, new.latBudgetUs) then s
    else postWord (.uplink new.bundleMaxMs new.latBudgetUs) s
  postTab [] .shape cur.shapes new.shapes s

/-- The power-line settings change: MODE at the first cycle start at least 64 pt ahead, the other fields by commit (R341, R812). -/
def takePlc (c : PlcCfg) (s : State) : State :=
  let old := (shadowCfg s).plc
  let fields := fun (s : State) => if old = { c with mode := old.mode } then s else postWord (.plc { c with mode := old.mode }) s
  if c.mode = modeToBe s && (transitOf s .plc).isNone then fields s
  else (armRequest .plc (c.mode ≠ 0) (.plc c) (fun s => let s := fields s; (placeMode c.mode s).getD s) s).1

/-- An uplink port takes its MODE: its connections on the old line end, and a MODE of 0 begins the shutdown (R544, RA5). -/
def commitPort (p mode : Nat) (s : State) : State :=
  let old := (portCfg s p).mode
  let s := s.onCfg fun c => { c with act := { c.act with ports := modAt c.act.ports p fun q => { q with mode := mode } } }
  if old = mode then s
  else
    let s := setLink p 0 s
    let s := if (s.upl.conn.map (·.port)) = some p then endUp 1 s else s
    if mode = 0 then beginTransit (.port p) false (ofS 2) s else s

/-- The uplink ports change: MODE by its request, the other settings by commit (X8). -/
def takePorts (l : List PortCfg) (s : State) : State :=
  (List.range 2).foldl (fun s p =>
    let c := l.getD p {}
    let old := (shadowCfg s).ports.getD p {}
    let s := if old = { c with mode := old.mode } then s else postWord (.port p c) s
    if (portCfg s p).mode = c.mode && (transitOf s (.port p)).isNone then s
    else (armRequest (.port p) (c.mode ≠ 0) (.port c.mode) (commitPort p c.mode) s).1) s

/-- Pulse outputs whose configuration differs take the new one at this cycle (R258). -/
def takePulses (l : List PulseCfg) (s : State) : State :=
  (List.range 8).foldl (fun s k =>
    let c := l.getD k {}
    let cur := match (pulseOf s k).pendingCfg with | some (x, _) => x | none => pulseCfg s k
    if cur = c then s else onPulse k (fun p => { p with pendingCfg := some (c, s.mains.cycle) }) s) s

/-- Series whose settings change are placed afresh from the present instant, or from that of the last fired occurrence where a backward
step has left it ahead (R86, R112, R205, R214, R219, R222). -/
def replaceSeries (o n : BaseCfg) (s : State) : State :=
  let clock := o.localOffsetMin ≠ n.localOffsetMin || o.dst ≠ n.dst || o.utcOffset ≠ n.utcOffset
  let hit : SchedAction → Bool := fun a => match a with
    | .billingClose => clock
    | .tariffSwitch _ => clock || o.calendar ≠ n.calendar
    | _ => false
  (allSeries.filter hit).foldl (fun s a => placeSeries a (max s.tai (tget s.sched.lastFired (seriesId a) 0)) s) s

/-- A new calendar or number of rates decides the rate from this cycle on (R202, R205, R833). -/
def retariff (o n : BaseCfg) (s : State) : State :=
  let s := if o.calendar = n.calendar then s else s.onReg fun g => { g with calRate := calendarRate s s.tai }
  if o.calendar = n.calendar && o.ratesUsed = n.ratesUsed then s else commitRate s.mains.cycle s

/-- Whether any of TP1–TP10 differs (R484). -/
def topoDiffers (o n : BalCfg) : Bool :=
  (o.topoCh, o.topoMask, o.windowDays, o.nMin, o.rMin) ≠ (n.topoCh, n.topoMask, n.windowDays, n.nMin, n.rMin)
    || (o.rMinF, o.confMin, o.zcUse, o.zcSpread, o.phaseSeq) ≠ (n.rMinF, n.confMin, n.zcUse, n.zcSpread, n.phaseSeq)

/-- The settings in force become `e`: with `full` every field takes its value, else those that differ from the settings in force
before; START_ONLY fields stay as the last start took them (R827, R828, R830). -/
def takeSettings (full : Bool) (e : BaseCfg) (s : State) : State :=
  let e := withStart s.cfg.startCfg e
  let o := s.cfg.act
  let cur := shadowCfg s
  let n := if full then e else mergeCfg s.cfg.eff e { cur with pulses := o.pulses }
  let keep := { n with feA := o.feA, feB := o.feB, lanes := o.lanes, subBands := o.subBands, wur := o.wur, linkProfiles := o.linkProfiles
                       plc := o.plc, parse := o.parse, vee := o.vee, shapes := o.shapes, pulses := o.pulses, ports := o.ports
                       arch := o.arch, bundleMaxMs := o.bundleMaxMs, latBudgetUs := o.latBudgetUs }
  let keep := setMetro (metroOf o) keep
  let s := s.onCfg fun c => { c with eff := e, act := keep }
  let s := takePulses n.pulses (takePorts n.ports (takePlc n.plc (postWords n s)))
  let s := retariff o n (replaceSeries o n s)
  if topoDiffers o.bal n.bal then restartWindows s else s

/-- An overlay comes in force (R828, R830, R832): `selected` is the selection, `n` the overlay. -/
def putOverlay (selected n key : Nat) (full : Bool) (s : State) : State :=
  match s.cfg.running with
  | none => s
  | some i =>
    let s := s.onCfg fun c => { c with selected := selected, overlay := n, lastChangeKey := key }
    let s := takeSettings full (underOverlay i n) s
    s.onCfg fun c => { c with autoOn := (overlayFor s selected).2 }

/-- OVERLAY_CHANGE: the class 6 entry puts a new overlay, or a new base image with the overlay in force over it, in force (R55, R827,
R830, R832). -/
def execOverlayChange (dt : Nat) (s : State) : Outcome State Fault Refusal :=
  let s := tick dt s
  match dispatch (fun a => match a with | .overlayChange _ | .cfgTake => true | _ => false) s with
  | some (e, s) =>
    match e.action with
    | .overlayChange t =>
      let sel := if t < 8 then t else s.cfg.selected
      let n := if t < 8 then (overlayFor s t).1 else t - 8
      .next (evalTriggers (putOverlay sel n e.key false s))
    | .cfgTake =>
      let s := s.onCfg fun c => { c with running := c.inForce }
      .next (evalTriggers (putOverlay s.cfg.selected s.cfg.overlay s.cfg.lastChangeKey true s))
    | _ => .next s
  | none => .next s

/-- ISLANDED_TRIGGER: an upstream is named and has not been up for ISLAND_MC (R829–R831). -/
def execIslandedTrigger (dt : Nat) (s : State) : Outcome State Fault Refusal :=
  let s := tick dt s
  if uplinkRuns s && namesUpstream s && s.upl.state ≠ 2 && autoEnabled s 5 && !s.cfg.trigIslanded
      && s.cfg.islandFrom + s.cfg.act.islandMc ≤ s.mains.cycle then
    .next (evalTriggers (s.onCfg fun c => { c with trigIslanded := true }))
  else .next s

/-! ### The CFG commands (R836, R837) -/

/-- CFG_STATUS' work (R837). -/
def cfgStatus (h : Fin 4) (_ : Taken) (s : State) : State × Reply :=
  let c := s.cfg
  let ver := fun (i : Option CfgImage) => (i.map (·.version)).getD 0
  (s, okWith (leBytes 4 (ver c.running) ++ leBytes 4 c.version ++ leBytes 4 (ver c.previous)
    ++ leBytes 4 (cfgStat s (stickyOf (s.host h) 0x080)).toNat ++ leBytes 8 c.lastChangeKey ++ leBytes 4 c.superseded ++ leBytes 4 0))

/-- CFG_STATUS (R837). -/
def execCfgStatus (dt : Nat) (host : Fin 4) (s : State) : Outcome State Fault Refusal :=
  .next (runCmd 0x1201 host (cfgStatus host) (tick dt s))

/-- Whether another host's staging or an apply in progress stands in the way (R690, R837). -/
def cfgBusy (s : State) (h : Fin 4) : Bool :=
  s.cfg.applying.isSome || (s.cfg.stagedOwner.isSome && s.cfg.stagedOwner ≠ some h.val)

/-- CFG_LOAD's work (R690, R837). -/
def cfgLoad (h : Fin 4) (t : Taken) (s : State) : State × Reply :=
  let off := fld t.payload 0 4
  let piece := t.payload.drop 8
  if cfgBusy s h then (s, answer .busy)
  else if off ≠ 0 && off ≠ s.cfg.staged.length then (s, answer .stale)
  else if piece.isEmpty || 4072 < piece.length || 524288 < off + piece.length then (s, answer .badarg)
  else
    let b := if off = 0 then piece else s.cfg.staged ++ piece
    (s.onCfg fun c => { c with staged := b, stagedOwner := some h.val }, okWith (leBytes 4 b.length ++ leBytes 4 0))

/-- CFG_LOAD (R837). -/
def execCfgLoad (dt : Nat) (host : Fin 4) (s : State) : Outcome State Fault Refusal :=
  .next (runCmd 0x1202 host (cfgLoad host) (tick dt s))

/-- CFG_APPLY's work: `image` is what the schema reads in the staged sections, with the verdict on the signature (R824, R837). -/
def cfgApply (h : Fin 4) (image : CfgImage) (t : Taken) (s : State) : State × Reply :=
  let key := fld t.payload 8 8
  let i := imageOfStaged s.cfg.staged image
  if cfgBusy s h then (s, answer .busy)
  else
    let fault := if fld t.payload 0 4 ≠ s.cfg.staged.length || s.cfg.staged.isEmpty then some .badarg
      else imageFault s i (i.version ≤ s.cfg.version)
    match fault with
    | some st => (setSticky 0x080 0x400 s, answer st)
    | none =>
      if key ≠ 0 && !aheadEnough s key then (s, answer .stale)
      else (s.onCfg fun c => { c with applying := some { host := h.val, taken := t, key := key, image := i } }, answer .pending)

/-- CFG_APPLY (R837). -/
def execCfgApply (dt : Nat) (host : Fin 4) (image : CfgImage) (s : State) : Outcome State Fault Refusal :=
  .next (runCmd 0x1203 host (cfgApply host image) (tick dt s))

/-- The moves of R826: IN_FORCE to PREVIOUS, STAGED to IN_FORCE, and the stored CFG_VERSION. -/
def moveStore (j : CfgJob) (s : State) : State :=
  s.onCfg fun c => { c with previous := c.inForce, inForce := some j.image, version := max c.version j.image.version, applying := none
                            staged := [], stagedOwner := none }

/-- CFG_APPLY_COMPLETE: the moves have ended; START_ONLY fields wait for the next start, the others for a class 6 entry (R826, R827). -/
def execCfgApplyComplete (dt : Nat) (s : State) : Outcome State Fault Refusal :=
  let s := tick dt s
  match s.cfg.applying with
  | none => .next s
  | some j =>
    if logicUp s then
      let s := moveStore j s
      let key := if j.key = 0 then nextCycleStart s else j.key
      let s := s.onCfg fun c => { c with pendingStart := withStart c.startCfg j.image.base ≠ j.image.base }
      let s := placeOr { cls := 6, action := .cfgTake, key := key } s
      .next (finishAt j.host j.taken (okWith (leBytes 8 key)) s)
    else .next s

/-- CFG_OVERLAY's work (R830, R831, R837). -/
def cfgOverlay (t : Taken) (s : State) : State × Reply :=
  let n := fld t.payload 0 1
  let key := fld t.payload 8 8
  if 7 < n then (s, answer .badarg)
  else if s.cfg.running.isNone then (s, answer .locked)
  else if key ≠ 0 && !aheadEnough s key then (s, answer .stale)
  else
    let at_ := if key = 0 then nextCycleStart s else (key + 65535) / 65536 * 65536
    (placeOverlay n at_ s, okWith (leBytes 8 at_))

/-- CFG_OVERLAY (R837). -/
def execCfgOverlay (dt : Nat) (host : Fin 4) (s : State) : Outcome State Fault Refusal :=
  .next (runCmd 0x1204 host cfgOverlay (tick dt s))

/-- CFG_SCHEMA's work: COUNT fields from the FIRST-th of the schema (R837). -/
def cfgSchema (t : Taken) (s : State) : State × Reply :=
  let first := fld t.payload 0 2
  let count := fld t.payload 2 2
  if count < 1 || 250 < count then (s, answer .badarg)
  else
    let l := (Config.cfgSchema.drop first).take count
    let row := fun (x : Nat × Nat × Nat × Nat × Nat) =>
      leBytes 2 x.1 ++ leBytes 2 x.2.1 ++ leBytes 1 x.2.2.1 ++ leBytes 3 0 ++ leBytes 4 x.2.2.2.1 ++ leBytes 4 x.2.2.2.2
    (s, okWith (leBytes 2 (first + l.length) ++ leBytes 2 l.length ++ leBytes 4 0 ++ l.flatMap row ++ leBytes (16 * (count - l.length)) 0))

/-- CFG_SCHEMA (R837). -/
def execCfgSchema (dt : Nat) (host : Fin 4) (s : State) : Outcome State Fault Refusal :=
  .next (runCmd 0x1205 host cfgSchema (tick dt s))

/-- CFG_FUSES' work (R834, R837). -/
def cfgFuses (_ : Taken) (s : State) : State × Reply :=
  (s, okWith (leBytes 1 s.met.reopens ++ leBytes 1 s.fwu.floor ++ leBytes 1 (lifecycleCode s.pocket.lifecycle)
    ++ leBytes 1 (locksLeft s) ++ leBytes 4 0))

/-- CFG_FUSES (R837). -/
def execCfgFuses (dt : Nat) (host : Fin 4) (s : State) : Outcome State Fault Refusal :=
  .next (runCmd 0x1206 host cfgFuses (tick dt s))

end Sys2Proof.Machine
end

