-- ==== Sys2Proof/Machine/Stop.lean ====
section
/-! DEFINITION. What ends with the logic side: the end of its run, and what each block loses when it loses power or is reset
("Supply, start-up and power states"). -/

namespace Sys2Proof.Machine

/-! ### The end of a run (R887) -/

/-- A run of the logic side ends, by a power loss or not, with a completed save or not: HEM_OK of the next start (R887). -/
def endRun (loss saved : Bool) (s : State) : State :=
  if s.pwr.runLive then
    s.onPwr fun p =>
      { p with runLive := false, runReached7 := false
               hemOk := if p.runReached7 then saved else p.hemOk && !(loss && !saved) }
  else s

/-! ### What each block loses -/

/-- Registers of the Collar whose W1C bits are the always-on island's own (R631). -/
def islandWord (off : Nat) : Bool := off == 0x008 || off == 0x030 || off == 0x048 || off == 0x07C

/-- Every host goes offline, both mailboxes are cleared and the counters of stopped blocks read 0 (R624, R631, R643). -/
def stopHosts (s : State) : State :=
  let s := ([0, 1, 2, 3] : List (Fin 4)).foldl (fun s h => goOffline h s) s
  s.onHosts fun b =>
    { hosts := b.hosts.map fun x =>
        { x with box := none, resp := none, respQ := [], openCmds := [], cmds := 0, conflicts := 0
                 sticky := x.sticky.filter fun w => islandWord w.1 }
      rings := b.rings, hlbRead := b.hlbRead, hlbWrite := b.hlbWrite, alarmN := b.alarmN }

/-- The scheduler's table is lost but for the entries of class 8, which stand in MRAM (R92, R97). -/
def stopSched (s : State) : State :=
  s.onSched fun c =>
    { entries := c.entries.filter fun e => e.cls == 8, nextSeq := c.nextSeq, hostEvts := c.hostEvts, nextHandle := c.nextHandle
      lastFired := c.lastFired, saved := c.saved }

/-- The recorder keeps what stands in MRAM and on NAND, and operating time (R755–R757, R763, R767, R783). -/
def stopEvt (s : State) : State :=
  s.onEvt fun v =>
    { v with q10 := [], lost := [], copyFrom := none, events := 0, codes := [], clearing := none, trimSeq := none, mlogFull := false }

/-- The counter runs on; what the supervisor held of exchanges in progress is lost (R115). -/
def stopTime (s : State) : State :=
  s.onTime fun t => { t with delayReqs := [], ptpIn := [], stepOwners := [] }

/-- The fabric's memories and the control words are lost; the Seam bridge stays as it is, a rate that waits for the channel with it (R30, R34,
R57, R205). -/
def stopFab (s : State) : State :=
  s.onFab fun f =>
    { f with seamDiscards := 0, toLine := f.toLine.filter isRate, mgmtResponses := [], waveFrames := 0, rxFrames := 0, engRetried := []
             engSupervisor := [], eccCorrected := 0, eccByRegion := [], accessErrors := [], q11 := [], refused := [], shadow := []
             heldWords := [] }

/-- Radio, links and power line (R264, R283, R304, R339). -/
def stopLinks (s : State) : State :=
  let s := s.onRad fun r => { savedAirs := r.savedAirs, nextFrame := r.nextFrame, sent := r.sent }
  let s := s.onLink fun l => { results := l.results, startKey := l.startKey }
  s.onPlc fun p => { sent := p.sent, thermal := p.thermal }

/-- Sessions, validation and balance: what stands on NAND and in MRAM stays (R375, R376, R422, R480). -/
def stopIngest (s : State) : State :=
  let s := s.onSess fun b => { hemSaved := b.hemSaved, savedRecs := b.savedRecs, seq := b.seq }
  let s := s.onVee fun _ => {}
  s.onBal fun b =>
    { summaries := b.summaries, lastDay := b.lastDay, sinceCkpt := b.sinceCkpt
      alertSeq := b.alertSeq }

/-- The archive: what is programmed stays; the map, the queues and the open pages are lost (R504, R506). -/
def stopArch (s : State) : State :=
  s.onArch fun a =>
    { a with state := 0, scanPct := 0, map := [], queues := [], copyB := [], trims := [], openRecs := [], openKey := 0, victim := none, commitLog := [], logBase := 0
             queries := [], reqs := [], sumWait := [], credits := 0, patrolNext := 0, patrolRc := 0, tempRc := none, lastHostWrite := 0
             dies := a.dies.map fun d => (d.1, { d.2 with timeouts := [], recons := [] }) }

/-- The uplink: connections end; cursors stay (R549, R556, R574). A child's cursor falls back to the lowest position not committed. -/
def stopUpl (s : State) : State :=
  let child := fun (c : Child) =>
    { c with conn := none, nextPos := c.uncommitted.foldl min c.nextPos, uncommitted := []
             recordsIn := 0, cipherIn := 0, overBound := 0, resets := 0 }
  s.onUpl fun u =>
    { acked := u.acked, upOut := u.upOut, dnOut := u.dnOut, nextTag := u.nextTag
      children := u.children.map fun c => (c.1, child c.2) }

/-- The Pocket, the firmware manager and the CFG manager: stagings in RAM and commands in progress end; the copy, the KUM and the apply
that a rule continues stay as they stand in MRAM and flash (R680, R704, R826, R885). -/
def stopStores (s : State) : State :=
  let s := s.onPocket fun k =>
    { k with staged := [], stagedOwner := none, applying := none, attests := [], kumRejects := 0, unwrapFails := 0 }
  let s := s.onFwu fun f =>
    { f with job := none, owner := none, confirmed := false, restartRc := false, sources := []
             staging := if f.staging = 2 then 1 else f.staging }
  s.onCfg fun c => { c with trigIslanded := false, trigCatchup := false, superseded := 0, ctlSuperseded := 0, autoOn := false }

/-- Metering on the logic side: no result set has been taken; the outputs are released (R194, R205, R255). -/
def stopReg (s : State) : State :=
  let s := s.onReg fun g =>
    { g with firstSet := true, lastDsp := none, billPlaced := false, q9 := []
             pulses := g.pulses.map fun p => { p with active := false, paying := false, alarmed := false, lostSeen := false }
             pqShown := 0 }
  s.onMet fun m => { m with results := [] }

/-- Every block of the logic side loses what it does not keep. -/
def clearLogic (s : State) : State :=
  stopReg (stopStores (stopUpl (stopArch (stopIngest (stopLinks (stopFab (stopTime (stopEvt (stopSched (stopHosts s))))))))))

/-- The logic side stops outside a completed Hem: every transmission and output ends, an open calibration session aborts, and the
blocks lose what they do not keep (R178, R255, R283, R344, R643, R885). -/
def stopLogic (s : State) : State :=
  let s := abortSession 3 (muteDriver (silence s))
  let s := clearLogic ((s.onFab fun f => { f with missFrom := some (f.missFrom.getD s.rc) }).onMet fun m => { m with echoes := false })
  s.onPwr fun p =>
    { p with hemFlag := false, entering := false, committed := false, transits := [], gated := 0, wakeReq := false, bell := none, state := .run, target := 0 }

end Sys2Proof.Machine
end

