-- ==== Sys2Proof/Machine/Boot.lean ====
section
/-! DEFINITION. A start of the logic side: the steps SU3 to SU8 ("Supply, start-up and power states", "Device firmware update and
recovery", "Configuration images and limited-count settings"). -/

namespace Sys2Proof.Machine

open Host (Outcome)

/-! ### SU3: the always-on island (R60–R62, R114, R119, R256, R757, R798) -/

/-- The cycle number at which a power-up resumes: the one after the saved number, or the last checkpoint plus 4,096 (R60, R61). -/
def resumeCycle (s : State) : Nat :=
  if s.evt.starts = 0 then 0 else if s.pwr.hemMark then s.mains.savedCycle.getD 0 + 1 else s.mains.checkpoint + 4096

/-- The operating time at which a power-up resumes (R756, R757; log entry 30). -/
def resumeOp (s : State) : Nat :=
  if s.evt.starts = 0 then 0
  else if s.pwr.hemMark then max (s.evt.opSaved.getD 0) s.evt.opCheckpoint
  else s.evt.opCheckpoint + ofS 64

/-- The pulse state of the last Hem save (R256); an output that none holds begins anew when the settings are loaded. -/
def resumePulses (s : State) : List PulseSt :=
  s.reg.pulses.mapIdx fun n p =>
    match s.reg.pulseSaved[n]? with
    | some (b, o, e) => { base := b, owed := o, emitted := e, discarded := p.discarded, lost := p.lost, dropped := p.dropped }
    | none => { discarded := p.discarded, lost := p.lost }

/-- A start closes the segment in progress: after a completed save, at a power-up, it ends with the last cycle timed, whose number is
saved, and at the reported time of the power loss; without one it is lost with the DRAM that held its times (R61, R80; log entry
344). -/
def lossSegment (s : State) : List Segment :=
  let m := s.mains
  let next := m.savedCycle.getD 0 + 1
  let startTai := segStart s m.segFirst
  if s.evt.starts = 0 || !s.pwr.hemMark || next ≤ m.segFirst then []
  else
    [{ first := m.segFirst, next := next, startTai := startTai / nsUnit, endTai := s.tai
       deviation := segDeviation s m.segFirst next startTai s.reported
       virtual := (m.segFlags ||| segFlagOf m.state).getLsbD 0, holdover := (m.segFlags ||| segFlagOf m.state).getLsbD 1
       step := m.segFlags.getLsbD 2, restart := true, closedTai := s.tai, wall := m.anchored }]

/-- The always-on island starts: the time counter at 0, the Collar with its reset values, the mains count as R61 resumes it (R61, R114,
R631, R757). -/
def islandStart (s : State) : State :=
  let cycle := resumeCycle s
  let op := resumeOp s
  let mark := s.pwr.hemMark
  let first := s.evt.starts = 0
  let closed := lossSegment s
  let s := s.onReg fun g => { g with pulses := resumePulses s }
  let s := s.onMains fun m =>
    { cycle := cycle, savedCycle := m.savedCycle, checkpoint := if mark then m.checkpoint else cycle, cycles := [{ cycle := cycle }]
      segments := closed.filter (·.wall) ++ m.segments.filter (·.wall), segFirst := cycle, segFlags := 8 }
  let s := s.onEvt fun v =>
    { v with opBase := op, opCheckpoint := if mark then v.opCheckpoint else op, opCredit := if first || mark then 0 else 64
             starts := inc32 v.starts }
  let s := s.onTime fun _ => {}
  let s := s.onHosts fun _ => {}
  let s := s.onFab fun f => { f with downRc := 0, outage := none, missFrom := some 0, compRc := none }
  let s := s.onMet fun m => { m with boundRc := 0 }
  let s := s.onArch fun a => { a with lastHostWrite := 0, segWait := closed }
  s.onPwr fun p => { p with aonOn := true, warnDeRc := 0, warnRc := 0, parks := 0, thermalStops := 0, hot := false }

/-! ### SU4 (R170, R800, R801) -/

/-- The framed channel comes up, a new run begins with its counts at 0, the logic side takes what the line side tells, and the Lining
images reach the DSP (R29, R30, R170, R800, R820, R887). -/
def beginRun (s : State) : State :=
  let s := if s.fab.seamUp then s else seamComesUp s
  let s := s.onPwr fun p =>
    { vinMv := p.vinMv, tjDc := p.tjDc, lineOn := p.lineOn, aonOn := p.aonOn, stage := .start 4, resetLow := false, warn := p.warn
      warnDeRc := p.warnDeRc, warnInPark := p.warnInPark, hemOkLast := p.hemOkLast, lastHemUs := p.lastHemUs, hemOk := p.hemOk
      runLive := true, stageRc := s.rc, hot := p.hot, parks := p.parks, thermalStops := p.thermalStops }
  deliverRegisters (deliverCalImage true (logicHears s))

/-- The warning stands at the end of SU4: the logic side parks without a save (R801). -/
def parkUnsaved (s : State) : State :=
  s.onPwr fun p => { p with stage := .parked, parks := inc32 p.parks, warnInPark := true }

/-- The start has ended step `n` - 1 and stands in step `n`. -/
def enterStep (n : Nat) (s : State) : State := s.onPwr fun p => { p with stage := .start n, stageRc := s.rc }

/-! ### SU5: the boot stage (R663, R681, R683, R701–R704, R711, R773) -/

/-- The lifecycle after a start before which a LIFECYCLE KUM gave `next`: LT3 or LT4, and no other change (R681). -/
def lifecycleAfter (from_ : Lifecycle) (next : Option Lifecycle) : Lifecycle :=
  match from_, next with
  | .provisioned, some .deployed => .deployed
  | .provisioned, some .returned | .deployed, some .returned | .debug, some .returned => .returned
  | l, _ => l

/-- The root in force is chosen and the debug port locked or opened, once for this start; a LIFECYCLE KUM applied before takes its
effect (R663, R681, R683). -/
def chooseRoot (s : State) : State :=
  s.onPocket fun k =>
    let l := lifecycleAfter k.lifecycle k.nextLifecycle
    let byLife := match l with
      | .blank | .debug | .returned => true
      | .provisioned | .deployed => false
    let session := k.unlockNext && !byLife
    let open_ := match l with
      | .debug | .returned => true
      | .blank | .provisioned | .deployed => session
    { k with lifecycle := l, nextLifecycle := none, unlockNext := false, session := session, debugOpen := open_
             root := if byLife then 1 else if session then 2 else 0 }

/-- The START record, the first of every start (R773). -/
def writeStart (cause : Nat) (s : State) : State :=
  (judgeEvent { code := 0x1001, source := 0x10, severity := 0
                detail := leBytes 1 cause ++ leBytes 1 (bit s.pwr.hemOk) ++ [0, 0] ++ leBytes 4 s.evt.opCredit
                opS := s.opS, opSub := s.opSub } s).1

/-- What the boot stage comes to. -/
inductive BootEnd
  /-- the copy stands unfinished -/
  | copying
  /-- ROM recovery, with its reason -/
  | recovery (reason : Nat)
  /-- the supervisor firmware is loaded -/
  | loaded
deriving DecidableEq, Repr

/-- Steps 1 to 5 of R701. -/
def bootStage (v : BootView) (s : State) : State × BootEnd :=
  let s := s.onFwu fun f => { f with reason := 0 }
  if s.fwu.rcvrStrap then (s, .recovery 1)
  else if 3 ≤ s.fwu.bootFails then (s, .recovery 2)
  else
    let s := dropBelowFloor s
    let s := if s.fwu.staging = 3 then beginCopy v.stagedOk v.resultOk s else s
    let copy := s.fwu.staging = 4
    if copy && v.reach ≤ 5 then (copyTo v.sectors s, .copying)
    else
      let s := if copy then endCopy s else s
      if acceptable s (activeHeader s) v.activeOk then (s, .loaded)
      else (if copy then s.onFwu fun f => { f with bootFails := min 3 (f.bootFails + 1) } else s, .recovery 3)

/-- Binds the hosts to their ports and gives them their rings (R621, R622, R656). -/
def bindHosts (hosts : List HostCfg) (rings : List RingCfg) (s : State) : State :=
  s.onHosts fun b =>
    { b with
      hosts := b.hosts.mapIdx fun i x =>
        let c := hosts.getD i {}
        { x with port := c.port, precedence := c.precedence, timeAuth := c.timeAuth }
      rings := rings.map fun r =>
        { number := r.number, owner := r.owner, source := r.source, hostMemory := r.hostMemory, base := r.base, slot := r.slot
          depth := r.depth, shadow := r.shadow, thresh := r.thresh } }

/-- ROM recovery: no role, the fixed bindings, no rings (R712). -/
def enterRecovery (reason : Nat) (s : State) : State :=
  let s := bindHosts [⟨1, 0, false⟩, ⟨5, 0, false⟩, ⟨7, 0, false⟩, ⟨6, 0, false⟩] [] s
  let s := s.onCfg fun c => { c with running := none, startCfg := {}, pendingStart := false }
  let before := s
  let s := (s.onFwu fun f => { f with reason := reason }).onPwr fun p => { p with stage := .recovery, stageRc := s.rc }
  freeEdge before s

/-! ### SU6: base image, slot plan, seals, mains count (R42, R44, R665, R798, R825–R828) -/

/-- The slot of the store that the start uses, and whether it is the fallback (R825). -/
def pickImage (s : State) : Option CfgImage × Bool :=
  let good := fun (o : Option CfgImage) => o.bind fun i => if (imageFault s i false).isNone then some i else none
  match good s.cfg.inForce with
  | some i => (some i, false)
  | none =>
    match good s.cfg.previous with
    | some i => (some i, true)
    | none => (none, false)

/-- Windows whose settings the start has changed open afresh (R888). -/
def reopened (o n : BaseCfg) : List Nat :=
  ((List.range 4).filter fun k => o.demand.getD k {} ≠ n.demand.getD k {})
    ++ (if o.billingDay ≠ n.billingDay || o.billingMin ≠ n.billingMin then [4] else [])
    ++ (if o.seriesLen ≠ n.seriesLen then [8, 9, 10, 11, 12, 13, 14, 15] else [])

/-- The pulse outputs take the settings of the start: an output whose settings differ, or of which no save holds the state, begins anew
(R256, R258). -/
def startPulses (o n : BaseCfg) (s : State) : State :=
  (List.range 8).foldl (fun s k =>
    let c := n.pulses.getD k {}
    let lostState := s.reg.pulseSaved.isEmpty && !s.mains.countValid && s.reg.cumValid
    if o.pulses.getD k {} ≠ c || lostState then applyPulseCfg k c s else onPulse k (fun p => { p with pendingCfg := none }) s) s

/-- Takes an image, or none: every field is loaded, the saved overlay over it, the pairs of the demand schemes among them; WARN_V and the
metrology settings are sent to the line side (R4, R51, R787, R827, R828, R832, R881, R888). -/
def useImage (i : Option CfgImage) (s : State) : State :=
  let o := s.cfg.act
  let base := (i.map fun i => { i.base with demand := (underOverlay i s.cfg.overlay).demand }).getD {}
  let now := match i with
    | some i => withStart base (underOverlay i s.cfg.overlay)
    | none => {}
  let s := s.onCfg fun c =>
    { c with running := i, startCfg := base, eff := now, act := now, pendingStart := false, islandFrom := s.mains.cycle }
  let s := s.onCfg fun c => { c with autoOn := (overlayFor s c.selected).2 }
  let s := if s.reg.windowsOpen then s.onReg fun g => { g with reopen := g.reopen ++ (reopened o now).filter fun k => !g.reopen.contains k } else s
  let s := startPulses o now s
  let s := if s.mains.anchored then retariff o now s
    else if o.calendar ≠ now.calendar then s.onReg fun g => { g with calRate := none } else s
  let s := bindHosts base.hosts base.rings s
  let s := s.onSess fun b => { b with usable := usableContexts s }
  let s := sendMetro (metroOf now) (s.onFab fun f => { f with toLine := f.toLine.filter isRate ++ [.warnV base.warnMv] })
  s.onEvt fun v => { v with mode := base.evtMode }

/-- Whether a slot plan names two initiators for one target in one slot (R44). -/
def planClashes (l : List (Nat × Nat × Nat)) : Bool :=
  l.any fun a => l.any fun b => a.1 == b.1 && a.2.1 == b.2.1 && a.2.2 != b.2.2

/-- Owner of an odd slot of the default plan at a DDR port (G2–G9): F21 NAND and F22 crypto 8, F16 supervisor, F25 Ethernet and F26 hosts
4, F23 radio 2, F24 Seam and F27 boot flash 1. -/
def ddrOwner (n : Nat) : Nat :=
  match n % 16 with
  | 1 | 9 => 21
  | 5 | 13 => 22
  | 3 => 16
  | 11 => 25
  | 7 => 26
  | _ => if n = 31 then 24 else if n = 63 then 27 else 23

/-- Owner of an odd slot at the shared SRAM (G2–G9): supervisor, hosts and radio 8, Ethernet 4, Seam and boot flash 2. -/
def sharedOwner (n : Nat) : Nat :=
  match n % 16 with
  | 1 | 9 => 16
  | 5 | 13 => 26
  | 3 | 11 => 23
  | 7 => 25
  | _ => if n % 32 = 15 then 24 else 27

/-- Owner of an odd slot at the session cache and queue SRAM (G2–G9): supervisor and crypto 8, hosts 6, radio 4, Ethernet, Seam and boot
flash 2. -/
def queueOwner (n : Nat) : Nat :=
  match n % 8 with
  | 1 => 16
  | 5 => 22
  | _ =>
    let k := n / 4
    if [0, 3, 5, 8, 11, 13].contains k then 26
    else if k % 4 = 2 then 23
    else if k = 1 || k = 9 then 25
    else if k = 4 || k = 12 then 24
    else 27

/-- The default plan: at each target every engine owns two even slots 32 apart, those at the two DDR ports 16 apart, and the other
initiators share the odd slots (R44; where the spacing leaves a choice, log entry 448). -/
def defaultSlots : List (Nat × Nat × Nat) :=
  (List.range 64).flatMap fun n =>
    let even := decide (n % 2 = 0)
    let e := n % 32 / 2
    [(n, 17, if even then e else sharedOwner n), (n, 18, if even then e else queueOwner n),
     (n, 19, if even then e else ddrOwner n), (n, 20, if even then (n + 16) % 32 / 2 else ddrOwner n)]

/-- The slot plan of the base image, or the default plan (R42, R44). -/
def loadPlan (s : State) : State :=
  let p := s.cfg.startCfg.slotPlan
  let bad := planClashes p
  let s := s.onFab fun f => { f with slotPlan := if bad || p.isEmpty then defaultSlots else p, defaultPlan := bad || p.isEmpty }
  if bad then setAlarm 0x10 (raise .fabricPlan srcSup [] s) else s

/-- Every slot's seal is verified (R665). -/
def verifySeals (bad : List Nat) (s : State) : State :=
  s.onPocket fun k => { k with slots := k.slots.map fun x => (x.1, { x.2 with sealBad := bad.contains x.1 }) }

/-- The time sources begin again: none qualifies until it has been heard (R126, R127, R798). -/
def restartSources (s : State) : State :=
  let s := s.onTime fun t => { t with qual0 := false, qual1 := false, qualParent := false, hostSet := false, utcPtp := none, utcParent := none, delayRespDropped := 0 }
  if stillQualifies s then s else loseSource s

/-- A warm start closes the cross-reference segment, with its restart flag (R80). -/
def closeForRestart (s : State) : State := closeSegment false (s.onMains fun m => { m with segFlags := m.segFlags ||| 8 })

/-- The supervisor firmware's work in SU6. -/
def loadConfig (cold : Bool) (v : BootView) (s : State) : State :=
  let s := match s.cfg.applying with
    | some j => moveStore j s
    | none => s
  let (i, fell) := pickImage s
  let s := if fell then raise .cfgFallback srcSup [] (setSticky 0x080 0x200 s) else s
  let s := loadPlan (useImage i s)
  let s := verifySeals v.sealBad s
  let hz := s.cfg.startCfg.nominal60
  let s := s.onMains fun m =>
    { m with nominal60 := hz, virtFrac := if m.nominal60 == hz then m.virtFrac else 0, countValid := true, freqSeen := false }
  let s := restartSources s
  if cold then s else closeForRestart s

/-! ### SU7: scheduler, archive scan, context load, neighbours, pair (R92, R308, R376, R377, R497–R509, R730) -/

/-- The saved entries are placed again after a completed save; without one each series is placed from its last fired occurrence
(R92, R93, R97). Handles of entries that have fired for the last time are no longer known (R100). -/
def restoreSched (s : State) : State :=
  let s := s.onSched fun c => { c with entries := c.entries.map (lateNow s), hostEvts := c.hostEvts.filter fun e => !e.done }
  let s := if s.pwr.hemOk then s.sched.saved.foldl (fun s e => placeOr (lateNow s e) s) s else s
  let s := s.onReg fun g =>
    { g with billPlaced := s.sched.entries.any fun e => e.action == .billingClose && e.wall.isNone }
  if s.mains.anchored then placeAllSeries s else s

/-- Items that the last Hem save holds are taken up, or lost with a save that was not completed (R194, R288, R330, R887). -/
def restoreSaved (s : State) : State :=
  if s.pwr.hemOk then s.onRad fun r => { r with airs := r.savedAirs }
  else
    let s := (s.onLink fun l => { l with results := [] }).onRad fun r => { r with savedAirs := [] }
    s.onReg fun g => if g.cumSaved.isEmpty then g else { g with cum := g.cumSaved }

/-- Whether the installed NAND is what the base image and the last format name (R496, R497). -/
def nandFault (s : State) : Option Nat :=
  let a := s.arch
  if a.part ≠ s.cfg.startCfg.arch.part || !a.limitsOk || a.installed.length < 8 || 128 < a.installed.length then some (a.installed.headD 0)
  else (((a.format.map (·.dies)).getD []).filter fun d => !a.installed.contains d).head?

/-- Whether a programmed page is mapped by the scan: one of an open superblock only when its stripe holds its parity page (R506). -/
def scanTakes (s : State) (p : PhysPage) : Bool :=
  let isOpen := s.arch.opens.any fun o => o.2.group == p.group && o.2.blk == p.blk
  p.programmed && p.ns < 3 &&
    (!isOpen || s.arch.pages.any fun x => x.ns == 3 && x.programmed && x.group == p.group && x.blk == p.blk && x.page == p.page)

/-- The map of the scan before the trims: per LPN the page of the highest SEQ (R506). -/
def scanMap (pages : List PhysPage) : List (Nat × Nat) :=
  pages.foldl (fun m p => if tget m p.lpn 0 ≤ p.seq then tput m p.lpn p.seq else m) []

/-- The ranges that the journal's trim pages list, with their page offset (R506, R519). -/
def journalTrims (unverified : List Nat) (s : State) : List (Nat × Nat × Nat × Nat) :=
  (offsetsIn 1 2047 s).flatMap fun o => match readSystem unverified o s with
    | some (.trims l) => l.map fun t => (o, t)
    | _ => []

/-- Applies the trims over the map (R506). -/
def applyTrims (trims : List (Nat × Nat × Nat × Nat)) (map : List (Nat × Nat)) : List (Nat × Nat) :=
  trims.foldl (fun m t => m.filter fun q => !(t.2.2.1 ≤ q.1 && q.1 < t.2.2.1 + t.2.2.2 && q.2 < t.2.1)) map

/-- The extension's pages of which neither copy verifies (R514, R519). -/
def lostExtension (unverified : List Nat) (s : State) : List Nat :=
  (List.range ((s.evt.ext.length + 255) / 256)).filter fun k => match readSystem unverified (eventRegion + k) s with
    | some (.events _) => false
    | _ => true

/-- The page that follows the newest page of the record ring (R506, R524). -/
def ringHeadAfter (s : State) (pages : List PhysPage) : Nat :=
  let ring := pages.filter fun p => p.ns == 0
  let newest := ring.foldl (fun acc p => match acc with
    | none => some p
    | some (q : PhysPage) => if q.seq < p.seq then some p else some q) none
  match newest with
  | some p => (p.lpn - recFirst s + 1) % max 1 (recPages s)
  | none => 0

/-- The archive scan rebuilds the map from the metadata of every programmed page and closes every open superblock; a page whose metadata
cannot be read is passed over (R504–R508). -/
def scanArchive (ms : Nat) (unverified unreadable : List Nat) (s : State) : State :=
  let taken := s.arch.pages.filter fun p => scanTakes s p && !unreadable.contains p.seq
  let s := s.onArch fun a => { a with map := scanMap taken }
  let trims := journalTrims unverified s
  let map := applyTrims trims s.arch.map
  let live := taken.filter fun p => tfind map p.lpn == some p.seq
  let fresh := live.filter fun p => !p.durable
  let drop := fun (p : PhysPage) =>
    if p.ns < 3 && !taken.contains p then { p with data := .padding, lost := true, durable := true } else p
  let old := fun (l : List ArchRec) => l.map fun x => { x with commitRc := min x.commitRc s.rc }
  let keep := (s.arch.pages.filter (·.programmed)).map fun p => match (drop p).data with
    | .records l => { drop p with data := .records (old l) }
    | _ => drop p
  let head := ringHeadAfter s live
  let next := (s.arch.pages.map (·.seq)).foldl (fun n q => max n (q + 1)) 0
  let pos := (live.flatMap recsOf).foldl (fun n r => max n (r.pos + 1)) s.upl.acked
  let s := s.onArch fun a =>
    { a with pages := keep, map := map, trims := trims, nextSeq := next, recHead := head, nextPos := pos, opens := [], queues := []
             scanMs := ms, scanPct := 100, state := if a.format.isSome then 2 else a.state }
  let segs := live.flatMap fun p => match p.data with
    | .segments l => l
    | _ => []
  let sums := live.flatMap fun p => match p.data with
    | .summaries l => l
    | _ => []
  let s := s.onMains fun m => { m with segments := m.segments.filter fun g => segs.contains g || s.arch.segWait.contains g }
  let s := s.onBal fun b => { b with summaries := b.summaries.filter sums.contains }
  let s := fresh.foldl (fun s p => commitPage p s) s
  s.onEvt fun v => { v with extGone := if v.trimPending then [] else lostExtension unverified s }

/-- The archive at SU7: locked, formatting by itself, or scanned; the key check value is that of the journal (R497, R501, R504, R519, R541,
R542). -/
def startArchive (ms : Nat) (unverified unreadable : List Nat) (s : State) : State :=
  match nandFault s with
  | some d => setAlarm 0x80 (raise .dieAbsent 0x50 (leBytes 1 d) (s.onArch fun a => { a with state := 4 }))
  | none =>
    match s.arch.format with
    | none =>
      if s.arch.allErased && s.cfg.startCfg.arch.autoformat then startFormat s
      else setAlarm 0x80 (s.onArch fun a => { a with state := 4 })
    | some _ =>
      let s := scanArchive ms unverified unreadable s
      let right := match readSystem unverified 0 s with
        | some (.journal f _ _) => f.testRoot == testRoot s
        | _ => false
      if !right then setAlarm 0x80 (s.onArch fun a => { a with state := 4 })
      else
        let readOnly := spareNow s = 0
        s.onArch fun a => { a with state := if readOnly then 3 else 2 }

/-- The context table is loaded from its store and the Hem entries applied over it; after an unsaved end one event records the restart
(R376, R377, R422). -/
def loadContexts (unverified : List Nat) (s : State) : State :=
  let region := fun first count => if archReady s then readRegion unverified first count s else []
  let stored := (region contextRegion 32768).flatMap fun d => match d with
    | .contexts l => l
    | _ => []
  let meters := (region metersRegion 32768).flatMap fun d => match d with
    | .meters l => l
    | _ => []
  let base := (stored.filter fun c => c.1 < usableContexts s).foldl (fun t c => tput t c.1 c.2) []
  let lay := fun (l : List (Nat × MeterCtx)) (h : HemCtx) =>
    match tfind l h.meter with
    | some c => tput l h.meter { c with state := h.state, icHi := h.icHi, icMap := h.icMap }
    | none => l
  let saved := if s.pwr.hemOk then s.sess.hemSaved else []
  let ctxs := saved.foldl lay base
  let dirty := ((saved.map (·.meter)).filter fun m => (tfind base m).isSome).map fun m => (m, s.key)
  let s := s.onSess fun b =>
    { b with ctxs := ctxs, dirty := dirty, loading := false, q4 := if s.pwr.hemOk then b.savedRecs else [], savedRecs := [] }
  let s := s.onVee fun v => { v with meters := meters.foldl (fun t c => tput t c.1 c.2) [] }
  if !s.pwr.hemOk && 1 < s.evt.starts then raise .icRestart srcSup [] s else s

/-- The balance engine loads the newer committed checkpoint (R480, R520). -/
def loadBalance (unverified : List Nat) (s : State) : State :=
  let c := if archReady s then (match readSystem unverified balanceRegion s with
    | some (.balance c) => some c
    | _ => none) else none
  let lostSamples := s.bal.sinceCkpt
  let s := s.onBal fun b =>
    { b with topo := (c.map (·.topo)).getD [], feeders := (c.map (·.feeders)).getD [], sinceCkpt := false
             lostMark := b.lostMark || lostSamples }
  if lostSamples then setSticky 0x05C 0x8 s else s

/-- SE15 loads the ledger, the latest checkpoint and the broadcast counters and resumes its rounds; requests that were open count as failed
attempts (R583, R596, R605, R609). -/
def loadFleet (unverified : List Nat) (s : State) : State :=
  let open1 := s.fleet.reqs.filter fun o => match o.req with
    | .token .. => false
    | _ => true
  let page := fun (off : Nat) => if archReady s then readSystem unverified off s else none
  let ck := match page definitionsPage with
    | some (.fleet c) => c
    | _ => {}
  let counters := match page countersPage with
    | some (.counters l) => l.map fun p => (p.1, p.2 + 4096)
    | _ => []
  let ledger := (if archReady s then readRegion unverified fleetRegion 16384 s else []).flatMap fun d => match d with
    | .accounts l => l
    | _ => []
  let transferring := fun (n : Nat) => (s.sess.ctxs.filter fun c => c.2.campSlot == n && c.2.campState == 2).map (·.1)
  let s := s.onFleet fun b =>
    { b with pushes := ck.pushes, camps := ck.camps.map fun p => (p.1, { p.2 with reread := transferring p.1 })
             bcast := counters, bcastSaved := counters, ledger := ledger.foldl (fun t a => tput t a.1 a.2) []
             tokens := [], reqs := [], sentTime := [], sentOffset := [], noticeSeq := 0
             ringRefused := 0, bitmapRefused := 0, ckptKey := s.key }
  let s := if archWorks s && !counters.isEmpty then storePage countersPage (.counters counters) s else s
  open1.foldl (fun s o => attemptFailed o s) (endOrphans s)

/-- The pair at a start: Standby and listening with PAIR_ENABLE 1, else Solo; a unit that has yielded to a side clash stays so while its
SIDE is the same (R724, R727, R730, R749). -/
def startPair (s : State) : State :=
  let on := pairOn s
  let s := s.onPair fun p =>
    let clash := on && p.clashed && p.clashSide == (pairCfg s).side
    { locks := p.locks, laneOut := p.laneOut, pinOut := p.pinOut, clashed := clash, clashSide := p.clashSide
      state := if on then .standby else .solo, listenEnd := if on then some (s.mains.cycle + (pairCfg s).listenMc) else none
      takeoverKey := if on then 0 else s.key, noSecret := on && !slotUsable s 5 }
  if on then placeOr { cls := 1, action := .heartbeat, key := mkKey (s.mains.cycle + 1) (pairCfg s).hbPhase } s else s

/-- The radio front ends calibrate, and the power-line port takes its mode (R263, R341, R354). -/
def startRadios (s : State) : State :=
  let fe := fun (s : State) (n : Nat) =>
    if s.cfg.startCfg.role.isSome && fePowered s n && (feIn s.cfg.act n).enable then
      beginTransit (.fe n) true (ofMs 2) (startCalibration n s)
    else s
  let s := [0, 1].foldl fe s
  let c := s.cfg.act.plc
  let mode := if s.cfg.startCfg.role.isSome && s.cfg.startCfg.plcPowered then c.mode else 0
  let s := (lanesOn s.cfg.act).foldl (fun s l => laneHears l.1 s) s
  s.onPlc fun p =>
    { p with mode := mode, retrainEnd := if mode = 0 then none else some (s.mains.cycle + 50), noisy := BitVec.ofNat 64 c.blockMask.toNat }

/-- What SU7 takes up before the scan. -/
def takeUp (s : State) : State :=
  restoreSaved (restoreSched (startPair (s.onPwr fun p => { p with runReached7 := true })))

/-- SU7 from the scan on. -/
def loadTables (v : BootView) (s : State) : State :=
  let s := loadContexts v.unverified (startArchive v.scanMs v.unverified v.unreadable s)
  let s := loadFleet v.unverified (loadBalance v.unverified (fillNeighbours s))
  let s := startRadios s
  let s := s.onUpl fun u => { u with state := if namesUpstream s then 1 else 0 }
  refreshPressure s

/-! ### SU8 and the whole start -/

/-- READY: the start is confirmed and commands are taken (R702, R798). -/
def becomeReady (s : State) : State :=
  let before := s
  let s := confirmStart s
  let s := s.onHosts fun b => { b with ready := true }
  let s := s.onPwr fun p => { p with stage := .running }
  let s := s.onLink fun l => { l with startKey := s.key }
  let s := s.onEvt fun v => { v with copyFrom := if v.ring.isEmpty then none else some s.rc }
  freeEdge before (evalTriggers s)

/-- SU6 to SU8. -/
def runFirmware (cold : Bool) (v : BootView) (s : State) : State :=
  let s := loadConfig cold v (enterStep 6 s)
  if v.reach ≤ 6 then s
  else
    let s := takeUp (enterStep 7 s)
    if v.reach ≤ 7 then s.onArch fun a => { a with state := 1 } else becomeReady (loadTables v s)

/-- A start from SU4 on, with its CAUSE; `cold` after a power-up of the always-on island (R798, R801). -/
def startLogic (cold : Bool) (cause : Nat) (v : BootView) (s : State) : State :=
  let s := s.onMet fun m => { m with results := [] }
  let s := if cold then s else s.onEvt fun e => { e with opCredit := 0 }
  let s := beginRun s
  if s.pwr.warn then parkUnsaved s
  else if v.reach ≤ 4 then s
  else
    let s := writeStart cause (chooseRoot (enterStep 5 s))
    match bootStage v s with
    | (s, .copying) => s
    | (s, .recovery r) => enterRecovery r s
    | (s, .loaded) => if v.reach ≤ 5 then s else runFirmware cold v s

/-- A warm reset of the logic side, followed by its start (R62, R115, R701). -/
def warmReset (cause : Nat) (v : BootView) (s : State) : State := startLogic false cause v (stopLogic (endRun false false s))

end Sys2Proof.Machine
end

