-- ==== Sys2Proof/Machine/Supply.lean ====
section
/-! DEFINITION. The supply: line-side start and end, RESET_N, the early warning, Hem, the parked state, the boot watchdog, lockstep, thermal
stops and the frames of ROM recovery ("Supply, start-up and power states", "Device firmware update and recovery"). -/

namespace Sys2Proof.Machine

open Host (Outcome)

/-! ### VIN and RESET_N -/

/-- The newer copy of the rate selector that verifies (R228). -/
def savedRate (m : MetSt) : RateCopy := (newer (rateVerifies m.sealKey) (·.count) m.rateImage).getD {}

/-- The line side starts at rate-corrected time `rc`: the DSP runs from its ROM under the default records, its registers at zero until
their images arrive; the saved pending rate, or else the saved rate, applies from its first cycle; its detectors are idle and it knows no
reference (R154, R155, R170, R171, R228, R244, R775). -/
def lineStart (rc : Nat) (m : MetSt) : MetSt :=
  let c := savedRate m
  let r := match c.pending with
    | some p => p.1
    | none => c.rate
  pqLineStart
    { m with
      lineStarts := m.lineStarts + 1, startNs := m.lineNs, imageValid := false, fallback := false, sealBad := false
      cal := defaultImage m, span := [], spanBase := List.replicate 768 0
      session := none, calNext := none, echoes := false, echoCycle := 0, echoPhase := 0, echoNs := m.lineNs, dspCycle := 0
      ref := none, lastFreq := none, boundNs := m.lineNs, boundRc := rc
      regs := List.replicate 768 0, refreshed := List.replicate 768 0, regsLoaded := false
      rate := r, committed := r, pendingRate := none
      tinHeld := List.replicate 8 0, tinSel := none, tinCount := 0, tinRate := none, tinTaken := none, tinInvalid := false, tinKeep := none
      results := [], setsLost := false, overRun := [], mlogStopped := [], unsync := false, offRange := false, overload := 0
      harm := {}, harmWin := {}, harmEnded := none }

/-- VIN_RISE: VIN reaches the rising UVLO threshold, 25.5 V or more; the line side measures, the logic side waits for RESET_N (R786,
R787, R798). -/
def execVinRise (dt mv : Nat) (s : State) : Outcome State Fault Refusal :=
  let s := tick dt s
  if !s.pwr.lineOn && 25500 ≤ mv then
    let s := s.onMet (lineStart s.rc)
    let s := s.onFab fun f => { f with lineWarnMv := 33000 }
    .next (s.onPwr fun p => { p with lineOn := true, vinMv := mv, stage := .held, resetLow := true, warn := decide (mv < 33000) })
  else .next s

/-- Both dies are unpowered: the power state Off (R789). -/
def powerOff (s : State) : State :=
  let s := stopLogic (endRun true false (abortSession 4 s))
  let s := s.onFab fun f => { dramMib := f.dramMib }
  let s := s.onArch fun a => { a with segWait := [] }
  s.onPwr fun p => { p with vinMv := 0, lineOn := false, aonOn := false, stage := .off, resetLow := true, warn := false, hot := false }

/-- VIN_UVLO: VIN falls below UVLO, 24.5 V at most (R786, R789, R793). -/
def execVinUvlo (dt mv : Nat) (s : State) : Outcome State Fault Refusal :=
  let s := tick dt s
  if s.pwr.lineOn && mv ≤ 24500 then .next (powerOff s) else .next s

/-- RESET_N_RELEASE: BOOT_RCVR_N and STRAP_NOR are sampled; the first release after a power-up starts the always-on island; any later one ends a warm
reset (R114, R701, R798, R799, R860). -/
def execResetNRelease (dt : Nat) (view : BootView) (s : State) : Outcome State Fault Refusal :=
  let s := tick dt s
  if s.pwr.stage == .held then
    let s := s.onFwu fun f => { f with rcvrStrap := view.strap, norOctal := view.norOctal }
    if s.pwr.aonOn then .next (startLogic false 1 view s) else .next (startLogic true 0 view (islandStart s))
  else .next s

/-- RESET_N_ASSERT: a warm reset of the logic side begins; Hem in progress ends without its mark (R799, R849). -/
def execResetNAssert (dt : Nat) (s : State) : Outcome State Fault Refusal :=
  let s := tick dt s
  match s.pwr.stage with
  | .off | .held => .next s
  | _ => .next ((stopLogic (endRun false false s)).onPwr fun p => { p with stage := .held, resetLow := true })

/-- BOOT_FAILS is one higher, at most 3 (R702). -/
def countBootFail (s : State) : State := s.onFwu fun f => { f with bootFails := min 3 (f.bootFails + 1) }

/-- The scan bound of R508 for the installed NAND, in 2⁻³² ns. -/
def scanBound (s : State) : Nat :=
  let a := s.arch
  let most := a.installed.foldl (fun n d => max n (a.pages.filter fun p => p.die == d && p.programmed).length) 0
  ofNs ((most + max 1 a.planes - 1) / max 1 a.planes * (a.readNs + 6000)) + ofS 2

/-- BOOT_WATCHDOG: SU7 has not begun within 30 s of step 5, or READY has not come within the scan bound plus 35 s (R702). -/
def execBootWatchdog (dt : Nat) (view : BootView) (s : State) : Outcome State Fault Refusal :=
  let s := tick dt s
  let due := match s.pwr.stage with
    | .start n => if n = 6 then ofS 30 else if n = 7 then scanBound s + ofS 35 else 0
    | _ => 0
  if due ≠ 0 && s.pwr.stageRc + due ≤ s.rc then .next (warmReset 2 view (countBootFail s)) else .next s

/-- LOCKSTEP_MISMATCH: ALARM_N, an event in the MRAM ring, and a warm reset; before READY it counts in BOOT_FAILS (R38, R702). -/
def execLockstepMismatch (dt : Nat) (view : BootView) (s : State) : Outcome State Fault Refusal :=
  let s := tick dt s
  let runs := match s.pwr.stage with
    | .off | .held | .parked => false
    | .start n => decide (5 ≤ n)
    | _ => true
  if runs then
    let c := evCode .lockstep
    let s := setAlarm 0x2 s
    let s := (judgeEvent { code := c, source := srcSup, severity := Config.evtSeverity c % 4, opS := s.opS, opSub := s.opSub } s).1
    let s := if s.hosts.ready then s else countBootFail s
    .next (warmReset 3 view s)
  else .next s

/-- FWU_RESTART: the restart entry of FWU_FINISH is dispatched, or the ROM restarts after a copy in recovery (R714, R720). -/
def execFwuRestart (dt : Nat) (view : BootView) (s : State) : Outcome State Fault Refusal :=
  let s := tick dt s
  if s.pwr.stage == .recovery then (if s.fwu.restartRc then .next (warmReset 4 view s) else .next s)
  else if s.pwr.stage == .running && !s.pwr.hemFlag then
    match dispatch (fun a => a == .restart) s with
    | some (_, s) => .next (warmReset 1 view s)
    | none => .next s
  else .next s

/-! ### The early warning and Hem (R788–R796) -/

/-- The stages that answer the warning with Hem: those past SU4 (R801). -/
def hemPossible (s : State) : Bool :=
  match s.pwr.stage with
  | .running | .recovery => true
  | .start n => decide (5 ≤ n)
  | _ => false

/-- A Hem start entry is placed at the present phase tick (R91). -/
def placeHem (s : State) : State :=
  let waits := s.sched.entries.any fun e => e.action == .hemStart
  if waits || !hemPossible s then s
  else placeOr { cls := 2, action := .hemStart, key := s.key } (s.onPwr fun p => { p with warnRc := s.rc })

/-- The registers that have changed since they were last refreshed (R195). -/
def unrefreshed (m : MetSt) : List Nat := (List.range 768).filter fun r => m.regs.getD r 0 ≠ m.refreshed.getD r 0

/-- The DSP sends the final image: every register changed since its last refresh, last of all the rate selector with any pending rate
(R195, R228). -/
def postFinal (s : State) : State :=
  if s.met.regsLoaded then
    let s := s.onMet fun m => { m with imageCount := m.imageCount + 1 }
    let m := s.met
    postLegal (.final ((unrefreshed m).map fun r => (r, regCopy m r)) (rateCopy m)) (s.onMet fun m => { m with refreshed := m.regs })
  else s

/-- What the line side does at the warning: a partial result set, the final image on its way, open voltage events truncated, the driver
muted (R195, R244, R344). -/
def lineWarned (cyc : CycleIn) (s : State) : State :=
  let s := if metroOff s then s else endDspCycle { ns := s.met.lineNs, rc := s.rc, partialSet := true } cyc s
  muteDriver (pqTruncate (postFinal s))

/-- EARLY_WARNING_ASSERT: VIN has stayed below the falling threshold, WARN_V + 1 % at most; Hem is placed, a start before the end of SU4
parks, and a parked logic side keeps its save (R788, R795, R796, R801). -/
def execEarlyWarningAssert (dt mv : Nat) (cyc : CycleIn) (s : State) : Outcome State Fault Refusal :=
  let s := tick dt s
  if s.pwr.lineOn && !s.pwr.warn && mv * 100 ≤ s.fab.lineWarnMv * 101 then
    let s := s.onPwr fun p => { p with warn := true, vinMv := mv }
    let s := if s.pwr.stage == .hem then s else s.onPwr fun p => { p with finalImage := false }
    let s := lineWarned cyc s
    if !s.pwr.aonOn then .next s
    else
      let s := setAlarm 0x20 s
      match s.pwr.stage with
      | .start _ => .next (if hemPossible s then placeHem s else parkUnsaved s)
      | .parked => .next (s.onPwr fun p => { p with warnInPark := true })
      | _ => .next (placeHem s)
  else .next s

/-- EARLY_WARNING_DEASSERT: VIN rises above the rising threshold, WARN_V + 1.8 V or more; RECOVER_MS counts from here (R788, R790,
R795). -/
def execEarlyWarningDeassert (dt mv : Nat) (s : State) : Outcome State Fault Refusal :=
  let s := tick dt s
  if s.pwr.lineOn && s.pwr.warn && s.fab.lineWarnMv + 1800 ≤ mv then
    .next (s.onPwr fun p => { p with warn := false, vinMv := mv, warnDeRc := s.rc })
  else .next s

/-- The state in which Hem finds the device, by which it chooses its items (R796). -/
def hemClass (s : State) : Nat :=
  match s.pwr.stage with
  | .recovery => 5
  | .start n => if n = 7 then 7 else 5
  | _ => if s.pwr.state == .hold then 2 else 0

/-- An entry to Doze or Hold that Hem meets: in its check phase it counts as aborted by firmware, past its commit point it stops (HW3,
HW4). -/
def hemStopsEntry (s : State) : State :=
  if s.pwr.entering && !s.pwr.committed then
    setSticky 0x07C 0x40 (s.onPwr fun p =>
      { p with entering := false, lastRefuser := 3, aborted := bumpAt p.aborted (4 * (p.target - 1) + 3) })
  else s.onPwr fun p => { p with entering := false, committed := false }

/-- Hem begins: transmissions end, the driver is muted, outputs are released, due class 7 entries are dropped and counted, downlink frames
abandoned, each NAND die keeps only the program in progress, the calibration session aborts, held Re-arms are dropped and counted (R91, R92, R178, R255, R283, R330, R344, R531, R813, R885). -/
def beginHem (e : SchedEntry) (s : State) : State :=
  let due := (s.sched.entries.filter fun x => x.cls == 7 && x.key ≤ s.key).length
  let s := (dropEntries (fun x => x.cls == 7 && x.key ≤ s.key) s).onSched fun c =>
    { c with hemKey := some e.key, dropped7 := w32 (c.dropped7 + due) }
  let held := (s.pwr.transits.filter fun t => t.rearm.isSome).length
  let s := hemStopsEntry s
  let s := s.onPwr fun p =>
    { p with hemFrom := hemClass s, stage := .hem, hemFlag := true, hemMark := false, hemOkLast := false, lastHemUs := 0
             transits := p.transits.map fun t => { t with rearm := none }, rearmDropped := w32 (p.rearmDropped + held) }
  let s := s.onArch fun a => { a with queues := a.queues.map fun q => (q.1, q.2.take 1) }
  abandonDowns (abortSession 2 (muteDriver (silence s)))

/-- HEM_START: the Hem start entry is dispatched (R88, R91, R790, R796). -/
def execHemStart (dt : Nat) (s : State) : Outcome State Fault Refusal :=
  let s := tick dt s
  if hemPossible s then
    match dispatch (fun a => a == .hemStart) s with
    | some (e, s) => .next (beginHem e s)
    | none => .next s
  else .next s

/-- What Hem saves of the hot contexts: at most 4,096 entries of those with changes that the store lacks (R376). -/
def hemContexts (s : State) : List HemCtx :=
  (s.sess.dirty.take 4096).filterMap fun d =>
    (tfind s.sess.ctxs d.1).map fun c => { meter := d.1, state := c.state, icHi := c.icHi, icMap := c.icMap }

/-- HS5 to HS7: hot contexts, waiting entries of classes 3 to 6, the records of those that Hem dispatched; the cumulative values last
attributed go with them (R92, R194, R376, R792). -/
def saveTables (s : State) : State :=
  let hk := s.sched.hemKey.getD 0
  let s := s.onSess fun b =>
    { b with hemSaved := hemContexts s, savedRecs := (b.q4 ++ b.q4Held).filter fun r => r.meter == ownMeter && hk ≤ r.arrivalKey && hk != 0 }
  let s := s.onSched fun c => { c with saved := c.entries.filter fun e => 3 ≤ e.cls && e.cls ≤ 6 }
  s.onReg fun g => { g with cumSaved := g.cum }

/-- HS1 to HS3: cycle number, operating time, pulse state (R61, R256, R757). -/
def saveIsland (s : State) : State :=
  let s := s.onMains fun m => { m with savedCycle := some m.cycle }
  let s := s.onEvt fun v => { v with opSaved := some s.opTime }
  s.onReg fun g => { g with pulseSaved := g.pulses.map fun p => (p.base, p.owed, p.emitted) }

/-- The items that Hem writes for the state in which it found the device (R792, R796). -/
def saveItems (s : State) : State :=
  let s := saveIsland s
  let n := s.pwr.hemFrom
  let s := if n = 5 then s else s.onRad fun r => { r with savedAirs := airsNow s }
  if n = 0 then saveTables s
  else if n = 7 then (s.onSched fun c => { c with saved := c.entries.filter fun e => 3 ≤ e.cls && e.cls ≤ 6 }).onReg fun g =>
    { g with cumSaved := g.cum }
  else s

/-- The save is complete: its mark, the counts, and the parked state (R791, R792, R794, R820, R887). -/
def finishHem (s : State) : State :=
  let s := saveItems s
  let us := (s.rc - s.pwr.warnRc) / ofUs 1
  let s := s.onEvt fun v => { v with hemSaves := inc32 v.hemSaves }
  let s := clearLogic (endRun false true s)
  s.onPwr fun p =>
    { p with stage := .parked, hemMark := true, hemOkLast := true, lastHemUs := us, parks := inc32 p.parks
             thermalStops := if p.parkThermal then inc32 p.thermalStops else p.thermalStops
             warnInPark := p.warn, transits := [], gated := 0, state := .run, target := 0, wakeReq := false, bell := none }

/-- Whether Hem waits for the final image no longer: it has come, or none can come (R195, R791). -/
def finalImageDone (s : State) : Bool :=
  s.pwr.finalImage || s.pwr.parkThermal || s.pwr.hemFrom == 5 || !s.fab.seamUp || !s.met.regsLoaded

/-- HEM_COMPLETE: every entry that Hem still dispatches has been, the items and the final image are written, then the completion mark
(R92, R791–R794). -/
def execHemComplete (dt : Nat) (s : State) : Outcome State Fault Refusal :=
  let s := tick dt s
  if s.pwr.stage == .hem && finalImageDone s && (nextDue s).isNone then .next (finishHem s) else .next s

/-- Whether the warning has stayed deasserted for RECOVER_MS (R795). -/
def recovered (s : State) : Bool := !s.pwr.warn && decide (s.pwr.warnDeRc + ofMs s.cfg.act.recoverMs ≤ s.rc)

/-- BROWNOUT_RESTART: the parked state ends by a warm reset with PWR.STAT.BROWNOUT (R795). -/
def execBrownoutRestart (dt : Nat) (view : BootView) (s : State) : Outcome State Fault Refusal :=
  let s := tick dt s
  if s.pwr.stage == .parked && !s.pwr.parkThermal && recovered s then .next (warmReset 1 view (setSticky 0x07C 0x2000 s)) else .next s

/-! ### Temperature (R814) -/

/-- THERMAL_WARN: the junction reaches 105 °C (R814). -/
def execThermalWarn (dt : Nat) (tjDc : Int) (s : State) : Outcome State Fault Refusal :=
  let s := tick dt s
  if s.pwr.aonOn && !s.pwr.hot && 1050 ≤ tjDc then
    .next (raise .thermal srcSup (leBytesI 2 tjDc) (setAlarm 0x800 (s.onPwr fun p => { p with hot := true, tjDc := tjDc })))
  else .next s

/-- THERMAL_STOP: the junction has stayed at or above 115 °C for 1 s; Hem runs as if the warning had asserted (R814). -/
def execThermalStop (dt : Nat) (tjDc : Int) (s : State) : Outcome State Fault Refusal :=
  let s := tick dt s
  if s.pwr.hot && 1150 ≤ tjDc && hemPossible s then
    .next (placeHem (s.onPwr fun p => { p with parkThermal := true, tjDc := tjDc }))
  else .next s

/-- THERMAL_RESTART: after a thermal stop the junction is below 100 °C and the warning deasserted; RECOVER_MS counts only when the warning
asserted while parked (R814). -/
def execThermalRestart (dt : Nat) (view : BootView) (s : State) : Outcome State Fault Refusal :=
  let s := tick dt s
  if s.pwr.stage == .parked && s.pwr.parkThermal && s.pwr.tjDc < 1000 && !s.pwr.warn && (!s.pwr.warnInPark || recovered s) then
    .next (warmReset 1 view s)
  else .next s

/-- THERMAL_CLEAR: the junction falls below 100 °C (R814). -/
def execThermalClear (dt : Nat) (tjDc : Int) (s : State) : Outcome State Fault Refusal :=
  let s := tick dt s
  if s.pwr.hot && tjDc < 1000 then .next (s.onPwr fun p => { p with hot := false, tjDc := tjDc }) else .next s

/-! ### ROM recovery over Ethernet (R712, R713) -/

/-- The host number of an Ethernet source: 17 and up, in the order in which the sources were first heard (R707, R713). -/
def sourceHost (source : Nat) (s : State) : Nat × State :=
  let s := if s.fwu.sources.contains source then s else s.onFwu fun f => { f with sources := f.sources ++ [source] }
  (17 + s.fwu.sources.findIdx (· == source), s)

/-- What a command of the ROM does for an Ethernet source (R712). -/
def romRun (h : Nat) (t : Taken) (s : State) : State × Reply :=
  match t.opcode with
  | 0x0101 => (s, okWith (sysInfoBytes s 0 0 [] false))
  | 0x0E01 => fwuStatus t s
  | 0x0E02 => fwuBegin h t s
  | 0x0E03 => if 1024 < (t.payload.drop 8).length then (s, answer .badarg) else fwuLoad h t s
  | 0x0E04 => fwuFinish h t s
  | 0x0E05 => fwuAbort h t s
  | _ => (s, answer .locked)

/-- RECOVERY_FRAME: a frame of EtherType 0x88B5 to the unit's address, or SYS_INFO to the broadcast address, is answered to its source
(R713). -/
def execRecoveryFrame (dt source : Nat) (broadcast : Bool) (hdr : CmdHeader) (payload : List Byte) (s : State) :
    Outcome State Fault Refusal :=
  let s := tick dt s
  if s.pwr.stage == .recovery && !s.pwr.hemFlag && (!broadcast || hdr.opcode == 0x0101) then
    let t := takenOf hdr payload
    let (h, s) := sourceHost source s
    match if 4080 < hdr.length || 1 < hdr.flags then .fail .badarg else checkCommand s t with
    | .fail st => .next (answerOther h t (answer st) s)
    | _ => .next (runOther h t romRun s)
  else .next s

end Sys2Proof.Machine
end

