-- ==== Sys2Proof/Machine/Power.lean ====
section
/-! DEFINITION. Power states, Re-arms, the PWR commands and the engines' local-memory errors ("Supply, start-up and power states", "Two
sides, two hierarchies"). -/

namespace Sys2Proof.Machine

open Host (Outcome)

/-! ### Times and tolerances (R803, R809) -/

/-- Exit max of Doze (2) and Hold (3) in µs (R803). -/
def exitUs (target : Nat) : Nat := if target = 3 then 20000 else 3000

/-- Entry max of Doze and Hold in µs (R803). -/
def entryUs (target : Nat) : Nat := if target = 3 then 5000 else 1000

/-- The tolerance of a host: its statement, else PWR_DEFAULT_TOL_US (R809). -/
def hostTol (s : State) (x : HostSt) : Nat := x.tolUs.getD s.cfg.act.defaultTolUs

/-- The effective tolerance: the smallest among the online hosts, else PWR_DEFAULT_TOL_US (R809). -/
def effTol (s : State) : Nat :=
  match (s.hosts.hosts.toList.filter (·.online)).map (hostTol s) with
  | [] => s.cfg.act.defaultTolUs
  | t :: l => l.foldl min t

/-- A span of µs as phase ticks of the present cycle, rounded up. -/
def usToPt (s : State) (us : Nat) : Nat := (ofUs us * 65536 + cycleLen s - 1) / cycleLen s

/-- Whether a state is allowed and its exit max fits the effective tolerance (R810). -/
def mayChoose (s : State) (target : Nat) : Bool := s.cfg.act.allow.getLsbD (target - 1) && decide (exitUs target ≤ effTol s)

/-! ### The refusers (R806) -/

/-- RF1. -/
def firmwareRefuses (s : State) (target : Nat) : Bool :=
  let horizon := s.key + usToPt s (exitUs target + entryUs target) + mc
  !s.cfg.act.allow.getLsbD (target - 1) || !s.hosts.ready || (pairCfg s).enable
    || s.sched.entries.any (fun e => e.cls ≤ 7 && e.key ≤ horizon)
    || s.met.session.isSome || s.bal.catching || (campsRunning s).any (fun p => p.2.blocks.isSome) || !s.arch.queries.isEmpty

/-- RF2. -/
def hostRefuses (s : State) (target : Nat) : Bool :=
  s.hosts.hosts.toList.any (fun x =>
      x.box.isSome || 0 < waiting x || x.openCmds.any (fun t => !t.dead)
        || x.leases.any fun l => s.rc < l.endRc && claimKind l.claim == 0x24)
    || !s.hosts.dispatchQ.isEmpty || effTol s < exitUs target

/-- RF3. -/
def engineRefuses (s : State) : Bool :=
  let b := s.sess
  !(s.rad.q0.isEmpty && s.plc.q1.isEmpty && b.q2.isEmpty && b.q2Held.isEmpty && b.unpackWait.isEmpty && b.behind.isEmpty && b.q3.isEmpty
    && b.q3Held.isEmpty && b.sigWait.isEmpty && b.q4.isEmpty && b.q4Held.isEmpty && b.held.isEmpty && s.vee.q5.isEmpty
    && s.vee.q5Held.isEmpty && s.vee.q6.isEmpty && s.vee.q6Held.isEmpty && s.plc.q8.isEmpty && s.reg.q9.isEmpty && s.fab.q11.isEmpty
    && b.fleetIn.isEmpty)

/-- RF4. -/
def blockRefuses (s : State) : Bool :=
  !s.evt.q10.isEmpty || !s.rad.q7.isEmpty || s.arch.queues.any (fun q => !q.2.isEmpty) || !s.arch.openRecs.isEmpty || !s.arch.reqs.isEmpty
    || s.arch.state == 1 || s.arch.state == 5 || s.rad.fes.any (fun f => f.tx.isSome || f.retune.isSome) || !s.fab.seamUp
    || !s.sess.dirty.isEmpty

/-- The first refuser, asked in the order firmware, host, engine, block, by its number in LAST_REFUSER (R805, R816). -/
def refuser (s : State) (target : Nat) : Option Nat :=
  if firmwareRefuses s target then some 3
  else if hostRefuses s target then some 2
  else if engineRefuses s then some 0
  else if blockRefuses s then some 1
  else none

/-- A refused entry is counted and shown (R807). -/
def refuseEntry (target who : Nat) (s : State) : State :=
  setSticky 0x07C 0x20 (s.onPwr fun p =>
    { p with target := target, entering := false, lastRefuser := who, refused := bumpAt p.refused (4 * (target - 1) + who) })

/-- The commit point: Hold's save items are written first, then the target is latched and the domains shut down (R805, R808, R812). -/
def commitEntry (target : Nat) (s : State) : State :=
  let s := if target = 3 then saveTables s else s
  beginTransit .power false (ofUs (entryUs target)) (s.onPwr fun p => { p with target := target, entering := true, committed := true })

/-- POWER_STATE_ENTRY: the supervisor executes WAIT for Doze (2) or Hold (3). Without `commit` the entry stands in its check phase, where
a wake source or Hem may still end it. The supervisor chooses the deepest state that may be chosen, so that it does not enter Doze while
Hold may be; what has changed since its choice refuses (R804–R808, R810). -/
def execPowerStateEntry (dt target : Nat) (commit : Bool) (s : State) : Outcome State Fault Refusal :=
  let s := tick dt s
  let awake := match s.pwr.state with
    | .run | .trim => true
    | .doze | .hold => false
  if s.pwr.stage == .running && !s.pwr.hemFlag && awake && (target = 3 || target = 2 && !mayChoose s 3) && !s.pwr.committed then
    match refuser s target with
    | some w => .next (refuseEntry target w s)
    | none => .next (if commit then commitEntry target s else s.onPwr fun p => { p with target := target, entering := true })
  else .next s

/-! ### What an entry and an exit do (R57, R263, R624, R802) -/

/-- The radio domain is off. -/
def radiosOff (s : State) : State :=
  s.onRad fun r => { r with fes := r.fes.map fun f => { f with ready := false, calEnd := none, tx := none } }

/-- Hold: the PCIe links and the Ethernet ports go down; the upstream connection and the children's end, and the time source loses
qualification (R127, R802). -/
def networkOff (s : State) : State :=
  let pcie := fun (h : Fin 4) => 1 ≤ (s.host h).port && (s.host h).port ≤ 4
  let s := (([0, 1, 2, 3] : List (Fin 4)).filter pcie).foldl (fun s h => goOffline h s) s
  let s := s.upl.children.foldl (fun s c => endChild c.1 s) (endUp (if namesUpstream s then 1 else 0) (setLink 1 0 (setLink 0 0 s)))
  let s := s.onTime fun t => { t with qual0 := false, qual1 := false }
  if stillQualifies s then s else loseSource s

/-- The entry has completed: the state is taken, its domains are off, and in Hold the pulse outputs are released (R255, R802, R803,
R820). -/
def enterState (target : Nat) (s : State) : State :=
  let s := radiosOff s
  let s := if target = 3 then releasePulses (networkOff s) else s
  s.onPwr fun p =>
    { p with state := if target = 3 then .hold else .doze, entering := false, committed := false, gated := 0
             entries := bumpAt p.entries (target - 1) }

/-- A wake begins the exit, which takes the exit max (R803, R811). -/
def beginExit (s : State) : State :=
  beginTransit .power true (ofUs (exitUs (if s.pwr.state == .hold then 3 else 2))) (s.onPwr fun p => { p with wakeReq := false, bell := none })

/-- The exit has completed: Run; held commits take effect, and the enabled front ends calibrate (R57, R263, R803). -/
def finishExit (s : State) : State :=
  let before := s
  let s := if s.pwr.state == .hold then s.onLink fun l => { l with startKey := s.key } else s
  let s := s.onPwr fun p => { p with state := .run }
  let s := releaseHeld s
  let fe := fun (s : State) (n : Nat) =>
    if fePowered s n && (feIn s.cfg.act n).enable then beginTransit (.fe n) true (ofMs 2) (startCalibration n s) else s
  let s := [0, 1].foldl fe s
  freeEdge before ((lanesOn s.cfg.act).foldl (fun s l => laneHears l.1 s) s)

/-! ### Wake sources (R805, R811) -/

/-- The refuser that names an aborted entry: a doorbell counts as host, a due entry as firmware, a ring push as engine, any other source
as block (R805). -/
def abortName (source : Nat) : Nat := if source = 2 then 2 else if source = 1 then 3 else if source = 6 then 0 else 1

/-- Whether a source wakes from the present state: 1 to 5 are WK1 to WK5; a doorbell has been written on a bound port (R811). -/
def wakes (s : State) (source : Nat) : Bool :=
  let hold := s.pwr.state == .hold
  let span := usToPt s (exitUs (if hold then 3 else 2))
  match source with
  | 1 => s.sched.entries.any fun e => e.key ≤ s.key + span
  | 2 => match s.pwr.bell with
    | some p => !hold || 5 ≤ p
    | none => false
  | 3 => s.pwr.wakeReq
  | 4 | 5 => !hold
  | _ => false

/-- WAKE: a wake source ends Doze or Hold, is held as a Re-arm of Run past the commit point, or aborts an entry before it; source 6 is a
ring push and 7 any other one, which act only on an entry in its check phase (R805, R807, R811, R812). -/
def execWake (dt source : Nat) (s : State) : Outcome State Fault Refusal :=
  let s := tick dt s
  if s.pwr.stage == .running && !s.pwr.hemFlag then
    if s.pwr.committed then .next (armRequest .power true .run (fun s => s) s).1
    else if s.pwr.entering then
      let who := abortName source
      .next (setSticky 0x07C 0x40 (s.onPwr fun p =>
        { p with entering := false, wakeReq := false, bell := none, lastRefuser := who, aborted := bumpAt p.aborted (4 * (p.target - 1) + who) }))
    else
      match s.pwr.state with
      | .doze | .hold => .next (if (transitOf s .power).isNone && wakes s source then beginExit s else s)
      | .run | .trim => .next s
  else .next s

/-! ### Trim (R804) -/

/-- Whether the work assigned to a cluster has no item and its rings are empty (R35, R804). -/
def clusterIdle (s : State) (n : Nat) : Bool :=
  match s.cfg.startCfg.clusters.getD n n with
  | 0 => s.sess.q3.isEmpty && s.sess.held.isEmpty && s.sess.q4Held.isEmpty && s.reg.q9.isEmpty
  | 1 => s.sess.q4.isEmpty && s.vee.q5Held.isEmpty && s.vee.q6Held.isEmpty
  | 2 => decide (s.arch.logBase + s.arch.commitLog.length ≤ s.bal.logPos)
  | _ => s.vee.q5.isEmpty && s.vee.q6.isEmpty && s.plc.q1.isEmpty && s.plc.q8.isEmpty && s.fab.q11.isEmpty && s.sess.fleetIn.isEmpty && s.arch.queues.all (fun q => q.2.isEmpty)

/-- The state that the gated clusters give: Trim while any is gated (R802, R816). -/
def trimState (s : State) : State :=
  s.onPwr fun p =>
    match p.state with
    | .run | .trim => { p with state := if p.gated = 0 then .run else .trim }
    | _ => p

/-- CLUSTER_GATE: a cluster whose rings have been empty and whose engines have been idle for 1,000 ec is gated; Trim is allowed by
PWR_ALLOW bit 0 (R804, R810, R812). -/
def execClusterGate (dt : Nat) (cluster : Fin 4) (s : State) : Outcome State Fault Refusal :=
  let s := tick dt s
  let awake := s.pwr.state == .run || s.pwr.state == .trim
  if s.pwr.stage == .running && awake && s.cfg.act.allow.getLsbD 0 && !s.pwr.gated.getLsbD cluster.val && clusterIdle s cluster.val
      && (transitOf s (.cluster cluster.val)).isNone then
    let s := s.onPwr fun p =>
      { p with gated := p.gated ||| BitVec.ofNat 4 (2 ^ cluster.val), target := 1, entries := bumpAt p.entries 0 }
    .next (trimState (beginTransit (.cluster cluster.val) false (ofUs 2) s))
  else .next s

/-- A cluster runs again: commits held for its work take effect, then its rings' items are taken (R57, R804). -/
def ungate (n : Nat) (s : State) : State :=
  takeQ1 (takeQ9 (releaseHeld (trimState (s.onPwr fun p => { p with gated := p.gated &&& ~~~(BitVec.ofNat 4 (2 ^ n)) }))))

/-- CLUSTER_UNGATE: a push to one of its rings ungates a cluster; while its gating is in progress the request is held (RA6; R804, R812). -/
def execClusterUngate (dt : Nat) (cluster : Fin 4) (s : State) : Outcome State Fault Refusal :=
  let s := tick dt s
  if s.pwr.stage == .running && s.pwr.gated.getLsbD cluster.val then
    .next (armRequest (.cluster cluster.val) true .ungate (ungate cluster.val) s).1
  else .next s

/-! ### Re-arms (R812, R813) -/

/-- A power-line Re-arm: its fields by commit, its MODE at the first cycle start at least 64 pt ahead (R341). -/
def rearmPlc (c : PlcCfg) (s : State) : State :=
  let s := postWord (.plc { c with mode := (shadowCfg s).plc.mode }) s
  (placeMode c.mode s).getD s

/-- A held request executes (R812). -/
def execRearm (fn : ArmFn) (r : ArmReq) (s : State) : State :=
  match fn, r with
  | .fe n, .fe c => postWord (.fe n c) s
  | .lane n, .lane c => postWord (.lane n c) s
  | .wur, .wur c => postWord (.wur c) s
  | .plc, .plc c => rearmPlc c s
  | .port n, .port m => commitPort n m s
  | .cluster n, .ungate => ungate n s
  | .power, .run => beginExit s
  | _, _ => s

/-- What the completion of a shutdown or power-up itself does. -/
def transitDone (t : Transit) (s : State) : State :=
  match t.fn with
  | .power => if t.up then finishExit s else enterState s.pwr.target s
  | _ => s

/-- REARM_EXECUTE: the oldest shutdown or power-up that has ended completes, and the Re-arm that it held executes (R812, R813). -/
def execRearmExecute (dt : Nat) (s : State) : Outcome State Fault Refusal :=
  let s := tick dt s
  if s.pwr.stage == .running then
    match s.pwr.transits.find? (fun t => t.endRc ≤ s.rc) with
    | none => .next s
    | some t =>
      let s := s.onPwr fun p => { p with transits := p.transits.filter fun u => u.fn != t.fn }
      let s := transitDone t s
      .next (match t.rearm with
        | some r => execRearm t.fn r s
        | none => s)
  else .next s

/-! ### The PWR commands (R817–R820) -/

/-- PWR_STATUS' work (R818). -/
def pwrStatus (h : Fin 4) (_ : Taken) (s : State) : State × Reply :=
  let p := s.pwr
  (s, okWith (leBytes 1 (powerCode p.state) ++ leBytes 1 p.target ++ leBytes 1 (bit (p.stage == .parked)) ++ leBytes 1 p.lastRefuser
    ++ leBytes 4 (effTol s) ++ leBytes 4 (hostTol s (s.host h)) ++ leBytes 4 p.vinMv ++ leBytesI 2 p.tjDc ++ leBytes 2 0
    ++ leBytes 4 s.fab.lineWarnMv ++ leBytes 1 (bit p.hemOkLast) ++ leBytes 3 0 ++ leBytes 4 p.lastHemUs))

/-- PWR_STATUS (R818). -/
def execPwrStatus (dt : Nat) (host : Fin 4) (s : State) : Outcome State Fault Refusal :=
  .next (runCmd 0x1101 host (pwrStatus host) (tick dt s))

/-- PWR_TOLERANCE's work (R809, R819). -/
def pwrTolerance (h : Fin 4) (t : Taken) (s : State) : State × Reply :=
  let v := fld t.payload 0 4
  if 1000000 < v && v ≠ 0xFFFFFFFF then (s, answer .badarg)
  else
    let s := s.setHost h { s.host h with tolUs := if v = 0xFFFFFFFF then none else some v }
    (s, okWith (leBytes 4 (effTol s) ++ leBytes 4 0))

/-- PWR_TOLERANCE (R819). -/
def execPwrTolerance (dt : Nat) (host : Fin 4) (s : State) : Outcome State Fault Refusal :=
  .next (runCmd 0x1102 host (pwrTolerance host) (tick dt s))

/-- PWR_COUNTERS' work: thirty-four counts (R820). -/
def pwrCounters (_ : Taken) (s : State) : State × Reply :=
  let p := s.pwr
  (s, okWith ((p.entries ++ p.refused ++ p.aborted
    ++ [p.rearms, p.rearmSuperseded, p.rearmCancelled, p.rearmDropped, p.parks, p.thermalStops, 0]).flatMap (leBytes 4)))

/-- PWR_COUNTERS (R820). -/
def execPwrCounters (dt : Nat) (host : Fin 4) (s : State) : Outcome State Fault Refusal :=
  .next (runCmd 0x1103 host pwrCounters (tick dt s))

/-! ### Engine local memory (R37) -/

/-- Takes the head of a device ring away. -/
def dropHead (ring : Nat) (s : State) : State :=
  match ring with
  | 0 => s.onRad fun r => { r with q0 := r.q0.drop 1 }
  | 1 => s.onPlc fun p => { p with q1 := p.q1.drop 1 }
  | 2 => popQ2 s
  | 3 => popQ3 s
  | 4 => popQ4 s
  | 5 => s.onVee fun v => { v with q5 := v.q5.drop 1 }
  | 6 => s.onVee fun v => { v with q6 := v.q6.drop 1 }
  | 7 => s.onRad fun r => { r with q7 := r.q7.drop 1 }
  | 8 => s.onPlc fun p => { p with q8 := p.q8.drop 1 }
  | 9 => s.onReg fun g => { g with q9 := g.q9.drop 1 }
  | 11 => popQ11 s
  | _ => s

/-- ENGINE_MEMORY_ERROR: engine `engine` meets an uncorrectable error while it works on the item at the head of ring `ring`, which `item`
identifies; the engine is halted, its program reloaded and the item returned once to the head; an item that fails a second time goes to
the supervisor with the meter index `meter`, whichever engine of its cluster meets the error then (R37). -/
def execEngineMemoryError (dt engine ring item meter : Nat) (s : State) : Outcome State Fault Refusal :=
  let s := tick dt s
  if stageAlive s && engine < 16 then
    let s := setAlarm 0x8 (raise .engineHalt engine (leBytes 1 engine) s)
    let it := (engine / 4, ring, item)
    if s.fab.engRetried.contains it then
      let s := s.onFab fun f =>
        { f with engRetried := f.engRetried.filter (· != it), engSupervisor := f.engSupervisor ++ [meter] }
      .next (raise .engineItem srcSup (leBytes 4 meter) (dropHead ring s))
    else .next (s.onFab fun f => { f with engRetried := f.engRetried ++ [it] })
  else .next s

end Sys2Proof.Machine
end

