-- ==== Sys2Proof/Machine/Dispatch.lean ====
section
/-! DEFINITION. The dispatch: one arm per constructor of `Instr`, each one direct call of its meaning. -/

namespace Sys2Proof.Machine

/-- The effect of a command on everything but the queue (the row's rules are cited at each meaning). -/
def exec (i : Instr) (s : State) : Host.Outcome State Fault Refusal :=
  match i with
  | .vinRise dt mv => Sys2Proof.Machine.execVinRise dt mv s
  | .vinUvlo dt mv => Sys2Proof.Machine.execVinUvlo dt mv s
  | .resetNRelease dt view => Sys2Proof.Machine.execResetNRelease dt view s
  | .resetNAssert dt => Sys2Proof.Machine.execResetNAssert dt s
  | .bootWatchdog dt view => Sys2Proof.Machine.execBootWatchdog dt view s
  | .recoveryFrame dt source broadcast hdr payload => Sys2Proof.Machine.execRecoveryFrame dt source broadcast hdr payload s
  | .seamFrameReceive dt frame => Sys2Proof.Machine.execSeamFrameReceive dt frame s
  | .legalWriteRepeat dt => Sys2Proof.Machine.execLegalWriteRepeat dt s
  | .seamChannelDown dt rxBroken => Sys2Proof.Machine.execSeamChannelDown dt rxBroken s
  | .seamResync dt => Sys2Proof.Machine.execSeamResync dt s
  | .engineMemoryError dt engine ring item meter => Sys2Proof.Machine.execEngineMemoryError dt engine ring item meter s
  | .lockstepMismatch dt view => Sys2Proof.Machine.execLockstepMismatch dt view s
  | .eccUncorrectable dt error => Sys2Proof.Machine.execEccUncorrectable dt error s
  | .controlWordCommit dt n => Sys2Proof.Machine.execControlWordCommit dt n s
  | .zeroCrossing dt chan delay => Sys2Proof.Machine.execZeroCrossing dt chan delay s
  | .holdoverEntry dt => Sys2Proof.Machine.execHoldoverEntry dt s
  | .holdoverCycleEnd dt => Sys2Proof.Machine.execHoldoverCycleEnd dt s
  | .holdoverToVirtual dt => Sys2Proof.Machine.execHoldoverToVirtual dt s
  | .virtualCycleEnd dt => Sys2Proof.Machine.execVirtualCycleEnd dt s
  | .cycleCheckpoint dt => Sys2Proof.Machine.execCycleCheckpoint dt s
  | .mainsCountAlign dt => Sys2Proof.Machine.execMainsCountAlign dt s
  | .xrefSegmentClose dt => Sys2Proof.Machine.execXrefSegmentClose dt s
  | .anchorApply dt => Sys2Proof.Machine.execAnchorApply dt s
  | .stepApply dt => Sys2Proof.Machine.execStepApply dt s
  | .entryReconvert dt seq => Sys2Proof.Machine.execEntryReconvert dt seq s
  | .hemStart dt => Sys2Proof.Machine.execHemStart dt s
  | .hemComplete dt => Sys2Proof.Machine.execHemComplete dt s
  | .brownoutRestart dt view => Sys2Proof.Machine.execBrownoutRestart dt view s
  | .earlyWarningAssert dt mv cyc => Sys2Proof.Machine.execEarlyWarningAssert dt mv cyc s
  | .earlyWarningDeassert dt mv => Sys2Proof.Machine.execEarlyWarningDeassert dt mv s
  | .heartbeatSend dt => Sys2Proof.Machine.execHeartbeatSend dt s
  | .demandClose dt => Sys2Proof.Machine.execDemandClose dt s
  | .billingPeriodClose dt => Sys2Proof.Machine.execBillingPeriodClose dt s
  | .tariffSwitch dt => Sys2Proof.Machine.execTariffSwitch dt s
  | .registerSnapshot dt => Sys2Proof.Machine.execRegisterSnapshot dt s
  | .overlayChange dt => Sys2Proof.Machine.execOverlayChange dt s
  | .hostEvent dt => Sys2Proof.Machine.execHostEvent dt s
  | .fwuRestart dt view => Sys2Proof.Machine.execFwuRestart dt view s
  | .timePairCommit dt => Sys2Proof.Machine.execTimePairCommit dt s
  | .slewEnd dt => Sys2Proof.Machine.execSlewEnd dt s
  | .sourceSelect dt q0 q1 best announce => Sys2Proof.Machine.execSourceSelect dt q0 q1 best announce s
  | .sourceLoss dt => Sys2Proof.Machine.execSourceLoss dt s
  | .ptpEventReceive dt port msg => Sys2Proof.Machine.execPtpEventReceive dt port msg s
  | .ptpEgress dt port kind ident seqId corr forwarded udp => Sys2Proof.Machine.execPtpEgress dt port kind ident seqId corr forwarded udp s
  | .leapApply dt => Sys2Proof.Machine.execLeapApply dt s
  | .timeSet dt host => Sys2Proof.Machine.execTimeSet dt host s
  | .timeAdj dt host => Sys2Proof.Machine.execTimeAdj dt host s
  | .timeStep dt host => Sys2Proof.Machine.execTimeStep dt host s
  | .timeStatus dt host => Sys2Proof.Machine.execTimeStatus dt host s
  | .schedAdd dt host => Sys2Proof.Machine.execSchedAdd dt host s
  | .schedCancel dt host => Sys2Proof.Machine.execSchedCancel dt host s
  | .xref dt host => Sys2Proof.Machine.execXref dt host s
  | .timeNowLoRead dt host => Sys2Proof.Machine.execTimeNowLoRead dt host s
  | .mainsCycLoRead dt host => Sys2Proof.Machine.execMainsCycLoRead dt host s
  | .dspCycleEnd dt cyc => Sys2Proof.Machine.execDspCycleEnd dt cyc s
  | .resultSetReceive dt => Sys2Proof.Machine.execResultSetReceive dt s
  | .windowComplete dt => Sys2Proof.Machine.execWindowComplete dt s
  | .registerImageRefresh dt reg => Sys2Proof.Machine.execRegisterImageRefresh dt reg s
  | .harmonicWindowEnd dt => Sys2Proof.Machine.execHarmonicWindowEnd dt s
  | .calFallbackTimeout dt => Sys2Proof.Machine.execCalFallbackTimeout dt s
  | .calEnRelease dt => Sys2Proof.Machine.execCalEnRelease dt s
  | .calSessionTimeout dt => Sys2Proof.Machine.execCalSessionTimeout dt s
  | .calStepComplete dt => Sys2Proof.Machine.execCalStepComplete dt s
  | .metStatus dt host => Sys2Proof.Machine.execMetStatus dt host s
  | .calOpen dt host calEnLow => Sys2Proof.Machine.execCalOpen dt host calEnLow s
  | .calStep dt host => Sys2Proof.Machine.execCalStep dt host s
  | .calClose dt host => Sys2Proof.Machine.execCalClose dt host s
  | .calRead dt host => Sys2Proof.Machine.execCalRead dt host s
  | .harmRead dt host => Sys2Proof.Machine.execHarmRead dt host s
  | .tariffInputTakeover dt => Sys2Proof.Machine.execTariffInputTakeover dt s
  | .regRead dt host => Sys2Proof.Machine.execRegRead dt host s
  | .tariffSet dt host => Sys2Proof.Machine.execTariffSet dt host s
  | .demandRead dt host => Sys2Proof.Machine.execDemandRead dt host s
  | .billingClose dt host => Sys2Proof.Machine.execBillingClose dt host s
  | .pqUpdate dt ms half => Sys2Proof.Machine.execPqUpdate dt ms half s
  | .pqReportReceive dt => Sys2Proof.Machine.execPqReportReceive dt s
  | .pulseStart dt out => Sys2Proof.Machine.execPulseStart dt out s
  | .pulseEnd dt out => Sys2Proof.Machine.execPulseEnd dt out s
  | .pulseDebtAlarm dt out => Sys2Proof.Machine.execPulseDebtAlarm dt out s
  | .pulseConfigApply dt out => Sys2Proof.Machine.execPulseConfigApply dt out s
  | .pulseLandEdge dt out => Sys2Proof.Machine.execPulseLandEdge dt out s
  | .pulseSet dt host => Sys2Proof.Machine.execPulseSet dt host s
  | .pulseStatus dt host => Sys2Proof.Machine.execPulseStatus dt host s
  | .feCalibrationDone dt fe => Sys2Proof.Machine.execFeCalibrationDone dt fe s
  | .feRetune dt fe inFrame => Sys2Proof.Machine.execFeRetune dt fe inFrame s
  | .laneFrameReceive dt frame => Sys2Proof.Machine.execLaneFrameReceive dt frame s
  | .txRelease dt cca => Sys2Proof.Machine.execTxRelease dt cca s
  | .txEnd dt fe => Sys2Proof.Machine.execTxEnd dt fe s
  | .wurFrame dt addr check rssiClass => Sys2Proof.Machine.execWurFrame dt addr check rssiClass s
  | .feSet dt host => Sys2Proof.Machine.execFeSet dt host s
  | .laneSet dt host => Sys2Proof.Machine.execLaneSet dt host s
  | .rfStatus dt host => Sys2Proof.Machine.execRfStatus dt host s
  | .wurSet dt host => Sys2Proof.Machine.execWurSet dt host s
  | .wakeSend dt host => Sys2Proof.Machine.execWakeSend dt host s
  | .macFrameAccept dt ackCap => Sys2Proof.Machine.execMacFrameAccept dt ackCap s
  | .checkinEvaluate dt meter => Sys2Proof.Machine.execCheckinEvaluate dt meter s
  | .joinTimeout dt meter => Sys2Proof.Machine.execJoinTimeout dt meter s
  | .ackWaitExpire dt id => Sys2Proof.Machine.execAckWaitExpire dt id s
  | .nbrRead dt host => Sys2Proof.Machine.execNbrRead dt host s
  | .lprofSet dt host => Sys2Proof.Machine.execLprofSet dt host s
  | .nbrPin dt host => Sys2Proof.Machine.execNbrPin dt host s
  | .linkCounters dt host => Sys2Proof.Machine.execLinkCounters dt host s
  | .plcModeApply dt => Sys2Proof.Machine.execPlcModeApply dt s
  | .plcRetrainEnd dt => Sys2Proof.Machine.execPlcRetrainEnd dt s
  | .plcDriverMute dt => Sys2Proof.Machine.execPlcDriverMute dt s
  | .plcNoiseUpdate dt meas => Sys2Proof.Machine.execPlcNoiseUpdate dt meas s
  | .plcTxDue dt => Sys2Proof.Machine.execPlcTxDue dt s
  | .plcFrameStart dt csmaFail busy => Sys2Proof.Machine.execPlcFrameStart dt csmaFail busy s
  | .plcNoWindow dt => Sys2Proof.Machine.execPlcNoWindow dt s
  | .plcFrameReceive dt frame => Sys2Proof.Machine.execPlcFrameReceive dt frame s
  | .plcThermal dt => Sys2Proof.Machine.execPlcThermal dt s
  | .plcNodeAge dt node => Sys2Proof.Machine.execPlcNodeAge dt node s
  | .plcSet dt host => Sys2Proof.Machine.execPlcSet dt host s
  | .plcStatus dt host => Sys2Proof.Machine.execPlcStatus dt host s
  | .noiseRead dt host => Sys2Proof.Machine.execNoiseRead dt host s
  | .zcRead dt host => Sys2Proof.Machine.execZcRead dt host s
  | .firmwareUnpack dt => Sys2Proof.Machine.execFirmwareUnpack dt s
  | .sessionStage dt => Sys2Proof.Machine.execSessionStage dt s
  | .ecdsaVerify dt ok => Sys2Proof.Machine.execEcdsaVerify dt ok s
  | .datablockTimeout dt meter => Sys2Proof.Machine.execDatablockTimeout dt meter s
  | .prevKeyExpire dt meter => Sys2Proof.Machine.execPrevKeyExpire dt meter s
  | .normalise dt => Sys2Proof.Machine.execNormalise dt s
  | .pairHoldTimeout dt => Sys2Proof.Machine.execPairHoldTimeout dt s
  | .contextWriteback dt meter => Sys2Proof.Machine.execContextWriteback dt meter s
  | .burstCreditUpdate dt => Sys2Proof.Machine.execBurstCreditUpdate dt s
  | .meterAdmit dt host => Sys2Proof.Machine.execMeterAdmit dt host s
  | .meterRetire dt host => Sys2Proof.Machine.execMeterRetire dt host s
  | .meterRead dt host => Sys2Proof.Machine.execMeterRead dt host s
  | .parseSet dt host => Sys2Proof.Machine.execParseSet dt host s
  | .ingestCounters dt host => Sys2Proof.Machine.execIngestCounters dt host s
  | .meterFind dt host => Sys2Proof.Machine.execMeterFind dt host s
  | .validate dt => Sys2Proof.Machine.execValidate dt s
  | .veeProfileSet dt host => Sys2Proof.Machine.execVeeProfileSet dt host s
  | .veeShapeSet dt host => Sys2Proof.Machine.execVeeShapeSet dt host s
  | .veeMeterSet dt host => Sys2Proof.Machine.execVeeMeterSet dt host s
  | .veeEdit dt host => Sys2Proof.Machine.execVeeEdit dt host s
  | .veeEstimate dt host => Sys2Proof.Machine.execVeeEstimate dt host s
  | .veeCounters dt host => Sys2Proof.Machine.execVeeCounters dt host s
  | .topoSample dt => Sys2Proof.Machine.execTopoSample dt s
  | .balCompile dt => Sys2Proof.Machine.execBalCompile dt s
  | .topoRead dt host => Sys2Proof.Machine.execTopoRead dt host s
  | .topoPin dt host => Sys2Proof.Machine.execTopoPin dt host s
  | .balFeederSet dt host => Sys2Proof.Machine.execBalFeederSet dt host s
  | .balReportRead dt host => Sys2Proof.Machine.execBalReportRead dt host s
  | .scoreRead dt host => Sys2Proof.Machine.execScoreRead dt host s
  | .balCounters dt host => Sys2Proof.Machine.execBalCounters dt host s
  | .balRecompile dt host => Sys2Proof.Machine.execBalRecompile dt host s
  | .recordPack dt => Sys2Proof.Machine.execRecordPack dt s
  | .pageFlush dt => Sys2Proof.Machine.execPageFlush dt s
  | .pageProgramDone dt die ok => Sys2Proof.Machine.execPageProgramDone dt die ok s
  | .dieFail dt die => Sys2Proof.Machine.execDieFail dt die s
  | .dieRebuildDone dt die => Sys2Proof.Machine.execDieRebuildDone dt die s
  | .spaceRecovery dt fails => Sys2Proof.Machine.execSpaceRecovery dt fails s
  | .patrolRead dt corr step second => Sys2Proof.Machine.execPatrolRead dt corr step second s
  | .nandTempRead dt temps => Sys2Proof.Machine.execNandTempRead dt temps s
  | .hostBlockRequest dt ring data => Sys2Proof.Machine.execHostBlockRequest dt ring data s
  | .hostBlockComplete dt n => Sys2Proof.Machine.execHostBlockComplete dt n s
  | .archQueryScan dt host corr step second => Sys2Proof.Machine.execArchQueryScan dt host corr step second s
  | .eventCopy dt => Sys2Proof.Machine.execEventCopy dt s
  | .archHealth dt host => Sys2Proof.Machine.execArchHealth dt host s
  | .archDieRead dt host => Sys2Proof.Machine.execArchDieRead dt host s
  | .archQuery dt host => Sys2Proof.Machine.execArchQuery dt host s
  | .archQueryCancel dt host => Sys2Proof.Machine.execArchQueryCancel dt host s
  | .archFormat dt host => Sys2Proof.Machine.execArchFormat dt host s
  | .archDieRetire dt host => Sys2Proof.Machine.execArchDieRetire dt host s
  | .uplinkConnect dt ok => Sys2Proof.Machine.execUplinkConnect dt ok s
  | .uplinkLinkLoss dt port lost => Sys2Proof.Machine.execUplinkLinkLoss dt port lost s
  | .connectionTimeout dt child => Sys2Proof.Machine.execConnectionTimeout dt child s
  | .keepaliveSend dt child => Sys2Proof.Machine.execKeepaliveSend dt child s
  | .bundleSend dt => Sys2Proof.Machine.execBundleSend dt s
  | .hello dt port unit idHash formatId => Sys2Proof.Machine.execHello dt port unit idHash formatId s
  | .helloAck dt status nextPos bound credit depth => Sys2Proof.Machine.execHelloAck dt status nextPos bound credit depth s
  | .bundle dt child seq first recs => Sys2Proof.Machine.execBundle dt child seq first recs s
  | .cipher dt child seq entries => Sys2Proof.Machine.execCipher dt child seq entries s
  | .ack dt seq pos => Sys2Proof.Machine.execAck dt seq pos s
  | .credit dt credit => Sys2Proof.Machine.execCredit dt credit s
  | .timeReqSend dt => Sys2Proof.Machine.execTimeReqSend dt s
  | .timeReq dt child t1 => Sys2Proof.Machine.execTimeReq dt child t1 s
  | .timeResp dt t1 t2 t3 utc anchored leap61 leap59 => Sys2Proof.Machine.execTimeResp dt t1 t2 t3 utc anchored leap61 leap59 s
  | .down dt body => Sys2Proof.Machine.execDown dt body s
  | .downResult dt child tag outcome => Sys2Proof.Machine.execDownResult dt child tag outcome s
  | .keepalive dt child => Sys2Proof.Machine.execKeepalive dt child s
  | .headEndAck dt pos => Sys2Proof.Machine.execHeadEndAck dt pos s
  | .uplStatus dt host => Sys2Proof.Machine.execUplStatus dt host s
  | .childRead dt host => Sys2Proof.Machine.execChildRead dt host s
  | .childSet dt host => Sys2Proof.Machine.execChildSet dt host s
  | .fleetResponse dt => Sys2Proof.Machine.execFleetResponse dt s
  | .pushRecompute dt => Sys2Proof.Machine.execPushRecompute dt s
  | .pushActivate dt => Sys2Proof.Machine.execPushActivate dt s
  | .fleetCheckpoint dt => Sys2Proof.Machine.execFleetCheckpoint dt s
  | .tokenDeliver dt => Sys2Proof.Machine.execTokenDeliver dt s
  | .campaignRoundStart dt => Sys2Proof.Machine.execCampaignRoundStart dt s
  | .campaignBlockSend dt => Sys2Proof.Machine.execCampaignBlockSend dt s
  | .campaignActivate dt => Sys2Proof.Machine.execCampaignActivate dt s
  | .pushCreate dt host => Sys2Proof.Machine.execPushCreate dt host s
  | .pushMember dt host => Sys2Proof.Machine.execPushMember dt host s
  | .pushStatus dt host => Sys2Proof.Machine.execPushStatus dt host s
  | .pushCancel dt host => Sys2Proof.Machine.execPushCancel dt host s
  | .tokenSend dt host => Sys2Proof.Machine.execTokenSend dt host s
  | .ledgerNote dt host => Sys2Proof.Machine.execLedgerNote dt host s
  | .ledgerRead dt host => Sys2Proof.Machine.execLedgerRead dt host s
  | .fleetMeterSet dt host => Sys2Proof.Machine.execFleetMeterSet dt host s
  | .campCreate dt host => Sys2Proof.Machine.execCampCreate dt host s
  | .campLoad dt host => Sys2Proof.Machine.execCampLoad dt host s
  | .campMember dt host => Sys2Proof.Machine.execCampMember dt host s
  | .campStart dt host => Sys2Proof.Machine.execCampStart dt host s
  | .campStatus dt host => Sys2Proof.Machine.execCampStatus dt host s
  | .campCancel dt host => Sys2Proof.Machine.execCampCancel dt host s
  | .doorbellCmd dt host hdr payload => Sys2Proof.Machine.execDoorbellCmd dt host hdr payload s
  | .commandTake dt => Sys2Proof.Machine.execCommandTake dt s
  | .respAck dt host => Sys2Proof.Machine.execRespAck dt host s
  | .detach dt host => Sys2Proof.Machine.execDetach dt host s
  | .hostOffline dt host => Sys2Proof.Machine.execHostOffline dt host s
  | .collarHalfwordRead dt cs off => Sys2Proof.Machine.execCollarHalfwordRead dt cs off s
  | .ringProdWrite dt host ordinal prod items => Sys2Proof.Machine.execRingProdWrite dt host ordinal prod items s
  | .ringConsWrite dt host ordinal cons => Sys2Proof.Machine.execRingConsWrite dt host ordinal cons s
  | .registerWrite dt host off half value => Sys2Proof.Machine.execRegisterWrite dt host off half value s
  | .leaseExpire dt => Sys2Proof.Machine.execLeaseExpire dt s
  | .sysInfo dt host => Sys2Proof.Machine.execSysInfo dt host s
  | .leaseTake dt host => Sys2Proof.Machine.execLeaseTake dt host s
  | .leaseRelease dt host => Sys2Proof.Machine.execLeaseRelease dt host s
  | .leaseRead dt host => Sys2Proof.Machine.execLeaseRead dt host s
  | .keyStatus dt host => Sys2Proof.Machine.execKeyStatus dt host s
  | .keyLoad dt host => Sys2Proof.Machine.execKeyLoad dt host s
  | .keyApply dt host sigOk => Sys2Proof.Machine.execKeyApply dt host sigOk s
  | .keyApplyComplete dt => Sys2Proof.Machine.execKeyApplyComplete dt s
  | .slotRead dt host => Sys2Proof.Machine.execSlotRead dt host s
  | .attest dt host => Sys2Proof.Machine.execAttest dt host s
  | .attestComplete dt => Sys2Proof.Machine.execAttestComplete dt s
  | .fwuStatus dt host => Sys2Proof.Machine.execFwuStatus dt host s
  | .fwuBegin dt host head => Sys2Proof.Machine.execFwuBegin dt host head s
  | .fwuBeginComplete dt => Sys2Proof.Machine.execFwuBeginComplete dt s
  | .fwuLoad dt host head => Sys2Proof.Machine.execFwuLoad dt host head s
  | .fwuFinish dt host head => Sys2Proof.Machine.execFwuFinish dt host head s
  | .fwuFinishComplete dt sigOk resOk => Sys2Proof.Machine.execFwuFinishComplete dt sigOk resOk s
  | .fwuAbort dt host head => Sys2Proof.Machine.execFwuAbort dt host head s
  | .fwuFloor dt host => Sys2Proof.Machine.execFwuFloor dt host s
  | .heartbeatReceive dt hb mark => Sys2Proof.Machine.execHeartbeatReceive dt hb mark s
  | .heartbeatMiss dt => Sys2Proof.Machine.execHeartbeatMiss dt s
  | .listenEnd dt => Sys2Proof.Machine.execListenEnd dt s
  | .yokeLaneChange dt up => Sys2Proof.Machine.execYokeLaneChange dt up s
  | .delta dt jseq body mark => Sys2Proof.Machine.execDelta dt jseq body mark s
  | .yokeAcknowledgement dt jseq mark => Sys2Proof.Machine.execYokeAcknowledgement dt jseq mark s
  | .snapshot dt jseq body mark => Sys2Proof.Machine.execSnapshot dt jseq body mark s
  | .snapshotEnd dt jseq mark => Sys2Proof.Machine.execSnapshotEnd dt jseq mark s
  | .syncLost dt mark => Sys2Proof.Machine.execSyncLost dt mark s
  | .mirrorPeriodic dt => Sys2Proof.Machine.execMirrorPeriodic dt s
  | .resyncRetry dt => Sys2Proof.Machine.execResyncRetry dt s
  | .revertHoldoff dt => Sys2Proof.Machine.execRevertHoldoff dt s
  | .handover dt => Sys2Proof.Machine.execHandover dt s
  | .pairStatus dt host => Sys2Proof.Machine.execPairStatus dt host s
  | .pairSwitch dt host => Sys2Proof.Machine.execPairSwitch dt host s
  | .pairLock dt host => Sys2Proof.Machine.execPairLock dt host s
  | .eventRaise dt => Sys2Proof.Machine.execEventRaise dt s
  | .bucketRefill dt code => Sys2Proof.Machine.execBucketRefill dt code s
  | .opTimeCheckpoint dt => Sys2Proof.Machine.execOpTimeCheckpoint dt s
  | .evtStatus dt host => Sys2Proof.Machine.execEvtStatus dt host s
  | .evtRead dt host => Sys2Proof.Machine.execEvtRead dt host s
  | .evtCodeRead dt host => Sys2Proof.Machine.execEvtCodeRead dt host s
  | .evtCodeSet dt host => Sys2Proof.Machine.execEvtCodeSet dt host s
  | .evtClear dt host => Sys2Proof.Machine.execEvtClear dt host s
  | .evtClearComplete dt => Sys2Proof.Machine.execEvtClearComplete dt s
  | .evtMlogRead dt host => Sys2Proof.Machine.execEvtMlogRead dt host s
  | .evtPost dt host => Sys2Proof.Machine.execEvtPost dt host s
  | .powerStateEntry dt target commit => Sys2Proof.Machine.execPowerStateEntry dt target commit s
  | .wake dt source => Sys2Proof.Machine.execWake dt source s
  | .clusterGate dt cluster => Sys2Proof.Machine.execClusterGate dt cluster s
  | .clusterUngate dt cluster => Sys2Proof.Machine.execClusterUngate dt cluster s
  | .rearmExecute dt => Sys2Proof.Machine.execRearmExecute dt s
  | .thermalWarn dt tjDc => Sys2Proof.Machine.execThermalWarn dt tjDc s
  | .thermalStop dt tjDc => Sys2Proof.Machine.execThermalStop dt tjDc s
  | .thermalRestart dt view => Sys2Proof.Machine.execThermalRestart dt view s
  | .pwrStatus dt host => Sys2Proof.Machine.execPwrStatus dt host s
  | .pwrTolerance dt host => Sys2Proof.Machine.execPwrTolerance dt host s
  | .pwrCounters dt host => Sys2Proof.Machine.execPwrCounters dt host s
  | .islandedTrigger dt => Sys2Proof.Machine.execIslandedTrigger dt s
  | .cfgStatus dt host => Sys2Proof.Machine.execCfgStatus dt host s
  | .cfgLoad dt host => Sys2Proof.Machine.execCfgLoad dt host s
  | .cfgApply dt host image => Sys2Proof.Machine.execCfgApply dt host image s
  | .cfgApplyComplete dt => Sys2Proof.Machine.execCfgApplyComplete dt s
  | .cfgOverlay dt host => Sys2Proof.Machine.execCfgOverlay dt host s
  | .cfgSchema dt host => Sys2Proof.Machine.execCfgSchema dt host s
  | .cfgFuses dt host => Sys2Proof.Machine.execCfgFuses dt host s
  | .lineSideFrameReceive dt frame => Sys2Proof.Machine.execLineSideFrameReceive dt frame s
  | .plcFrameEnd dt ilim => Sys2Proof.Machine.execPlcFrameEnd dt ilim s
  | .plcThermalRecover dt => Sys2Proof.Machine.execPlcThermalRecover dt s
  | .thermalClear dt tjDc => Sys2Proof.Machine.execThermalClear dt tjDc s
  | .converterFeedbackLoss dt => Sys2Proof.Machine.execConverterFeedbackLoss dt s
  | .formatComplete dt => Sys2Proof.Machine.execFormatComplete dt s
  | .nandOperationTimeout dt die => Sys2Proof.Machine.execNandOperationTimeout dt die s
  | .agcOverload dt fe => Sys2Proof.Machine.execAgcOverload dt fe s

end Sys2Proof.Machine
end

