-- ==== Sys2Proof/Safety.lean ====
section
/-! DEFINITION. The terms in which the statements speak: which blocks of State a command leaves unchanged, that a command completes and
what then holds, and how a mailbox command is answered. -/

namespace Sys2Proof.Machine

/-! ### Blocks of State -/

/-- The blocks of State, and the model's own two fields. -/
inductive Block
  | cfg | hosts | mains | sched | time | fab | evt | pwr | met | rad | link | plc | sess | vee | bal | arch | upl | fleet | pocket
  | fwu | pair | reg | pending | free
deriving DecidableEq, Repr

/-- A block is equal in two states. -/
def Same : Block → State → State → Prop
  | .cfg, s, t => t.cfg = s.cfg
  | .hosts, s, t => t.hosts = s.hosts
  | .mains, s, t => t.mains = s.mains
  | .sched, s, t => t.sched = s.sched
  | .time, s, t => t.time = s.time
  | .fab, s, t => t.fab = s.fab
  | .evt, s, t => t.evt = s.evt
  | .pwr, s, t => t.pwr = s.pwr
  | .met, s, t => t.met = s.met
  | .rad, s, t => t.rad = s.rad
  | .link, s, t => t.link = s.link
  | .plc, s, t => t.plc = s.plc
  | .sess, s, t => t.sess = s.sess
  | .vee, s, t => t.vee = s.vee
  | .bal, s, t => t.bal = s.bal
  | .arch, s, t => t.arch = s.arch
  | .upl, s, t => t.upl = s.upl
  | .fleet, s, t => t.fleet = s.fleet
  | .pocket, s, t => t.pocket = s.pocket
  | .fwu, s, t => t.fwu = s.fwu
  | .pair, s, t => t.pair = s.pair
  | .reg, s, t => t.reg = s.reg
  | .pending, s, t => t.pending = s.pending
  | .free, s, t => t.free = s.free

/-- Nothing outside the listed blocks differs. -/
def Only (bs : List Block) (s t : State) : Prop := ∀ b, b ∉ bs → Same b s t

/-! ### Completion -/

/-- The command completes: from every state in which `pre` holds once its time has passed it answers a next state, and `post` relates
the two. -/
def Completes (c : Nat → Instr) (pre : State → Prop) (post : State → State → Prop) : Prop :=
  ∀ (dt : Nat) (s : State), pre (tick dt s) → ∃ t, exec (c dt) s = .next t ∧ post (tick dt s) t

/-- The dispatched command that waits first is this host's and has this opcode (R647). -/
def Dispatched (h : Fin 4) (op : Nat) (tk : Taken) (s : State) : Prop :=
  s.hosts.dispatchQ.head? = some (h.val, tk) ∧ tk.opcode = op

/-- The dispatched command that waits first is taken away. -/
def dequeue (s : State) : State := s.onHosts fun b => { b with dispatchQ := b.dispatchQ.tail }

/-- The mailbox command completes: when it is the one dispatched first and `pre` holds, it answers a next state, which is the one that
`post` relates to the state before with its response given. -/
def Serves (c : Nat → Fin 4 → Instr) (op : Nat) (pre : Fin 4 → Taken → State → Prop)
    (post : Fin 4 → Taken → State → State → Reply → Prop) : Prop :=
  ∀ (dt : Nat) (h : Fin 4) (s : State) (tk : Taken), Dispatched h op tk (tick dt s) → pre h tk (dequeue (tick dt s)) →
    ∃ t r, exec (c dt h) s = .next (respond h tk r t) ∧ post h tk (dequeue (tick dt s)) t r

/-- The mailbox command only reads: it answers a next state that differs from the one before in its response alone, which is OK with
`len` bytes of which `post` tells. -/
def Reads (c : Nat → Fin 4 → Instr) (op len : Nat) (pre : Fin 4 → Taken → State → Prop)
    (post : Fin 4 → Taken → State → List Byte → Prop) : Prop :=
  ∀ (dt : Nat) (h : Fin 4) (s : State) (tk : Taken), Dispatched h op tk (tick dt s) → pre h tk (dequeue (tick dt s)) →
    ∃ p, exec (c dt h) s = .next (respond h tk (okWith p) (dequeue (tick dt s))) ∧ p.length = len ∧
      post h tk (dequeue (tick dt s)) p

/-- The little-endian field of `size` bytes at `off` is `v` (R17). -/
def Shows (p : List Byte) (off size v : Nat) : Prop := (p.drop off).take size = leBytes size v

/-- The signed little-endian field of `size` bytes at `off` is `v`. -/
def ShowsI (p : List Byte) (off size : Nat) (v : Int) : Prop := (p.drop off).take size = leBytesI size v

/-- An event stands at the end of Q10, where the recorder records and Q10 had room (R760). -/
def Logged (e : EvName) (source : Nat) (detail : List Byte) (u t : State) : Prop :=
  recorderLives u = true → u.evt.q10.length < 1024 →
    ∃ x, t.evt.q10 = u.evt.q10 ++ [x] ∧ x.code = evCode e ∧ x.source = source ∧ x.detail = detail

/-! ### Families of commands and what they touch -/

/-- The families of commands, by the block manager that owns them (the class table of the control hierarchy, R758): the system manager
with the hosts and the Seam, time and mains, and the others under their own names. -/
inductive Family
  | sys | time | metro | reg | link | plc | meter | vee | bal | arch | upl | fleet | key | fwu | pair | evt | pwr | cfg
deriving DecidableEq, Repr

/-- The family of a command. -/
def family (c : Instr) : Family :=
  match c with
  | .seamFrameReceive .. | .legalWriteRepeat .. | .seamResync .. | .eccUncorrectable .. | .doorbellCmd .. | .commandTake ..
  | .respAck .. | .detach .. | .hostOffline .. | .collarHalfwordRead .. | .ringProdWrite .. | .ringConsWrite ..
  | .registerWrite .. | .leaseExpire .. | .sysInfo .. | .leaseTake .. | .leaseRelease .. | .leaseRead ..
  | .lineSideFrameReceive .. | .converterFeedbackLoss .. => .sys
  | .zeroCrossing .. | .holdoverEntry .. | .holdoverCycleEnd .. | .holdoverToVirtual .. | .virtualCycleEnd ..
  | .cycleCheckpoint .. | .mainsCountAlign .. | .xrefSegmentClose .. | .anchorApply .. | .stepApply .. | .entryReconvert ..
  | .hostEvent .. | .timePairCommit .. | .slewEnd .. | .sourceSelect .. | .sourceLoss .. | .ptpEventReceive .. | .ptpEgress ..
  | .leapApply .. | .timeSet .. | .timeAdj .. | .timeStep .. | .timeStatus .. | .schedAdd .. | .schedCancel .. | .xref ..
  | .timeNowLoRead .. | .mainsCycLoRead .. => .time
  | .dspCycleEnd .. | .registerImageRefresh .. | .harmonicWindowEnd .. | .calFallbackTimeout .. | .calEnRelease ..
  | .calSessionTimeout .. | .calStepComplete .. | .metStatus .. | .calOpen .. | .calStep .. | .calClose .. | .calRead ..
  | .harmRead .. | .tariffInputTakeover .. => .metro
  | .demandClose .. | .billingPeriodClose .. | .tariffSwitch .. | .registerSnapshot .. | .resultSetReceive ..
  | .windowComplete .. | .regRead .. | .tariffSet .. | .demandRead .. | .billingClose .. | .pqUpdate .. | .pqReportReceive ..
  | .pulseStart .. | .pulseEnd .. | .pulseDebtAlarm .. | .pulseConfigApply .. | .pulseSet .. | .pulseStatus .. => .reg
  | .controlWordCommit .. | .feCalibrationDone .. | .feRetune .. | .laneFrameReceive .. | .txRelease .. | .txEnd ..
  | .wurFrame .. | .feSet .. | .laneSet .. | .rfStatus .. | .wurSet .. | .wakeSend .. | .macFrameAccept .. | .checkinEvaluate ..
  | .joinTimeout .. | .ackWaitExpire .. | .nbrRead .. | .lprofSet .. | .nbrPin .. | .linkCounters .. | .agcOverload .. => .link
  | .seamChannelDown .. | .plcModeApply .. | .plcRetrainEnd .. | .plcDriverMute .. | .plcNoiseUpdate .. | .plcTxDue ..
  | .plcFrameStart .. | .plcNoWindow .. | .plcFrameReceive .. | .plcThermal .. | .plcNodeAge .. | .plcSet .. | .plcStatus ..
  | .noiseRead .. | .zcRead .. | .plcFrameEnd .. | .plcThermalRecover .. => .plc
  | .firmwareUnpack .. | .sessionStage .. | .ecdsaVerify .. | .datablockTimeout .. | .prevKeyExpire .. | .normalise ..
  | .pairHoldTimeout .. | .contextWriteback .. | .burstCreditUpdate .. | .meterAdmit .. | .meterRetire .. | .meterRead ..
  | .parseSet .. | .ingestCounters .. | .meterFind .. => .meter
  | .validate .. | .veeProfileSet .. | .veeShapeSet .. | .veeMeterSet .. | .veeEdit .. | .veeEstimate .. | .veeCounters .. => .vee
  | .topoSample .. | .balCompile .. | .topoRead .. | .topoPin .. | .balFeederSet .. | .balReportRead .. | .scoreRead ..
  | .balCounters .. | .balRecompile .. => .bal
  | .recordPack .. | .pageFlush .. | .pageProgramDone .. | .dieFail .. | .dieRebuildDone .. | .spaceRecovery .. | .patrolRead ..
  | .nandTempRead .. | .hostBlockRequest .. | .hostBlockComplete .. | .archQueryScan .. | .eventCopy .. | .archHealth ..
  | .archDieRead .. | .archQuery .. | .archQueryCancel .. | .archFormat .. | .archDieRetire .. | .formatComplete ..
  | .nandOperationTimeout .. => .arch
  | .uplinkConnect .. | .uplinkLinkLoss .. | .connectionTimeout .. | .keepaliveSend .. | .bundleSend .. | .hello ..
  | .helloAck .. | .bundle .. | .cipher .. | .ack .. | .credit .. | .timeReqSend .. | .timeReq .. | .timeResp .. | .down ..
  | .downResult .. | .keepalive .. | .headEndAck .. | .uplStatus .. | .childRead .. | .childSet .. => .upl
  | .fleetResponse .. | .pushRecompute .. | .pushActivate .. | .fleetCheckpoint .. | .tokenDeliver .. | .campaignRoundStart ..
  | .campaignBlockSend .. | .campaignActivate .. | .pushCreate .. | .pushMember .. | .pushStatus .. | .pushCancel ..
  | .tokenSend .. | .ledgerNote .. | .ledgerRead .. | .fleetMeterSet .. | .campCreate .. | .campLoad .. | .campMember ..
  | .campStart .. | .campStatus .. | .campCancel .. => .fleet
  | .keyStatus .. | .keyLoad .. | .keyApply .. | .keyApplyComplete .. | .slotRead .. | .attest .. | .attestComplete .. => .key
  | .fwuStatus .. | .fwuBegin .. | .fwuBeginComplete .. | .fwuLoad .. | .fwuFinish .. | .fwuFinishComplete .. | .fwuAbort ..
  | .fwuFloor .. => .fwu
  | .heartbeatSend .. | .pulseLandEdge .. | .heartbeatReceive .. | .heartbeatMiss .. | .listenEnd .. | .yokeLaneChange ..
  | .delta .. | .yokeAcknowledgement .. | .snapshot .. | .snapshotEnd .. | .syncLost .. | .mirrorPeriodic .. | .resyncRetry ..
  | .revertHoldoff .. | .handover .. | .pairStatus .. | .pairSwitch .. | .pairLock .. => .pair
  | .eventRaise .. | .bucketRefill .. | .opTimeCheckpoint .. | .evtStatus .. | .evtRead .. | .evtCodeRead .. | .evtCodeSet ..
  | .evtClear .. | .evtClearComplete .. | .evtMlogRead .. | .evtPost .. => .evt
  | .vinRise .. | .vinUvlo .. | .resetNRelease .. | .resetNAssert .. | .bootWatchdog .. | .recoveryFrame ..
  | .engineMemoryError .. | .lockstepMismatch .. | .hemStart .. | .hemComplete .. | .brownoutRestart .. | .earlyWarningAssert ..
  | .earlyWarningDeassert .. | .fwuRestart .. | .powerStateEntry .. | .wake .. | .clusterGate .. | .clusterUngate ..
  | .rearmExecute .. | .thermalWarn .. | .thermalStop .. | .thermalRestart .. | .pwrStatus .. | .pwrTolerance ..
  | .pwrCounters .. | .thermalClear .. => .pwr
  | .overlayChange .. | .islandedTrigger .. | .cfgStatus .. | .cfgLoad .. | .cfgApply .. | .cfgApplyComplete .. | .cfgOverlay ..
  | .cfgSchema .. | .cfgFuses .. => .cfg

/-- The blocks of State that a command's effect, with the events, deltas and answers it gives rise to, may change. Every command moves
`time`, and `met` with the operating time of a session. -/
def touches (c : Instr) : List Block :=
  match c with
  | .vinRise .. => [.time, .fab, .pwr, .met]
  | .vinUvlo .. | .resetNAssert ..
    => [.cfg, .hosts, .sched, .time, .fab, .evt, .pwr, .met, .rad, .link, .plc, .sess, .vee, .bal, .arch, .upl, .pocket, .fwu, .reg]
  | .resetNRelease .. | .bootWatchdog .. | .lockstepMismatch .. | .brownoutRestart .. | .fwuRestart .. | .thermalRestart ..
    => [.cfg, .hosts, .mains, .sched, .time, .fab, .evt, .pwr, .met, .rad, .link, .plc, .sess, .vee, .bal, .arch, .upl, .fleet, .pocket, .fwu, .pair, .reg, .free]
  | .recoveryFrame .. => [.time, .met, .fwu]
  | .seamFrameReceive .. => [.hosts, .time, .fab, .evt, .pwr, .met]
  | .legalWriteRepeat .. | .registerImageRefresh .. | .converterFeedbackLoss .. => [.time, .fab, .met]
  | .seamChannelDown .. | .plcDriverMute .. => [.hosts, .time, .fab, .evt, .met, .link, .plc, .upl]
  | .seamResync .. | .eccUncorrectable .. | .calFallbackTimeout .. | .calEnRelease .. | .calSessionTimeout .. | .calOpen ..
  | .tariffInputTakeover .. | .lineSideFrameReceive .. => [.hosts, .time, .fab, .evt, .met]
  | .engineMemoryError .. => [.hosts, .time, .fab, .evt, .met, .rad, .plc, .sess, .vee, .reg]
  | .controlWordCommit .. => [.cfg, .hosts, .time, .fab, .evt, .pwr, .met, .rad, .link, .sess, .vee, .arch, .fleet, .pair]
  | .zeroCrossing .. | .holdoverEntry .. => [.hosts, .mains, .time, .evt, .met, .arch]
  | .holdoverCycleEnd .. | .holdoverToVirtual .. | .virtualCycleEnd .. | .cycleCheckpoint .. => [.mains, .time, .met]
  | .mainsCountAlign .. => [.hosts, .mains, .sched, .time, .evt, .met, .arch, .pair]
  | .xrefSegmentClose .. => [.mains, .time, .met, .arch]
  | .anchorApply .. => [.hosts, .mains, .sched, .time, .fab, .evt, .met, .arch, .pair, .reg]
  | .stepApply .. => [.mains, .sched, .time, .met, .arch]
  | .entryReconvert .. => [.sched, .time, .met]
  | .hemStart .. => [.hosts, .sched, .time, .fab, .evt, .pwr, .met, .rad, .link, .plc, .arch, .upl, .pair, .reg]
  | .hemComplete ..
    => [.cfg, .hosts, .mains, .sched, .time, .fab, .evt, .pwr, .met, .rad, .link, .plc, .sess, .vee, .bal, .arch, .upl, .pocket, .fwu, .reg]
  | .earlyWarningAssert .. => [.hosts, .sched, .time, .fab, .evt, .pwr, .met, .link, .plc, .upl, .pair, .reg]
  | .earlyWarningDeassert .. | .clusterGate .. | .thermalClear .. => [.time, .pwr, .met]
  | .heartbeatSend .. => [.cfg, .hosts, .sched, .time, .fab, .evt, .met, .rad, .link, .plc, .upl, .pair, .reg]
  | .demandClose .. | .billingPeriodClose .. | .registerSnapshot .. | .billingClose .. => [.hosts, .sched, .time, .evt, .met, .pair, .reg]
  | .tariffSwitch .. => [.hosts, .sched, .time, .fab, .evt, .met, .pair, .reg]
  | .overlayChange .. => [.cfg, .hosts, .sched, .time, .fab, .evt, .pwr, .met, .sess, .bal, .upl, .pair, .reg]
  | .hostEvent .. | .schedAdd .. | .schedCancel .. => [.hosts, .sched, .time, .evt, .met, .pair]
  | .timePairCommit .. => [.hosts, .mains, .time, .evt, .met]
  | .slewEnd .. | .ptpEgress .. | .leapApply .. | .harmonicWindowEnd .. => [.time, .met]
  | .sourceSelect .. | .sourceLoss .. | .ptpEventReceive .. | .leaseTake .. | .evtCodeSet .. | .evtPost .. => [.hosts, .time, .evt, .met]
  | .timeSet .. | .timeAdj .. | .timeStep .. | .timeStatus .. | .xref .. | .timeNowLoRead .. | .mainsCycLoRead ..
  | .calStepComplete .. | .metStatus .. | .calRead .. | .harmRead .. | .regRead .. | .demandRead .. | .pulseStatus ..
  | .nbrRead .. | .linkCounters .. | .plcStatus .. | .noiseRead .. | .zcRead .. | .meterRead .. | .ingestCounters ..
  | .meterFind .. | .veeCounters .. | .topoRead .. | .balReportRead .. | .scoreRead .. | .balCounters .. | .archHealth ..
  | .archDieRead .. | .uplStatus .. | .childRead .. | .pushStatus .. | .ledgerRead .. | .campStatus .. | .commandTake ..
  | .collarHalfwordRead .. | .ringProdWrite .. | .ringConsWrite .. | .registerWrite .. | .leaseExpire .. | .sysInfo ..
  | .leaseRelease .. | .leaseRead .. | .keyStatus .. | .slotRead .. | .fwuStatus .. | .pairStatus .. | .evtStatus ..
  | .evtRead .. | .evtCodeRead .. | .evtMlogRead .. | .pwrStatus .. | .pwrTolerance .. | .pwrCounters .. | .cfgStatus ..
  | .cfgSchema .. | .cfgFuses .. | .agcOverload .. => [.hosts, .time, .met]
  | .dspCycleEnd .. => [.hosts, .time, .fab, .evt, .met, .reg]
  | .resultSetReceive .. => [.hosts, .mains, .time, .fab, .evt, .met, .pair, .reg]
  | .windowComplete .. => [.hosts, .time, .fab, .evt, .met, .sess, .reg]
  | .calStep .. => [.hosts, .time, .fab, .met]
  | .calClose .. => [.hosts, .time, .fab, .evt, .met, .free]
  | .tariffSet .. => [.hosts, .time, .fab, .met, .reg]
  | .pqUpdate .. => [.mains, .time, .met, .reg]
  | .pqReportReceive .. => [.hosts, .time, .fab, .evt, .met, .sess]
  | .pulseStart .. | .pulseEnd .. | .pulseLandEdge .. => [.time, .met, .reg]
  | .pulseDebtAlarm .. => [.hosts, .time, .evt, .met, .reg]
  | .pulseConfigApply .. => [.cfg, .time, .met, .reg]
  | .pulseSet .. => [.hosts, .time, .met, .reg]
  | .feCalibrationDone .. => [.time, .met, .rad]
  | .feRetune .. => [.cfg, .time, .met, .rad]
  | .laneFrameReceive .. => [.hosts, .time, .fab, .met, .rad]
  | .txRelease .. | .ackWaitExpire .. | .plcTxDue .. | .plcFrameStart .. | .plcNoWindow .. | .down ..
    => [.hosts, .sched, .time, .fab, .evt, .met, .rad, .link, .plc, .upl, .pair]
  | .txEnd .. => [.hosts, .time, .met, .rad, .link, .upl]
  | .wurFrame .. | .thermalWarn .. => [.hosts, .time, .evt, .pwr, .met]
  | .feSet .. | .laneSet .. | .wurSet .. => [.cfg, .hosts, .time, .fab, .pwr, .met]
  | .rfStatus .. => [.hosts, .time, .met, .free]
  | .wakeSend .. => [.hosts, .sched, .time, .fab, .evt, .met, .rad, .pair]
  | .macFrameAccept .. => [.hosts, .sched, .time, .fab, .evt, .met, .rad, .link, .sess, .arch, .upl, .pair]
  | .checkinEvaluate .. => [.hosts, .sched, .time, .fab, .evt, .met, .rad, .link, .sess, .arch, .pair]
  | .joinTimeout .. => [.hosts, .time, .evt, .met, .link, .sess, .vee, .arch, .fleet, .pair]
  | .lprofSet .. | .nbrPin .. | .meterRetire .. | .parseSet .. | .veeProfileSet .. | .veeShapeSet .. | .veeMeterSet ..
    => [.cfg, .hosts, .time, .fab, .met]
  | .plcModeApply .. => [.cfg, .hosts, .sched, .time, .fab, .evt, .pwr, .met, .rad, .link, .plc, .upl, .pair]
  | .plcRetrainEnd .. | .plcNoiseUpdate .. | .plcNodeAge .. | .plcThermalRecover .. => [.time, .met, .plc]
  | .plcFrameReceive .. => [.hosts, .sched, .time, .fab, .evt, .met, .rad, .link, .plc, .sess, .arch, .upl, .pair]
  | .plcThermal .. => [.hosts, .time, .fab, .evt, .met, .plc]
  | .plcSet .. => [.cfg, .hosts, .sched, .time, .fab, .evt, .pwr, .met, .pair]
  | .firmwareUnpack .. => [.time, .fab, .met, .sess, .upl]
  | .sessionStage .. | .ecdsaVerify .. => [.hosts, .time, .fab, .evt, .met, .link, .sess, .arch, .upl, .pocket, .pair]
  | .datablockTimeout .. | .prevKeyExpire .. | .fleetMeterSet .. => [.hosts, .time, .evt, .met, .sess, .arch, .pair]
  | .normalise .. => [.hosts, .time, .fab, .evt, .met, .sess, .arch, .upl, .pair]
  | .pairHoldTimeout .. | .yokeAcknowledgement .. => [.hosts, .time, .fab, .evt, .met, .sess, .arch, .pair]
  | .contextWriteback .. | .dieRebuildDone .. | .nandTempRead .. | .eventCopy .. | .nandOperationTimeout .. => [.time, .met, .arch]
  | .burstCreditUpdate .. => [.time, .met, .sess]
  | .meterAdmit .. => [.cfg, .hosts, .time, .fab, .evt, .met]
  | .validate .. => [.hosts, .time, .fab, .evt, .met, .sess, .vee, .arch]
  | .veeEdit .. | .veeEstimate .. => [.hosts, .time, .fab, .evt, .met, .sess, .vee]
  | .topoSample .. => [.time, .met, .bal]
  | .balCompile .. => [.hosts, .time, .fab, .evt, .met, .sess, .vee, .bal, .arch, .pair]
  | .topoPin .. | .balRecompile .. => [.hosts, .time, .met, .bal]
  | .balFeederSet .. => [.hosts, .time, .evt, .met, .bal, .pair]
  | .recordPack .. => [.hosts, .time, .met, .vee, .arch]
  | .pageFlush .. | .hostBlockRequest .. | .hostBlockComplete .. | .archQueryCancel .. | .archFormat .. => [.hosts, .time, .met, .arch]
  | .pageProgramDone .. => [.hosts, .time, .evt, .met, .sess, .vee, .bal, .arch, .upl]
  | .dieFail .. | .spaceRecovery .. | .patrolRead .. | .archDieRetire .. | .evtClearComplete .. => [.hosts, .time, .evt, .met, .arch]
  | .archQueryScan .. => [.hosts, .time, .fab, .evt, .met, .arch]
  | .archQuery .. => [.hosts, .time, .fab, .met, .arch]
  | .uplinkConnect .. | .headEndAck .. => [.cfg, .hosts, .sched, .time, .evt, .met, .upl, .pair]
  | .uplinkLinkLoss .. | .connectionTimeout .. => [.cfg, .hosts, .time, .evt, .met, .sess, .upl]
  | .keepaliveSend .. | .credit .. | .timeReq .. | .downResult .. | .keepalive .. => [.time, .met, .upl]
  | .bundleSend .. => [.time, .met, .sess, .upl, .free]
  | .hello .. | .timeReqSend .. | .timeResp .. => [.hosts, .time, .evt, .met, .upl]
  | .helloAck .. | .ack .. => [.cfg, .hosts, .sched, .time, .evt, .met, .sess, .upl, .pair]
  | .bundle .. | .cipher .. => [.hosts, .time, .fab, .evt, .met, .sess, .upl]
  | .childSet .. => [.hosts, .time, .met, .upl]
  | .fleetResponse .. | .pushRecompute .. | .pushActivate .. | .fleetCheckpoint .. | .tokenDeliver .. | .campaignRoundStart ..
  | .campaignBlockSend .. | .campaignActivate .. | .pushMember .. | .pushCancel .. | .campMember .. | .campStart ..
    => [.hosts, .sched, .time, .fab, .evt, .met, .rad, .link, .plc, .sess, .arch, .upl, .fleet, .pair]
  | .pushCreate .. | .campCreate .. => [.hosts, .time, .met, .fleet]
  | .tokenSend .. | .campCancel .. => [.hosts, .time, .evt, .met, .sess, .arch, .fleet, .pair]
  | .ledgerNote .. => [.hosts, .time, .evt, .met, .arch, .fleet, .pair]
  | .campLoad .. => [.hosts, .time, .evt, .met, .arch, .fleet]
  | .doorbellCmd .. | .respAck .. | .wake .. => [.hosts, .time, .pwr, .met]
  | .detach .. => [.cfg, .hosts, .time, .evt, .pwr, .met, .pocket]
  | .hostOffline .. => [.cfg, .hosts, .time, .evt, .met, .pocket]
  | .keyLoad .. | .attest .. => [.hosts, .time, .met, .pocket]
  | .keyApply .. => [.hosts, .time, .evt, .met, .sess, .arch, .pocket, .pair]
  | .keyApplyComplete .. => [.hosts, .time, .evt, .met, .sess, .arch, .pocket, .pair, .free]
  | .attestComplete .. => [.hosts, .time, .met, .pocket, .free]
  | .fwuBegin .. | .fwuBeginComplete .. | .fwuLoad .. | .fwuFinish .. | .fwuAbort .. | .fwuFloor .. => [.hosts, .time, .met, .fwu]
  | .fwuFinishComplete .. => [.hosts, .sched, .time, .evt, .met, .fwu, .pair]
  | .heartbeatReceive .. => [.cfg, .hosts, .mains, .sched, .time, .fab, .evt, .met, .rad, .link, .plc, .bal, .upl, .pair, .reg]
  | .heartbeatMiss .. => [.cfg, .hosts, .sched, .time, .evt, .met, .link, .bal, .pair, .reg]
  | .listenEnd .. | .yokeLaneChange .. | .syncLost .. | .resyncRetry .. | .islandedTrigger .. | .cfgApplyComplete ..
  | .cfgOverlay .. => [.cfg, .hosts, .sched, .time, .evt, .met, .pair]
  | .delta .. => [.cfg, .hosts, .sched, .time, .evt, .met, .sess, .bal, .arch, .fleet, .pair]
  | .snapshot .. | .snapshotEnd .. => [.time, .met, .sess, .bal, .arch, .fleet, .pair]
  | .mirrorPeriodic .. => [.hosts, .time, .evt, .met, .pair]
  | .revertHoldoff .. => [.time, .met, .pair]
  | .handover .. => [.cfg, .hosts, .sched, .time, .fab, .evt, .met, .rad, .link, .plc, .bal, .upl, .pair, .reg]
  | .pairSwitch .. | .pairLock .. => [.hosts, .time, .met, .pair]
  | .eventRaise .. | .bucketRefill .. => [.hosts, .time, .evt, .met, .free]
  | .opTimeCheckpoint .. => [.time, .evt, .met]
  | .evtClear .. => [.hosts, .time, .evt, .met, .arch, .free]
  | .powerStateEntry .. => [.hosts, .sched, .time, .pwr, .met, .sess, .reg]
  | .clusterUngate ..
    => [.cfg, .hosts, .mains, .sched, .time, .fab, .evt, .pwr, .met, .rad, .link, .plc, .sess, .vee, .arch, .upl, .fleet, .pair, .reg]
  | .rearmExecute ..
    => [.cfg, .hosts, .mains, .sched, .time, .fab, .evt, .pwr, .met, .rad, .link, .plc, .sess, .vee, .arch, .upl, .fleet, .pocket, .pair, .reg]
  | .thermalStop .. => [.hosts, .sched, .time, .evt, .pwr, .met, .pair]
  | .cfgLoad .. | .cfgApply .. => [.cfg, .hosts, .time, .met]
  | .plcFrameEnd .. => [.hosts, .time, .met, .link, .plc, .upl]
  | .formatComplete .. => [.hosts, .time, .evt, .met, .sess, .vee, .bal, .arch, .upl, .free]

/-! ### What every step keeps -/

/-- The modes and limited counts of the fuses, the boot record and the Pocket stand at values that the spec knows: the rollback floor from 0
to 63 (R711), BOOT_FAILS to 3, STAGING to 5, REASON to 3 (R715), ROOT to 2 (R687), and a lifecycle that a delivered unit has (R681). -/
def Legal (s : State) : Prop :=
  s.fwu.floor ≤ 63 ∧ s.fwu.bootFails ≤ 3 ∧ s.fwu.staging ≤ 5 ∧ s.fwu.reason ≤ 3 ∧ s.pocket.root ≤ 2 ∧ s.pocket.lifecycle ≠ .blank

/-- The lifecycle moves as LT3 and LT4 allow, or stays (R681). -/
def LifecycleMoves (a b : Lifecycle) : Prop :=
  b = a ∨ a = .provisioned ∧ b = .deployed ∨ (a = .provisioned ∨ a = .deployed ∨ a = .debug) ∧ b = .returned

end Sys2Proof.Machine
end

