-- ==== Sys2Proof/Certificates/Slice0/Obligations.lean ====
section
/-! DEFINITION. The statements for the provers. Each clause that begins Completes, Serves or Reads names one command, the hypotheses under
which it has its effect, and the whole next state; the rest of State is as it was. The rules a statement rests on stand in its docstring. -/

open Sys2Proof Sys2Proof.Machine

/-- A step runs the command at the front of the queue on the state with the queue's rest; an empty queue idles (the model's choice, log
  entry 2) (98_opcode_table, 91_not_in_source). -/
def Obligations.StepTakesFront : Prop :=
  (∀ (c : Instr) (rest : List Instr) (s : State), s.pending = c :: rest → step s = exec c { s with pending := rest }) ∧
  (∀ s : State, s.pending = [] → step s = .next s)

/-- Every command answers a next state in every state: none faults and none is refused (R636, R884). -/
def Obligations.EveryCommandCompletes : Prop :=
  (∀ (c : Instr) (s : State), ∃ t, exec c s = .next t)

/-- The state at reset is legal (R681, R687, R711, R715). -/
def Obligations.ResetIsLegal : Prop :=
  (Legal State.reset)

/-- Every step from a legal state leads to a legal state (R681, R687, R702, R706, R711, R715). -/
def Obligations.LegalIsKept : Prop :=
  (∀ s t : State, Legal s → step s = .next t → Legal t)

/-- No step lowers the rollback floor, and the lifecycle moves by LT3 and LT4 alone (R681, R706, R711, R834). -/
def Obligations.FusesOnlyBlow : Prop :=
  (∀ s t : State, step s = .next t → s.fwu.floor ≤ t.fwu.floor ∧ LifecycleMoves s.pocket.lifecycle t.pocket.lifecycle)

/-- What the commands of hosts, Seam, time, recorder and configuration leave unchanged (R637, R55, R760, R830). -/
def Obligations.FramesOfTheHub : Prop :=
  (∀ (c : Instr) (s t : State), family c ∈ [.sys, .time, .evt, .cfg] → exec c s = .next t → Only (touches c) s t)

/-- What the commands of metering, registers, power quality and pulses leave unchanged (R194, R178, R252). -/
def Obligations.FramesOfMetering : Prop :=
  (∀ (c : Instr) (s t : State), family c ∈ [.metro, .reg] → exec c s = .next t → Only (touches c) s t)

/-- What the commands of radio, power line and ingest leave unchanged (R263, R341, R390). -/
def Obligations.FramesOfTheField : Prop :=
  (∀ (c : Instr) (s t : State), family c ∈ [.link, .plc, .meter] → exec c s = .next t → Only (touches c) s t)

/-- What the commands of validation, balance and archive leave unchanged (R410, R482, R524). -/
def Obligations.FramesOfTheData : Prop :=
  (∀ (c : Instr) (s t : State), family c ∈ [.vee, .bal, .arch] → exec c s = .next t → Only (touches c) s t)

/-- What the commands of uplink and fleet leave unchanged (R544, R583). -/
def Obligations.FramesOfTheUplink : Prop :=
  (∀ (c : Instr) (s t : State), family c ∈ [.upl, .fleet] → exec c s = .next t → Only (touches c) s t)

/-- What the commands of keys, firmware, pair and power leave unchanged (R680, R704, R736, R802). -/
def Obligations.FramesOfControl : Prop :=
  (∀ (c : Instr) (s t : State), family c ∈ [.key, .fwu, .pair, .pwr] → exec c s = .next t → Only (touches c) s t)

/-- Every W1C bit has one copy per host: its event sets all four, a host's write clears its own (R630). -/
def Obligations.StickyBits : Prop :=
  (∀ (off : Nat) (mask : Word) (s : State) (h : Fin 4), stickyOf ((setSticky off mask s).host h) off = stickyOf (s.host h) off ||| mask) ∧
  (∀ (host : Fin 4) (off : Nat) (value : Word), Completes (fun dt => .registerWrite dt host off none value) (fun u =>
    u.pwr.aonOn = true ∧ (u.host host).port ≠ 0 ∧ (u.host host).port ≠ 5 ∧ (u.host host).port ≠ 6 ∧
    (off = 0x030 ∨ 0x040 ≤ off ∧ off ≤ 0x080 ∧ off % 4 = 0))
    fun u t => stickyOf (t.host host) off = stickyOf (u.host host) off &&& ~~~value ∧ t.hosts.alarmN = u.hosts.alarmN ∧
      ∀ k, k ≠ host → t.host k = u.host k) ∧
  (∀ (host : Fin 4) (value : Word), Completes (fun dt => .registerWrite dt host 0x008 none value) (fun u => u.pwr.aonOn = true ∧
    (u.host host).port ≠ 0 ∧ (u.host host).port ≠ 5 ∧ (u.host host).port ≠ 6)
    fun u t => stickyOf (t.host host) 0x008 = stickyOf (u.host host) 0x008 &&& ~~~value ∧ t.hosts.alarmN = u.hosts.alarmN &&& ~~~value ∧
      ∀ k, k ≠ host → t.host k = u.host k)

/-- FWU_ABORT empties Staging and clears the piece map, and answers BUSY only under R707 (R721). -/
def Obligations.FwuAbort : Prop :=
  (Serves (fun dt h => .fwuAbort dt h none) 0x0E05 (fun h _ u => othersStaging u h.val = false)
    fun _ _ u t r => r = answer .ok ∧
      t = u.onFwu fun f => { f with staging := 0, header := [], pieces := [], owner := none, copying := none, stagedDigest := 0 }) ∧
  (Serves (fun dt h => .fwuAbort dt h none) 0x0E05 (fun h _ u => othersStaging u h.val = true)
    fun _ _ u t r => r = answer .busy ∧ t = u)

/-- The two KUM counters: checked, set when a KUM is applied, and never decreasing (R676). -/
def Obligations.KumCounters : Prop :=
  (State.reset.pocket.counter = 0 ∧ State.reset.pocket.testCounter = 0 ∧
    ∀ s : State, kumCounter s = (if testRoot s then s.pocket.testCounter else s.pocket.counter)) ∧
  (Serves (fun dt h => .keyApply dt h true) 0x0D03 (fun h tk u => u.pocket.lifecycle ≠ .returned ∧ u.pocket.applying = none ∧
    (u.pocket.stagedOwner = none ∨ u.pocket.stagedOwner = some h.val) ∧ fld tk.payload 0 4 = u.pocket.staged.length ∧
    kumForm u.pocket.staged = true ∧ fld u.pocket.staged 8 4 = 0x9100 ∧ fld u.pocket.staged 16 32 = idHashNow u ∧
    fld u.pocket.staged 3 1 = bit (testRoot u) ∧ fld u.pocket.staged 12 4 ≤ kumCounter u)
    fun _ _ u t r => r.status = .stale ∧ t.pocket.counter = u.pocket.counter ∧ t.pocket.testCounter = u.pocket.testCounter) ∧
  (∀ (a : Applying), Completes (fun dt => .keyApplyComplete dt) (fun u => u.pocket.applying = some a ∧ supRuns u = true ∧
    kumMirrored u a = true ∧ (a.waits = false ∨ holdsForYoke u = true) ∧
    (a.kind ≠ 1 ∨ ∀ e ∈ a.entries, tfind u.sess.dirty (fld e 0 4) = none) ∧ kumCounter u < a.counter)
    fun u t => t.pocket.applying = none ∧ t.pocket.counter = (if testRoot u then u.pocket.counter else a.counter) ∧
      t.pocket.testCounter = (if testRoot u then a.counter else u.pocket.testCounter)) ∧
  (∀ (c : Instr) (s t : State), exec c s = .next t → s.pocket.counter ≤ t.pocket.counter ∧ s.pocket.testCounter ≤ t.pocket.testCounter)

/-- VIN, RESET_N and the early warning (R787, R788, R789, R790, R799). -/
def Obligations.SupplyEvents : Prop :=
  (∀ (mv : Nat), Completes (fun dt => .vinRise dt mv) (fun u => u.pwr.lineOn = false ∧ 25500 ≤ mv)
    fun u t => t.pwr = { u.pwr with lineOn := true, vinMv := mv, stage := .held, resetLow := true, warn := decide (mv < 33000) } ∧
      t.met.lineStarts = u.met.lineStarts + 1 ∧ t.met.imageValid = false ∧ t.met.fallback = false ∧ t.met.session = none ∧
      t.fab.lineWarnMv = 33000 ∧ Only [.pwr, .met, .fab] u t) ∧
  (∀ (mv : Nat), Completes (fun dt => .vinUvlo dt mv) (fun u => u.pwr.lineOn = true ∧ mv ≤ 24500)
    fun u t => t = powerOff u ∧ t.pwr.stage = .off ∧ t.pwr.lineOn = false ∧ t.pwr.aonOn = false ∧ t.pwr.vinMv = 0 ∧ t.pwr.warn = false) ∧
  (Completes (fun dt => .resetNAssert dt) (fun u => u.pwr.stage ≠ .off ∧ u.pwr.stage ≠ .held)
    fun _ t => t.pwr.stage = .held ∧ t.pwr.resetLow = true ∧ t.pwr.hemFlag = false ∧ t.pwr.transits = [] ∧ t.pwr.state = .run) ∧
  (∀ (view : BootView), Completes (fun dt => .resetNRelease dt view) (fun u => u.pwr.stage = .held)
    fun u t => ∃ w, w = (u.onFwu fun f => { f with rcvrStrap := view.strap, norOctal := view.norOctal }) ∧
      t = if u.pwr.aonOn then startLogic false 1 view w else startLogic true 0 view (islandStart w)) ∧
  (∀ (mv : Nat), Completes (fun dt => .earlyWarningDeassert dt mv) (fun u => u.pwr.lineOn = true ∧ u.pwr.warn = true ∧
    u.fab.lineWarnMv + 1800 ≤ mv)
    fun u t => t = u.onPwr fun p => { p with warn := false, vinMv := mv, warnDeRc := u.rc }) ∧
  (∀ (mv : Nat) (cyc : CycleIn), Completes (fun dt => .earlyWarningAssert dt mv cyc) (fun u => u.pwr.lineOn = true ∧
    u.pwr.aonOn = true ∧ u.pwr.warn = false ∧ mv * 100 ≤ u.fab.lineWarnMv * 101 ∧ u.pwr.stage = .running)
    fun u t => ∃ w, t = placeHem (setAlarm 0x20 w) ∧
      w = lineWarned cyc (u.onPwr fun p => { p with warn := true, vinMv := mv, finalImage := false }) ∧ w.pwr.warn = true ∧
      w.pwr.vinMv = mv)

/-- What a start of the logic side comes to (R702, R712, R798, R801). -/
def Obligations.StartReaches : Prop :=
  (∀ cold cause (v : BootView) (s : State), s.pwr.warn = true →
    (startLogic cold cause v s).pwr.stage = .parked ∧ (startLogic cold cause v s).pwr.parks = inc32 s.pwr.parks ∧
    (startLogic cold cause v s).pwr.hemMark = false) ∧
  (∀ cold cause (v : BootView) (s : State), s.pwr.warn = false → v.reach ≤ 4 → (startLogic cold cause v s).pwr.stage = .start 4) ∧
  (∀ cold cause (v : BootView) (s : State), s.pwr.warn = false → 4 < v.reach → s.fwu.rcvrStrap = true →
    (startLogic cold cause v s).pwr.stage = .recovery ∧ (startLogic cold cause v s).fwu.reason = 1) ∧
  (∀ cold cause (v : BootView) (s : State), s.pwr.warn = false → 4 < v.reach → s.fwu.rcvrStrap = false → 3 ≤ s.fwu.bootFails →
    (startLogic cold cause v s).pwr.stage = .recovery ∧ (startLogic cold cause v s).fwu.reason = 2) ∧
  (∀ cold (v : BootView) (s : State), (runFirmware cold v s).pwr.stage =
    if v.reach ≤ 6 then .start 6 else if v.reach ≤ 7 then .start 7 else .running)

/-- What restarts the logic side, and with which cause (R38, R702, R714, R720, R795, R814). -/
def Obligations.RestartCauses : Prop :=
  (∀ (view : BootView), Completes (fun dt => .bootWatchdog dt view) (fun u => (u.pwr.stage = .start 6 ∧ u.pwr.stageRc + ofS 30 ≤ u.rc) ∨
    (u.pwr.stage = .start 7 ∧ u.pwr.stageRc + (scanBound u + ofS 35) ≤ u.rc))
    fun u t => ∃ w, t = warmReset 2 view w ∧ w.fwu.bootFails = min 3 (u.fwu.bootFails + 1) ∧ Only [.fwu] u w) ∧
  (∀ (view : BootView), Completes (fun dt => .lockstepMismatch dt view) (fun u => u.pwr.stage = .running ∨ u.pwr.stage = .recovery ∨ ∃
    n, u.pwr.stage = .start n ∧ 5 ≤ n)
    fun u t => ∃ v w, t = warmReset 3 view w ∧ w = (if v.hosts.ready then v else countBootFail v) ∧ v.fwu = u.fwu ∧ v.pwr = u.pwr) ∧
  (∀ (view : BootView), Completes (fun dt => .brownoutRestart dt view) (fun u => u.pwr.stage = .parked ∧ u.pwr.parkThermal = false ∧
    u.pwr.warn = false ∧ u.pwr.warnDeRc + ofMs u.cfg.act.recoverMs ≤ u.rc)
    fun u t => t = warmReset 1 view (setSticky 0x07C 0x2000 u)) ∧
  (∀ (view : BootView), Completes (fun dt => .thermalRestart dt view) (fun u => u.pwr.stage = .parked ∧ u.pwr.parkThermal = true ∧
    u.pwr.tjDc < 1000 ∧ u.pwr.warn = false ∧ (u.pwr.warnInPark = true → recovered u = true))
    fun u t => t = warmReset 1 view u) ∧
  (∀ (view : BootView), Completes (fun dt => .fwuRestart dt view) (fun u => u.pwr.stage = .recovery ∧ u.fwu.restartRc = true)
    fun u t => t = warmReset 4 view u) ∧
  (∀ (view : BootView), Completes (fun dt => .fwuRestart dt view) (fun u => u.pwr.stage = .running ∧ u.pwr.hemFlag = false ∧
    (dispatch (fun a => a == .restart) u).isSome = true)
    fun u t => ∃ e w, dispatch (fun a => a == .restart) u = some (e, w) ∧ t = warmReset 1 view w)

/-- Hem, its completion and the junction temperature (R91, R791, R792, R794, R813, R814). -/
def Obligations.HemAndHeat : Prop :=
  (Completes (fun dt => .hemStart dt) (fun u => hemPossible u = true ∧ (dispatch (fun a => a == .hemStart) u).isSome = true)
    fun u t => ∃ e w, dispatch (fun a => a == .hemStart) u = some (e, w) ∧ t.pwr.stage = .hem ∧ t.pwr.hemFlag = true ∧
      t.pwr.hemMark = false ∧ t.pwr.hemOkLast = false ∧ (∀ x ∈ t.pwr.transits, x.rearm = none) ∧
      t.pwr.rearmDropped = w32 (w.pwr.rearmDropped + (w.pwr.transits.filter fun x => x.rearm.isSome).length)) ∧
  (Completes (fun dt => .hemComplete dt) (fun u => u.pwr.stage = .hem ∧ finalImageDone u = true ∧ (nextDue u).isNone = true)
    fun u t => t.pwr.stage = .parked ∧ t.pwr.hemMark = true ∧ t.pwr.hemOkLast = true ∧ t.pwr.parks = inc32 u.pwr.parks ∧
      t.pwr.transits = [] ∧ t.mains.savedCycle = some u.mains.cycle) ∧
  (∀ (tj : Int), Completes (fun dt => .thermalWarn dt tj) (fun u => u.pwr.aonOn = true ∧ u.pwr.hot = false ∧ 1050 ≤ tj)
    fun u t => t.pwr = { u.pwr with hot := true, tjDc := tj } ∧ t.hosts.alarmN = u.hosts.alarmN ||| 0x800 ∧
      Logged .thermal srcSup (leBytesI 2 tj) u t ∧ Only [.pwr, .hosts, .evt] u t) ∧
  (∀ (tj : Int), Completes (fun dt => .thermalStop dt tj) (fun u => u.pwr.hot = true ∧ 1150 ≤ tj ∧ hemPossible u = true)
    fun u t => t = placeHem (u.onPwr fun p => { p with parkThermal := true, tjDc := tj })) ∧
  (∀ (tj : Int), Completes (fun dt => .thermalClear dt tj) (fun u => u.pwr.hot = true ∧ tj < 1000)
    fun u t => t = u.onPwr fun p => { p with hot := false, tjDc := tj })

/-- Frames of the framed channel, by position and direction (R23, R24, R27, R28, R29, R32, R33, R776). -/
def Obligations.SeamFrames : Prop :=
  (∀ (frame : SeamFrame SeamRx), Completes (fun dt => .seamFrameReceive dt frame) (fun u => u.pwr.lineOn = true ∧ seamTakes u = true ∧
    (frameGood true frame.position frame.bits && frame.body.fits frame.position) = false)
    fun u t => t = u.onFab fun f =>
      { f with seqToLogic := (f.seqToLogic + 1) % 256, seamDiscards := inc32 f.seamDiscards, badToLogic := f.badToLogic + 1 }) ∧
  (∀ (frame : SeamFrame SeamRx) (reg : Nat) (c : RegCopy) (r : RateCopy), Completes (fun dt => .seamFrameReceive dt frame) (fun u =>
    u.pwr.lineOn = true ∧ seamTakes u = true ∧ frameGood true frame.position frame.bits = true ∧ frame.body.fits frame.position = true ∧
    frame.body = .legal ∧ u.fab.legalPend.find? (fun q => q.seq.isNone) = some ⟨none, .register reg c r⟩)
    fun u t => t.met =
      { u.met with lining := modAt u.met.lining reg (putCopy (·.count) c), rateImage := putCopy (·.count) r u.met.rateImage } ∧
      t.fab.legalAcks = u.fab.legalAcks ++ [frameSeq frame.bits] ∧ t.fab.badToLogic = 0 ∧ Only [.fab, .met] u t) ∧
  (∀ (frame : SeamFrame SeamRx) (e : MlogEntry), Completes (fun dt => .seamFrameReceive dt frame) (fun u => u.pwr.lineOn = true ∧
    seamTakes u = true ∧ frameGood true frame.position frame.bits = true ∧ frame.body.fits frame.position = true ∧ frame.body = .legal ∧
    u.fab.legalPend.find? (fun q => q.seq.isNone) = some ⟨none, .log e⟩ ∧ (∀ x ∈ u.met.mlog, x.lseq ≠ e.lseq))
    fun u t => t.met.mlog = u.met.mlog ++ [e] ∧ t.fab.legalAcks = u.fab.legalAcks ++ [frameSeq frame.bits] ∧
      Only [.fab, .met, .hosts, .evt] u t) ∧
  (∀ (frame : SeamFrame SeamRx) (tin : BitVec 8) (alarms mv vin : Nat), Completes (fun dt => .seamFrameReceive dt frame) (fun u =>
    u.pwr.lineOn = true ∧ seamTakes u = true ∧ frameGood true frame.position frame.bits = true ∧ frame.body.fits frame.position = true ∧
    frame.body = .status tin alarms mv vin ∧ u.fab.notices = [])
    fun u t => t.met = { u.met with tinRaw := tin } ∧ t.fab.lineAlarms = alarms ∧ t.fab.feedbackMv = mv ∧ t.fab.badToLogic = 0 ∧
      t.pwr.vinMv = (if u.fab.vinCycle = some u.mains.cycle then u.pwr.vinMv else vin) ∧ Only [.fab, .met, .pwr] u t) ∧
  (∀ (frame : SeamFrame SeamRx), Completes (fun dt => .seamFrameReceive dt frame) (fun u => u.pwr.lineOn = true ∧ seamTakes u = true ∧
    frameGood true frame.position frame.bits = true ∧ frame.body.fits frame.position = true ∧ frame.body = .waveform)
    fun u t => t = u.onFab fun f =>
      { f with seqToLogic := (f.seqToLogic + 1) % 256, badToLogic := 0, waveFrames := inc32 f.waveFrames }) ∧
  (∀ (frame : SeamFrame LineRx), Completes (fun dt => .lineSideFrameReceive dt frame) (fun u => u.pwr.lineOn = true ∧
    seamTakes u = true ∧ (frameGood false frame.position frame.bits && frame.body.fits frame.position) = false)
    fun u t => t = u.onFab fun f => { f with seqToLine := (f.seqToLine + 1) % 256, badToLine := f.badToLine + 1 }) ∧
  (∀ (frame : SeamFrame LineRx) (q : Nat) (rest : List Nat), Completes (fun dt => .lineSideFrameReceive dt frame) (fun u =>
    u.pwr.lineOn = true ∧ seamTakes u = true ∧ frameGood false frame.position frame.bits = true ∧
    frame.body.fits frame.position = true ∧ frame.body = .ack ∧ u.fab.legalAcks = q :: rest)
    fun u t => t.fab.legalAcks = rest ∧ t.fab.legalPend = u.fab.legalPend.filter (fun p => p.seq != some q) ∧ Only [.fab] u t) ∧
  (∀ (frame : SeamFrame LineRx), Completes (fun dt => .lineSideFrameReceive dt frame) (fun u => u.pwr.lineOn = true ∧
    seamTakes u = true ∧ frameGood false frame.position frame.bits = true ∧ frame.body.fits frame.position = true ∧ frame.body = .echo)
    fun u t => t.met =
      { u.met with echoCycle := keyOfRc u (u.rc - seamLatency) / 65536, echoPhase := keyOfRc u (u.rc - seamLatency) % 65536,
                   echoNs := u.met.lineNs - 1250, echoes := true } ∧ Only [.fab, .met] u t) ∧
  (∀ (frame : SeamFrame LineRx) (mv : Nat) (rest : List LineCtl), Completes (fun dt => .lineSideFrameReceive dt frame) (fun u =>
    u.pwr.lineOn = true ∧ seamTakes u = true ∧ frameGood false frame.position frame.bits = true ∧
    frame.body.fits frame.position = true ∧ frame.body = .control ∧ u.fab.toLine = .warnV mv :: rest)
    fun u t => t.fab.lineWarnMv = mv ∧ t.fab.toLine = rest ∧ Only [.fab] u t) ∧
  (∀ (frame : SeamFrame LineRx) (r n : Nat) (rest : List LineCtl), Completes (fun dt => .lineSideFrameReceive dt frame) (fun u =>
    u.pwr.lineOn = true ∧ seamTakes u = true ∧ frameGood false frame.position frame.bits = true ∧
    frame.body.fits frame.position = true ∧ frame.body = .control ∧ u.fab.toLine = .rate r n :: rest)
    fun u t => t.met = { u.met with pendingRate := some (r, n) } ∧ t.fab.toLine = rest ∧ Only [.fab, .met] u t) ∧
  (∀ (frame : SeamFrame LineRx) (mv : Nat), Completes (fun dt => .lineSideFrameReceive dt frame) (fun u => u.pwr.lineOn = true ∧
    seamTakes u = true ∧ frameGood false frame.position frame.bits = true ∧ frame.body.fits frame.position = true ∧
    frame.body = .setPoint mv)
    fun u t => t.fab.setPointMv = mv ∧ Only [.fab] u t) ∧
  (∀ (frame : SeamFrame LineRx), Completes (fun dt => .lineSideFrameReceive dt frame) (fun u => u.pwr.lineOn = true ∧
    seamTakes u = true ∧ frameGood false frame.position frame.bits = true ∧ frame.body.fits frame.position = true ∧
    frame.body = .legalParameter)
    fun u t => t.fab.legalIgnored = inc32 u.fab.legalIgnored ∧ Only [.fab] u t)

/-- The channel down and up again, memory errors and control words (R28, R29, R30, R37, R40, R53, R57, R800). -/
def Obligations.SeamAndFabric : Prop :=
  (∀ (p : LegalImage), Completes (fun dt => .legalWriteRepeat dt) (fun u => u.pwr.lineOn = true ∧ u.fab.seamUp = true ∧
    u.fab.legalPend.find? (fun p => p.seq.isSome) = some p)
    fun u t => ∃ w, w = (u.onMet fun m => { m with imageCount := m.imageCount + 1 }) ∧ t = w.onFab fun f =>
      { f with legalPend := f.legalPend.erase p ++ [⟨none, latestImage w.met p.body⟩], legalRepeats := inc32 f.legalRepeats }) ∧
  (∀ (m : MetSt) (reg : Nat) (c : RegCopy) (r : RateCopy), latestImage m (.register reg c r) = .register reg (regCopy m reg) (rateCopy
    m) ∧
    (regCopy m reg).value = m.regs.getD reg 0 ∧ (rateCopy m).rate = m.rate) ∧
  (∀ (n : Nat), Completes (fun dt => .seamChannelDown dt n) (fun u => u.fab.seamUp = true ∧
    (8 ≤ u.fab.badToLogic ∨ 8 ≤ u.fab.badToLine))
    fun u t => (∃ l, t.fab =
      { u.fab with seamUp := false, resync := true, downRc := u.rc, missFrom := some (u.fab.missFrom.getD u.rc), notices := l }) ∧
      t.met.echoes = false ∧ t.plc.muted = true ∧ t.plc.broken = w32 (u.plc.broken + n)) ∧
  (∀ (g : Nat), Completes (fun dt => .seamResync dt) (fun u => u.fab.resync = true ∧ u.pwr.lineOn = true ∧
    seamTakes (seamComesUp u) = true ∧ u.fab.missFrom = some g ∧ u.fab.notices = [] ∧ recorderLives u = true ∧ u.evt.q10.length < 1024)
    fun u t => t.fab =
      { u.fab with seamUp := true, resync := false, badToLogic := 0, badToLine := 0, convFeedback := true, outage := none,
                   missFrom := none, gaps := w32 (u.fab.gaps + (u.rc - g) / ofUs 8) } ∧ ∃ x, t.evt.q10 = u.evt.q10 ++ [x] ∧
      x.code = evCode .seamOutage ∧ x.detail = leBytes 8 ((u.rc - u.fab.downRc) / nsUnit)) ∧
  (Completes (fun dt => .converterFeedbackLoss dt) (fun u => u.fab.seamUp = false ∧ u.fab.convFeedback = true ∧
    u.fab.downRc + ofMs 10 < u.rc)
    fun u t => t = u.onFab fun f => { f with convFeedback := false }) ∧
  (∀ (engine ring item meter : Nat), Completes (fun dt => .engineMemoryError dt engine ring item meter) (fun u => stageAlive u = true ∧
    engine < 16 ∧ (engine / 4, ring, item) ∉ u.fab.engRetried)
    fun u t => t.fab = { u.fab with engRetried := u.fab.engRetried ++ [(engine / 4, ring, item)] } ∧ t.hosts.alarmN.getLsbD 3 = true ∧
      Only [.fab, .hosts, .evt] u t) ∧
  (∀ (engine ring item meter : Nat), Completes (fun dt => .engineMemoryError dt engine ring item meter) (fun u => stageAlive u = true ∧
    engine < 16 ∧ (engine / 4, ring, item) ∈ u.fab.engRetried)
    fun u t => t.fab.engRetried = u.fab.engRetried.filter (· != (engine / 4, ring, item)) ∧
      t.fab.engSupervisor = u.fab.engSupervisor ++ [meter]) ∧
  (∀ (region : MemRegion) (port : Nat), Completes (fun dt => .eccUncorrectable dt (.uncorrectable region port)) (fun _ => region ≠
    .engineLocal)
    fun u t => Logged .eccUncorr srcSup (leBytes 4 region.number) (u.onFab fun f =>
      { f with accessErrors := (port, region) :: f.accessErrors }) t ∧
      t.fab = { u.fab with accessErrors := (port, region) :: u.fab.accessErrors } ∧ Only [.fab, .hosts, .evt] u t) ∧
  (∀ (region : MemRegion), Completes (fun dt => .eccUncorrectable dt (.corrected region)) (fun _ => True)
    fun u t => t = u.onFab fun f => { f with eccCorrected := inc32 f.eccCorrected, eccByRegion := bumpRegion region f.eccByRegion }) ∧
  (∀ (n : Nat) (w : CtlWord), Completes (fun dt => .controlWordCommit dt n) (fun u => u.fab.shadow[n]? = some w ∧
    wordDomainOn (u.onFab fun f => { f with shadow := f.shadow.eraseIdx n }) w = true)
    fun u t => t = commitShadow w (u.onFab fun f => { f with shadow := f.shadow.eraseIdx n })) ∧
  (∀ (n : Nat) (w : CtlWord), Completes (fun dt => .controlWordCommit dt n) (fun u => u.fab.shadow[n]? = some w ∧
    wordDomainOn (u.onFab fun f => { f with shadow := f.shadow.eraseIdx n }) w = false)
    fun u t => t.fab = { u.fab with shadow := u.fab.shadow.eraseIdx n, heldWords := putWord w u.fab.heldWords } ∧
      t.cfg.act = u.cfg.act ∧
      t.cfg.ctlSuperseded = (if u.fab.heldWords.any (sameWord w) then inc32 u.cfg.ctlSuperseded else u.cfg.ctlSuperseded))

/-- Crossings while Locked and in Holdover, and how cycles end without them (R65, R68, R69, R71, R74). -/
def Obligations.LockedAndHoldover : Prop :=
  (∀ (chan delay last : Nat), Completes (fun dt => .zeroCrossing dt chan delay) (fun u => u.pwr.aonOn = true ∧ u.fab.seamUp = true ∧
    u.mains.ref = some chan ∧ u.mains.realign = false ∧ u.mains.state = .locked ∧ u.mains.lastCross = some last ∧
    inWindow u.mains.period last (crossInstant u chan delay) = true)
    fun u t => t.mains.cycle = u.mains.cycle + 1 ∧ t.mains.startRc = crossInstant u chan delay ∧
      t.mains.lastCross = some (crossInstant u chan delay) ∧
      t.mains.period = (7 * u.mains.period + (crossInstant u chan delay - last)) / 8 ∧
      t.mains.state = (if (refCandidate u).isNone then .virtual else .locked) ∧ t.mains.flagged = (refCandidate u).isNone ∧
      Only [.mains, .hosts, .evt] u t) ∧
  (∀ (chan delay last : Nat), Completes (fun dt => .zeroCrossing dt chan delay) (fun u => u.pwr.aonOn = true ∧ u.fab.seamUp = true ∧
    u.mains.ref = some chan ∧ u.mains.realign = false ∧ u.mains.state = .locked ∧ u.mains.lastCross = some last ∧
    inWindow u.mains.period last (crossInstant u chan delay) = false)
    fun u t => t = u.onMains fun m => { m with ignored := inc32 m.ignored }) ∧
  (∀ (chan delay : Nat), Completes (fun dt => .zeroCrossing dt chan delay) (fun u => u.pwr.aonOn = true ∧ u.fab.seamUp = true ∧
    u.mains.ref = some chan ∧ u.mains.realign = false ∧ u.mains.state = .holdover ∧
    inWindow u.mains.period u.mains.startRc (crossInstant u chan delay) = true)
    fun u t => t.mains.cycle = u.mains.cycle + 1 ∧ t.mains.startRc = crossInstant u chan delay ∧
      t.mains.lastCross = some (crossInstant u chan delay) ∧ t.mains.period = u.mains.period ∧
      t.mains.state = (if (refCandidate u).isNone then .virtual else .locked) ∧ Only [.mains] u t) ∧
  (∀ (last : Nat), Completes (fun dt => .holdoverEntry dt) (fun u => u.pwr.aonOn = true ∧ u.mains.lastCross = some last ∧
    last + u.mains.period * 11 / 10 ≤ u.rc ∧ u.mains.state = .locked ∧ u.mains.realign = false)
    fun u t => t.mains.cycle = u.mains.cycle + 1 ∧ t.mains.startRc = last + u.mains.period * 11 / 10 ∧
      t.mains.state = (if (refCandidate u).isNone then .virtual else .holdover) ∧ t.mains.flagged = true ∧ t.mains.holdCycles = 0 ∧
      Only [.mains] u t) ∧
  (Completes (fun dt => .holdoverCycleEnd dt) (fun u => u.pwr.aonOn = true ∧ u.mains.state = .holdover ∧
    u.mains.startRc + u.mains.period ≤ u.rc ∧ u.mains.holdCycles < 7)
    fun u t => t.mains.cycle = u.mains.cycle + 1 ∧ t.mains.startRc = u.mains.startRc + u.mains.period ∧
      t.mains.state = (if (refCandidate u).isNone then .virtual else .holdover) ∧ t.mains.flagged = true ∧
      ((refCandidate u).isSome → t.mains.holdCycles = u.mains.holdCycles + 1) ∧ Only [.mains] u t) ∧
  (Completes (fun dt => .holdoverToVirtual dt) (fun u => u.pwr.aonOn = true ∧ u.mains.state = .holdover ∧
    u.mains.startRc + u.mains.period ≤ u.rc ∧ u.mains.holdCycles = 7)
    fun u t => t.mains.cycle = u.mains.cycle + 1 ∧ t.mains.startRc = u.mains.startRc + u.mains.period ∧ t.mains.state = .virtual ∧
      t.mains.flagged = true ∧ t.mains.lastCross = none ∧ Only [.mains] u t)

/-- Virtual cycles, acquisition, the checkpoint, the alignment of the count and the segments (R61, R63, R64, R66, R67, R72, R80). -/
def Obligations.VirtualAndAcquiring : Prop :=
  (Completes (fun dt => .virtualCycleEnd dt) (fun u => u.pwr.aonOn = true ∧ (u.mains.state = .virtual ∨ u.mains.state = .acquiring) ∧
    u.mains.realign = false ∧ u.mains.startRc + nominalCycle u ≤ u.rc)
    fun u t => t.mains.cycle = u.mains.cycle + 1 ∧ t.mains.startRc = u.mains.startRc + nominalCycle u ∧ t.mains.flagged = true ∧
      t.mains.virtFrac = nextVirtFrac u ∧ t.mains.state = (if (refCandidate u).isNone then .virtual else if u.mains.toAcquire ||
      u.mains.state == .acquiring then .acquiring else .virtual) ∧ Only [.mains] u t) ∧
  (∀ (chan delay : Nat), Completes (fun dt => .zeroCrossing dt chan delay) (fun u => u.pwr.aonOn = true ∧ u.fab.seamUp = true ∧
    u.mains.ref = some chan ∧ u.mains.realign = false ∧ (u.mains.state = .virtual ∨ u.mains.state = .acquiring) ∧
    u.mains.lastCross = none)
    fun u t => t = u.onMains fun m => { m with lastCross := some (crossInstant u chan delay), run := [], toAcquire := true }) ∧
  (∀ (chan delay last : Nat), Completes (fun dt => .zeroCrossing dt chan delay) (fun u => u.pwr.aonOn = true ∧ u.fab.seamUp = true ∧
    u.mains.ref = some chan ∧ u.mains.realign = true ∧ u.mains.lastCross = some last ∧
    inWindow u.mains.period last (crossInstant u chan delay) = true)
    fun u t => t.mains.cycle = u.mains.cycle + 1 ∧ t.mains.startRc = crossInstant u chan delay ∧
      t.mains.state = (if (refCandidate u).isNone then .virtual else .locked) ∧ t.mains.realign = false) ∧
  (Completes (fun dt => .cycleCheckpoint dt) (fun u => u.pwr.aonOn = true ∧ u.mains.checkpoint + 4096 ≤ u.mains.cycle)
    fun u t => t = u.onMains fun m => { m with checkpoint := m.cycle }) ∧
  (∀ (n came : Nat), Completes (fun dt => .mainsCountAlign dt) (fun u => u.mains.moveTo = some (n, came) ∧ u.pwr.aonOn = true ∧
    came < u.mains.cycle ∧ u.mains.cycle < n)
    fun u t => t.mains.cycle = n ∧ t.mains.segFirst = n ∧ t.mains.moveTo = none ∧ t.mains.checkpoint = n ∧
      t.mains.startRc = u.mains.startRc ∧
      (∃ g, t.mains.segments = g :: u.mains.segments ∧ g.first = u.mains.segFirst ∧ g.next = u.mains.cycle) ∧
      ∃ w, Logged .countMoved srcSup (leBytes 8 (u.mains.cycle - 1) ++ leBytes 8 n) w t) ∧
  (∀ (n came : Nat), Completes (fun dt => .mainsCountAlign dt) (fun u => u.mains.moveTo = some (n, came) ∧ u.pwr.aonOn = true ∧
    came < u.mains.cycle ∧ n ≤ u.mains.cycle)
    fun u t => t = u.onMains fun m => { m with moveTo := none }) ∧
  (Completes (fun dt => .xrefSegmentClose dt) (fun u => u.pwr.stage = .running ∧ u.mains.segFirst + 65536 ≤ u.mains.cycle)
    fun u t => ∃ g, t.mains.segments = g :: u.mains.segments ∧ g.first = u.mains.segFirst ∧ g.next = u.mains.cycle ∧
      t.mains.segFirst = u.mains.cycle ∧ t.mains.segFlags = 0 ∧ t.arch.segWait = u.arch.segWait ++ [g] ∧ t.mains.cycle = u.mains.cycle ∧
      Only [.mains, .arch] u t)

/-- TIME_SET, TIME_ADJ, TIME_STEP and TIME_STATUS (R121, R125, R141, R142, R143, R144). -/
def Obligations.TimeCommands : Prop :=
  (Serves (fun dt h => .timeSet dt h) 0x0201 (fun _ tk u => fld tk.payload 10 2 ≤ 1 ∧ timeLocked u = false ∧ u.cfg.act.srcHost = true ∧
    u.reported ≤ ofNs (fld tk.payload 0 8 + 1000000000))
    fun _ tk u t r => r = answer .ok ∧
      t.time.shadow = some (baseIncr u, some (u.time.offset + ((ofNs (fld tk.payload 0 8) : Int) - u.reported))) ∧
      t.time.hostSet = !networkSource t.time.src ∧
      (hasBit (fld tk.payload 10 2) 0 = true → t.time.utcFromHost = some (fldI tk.payload 8 2)) ∧ t.time.offset = u.time.offset ∧
      Only [.time] u t) ∧
  (Serves (fun dt h => .timeAdj dt h) 0x0202 (fun _ tk u => fld tk.payload 0 1 = 0 ∧ fld tk.payload 2 2 = 0 ∧
    incrOk (fld tk.payload 8 8) = true ∧ timeLocked u = false ∧ replacedSlew u = none)
    fun _ tk u t r => r = okWith (leBytes 8 0) ∧
      t = u.onTime fun x => { x with shadow := some (fld tk.payload 8 8, x.shadow.bind (·.2)), shadowSlew := none }) ∧
  (Serves (fun dt h => .timeAdj dt h) 0x0202 (fun _ tk u => fld tk.payload 0 1 = 1 ∧ 1 ≤ fld tk.payload 2 2 ∧ fld tk.payload 2 2 ≤ 500 ∧
    timeLocked u = false ∧ incrOk ((baseIncr u : Int) + slewDelta (fld tk.payload 2 2) (fldI tk.payload 8 8)).toNat = true)
    fun _ tk u t r => r = okWith (leBytesI 8 (slewRemaining u)) ∧
      t = prepareSlew (baseIncr u) (fld tk.payload 2 2) (fldI tk.payload 8 8) u ∧ t.time.incr = u.time.incr ∧
      t.time.offset = u.time.offset ∧ Only [.time] u t) ∧
  (Serves (fun dt h => .timeStep dt h) 0x0203 (fun h tk u => (u.host h).timeAuth = true ∧ hasBit (fld tk.payload 18 2) 0 = false ∧
    ((ofNs (fld tk.payload 8 8) : Int) - u.reported).natAbs ≤ ofMs (fld tk.payload 16 2))
    fun h tk u t r => r.silent = true ∧ t.time.stepOwners = u.time.stepOwners ++ [(h.val, tk)] ∧
      t.time.shadow = some (baseIncr u, some (u.time.offset + ((ofNs (fld tk.payload 0 8) : Int) - u.reported))) ∧ Only [.time] u t) ∧
  (∀ (ns : Int), Serves (fun dt h => .timeStep dt h) 0x0203 (fun h tk u => (u.host h).timeAuth = true ∧
    hasBit (fld tk.payload 18 2) 0 = true ∧ fld tk.payload 0 8 = 0 ∧ u.time.held = some ns ∧
    ((ofNs (fld tk.payload 8 8) : Int) - u.reported).natAbs ≤ ofMs (fld tk.payload 16 2))
    fun h tk u t r => r.silent = true ∧ t.time.stepOwners = u.time.stepOwners ++ [(h.val, tk)] ∧
      t.time.shadow = some (baseIncr u, some (u.time.offset + ns * nsUnit)) ∧ t.time.shadowTake = true ∧ Only [.time] u t) ∧
  (Reads (fun dt h => .timeStatus dt h) 0x0204 32 (fun _ _ _ => True)
    fun _ _ u p => ShowsI p 0 8 (if networkSource u.time.src then u.time.offsetNs else 0) ∧
      Shows p 8 4 (if networkSource u.time.src then u.time.pathDelayNs else 0) ∧ Shows p 12 8 u.time.incr ∧
      Shows p 20 1 (srcCode u.time.src) ∧ Shows p 21 1 (servoCode u.time.servo) ∧ Shows p 22 2 u.time.steps ∧
      Shows p 24 4 u.time.trims ∧ ShowsI p 28 4 (pendMs u))

/-- The commit of INCR and OFFSET, the end of a slew, the sources and the leap second (R83, R108, R121, R122, R123, R126, R127, R129). -/
def Obligations.TimeSteering : Prop :=
  (∀ (incr : Nat), Completes (fun dt => .timePairCommit dt) (fun u => u.time.shadow = some (incr, none))
    fun u t => t = u.onTime fun x =>
      { x with incr := incr, shadow := none, slew := x.shadowSlew.map (startSlew x.count), shadowSlew := none }) ∧
  (∀ (incr : Nat) (offset : Int), Completes (fun dt => .timePairCommit dt) (fun u => u.time.shadow = some (incr, some offset) ∧
    firstOfPhaseTick u = true ∧ u.time.offsetWritten = false ∧ u.time.stepOwners = [])
    fun u t => t.time.incr = incr ∧ t.time.offset = offset ∧ t.time.offsetWritten = true ∧ t.time.shadow = none ∧ t.time.stepDue = 1 ∧
      t.time.stepKey = u.key ∧ t.mains.anchored = true ∧ t.mains.cycle = u.mains.cycle ∧ t.time.rc = u.time.rc) ∧
  (∀ (incr : Nat) (offset : Int), Completes (fun dt => .timePairCommit dt) (fun u => u.time.shadow = some (incr, some offset) ∧
    firstOfPhaseTick u = true ∧ u.time.offsetWritten = true ∧ u.time.stepOwners = [])
    fun u t => t.time.incr = incr ∧ t.time.offset = offset ∧ t.time.shadow = none ∧ t.time.stepDue = 2 ∧ t.time.stepKey = u.key ∧
      t.time.rc = u.time.rc ∧ t.time.trims = (if (offset - u.time.offset).natAbs ≤ ofMs 1 then inc32 u.time.trims else u.time.trims) ∧
      t.time.steps = (if (offset - u.time.offset).natAbs ≤ ofMs 1 then u.time.steps else w16 (u.time.steps + 1))) ∧
  (∀ (w : Slew), Completes (fun dt => .slewEnd dt) (fun u => u.time.slew = some w ∧ w.endCount ≤ u.time.count)
    fun u t => t = u.onTime fun x => dropEnded
      { x with rc := x.rc - (u.time.count - w.endCount) * x.incr + (u.time.count - w.endCount) * w.restore, incr := w.restore,
               slew := none }) ∧
  (∀ (q0 q1 : Bool) (best : Nat) (announce : Option (Int × Bool × Bool)), Completes (fun dt => .sourceSelect dt q0 q1 best announce)
    (fun u => u.pwr.stage = .running ∧
    stillQualifies (u.onTime fun x => { x with qual0 := q0, qual1 := q1, bestPort := best % 2 }) = true ∧ announce = none)
    fun u t => t.time.src = bestSource (u.onTime fun x => { x with qual0 := q0, qual1 := q1, bestPort := best % 2 }) ∧
      t.time.qual0 = q0 ∧ t.time.qual1 = q1 ∧ t.time.incr = u.time.incr ∧ t.time.offset = u.time.offset ∧ Only [.time] u t) ∧
  (Completes (fun dt => .sourceLoss dt) (fun u => u.pwr.stage = .running ∧ u.time.src = .port0)
    fun u t => t.time.qual0 = false ∧ t.time.incr = u.time.incr ∧ t.time.offset = u.time.offset ∧ t.hosts.alarmN.getLsbD 8 = true ∧
      Logged .sourceLoss srcSup [] u t ∧ Only [.time, .hosts, .evt] u t) ∧
  (Completes (fun dt => .leapApply dt) (fun _ => True)
    fun u t => t = u.onTime fun y =>
      { y with utcPtp := y.utcPtp.map (afterLeap u), utcParent := y.utcParent.map (afterLeap u), utcLast := ((utcSource u).map fun i =>
                 (afterLeap u i).utc).or y.utcLast }) ∧
  (∀ (s : State) (i : UtcInfo), i.leap61 = true → (((i.day + 1) * 86400 : Nat) : Int) + i.utc + 1 ≤ ((s.tai / 1000000000 : Nat) : Int) →
    afterLeap s i = { utc := i.utc + 1, day := i.day })

/-- Stamps of IEEE 1588 frames in and out (R131, R133, R134, R135, R136, R137, R140). -/
def Obligations.PtpStamps : Prop :=
  (∀ (port : Nat) (msg : PtpMsg), Completes (fun dt => .ptpEventReceive dt port msg) (fun u => u.pwr.stage = .running ∧ port < 2 ∧
    ptpRecognised msg = false)
    fun u t => t = u.onTime fun x =>
      { x with ptpIn := x.ptpIn ++ [{ port := port, kind := msg.kind, ident := msg.ident, seqId := msg.seqId, stamp := none }] }) ∧
  (∀ (port : Nat) (msg : PtpMsg), Completes (fun dt => .ptpEventReceive dt port msg) (fun u => u.pwr.stage = .running ∧ port < 2 ∧
    ptpRecognised msg = true ∧ msg.kind ≤ 3 ∧ msg.kind ≠ 1 ∧ msg.sync = none ∧ msg.link = none)
    fun u t => t = u.onTime fun x =>
      { x with ptpIn := x.ptpIn ++ [{ port := port, kind := msg.kind, ident := msg.ident, seqId := msg.seqId, stamp := some (u.reported
                                        - lat (u.cfg.act.ports.getD port {}).rxLat) }] }) ∧
  (∀ (port : Nat) (msg : PtpMsg), Completes (fun dt => .ptpEventReceive dt port msg) (fun u => u.pwr.stage = .running ∧
    ptpPort u port = true ∧ port < 2 ∧ ptpRecognised msg = true ∧ msg.kind = 1 ∧ msg.sync = none ∧ msg.link = none)
    fun u t => (port, msg.ident, msg.seqId, u.reported - lat (u.cfg.act.ports.getD port {}).rxLat, u.rc) ∈ t.time.delayReqs ∧
      t.time.ptpIn = u.time.ptpIn ++
      [{ port := port, kind := 1, ident := msg.ident, seqId := msg.seqId, stamp := some (u.reported - lat (u.cfg.act.ports.getD port
           {}).rxLat) }] ∧ Only [.time] u t) ∧
  (∀ (port ident seqId : Nat) (corr : Int) (udp : Option PtpUdp), Completes (fun dt => .ptpEgress dt port 0 ident seqId corr false udp)
    (fun u => u.pwr.stage = .running ∧ ptpPort u port = true)
    fun u t => ∃ f, t = (u.onTime fun x => { x with ptpOut := x.ptpOut ++ [f] }) ∧ f.port = port ∧ f.kind = 0 ∧
      f.origin = (u.reported + lat (u.cfg.act.ports.getD port {}).txLat) / nsUnit ∧
      f.correction = corr + ((u.reported + lat (u.cfg.act.ports.getD port {}).txLat) % nsUnit / 65536 : Nat) ∧ f.checksum = (udp.map fun
      d => udpChecksum d (stampWords d.stamp ++ correctionWords corr) (stampWords f.origin ++ correctionWords f.correction)) ∧
      f.fcsRecomputed = true ∧ f.twoStep = false) ∧
  (∀ (port kind ident seqId : Nat) (corr : Int) (udp : Option PtpUdp) (rx : Nat), Completes (fun dt => .ptpEgress dt port kind ident
    seqId corr true udp) (fun u => u.pwr.stage = .running ∧ ptpPort u port = true ∧ isTransparent u = true ∧ kind ≤ 3 ∧
    stampOf u (1 - port) kind ident seqId = some rx)
    fun u t => ∃ f, t = (u.onTime fun x => { x with ptpOut := x.ptpOut ++ [f] }) ∧ f.port = port ∧ f.kind = kind ∧ f.correction = corr +
      ((u.reported + lat (u.cfg.act.ports.getD port {}).txLat - rx) / 65536 : Nat) + (if kind = 0 && u.cfg.act.ptpClock == .peerToPeer
      then ((u.time.linkDelay.getD (1 - port) 0 : Nat) : Int) else (0 : Int)) ∧
      f.checksum = (udp.map fun d => udpChecksum d (correctionWords corr) (correctionWords f.correction)) ∧ f.fcsRecomputed = true) ∧
  (∀ (port ident seqId : Nat) (corr : Int) (udp : Option PtpUdp) (q : Nat × Nat × Nat × Nat × Nat), Completes (fun dt => .ptpEgress dt
    port 9 ident seqId corr false udp) (fun u => u.pwr.stage = .running ∧ ptpPort u port = true ∧
    u.time.delayReqs.reverse.find? (fun q => q.1 == port && q.2.1 == ident && q.2.2.1 == seqId && u.rc ≤ q.2.2.2.2 + ofS 1) = some q)
    fun u t => ∃ f, t = (u.onTime fun x => { x with ptpOut := x.ptpOut ++ [f] }) ∧ f.port = port ∧ f.kind = 9 ∧
      f.origin = q.2.2.2.1 / nsUnit ∧ f.correction = corr - (q.2.2.2.1 % nsUnit / 65536 : Nat) ∧ f.fcsRecomputed = true) ∧
  (∀ (port ident seqId : Nat) (corr : Int) (udp : Option PtpUdp), Completes (fun dt => .ptpEgress dt port 9 ident seqId corr false udp)
    (fun u => u.pwr.stage = .running ∧ ptpPort u port = true ∧
    u.time.delayReqs.reverse.find? (fun q => q.1 == port && q.2.1 == ident && q.2.2.1 == seqId && u.rc ≤ q.2.2.2.2 + ofS 1) = none)
    fun u t => t = u.onTime fun x => { x with delayRespDropped := inc32 x.delayRespDropped }) ∧
  (∀ (port kind ident seqId : Nat) (corr : Int) (udp : Option PtpUdp), Completes (fun dt => .ptpEgress dt port kind ident seqId corr
    false udp) (fun u => u.pwr.stage = .running ∧ ptpPort u port = true ∧ (kind = 8 ∨ kind = 10))
    fun u t => t = u)

/-- Host-requested scheduler entries (R86, R87, R95, R98, R99, R100). -/
def Obligations.HostEvents : Prop :=
  (Serves (fun dt h => .schedAdd dt h) 0x0220 (fun h tk u => namesRing u h.val (fld tk.payload 18 2) 24 = true ∧
    fld tk.payload 16 1 = 0 ∧ (fld tk.payload 20 4 = 0 → fld tk.payload 24 4 = 0) ∧
    aheadEnough u (mkKey (fld tk.payload 0 6) (fld tk.payload 6 2)) = true ∧ quotaUsed u 8 h.val < 256)
    fun h tk u t r => ∃ e n, t.sched.hostEvts = u.sched.hostEvts ++ [e] ∧ e.handle = freeHandle u 65535 u.sched.nextHandle ∧
      e.host = h.val ∧ e.ring = fld tk.payload 18 2 ∧ e.period = fld tk.payload 20 4 ∧ e.count = fld tk.payload 24 4 ∧
      e.userTag = fld tk.payload 28 4 ∧ e.wallBased = false ∧ t.sched.entries = u.sched.entries ++ [n] ∧
      n.key = mkKey (fld tk.payload 0 6) (fld tk.payload 6 2) ∧ n.cls = 8 ∧ n.owner = h.val ∧ n.action = .hostNotice e.handle ∧
      n.wall = none ∧ r = okWith (leBytes 2 e.handle ++ [0, 0] ++ leBytes 6 (n.key / 65536) ++ leBytes 2 (n.key % 65536))) ∧
  (∀ (e : HostEvt), Serves (fun dt h => .schedCancel dt h) 0x0221 (fun h tk u => u.sched.hostEvts.find? (fun e => e.handle ==
    fld tk.payload 0 2) = some e ∧ e.host = h.val ∧ e.done = false)
    fun _ tk u t r => r = answer .ok ∧ t.sched.hostEvts = u.sched.hostEvts.filter (fun q => q.handle != fld tk.payload 0 2) ∧
      t.sched.entries = u.sched.entries.filter (fun q => !(q.action == .hostNotice (fld tk.payload 0 2)))) ∧
  (∀ (seq w : Nat) (e : SchedEntry), Completes (fun dt => .entryReconvert dt seq) (fun u => u.sched.entries.find? (fun e => e.seq ==
    seq) = some e ∧ e.wall = some w ∧ e.lastConv = false ∧ u.mains.anchored = true ∧ e.late = none ∧ u.key < entryKey u w ∧
    entryKey u w / 65536 ≤ u.mains.cycle + 1)
    fun u t => t = u.onSched fun c =>
      { c with entries := c.entries.map fun q => if q.seq == seq then { q with key := entryKey u w, lastConv := true } else q }) ∧
  (∀ (hd : Nat) (e : HostEvt), Completes (fun dt => .hostEvent dt) (fun u => (dispatch isHostNotice u).map (fun q => (q.1.action,
    q.1.late)) = some (.hostNotice hd, none) ∧ u.sched.hostEvts.find? (fun e => e.handle == hd) = some e ∧ e.period = 0)
    fun u t => t.sched.hostEvts = u.sched.hostEvts.map (fun q => if q.handle == hd then { q with fired := e.fired + 1, done := true }
      else q) ∧ ∃ en, nextDue u = some en ∧ t.sched.entries = u.sched.entries.filter (fun x => !(x.seq == en.seq)))

/-- The anchoring and a step take effect at the next phase tick; XREF; the latching reads (R78, R83, R101, R109, R146). -/
def Obligations.AnchorAndReads : Prop :=
  (Completes (fun dt => .anchorApply dt) (fun u => u.time.stepDue = 1 ∧ stepTickDone u = true)
    fun u t => t.time = { u.time with stepDue := 0 } ∧ t.mains.segments.length = u.mains.segments.length + 1 ∧
      t.mains.segFirst = u.mains.cycle ∧ t.mains.cycle = u.mains.cycle) ∧
  (Completes (fun dt => .stepApply dt) (fun u => u.time.stepDue = 2 ∧ stepTickDone u = true)
    fun u t => ∃ g, t.mains.segments = g :: u.mains.segments ∧ g.step = true ∧ g.next = u.mains.cycle ∧
      t.time = { u.time with stepDue := 0 } ∧ t.mains.segFirst = u.mains.cycle ∧ t.mains.cycle = u.mains.cycle) ∧
  (Reads (fun dt h => .xref dt h) 0x0222 16 (fun _ tk u => fld tk.payload 0 1 ≤ 1 ∧ u.mains.anchored = true ∧
    (if fld tk.payload 0 1 = 0 then keyToWall u (fld tk.payload 8 8) else wallToKey u (ofNs (fld tk.payload 8 8))).kept = true)
    fun _ tk u p => Shows p 0 8 (if fld tk.payload 0 1 = 0 then ratioOf (keyToWall u (fld tk.payload 8 8)).value nsUnit else (wallToKey
      u (ofNs (fld tk.payload 8 8))).value) ∧ (fld tk.payload 0 1 = 0 → Shows p 8 4 (keyToWall u (fld tk.payload 8 8)).errNs ∧
      Shows p 12 2 (keyToWall u (fld tk.payload 8 8)).flags)) ∧
  (∀ (h : Fin 4), Completes (fun dt => .timeNowLoRead dt h) (fun u => u.pwr.aonOn = true ∧ (u.host h).port ≠ 0)
    fun u t => t.host h =
      { u.host h with online := true, timeLatch := [BitVec.ofNat 32 (u.tai / 0x100000000), BitVec.ofNat 32 (u.reported % nsUnit),
                      BitVec.ofNat 32 (u.key % 0x100000000), BitVec.ofNat 32 (u.key / 0x100000000)] } ∧
      (∀ k, k ≠ h → t.host k = u.host k) ∧ Only [.hosts] u t) ∧
  (∀ (h : Fin 4), Completes (fun dt => .mainsCycLoRead dt h) (fun u => u.pwr.aonOn = true ∧ (u.host h).port ≠ 0)
    fun u t => t.host h =
      { u.host h with online := true, mainsLatch := BitVec.ofNat 32 (u.mains.cycle / 0x100000000 % 65536 + 65536 * u.phase) } ∧
      (∀ k, k ≠ h → t.host k = u.host k) ∧ Only [.hosts] u t)

/-- A DSP cycle, the harmonic window, the fallback records, tariff inputs and the registers read (R30, R163, R166, R167, R172, R180, R188,
  R193, R208, R209, R210). -/
def Obligations.MeteringCycle : Prop :=
  (∀ (cyc : CycleIn) (e : CycleEnd) (f : Nat) (v : CycleVals), Completes (fun dt => .dspCycleEnd dt cyc) (fun u => u.pwr.lineOn = true ∧
    metroOff u = false ∧ u.fab.seamUp = true ∧ cycleEndNow cyc u = some e ∧
    f = (if e.measured then resampleMhz (mhzOf (e.ns - u.met.boundNs)) else freeMhz u.met) ∧
    v = cycleVals (e.ns - u.met.boundNs) f (chains u.met.cal f cyc.chans))
    fun u t => t.met.regs = accrueCycle u.met.cal u.met.rate v u.met.regs ∧ t.met.dspCycle = u.met.dspCycle + 1 ∧ t.met.boundNs = e.ns ∧
      t.met.boundRc = e.rc ∧ t.met.setsLost = false ∧ t.met.calNext = none ∧ t.met.cal = u.met.calNext.getD u.met.cal ∧ (∃ r,
      t.met.results = u.met.results ++ [r] ∧ r.cycleTag = u.met.echoCycle ∧ r.dspCycle = u.met.dspCycle + 1 ∧ r.rate = u.met.rate ∧
      r.startRc = u.met.boundRc ∧ r.endRc = e.rc ∧ r.partialSet = e.partialSet ∧ r.cum = t.met.regs.map (· / nsUnit) ∧ r.freqMhz = f) ∧
      t.mains.cycle = u.mains.cycle) ∧
  (∀ (reg : Nat), Completes (fun dt => .registerImageRefresh dt reg) (fun u => u.pwr.lineOn = true ∧ reg < 768)
    fun u t => ∃ w, w = (u.onMet fun m =>
      { m with imageCount := m.imageCount + 1, refreshed := modAt m.refreshed reg fun _ => m.regs.getD reg 0 }) ∧ t.fab.legalPend =
      u.fab.legalPend.filter (fun p => bodyReg p.body != some reg) ++ [⟨none, .register reg (regCopy w.met reg) (rateCopy w.met)⟩] ∧
      (regCopy w.met reg).value = u.met.regs.getD reg 0 ∧ t.met = w.met ∧ Only [.fab, .met] u t) ∧
  (∀ (w : HarmWin), Completes (fun dt => .harmonicWindowEnd dt) (fun u => u.pwr.lineOn = true ∧ metroOff u = false ∧
    u.met.harmEnded = some w)
    fun u t => t.met.harmEnded = none ∧ t.met.harm =
      { startCycle := w.start, flags := w.flags, overload := w.overload, freqMhz := ratioOf w.freqSum w.cycles, mags := (List.range
          36).map fun ch => (List.range 127).map fun h => harmMag (calRec u.met.cal ch) w.cycles ((w.sums.getD ch []).getD h {}) } ∧
      Only [.met] u t) ∧
  (Completes (fun dt => .calFallbackTimeout dt) (fun u => u.pwr.lineOn = true ∧ u.met.imageValid = false ∧ u.met.fallback = false ∧
    u.met.startNs + 500000000 ≤ u.met.lineNs)
    fun u t => t.met.fallback = true ∧ t.met.cal = defaultImage u.met ∧ t.met.span = [] ∧ t.met.regs = u.met.regs ∧
      (seamTakes u = true → t.hosts.alarmN.getLsbD 6 = true)) ∧
  (∀ (sel : Nat), Completes (fun dt => .tariffInputTakeover dt) (fun u => u.pwr.lineOn = true ∧ u.met.ctl.tinMode ≠ 0 ∧
    u.met.tinSel = some sel ∧ u.met.ctl.debounce ≤ u.met.tinCount ∧ u.met.tinTaken ≠ some sel ∧ 0 < sel ∧ sel ≤ u.met.ctl.ratesUsed)
    fun u t => t.met.tinTaken = some sel ∧ t.met.tinRate = some sel ∧ t.met.rate = sel ∧ t.met.tinInvalid = false ∧
      t.met.regs = u.met.regs ∧ Only [.met] u t) ∧
  (∀ (sel : Nat), Completes (fun dt => .tariffInputTakeover dt) (fun u => u.pwr.lineOn = true ∧ u.met.ctl.tinMode ≠ 0 ∧
    u.met.tinSel = some sel ∧ u.met.ctl.debounce ≤ u.met.tinCount ∧ u.met.tinTaken ≠ some sel ∧ u.met.ctl.ratesUsed < sel ∧
    u.met.tinInvalid = false)
    fun u t => t.met.tinTaken = some sel ∧ t.met.tinRate = none ∧ t.met.rate = u.met.rate ∧ t.met.tinInvalid = true ∧
      (seamTakes u = true → Logged .tariffInvalid 0x30 [] u t)) ∧
  (Reads (fun dt h => .metStatus dt h) 0x0301 32 (fun _ _ _ => True)
    fun _ _ u p => Shows p 0 4 u.met.romId ∧ Shows p 4 4 u.met.romCrc ∧ Shows p 8 8 (calTag u.met.cal) ∧ Shows p 16 1 (calState u) ∧
      Shows p 17 1 u.met.reopens ∧ Shows p 18 2 u.met.sessions ∧ Shows p 21 1 (if metroOff u then 0 else 1) ∧
      Shows p 22 8 u.met.overload.toNat) ∧
  (Reads (fun dt h => .harmRead dt h) 0x0306 524 (fun _ tk u => metroOff u = false ∧ fld tk.payload 0 1 ≤ 35)
    fun _ tk u p => Shows p 0 6 u.met.harm.startCycle ∧ Shows p 8 4 u.met.harm.freqMhz ∧
      ∀ k < 127, Shows p (16 + 4 * k) 4 ((u.met.harm.mags.getD (fld tk.payload 0 1) []).getD k 0))

/-- A calibration session: opened, stepped, closed, aborted and read (R173, R174, R177, R178, R181, R182, R183, R184, R185, R186). -/
def Obligations.Calibration : Prop :=
  (Serves (fun dt h => .calOpen dt h true) 0x0302 (fun _ tk u => metroOff u = false ∧ fld tk.payload 0 4 = 0x43414C4F ∧
    0 < u.met.reopens ∧ u.pocket.lifecycle ≠ .debug ∧ u.met.session = none ∧ fld tk.payload 4 1 = u.met.reopens)
    fun h _ u t r => r = okWith (leBytes 2 (w16 (u.met.sessions + 1)) ++ leBytes 1 (u.met.reopens - 1) ++ List.replicate 5 0) ∧
      t.met.reopens = u.met.reopens - 1 ∧ t.met.sessions = w16 (u.met.sessions + 1) ∧ (∃ q, t.met.session = some q ∧
      q.number = t.met.sessions ∧ q.host = h.val ∧ q.debug = false ∧ q.pending = committedImage u.met ∧ q.step = none) ∧
      t.met.cal = u.met.cal) ∧
  (Serves (fun dt h => .calOpen dt h false) 0x0302 (fun _ tk u => metroOff u = false ∧ fld tk.payload 0 4 = 0x43414C4F)
    fun _ _ u t r => r = answer .denied ∧ t = u.onMet fun m => { m with calEnHigh := true }) ∧
  (∀ (q : CalSession), Serves (fun dt h => .calStep dt h) 0x0303 (fun h tk u => u.met.session = some q ∧ q.host = h.val ∧
    fld tk.payload 0 1 ≤ 35 ∧ 1 ≤ fld tk.payload 1 1 ∧ fld tk.payload 1 1 ≤ 9 ∧ 10 ≤ fld tk.payload 2 2 ∧ fld tk.payload 2 2 ≤ 1000 ∧
    (phaseCurrent (fld tk.payload 0 1) = true ∨ fld tk.payload 1 1 < 4 ∨ fld tk.payload 1 1 = 9) ∧
    ((u.host h).openCmds.filter fun x => !x.dead).length < 16)
    fun h tk u t r => r = answer .pending ∧ (∃ x, t.met.session = some { q with step := some x, lastStepNs := u.met.lineNs } ∧
      x.host = h.val ∧ x.taken = tk ∧ x.channel = fld tk.payload 0 1 ∧ x.step = fld tk.payload 1 1 ∧ x.cycles = fld tk.payload 2 2 ∧
      x.refValue = fldI tk.payload 4 8 ∧ x.done = 0) ∧ Only [.met] u t) ∧
  (∀ (q : CalSession) (x : CalStepSt) (v : Nat) (c : CalRec), Completes (fun dt => .calStepComplete dt) (fun u => u.met.session = some
    q ∧ q.step = some x ∧ x.cycles + 2 ≤ x.done ∧
    calResult q.pending x (meanOf x.vals) (ratioOf x.freqSum x.vals.length) = some (v, c) ∧ (x.step = 0 ∨ spreadPpm x.vals ≤ 1000))
    fun u t => t = finishAt x.host x.taken (okWith (leBytesI 8 (openDiv (meanOf x.vals) unit32) ++ leBytes 4 v ++ leBytes 2 (spreadPpm
      x.vals) ++ [0, 0])) (u.onMet fun m =>
      { m with session := some { q with step := none, pending := { q.pending with recs := modAt q.pending.recs x.channel fun _ =>
                                                                                    markStep q.number x.step c } } })) ∧
  (∀ (q : CalSession) (x : CalStepSt) (v : Nat) (c : CalRec), Completes (fun dt => .calStepComplete dt) (fun u => u.met.session = some
    q ∧ q.step = some x ∧ x.cycles + 2 ≤ x.done ∧
    calResult q.pending x (meanOf x.vals) (ratioOf x.freqSum x.vals.length) = some (v, c) ∧ x.step ≠ 0 ∧ 1000 < spreadPpm x.vals)
    fun u t => t = finishAt x.host x.taken
      { status := .stale, payload := leBytesI 8 (openDiv (meanOf x.vals) unit32) ++ leBytes 4 v ++ leBytes 2 (spreadPpm x.vals) ++ [0,
        0] } (u.onMet fun m => { m with session := some { q with step := none } })) ∧
  (∀ (q : CalSession), Serves (fun dt h => .calClose dt h) 0x0304 (fun h tk u => u.met.session = some q ∧ q.host = h.val ∧
    fld tk.payload 0 1 = 0)
    fun _ _ u t r => ∃ i : CalImage, t.met.calNext = some i ∧ i.recs = q.pending.recs ∧ i.sessions = u.met.sessions ∧
      i.madeInDebug = q.debug ∧ calVerifies u.met.sealKey i = true ∧ i.calibrated = true ∧ r = okWith (leBytes 8 (calTag i)) ∧
      ⟨none, .cal i⟩ ∈ t.fab.legalPend ∧ t.met.session = none ∧ t.met.cal = u.met.cal) ∧
  (∀ (q : CalSession), Serves (fun dt h => .calClose dt h) 0x0304 (fun h tk u => u.met.session = some q ∧ q.host = h.val ∧
    fld tk.payload 0 1 = 1)
    fun _ _ u t r => t.met.session = none ∧ t.met.cal = u.met.cal ∧ t.met.calNext = u.met.calNext ∧ t.met.reopens = u.met.reopens ∧
      r = okWith (leBytes 8 (calTag (committedImage u.met)))) ∧
  (Completes (fun dt => .calEnRelease dt) (fun u => u.pwr.lineOn = true)
    fun u t => t.met.calEnHigh = true ∧ t.met.session = none ∧ t.met.cal = u.met.cal ∧ t.met.calNext = u.met.calNext ∧
      t.met.reopens = u.met.reopens) ∧
  (∀ (q : CalSession), Completes (fun dt => .calSessionTimeout dt) (fun u => u.met.session = some q ∧
    q.lastStepNs + 3600000000000 ≤ u.met.lineNs)
    fun u t => t.met.session = none ∧ t.met.cal = u.met.cal ∧ t.met.calNext = u.met.calNext ∧ t.met.reopens = u.met.reopens) ∧
  (Reads (fun dt h => .calRead dt h) 0x0305 48 (fun _ tk _ => fld tk.payload 0 1 ≤ 35)
    fun _ tk u p => p = calRecBytes (calRec (committedImage u.met) (fld tk.payload 0 1)) ∧
      Shows p 0 1 (calRec (committedImage u.met) (fld tk.payload 0 1)).sensor ∧
      Shows p 4 4 (calRec (committedImage u.met) (fld tk.payload 0 1)).scale ∧
      Shows p 8 4 (calRec (committedImage u.met) (fld tk.payload 0 1)).gainRms ∧
      Shows p 40 2 (calRec (committedImage u.met) (fld tk.payload 0 1)).session)

/-- Power quality reports and pulse outputs (R240, R242, R249, R252, R253, R257, R258, R260, R261). -/
def Obligations.PowerQualityAndPulses : Prop :=
  (∀ (ms : List Nat) (half : Bool), Completes (fun dt => .pqUpdate dt ms half) (fun u => u.pwr.lineOn = true ∧ metroOff u = false)
    fun u t => t.met.pqUnsync = unsyncNow u.met ∧ t.met.regs = u.met.regs ∧ t.met.results = u.met.results ∧ t.met.ctl = u.met.ctl ∧
      (u.fab.seamUp = true → t.mains.rms = ⟨#[rmsOfChan u.met.cal 0 (ms.getD 0 0), rmsOfChan u.met.cal 1 (ms.getD 1 0), rmsOfChan
      u.met.cal 2 (ms.getD 2 0)], rfl⟩) ∧ t.mains.cycle = u.mains.cycle ∧ Only [.met, .mains, .reg] u t) ∧
  (∀ (r : PqReport) (rest : List PqReport), Completes (fun dt => .pqReportReceive dt) (fun u => u.fab.seamUp = true ∧
    u.hosts.ready = true ∧ u.met.pqQueue = r :: rest ∧ r.ending = false)
    fun u t => t.met.pqQueue = rest ∧ Logged .pqStart 0x30 ([BitVec.ofNat 8 r.kind, BitVec.ofNat 8 r.index] ++ leBytes 4 r.extreme) u t) ∧
  (∀ (r : PqReport) (rest : List PqReport), Completes (fun dt => .pqReportReceive dt) (fun u => u.fab.seamUp = true ∧
    u.hosts.ready = true ∧ u.met.pqQueue = r :: rest ∧ r.ending = true)
    fun u t => t.met.pqQueue = rest ∧ Logged .pqEnd 0x30 ([BitVec.ofNat 8 r.kind, BitVec.ofNat 8 r.index] ++ leBytes 4 r.extreme) u t) ∧
  (∀ (n : Nat), Completes (fun dt => .pulseStart dt n) (fun u => n < 8 ∧ pulseReleased u n = false ∧ (pulseOf u n).paying = true ∧
    (pulseOf u n).emitted < (pulseOf u n).owed ∧ (pulseOf u n).active = false ∧ (pulseOf u n).nextStart ≤ u.rc)
    fun u t => ∃ (o : PulseSt → Option Nat) (l : PulseSt → Bool), t = onPulse n (fun p =>
      { p with emitted := p.emitted + 1, active := true, endRc := u.rc + ofMs (pulseCfg u n).widthMs, lastStart := some u.rc,
               nextStart := u.rc + max p.spacing (2 * ofMs (pulseCfg u n).widthMs), overFrom := o p, alarmed := l p }) u) ∧
  (∀ (n : Nat), Completes (fun dt => .pulseEnd dt n) (fun u => n < 8 ∧ (pulseOf u n).active = true ∧ (pulseOf u n).endRc ≤ u.rc)
    fun u t => t = onPulse n (fun p => { p with active := false }) u) ∧
  (∀ (n k : Nat), Completes (fun dt => .pulseDebtAlarm dt n) (fun u => n < 8 ∧ (pulseOf u n).overFrom = some k ∧
    k + 250 * 65536 ≤ u.key ∧ (pulseOf u n).alarmed = false)
    fun u t => t.reg = (onPulse n (fun p => { p with alarmed := true }) u).reg ∧ Logged .pulseDebt srcSup [BitVec.ofNat 8 n] u t ∧
      Only [.reg, .evt, .hosts] u t) ∧
  (∀ (n : Nat) (c : PulseCfg) (cycle : Nat), Completes (fun dt => .pulseConfigApply dt n) (fun u => n < 8 ∧
    (pulseOf u n).pendingCfg = some (c, cycle) ∧ cycle ≤ u.mains.cycle)
    fun u t => t.cfg.act.pulses = modAt u.cfg.act.pulses n (fun _ => c) ∧ t.reg.pulses = modAt u.reg.pulses n (fun p =>
      { p with discarded := w32 (p.discarded + debt p), base := pulseSum c u.reg.cum, owed := 0, emitted := 0, dropped := 0,
               pendingCfg := none, overFrom := none, alarmed := false, paying := p.paying && c.enable }) ∧ Only [.cfg, .reg] u t) ∧
  (Serves (fun dt h => .pulseSet dt h) 0x0410 (fun _ tk _ => fld tk.payload 0 1 ≤ 7 ∧ fld tk.payload 1 1 ≤ 1 ∧ fld tk.payload 2 1 ≤ 7 ∧
    2 ≤ fld tk.payload 3 1 ∧ fld tk.payload 3 1 ≤ 100 ∧ 1 ≤ fld tk.payload 8 4 ∧ fld tk.payload 8 4 ≤ 4000000000 ∧
    maskRefused (fld tk.payload 1 1 == 1) (BitVec.ofNat 32 (fld tk.payload 4 4)) = false)
    fun _ tk u t r => r = okWith (leBytes 6 (nextCycleStart u / 65536) ++ [0, 0]) ∧ t.cfg = u.cfg ∧ t.reg.pulses = modAt u.reg.pulses
      (fld tk.payload 0 1) (fun q =>
      { q with pendingCfg := some ({ enable := fld tk.payload 1 1 == 1, pointMask := BitVec.ofNat 32 (fld tk.payload 4 4),
                                     code := fld tk.payload 2 1, perPulse := fld tk.payload 8 4, widthMs := fld tk.payload 3 1 },
               nextCycleStart u / 65536) })) ∧
  (Reads (fun dt h => .pulseStatus dt h) 0x0411 32 (fun _ tk _ => fld tk.payload 0 1 ≤ 7)
    fun _ tk u p => Shows p 0 8 (pulseOf u (fld tk.payload 0 1)).owed ∧ Shows p 8 8 (pulseOf u (fld tk.payload 0 1)).emitted ∧
      Shows p 16 4 (debt (pulseOf u (fld tk.payload 0 1))) ∧ Shows p 20 4 (pulseOf u (fld tk.payload 0 1)).discarded ∧
      Shows p 24 4 (pulseOf u (fld tk.payload 0 1)).lost ∧
      Shows p 28 2 (bit (pulseReleased u (fld tk.payload 0 1)) + 2 * bit (overCapacity u (fld tk.payload 0 1))))

/-- Result sets, closed windows, tariff rates and the registers read (R194, R200, R203, R204, R205, R206, R223, R227, R230, R231, R232,
  R233). -/
def Obligations.RegistersAndTariffs : Prop :=
  (∀ (r : ResultSet) (q : List ResultSet), Completes (fun dt => .resultSetReceive dt) (fun u => u.pwr.stage = .running ∧
    u.reg.q9 = r :: q ∧ u.met.results = [])
    fun u t => t.reg.cum = r.cum ∧ t.reg.cumKey = keyOfRc u r.endRc ∧ t.reg.lastDsp = some r.dspCycle ∧ t.reg.cumValid = true ∧
      t.reg.firstSet = false ∧ t.reg.partialSeen = r.partialSet ∧ t.reg.q9 = q ∧
      t.mains.angles = (r.angles.getD 1 0, r.angles.getD 2 0)) ∧
  (∀ (c : Closing) (rest : List Closing), Completes (fun dt => .windowComplete dt) (fun u => u.pwr.stage = .running ∧
    u.reg.closings = c :: rest ∧ (c.closeKey ≤ u.reg.cumKey ∨ u.reg.partialSeen = true) ∧ c.kind = 4)
    fun u t => t.reg.closings = rest ∧ t.reg.periods = (⟨c.closeKey, if c.regs.isEmpty then u.reg.cum else c.regs, u.reg.schemes.map
      (·.maxima)⟩ :: u.reg.periods).take 2 ∧ t.reg.schemes = u.reg.schemes.map (fun m => { m with maxima := [] })) ∧
  (Completes (fun dt => .windowComplete dt) (fun u => u.pwr.stage = .running ∧ u.reg.closings = [])
    fun u t => t = u) ∧
  (∀ (e : SchedEntry) (n : Nat), Completes (fun dt => .demandClose dt) (fun u => nextDue u = some e ∧ e.action = .demandClose n ∧
    n < 4 ∧ metroOff u = false)
    fun u t => t.reg.closings = u.reg.closings ++
      [{ win := (u.reg.schemes.getD n {}).win, kind := n, closeKey := e.key, late := e.late }] ∧
      t.reg.schemes = modAt u.reg.schemes n (fun m => { m with win := openWindow u e.key }) ∧ t.reg.bill = u.reg.bill ∧
      t.reg.cumSaved = u.reg.cum) ∧
  (∀ (e : SchedEntry), Completes (fun dt => .billingPeriodClose dt) (fun u => nextDue u = some e ∧ e.action = .billingClose ∧
    metroOff u = false)
    fun u t => t.reg.closings = u.reg.closings ++
      [{ win := u.reg.bill, kind := 4, closeKey := e.key, nominalMs := e.wall.map (billingMs u), late := e.late }] ∧
      t.reg.bill = openWindow u e.key ∧ t.reg.cumSaved = u.reg.cum ∧
      t.reg.billPlaced = (if e.wall.isNone then false else u.reg.billPlaced)) ∧
  (∀ (e : SchedEntry) (f : Nat), Completes (fun dt => .registerSnapshot dt) (fun u => nextDue u = some e ∧ e.action = .snapshot f ∧
    f < 8 ∧ metroOff u = false)
    fun u t => t.reg.closings = u.reg.closings ++
      [{ win := u.reg.series.getD f {}, kind := 8 + f, closeKey := e.key, late := e.late }] ∧
      t.reg.series = modAt u.reg.series f (fun _ => openWindow u e.key) ∧ t.reg.bill = u.reg.bill ∧ t.reg.cumSaved = u.reg.cum) ∧
  (∀ (e : SchedEntry) (rate : Nat), Completes (fun dt => .tariffSwitch dt) (fun u => nextDue u = some e ∧
    e.action = .tariffSwitch rate ∧ e.key % 65536 = 0 ∧ u.reg.holds = [] ∧ rateOk u rate = true)
    fun u t => t.reg.calRate = some rate ∧ t.fab.toLine = u.fab.toLine.filter (fun c => !isRate c) ++ [.rate rate (e.key / 65536)] ∧
      t.met = u.met ∧ t.reg.cum = u.reg.cum) ∧
  (Serves (fun dt h => .tariffSet dt h) 0x0402 (fun _ tk u => fld tk.payload 0 1 = 1 ∧ rateOk u (fld tk.payload 1 1) = true ∧
    u.reg.holds = [] ∧ inputsOverride u = false)
    fun h tk u t r => r = okWith (leBytes 6 (nextCycleStart u / 65536) ++ [1, 0]) ∧
      t.reg.holds = [(h.val, ⟨fld tk.payload 1 1, false⟩)] ∧
      t.fab.toLine = u.fab.toLine.filter (fun c => !isRate c) ++ [.rate (fld tk.payload 1 1) (nextCycleStart u / 65536)] ∧
      Only [.reg, .fab] u t) ∧
  (Reads (fun dt h => .regRead dt h) 0x0401 16 (fun _ tk _ => fld tk.payload 0 1 ≤ 31 ∧ fld tk.payload 1 1 ≤ 7 ∧
    fld tk.payload 2 1 ≤ 8 ∧ fld tk.payload 3 1 = 1 ∧ fld tk.payload 4 1 = 0 ∧ fld tk.payload 5 1 = 0 ∧
    (fld tk.payload 0 1 % 4 = 3 ∨ fld tk.payload 2 1 = 0))
    fun _ tk u p => Shows p 0 8 u.reg.cumKey ∧ Shows p 8 8 (if fld tk.payload 2 1 = 0 then u.reg.cum.getD (regIx0 (fld tk.payload 0 1)
      (fld tk.payload 1 1)) 0 else u.reg.cum.getD (regIxR (fld tk.payload 2 1) (fld tk.payload 0 1 / 4) (fld tk.payload 1 1)) 0)) ∧
  (∀ (b : BillPeriod), Reads (fun dt h => .regRead dt h) 0x0401 16 (fun _ tk u => fld tk.payload 0 1 ≤ 31 ∧ fld tk.payload 1 1 ≤ 7 ∧
    fld tk.payload 2 1 = 0 ∧ fld tk.payload 3 1 = 1 ∧ fld tk.payload 4 1 = 1 ∧ fld tk.payload 5 1 = 1 ∧ u.reg.periods[0]? = some b)
    fun _ tk u p => Shows p 0 8 b.closeKey ∧ Shows p 8 8 (compactView (u.cfg.act.unit.getD (fld tk.payload 0 1) 1) (b.regs.getD (regIx0
      (fld tk.payload 0 1) (fld tk.payload 1 1)) 0))) ∧
  (∀ (a b : Nat) (m : MaxDemand), Reads (fun dt h => .demandRead dt h) 0x0403 152 (fun _ tk u => fld tk.payload 0 1 ≤ 3 ∧
    (u.cfg.act.demand.getD (fld tk.payload 0 1) {}).enable = true ∧
    (u.cfg.act.demand.getD (fld tk.payload 0 1) {}).pairs[fld tk.payload 1 1]? = some (a, b) ∧ fld tk.payload 2 1 = 0 ∧
    (u.reg.schemes.getD (fld tk.payload 0 1) {}).maxima.find? (fun m => m.pair == fld tk.payload 1 1 && m.rate == 0) = some m)
    fun _ _ _ p => Shows p 0 1 a ∧ Shows p 1 1 b ∧ Shows p 8 8 m.value ∧ Shows p 16 8 m.startKey) ∧
  (Serves (fun dt h => .billingClose dt h) 0x0404 (fun _ tk u => fld tk.payload 0 4 = 0x42494C4C ∧ u.reg.billPlaced = false ∧
    quotaUsed u 3 0 < 512)
    fun _ _ u t r => r = okWith (leBytes 6 (nextCycleStart u / 65536) ++ [0, 0]) ∧ t.reg.billPlaced = true ∧ t.sched.entries =
      u.sched.entries ++ [{ cls := 3, sub := 4, action := .billingClose, key := nextCycleStart u, seq := u.sched.nextSeq }] ∧
      t.reg.cum = u.reg.cum)

/-- Front ends, lanes and the wake-up receiver (R263, R264, R266, R274, R276, R284, R291, R296, R297, R298, R299). -/
def Obligations.RadioFrontEnds : Prop :=
  (∀ (c : FeCfg), Serves (fun dt h => .feSet dt h) 0x0501 (fun _ tk u => fld tk.payload 0 1 ≤ 1 ∧ fld tk.payload 1 1 ≤ 1 ∧
    fld tk.payload 3 1 ≤ 1 ∧ feOk c = true ∧ transitOf u (.fe (fld tk.payload 0 1)) = none ∧ (lanesOn (setFe (fld tk.payload 0 1) c
    (shadowCfg u))).any (fun q => q.2.fe == fld tk.payload 0 1 && !laneValid (setFe (fld tk.payload 0 1) c (shadowCfg u)) q.2) = false ∧
    c = { enable := fld tk.payload 1 1 = 1, width := fld tk.payload 2 1, blankPeer := hasBit (fld tk.payload 3 1) 0,
          centerHz := fld tk.payload 4 4, txPower := fldI tk.payload 8 2, paLead := fld tk.payload 10 1, paLag := fld tk.payload 11 1,
          cca := fldI tk.payload 12 1 })
    fun _ tk u t r => r = answer .ok ∧ t = postWord (.fe (fld tk.payload 0 1) c) u) ∧
  (Serves (fun dt h => .laneSet dt h) 0x0502 (fun _ tk u => fld tk.payload 0 1 ≤ 63 ∧ fld tk.payload 1 1 = 0 ∧ fld tk.payload 2 1 ≤ 1 ∧
    (fld tk.payload 3 1 = 0 ∨ (phyWidth (fld tk.payload 3 1)).isSome) ∧ transitOf u (.lane (fld tk.payload 0 1)) = none)
    fun _ tk u t r => r = answer .ok ∧ t = postWord (.lane (fld tk.payload 0 1)
      { enable := false, fe := fld tk.payload 2 1, phy := fld tk.payload 3 1, offset := fldI tk.payload 4 4,
        chanId := fld tk.payload 8 2 }) u) ∧
  (∀ (c : LaneCfg), Serves (fun dt h => .laneSet dt h) 0x0502 (fun _ tk u => transitOf u (.lane (fld tk.payload 0 1)) = none ∧
    fld tk.payload 0 1 ≤ 63 ∧ fld tk.payload 1 1 = 1 ∧ fld tk.payload 2 1 ≤ 1 ∧ (phyWidth (fld tk.payload 3 1)).isSome ∧ c =
    { enable := true, fe := fld tk.payload 2 1, phy := fld tk.payload 3 1, offset := fldI tk.payload 4 4, chanId := fld tk.payload 8 2
        } ∧ laneValid (shadowCfg u) c = true ∧ (lanesOn (shadowCfg u)).filter (fun q => q.1 != fld tk.payload 0 1) = [])
    fun _ tk u t r => r = answer .ok ∧ t = postWord (.lane (fld tk.payload 0 1) c) u) ∧
  (Serves (fun dt h => .wurSet dt h) 0x0504 (fun _ tk u => fld tk.payload 0 1 ≤ 1 ∧ fld tk.payload 1 1 ≤ 1 ∧ fld tk.payload 2 1 ≤ 1 ∧
    wurFreqOk (fld tk.payload 4 4) = true ∧ ((List.range 4).map fun i => fld tk.payload (8 + 2 * i) 2).contains 0xFFFF = false ∧
    transitOf u .wur = none)
    fun _ tk u t r => r = answer .ok ∧ t = postWord (.wur
      { enable := fld tk.payload 0 1 = 1, fast := fld tk.payload 1 1 = 1, broadcast := hasBit (fld tk.payload 2 1) 0,
        freqHz := fld tk.payload 4 4, addrs := ((List.range 4).map fun i => fld tk.payload (8 + 2 * i) 2).filter (· != 0) }) u) ∧
  (∀ (n at_ : Nat), Completes (fun dt => .feCalibrationDone dt n) (fun u => (feSt u n).calEnd = some at_ ∧ feOn u n = true ∧ at_ ≤ u.rc)
    fun u t => t = onFe n (fun f => { f with ready := true, calEnd := none, deafEnd := u.key }) u) ∧
  (∀ (n inFrame at_ : Nat) (c : FeCfg), Completes (fun dt => .feRetune dt n inFrame) (fun u => (feSt u n).retune = some (c, at_) ∧
    (inFrame = 0 ∨ at_ + ofMs 10 ≤ u.rc))
    fun u t => t.cfg = (commitWord (.fe n c) u).cfg ∧ t.rad.fes = modAt u.rad.fes n (fun f =>
      { f with retune := none, retuneEnd := u.rc + ofUs 150, blanked := w32 (f.blanked + inFrame), deafEnd := u.key + (ofUs 150 * 65536
                 + cycleLen u - 1) / cycleLen u }) ∧ Only [.cfg, .rad] u t) ∧
  (∀ (n : Nat), Completes (fun dt => .agcOverload dt n) (fun u => feOn u n = true)
    fun u t => t = setSticky 0x04C (if n = 0 then 0x100 else 0x200) u) ∧
  (∀ (f : RadioFrame), Completes (fun dt => .laneFrameReceive dt f) (fun u => f.lane < 64 ∧ (laneIn u.cfg.act f.lane).enable = true ∧
    carrierFollowed (laneIn u.cfg.act f.lane).phy f.freqErr = true ∧ feOn u (laneIn u.cfg.act f.lane).fe = true ∧
    (feSt u (laneIn u.cfg.act f.lane).fe).ready = true ∧ (feSt u (laneIn u.cfg.act f.lane).fe).retuneEnd ≤ u.rc - ofUs f.durationUs ∧
    blankedNow u (laneIn u.cfg.act f.lane).fe f.durationUs = true)
    fun u t => t = onFe (laneIn u.cfg.act f.lane).fe (fun x => { x with blanked := inc32 x.blanked }) u) ∧
  (∀ (f : RadioFrame), Completes (fun dt => .laneFrameReceive dt f) (fun u => f.lane < 64 ∧ (laneIn u.cfg.act f.lane).enable = true ∧
    carrierFollowed (laneIn u.cfg.act f.lane).phy f.freqErr = true ∧ feOn u (laneIn u.cfg.act f.lane).fe = true ∧
    (feSt u (laneIn u.cfg.act f.lane).fe).ready = true ∧ (feSt u (laneIn u.cfg.act f.lane).fe).retuneEnd ≤ u.rc - ofUs f.durationUs ∧
    blankedNow u (laneIn u.cfg.act f.lane).fe f.durationUs = false ∧ u.rad.q0.length < Config.ringDepth 0)
    fun u t => t.rad.q0 = u.rad.q0 ++
      [{ frameAs (laneIn u.cfg.act f.lane).phy f with fe := (laneIn u.cfg.act f.lane).fe, phy := (laneIn u.cfg.act f.lane).phy,
                                                      chanId := (laneIn u.cfg.act f.lane).chanId, key := keyOfRc u (u.rc - ofUs
                                                        f.durationUs), tai := reportedAt u (u.rc - ofUs f.durationUs) / nsUnit,
                                                      virtualMains := flaggedCycle u (keyOfRc u (u.rc - ofUs f.durationUs)) }] ∧
      Only [.rad, .hosts] u t) ∧
  (∀ (f : RadioFrame), Completes (fun dt => .laneFrameReceive dt f) (fun u => f.lane < 64 ∧ (laneIn u.cfg.act f.lane).enable = true ∧
    carrierFollowed (laneIn u.cfg.act f.lane).phy f.freqErr = true ∧ feOn u (laneIn u.cfg.act f.lane).fe = true ∧
    (feSt u (laneIn u.cfg.act f.lane).fe).ready = true ∧ (feSt u (laneIn u.cfg.act f.lane).fe).retuneEnd ≤ u.rc - ofUs f.durationUs ∧
    blankedNow u (laneIn u.cfg.act f.lane).fe f.durationUs = false ∧ Config.ringDepth 0 ≤ u.rad.q0.length)
    fun u t => t.rad.q0 = u.rad.q0 ∧ t.rad.laneDrops = tbump u.rad.laneDrops f.lane ∧ Only [.rad, .hosts, .fab, .evt] u t) ∧
  (∀ (addr cls : Nat), Completes (fun dt => .wurFrame dt addr (wakeCheck addr) cls) (fun u => wurOn u = true ∧ addr ≠ 0 ∧
    (addr = 0xFFFF ∧ u.cfg.act.wur.broadcast = true ∨ u.cfg.act.wur.addrs.contains addr = true) ∧
    (feSt u 0).paOff ≤ u.rc - wakeFrameLen u.cfg.act.wur.fast ∧ paOver u 0 (u.rc - wakeFrameLen u.cfg.act.wur.fast) = false)
    fun u t => t.pwr.wakeReq = true ∧ Logged .wurHit 0x42 (leBytes 2 addr ++ leBytes 1 cls) u t ∧ Only [.pwr, .evt, .hosts] u t) ∧
  (Serves (fun dt h => .rfStatus dt h) 0x0503 (fun _ tk _ => fld tk.payload 0 1 ≤ 1)
    fun _ tk u t r => r.status = .ok ∧ r.payload.length = 32 ∧ Shows r.payload 0 4 (feSt u (fld tk.payload 0 1)).framesOk ∧
      Shows r.payload 4 4 (feSt u (fld tk.payload 0 1)).framesBad ∧ Shows r.payload 8 4 (feSt u (fld tk.payload 0 1)).droppedFull ∧
      Shows r.payload 12 4 (feSt u (fld tk.payload 0 1)).blanked ∧ Shows r.payload 16 4 (feSt u (fld tk.payload 0 1)).txSent ∧
      Shows r.payload 20 4 (feSt u (fld tk.payload 0 1)).txDropped ∧ Only [.free] u t)

/-- A transmission placed, released and ended (R278, R279, R281, R283, R284, R288, R292, R300). -/
def Obligations.RadioTransmission : Prop :=
  (Serves (fun dt h => .wakeSend dt h) 0x0505 (fun _ tk u => fld tk.payload 0 1 ≤ 1 ∧ fld tk.payload 1 1 = 1 ∧ fld tk.payload 2 1 ≠ 0 ∧
    fld tk.payload 8 2 ≠ 0 ∧ wurFreqOk (fld tk.payload 4 4) = true ∧ quotaUsed u 7 0 < 2560 ∧
    u.key + 16384 ≤ wakeKey u true (fld tk.payload 2 1) (fld tk.payload 10 2) (fld tk.payload 12 8))
    fun _ tk u t r => r = okWith (leBytes 8 (wakeKey u true (fld tk.payload 2 1) (fld tk.payload 10 2) (fld tk.payload 12 8))) ∧
      t.sched.entries = u.sched.entries ++
      [{ cls := 7, sub := fld tk.payload 0 1, action := .radioTx (fld tk.payload 0 1) u.rad.nextFrame, key := wakeKey u true
           (fld tk.payload 2 1) (fld tk.payload 10 2) (fld tk.payload 12 8), seq := u.sched.nextSeq }]) ∧
  (∀ (cca : Int) (e : SchedEntry) (n id : Nat) (f : TxFrame), Completes (fun dt => .txRelease dt cca) (fun u => nextRelease u = some e ∧
    e.action = .radioTx n id ∧ u.sched.hemKey = none ∧ u.rad.q7.find? (fun f => f.id == id) = some f ∧ u.key ≤ e.key ∧
    mayTransmit u = true ∧ feOn u n = true ∧ n < 2 ∧ u.rad.fes.length = 2 ∧ (feSt u n).tx = none ∧ (feSt u n).txNext = [] ∧
    (feSt u n).paOff ≤ rcOfKey u e.key - ofUs (feIn u.cfg.act n).paLead ∧ (feIn u.cfg.act n).cca = 0 ∧ u.cfg.act.subBands = [])
    fun u t => (feSt t n).tx = some
      { frame := f, key := e.key, onRc := rcOfKey u e.key - ofUs (feIn u.cfg.act n).paLead, offRc := rcOfKey u e.key - ofUs (feIn
          u.cfg.act n).paLead + airTime (feIn u.cfg.act n) f } ∧ (feSt t n).dutyHold = false ∧
      t.rad.q7 = u.rad.q7.filter (fun x => x.id != id) ∧ t.sched.entries = u.sched.entries.filter (fun x => !(x.seq == e.seq))) ∧
  (∀ (cca : Int) (e : SchedEntry) (n id : Nat) (f : TxFrame), Completes (fun dt => .txRelease dt cca) (fun u => nextRelease u = some e ∧
    e.action = .radioTx n id ∧ u.sched.hemKey = none ∧ u.rad.q7.find? (fun f => f.id == id) = some f ∧ f.use = 0 ∧ u.key ≤ e.key ∧
    feOn u n = false ∧ u.link.downs.find? (fun d => d.id == id) = none)
    fun u t => t.rad.fes = modAt u.rad.fes n (fun x => { x with txDropped := inc32 x.txDropped }) ∧
      t.rad.q7 = u.rad.q7.filter (fun x => x.id != id) ∧ t.sched.entries = u.sched.entries.filter (fun x => !(x.seq == e.seq))) ∧
  (∀ (n : Nat) (x : RunTx), Completes (fun dt => .txEnd dt n) (fun u => (feSt u n).tx = some x ∧ n < 2 ∧ u.rad.fes.length = 2 ∧
    x.offRc ≤ u.rc ∧ x.frame.use = 0)
    fun u t => (feSt t n).tx = (feSt u n).txNext.head? ∧ (feSt t n).txNext = (feSt u n).txNext.drop 1 ∧ (feSt t n).paOff = x.offRc ∧
      (feSt t n).txSent = inc32 (feSt u n).txSent ∧ t.rad.sent = (n, x.key, x.frame) :: u.rad.sent ∧
      t.hosts.txFrames = inc32 u.hosts.txFrames ∧ t.link.acksSent = u.link.acksSent ∧ Only [.rad, .hosts, .link] u t)

/-- Frames accepted, check-ins evaluated, joining and acknowledgement timeouts, and the neighbour commands (R305, R309, R310, R323, R326,
  R329, R334, R335, R336, R337). -/
def Obligations.LinkLayer : Prop :=
  (∀ (cap : Bool) (f : RadioFrame) (rest : List RadioFrame), Completes (fun dt => .macFrameAccept dt cap) (fun u => u.rad.q0 = f ::
    rest ∧ radioOn u = true ∧ u.sess.q2.length < Config.ringDepth 2 ∧ f.fcsOk = false)
    fun u t => t = (u.onRad fun x => { x with q0 := rest }).onLink fun l => { l with bad := inc32 l.bad }) ∧
  (∀ (cap : Bool) (f : RadioFrame) (rest : List RadioFrame), Completes (fun dt => .macFrameAccept dt cap) (fun u => u.rad.q0 = f ::
    rest ∧ radioOn u = true ∧ u.sess.q2.length < Config.ringDepth 2 ∧ f.fcsOk = true ∧ f.modeSwitch = false ∧ addressed u f = false)
    fun u t => t = (u.onRad fun x => { x with q0 := rest }).onLink fun l => { l with filtered := inc32 l.filtered }) ∧
  (∀ (cap : Bool) (f : RadioFrame) (rest : List RadioFrame) (n : Nat) (e : Nbr), Completes (fun dt => .macFrameAccept dt cap) (fun u =>
    u.rad.q0 = f :: rest ∧ radioOn u = true ∧ u.sess.q2.length < Config.ringDepth 2 ∧ f.fcsOk = true ∧ f.modeSwitch = false ∧
    addressed u f = true ∧ f.isAck = false ∧ nbrByAddr u f.addr = some n ∧ tfind u.link.nbrs n = some e ∧
    (ctxOf u e.meter).all (fun c => c.state != .retired) = true ∧ e.recent = [] ∧
    seqClass (linkProfile u e.profile) e f.seq f.key = .replay)
    fun u t => t.rad.q0 = rest ∧ t.sess = u.sess ∧ t.link.replays = inc32 u.link.replays ∧ t.link.accepted = u.link.accepted ∧
      Only [.rad, .link] u t) ∧
  (∀ (cap : Bool) (f : RadioFrame) (rest : List RadioFrame) (n : Nat) (e : Nbr), Completes (fun dt => .macFrameAccept dt cap) (fun u =>
    u.rad.q0 = f :: rest ∧ radioOn u = true ∧ u.sess.q2.length < Config.ringDepth 2 ∧ f.fcsOk = true ∧ f.modeSwitch = false ∧
    addressed u f = true ∧ f.isAck = false ∧ nbrByAddr u f.addr = some n ∧ tfind u.link.nbrs n = some e ∧
    (ctxOf u e.meter).all (fun c => c.state != .retired) = true ∧ e.recent = [] ∧
    (∃ d, seqClass (linkProfile u e.profile) e f.seq f.key = .new d) ∧ stagingRefuses f.length f.ackReq u = none)
    fun u t => t.rad.q0 = rest ∧ t.link.accepted = inc32 u.link.accepted ∧ t.link.replays = u.link.replays ∧
      ∃ x, t.sess.q2 = u.sess.q2 ++ [x] ∧ x.nbr = n ∧ x.src = f.lane ∧ x.key = f.key ∧ x.unwindowed = false) ∧
  (∀ (m a b : Nat) (c : MeterCtx), Completes (fun dt => .checkinEvaluate dt m) (fun u => ctxOf u m = some c ∧ c.state = .active ∧
    (linkProfile u c.linkProfile).checkinMc ≠ 0 ∧ c.nextKey ≠ 0 ∧ c.evalWin = some (a, b) ∧ b + 2 * mc ≤ u.key ∧
    deafDuring u ((nbrOfMeter u m).map (nbrOf u)) a = false ∧ c.contacts = [] ∧ c.misses + 1 < 3 ∧ nbrOfMeter u m = none)
    fun _ t => ctxOf t m = some { c with misses := c.misses + 1, evalWin := none, prevEnd := b }) ∧
  (∀ (m : Nat) (c : MeterCtx), Completes (fun dt => .joinTimeout dt m) (fun u => ctxOf u m = some c ∧ stageAlive u = true ∧
    c.state = .joining ∧ c.admitKey + 180000 * mc ≤ u.key)
    fun u t => Logged .joinExpired srcSup (leBytes 4 m) (freeCtx m u) t ∧ t.sess = (freeCtx m u).sess ∧ t.link = (freeCtx m u).link) ∧
  (∀ (id at_ : Nat) (d : Downlink), Completes (fun dt => .ackWaitExpire dt id) (fun u => u.link.downs = [d] ∧ d.id = id ∧
    d.endRc = some at_ ∧ (linkProfile u (nbrOf u d.nbr).profile).ackWaitPt * cycleLen u < (u.rc - at_) * mc ∧
    (linkProfile u (nbrOf u d.nbr).profile).maxRetries ≤ d.retries ∧ d.origin ≠ 2)
    fun u t => t.link.downs = [] ∧ t.link.results = u.link.results ++ [(d.origin, d.ref, false)] ∧ Only [.link] u t) ∧
  (∀ (n : Nat) (e : Nbr), Reads (fun dt h => .nbrRead dt h) 0x0510 64 (fun _ tk u => fld tk.payload 0 1 = 1 ∧
    nbrByAddr u (fld tk.payload 8 8) = some n ∧ nbrOf u n = e)
    fun _ _ _ p => Shows p 0 8 e.addr ∧ Shows p 8 1 e.kind ∧ Shows p 12 4 e.meter ∧ Shows p 16 1 e.seqHi ∧ Shows p 17 1 e.lastLane ∧
      Shows p 24 8 e.seqMap.toNat ∧ Shows p 32 8 e.lastKey ∧ Shows p 40 8 e.nextKey ∧ Shows p 56 4 e.accepted ∧ Shows p 60 1 e.misses) ∧
  (∀ (p : LinkProfile), Serves (fun dt h => .lprofSet dt h) 0x0511 (fun _ tk _ => fld tk.payload 0 1 ≤ 15 ∧ linkProfileOk p = true ∧ p =
    { lostMisses := fld tk.payload 1 1, ackDelayPt := fld tk.payload 2 2, checkinMc := fld tk.payload 4 4,
      baseGuardUs := fld tk.payload 8 4, guardCapUs := fld tk.payload 12 4, driftPpm := fld tk.payload 16 2,
      maxRetries := fld tk.payload 18 1, wakeRepeat := fld tk.payload 19 1, retryMc := fld tk.payload 20 2,
      ackWaitPt := fld tk.payload 22 2, seqResetMc := fld tk.payload 24 4, wakeGapUs := fld tk.payload 28 2 })
    fun _ tk u t r => t = postWord (.linkProfile (fld tk.payload 0 1) p) u ∧ r = answer .ok) ∧
  (∀ (n : Nat), Serves (fun dt h => .nbrPin dt h) 0x0512 (fun _ tk u => nbrByAddr u (fld tk.payload 0 8) = some n ∧
    fld tk.payload 8 1 = 1 ∧ (u.link.nbrs.filter fun p => willBePinned u p.2).length < 1024)
    fun _ tk u t r => t = postWord (.pin (fld tk.payload 0 8) true) u ∧ r = answer .ok) ∧
  (Reads (fun dt h => .linkCounters dt h) 0x0513 32 (fun _ _ _ => True)
    fun _ _ u p => Shows p 0 4 u.link.accepted ∧ Shows p 4 4 u.link.duplicates ∧ Shows p 8 4 u.link.replays ∧
      Shows p 12 4 u.link.restarts ∧ Shows p 16 4 u.link.acksSent ∧ Shows p 20 4 u.link.acksLate ∧ Shows p 24 4 u.link.unwindowed ∧
      Shows p 28 4 u.link.filtered)

/-- The power-line port: modes, noise, the start and the end of a frame (R341, R344, R347, R349, R351, R352, R354, R361). -/
def Obligations.PlcPort : Prop :=
  (∀ (e : SchedEntry) (m : Nat), Completes (fun dt => .plcModeApply dt) (fun u => nextDue u = some e ∧ e.action = .plcMode m ∧
    stageAlive u = true ∧ m ≠ 0 ∧ u.plc.q8 = [] ∧ u.plc.waiting = [] ∧ u.plc.tx = none)
    fun u t => t.plc =
      { u.plc with mode := m, retrainEnd := some (u.mains.cycle + 50), muted := true, nodes := [], measured := 0, bins := List.replicate
                     64 none, noisy := BitVec.ofNat 64 u.cfg.act.plc.blockMask.toNat, noQuiet := false, discarded := w32 u.plc.discarded
                     } ∧ t.cfg.act.plc.mode = m ∧
      t.link.nbrs = u.link.nbrs.map (fun q => if q.2.kind = 2 then (q.1, { q.2 with winValid := false }) else q) ∧
      t.sched.entries = u.sched.entries.filter (fun x => !(x.seq == e.seq)) ∧
      (∃ z, Only [.hosts, .sched, .evt, .pair] u z ∧ Logged .plcMode 0x48 (leBytes 1 u.plc.mode ++ leBytes 1 m) z t)) ∧
  (∀ (c : Nat), Completes (fun dt => .plcRetrainEnd dt) (fun u => u.plc.retrainEnd = some c ∧ c ≤ u.mains.cycle)
    fun u t => t = u.onPlc fun p => { p with retrainEnd := none }) ∧
  (∀ (f : TxFrame) (x : Nat), Completes (fun dt => .plcDriverMute dt) (fun u => u.pwr.lineOn = true ∧ u.plc.tx = some (f, x) ∧
    f.use ≠ 3)
    fun u t => t.plc = { u.plc with muted := true, tx := none, truncated := inc32 u.plc.truncated } ∧
      t.link.downs = u.link.downs.map (fun d => if d.id == f.id then { d with endRc := some u.rc } else d) ∧
      Only [.plc, .link, .hosts, .fab, .evt] u t) ∧
  (Completes (fun dt => .plcThermal dt) (fun u => u.pwr.lineOn = true ∧ seamTakes u = true)
    fun u t => t = setSticky 0x054 0x40 (u.onPlc fun p => { p with thermal := true })) ∧
  (Completes (fun dt => .plcThermal dt) (fun u => u.pwr.lineOn = true ∧ seamTakes u = false)
    fun u t => t = (u.onPlc fun p => { p with thermal := true }).onFab fun f => { f with notices := f.notices ++ [.plcThermal] }) ∧
  (Completes (fun dt => .plcThermalRecover dt) (fun _ => True)
    fun u t => t = u.onPlc fun p => { p with thermal := false }) ∧
  (∀ (meas : List (Option Int)) (b : Nat) (v x : Int), Completes (fun dt => .plcNoiseUpdate dt meas) (fun u => plcOn u = true ∧
    u.fab.seamUp = true ∧ b < 64 ∧ u.plc.bins.getD b none = some v ∧ meas.getD b none = some x)
    fun u t => t.plc.bins.getD b none = some (v + openDiv (x - v) 16) ∧
      t.plc.noQuiet = !anyQuiet (noisyBins u.cfg.act.plc t.plc.bins) (preamblePt u) ∧
      t.plc.noisy = (if t.plc.noQuiet then u.cfg.act.plc.blockMask else noisyBins u.cfg.act.plc t.plc.bins) ∧
      t.plc.measured = inc32 u.plc.measured ∧ Only [.plc] u t) ∧
  (∀ (e : SchedEntry) (id : Nat) (f : TxFrame), Completes (fun dt => .plcTxDue dt) (fun u => nextDue u = some e ∧ e.action = .plcTx id ∧
    u.plc.q8.find? (fun f => f.id == id) = some f ∧ mayTransmit u = true ∧ plcOn u = true ∧ u.sched.hemKey = none ∧
    workTakes u .plcModem 8 = true)
    fun u t => t.plc.q8 = u.plc.q8.filter (fun f => f.id != id) ∧ t.plc.waiting = insertWaiting ⟨f, e.key⟩ u.plc.waiting ∧
      t.sched.entries = u.sched.entries.filter (fun x => !(x.seq == e.seq))) ∧
  (∀ (w : PlcTx) (rest : List PlcTx), Completes (fun dt => .plcFrameStart dt false false) (fun u => u.plc.waiting = w :: rest ∧
    u.plc.tx = none ∧ u.plc.retrainEnd = none ∧ mayTransmit u = true ∧ plcOn u = true ∧ u.fab.seamUp = true ∧
    workRuns u .plcModem = true ∧ quietNow u = true ∧ u.key ≤ w.key + u.cfg.act.plc.startLimitMc * mc)
    fun u t => t = (u.onPlc fun p =>
      { p with waiting := rest, tx := some (w.frame, u.rc + ofNs w.frame.airNs), muted := false, sent := (u.key, w.frame) :: p.sent
                 }).onFab fun f => { f with lineDriver := true }) ∧
  (∀ (busy : Bool) (w : PlcTx) (rest : List PlcTx), Completes (fun dt => .plcFrameStart dt true busy) (fun u => u.plc.waiting = w ::
    rest ∧ u.plc.tx = none ∧ u.plc.retrainEnd = none ∧ mayTransmit u = true ∧ plcOn u = true ∧ u.fab.seamUp = true ∧
    workRuns u .plcModem = true)
    fun u t => t = frameDropped w.frame.id w.frame.use (u.onPlc fun p => { p with waiting := rest, csmaFail := inc32 p.csmaFail })) ∧
  (∀ (w : PlcTx), Completes (fun dt => .plcNoWindow dt) (fun u => u.plc.waiting.find? (fun w => w.key + u.cfg.act.plc.startLimitMc * mc
    < u.key) = some w)
    fun u t => t = frameDropped w.frame.id w.frame.use (u.onPlc fun p =>
      { p with waiting := p.waiting.erase w, noWindow := inc32 p.noWindow })) ∧
  (∀ (f : TxFrame) (x : Nat), Completes (fun dt => .plcFrameEnd dt false) (fun u => u.plc.tx = some (f, x) ∧ x ≤ u.rc ∧ f.use ≠ 3)
    fun u t => t = ((u.onPlc fun p => { p with tx := none, muted := true, txSent := inc32 p.txSent }).onHosts fun h =>
      { h with txFrames := inc32 h.txFrames }).onLink fun l =>
      { l with downs := l.downs.map fun d => if d.id == f.id then { d with endRc := some x } else d }) ∧
  (∀ (n : Nat) (z : ZcRec), Completes (fun dt => .plcNodeAge dt n) (fun u => tfind u.plc.nodes n = some z ∧
    z.heardRc + ofS (86400 * u.cfg.act.plc.nodeAgeDays) ≤ u.rc)
    fun u t => t = u.onPlc fun p => { p with nodes := tdel p.nodes n })

/-- Power-line frames received, and the commands of the port (R345, R356, R360, R364, R365, R366, R367). -/
def Obligations.PlcFramesAndCommands : Prop :=
  (∀ (f : PlcFrame), Completes (fun dt => .plcFrameReceive dt f) (fun u => plcOn u = true ∧ u.fab.seamUp = true ∧ u.plc.tx = none ∧
    u.plc.q1 = [] ∧ workTakes u .plcModem 1 = true ∧ f.crcOk = false)
    fun u t => t = u.onPlc fun p => { p with q1 := [], framesBad := inc32 p.framesBad }) ∧
  (∀ (f : PlcFrame), Completes (fun dt => .plcFrameReceive dt f) (fun u => plcOn u = true ∧ u.fab.seamUp = true ∧ u.plc.tx = none ∧
    u.plc.q1 = [] ∧ workTakes u .plcModem 1 = true ∧ f.crcOk = true ∧ u.pair.state = .standby)
    fun u t => t = noteNode f (u.onPlc fun p => { p with q1 := [], framesOk := inc32 p.framesOk }) ∧ t.sess = u.sess) ∧
  (∀ (f : PlcFrame), Completes (fun dt => .plcFrameReceive dt f) (fun u => plcOn u = true ∧ u.fab.seamUp = true ∧ u.plc.tx = none ∧
    u.plc.q1 = [] ∧ workTakes u .plcModem 1 = true ∧ f.crcOk = true ∧ u.pair.state = .active)
    fun u t => t = plcMac f (noteNode f (u.onPlc fun p => { p with q1 := [], framesOk := inc32 p.framesOk }))) ∧
  (∀ (f : PlcFrame), Completes (fun dt => .plcFrameReceive dt f) (fun u => plcOn u = true ∧ u.fab.seamUp = true ∧ u.plc.tx = none ∧
    Config.ringDepth 1 ≤ u.plc.q1.length)
    fun u t => t = countRefused 1 u) ∧
  (∀ (c : PlcCfg), Serves (fun dt h => .plcSet dt h) 0x0601 (fun _ tk u => plcCfgOk c = true ∧ transitOf u .plc = none ∧
    modeNext u = none ∧ c.mode ≠ u.plc.mode ∧ quotaUsed u 7 0 < 2560 ∧ c =
    { (shadowCfg u).plc with mode := fld tk.payload 0 1, txAtt := fld tk.payload 1 1, noiseMargin := fld tk.payload 2 1,
                             startLimitMc := fld tk.payload 3 1, blockMask := BitVec.ofNat 64 (fld tk.payload 4 8) })
    fun _ _ u t r => r = okWith (leBytes 6 (nextCycleStart u / mc)) ∧ t.sched.entries = u.sched.entries ++
      [{ cls := 7, sub := 2, action := .plcMode c.mode, key := nextCycleStart u, seq := u.sched.nextSeq }] ∧
      t.fab = (postWord (.plc { c with mode := (shadowCfg u).plc.mode }) u).fab ∧ t.plc = u.plc) ∧
  (∀ (c : PlcCfg), Serves (fun dt h => .plcSet dt h) 0x0601 (fun _ tk u => plcCfgOk c = true ∧ transitOf u .plc = none ∧
    c.mode = modeToBe u ∧ c =
    { (shadowCfg u).plc with mode := fld tk.payload 0 1, txAtt := fld tk.payload 1 1, noiseMargin := fld tk.payload 2 1,
                             startLimitMc := fld tk.payload 3 1, blockMask := BitVec.ofNat 64 (fld tk.payload 4 8) })
    fun _ _ u t r => r = okWith (leBytes 6 u.mains.cycle) ∧ t = postWord (.plc { c with mode := (shadowCfg u).plc.mode }) u) ∧
  (Reads (fun dt h => .plcStatus dt h) 0x0602 32 (fun _ _ _ => True)
    fun _ _ u p => Shows p 0 4 u.plc.framesOk ∧ Shows p 4 4 u.plc.framesBad ∧ Shows p 8 4 u.plc.broken ∧ Shows p 12 4 u.plc.txSent ∧
      Shows p 16 4 u.plc.noWindow ∧ Shows p 20 4 u.plc.truncated ∧ Shows p 24 4 u.plc.csmaFail ∧ Shows p 28 4 u.plc.joinRefused) ∧
  (Reads (fun dt h => .noiseRead dt h) 0x0603 136 (fun _ _ u => 16 ≤ u.plc.measured ∧ u.plc.bins.length = 64)
    fun _ _ u p => ShowsI p 0 2 (binMedian u.plc.bins) ∧ Shows p 2 4 (u.plc.noisy.toNat % 0x100000000) ∧
      Shows p 6 2 (u.plc.noisy.toNat / 0x100000000 % 0x10000)) ∧
  (∀ (z : ZcRec), Reads (fun dt h => .zcRead dt h) 0x0604 24 (fun _ tk u => fld tk.payload 0 1 = 0 ∧ fld tk.payload 4 2 ≤ 2047 ∧
    tget u.plc.nodes (fld tk.payload 4 2) {} = z)
    fun _ _ _ p => Shows p 0 8 z.addr ∧ Shows p 8 2 z.last ∧ Shows p 10 2 z.mean ∧ Shows p 12 2 z.spread ∧ Shows p 14 2 z.count ∧
      Shows p 16 8 z.lastKey)

/-- The ingest pipeline: unpacking, lookup, signatures, normalisation, timeouts (R371, R378, R382, R384, R389, R398, R400, R401, R403). -/
def Obligations.IngestPipeline : Prop :=
  (∀ (e : Q2Entry) (rest : List Q2Entry), Completes (fun dt => .firmwareUnpack dt) (fun u => ingestRuns u = true ∧
    u.sess.unpackWait = e :: rest ∧ e.security = false ∧ e.fwUnpackable = true ∧ u.sess.q2Held = [] ∧
    u.sess.q2.length < Config.ringDepth 2)
    fun u t => t = u.onSess fun b => { b with unpackWait := rest, q2 := b.q2 ++ [{ e with notUnpacked := false }] }) ∧
  (∀ (e : Q2Entry) (rest : List Q2Entry), Completes (fun dt => .firmwareUnpack dt) (fun u => ingestRuns u = true ∧
    u.sess.unpackWait = e :: rest ∧ (e.security = true ∨ e.fwUnpackable = false))
    fun u t => t = refreshPressure (u.onSess fun b => { b with unpackWait := rest, notDlms := inc32 b.notDlms })) ∧
  (∀ (e : Q2Entry) (rest : List Q2Entry), Completes (fun dt => .sessionStage dt) (fun u => ingestRuns u = true ∧
    u.sess.apdus < apduLimit u ∧ u.sess.q3Held = [] ∧ u.sess.behind = [] ∧ u.sess.q2 = e :: rest ∧ u.sess.q2Held = [] ∧
    (e.notUnpacked = true ∨ e.security = true))
    fun u t => t = u.onSess fun b => { b with q2 := rest, unpackWait := b.unpackWait ++ [e] }) ∧
  (∀ (e : Q2Entry) (rest : List Q2Entry), Completes (fun dt => .sessionStage dt) (fun u => ingestRuns u = true ∧
    u.sess.apdus < apduLimit u ∧ u.sess.q3Held = [] ∧ u.sess.behind = [] ∧ u.sess.q2 = e :: rest ∧ u.sess.q2Held = [] ∧
    e.notUnpacked = false ∧ e.security = false ∧ meterOf u e = none)
    fun u t => t = refreshPressure (u.onSess fun b =>
      { b with q2 := rest, apdus := b.apdus + 1, unknownTitle := inc32 b.unknownTitle, joining := b.joining ++ [e] })) ∧
  (∀ (e : Q2Entry) (rest : List Q2Entry) (m : Nat) (c : MeterCtx), Completes (fun dt => .sessionStage dt) (fun u => ingestRuns
    u = true ∧ u.sess.apdus < apduLimit u ∧ u.sess.q3Held = [] ∧ u.sess.behind = [] ∧ u.sess.q2 = e :: rest ∧ u.sess.q2Held = [] ∧
    e.notUnpacked = false ∧ e.security = false ∧ waitsBehind u e = false ∧ meterOf u e = some m ∧ ctxOf u m = some c ∧
    c.state = .retired)
    fun u t => t.sess.retiredDrop = inc32 u.sess.retiredDrop ∧ t.sess.q2 = rest ∧ t.sess.q3 = u.sess.q3 ∧ t.sess.ctxs = u.sess.ctxs ∧
      t.sess.apdus = u.sess.apdus + 1) ∧
  (∀ (w : SigWait) (rest : List SigWait), Completes (fun dt => .ecdsaVerify dt false) (fun u => ingestRuns u = true ∧
    u.sess.sigs < 20000 ∧ u.sess.q3Held = [] ∧ u.sess.sigWait = w :: rest)
    fun u t => t = refreshPressure (u.onSess fun b => { b with sigWait := rest, sigs := b.sigs + 1, sigFail := inc32 b.sigFail })) ∧
  (∀ (w : SigWait) (rest : List SigWait) (c : MeterCtx), Completes (fun dt => .ecdsaVerify dt true) (fun u => ingestRuns u = true ∧
    u.sess.sigs < 20000 ∧ u.sess.q3Held = [] ∧ u.sess.sigWait = w :: rest ∧ ctxOf u w.meter = some c ∧ c.signPub ≠ 0 ∧
    w.entry.apdu.signedCiphered = false ∧ plainTag w.entry.apdu.body = false)
    fun u t => t = refreshPressure (u.onSess fun b =>
      { b with sigWait := rest, sigs := b.sigs + 1, sigOk := inc32 b.sigOk, authFail := inc32 b.authFail })) ∧
  (∀ (w : SigWait) (rest : List SigWait) (c : MeterCtx), Completes (fun dt => .ecdsaVerify dt true) (fun u => ingestRuns u = true ∧
    u.sess.sigs < 20000 ∧ u.sess.q3Held = [] ∧ u.sess.sigWait = w :: rest ∧ ctxOf u w.meter = some c ∧ c.signPub ≠ 0 ∧
    w.entry.apdu.signedCiphered = true)
    fun u t => t = refreshPressure (cipheredIn w.meter w.entry true (u.onSess fun b =>
      { b with sigWait := rest, sigs := b.sigs + 1, sigOk := inc32 b.sigOk }))) ∧
  (∀ (w : SigWait) (rest : List SigWait) (c : MeterCtx), Completes (fun dt => .ecdsaVerify dt true) (fun u => ingestRuns u = true ∧
    u.sess.sigs < 20000 ∧ u.sess.q3Held = [] ∧ u.sess.sigWait = w :: rest ∧ ctxOf u w.meter = some c ∧ c.signPub ≠ 0 ∧
    w.entry.apdu.signedCiphered = false ∧ plainTag w.entry.apdu.body = true)
    fun u t => t = refreshPressure (parseAccepted w.meter w.entry true (readApdu w.entry.apdu.body) (frameContact w.meter w.entry
      (verified w.meter (u.onSess fun b => { b with sigWait := rest, sigs := b.sigs + 1, sigOk := inc32 b.sigOk }))))) ∧
  (∀ (q : Parsed) (rest : List Parsed), Completes (fun dt => .normalise dt) (fun u => ingestRuns u = true ∧
    workTakes u .normalise 3 = true ∧ u.sess.q4Held = [] ∧ u.sess.q3 = q :: rest ∧ u.sess.q3Held = [] ∧ q.repeated = true ∧
    (ctxOf u q.meter).isSome)
    fun u t => t = refreshPressure (u.onSess fun b => { b with q3 := rest, dupApdu := inc32 b.dupApdu })) ∧
  (∀ (q : Parsed) (rest : List Parsed) (c : MeterCtx) (inv : Nat) (rows : List (List Axdr)), Completes (fun dt => .normalise dt) (fun u
    => ingestRuns u = true ∧ workTakes u .normalise 3 = true ∧ u.sess.q4Held = [] ∧ u.sess.q3 = q :: rest ∧ u.sess.q3Held = [] ∧
    q.repeated = false ∧ ctxOf u q.meter = some c ∧ q.plain = .getResponse inv rows ∧ holdsForYoke u = false ∧ u.sess.held = [])
    fun u t => t.sess.q3 = rest ∧ t.sess.dupRecord = w32 (u.sess.dupRecord + (dedup (rowRecords u q (parseProfile u c.parseProfile)
      (placeLast u c (parseProfile u c.parseProfile).guardMc) rows none) []).2) ∧ (t.sess.q4 ++ t.sess.q4Held).map (fun r =>
      { r with seq := 0 }) = (u.sess.q4 ++ (dedup (rowRecords u q (parseProfile u c.parseProfile) (placeLast u c (parseProfile u
      c.parseProfile).guardMc) rows none) []).1).map (fun r => { r with seq := 0 })) ∧
  (∀ (x : HeldApdu), Completes (fun dt => .pairHoldTimeout dt) (fun u => u.sess.held = [x] ∧ ingestRuns u = true ∧ x.key + mc ≤ u.key ∧
    x.recs = [] ∧ holdsForYoke u = true)
    fun u t => t.sess.held = [] ∧ t.pair.mirroring = false ∧ t.pair.journalOpen = false ∧
      t.pair.laneOut = u.pair.laneOut ++ [(u.pair.msgCount, .syncLost)] ∧ t.pair.holdReleases = inc32 u.pair.holdReleases ∧
      t.hosts.alarmN.getLsbD 10 = true ∧ Logged .syncLost 0x60 [] u t) ∧
  (∀ (m : Nat) (c : MeterCtx), Completes (fun dt => .datablockTimeout dt m) (fun u => ctxOf u m = some c ∧ ingestRuns u = true ∧
    c.db.active = true ∧ c.db.lastKey + 3000 * mc ≤ u.key)
    fun u t => ctxOf t m = some { c with db := {} } ∧ t.sess.parseExcept = inc32 u.sess.parseExcept ∧
      Logged .apduDropped srcSup (leBytes 4 m) (onCtx m (fun x => { x with db := {} }) u) t) ∧
  (∀ (m : Nat) (c : MeterCtx), Completes (fun dt => .prevKeyExpire dt m) (fun u => ctxOf u m = some c ∧ u.pwr.stage = .running ∧
    c.prevHeld = true ∧ c.keyChangeKey + keySpan ≤ u.key)
    fun u t => ctxOf t m = some { c with prevHeld := false, wrapPrevEk := 0 } ∧ t.sess.q3 = u.sess.q3 ∧
      Only [.sess, .hosts, .evt, .pair, .arch] u t) ∧
  (∀ (m : Nat), Completes (fun dt => .contextWriteback dt m) (fun u => itemsRun u = true ∧ (tfind u.sess.dirty m).isSome)
    fun u t => t = writeBack m u ∧ (archWorks u = false → t = u) ∧ Only [.arch] u t) ∧
  (Completes (fun dt => .burstCreditUpdate dt) (fun u => stageAlive u = true ∧ u.sess.creditRc + ofS 1 ≤ u.rc)
    fun u t => t = u.onSess fun b =>
      { b with credit := min 1500000 (b.credit + 250000 - b.apdus), rate := b.apdus, apdus := 0, sigs := 0, creditRc := u.rc }) ∧
  (Completes (fun dt => .burstCreditUpdate dt) (fun u => u.rc < u.sess.creditRc + ofS 1)
    fun u t => t = u)

/-- Meters admitted, retired, read and found; parse profiles; the ingest counters (R407, R408, R409, R410, R411, R412). -/
def Obligations.MeterCommands : Prop :=
  (Serves (fun dt h => .meterAdmit dt h) 0x0701 (fun _ tk u => fld tk.payload 0 4 < u.sess.usable ∧
    ctxToBe u (fld tk.payload 0 4) = none ∧ titleHeld u (fld tk.payload 4 8) = false ∧ fld tk.payload 20 1 ≤ 2 ∧
    fld tk.payload 21 1 ≤ 15 ∧ fld tk.payload 22 1 ≤ 63 ∧ fld tk.payload 23 1 ≤ 31 ∧ fld tk.payload 24 1 ≤ 2 ∧
    fld tk.payload 25 1 &&& 0xC1 = 0)
    fun _ tk u t r => r = answer .ok ∧ t = postWord (.context (fld tk.payload 0 4) (.enrol
      { title := fld tk.payload 4 8, state := .joining, addr := fld tk.payload 12 8, kind := fld tk.payload 20 1,
        linkProfile := fld tk.payload 21 1, parseProfile := fld tk.payload 22 1, veeProfile := fld tk.payload 23 1,
        suite := fld tk.payload 24 1, direct := hasBit (fld tk.payload 25 1) 1, pinned := hasBit (fld tk.payload 25 1) 2, wur := hasBit
          (fld tk.payload 25 1) 3, signReq := hasBit (fld tk.payload 25 1) 4, atParent := hasBit (fld tk.payload 25 1) 5 ||
          (u.cfg.startCfg.role == some .field && u.cfg.act.parent), wakeAddr := fld tk.payload 26 2, hostref := fld tk.payload 28 4,
        admitKey := u.key })) u) ∧
  (Serves (fun dt h => .meterAdmit dt h) 0x0701 (fun _ tk u => u.sess.usable ≤ fld tk.payload 0 4)
    fun _ tk u t r => r = answer .nospace ∧ Logged .admitRefused srcSup (leBytes 4 (fld tk.payload 0 4)) u t ∧ Only [.hosts, .evt] u t) ∧
  (∀ (c : MeterCtx), Serves (fun dt h => .meterRetire dt h) 0x0702 (fun _ tk u => ctxToBe u (fld tk.payload 0 4) = some c ∧
    fld tk.payload 4 1 = 0 ∧ (ctxOf u (fld tk.payload 0 4)).isSome)
    fun _ tk u t r => r = answer .ok ∧ t = postWord (.context (fld tk.payload 0 4) .retire) u) ∧
  (∀ (c : MeterCtx), Serves (fun dt h => .meterRetire dt h) 0x0702 (fun _ tk u => ctxToBe u (fld tk.payload 0 4) = some c ∧
    fld tk.payload 4 1 = 1 ∧ c.state = .retired)
    fun _ tk u t r => r = answer .ok ∧ t = postWord (.context (fld tk.payload 0 4) .free) u) ∧
  (∀ (n m : Nat) (c : MeterCtx), Completes (fun dt => .controlWordCommit dt n) (fun u => u.fab.shadow[n]? = some (.context m (.enrol
    c)) ∧ wordDomainOn (u.onFab fun f => { f with shadow := f.shadow.eraseIdx n }) (.context m (.enrol c)) = true ∧ c.direct = false)
    fun u t => ctxOf t m = some c ∧ t.fab.shadow = u.fab.shadow.eraseIdx n) ∧
  (∀ (n m : Nat) (c : MeterCtx), Completes (fun dt => .controlWordCommit dt n) (fun u => u.fab.shadow[n]? = some (.context m .retire) ∧
    wordDomainOn (u.onFab fun f => { f with shadow := f.shadow.eraseIdx n }) (.context m .retire) = true ∧ ctxOf u m = some c)
    fun u t => ctxOf t m = some { c with state := .retired } ∧ t.fab.shadow = u.fab.shadow.eraseIdx n) ∧
  (∀ (n m : Nat), Completes (fun dt => .controlWordCommit dt n) (fun u => u.fab.shadow[n]? = some (.context m .free) ∧
    wordDomainOn (u.onFab fun f => { f with shadow := f.shadow.eraseIdx n }) (.context m .free) = true ∧ (ctxOf u m).isSome)
    fun _ t => ctxOf t m = none) ∧
  (∀ (c : MeterCtx), Reads (fun dt h => .meterRead dt h) 0x0703 512 (fun _ tk u => ctxOf u (fld tk.payload 0 4) = some c)
    fun _ tk _ p => Shows p 0 8 c.title ∧ Shows p 8 4 (fld tk.payload 0 4) ∧ Shows p 14 1 c.linkProfile ∧ Shows p 15 1 c.parseProfile ∧
      Shows p 20 4 c.icHi ∧ Shows p 24 4 c.icMap.toNat ∧ Shows p 40 8 c.addr ∧ Shows p 48 8 c.nextKey ∧ Shows p 56 8 c.lastContact ∧
      Shows p 96 4 c.frames) ∧
  (Serves (fun dt h => .parseSet dt h) 0x0704 (fun _ tk _ => fld tk.payload 0 1 ≤ 63 ∧ parseProfileOk (tk.payload.drop 16) = true)
    fun _ tk u t r => r = answer .ok ∧ t = postWord (.parse (fld tk.payload 0 1) (parseOfBytes (tk.payload.drop 16))) u) ∧
  (Reads (fun dt h => .ingestCounters dt h) 0x0705 64 (fun _ _ _ => True)
    fun _ _ u p => Shows p 0 4 u.hosts.framesIn ∧ Shows p 4 4 u.hosts.apdusAuth ∧ Shows p 20 4 u.sess.authFail ∧
      Shows p 24 4 u.sess.replay ∧ Shows p 52 4 u.hosts.recordsOut ∧ Shows p 60 4 u.sess.pressDiscard) ∧
  (∀ (m : Nat) (c : MeterCtx), Reads (fun dt h => .meterFind dt h) 0x0706 8 (fun _ tk u => u.sess.ctxs.find? (fun p => p.2.title ==
    fld tk.payload 0 8) = some (m, c))
    fun _ _ _ p => Shows p 0 4 m)

/-- Records validated, and the VEE commands (R413, R437, R441, R445, R446, R447, R448, R449, R450). -/
def Obligations.Validation : Prop :=
  (∀ (r : Record) (rest : List Record), Completes (fun dt => .validate dt) (fun u => itemsRun u = true ∧
    workTakes u .validate 4 = true ∧ u.vee.q5Held = [] ∧ u.vee.q6Held = [] ∧ u.sess.q4 = r :: rest ∧ u.sess.q4Held = [] ∧
    fromChild r = true)
    fun u t => t = emitRecord r (countVee 0 (u.onSess fun b => { b with q4 := rest })) ∧ t.vee.q5 ++ t.vee.q5Held = u.vee.q5 ++ [r] ∧
      t.vee.q6 ++ t.vee.q6Held = u.vee.q6 ++ [r] ∧ t.sess.q4 = rest) ∧
  (∀ (r : Record) (rest : List Record), Completes (fun dt => .validate dt) (fun u => itemsRun u = true ∧
    workTakes u .validate 4 = true ∧ u.vee.q5Held = [] ∧ u.vee.q6Held = [] ∧ u.sess.q4 = r :: rest ∧ u.sess.q4Held = [] ∧
    fromChild r = false ∧ (heldVersions u r.meter r.channel r.startTai).isSome ∧
    (latestRec ((recordsOf u r.meter r.channel r.startTai).filter fun q => originOf q == 0)).map (·.value) = some r.value)
    fun u t => t = countVee 18 (countVee 0 (u.onSess fun b => { b with q4 := rest }))) ∧
  (∀ (r : Record) (rest : List Record), Completes (fun dt => .validate dt) (fun u => itemsRun u = true ∧
    workTakes u .validate 4 = true ∧ u.vee.q5Held = [] ∧ u.vee.q6Held = [] ∧ u.sess.q4 = r :: rest ∧ u.sess.q4Held = [] ∧
    fromChild r = false ∧ heldVersions u r.meter r.channel r.startTai = none ∧ (profileOf u r.meter).rules = [])
    fun u t => ∃ x, t.vee.q5 ++ t.vee.q5Held = u.vee.q5 ++ [x] ∧ t.vee.q6 ++ t.vee.q6Held = u.vee.q6 ++ [x] ∧ x.outcome = 0x4000 ∧
      x.value = r.value ∧ x.meter = r.meter ∧ x.startTai = r.startTai ∧ originOf x = 0 ∧ versionOf x = 0 ∧ standsOf x = true ∧
      t.sess.q4 = rest) ∧
  (Serves (fun dt h => .veeProfileSet dt h) 0x0801 (fun _ tk _ => fld tk.payload 0 1 ≤ 31 ∧ veeProfileOk (tk.payload.drop 16) = true)
    fun _ tk u t r => r = answer .ok ∧ t = postWord (.vee (fld tk.payload 0 1) (veeOfBytes (tk.payload.drop 16))) u) ∧
  (Serves (fun dt h => .veeShapeSet dt h) 0x0802 (fun _ tk _ => fld tk.payload 0 1 ≤ 63 ∧
    ((List.range 672).map fun k => fld tk.payload (8 + 4 * k) 4).all (· == 0) = false)
    fun _ tk u t r => r = answer .ok ∧
      t = postWord (.shape (fld tk.payload 0 1) ((List.range 672).map fun k => fld tk.payload (8 + 4 * k) 4)) u) ∧
  (Serves (fun dt h => .veeMeterSet dt h) 0x0803 (fun _ tk u => (ctxOf u (fld tk.payload 0 4)).isSome ∧
    (fld tk.payload 20 1 ≤ 63 ∨ fld tk.payload 20 1 = 0xFF) ∧ fld tk.payload 21 1 ≤ 1 ∧
    (fld tk.payload 8 8 = 0 ∨ fld tk.payload 16 4 ≠ 0))
    fun _ tk u t r => r = answer .ok ∧ t = postWord (.veeMeter (fld tk.payload 0 4) (fld tk.payload 8 8) (fld tk.payload 16 4)
      (fld tk.payload 20 1) (hasBit (fld tk.payload 21 1) 0)) u) ∧
  (∀ (e : VerEntry) (v : Nat), Serves (fun dt h => .veeEdit dt h) 0x0804 (fun _ tk u => fld tk.payload 6 1 = 0 ∧
    fld tk.payload 0 4 ≠ ownMeter ∧ (ctxOf u (fld tk.payload 0 4)).isSome ∧
    heldVersions u (fld tk.payload 0 4) (fld tk.payload 4 2) (fld tk.payload 8 8) = some e ∧ e.high = some v ∧ v < 31)
    fun _ tk u t r => ∃ x, r = okWith (leBytes 1 (v + 1) ++ leBytes 3 0 ++ leBytes 4 u.sess.seq) ∧
      t.vee.q5 ++ t.vee.q5Held = u.vee.q5 ++ u.vee.q5Held ++ [x] ∧ t.vee.q6 ++ t.vee.q6Held = u.vee.q6 ++ u.vee.q6Held ++ [x] ∧
      x.value = fldI tk.payload 16 8 ∧ originOf x = 2 ∧ standsOf x = true ∧ versionOf x = v + 1 ∧ x.seq = u.sess.seq ∧
      t.sess.seq = inc32 u.sess.seq) ∧
  (∀ (sl : ChSlot), Serves (fun dt h => .veeEstimate dt h) 0x0805 (fun _ tk u => slotOf u (fld tk.payload 0 4) (fld tk.payload 4 2) =
    some sl ∧ fld tk.payload 16 8 ≤ u.tai ∧ fld tk.payload 8 8 = fld tk.payload 16 8 ∧ fld tk.payload 8 8 % 1000000000 = 0 ∧
    utcOf u (fld tk.payload 8 8 / 1000000000) % max 1 (profileOf u (fld tk.payload 0 4)).periodS = 0)
    fun _ _ u t r => t = u ∧ r = okWith (leBytes 4 0 ++ leBytes 4 0)) ∧
  (Reads (fun dt h => .veeCounters dt h) 0x0806 80 (fun _ _ u => u.vee.counts.length = 20)
    fun _ _ u p => p = u.vee.counts.flatMap (leBytes 4))

/-- Topology samples, the daily compile, and the BALANCE commands (R452, R478, R487, R488, R489, R490, R491, R492, R493). -/
def Obligations.TopologyAndBalance : Prop :=
  (∀ (x : Record), Completes (fun dt => .topoSample dt) (fun u => archWorks u = true ∧ workRuns u .balance = true ∧
    u.arch.logBase ≤ u.bal.logPos ∧ u.arch.commitLog[u.bal.logPos - u.arch.logBase]? = some x ∧ balDisabled u = false)
    fun u t => t = topoTake x (u.onBal fun b => { b with logPos := b.logPos + 1 })) ∧
  (∀ (d : Nat), Completes (fun dt => .balCompile dt) (fun u => balDisabled u = false ∧ archWorks u = true ∧ workRuns u .balance = true ∧
    u.bal.recompile = some d)
    fun u t => t = compileDay d true (u.onBal fun b => { b with recompile := none })) ∧
  (∀ (d : Nat), Completes (fun dt => .balCompile dt) (fun u => balDisabled u = false ∧ archWorks u = true ∧ workRuns u .balance = true ∧
    u.bal.recompile = none ∧ dueDays u = [d] ∧ u.bal.catching = true)
    fun u t => t = compileDay d false (u.onBal fun b => { b with catching := false }) ∧ t.bal.lastDay = some d ∧ t.bal.lostMark = false) ∧
  (∀ (b : TopoMeter), Reads (fun dt h => .topoRead dt h) 0x0901 48 (fun _ tk u => (ctxOf u (fld tk.payload 0 4)).isSome ∧
    topoOf u (fld tk.payload 0 4) = b)
    fun _ tk _ p => Shows p 0 4 (fld tk.payload 0 4) ∧ Shows p 4 1 b.result.state ∧ Shows p 5 1 b.result.phase ∧
      Shows p 6 1 b.result.feeder ∧ Shows p 8 2 b.result.phaseConf ∧ Shows p 10 2 b.result.feederConf ∧ Shows p 16 4 b.result.n ∧
      Shows p 20 2 b.child ∧ Shows p 32 8 b.since ∧ Shows p 40 1 (b.assigned.getD (0xFF, 0xFF)).2 ∧
      Shows p 41 1 (b.assigned.getD (0xFF, 0xFF)).1) ∧
  (Serves (fun dt h => .topoPin dt h) 0x0902 (fun _ tk u => (ctxOf u (fld tk.payload 0 4)).isSome ∧ fld tk.payload 4 1 = 1 ∧
    fld tk.payload 5 1 ≤ 7 ∧ fld tk.payload 6 1 ≤ 2 ∧
    isCandidate u (topoOf u (fld tk.payload 0 4)).child (fld tk.payload 5 1) (fld tk.payload 6 1) = true)
    fun _ tk u t r => r = answer .ok ∧ t = setTopo (fld tk.payload 0 4)
      { topoOf u (fld tk.payload 0 4) with pinned := true, assigned := some (fld tk.payload 5 1, fld tk.payload 6 1), since := u.tai }
      u) ∧
  (Serves (fun dt h => .topoPin dt h) 0x0902 (fun _ tk u => (ctxOf u (fld tk.payload 0 4)).isSome ∧ fld tk.payload 4 1 = 0)
    fun _ tk u t r => r = answer .ok ∧ t = setTopo (fld tk.payload 0 4)
      { topoOf u (fld tk.payload 0 4) with pinned := false, assigned := (topoOf u (fld tk.payload 0 4)).proposal } u) ∧
  (Serves (fun dt h => .balFeederSet dt h) 0x0903 (fun _ tk _ => fld tk.payload 0 2 = 0 ∧ fld tk.payload 2 1 ≤ 7 ∧
    fld tk.payload 3 1 ≤ 2 ∧ fld tk.payload 4 1 ≤ 1 ∧ 0 < fld tk.payload 12 4 ∧ fld tk.payload 12 4 ≤ 10000000 ∧
    fld tk.payload 8 4 ≤ fld tk.payload 12 4)
    fun _ tk u t r => r = answer .ok ∧ t.bal.feeders = tput u.bal.feeders (feederIx 0 (fld tk.payload 2 1) (fld tk.payload 3 1))
      { feederOf u 0 (fld tk.payload 2 1) (fld tk.payload 3 1) with declared := fld tk.payload 4 1 = 1, rDecl := fld tk.payload 8 4,
                                                                    rMax := fld tk.payload 12 4, fixedW := fld tk.payload 16 4 }) ∧
  (∀ (x : BalSummary), Reads (fun dt h => .balReportRead dt h) 0x0904 64 (fun _ tk u => isMidnight u (fld tk.payload 0 8) = true ∧
    dayStale u (utcDay u (fld tk.payload 0 8)) = false ∧ (balChildren u).contains (fld tk.payload 8 2) = true ∧
    fld tk.payload 10 1 ≤ 7 ∧ fld tk.payload 11 1 ≤ 3 ∧ u.bal.summaries.find? (fun x => x.dayTai == fld tk.payload 0 8 && x.child ==
    fld tk.payload 8 2 && x.feeder == fld tk.payload 10 1 && x.phase == fld tk.payload 11 1) = some x)
    fun _ _ _ p => p = summaryBytes x ∧ Shows p 0 8 x.dayTai ∧ Shows p 8 1 x.feeder ∧ ShowsI p 16 8 x.eFeeder ∧
      ShowsI p 24 8 x.eMeters ∧ ShowsI p 40 8 x.residual) ∧
  (Reads (fun dt h => .scoreRead dt h) 0x0905 24 (fun _ tk u => (ctxOf u (fld tk.payload 0 4)).isSome ∧
    (topoOf u (fld tk.payload 0 4)).score.comps.length = 4)
    fun _ tk u p => Shows p 0 2 (topoOf u (fld tk.payload 0 4)).score.score ∧ ShowsI p 10 2 (topoOf u (fld tk.payload 0 4)).score.rho) ∧
  (Reads (fun dt h => .balCounters dt h) 0x0906 32 (fun _ _ _ => True)
    fun _ _ u p => Shows p 0 4 u.bal.topoSamples ∧ Shows p 4 4 u.bal.noReference ∧ Shows p 8 4 u.bal.overrun ∧
      Shows p 12 4 u.bal.excluded ∧ Shows p 16 4 u.bal.late ∧ Shows p 20 4 u.bal.compiles ∧ Shows p 24 4 u.bal.alerts ∧
      Shows p 28 4 u.bal.notPushed) ∧
  (Serves (fun dt h => .balRecompile dt h) 0x0907 (fun _ tk u => u.bal.recompile = none ∧ isMidnight u (fld tk.payload 0 8) = true ∧
    dayStale u (utcDay u (fld tk.payload 0 8)) = false)
    fun _ tk u t r => r = answer .ok ∧ t = u.onBal fun b => { b with recompile := some (utcDay u (fld tk.payload 0 8)) })

/-- Records packed into pages, pages programmed, flushed, relocated and erased, and failing dies (R498, R512, R513, R524, R526, R529, R530,
  R532, R533, R883). -/
def Obligations.ArchivePages : Prop :=
  (∀ (r : Record) (rest : List Record), Completes (fun dt => .recordPack dt) (fun u => se13Works u = true ∧ u.arch.segWait = [] ∧
    u.arch.sumWait = [] ∧ u.vee.q5 = r :: rest ∧ u.vee.q5Held = [] ∧ workTakes u .pageMap 5 = true ∧ u.arch.openRecs.length < 255)
    fun u t => t.vee.q5 = rest ∧ t.arch.openRecs = u.arch.openRecs ++ [{ pos := u.arch.nextPos, record := r }] ∧
      t.arch.nextPos = u.arch.nextPos + 1 ∧ t.arch.openKey = (if u.arch.openRecs.isEmpty then u.key else u.arch.openKey) ∧
      Only [.vee, .arch] u t) ∧
  (Completes (fun dt => .recordPack dt) (fun u => se13Works u = true ∧ u.arch.segWait = [] ∧ u.arch.sumWait = [] ∧ u.vee.q5 ≠ [] ∧
    workTakes u .pageMap 5 = true ∧ u.arch.openRecs.length = 255)
    fun u t => t = (writeOpen 0 (packOne u)).getD (packOne u) ∧ ((writeOpen 0 (packOne u)).isSome → t.arch.openRecs = [])) ∧
  (∀ (w : State), Completes (fun dt => .pageFlush dt) (fun u => se13Works u = true ∧ u.arch.openRecs ≠ [] ∧
    u.arch.openKey + u.cfg.act.arch.flushMc * mc ≤ u.key ∧ writeOpen 1 u = some w)
    fun _ t => t = flushStripe .records w ∧ w.arch.openRecs = []) ∧
  (∀ (die q : Nat) (rest : List Nat), Completes (fun dt => .pageProgramDone dt die true) (fun u => nandOn u = true ∧
    tget u.arch.queues die [] = q :: rest)
    fun u t => t = commitNew (u.onArch fun a =>
      { a with queues := tput a.queues die rest, pages := a.pages.map fun p => if p.seq = q then { p with programmed := true } else p
                 })) ∧
  (∀ (die q : Nat) (rest : List Nat) (p : PhysPage), Completes (fun dt => .pageProgramDone dt die false) (fun u => nandOn u = true ∧
    tget u.arch.queues die [] = q :: rest ∧ u.arch.pages.find? (fun p => p.seq == q) = some p)
    fun u t => t = abandonSb p.group (some p.blk) (writeJournal (growBad p.die p.blk (u.onArch fun a =>
      { a with queues := tput a.queues die rest })))) ∧
  (∀ (die : Nat) (d : DieSt), Completes (fun dt => .nandOperationTimeout dt die) (fun u => nandOn u = true ∧ dieOf u die = some d)
    fun u t => dieOf t die = some { d with timeouts := recent d.timeouts u.rc (ofS 600) } ∧ Only [.arch] u t) ∧
  (∀ (die : Nat) (d : DieSt), Completes (fun dt => .dieFail dt die) (fun u => archWorks u = true ∧ dieOf u die = some d ∧
    dieDue u d = true)
    fun u t => t = failDie die u) ∧
  (∀ (die : Nat) (d : DieSt), Completes (fun dt => .dieRebuildDone dt die) (fun u => archWorks u = true ∧ dieOf u die = some d ∧
    d.state = 1 ∧ (∀ p ∈ u.arch.pages, p.die = die → validPage u p = false) ∧ relocating u = false)
    fun u t => t = writeJournal (onDie die (fun d => { d with state := 2 }) u)) ∧
  (∀ (g b : Nat) (fails : List Nat), Completes (fun dt => .spaceRecovery dt fails) (fun u => se13Works u = true ∧
    u.arch.victim = some (g, b) ∧ validIn u g b = [] ∧ relocating u = false ∧ superseding u g b = [])
    fun u t => t = checkReadOnly (eraseSb g b fails u)) ∧
  (∀ (g b : Nat), Completes (fun dt => .spaceRecovery dt []) (fun u => se13Works u = true ∧ u.arch.victim = some (g, b) ∧
    validIn u g b = [] ∧ relocating u = false ∧ superseding u g b = [])
    fun u t => t = checkReadOnly (eraseSb g b [] u) ∧ t.arch.victim = none ∧ ∀ p ∈ t.arch.pages, ¬ (p.group = g ∧ p.blk = b)) ∧
  (∀ (fails : List Nat), Completes (fun dt => .spaceRecovery dt fails) (fun u => se13Works u = true ∧ u.arch.victim = none ∧
    gcLevel u = 0 ∧ wearSpread u = false)
    fun u t => t = u) ∧
  (∀ (p : PhysPage) (corr : List Nat) (step : Nat) (second : Option Nat), Completes (fun dt => .patrolRead dt corr step second) (fun u
    => se13Works u = true ∧ patrolPage u = some p ∧ (∀ c ∈ corr, c < 90) ∧ step < 2 ∧ u.arch.nextSeq < p.seq + 1073741824)
    fun u t => t = readPage p corr step second (u.onArch fun a => { a with patrolNext := p.lpn + 1 }) ∧ t.arch.pages = u.arch.pages ∧
      Only [.arch] u t) ∧
  (∀ (p : PhysPage) (corr : List Nat) (step : Nat) (second : Option Nat), Completes (fun dt => .patrolRead dt corr step second) (fun u
    => se13Works u = true ∧ patrolPage u = some p ∧ (step = 2 ∨ step = 3))
    fun u t => t = relocate p (readPage p corr step second (u.onArch fun a => { a with patrolNext := p.lpn + 1 }))) ∧
  (∀ (corr : List Nat) (step : Nat) (second : Option Nat), Completes (fun dt => .patrolRead dt corr step second) (fun u => se13Works
    u = true ∧ patrolPage u = none ∧ u.arch.patrolRc + ofS (86400 * u.cfg.act.arch.patrolDays) ≤ u.rc)
    fun u t => t = u.onArch fun a => { a with patrolNext := 0, patrolRc := u.rc }) ∧
  (∀ (die : Nat) (c : Int) (d : DieSt), Completes (fun dt => .nandTempRead dt [(die, c)]) (fun u => nandOn u = true ∧
    u.cfg.startCfg.arch.tempFeature = true ∧ u.arch.tempRc = none ∧ dieOf u die = some d)
    fun u t => dieOf t die = some { d with temps := bumpAt d.temps (tempBin c), tempNow := c } ∧ t.arch.tempMax = max u.arch.tempMax c ∧
      t.arch.tempRc = some u.rc ∧ Only [.arch] u t) ∧
  (∀ (l : List (Nat × Int)) (x : Nat), Completes (fun dt => .nandTempRead dt l) (fun u => u.arch.tempRc = some x ∧ u.rc < x + ofS 60)
    fun u t => t = u)

/-- Host block requests, the event extension, the format, and the ARCH commands (R515, R521, R522, R523, R536, R537, R540, R542, R543, R661,
  R766). -/
def Obligations.ArchiveRequestsAndFormat : Prop :=
  (∀ (ring : Nat) (data : List (List Byte)) (q c : RingSt) (b : List Byte) (rest : List (List Byte)), Completes (fun dt =>
    .hostBlockRequest dt ring data) (fun u => itemsRun u = true ∧
    u.hosts.rings.find? (fun r => r.number == ring && r.source == 4) = some q ∧ q.items = b :: rest ∧
    u.hosts.rings.find? (fun r => r.owner == q.owner && r.source == 5) = some c ∧
    ringFill c + (u.arch.reqs.filter fun r => r.host == q.owner).length < c.depth ∧
    hostReqStatus u (hostReqOf q.owner c.number b) = .ok ∧ fld b 0 1 = 0)
    fun u t => t = (setRing { q with items := rest, cons := inc32 q.cons } u).onArch fun a =>
      { a with reqs := a.reqs ++ [hostReqOf q.owner c.number b] }) ∧
  (∀ (ring : Nat) (data : List (List Byte)) (q c : RingSt) (b : List Byte) (rest : List (List Byte)) (st : Status), Completes (fun dt =>
    .hostBlockRequest dt ring data) (fun u => itemsRun u = true ∧
    u.hosts.rings.find? (fun r => r.number == ring && r.source == 4) = some q ∧ q.items = b :: rest ∧
    u.hosts.rings.find? (fun r => r.owner == q.owner && r.source == 5) = some c ∧
    ringFill c + (u.arch.reqs.filter fun r => r.host == q.owner).length < c.depth ∧
    hostReqStatus u (hostReqOf q.owner c.number b) = st ∧ st ≠ .ok)
    fun u t => t = (setRing { q with items := rest, cons := inc32 q.cons } u).onArch fun a =>
      { a with reqs := a.reqs ++ [{ hostReqOf q.owner c.number b with status := st }] }) ∧
  (∀ (n : Nat) (r : HostReq) (w : State), Completes (fun dt => .hostBlockComplete dt n) (fun u => itemsRun u = true ∧
    u.arch.reqs[n]? = some r ∧ reqDone u r = true ∧ r.op ≠ 0 ∧ pushRing r.ring (leBytes 4 r.tag ++ leBytes 1 (statusCode r.status) ++
    [0] ++ leBytes 2 (if r.status ≠ .ok ∨ r.op = 2 then 0 else r.count) ++ leBytes 8 0) (u.onArch fun a =>
    { a with reqs := a.reqs.eraseIdx n }) = some w)
    fun _ t => t = w) ∧
  (∀ (n : Nat) (r : HostReq) (w : State), Completes (fun dt => .hostBlockComplete dt n) (fun u => itemsRun u = true ∧
    u.arch.reqs[n]? = some r ∧ reqDone u r = true ∧ r.op = 0 ∧ r.status = .ok ∧ goodSectors u r = r.count ∧ pushRing r.ring (leBytes 4
    r.tag ++ leBytes 1 0 ++ [0] ++ leBytes 2 r.count ++ leBytes 8 0) (u.onArch fun a =>
    { a with reqs := a.reqs.eraseIdx n, hostReads := a.hostReads ++ [(r.host, r.buf, (List.range r.count).flatMap fun k => sectorOf u
               (r.lba + k))] }) = some w)
    fun _ t => t = w) ∧
  (Completes (fun dt => .eventCopy dt) (fun u => copyingRuns u = true ∧ 256 ≤ u.evt.ring.length ∧
    (∀ p ∈ u.arch.pages, p.lpn ≠ eventRegion + u.evt.ext.length / 256))
    fun u t => t = storePage (eventRegion + u.evt.ext.length / 256) (.events (((u.evt.ext ++ u.evt.ring).drop (256 * (u.evt.ext.length /
      256))).take 256)) u ∧ t.evt = u.evt ∧ Only [.arch] u t) ∧
  (∀ (groups : List (List Nat)) (pages spare : Nat), Completes (fun dt => .formatComplete dt) (fun u => nandOn u = true ∧
    u.arch.state = 5 ∧ formatPlan u = (groups, some (pages, spare)) ∧ u.evt.ext = [])
    fun u t => ∃ z, t = (settle (settle (writeJournal z))).onEvt (fun v => { v with ext := [], extGone := [] }) ∧ z.arch.state = 2 ∧
      z.arch.map = [] ∧ z.arch.pages = [] ∧ z.arch.nextSeq = 0 ∧ z.arch.erases = [] ∧ z.arch.openRecs = [] ∧ z.arch.nextPos = 0 ∧
      z.arch.format.map (·.groups) = some groups ∧ z.arch.format.map (·.recPages) = some pages ∧ z.upl.acked = 0 ∧
      z.sess.dirty = u.sess.ctxs.map (fun c => (c.1, u.key))) ∧
  (Completes (fun dt => .formatComplete dt) (fun u => nandOn u = true ∧ u.arch.state = 5 ∧ (formatPlan u).2 = none)
    fun u t => t.arch = { u.arch with state := 4 } ∧ t = setAlarm 0x80 (u.onArch fun a => { a with state := 4 })) ∧
  (Reads (fun dt h => .archHealth dt h) 0x0A01 160 (fun _ _ u => u.arch.hist.length = 16 ∧ u.arch.written.length = 4)
    fun _ _ u p => Shows p 0 1 u.arch.dies.length ∧ Shows p 3 1 u.arch.state ∧ ShowsI p 10 2 u.arch.tempMax ∧
      Shows p 88 4 u.arch.retryReads ∧ Shows p 92 4 u.arch.softReads ∧ Shows p 96 4 u.arch.uncorr ∧ Shows p 100 4 u.arch.rebuilds ∧
      Shows p 104 4 u.arch.pagesLost ∧ Shows p 108 4 u.arch.recordsLost) ∧
  (∀ (x : DieSt), Reads (fun dt h => .archDieRead dt h) 0x0A02 232 (fun _ tk u => dieOf u (fld tk.payload 0 1) = some x ∧
    x.hist.length = 16 ∧ x.reads.length = 4 ∧ x.temps.length = 33)
    fun _ tk _ p => Shows p 0 1 (fld tk.payload 0 1) ∧ Shows p 1 1 x.state ∧ Shows p 4 2 x.badFactory ∧ Shows p 6 2 x.badGrown ∧
      ShowsI p 228 2 x.tempNow) ∧
  (Serves (fun dt h => .archDieRead dt h) 0x0A02 (fun _ tk u => dieOf u (fld tk.payload 0 1) = none)
    fun _ _ u t r => t = u ∧ r = answer .badarg) ∧
  (Serves (fun dt h => .archQuery dt h) 0x0A03 (fun h tk u => (∀ x ∈ u.arch.queries, x.host ≠ h.val) ∧ fld tk.payload 0 1 = 1 ∧
    queryStale u (queryOf h.val tk.payload) = false ∧ namesRing u h.val (fld tk.payload 2 2) 64 = true ∧
    fld tk.payload 16 8 < fld tk.payload 24 8)
    fun h tk u t r => r = okWith (leBytes 2 u.arch.nextQuery ++ [0, 0] ++ leBytes 4 (pagesOfQuery u (queryOf h.val
      tk.payload)).length) ∧ t.arch.nextQuery = w16 (u.arch.nextQuery + 1) ∧ ∃ x, t.arch.queries = u.arch.queries ++ [x] ∧
      x.host = h.val ∧ x.id = u.arch.nextQuery ∧ x.ring = fld tk.payload 2 2 ∧ x.meter = fld tk.payload 4 4 ∧
      x.lo = fld tk.payload 16 8 ∧ x.hi = fld tk.payload 24 8 ∧ x.delivered = 0 ∧ x.started = false ∧
      x.ended = (pagesOfQuery u (queryOf h.val tk.payload)).isEmpty ∧
      t.fab.q11 ++ t.fab.q11Held = u.fab.q11 ++ u.fab.q11Held ++ [.query h.val]) ∧
  (∀ (host : Nat) (corr : List Nat) (step : Nat) (second : Option Nat) (q : ArchQuery) (w : State), Completes (fun dt => .archQueryScan
    dt host corr step second) (fun u => se13Works u = true ∧ u.arch.queries.find? (fun q => q.host == host) = some q ∧
    q.started = true ∧ q.out = [] ∧ q.ended = true ∧ pushRing q.ring (recordBytes (endRecord q)) u = some w)
    fun _ t => t = w.onArch fun a => { a with queries := a.queries.filter fun x => x.host != host }) ∧
  (Serves (fun dt h => .archQueryCancel dt h) 0x0A04 (fun h tk u => ∃ q ∈ u.arch.queries, q.host = h.val ∧ q.id = fld tk.payload 0 2)
    fun h tk u t r => r = answer .ok ∧ t = u.onArch fun a =>
      { a with queries := a.queries.map fun q => if q.host = h.val ∧ q.id = fld tk.payload 0 2 then { q with ended := true,
                                                                                                             cancelled := !q.ended,
                                                                                                             out := if q.ended then
                                                                                                               q.out else [] } else q }) ∧
  (Serves (fun dt h => .archFormat dt h) 0x0A05 (fun _ tk u => (u.cfg.overlay = 2 ∨ u.cfg.overlay = 4 ∨ u.arch.state = 4) ∧
    u.arch.state ≠ 5 ∧ u.arch.queries = [] ∧ fld tk.payload 0 4 = 0x464F524D ∧ (formatPlan u).2.isSome)
    fun _ _ u t r => r = answer .ok ∧ t = u.onArch fun a => { a with state := 5 }) ∧
  (∀ (x : DieSt) (rest : State), Serves (fun dt h => .archDieRetire dt h) 0x0A06 (fun _ tk u => dieOf u (fld tk.payload 0 1) = some x ∧
    x.state = 0 ∧ fld tk.payload 4 4 = 0x44494521 ∧ 8 ≤ ((((groupsOf u).find? (·.contains (fld tk.payload 0 1))).getD []).filter fun k
    => k != fld tk.payload 0 1 && dieGood u k).length ∧ rest = onDie (fld tk.payload 0 1) (fun y => { y with state := 1 }) u ∧
    recFirst u + 65536 + reserveSbs rest * sbWorth u ≤ dataPages rest ∧ rebuilding u = false)
    fun _ tk u t r => r = answer .ok ∧ t = failDie (fld tk.payload 0 1) u) ∧
  (∀ (x : DieSt), Serves (fun dt h => .archDieRetire dt h) 0x0A06 (fun _ tk u => dieOf u (fld tk.payload 0 1) = some x ∧
    (x.state ≠ 0 ∨ fld tk.payload 4 4 ≠ 0x44494521))
    fun _ _ u t r => t = u ∧ r = answer .badarg)

/-- The upstream connection: attempts, loss, bundles, acknowledgements, credit, time and DOWN (R546, R551, R553, R555, R556, R558, R560,
  R561, R562, R563, R566, R569). -/
def Obligations.Uplink : Prop :=
  (∀ (p : Nat), Completes (fun dt => .uplinkConnect dt false) (fun u => uplinkRuns u = true ∧ namesUpstream u = true ∧
    u.upl.conn = none ∧ (u.upl.state ≠ 3 ∨ u.upl.retryOk = true) ∧ nextPort u = some p)
    fun u t => t = u.onUpl fun x => { x with lastPort := p, attemptRc := u.rc, state := 1, tryOther := false, retryOk := true }) ∧
  (∀ (p : Nat), Completes (fun dt => .uplinkConnect dt true) (fun u => uplinkRuns u = true ∧ namesUpstream u = true ∧
    u.upl.conn = none ∧ (u.upl.state ≠ 3 ∨ u.upl.retryOk = true) ∧ nextPort u = some p ∧ u.cfg.act.parent = true)
    fun u t => t.upl.conn = some { port := p, lastRx := u.rc, lastTx := u.rc, sendPos := u.upl.acked, sendSeq := 2 } ∧ t.upl.state = 1 ∧
      t.upl.lastPort = p ∧ t.upl.upOut = u.upl.upOut ++ [(1, .hello u.cfg.act.unitId (if u.cfg.startCfg.role == some .aggregation then 2
      else 1) (release u) ((u.arch.format.map (·.formatId)).getD 0))]) ∧
  (∀ (p : Nat), Completes (fun dt => .uplinkConnect dt true) (fun u => uplinkRuns u = true ∧ namesUpstream u = true ∧
    u.upl.conn = none ∧ (u.upl.state ≠ 3 ∨ u.upl.retryOk = true) ∧ nextPort u = some p ∧ u.cfg.act.parent = false)
    fun u t => t.upl.conn = some { port := p, lastRx := u.rc, lastTx := u.rc, sendPos := u.upl.acked, up := true, timeReqRc := u.rc } ∧
      t.upl.state = 2 ∧ t.upl.depth = 1 ∧ t.upl.everUp = true ∧
      t.upl.reconnects = (if u.upl.everUp then inc32 u.upl.reconnects else u.upl.reconnects)) ∧
  (∀ (p : Nat) (c : UpConn), Completes (fun dt => .uplinkLinkLoss dt p true) (fun u => uplinkRuns u = true ∧ u.upl.conn = some c ∧
    c.port = p ∧ p < 2)
    fun _ t => t.upl.conn = none ∧ t.upl.state = 1 ∧ t.upl.credit = 0) ∧
  (∀ (c : UpConn), Completes (fun dt => .connectionTimeout dt none) (fun u => uplinkRuns u = true ∧ u.upl.conn = some c ∧
    c.lastRx + ofS 30 ≤ u.rc)
    fun _ t => t.upl.conn = none ∧ t.upl.state = 1 ∧ t.upl.credit = 0) ∧
  (∀ (c : UpConn), Completes (fun dt => .keepaliveSend dt none) (fun u => uplinkRuns u = true ∧ u.upl.conn = some c ∧ c.up = true ∧
    u.cfg.act.parent = true ∧ c.lastTx + ofS 10 ≤ u.rc)
    fun u t => t = u.onUpl fun x =>
      { x with conn := some { c with sendSeq := inc32 c.sendSeq, lastTx := u.rc }, upOut := x.upOut ++ [(c.sendSeq, .keepalive)] }) ∧
  (∀ (c : UpConn), Completes (fun dt => .keepalive dt none) (fun u => uplinkRuns u = true ∧ u.upl.conn = some c)
    fun u t => t = u.onUpl fun x => { x with conn := some { c with lastRx := u.rc } }) ∧
  (∀ (c : UpConn) (l : List Q2Entry), Completes (fun dt => .bundleSend dt) (fun u => uplinkRuns u = true ∧ u.upl.conn = some c ∧
    c.up = true ∧ u.cfg.act.parent = true ∧ c.unacked.length < u.upl.credit ∧ u.sess.forward ≠ [] ∧ workTakes u .uplink 6 = true ∧
    l = cipherFit 64 16392 u.sess.forward)
    fun u t => t.sess.forward = u.sess.forward.drop l.length ∧ t.upl.upOut = u.upl.upOut ++ [(c.sendSeq, .cipher (l.map (hopEntry u))
      (signMessage 4 c.sendSeq (cipherBody (l.map (hopEntry u))) u).1)] ∧ t.upl.conn = some
      { c with sendSeq := inc32 c.sendSeq, lastTx := u.rc, unacked := c.unacked ++ [{ seq := c.sendSeq, nextPos := none, entries := l }]
                 }) ∧
  (∀ (c : UpConn) (r : ArchRec) (l b : List ArchRec), Completes (fun dt => .bundleSend dt) (fun u => uplinkRuns u = true ∧
    u.upl.conn = some c ∧ c.up = true ∧ u.cfg.act.parent = false ∧ sendable u c.sendPos = r :: l ∧
    (256 ≤ (r :: l).length ∨ r.commitRc + ofMs u.cfg.act.bundleMaxMs ≤ u.rc) ∧ workTakes u .uplink 6 = true ∧
    b = consecutive 256 r.pos (r :: l))
    fun u t => t.upl.upOut = u.upl.upOut ++ [(c.sendSeq, .bundle (c.sendPos < r.pos) r.pos (b.map fun x => hopRecord u x.record)
      (signMessage 3 c.sendSeq (bundleBody (c.sendPos < r.pos) r.pos (b.map fun x => hopRecord u x.record)) u).1)] ∧ t.upl.conn = some
      { c with sendSeq := inc32 c.sendSeq, lastTx := u.rc, sendPos := r.pos + b.length, unacked := c.unacked ++ [{ seq := c.sendSeq,
                                                                                                                   nextPos := some
                                                                                                                     (r.pos + b.length),
                                                                                                                   entries := [] }] } ∧
      Only [.upl, .free] u t) ∧
  (∀ (nextPos bound credit depth : Nat) (c : UpConn), Completes (fun dt => .helloAck dt .ok nextPos bound credit depth) (fun u =>
    uplinkRuns u = true ∧ u.upl.conn = some c ∧ c.up = false ∧ u.cfg.act.parent = true ∧ hopBound u + bound ≤ u.cfg.act.latBudgetUs)
    fun u t => t.upl.conn = some { c with lastRx := u.rc, sendPos := nextPos, up := true, timeReqRc := u.rc } ∧ t.upl.state = 2 ∧
      t.upl.credit = credit % 65536 ∧ t.upl.parentBound = bound ∧ t.upl.depth = depth % 256) ∧
  (∀ (nextPos bound credit depth : Nat) (c : UpConn), Completes (fun dt => .helloAck dt .denied nextPos bound credit depth) (fun u =>
    uplinkRuns u = true ∧ u.upl.conn = some c ∧ c.up = false ∧ u.cfg.act.parent = true)
    fun _ t => t.upl.conn = none ∧ t.upl.state = 4) ∧
  (∀ (seq pos : Nat) (c : UpConn), Completes (fun dt => .ack dt seq pos) (fun u => uplinkRuns u = true ∧ u.upl.conn = some c ∧
    c.up = true ∧ u.cfg.act.parent = true)
    fun u t => t.upl.acked = pos ∧ t.upl.conn = some { c with lastRx := u.rc, unacked := c.unacked.filter fun m => seq < m.seq }) ∧
  (∀ (pos : Nat) (c : UpConn), Completes (fun dt => .headEndAck dt pos) (fun u => uplinkRuns u = true ∧ u.upl.conn = some c ∧
    c.up = true ∧ u.cfg.act.parent = false)
    fun u t => t.upl.acked = pos ∧
      t.upl.conn = some { c with lastRx := u.rc, unacked := c.unacked.filter fun m => pos < m.nextPos.getD 0 }) ∧
  (∀ (n : Nat) (c : UpConn), Completes (fun dt => .credit dt n) (fun u => uplinkRuns u = true ∧ u.upl.conn = some c ∧ c.up = true ∧
    u.cfg.act.parent = true)
    fun u t => t = u.onUpl fun x => { x with credit := n % 65536, conn := some { c with lastRx := u.rc } }) ∧
  (∀ (c : UpConn), Completes (fun dt => .timeReqSend dt) (fun u => uplinkRuns u = true ∧ u.upl.conn = some c ∧ c.up = true ∧
    u.cfg.act.parent = true ∧ c.timeReqRc + ofS 16 ≤ u.rc ∧ c.t1 = none)
    fun u t => t = u.onUpl fun x =>
      { x with conn := some { c with timeReqRc := u.rc, t1 := some u.tai, sendSeq := inc32 c.sendSeq, lastTx := u.rc },
               upOut := x.upOut ++ [(c.sendSeq, .timeReq u.tai)] }) ∧
  (∀ (t1 t2 t3 : Nat) (utc : Int) (anchored leap61 leap59 : Bool) (c : UpConn), Completes (fun dt => .timeResp dt t1 t2 t3 utc anchored
    leap61 leap59) (fun u => uplinkRuns u = true ∧ u.upl.conn = some c ∧ c.up = true ∧ u.cfg.act.parent = true ∧ c.t1 = some t1)
    fun u t => t.upl.conn = some { c with lastRx := u.rc, t1 := none } ∧
      t.upl.exchanges = ((u.tai - t1, openDiv (((t1 : Int) - t2) + ((u.tai : Int) - t3)) 2, anchored) :: u.upl.exchanges).take 8) ∧
  (∀ (body : DownBody) (c : UpConn), Completes (fun dt => .down dt body) (fun u => uplinkRuns u = true ∧ u.upl.conn = some c ∧
    c.up = true ∧ u.cfg.act.parent = true ∧ mayTransmit u = false)
    fun u t => t.upl.upOut = u.upl.upOut ++ [(c.sendSeq, .downResult body.tag 1)] ∧ Only [.upl] u t) ∧
  (∀ (body : DownBody) (c : UpConn), Completes (fun dt => .down dt body) (fun u => uplinkRuns u = true ∧ u.upl.conn = some c ∧
    c.up = true ∧ u.cfg.act.parent = true ∧ mayTransmit u = true ∧ body.addr ≠ 0xFFFFFFFFFFFFFFFF)
    fun u t => t = takeUnicast body (heardUp u))

/-- The parent's side: HELLO, bundles, ciphertext, time and results of children, and the UPL commands (R550, R552, R554, R555, R556, R557,
  R561, R562, R563, R565, R573, R574). -/
def Obligations.DeviceTree : Prop :=
  (∀ (port unit idHash formatId : Nat), Completes (fun dt => .hello dt port unit idHash formatId) (fun u => uplinkRuns u = true ∧
    port < 2 ∧ (portCfg u port).mode ≠ 0 ∧ (portCfg u port).useChildren = true ∧ childOf u unit = none)
    fun u t => t.upl.dnOut = u.upl.dnOut ++ [(unit, 1, .helloAck .denied 0 0 0 0)] ∧ t.upl.children = u.upl.children ∧
      Logged .childRefused 0x58 (leBytes 2 unit) u t) ∧
  (∀ (port unit idHash formatId : Nat) (x : Child), Completes (fun dt => .hello dt port unit idHash formatId) (fun u => uplinkRuns
    u = true ∧ port < 2 ∧ (portCfg u port).mode ≠ 0 ∧ (portCfg u port).useChildren = true ∧ childOf u unit = some x ∧ x.enabled = true ∧
    x.idHash = idHash ∧ x.formatId = some formatId ∧ (u.upl.children.filter fun k => k.1 != unit && k.2.conn.isSome).length < 512)
    fun u t => t.upl.dnOut = u.upl.dnOut ++ [(unit, 1, .helloAck .ok x.nextPos (min 0xFFFFFFFF (pathBound u)) (creditOf u) (u.upl.depth
      + 1))] ∧ (childOf t unit).map (·.nextPos) = some x.nextPos ∧ ((childOf t unit).bind (·.conn)).map (·.sendSeq) = some 2) ∧
  (∀ (child seq first : Nat) (recs : List Record) (n : ChildConn), Completes (fun dt => .bundle dt child seq first recs) (fun u =>
    (childOf u child).bind (·.conn) = some n ∧ uplinkRuns u = true ∧ u.sess.q4Held = [] ∧ (recs = [] ∨ 256 < recs.length))
    fun u t => t = malformed child u ∧ (childOf t child).bind (·.conn) = none) ∧
  (∀ (child seq first : Nat) (r : Record) (x : Child) (n : ChildConn), Completes (fun dt => .bundle dt child seq first [r]) (fun u =>
    childOf u child = some x ∧ x.conn = some n ∧ uplinkRuns u = true ∧ u.sess.q4Held = [] ∧ x.nextPos = first ∧
    r.residenceUs ≤ x.boundUs)
    fun u t => t.sess.q4 ++ t.sess.q4Held = u.sess.q4 ++ [childRecord u child first r] ∧ (∃ k, childOf t child = some
      { x with lastSeenTai := u.tai, nextPos := first + 1, recordsIn := inc32 x.recordsIn, uncommitted := x.uncommitted ++ [first],
               conn := k }) ∧ t.upl.skips = u.upl.skips ∧ t.upl.resent = u.upl.resent ∧ t.upl.overBound = u.upl.overBound) ∧
  (∀ (child seq : Nat) (e : Q2Entry) (x : Child) (n : ChildConn), Completes (fun dt => .cipher dt child seq [e]) (fun u => childOf u
    child = some x ∧ x.conn = some n ∧ uplinkRuns u = true ∧ slotsOf e.length + stagingUsed u ≤ stagingSlots u ∧
    cipherEntryBytes e ≤ 16392)
    fun u t => t.sess.q2 ++ t.sess.q2Held = u.sess.q2 ++ u.sess.q2Held ++ [{ childEntry u child e with slot := u.sess.stagePtr }] ∧
      t.hosts.framesIn = inc32 u.hosts.framesIn ∧
      ∃ k, childOf t child = some { x with lastSeenTai := u.tai, cipherIn := w32 (x.cipherIn + 1), conn := k }) ∧
  (∀ (child t1 : Nat) (n : ChildConn), Completes (fun dt => .timeReq dt child t1) (fun u => (childOf u child).bind (·.conn) = some n ∧
    uplinkRuns u = true)
    fun u t => t.upl.dnOut = u.upl.dnOut ++ [(child, n.sendSeq, .timeResp t1 u.tai u.tai (utcOffset u).1 u.mains.anchored (leapFlags
      u).1 (leapFlags u).2)]) ∧
  (∀ (child tag outcome : Nat) (n : ChildConn), Completes (fun dt => .downResult dt child tag outcome) (fun u => (childOf u child).bind
    (·.conn) = some n ∧ uplinkRuns u = true)
    fun u t => t.upl.downSeen = u.upl.downSeen ++ [(child, tag, outcome)]) ∧
  (∀ (child : Nat) (n : ChildConn), Completes (fun dt => .connectionTimeout dt (some child)) (fun u => uplinkRuns u = true ∧
    (childOf u child).bind (·.conn) = some n ∧ n.lastRx + ofS 30 ≤ u.rc)
    fun u t => (childOf t child).bind (·.conn) = none ∧ Only [.upl] u t) ∧
  (∀ (child : Nat) (n : ChildConn), Completes (fun dt => .keepaliveSend dt (some child)) (fun u => uplinkRuns u = true ∧
    (childOf u child).bind (·.conn) = some n ∧ n.lastTx + ofS 10 ≤ u.rc)
    fun u t => t.upl.dnOut = u.upl.dnOut ++ [(child, n.sendSeq, .keepalive)]) ∧
  (Reads (fun dt h => .uplStatus dt h) 0x0B01 48 (fun _ _ _ => True)
    fun _ _ u p => Shows p 0 8 u.upl.acked ∧ Shows p 8 8 (nextPosLocal u) ∧ Shows p 16 4 (min 0xFFFFFFFF (pathBound u)) ∧
      Shows p 20 4 u.upl.overBound ∧ Shows p 24 4 u.upl.resent ∧ Shows p 28 4 u.upl.skips ∧ Shows p 32 4 u.upl.reconnects ∧
      Shows p 36 4 u.upl.downSent ∧ Shows p 40 4 u.upl.downFailed) ∧
  (∀ (x : Child), Reads (fun dt h => .childRead dt h) 0x0B02 48 (fun _ tk u => childOf u (fld tk.payload 0 2) = some x)
    fun _ tk _ p => Shows p 0 2 (fld tk.payload 0 2) ∧ Shows p 2 1 (if !x.enabled then 3 else if x.conn.isSome then 2 else 1) ∧
      Shows p 8 8 x.nextPos ∧ Shows p 16 8 x.lastSeenTai ∧ Shows p 24 4 x.recordsIn ∧ Shows p 28 4 x.cipherIn ∧
      Shows p 32 4 x.overBound ∧ Shows p 36 4 x.boundUs) ∧
  (Serves (fun dt h => .childRead dt h) 0x0B02 (fun _ tk u => childOf u (fld tk.payload 0 2) = none)
    fun _ _ u t r => t = u ∧ r = answer .badarg) ∧
  (Serves (fun dt h => .childSet dt h) 0x0B03 (fun _ tk u => mayHaveChildren u = true ∧ fld tk.payload 0 2 ≤ 4095 ∧
    fld tk.payload 0 2 ≠ u.cfg.act.unitId ∧ fld tk.payload 2 1 = 1 ∧ childOf u (fld tk.payload 0 2) = none ∧
    ∀ k ∈ u.upl.children, k.1 ≠ fld tk.payload 0 2 → k.2.idHash ≠ fld tk.payload 8 32)
    fun _ tk u t r => r = answer .ok ∧ t = u.onUpl fun x =>
      { x with children := tput x.children (fld tk.payload 0 2) { enabled := true, idHash := fld tk.payload 8 32 } }) ∧
  (Serves (fun dt h => .childSet dt h) 0x0B03 (fun _ _ u => mayHaveChildren u = false)
    fun _ _ u t r => t = u ∧ r = answer .locked)

/-- Fleet work in time: responses, recomputed and activated pushes, checkpoints, tokens, and the rounds of a campaign (R577, R579, R583,
  R588, R589, R596, R597, R603, R605, R606, R607). -/
def Obligations.FleetWork : Prop :=
  (∀ (m inv : Nat) (ok : Bool) (data : List Nat) (rest : List (Nat × Nat × Bool × List Nat)) (o : OpenReq) (a tid cs : Nat), Completes
    (fun dt => .fleetResponse dt) (fun u => fleetOn u = true ∧ uplinkRuns u = true ∧ u.sess.fleetIn = (m, inv, ok, data) :: rest ∧
    u.fleet.reqs.find? (fun o => o.meter == m && o.invoke == inv) = some o ∧ o.req = .token a tid cs)
    fun u t => t = fleetPump (endToken o.meter a tid cs (if ok then 1 else 2) (closeReq o (u.onSess fun b =>
      { b with fleetIn := rest })))) ∧
  (∀ (c tag outcome : Nat) (rest : List (Nat × Nat × Nat)) (o : OpenReq), Completes (fun dt => .fleetResponse dt) (fun u => fleetOn
    u = true ∧ uplinkRuns u = true ∧ u.sess.fleetIn = [] ∧ u.link.results = [] ∧ u.upl.downSeen = (c, tag, outcome) :: rest ∧
    reqByRef u tag = some o ∧ outcome ≠ 0)
    fun u t => t = fleetPump (attemptFailed o (closeReq o (u.onUpl fun x => { x with downSeen := rest })))) ∧
  (∀ (id : Nat) (p : Push), Completes (fun dt => .pushRecompute dt) (fun u => fleetOn u = true ∧ uplinkRuns u = true ∧
    u.fleet.pushes = [(id, p)])
    fun u t => t = fleetPump (recomputePush id p u)) ∧
  (∀ (id : Nat) (p : Push), Completes (fun dt => .pushActivate dt) (fun u => fleetOn u = true ∧ uplinkRuns u = true ∧
    u.fleet.pushes = [(id, p)] ∧ p.passed = false ∧ p.actKey ≤ cycleStart u ∧ pushMembers u id = [])
    fun u t => t = fleetPump ((List.range 16).foldl (fun s n => checkPush n s) (onPush id (fun p =>
      { p with passed := true, again := [] }) u))) ∧
  (∀ (q : Nat) (w : State), Completes (fun dt => .fleetCheckpoint dt) (fun u => fleetOn u = true ∧ uplinkRuns u = true ∧
    archWorks u = true ∧ u.fleet.ckptKey + 3000 * mc ≤ u.key ∧
    writeSystem definitionsPage (.fleet { pushes := u.fleet.pushes, camps := u.fleet.camps }) (syncLedger u) = some (q, w))
    fun _ t => t = fleetPump (w.onFleet fun b => { b with ckptKey := w.key })) ∧
  (∀ (j : TokenJob) (rest : List TokenJob) (e : LedgerEnt), Completes (fun dt => .tokenDeliver dt) (fun u => fleetOn u = true ∧
    uplinkRuns u = true ∧ archWorks u = true ∧ u.fleet.tokens = j :: rest ∧ j.ready = false ∧
    ledgerEntry (accountOf u j.account) j.tid j.cs = some e ∧ entryDurable u j.account e = true ∧
    (holdsForYoke u = false ∨ j.jseq ≤ u.pair.ackedJseq))
    fun u t => t = fleetPump (u.onFleet fun b =>
      { b with tokens := b.tokens.map fun x => if x = j then { x with ready := true } else x })) ∧
  (∀ (n : Nat) (p : Camp), Completes (fun dt => .campaignRoundStart dt) (fun u => fleetSends u = true ∧ u.fleet.camps = [(n, p)] ∧
    roundDue u n p = true)
    fun u t => t = fleetPump (wakeAll (roundKey u) (onCamp n (fun q =>
      { q with round := p.round + 1, blocks := some (unionOf u n p), unionN := (unionOf u n p).length, nextKey := roundKey u,
               read := [], noticed := true }) ((campMembers u n).foldl (fun s q => if q.2.campState = 2 then onCtx q.1 (fun c =>
      { c with campRound := p.round + 1 }) s else s) u)))) ∧
  (∀ (n : Nat) (p : Camp) (b c : Nat) (rest : List Nat), Completes (fun dt => .campaignBlockSend dt) (fun u => fleetSends u = true ∧
    fleetEntries u + 3 ≤ 128 ∧ blockDue u = some (n, p) ∧ p.blocks = some (b :: c :: rest))
    fun u t => t = fleetPump (onCamp n (fun q => { q with blocks := some (c :: rest), nextKey := max u.key q.nextKey + q.gapMc * mc })
      ((sendMulticast p n p.nextKey (fun m => m.campState == 2) false (fun ic => Config.multicastApdu p.keySlot ic 0 b (campBlock p b))
      u).onFleet fun x => { x with turn := n }))) ∧
  (∀ (n : Nat) (p : Camp) (z : State), Completes (fun dt => .campaignActivate dt) (fun u => fleetSends u = true ∧
    u.fleet.camps = [(n, p)] ∧ p.state = 3 ∧ p.actMode = 1 ∧ p.actSent = false ∧ p.act ≤ u.key + 2 * mc ∧
    slotUsable u p.keySlot = true ∧
    z = sendMulticast p n p.act (fun c => c.campState == 5) true (fun ic => Config.multicastApdu p.keySlot ic 1 0 []) u)
    fun _ t => t = fleetPump (onCamp n (fun q =>
      { q with actSent := true, sub := ((campMembers z n).filter fun m => m.2.campState == 5).foldl (fun l m => tput l m.1 1) q.sub })
      z))

/-- The FLEET commands (R586, R592, R594, R595, R596, R598, R601, R610, R613, R614, R617, R619). -/
def Obligations.FleetCommands : Prop :=
  (Serves (fun dt h => .pushCreate dt h) 0x0C01 (fun _ tk u => fleetOn u = true ∧ fld tk.payload 0 1 ≤ 15 ∧ fld tk.payload 1 1 = 0 ∧
    fld tk.payload 2 1 ≤ 1 ∧ 1 ≤ fld tk.payload 3 1 ∧ fld tk.payload 3 1 ≤ 16 ∧ 10 ≤ fld tk.payload 4 2 ∧ fld tk.payload 4 2 ≤ 60000 ∧
    1 ≤ fld tk.payload 6 2 ∧ fld tk.payload 6 2 ≤ 4032 ∧ tk.payload.length = 32 + fld tk.payload 6 2 ∧
    tableOk (tk.payload.drop 32) = true ∧ pushOf u (fld tk.payload 0 1) = none ∧ u.key + 3000 * mc ≤ fld tk.payload 8 8)
    fun _ tk u t r => r = okWith (leBytes 8 (fld tk.payload 8 8)) ∧ t = u.onFleet fun f =>
      { f with pushes := tput f.pushes (fld tk.payload 0 1) { actKey := fld tk.payload 8 8, late := fld tk.payload 2 1,
                                                              maxTries := fld tk.payload 3 1, resendMs := fld tk.payload 4 2,
                                                              hostref := fld tk.payload 16 4, table := tk.payload.drop 32,
                                                              lastCalc := u.key } }) ∧
  (∀ (p : Push) (res : State × Nat × Nat × Nat), Serves (fun dt h => .pushMember dt h) 0x0C02 (fun _ tk u => fleetOn u = true ∧
    pushOf u (fld tk.payload 0 1) = some p ∧ fld tk.payload 1 1 ≤ 2 ∧ memberForm tk.payload = true ∧
    res = eachMember (pushMemberOne (fld tk.payload 0 1) (fld tk.payload 1 1)) (memberList (tk.payload.drop 8) (fld tk.payload 2 2)) u)
    fun _ _ _ t r => t = fleetPump res.1 ∧ r = okWith (leBytes 2 res.2.1 ++ leBytes 2 res.2.2.1 ++ leBytes 4 res.2.2.2)) ∧
  (∀ (q : Push), Reads (fun dt h => .pushStatus dt h) 0x0C03 32 (fun _ tk u => fleetOn u = true ∧
    pushOf u (fld tk.payload 0 1) = some q)
    fun _ tk u p => Shows p 0 8 q.actKey ∧ Shows p 8 4 ((pushMembers u (fld tk.payload 0 1)).length + q.ended.length)) ∧
  (∀ (q : Push), Serves (fun dt h => .pushCancel dt h) 0x0C04 (fun _ tk u => fleetOn u = true ∧ pushOf u (fld tk.payload 0 1) = some q ∧
    pushMembers u (fld tk.payload 0 1) = [])
    fun _ tk u t r => r = answer .ok ∧ t = fleetPump (checkPush (fld tk.payload 0 1) (onPush (fld tk.payload 0 1) (fun p =>
      { p with cancelled := true, again := [] }) u))) ∧
  (∀ (c : MeterCtx), Serves (fun dt h => .tokenSend dt h) 0x0C10 (fun _ tk u => fleetOn u = true ∧
    ctxOf u (fld tk.payload 0 4) = some c ∧ c.account ≤ 1048575 ∧
    ((tk.payload.drop 16).take 20).all (fun d => 48 ≤ d.toNat && d.toNat ≤ 57) = true ∧ fld tk.payload 4 1 < 0x40 ∧
    fld tk.payload 8 4 < 0x1000000 ∧ fld tk.payload 5 1 = 0 ∧ c.tokenState ≠ 1 ∧
    tokenUsed (accountOf u c.account) (fld tk.payload 8 4) (fld tk.payload 4 1) = true)
    fun _ _ u t r => t = u ∧ r.status = .stale) ∧
  (∀ (c : MeterCtx), Serves (fun dt h => .tokenSend dt h) 0x0C10 (fun _ tk u => fleetOn u = true ∧
    ctxOf u (fld tk.payload 0 4) = some c ∧ c.account ≤ 1048575 ∧
    ((tk.payload.drop 16).take 20).all (fun d => 48 ≤ d.toNat && d.toNat ≤ 57) = true ∧ fld tk.payload 4 1 < 0x40 ∧
    fld tk.payload 8 4 < 0x1000000 ∧ fld tk.payload 5 1 = 0 ∧ c.tokenState ≠ 1 ∧
    tokenUsed (accountOf u c.account) (fld tk.payload 8 4) (fld tk.payload 4 1) = false)
    fun _ tk u t r => r = okWith (leBytes 8 0) ∧ t = queueToken (fld tk.payload 0 4) c.account (fld tk.payload 8 4) (fld tk.payload 4 1)
      (fld tk.payload 12 4) ((tk.payload.drop 16).take 20) true u) ∧
  (∀ (c : MeterCtx), Serves (fun dt h => .ledgerNote dt h) 0x0C11 (fun _ tk u => fleetOn u = true ∧ fld tk.payload 0 4 ≤ 1048575 ∧
    fld tk.payload 4 4 < 0x1000000 ∧ fld tk.payload 8 1 < 0x40 ∧ ctxOf u (fld tk.payload 12 4) = some c ∧
    tokenUsed (accountOf u (fld tk.payload 0 4)) (fld tk.payload 4 4) (fld tk.payload 8 1) = false ∧
    (accountOf u (fld tk.payload 0 4)).entries.length < 31)
    fun _ tk u t r => r = answer .ok ∧ accountOf t (fld tk.payload 0 4) =
      { accountOf u (fld tk.payload 0 4) with entries := (accountOf u (fld tk.payload 0 4)).entries ++ [{ tid := fld tk.payload 4 4,
                                                                                                          cs := fld tk.payload 8 1,
                                                                                                          state := 4,
                                                                                                          meter := fld tk.payload 12 4 %
                                                                                                            0x1000000 }] }) ∧
  (∀ (c : MeterCtx), Serves (fun dt h => .ledgerNote dt h) 0x0C11 (fun _ tk u => fleetOn u = true ∧ fld tk.payload 0 4 ≤ 1048575 ∧
    fld tk.payload 4 4 < 0x1000000 ∧ fld tk.payload 8 1 < 0x40 ∧ ctxOf u (fld tk.payload 12 4) = some c ∧
    tokenUsed (accountOf u (fld tk.payload 0 4)) (fld tk.payload 4 4) (fld tk.payload 8 1) = true)
    fun _ _ u t r => t = u ∧ r = answer .stale) ∧
  (Reads (fun dt h => .ledgerRead dt h) 0x0C12 256 (fun _ tk u => fleetOn u = true ∧ fld tk.payload 0 4 ≤ 1048575)
    fun _ tk u p => Shows p 0 3 (accountOf u (fld tk.payload 0 4)).floorTid ∧ p = accountBytes (accountOf u (fld tk.payload 0 4))) ∧
  (∀ (c : MeterCtx), Serves (fun dt h => .fleetMeterSet dt h) 0x0C13 (fun _ tk u => fleetOn u = true ∧
    ctxOf u (fld tk.payload 0 4) = some c ∧ (fld tk.payload 4 4 ≤ 1048575 ∨ fld tk.payload 4 4 = 0xFFFFFFFF))
    fun _ tk u t r => r = answer .ok ∧ ctxOf t (fld tk.payload 0 4) = some { c with account := fld tk.payload 4 4 } ∧
      ∀ m, m ≠ fld tk.payload 0 4 → ctxOf t m = ctxOf u m) ∧
  (Serves (fun dt h => .campCreate dt h) 0x0C20 (fun _ tk u => fleetOn u = true ∧ fld tk.payload 0 1 ≤ 7 ∧ fld tk.payload 1 1 ≤ 1 ∧
    128 ≤ fld tk.payload 2 2 ∧ fld tk.payload 2 2 ≤ 1024 ∧ 1 ≤ fld tk.payload 4 4 ∧ fld tk.payload 4 4 ≤ 2097152 ∧
    1 ≤ fld tk.payload 13 1 ∧ fld tk.payload 13 1 ≤ 16 ∧ fld tk.payload 14 2 ≤ 256 ∧ 1 ≤ fld tk.payload 16 2 ∧
    fld tk.payload 18 2 ≤ 1439 ∧ fld tk.payload 20 2 ≤ 1440 ∧ 1 ≤ fld tk.payload 22 1 ∧ fld tk.payload 22 1 ≤ 16 ∧
    1 ≤ fld tk.payload 64 1 ∧ fld tk.payload 64 1 ≤ 31 ∧ campOf u (fld tk.payload 0 1) = none)
    fun _ tk _ t r => r = answer .ok ∧ ∃ p, campOf t (fld tk.payload 0 1) = some p ∧ p.state = 1 ∧ p.actMode = fld tk.payload 1 1 ∧
      p.blockSize = fld tk.payload 2 2 ∧ p.imageSize = fld tk.payload 4 4 ∧ p.keySlot = fld tk.payload 12 1 ∧
      p.maxRounds = fld tk.payload 13 1 ∧ p.gapMc = fld tk.payload 16 2 ∧ p.act = fld tk.payload 24 8 ∧
      p.digest = fld tk.payload 32 32 ∧ p.pieces = []) ∧
  (∀ (p : Camp) (piece : List Byte), Serves (fun dt h => .campLoad dt h) 0x0C21 (fun _ tk u => fleetOn u = true ∧
    campOf u (fld tk.payload 0 1) = some p ∧ p.state = 1 ∧ p.pieces = [] ∧ fld tk.payload 4 4 = 0 ∧ piece = tk.payload.drop 8 ∧
    piece ≠ [] ∧ piece.length ≤ 1000 ∧ p.imageSize = piece.length ∧ Config.sha256 piece = p.digest)
    fun _ tk _ t r => r = okWith (leBytes 4 piece.length ++ leBytes 1 2 ++ leBytes 3 0) ∧
      campOf t (fld tk.payload 0 1) = some { p with state := 2, pieces := [(0, piece)] }) ∧
  (∀ (p : Camp) (piece : List Byte), Serves (fun dt h => .campLoad dt h) 0x0C21 (fun _ tk u => fleetOn u = true ∧
    campOf u (fld tk.payload 0 1) = some p ∧ p.state = 1 ∧ p.pieces = [] ∧ fld tk.payload 4 4 = 0 ∧ piece = tk.payload.drop 8 ∧
    piece ≠ [] ∧ piece.length ≤ 1000 ∧ p.imageSize = piece.length ∧ Config.sha256 piece ≠ p.digest)
    fun _ tk _ t r => r = okWith (leBytes 4 0 ++ leBytes 1 1 ++ leBytes 3 0) ∧
      campOf t (fld tk.payload 0 1) = some { p with pieces := [] }) ∧
  (∀ (p : Camp) (l : List Nat) (res : State × Nat × Nat × Nat), Serves (fun dt h => .campMember dt h) 0x0C22 (fun _ tk u => fleetOn
    u = true ∧ campOf u (fld tk.payload 0 1) = some p ∧ fld tk.payload 1 1 ≤ 2 ∧ memberForm tk.payload = true ∧
    l = memberList (tk.payload.drop 8) (fld tk.payload 2 2) ∧
    res = eachMember (campMemberOne (fld tk.payload 0 1) (fld tk.payload 1 1)) l u)
    fun _ tk u t r => t = fleetPump (countNoRoom (fld tk.payload 0 1) (fld tk.payload 1 1) l u res.1) ∧
      r = okWith (leBytes 2 res.2.1 ++ leBytes 2 res.2.2.1 ++ leBytes 4 res.2.2.2)) ∧
  (∀ (p : Camp), Serves (fun dt h => .campStart dt h) 0x0C23 (fun _ tk u => fleetOn u = true ∧ campOf u (fld tk.payload 0 1) = some p ∧
    p.state = 2 ∧ (p.actMode ≠ 1 ∨ u.key + 3000 * mc ≤ p.act))
    fun _ tk u t r => r = answer .ok ∧ t = fleetPump (onCamp (fld tk.payload 0 1) (fun p => { p with state := 3, endKey := u.key }) u)) ∧
  (∀ (c : Camp), Reads (fun dt h => .campStatus dt h) 0x0C24 48 (fun _ tk u => fleetOn u = true ∧ fld tk.payload 0 1 ≤ 7 ∧
    campOf u (fld tk.payload 0 1) = some c)
    fun _ tk u p => Shows p 0 1 c.state ∧ Shows p 1 1 c.round ∧ Shows p 4 4 c.uid ∧ Shows p 8 2 (campBlocksN c) ∧
      Shows p 12 4 (loadedBytes c) ∧ Shows p 16 4 ((campMembers u (fld tk.payload 0 1)).length + c.ended.length)) ∧
  (Reads (fun dt h => .campStatus dt h) 0x0C24 48 (fun _ tk u => fleetOn u = true ∧ fld tk.payload 0 1 ≤ 7 ∧
    campOf u (fld tk.payload 0 1) = none)
    fun _ _ _ p => p = List.replicate 48 0) ∧
  (∀ (p : Camp), Serves (fun dt h => .campCancel dt h) 0x0C25 (fun _ tk u => fleetOn u = true ∧ campOf u (fld tk.payload 0 1) = some p ∧
    campMembers u (fld tk.payload 0 1) = [])
    fun _ tk u t r => r = answer .ok ∧ campOf t (fld tk.payload 0 1) = none ∧ t.sess = u.sess) ∧
  (Serves (fun dt h => .ledgerRead dt h) 0x0C12 (fun _ _ u => fleetOn u = false)
    fun _ _ u t r => t = u ∧ r = answer .locked)

/-- Doorbells, the taking of commands, responses, leases and hosts that go offline (R624, R633, R635, R637, R640, R647, R649, R652, R653,
  R654, R655). -/
def Obligations.MailboxesAndLeases : Prop :=
  (∀ (host : Fin 4) (hdr : CmdHeader) (payload : List Byte), Completes (fun dt => .doorbellCmd dt host hdr payload) (fun u =>
    u.pwr.aonOn = true ∧ (u.host host).port ≠ 0 ∧ cmdFree u (u.host host) = true)
    fun u t => (t.host host).box = some (hdr, payload) ∧ (t.host host).boxTick = u.rc / ofUs 1 ∧ (t.host host).online = true ∧
      ∀ k, k ≠ host → t.host k = u.host k) ∧
  (∀ (host : Fin 4) (hdr : CmdHeader) (payload : List Byte), Completes (fun dt => .doorbellCmd dt host hdr payload) (fun u =>
    u.pwr.aonOn = true ∧ (u.host host).port ≠ 0 ∧ cmdFree u (u.host host) = false)
    fun u t => t = ringBell host (u.setHost host { u.host host with online := true })) ∧
  (Completes (fun dt => .commandTake dt) (fun u => ∀ k : Fin 4, (u.host k).box = none)
    fun u t => t = u) ∧
  (∀ (h : Fin 4) (hdr : CmdHeader) (payload : List Byte) (tk : Taken), Completes (fun dt => .commandTake dt) (fun u => taking u = true ∧
    u.hosts.dispatchQ = [] ∧ (u.host h).box = some (hdr, payload) ∧ (∀ k : Fin 4, k ≠ h → (u.host k).box = none) ∧
    ofUs ((u.host h).boxTick + 1) ≤ u.rc ∧ checkBox u h hdr payload = .pass tk ∧ leaseBar u h tk = none ∧ resourceHeld u tk = false ∧
    (u.host h).precedence ≤ 7)
    fun u t => t.hosts.dispatchQ = [(h.val, tk)] ∧ (t.host h).box = none ∧ (t.host h).lastSeq = some hdr.seq ∧
      (t.host h).cmds = inc32 (u.host h).cmds) ∧
  (∀ (host : Fin 4) (x : Response), Completes (fun dt => .respAck dt host) (fun u => u.pwr.aonOn = true ∧ (u.host host).port ≠ 0 ∧
    (u.host host).resp = some x ∧ (u.host host).respQ = [])
    fun _ t => (t.host host).resp = none ∧ (t.host host).respQ = []) ∧
  (∀ (host : Fin 4) (x y : Response) (rest : List Response), Completes (fun dt => .respAck dt host) (fun u => u.pwr.aonOn = true ∧
    (u.host host).port ≠ 0 ∧ (u.host host).resp = some x ∧ (u.host host).respQ = y :: rest)
    fun _ t => (t.host host).resp = some y ∧ (t.host host).respQ = rest) ∧
  (∀ (host : Fin 4), Completes (fun dt => .detach dt host) (fun u => u.pwr.aonOn = true ∧ (u.host host).port ≠ 0)
    fun _ t => (t.host host).online = false ∧ (t.host host).respQ = [] ∧ (t.host host).lastSeq = none ∧ (t.host host).lastResp = none ∧
      (t.host host).tolUs = none ∧ (t.host host).heldNotices = []) ∧
  (∀ (host : Fin 4), Completes (fun dt => .hostOffline dt host) (fun u => u.pwr.aonOn = true ∧ 1 ≤ (u.host host).port ∧
    (u.host host).port ≤ 4)
    fun _ t => (t.host host).online = false ∧ (t.host host).respQ = [] ∧ (t.host host).lastSeq = none ∧ (t.host host).lastResp = none ∧
      (t.host host).tolUs = none ∧ (t.host host).heldNotices = []) ∧
  (∀ (h : Fin 4) (l : Lease), Completes (fun dt => .leaseExpire dt) (fun u => (u.host h).leases = [l] ∧ l.endRc ≤ u.rc ∧
    ∀ k : Fin 4, k ≠ h → (u.host k).leases = [])
    fun u t => (t.host h).leases = [] ∧ (t.host h).irq = (u.host h).irq ||| 0x08 ∧ ∀ k : Fin 4, k ≠ h → t.host k = u.host k) ∧
  (Completes (fun dt => .leaseExpire dt) (fun u => ∀ k : Fin 4, ∀ l ∈ (u.host k).leases, u.rc < l.endRc)
    fun u t => t = u) ∧
  (Serves (fun dt h => .leaseTake dt h) 0x0110 (fun h tk u => 10 ≤ fld tk.payload 0 4 ∧ fld tk.payload 0 4 ≤ 3600000 ∧
    fld tk.payload 4 1 = 0 ∧ leasable tk.claim = true ∧
    otherLease u h (fun l => leaseCovers l tk.claim || leaseCovers tk.claim l) = none ∧
    (liveLeases u h).find? (fun l => l.claim == tk.claim) = none ∧ (liveLeases u h).length < 64)
    fun h tk u t r => r = okWith (leBytes 4 (fld tk.payload 0 4) ++ [0, 0, 0, 0]) ∧ t = u.setHost h
      { u.host h with leases := ((u.host h).leases.filter fun l => l.claim != tk.claim) ++ [{ claim := tk.claim, endRc := u.rc + ofMs
                                                                                                (fld tk.payload 0 4), tag := tk.tag }]
                        }) ∧
  (∀ (k : Fin 4) (l : Lease), Serves (fun dt h => .leaseTake dt h) 0x0110 (fun h tk u => 10 ≤ fld tk.payload 0 4 ∧
    fld tk.payload 0 4 ≤ 3600000 ∧ fld tk.payload 4 1 = 0 ∧ leasable tk.claim = true ∧
    otherLease u h (fun l => leaseCovers l tk.claim || leaseCovers tk.claim l) = some (k, l))
    fun _ _ u t r => t = u ∧ r.status = .conflict ∧ r.detail = w16 l.tag + 65536 * k.val + 0x1000000) ∧
  (Serves (fun dt h => .leaseRelease dt h) 0x0111 (fun h tk u => ∃ l ∈ liveLeases u h, l.claim = tk.claim)
    fun h tk u t r => r = answer .ok ∧
      t = u.setHost h { u.host h with leases := (u.host h).leases.filter fun l => l.claim != tk.claim }) ∧
  (Serves (fun dt h => .leaseRelease dt h) 0x0111 (fun h tk u => ∀ l ∈ liveLeases u h, l.claim ≠ tk.claim)
    fun _ _ u t r => t = u ∧ r = answer .badarg) ∧
  (Reads (fun dt h => .leaseRead dt h) 0x0112 520 (fun _ _ _ => True)
    fun h _ u p => Shows p 0 1 ((liveLeases u h).take 64).length) ∧
  (Reads (fun dt h => .sysInfo dt h) 0x0101 32 (fun _ _ _ => True)
    fun h _ u p => Shows p 0 4 (release u) ∧ Shows p 4 1 (roleCode u.cfg.startCfg.role) ∧
      Shows p 6 1 (lifecycleCode u.pocket.lifecycle) ∧ Shows p 8 2 u.cfg.startCfg.unitId ∧ Shows p 10 1 h.val ∧
      Shows p 11 1 (u.host h).precedence ∧ Shows p 16 4 u.fab.dramMib ∧ Shows p 28 2 (bit (u.host h).timeAuth + 2 * bit (testRoot u)))

/-- Host rings and register accesses (R623, R627, R629, R630, R632, R633, R657, R658, R660). -/
def Obligations.RingsAndRegisters : Prop :=
  (∀ (host : Fin 4) (ordinal prod n : Nat) (items : List (List Byte)) (r : RingSt), Completes (fun dt => .ringProdWrite dt host ordinal
    prod items) (fun u => ringPageOn u = true ∧ (u.host host).port ≠ 0 ∧ (ringsOf u host.val)[ordinal]? = some r ∧ r.source = 4 ∧
    n = (prod + 0x100000000 - r.prod) % 0x100000000 ∧ n < 0x80000000 ∧ ringFill r + n ≤ r.depth)
    fun u t => t = setRing
      { r with prod := w32 prod, items := r.items ++ (List.range n).map fun i => ((items.getD i []) ++ List.replicate r.slot 0).take
                 r.slot } (u.setHost host { u.host host with online := true })) ∧
  (∀ (host : Fin 4) (ordinal prod n : Nat) (items : List (List Byte)) (r : RingSt), Completes (fun dt => .ringProdWrite dt host ordinal
    prod items) (fun u => ringPageOn u = true ∧ (u.host host).port ≠ 0 ∧ (ringsOf u host.val)[ordinal]? = some r ∧ r.source = 4 ∧
    n = (prod + 0x100000000 - r.prod) % 0x100000000 ∧ (0x80000000 ≤ n ∨ r.depth < ringFill r + n))
    fun u t => t = setRing { r with stat := r.stat ||| 1 } (u.setHost host { u.host host with online := true })) ∧
  (∀ (host : Fin 4) (ordinal cons n : Nat) (r : RingSt), Completes (fun dt => .ringConsWrite dt host ordinal cons) (fun u => ringPageOn
    u = true ∧ (u.host host).port ≠ 0 ∧ (ringsOf u host.val)[ordinal]? = some r ∧ r.source ≠ 4 ∧
    n = (cons + 0x100000000 - r.cons) % 0x100000000 ∧ n ≤ ringFill r ∧ (u.host host).heldNotices = [])
    fun u t => t.hosts.rings = (setRing { r with cons := w32 cons, items := r.items.drop n } u).hosts.rings ∧
      (t.host host).heldNotices = [] ∧ (t.host host).online = true) ∧
  (∀ (host : Fin 4) (ordinal cons : Nat) (r : RingSt), Completes (fun dt => .ringConsWrite dt host ordinal cons) (fun u => ringPageOn
    u = true ∧ (u.host host).port ≠ 0 ∧ (ringsOf u host.val)[ordinal]? = some r ∧ r.source ≠ 4 ∧
    ringFill r < (cons + 0x100000000 - r.cons) % 0x100000000)
    fun u t => t = setRing { r with stat := r.stat ||| 1 } (u.setHost host { u.host host with online := true })) ∧
  (∀ (cs : Fin 2) (off : Nat), Completes (fun dt => .collarHalfwordRead dt cs off) (fun u => u.pwr.aonOn = true ∧
    ∀ h : Fin 4, (u.host h).port ≠ 5 + cs.val)
    fun u t => t = u.onHosts fun b => { b with hlbRead := b.hlbRead.set cs.val (sharedWord u off 0) }) ∧
  (∀ (cs : Fin 2) (off : Nat) (h : Fin 4), Completes (fun dt => .collarHalfwordRead dt cs off) (fun u => u.pwr.aonOn = true ∧
    (List.finRange 4).find? (fun h => (u.host h).port == 5 + cs.val) = some h ∧ off ≠ 0x010 ∧ off ≠ 0x034)
    fun u t => t = (touchHost h u).onHosts fun b => { b with hlbRead := b.hlbRead.set cs.val (collarRead (touchHost h u) h off) }) ∧
  (∀ (host : Fin 4) (off : Nat) (value : Word) (cs : Fin 2), Completes (fun dt => .registerWrite dt host off (some false) value) (fun u
    => u.pwr.aonOn = true ∧ (u.host host).port = 5 + cs.val)
    fun u t => t = (u.setHost host { u.host host with online := true }).onHosts fun b =>
      { b with hlbWrite := b.hlbWrite.set cs.val (value.setWidth 16) }) ∧
  (∀ (host : Fin 4) (off : Nat) (value : Word) (cs : Fin 2), Completes (fun dt => .registerWrite dt host off (some true) value) (fun u
    => u.pwr.aonOn = true ∧ (u.host host).port = 5 + cs.val)
    fun u t => t = hostWrite host off (value.setWidth 16 ++ u.hosts.hlbWrite.getD cs.val 0) (u.setHost host
      { u.host host with online := true }))

/-- Key Update Messages, slots and attestation (R665, R676, R679, R685, R689, R690, R691, R692, R693). -/
def Obligations.KeyStore : Prop :=
  (Serves (fun dt h => .keyLoad dt h) 0x0D02 (fun h tk u => u.pocket.lifecycle ≠ .returned ∧ u.pocket.applying = none ∧
    (u.pocket.stagedOwner = none ∨ u.pocket.stagedOwner = some h.val) ∧ fld tk.payload 0 4 = 0 ∧ tk.payload.drop 8 ≠ [] ∧
    (tk.payload.drop 8).length ≤ 65536)
    fun h tk u t r => r = okWith (leBytes 4 (tk.payload.drop 8).length ++ leBytes 4 0) ∧
      t = u.onPocket fun k => { k with staged := tk.payload.drop 8, stagedOwner := some h.val }) ∧
  (Serves (fun dt h => .keyLoad dt h) 0x0D02 (fun h tk u => u.pocket.lifecycle ≠ .returned ∧ u.pocket.applying = none ∧
    (u.pocket.stagedOwner = none ∨ u.pocket.stagedOwner = some h.val) ∧ fld tk.payload 0 4 ≠ 0 ∧
    fld tk.payload 0 4 = u.pocket.staged.length ∧ tk.payload.drop 8 ≠ [] ∧ u.pocket.staged.length + (tk.payload.drop 8).length ≤ 65536)
    fun h tk u t r => r = okWith (leBytes 4 (u.pocket.staged ++ tk.payload.drop 8).length ++ leBytes 4 0) ∧
      t = u.onPocket fun k => { k with staged := k.staged ++ tk.payload.drop 8, stagedOwner := some h.val }) ∧
  (∀ (sigOk : Bool), Serves (fun dt h => .keyApply dt h sigOk) 0x0D03 (fun h tk u => u.pocket.lifecycle ≠ .returned ∧
    u.pocket.applying = none ∧ (u.pocket.stagedOwner = none ∨ u.pocket.stagedOwner = some h.val) ∧
    (fld tk.payload 0 4 ≠ u.pocket.staged.length ∨ kumForm u.pocket.staged = false))
    fun _ _ u t r => r.status = .badarg ∧ t = u.onPocket fun k => { k with staged := [], stagedOwner := none }) ∧
  (Serves (fun dt h => .keyApply dt h false) 0x0D03 (fun h tk u => u.pocket.lifecycle ≠ .returned ∧ u.pocket.applying = none ∧
    (u.pocket.stagedOwner = none ∨ u.pocket.stagedOwner = some h.val) ∧ fld tk.payload 0 4 = u.pocket.staged.length ∧
    kumForm u.pocket.staged = true)
    fun _ _ u t r => r.status = .denied ∧
      t.pocket = { u.pocket with staged := [], stagedOwner := none, kumRejects := inc32 u.pocket.kumRejects } ∧
      Logged .kumReject srcSup [] u t) ∧
  (∀ (kind : Nat) (body : List Byte) (lists : List (List Byte)), Serves (fun dt h => .keyApply dt h true) 0x0D03 (fun h tk u =>
    u.pocket.lifecycle ≠ .returned ∧ u.pocket.applying = none ∧ (u.pocket.stagedOwner = none ∨ u.pocket.stagedOwner = some h.val) ∧
    fld tk.payload 0 4 = u.pocket.staged.length ∧ kumForm u.pocket.staged = true ∧ fld u.pocket.staged 8 4 = 0x9100 ∧
    fld u.pocket.staged 16 32 = idHashNow u ∧ fld u.pocket.staged 3 1 = bit (testRoot u) ∧ kumCounter u < fld u.pocket.staged 12 4 ∧
    fld u.pocket.staged 48 8 = 0 ∧ fld u.pocket.staged 2 1 = kind ∧ kind ≠ 1 ∧ kumOpen u u.pocket.staged = some body ∧
    lists = kumEntries (kumEntrySize kind) (fld u.pocket.staged 4 2) body ∧ kumPermitted u kind (fld (lists.headD []) 0 1) = true ∧
    firstBad u kind 1 [] lists = 0 ∧ ((u.host h).openCmds.filter fun c => !c.dead).length < 16)
    fun h tk u t r => r = answer .pending ∧ t = u.onPocket fun p =>
      { p with applying := some { host := h.val, taken := tk, kind := kind, counter := fld p.staged 12 4, entries := lists,
                                  jseq := u.pair.jseq, waits := holdsForYoke u } }) ∧
  (∀ (a : Applying) (e : List Byte), Completes (fun dt => .keyApplyComplete dt) (fun u => u.pocket.applying = some a ∧
    supRuns u = true ∧ kumMirrored u a = true ∧ (a.waits = false ∨ holdsForYoke u = true) ∧ a.kind = 4 ∧ a.entries = [e])
    fun u t => t.pocket =
      { u.pocket with slots := tdel u.pocket.slots (fld e 0 2), applying := none, staged := [], stagedOwner := none, counter := if
                        testRoot u then u.pocket.counter else max u.pocket.counter a.counter, testCounter := if testRoot u then max
                        u.pocket.testCounter a.counter else u.pocket.testCounter }) ∧
  (Completes (fun dt => .keyApplyComplete dt) (fun u => u.pocket.applying = none)
    fun u t => t = u) ∧
  (Reads (fun dt h => .keyStatus dt h) 0x0D01 64 (fun _ _ _ => True)
    fun _ _ u p => Shows p 0 1 u.pocket.root ∧ Shows p 1 1 (lifecycleCode u.pocket.lifecycle) ∧ Shows p 2 1 (bit u.pocket.unlockNext) ∧
      Shows p 4 4 u.pocket.counter ∧ Shows p 8 4 u.pocket.testCounter ∧ Shows p 16 2 (usableSlots u) ∧
      Shows p 20 4 u.pocket.kumRejects ∧ Shows p 24 4 u.pocket.unwrapFails ∧ Shows p 32 32 (idHashNow u)) ∧
  (Reads (fun dt h => .slotRead dt h) 0x0D04 128 (fun _ tk _ => fld tk.payload 0 2 ≤ 255 ∧
    (fld tk.payload 0 2 ≤ 5 ∨ 16 ≤ fld tk.payload 0 2))
    fun _ tk u p => Shows p 0 1 ((keySlot u (fld tk.payload 0 2)).getD {}).type ∧
      Shows p 2 2 ((keySlot u (fld tk.payload 0 2)).getD {}).usage ∧ Shows p 4 4 ((keySlot u (fld tk.payload 0 2)).getD {}).version ∧
      Shows p 24 1 (slotState u (fld tk.payload 0 2))) ∧
  (Serves (fun dt h => .slotRead dt h) 0x0D04 (fun _ tk _ => (255 < fld tk.payload 0 2 ∨ 6 ≤ fld tk.payload 0 2 ∧
    fld tk.payload 0 2 ≤ 15))
    fun _ _ u t r => t = u ∧ r = answer .badarg) ∧
  (Serves (fun dt h => .attest dt h) 0x0D05 (fun h tk u => (fld tk.payload 0 2 = 0xFFFF ∨ fld tk.payload 0 2 = 0) ∧
    ((u.host h).openCmds.filter fun c => !c.dead).length < 16)
    fun h tk u t r => r = answer .pending ∧ t = u.onPocket fun k => { k with attests := k.attests ++ [{ host := h.val, taken := tk }] }) ∧
  (∀ (a : Attest) (rest : List Attest) (b sig : List Byte) (z : State), Completes (fun dt => .attestComplete dt) (fun u =>
    u.pocket.attests = a :: rest ∧ supRuns u = true ∧ b = statement u (fld a.taken.payload 0 2) ((a.taken.payload.drop 8).take 32) ∧
    signBytes (slotPublic u 0 ((keySlot u 0).getD {})) 96 b u = (sig, z))
    fun u t => t.pocket = { u.pocket with attests := rest } ∧
      t = finishAt a.host a.taken (okWith (b ++ sig)) (z.onPocket fun k => { k with attests := rest }))

/-- Firmware staging and the recovery ROM (R700, R707, R708, R711, R712, R713, R717, R718, R719, R720, R721, R722). -/
def Obligations.FirmwareUpdate : Prop :=
  (∀ (hd : List Byte), Serves (fun dt h => .fwuBegin dt h none) 0x0E02 (fun h tk u => u.fwu.job = none ∧ othersStaging u h.val = false ∧
    hd = (tk.payload.drop 8).take 256 ∧ fld tk.payload 0 1 = 0 ∧ imgForm hd = true ∧ imgBinding u hd = true ∧ u.fwu.floor ≤ imgSvn hd ∧
    imgSize hd ≤ slotBytes u ∧ isDelta hd = false ∧ ((u.host h).openCmds.filter fun c => !c.dead).length < 16)
    fun h tk u t r => r = answer .pending ∧ t = u.onFwu fun f =>
      { f with staging := 1, header := hd, pieces := [], owner := some h.val, copying := none, stagedDigest := 0, job := some
                 { host := h.val, taken := tk } }) ∧
  (∀ (piece : List Byte), Serves (fun dt h => .fwuLoad dt h none) 0x0E03 (fun h tk u => u.fwu.job = none ∧
    othersStaging u h.val = false ∧ u.fwu.staging = 1 ∧ piece = tk.payload.drop 8 ∧ piece ≠ [] ∧ piece.length ≤ 1024 ∧
    fld tk.payload 0 4 % 1024 = 0 ∧ (piece.length = 1024 ∧
    fld tk.payload 0 4 + piece.length ≤ imgSize u.fwu.header ∨ fld tk.payload 0 4 + piece.length = imgSize u.fwu.header) ∧
    tfind u.fwu.pieces (fld tk.payload 0 4 / 1024) = none)
    fun _ tk u t r => r = okWith (leBytes 4 t.fwu.pieces.length ++ leBytes 4 0) ∧
      t = u.onFwu fun f => { f with pieces := tput f.pieces (fld tk.payload 0 4 / 1024) piece }) ∧
  (Serves (fun dt h => .fwuFinish dt h none) 0x0E04 (fun h _ u => u.fwu.job = none ∧ othersStaging u h.val = false ∧ u.fwu.staging = 1 ∧
    granules u ≤ u.fwu.pieces.length ∧ ((u.host h).openCmds.filter fun c => !c.dead).length < 16)
    fun h tk u t r => r = answer .pending ∧ t = u.onFwu fun f =>
      { f with staging := 2, job := some { host := h.val, taken := tk, finish := true, restartKey := fld tk.payload 0 8 } }) ∧
  (Serves (fun dt h => .fwuFloor dt h) 0x0E06 (fun _ tk u => fld tk.payload 0 1 ≤ imgSvn u.fwu.active ∧ fld tk.payload 0 1 ≤ 63 ∧
    fld tk.payload 4 4 = 0x464C4F52 ∧ u.fwu.confirmed = true ∧ u.fwu.floor < fld tk.payload 0 1)
    fun _ tk u t r => r = okWith (leBytes 1 (fld tk.payload 0 1) ++ leBytes 1 (63 - fld tk.payload 0 1) ++ leBytes 6 0) ∧
      t = u.onFwu fun f => { f with floor := fld tk.payload 0 1 }) ∧
  (Reads (fun dt h => .fwuStatus dt h) 0x0E01 96 (fun _ _ _ => True)
    fun _ _ u p => Shows p 0 4 (release u) ∧ Shows p 8 1 (imgSvn u.fwu.active) ∧ Shows p 11 1 u.fwu.staging ∧ Shows p 12 1 u.fwu.floor ∧
      Shows p 13 1 u.fwu.bootFails ∧ Shows p 14 1 u.fwu.reason ∧ Shows p 16 4 u.fwu.pieces.length ∧ Shows p 20 4 (granules u) ∧
      Shows p 24 32 (activeDigest u) ∧ Shows p 56 32 u.fwu.stagedDigest) ∧
  (∀ (j : FwuJob), Completes (fun dt => .fwuBeginComplete dt) (fun u => fwuRuns u = true ∧ u.fwu.job = some j ∧ j.finish = false)
    fun u t => t = fwuEnd j (okWith (leBytes 4 u.fwu.pieces.length ++ leBytes 4 (granules u))) u ∧ t.fwu.job = none ∧
      t.fwu.staging = u.fwu.staging) ∧
  (∀ (sigOk resOk : Bool) (j : FwuJob) (v : Status), Completes (fun dt => .fwuFinishComplete dt sigOk resOk) (fun u => fwuRuns
    u = true ∧ u.fwu.job = some j ∧ j.finish = true ∧ u.fwu.staging = 2 ∧ finishVerdict u sigOk = v ∧ v ≠ .ok)
    fun u t => t = fwuEnd j (answer v) (u.onFwu fun f => { f with staging := 5 }) ∧ t.fwu.staging = 5 ∧ t.fwu.job = none) ∧
  (∀ (sigOk resOk : Bool) (j : FwuJob), Completes (fun dt => .fwuFinishComplete dt sigOk resOk) (fun u => u.pwr.stage = .running ∧
    supRuns u = true ∧ u.fwu.job = some j ∧ j.finish = true ∧ j.restartKey = 0 ∧ u.fwu.staging = 2 ∧ finishVerdict u sigOk = .ok)
    fun u t => t.fwu.staging = 3 ∧ t.fwu.job = none ∧ t.fwu.stagedDigest = Config.sha256 (stagedBytes u) ∧ t.fwu.header = u.fwu.header) ∧
  (∀ (source n : Nat) (hdr : CmdHeader) (payload : List Byte), Completes (fun dt => .recoveryFrame dt source false hdr payload) (fun u
    => u.pwr.stage = .recovery ∧ u.pwr.hemFlag = false ∧ hdr.length ≤ 4080 ∧ hdr.flags ≤ 1 ∧ romCommand hdr.opcode = false ∧
    source ∈ u.fwu.sources ∧ n = u.fwu.sources.findIdx (· == source))
    fun u t => t = answerOther (17 + n) (takenOf hdr payload) (answer .locked) u) ∧
  (∀ (source n : Nat) (hdr : CmdHeader) (payload : List Byte) (tk : Taken), Completes (fun dt => .recoveryFrame dt source false hdr
    payload) (fun u => u.pwr.stage = .recovery ∧ u.pwr.hemFlag = false ∧ hdr.length ≤ 4080 ∧ hdr.flags ≤ 1 ∧ source ∈ u.fwu.sources ∧
    n = u.fwu.sources.findIdx (· == source) ∧ checkCommand u (takenOf hdr payload) = .pass tk)
    fun u t => t = runOther (17 + n) (takenOf hdr payload) romRun u)

/-- Heartbeats sent and received, misses, listening, the lane, and a planned handover (R727, R728, R729, R730, R732, R734, R739, R743, R746,
  R747). -/
def Obligations.Heartbeats : Prop :=
  (∀ (e : SchedEntry), Completes (fun dt => .heartbeatSend dt) (fun u => pairOn u = true ∧ pairAlive u = true ∧ nextDue u = some e ∧
    e.action = .heartbeat ∧ resyncDone u = false ∧ handoverDue u = false ∧ (u.pair.state ≠ .active ∨ u.pair.mirroring = false))
    fun u t => t.pair.pinOut = u.pair.pinOut ++ [heartbeatOf u false false] ∧ t.pair.state = u.pair.state) ∧
  (∀ (hb : HbMsg) (mark : LaneSeal), Completes (fun dt => .heartbeatReceive dt hb mark) (fun u => pairOn u = true ∧
    u.pwr.stage = .running ∧ u.pair.laneUp = true ∧ hb.lane = true ∧ laneVerifies u (.heartbeat hb) mark = false)
    fun u t => t = u.onPair fun p => { p with laneDiscards := inc32 p.laneDiscards }) ∧
  (∀ (hb : HbMsg) (mark : LaneSeal), Completes (fun dt => .heartbeatReceive dt hb mark) (fun u => pairOn u = true ∧
    u.pwr.stage = .running ∧ u.pair.laneUp = true ∧ hb.lane = true ∧ laneVerifies u (.heartbeat hb) mark = true)
    fun u t => t = takeHeartbeat { hb with side := 1 - (pairCfg u).side } u) ∧
  (∀ (hb : HbMsg) (mark : LaneSeal), Completes (fun dt => .heartbeatReceive dt hb mark) (fun u => pairOn u = true ∧
    u.pwr.stage = .running ∧ hb.lane = false ∧ hb.crc ≠ frameCrc hb)
    fun u t => t = u) ∧
  (∀ (hb : HbMsg) (mark : LaneSeal), Completes (fun dt => .heartbeatReceive dt hb mark) (fun u => pairOn u = true ∧
    u.pwr.stage = .running ∧ hb.lane = false ∧ hb.crc = frameCrc hb ∧ hb.side = (pairCfg u).side)
    fun u t => t = sideClash u) ∧
  (∀ (hb : HbMsg) (mark : LaneSeal), Completes (fun dt => .heartbeatReceive dt hb mark) (fun u => pairOn u = true ∧
    u.pwr.stage = .running ∧ hb.lane = false ∧ hb.crc = frameCrc hb ∧ hb.side ≠ (pairCfg u).side ∧ hb.hem = false ∧
    hb.handover = false ∧ (∀ l, u.pair.lastHb = some l → l.cycle < hb.cycle) ∧ pairBound u = false ∧ u.pair.state = .standby ∧
    hb.state = .standby)
    fun u t => t.pair.misses = 0 ∧ t.pair.partner = some .standby ∧ t.pair.lastHb = some hb ∧ t.pair.lastHbKey = u.key ∧
      t.pair.deadline = u.rc + cycleLen u * 12 / 10 ∧ t.pair.state = .standby) ∧
  (∀ (l : HbMsg), Completes (fun dt => .heartbeatMiss dt) (fun u => pairOn u = true ∧ u.pwr.stage = .running ∧ u.pair.lastHb = some l ∧
    u.pair.deadline ≤ u.rc ∧ u.pair.misses < 2)
    fun u t => t = u.onPair fun p => { p with misses := p.misses + 1, deadline := p.deadline + cycleLen u }) ∧
  (∀ (l : HbMsg), Completes (fun dt => .heartbeatMiss dt) (fun u => pairOn u = true ∧ u.pwr.stage = .running ∧ u.pair.lastHb = some l ∧
    u.pair.deadline ≤ u.rc ∧ u.pair.misses = 2 ∧ pairBound u = false ∧ u.pair.state = .inSync ∧ u.pwr.hemFlag = false)
    fun u t => t = takeover (u.onPair fun p => { p with misses := 3, deadline := p.deadline + cycleLen u })) ∧
  (∀ (l : HbMsg), Completes (fun dt => .heartbeatMiss dt) (fun u => pairOn u = true ∧ u.pwr.stage = .running ∧ u.pair.lastHb = some l ∧
    u.pair.deadline ≤ u.rc ∧ u.pair.misses = 2 ∧ pairBound u = false ∧ u.pair.state = .active)
    fun u t => t.pair.state = .solo ∧ t = raise .takeover 0x60 [] (toPair .solo (stopMirror (u.onPair fun p =>
      { p with misses := 3, deadline := p.deadline + cycleLen u })))) ∧
  (∀ (c : Nat), Completes (fun dt => .listenEnd dt) (fun u => pairOn u = true ∧ u.pwr.stage = .running ∧ u.pair.listenEnd = some c ∧
    c ≤ u.mains.cycle ∧ u.pair.clashed = false ∧ u.pair.partner = none)
    fun u t => t.pair.state = .solo ∧ t = toPair .solo (u.onPair fun p => { p with listenEnd := none })) ∧
  (Completes (fun dt => .yokeLaneChange dt false) (fun u => pairOn u = true ∧ u.pwr.stage = .running ∧ u.pair.state = .inSync)
    fun _ t => t.pair.state = .standby ∧ t.pair.laneUp = false ∧ t.pair.rxJseq = none ∧ t.pair.resyncPct = 0) ∧
  (Completes (fun dt => .yokeLaneChange dt false) (fun u => pairOn u = true ∧ u.pwr.stage = .running ∧ u.pair.state = .active)
    fun u t => t = u.onPair fun p =>
      { p with laneUp := false, mirroring := false, journalOpen := false, journal := [], resyncPct := 0 }) ∧
  (∀ (k : Nat), Completes (fun dt => .handover dt) (fun u => pairOn u = true ∧ u.pwr.stage = .running ∧ u.pair.forceSolo = none ∧
    u.pair.handoverK = some k ∧ k ≤ u.mains.cycle ∧ u.pair.state = .active ∧ u.pair.partner = some .inSync)
    fun u t => t.pair.state = .inSync ∧ t.pair.handoverK = none ∧ ∃ b, t.pair.pinOut = u.pair.pinOut ++ [b] ∧ b.handover = true ∧
      b.state = .inSync) ∧
  (∀ (k : Nat), Completes (fun dt => .handover dt) (fun u => pairOn u = true ∧ u.pwr.stage = .running ∧ u.pair.forceSolo = none ∧
    u.pair.handoverK = some k ∧ k ≤ u.mains.cycle ∧ u.pair.partner ≠ some .inSync)
    fun u t => t = nextHeartbeat (u.onPair fun p => { p with handoverK := none })) ∧
  (∀ (k : Nat), Completes (fun dt => .handover dt) (fun u => pairOn u = true ∧ u.pwr.stage = .running ∧ u.pair.forceSolo = some k ∧
    k ≤ u.mains.cycle ∧ u.pair.state = .standby)
    fun u t => t = becomeActive (toPair .solo (u.onPair fun p => { p with forceSolo := none, retryKey := none }))) ∧
  (Completes (fun dt => .revertHoldoff dt) (fun u => pairOn u = true ∧ u.pwr.stage = .running ∧ (pairCfg u).revert = true ∧
    (pairCfg u).side = 0 ∧ u.pair.returned = true ∧ u.pair.state = .inSync ∧ u.pair.insyncKey + (pairCfg u).holdoffMc * mc ≤ u.key)
    fun u t => t = u.onPair fun p => { p with revertReq := true }) ∧
  (∀ (out : Nat), Completes (fun dt => .pulseLandEdge dt out) (fun u => out < 8 ∧ (pulseCfg u out).enable = true ∧ pairOn u = true ∧
    leads u.pair.state = false ∧ u.pwr.stage = .running)
    fun u t => t = u.onReg fun r => { r with pulses := modAt r.pulses out fun p => { p with seenEdges := p.seenEdges + 1 } })

/-- Deltas, snapshots and acknowledgements over the Yoke, and the PAIR commands (R726, R734, R736, R737, R740, R741, R742, R752, R753,
  R754). -/
def Obligations.MirrorAndPairCommands : Prop :=
  (∀ (jseq : Nat) (body : DeltaBody) (mark : LaneSeal), Completes (fun dt => .delta dt jseq body mark) (fun u => pairOn u = true ∧
    u.pwr.stage = .running ∧ u.pair.laneUp = true ∧ laneVerifies u (.delta jseq body) mark = false)
    fun u t => t = u.onPair fun p => { p with laneDiscards := inc32 p.laneDiscards }) ∧
  (∀ (jseq k : Nat) (body : DeltaBody) (mark : LaneSeal), Completes (fun dt => .delta dt jseq body mark) (fun u => pairOn u = true ∧
    u.pwr.stage = .running ∧ u.pair.laneUp = true ∧ laneVerifies u (.delta jseq body) mark = true ∧ u.pair.state = .inSync ∧
    u.pair.rxJseq = some k ∧ k + 1 < jseq)
    fun u t => t.pair.state = .standby ∧ t.pair.rxJseq = none ∧ t.pair.laneOut = u.pair.laneOut ∧ t.sess = u.sess ∧ t.fleet = u.fleet) ∧
  (∀ (jseq slot ic : Nat) (mark : LaneSeal), Completes (fun dt => .delta dt jseq (.bcast slot ic) mark) (fun u => pairOn u = true ∧
    u.pwr.stage = .running ∧ u.pair.laneUp = true ∧ laneVerifies u (.delta jseq (.bcast slot ic)) mark = true ∧ u.pair.state = .inSync ∧
    (∀ k, u.pair.rxJseq = some k → jseq ≤ k + 1) ∧ itemJseq u (2, slot) < jseq)
    fun u t => tget t.fleet.bcast slot 0 = ic ∧ itemJseq t (2, slot) = jseq ∧
      t.pair.laneOut = u.pair.laneOut ++ [(u.pair.msgCount, .ack jseq)] ∧ t.pair.msgCount = inc32 u.pair.msgCount ∧
      t.pair.rxJseq = some (max jseq (u.pair.rxJseq.getD 0))) ∧
  (∀ (jseq : Nat) (im : List Nat) (mark : LaneSeal), Completes (fun dt => .delta dt jseq (.legal im) mark) (fun u => pairOn u = true ∧
    u.pwr.stage = .running ∧ u.pair.laneUp = true ∧ laneVerifies u (.delta jseq (.legal im)) mark = true ∧ u.pair.state = .inSync ∧
    (∀ k, u.pair.rxJseq = some k → jseq ≤ k + 1) ∧ itemJseq u (3, 0) < jseq)
    fun u t => t.pair.image = im ∧ t.pair.imageKey = u.key ∧ t.reg = u.reg) ∧
  (∀ (jseq : Nat) (body : DeltaBody) (mark : LaneSeal), Completes (fun dt => .delta dt jseq body mark) (fun u => pairOn u = true ∧
    u.pwr.stage = .running ∧ u.pair.laneUp = true ∧ laneVerifies u (.delta jseq body) mark = true ∧ u.pair.state = .resync ∧
    (∀ k, u.pair.rxJseq = some k → jseq ≤ k + 1) ∧ u.pair.snapEndSeen = none)
    fun u t => t = u.onPair fun p => { p with rxJseq := some (max jseq (p.rxJseq.getD 0)), jGap := p.jGap ++ [(jseq, body)] }) ∧
  (∀ (jseq slot ic : Nat) (mark : LaneSeal), Completes (fun dt => .snapshot dt jseq (.bcast slot ic) mark) (fun u => pairOn u = true ∧
    u.pwr.stage = .running ∧ u.pair.laneUp = true ∧ laneVerifies u (.snapshot jseq (.bcast slot ic)) mark = true ∧
    u.pair.state = .resync ∧ itemJseq u (2, slot) < jseq)
    fun u t => tget t.fleet.bcast slot 0 = ic ∧ itemJseq t (2, slot) = jseq ∧ t.pair.laneOut = u.pair.laneOut) ∧
  (∀ (jseq : Nat) (body : DeltaBody) (mark : LaneSeal), Completes (fun dt => .snapshot dt jseq body mark) (fun u => pairOn u = true ∧
    u.pwr.stage = .running ∧ u.pair.laneUp = true ∧ laneVerifies u (.snapshot jseq body) mark = true ∧ u.pair.state = .resync ∧
    jseq ≤ itemJseq u body.item)
    fun u t => t = u) ∧
  (∀ (jseq : Nat) (mark : LaneSeal), Completes (fun dt => .snapshotEnd dt jseq mark) (fun u => pairOn u = true ∧
    u.pwr.stage = .running ∧ u.pair.laneUp = true ∧ laneVerifies u (.snapshotEnd jseq) mark = true ∧ u.pair.state = .resync)
    fun u t => t = u.pair.jGap.foldl (fun s q => applyDelta q.1 q.2 s) (u.onPair fun p =>
      { p with snapEndSeen := some jseq, jGap := [], resyncPct := 100, jseq := max p.jseq jseq })) ∧
  (∀ (mark : LaneSeal), Completes (fun dt => .syncLost dt mark) (fun u => pairOn u = true ∧ u.pwr.stage = .running ∧
    u.pair.laneUp = true ∧ laneVerifies u (.syncLost) mark = true ∧ u.pair.state = .resync)
    fun u t => t.pair.state = .standby ∧ t.pair.rxJseq = none ∧ t.pair.retryKey = some (u.key + 3000 * mc)) ∧
  (∀ (mark : LaneSeal), Completes (fun dt => .syncLost dt mark) (fun u => pairOn u = true ∧ u.pwr.stage = .running ∧
    u.pair.laneUp = true ∧ laneVerifies u (.syncLost) mark = true ∧ u.pair.state = .inSync)
    fun u t => t.pair.state = .standby ∧ t.pair.rxJseq = none ∧ t.pair.retryKey = u.pair.retryKey) ∧
  (∀ (jseq : Nat) (mark : LaneSeal), Completes (fun dt => .yokeAcknowledgement dt jseq mark) (fun u => pairOn u = true ∧
    u.pwr.stage = .running ∧ u.pair.laneUp = true ∧ laneVerifies u (.ack jseq) mark = true ∧ u.pair.state = .active ∧
    jseq ≤ u.pair.jseq ∧ u.pair.ackedJseq < jseq)
    fun u t => t.pair.ackedJseq = jseq ∧ t.pair.deltasAcked = w32 (u.pair.deltasAcked + (jseq - u.pair.ackedJseq))) ∧
  (Completes (fun dt => .mirrorPeriodic dt) (fun u => pairOn u = true ∧ u.pwr.stage = .running ∧ u.pair.state = .active ∧
    u.pair.mirroring = true ∧ u.pair.journalOpen = false ∧ u.pair.mirLegalKey + 2 * mc ≤ u.key ∧ u.key < u.pair.mirDemandKey + 50 * mc)
    fun u t => t.pair.laneOut = u.pair.laneOut ++ [(u.pair.msgCount, .delta (u.pair.jseq + 1) (.legal u.reg.cum))] ∧
      t.pair.msgCount = inc32 u.pair.msgCount ∧ t.pair.jseq = u.pair.jseq + 1 ∧ t.pair.mirLegalKey = u.key) ∧
  (Completes (fun dt => .mirrorPeriodic dt) (fun u => pairOn u = true ∧ u.pwr.stage = .running ∧ u.pair.state = .active ∧
    u.pair.mirroring = true ∧ u.key < u.pair.mirLegalKey + 2 * mc ∧ u.key < u.pair.mirDemandKey + 50 * mc)
    fun u t => t = u) ∧
  (∀ (k : Nat), Completes (fun dt => .resyncRetry dt) (fun u => pairOn u = true ∧ u.pwr.stage = .running ∧ u.pair.retryKey = some k ∧
    k ≤ u.key)
    fun u t => t = tryResync (u.onPair fun p => { p with retryKey := none })) ∧
  (Reads (fun dt h => .pairStatus dt h) 0x0F01 48 (fun _ _ _ => True)
    fun _ _ u p => Shows p 0 1 (pairCode u.pair.state) ∧ Shows p 1 1 (partnerCode u) ∧ Shows p 2 1 (pairCfg u).side ∧
      Shows p 3 1 u.pair.misses ∧ Shows p 4 4 u.pair.takeovers ∧ Shows p 8 8 u.pair.takeoverKey ∧ Shows p 20 1 u.pair.resyncPct ∧
      Shows p 21 1 (locksLeft u) ∧ Shows p 24 8 u.pair.lastHbKey ∧ Shows p 32 4 u.pair.deltasAcked ∧ Shows p 36 4 u.pair.holdReleases ∧
      Shows p 40 4 u.pair.laneDiscards) ∧
  (∀ (k : Nat), Serves (fun dt h => .pairSwitch dt h) 0x0F02 (fun _ tk u => fld tk.payload 0 1 = 0 ∧ u.pair.state = .active ∧
    u.pair.partner = some .inSync ∧ u.pair.handoverK = none ∧ k = (if u.phase = 0 then u.mains.cycle + 2 else u.mains.cycle + 3))
    fun _ _ u t r => r = okWith (leBytes 8 (mkKey k 0)) ∧ t = u.onPair fun p => { p with handoverK := some k }) ∧
  (Serves (fun dt h => .pairSwitch dt h) 0x0F02 (fun _ tk u => fld tk.payload 0 1 = 1 ∧
    (u.pair.state = .standby ∨ u.pair.state = .resync) ∧ u.pair.misses = 3 ∧ u.pair.clashed = false)
    fun _ _ u t r => r = okWith (leBytes 8 (mkKey (u.mains.cycle + 1) 0)) ∧
      t = u.onPair fun p => { p with forceSolo := some (u.mains.cycle + 1) }) ∧
  (Serves (fun dt h => .pairSwitch dt h) 0x0F02 (fun _ tk u => fld tk.payload 0 1 = 0 ∧ u.pair.state ≠ .active)
    fun _ _ u t r => t = u ∧ r = answer .denied) ∧
  (Serves (fun dt h => .pairLock dt h) 0x0F03 (fun _ tk u => fld tk.payload 33 4 = 0x50414952 ∧ fld tk.payload 0 32 ≠ 0 ∧
    fld tk.payload 0 32 ≠ idHashNow u ∧ fld tk.payload 32 1 ≤ 1 ∧ u.pair.locks.length < 4)
    fun _ tk u t r => r = okWith (leBytes 1 (3 - u.pair.locks.length) ++ leBytes 7 0) ∧
      t = u.onPair fun p => { p with locks := p.locks ++ [(fld tk.payload 0 32, fld tk.payload 32 1)] }) ∧
  (Serves (fun dt h => .pairLock dt h) 0x0F03 (fun _ tk u => fld tk.payload 33 4 = 0x50414952 ∧ fld tk.payload 0 32 ≠ 0 ∧
    fld tk.payload 0 32 ≠ idHashNow u ∧ fld tk.payload 32 1 ≤ 1 ∧ 4 ≤ u.pair.locks.length)
    fun _ _ u t r => t = u ∧ r = answer .nospace)

/-- Events taken from Q10, suppressed ones, full buckets and operating time (R755, R757, R759, R760, R764, R765, R768, R783). -/
def Obligations.EventRecorder : Prop :=
  (∀ (e : QEvent) (rest : List QEvent), Completes (fun dt => .eventRaise dt) (fun u => recorderLives u = true ∧ u.evt.q10 = e :: rest ∧
    e.reply = none ∧ (codeCfg u e.code).rate = 0 ∧ u.evt.ring.length < ringSlots u ∧ u.evt.lost = [])
    fun u t => t.evt.q10 = rest ∧ t.evt.eseq = inc32 u.evt.eseq ∧ t.evt.events = inc32 u.evt.events ∧
      ∃ r, t.evt.ring = u.evt.ring ++ [r] ∧ r.eseq = u.evt.eseq ∧ r.code = e.code ∧ r.source = e.source ∧ r.severity = e.severity ∧
      r.opS = e.opS ∧ r.opSub = e.opSub ∧ r.starts = u.evt.starts ∧ r.suppressed = min 65535 (codeSt u e.code).suppressed) ∧
  (∀ (e : QEvent) (rest : List QEvent), Completes (fun dt => .eventRaise dt) (fun u => recorderLives u = true ∧ u.evt.q10 = e :: rest ∧
    e.reply = none ∧ (codeCfg u e.code).rate ≠ 0 ∧ tokensNow u e.code < tokenUnit ∧ mayTake u = true ∧ u.evt.lost = [])
    fun u t => t.evt.q10 = rest ∧ t.evt.ring = u.evt.ring ∧ t.evt.eseq = u.evt.eseq ∧
      (codeSt t e.code).suppressed = inc32 (codeSt u e.code).suppressed ∧
      ∀ h : Fin 4, stickyOf (t.host h) 0x078 = stickyOf (u.host h) 0x078 ||| 0x8) ∧
  (Completes (fun dt => .eventRaise dt) (fun u => mayTake u = false)
    fun u t => t = u) ∧
  (∀ (code : Nat), Completes (fun dt => .bucketRefill dt code) (fun u => recorderLives u = true ∧ mayTake u = true ∧
    (codeSt u code).suppressed ≠ 0 ∧ (codeCfg u code).burst * tokenUnit ≤ tokensNow u code ∧ code ≠ 0x1003 ∧
    u.evt.ring.length < ringSlots u)
    fun u t => (codeSt t code).suppressed = 0 ∧ ∃ r, t.evt.ring = u.evt.ring ++ [r] ∧ r.code = 0x1003 ∧
      r.severity = (if hostCode code then (codeSt u code).sev else codeSeverity code) ∧
      r.detail.take 8 = leBytes 2 code ++ [0, 0] ++ leBytes 4 (codeSt u code).suppressed) ∧
  (Completes (fun dt => .opTimeCheckpoint dt) (fun u => u.pwr.aonOn = true ∧ u.evt.opCheckpoint < u.opTime / ofS 64 * 64)
    fun u t => t = u.onEvt fun v => { v with opCheckpoint := u.opTime / ofS 64 * 64 }) ∧
  (Completes (fun dt => .opTimeCheckpoint dt) (fun u => u.opTime / ofS 64 * 64 ≤ u.evt.opCheckpoint)
    fun u t => t = u) ∧
  (∀ (q h : Nat) (tk : Taken), Completes (fun dt => .evtClearComplete dt) (fun u => u.evt.trimPending = true ∧ archWorks u = true ∧
    u.evt.trimSeq = some q ∧ (∀ p ∈ u.arch.pages, p.seq = q → p.durable = true) ∧ u.evt.clearing = some (h, tk))
    fun u t => t = finishAt h tk (answer .ok) (u.onEvt fun v => { v with trimPending := false, trimSeq := none, clearing := none })) ∧
  (∀ (q : Nat), Completes (fun dt => .evtClearComplete dt) (fun u => u.evt.trimPending = true ∧ archWorks u = true ∧
    u.evt.trimSeq = some q ∧ (∀ p ∈ u.arch.pages, p.seq = q → p.durable = true) ∧ u.evt.clearing = none)
    fun u t => t = u.onEvt fun v => { v with trimPending := false, trimSeq := none, clearing := none }) ∧
  (∀ (q : Nat) (p : _), Completes (fun dt => .evtClearComplete dt) (fun u => u.evt.trimPending = true ∧ archWorks u = true ∧
    u.evt.trimSeq = some q ∧ p ∈ u.arch.pages ∧ p.seq = q ∧ p.durable = false)
    fun u t => t = u) ∧
  (Completes (fun dt => .evtClearComplete dt) (fun u => u.evt.trimPending = true ∧ archWorks u = true ∧ u.evt.trimSeq = none)
    fun u t => t = trimExtension u) ∧
  (Completes (fun dt => .evtClearComplete dt) (fun u => u.evt.trimPending = false)
    fun u t => t = u)

/-- The EVT commands (R758, R763, R779, R780, R781, R782, R784, R785). -/
def Obligations.EventCommands : Prop :=
  (Reads (fun dt h => .evtStatus dt h) 0x1001 48 (fun _ _ _ => True)
    fun _ _ u p => Shows p 0 4 u.opS ∧ Shows p 4 2 u.opSub ∧ Shows p 8 4 u.evt.starts ∧ Shows p 12 4 u.evt.eseq ∧ Shows p 20 8 u.tai ∧
      Shows p 28 8 u.key ∧ Shows p 36 2 (u.evt.ring.length + bit u.evt.fullRec.isSome) ∧ Shows p 40 4 u.evt.ext.length ∧
      Shows p 44 4 u.evt.discarded) ∧
  (Serves (fun dt h => .evtRead dt h) 0x1002 (fun _ tk _ => (fld tk.payload 4 1 = 0 ∨ 63 < fld tk.payload 4 1 ∨ 3 < fld tk.payload 5 1))
    fun _ _ u t r => t = u ∧ r = answer .badarg) ∧
  (∀ (hit : List EvtRecord), Serves (fun dt h => .evtRead dt h) 0x1002 (fun _ tk u => 1 ≤ fld tk.payload 4 1 ∧ fld tk.payload 4 1 ≤ 63 ∧
    fld tk.payload 5 1 ≤ 3 ∧ (archWorks u = true ∨ u.evt.ext = []) ∧ hit = ((heldRecords u).filter fun r => seqGe r.eseq
    (fld tk.payload 0 4)).filter (fun r => fld tk.payload 5 1 ≤ r.severity && Nat.land r.code (fld tk.payload 10 2) == Nat.land
    (fld tk.payload 8 2) (fld tk.payload 10 2)))
    fun _ tk u t r => t = u ∧ ∃ p, r = okWith p ∧ Shows p 4 1 (hit.take (fld tk.payload 4 1)).length ∧
      p.drop 8 = (hit.take (fld tk.payload 4 1)).flatMap evtRecordBytes) ∧
  (Reads (fun dt h => .evtCodeRead dt h) 0x1003 24 (fun _ tk _ => codeKnown (fld tk.payload 0 2) = true)
    fun _ tk u p => Shows p 0 2 (fld tk.payload 0 2) ∧ Shows p 2 1 (codeSeverity (fld tk.payload 0 2)) ∧
      Shows p 3 1 (bit (codeExtended (fld tk.payload 0 2))) ∧ Shows p 4 2 (codeCfg u (fld tk.payload 0 2)).rate ∧
      Shows p 6 1 (codeCfg u (fld tk.payload 0 2)).burst ∧ Shows p 16 4 (codeSt u (fld tk.payload 0 2)).recorded ∧
      Shows p 20 4 (codeSt u (fld tk.payload 0 2)).suppressedTotal) ∧
  (Serves (fun dt h => .evtCodeRead dt h) 0x1003 (fun _ tk _ => codeKnown (fld tk.payload 0 2) = false)
    fun _ _ u t r => t = u ∧ r = answer .badarg) ∧
  (Serves (fun dt h => .evtCodeSet dt h) 0x1004 (fun _ tk _ => codeKnown (fld tk.payload 0 2) = true ∧ fld tk.payload 2 1 = 1)
    fun _ tk u t r => r = answer .ok ∧ t = setOverride (fld tk.payload 0 2) none u ∧ (codeSt t (fld tk.payload 0 2)).override = none) ∧
  (Serves (fun dt h => .evtCodeSet dt h) 0x1004 (fun _ tk _ => (codeKnown (fld tk.payload 0 2) = false ∨ 1 < fld tk.payload 2 1 ∨
    fld tk.payload 2 1 = 0 ∧ (3600 < fld tk.payload 4 2 ∨ fld tk.payload 6 1 = 0 ∨ 8 < fld tk.payload 7 1 ∨ fld tk.payload 4 2 ≠ 0 ∧
    codeSeverity (fld tk.payload 0 2) = 3)))
    fun _ _ u t r => t = u ∧ r = answer .badarg) ∧
  (Serves (fun dt h => .evtCodeSet dt h) 0x1004 (fun _ tk u => codeKnown (fld tk.payload 0 2) = true ∧ fld tk.payload 2 1 = 0 ∧
    fld tk.payload 4 2 ≤ 3600 ∧ fld tk.payload 6 1 ≠ 0 ∧ fld tk.payload 7 1 = 0 ∧
    (fld tk.payload 4 2 = 0 ∨ codeSeverity (fld tk.payload 0 2) ≠ 3) ∧ (codeSt u (fld tk.payload 0 2)).override.isSome = true)
    fun _ tk u t r => r = answer .ok ∧ (codeSt t (fld tk.payload 0 2)).override = some
      { code := fld tk.payload 0 2, rate := fld tk.payload 4 2, burst := fld tk.payload 6 1, snap := [] } ∧ Only [.evt] u t) ∧
  (Serves (fun dt h => .evtClear dt h) 0x1005 (fun _ _ u => u.cfg.overlay ≠ 2 ∧ u.cfg.overlay ≠ 4)
    fun _ _ u t r => t = u ∧ r = answer .locked) ∧
  (Serves (fun dt h => .evtClear dt h) 0x1005 (fun _ tk u => (u.cfg.overlay = 2 ∨ u.cfg.overlay = 4) ∧ fld tk.payload 0 4 ≠ 0x434C5245)
    fun _ _ u t r => t = u ∧ r = answer .badarg) ∧
  (Serves (fun dt h => .evtClear dt h) 0x1005 (fun h tk u => (u.cfg.overlay = 2 ∨ u.cfg.overlay = 4) ∧ fld tk.payload 0 4 = 0x434C5245 ∧
    ((u.host h).openCmds.filter fun c => !c.dead).length < 16)
    fun h tk u t r => r = answer .pending ∧ t.evt.ext = [] ∧ t.evt.eseq = 1 ∧ t.evt.trimPending = true ∧
      t.evt.clearing = some (h.val, tk) ∧ t.met.mlog = u.met.mlog ∧ ∃ x, t.evt.ring = [x] ∧ x.eseq = 0 ∧ x.code = 0x1005) ∧
  (Serves (fun dt h => .evtMlogRead dt h) 0x1006 (fun _ tk _ => (fld tk.payload 4 1 = 0 ∨ 126 < fld tk.payload 4 1))
    fun _ _ u t r => t = u ∧ r = answer .badarg) ∧
  (∀ (out : List (MlogEntry × Nat)), Serves (fun dt h => .evtMlogRead dt h) 0x1006 (fun _ tk u => 1 ≤ fld tk.payload 4 1 ∧
    fld tk.payload 4 1 ≤ 126 ∧ out = (u.met.mlog.zipIdx.filter fun e => fld tk.payload 0 4 ≤ e.1.lseq).take (fld tk.payload 4 1))
    fun _ _ u t r => t = u ∧ ∃ p, r = okWith p ∧ Shows p 4 1 out.length ∧ Shows p 8 2 (4032 - u.met.mlog.length) ∧
      p.drop 16 = out.flatMap fun e => mlogBytes u.met e.2 e.1) ∧
  (Serves (fun dt h => .evtPost dt h) 0x1007 (fun _ tk _ => 2 < fld tk.payload 1 1)
    fun _ _ u t r => t = u ∧ r = answer .badarg) ∧
  (Serves (fun dt h => .evtPost dt h) 0x1007 (fun _ tk u => fld tk.payload 1 1 ≤ 2 ∧ recorderLives u = true ∧ u.evt.q10.length < 1024)
    fun h tk u t r => r = { silent := true } ∧ t = u.onEvt fun v =>
      { v with q10 := v.q10 ++ [{ code := 0xFF00 + fld tk.payload 0 1, source := 0x20 + h.val, severity := fld tk.payload 1 1,
                                  detail := (tk.payload.drop 4).take 8, opS := u.opS, opSub := u.opSub, reply := some (h.val, tk) }] })

/-- Entering Doze and Hold, refusals, wakes, Trim and Re-arms (R803, R804, R805, R806, R807, R810, R811, R812, R813). -/
def Obligations.PowerStates : Prop :=
  (∀ (target : Nat) (commit : Bool), Completes (fun dt => .powerStateEntry dt target commit) (fun u => u.pwr.stage = .running ∧
    u.pwr.hemFlag = false ∧ (u.pwr.state = .run ∨ u.pwr.state = .trim) ∧ (target = 3 ∨ target = 2 ∧ mayChoose u 3 = false) ∧
    u.pwr.committed = false ∧ u.cfg.act.allow.getLsbD (target - 1) = false)
    fun u t => t = setSticky 0x07C 0x20 (u.onPwr fun p =>
      { p with target := target, entering := false, lastRefuser := 3, refused := bumpAt p.refused (4 * (target - 1) + 3) })) ∧
  (Completes (fun dt => .powerStateEntry dt 2 true) (fun u => u.pwr.stage = .running ∧ u.pwr.hemFlag = false ∧
    (u.pwr.state = .run ∨ u.pwr.state = .trim) ∧ u.pwr.committed = false ∧ mayChoose u 3 = false ∧ refuser u 2 = none)
    fun u t => t.pwr.committed = true ∧ t.pwr.target = 2 ∧ t.pwr.state = u.pwr.state ∧
      transitOf t .power = some { fn := .power, up := false, endRc := u.rc + ofUs 1000 }) ∧
  (Completes (fun dt => .powerStateEntry dt 3 true) (fun u => u.pwr.stage = .running ∧ u.pwr.hemFlag = false ∧
    (u.pwr.state = .run ∨ u.pwr.state = .trim) ∧ u.pwr.committed = false ∧ refuser u 3 = none)
    fun u t => t.pwr.committed = true ∧ t.pwr.target = 3 ∧ t = commitEntry 3 u) ∧
  (∀ (commit : Bool), Completes (fun dt => .powerStateEntry dt 2 commit) (fun u => mayChoose u 3 = true)
    fun u t => t = u) ∧
  (∀ (target : Nat), Completes (fun dt => .powerStateEntry dt target false) (fun u => u.pwr.stage = .running ∧ u.pwr.hemFlag = false ∧
    (u.pwr.state = .run ∨ u.pwr.state = .trim) ∧ u.pwr.committed = false ∧ (target = 3 ∨ target = 2 ∧ mayChoose u 3 = false) ∧
    refuser u target = none)
    fun u t => t = u.onPwr fun p => { p with target := target, entering := true }) ∧
  (∀ (source : Nat), Completes (fun dt => .wake dt source) (fun u => u.pwr.stage = .running ∧ u.pwr.hemFlag = false ∧
    u.pwr.committed = false ∧ u.pwr.entering = true)
    fun u t => t.pwr.entering = false ∧
      t.pwr.lastRefuser = (if source = 2 then 2 else if source = 1 then 3 else if source = 6 then 0 else 1) ∧
      t.pwr.aborted = bumpAt u.pwr.aborted (4 * (u.pwr.target - 1) + t.pwr.lastRefuser) ∧ t.pwr.state = u.pwr.state) ∧
  (∀ (source : Nat), Completes (fun dt => .wake dt source) (fun u => u.pwr.stage = .running ∧ u.pwr.hemFlag = false ∧
    u.pwr.committed = false ∧ u.pwr.entering = false ∧ u.pwr.state = .doze ∧ transitOf u .power = none ∧ wakes u source = true)
    fun u t => t.pwr.state = .doze ∧ t.pwr.wakeReq = false ∧ t.pwr.bell = none ∧
      transitOf t .power = some { fn := .power, up := true, endRc := u.rc + ofUs 3000 }) ∧
  (∀ (source : Nat), Completes (fun dt => .wake dt source) (fun u => u.pwr.stage = .running ∧ u.pwr.hemFlag = false ∧
    u.pwr.committed = false ∧ u.pwr.entering = false ∧ u.pwr.state = .hold ∧ transitOf u .power = none ∧ (source = 4 ∨ source = 5))
    fun u t => t = u) ∧
  (∀ (source : Nat) (x : Transit), Completes (fun dt => .wake dt source) (fun u => u.pwr.stage = .running ∧ u.pwr.hemFlag = false ∧
    u.pwr.committed = true ∧ transitOf u .power = some x ∧ x.up = false)
    fun u t => t = u.onPwr fun p =>
      { p with transits := p.transits.map (fun y => if y.fn == .power then { y with rearm := some .run } else y), rearms := inc32
                 p.rearms, rearmSuperseded := if x.rearm.isSome then inc32 p.rearmSuperseded else p.rearmSuperseded }) ∧
  (∀ (n : Fin 4), Completes (fun dt => .clusterGate dt n) (fun u => u.pwr.stage = .running ∧
    (u.pwr.state = .run ∨ u.pwr.state = .trim) ∧ u.cfg.act.allow.getLsbD 0 = true ∧ u.pwr.gated = 0 ∧ clusterIdle u n.val = true ∧
    transitOf u (.cluster n.val) = none)
    fun u t => t.pwr.state = .trim ∧ t.pwr.gated = BitVec.ofNat 4 (2 ^ n.val) ∧ t.pwr.entries = bumpAt u.pwr.entries 0 ∧
      transitOf t (.cluster n.val) = some { fn := .cluster n.val, up := false, endRc := u.rc + ofUs 2 }) ∧
  (∀ (n : Fin 4), Completes (fun dt => .clusterUngate dt n) (fun u => u.pwr.stage = .running ∧ u.pwr.gated.getLsbD n.val = true ∧
    transitOf u (.cluster n.val) = none)
    fun u t => t = ungate n.val u) ∧
  (∀ (n : Fin 4), Completes (fun dt => .clusterUngate dt n) (fun u => u.pwr.stage = .running ∧ u.pwr.state = .trim ∧
    u.pwr.gated = BitVec.ofNat 4 (2 ^ n.val) ∧ transitOf u (.cluster n.val) = none ∧ u.fab.heldWords = [])
    fun _ t => t.pwr.state = .run ∧ t.pwr.gated = 0) ∧
  (∀ (d : Nat), Completes (fun dt => .rearmExecute dt) (fun u => u.pwr.stage = .running ∧
    u.pwr.transits = [{ fn := .power, up := false, endRc := d }] ∧ d ≤ u.rc ∧ u.pwr.target = 2)
    fun u t => t.pwr.state = .doze ∧ t.pwr.entering = false ∧ t.pwr.committed = false ∧ t.pwr.gated = 0 ∧
      t.pwr.entries = bumpAt u.pwr.entries 1 ∧ t.pwr.transits = [] ∧ ∀ x ∈ t.rad.fes, x.ready = false) ∧
  (∀ (n d : Nat), Completes (fun dt => .rearmExecute dt) (fun u => u.pwr.stage = .running ∧
    u.pwr.transits = [{ fn := .cluster n, up := false, endRc := d, rearm := some .ungate }] ∧ d ≤ u.rc)
    fun u t => t = ungate n (u.onPwr fun p => { p with transits := [] }))

/-- The PWR commands (R809, R818, R819, R820). -/
def Obligations.PowerCommands : Prop :=
  (Reads (fun dt h => .pwrStatus dt h) 0x1101 32 (fun _ _ _ => True)
    fun h _ u p => Shows p 0 1 (powerCode u.pwr.state) ∧ Shows p 1 1 u.pwr.target ∧ Shows p 2 1 (bit (u.pwr.stage == .parked)) ∧
      Shows p 3 1 u.pwr.lastRefuser ∧ Shows p 4 4 (effTol u) ∧ Shows p 8 4 (hostTol u (u.host h)) ∧ Shows p 12 4 u.pwr.vinMv ∧
      ShowsI p 16 2 u.pwr.tjDc ∧ Shows p 20 4 u.fab.lineWarnMv ∧ Shows p 24 1 (bit u.pwr.hemOkLast) ∧ Shows p 28 4 u.pwr.lastHemUs) ∧
  (Serves (fun dt h => .pwrTolerance dt h) 0x1102 (fun _ tk _ => 1000000 < fld tk.payload 0 4 ∧ fld tk.payload 0 4 ≠ 0xFFFFFFFF)
    fun _ _ u t r => t = u ∧ r = answer .badarg) ∧
  (Serves (fun dt h => .pwrTolerance dt h) 0x1102 (fun _ tk _ => fld tk.payload 0 4 ≤ 1000000)
    fun h tk u t r => (t.host h).tolUs = some (fld tk.payload 0 4) ∧ r = okWith (leBytes 4 (effTol t) ++ leBytes 4 0) ∧
      Only [.hosts] u t) ∧
  (Serves (fun dt h => .pwrTolerance dt h) 0x1102 (fun _ tk _ => fld tk.payload 0 4 = 0xFFFFFFFF)
    fun h _ _ t r => (t.host h).tolUs = none ∧ r = okWith (leBytes 4 (effTol t) ++ leBytes 4 0)) ∧
  (Reads (fun dt h => .pwrCounters dt h) 0x1103 136 (fun _ _ u => u.pwr.entries.length = 3 ∧ u.pwr.refused.length = 12 ∧
    u.pwr.aborted.length = 12)
    fun _ _ u p => ∀ k n, (u.pwr.entries ++ u.pwr.refused ++ u.pwr.aborted ++ [u.pwr.rearms, u.pwr.rearmSuperseded,
      u.pwr.rearmCancelled, u.pwr.rearmDropped, u.pwr.parks, u.pwr.thermalStops, 0])[k]? = some n → Shows p (4 * k) 4 n)

/-- Overlays and images come in force at their class 6 entry; Islanded; CFG_APPLY completes (R55, R826, R827, R828, R830, R831, R832, R835). -/
def Obligations.OverlaysAndImages : Prop :=
  (∀ (e : SchedEntry) (n : Nat), Completes (fun dt => .overlayChange dt) (fun u => nextDue u = some e ∧ e.action = .overlayChange n ∧
    n < 8 ∧ u.cfg.running = none)
    fun u t => t.cfg.overlay = u.cfg.overlay ∧ t.cfg.selected = u.cfg.selected ∧ t.cfg.act = u.cfg.act) ∧
  (∀ (e : SchedEntry), Completes (fun dt => .overlayChange dt) (fun u => nextDue u = some e ∧ e.action = .cfgTake)
    fun u t => ∃ z, Only [.hosts, .sched, .evt, .pair] u z ∧ t = evalTriggers (putOverlay u.cfg.selected u.cfg.overlay
      u.cfg.lastChangeKey true (z.onCfg fun c => { c with running := c.inForce }))) ∧
  (∀ (e : SchedEntry) (n : Nat), Completes (fun dt => .overlayChange dt) (fun u => nextDue u = some e ∧ e.action = .overlayChange n ∧
    n < 8)
    fun u t => ∃ z, Only [.hosts, .sched, .evt, .pair] u z ∧ t = evalTriggers (putOverlay n (overlayFor z n).1 e.key false z)) ∧
  (∀ (n m key : Nat) (i : CfgImage) (s : State), s.cfg.running = some i → (putOverlay n m key false s).cfg.selected = n ∧
    (putOverlay n m key false s).cfg.overlay = m ∧ (putOverlay n m key false s).cfg.lastChangeKey = key) ∧
  (Completes (fun dt => .islandedTrigger dt) (fun u => uplinkRuns u = true ∧ namesUpstream u = true ∧ u.upl.state ≠ 2 ∧
    autoEnabled u 5 = true ∧ u.cfg.trigIslanded = false ∧ u.cfg.islandFrom + u.cfg.act.islandMc ≤ u.mains.cycle)
    fun u t => t = evalTriggers (u.onCfg fun c => { c with trigIslanded := true }) ∧ t.cfg.trigIslanded = true) ∧
  (Completes (fun dt => .islandedTrigger dt) (fun u => (namesUpstream u = false ∨ u.mains.cycle < u.cfg.islandFrom +
    u.cfg.act.islandMc))
    fun u t => t = u) ∧
  (∀ (j : CfgJob), Completes (fun dt => .cfgApplyComplete dt) (fun u => u.cfg.applying = some j ∧ logicUp u = true)
    fun u t => t.cfg.inForce = some j.image ∧ t.cfg.previous = u.cfg.inForce ∧ t.cfg.version = max u.cfg.version j.image.version ∧
      t.cfg.applying = none ∧ t.cfg.staged = [] ∧ t.cfg.act = u.cfg.act ∧
      ∃ z, t = finishAt j.host j.taken (okWith (leBytes 8 (if j.key = 0 then nextCycleStart u else j.key))) z) ∧
  (Completes (fun dt => .cfgApplyComplete dt) (fun u => u.cfg.applying = none)
    fun u t => t = u)

/-- The CFG commands (R690, R824, R834, R837). -/
def Obligations.ConfigurationCommands : Prop :=
  (Reads (fun dt h => .cfgStatus dt h) 0x1201 32 (fun _ _ _ => True)
    fun h _ u p => Shows p 0 4 ((u.cfg.running.map (·.version)).getD 0) ∧ Shows p 4 4 u.cfg.version ∧
      Shows p 8 4 ((u.cfg.previous.map (·.version)).getD 0) ∧ Shows p 12 4 (cfgStat u (stickyOf (u.host h) 0x080)).toNat ∧
      Shows p 16 8 u.cfg.lastChangeKey ∧ Shows p 24 4 u.cfg.superseded) ∧
  (Serves (fun dt h => .cfgLoad dt h) 0x1202 (fun h _ u => cfgBusy u h = true)
    fun _ _ u t r => t = u ∧ r = answer .busy) ∧
  (Serves (fun dt h => .cfgLoad dt h) 0x1202 (fun h tk u => cfgBusy u h = false ∧ fld tk.payload 0 4 ≠ 0 ∧
    fld tk.payload 0 4 ≠ u.cfg.staged.length)
    fun _ _ u t r => t = u ∧ r = answer .stale) ∧
  (Serves (fun dt h => .cfgLoad dt h) 0x1202 (fun h tk u => cfgBusy u h = false ∧
    (fld tk.payload 0 4 = 0 ∨ fld tk.payload 0 4 = u.cfg.staged.length) ∧ tk.payload.length ≤ 8)
    fun _ _ u t r => t = u ∧ r = answer .badarg) ∧
  (∀ (a b : List Byte), Serves (fun dt h => .cfgLoad dt h) 0x1202 (fun h tk u => cfgBusy u h = false ∧ b = tk.payload.drop 8 ∧ b ≠ [] ∧
    b.length ≤ 4072 ∧ (fld tk.payload 0 4 = 0 ∧ a = b ∨ fld tk.payload 0 4 = u.cfg.staged.length ∧ u.cfg.staged ≠ [] ∧
    a = u.cfg.staged ++ b ∧ a.length ≤ 524288))
    fun h _ u t r => r = okWith (leBytes 4 a.length ++ leBytes 4 0) ∧
      t = u.onCfg fun c => { c with staged := a, stagedOwner := some h.val }) ∧
  (∀ (image : CfgImage) (st : Status), Serves (fun dt h => .cfgApply dt h image) 0x1203 (fun h tk u => cfgBusy u h = false ∧
    imageFault u (imageOfStaged u.cfg.staged image) (decide ((imageOfStaged u.cfg.staged image).version ≤ u.cfg.version)) = some st ∧
    fld tk.payload 0 4 = u.cfg.staged.length ∧ u.cfg.staged ≠ [] ∧ st ≠ .pending)
    fun _ _ u t r => r = answer st ∧ t = setSticky 0x080 0x400 u) ∧
  (∀ (image : CfgImage), Serves (fun dt h => .cfgApply dt h image) 0x1203 (fun h tk u => cfgBusy u h = false ∧
    fld tk.payload 0 4 ≠ u.cfg.staged.length)
    fun _ _ u t r => r = answer .badarg ∧ t = setSticky 0x080 0x400 u) ∧
  (∀ (image i : CfgImage), Serves (fun dt h => .cfgApply dt h image) 0x1203 (fun h tk u => cfgBusy u h = false ∧
    fld tk.payload 0 4 = u.cfg.staged.length ∧ u.cfg.staged ≠ [] ∧ i = imageOfStaged u.cfg.staged image ∧ u.cfg.version < i.version ∧
    imageFault u i false = none ∧ (fld tk.payload 8 8 = 0 ∨ aheadEnough u (fld tk.payload 8 8) = true) ∧
    ((u.host h).openCmds.filter fun c => !c.dead).length < 16)
    fun h tk u t r => r = answer .pending ∧
      t = u.onCfg fun c => { c with applying := some { host := h.val, taken := tk, key := fld tk.payload 8 8, image := i } }) ∧
  (Serves (fun dt h => .cfgOverlay dt h) 0x1204 (fun _ tk _ => 7 < fld tk.payload 0 1)
    fun _ _ u t r => t = u ∧ r = answer .badarg) ∧
  (Serves (fun dt h => .cfgOverlay dt h) 0x1204 (fun _ tk u => fld tk.payload 0 1 ≤ 7 ∧ u.cfg.running = none)
    fun _ _ u t r => t = u ∧ r = answer .locked) ∧
  (∀ (i : CfgImage), Serves (fun dt h => .cfgOverlay dt h) 0x1204 (fun _ tk u => fld tk.payload 0 1 ≤ 7 ∧ u.cfg.running = some i ∧
    fld tk.payload 8 8 ≠ 0 ∧ fld tk.payload 8 8 < u.key + 64)
    fun _ _ u t r => t = u ∧ r = answer .stale) ∧
  (∀ (i : CfgImage) (k : Nat), Serves (fun dt h => .cfgOverlay dt h) 0x1204 (fun _ tk u => fld tk.payload 0 1 ≤ 7 ∧
    u.cfg.running = some i ∧ (fld tk.payload 8 8 = 0 ∧ k = nextCycleStart u ∨ u.key + 64 ≤ fld tk.payload 8 8 ∧
    k = (fld tk.payload 8 8 + 65535) / 65536 * 65536))
    fun _ tk u t r => r = okWith (leBytes 8 k) ∧ t = placeOverlay (fld tk.payload 0 1) k u ∧ k % 65536 = 0) ∧
  (Serves (fun dt h => .cfgSchema dt h) 0x1205 (fun _ tk _ => (fld tk.payload 2 2 < 1 ∨ 250 < fld tk.payload 2 2))
    fun _ _ u t r => t = u ∧ r = answer .badarg) ∧
  (∀ (n : Nat), Serves (fun dt h => .cfgSchema dt h) 0x1205 (fun _ tk _ => 1 ≤ fld tk.payload 2 2 ∧ fld tk.payload 2 2 ≤ 250 ∧
    n = min (fld tk.payload 2 2) (Config.cfgSchema.length - fld tk.payload 0 2))
    fun _ tk u t r => t = u ∧ ∃ p, r = okWith p ∧ Shows p 0 2 (fld tk.payload 0 2 + n) ∧ Shows p 2 2 n) ∧
  (Reads (fun dt h => .cfgFuses dt h) 0x1206 8 (fun _ _ _ => True)
    fun _ _ u p => Shows p 0 1 u.met.reopens ∧ Shows p 1 1 u.fwu.floor ∧ Shows p 2 1 (lifecycleCode u.pocket.lifecycle) ∧
      Shows p 3 1 (4 - u.pair.locks.length))
end

