-- ==== Sys2Proof/Laws/Only.lean ====
section
/-! SUPPORT. The laws of `Only`: how the blocks that an operation leaves unchanged follow from those of the operations it is made of. -/

namespace Sys2Proof.Machine

open Host (Outcome)

/-! ### Lists of blocks -/

/-- Whether every block of one list stands in another. -/
def Block.sub (l m : List Block) : Bool := l.all fun b => m.contains b

theorem Block.sub_iff {l m : List Block} : Block.sub l m = true ↔ ∀ b ∈ l, b ∈ m := by simp [Block.sub]

theorem Block.sub_trans {l m n : List Block} (h : Block.sub l m = true) (k : Block.sub m n = true) : Block.sub l n = true := by
  rw [Block.sub_iff] at *
  exact fun b hb => k b (h b hb)

/-- A part of what is listed: the smaller list is compared by evaluation. -/
theorem via {l m n : List Block} (k : Block.sub m n = true) (h : Block.sub l m = true := by decide) : Block.sub l n = true :=
  Block.sub_trans h k

theorem Block.sub_mem {b : Block} {m n : List Block} (h : m.contains b = true) (k : Block.sub m n = true) : b ∈ n := by
  rw [Block.sub_iff] at k
  exact k b (by simpa using h)

/-- A block of those listed. -/
theorem viaOne {b : Block} {m n : List Block} (k : Block.sub m n = true) (h : m.contains b = true := by decide) : b ∈ n :=
  Block.sub_mem h k

/-! ### Composition -/

theorem Same.refl (b : Block) (s : State) : Same b s s := by cases b <;> rfl

theorem Same.trans {b : Block} {s t u : State} (h : Same b s t) (k : Same b t u) : Same b s u := by
  cases b <;> exact Eq.trans k h

theorem Only.refl (bs : List Block) (s : State) : Only bs s s := fun b _ => Same.refl b s

theorem Only.trans {bs : List Block} {s t u : State} (h : Only bs s t) (k : Only bs t u) : Only bs s u :=
  fun b hb => Same.trans (h b hb) (k b hb)

theorem Only.mono {bs cs : List Block} {s t : State} (hb : Block.sub bs cs = true) (h : Only bs s t) : Only cs s t :=
  fun b hn => h b fun hm => hn (Block.sub_iff.mp hb b hm)

theorem Only.ite {bs : List Block} {s a b : State} {c : Prop} [Decidable c] (ha : Only bs s a) (hb : Only bs s b) :
    Only bs s (if c then a else b) := by split <;> assumption

theorem Only.foldl {bs : List Block} {s x : State} {α : Type} {l : List α} {g : State → α → State}
    (hg : ∀ y a, Only bs s y → Only bs s (g y a)) (hx : Only bs s x) : Only bs s (l.foldl g x) := by
  induction l generalizing x with
  | nil => exact hx
  | cons a l ih => exact ih (hg x a hx)

theorem Only.foldl1 {bs : List Block} {s : State} {α β : Type} {l : List α} {x : State × β} {g : State × β → α → State × β}
    (hg : ∀ y a, Only bs s y.1 → Only bs s (g y a).1) (hx : Only bs s x.1) : Only bs s (l.foldl g x).1 := by
  induction l generalizing x with
  | nil => exact hx
  | cons a l ih => exact ih (hg x a hx)

theorem Only.foldl2 {bs : List Block} {s : State} {α β : Type} {l : List α} {x : β × State} {g : β × State → α → β × State}
    (hg : ∀ y a, Only bs s y.2 → Only bs s (g y a).2) (hx : Only bs s x.2) : Only bs s (l.foldl g x).2 := by
  induction l generalizing x with
  | nil => exact hx
  | cons a l ih => exact ih (hg x a hx)

theorem Only.eq1 {bs : List Block} {s t : State} {β : Type} {p : State × β} {r : β} (e : p = (t, r)) (h : Only bs s p.1) : Only bs s t := by
  subst e; exact h

theorem Only.eq2 {bs : List Block} {s t : State} {β : Type} {p : β × State} {r : β} (e : p = (r, t)) (h : Only bs s p.2) : Only bs s t := by
  subst e; exact h

theorem Only.ite1 {bs : List Block} {s : State} {β : Type} {a b : State × β} {c : Prop} [Decidable c] (ha : Only bs s a.1)
    (hb : Only bs s b.1) : Only bs s (if c then a else b).1 := by split <;> assumption

theorem Only.ite2 {bs : List Block} {s : State} {β : Type} {a b : β × State} {c : Prop} [Decidable c] (ha : Only bs s a.2)
    (hb : Only bs s b.2) : Only bs s (if c then a else b).2 := by split <;> assumption

/-! ### Results that carry a state -/

/-- A state that an option may hold. -/
def OnlyOpt (bs : List Block) (s : State) (o : Option State) : Prop := ∀ t, o = some t → Only bs s t

/-- A state that an optional pair may hold. -/
def OnlyOptP {β : Type} (bs : List Block) (s : State) (o : Option (β × State)) : Prop := ∀ r t, o = some (r, t) → Only bs s t

/-- A state that a result may hold. -/
def OnlyEx {ε : Type} (bs : List Block) (s : State) (o : Except ε State) : Prop := ∀ t, o = .ok t → Only bs s t

/-- A state that a result may hold beside a value. -/
def OnlyExP {ε β : Type} (bs : List Block) (s : State) (o : Except ε (β × State)) : Prop := ∀ r t, o = .ok (r, t) → Only bs s t

/-- The next state of an outcome. -/
def OnlyOut (bs : List Block) (s : State) (o : Outcome State Fault Refusal) : Prop := ∀ t, o = .next t → Only bs s t

theorem OnlyOpt.none {bs : List Block} {s : State} : OnlyOpt bs s none := by intro t e; cases e
theorem OnlyOpt.some {bs : List Block} {s a : State} (h : Only bs s a) : OnlyOpt bs s (some a) := by intro t e; cases e; exact h
theorem OnlyOpt.ite {bs : List Block} {s : State} {a b : Option State} {c : Prop} [Decidable c] (ha : OnlyOpt bs s a) (hb : OnlyOpt bs s b) :
    OnlyOpt bs s (if c then a else b) := by split <;> assumption
theorem OnlyOpt.get {bs : List Block} {s t : State} {o : Option State} (e : o = .some t) (h : OnlyOpt bs s o) : Only bs s t := h t e

theorem Only.getD {bs : List Block} {s x : State} {o : Option State} (h : OnlyOpt bs s o) (hx : Only bs s x) : Only bs s (o.getD x) := by
  cases o with
  | none => exact hx
  | some a => exact h a rfl

theorem OnlyOptP.foldl {α β : Type} {bs : List Block} {s : State} {l : List α} {x : Option (β × State)}
    {g : Option (β × State) → α → Option (β × State)} (hg : ∀ y a, OnlyOptP bs s y → OnlyOptP bs s (g y a)) (hx : OnlyOptP bs s x) :
    OnlyOptP bs s (l.foldl g x) := by
  induction l generalizing x with
  | nil => exact hx
  | cons a l ih => exact ih (hg x a hx)

theorem OnlyOptP.none {β : Type} {bs : List Block} {s : State} : OnlyOptP (β := β) bs s none := by intro r t e; cases e
theorem OnlyOptP.some {β : Type} {bs : List Block} {s : State} {a : β × State} (h : Only bs s a.2) : OnlyOptP bs s (some a) := by
  intro r t e; cases e; exact h
theorem OnlyOptP.ite {β : Type} {bs : List Block} {s : State} {a b : Option (β × State)} {c : Prop} [Decidable c] (ha : OnlyOptP bs s a)
    (hb : OnlyOptP bs s b) : OnlyOptP bs s (if c then a else b) := by split <;> assumption
theorem OnlyOptP.get {β : Type} {bs : List Block} {s t : State} {r : β} {o : Option (β × State)} (e : o = .some (r, t)) (h : OnlyOptP bs s o) :
    Only bs s t := h r t e

theorem OnlyEx.error {ε : Type} {bs : List Block} {s : State} {e : ε} : OnlyEx bs s (.error e) := by intro t h; cases h
theorem OnlyEx.ok {ε : Type} {bs : List Block} {s a : State} (h : Only bs s a) : OnlyEx (ε := ε) bs s (.ok a) := by
  intro t e; cases e; exact h
theorem OnlyEx.ite {ε : Type} {bs : List Block} {s : State} {a b : Except ε State} {c : Prop} [Decidable c] (ha : OnlyEx bs s a)
    (hb : OnlyEx bs s b) : OnlyEx bs s (if c then a else b) := by split <;> assumption
theorem OnlyEx.get {ε : Type} {bs : List Block} {s t : State} {o : Except ε State} (e : o = .ok t) (h : OnlyEx bs s o) : Only bs s t := h t e

theorem OnlyExP.error {ε β : Type} {bs : List Block} {s : State} {e : ε} : OnlyExP (β := β) bs s (.error e) := by intro r t h; cases h
theorem OnlyExP.ok {ε β : Type} {bs : List Block} {s : State} {a : β × State} (h : Only bs s a.2) : OnlyExP (ε := ε) bs s (.ok a) := by
  intro r t e; cases e; exact h
theorem OnlyExP.ite {ε β : Type} {bs : List Block} {s : State} {a b : Except ε (β × State)} {c : Prop} [Decidable c] (ha : OnlyExP bs s a)
    (hb : OnlyExP bs s b) : OnlyExP bs s (if c then a else b) := by split <;> assumption
theorem OnlyExP.get {ε β : Type} {bs : List Block} {s t : State} {r : β} {o : Except ε (β × State)} (e : o = .ok (r, t))
    (h : OnlyExP bs s o) : Only bs s t := h r t e

theorem OnlyOut.next {bs : List Block} {s a : State} (h : Only bs s a) : OnlyOut bs s (.next a) := by intro t e; cases e; exact h
theorem OnlyOut.ite {bs : List Block} {s : State} {a b : Outcome State Fault Refusal} {c : Prop} [Decidable c] (ha : OnlyOut bs s a)
    (hb : OnlyOut bs s b) : OnlyOut bs s (if c then a else b) := by split <;> assumption

/-! ### The updaters of the blocks -/

theorem onCfg_only {bs : List Block} {s0 s : State} {f : CfgSt → CfgSt} (hb : Block.cfg ∈ bs) (h : Only bs s0 s) :
    Only bs s0 (s.onCfg f) := by
  intro b hn; refine Same.trans (h b hn) ?_
  cases b <;> first | rfl | exact absurd hb hn

theorem onHosts_only {bs : List Block} {s0 s : State} {f : HostsSt → HostsSt} (hb : Block.hosts ∈ bs) (h : Only bs s0 s) :
    Only bs s0 (s.onHosts f) := by
  intro b hn; refine Same.trans (h b hn) ?_
  cases b <;> first | rfl | exact absurd hb hn

theorem onMains_only {bs : List Block} {s0 s : State} {f : MainsSt → MainsSt} (hb : Block.mains ∈ bs) (h : Only bs s0 s) :
    Only bs s0 (s.onMains f) := by
  intro b hn; refine Same.trans (h b hn) ?_
  cases b <;> first | rfl | exact absurd hb hn

theorem onSched_only {bs : List Block} {s0 s : State} {f : SchedSt → SchedSt} (hb : Block.sched ∈ bs) (h : Only bs s0 s) :
    Only bs s0 (s.onSched f) := by
  intro b hn; refine Same.trans (h b hn) ?_
  cases b <;> first | rfl | exact absurd hb hn

theorem onTime_only {bs : List Block} {s0 s : State} {f : TimeSt → TimeSt} (hb : Block.time ∈ bs) (h : Only bs s0 s) :
    Only bs s0 (s.onTime f) := by
  intro b hn; refine Same.trans (h b hn) ?_
  cases b <;> first | rfl | exact absurd hb hn

theorem onFab_only {bs : List Block} {s0 s : State} {f : FabSt → FabSt} (hb : Block.fab ∈ bs) (h : Only bs s0 s) :
    Only bs s0 (s.onFab f) := by
  intro b hn; refine Same.trans (h b hn) ?_
  cases b <;> first | rfl | exact absurd hb hn

theorem onEvt_only {bs : List Block} {s0 s : State} {f : EvtSt → EvtSt} (hb : Block.evt ∈ bs) (h : Only bs s0 s) :
    Only bs s0 (s.onEvt f) := by
  intro b hn; refine Same.trans (h b hn) ?_
  cases b <;> first | rfl | exact absurd hb hn

theorem onPwr_only {bs : List Block} {s0 s : State} {f : PwrSt → PwrSt} (hb : Block.pwr ∈ bs) (h : Only bs s0 s) :
    Only bs s0 (s.onPwr f) := by
  intro b hn; refine Same.trans (h b hn) ?_
  cases b <;> first | rfl | exact absurd hb hn

theorem onMet_only {bs : List Block} {s0 s : State} {f : MetSt → MetSt} (hb : Block.met ∈ bs) (h : Only bs s0 s) :
    Only bs s0 (s.onMet f) := by
  intro b hn; refine Same.trans (h b hn) ?_
  cases b <;> first | rfl | exact absurd hb hn

theorem onRad_only {bs : List Block} {s0 s : State} {f : RadSt → RadSt} (hb : Block.rad ∈ bs) (h : Only bs s0 s) :
    Only bs s0 (s.onRad f) := by
  intro b hn; refine Same.trans (h b hn) ?_
  cases b <;> first | rfl | exact absurd hb hn

theorem onLink_only {bs : List Block} {s0 s : State} {f : LinkSt → LinkSt} (hb : Block.link ∈ bs) (h : Only bs s0 s) :
    Only bs s0 (s.onLink f) := by
  intro b hn; refine Same.trans (h b hn) ?_
  cases b <;> first | rfl | exact absurd hb hn

theorem onPlc_only {bs : List Block} {s0 s : State} {f : PlcSt → PlcSt} (hb : Block.plc ∈ bs) (h : Only bs s0 s) :
    Only bs s0 (s.onPlc f) := by
  intro b hn; refine Same.trans (h b hn) ?_
  cases b <;> first | rfl | exact absurd hb hn

theorem onSess_only {bs : List Block} {s0 s : State} {f : SessSt → SessSt} (hb : Block.sess ∈ bs) (h : Only bs s0 s) :
    Only bs s0 (s.onSess f) := by
  intro b hn; refine Same.trans (h b hn) ?_
  cases b <;> first | rfl | exact absurd hb hn

theorem onVee_only {bs : List Block} {s0 s : State} {f : VeeSt → VeeSt} (hb : Block.vee ∈ bs) (h : Only bs s0 s) :
    Only bs s0 (s.onVee f) := by
  intro b hn; refine Same.trans (h b hn) ?_
  cases b <;> first | rfl | exact absurd hb hn

theorem onBal_only {bs : List Block} {s0 s : State} {f : BalSt → BalSt} (hb : Block.bal ∈ bs) (h : Only bs s0 s) :
    Only bs s0 (s.onBal f) := by
  intro b hn; refine Same.trans (h b hn) ?_
  cases b <;> first | rfl | exact absurd hb hn

theorem onArch_only {bs : List Block} {s0 s : State} {f : ArchSt → ArchSt} (hb : Block.arch ∈ bs) (h : Only bs s0 s) :
    Only bs s0 (s.onArch f) := by
  intro b hn; refine Same.trans (h b hn) ?_
  cases b <;> first | rfl | exact absurd hb hn

theorem onUpl_only {bs : List Block} {s0 s : State} {f : UplSt → UplSt} (hb : Block.upl ∈ bs) (h : Only bs s0 s) :
    Only bs s0 (s.onUpl f) := by
  intro b hn; refine Same.trans (h b hn) ?_
  cases b <;> first | rfl | exact absurd hb hn

theorem onFleet_only {bs : List Block} {s0 s : State} {f : FleetSt → FleetSt} (hb : Block.fleet ∈ bs) (h : Only bs s0 s) :
    Only bs s0 (s.onFleet f) := by
  intro b hn; refine Same.trans (h b hn) ?_
  cases b <;> first | rfl | exact absurd hb hn

theorem onPocket_only {bs : List Block} {s0 s : State} {f : KeySt → KeySt} (hb : Block.pocket ∈ bs) (h : Only bs s0 s) :
    Only bs s0 (s.onPocket f) := by
  intro b hn; refine Same.trans (h b hn) ?_
  cases b <;> first | rfl | exact absurd hb hn

theorem onFwu_only {bs : List Block} {s0 s : State} {f : FwuSt → FwuSt} (hb : Block.fwu ∈ bs) (h : Only bs s0 s) :
    Only bs s0 (s.onFwu f) := by
  intro b hn; refine Same.trans (h b hn) ?_
  cases b <;> first | rfl | exact absurd hb hn

theorem onPair_only {bs : List Block} {s0 s : State} {f : PairSt → PairSt} (hb : Block.pair ∈ bs) (h : Only bs s0 s) :
    Only bs s0 (s.onPair f) := by
  intro b hn; refine Same.trans (h b hn) ?_
  cases b <;> first | rfl | exact absurd hb hn

theorem onReg_only {bs : List Block} {s0 s : State} {f : RegSt → RegSt} (hb : Block.reg ∈ bs) (h : Only bs s0 s) :
    Only bs s0 (s.onReg f) := by
  intro b hn; refine Same.trans (h b hn) ?_
  cases b <;> first | rfl | exact absurd hb hn

theorem Only.free {bs : List Block} {s0 s : State} {n : Nat} (hb : Block.free ∈ bs) (h : Only bs s0 s) : Only bs s0 { s with free := n } := by
  intro b hn; refine Same.trans (h b hn) ?_
  cases b <;> first | rfl | exact absurd hb hn

end Sys2Proof.Machine
end

