-- ==== Sys2Proof/Laws/FramesMetering.lean ====
section
/-! SUPPORT. The frames of shared operations, the scheduler, metering, registers and the Seam: each operation changes no block of State outside its list. Every lemma has
one form: what changes no block outside `bs` so far still does not after the operation, when the list stands in `bs`. -/

namespace Sys2Proof.Machine

open Host (Outcome)

set_option maxHeartbeats 400000
set_option Elab.async false
set_option maxRecDepth 4000
set_option linter.unusedVariables false

/-! ### Ops -/

theorem st_takeFree_only {bs : List Block} {s0 : State} {s : State} (hSub : Block.sub [.free] bs = true) (hOnly : Only bs s0 s) :
    Only bs s0 (State.takeFree s).2 := by
  unfold State.takeFree
  with_reducible repeat' first
    | exact hOnly
    | refine Only.free (viaOne hSub) ?_

theorem tick_only {bs : List Block} {s0 : State} {dt : Nat} {s : State}
    (hSub : Block.sub [.time, .met] bs = true) (hOnly : Only bs s0 s) :
    Only bs s0 (tick dt s) := by
  unfold tick
  with_reducible repeat' first
    | exact hOnly
    | refine onMet_only (viaOne hSub) ?_
    | refine onTime_only (viaOne hSub) ?_
    | refine Only.ite ?_ ?_

theorem setSticky_only {bs : List Block} {s0 : State} {off : Nat} {mask : Word} {s : State}
    (hSub : Block.sub [.hosts] bs = true) (hOnly : Only bs s0 s) :
    Only bs s0 (setSticky off mask s) := by
  unfold setSticky
  with_reducible repeat' first
    | exact hOnly
    | refine onHosts_only (viaOne hSub) ?_

theorem pushEvent_only {bs : List Block} {s0 : State} {e : QEvent} {s : State}
    (hSub : Block.sub [.hosts, .evt] bs = true) (hOnly : Only bs s0 s) :
    Only bs s0 (pushEvent e s) := by
  unfold pushEvent
  with_reducible repeat' first
    | exact hOnly
    | refine setSticky_only (via hSub) ?_
    | refine onEvt_only (viaOne hSub) ?_
    | refine Only.ite ?_ ?_

theorem raise_only {bs : List Block} {s0 : State} {e : EvName} {source : Nat} {detail : List Byte} {s : State}
    (hSub : Block.sub [.hosts, .evt] bs = true) (hOnly : Only bs s0 s) :
    Only bs s0 (raise e source detail s) := by
  unfold raise
  with_reducible repeat' first
    | exact hOnly
    | refine pushEvent_only (via hSub) ?_

theorem mirror_only {bs : List Block} {s0 : State} {b : DeltaBody} {s : State}
    (hSub : Block.sub [.hosts, .evt, .pair] bs = true) (hOnly : Only bs s0 s) :
    Only bs s0 (mirror b s) := by
  unfold mirror
  with_reducible repeat' first
    | exact hOnly
    | assumption
    | refine raise_only (via hSub) ?_
    | refine setSticky_only (via hSub) ?_
    | refine onPair_only (viaOne hSub) ?_
    | refine Only.ite ?_ ?_
    | refine Only.ite1 ?_ ?_
    | refine Only.ite2 ?_ ?_
    | refine Only.foldl (fun _ _ _ => ?_) ?_
    | refine Only.foldl1 (fun _ _ _ => ?_) ?_
    | refine Only.foldl2 (fun _ _ _ => ?_) ?_
    | refine Only.eq1 (by assumption) ?_
    | refine Only.eq2 (by assumption) ?_
    | refine OnlyOpt.get (by assumption) ?_
    | refine OnlyOptP.get (by assumption) ?_
    | refine OnlyEx.get (by assumption) ?_
    | refine OnlyExP.get (by assumption) ?_
    | split
    | dsimp only

theorem st_setHost_only {bs : List Block} {s0 : State} {s : State} {h : Fin 4} {x : HostSt}
    (hSub : Block.sub [.hosts] bs = true) (hOnly : Only bs s0 s) :
    Only bs s0 (State.setHost s h x) := by
  unfold State.setHost
  with_reducible repeat' first
    | exact hOnly
    | refine onHosts_only (viaOne hSub) ?_

theorem setAlarm_only {bs : List Block} {s0 : State} {mask : Word} {s : State}
    (hSub : Block.sub [.hosts] bs = true) (hOnly : Only bs s0 s) :
    Only bs s0 (setAlarm mask s) := by
  unfold setAlarm
  with_reducible repeat' first
    | exact hOnly
    | refine onHosts_only (viaOne hSub) ?_

theorem respond_only {bs : List Block} {s0 : State} {h : Fin 4} {t : Taken} {r : Reply} {s : State}
    (hSub : Block.sub [.hosts] bs = true) (hOnly : Only bs s0 s) :
    Only bs s0 (respond h t r s) := by
  unfold respond
  with_reducible repeat' first
    | exact hOnly
    | refine st_setHost_only (via hSub) ?_
    | refine Only.ite ?_ ?_

theorem finish_only {bs : List Block} {s0 : State} {h : Fin 4} {t : Taken} {r : Reply} {s : State}
    (hSub : Block.sub [.hosts] bs = true) (hOnly : Only bs s0 s) :
    Only bs s0 (finish h t r s) := by
  unfold finish
  with_reducible repeat' first
    | exact hOnly
    | refine respond_only (via hSub) ?_
    | refine st_setHost_only (via hSub) ?_
    | split

theorem finishAt_only {bs : List Block} {s0 : State} {h : Nat} {t : Taken} {r : Reply} {s : State}
    (hSub : Block.sub [.hosts] bs = true) (hOnly : Only bs s0 s) :
    Only bs s0 (finishAt h t r s) := by
  unfold finishAt
  with_reducible repeat' first
    | exact hOnly
    | refine finish_only (via hSub) ?_
    | split

theorem runCmd_only {bs : List Block} {s0 : State} {opcode : Nat} {host : Fin 4} {f : Taken → State → State × Reply} {s : State}
    (hSub : Block.sub [.hosts] bs = true) (hOnly : Only bs s0 s) (hf : ∀ t y, Only bs s0 y → Only bs s0 (f t y).1) :
    Only bs s0 (runCmd opcode host f s) := by
  unfold runCmd
  split
  · exact hOnly
  · refine Only.ite ?_ hOnly
    refine Only.ite (respond_only (via hSub) ?_) (respond_only (via hSub) (hf _ _ ?_))
    all_goals exact onHosts_only (viaOne hSub) hOnly


theorem setRing_only {bs : List Block} {s0 : State} {r : RingSt} {s : State}
    (hSub : Block.sub [.hosts] bs = true) (hOnly : Only bs s0 s) :
    Only bs s0 (setRing r s) := by
  unfold setRing
  with_reducible repeat' first
    | exact hOnly
    | refine onHosts_only (viaOne hSub) ?_

theorem pushRing_only {bs : List Block} {s0 : State} {number : Nat} {item : List Byte} {s : State}
    (hSub : Block.sub [.hosts] bs = true) (hOnly : Only bs s0 s) :
    OnlyOpt bs s0 (pushRing number item s) := by
  unfold pushRing
  with_reducible repeat' first
    | exact hOnly
    | refine setRing_only (via hSub) ?_
    | refine onHosts_only (viaOne hSub) ?_
    | exact OnlyOpt.none
    | refine OnlyOpt.some ?_
    | refine OnlyOpt.ite ?_ ?_
    | split

theorem dropOnRing_only {bs : List Block} {s0 : State} {number : Nat} {s : State}
    (hSub : Block.sub [.hosts] bs = true) (hOnly : Only bs s0 s) :
    Only bs s0 (dropOnRing number s) := by
  unfold dropOnRing
  with_reducible repeat' first
    | exact hOnly
    | refine setRing_only (via hSub) ?_
    | refine onHosts_only (viaOne hSub) ?_
    | split

theorem tapRing_only {bs : List Block} {s0 : State} {number : Nat} {item : List Byte} {s : State}
    (hSub : Block.sub [.hosts] bs = true) (hOnly : Only bs s0 s) :
    Only bs s0 (tapRing number item s) := by
  unfold tapRing
  with_reducible repeat' first
    | exact hOnly
    | refine dropOnRing_only (via hSub) ?_
    | refine pushRing_only (via hSub) ?_
    | refine OnlyOpt.get (by assumption) ?_
    | split

theorem countRefused_only {bs : List Block} {s0 : State} {q : Nat} {s : State}
    (hSub : Block.sub [.fab] bs = true) (hOnly : Only bs s0 s) :
    Only bs s0 (countRefused q s) := by
  unfold countRefused
  with_reducible repeat' first
    | exact hOnly
    | refine onFab_only (viaOne hSub) ?_

theorem countPush_only {bs : List Block} {s0 : State} {q : Nat} {α : Type} {ring held : List α} {s : State}
    (hSub : Block.sub [.fab] bs = true) (hOnly : Only bs s0 s) :
    Only bs s0 (countPush q ring held s) := by
  unfold countPush
  with_reducible repeat' first
    | exact hOnly
    | assumption
    | refine countRefused_only (via hSub) ?_
    | refine Only.ite ?_ ?_
    | refine Only.ite1 ?_ ?_
    | refine Only.ite2 ?_ ?_
    | refine Only.eq1 (by assumption) ?_
    | refine Only.eq2 (by assumption) ?_
    | refine OnlyOpt.get (by assumption) ?_
    | refine OnlyOptP.get (by assumption) ?_
    | refine OnlyEx.get (by assumption) ?_
    | refine OnlyExP.get (by assumption) ?_
    | split
    | dsimp only

/-! ### Calendar -/

theorem commitRate_only {bs : List Block} {s0 : State} {cycle : Nat} {s : State}
    (hSub : Block.sub [.fab] bs = true) (hOnly : Only bs s0 s) :
    Only bs s0 (commitRate cycle s) := by
  unfold commitRate
  with_reducible repeat' first
    | exact hOnly
    | assumption
    | refine onFab_only (viaOne hSub) ?_
    | refine Only.ite ?_ ?_
    | refine Only.ite1 ?_ ?_
    | refine Only.ite2 ?_ ?_
    | refine Only.eq1 (by assumption) ?_
    | refine Only.eq2 (by assumption) ?_
    | refine OnlyOpt.get (by assumption) ?_
    | refine OnlyOptP.get (by assumption) ?_
    | refine OnlyEx.get (by assumption) ?_
    | refine OnlyExP.get (by assumption) ?_
    | split
    | dsimp only

/-! ### Sched -/

theorem closeSegment_only {bs : List Block} {s0 : State} {aligned : Bool} {s : State}
    (hSub : Block.sub [.mains, .arch] bs = true) (hOnly : Only bs s0 s) :
    Only bs s0 (closeSegment aligned s) := by
  unfold closeSegment
  with_reducible repeat' first
    | exact hOnly
    | assumption
    | refine onArch_only (viaOne hSub) ?_
    | refine onMains_only (viaOne hSub) ?_
    | refine Only.ite ?_ ?_
    | refine Only.ite1 ?_ ?_
    | refine Only.ite2 ?_ ?_
    | refine Only.eq1 (by assumption) ?_
    | refine Only.eq2 (by assumption) ?_
    | refine OnlyOpt.get (by assumption) ?_
    | refine OnlyOptP.get (by assumption) ?_
    | refine OnlyEx.get (by assumption) ?_
    | refine OnlyExP.get (by assumption) ?_
    | split
    | dsimp only

theorem dropEntries_only {bs : List Block} {s0 : State} {p : SchedEntry → Bool} {s : State}
    (hSub : Block.sub [.hosts, .sched, .evt, .pair] bs = true) (hOnly : Only bs s0 s) :
    Only bs s0 (dropEntries p s) := by
  unfold dropEntries
  with_reducible repeat' first
    | assumption
    | refine mirror_only (via hSub) ?_
    | refine onSched_only (viaOne hSub) ?_
    | refine Only.foldl (fun _ _ _ => ?_) ?_

theorem dropEntry_only {bs : List Block} {s0 : State} {seq : Nat} {s : State}
    (hSub : Block.sub [.hosts, .sched, .evt, .pair] bs = true) (hOnly : Only bs s0 s) :
    Only bs s0 (dropEntry seq s) := by
  unfold dropEntry
  with_reducible repeat' first
    | exact hOnly
    | refine dropEntries_only (via hSub) ?_

theorem dispatch_only {bs : List Block} {s0 : State} {p : SchedAction → Bool} {s : State}
    (hSub : Block.sub [.hosts, .sched, .evt, .pair] bs = true) (hOnly : Only bs s0 s) :
    OnlyOptP bs s0 (dispatch p s) := by
  unfold dispatch
  with_reducible repeat' first
    | exact hOnly
    | refine dropEntry_only (via hSub) ?_
    | refine setSticky_only (via hSub) ?_
    | refine onHosts_only (viaOne hSub) ?_
    | exact OnlyOptP.none
    | refine OnlyOptP.some ?_
    | refine OnlyOptP.ite ?_ ?_
    | split

theorem place_only {bs : List Block} {s0 : State} {e : SchedEntry} {s : State}
    (hSub : Block.sub [.hosts, .sched, .evt, .pair] bs = true) (hOnly : Only bs s0 s) :
    OnlyOpt bs s0 (place e s) := by
  unfold place
  with_reducible repeat' first
    | exact hOnly
    | refine mirror_only (via hSub) ?_
    | refine onSched_only (viaOne hSub) ?_
    | exact OnlyOpt.none
    | refine OnlyOpt.some ?_
    | refine OnlyOpt.ite ?_ ?_
    | refine Only.ite ?_ ?_

theorem placeOr_only {bs : List Block} {s0 : State} {e : SchedEntry} {s : State}
    (hSub : Block.sub [.hosts, .sched, .evt, .pair] bs = true) (hOnly : Only bs s0 s) :
    Only bs s0 (placeOr e s) := by
  unfold placeOr
  with_reducible repeat' first
    | exact hOnly
    | refine place_only (via hSub) ?_
    | refine Only.getD ?_ ?_

theorem placeSeries_only {bs : List Block} {s0 : State} {a : SchedAction} {base : Nat} {s : State}
    (hSub : Block.sub [.hosts, .sched, .evt, .pair] bs = true) (hOnly : Only bs s0 s) :
    Only bs s0 (placeSeries a base s) := by
  unfold placeSeries
  with_reducible repeat' first
    | exact hOnly
    | assumption
    | refine placeOr_only (via hSub) ?_
    | refine dropEntries_only (via hSub) ?_
    | refine Only.ite ?_ ?_
    | refine Only.ite1 ?_ ?_
    | refine Only.ite2 ?_ ?_
    | refine Only.eq1 (by assumption) ?_
    | refine Only.eq2 (by assumption) ?_
    | refine OnlyOpt.get (by assumption) ?_
    | refine OnlyOptP.get (by assumption) ?_
    | refine OnlyEx.get (by assumption) ?_
    | refine OnlyExP.get (by assumption) ?_
    | split
    | dsimp only

theorem placeFrom_only {bs : List Block} {s0 : State} {s : State} {a : SchedAction}
    (hSub : Block.sub [.hosts, .sched, .evt, .pair] bs = true) (hOnly : Only bs s0 s) :
    Only bs s0 (placeFrom s a) := by
  unfold placeFrom
  with_reducible repeat' first
    | exact hOnly
    | assumption
    | refine placeSeries_only (via hSub) ?_
    | refine onSched_only (viaOne hSub) ?_
    | refine Only.ite ?_ ?_
    | refine Only.ite1 ?_ ?_
    | refine Only.ite2 ?_ ?_
    | refine Only.eq1 (by assumption) ?_
    | refine Only.eq2 (by assumption) ?_
    | refine OnlyOpt.get (by assumption) ?_
    | refine OnlyOptP.get (by assumption) ?_
    | refine OnlyEx.get (by assumption) ?_
    | refine OnlyExP.get (by assumption) ?_
    | split
    | dsimp only

theorem placeAllSeries_only {bs : List Block} {s0 : State} {s : State}
    (hSub : Block.sub [.hosts, .sched, .evt, .pair] bs = true) (hOnly : Only bs s0 s) :
    Only bs s0 (placeAllSeries s) := by
  unfold placeAllSeries
  with_reducible repeat' first
    | exact hOnly
    | assumption
    | refine placeFrom_only (via hSub) ?_
    | refine Only.ite ?_ ?_
    | refine Only.ite1 ?_ ?_
    | refine Only.ite2 ?_ ?_
    | refine Only.foldl (fun _ _ _ => ?_) ?_
    | refine Only.foldl1 (fun _ _ _ => ?_) ?_
    | refine Only.foldl2 (fun _ _ _ => ?_) ?_
    | refine Only.eq1 (by assumption) ?_
    | refine Only.eq2 (by assumption) ?_
    | refine OnlyOpt.get (by assumption) ?_
    | refine OnlyOptP.get (by assumption) ?_
    | refine OnlyEx.get (by assumption) ?_
    | refine OnlyExP.get (by assumption) ?_
    | split
    | dsimp only

theorem refireSeries_only {bs : List Block} {s0 : State} {e : SchedEntry} {s : State}
    (hSub : Block.sub [.hosts, .sched, .evt, .pair] bs = true) (hOnly : Only bs s0 s) :
    Only bs s0 (refireSeries e s) := by
  unfold refireSeries
  with_reducible repeat' first
    | exact hOnly
    | assumption
    | refine placeSeries_only (via hSub) ?_
    | refine onSched_only (viaOne hSub) ?_
    | refine Only.ite ?_ ?_
    | refine Only.ite1 ?_ ?_
    | refine Only.ite2 ?_ ?_
    | refine Only.eq1 (by assumption) ?_
    | refine Only.eq2 (by assumption) ?_
    | refine OnlyOpt.get (by assumption) ?_
    | refine OnlyOptP.get (by assumption) ?_
    | refine OnlyEx.get (by assumption) ?_
    | refine OnlyExP.get (by assumption) ?_
    | split
    | dsimp only

theorem reconvertAll_only {bs : List Block} {s0 : State} {s : State} (hSub : Block.sub [.sched] bs = true) (hOnly : Only bs s0 s) :
    Only bs s0 (reconvertAll s) := by
  unfold reconvertAll
  with_reducible repeat' first
    | exact hOnly
    | assumption
    | refine onSched_only (viaOne hSub) ?_
    | refine Only.ite ?_ ?_
    | refine Only.ite1 ?_ ?_
    | refine Only.ite2 ?_ ?_
    | refine Only.eq1 (by assumption) ?_
    | refine Only.eq2 (by assumption) ?_
    | refine OnlyOpt.get (by assumption) ?_
    | refine OnlyOptP.get (by assumption) ?_
    | refine OnlyEx.get (by assumption) ?_
    | refine OnlyExP.get (by assumption) ?_
    | split
    | dsimp only

theorem lateSkipped_only {bs : List Block} {s0 : State} {lo hi : Nat} {s : State}
    (hSub : Block.sub [.hosts, .sched, .evt, .pair] bs = true) (hOnly : Only bs s0 s) :
    Only bs s0 (lateSkipped lo hi s) := by
  unfold lateSkipped
  with_reducible repeat' first
    | exact hOnly
    | assumption
    | refine placeOr_only (via hSub) ?_
    | refine onSched_only (viaOne hSub) ?_
    | refine Only.ite ?_ ?_
    | refine Only.ite1 ?_ ?_
    | refine Only.ite2 ?_ ?_
    | refine Only.foldl (fun _ _ _ => ?_) ?_
    | refine Only.foldl1 (fun _ _ _ => ?_) ?_
    | refine Only.foldl2 (fun _ _ _ => ?_) ?_
    | refine Only.eq1 (by assumption) ?_
    | refine Only.eq2 (by assumption) ?_
    | refine OnlyOpt.get (by assumption) ?_
    | refine OnlyOptP.get (by assumption) ?_
    | refine OnlyEx.get (by assumption) ?_
    | refine OnlyExP.get (by assumption) ?_
    | split
    | dsimp only

/-! ### Emit -/

theorem pushQ4_only {bs : List Block} {s0 : State} {r : Record} {s : State}
    (hSub : Block.sub [.fab, .sess] bs = true) (hOnly : Only bs s0 s) :
    Only bs s0 (pushQ4 r s) := by
  unfold pushQ4
  with_reducible repeat' first
    | exact hOnly
    | assumption
    | refine countPush_only (via hSub) ?_
    | refine onSess_only (viaOne hSub) ?_
    | refine Only.ite ?_ ?_
    | refine Only.ite1 ?_ ?_
    | refine Only.ite2 ?_ ?_
    | refine Only.eq1 (by assumption) ?_
    | refine Only.eq2 (by assumption) ?_
    | refine OnlyOpt.get (by assumption) ?_
    | refine OnlyOptP.get (by assumption) ?_
    | refine OnlyEx.get (by assumption) ?_
    | refine OnlyExP.get (by assumption) ?_
    | split
    | dsimp only

theorem pushRecord_only {bs : List Block} {s0 : State} {r : Record} {s : State}
    (hSub : Block.sub [.hosts, .fab, .sess] bs = true) (hOnly : Only bs s0 s) :
    Only bs s0 (pushRecord r s) := by
  unfold pushRecord
  with_reducible repeat' first
    | exact hOnly
    | assumption
    | refine pushQ4_only (via hSub) ?_
    | refine onHosts_only (viaOne hSub) ?_
    | refine onSess_only (viaOne hSub) ?_
    | refine Only.ite ?_ ?_
    | refine Only.ite1 ?_ ?_
    | refine Only.ite2 ?_ ?_
    | refine Only.eq1 (by assumption) ?_
    | refine Only.eq2 (by assumption) ?_
    | refine OnlyOpt.get (by assumption) ?_
    | refine OnlyOptP.get (by assumption) ?_
    | refine OnlyEx.get (by assumption) ?_
    | refine OnlyExP.get (by assumption) ?_
    | split
    | dsimp only

theorem emitOwn_only {bs : List Block} {s0 : State} {channel startKey : Nat} {value : Int} {flags : BitVec 16} {quality : Nat} {s : State}
    (hSub : Block.sub [.hosts, .fab, .sess] bs = true) (hOnly : Only bs s0 s) :
    Only bs s0 (emitOwn channel startKey value flags quality s) := by
  unfold emitOwn
  with_reducible repeat' first
    | exact hOnly
    | refine pushRecord_only (via hSub) ?_

theorem raiseCode_only {bs : List Block} {s0 : State} {code severity source : Nat} {detail : List Byte} {s : State}
    (hSub : Block.sub [.hosts, .evt] bs = true) (hOnly : Only bs s0 s) :
    Only bs s0 (raiseCode code severity source detail s) := by
  unfold raiseCode
  with_reducible repeat' first
    | exact hOnly
    | refine pushEvent_only (via hSub) ?_

/-! ### Dsp -/

theorem hearNotice_only {bs : List Block} {s0 : State} {n : LineNotice} {s : State}
    (hSub : Block.sub [.hosts, .evt] bs = true) (hOnly : Only bs s0 s) :
    Only bs s0 (hearNotice n s) := by
  unfold hearNotice
  with_reducible repeat' first
    | exact hOnly
    | assumption
    | refine raiseCode_only (via hSub) ?_
    | refine setAlarm_only (via hSub) ?_
    | refine raise_only (via hSub) ?_
    | refine setSticky_only (via hSub) ?_
    | refine onEvt_only (viaOne hSub) ?_
    | refine Only.ite ?_ ?_
    | refine Only.ite1 ?_ ?_
    | refine Only.ite2 ?_ ?_
    | refine Only.eq1 (by assumption) ?_
    | refine Only.eq2 (by assumption) ?_
    | refine OnlyOpt.get (by assumption) ?_
    | refine OnlyOptP.get (by assumption) ?_
    | refine OnlyEx.get (by assumption) ?_
    | refine OnlyExP.get (by assumption) ?_
    | split
    | dsimp only

theorem tellLogic_only {bs : List Block} {s0 : State} {n : LineNotice} {s : State}
    (hSub : Block.sub [.hosts, .fab, .evt] bs = true) (hOnly : Only bs s0 s) :
    Only bs s0 (tellLogic n s) := by
  unfold tellLogic
  with_reducible repeat' first
    | exact hOnly
    | assumption
    | refine hearNotice_only (via hSub) ?_
    | refine onFab_only (viaOne hSub) ?_
    | refine Only.ite ?_ ?_
    | refine Only.ite1 ?_ ?_
    | refine Only.ite2 ?_ ?_
    | refine Only.eq1 (by assumption) ?_
    | refine Only.eq2 (by assumption) ?_
    | refine OnlyOpt.get (by assumption) ?_
    | refine OnlyOptP.get (by assumption) ?_
    | refine OnlyEx.get (by assumption) ?_
    | refine OnlyExP.get (by assumption) ?_
    | split
    | dsimp only

theorem hearNotices_only {bs : List Block} {s0 : State} {s : State}
    (hSub : Block.sub [.hosts, .fab, .evt] bs = true) (hOnly : Only bs s0 s) :
    Only bs s0 (hearNotices s) := by
  unfold hearNotices
  with_reducible repeat' first
    | exact hOnly
    | assumption
    | refine hearNotice_only (via hSub) ?_
    | refine onFab_only (viaOne hSub) ?_
    | refine Only.ite ?_ ?_
    | refine Only.ite1 ?_ ?_
    | refine Only.ite2 ?_ ?_
    | refine Only.foldl (fun _ _ _ => ?_) ?_
    | refine Only.foldl1 (fun _ _ _ => ?_) ?_
    | refine Only.foldl2 (fun _ _ _ => ?_) ?_
    | refine Only.eq1 (by assumption) ?_
    | refine Only.eq2 (by assumption) ?_
    | refine OnlyOpt.get (by assumption) ?_
    | refine OnlyOptP.get (by assumption) ?_
    | refine OnlyEx.get (by assumption) ?_
    | refine OnlyExP.get (by assumption) ?_
    | split
    | dsimp only

theorem postLegal_only {bs : List Block} {s0 : State} {b : LegalBody} {s : State}
    (hSub : Block.sub [.fab] bs = true) (hOnly : Only bs s0 s) :
    Only bs s0 (postLegal b s) := by
  unfold postLegal
  with_reducible repeat' first
    | exact hOnly
    | assumption
    | refine onFab_only (viaOne hSub) ?_
    | refine Only.ite ?_ ?_
    | refine Only.ite1 ?_ ?_
    | refine Only.ite2 ?_ ?_
    | refine Only.eq1 (by assumption) ?_
    | refine Only.eq2 (by assumption) ?_
    | refine OnlyOpt.get (by assumption) ?_
    | refine OnlyOptP.get (by assumption) ?_
    | refine OnlyEx.get (by assumption) ?_
    | refine OnlyExP.get (by assumption) ?_
    | split
    | dsimp only

/-! ### Pq -/

theorem pqReport_only {bs : List Block} {s0 : State} {r : PqReport} {s : State}
    (hSub : Block.sub [.met] bs = true) (hOnly : Only bs s0 s) :
    Only bs s0 (pqReport r s) := by
  unfold pqReport
  with_reducible repeat' first
    | exact hOnly
    | assumption
    | refine onMet_only (viaOne hSub) ?_
    | refine Only.ite ?_ ?_
    | refine Only.ite1 ?_ ?_
    | refine Only.ite2 ?_ ?_
    | refine Only.eq1 (by assumption) ?_
    | refine Only.eq2 (by assumption) ?_
    | refine OnlyOpt.get (by assumption) ?_
    | refine OnlyOptP.get (by assumption) ?_
    | refine OnlyEx.get (by assumption) ?_
    | refine OnlyExP.get (by assumption) ?_
    | split
    | dsimp only

theorem pqClose_only {bs : List Block} {s0 : State} {swell : Bool} {index why : Nat} {s : State}
    (hSub : Block.sub [.met] bs = true) (hOnly : Only bs s0 s) :
    Only bs s0 (pqClose swell index why s) := by
  unfold pqClose
  with_reducible repeat' first
    | exact hOnly
    | refine pqReport_only (via hSub) ?_
    | refine onMet_only (viaOne hSub) ?_
    | split

theorem pqStart_only {bs : List Block} {s0 : State} {swell : Bool} {index : Nat} {e : PqOpen} {s : State}
    (hSub : Block.sub [.met] bs = true) (hOnly : Only bs s0 s) :
    Only bs s0 (pqStart swell index e s) := by
  unfold pqStart
  with_reducible repeat' first
    | exact hOnly
    | refine pqReport_only (via hSub) ?_
    | refine onMet_only (viaOne hSub) ?_

theorem pqStep_only {bs : List Block} {s0 : State} {swell begins ends unsync intr half : Bool} {index v : Nat} {s : State}
    (hSub : Block.sub [.met] bs = true) (hOnly : Only bs s0 s) :
    Only bs s0 (pqStep swell begins ends unsync intr half index v s) := by
  unfold pqStep
  with_reducible repeat' first
    | exact hOnly
    | refine pqStart_only (via hSub) ?_
    | refine pqClose_only (via hSub) ?_
    | refine onMet_only (viaOne hSub) ?_
    | split
    | dsimp only

theorem pqPhase_only {bs : List Block} {s0 : State} {n v : Nat} {unsync half : Bool} {s : State}
    (hSub : Block.sub [.met] bs = true) (hOnly : Only bs s0 s) :
    Only bs s0 (pqPhase n v unsync half s) := by
  unfold pqPhase
  with_reducible repeat' first
    | exact hOnly
    | assumption
    | refine pqStep_only (via hSub) ?_
    | refine pqClose_only (via hSub) ?_
    | refine Only.ite ?_ ?_
    | refine Only.ite1 ?_ ?_
    | refine Only.ite2 ?_ ?_
    | refine Only.eq1 (by assumption) ?_
    | refine Only.eq2 (by assumption) ?_
    | refine OnlyOpt.get (by assumption) ?_
    | refine OnlyOptP.get (by assumption) ?_
    | refine OnlyEx.get (by assumption) ?_
    | refine OnlyExP.get (by assumption) ?_
    | split
    | dsimp only

theorem pqPoly_only {bs : List Block} {s0 : State} {swell : Bool} {rms : List Nat} {was : List PqPhase} {unsync half : Bool} {s : State}
    (hSub : Block.sub [.met] bs = true) (hOnly : Only bs s0 s) :
    Only bs s0 (pqPoly swell rms was unsync half s) := by
  unfold pqPoly
  with_reducible repeat' first
    | exact hOnly
    | assumption
    | refine pqStep_only (via hSub) ?_
    | refine pqClose_only (via hSub) ?_
    | refine Only.ite ?_ ?_
    | refine Only.ite1 ?_ ?_
    | refine Only.ite2 ?_ ?_
    | refine Only.getD ?_ ?_
    | refine Only.foldl (fun _ _ _ => ?_) ?_
    | refine Only.foldl1 (fun _ _ _ => ?_) ?_
    | refine Only.foldl2 (fun _ _ _ => ?_) ?_
    | refine Only.eq1 (by assumption) ?_
    | refine Only.eq2 (by assumption) ?_
    | refine OnlyOpt.get (by assumption) ?_
    | refine OnlyOptP.get (by assumption) ?_
    | refine OnlyEx.get (by assumption) ?_
    | refine OnlyExP.get (by assumption) ?_
    | split
    | dsimp only

theorem showPq_only {bs : List Block} {s0 : State} {s : State} (hSub : Block.sub [.reg] bs = true) (hOnly : Only bs s0 s) :
    Only bs s0 (showPq s) := by
  unfold showPq
  with_reducible repeat' first
    | exact hOnly
    | assumption
    | refine onReg_only (viaOne hSub) ?_
    | refine Only.ite ?_ ?_
    | refine Only.ite1 ?_ ?_
    | refine Only.ite2 ?_ ?_
    | refine Only.eq1 (by assumption) ?_
    | refine Only.eq2 (by assumption) ?_
    | refine OnlyOpt.get (by assumption) ?_
    | refine OnlyOptP.get (by assumption) ?_
    | refine OnlyEx.get (by assumption) ?_
    | refine OnlyExP.get (by assumption) ?_
    | split
    | dsimp only

theorem takeCtl_only {bs : List Block} {s0 : State} {s : State} (hSub : Block.sub [.met, .reg] bs = true) (hOnly : Only bs s0 s) :
    Only bs s0 (takeCtl s) := by
  unfold takeCtl
  with_reducible repeat' first
    | exact hOnly
    | assumption
    | refine showPq_only (via hSub) ?_
    | refine pqClose_only (via hSub) ?_
    | refine onMet_only (viaOne hSub) ?_
    | refine Only.ite ?_ ?_
    | refine Only.ite1 ?_ ?_
    | refine Only.ite2 ?_ ?_
    | refine Only.foldl (fun _ _ _ => ?_) ?_
    | refine Only.foldl1 (fun _ _ _ => ?_) ?_
    | refine Only.foldl2 (fun _ _ _ => ?_) ?_
    | refine Only.eq1 (by assumption) ?_
    | refine Only.eq2 (by assumption) ?_
    | refine OnlyOpt.get (by assumption) ?_
    | refine OnlyOptP.get (by assumption) ?_
    | refine OnlyEx.get (by assumption) ?_
    | refine OnlyExP.get (by assumption) ?_
    | split
    | dsimp only

theorem pqTruncate_only {bs : List Block} {s0 : State} {s : State} (hSub : Block.sub [.met, .reg] bs = true) (hOnly : Only bs s0 s) :
    Only bs s0 (pqTruncate s) := by
  unfold pqTruncate
  with_reducible repeat' first
    | exact hOnly
    | assumption
    | refine showPq_only (via hSub) ?_
    | refine pqClose_only (via hSub) ?_
    | refine Only.ite ?_ ?_
    | refine Only.ite1 ?_ ?_
    | refine Only.ite2 ?_ ?_
    | refine Only.foldl (fun _ _ _ => ?_) ?_
    | refine Only.foldl1 (fun _ _ _ => ?_) ?_
    | refine Only.foldl2 (fun _ _ _ => ?_) ?_
    | refine Only.eq1 (by assumption) ?_
    | refine Only.eq2 (by assumption) ?_
    | refine OnlyOpt.get (by assumption) ?_
    | refine OnlyOptP.get (by assumption) ?_
    | refine OnlyEx.get (by assumption) ?_
    | refine OnlyExP.get (by assumption) ?_
    | split
    | dsimp only

theorem takePqReport_only {bs : List Block} {s0 : State} {r : PqReport} {s : State}
    (hSub : Block.sub [.hosts, .fab, .evt, .sess] bs = true) (hOnly : Only bs s0 s) :
    Only bs s0 (takePqReport r s) := by
  unfold takePqReport
  with_reducible repeat' first
    | exact hOnly
    | refine emitOwn_only (via hSub) ?_
    | refine raise_only (via hSub) ?_
    | refine Only.ite ?_ ?_

/-! ### Metro -/

theorem writeMlog_only {bs : List Block} {s0 : State} {kind arg : Nat} {data : List Byte} {cal : Bool} {s : State}
    (hSub : Block.sub [.hosts, .fab, .evt, .met] bs = true) (hOnly : Only bs s0 s) :
    Only bs s0 (writeMlog kind arg data cal s) := by
  unfold writeMlog
  with_reducible repeat' first
    | exact hOnly
    | assumption
    | refine postLegal_only (via hSub) ?_
    | refine tellLogic_only (via hSub) ?_
    | refine onMet_only (viaOne hSub) ?_
    | refine Only.ite ?_ ?_
    | refine Only.ite1 ?_ ?_
    | refine Only.ite2 ?_ ?_
    | refine Only.foldl (fun _ _ _ => ?_) ?_
    | refine Only.foldl1 (fun _ _ _ => ?_) ?_
    | refine Only.foldl2 (fun _ _ _ => ?_) ?_
    | refine Only.eq1 (by assumption) ?_
    | refine Only.eq2 (by assumption) ?_
    | refine OnlyOpt.get (by assumption) ?_
    | refine OnlyOptP.get (by assumption) ?_
    | refine OnlyEx.get (by assumption) ?_
    | refine OnlyExP.get (by assumption) ?_
    | split
    | dsimp only

theorem overloadRuns_only {bs : List Block} {s0 : State} {exceeds : BitVec 36} {s : State}
    (hSub : Block.sub [.hosts, .fab, .evt, .met] bs = true) (hOnly : Only bs s0 s) :
    Only bs s0 (overloadRuns exceeds s) := by
  unfold overloadRuns
  with_reducible repeat' first
    | assumption
    | refine writeMlog_only (via hSub) ?_
    | refine onMet_only (viaOne hSub) ?_
    | refine Only.ite ?_ ?_
    | refine Only.foldl (fun _ _ _ => ?_) ?_

theorem measureCycle_only {bs : List Block} {s0 : State} {e : CycleEnd} {f : Nat} {v : CycleVals} {l : List ChanIn} {c : CycleIn} {s : State}
    (hSub : Block.sub [.hosts, .fab, .evt, .met] bs = true) (hOnly : Only bs s0 s) :
    Only bs s0 (measureCycle e f v l c s) := by
  unfold measureCycle
  with_reducible repeat' first
    | exact hOnly
    | assumption
    | refine overloadRuns_only (via hSub) ?_
    | refine onMet_only (viaOne hSub) ?_
    | refine Only.ite ?_ ?_
    | refine Only.ite1 ?_ ?_
    | refine Only.ite2 ?_ ?_
    | refine Only.eq1 (by assumption) ?_
    | refine Only.eq2 (by assumption) ?_
    | refine OnlyOpt.get (by assumption) ?_
    | refine OnlyOptP.get (by assumption) ?_
    | refine OnlyEx.get (by assumption) ?_
    | refine OnlyExP.get (by assumption) ?_
    | split
    | dsimp only

theorem endDspCycle_only {bs : List Block} {s0 : State} {e : CycleEnd} {c : CycleIn} {s : State}
    (hSub : Block.sub [.hosts, .fab, .evt, .met, .reg] bs = true) (hOnly : Only bs s0 s) :
    Only bs s0 (endDspCycle e c s) := by
  unfold endDspCycle
  with_reducible repeat' first
    | exact hOnly
    | assumption
    | refine measureCycle_only (via hSub) ?_
    | refine takeCtl_only (via hSub) ?_
    | refine onMet_only (viaOne hSub) ?_
    | refine Only.ite ?_ ?_
    | refine Only.ite1 ?_ ?_
    | refine Only.ite2 ?_ ?_
    | refine Only.getD ?_ ?_
    | refine Only.eq1 (by assumption) ?_
    | refine Only.eq2 (by assumption) ?_
    | refine OnlyOpt.get (by assumption) ?_
    | refine OnlyOptP.get (by assumption) ?_
    | refine OnlyEx.get (by assumption) ?_
    | refine OnlyExP.get (by assumption) ?_
    | split
    | dsimp only

theorem abortSession_only {bs : List Block} {s0 : State} {cause : Nat} {s : State}
    (hSub : Block.sub [.hosts, .fab, .evt, .met] bs = true) (hOnly : Only bs s0 s) :
    Only bs s0 (abortSession cause s) := by
  unfold abortSession
  with_reducible repeat' first
    | exact hOnly
    | refine writeMlog_only (via hSub) ?_
    | refine finishAt_only (via hSub) ?_
    | refine onMet_only (viaOne hSub) ?_
    | split

theorem deliverCalImage_only {bs : List Block} {s0 : State} {readOk : Bool} {s : State}
    (hSub : Block.sub [.hosts, .fab, .evt, .met] bs = true) (hOnly : Only bs s0 s) :
    Only bs s0 (deliverCalImage readOk s) := by
  unfold deliverCalImage
  with_reducible repeat' first
    | exact hOnly
    | assumption
    | refine writeMlog_only (via hSub) ?_
    | refine onMet_only (viaOne hSub) ?_
    | refine Only.ite ?_ ?_
    | refine Only.ite1 ?_ ?_
    | refine Only.ite2 ?_ ?_
    | refine Only.eq1 (by assumption) ?_
    | refine Only.eq2 (by assumption) ?_
    | refine OnlyOpt.get (by assumption) ?_
    | refine OnlyOptP.get (by assumption) ?_
    | refine OnlyEx.get (by assumption) ?_
    | refine OnlyExP.get (by assumption) ?_
    | split
    | dsimp only

theorem deliverRegisters_only {bs : List Block} {s0 : State} {s : State}
    (hSub : Block.sub [.hosts, .fab, .evt, .met] bs = true) (hOnly : Only bs s0 s) :
    Only bs s0 (deliverRegisters s) := by
  unfold deliverRegisters
  with_reducible repeat' first
    | exact hOnly
    | assumption
    | refine writeMlog_only (via hSub) ?_
    | refine onMet_only (viaOne hSub) ?_
    | refine Only.ite ?_ ?_
    | refine Only.ite1 ?_ ?_
    | refine Only.ite2 ?_ ?_
    | refine Only.getD ?_ ?_
    | refine Only.foldl (fun _ _ _ => ?_) ?_
    | refine Only.foldl1 (fun _ _ _ => ?_) ?_
    | refine Only.foldl2 (fun _ _ _ => ?_) ?_
    | refine Only.eq1 (by assumption) ?_
    | refine Only.eq2 (by assumption) ?_
    | refine OnlyOpt.get (by assumption) ?_
    | refine OnlyOptP.get (by assumption) ?_
    | refine OnlyEx.get (by assumption) ?_
    | refine OnlyExP.get (by assumption) ?_
    | split
    | dsimp only

theorem metStatus_only {bs : List Block} {s0 : State} {_t : Taken} {s : State} (hSub : Block.sub [] bs = true) (hOnly : Only bs s0 s) :
    Only bs s0 (metStatus _t s).1 := by
  unfold metStatus
  with_reducible repeat' first
    | exact hOnly

theorem calOpen_only {bs : List Block} {s0 : State} {low : Bool} {h : Fin 4} {t : Taken} {s : State}
    (hSub : Block.sub [.hosts, .fab, .evt, .met] bs = true) (hOnly : Only bs s0 s) :
    Only bs s0 (calOpen low h t s).1 := by
  unfold calOpen
  with_reducible repeat' first
    | exact hOnly
    | assumption
    | refine writeMlog_only (via hSub) ?_
    | refine onMet_only (viaOne hSub) ?_
    | refine Only.ite ?_ ?_
    | refine Only.ite1 ?_ ?_
    | refine Only.ite2 ?_ ?_
    | refine Only.getD ?_ ?_
    | refine Only.eq1 (by assumption) ?_
    | refine Only.eq2 (by assumption) ?_
    | refine OnlyOpt.get (by assumption) ?_
    | refine OnlyOptP.get (by assumption) ?_
    | refine OnlyEx.get (by assumption) ?_
    | refine OnlyExP.get (by assumption) ?_
    | split
    | dsimp only

theorem ignoreRequest_only {bs : List Block} {s0 : State} {s : State} (hSub : Block.sub [.fab] bs = true) (hOnly : Only bs s0 s) :
    Only bs s0 (ignoreRequest s) := by
  unfold ignoreRequest
  with_reducible repeat' first
    | exact hOnly
    | assumption
    | refine onFab_only (viaOne hSub) ?_
    | refine Only.ite ?_ ?_
    | refine Only.ite1 ?_ ?_
    | refine Only.ite2 ?_ ?_
    | refine Only.eq1 (by assumption) ?_
    | refine Only.eq2 (by assumption) ?_
    | refine OnlyOpt.get (by assumption) ?_
    | refine OnlyOptP.get (by assumption) ?_
    | refine OnlyEx.get (by assumption) ?_
    | refine OnlyExP.get (by assumption) ?_
    | split
    | dsimp only

theorem calStep_only {bs : List Block} {s0 : State} {h : Fin 4} {t : Taken} {s : State}
    (hSub : Block.sub [.fab, .met] bs = true) (hOnly : Only bs s0 s) :
    Only bs s0 (calStep h t s).1 := by
  unfold calStep
  with_reducible repeat' first
    | exact hOnly
    | assumption
    | refine ignoreRequest_only (via hSub) ?_
    | refine onMet_only (viaOne hSub) ?_
    | refine Only.ite ?_ ?_
    | refine Only.ite1 ?_ ?_
    | refine Only.ite2 ?_ ?_
    | refine Only.eq1 (by assumption) ?_
    | refine Only.eq2 (by assumption) ?_
    | refine OnlyOpt.get (by assumption) ?_
    | refine OnlyOptP.get (by assumption) ?_
    | refine OnlyEx.get (by assumption) ?_
    | refine OnlyExP.get (by assumption) ?_
    | split
    | dsimp only

theorem calClose_only {bs : List Block} {s0 : State} {h : Fin 4} {t : Taken} {s : State}
    (hSub : Block.sub [.hosts, .fab, .evt, .met, .free] bs = true) (hOnly : Only bs s0 s) :
    Only bs s0 (calClose h t s).1 := by
  unfold calClose
  with_reducible repeat' first
    | exact hOnly
    | assumption
    | refine ignoreRequest_only (via hSub) ?_
    | refine abortSession_only (via hSub) ?_
    | refine writeMlog_only (via hSub) ?_
    | refine postLegal_only (via hSub) ?_
    | refine st_takeFree_only (via hSub) ?_
    | refine onMet_only (viaOne hSub) ?_
    | refine Only.ite ?_ ?_
    | refine Only.ite1 ?_ ?_
    | refine Only.ite2 ?_ ?_
    | refine Only.eq1 (by assumption) ?_
    | refine Only.eq2 (by assumption) ?_
    | refine OnlyOpt.get (by assumption) ?_
    | refine OnlyOptP.get (by assumption) ?_
    | refine OnlyEx.get (by assumption) ?_
    | refine OnlyExP.get (by assumption) ?_
    | split
    | dsimp only

theorem calRead_only {bs : List Block} {s0 : State} {t : Taken} {s : State} (hSub : Block.sub [] bs = true) (hOnly : Only bs s0 s) :
    Only bs s0 (calRead t s).1 := by
  unfold calRead
  with_reducible repeat' first
    | exact hOnly
    | assumption
    | refine Only.ite ?_ ?_
    | refine Only.ite1 ?_ ?_
    | refine Only.ite2 ?_ ?_
    | refine Only.eq1 (by assumption) ?_
    | refine Only.eq2 (by assumption) ?_
    | refine OnlyOpt.get (by assumption) ?_
    | refine OnlyOptP.get (by assumption) ?_
    | refine OnlyEx.get (by assumption) ?_
    | refine OnlyExP.get (by assumption) ?_
    | split
    | dsimp only

theorem harmRead_only {bs : List Block} {s0 : State} {t : Taken} {s : State} (hSub : Block.sub [] bs = true) (hOnly : Only bs s0 s) :
    Only bs s0 (harmRead t s).1 := by
  unfold harmRead
  with_reducible repeat' first
    | exact hOnly
    | split
    | dsimp only

/-! ### Pulse -/

theorem onPulse_only {bs : List Block} {s0 : State} {n : Nat} {f : PulseSt → PulseSt} {s : State}
    (hSub : Block.sub [.reg] bs = true) (hOnly : Only bs s0 s) :
    Only bs s0 (onPulse n f s) := by
  unfold onPulse
  with_reducible repeat' first
    | exact hOnly
    | refine onReg_only (viaOne hSub) ?_

theorem releasePulses_only {bs : List Block} {s0 : State} {s : State} (hSub : Block.sub [.reg] bs = true) (hOnly : Only bs s0 s) :
    Only bs s0 (releasePulses s) := by
  unfold releasePulses
  with_reducible repeat' first
    | exact hOnly
    | assumption
    | refine onReg_only (viaOne hSub) ?_
    | refine Only.ite ?_ ?_
    | refine Only.ite1 ?_ ?_
    | refine Only.ite2 ?_ ?_
    | refine Only.eq1 (by assumption) ?_
    | refine Only.eq2 (by assumption) ?_
    | refine OnlyOpt.get (by assumption) ?_
    | refine OnlyOptP.get (by assumption) ?_
    | refine OnlyEx.get (by assumption) ?_
    | refine OnlyExP.get (by assumption) ?_
    | split
    | dsimp only

theorem owePulses_only {bs : List Block} {s0 : State} {n : Nat} {cum : List Nat} {s : State}
    (hSub : Block.sub [.hosts, .evt, .reg] bs = true) (hOnly : Only bs s0 s) :
    Only bs s0 (owePulses n cum s) := by
  unfold owePulses
  with_reducible repeat' first
    | exact hOnly
    | assumption
    | refine onPulse_only (via hSub) ?_
    | refine raise_only (via hSub) ?_
    | refine setSticky_only (via hSub) ?_
    | refine Only.ite ?_ ?_
    | refine Only.ite1 ?_ ?_
    | refine Only.ite2 ?_ ?_
    | refine Only.getD ?_ ?_
    | refine Only.eq1 (by assumption) ?_
    | refine Only.eq2 (by assumption) ?_
    | refine OnlyOpt.get (by assumption) ?_
    | refine OnlyOptP.get (by assumption) ?_
    | refine OnlyEx.get (by assumption) ?_
    | refine OnlyExP.get (by assumption) ?_
    | split
    | dsimp only

theorem applyPulseCfg_only {bs : List Block} {s0 : State} {n : Nat} {c : PulseCfg} {s : State}
    (hSub : Block.sub [.cfg, .reg] bs = true) (hOnly : Only bs s0 s) :
    Only bs s0 (applyPulseCfg n c s) := by
  unfold applyPulseCfg
  with_reducible repeat' first
    | exact hOnly
    | assumption
    | refine onPulse_only (via hSub) ?_
    | refine onCfg_only (viaOne hSub) ?_
    | refine Only.ite ?_ ?_
    | refine Only.ite1 ?_ ?_
    | refine Only.ite2 ?_ ?_
    | refine Only.eq1 (by assumption) ?_
    | refine Only.eq2 (by assumption) ?_
    | refine OnlyOpt.get (by assumption) ?_
    | refine OnlyOptP.get (by assumption) ?_
    | refine OnlyEx.get (by assumption) ?_
    | refine OnlyExP.get (by assumption) ?_
    | split
    | dsimp only

theorem pulseSet_only {bs : List Block} {s0 : State} {t : Taken} {s : State} (hSub : Block.sub [.reg] bs = true) (hOnly : Only bs s0 s) :
    Only bs s0 (pulseSet t s).1 := by
  unfold pulseSet
  with_reducible repeat' first
    | exact hOnly
    | refine onPulse_only (via hSub) ?_
    | split
    | dsimp only

theorem pulseStatus_only {bs : List Block} {s0 : State} {t : Taken} {s : State} (hSub : Block.sub [] bs = true) (hOnly : Only bs s0 s) :
    Only bs s0 (pulseStatus t s).1 := by
  unfold pulseStatus
  with_reducible repeat' first
    | exact hOnly
    | split
    | dsimp only

/-! ### Energy -/

theorem takeResult_only {bs : List Block} {s0 : State} {r : ResultSet} {s : State}
    (hSub : Block.sub [.hosts, .mains, .evt, .pair, .reg] bs = true) (hOnly : Only bs s0 s) :
    Only bs s0 (takeResult r s) := by
  unfold takeResult
  with_reducible repeat' first
    | exact hOnly
    | assumption
    | refine owePulses_only (via hSub) ?_
    | refine onMains_only (viaOne hSub) ?_
    | refine onPair_only (viaOne hSub) ?_
    | refine onReg_only (viaOne hSub) ?_
    | refine Only.ite ?_ ?_
    | refine Only.ite1 ?_ ?_
    | refine Only.ite2 ?_ ?_
    | refine Only.getD ?_ ?_
    | refine Only.foldl (fun _ _ _ => ?_) ?_
    | refine Only.foldl1 (fun _ _ _ => ?_) ?_
    | refine Only.foldl2 (fun _ _ _ => ?_) ?_
    | refine Only.eq1 (by assumption) ?_
    | refine Only.eq2 (by assumption) ?_
    | refine OnlyOpt.get (by assumption) ?_
    | refine OnlyOptP.get (by assumption) ?_
    | refine OnlyEx.get (by assumption) ?_
    | refine OnlyExP.get (by assumption) ?_
    | split
    | dsimp only

theorem pushResult_only {bs : List Block} {s0 : State} {s : State}
    (hSub : Block.sub [.fab, .met, .reg] bs = true) (hOnly : Only bs s0 s) :
    Only bs s0 (pushResult s) := by
  unfold pushResult
  with_reducible repeat' first
    | exact hOnly
    | assumption
    | refine countRefused_only (via hSub) ?_
    | refine onMet_only (viaOne hSub) ?_
    | refine onReg_only (viaOne hSub) ?_
    | refine Only.ite ?_ ?_
    | refine Only.ite1 ?_ ?_
    | refine Only.ite2 ?_ ?_
    | refine Only.eq1 (by assumption) ?_
    | refine Only.eq2 (by assumption) ?_
    | refine OnlyOpt.get (by assumption) ?_
    | refine OnlyOptP.get (by assumption) ?_
    | refine OnlyEx.get (by assumption) ?_
    | refine OnlyExP.get (by assumption) ?_
    | split
    | dsimp only

theorem takeQ9_only {bs : List Block} {s0 : State} {s : State}
    (hSub : Block.sub [.hosts, .mains, .evt, .pair, .reg] bs = true) (hOnly : Only bs s0 s) :
    Only bs s0 (takeQ9 s) := by
  unfold takeQ9
  with_reducible repeat' first
    | exact hOnly
    | assumption
    | refine takeResult_only (via hSub) ?_
    | refine onReg_only (viaOne hSub) ?_
    | refine Only.ite ?_ ?_
    | refine Only.ite1 ?_ ?_
    | refine Only.ite2 ?_ ?_
    | refine Only.eq1 (by assumption) ?_
    | refine Only.eq2 (by assumption) ?_
    | refine OnlyOpt.get (by assumption) ?_
    | refine OnlyOptP.get (by assumption) ?_
    | refine OnlyEx.get (by assumption) ?_
    | refine OnlyExP.get (by assumption) ?_
    | split
    | dsimp only

theorem completeDemand_only {bs : List Block} {s0 : State} {n : Nat} {w : EnWindow} {s : State}
    (hSub : Block.sub [.hosts, .fab, .sess, .reg] bs = true) (hOnly : Only bs s0 s) :
    Only bs s0 (completeDemand n w s) := by
  unfold completeDemand
  with_reducible repeat' first
    | exact hOnly
    | assumption
    | refine emitOwn_only (via hSub) ?_
    | refine onReg_only (viaOne hSub) ?_
    | refine Only.ite ?_ ?_
    | refine Only.ite1 ?_ ?_
    | refine Only.ite2 ?_ ?_
    | refine Only.getD ?_ ?_
    | refine Only.foldl (fun _ _ _ => ?_) ?_
    | refine Only.foldl1 (fun _ _ _ => ?_) ?_
    | refine Only.foldl2 (fun _ _ _ => ?_) ?_
    | refine Only.eq1 (by assumption) ?_
    | refine Only.eq2 (by assumption) ?_
    | refine OnlyOpt.get (by assumption) ?_
    | refine OnlyOptP.get (by assumption) ?_
    | refine OnlyEx.get (by assumption) ?_
    | refine OnlyExP.get (by assumption) ?_
    | split
    | dsimp only

theorem completeSeries_only {bs : List Block} {s0 : State} {f : Nat} {w : EnWindow} {s : State}
    (hSub : Block.sub [.hosts, .fab, .evt, .sess] bs = true) (hOnly : Only bs s0 s) :
    Only bs s0 (completeSeries f w s) := by
  unfold completeSeries
  with_reducible repeat' first
    | exact hOnly
    | assumption
    | refine emitOwn_only (via hSub) ?_
    | refine raise_only (via hSub) ?_
    | refine Only.ite ?_ ?_
    | refine Only.ite1 ?_ ?_
    | refine Only.ite2 ?_ ?_
    | refine Only.getD ?_ ?_
    | refine Only.foldl (fun _ _ _ => ?_) ?_
    | refine Only.foldl1 (fun _ _ _ => ?_) ?_
    | refine Only.foldl2 (fun _ _ _ => ?_) ?_
    | refine Only.eq1 (by assumption) ?_
    | refine Only.eq2 (by assumption) ?_
    | refine OnlyOpt.get (by assumption) ?_
    | refine OnlyOptP.get (by assumption) ?_
    | refine OnlyEx.get (by assumption) ?_
    | refine OnlyExP.get (by assumption) ?_
    | split
    | dsimp only

theorem completeBilling_only {bs : List Block} {s0 : State} {c : Closing} {s : State}
    (hSub : Block.sub [.hosts, .fab, .sess, .reg] bs = true) (hOnly : Only bs s0 s) :
    Only bs s0 (completeBilling c s) := by
  unfold completeBilling
  with_reducible repeat' first
    | exact hOnly
    | assumption
    | refine emitOwn_only (via hSub) ?_
    | refine onReg_only (viaOne hSub) ?_
    | refine Only.ite ?_ ?_
    | refine Only.ite1 ?_ ?_
    | refine Only.ite2 ?_ ?_
    | refine Only.getD ?_ ?_
    | refine Only.foldl (fun _ _ _ => ?_) ?_
    | refine Only.foldl1 (fun _ _ _ => ?_) ?_
    | refine Only.foldl2 (fun _ _ _ => ?_) ?_
    | refine Only.eq1 (by assumption) ?_
    | refine Only.eq2 (by assumption) ?_
    | refine OnlyOpt.get (by assumption) ?_
    | refine OnlyOptP.get (by assumption) ?_
    | refine OnlyEx.get (by assumption) ?_
    | refine OnlyExP.get (by assumption) ?_
    | split
    | dsimp only

theorem completeFirst_only {bs : List Block} {s0 : State} {s : State}
    (hSub : Block.sub [.hosts, .fab, .evt, .sess, .reg] bs = true) (hOnly : Only bs s0 s) :
    Only bs s0 (completeFirst s) := by
  unfold completeFirst
  with_reducible repeat' first
    | exact hOnly
    | assumption
    | refine completeBilling_only (via hSub) ?_
    | refine completeSeries_only (via hSub) ?_
    | refine completeDemand_only (via hSub) ?_
    | refine onReg_only (viaOne hSub) ?_
    | refine Only.ite ?_ ?_
    | refine Only.ite1 ?_ ?_
    | refine Only.ite2 ?_ ?_
    | refine Only.eq1 (by assumption) ?_
    | refine Only.eq2 (by assumption) ?_
    | refine OnlyOpt.get (by assumption) ?_
    | refine OnlyOptP.get (by assumption) ?_
    | refine OnlyEx.get (by assumption) ?_
    | refine OnlyExP.get (by assumption) ?_
    | split
    | dsimp only

theorem missedEvent_only {bs : List Block} {s0 : State} {e : SchedEntry} {s : State}
    (hSub : Block.sub [.hosts, .evt] bs = true) (hOnly : Only bs s0 s) :
    Only bs s0 (missedEvent e s) := by
  unfold missedEvent
  with_reducible repeat' first
    | exact hOnly
    | refine raise_only (via hSub) ?_
    | split

theorem closeWindow_only {bs : List Block} {s0 : State} {k : Nat} {e : SchedEntry} {s : State}
    (hSub : Block.sub [.hosts, .evt, .pair, .reg] bs = true) (hOnly : Only bs s0 s) :
    Only bs s0 (closeWindow k e s) := by
  unfold closeWindow
  with_reducible repeat' first
    | exact hOnly
    | assumption
    | refine mirror_only (via hSub) ?_
    | refine onReg_only (viaOne hSub) ?_
    | refine Only.ite ?_ ?_
    | refine Only.ite1 ?_ ?_
    | refine Only.ite2 ?_ ?_
    | refine Only.getD ?_ ?_
    | refine Only.eq1 (by assumption) ?_
    | refine Only.eq2 (by assumption) ?_
    | refine OnlyOpt.get (by assumption) ?_
    | refine OnlyOptP.get (by assumption) ?_
    | refine OnlyEx.get (by assumption) ?_
    | refine OnlyExP.get (by assumption) ?_
    | split
    | dsimp only

theorem fireClose_only {bs : List Block} {s0 : State} {k : Nat} {e : SchedEntry} {s : State}
    (hSub : Block.sub [.hosts, .sched, .evt, .pair, .reg] bs = true) (hOnly : Only bs s0 s) :
    Only bs s0 (fireClose k e s) := by
  unfold fireClose
  with_reducible repeat' first
    | exact hOnly
    | refine closeWindow_only (via hSub) ?_
    | refine missedEvent_only (via hSub) ?_
    | refine refireSeries_only (via hSub) ?_
    | refine onReg_only (viaOne hSub) ?_
    | refine Only.ite ?_ ?_

theorem tariffSet_only {bs : List Block} {s0 : State} {h : Fin 4} {t : Taken} {s : State}
    (hSub : Block.sub [.fab, .reg] bs = true) (hOnly : Only bs s0 s) :
    Only bs s0 (tariffSet h t s).1 := by
  unfold tariffSet
  with_reducible repeat' first
    | exact hOnly
    | refine commitRate_only (via hSub) ?_
    | refine onReg_only (viaOne hSub) ?_
    | split
    | dsimp only

theorem regRead_only {bs : List Block} {s0 : State} {t : Taken} {s : State} (hSub : Block.sub [] bs = true) (hOnly : Only bs s0 s) :
    Only bs s0 (regRead t s).1 := by
  unfold regRead
  with_reducible repeat' first
    | exact hOnly
    | split
    | dsimp only

theorem demandRead_only {bs : List Block} {s0 : State} {t : Taken} {s : State} (hSub : Block.sub [] bs = true) (hOnly : Only bs s0 s) :
    Only bs s0 (demandRead t s).1 := by
  unfold demandRead
  with_reducible repeat' first
    | exact hOnly
    | split
    | dsimp only

theorem billingClose_only {bs : List Block} {s0 : State} {t : Taken} {s : State}
    (hSub : Block.sub [.hosts, .sched, .evt, .pair, .reg] bs = true) (hOnly : Only bs s0 s) :
    Only bs s0 (billingClose t s).1 := by
  unfold billingClose
  with_reducible repeat' first
    | exact hOnly
    | refine onReg_only (viaOne hSub) ?_
    | refine place_only (via hSub) ?_
    | refine OnlyOpt.get (by assumption) ?_
    | split
    | dsimp only

/-! ### Seam -/

theorem writeLegal_only {bs : List Block} {s0 : State} {b : LegalBody} {s : State}
    (hSub : Block.sub [.hosts, .evt, .pwr, .met] bs = true) (hOnly : Only bs s0 s) :
    Only bs s0 (writeLegal b s) := by
  unfold writeLegal
  with_reducible repeat' first
    | exact hOnly
    | assumption
    | refine raiseCode_only (via hSub) ?_
    | refine onMet_only (viaOne hSub) ?_
    | refine onPwr_only (viaOne hSub) ?_
    | refine Only.ite ?_ ?_
    | refine Only.ite1 ?_ ?_
    | refine Only.ite2 ?_ ?_
    | refine Only.foldl (fun _ _ _ => ?_) ?_
    | refine Only.foldl1 (fun _ _ _ => ?_) ?_
    | refine Only.foldl2 (fun _ _ _ => ?_) ?_
    | refine Only.eq1 (by assumption) ?_
    | refine Only.eq2 (by assumption) ?_
    | refine OnlyOpt.get (by assumption) ?_
    | refine OnlyOptP.get (by assumption) ?_
    | refine OnlyEx.get (by assumption) ?_
    | refine OnlyExP.get (by assumption) ?_
    | split
    | dsimp only

theorem takeLegal_only {bs : List Block} {s0 : State} {q : Nat} {s : State}
    (hSub : Block.sub [.hosts, .fab, .evt, .pwr, .met] bs = true) (hOnly : Only bs s0 s) :
    Only bs s0 (takeLegal q s) := by
  unfold takeLegal
  with_reducible repeat' first
    | exact hOnly
    | assumption
    | refine writeLegal_only (via hSub) ?_
    | refine onFab_only (viaOne hSub) ?_
    | refine Only.ite ?_ ?_
    | refine Only.ite1 ?_ ?_
    | refine Only.ite2 ?_ ?_
    | refine Only.eq1 (by assumption) ?_
    | refine Only.eq2 (by assumption) ?_
    | refine OnlyOpt.get (by assumption) ?_
    | refine OnlyOptP.get (by assumption) ?_
    | refine OnlyEx.get (by assumption) ?_
    | refine OnlyExP.get (by assumption) ?_
    | split
    | dsimp only

theorem takeUpFrame_only {bs : List Block} {s0 : State} {q : Nat} {b : SeamRx} {s : State}
    (hSub : Block.sub [.hosts, .fab, .evt, .pwr, .met] bs = true) (hOnly : Only bs s0 s) :
    Only bs s0 (takeUpFrame q b s) := by
  unfold takeUpFrame
  with_reducible repeat' first
    | exact hOnly
    | assumption
    | refine takeLegal_only (via hSub) ?_
    | refine hearNotices_only (via hSub) ?_
    | refine onFab_only (viaOne hSub) ?_
    | refine onMet_only (viaOne hSub) ?_
    | refine onPwr_only (viaOne hSub) ?_
    | refine Only.ite ?_ ?_
    | refine Only.ite1 ?_ ?_
    | refine Only.ite2 ?_ ?_
    | refine Only.eq1 (by assumption) ?_
    | refine Only.eq2 (by assumption) ?_
    | refine OnlyOpt.get (by assumption) ?_
    | refine OnlyOptP.get (by assumption) ?_
    | refine OnlyEx.get (by assumption) ?_
    | refine OnlyExP.get (by assumption) ?_
    | split
    | dsimp only

theorem markGaps_only {bs : List Block} {s0 : State} {s : State} (hSub : Block.sub [.fab] bs = true) (hOnly : Only bs s0 s) :
    Only bs s0 (markGaps s) := by
  unfold markGaps
  with_reducible repeat' first
    | exact hOnly
    | assumption
    | refine onFab_only (viaOne hSub) ?_
    | refine Only.ite ?_ ?_
    | refine Only.ite1 ?_ ?_
    | refine Only.ite2 ?_ ?_
    | refine Only.eq1 (by assumption) ?_
    | refine Only.eq2 (by assumption) ?_
    | refine OnlyOpt.get (by assumption) ?_
    | refine OnlyOptP.get (by assumption) ?_
    | refine OnlyEx.get (by assumption) ?_
    | refine OnlyExP.get (by assumption) ?_
    | split
    | dsimp only

theorem tellOutage_only {bs : List Block} {s0 : State} {s : State}
    (hSub : Block.sub [.hosts, .fab, .evt] bs = true) (hOnly : Only bs s0 s) :
    Only bs s0 (tellOutage s) := by
  unfold tellOutage
  with_reducible repeat' first
    | exact hOnly
    | assumption
    | refine raise_only (via hSub) ?_
    | refine onFab_only (viaOne hSub) ?_
    | refine Only.ite ?_ ?_
    | refine Only.ite1 ?_ ?_
    | refine Only.ite2 ?_ ?_
    | refine Only.eq1 (by assumption) ?_
    | refine Only.eq2 (by assumption) ?_
    | refine OnlyOpt.get (by assumption) ?_
    | refine OnlyOptP.get (by assumption) ?_
    | refine OnlyEx.get (by assumption) ?_
    | refine OnlyExP.get (by assumption) ?_
    | split
    | dsimp only

theorem logicHears_only {bs : List Block} {s0 : State} {s : State}
    (hSub : Block.sub [.hosts, .fab, .evt, .met] bs = true) (hOnly : Only bs s0 s) :
    Only bs s0 (logicHears s) := by
  unfold logicHears
  with_reducible repeat' first
    | exact hOnly
    | assumption
    | refine tellOutage_only (via hSub) ?_
    | refine markGaps_only (via hSub) ?_
    | refine hearNotices_only (via hSub) ?_
    | refine setSticky_only (via hSub) ?_
    | refine onMet_only (viaOne hSub) ?_
    | refine Only.ite ?_ ?_
    | refine Only.ite1 ?_ ?_
    | refine Only.ite2 ?_ ?_
    | refine Only.eq1 (by assumption) ?_
    | refine Only.eq2 (by assumption) ?_
    | refine OnlyOpt.get (by assumption) ?_
    | refine OnlyOptP.get (by assumption) ?_
    | refine OnlyEx.get (by assumption) ?_
    | refine OnlyExP.get (by assumption) ?_
    | split
    | dsimp only

theorem seamComesUp_only {bs : List Block} {s0 : State} {s : State} (hSub : Block.sub [.fab] bs = true) (hOnly : Only bs s0 s) :
    Only bs s0 (seamComesUp s) := by
  unfold seamComesUp
  with_reducible repeat' first
    | exact hOnly
    | assumption
    | refine onFab_only (viaOne hSub) ?_
    | refine Only.ite ?_ ?_
    | refine Only.ite1 ?_ ?_
    | refine Only.ite2 ?_ ?_
    | refine Only.eq1 (by assumption) ?_
    | refine Only.eq2 (by assumption) ?_
    | refine OnlyOpt.get (by assumption) ?_
    | refine OnlyOptP.get (by assumption) ?_
    | refine OnlyEx.get (by assumption) ?_
    | refine OnlyExP.get (by assumption) ?_
    | split
    | dsimp only

theorem takeCtlFrame_only {bs : List Block} {s0 : State} {c : LineCtl} {s : State}
    (hSub : Block.sub [.fab, .met] bs = true) (hOnly : Only bs s0 s) :
    Only bs s0 (takeCtlFrame c s) := by
  unfold takeCtlFrame
  with_reducible repeat' first
    | exact hOnly
    | assumption
    | refine onFab_only (viaOne hSub) ?_
    | refine onMet_only (viaOne hSub) ?_
    | refine Only.ite ?_ ?_
    | refine Only.ite1 ?_ ?_
    | refine Only.ite2 ?_ ?_
    | refine Only.eq1 (by assumption) ?_
    | refine Only.eq2 (by assumption) ?_
    | refine OnlyOpt.get (by assumption) ?_
    | refine OnlyOptP.get (by assumption) ?_
    | refine OnlyEx.get (by assumption) ?_
    | refine OnlyExP.get (by assumption) ?_
    | split
    | dsimp only

theorem takeMainsEcho_only {bs : List Block} {s0 : State} {s : State} (hSub : Block.sub [.met] bs = true) (hOnly : Only bs s0 s) :
    Only bs s0 (takeMainsEcho s) := by
  unfold takeMainsEcho
  with_reducible repeat' first
    | exact hOnly
    | assumption
    | refine onMet_only (viaOne hSub) ?_
    | refine Only.ite ?_ ?_
    | refine Only.ite1 ?_ ?_
    | refine Only.ite2 ?_ ?_
    | refine Only.eq1 (by assumption) ?_
    | refine Only.eq2 (by assumption) ?_
    | refine OnlyOpt.get (by assumption) ?_
    | refine OnlyOptP.get (by assumption) ?_
    | refine OnlyEx.get (by assumption) ?_
    | refine OnlyExP.get (by assumption) ?_
    | split
    | dsimp only

theorem takeLegalAck_only {bs : List Block} {s0 : State} {s : State} (hSub : Block.sub [.fab] bs = true) (hOnly : Only bs s0 s) :
    Only bs s0 (takeLegalAck s) := by
  unfold takeLegalAck
  with_reducible repeat' first
    | exact hOnly
    | assumption
    | refine onFab_only (viaOne hSub) ?_
    | refine Only.ite ?_ ?_
    | refine Only.ite1 ?_ ?_
    | refine Only.ite2 ?_ ?_
    | refine Only.eq1 (by assumption) ?_
    | refine Only.eq2 (by assumption) ?_
    | refine OnlyOpt.get (by assumption) ?_
    | refine OnlyOptP.get (by assumption) ?_
    | refine OnlyEx.get (by assumption) ?_
    | refine OnlyExP.get (by assumption) ?_
    | split
    | dsimp only

theorem takeDownFrame_only {bs : List Block} {s0 : State} {b : LineRx} {s : State}
    (hSub : Block.sub [.hosts, .fab, .evt, .met] bs = true) (hOnly : Only bs s0 s) :
    Only bs s0 (takeDownFrame b s) := by
  unfold takeDownFrame
  with_reducible repeat' first
    | exact hOnly
    | assumption
    | refine takeLegalAck_only (via hSub) ?_
    | refine takeMainsEcho_only (via hSub) ?_
    | refine takeCtlFrame_only (via hSub) ?_
    | refine ignoreRequest_only (via hSub) ?_
    | refine deliverRegisters_only (via hSub) ?_
    | refine deliverCalImage_only (via hSub) ?_
    | refine onFab_only (viaOne hSub) ?_
    | refine Only.ite ?_ ?_
    | refine Only.ite1 ?_ ?_
    | refine Only.ite2 ?_ ?_
    | refine Only.eq1 (by assumption) ?_
    | refine Only.eq2 (by assumption) ?_
    | refine OnlyOpt.get (by assumption) ?_
    | refine OnlyOptP.get (by assumption) ?_
    | refine OnlyEx.get (by assumption) ?_
    | refine OnlyExP.get (by assumption) ?_
    | split
    | dsimp only

theorem countSuperseded_only {bs : List Block} {s0 : State} {w : CtlWord} {l : List CtlWord} {s : State}
    (hSub : Block.sub [.cfg] bs = true) (hOnly : Only bs s0 s) :
    Only bs s0 (countSuperseded w l s) := by
  unfold countSuperseded
  with_reducible repeat' first
    | exact hOnly
    | assumption
    | refine onCfg_only (viaOne hSub) ?_
    | refine Only.ite ?_ ?_
    | refine Only.ite1 ?_ ?_
    | refine Only.ite2 ?_ ?_
    | refine Only.eq1 (by assumption) ?_
    | refine Only.eq2 (by assumption) ?_
    | refine OnlyOpt.get (by assumption) ?_
    | refine OnlyOptP.get (by assumption) ?_
    | refine OnlyEx.get (by assumption) ?_
    | refine OnlyExP.get (by assumption) ?_
    | split
    | dsimp only

theorem postWord_only {bs : List Block} {s0 : State} {w : CtlWord} {s : State}
    (hSub : Block.sub [.cfg, .fab] bs = true) (hOnly : Only bs s0 s) :
    Only bs s0 (postWord w s) := by
  unfold postWord
  with_reducible repeat' first
    | exact hOnly
    | assumption
    | refine countSuperseded_only (via hSub) ?_
    | refine onFab_only (viaOne hSub) ?_
    | refine Only.ite ?_ ?_
    | refine Only.ite1 ?_ ?_
    | refine Only.ite2 ?_ ?_
    | refine Only.eq1 (by assumption) ?_
    | refine Only.eq2 (by assumption) ?_
    | refine OnlyOpt.get (by assumption) ?_
    | refine OnlyOptP.get (by assumption) ?_
    | refine OnlyEx.get (by assumption) ?_
    | refine OnlyExP.get (by assumption) ?_
    | split
    | dsimp only

theorem holdWord_only {bs : List Block} {s0 : State} {w : CtlWord} {s : State}
    (hSub : Block.sub [.cfg, .fab] bs = true) (hOnly : Only bs s0 s) :
    Only bs s0 (holdWord w s) := by
  unfold holdWord
  with_reducible repeat' first
    | exact hOnly
    | assumption
    | refine countSuperseded_only (via hSub) ?_
    | refine onFab_only (viaOne hSub) ?_
    | refine Only.ite ?_ ?_
    | refine Only.ite1 ?_ ?_
    | refine Only.ite2 ?_ ?_
    | refine Only.eq1 (by assumption) ?_
    | refine Only.eq2 (by assumption) ?_
    | refine OnlyOpt.get (by assumption) ?_
    | refine OnlyOptP.get (by assumption) ?_
    | refine OnlyEx.get (by assumption) ?_
    | refine OnlyExP.get (by assumption) ?_
    | split
    | dsimp only

theorem sendMetro_only {bs : List Block} {s0 : State} {m : MetroCtl} {s : State}
    (hSub : Block.sub [.fab] bs = true) (hOnly : Only bs s0 s) :
    Only bs s0 (sendMetro m s) := by
  unfold sendMetro
  with_reducible repeat' first
    | exact hOnly
    | assumption
    | refine onFab_only (viaOne hSub) ?_
    | refine Only.ite ?_ ?_
    | refine Only.ite1 ?_ ?_
    | refine Only.ite2 ?_ ?_
    | refine Only.eq1 (by assumption) ?_
    | refine Only.eq2 (by assumption) ?_
    | refine OnlyOpt.get (by assumption) ?_
    | refine OnlyOptP.get (by assumption) ?_
    | refine OnlyEx.get (by assumption) ?_
    | refine OnlyExP.get (by assumption) ?_
    | split
    | dsimp only

theorem commitWord_only {bs : List Block} {s0 : State} {w : CtlWord} {s : State}
    (hSub : Block.sub [.cfg] bs = true) (hOnly : Only bs s0 s) :
    Only bs s0 (commitWord w s) := by
  unfold commitWord
  with_reducible repeat' first
    | exact hOnly
    | refine onCfg_only (viaOne hSub) ?_

end Sys2Proof.Machine
end

