-- ==== Sys2Proof/Laws/FramesLinks.lean ====
section
/-! SUPPORT. The frames of the radio, the links, the contexts and the power-line port: each operation changes no block of State outside its list. Every lemma has
one form: what changes no block outside `bs` so far still does not after the operation, when the list stands in `bs`. -/

namespace Sys2Proof.Machine

open Host (Outcome)

set_option maxHeartbeats 400000
set_option Elab.async false
set_option maxRecDepth 4000
set_option linter.unusedVariables false

/-! ### Radio -/

theorem onFe_only {bs : List Block} {s0 : State} {n : Nat} {f : FeSt → FeSt} {s : State}
    (hSub : Block.sub [.rad] bs = true) (hOnly : Only bs s0 s) :
    Only bs s0 (onFe n f s) := by
  unfold onFe
  with_reducible repeat' first
    | exact hOnly
    | refine onRad_only (viaOne hSub) ?_

theorem beginTransit_only {bs : List Block} {s0 : State} {fn : ArmFn} {up : Bool} {span : Nat} {s : State}
    (hSub : Block.sub [.pwr] bs = true) (hOnly : Only bs s0 s) :
    Only bs s0 (beginTransit fn up span s) := by
  unfold beginTransit
  with_reducible repeat' first
    | exact hOnly
    | refine onPwr_only (viaOne hSub) ?_

theorem armRequest_only {bs : List Block} {s0 : State} {fn : ArmFn} {enable : Bool} {req : ArmReq} {now : State → State} {s : State}
    (hSub : Block.sub [.pwr] bs = true) (hOnly : Only bs s0 s) (hf : ∀ y, Only bs s0 y → Only bs s0 (now y)) :
    Only bs s0 (armRequest fn enable req now s).1 := by
  unfold armRequest
  repeat' (first
    | with_reducible exact hOnly
    | with_reducible refine onPwr_only (viaOne hSub) ?_
    | with_reducible refine hf _ ?_
    | with_reducible refine Only.ite ?_ ?_
    | with_reducible refine Only.ite1 ?_ ?_
    | split
    | dsimp only)


theorem placeMode_only {bs : List Block} {s0 : State} {mode : Nat} {s : State}
    (hSub : Block.sub [.hosts, .sched, .evt, .pair] bs = true) (hOnly : Only bs s0 s) :
    OnlyOpt bs s0 (placeMode mode s) := by
  unfold placeMode
  with_reducible repeat' first
    | exact hOnly
    | assumption
    | refine dropEntries_only (via hSub) ?_
    | refine place_only (via hSub) ?_
    | exact OnlyOpt.none
    | refine OnlyOpt.some ?_
    | refine OnlyOpt.ite ?_ ?_
    | refine Only.ite ?_ ?_
    | refine Only.ite1 ?_ ?_
    | refine Only.ite2 ?_ ?_
    | refine Only.eq1 (by assumption) ?_
    | refine Only.eq2 (by assumption) ?_
    | refine OnlyOpt.get (by assumption) ?_
    | refine OnlyOptP.get (by assumption) ?_
    | refine OnlyEx.get (by assumption) ?_
    | refine OnlyExP.get (by assumption) ?_
    | split
    | dsimp only

theorem startCalibration_only {bs : List Block} {s0 : State} {n : Nat} {s : State}
    (hSub : Block.sub [.rad] bs = true) (hOnly : Only bs s0 s) :
    Only bs s0 (startCalibration n s) := by
  unfold startCalibration
  with_reducible repeat' first
    | exact hOnly
    | refine onFe_only (via hSub) ?_

theorem laneHears_only {bs : List Block} {s0 : State} {n : Nat} {s : State} (hSub : Block.sub [.rad] bs = true) (hOnly : Only bs s0 s) :
    Only bs s0 (laneHears n s) := by
  unfold laneHears
  with_reducible repeat' first
    | exact hOnly
    | refine onRad_only (viaOne hSub) ?_

theorem commitFe_only {bs : List Block} {s0 : State} {n : Nat} {c : FeCfg} {s : State}
    (hSub : Block.sub [.cfg, .pwr, .rad] bs = true) (hOnly : Only bs s0 s) :
    Only bs s0 (commitFe n c s) := by
  unfold commitFe
  with_reducible repeat' first
    | exact hOnly
    | assumption
    | refine startCalibration_only (via hSub) ?_
    | refine beginTransit_only (via hSub) ?_
    | refine onFe_only (via hSub) ?_
    | refine commitWord_only (via hSub) ?_
    | refine onCfg_only (viaOne hSub) ?_
    | refine Only.ite ?_ ?_
    | refine Only.ite1 ?_ ?_
    | refine Only.ite2 ?_ ?_
    | refine Only.eq1 (by assumption) ?_
    | refine Only.eq2 (by assumption) ?_
    | refine OnlyOpt.get (by assumption) ?_
    | refine OnlyOptP.get (by assumption) ?_
    | refine OnlyEx.get (by assumption) ?_
    | refine OnlyExP.get (by assumption) ?_
    | split
    | dsimp only

theorem commitLane_only {bs : List Block} {s0 : State} {n : Nat} {c : LaneCfg} {s : State}
    (hSub : Block.sub [.cfg, .pwr, .rad] bs = true) (hOnly : Only bs s0 s) :
    Only bs s0 (commitLane n c s) := by
  unfold commitLane
  with_reducible repeat' first
    | exact hOnly
    | refine laneHears_only (via hSub) ?_
    | refine beginTransit_only (via hSub) ?_
    | refine commitWord_only (via hSub) ?_
    | refine Only.ite ?_ ?_

theorem commitWur_only {bs : List Block} {s0 : State} {c : WurCfg} {s : State}
    (hSub : Block.sub [.cfg, .pwr] bs = true) (hOnly : Only bs s0 s) :
    Only bs s0 (commitWur c s) := by
  unfold commitWur
  with_reducible repeat' first
    | exact hOnly
    | refine beginTransit_only (via hSub) ?_
    | refine commitWord_only (via hSub) ?_
    | refine Only.ite ?_ ?_

theorem commitAny_only {bs : List Block} {s0 : State} {w : CtlWord} {s : State}
    (hSub : Block.sub [.cfg, .fab, .pwr, .rad] bs = true) (hOnly : Only bs s0 s) :
    Only bs s0 (commitAny w s) := by
  unfold commitAny
  with_reducible repeat' first
    | exact hOnly
    | assumption
    | refine commitWur_only (via hSub) ?_
    | refine commitLane_only (via hSub) ?_
    | refine commitFe_only (via hSub) ?_
    | refine commitWord_only (via hSub) ?_
    | refine sendMetro_only (via hSub) ?_
    | refine Only.ite ?_ ?_
    | refine Only.ite1 ?_ ?_
    | refine Only.ite2 ?_ ?_
    | refine Only.eq1 (by assumption) ?_
    | refine Only.eq2 (by assumption) ?_
    | refine OnlyOpt.get (by assumption) ?_
    | refine OnlyOptP.get (by assumption) ?_
    | refine OnlyEx.get (by assumption) ?_
    | refine OnlyExP.get (by assumption) ?_
    | split
    | dsimp only

theorem tapFrame_only {bs : List Block} {s0 : State} {f : RadioFrame} {s : State}
    (hSub : Block.sub [.hosts] bs = true) (hOnly : Only bs s0 s) :
    Only bs s0 (tapFrame f s) := by
  unfold tapFrame
  with_reducible repeat' first
    | assumption
    | refine tapRing_only (via hSub) ?_
    | refine Only.foldl (fun _ _ _ => ?_) ?_

theorem placeRadio_only {bs : List Block} {s0 : State} {fe key : Nat} {f : TxFrame} {s : State}
    (hSub : Block.sub [.hosts, .sched, .fab, .evt, .rad, .pair] bs = true) (hOnly : Only bs s0 s) :
    OnlyEx bs s0 (placeRadio fe key f s) := by
  unfold placeRadio
  with_reducible repeat' first
    | exact hOnly
    | refine countRefused_only (via hSub) ?_
    | refine onRad_only (viaOne hSub) ?_
    | refine place_only (via hSub) ?_
    | exact OnlyEx.error
    | refine OnlyEx.ok ?_
    | refine OnlyOpt.get (by assumption) ?_
    | split

theorem newFrame_only {bs : List Block} {s0 : State} {s : State} (hSub : Block.sub [.rad] bs = true) (hOnly : Only bs s0 s) :
    Only bs s0 (newFrame s).2 := by
  unfold newFrame
  with_reducible repeat' first
    | exact hOnly
    | refine onRad_only (viaOne hSub) ?_

theorem placeWake_only {bs : List Block} {s0 : State} {fe freqHz addr rep gapUs rdv : Nat} {fast : Bool} {s : State}
    (hSub : Block.sub [.hosts, .sched, .fab, .evt, .rad, .pair] bs = true) (hOnly : Only bs s0 s) :
    OnlyExP bs s0 (placeWake fe freqHz addr rep gapUs rdv fast s) := by
  unfold placeWake
  have h2 := placeRadio_only (fe := fe) (key := wakeKey s fast rep gapUs rdv) (f := wakeTx (newFrame s).1 freqHz addr rep fast)
    (via hSub) (newFrame_only (via hSub) hOnly)
  generalize placeRadio fe (wakeKey s fast rep gapUs rdv) (wakeTx (newFrame s).1 freqHz addr rep fast) (newFrame s).2 = o at h2
  cases o with
  | error e => exact OnlyExP.error
  | ok t => exact OnlyExP.ok (h2 _ rfl)


theorem feSet_only {bs : List Block} {s0 : State} {t : Taken} {s : State}
    (hSub : Block.sub [.cfg, .fab, .pwr] bs = true) (hOnly : Only bs s0 s) :
    Only bs s0 (feSet t s).1 := by
  unfold feSet
  with_reducible repeat' first
    | assumption
    | refine armRequest_only (via hSub) ?_ (fun _ _ => ?_)
    | refine postWord_only (via hSub) ?_
    | split
    | dsimp only

theorem laneSet_only {bs : List Block} {s0 : State} {t : Taken} {s : State}
    (hSub : Block.sub [.cfg, .fab, .pwr] bs = true) (hOnly : Only bs s0 s) :
    Only bs s0 (laneSet t s).1 := by
  unfold laneSet
  with_reducible repeat' first
    | exact hOnly
    | assumption
    | refine armRequest_only (via hSub) ?_ (fun _ _ => ?_)
    | refine postWord_only (via hSub) ?_
    | refine Only.ite ?_ ?_
    | refine Only.ite1 ?_ ?_
    | refine Only.ite2 ?_ ?_
    | refine Only.eq1 (by assumption) ?_
    | refine Only.eq2 (by assumption) ?_
    | refine OnlyOpt.get (by assumption) ?_
    | refine OnlyOptP.get (by assumption) ?_
    | refine OnlyEx.get (by assumption) ?_
    | refine OnlyExP.get (by assumption) ?_
    | split
    | dsimp only

theorem rfStatus_only {bs : List Block} {s0 : State} {t : Taken} {s : State} (hSub : Block.sub [.free] bs = true) (hOnly : Only bs s0 s) :
    Only bs s0 (rfStatus t s).1 := by
  unfold rfStatus
  with_reducible repeat' first
    | exact hOnly
    | refine st_takeFree_only (via hSub) ?_
    | refine Only.ite1 ?_ ?_

theorem wurSet_only {bs : List Block} {s0 : State} {t : Taken} {s : State}
    (hSub : Block.sub [.cfg, .fab, .pwr] bs = true) (hOnly : Only bs s0 s) :
    Only bs s0 (wurSet t s).1 := by
  unfold wurSet
  with_reducible repeat' first
    | assumption
    | refine armRequest_only (via hSub) ?_ (fun _ _ => ?_)
    | refine postWord_only (via hSub) ?_
    | split
    | dsimp only

theorem wakeSend_only {bs : List Block} {s0 : State} {t : Taken} {s : State}
    (hSub : Block.sub [.hosts, .sched, .fab, .evt, .rad, .pair] bs = true) (hOnly : Only bs s0 s) :
    Only bs s0 (wakeSend t s).1 := by
  unfold wakeSend
  with_reducible repeat' first
    | exact hOnly
    | refine placeWake_only (via hSub) ?_
    | refine OnlyExP.get (by assumption) ?_
    | split
    | dsimp only

/-! ### Place -/

theorem onDie_only {bs : List Block} {s0 : State} {d : Nat} {f : DieSt → DieSt} {s : State}
    (hSub : Block.sub [.arch] bs = true) (hOnly : Only bs s0 s) :
    Only bs s0 (onDie d f s) := by
  unfold onDie
  with_reducible repeat' first
    | exact hOnly
    | refine onArch_only (viaOne hSub) ?_
    | split

theorem growBad_only {bs : List Block} {s0 : State} {d b : Nat} {s : State} (hSub : Block.sub [.arch] bs = true) (hOnly : Only bs s0 s) :
    Only bs s0 (growBad d b s) := by
  unfold growBad
  with_reducible repeat' first
    | exact hOnly
    | refine onDie_only (via hSub) ?_
    | refine onArch_only (viaOne hSub) ?_
    | refine Only.ite ?_ ?_

theorem openSb_only {bs : List Block} {s0 : State} {st : Stream} {away : Option Nat} {s : State}
    (hSub : Block.sub [.arch] bs = true) (hOnly : Only bs s0 s) :
    OnlyOptP bs s0 (openSb st away s) := by
  unfold openSb
  with_reducible repeat' first
    | exact hOnly
    | assumption
    | refine onArch_only (viaOne hSub) ?_
    | exact OnlyOptP.none
    | refine OnlyOptP.some ?_
    | refine OnlyOptP.ite ?_ ?_
    | refine Only.ite ?_ ?_
    | refine Only.ite1 ?_ ?_
    | refine Only.ite2 ?_ ?_
    | refine Only.eq1 (by assumption) ?_
    | refine Only.eq2 (by assumption) ?_
    | refine OnlyOpt.get (by assumption) ?_
    | refine OnlyOptP.get (by assumption) ?_
    | refine OnlyEx.get (by assumption) ?_
    | refine OnlyExP.get (by assumption) ?_
    | split
    | dsimp only

theorem setOpen_only {bs : List Block} {s0 : State} {st : Stream} {o : Option OpenSb} {s : State}
    (hSub : Block.sub [.arch] bs = true) (hOnly : Only bs s0 s) :
    Only bs s0 (setOpen st o s) := by
  unfold setOpen
  with_reducible repeat' first
    | exact hOnly
    | refine onArch_only (viaOne hSub) ?_

theorem queuePage_only {bs : List Block} {s0 : State} {p : PhysPage} {s : State}
    (hSub : Block.sub [.arch] bs = true) (hOnly : Only bs s0 s) :
    Only bs s0 (queuePage p s) := by
  unfold queuePage
  with_reducible repeat' first
    | exact hOnly
    | assumption
    | refine onArch_only (viaOne hSub) ?_
    | refine Only.ite ?_ ?_
    | refine Only.ite1 ?_ ?_
    | refine Only.ite2 ?_ ?_
    | refine Only.eq1 (by assumption) ?_
    | refine Only.eq2 (by assumption) ?_
    | refine OnlyOpt.get (by assumption) ?_
    | refine OnlyOptP.get (by assumption) ?_
    | refine OnlyEx.get (by assumption) ?_
    | refine OnlyExP.get (by assumption) ?_
    | split
    | dsimp only

theorem nextStripe_only {bs : List Block} {s0 : State} {st : Stream} {o : OpenSb} {page : Nat} {s : State}
    (hSub : Block.sub [.arch] bs = true) (hOnly : Only bs s0 s) :
    Only bs s0 (nextStripe st o page s) := by
  unfold nextStripe
  with_reducible repeat' first
    | exact hOnly
    | refine setOpen_only (via hSub) ?_
    | refine onArch_only (viaOne hSub) ?_
    | refine Only.ite ?_ ?_

theorem queueParity_only {bs : List Block} {s0 : State} {st : Stream} {o : OpenSb} {die : Nat} {s : State}
    (hSub : Block.sub [.arch] bs = true) (hOnly : Only bs s0 s) :
    Only bs s0 (queueParity st o die s) := by
  unfold queueParity
  with_reducible repeat' first
    | exact hOnly
    | refine queuePage_only (via hSub) ?_

theorem padWordline_only {bs : List Block} {s0 : State} {st : Stream} {o : OpenSb} {s : State}
    (hSub : Block.sub [.arch] bs = true) (hOnly : Only bs s0 s) :
    Only bs s0 (padWordline st o s) := by
  unfold padWordline
  with_reducible repeat' first
    | assumption
    | refine queuePage_only (via hSub) ?_
    | refine Only.ite ?_ ?_
    | refine Only.foldl (fun _ _ _ => ?_) ?_

theorem flushStripe_only {bs : List Block} {s0 : State} {st : Stream} {s : State}
    (hSub : Block.sub [.arch] bs = true) (hOnly : Only bs s0 s) :
    Only bs s0 (flushStripe st s) := by
  unfold flushStripe
  with_reducible repeat' first
    | exact hOnly
    | refine padWordline_only (via hSub) ?_
    | refine queueParity_only (via hSub) ?_
    | refine nextStripe_only (via hSub) ?_
    | split

theorem leaveGroup_only {bs : List Block} {s0 : State} {st : Stream} {away : Option Nat} {s : State}
    (hSub : Block.sub [.arch] bs = true) (hOnly : Only bs s0 s) :
    Only bs s0 (leaveGroup st away s) := by
  unfold leaveGroup
  with_reducible repeat' first
    | exact hOnly
    | assumption
    | refine flushStripe_only (via hSub) ?_
    | refine setOpen_only (via hSub) ?_
    | refine Only.ite ?_ ?_
    | refine Only.ite1 ?_ ?_
    | refine Only.ite2 ?_ ?_
    | refine Only.eq1 (by assumption) ?_
    | refine Only.eq2 (by assumption) ?_
    | refine OnlyOpt.get (by assumption) ?_
    | refine OnlyOptP.get (by assumption) ?_
    | refine OnlyEx.get (by assumption) ?_
    | refine OnlyExP.get (by assumption) ?_
    | split
    | dsimp only

theorem program_only {bs : List Block} {s0 : State} {p : PhysPage} {away : Option Nat} {s : State}
    (hSub : Block.sub [.arch] bs = true) (hOnly : Only bs s0 s) :
    OnlyOptP bs s0 (program p away s) := by
  unfold program
  with_reducible repeat' first
    | exact hOnly
    | assumption
    | refine leaveGroup_only (via hSub) ?_
    | refine queueParity_only (via hSub) ?_
    | refine nextStripe_only (via hSub) ?_
    | refine queuePage_only (via hSub) ?_
    | refine setOpen_only (via hSub) ?_
    | refine onArch_only (viaOne hSub) ?_
    | refine openSb_only (via hSub) ?_
    | exact OnlyOptP.none
    | refine OnlyOptP.some ?_
    | refine OnlyOptP.ite ?_ ?_
    | refine Only.ite ?_ ?_
    | refine Only.ite1 ?_ ?_
    | refine Only.ite2 ?_ ?_
    | refine Only.getD ?_ ?_
    | refine Only.eq1 (by assumption) ?_
    | refine Only.eq2 (by assumption) ?_
    | refine OnlyOpt.get (by assumption) ?_
    | refine OnlyOptP.get (by assumption) ?_
    | refine OnlyEx.get (by assumption) ?_
    | refine OnlyExP.get (by assumption) ?_
    | split
    | dsimp only

theorem writeCopy_only {bs : List Block} {s0 : State} {lpn : Nat} {d : SysData} {relocated : Bool} {away : Option Nat} {s : State}
    (hSub : Block.sub [.arch] bs = true) (hOnly : Only bs s0 s) :
    OnlyOptP bs s0 (writeCopy lpn d relocated away s) := by
  unfold writeCopy
  with_reducible repeat' first
    | exact hOnly
    | assumption
    | refine flushStripe_only (via hSub) ?_
    | refine program_only (via hSub) ?_
    | exact OnlyOptP.none
    | refine OnlyOptP.some ?_
    | refine OnlyOptP.ite ?_ ?_
    | refine Only.ite ?_ ?_
    | refine Only.ite1 ?_ ?_
    | refine Only.ite2 ?_ ?_
    | refine Only.eq1 (by assumption) ?_
    | refine Only.eq2 (by assumption) ?_
    | refine OnlyOpt.get (by assumption) ?_
    | refine OnlyOptP.get (by assumption) ?_
    | refine OnlyEx.get (by assumption) ?_
    | refine OnlyExP.get (by assumption) ?_
    | split
    | dsimp only

theorem writeSystem_only {bs : List Block} {s0 : State} {off : Nat} {d : SysData} {s : State}
    (hSub : Block.sub [.arch] bs = true) (hOnly : Only bs s0 s) :
    OnlyOptP bs s0 (writeSystem off d s) := by
  unfold writeSystem
  with_reducible repeat' first
    | exact hOnly
    | assumption
    | refine onArch_only (viaOne hSub) ?_
    | refine writeCopy_only (via hSub) ?_
    | exact OnlyOptP.none
    | refine OnlyOptP.some ?_
    | refine OnlyOptP.ite ?_ ?_
    | refine Only.ite ?_ ?_
    | refine Only.ite1 ?_ ?_
    | refine Only.ite2 ?_ ?_
    | refine Only.eq1 (by assumption) ?_
    | refine Only.eq2 (by assumption) ?_
    | refine OnlyOpt.get (by assumption) ?_
    | refine OnlyOptP.get (by assumption) ?_
    | refine OnlyEx.get (by assumption) ?_
    | refine OnlyExP.get (by assumption) ?_
    | split
    | dsimp only

theorem writeJournal_only {bs : List Block} {s0 : State} {s : State} (hSub : Block.sub [.arch] bs = true) (hOnly : Only bs s0 s) :
    Only bs s0 (writeJournal s) := by
  unfold writeJournal
  with_reducible repeat' first
    | exact hOnly
    | assumption
    | refine writeSystem_only (via hSub) ?_
    | refine Only.ite ?_ ?_
    | refine Only.ite1 ?_ ?_
    | refine Only.ite2 ?_ ?_
    | refine Only.eq1 (by assumption) ?_
    | refine Only.eq2 (by assumption) ?_
    | refine OnlyOpt.get (by assumption) ?_
    | refine OnlyOptP.get (by assumption) ?_
    | refine OnlyEx.get (by assumption) ?_
    | refine OnlyExP.get (by assumption) ?_
    | split
    | dsimp only

theorem trimRanges_only {bs : List Block} {s0 : State} {l : List (Nat × Nat)} {s : State}
    (hSub : Block.sub [.arch] bs = true) (hOnly : Only bs s0 s) :
    Only bs s0 (trimRanges l s).2 := by
  unfold trimRanges
  with_reducible repeat' first
    | exact hOnly
    | assumption
    | refine onArch_only (viaOne hSub) ?_
    | refine writeSystem_only (via hSub) ?_
    | refine Only.ite ?_ ?_
    | refine Only.ite1 ?_ ?_
    | refine Only.ite2 ?_ ?_
    | refine Only.eq1 (by assumption) ?_
    | refine Only.eq2 (by assumption) ?_
    | refine OnlyOpt.get (by assumption) ?_
    | refine OnlyOptP.get (by assumption) ?_
    | refine OnlyEx.get (by assumption) ?_
    | refine OnlyExP.get (by assumption) ?_
    | split
    | dsimp only

theorem pruneTrims_only {bs : List Block} {s0 : State} {s : State} (hSub : Block.sub [.arch] bs = true) (hOnly : Only bs s0 s) :
    Only bs s0 (pruneTrims s) := by
  unfold pruneTrims
  with_reducible repeat' first
    | exact hOnly
    | assumption
    | refine onArch_only (viaOne hSub) ?_
    | refine Only.ite ?_ ?_
    | refine Only.ite1 ?_ ?_
    | refine Only.ite2 ?_ ?_
    | refine Only.eq1 (by assumption) ?_
    | refine Only.eq2 (by assumption) ?_
    | refine OnlyOpt.get (by assumption) ?_
    | refine OnlyOptP.get (by assumption) ?_
    | refine OnlyEx.get (by assumption) ?_
    | refine OnlyExP.get (by assumption) ?_
    | split
    | dsimp only

/-! ### Ctx -/

theorem storePage_only {bs : List Block} {s0 : State} {off : Nat} {d : SysData} {s : State}
    (hSub : Block.sub [.arch] bs = true) (hOnly : Only bs s0 s) :
    Only bs s0 (storePage off d s) := by
  unfold storePage
  with_reducible repeat' first
    | exact hOnly
    | assumption
    | refine writeSystem_only (via hSub) ?_
    | refine Only.ite ?_ ?_
    | refine Only.ite1 ?_ ?_
    | refine Only.ite2 ?_ ?_
    | refine Only.eq1 (by assumption) ?_
    | refine Only.eq2 (by assumption) ?_
    | refine OnlyOpt.get (by assumption) ?_
    | refine OnlyOptP.get (by assumption) ?_
    | refine OnlyEx.get (by assumption) ?_
    | refine OnlyExP.get (by assumption) ?_
    | split
    | dsimp only

theorem writeBack_only {bs : List Block} {s0 : State} {m : Nat} {s : State} (hSub : Block.sub [.arch] bs = true) (hOnly : Only bs s0 s) :
    Only bs s0 (writeBack m s) := by
  unfold writeBack
  with_reducible repeat' first
    | exact hOnly
    | assumption
    | refine storePage_only (via hSub) ?_
    | refine Only.ite ?_ ?_
    | refine Only.ite1 ?_ ?_
    | refine Only.ite2 ?_ ?_
    | refine Only.eq1 (by assumption) ?_
    | refine Only.eq2 (by assumption) ?_
    | refine OnlyOpt.get (by assumption) ?_
    | refine OnlyOptP.get (by assumption) ?_
    | refine OnlyEx.get (by assumption) ?_
    | refine OnlyExP.get (by assumption) ?_
    | split
    | dsimp only

theorem writeAccount_only {bs : List Block} {s0 : State} {a : Nat} {b : Account} {s : State}
    (hSub : Block.sub [.arch, .fleet] bs = true) (hOnly : Only bs s0 s) :
    Only bs s0 (writeAccount a b s) := by
  unfold writeAccount
  with_reducible repeat' first
    | exact hOnly
    | assumption
    | refine storePage_only (via hSub) ?_
    | refine onFleet_only (viaOne hSub) ?_
    | refine Only.ite ?_ ?_
    | refine Only.ite1 ?_ ?_
    | refine Only.ite2 ?_ ?_
    | refine Only.eq1 (by assumption) ?_
    | refine Only.eq2 (by assumption) ?_
    | refine OnlyOpt.get (by assumption) ?_
    | refine OnlyOptP.get (by assumption) ?_
    | refine OnlyEx.get (by assumption) ?_
    | refine OnlyExP.get (by assumption) ?_
    | split
    | dsimp only

theorem saveCounter_only {bs : List Block} {s0 : State} {slot v : Nat} {s : State}
    (hSub : Block.sub [.arch, .fleet] bs = true) (hOnly : Only bs s0 s) :
    Only bs s0 (saveCounter slot v s) := by
  unfold saveCounter
  with_reducible repeat' first
    | exact hOnly
    | assumption
    | refine storePage_only (via hSub) ?_
    | refine onFleet_only (viaOne hSub) ?_
    | refine Only.ite ?_ ?_
    | refine Only.ite1 ?_ ?_
    | refine Only.ite2 ?_ ?_
    | refine Only.eq1 (by assumption) ?_
    | refine Only.eq2 (by assumption) ?_
    | refine OnlyOpt.get (by assumption) ?_
    | refine OnlyOptP.get (by assumption) ?_
    | refine OnlyEx.get (by assumption) ?_
    | refine OnlyExP.get (by assumption) ?_
    | split
    | dsimp only

theorem writeCounter_only {bs : List Block} {s0 : State} {slot v : Nat} {s : State}
    (hSub : Block.sub [.arch, .fleet] bs = true) (hOnly : Only bs s0 s) :
    Only bs s0 (writeCounter slot v s) := by
  unfold writeCounter
  with_reducible repeat' first
    | exact hOnly
    | assumption
    | refine saveCounter_only (via hSub) ?_
    | refine onFleet_only (viaOne hSub) ?_
    | refine Only.ite ?_ ?_
    | refine Only.ite1 ?_ ?_
    | refine Only.ite2 ?_ ?_
    | refine Only.eq1 (by assumption) ?_
    | refine Only.eq2 (by assumption) ?_
    | refine OnlyOpt.get (by assumption) ?_
    | refine OnlyOptP.get (by assumption) ?_
    | refine OnlyEx.get (by assumption) ?_
    | refine OnlyExP.get (by assumption) ?_
    | split
    | dsimp only

theorem touch_only {bs : List Block} {s0 : State} {m : Nat} {s : State}
    (hSub : Block.sub [.sess, .arch] bs = true) (hOnly : Only bs s0 s) :
    Only bs s0 (touch m s) := by
  unfold touch
  with_reducible repeat' first
    | exact hOnly
    | refine writeBack_only (via hSub) ?_
    | refine onSess_only (viaOne hSub) ?_
    | split

theorem onCtx_only {bs : List Block} {s0 : State} {m : Nat} {f : MeterCtx → MeterCtx} {s : State}
    (hSub : Block.sub [.hosts, .evt, .sess, .arch, .pair] bs = true) (hOnly : Only bs s0 s) :
    Only bs s0 (onCtx m f s) := by
  unfold onCtx
  with_reducible repeat' first
    | exact hOnly
    | refine touch_only (via hSub) ?_
    | refine mirror_only (via hSub) ?_
    | refine onSess_only (viaOne hSub) ?_
    | split

theorem takeHot_only {bs : List Block} {s0 : State} {m : Nat} {s : State} (hSub : Block.sub [.sess] bs = true) (hOnly : Only bs s0 s) :
    Only bs s0 (takeHot m s) := by
  unfold takeHot
  with_reducible repeat' first
    | exact hOnly
    | refine onSess_only (viaOne hSub) ?_

theorem leaveFleet_only {bs : List Block} {s0 : State} {m : Nat} {s : State}
    (hSub : Block.sub [.fleet] bs = true) (hOnly : Only bs s0 s) :
    Only bs s0 (leaveFleet m s) := by
  unfold leaveFleet
  with_reducible repeat' first
    | exact hOnly
    | refine onFleet_only (viaOne hSub) ?_
    | split

theorem freeCtx_only {bs : List Block} {s0 : State} {m : Nat} {s : State}
    (hSub : Block.sub [.hosts, .evt, .link, .sess, .vee, .arch, .fleet, .pair] bs = true) (hOnly : Only bs s0 s) :
    Only bs s0 (freeCtx m s) := by
  unfold freeCtx
  with_reducible repeat' first
    | exact hOnly
    | refine leaveFleet_only (via hSub) ?_
    | refine touch_only (via hSub) ?_
    | refine mirror_only (via hSub) ?_
    | refine onLink_only (viaOne hSub) ?_
    | refine onSess_only (viaOne hSub) ?_
    | refine onVee_only (viaOne hSub) ?_

theorem onChild_only {bs : List Block} {s0 : State} {c : Nat} {f : Child → Child} {s : State}
    (hSub : Block.sub [.upl] bs = true) (hOnly : Only bs s0 s) :
    Only bs s0 (onChild c f s) := by
  unfold onChild
  with_reducible repeat' first
    | exact hOnly
    | refine onUpl_only (viaOne hSub) ?_
    | split

theorem sendChild_only {bs : List Block} {s0 : State} {c : Nat} {m : DnMsg} {s : State}
    (hSub : Block.sub [.upl] bs = true) (hOnly : Only bs s0 s) :
    Only bs s0 (sendChild c m s) := by
  unfold sendChild
  with_reducible repeat' first
    | exact hOnly
    | refine onChild_only (via hSub) ?_
    | refine onUpl_only (viaOne hSub) ?_
    | split

theorem ackChild_only {bs : List Block} {s0 : State} {c : Nat} {s : State} (hSub : Block.sub [.upl] bs = true) (hOnly : Only bs s0 s) :
    Only bs s0 (ackChild c s) := by
  unfold ackChild
  with_reducible repeat' first
    | exact hOnly
    | refine sendChild_only (via hSub) ?_
    | refine onChild_only (via hSub) ?_
    | split

theorem sendUp_only {bs : List Block} {s0 : State} {m : UpMsg} {s : State} (hSub : Block.sub [.upl] bs = true) (hOnly : Only bs s0 s) :
    Only bs s0 (sendUp m s) := by
  unfold sendUp
  with_reducible repeat' first
    | exact hOnly
    | refine onUpl_only (viaOne hSub) ?_
    | split

theorem answerDown_only {bs : List Block} {s0 : State} {tag outcome : Nat} {s : State}
    (hSub : Block.sub [.upl] bs = true) (hOnly : Only bs s0 s) :
    Only bs s0 (answerDown tag outcome s) := by
  unfold answerDown
  with_reducible repeat' first
    | exact hOnly
    | refine sendUp_only (via hSub) ?_
    | refine onUpl_only (viaOne hSub) ?_
    | refine Only.ite ?_ ?_

theorem multicastEnd_only {bs : List Block} {s0 : State} {id outcome : Nat} {s : State}
    (hSub : Block.sub [.upl] bs = true) (hOnly : Only bs s0 s) :
    Only bs s0 (multicastEnd id outcome s) := by
  unfold multicastEnd
  with_reducible repeat' first
    | exact hOnly
    | refine answerDown_only (via hSub) ?_
    | split

theorem grantCredit_only {bs : List Block} {s0 : State} {s : State} (hSub : Block.sub [.upl] bs = true) (hOnly : Only bs s0 s) :
    Only bs s0 (grantCredit s) := by
  unfold grantCredit
  with_reducible repeat' first
    | assumption
    | refine sendChild_only (via hSub) ?_
    | refine onChild_only (via hSub) ?_
    | refine Only.foldl (fun _ _ _ => ?_) ?_
    | split

theorem refreshPressure_only {bs : List Block} {s0 : State} {s : State}
    (hSub : Block.sub [.sess, .upl] bs = true) (hOnly : Only bs s0 s) :
    Only bs s0 (refreshPressure s) := by
  unfold refreshPressure
  with_reducible repeat' first
    | exact hOnly
    | refine grantCredit_only (via hSub) ?_
    | refine onSess_only (viaOne hSub) ?_
    | refine Only.ite ?_ ?_

theorem stagingRefuses_only {bs : List Block} {s0 : State} {length : Nat} {ackReq : Bool} {s : State}
    (hSub : Block.sub [.hosts, .sess] bs = true) (hOnly : Only bs s0 s) :
    OnlyOpt bs s0 (stagingRefuses length ackReq s) := by
  unfold stagingRefuses
  with_reducible repeat' first
    | exact hOnly
    | refine setSticky_only (via hSub) ?_
    | refine onSess_only (viaOne hSub) ?_
    | exact OnlyOpt.none
    | refine OnlyOpt.some ?_
    | refine OnlyOpt.ite ?_ ?_

theorem pushQ2_only {bs : List Block} {s0 : State} {e : Q2Entry} {s : State}
    (hSub : Block.sub [.hosts, .fab, .sess, .upl] bs = true) (hOnly : Only bs s0 s) :
    Only bs s0 (pushQ2 e s) := by
  unfold pushQ2
  with_reducible repeat' first
    | exact hOnly
    | assumption
    | refine refreshPressure_only (via hSub) ?_
    | refine countPush_only (via hSub) ?_
    | refine onHosts_only (viaOne hSub) ?_
    | refine onSess_only (viaOne hSub) ?_
    | refine Only.ite ?_ ?_
    | refine Only.ite1 ?_ ?_
    | refine Only.ite2 ?_ ?_
    | refine Only.eq1 (by assumption) ?_
    | refine Only.eq2 (by assumption) ?_
    | refine OnlyOpt.get (by assumption) ?_
    | refine OnlyOptP.get (by assumption) ?_
    | refine OnlyEx.get (by assumption) ?_
    | refine OnlyExP.get (by assumption) ?_
    | split
    | dsimp only

/-! ### Link -/

theorem onNbr_only {bs : List Block} {s0 : State} {n : Nat} {f : Nbr → Nbr} {s : State}
    (hSub : Block.sub [.link] bs = true) (hOnly : Only bs s0 s) :
    Only bs s0 (onNbr n f s) := by
  unfold onNbr
  with_reducible repeat' first
    | exact hOnly
    | refine onLink_only (viaOne hSub) ?_

theorem allotNbr_only {bs : List Block} {s0 : State} {addr kind : Nat} {s : State}
    (hSub : Block.sub [.hosts, .link] bs = true) (hOnly : Only bs s0 s) :
    OnlyOptP bs s0 (allotNbr addr kind s) := by
  unfold allotNbr
  with_reducible repeat' first
    | exact hOnly
    | refine setSticky_only (via hSub) ?_
    | refine onLink_only (viaOne hSub) ?_
    | exact OnlyOptP.none
    | refine OnlyOptP.some ?_
    | split

theorem fillNeighbours_only {bs : List Block} {s0 : State} {s : State}
    (hSub : Block.sub [.hosts, .link] bs = true) (hOnly : Only bs s0 s) :
    Only bs s0 (fillNeighbours s) := by
  unfold fillNeighbours
  with_reducible repeat' first
    | exact hOnly
    | assumption
    | refine onNbr_only (via hSub) ?_
    | refine onLink_only (viaOne hSub) ?_
    | refine allotNbr_only (via hSub) ?_
    | refine Only.ite ?_ ?_
    | refine Only.ite1 ?_ ?_
    | refine Only.ite2 ?_ ?_
    | refine Only.foldl (fun _ _ _ => ?_) ?_
    | refine Only.foldl1 (fun _ _ _ => ?_) ?_
    | refine Only.foldl2 (fun _ _ _ => ?_) ?_
    | refine Only.eq1 (by assumption) ?_
    | refine Only.eq2 (by assumption) ?_
    | refine OnlyOpt.get (by assumption) ?_
    | refine OnlyOptP.get (by assumption) ?_
    | refine OnlyEx.get (by assumption) ?_
    | refine OnlyExP.get (by assumption) ?_
    | split
    | dsimp only

theorem resync_only {bs : List Block} {s0 : State} {n k : Nat} {s : State}
    (hSub : Block.sub [.hosts, .evt, .link, .sess, .arch, .pair] bs = true) (hOnly : Only bs s0 s) :
    Only bs s0 (resync n k s) := by
  unfold resync
  with_reducible repeat' first
    | exact hOnly
    | refine onNbr_only (via hSub) ?_
    | refine onCtx_only (via hSub) ?_
    | refine Only.ite ?_ ?_

theorem contact_only {bs : List Block} {s0 : State} {m k : Nat} {s : State}
    (hSub : Block.sub [.hosts, .evt, .link, .sess, .arch, .pair] bs = true) (hOnly : Only bs s0 s) :
    Only bs s0 (contact m k s) := by
  unfold contact
  with_reducible repeat' first
    | exact hOnly
    | assumption
    | refine onNbr_only (via hSub) ?_
    | refine onCtx_only (via hSub) ?_
    | refine raise_only (via hSub) ?_
    | refine Only.ite ?_ ?_
    | refine Only.ite1 ?_ ?_
    | refine Only.ite2 ?_ ?_
    | refine Only.eq1 (by assumption) ?_
    | refine Only.eq2 (by assumption) ?_
    | refine OnlyOpt.get (by assumption) ?_
    | refine OnlyOptP.get (by assumption) ?_
    | refine OnlyEx.get (by assumption) ?_
    | refine OnlyExP.get (by assumption) ?_
    | split
    | dsimp only

theorem reportDown_only {bs : List Block} {s0 : State} {d : Downlink} {ok : Bool} {s : State}
    (hSub : Block.sub [.link, .upl] bs = true) (hOnly : Only bs s0 s) :
    Only bs s0 (reportDown d ok s) := by
  unfold reportDown
  with_reducible repeat' first
    | exact hOnly
    | refine answerDown_only (via hSub) ?_
    | refine onLink_only (viaOne hSub) ?_
    | refine Only.ite ?_ ?_

theorem placePlc_only {bs : List Block} {s0 : State} {key : Nat} {f : TxFrame} {s : State}
    (hSub : Block.sub [.hosts, .sched, .fab, .evt, .plc, .pair] bs = true) (hOnly : Only bs s0 s) :
    OnlyEx bs s0 (placePlc key f s) := by
  unfold placePlc
  with_reducible repeat' first
    | exact hOnly
    | refine countRefused_only (via hSub) ?_
    | refine onPlc_only (viaOne hSub) ?_
    | refine place_only (via hSub) ?_
    | exact OnlyEx.error
    | refine OnlyEx.ok ?_
    | refine OnlyOpt.get (by assumption) ?_
    | split

theorem placeDownAt_only {bs : List Block} {s0 : State} {d : Downlink} {key : Nat} {s : State}
    (hSub : Block.sub [.hosts, .sched, .fab, .evt, .rad, .plc, .pair] bs = true) (hOnly : Only bs s0 s) :
    OnlyEx bs s0 (placeDownAt d key s) := by
  unfold placeDownAt
  with_reducible repeat' first
    | exact hOnly
    | refine placeRadio_only (via hSub) ?_
    | refine placePlc_only (via hSub) ?_
    | refine OnlyEx.ite ?_ ?_

theorem wakeBefore_only {bs : List Block} {s0 : State} {n fe key : Nat} {s : State}
    (hSub : Block.sub [.hosts, .sched, .fab, .evt, .rad, .link, .pair] bs = true) (hOnly : Only bs s0 s) :
    Only bs s0 (wakeBefore n fe key s) := by
  unfold wakeBefore
  with_reducible repeat' first
    | exact hOnly
    | assumption
    | refine onLink_only (viaOne hSub) ?_
    | refine placeWake_only (via hSub) ?_
    | refine Only.ite ?_ ?_
    | refine Only.ite1 ?_ ?_
    | refine Only.ite2 ?_ ?_
    | refine Only.eq1 (by assumption) ?_
    | refine Only.eq2 (by assumption) ?_
    | refine OnlyOpt.get (by assumption) ?_
    | refine OnlyOptP.get (by assumption) ?_
    | refine OnlyEx.get (by assumption) ?_
    | refine OnlyExP.get (by assumption) ?_
    | split
    | dsimp only

theorem placeDownlink_only {bs : List Block} {s0 : State} {n key origin ref use : Nat} {bytes : List Byte} {s : State}
    (hSub : Block.sub [.hosts, .sched, .fab, .evt, .rad, .link, .plc, .pair] bs = true) (hOnly : Only bs s0 s) :
    OnlyEx bs s0 (placeDownlink n key origin ref use bytes s) := by
  unfold placeDownlink
  with_reducible repeat' first
    | exact hOnly
    | refine onNbr_only (via hSub) ?_
    | refine newFrame_only (via hSub) ?_
    | refine onLink_only (viaOne hSub) ?_
    | refine placeDownAt_only (via hSub) ?_
    | exact OnlyEx.error
    | refine OnlyEx.ok ?_
    | refine Only.eq2 (by assumption) ?_
    | refine OnlyEx.get (by assumption) ?_
    | split
    | dsimp only

theorem retryDown_only {bs : List Block} {s0 : State} {fuel : Nat} {d : Downlink} {s : State}
    (hSub : Block.sub [.hosts, .sched, .fab, .evt, .rad, .link, .plc, .upl, .pair] bs = true) (hOnly : Only bs s0 s) :
    Only bs s0 (retryDown fuel d s) := by
  induction fuel generalizing d s with
  | zero => unfold retryDown; exact reportDown_only (via hSub) hOnly
  | succ n ih =>
    unfold retryDown
    repeat' (first
      | with_reducible exact hOnly
      | with_reducible refine ih ?_
      | with_reducible refine reportDown_only (via hSub) ?_
      | with_reducible refine onLink_only (viaOne hSub) ?_
      | with_reducible refine wakeBefore_only (via hSub) ?_
      | with_reducible refine placeDownAt_only (via hSub) ?_
      | with_reducible refine Only.ite ?_ ?_
      | (with_reducible refine OnlyEx.get (by assumption) ?_)
      | split
      | dsimp only)


theorem frameDropped_only {bs : List Block} {s0 : State} {id : Nat} {use : Nat} {s : State}
    (hSub : Block.sub [.hosts, .sched, .fab, .evt, .rad, .link, .plc, .upl, .pair] bs = true) (hOnly : Only bs s0 s) :
    Only bs s0 (frameDropped id use s) := by
  unfold frameDropped
  with_reducible repeat' first
    | exact hOnly
    | refine retryDown_only (via hSub) ?_
    | refine multicastEnd_only (via hSub) ?_
    | refine onLink_only (viaOne hSub) ?_
    | split

theorem frameCut_only {bs : List Block} {s0 : State} {f : TxFrame} {s : State}
    (hSub : Block.sub [.link, .upl] bs = true) (hOnly : Only bs s0 s) :
    Only bs s0 (frameCut f s) := by
  unfold frameCut
  with_reducible repeat' first
    | exact hOnly
    | refine multicastEnd_only (via hSub) ?_
    | refine onLink_only (viaOne hSub) ?_
    | refine Only.ite ?_ ?_

theorem abandonDowns_only {bs : List Block} {s0 : State} {s : State} (hSub : Block.sub [.link, .upl] bs = true) (hOnly : Only bs s0 s) :
    Only bs s0 (abandonDowns s) := by
  unfold abandonDowns
  with_reducible repeat' first
    | assumption
    | refine reportDown_only (via hSub) ?_
    | refine Only.foldl (fun _ _ _ => ?_) ?_

theorem takeAck_only {bs : List Block} {s0 : State} {addr seq k : Nat} {s : State}
    (hSub : Block.sub [.link, .upl] bs = true) (hOnly : Only bs s0 s) :
    Only bs s0 (takeAck addr seq k s) := by
  unfold takeAck
  with_reducible repeat' first
    | exact hOnly
    | refine reportDown_only (via hSub) ?_
    | split
    | dsimp only

theorem acknowledge_only {bs : List Block} {s0 : State} {n : Nat} {f : RadioFrame} {s : State}
    (hSub : Block.sub [.hosts, .sched, .fab, .evt, .rad, .link, .pair] bs = true) (hOnly : Only bs s0 s) :
    Only bs s0 (acknowledge n f s) := by
  unfold acknowledge
  with_reducible repeat' first
    | exact hOnly
    | refine newFrame_only (via hSub) ?_
    | refine onLink_only (viaOne hSub) ?_
    | refine placeRadio_only (via hSub) ?_
    | refine Only.eq2 (by assumption) ?_
    | refine OnlyEx.get (by assumption) ?_
    | split
    | dsimp only

theorem acceptFrame_only {bs : List Block} {s0 : State} {n : Nat} {c : SeqClass} {f : RadioFrame} {s : State}
    (hSub : Block.sub [.hosts, .sched, .fab, .evt, .rad, .link, .sess, .arch, .upl, .pair] bs = true) (hOnly : Only bs s0 s) :
    Only bs s0 (acceptFrame n c f s) := by
  unfold acceptFrame
  with_reducible repeat' first
    | exact hOnly
    | assumption
    | refine acknowledge_only (via hSub) ?_
    | refine contact_only (via hSub) ?_
    | refine resync_only (via hSub) ?_
    | refine onNbr_only (via hSub) ?_
    | refine pushQ2_only (via hSub) ?_
    | refine onLink_only (viaOne hSub) ?_
    | refine Only.ite ?_ ?_
    | refine Only.ite1 ?_ ?_
    | refine Only.ite2 ?_ ?_
    | refine Only.eq1 (by assumption) ?_
    | refine Only.eq2 (by assumption) ?_
    | refine OnlyOpt.get (by assumption) ?_
    | refine OnlyOptP.get (by assumption) ?_
    | refine OnlyEx.get (by assumption) ?_
    | refine OnlyExP.get (by assumption) ?_
    | split
    | dsimp only

theorem judgeFrame_only {bs : List Block} {s0 : State} {n : Nat} {f : RadioFrame} {s : State}
    (hSub : Block.sub [.hosts, .sched, .fab, .evt, .rad, .link, .sess, .arch, .upl, .pair] bs = true) (hOnly : Only bs s0 s) :
    Only bs s0 (judgeFrame n f s) := by
  unfold judgeFrame
  with_reducible repeat' first
    | exact hOnly
    | refine acceptFrame_only (via hSub) ?_
    | refine acknowledge_only (via hSub) ?_
    | refine resync_only (via hSub) ?_
    | refine onNbr_only (via hSub) ?_
    | refine onLink_only (viaOne hSub) ?_
    | refine stagingRefuses_only (via hSub) ?_
    | refine Only.ite ?_ ?_
    | refine OnlyOpt.get (by assumption) ?_
    | split

theorem deliverUnwindowed_only {bs : List Block} {s0 : State} {f : RadioFrame} {s : State}
    (hSub : Block.sub [.hosts, .fab, .evt, .link, .sess, .upl] bs = true) (hOnly : Only bs s0 s) :
    Only bs s0 (deliverUnwindowed f s) := by
  unfold deliverUnwindowed
  with_reducible repeat' first
    | exact hOnly
    | refine pushQ2_only (via hSub) ?_
    | refine raise_only (via hSub) ?_
    | refine setSticky_only (via hSub) ?_
    | refine onLink_only (viaOne hSub) ?_
    | refine stagingRefuses_only (via hSub) ?_
    | refine OnlyOpt.get (by assumption) ?_
    | split
    | dsimp only

theorem macFrame_only {bs : List Block} {s0 : State} {ackCap : Bool} {f : RadioFrame} {s : State}
    (hSub : Block.sub [.hosts, .sched, .fab, .evt, .rad, .link, .sess, .arch, .upl, .pair] bs = true) (hOnly : Only bs s0 s) :
    Only bs s0 (macFrame ackCap f s) := by
  unfold macFrame
  with_reducible repeat' first
    | exact hOnly
    | refine deliverUnwindowed_only (via hSub) ?_
    | refine judgeFrame_only (via hSub) ?_
    | refine takeAck_only (via hSub) ?_
    | refine onNbr_only (via hSub) ?_
    | refine onLink_only (viaOne hSub) ?_
    | refine allotNbr_only (via hSub) ?_
    | refine OnlyOptP.get (by assumption) ?_
    | split

theorem wakeForCheckin_only {bs : List Block} {s0 : State} {m : Nat} {s : State}
    (hSub : Block.sub [.hosts, .sched, .fab, .evt, .rad, .link, .pair] bs = true) (hOnly : Only bs s0 s) :
    Only bs s0 (wakeForCheckin m s) := by
  unfold wakeForCheckin
  with_reducible repeat' first
    | exact hOnly
    | assumption
    | refine wakeBefore_only (via hSub) ?_
    | refine Only.ite ?_ ?_
    | refine Only.ite1 ?_ ?_
    | refine Only.ite2 ?_ ?_
    | refine Only.eq1 (by assumption) ?_
    | refine Only.eq2 (by assumption) ?_
    | refine OnlyOpt.get (by assumption) ?_
    | refine OnlyOptP.get (by assumption) ?_
    | refine OnlyEx.get (by assumption) ?_
    | refine OnlyExP.get (by assumption) ?_
    | split
    | dsimp only

theorem keepGuards_only {bs : List Block} {s0 : State} {profile : Nat} {s : State}
    (hSub : Block.sub [.link] bs = true) (hOnly : Only bs s0 s) :
    Only bs s0 (keepGuards profile s) := by
  unfold keepGuards
  with_reducible repeat' first
    | exact hOnly
    | refine onLink_only (viaOne hSub) ?_

theorem untracked_only {bs : List Block} {s0 : State} {n : Nat} {p : LinkProfile} {s : State}
    (hSub : Block.sub [.hosts, .evt, .sess, .arch, .pair] bs = true) (hOnly : Only bs s0 s) :
    Only bs s0 (untracked n p s) := by
  unfold untracked
  with_reducible repeat' first
    | exact hOnly
    | assumption
    | refine onCtx_only (via hSub) ?_
    | refine Only.ite ?_ ?_
    | refine Only.ite1 ?_ ?_
    | refine Only.ite2 ?_ ?_
    | refine Only.foldl (fun _ _ _ => ?_) ?_
    | refine Only.foldl1 (fun _ _ _ => ?_) ?_
    | refine Only.foldl2 (fun _ _ _ => ?_) ?_
    | refine Only.eq1 (by assumption) ?_
    | refine Only.eq2 (by assumption) ?_
    | refine OnlyOpt.get (by assumption) ?_
    | refine OnlyOptP.get (by assumption) ?_
    | refine OnlyEx.get (by assumption) ?_
    | refine OnlyExP.get (by assumption) ?_
    | split
    | dsimp only

theorem pinNbr_only {bs : List Block} {s0 : State} {addr : Nat} {on : Bool} {s : State}
    (hSub : Block.sub [.hosts, .evt, .link, .sess, .arch, .pair] bs = true) (hOnly : Only bs s0 s) :
    Only bs s0 (pinNbr addr on s) := by
  unfold pinNbr
  with_reducible repeat' first
    | exact hOnly
    | refine onNbr_only (via hSub) ?_
    | refine onCtx_only (via hSub) ?_
    | split

theorem commitCtx_only {bs : List Block} {s0 : State} {m : Nat} {w : CtxWord} {s : State}
    (hSub : Block.sub [.hosts, .evt, .link, .sess, .vee, .arch, .fleet, .pair] bs = true) (hOnly : Only bs s0 s) :
    Only bs s0 (commitCtx m w s) := by
  unfold commitCtx
  with_reducible repeat' first
    | exact hOnly
    | assumption
    | refine onNbr_only (via hSub) ?_
    | refine freeCtx_only (via hSub) ?_
    | refine onCtx_only (via hSub) ?_
    | refine touch_only (via hSub) ?_
    | refine mirror_only (via hSub) ?_
    | refine onSess_only (viaOne hSub) ?_
    | refine allotNbr_only (via hSub) ?_
    | refine Only.ite ?_ ?_
    | refine Only.ite1 ?_ ?_
    | refine Only.ite2 ?_ ?_
    | refine Only.eq1 (by assumption) ?_
    | refine Only.eq2 (by assumption) ?_
    | refine OnlyOpt.get (by assumption) ?_
    | refine OnlyOptP.get (by assumption) ?_
    | refine OnlyEx.get (by assumption) ?_
    | refine OnlyExP.get (by assumption) ?_
    | split
    | dsimp only

theorem commitShadow_only {bs : List Block} {s0 : State} {w : CtlWord} {s : State}
    (hSub : Block.sub [.cfg, .hosts, .fab, .evt, .pwr, .rad, .link, .sess, .vee, .arch, .fleet, .pair] bs = true) (hOnly : Only bs s0 s) :
    Only bs s0 (commitShadow w s) := by
  unfold commitShadow
  with_reducible repeat' first
    | exact hOnly
    | assumption
    | refine commitCtx_only (via hSub) ?_
    | refine pinNbr_only (via hSub) ?_
    | refine untracked_only (via hSub) ?_
    | refine keepGuards_only (via hSub) ?_
    | refine onCtx_only (via hSub) ?_
    | refine commitAny_only (via hSub) ?_
    | refine commitWord_only (via hSub) ?_
    | refine Only.ite ?_ ?_
    | refine Only.ite1 ?_ ?_
    | refine Only.ite2 ?_ ?_
    | refine Only.eq1 (by assumption) ?_
    | refine Only.eq2 (by assumption) ?_
    | refine OnlyOpt.get (by assumption) ?_
    | refine OnlyOptP.get (by assumption) ?_
    | refine OnlyEx.get (by assumption) ?_
    | refine OnlyExP.get (by assumption) ?_
    | split
    | dsimp only

theorem releaseHeld_only {bs : List Block} {s0 : State} {s : State}
    (hSub : Block.sub [.cfg, .hosts, .fab, .evt, .pwr, .rad, .link, .sess, .vee, .arch, .fleet, .pair] bs = true) (hOnly : Only bs s0 s) :
    Only bs s0 (releaseHeld s) := by
  unfold releaseHeld
  with_reducible repeat' first
    | exact hOnly
    | assumption
    | refine commitShadow_only (via hSub) ?_
    | refine onFab_only (viaOne hSub) ?_
    | refine Only.ite ?_ ?_
    | refine Only.ite1 ?_ ?_
    | refine Only.ite2 ?_ ?_
    | refine Only.foldl (fun _ _ _ => ?_) ?_
    | refine Only.foldl1 (fun _ _ _ => ?_) ?_
    | refine Only.foldl2 (fun _ _ _ => ?_) ?_
    | refine Only.eq1 (by assumption) ?_
    | refine Only.eq2 (by assumption) ?_
    | refine OnlyOpt.get (by assumption) ?_
    | refine OnlyOptP.get (by assumption) ?_
    | refine OnlyEx.get (by assumption) ?_
    | refine OnlyExP.get (by assumption) ?_
    | split
    | dsimp only

theorem nbrRead_only {bs : List Block} {s0 : State} {t : Taken} {s : State} (hSub : Block.sub [] bs = true) (hOnly : Only bs s0 s) :
    Only bs s0 (nbrRead t s).1 := by
  unfold nbrRead
  with_reducible repeat' first
    | exact hOnly
    | split
    | dsimp only

theorem lprofSet_only {bs : List Block} {s0 : State} {t : Taken} {s : State}
    (hSub : Block.sub [.cfg, .fab] bs = true) (hOnly : Only bs s0 s) :
    Only bs s0 (lprofSet t s).1 := by
  unfold lprofSet
  with_reducible repeat' first
    | exact hOnly
    | refine postWord_only (via hSub) ?_
    | split
    | dsimp only

theorem nbrPin_only {bs : List Block} {s0 : State} {t : Taken} {s : State}
    (hSub : Block.sub [.cfg, .fab] bs = true) (hOnly : Only bs s0 s) :
    Only bs s0 (nbrPin t s).1 := by
  unfold nbrPin
  with_reducible repeat' first
    | exact hOnly
    | refine postWord_only (via hSub) ?_
    | split
    | dsimp only

theorem linkCounters_only {bs : List Block} {s0 : State} {_t : Taken} {s : State} (hSub : Block.sub [] bs = true) (hOnly : Only bs s0 s) :
    Only bs s0 (linkCounters _t s).1 := by
  unfold linkCounters
  with_reducible repeat' first
    | exact hOnly

/-! ### RadioTx -/

theorem countTxDrop_only {bs : List Block} {s0 : State} {why : TxDrop} {fe : Nat} {s : State}
    (hSub : Block.sub [.rad] bs = true) (hOnly : Only bs s0 s) :
    Only bs s0 (countTxDrop why fe s) := by
  unfold countTxDrop
  with_reducible repeat' first
    | exact hOnly
    | assumption
    | refine onFe_only (via hSub) ?_
    | refine onRad_only (viaOne hSub) ?_
    | refine Only.ite ?_ ?_
    | refine Only.ite1 ?_ ?_
    | refine Only.ite2 ?_ ?_
    | refine Only.eq1 (by assumption) ?_
    | refine Only.eq2 (by assumption) ?_
    | refine OnlyOpt.get (by assumption) ?_
    | refine OnlyOptP.get (by assumption) ?_
    | refine OnlyEx.get (by assumption) ?_
    | refine OnlyExP.get (by assumption) ?_
    | split
    | dsimp only

theorem dutyDrop_only {bs : List Block} {s0 : State} {fe band : Nat} {s : State}
    (hSub : Block.sub [.hosts, .evt, .rad] bs = true) (hOnly : Only bs s0 s) :
    Only bs s0 (dutyDrop fe band s) := by
  unfold dutyDrop
  with_reducible repeat' first
    | exact hOnly
    | assumption
    | refine countTxDrop_only (via hSub) ?_
    | refine onFe_only (via hSub) ?_
    | refine raise_only (via hSub) ?_
    | refine onRad_only (viaOne hSub) ?_
    | refine Only.ite ?_ ?_
    | refine Only.ite1 ?_ ?_
    | refine Only.ite2 ?_ ?_
    | refine Only.eq1 (by assumption) ?_
    | refine Only.eq2 (by assumption) ?_
    | refine OnlyOpt.get (by assumption) ?_
    | refine OnlyOptP.get (by assumption) ?_
    | refine OnlyEx.get (by assumption) ?_
    | refine OnlyExP.get (by assumption) ?_
    | split
    | dsimp only

theorem releaseFrame_only {bs : List Block} {s0 : State} {fe key : Nat} {cca : Int} {f : TxFrame} {s : State}
    (hSub : Block.sub [.hosts, .sched, .fab, .evt, .rad, .link, .plc, .upl, .pair] bs = true) (hOnly : Only bs s0 s) :
    Only bs s0 (releaseFrame fe key cca f s) := by
  unfold releaseFrame
  with_reducible repeat' first
    | exact hOnly
    | assumption
    | refine dutyDrop_only (via hSub) ?_
    | refine countTxDrop_only (via hSub) ?_
    | refine frameDropped_only (via hSub) ?_
    | refine onFe_only (via hSub) ?_
    | refine onLink_only (viaOne hSub) ?_
    | refine Only.ite ?_ ?_
    | refine Only.ite1 ?_ ?_
    | refine Only.ite2 ?_ ?_
    | refine Only.eq1 (by assumption) ?_
    | refine Only.eq2 (by assumption) ?_
    | refine OnlyOpt.get (by assumption) ?_
    | refine OnlyOptP.get (by assumption) ?_
    | refine OnlyEx.get (by assumption) ?_
    | refine OnlyExP.get (by assumption) ?_
    | split
    | dsimp only

theorem endBlank_only {bs : List Block} {s0 : State} {fe offRc : Nat} {s : State}
    (hSub : Block.sub [.rad] bs = true) (hOnly : Only bs s0 s) :
    Only bs s0 (endBlank fe offRc s) := by
  unfold endBlank
  with_reducible repeat' first
    | exact hOnly
    | assumption
    | refine onFe_only (via hSub) ?_
    | refine Only.ite ?_ ?_
    | refine Only.ite1 ?_ ?_
    | refine Only.ite2 ?_ ?_
    | refine Only.eq1 (by assumption) ?_
    | refine Only.eq2 (by assumption) ?_
    | refine OnlyOpt.get (by assumption) ?_
    | refine OnlyOptP.get (by assumption) ?_
    | refine OnlyEx.get (by assumption) ?_
    | refine OnlyExP.get (by assumption) ?_
    | split
    | dsimp only

theorem addAir_only {bs : List Block} {s0 : State} {t : RunTx} {offRc : Nat} {s : State}
    (hSub : Block.sub [.rad] bs = true) (hOnly : Only bs s0 s) :
    Only bs s0 (addAir t offRc s) := by
  unfold addAir
  with_reducible repeat' first
    | exact hOnly
    | refine onRad_only (viaOne hSub) ?_

theorem cutTx_only {bs : List Block} {s0 : State} {fe : Nat} {s : State}
    (hSub : Block.sub [.rad, .link, .upl] bs = true) (hOnly : Only bs s0 s) :
    Only bs s0 (cutTx fe s) := by
  unfold cutTx
  with_reducible repeat' first
    | exact hOnly
    | assumption
    | refine addAir_only (via hSub) ?_
    | refine endBlank_only (via hSub) ?_
    | refine countTxDrop_only (via hSub) ?_
    | refine frameCut_only (via hSub) ?_
    | refine onFe_only (via hSub) ?_
    | refine Only.ite ?_ ?_
    | refine Only.ite1 ?_ ?_
    | refine Only.ite2 ?_ ?_
    | refine Only.foldl (fun _ _ _ => ?_) ?_
    | refine Only.foldl1 (fun _ _ _ => ?_) ?_
    | refine Only.foldl2 (fun _ _ _ => ?_) ?_
    | refine Only.eq1 (by assumption) ?_
    | refine Only.eq2 (by assumption) ?_
    | refine OnlyOpt.get (by assumption) ?_
    | refine OnlyOptP.get (by assumption) ?_
    | refine OnlyEx.get (by assumption) ?_
    | refine OnlyExP.get (by assumption) ?_
    | split
    | dsimp only

theorem cutRadio_only {bs : List Block} {s0 : State} {s : State} (hSub : Block.sub [.rad, .link, .upl] bs = true) (hOnly : Only bs s0 s) :
    Only bs s0 (cutRadio s) := by
  unfold cutRadio
  with_reducible repeat' first
    | exact hOnly
    | refine cutTx_only (via hSub) ?_

/-! ### Plc -/

theorem muteDriver_only {bs : List Block} {s0 : State} {s : State}
    (hSub : Block.sub [.hosts, .fab, .evt, .link, .plc, .upl] bs = true) (hOnly : Only bs s0 s) :
    Only bs s0 (muteDriver s) := by
  unfold muteDriver
  with_reducible repeat' first
    | exact hOnly
    | assumption
    | refine frameCut_only (via hSub) ?_
    | refine tellLogic_only (via hSub) ?_
    | refine onPlc_only (viaOne hSub) ?_
    | refine Only.ite ?_ ?_
    | refine Only.ite1 ?_ ?_
    | refine Only.ite2 ?_ ?_
    | refine Only.eq1 (by assumption) ?_
    | refine Only.eq2 (by assumption) ?_
    | refine OnlyOpt.get (by assumption) ?_
    | refine OnlyOptP.get (by assumption) ?_
    | refine OnlyEx.get (by assumption) ?_
    | refine OnlyExP.get (by assumption) ?_
    | split
    | dsimp only

theorem dropFrames_only {bs : List Block} {s0 : State} {l : List TxFrame} {s : State}
    (hSub : Block.sub [.hosts, .sched, .fab, .evt, .rad, .link, .plc, .upl, .pair] bs = true) (hOnly : Only bs s0 s) :
    Only bs s0 (dropFrames l s) := by
  unfold dropFrames
  with_reducible repeat' first
    | assumption
    | refine frameDropped_only (via hSub) ?_
    | refine Only.foldl (fun _ _ _ => ?_) ?_

theorem applyMode_only {bs : List Block} {s0 : State} {mode : Nat} {s : State}
    (hSub : Block.sub [.cfg, .hosts, .sched, .fab, .evt, .pwr, .rad, .link, .plc, .upl, .pair] bs = true) (hOnly : Only bs s0 s) :
    Only bs s0 (applyMode mode s) := by
  unfold applyMode
  with_reducible repeat' first
    | exact hOnly
    | assumption
    | refine dropFrames_only (via hSub) ?_
    | refine frameCut_only (via hSub) ?_
    | refine beginTransit_only (via hSub) ?_
    | refine raise_only (via hSub) ?_
    | refine onCfg_only (viaOne hSub) ?_
    | refine onLink_only (viaOne hSub) ?_
    | refine onPlc_only (viaOne hSub) ?_
    | refine Only.ite ?_ ?_
    | refine Only.ite1 ?_ ?_
    | refine Only.ite2 ?_ ?_
    | refine Only.eq1 (by assumption) ?_
    | refine Only.eq2 (by assumption) ?_
    | refine OnlyOpt.get (by assumption) ?_
    | refine OnlyOptP.get (by assumption) ?_
    | refine OnlyEx.get (by assumption) ?_
    | refine OnlyExP.get (by assumption) ?_
    | split
    | dsimp only

theorem dropDuePlc_only {bs : List Block} {s0 : State} {s : State}
    (hSub : Block.sub [.hosts, .sched, .evt, .pair] bs = true) (hOnly : Only bs s0 s) :
    Only bs s0 (dropDuePlc s) := by
  unfold dropDuePlc
  with_reducible repeat' first
    | exact hOnly
    | assumption
    | refine dropEntries_only (via hSub) ?_
    | refine onSched_only (viaOne hSub) ?_
    | refine Only.ite ?_ ?_
    | refine Only.ite1 ?_ ?_
    | refine Only.ite2 ?_ ?_
    | refine Only.eq1 (by assumption) ?_
    | refine Only.eq2 (by assumption) ?_
    | refine OnlyOpt.get (by assumption) ?_
    | refine OnlyOptP.get (by assumption) ?_
    | refine OnlyEx.get (by assumption) ?_
    | refine OnlyExP.get (by assumption) ?_
    | split
    | dsimp only

theorem plcNode_only {bs : List Block} {s0 : State} {f : PlcFrame} {s : State}
    (hSub : Block.sub [.hosts, .evt, .plc] bs = true) (hOnly : Only bs s0 s) :
    Only bs s0 (plcNode f s).2 := by
  unfold plcNode
  with_reducible repeat' first
    | exact hOnly
    | assumption
    | refine raise_only (via hSub) ?_
    | refine setSticky_only (via hSub) ?_
    | refine onPlc_only (viaOne hSub) ?_
    | refine Only.ite ?_ ?_
    | refine Only.ite1 ?_ ?_
    | refine Only.ite2 ?_ ?_
    | refine Only.foldl (fun _ _ _ => ?_) ?_
    | refine Only.foldl1 (fun _ _ _ => ?_) ?_
    | refine Only.foldl2 (fun _ _ _ => ?_) ?_
    | refine Only.eq1 (by assumption) ?_
    | refine Only.eq2 (by assumption) ?_
    | refine OnlyOpt.get (by assumption) ?_
    | refine OnlyOptP.get (by assumption) ?_
    | refine OnlyEx.get (by assumption) ?_
    | refine OnlyExP.get (by assumption) ?_
    | split
    | dsimp only

theorem noteNode_only {bs : List Block} {s0 : State} {f : PlcFrame} {s : State}
    (hSub : Block.sub [.hosts, .evt, .plc] bs = true) (hOnly : Only bs s0 s) :
    Only bs s0 (noteNode f s) := by
  unfold noteNode
  with_reducible repeat' first
    | exact hOnly
    | assumption
    | refine plcNode_only (via hSub) ?_
    | refine onPlc_only (viaOne hSub) ?_
    | refine Only.ite ?_ ?_
    | refine Only.ite1 ?_ ?_
    | refine Only.ite2 ?_ ?_
    | refine Only.eq1 (by assumption) ?_
    | refine Only.eq2 (by assumption) ?_
    | refine OnlyOpt.get (by assumption) ?_
    | refine OnlyOptP.get (by assumption) ?_
    | refine OnlyEx.get (by assumption) ?_
    | refine OnlyExP.get (by assumption) ?_
    | split
    | dsimp only

theorem plcMac_only {bs : List Block} {s0 : State} {f : PlcFrame} {s : State}
    (hSub : Block.sub [.hosts, .sched, .fab, .evt, .rad, .link, .sess, .arch, .upl, .pair] bs = true) (hOnly : Only bs s0 s) :
    Only bs s0 (plcMac f s) := by
  unfold plcMac
  with_reducible repeat' first
    | exact hOnly
    | refine deliverUnwindowed_only (via hSub) ?_
    | refine judgeFrame_only (via hSub) ?_
    | refine takeAck_only (via hSub) ?_
    | refine allotNbr_only (via hSub) ?_
    | refine OnlyOptP.get (by assumption) ?_
    | split

theorem takePlc1_only {bs : List Block} {s0 : State} {frame : PlcFrame} {s : State}
    (hSub : Block.sub [.hosts, .sched, .fab, .evt, .rad, .link, .plc, .sess, .arch, .upl, .pair] bs = true) (hOnly : Only bs s0 s) :
    Only bs s0 (takePlc1 frame s) := by
  unfold takePlc1
  with_reducible repeat' first
    | exact hOnly
    | assumption
    | refine plcMac_only (via hSub) ?_
    | refine noteNode_only (via hSub) ?_
    | refine onPlc_only (viaOne hSub) ?_
    | refine Only.ite ?_ ?_
    | refine Only.ite1 ?_ ?_
    | refine Only.ite2 ?_ ?_
    | refine Only.eq1 (by assumption) ?_
    | refine Only.eq2 (by assumption) ?_
    | refine OnlyOpt.get (by assumption) ?_
    | refine OnlyOptP.get (by assumption) ?_
    | refine OnlyEx.get (by assumption) ?_
    | refine OnlyExP.get (by assumption) ?_
    | split
    | dsimp only

theorem takeQ1_only {bs : List Block} {s0 : State} {s : State}
    (hSub : Block.sub [.hosts, .sched, .fab, .evt, .rad, .link, .plc, .sess, .arch, .upl, .pair] bs = true) (hOnly : Only bs s0 s) :
    Only bs s0 (takeQ1 s) := by
  unfold takeQ1
  with_reducible repeat' first
    | exact hOnly
    | assumption
    | refine takePlc1_only (via hSub) ?_
    | refine onPlc_only (viaOne hSub) ?_
    | refine Only.ite ?_ ?_
    | refine Only.ite1 ?_ ?_
    | refine Only.ite2 ?_ ?_
    | refine Only.foldl (fun _ _ _ => ?_) ?_
    | refine Only.foldl1 (fun _ _ _ => ?_) ?_
    | refine Only.foldl2 (fun _ _ _ => ?_) ?_
    | refine Only.eq1 (by assumption) ?_
    | refine Only.eq2 (by assumption) ?_
    | refine OnlyOpt.get (by assumption) ?_
    | refine OnlyOptP.get (by assumption) ?_
    | refine OnlyEx.get (by assumption) ?_
    | refine OnlyExP.get (by assumption) ?_
    | split
    | dsimp only

theorem plcSet_only {bs : List Block} {s0 : State} {t : Taken} {s : State}
    (hSub : Block.sub [.cfg, .hosts, .sched, .fab, .evt, .pwr, .pair] bs = true) (hOnly : Only bs s0 s) :
    Only bs s0 (plcSet t s).1 := by
  unfold plcSet
  with_reducible repeat' first
    | exact hOnly
    | assumption
    | refine armRequest_only (via hSub) ?_ (fun _ _ => ?_)
    | refine postWord_only (via hSub) ?_
    | refine placeMode_only (via hSub) ?_
    | refine Only.ite ?_ ?_
    | refine Only.ite1 ?_ ?_
    | refine Only.ite2 ?_ ?_
    | refine Only.getD ?_ ?_
    | refine Only.eq1 (by assumption) ?_
    | refine Only.eq2 (by assumption) ?_
    | refine OnlyOpt.get (by assumption) ?_
    | refine OnlyOptP.get (by assumption) ?_
    | refine OnlyEx.get (by assumption) ?_
    | refine OnlyExP.get (by assumption) ?_
    | split
    | dsimp only

theorem plcStatus_only {bs : List Block} {s0 : State} {_t : Taken} {s : State} (hSub : Block.sub [] bs = true) (hOnly : Only bs s0 s) :
    Only bs s0 (plcStatus _t s).1 := by
  unfold plcStatus
  with_reducible repeat' first
    | exact hOnly

theorem noiseRead_only {bs : List Block} {s0 : State} {_t : Taken} {s : State} (hSub : Block.sub [] bs = true) (hOnly : Only bs s0 s) :
    Only bs s0 (noiseRead _t s).1 := by
  unfold noiseRead
  with_reducible repeat' first
    | exact hOnly
    | split
    | dsimp only

theorem zcRead_only {bs : List Block} {s0 : State} {t : Taken} {s : State} (hSub : Block.sub [] bs = true) (hOnly : Only bs s0 s) :
    Only bs s0 (zcRead t s).1 := by
  unfold zcRead
  with_reducible repeat' first
    | exact hOnly
    | split
    | dsimp only

end Sys2Proof.Machine
end

