-- ==== Sys2Proof/Laws/FramesData.lean ====
section
/-! SUPPORT. The frames of ingest, validation, the archive, topology and the balance: each operation changes no block of State outside its list. Every lemma has
one form: what changes no block outside `bs` so far still does not after the operation, when the list stands in `bs`. -/

namespace Sys2Proof.Machine

open Host (Outcome)

set_option maxHeartbeats 400000
set_option Elab.async false
set_option maxRecDepth 4000
set_option linter.unusedVariables false

/-! ### Ingest -/

theorem popQ2_only {bs : List Block} {s0 : State} {s : State} (hSub : Block.sub [.sess] bs = true) (hOnly : Only bs s0 s) :
    Only bs s0 (popQ2 s) := by
  unfold popQ2
  with_reducible repeat' first
    | exact hOnly
    | assumption
    | refine onSess_only (viaOne hSub) ?_
    | refine Only.ite ?_ ?_
    | refine Only.ite1 ?_ ?_
    | refine Only.ite2 ?_ ?_
    | refine Only.eq1 (by assumption) ?_
    | refine Only.eq2 (by assumption) ?_
    | refine OnlyOpt.get (by assumption) ?_
    | refine OnlyOptP.get (by assumption) ?_
    | refine OnlyEx.get (by assumption) ?_
    | refine OnlyExP.get (by assumption) ?_
    | split
    | dsimp only

theorem nextApdu_only {bs : List Block} {s0 : State} {s : State} (hSub : Block.sub [.sess] bs = true) (hOnly : Only bs s0 s) :
    Only bs s0 (nextApdu s).2 := by
  unfold nextApdu
  with_reducible repeat' first
    | exact hOnly
    | assumption
    | refine popQ2_only (via hSub) ?_
    | refine onSess_only (viaOne hSub) ?_
    | refine Only.ite ?_ ?_
    | refine Only.ite1 ?_ ?_
    | refine Only.ite2 ?_ ?_
    | refine Only.eq1 (by assumption) ?_
    | refine Only.eq2 (by assumption) ?_
    | refine OnlyOpt.get (by assumption) ?_
    | refine OnlyOptP.get (by assumption) ?_
    | refine OnlyEx.get (by assumption) ?_
    | refine OnlyExP.get (by assumption) ?_
    | split
    | dsimp only

theorem verified_only {bs : List Block} {s0 : State} {m : Nat} {s : State}
    (hSub : Block.sub [.hosts, .evt, .sess, .arch, .pair] bs = true) (hOnly : Only bs s0 s) :
    Only bs s0 (verified m s) := by
  unfold verified
  with_reducible repeat' first
    | exact hOnly
    | refine onCtx_only (via hSub) ?_
    | refine onHosts_only (viaOne hSub) ?_

theorem countAuthFail_only {bs : List Block} {s0 : State} {s : State} (hSub : Block.sub [.sess] bs = true) (hOnly : Only bs s0 s) :
    Only bs s0 (countAuthFail s) := by
  unfold countAuthFail
  with_reducible repeat' first
    | exact hOnly
    | refine onSess_only (viaOne hSub) ?_

theorem tagFailure_only {bs : List Block} {s0 : State} {m : Nat} {s : State}
    (hSub : Block.sub [.hosts, .evt, .sess, .arch, .pair] bs = true) (hOnly : Only bs s0 s) :
    Only bs s0 (tagFailure m s) := by
  unfold tagFailure
  with_reducible repeat' first
    | exact hOnly
    | refine countAuthFail_only (via hSub) ?_
    | refine onCtx_only (via hSub) ?_
    | refine raise_only (via hSub) ?_
    | refine Only.ite ?_ ?_

theorem parseDrop_only {bs : List Block} {s0 : State} {m : Nat} {s : State}
    (hSub : Block.sub [.hosts, .evt, .sess] bs = true) (hOnly : Only bs s0 s) :
    Only bs s0 (parseDrop m s) := by
  unfold parseDrop
  with_reducible repeat' first
    | exact hOnly
    | refine raise_only (via hSub) ?_
    | refine onSess_only (viaOne hSub) ?_

theorem pushQ3_only {bs : List Block} {s0 : State} {p : Parsed} {s : State}
    (hSub : Block.sub [.fab, .sess] bs = true) (hOnly : Only bs s0 s) :
    Only bs s0 (pushQ3 p s) := by
  unfold pushQ3
  with_reducible repeat' first
    | exact hOnly
    | assumption
    | refine countPush_only (via hSub) ?_
    | refine onSess_only (viaOne hSub) ?_
    | refine Only.ite ?_ ?_
    | refine Only.ite1 ?_ ?_
    | refine Only.ite2 ?_ ?_
    | refine Only.eq1 (by assumption) ?_
    | refine Only.eq2 (by assumption) ?_
    | refine OnlyOpt.get (by assumption) ?_
    | refine OnlyOptP.get (by assumption) ?_
    | refine OnlyEx.get (by assumption) ?_
    | refine OnlyExP.get (by assumption) ?_
    | split
    | dsimp only

theorem popQ3_only {bs : List Block} {s0 : State} {s : State} (hSub : Block.sub [.sess] bs = true) (hOnly : Only bs s0 s) :
    Only bs s0 (popQ3 s) := by
  unfold popQ3
  with_reducible repeat' first
    | exact hOnly
    | assumption
    | refine onSess_only (viaOne hSub) ?_
    | refine Only.ite ?_ ?_
    | refine Only.ite1 ?_ ?_
    | refine Only.ite2 ?_ ?_
    | refine Only.eq1 (by assumption) ?_
    | refine Only.eq2 (by assumption) ?_
    | refine OnlyOpt.get (by assumption) ?_
    | refine OnlyOptP.get (by assumption) ?_
    | refine OnlyEx.get (by assumption) ?_
    | refine OnlyExP.get (by assumption) ?_
    | split
    | dsimp only

theorem parseAccepted_only {bs : List Block} {s0 : State} {m : Nat} {e : Q2Entry} {signed : Bool} {plain : PlainApdu} {s : State}
    (hSub : Block.sub [.hosts, .fab, .evt, .sess] bs = true) (hOnly : Only bs s0 s) :
    Only bs s0 (parseAccepted m e signed plain s) := by
  unfold parseAccepted
  with_reducible repeat' first
    | exact hOnly
    | assumption
    | refine pushQ3_only (via hSub) ?_
    | refine parseDrop_only (via hSub) ?_
    | refine onSess_only (viaOne hSub) ?_
    | refine Only.ite ?_ ?_
    | refine Only.ite1 ?_ ?_
    | refine Only.ite2 ?_ ?_
    | refine Only.getD ?_ ?_
    | refine Only.eq1 (by assumption) ?_
    | refine Only.eq2 (by assumption) ?_
    | refine OnlyOpt.get (by assumption) ?_
    | refine OnlyOptP.get (by assumption) ?_
    | refine OnlyEx.get (by assumption) ?_
    | refine OnlyExP.get (by assumption) ?_
    | split
    | dsimp only

theorem frameContact_only {bs : List Block} {s0 : State} {m : Nat} {e : Q2Entry} {s : State}
    (hSub : Block.sub [.hosts, .evt, .link, .sess, .arch, .pair] bs = true) (hOnly : Only bs s0 s) :
    Only bs s0 (frameContact m e s) := by
  unfold frameContact
  with_reducible repeat' first
    | exact hOnly
    | refine contact_only (via hSub) ?_
    | refine onCtx_only (via hSub) ?_
    | refine onSess_only (viaOne hSub) ?_

theorem lastCounter_only {bs : List Block} {s0 : State} {m ic : Nat} {s : State}
    (hSub : Block.sub [.hosts, .evt, .sess, .arch, .pair] bs = true) (hOnly : Only bs s0 s) :
    Only bs s0 (lastCounter m ic s) := by
  unfold lastCounter
  with_reducible repeat' first
    | exact hOnly
    | refine onCtx_only (via hSub) ?_
    | refine raise_only (via hSub) ?_
    | refine Only.ite ?_ ?_

theorem acceptCurrent_only {bs : List Block} {s0 : State} {m : Nat} {e : Q2Entry} {signed : Bool} {plain : PlainApdu} {s : State}
    (hSub : Block.sub [.hosts, .fab, .evt, .link, .sess, .arch, .pair] bs = true) (hOnly : Only bs s0 s) :
    Only bs s0 (acceptCurrent m e signed plain s) := by
  unfold acceptCurrent
  with_reducible repeat' first
    | exact hOnly
    | refine lastCounter_only (via hSub) ?_
    | refine frameContact_only (via hSub) ?_
    | refine parseAccepted_only (via hSub) ?_
    | refine pushQ3_only (via hSub) ?_
    | refine verified_only (via hSub) ?_
    | refine onCtx_only (via hSub) ?_
    | refine onSess_only (viaOne hSub) ?_
    | split
    | dsimp only

theorem acceptPrevious_only {bs : List Block} {s0 : State} {m : Nat} {e : Q2Entry} {signed : Bool} {plain : PlainApdu} {s : State}
    (hSub : Block.sub [.hosts, .fab, .evt, .link, .sess, .arch, .pair] bs = true) (hOnly : Only bs s0 s) :
    Only bs s0 (acceptPrevious m e signed plain s) := by
  unfold acceptPrevious
  with_reducible repeat' first
    | exact hOnly
    | refine lastCounter_only (via hSub) ?_
    | refine frameContact_only (via hSub) ?_
    | refine parseAccepted_only (via hSub) ?_
    | refine verified_only (via hSub) ?_
    | refine onCtx_only (via hSub) ?_
    | refine onSess_only (viaOne hSub) ?_
    | split

theorem cipheredIn_only {bs : List Block} {s0 : State} {m : Nat} {e : Q2Entry} {signed : Bool} {s : State}
    (hSub : Block.sub [.hosts, .fab, .evt, .link, .sess, .arch, .pocket, .pair] bs = true) (hOnly : Only bs s0 s) :
    Only bs s0 (cipheredIn m e signed s) := by
  unfold cipheredIn
  with_reducible repeat' first
    | exact hOnly
    | assumption
    | refine acceptPrevious_only (via hSub) ?_
    | refine acceptCurrent_only (via hSub) ?_
    | refine tagFailure_only (via hSub) ?_
    | refine countAuthFail_only (via hSub) ?_
    | refine setSticky_only (via hSub) ?_
    | refine onPocket_only (viaOne hSub) ?_
    | refine onSess_only (viaOne hSub) ?_
    | refine Only.ite ?_ ?_
    | refine Only.ite1 ?_ ?_
    | refine Only.ite2 ?_ ?_
    | refine Only.eq1 (by assumption) ?_
    | refine Only.eq2 (by assumption) ?_
    | refine OnlyOpt.get (by assumption) ?_
    | refine OnlyOptP.get (by assumption) ?_
    | refine OnlyEx.get (by assumption) ?_
    | refine OnlyExP.get (by assumption) ?_
    | split
    | dsimp only

theorem stage_only {bs : List Block} {s0 : State} {e : Q2Entry} {s : State}
    (hSub : Block.sub [.hosts, .fab, .evt, .link, .sess, .arch, .pocket, .pair] bs = true) (hOnly : Only bs s0 s) :
    Only bs s0 (stage e s) := by
  unfold stage
  with_reducible repeat' first
    | exact hOnly
    | assumption
    | refine cipheredIn_only (via hSub) ?_
    | refine countAuthFail_only (via hSub) ?_
    | refine takeHot_only (via hSub) ?_
    | refine onSess_only (viaOne hSub) ?_
    | refine Only.ite ?_ ?_
    | refine Only.ite1 ?_ ?_
    | refine Only.ite2 ?_ ?_
    | refine Only.eq1 (by assumption) ?_
    | refine Only.eq2 (by assumption) ?_
    | refine OnlyOpt.get (by assumption) ?_
    | refine OnlyOptP.get (by assumption) ?_
    | refine OnlyEx.get (by assumption) ?_
    | refine OnlyExP.get (by assumption) ?_
    | split
    | dsimp only

theorem pushBack_only {bs : List Block} {s0 : State} {e : Q2Entry} {s : State}
    (hSub : Block.sub [.fab, .sess] bs = true) (hOnly : Only bs s0 s) :
    Only bs s0 (pushBack e s) := by
  unfold pushBack
  with_reducible repeat' first
    | exact hOnly
    | assumption
    | refine countPush_only (via hSub) ?_
    | refine onSess_only (viaOne hSub) ?_
    | refine Only.ite ?_ ?_
    | refine Only.ite1 ?_ ?_
    | refine Only.ite2 ?_ ?_
    | refine Only.eq1 (by assumption) ?_
    | refine Only.eq2 (by assumption) ?_
    | refine OnlyOpt.get (by assumption) ?_
    | refine OnlyOptP.get (by assumption) ?_
    | refine OnlyEx.get (by assumption) ?_
    | refine OnlyExP.get (by assumption) ?_
    | split
    | dsimp only

theorem pushMeterRecords_only {bs : List Block} {s0 : State} {m : Nat} {recs : List Record} {s : State}
    (hSub : Block.sub [.hosts, .fab, .evt, .sess, .arch, .pair] bs = true) (hOnly : Only bs s0 s) :
    Only bs s0 (pushMeterRecords m recs s) := by
  unfold pushMeterRecords
  with_reducible repeat' first
    | exact hOnly
    | assumption
    | refine onCtx_only (via hSub) ?_
    | refine pushQ4_only (via hSub) ?_
    | refine onHosts_only (viaOne hSub) ?_
    | refine onSess_only (viaOne hSub) ?_
    | refine Only.ite ?_ ?_
    | refine Only.ite1 ?_ ?_
    | refine Only.ite2 ?_ ?_
    | refine Only.foldl (fun _ _ _ => ?_) ?_
    | refine Only.foldl1 (fun _ _ _ => ?_) ?_
    | refine Only.foldl2 (fun _ _ _ => ?_) ?_
    | refine Only.eq1 (by assumption) ?_
    | refine Only.eq2 (by assumption) ?_
    | refine OnlyOpt.get (by assumption) ?_
    | refine OnlyOptP.get (by assumption) ?_
    | refine OnlyEx.get (by assumption) ?_
    | refine OnlyExP.get (by assumption) ?_
    | split
    | dsimp only

theorem sendOn_only {bs : List Block} {s0 : State} {q : Parsed} {recs : List Record} {s : State}
    (hSub : Block.sub [.hosts, .fab, .evt, .sess, .arch, .pair] bs = true) (hOnly : Only bs s0 s) :
    Only bs s0 (sendOn q recs s) := by
  unfold sendOn
  with_reducible repeat' first
    | exact hOnly
    | refine pushMeterRecords_only (via hSub) ?_
    | refine onSess_only (viaOne hSub) ?_
    | refine Only.ite ?_ ?_

theorem releaseAcked_only {bs : List Block} {s0 : State} {s : State}
    (hSub : Block.sub [.hosts, .fab, .evt, .sess, .arch, .pair] bs = true) (hOnly : Only bs s0 s) :
    Only bs s0 (releaseAcked s) := by
  unfold releaseAcked
  with_reducible repeat' first
    | assumption
    | refine pushMeterRecords_only (via hSub) ?_
    | refine onSess_only (viaOne hSub) ?_
    | refine Only.foldl (fun _ _ _ => ?_) ?_

theorem rowsWithoutTime_only {bs : List Block} {s0 : State} {q : Parsed} {rows : List (List Axdr)} {s : State}
    (hSub : Block.sub [.hosts, .fab, .evt, .sess, .arch, .pair] bs = true) (hOnly : Only bs s0 s) :
    Only bs s0 (rowsWithoutTime q rows s) := by
  unfold rowsWithoutTime
  with_reducible repeat' first
    | exact hOnly
    | refine sendOn_only (via hSub) ?_

theorem placeTime_only {bs : List Block} {s0 : State} {q : Parsed} {t : Axdr} {s : State}
    (hSub : Block.sub [.hosts, .evt, .sess, .arch, .pair] bs = true) (hOnly : Only bs s0 s) :
    Only bs s0 (placeTime q t s).2 := by
  unfold placeTime
  with_reducible repeat' first
    | exact hOnly
    | assumption
    | refine onCtx_only (via hSub) ?_
    | refine Only.ite ?_ ?_
    | refine Only.ite1 ?_ ?_
    | refine Only.ite2 ?_ ?_
    | refine Only.getD ?_ ?_
    | refine Only.eq1 (by assumption) ?_
    | refine Only.eq2 (by assumption) ?_
    | refine OnlyOpt.get (by assumption) ?_
    | refine OnlyOptP.get (by assumption) ?_
    | refine OnlyEx.get (by assumption) ?_
    | refine OnlyExP.get (by assumption) ?_
    | split
    | dsimp only

theorem takeBlock_only {bs : List Block} {s0 : State} {q : Parsed} {invoke block : Nat} {last : Bool} {raw : List Byte} {s : State}
    (hSub : Block.sub [.hosts, .fab, .evt, .sess, .arch, .pair] bs = true) (hOnly : Only bs s0 s) :
    Only bs s0 (takeBlock q invoke block last raw s) := by
  unfold takeBlock
  with_reducible repeat' first
    | exact hOnly
    | assumption
    | refine rowsWithoutTime_only (via hSub) ?_
    | refine parseDrop_only (via hSub) ?_
    | refine onCtx_only (via hSub) ?_
    | refine onSess_only (viaOne hSub) ?_
    | refine Only.ite ?_ ?_
    | refine Only.ite1 ?_ ?_
    | refine Only.ite2 ?_ ?_
    | refine Only.getD ?_ ?_
    | refine Only.eq1 (by assumption) ?_
    | refine Only.eq2 (by assumption) ?_
    | refine OnlyOpt.get (by assumption) ?_
    | refine OnlyOptP.get (by assumption) ?_
    | refine OnlyEx.get (by assumption) ?_
    | refine OnlyExP.get (by assumption) ?_
    | split
    | dsimp only

theorem normalise_only {bs : List Block} {s0 : State} {q : Parsed} {s : State}
    (hSub : Block.sub [.hosts, .fab, .evt, .sess, .arch, .pair] bs = true) (hOnly : Only bs s0 s) :
    Only bs s0 (normalise q s) := by
  unfold normalise
  with_reducible repeat' first
    | exact hOnly
    | assumption
    | refine takeBlock_only (via hSub) ?_
    | refine placeTime_only (via hSub) ?_
    | refine rowsWithoutTime_only (via hSub) ?_
    | refine sendOn_only (via hSub) ?_
    | refine onSess_only (viaOne hSub) ?_
    | refine Only.ite ?_ ?_
    | refine Only.ite1 ?_ ?_
    | refine Only.ite2 ?_ ?_
    | refine Only.getD ?_ ?_
    | refine Only.eq1 (by assumption) ?_
    | refine Only.eq2 (by assumption) ?_
    | refine OnlyOpt.get (by assumption) ?_
    | refine OnlyOptP.get (by assumption) ?_
    | refine OnlyEx.get (by assumption) ?_
    | refine OnlyExP.get (by assumption) ?_
    | split
    | dsimp only

theorem meterAdmit_only {bs : List Block} {s0 : State} {t : Taken} {s : State}
    (hSub : Block.sub [.cfg, .hosts, .fab, .evt] bs = true) (hOnly : Only bs s0 s) :
    Only bs s0 (meterAdmit t s).1 := by
  unfold meterAdmit
  with_reducible repeat' first
    | exact hOnly
    | assumption
    | refine postWord_only (via hSub) ?_
    | refine raise_only (via hSub) ?_
    | refine Only.ite ?_ ?_
    | refine Only.ite1 ?_ ?_
    | refine Only.ite2 ?_ ?_
    | refine Only.eq1 (by assumption) ?_
    | refine Only.eq2 (by assumption) ?_
    | refine OnlyOpt.get (by assumption) ?_
    | refine OnlyOptP.get (by assumption) ?_
    | refine OnlyEx.get (by assumption) ?_
    | refine OnlyExP.get (by assumption) ?_
    | split
    | dsimp only

theorem meterRetire_only {bs : List Block} {s0 : State} {t : Taken} {s : State}
    (hSub : Block.sub [.cfg, .fab] bs = true) (hOnly : Only bs s0 s) :
    Only bs s0 (meterRetire t s).1 := by
  unfold meterRetire
  with_reducible repeat' first
    | exact hOnly
    | assumption
    | refine postWord_only (via hSub) ?_
    | refine Only.ite ?_ ?_
    | refine Only.ite1 ?_ ?_
    | refine Only.ite2 ?_ ?_
    | refine Only.eq1 (by assumption) ?_
    | refine Only.eq2 (by assumption) ?_
    | refine OnlyOpt.get (by assumption) ?_
    | refine OnlyOptP.get (by assumption) ?_
    | refine OnlyEx.get (by assumption) ?_
    | refine OnlyExP.get (by assumption) ?_
    | split
    | dsimp only

theorem meterRead_only {bs : List Block} {s0 : State} {t : Taken} {s : State} (hSub : Block.sub [] bs = true) (hOnly : Only bs s0 s) :
    Only bs s0 (meterRead t s).1 := by
  unfold meterRead
  with_reducible repeat' first
    | exact hOnly
    | split
    | dsimp only

theorem parseSet_only {bs : List Block} {s0 : State} {t : Taken} {s : State}
    (hSub : Block.sub [.cfg, .fab] bs = true) (hOnly : Only bs s0 s) :
    Only bs s0 (parseSet t s).1 := by
  unfold parseSet
  with_reducible repeat' first
    | exact hOnly
    | refine postWord_only (via hSub) ?_
    | split
    | dsimp only

theorem ingestCounters_only {bs : List Block} {s0 : State} {_t : Taken} {s : State}
    (hSub : Block.sub [] bs = true) (hOnly : Only bs s0 s) :
    Only bs s0 (ingestCounters _t s).1 := by
  unfold ingestCounters
  with_reducible repeat' first
    | exact hOnly

theorem meterFind_only {bs : List Block} {s0 : State} {t : Taken} {s : State} (hSub : Block.sub [] bs = true) (hOnly : Only bs s0 s) :
    Only bs s0 (meterFind t s).1 := by
  unfold meterFind
  with_reducible repeat' first
    | exact hOnly
    | split

/-! ### Vee -/

theorem countVee_only {bs : List Block} {s0 : State} {k : Nat} {s : State} (hSub : Block.sub [.vee] bs = true) (hOnly : Only bs s0 s) :
    Only bs s0 (countVee k s) := by
  unfold countVee
  with_reducible repeat' first
    | exact hOnly
    | refine onVee_only (viaOne hSub) ?_

theorem onSlot_only {bs : List Block} {s0 : State} {m ch : Nat} {f : ChSlot → ChSlot} {s : State}
    (hSub : Block.sub [.vee] bs = true) (hOnly : Only bs s0 s) :
    Only bs s0 (onSlot m ch f s) := by
  unfold onSlot
  with_reducible repeat' first
    | exact hOnly
    | refine onVee_only (viaOne hSub) ?_

theorem putIndex_only {bs : List Block} {s0 : State} {e : VerEntry} {s : State}
    (hSub : Block.sub [.vee] bs = true) (hOnly : Only bs s0 s) :
    Only bs s0 (putIndex e s) := by
  unfold putIndex
  with_reducible repeat' first
    | exact hOnly
    | refine onVee_only (viaOne hSub) ?_
    | split
    | dsimp only

theorem assignVersion_only {bs : List Block} {s0 : State} {origin : Nat} {stands : Option Bool} {second : Bool} {r : Record} {s : State}
    (hSub : Block.sub [.vee] bs = true) (hOnly : Only bs s0 s) :
    Only bs s0 (assignVersion origin stands second r s).2 := by
  unfold assignVersion
  with_reducible repeat' first
    | exact hOnly
    | refine putIndex_only (via hSub) ?_
    | refine Only.ite ?_ ?_

theorem emitRecord_only {bs : List Block} {s0 : State} {r : Record} {s : State}
    (hSub : Block.sub [.hosts, .fab, .vee] bs = true) (hOnly : Only bs s0 s) :
    Only bs s0 (emitRecord r s) := by
  unfold emitRecord
  with_reducible repeat' first
    | exact hOnly
    | assumption
    | refine countPush_only (via hSub) ?_
    | refine tapRing_only (via hSub) ?_
    | refine onHosts_only (viaOne hSub) ?_
    | refine onVee_only (viaOne hSub) ?_
    | refine Only.ite ?_ ?_
    | refine Only.ite1 ?_ ?_
    | refine Only.ite2 ?_ ?_
    | refine Only.foldl (fun _ _ _ => ?_) ?_
    | refine Only.foldl1 (fun _ _ _ => ?_) ?_
    | refine Only.foldl2 (fun _ _ _ => ?_) ?_
    | refine Only.eq1 (by assumption) ?_
    | refine Only.eq2 (by assumption) ?_
    | refine OnlyOpt.get (by assumption) ?_
    | refine OnlyOptP.get (by assumption) ?_
    | refine OnlyEx.get (by assumption) ?_
    | refine OnlyExP.get (by assumption) ?_
    | split
    | dsimp only

theorem takeSeq_only {bs : List Block} {s0 : State} {s : State} (hSub : Block.sub [.sess] bs = true) (hOnly : Only bs s0 s) :
    Only bs s0 (takeSeq s).2 := by
  unfold takeSeq
  with_reducible repeat' first
    | exact hOnly
    | refine onSess_only (viaOne hSub) ?_

theorem createdLike_only {bs : List Block} {s0 : State} {q : Record} {tai key : Nat} {value : Int} {outcome : BitVec 16} {s : State}
    (hSub : Block.sub [.sess] bs = true) (hOnly : Only bs s0 s) :
    Only bs s0 (createdLike q tai key value outcome s).2 := by
  unfold createdLike
  with_reducible repeat' first
    | exact hOnly
    | refine takeSeq_only (via hSub) ?_

theorem takeSlot_only {bs : List Block} {s0 : State} {p : VeeProfile} {r : Record} {s : State}
    (hSub : Block.sub [.vee] bs = true) (hOnly : Only bs s0 s) :
    Only bs s0 (takeSlot p r s) := by
  unfold takeSlot
  with_reducible repeat' first
    | exact hOnly
    | refine onVee_only (viaOne hSub) ?_
    | refine Only.ite ?_ ?_

theorem pruneMeas_only {bs : List Block} {s0 : State} {m : Nat} {s : State} (hSub : Block.sub [.vee] bs = true) (hOnly : Only bs s0 s) :
    Only bs s0 (pruneMeas m s) := by
  unfold pruneMeas
  with_reducible repeat' first
    | exact hOnly
    | refine onVee_only (viaOne hSub) ?_
    | split
    | dsimp only

theorem updateSlot_only {bs : List Block} {s0 : State} {r : Record} {f : Found} {measured : Bool} {s : State}
    (hSub : Block.sub [.vee] bs = true) (hOnly : Only bs s0 s) :
    Only bs s0 (updateSlot r f measured s) := by
  unfold updateSlot
  with_reducible repeat' first
    | exact hOnly
    | refine pruneMeas_only (via hSub) ?_
    | refine onSlot_only (via hSub) ?_
    | refine Only.ite ?_ ?_
    | split

theorem emitEstimate_only {bs : List Block} {s0 : State} {like : Record} {tai : Nat} {v : Int} {s : State}
    (hSub : Block.sub [.hosts, .fab, .sess, .vee] bs = true) (hOnly : Only bs s0 s) :
    Only bs s0 (emitEstimate like tai v s) := by
  unfold emitEstimate
  with_reducible repeat' first
    | exact hOnly
    | refine createdLike_only (via hSub) ?_
    | refine emitRecord_only (via hSub) ?_
    | refine assignVersion_only (via hSub) ?_
    | refine countVee_only (via hSub) ?_

theorem noteMissing_only {bs : List Block} {s0 : State} {r : Record} {l : List Nat} {s : State}
    (hSub : Block.sub [.vee] bs = true) (hOnly : Only bs s0 s) :
    Only bs s0 (noteMissing r l s) := by
  unfold noteMissing
  with_reducible repeat' first
    | assumption
    | refine putIndex_only (via hSub) ?_
    | refine Only.ite ?_ ?_
    | refine Only.foldl (fun _ _ _ => ?_) ?_

theorem fillGap_only {bs : List Block} {s0 : State} {p : VeeProfile} {c : MeterCtx} {before : ChSlot} {r : Record} {f : Found} {s : State}
    (hSub : Block.sub [.hosts, .fab, .sess, .vee] bs = true) (hOnly : Only bs s0 s) :
    Only bs s0 (fillGap p c before r f s) := by
  unfold fillGap
  with_reducible repeat' first
    | assumption
    | refine noteMissing_only (via hSub) ?_
    | refine emitEstimate_only (via hSub) ?_
    | refine countVee_only (via hSub) ?_
    | refine Only.ite ?_ ?_
    | refine Only.foldl (fun _ _ _ => ?_) ?_

theorem countFound_only {bs : List Block} {s0 : State} {f : Found} {s : State}
    (hSub : Block.sub [.vee] bs = true) (hOnly : Only bs s0 s) :
    Only bs s0 (countFound f s) := by
  unfold countFound
  with_reducible repeat' first
    | assumption
    | refine countVee_only (via hSub) ?_
    | refine Only.ite ?_ ?_
    | refine Only.foldl (fun _ _ _ => ?_) ?_

theorem versionFull_only {bs : List Block} {s0 : State} {m : Nat} {s : State}
    (hSub : Block.sub [.hosts, .evt, .vee] bs = true) (hOnly : Only bs s0 s) :
    Only bs s0 (versionFull m s) := by
  unfold versionFull
  with_reducible repeat' first
    | exact hOnly
    | refine countVee_only (via hSub) ?_
    | refine raise_only (via hSub) ?_
    | refine onVee_only (viaOne hSub) ?_
    | refine Only.ite ?_ ?_

theorem clockMarks_only {bs : List Block} {s0 : State} {p : VeeProfile} {r : Record} {f : Found} {s : State}
    (hSub : Block.sub [.vee] bs = true) (hOnly : Only bs s0 s) :
    Only bs s0 (clockMarks p r f s) := by
  unfold clockMarks
  with_reducible repeat' first
    | exact hOnly
    | refine onSlot_only (via hSub) ?_
    | refine onVee_only (viaOne hSub) ?_
    | refine Only.ite ?_ ?_

theorem validateRecord_only {bs : List Block} {s0 : State} {r : Record} {s : State}
    (hSub : Block.sub [.hosts, .fab, .evt, .sess, .vee, .arch] bs = true) (hOnly : Only bs s0 s) :
    Only bs s0 (validateRecord r s) := by
  unfold validateRecord
  with_reducible repeat' first
    | exact hOnly
    | refine clockMarks_only (via hSub) ?_
    | refine versionFull_only (via hSub) ?_
    | refine countFound_only (via hSub) ?_
    | refine fillGap_only (via hSub) ?_
    | refine updateSlot_only (via hSub) ?_
    | refine takeSlot_only (via hSub) ?_
    | refine createdLike_only (via hSub) ?_
    | refine emitRecord_only (via hSub) ?_
    | refine assignVersion_only (via hSub) ?_
    | refine putIndex_only (via hSub) ?_
    | refine countVee_only (via hSub) ?_
    | refine touch_only (via hSub) ?_
    | refine Only.ite ?_ ?_

theorem popQ4_only {bs : List Block} {s0 : State} {s : State} (hSub : Block.sub [.sess] bs = true) (hOnly : Only bs s0 s) :
    Only bs s0 (popQ4 s) := by
  unfold popQ4
  with_reducible repeat' first
    | exact hOnly
    | assumption
    | refine onSess_only (viaOne hSub) ?_
    | refine Only.ite ?_ ?_
    | refine Only.ite1 ?_ ?_
    | refine Only.ite2 ?_ ?_
    | refine Only.eq1 (by assumption) ?_
    | refine Only.eq2 (by assumption) ?_
    | refine OnlyOpt.get (by assumption) ?_
    | refine OnlyOptP.get (by assumption) ?_
    | refine OnlyEx.get (by assumption) ?_
    | refine OnlyExP.get (by assumption) ?_
    | split
    | dsimp only

theorem veeProfileSet_only {bs : List Block} {s0 : State} {t : Taken} {s : State}
    (hSub : Block.sub [.cfg, .fab] bs = true) (hOnly : Only bs s0 s) :
    Only bs s0 (veeProfileSet t s).1 := by
  unfold veeProfileSet
  with_reducible repeat' first
    | exact hOnly
    | refine postWord_only (via hSub) ?_
    | split
    | dsimp only

theorem veeShapeSet_only {bs : List Block} {s0 : State} {t : Taken} {s : State}
    (hSub : Block.sub [.cfg, .fab] bs = true) (hOnly : Only bs s0 s) :
    Only bs s0 (veeShapeSet t s).1 := by
  unfold veeShapeSet
  with_reducible repeat' first
    | exact hOnly
    | refine postWord_only (via hSub) ?_
    | split
    | dsimp only

theorem veeMeterSet_only {bs : List Block} {s0 : State} {t : Taken} {s : State}
    (hSub : Block.sub [.cfg, .fab] bs = true) (hOnly : Only bs s0 s) :
    Only bs s0 (veeMeterSet t s).1 := by
  unfold veeMeterSet
  with_reducible repeat' first
    | exact hOnly
    | refine postWord_only (via hSub) ?_
    | split
    | dsimp only

theorem veeEdit_only {bs : List Block} {s0 : State} {h : Fin 4} {t : Taken} {s : State}
    (hSub : Block.sub [.hosts, .fab, .evt, .sess, .vee] bs = true) (hOnly : Only bs s0 s) :
    Only bs s0 (veeEdit h t s).1 := by
  unfold veeEdit
  with_reducible repeat' first
    | exact hOnly
    | refine createdLike_only (via hSub) ?_
    | refine emitRecord_only (via hSub) ?_
    | refine assignVersion_only (via hSub) ?_
    | refine onSlot_only (via hSub) ?_
    | refine countVee_only (via hSub) ?_
    | refine raise_only (via hSub) ?_
    | refine Only.ite1 ?_ ?_
    | split

theorem veeEstimate_only {bs : List Block} {s0 : State} {t : Taken} {s : State}
    (hSub : Block.sub [.hosts, .fab, .evt, .sess, .vee] bs = true) (hOnly : Only bs s0 s) :
    Only bs s0 (veeEstimate t s).1 := by
  unfold veeEstimate
  with_reducible repeat' first
    | assumption
    | refine emitEstimate_only (via hSub) ?_
    | refine raise_only (via hSub) ?_
    | refine Only.foldl (fun _ _ _ => ?_) ?_
    | split
    | dsimp only

theorem veeCounters_only {bs : List Block} {s0 : State} {_t : Taken} {s : State} (hSub : Block.sub [] bs = true) (hOnly : Only bs s0 s) :
    Only bs s0 (veeCounters _t s).1 := by
  unfold veeCounters
  with_reducible repeat' first
    | exact hOnly

/-! ### Nand -/

theorem committedFrom_only {bs : List Block} {s0 : State} {r : Record} {s : State}
    (hSub : Block.sub [.upl] bs = true) (hOnly : Only bs s0 s) :
    Only bs s0 (committedFrom r s) := by
  unfold committedFrom
  with_reducible repeat' first
    | exact hOnly
    | refine onChild_only (via hSub) ?_
    | split

theorem commitRecord_only {bs : List Block} {s0 : State} {r : Record} {s : State}
    (hSub : Block.sub [.hosts, .vee, .arch, .upl] bs = true) (hOnly : Only bs s0 s) :
    Only bs s0 (commitRecord r s) := by
  unfold commitRecord
  with_reducible repeat' first
    | exact hOnly
    | assumption
    | refine committedFrom_only (via hSub) ?_
    | refine onArch_only (viaOne hSub) ?_
    | refine onHosts_only (viaOne hSub) ?_
    | refine onVee_only (viaOne hSub) ?_
    | refine Only.ite ?_ ?_
    | refine Only.ite1 ?_ ?_
    | refine Only.ite2 ?_ ?_
    | refine Only.eq1 (by assumption) ?_
    | refine Only.eq2 (by assumption) ?_
    | refine OnlyOpt.get (by assumption) ?_
    | refine OnlyOptP.get (by assumption) ?_
    | refine OnlyEx.get (by assumption) ?_
    | refine OnlyExP.get (by assumption) ?_
    | split
    | dsimp only

theorem commitSystem_only {bs : List Block} {s0 : State} {off : Nat} {d : SysData} {s : State}
    (hSub : Block.sub [.evt, .sess, .bal] bs = true) (hOnly : Only bs s0 s) :
    Only bs s0 (commitSystem off d s) := by
  unfold commitSystem
  with_reducible repeat' first
    | exact hOnly
    | assumption
    | refine onBal_only (viaOne hSub) ?_
    | refine onEvt_only (viaOne hSub) ?_
    | refine onSess_only (viaOne hSub) ?_
    | refine Only.ite ?_ ?_
    | refine Only.ite1 ?_ ?_
    | refine Only.ite2 ?_ ?_
    | refine Only.eq1 (by assumption) ?_
    | refine Only.eq2 (by assumption) ?_
    | refine OnlyOpt.get (by assumption) ?_
    | refine OnlyOptP.get (by assumption) ?_
    | refine OnlyEx.get (by assumption) ?_
    | refine OnlyExP.get (by assumption) ?_
    | split
    | dsimp only

theorem writeCopiesB_only {bs : List Block} {s0 : State} {s : State} (hSub : Block.sub [.arch] bs = true) (hOnly : Only bs s0 s) :
    Only bs s0 (writeCopiesB s) := by
  unfold writeCopiesB
  with_reducible repeat' first
    | exact hOnly
    | assumption
    | refine onArch_only (viaOne hSub) ?_
    | refine writeCopy_only (via hSub) ?_
    | refine Only.ite ?_ ?_
    | refine Only.ite1 ?_ ?_
    | refine Only.ite2 ?_ ?_
    | refine Only.foldl (fun _ _ _ => ?_) ?_
    | refine Only.foldl1 (fun _ _ _ => ?_) ?_
    | refine Only.foldl2 (fun _ _ _ => ?_) ?_
    | refine Only.eq1 (by assumption) ?_
    | refine Only.eq2 (by assumption) ?_
    | refine OnlyOpt.get (by assumption) ?_
    | refine OnlyOptP.get (by assumption) ?_
    | refine OnlyEx.get (by assumption) ?_
    | refine OnlyExP.get (by assumption) ?_
    | split
    | dsimp only

theorem commitPage_only {bs : List Block} {s0 : State} {p : PhysPage} {s : State}
    (hSub : Block.sub [.hosts, .evt, .sess, .vee, .bal, .arch, .upl] bs = true) (hOnly : Only bs s0 s) :
    Only bs s0 (commitPage p s) := by
  unfold commitPage
  with_reducible repeat' first
    | exact hOnly
    | assumption
    | refine commitSystem_only (via hSub) ?_
    | refine commitRecord_only (via hSub) ?_
    | refine onArch_only (viaOne hSub) ?_
    | refine Only.ite ?_ ?_
    | refine Only.ite1 ?_ ?_
    | refine Only.ite2 ?_ ?_
    | refine Only.foldl (fun _ _ _ => ?_) ?_
    | refine Only.foldl1 (fun _ _ _ => ?_) ?_
    | refine Only.foldl2 (fun _ _ _ => ?_) ?_
    | refine Only.eq1 (by assumption) ?_
    | refine Only.eq2 (by assumption) ?_
    | refine OnlyOpt.get (by assumption) ?_
    | refine OnlyOptP.get (by assumption) ?_
    | refine OnlyEx.get (by assumption) ?_
    | refine OnlyExP.get (by assumption) ?_
    | split
    | dsimp only

theorem commitNew_only {bs : List Block} {s0 : State} {s : State}
    (hSub : Block.sub [.hosts, .evt, .sess, .vee, .bal, .arch, .upl] bs = true) (hOnly : Only bs s0 s) :
    Only bs s0 (commitNew s) := by
  unfold commitNew
  with_reducible repeat' first
    | exact hOnly
    | assumption
    | refine commitPage_only (via hSub) ?_
    | refine writeCopiesB_only (via hSub) ?_
    | refine ackChild_only (via hSub) ?_
    | refine setSticky_only (via hSub) ?_
    | refine Only.ite ?_ ?_
    | refine Only.ite1 ?_ ?_
    | refine Only.ite2 ?_ ?_
    | refine Only.foldl (fun _ _ _ => ?_) ?_
    | refine Only.foldl1 (fun _ _ _ => ?_) ?_
    | refine Only.foldl2 (fun _ _ _ => ?_) ?_
    | refine Only.eq1 (by assumption) ?_
    | refine Only.eq2 (by assumption) ?_
    | refine OnlyOpt.get (by assumption) ?_
    | refine OnlyOptP.get (by assumption) ?_
    | refine OnlyEx.get (by assumption) ?_
    | refine OnlyExP.get (by assumption) ?_
    | split
    | dsimp only

theorem replaced_only {bs : List Block} {s0 : State} {p q : Nat} {s : State} (hSub : Block.sub [.arch] bs = true) (hOnly : Only bs s0 s) :
    Only bs s0 (replaced p q s) := by
  unfold replaced
  with_reducible repeat' first
    | exact hOnly
    | assumption
    | refine onArch_only (viaOne hSub) ?_
    | refine Only.ite ?_ ?_
    | refine Only.ite1 ?_ ?_
    | refine Only.ite2 ?_ ?_
    | refine Only.eq1 (by assumption) ?_
    | refine Only.eq2 (by assumption) ?_
    | refine OnlyOpt.get (by assumption) ?_
    | refine OnlyOptP.get (by assumption) ?_
    | refine OnlyEx.get (by assumption) ?_
    | refine OnlyExP.get (by assumption) ?_
    | split
    | dsimp only

theorem placeAgain_only {bs : List Block} {s0 : State} {p : PhysPage} {relocated : Bool} {s : State}
    (hSub : Block.sub [.arch] bs = true) (hOnly : Only bs s0 s) :
    OnlyOptP bs s0 (placeAgain p relocated s) := by
  unfold placeAgain
  with_reducible repeat' first
    | exact hOnly
    | assumption
    | refine writeCopy_only (via hSub) ?_
    | refine program_only (via hSub) ?_
    | exact OnlyOptP.none
    | refine OnlyOptP.some ?_
    | refine OnlyOptP.ite ?_ ?_
    | refine Only.ite ?_ ?_
    | refine Only.ite1 ?_ ?_
    | refine Only.ite2 ?_ ?_
    | refine Only.eq1 (by assumption) ?_
    | refine Only.eq2 (by assumption) ?_
    | refine OnlyOpt.get (by assumption) ?_
    | refine OnlyOptP.get (by assumption) ?_
    | refine OnlyEx.get (by assumption) ?_
    | refine OnlyExP.get (by assumption) ?_
    | split
    | dsimp only

theorem programAgain_only {bs : List Block} {s0 : State} {p : PhysPage} {s : State}
    (hSub : Block.sub [.arch] bs = true) (hOnly : Only bs s0 s) :
    Only bs s0 (programAgain p s) := by
  unfold programAgain
  with_reducible repeat' first
    | exact hOnly
    | assumption
    | refine replaced_only (via hSub) ?_
    | refine placeAgain_only (via hSub) ?_
    | refine Only.ite ?_ ?_
    | refine Only.ite1 ?_ ?_
    | refine Only.ite2 ?_ ?_
    | refine Only.eq1 (by assumption) ?_
    | refine Only.eq2 (by assumption) ?_
    | refine OnlyOpt.get (by assumption) ?_
    | refine OnlyOptP.get (by assumption) ?_
    | refine OnlyEx.get (by assumption) ?_
    | refine OnlyExP.get (by assumption) ?_
    | split
    | dsimp only

theorem abandonSb_only {bs : List Block} {s0 : State} {g : Nat} {b : Option Nat} {s : State}
    (hSub : Block.sub [.arch] bs = true) (hOnly : Only bs s0 s) :
    Only bs s0 (abandonSb g b s) := by
  unfold abandonSb
  with_reducible repeat' first
    | assumption
    | refine programAgain_only (via hSub) ?_
    | refine onArch_only (viaOne hSub) ?_
    | refine Only.foldl (fun _ _ _ => ?_) ?_

/-! ### Arch -/

theorem releaseOldest_only {bs : List Block} {s0 : State} {s : State}
    (hSub : Block.sub [.hosts, .arch] bs = true) (hOnly : Only bs s0 s) :
    Only bs s0 (releaseOldest s) := by
  unfold releaseOldest
  with_reducible repeat' first
    | exact hOnly
    | assumption
    | refine trimRanges_only (via hSub) ?_
    | refine setSticky_only (via hSub) ?_
    | refine onArch_only (viaOne hSub) ?_
    | refine Only.ite ?_ ?_
    | refine Only.ite1 ?_ ?_
    | refine Only.ite2 ?_ ?_
    | refine Only.eq1 (by assumption) ?_
    | refine Only.eq2 (by assumption) ?_
    | refine OnlyOpt.get (by assumption) ?_
    | refine OnlyOptP.get (by assumption) ?_
    | refine OnlyEx.get (by assumption) ?_
    | refine OnlyExP.get (by assumption) ?_
    | split
    | dsimp only

theorem ringPage_only {bs : List Block} {s0 : State} {data : PageData} {fill flags : Nat} {s : State}
    (hSub : Block.sub [.hosts, .arch] bs = true) (hOnly : Only bs s0 s) :
    OnlyOpt bs s0 (ringPage data fill flags s) := by
  unfold ringPage
  with_reducible repeat' first
    | exact hOnly
    | assumption
    | refine releaseOldest_only (via hSub) ?_
    | refine onArch_only (viaOne hSub) ?_
    | refine program_only (via hSub) ?_
    | exact OnlyOpt.none
    | refine OnlyOpt.some ?_
    | refine OnlyOpt.ite ?_ ?_
    | refine Only.ite ?_ ?_
    | refine Only.ite1 ?_ ?_
    | refine Only.ite2 ?_ ?_
    | refine Only.eq1 (by assumption) ?_
    | refine Only.eq2 (by assumption) ?_
    | refine OnlyOpt.get (by assumption) ?_
    | refine OnlyOptP.get (by assumption) ?_
    | refine OnlyEx.get (by assumption) ?_
    | refine OnlyExP.get (by assumption) ?_
    | split
    | dsimp only

theorem writeOpen_only {bs : List Block} {s0 : State} {flags : Nat} {s : State}
    (hSub : Block.sub [.hosts, .arch] bs = true) (hOnly : Only bs s0 s) :
    OnlyOpt bs s0 (writeOpen flags s) := by
  unfold writeOpen
  with_reducible repeat' first
    | exact hOnly
    | refine onArch_only (viaOne hSub) ?_
    | refine ringPage_only (via hSub) ?_
    | exact OnlyOpt.none
    | refine OnlyOpt.some ?_
    | refine OnlyOpt.get (by assumption) ?_
    | split

theorem writeSide_only {bs : List Block} {s0 : State} {s : State} (hSub : Block.sub [.hosts, .arch] bs = true) (hOnly : Only bs s0 s) :
    Only bs s0 (writeSide s) := by
  unfold writeSide
  with_reducible repeat' first
    | exact hOnly
    | refine onArch_only (viaOne hSub) ?_
    | refine ringPage_only (via hSub) ?_
    | refine Only.ite ?_ ?_
    | refine OnlyOpt.get (by assumption) ?_
    | split

theorem packOne_only {bs : List Block} {s0 : State} {s : State} (hSub : Block.sub [.vee, .arch] bs = true) (hOnly : Only bs s0 s) :
    Only bs s0 (packOne s) := by
  unfold packOne
  with_reducible repeat' first
    | exact hOnly
    | assumption
    | refine onArch_only (viaOne hSub) ?_
    | refine onVee_only (viaOne hSub) ?_
    | refine Only.ite ?_ ?_
    | refine Only.ite1 ?_ ?_
    | refine Only.ite2 ?_ ?_
    | refine Only.eq1 (by assumption) ?_
    | refine Only.eq2 (by assumption) ?_
    | refine OnlyOpt.get (by assumption) ?_
    | refine OnlyOptP.get (by assumption) ?_
    | refine OnlyEx.get (by assumption) ?_
    | refine OnlyExP.get (by assumption) ?_
    | split
    | dsimp only

theorem relocate_only {bs : List Block} {s0 : State} {p : PhysPage} {s : State}
    (hSub : Block.sub [.arch] bs = true) (hOnly : Only bs s0 s) :
    Only bs s0 (relocate p s) := by
  unfold relocate
  with_reducible repeat' first
    | exact hOnly
    | assumption
    | refine replaced_only (via hSub) ?_
    | refine onArch_only (viaOne hSub) ?_
    | refine placeAgain_only (via hSub) ?_
    | refine Only.ite ?_ ?_
    | refine Only.ite1 ?_ ?_
    | refine Only.ite2 ?_ ?_
    | refine Only.eq1 (by assumption) ?_
    | refine Only.eq2 (by assumption) ?_
    | refine OnlyOpt.get (by assumption) ?_
    | refine OnlyOptP.get (by assumption) ?_
    | refine OnlyEx.get (by assumption) ?_
    | refine OnlyExP.get (by assumption) ?_
    | split
    | dsimp only

theorem losePages_only {bs : List Block} {s0 : State} {l : List PhysPage} {s : State}
    (hSub : Block.sub [.hosts, .evt, .arch] bs = true) (hOnly : Only bs s0 s) :
    Only bs s0 (losePages l s) := by
  unfold losePages
  with_reducible repeat' first
    | exact hOnly
    | refine raise_only (via hSub) ?_
    | refine setSticky_only (via hSub) ?_
    | refine onArch_only (viaOne hSub) ?_

theorem readPage_only {bs : List Block} {s0 : State} {p : PhysPage} {corr : List Nat} {step : Nat} {second : Option Nat} {s : State}
    (hSub : Block.sub [.hosts, .evt, .arch] bs = true) (hOnly : Only bs s0 s) :
    Only bs s0 (readPage p corr step second s) := by
  unfold readPage
  with_reducible repeat' first
    | exact hOnly
    | refine losePages_only (via hSub) ?_
    | refine relocate_only (via hSub) ?_
    | refine onDie_only (via hSub) ?_
    | refine onArch_only (viaOne hSub) ?_
    | split
    | dsimp only

theorem checkReadOnly_only {bs : List Block} {s0 : State} {s : State}
    (hSub : Block.sub [.hosts, .evt, .arch] bs = true) (hOnly : Only bs s0 s) :
    Only bs s0 (checkReadOnly s) := by
  unfold checkReadOnly
  with_reducible repeat' first
    | exact hOnly
    | refine raise_only (via hSub) ?_
    | refine onArch_only (viaOne hSub) ?_
    | refine Only.ite ?_ ?_

theorem failDie_only {bs : List Block} {s0 : State} {die : Nat} {s : State}
    (hSub : Block.sub [.hosts, .evt, .arch] bs = true) (hOnly : Only bs s0 s) :
    Only bs s0 (failDie die s) := by
  unfold failDie
  with_reducible repeat' first
    | exact hOnly
    | assumption
    | refine checkReadOnly_only (via hSub) ?_
    | refine relocate_only (via hSub) ?_
    | refine abandonSb_only (via hSub) ?_
    | refine writeJournal_only (via hSub) ?_
    | refine onDie_only (via hSub) ?_
    | refine raise_only (via hSub) ?_
    | refine setSticky_only (via hSub) ?_
    | refine onArch_only (viaOne hSub) ?_
    | refine Only.ite ?_ ?_
    | refine Only.ite1 ?_ ?_
    | refine Only.ite2 ?_ ?_
    | refine Only.foldl (fun _ _ _ => ?_) ?_
    | refine Only.foldl1 (fun _ _ _ => ?_) ?_
    | refine Only.foldl2 (fun _ _ _ => ?_) ?_
    | refine Only.eq1 (by assumption) ?_
    | refine Only.eq2 (by assumption) ?_
    | refine OnlyOpt.get (by assumption) ?_
    | refine OnlyOptP.get (by assumption) ?_
    | refine OnlyEx.get (by assumption) ?_
    | refine OnlyExP.get (by assumption) ?_
    | split
    | dsimp only

theorem countErase_only {bs : List Block} {s0 : State} {d b : Nat} {s : State}
    (hSub : Block.sub [.arch] bs = true) (hOnly : Only bs s0 s) :
    Only bs s0 (countErase d b s) := by
  unfold countErase
  with_reducible repeat' first
    | exact hOnly
    | refine onArch_only (viaOne hSub) ?_

theorem eraseSb_only {bs : List Block} {s0 : State} {g b : Nat} {fails : List Nat} {s : State}
    (hSub : Block.sub [.arch] bs = true) (hOnly : Only bs s0 s) :
    Only bs s0 (eraseSb g b fails s) := by
  unfold eraseSb
  with_reducible repeat' first
    | exact hOnly
    | assumption
    | refine countErase_only (via hSub) ?_
    | refine pruneTrims_only (via hSub) ?_
    | refine writeJournal_only (via hSub) ?_
    | refine growBad_only (via hSub) ?_
    | refine onArch_only (viaOne hSub) ?_
    | refine Only.ite ?_ ?_
    | refine Only.ite1 ?_ ?_
    | refine Only.ite2 ?_ ?_
    | refine Only.foldl (fun _ _ _ => ?_) ?_
    | refine Only.foldl1 (fun _ _ _ => ?_) ?_
    | refine Only.foldl2 (fun _ _ _ => ?_) ?_
    | refine Only.eq1 (by assumption) ?_
    | refine Only.eq2 (by assumption) ?_
    | refine OnlyOpt.get (by assumption) ?_
    | refine OnlyOptP.get (by assumption) ?_
    | refine OnlyEx.get (by assumption) ?_
    | refine OnlyExP.get (by assumption) ?_
    | split
    | dsimp only

theorem writeSectors_only {bs : List Block} {s0 : State} {lba : Nat} {data : List (List Byte)} {s : State}
    (hSub : Block.sub [.arch] bs = true) (hOnly : Only bs s0 s) : OnlyOptP bs s0 (writeSectors lba data s) := by
  unfold writeSectors
  refine OnlyOptP.foldl (fun y a hy => ?_) (OnlyOptP.some hOnly)
  split
  · exact OnlyOptP.none
  · dsimp only
    split
    · exact OnlyOptP.some (program_only (via hSub) (hy _ _ rfl) _ _ (by assumption))
    · exact OnlyOptP.none

theorem trimSectors_only {bs : List Block} {s0 : State} {lba count : Nat} {s : State}
    (hSub : Block.sub [.arch] bs = true) (hOnly : Only bs s0 s) :
    OnlyOptP bs s0 (trimSectors lba count s) := by
  unfold trimSectors
  with_reducible repeat' first
    | exact hOnly
    | assumption
    | refine trimRanges_only (via hSub) ?_
    | refine writeSectors_only (via hSub) ?_
    | exact OnlyOptP.none
    | refine OnlyOptP.some ?_
    | refine OnlyOptP.ite ?_ ?_
    | refine Only.ite ?_ ?_
    | refine Only.ite1 ?_ ?_
    | refine Only.ite2 ?_ ?_
    | refine Only.eq1 (by assumption) ?_
    | refine Only.eq2 (by assumption) ?_
    | refine OnlyOpt.get (by assumption) ?_
    | refine OnlyOptP.get (by assumption) ?_
    | refine OnlyEx.get (by assumption) ?_
    | refine OnlyExP.get (by assumption) ?_
    | split
    | dsimp only

theorem pushQ11_only {bs : List Block} {s0 : State} {w : ManagerWork} {s : State}
    (hSub : Block.sub [.fab] bs = true) (hOnly : Only bs s0 s) :
    Only bs s0 (pushQ11 w s) := by
  unfold pushQ11
  with_reducible repeat' first
    | exact hOnly
    | assumption
    | refine countPush_only (via hSub) ?_
    | refine onFab_only (viaOne hSub) ?_
    | refine Only.ite ?_ ?_
    | refine Only.ite1 ?_ ?_
    | refine Only.ite2 ?_ ?_
    | refine Only.eq1 (by assumption) ?_
    | refine Only.eq2 (by assumption) ?_
    | refine OnlyOpt.get (by assumption) ?_
    | refine OnlyOptP.get (by assumption) ?_
    | refine OnlyEx.get (by assumption) ?_
    | refine OnlyExP.get (by assumption) ?_
    | split
    | dsimp only

theorem popQ11_only {bs : List Block} {s0 : State} {s : State} (hSub : Block.sub [.fab] bs = true) (hOnly : Only bs s0 s) :
    Only bs s0 (popQ11 s) := by
  unfold popQ11
  with_reducible repeat' first
    | exact hOnly
    | assumption
    | refine onFab_only (viaOne hSub) ?_
    | refine Only.ite ?_ ?_
    | refine Only.ite1 ?_ ?_
    | refine Only.ite2 ?_ ?_
    | refine Only.eq1 (by assumption) ?_
    | refine Only.eq2 (by assumption) ?_
    | refine OnlyOpt.get (by assumption) ?_
    | refine OnlyOptP.get (by assumption) ?_
    | refine OnlyEx.get (by assumption) ?_
    | refine OnlyExP.get (by assumption) ?_
    | split
    | dsimp only

theorem archQuery_only {bs : List Block} {s0 : State} {h : Fin 4} {t : Taken} {s : State}
    (hSub : Block.sub [.fab, .arch] bs = true) (hOnly : Only bs s0 s) :
    Only bs s0 (archQuery h t s).1 := by
  unfold archQuery
  with_reducible repeat' first
    | exact hOnly
    | assumption
    | refine pushQ11_only (via hSub) ?_
    | refine onArch_only (viaOne hSub) ?_
    | refine Only.ite ?_ ?_
    | refine Only.ite1 ?_ ?_
    | refine Only.ite2 ?_ ?_
    | refine Only.getD ?_ ?_
    | refine Only.eq1 (by assumption) ?_
    | refine Only.eq2 (by assumption) ?_
    | refine OnlyOpt.get (by assumption) ?_
    | refine OnlyOptP.get (by assumption) ?_
    | refine OnlyEx.get (by assumption) ?_
    | refine OnlyExP.get (by assumption) ?_
    | split
    | dsimp only

theorem archQueryCancel_only {bs : List Block} {s0 : State} {h : Fin 4} {t : Taken} {s : State}
    (hSub : Block.sub [.arch] bs = true) (hOnly : Only bs s0 s) :
    Only bs s0 (archQueryCancel h t s).1 := by
  unfold archQueryCancel
  with_reducible repeat' first
    | exact hOnly
    | refine onArch_only (viaOne hSub) ?_
    | split
    | dsimp only

theorem pushFound_only {bs : List Block} {s0 : State} {q : ArchQuery} {l : List Record} {s : State}
    (hSub : Block.sub [.hosts] bs = true) (hOnly : Only bs s0 s) : Only bs s0 (pushFound q l s).2 := by
  induction l generalizing q s with
  | nil =>
    unfold pushFound
    repeat' (first
      | with_reducible exact hOnly
      | with_reducible refine pushRing_only (via hSub) ?_
      | (with_reducible refine OnlyOpt.get (by assumption) ?_)
      | split
      | dsimp only)
  | cons a l ih =>
    unfold pushFound
    repeat' (first
      | with_reducible exact hOnly
      | with_reducible refine ih ?_
      | with_reducible refine pushRing_only (via hSub) ?_
      | (with_reducible refine OnlyOpt.get (by assumption) ?_)
      | split
      | dsimp only)


theorem scanPage_only {bs : List Block} {s0 : State} {q : ArchQuery} {corr : List Nat} {step : Nat} {second : Option Nat} {s : State}
    (hSub : Block.sub [.hosts, .evt, .arch] bs = true) (hOnly : Only bs s0 s) :
    Only bs s0 (scanPage q corr step second s).2 := by
  unfold scanPage
  with_reducible repeat' first
    | exact hOnly
    | refine readPage_only (via hSub) ?_
    | split
    | dsimp only

theorem queryAtWork_only {bs : List Block} {s0 : State} {host : Nat} {s : State}
    (hSub : Block.sub [.fab] bs = true) (hOnly : Only bs s0 s) :
    OnlyOptP bs s0 (queryAtWork host s) := by
  unfold queryAtWork
  with_reducible repeat' first
    | exact hOnly
    | assumption
    | refine popQ11_only (via hSub) ?_
    | exact OnlyOptP.none
    | refine OnlyOptP.some ?_
    | refine OnlyOptP.ite ?_ ?_
    | refine Only.ite ?_ ?_
    | refine Only.ite1 ?_ ?_
    | refine Only.ite2 ?_ ?_
    | refine Only.eq1 (by assumption) ?_
    | refine Only.eq2 (by assumption) ?_
    | refine OnlyOpt.get (by assumption) ?_
    | refine OnlyOptP.get (by assumption) ?_
    | refine OnlyEx.get (by assumption) ?_
    | refine OnlyExP.get (by assumption) ?_
    | split
    | dsimp only

theorem startFormat_only {bs : List Block} {s0 : State} {s : State} (hSub : Block.sub [.arch] bs = true) (hOnly : Only bs s0 s) :
    Only bs s0 (startFormat s) := by
  unfold startFormat
  with_reducible repeat' first
    | exact hOnly
    | refine onArch_only (viaOne hSub) ?_

theorem archFormat_only {bs : List Block} {s0 : State} {t : Taken} {s : State}
    (hSub : Block.sub [.hosts, .arch] bs = true) (hOnly : Only bs s0 s) :
    Only bs s0 (archFormat t s).1 := by
  unfold archFormat
  with_reducible repeat' first
    | exact hOnly
    | refine startFormat_only (via hSub) ?_
    | refine setAlarm_only (via hSub) ?_
    | refine onArch_only (viaOne hSub) ?_
    | split
    | dsimp only

theorem settle_only {bs : List Block} {s0 : State} {s : State}
    (hSub : Block.sub [.hosts, .evt, .sess, .vee, .bal, .arch, .upl] bs = true) (hOnly : Only bs s0 s) :
    Only bs s0 (settle s) := by
  unfold settle
  with_reducible repeat' first
    | exact hOnly
    | assumption
    | refine commitNew_only (via hSub) ?_
    | refine onArch_only (viaOne hSub) ?_
    | refine Only.ite ?_ ?_
    | refine Only.ite1 ?_ ?_
    | refine Only.ite2 ?_ ?_
    | refine Only.eq1 (by assumption) ?_
    | refine Only.eq2 (by assumption) ?_
    | refine OnlyOpt.get (by assumption) ?_
    | refine OnlyOptP.get (by assumption) ?_
    | refine OnlyEx.get (by assumption) ?_
    | refine OnlyExP.get (by assumption) ?_
    | split
    | dsimp only

theorem formatted_only {bs : List Block} {s0 : State} {groups : List (List Nat)} {pages spare : Nat} {s : State}
    (hSub : Block.sub [.hosts, .evt, .sess, .vee, .bal, .arch, .upl, .free] bs = true) (hOnly : Only bs s0 s) :
    Only bs s0 (formatted groups pages spare s) := by
  unfold formatted
  with_reducible repeat' first
    | exact hOnly
    | assumption
    | refine settle_only (via hSub) ?_
    | refine writeJournal_only (via hSub) ?_
    | refine st_takeFree_only (via hSub) ?_
    | refine onArch_only (viaOne hSub) ?_
    | refine onBal_only (viaOne hSub) ?_
    | refine onSess_only (viaOne hSub) ?_
    | refine onUpl_only (viaOne hSub) ?_
    | refine onVee_only (viaOne hSub) ?_
    | refine Only.ite ?_ ?_
    | refine Only.ite1 ?_ ?_
    | refine Only.ite2 ?_ ?_
    | refine Only.foldl (fun _ _ _ => ?_) ?_
    | refine Only.foldl1 (fun _ _ _ => ?_) ?_
    | refine Only.foldl2 (fun _ _ _ => ?_) ?_
    | refine Only.eq1 (by assumption) ?_
    | refine Only.eq2 (by assumption) ?_
    | refine OnlyOpt.get (by assumption) ?_
    | refine OnlyOptP.get (by assumption) ?_
    | refine OnlyEx.get (by assumption) ?_
    | refine OnlyExP.get (by assumption) ?_
    | split
    | dsimp only

theorem archHealth_only {bs : List Block} {s0 : State} {_t : Taken} {s : State} (hSub : Block.sub [] bs = true) (hOnly : Only bs s0 s) :
    Only bs s0 (archHealth _t s).1 := by
  unfold archHealth
  with_reducible repeat' first
    | exact hOnly

theorem archDieRead_only {bs : List Block} {s0 : State} {t : Taken} {s : State} (hSub : Block.sub [] bs = true) (hOnly : Only bs s0 s) :
    Only bs s0 (archDieRead t s).1 := by
  unfold archDieRead
  with_reducible repeat' first
    | exact hOnly
    | split
    | dsimp only

theorem archDieRetire_only {bs : List Block} {s0 : State} {t : Taken} {s : State}
    (hSub : Block.sub [.hosts, .evt, .arch] bs = true) (hOnly : Only bs s0 s) :
    Only bs s0 (archDieRetire t s).1 := by
  unfold archDieRetire
  with_reducible repeat' first
    | exact hOnly
    | refine failDie_only (via hSub) ?_
    | split
    | dsimp only

/-! ### Topo -/

theorem setTopo_only {bs : List Block} {s0 : State} {m : Nat} {b : TopoMeter} {s : State}
    (hSub : Block.sub [.bal] bs = true) (hOnly : Only bs s0 s) :
    Only bs s0 (setTopo m b s) := by
  unfold setTopo
  with_reducible repeat' first
    | exact hOnly
    | refine onBal_only (viaOne hSub) ?_

theorem topoTake_only {bs : List Block} {s0 : State} {r : Record} {s : State} (hSub : Block.sub [.bal] bs = true) (hOnly : Only bs s0 s) :
    Only bs s0 (topoTake r s) := by
  unfold topoTake
  with_reducible repeat' first
    | exact hOnly
    | refine setTopo_only (via hSub) ?_
    | refine onBal_only (viaOne hSub) ?_
    | split
    | dsimp only

theorem balAlert_only {bs : List Block} {s0 : State} {kind flags meter day feeder phase child : Nat} {v1 v2 : Int} {s : State}
    (hSub : Block.sub [.hosts, .evt, .bal] bs = true) (hOnly : Only bs s0 s) :
    Only bs s0 (balAlert kind flags meter day feeder phase child v1 v2 s) := by
  unfold balAlert
  with_reducible repeat' first
    | exact hOnly
    | refine raise_only (via hSub) ?_
    | refine setSticky_only (via hSub) ?_
    | refine onBal_only (viaOne hSub) ?_
    | refine pushRing_only (via hSub) ?_
    | refine OnlyOpt.get (by assumption) ?_
    | split

theorem reassign_only {bs : List Block} {s0 : State} {m day : Nat} {fp : Nat × Nat} {b : TopoMeter} {s : State}
    (hSub : Block.sub [.hosts, .evt, .bal] bs = true) (hOnly : Only bs s0 s) :
    Only bs s0 (reassign m day fp b s).2 := by
  unfold reassign
  with_reducible repeat' first
    | exact hOnly
    | refine balAlert_only (via hSub) ?_

theorem propose_only {bs : List Block} {s0 : State} {m day : Nat} {r : TopoResult} {b : TopoMeter} {s : State}
    (hSub : Block.sub [.hosts, .evt, .bal] bs = true) (hOnly : Only bs s0 s) :
    Only bs s0 (propose m day r b s).2 := by
  unfold propose
  with_reducible repeat' first
    | exact hOnly
    | refine reassign_only (via hSub) ?_
    | refine balAlert_only (via hSub) ?_
    | split
    | dsimp only

theorem topoMeterCompile_only {bs : List Block} {s0 : State} {day m : Nat} {s : State}
    (hSub : Block.sub [.hosts, .evt, .bal] bs = true) (hOnly : Only bs s0 s) :
    Only bs s0 (topoMeterCompile day m s) := by
  unfold topoMeterCompile
  with_reducible repeat' first
    | exact hOnly
    | refine propose_only (via hSub) ?_
    | refine balAlert_only (via hSub) ?_
    | refine setTopo_only (via hSub) ?_
    | refine Only.ite ?_ ?_
    | split

theorem restartWindows_only {bs : List Block} {s0 : State} {s : State} (hSub : Block.sub [.bal] bs = true) (hOnly : Only bs s0 s) :
    Only bs s0 (restartWindows s) := by
  unfold restartWindows
  with_reducible repeat' first
    | exact hOnly
    | refine onBal_only (viaOne hSub) ?_

/-! ### Bal -/

theorem balRecord_only {bs : List Block} {s0 : State} {child channel iv : Nat} {value : Int} {s : State}
    (hSub : Block.sub [.hosts, .fab, .sess, .vee] bs = true) (hOnly : Only bs s0 s) :
    Only bs s0 (balRecord child channel iv value s) := by
  unfold balRecord
  with_reducible repeat' first
    | exact hOnly
    | assumption
    | refine takeSeq_only (via hSub) ?_
    | refine emitRecord_only (via hSub) ?_
    | refine assignVersion_only (via hSub) ?_
    | refine Only.ite ?_ ?_
    | refine Only.ite1 ?_ ?_
    | refine Only.ite2 ?_ ?_
    | refine Only.eq1 (by assumption) ?_
    | refine Only.eq2 (by assumption) ?_
    | refine OnlyOpt.get (by assumption) ?_
    | refine OnlyOptP.get (by assumption) ?_
    | refine OnlyEx.get (by assumption) ?_
    | refine OnlyExP.get (by assumption) ?_
    | split
    | dsimp only

theorem balRecords_only {bs : List Block} {s0 : State} {child channel : Nat} {e : IvEval} {s : State}
    (hSub : Block.sub [.hosts, .fab, .sess, .vee] bs = true) (hOnly : Only bs s0 s) :
    Only bs s0 (balRecords child channel e s) := by
  unfold balRecords
  with_reducible repeat' first
    | exact hOnly
    | refine balRecord_only (via hSub) ?_

theorem keepSummary_only {bs : List Block} {s0 : State} {day : Nat} {x : BalSummary} {s : State}
    (hSub : Block.sub [.bal, .arch] bs = true) (hOnly : Only bs s0 s) :
    Only bs s0 (keepSummary day x s) := by
  unfold keepSummary
  with_reducible repeat' first
    | exact hOnly
    | refine onArch_only (viaOne hSub) ?_
    | refine onBal_only (viaOne hSub) ?_

theorem residAlerts_only {bs : List Block} {s0 : State} {day : Nat} {x : BalSummary} {s : State}
    (hSub : Block.sub [.hosts, .evt, .bal] bs = true) (hOnly : Only bs s0 s) :
    Only bs s0 (residAlerts day x s).2 := by
  unfold residAlerts
  with_reducible repeat' first
    | exact hOnly
    | refine balAlert_only (via hSub) ?_
    | split
    | dsimp only

theorem phaseCompile_only {bs : List Block} {s0 : State} {l : List Record} {day child f p : Nat} {meters : List (Nat × List MeterIv)} {s : State}
    (hSub : Block.sub [.hosts, .fab, .evt, .sess, .vee, .bal, .arch] bs = true) (hOnly : Only bs s0 s) :
    Only bs s0 (phaseCompile l day child f p meters s).2 := by
  unfold phaseCompile
  with_reducible repeat' first
    | assumption
    | refine residAlerts_only (via hSub) ?_
    | refine keepSummary_only (via hSub) ?_
    | refine balRecords_only (via hSub) ?_
    | refine balAlert_only (via hSub) ?_
    | refine onBal_only (viaOne hSub) ?_
    | refine Only.foldl (fun _ _ _ => ?_) ?_
    | split

theorem totalCompile_only {bs : List Block} {s0 : State} {day child f p channel meters : Nat} {all : Option (List (Nat × List MeterIv))} {parts : List IvEval} {s : State}
    (hSub : Block.sub [.hosts, .fab, .sess, .vee, .bal, .arch] bs = true) (hOnly : Only bs s0 s) :
    Only bs s0 (totalCompile day child f p channel meters all parts s) := by
  unfold totalCompile
  with_reducible repeat' first
    | assumption
    | refine keepSummary_only (via hSub) ?_
    | refine balRecords_only (via hSub) ?_
    | refine Only.foldl (fun _ _ _ => ?_) ?_

theorem childCompile_only {bs : List Block} {s0 : State} {l : List Record} {day child : Nat} {s : State}
    (hSub : Block.sub [.hosts, .fab, .evt, .sess, .vee, .bal, .arch] bs = true) (hOnly : Only bs s0 s) :
    Only bs s0 (childCompile l day child s).2 := by
  unfold childCompile
  with_reducible repeat' first
    | assumption
    | refine totalCompile_only (via hSub) ?_
    | refine phaseCompile_only (via hSub) ?_
    | refine Only.foldl2 (fun _ _ _ => ?_) ?_

theorem scoreAlert_only {bs : List Block} {s0 : State} {day m : Nat} {b : TopoMeter} {s : State}
    (hSub : Block.sub [.hosts, .evt, .bal] bs = true) (hOnly : Only bs s0 s) :
    Only bs s0 (scoreAlert day m b s).2 := by
  unfold scoreAlert
  with_reducible repeat' first
    | exact hOnly
    | refine balAlert_only (via hSub) ?_
    | split
    | dsimp only

theorem scoreCompile_only {bs : List Block} {s0 : State} {l : List Record} {day : Nat} {again : Bool} {evals : List (Nat × List ((Nat × Nat) × List IvEval))} {s : State}
    (hSub : Block.sub [.hosts, .evt, .bal] bs = true) (hOnly : Only bs s0 s) :
    Only bs s0 (scoreCompile l day again evals s) := by
  unfold scoreCompile
  with_reducible repeat' first
    | assumption
    | refine scoreAlert_only (via hSub) ?_
    | refine setTopo_only (via hSub) ?_
    | refine Only.foldl (fun _ _ _ => ?_) ?_

theorem mirrorBal_only {bs : List Block} {s0 : State} {s : State}
    (hSub : Block.sub [.hosts, .evt, .pair] bs = true) (hOnly : Only bs s0 s) :
    Only bs s0 (mirrorBal s) := by
  unfold mirrorBal
  with_reducible repeat' first
    | assumption
    | refine mirror_only (via hSub) ?_
    | refine Only.foldl (fun _ _ _ => ?_) ?_

theorem balCheckpoint_only {bs : List Block} {s0 : State} {day : Nat} {s : State}
    (hSub : Block.sub [.arch] bs = true) (hOnly : Only bs s0 s) :
    Only bs s0 (balCheckpoint day s) := by
  unfold balCheckpoint
  with_reducible repeat' first
    | exact hOnly
    | assumption
    | refine storePage_only (via hSub) ?_
    | refine Only.ite ?_ ?_
    | refine Only.ite1 ?_ ?_
    | refine Only.ite2 ?_ ?_
    | refine Only.eq1 (by assumption) ?_
    | refine Only.eq2 (by assumption) ?_
    | refine OnlyOpt.get (by assumption) ?_
    | refine OnlyOptP.get (by assumption) ?_
    | refine OnlyEx.get (by assumption) ?_
    | refine OnlyExP.get (by assumption) ?_
    | split
    | dsimp only

theorem compileDay_only {bs : List Block} {s0 : State} {day : Nat} {again : Bool} {s : State}
    (hSub : Block.sub [.hosts, .fab, .evt, .sess, .vee, .bal, .arch, .pair] bs = true) (hOnly : Only bs s0 s) :
    Only bs s0 (compileDay day again s) := by
  unfold compileDay
  with_reducible repeat' first
    | assumption
    | refine balCheckpoint_only (via hSub) ?_
    | refine mirrorBal_only (via hSub) ?_
    | refine scoreCompile_only (via hSub) ?_
    | refine childCompile_only (via hSub) ?_
    | refine topoMeterCompile_only (via hSub) ?_
    | refine onBal_only (viaOne hSub) ?_
    | refine Only.ite ?_ ?_
    | refine Only.foldl (fun _ _ _ => ?_) ?_
    | refine Only.foldl2 (fun _ _ _ => ?_) ?_

theorem topoRead_only {bs : List Block} {s0 : State} {t : Taken} {s : State} (hSub : Block.sub [] bs = true) (hOnly : Only bs s0 s) :
    Only bs s0 (topoRead t s).1 := by
  unfold topoRead
  with_reducible repeat' first
    | exact hOnly
    | split
    | dsimp only

theorem topoPin_only {bs : List Block} {s0 : State} {t : Taken} {s : State} (hSub : Block.sub [.bal] bs = true) (hOnly : Only bs s0 s) :
    Only bs s0 (topoPin t s).1 := by
  unfold topoPin
  with_reducible repeat' first
    | exact hOnly
    | refine setTopo_only (via hSub) ?_
    | split
    | dsimp only

theorem balFeederSet_only {bs : List Block} {s0 : State} {t : Taken} {s : State}
    (hSub : Block.sub [.hosts, .evt, .bal, .pair] bs = true) (hOnly : Only bs s0 s) :
    Only bs s0 (balFeederSet t s).1 := by
  unfold balFeederSet
  with_reducible repeat' first
    | exact hOnly
    | refine mirror_only (via hSub) ?_
    | refine onBal_only (viaOne hSub) ?_
    | split
    | dsimp only

theorem balReportRead_only {bs : List Block} {s0 : State} {t : Taken} {s : State} (hSub : Block.sub [] bs = true) (hOnly : Only bs s0 s) :
    Only bs s0 (balReportRead t s).1 := by
  unfold balReportRead
  with_reducible repeat' first
    | exact hOnly
    | split
    | dsimp only

theorem scoreRead_only {bs : List Block} {s0 : State} {t : Taken} {s : State} (hSub : Block.sub [] bs = true) (hOnly : Only bs s0 s) :
    Only bs s0 (scoreRead t s).1 := by
  unfold scoreRead
  with_reducible repeat' first
    | exact hOnly
    | split
    | dsimp only

theorem balCounters_only {bs : List Block} {s0 : State} {_t : Taken} {s : State} (hSub : Block.sub [] bs = true) (hOnly : Only bs s0 s) :
    Only bs s0 (balCounters _t s).1 := by
  unfold balCounters
  with_reducible repeat' first
    | exact hOnly

theorem balRecompile_only {bs : List Block} {s0 : State} {t : Taken} {s : State}
    (hSub : Block.sub [.bal] bs = true) (hOnly : Only bs s0 s) :
    Only bs s0 (balRecompile t s).1 := by
  unfold balRecompile
  with_reducible repeat' first
    | exact hOnly
    | refine onBal_only (viaOne hSub) ?_
    | split
    | dsimp only

end Sys2Proof.Machine
end

