-- ==== Sys2Proof/Laws/FramesManagers.lean ====
section
/-! SUPPORT. The frames of time, the uplink, keys, the fleet, firmware and the pair: each operation changes no block of State outside its list. Every lemma has
one form: what changes no block outside `bs` so far still does not after the operation, when the list stands in `bs`. -/

namespace Sys2Proof.Machine

open Host (Outcome)

set_option maxHeartbeats 400000
set_option Elab.async false
set_option maxRecDepth 4000
set_option linter.unusedVariables false

/-! ### Mains -/

theorem endCycle_only {bs : List Block} {s0 : State} {at' : Nat} {accepted : Bool} {next : MainsState} {s : State}
    (hSub : Block.sub [.mains] bs = true) (hOnly : Only bs s0 s) :
    Only bs s0 (endCycle at' accepted next s) := by
  unfold endCycle
  with_reducible repeat' first
    | exact hOnly
    | assumption
    | refine onMains_only (viaOne hSub) ?_
    | refine Only.ite ?_ ?_
    | refine Only.ite1 ?_ ?_
    | refine Only.ite2 ?_ ?_
    | refine Only.eq1 (by assumption) ?_
    | refine Only.eq2 (by assumption) ?_
    | refine OnlyOpt.get (by assumption) ?_
    | refine OnlyOptP.get (by assumption) ?_
    | refine OnlyEx.get (by assumption) ?_
    | refine OnlyExP.get (by assumption) ?_
    | split
    | dsimp only

theorem checkOffNominal_only {bs : List Block} {s0 : State} {s : State}
    (hSub : Block.sub [.hosts, .mains, .evt] bs = true) (hOnly : Only bs s0 s) :
    Only bs s0 (checkOffNominal s) := by
  unfold checkOffNominal
  with_reducible repeat' first
    | exact hOnly
    | assumption
    | refine raise_only (via hSub) ?_
    | refine onMains_only (viaOne hSub) ?_
    | refine Only.ite ?_ ?_
    | refine Only.ite1 ?_ ?_
    | refine Only.ite2 ?_ ?_
    | refine Only.eq1 (by assumption) ?_
    | refine Only.eq2 (by assumption) ?_
    | refine OnlyOpt.get (by assumption) ?_
    | refine OnlyOptP.get (by assumption) ?_
    | refine OnlyEx.get (by assumption) ?_
    | refine OnlyExP.get (by assumption) ?_
    | split
    | dsimp only

theorem noteRealigned_only {bs : List Block} {s0 : State} {s : State} (hSub : Block.sub [.hosts, .evt] bs = true) (hOnly : Only bs s0 s) :
    Only bs s0 (noteRealigned s) := by
  unfold noteRealigned
  with_reducible repeat' first
    | exact hOnly
    | refine raise_only (via hSub) ?_
    | refine setSticky_only (via hSub) ?_

theorem acquire_only {bs : List Block} {s0 : State} {x : Nat} {s : State}
    (hSub : Block.sub [.hosts, .mains, .evt, .arch] bs = true) (hOnly : Only bs s0 s) :
    Only bs s0 (acquire x s) := by
  unfold acquire
  with_reducible repeat' first
    | exact hOnly
    | assumption
    | refine noteRealigned_only (via hSub) ?_
    | refine checkOffNominal_only (via hSub) ?_
    | refine endCycle_only (via hSub) ?_
    | refine closeSegment_only (via hSub) ?_
    | refine onMains_only (viaOne hSub) ?_
    | refine Only.ite ?_ ?_
    | refine Only.ite1 ?_ ?_
    | refine Only.ite2 ?_ ?_
    | refine Only.foldl (fun _ _ _ => ?_) ?_
    | refine Only.foldl1 (fun _ _ _ => ?_) ?_
    | refine Only.foldl2 (fun _ _ _ => ?_) ?_
    | refine Only.eq1 (by assumption) ?_
    | refine Only.eq2 (by assumption) ?_
    | refine OnlyOpt.get (by assumption) ?_
    | refine OnlyOptP.get (by assumption) ?_
    | refine OnlyEx.get (by assumption) ?_
    | refine OnlyExP.get (by assumption) ?_
    | split
    | dsimp only

theorem realignCross_only {bs : List Block} {s0 : State} {x : Nat} {s : State}
    (hSub : Block.sub [.hosts, .mains, .evt, .arch] bs = true) (hOnly : Only bs s0 s) :
    Only bs s0 (realignCross x s) := by
  unfold realignCross
  with_reducible repeat' first
    | exact hOnly
    | assumption
    | refine noteRealigned_only (via hSub) ?_
    | refine checkOffNominal_only (via hSub) ?_
    | refine endCycle_only (via hSub) ?_
    | refine closeSegment_only (via hSub) ?_
    | refine onMains_only (viaOne hSub) ?_
    | refine Only.ite ?_ ?_
    | refine Only.ite1 ?_ ?_
    | refine Only.ite2 ?_ ?_
    | refine Only.eq1 (by assumption) ?_
    | refine Only.eq2 (by assumption) ?_
    | refine OnlyOpt.get (by assumption) ?_
    | refine OnlyOptP.get (by assumption) ?_
    | refine OnlyEx.get (by assumption) ?_
    | refine OnlyExP.get (by assumption) ?_
    | split
    | dsimp only

theorem lockedCross_only {bs : List Block} {s0 : State} {x : Nat} {s : State}
    (hSub : Block.sub [.hosts, .mains, .evt] bs = true) (hOnly : Only bs s0 s) :
    Only bs s0 (lockedCross x s) := by
  unfold lockedCross
  with_reducible repeat' first
    | exact hOnly
    | refine checkOffNominal_only (via hSub) ?_
    | refine endCycle_only (via hSub) ?_
    | refine onMains_only (viaOne hSub) ?_
    | split

theorem holdoverCross_only {bs : List Block} {s0 : State} {x : Nat} {s : State}
    (hSub : Block.sub [.mains] bs = true) (hOnly : Only bs s0 s) :
    Only bs s0 (holdoverCross x s) := by
  unfold holdoverCross
  with_reducible repeat' first
    | exact hOnly
    | refine endCycle_only (via hSub) ?_
    | refine onMains_only (viaOne hSub) ?_
    | refine Only.ite ?_ ?_

theorem splitCycle_only {bs : List Block} {s0 : State} {s : State} (hSub : Block.sub [.mains] bs = true) (hOnly : Only bs s0 s) :
    Only bs s0 (splitCycle s) := by
  unfold splitCycle
  with_reducible repeat' first
    | exact hOnly
    | assumption
    | refine onMains_only (viaOne hSub) ?_
    | refine Only.ite ?_ ?_
    | refine Only.ite1 ?_ ?_
    | refine Only.ite2 ?_ ?_
    | refine Only.eq1 (by assumption) ?_
    | refine Only.eq2 (by assumption) ?_
    | refine OnlyOpt.get (by assumption) ?_
    | refine OnlyOptP.get (by assumption) ?_
    | refine OnlyEx.get (by assumption) ?_
    | refine OnlyExP.get (by assumption) ?_
    | split
    | dsimp only

theorem startRate_only {bs : List Block} {s0 : State} {s : State} (hSub : Block.sub [.fab, .reg] bs = true) (hOnly : Only bs s0 s) :
    Only bs s0 (startRate s) := by
  unfold startRate
  with_reducible repeat' first
    | exact hOnly
    | assumption
    | refine commitRate_only (via hSub) ?_
    | refine onReg_only (viaOne hSub) ?_
    | refine Only.ite ?_ ?_
    | refine Only.ite1 ?_ ?_
    | refine Only.ite2 ?_ ?_
    | refine Only.eq1 (by assumption) ?_
    | refine Only.eq2 (by assumption) ?_
    | refine OnlyOpt.get (by assumption) ?_
    | refine OnlyOptP.get (by assumption) ?_
    | refine OnlyEx.get (by assumption) ?_
    | refine OnlyExP.get (by assumption) ?_
    | split
    | dsimp only

theorem touchHost_only {bs : List Block} {s0 : State} {h : Fin 4} {s : State}
    (hSub : Block.sub [.hosts] bs = true) (hOnly : Only bs s0 s) :
    Only bs s0 (touchHost h s) := by
  unfold touchHost
  with_reducible repeat' first
    | exact hOnly
    | refine st_setHost_only (via hSub) ?_
    | refine Only.ite ?_ ?_

theorem latchMains_only {bs : List Block} {s0 : State} {host : Fin 4} {s : State}
    (hSub : Block.sub [.hosts] bs = true) (hOnly : Only bs s0 s) :
    Only bs s0 (latchMains host s) := by
  unfold latchMains
  with_reducible repeat' first
    | exact hOnly
    | refine touchHost_only (via hSub) ?_
    | refine st_setHost_only (via hSub) ?_

/-! ### Time -/

theorem prepareRate_only {bs : List Block} {s0 : State} {base : Nat} {s : State}
    (hSub : Block.sub [.time] bs = true) (hOnly : Only bs s0 s) :
    Only bs s0 (prepareRate base s) := by
  unfold prepareRate
  with_reducible repeat' first
    | exact hOnly
    | assumption
    | refine onTime_only (viaOne hSub) ?_
    | refine Only.ite ?_ ?_
    | refine Only.ite1 ?_ ?_
    | refine Only.ite2 ?_ ?_
    | refine Only.eq1 (by assumption) ?_
    | refine Only.eq2 (by assumption) ?_
    | refine OnlyOpt.get (by assumption) ?_
    | refine OnlyOptP.get (by assumption) ?_
    | refine OnlyEx.get (by assumption) ?_
    | refine OnlyExP.get (by assumption) ?_
    | split
    | dsimp only

theorem prepareSlew_only {bs : List Block} {s0 : State} {base ppm : Nat} {amount : Int} {s : State}
    (hSub : Block.sub [.time] bs = true) (hOnly : Only bs s0 s) :
    Only bs s0 (prepareSlew base ppm amount s) := by
  unfold prepareSlew
  with_reducible repeat' first
    | exact hOnly
    | assumption
    | refine onTime_only (viaOne hSub) ?_
    | refine Only.ite ?_ ?_
    | refine Only.ite1 ?_ ?_
    | refine Only.ite2 ?_ ?_
    | refine Only.eq1 (by assumption) ?_
    | refine Only.eq2 (by assumption) ?_
    | refine OnlyOpt.get (by assumption) ?_
    | refine OnlyOptP.get (by assumption) ?_
    | refine OnlyEx.get (by assumption) ?_
    | refine OnlyExP.get (by assumption) ?_
    | split
    | dsimp only

theorem prepareStep_only {bs : List Block} {s0 : State} {base : Nat} {delta : Int} {take : Bool} {s : State}
    (hSub : Block.sub [.time] bs = true) (hOnly : Only bs s0 s) :
    Only bs s0 (prepareStep base delta take s) := by
  unfold prepareStep
  with_reducible repeat' first
    | exact hOnly
    | assumption
    | refine onTime_only (viaOne hSub) ?_
    | refine Only.ite ?_ ?_
    | refine Only.ite1 ?_ ?_
    | refine Only.ite2 ?_ ?_
    | refine Only.eq1 (by assumption) ?_
    | refine Only.eq2 (by assumption) ?_
    | refine OnlyOpt.get (by assumption) ?_
    | refine OnlyOptP.get (by assumption) ?_
    | refine OnlyEx.get (by assumption) ?_
    | refine OnlyExP.get (by assumption) ?_
    | split
    | dsimp only

theorem proposeCorrection_only {bs : List Block} {s0 : State} {base : Nat} {ns : Int} {s : State}
    (hSub : Block.sub [.hosts, .time, .evt] bs = true) (hOnly : Only bs s0 s) :
    Only bs s0 (proposeCorrection base ns s) := by
  unfold proposeCorrection
  with_reducible repeat' first
    | exact hOnly
    | assumption
    | refine prepareStep_only (via hSub) ?_
    | refine prepareSlew_only (via hSub) ?_
    | refine raise_only (via hSub) ?_
    | refine onTime_only (viaOne hSub) ?_
    | refine Only.ite ?_ ?_
    | refine Only.ite1 ?_ ?_
    | refine Only.ite2 ?_ ?_
    | refine Only.eq1 (by assumption) ?_
    | refine Only.eq2 (by assumption) ?_
    | refine OnlyOpt.get (by assumption) ?_
    | refine OnlyOptP.get (by assumption) ?_
    | refine OnlyEx.get (by assumption) ?_
    | refine OnlyExP.get (by assumption) ?_
    | split
    | dsimp only

theorem anchorCycles_only {bs : List Block} {s0 : State} {delta : Int} {s : State}
    (hSub : Block.sub [.mains] bs = true) (hOnly : Only bs s0 s) :
    Only bs s0 (anchorCycles delta s) := by
  unfold anchorCycles
  with_reducible repeat' first
    | exact hOnly
    | assumption
    | refine onMains_only (viaOne hSub) ?_
    | refine Only.ite ?_ ?_
    | refine Only.ite1 ?_ ?_
    | refine Only.ite2 ?_ ?_
    | refine Only.eq1 (by assumption) ?_
    | refine Only.eq2 (by assumption) ?_
    | refine OnlyOpt.get (by assumption) ?_
    | refine OnlyOptP.get (by assumption) ?_
    | refine OnlyEx.get (by assumption) ?_
    | refine OnlyExP.get (by assumption) ?_
    | split
    | dsimp only

theorem answerSteps_only {bs : List Block} {s0 : State} {dates : List Byte} {s : State}
    (hSub : Block.sub [.hosts, .time] bs = true) (hOnly : Only bs s0 s) :
    Only bs s0 (answerSteps dates s) := by
  unfold answerSteps
  with_reducible repeat' first
    | exact hOnly
    | assumption
    | refine respond_only (via hSub) ?_
    | refine onTime_only (viaOne hSub) ?_
    | refine Only.ite ?_ ?_
    | refine Only.ite1 ?_ ?_
    | refine Only.ite2 ?_ ?_
    | refine Only.foldl (fun _ _ _ => ?_) ?_
    | refine Only.foldl1 (fun _ _ _ => ?_) ?_
    | refine Only.foldl2 (fun _ _ _ => ?_) ?_
    | refine Only.eq1 (by assumption) ?_
    | refine Only.eq2 (by assumption) ?_
    | refine OnlyOpt.get (by assumption) ?_
    | refine OnlyOptP.get (by assumption) ?_
    | refine OnlyEx.get (by assumption) ?_
    | refine OnlyExP.get (by assumption) ?_
    | split
    | dsimp only

theorem commitOffset_only {bs : List Block} {s0 : State} {incr : Nat} {offset : Int} {s : State}
    (hSub : Block.sub [.hosts, .mains, .time, .evt] bs = true) (hOnly : Only bs s0 s) :
    Only bs s0 (commitOffset incr offset s) := by
  unfold commitOffset
  with_reducible repeat' first
    | exact hOnly
    | assumption
    | refine answerSteps_only (via hSub) ?_
    | refine anchorCycles_only (via hSub) ?_
    | refine raise_only (via hSub) ?_
    | refine setSticky_only (via hSub) ?_
    | refine onTime_only (viaOne hSub) ?_
    | refine Only.ite ?_ ?_
    | refine Only.ite1 ?_ ?_
    | refine Only.ite2 ?_ ?_
    | refine Only.eq1 (by assumption) ?_
    | refine Only.eq2 (by assumption) ?_
    | refine OnlyOpt.get (by assumption) ?_
    | refine OnlyOptP.get (by assumption) ?_
    | refine OnlyEx.get (by assumption) ?_
    | refine OnlyExP.get (by assumption) ?_
    | split
    | dsimp only

theorem selectSource_only {bs : List Block} {s0 : State} {s : State} (hSub : Block.sub [.time] bs = true) (hOnly : Only bs s0 s) :
    Only bs s0 (selectSource s) := by
  unfold selectSource
  with_reducible repeat' first
    | exact hOnly
    | assumption
    | refine onTime_only (viaOne hSub) ?_
    | refine Only.ite ?_ ?_
    | refine Only.ite1 ?_ ?_
    | refine Only.ite2 ?_ ?_
    | refine Only.eq1 (by assumption) ?_
    | refine Only.eq2 (by assumption) ?_
    | refine OnlyOpt.get (by assumption) ?_
    | refine OnlyOptP.get (by assumption) ?_
    | refine OnlyEx.get (by assumption) ?_
    | refine OnlyExP.get (by assumption) ?_
    | split
    | dsimp only

theorem loseSource_only {bs : List Block} {s0 : State} {s : State}
    (hSub : Block.sub [.hosts, .time, .evt] bs = true) (hOnly : Only bs s0 s) :
    Only bs s0 (loseSource s) := by
  unfold loseSource
  with_reducible repeat' first
    | exact hOnly
    | refine selectSource_only (via hSub) ?_
    | refine setAlarm_only (via hSub) ?_
    | refine raise_only (via hSub) ?_
    | refine onTime_only (viaOne hSub) ?_

theorem servoMeasure_only {bs : List Block} {s0 : State} {offsetNs : Int} {delayNs : Nat} {s : State}
    (hSub : Block.sub [.hosts, .time, .evt] bs = true) (hOnly : Only bs s0 s) :
    Only bs s0 (servoMeasure offsetNs delayNs s) := by
  unfold servoMeasure
  with_reducible repeat' first
    | exact hOnly
    | assumption
    | refine proposeCorrection_only (via hSub) ?_
    | refine prepareRate_only (via hSub) ?_
    | refine onTime_only (viaOne hSub) ?_
    | refine Only.ite ?_ ?_
    | refine Only.ite1 ?_ ?_
    | refine Only.ite2 ?_ ?_
    | refine Only.eq1 (by assumption) ?_
    | refine Only.eq2 (by assumption) ?_
    | refine OnlyOpt.get (by assumption) ?_
    | refine OnlyOptP.get (by assumption) ?_
    | refine OnlyEx.get (by assumption) ?_
    | refine OnlyExP.get (by assumption) ?_
    | split
    | dsimp only

theorem takeSync_only {bs : List Block} {s0 : State} {port : Nat} {m : PtpMsg} {s : State}
    (hSub : Block.sub [.hosts, .time, .evt] bs = true) (hOnly : Only bs s0 s) :
    Only bs s0 (takeSync port m s) := by
  unfold takeSync
  with_reducible repeat' first
    | exact hOnly
    | assumption
    | refine servoMeasure_only (via hSub) ?_
    | refine Only.ite ?_ ?_
    | refine Only.ite1 ?_ ?_
    | refine Only.ite2 ?_ ?_
    | refine Only.eq1 (by assumption) ?_
    | refine Only.eq2 (by assumption) ?_
    | refine OnlyOpt.get (by assumption) ?_
    | refine OnlyOptP.get (by assumption) ?_
    | refine OnlyEx.get (by assumption) ?_
    | refine OnlyExP.get (by assumption) ?_
    | split
    | dsimp only

theorem keepDelayReq_only {bs : List Block} {s0 : State} {port ident seqId stamp : Nat} {s : State}
    (hSub : Block.sub [.time] bs = true) (hOnly : Only bs s0 s) :
    Only bs s0 (keepDelayReq port ident seqId stamp s) := by
  unfold keepDelayReq
  with_reducible repeat' first
    | exact hOnly
    | assumption
    | refine onTime_only (viaOne hSub) ?_
    | refine Only.ite ?_ ?_
    | refine Only.ite1 ?_ ?_
    | refine Only.ite2 ?_ ?_
    | refine Only.eq1 (by assumption) ?_
    | refine Only.eq2 (by assumption) ?_
    | refine OnlyOpt.get (by assumption) ?_
    | refine OnlyOptP.get (by assumption) ?_
    | refine OnlyEx.get (by assumption) ?_
    | refine OnlyExP.get (by assumption) ?_
    | split
    | dsimp only

theorem sendPtp_only {bs : List Block} {s0 : State} {port kind : Nat} {corr c : Int} {origin : Option Nat} {udp : Option PtpUdp} {s : State}
    (hSub : Block.sub [.time] bs = true) (hOnly : Only bs s0 s) :
    Only bs s0 (sendPtp port kind corr c origin udp s) := by
  unfold sendPtp
  with_reducible repeat' first
    | exact hOnly
    | assumption
    | refine onTime_only (viaOne hSub) ?_
    | refine Only.ite ?_ ?_
    | refine Only.ite1 ?_ ?_
    | refine Only.ite2 ?_ ?_
    | refine Only.getD ?_ ?_
    | refine Only.eq1 (by assumption) ?_
    | refine Only.eq2 (by assumption) ?_
    | refine OnlyOpt.get (by assumption) ?_
    | refine OnlyOptP.get (by assumption) ?_
    | refine OnlyEx.get (by assumption) ?_
    | refine OnlyExP.get (by assumption) ?_
    | split
    | dsimp only

theorem timeSet_only {bs : List Block} {s0 : State} {t : Taken} {s : State} (hSub : Block.sub [.time] bs = true) (hOnly : Only bs s0 s) :
    Only bs s0 (timeSet t s).1 := by
  unfold timeSet
  with_reducible repeat' first
    | exact hOnly
    | assumption
    | refine selectSource_only (via hSub) ?_
    | refine prepareStep_only (via hSub) ?_
    | refine onTime_only (viaOne hSub) ?_
    | refine Only.ite ?_ ?_
    | refine Only.ite1 ?_ ?_
    | refine Only.ite2 ?_ ?_
    | refine Only.eq1 (by assumption) ?_
    | refine Only.eq2 (by assumption) ?_
    | refine OnlyOpt.get (by assumption) ?_
    | refine OnlyOptP.get (by assumption) ?_
    | refine OnlyEx.get (by assumption) ?_
    | refine OnlyExP.get (by assumption) ?_
    | split
    | dsimp only

theorem timeAdj_only {bs : List Block} {s0 : State} {t : Taken} {s : State} (hSub : Block.sub [.time] bs = true) (hOnly : Only bs s0 s) :
    Only bs s0 (timeAdj t s).1 := by
  unfold timeAdj
  with_reducible repeat' first
    | exact hOnly
    | assumption
    | refine prepareSlew_only (via hSub) ?_
    | refine prepareRate_only (via hSub) ?_
    | refine Only.ite ?_ ?_
    | refine Only.ite1 ?_ ?_
    | refine Only.ite2 ?_ ?_
    | refine Only.eq1 (by assumption) ?_
    | refine Only.eq2 (by assumption) ?_
    | refine OnlyOpt.get (by assumption) ?_
    | refine OnlyOptP.get (by assumption) ?_
    | refine OnlyEx.get (by assumption) ?_
    | refine OnlyExP.get (by assumption) ?_
    | split
    | dsimp only

theorem timeStep_only {bs : List Block} {s0 : State} {h : Fin 4} {t : Taken} {s : State}
    (hSub : Block.sub [.time] bs = true) (hOnly : Only bs s0 s) :
    Only bs s0 (timeStep h t s).1 := by
  unfold timeStep
  with_reducible repeat' first
    | exact hOnly
    | assumption
    | refine prepareStep_only (via hSub) ?_
    | refine onTime_only (viaOne hSub) ?_
    | refine Only.ite ?_ ?_
    | refine Only.ite1 ?_ ?_
    | refine Only.ite2 ?_ ?_
    | refine Only.getD ?_ ?_
    | refine Only.eq1 (by assumption) ?_
    | refine Only.eq2 (by assumption) ?_
    | refine OnlyOpt.get (by assumption) ?_
    | refine OnlyOptP.get (by assumption) ?_
    | refine OnlyEx.get (by assumption) ?_
    | refine OnlyExP.get (by assumption) ?_
    | split
    | dsimp only

theorem timeStatus_only {bs : List Block} {s0 : State} {_t : Taken} {s : State} (hSub : Block.sub [] bs = true) (hOnly : Only bs s0 s) :
    Only bs s0 (timeStatus _t s).1 := by
  unfold timeStatus
  with_reducible repeat' first
    | exact hOnly

theorem placeHostEvt_only {bs : List Block} {s0 : State} {e : HostEvt} {n : Nat} {s : State}
    (hSub : Block.sub [.hosts, .sched, .evt, .pair] bs = true) (hOnly : Only bs s0 s) :
    Only bs s0 (placeHostEvt e n s) := by
  unfold placeHostEvt
  with_reducible repeat' first
    | exact hOnly
    | assumption
    | refine placeOr_only (via hSub) ?_
    | refine Only.ite ?_ ?_
    | refine Only.ite1 ?_ ?_
    | refine Only.ite2 ?_ ?_
    | refine Only.eq1 (by assumption) ?_
    | refine Only.eq2 (by assumption) ?_
    | refine OnlyOpt.get (by assumption) ?_
    | refine OnlyOptP.get (by assumption) ?_
    | refine OnlyEx.get (by assumption) ?_
    | refine OnlyExP.get (by assumption) ?_
    | split
    | dsimp only

theorem schedAdd_only {bs : List Block} {s0 : State} {h : Fin 4} {t : Taken} {s : State}
    (hSub : Block.sub [.hosts, .sched, .evt, .pair] bs = true) (hOnly : Only bs s0 s) :
    Only bs s0 (schedAdd h t s).1 := by
  unfold schedAdd
  with_reducible repeat' first
    | exact hOnly
    | assumption
    | refine placeHostEvt_only (via hSub) ?_
    | refine onSched_only (viaOne hSub) ?_
    | refine Only.ite ?_ ?_
    | refine Only.ite1 ?_ ?_
    | refine Only.ite2 ?_ ?_
    | refine Only.eq1 (by assumption) ?_
    | refine Only.eq2 (by assumption) ?_
    | refine OnlyOpt.get (by assumption) ?_
    | refine OnlyOptP.get (by assumption) ?_
    | refine OnlyEx.get (by assumption) ?_
    | refine OnlyExP.get (by assumption) ?_
    | split
    | dsimp only

theorem schedCancel_only {bs : List Block} {s0 : State} {h : Fin 4} {t : Taken} {s : State}
    (hSub : Block.sub [.hosts, .sched, .evt, .pair] bs = true) (hOnly : Only bs s0 s) :
    Only bs s0 (schedCancel h t s).1 := by
  unfold schedCancel
  with_reducible repeat' first
    | exact hOnly
    | refine dropEntries_only (via hSub) ?_
    | refine onSched_only (viaOne hSub) ?_
    | split
    | dsimp only

theorem xref_only {bs : List Block} {s0 : State} {t : Taken} {s : State} (hSub : Block.sub [] bs = true) (hOnly : Only bs s0 s) :
    Only bs s0 (xref t s).1 := by
  unfold xref
  with_reducible repeat' first
    | exact hOnly
    | assumption
    | refine Only.ite ?_ ?_
    | refine Only.ite1 ?_ ?_
    | refine Only.ite2 ?_ ?_
    | refine Only.eq1 (by assumption) ?_
    | refine Only.eq2 (by assumption) ?_
    | refine OnlyOpt.get (by assumption) ?_
    | refine OnlyOptP.get (by assumption) ?_
    | refine OnlyEx.get (by assumption) ?_
    | refine OnlyExP.get (by assumption) ?_
    | split
    | dsimp only

theorem pushNotice_only {bs : List Block} {s0 : State} {h : Fin 4} {ring : Nat} {item : List Byte} {s : State}
    (hSub : Block.sub [.hosts] bs = true) (hOnly : Only bs s0 s) :
    Only bs s0 (pushNotice h ring item s) := by
  unfold pushNotice
  with_reducible repeat' first
    | exact hOnly
    | refine dropOnRing_only (via hSub) ?_
    | refine st_setHost_only (via hSub) ?_
    | refine pushRing_only (via hSub) ?_
    | refine OnlyOpt.get (by assumption) ?_
    | split

theorem latchTime_only {bs : List Block} {s0 : State} {host : Fin 4} {s : State}
    (hSub : Block.sub [.hosts] bs = true) (hOnly : Only bs s0 s) :
    Only bs s0 (latchTime host s) := by
  unfold latchTime
  with_reducible repeat' first
    | exact hOnly
    | refine touchHost_only (via hSub) ?_
    | refine st_setHost_only (via hSub) ?_

/-! ### Trig -/

theorem placeOverlay_only {bs : List Block} {s0 : State} {target key : Nat} {s : State}
    (hSub : Block.sub [.cfg, .hosts, .sched, .evt, .pair] bs = true) (hOnly : Only bs s0 s) :
    Only bs s0 (placeOverlay target key s) := by
  unfold placeOverlay
  with_reducible repeat' first
    | exact hOnly
    | refine placeOr_only (via hSub) ?_
    | refine dropEntries_only (via hSub) ?_
    | refine onCfg_only (viaOne hSub) ?_
    | refine Only.ite ?_ ?_

theorem evalTriggers_only {bs : List Block} {s0 : State} {s : State}
    (hSub : Block.sub [.cfg, .hosts, .sched, .evt, .pair] bs = true) (hOnly : Only bs s0 s) :
    Only bs s0 (evalTriggers s) := by
  unfold evalTriggers
  with_reducible repeat' first
    | exact hOnly
    | refine placeOverlay_only (via hSub) ?_
    | refine Only.ite ?_ ?_

theorem endIslanded_only {bs : List Block} {s0 : State} {s : State}
    (hSub : Block.sub [.cfg, .hosts, .sched, .evt, .pair] bs = true) (hOnly : Only bs s0 s) :
    Only bs s0 (endIslanded s) := by
  unfold endIslanded
  with_reducible repeat' first
    | exact hOnly
    | refine evalTriggers_only (via hSub) ?_
    | refine onCfg_only (viaOne hSub) ?_
    | refine Only.ite ?_ ?_

theorem endCatchup_only {bs : List Block} {s0 : State} {s : State}
    (hSub : Block.sub [.cfg, .hosts, .sched, .evt, .pair] bs = true) (hOnly : Only bs s0 s) :
    Only bs s0 (endCatchup s) := by
  unfold endCatchup
  with_reducible repeat' first
    | exact hOnly
    | refine evalTriggers_only (via hSub) ?_
    | refine onCfg_only (viaOne hSub) ?_
    | refine Only.ite ?_ ?_

theorem startIsland_only {bs : List Block} {s0 : State} {s : State} (hSub : Block.sub [.cfg] bs = true) (hOnly : Only bs s0 s) :
    Only bs s0 (startIsland s) := by
  unfold startIsland
  with_reducible repeat' first
    | exact hOnly
    | refine onCfg_only (viaOne hSub) ?_

/-! ### Upl -/

theorem setLink_only {bs : List Block} {s0 : State} {p v : Nat} {s : State} (hSub : Block.sub [.upl] bs = true) (hOnly : Only bs s0 s) :
    Only bs s0 (setLink p v s) := by
  unfold setLink
  with_reducible repeat' first
    | exact hOnly
    | refine onUpl_only (viaOne hSub) ?_

theorem dropParentTime_only {bs : List Block} {s0 : State} {s : State}
    (hSub : Block.sub [.hosts, .time, .evt] bs = true) (hOnly : Only bs s0 s) :
    Only bs s0 (dropParentTime s) := by
  unfold dropParentTime
  with_reducible repeat' first
    | exact hOnly
    | refine loseSource_only (via hSub) ?_
    | refine onTime_only (viaOne hSub) ?_
    | refine Only.ite ?_ ?_

theorem endUp_only {bs : List Block} {s0 : State} {st : Nat} {s : State}
    (hSub : Block.sub [.cfg, .hosts, .time, .evt, .sess, .upl] bs = true) (hOnly : Only bs s0 s) :
    Only bs s0 (endUp st s) := by
  unfold endUp
  with_reducible repeat' first
    | exact hOnly
    | refine dropParentTime_only (via hSub) ?_
    | refine startIsland_only (via hSub) ?_
    | refine onSess_only (viaOne hSub) ?_
    | refine onUpl_only (viaOne hSub) ?_
    | refine Only.ite ?_ ?_
    | split

theorem endChild_only {bs : List Block} {s0 : State} {c : Nat} {s : State} (hSub : Block.sub [.upl] bs = true) (hOnly : Only bs s0 s) :
    Only bs s0 (endChild c s) := by
  unfold endChild
  with_reducible repeat' first
    | exact hOnly
    | refine onChild_only (via hSub) ?_

theorem goUp_only {bs : List Block} {s0 : State} {c : UpConn} {s : State}
    (hSub : Block.sub [.cfg, .hosts, .sched, .evt, .upl, .pair] bs = true) (hOnly : Only bs s0 s) :
    Only bs s0 (goUp c s) := by
  unfold goUp
  with_reducible repeat' first
    | exact hOnly
    | refine endIslanded_only (via hSub) ?_
    | refine onUpl_only (viaOne hSub) ?_

theorem signBytes_only {bs : List Block} {s0 : State} {pub : List Byte} {size : Nat} {b : List Byte} {s : State}
    (hSub : Block.sub [.free] bs = true) (hOnly : Only bs s0 s) :
    Only bs s0 (signBytes pub size b s).2 := by
  unfold signBytes
  with_reducible repeat' first
    | exact hOnly
    | assumption
    | refine st_takeFree_only (via hSub) ?_
    | refine Only.ite ?_ ?_
    | refine Only.ite1 ?_ ?_
    | refine Only.ite2 ?_ ?_
    | refine Only.eq1 (by assumption) ?_
    | refine Only.eq2 (by assumption) ?_
    | refine OnlyOpt.get (by assumption) ?_
    | refine OnlyOptP.get (by assumption) ?_
    | refine OnlyEx.get (by assumption) ?_
    | refine OnlyExP.get (by assumption) ?_
    | split
    | dsimp only

theorem signMessage_only {bs : List Block} {s0 : State} {type seq : Nat} {body : List Byte} {s : State}
    (hSub : Block.sub [.free] bs = true) (hOnly : Only bs s0 s) :
    Only bs s0 (signMessage type seq body s).2 := by
  unfold signMessage
  with_reducible repeat' first
    | exact hOnly
    | assumption
    | refine signBytes_only (via hSub) ?_
    | refine Only.ite ?_ ?_
    | refine Only.ite1 ?_ ?_
    | refine Only.ite2 ?_ ?_
    | refine Only.getD ?_ ?_
    | refine Only.eq1 (by assumption) ?_
    | refine Only.eq2 (by assumption) ?_
    | refine OnlyOpt.get (by assumption) ?_
    | refine OnlyOptP.get (by assumption) ?_
    | refine OnlyEx.get (by assumption) ?_
    | refine OnlyExP.get (by assumption) ?_
    | split
    | dsimp only

theorem sendNumbered_only {bs : List Block} {s0 : State} {m : UpMsg} {nextPos : Option Nat} {entries : List Q2Entry} {s : State}
    (hSub : Block.sub [.upl] bs = true) (hOnly : Only bs s0 s) :
    Only bs s0 (sendNumbered m nextPos entries s) := by
  unfold sendNumbered
  with_reducible repeat' first
    | exact hOnly
    | refine sendUp_only (via hSub) ?_
    | refine onUpl_only (viaOne hSub) ?_
    | split

theorem refuseChild_only {bs : List Block} {s0 : State} {unit : Nat} {s : State}
    (hSub : Block.sub [.hosts, .evt, .upl] bs = true) (hOnly : Only bs s0 s) :
    Only bs s0 (refuseChild unit s) := by
  unfold refuseChild
  with_reducible repeat' first
    | exact hOnly
    | refine raise_only (via hSub) ?_
    | refine onUpl_only (viaOne hSub) ?_

theorem heardChild_only {bs : List Block} {s0 : State} {c : Nat} {s : State} (hSub : Block.sub [.upl] bs = true) (hOnly : Only bs s0 s) :
    Only bs s0 (heardChild c s) := by
  unfold heardChild
  with_reducible repeat' first
    | exact hOnly
    | assumption
    | refine onChild_only (via hSub) ?_
    | refine Only.ite ?_ ?_
    | refine Only.ite1 ?_ ?_
    | refine Only.ite2 ?_ ?_
    | refine Only.eq1 (by assumption) ?_
    | refine Only.eq2 (by assumption) ?_
    | refine OnlyOpt.get (by assumption) ?_
    | refine OnlyOptP.get (by assumption) ?_
    | refine OnlyEx.get (by assumption) ?_
    | refine OnlyExP.get (by assumption) ?_
    | split
    | dsimp only

theorem takeChildRecord_only {bs : List Block} {s0 : State} {c pos : Nat} {r : Record} {s : State}
    (hSub : Block.sub [.fab, .sess, .upl] bs = true) (hOnly : Only bs s0 s) :
    Only bs s0 (takeChildRecord c pos r s) := by
  unfold takeChildRecord
  with_reducible repeat' first
    | exact hOnly
    | assumption
    | refine onChild_only (via hSub) ?_
    | refine pushQ4_only (via hSub) ?_
    | refine onUpl_only (viaOne hSub) ?_
    | refine Only.ite ?_ ?_
    | refine Only.ite1 ?_ ?_
    | refine Only.ite2 ?_ ?_
    | refine Only.eq1 (by assumption) ?_
    | refine Only.eq2 (by assumption) ?_
    | refine OnlyOpt.get (by assumption) ?_
    | refine OnlyOptP.get (by assumption) ?_
    | refine OnlyEx.get (by assumption) ?_
    | refine OnlyExP.get (by assumption) ?_
    | split
    | dsimp only

theorem takeBundle_only {bs : List Block} {s0 : State} {c pos : Nat} {l : List Record} {s : State}
    (hSub : Block.sub [.fab, .sess, .upl] bs = true) (hOnly : Only bs s0 s) : Only bs s0 (takeBundle c pos l s) := by
  induction l generalizing pos s with
  | nil => unfold takeBundle; exact hOnly
  | cons r l ih => unfold takeBundle; exact ih (takeChildRecord_only (via hSub) hOnly)


theorem malformed_only {bs : List Block} {s0 : State} {c : Nat} {s : State}
    (hSub : Block.sub [.hosts, .evt, .upl] bs = true) (hOnly : Only bs s0 s) :
    Only bs s0 (malformed c s) := by
  unfold malformed
  with_reducible repeat' first
    | exact hOnly
    | refine endChild_only (via hSub) ?_
    | refine raise_only (via hSub) ?_

theorem heardUp_only {bs : List Block} {s0 : State} {s : State} (hSub : Block.sub [.upl] bs = true) (hOnly : Only bs s0 s) :
    Only bs s0 (heardUp s) := by
  unfold heardUp
  with_reducible repeat' first
    | exact hOnly
    | refine onUpl_only (viaOne hSub) ?_

theorem noteExchange_only {bs : List Block} {s0 : State} {e : Option (Nat × Int × Bool)} {s : State}
    (hSub : Block.sub [.hosts, .time, .evt, .upl] bs = true) (hOnly : Only bs s0 s) :
    Only bs s0 (noteExchange e s) := by
  unfold noteExchange
  with_reducible repeat' first
    | exact hOnly
    | refine dropParentTime_only (via hSub) ?_
    | refine selectSource_only (via hSub) ?_
    | refine onTime_only (viaOne hSub) ?_
    | refine onUpl_only (viaOne hSub) ?_
    | refine Only.ite ?_ ?_

theorem placeMulticast_only {bs : List Block} {s0 : State} {kind key : Nat} {bytes : List Byte} {s : State}
    (hSub : Block.sub [.hosts, .sched, .fab, .evt, .rad, .plc, .pair] bs = true) (hOnly : Only bs s0 s) :
    OnlyExP bs s0 (placeMulticast kind key bytes s) := by
  unfold placeMulticast
  with_reducible repeat' first
    | exact hOnly
    | refine newFrame_only (via hSub) ?_
    | refine placeRadio_only (via hSub) ?_
    | refine placePlc_only (via hSub) ?_
    | exact OnlyExP.error
    | refine OnlyExP.ok ?_
    | refine Only.eq2 (by assumption) ?_
    | refine OnlyEx.get (by assumption) ?_
    | split
    | dsimp only

theorem takeMulticast_only {bs : List Block} {s0 : State} {d : DownBody} {s : State}
    (hSub : Block.sub [.hosts, .sched, .fab, .evt, .rad, .plc, .upl, .pair] bs = true) (hOnly : Only bs s0 s) :
    Only bs s0 (takeMulticast d s) := by
  unfold takeMulticast
  with_reducible repeat' first
    | exact hOnly
    | refine answerDown_only (via hSub) ?_
    | refine onUpl_only (viaOne hSub) ?_
    | refine placeMulticast_only (via hSub) ?_
    | refine Only.ite ?_ ?_
    | refine OnlyExP.get (by assumption) ?_
    | split

theorem takeUnicast_only {bs : List Block} {s0 : State} {d : DownBody} {s : State}
    (hSub : Block.sub [.hosts, .sched, .fab, .evt, .rad, .link, .plc, .upl, .pair] bs = true) (hOnly : Only bs s0 s) :
    Only bs s0 (takeUnicast d s) := by
  unfold takeUnicast
  with_reducible repeat' first
    | exact hOnly
    | refine wakeBefore_only (via hSub) ?_
    | refine answerDown_only (via hSub) ?_
    | refine onUpl_only (viaOne hSub) ?_
    | refine placeDownlink_only (via hSub) ?_
    | refine Only.ite ?_ ?_
    | refine OnlyEx.get (by assumption) ?_
    | split

theorem uplStatus_only {bs : List Block} {s0 : State} {tk : Taken} {s : State} (hSub : Block.sub [] bs = true) (hOnly : Only bs s0 s) :
    Only bs s0 (uplStatus tk s).1 := by
  unfold uplStatus
  with_reducible repeat' first
    | exact hOnly

theorem childRead_only {bs : List Block} {s0 : State} {t : Taken} {s : State} (hSub : Block.sub [] bs = true) (hOnly : Only bs s0 s) :
    Only bs s0 (childRead t s).1 := by
  unfold childRead
  with_reducible repeat' first
    | exact hOnly
    | split
    | dsimp only

theorem childSet_only {bs : List Block} {s0 : State} {t : Taken} {s : State} (hSub : Block.sub [.upl] bs = true) (hOnly : Only bs s0 s) :
    Only bs s0 (childSet t s).1 := by
  unfold childSet
  with_reducible repeat' first
    | exact hOnly
    | refine onUpl_only (viaOne hSub) ?_
    | split
    | dsimp only

/-! ### Key -/

theorem applyMeterKeys_only {bs : List Block} {s0 : State} {e : List Byte} {s : State}
    (hSub : Block.sub [.hosts, .evt, .sess, .arch, .pair] bs = true) (hOnly : Only bs s0 s) :
    Only bs s0 (applyMeterKeys e s) := by
  unfold applyMeterKeys
  with_reducible repeat' first
    | exact hOnly
    | refine onCtx_only (via hSub) ?_

theorem putSlot_only {bs : List Block} {s0 : State} {n : Nat} {x : Slot} {s : State}
    (hSub : Block.sub [.pocket] bs = true) (hOnly : Only bs s0 s) :
    Only bs s0 (putSlot n x s) := by
  unfold putSlot
  with_reducible repeat' first
    | exact hOnly
    | refine onPocket_only (viaOne hSub) ?_

theorem applyEntry_only {bs : List Block} {s0 : State} {kind counter : Nat} {e : List Byte} {s : State}
    (hSub : Block.sub [.pocket, .free] bs = true) (hOnly : Only bs s0 s) :
    Only bs s0 (applyEntry kind counter e s) := by
  unfold applyEntry
  with_reducible repeat' first
    | exact hOnly
    | refine putSlot_only (via hSub) ?_
    | refine st_takeFree_only (via hSub) ?_
    | refine onPocket_only (viaOne hSub) ?_
    | split

theorem clearStaging_only {bs : List Block} {s0 : State} {s : State} (hSub : Block.sub [.pocket] bs = true) (hOnly : Only bs s0 s) :
    Only bs s0 (clearStaging s) := by
  unfold clearStaging
  with_reducible repeat' first
    | exact hOnly
    | refine onPocket_only (viaOne hSub) ?_

theorem kumReject_only {bs : List Block} {s0 : State} {s : State}
    (hSub : Block.sub [.hosts, .evt, .pocket] bs = true) (hOnly : Only bs s0 s) :
    Only bs s0 (kumReject s) := by
  unfold kumReject
  with_reducible repeat' first
    | exact hOnly
    | refine raise_only (via hSub) ?_
    | refine setSticky_only (via hSub) ?_
    | refine onPocket_only (viaOne hSub) ?_

theorem keyRefuse_only {bs : List Block} {s0 : State} {st : Status} {kind bad : Nat} {s : State}
    (hSub : Block.sub [.pocket] bs = true) (hOnly : Only bs s0 s) :
    Only bs s0 (keyRefuse st kind bad s).1 := by
  unfold keyRefuse
  with_reducible repeat' first
    | exact hOnly
    | refine clearStaging_only (via hSub) ?_

theorem keyCheck_only {bs : List Block} {s0 : State} {h : Nat} {t : Taken} {sigOk : Bool} {s : State}
    (hSub : Block.sub [.hosts, .evt, .sess, .arch, .pocket, .pair] bs = true) (hOnly : Only bs s0 s) :
    Only bs s0 (keyCheck h t sigOk s).1 := by
  unfold keyCheck
  with_reducible repeat' first
    | exact hOnly
    | assumption
    | refine keyRefuse_only (via hSub) ?_
    | refine kumReject_only (via hSub) ?_
    | refine applyMeterKeys_only (via hSub) ?_
    | refine onPocket_only (viaOne hSub) ?_
    | refine Only.ite ?_ ?_
    | refine Only.ite1 ?_ ?_
    | refine Only.ite2 ?_ ?_
    | refine Only.getD ?_ ?_
    | refine Only.foldl (fun _ _ _ => ?_) ?_
    | refine Only.foldl1 (fun _ _ _ => ?_) ?_
    | refine Only.foldl2 (fun _ _ _ => ?_) ?_
    | refine Only.eq1 (by assumption) ?_
    | refine Only.eq2 (by assumption) ?_
    | refine OnlyOpt.get (by assumption) ?_
    | refine OnlyOptP.get (by assumption) ?_
    | refine OnlyEx.get (by assumption) ?_
    | refine OnlyExP.get (by assumption) ?_
    | split
    | dsimp only

theorem keyApply_only {bs : List Block} {s0 : State} {h : Nat} {sigOk : Bool} {t : Taken} {s : State}
    (hSub : Block.sub [.hosts, .evt, .sess, .arch, .pocket, .pair] bs = true) (hOnly : Only bs s0 s) :
    Only bs s0 (keyApply h sigOk t s).1 := by
  unfold keyApply
  with_reducible repeat' first
    | exact hOnly
    | assumption
    | refine keyCheck_only (via hSub) ?_
    | refine keyRefuse_only (via hSub) ?_
    | refine Only.ite ?_ ?_
    | refine Only.ite1 ?_ ?_
    | refine Only.ite2 ?_ ?_
    | refine Only.eq1 (by assumption) ?_
    | refine Only.eq2 (by assumption) ?_
    | refine OnlyOpt.get (by assumption) ?_
    | refine OnlyOptP.get (by assumption) ?_
    | refine OnlyEx.get (by assumption) ?_
    | refine OnlyExP.get (by assumption) ?_
    | split
    | dsimp only

theorem applyAgain_only {bs : List Block} {s0 : State} {a : Applying} {s : State}
    (hSub : Block.sub [.hosts, .evt, .sess, .arch, .pocket, .pair] bs = true) (hOnly : Only bs s0 s) :
    Only bs s0 (applyAgain a s) := by
  unfold applyAgain
  with_reducible repeat' first
    | exact hOnly
    | assumption
    | refine applyMeterKeys_only (via hSub) ?_
    | refine onPocket_only (viaOne hSub) ?_
    | refine Only.ite ?_ ?_
    | refine Only.ite1 ?_ ?_
    | refine Only.ite2 ?_ ?_
    | refine Only.foldl (fun _ _ _ => ?_) ?_
    | refine Only.foldl1 (fun _ _ _ => ?_) ?_
    | refine Only.foldl2 (fun _ _ _ => ?_) ?_
    | refine Only.eq1 (by assumption) ?_
    | refine Only.eq2 (by assumption) ?_
    | refine OnlyOpt.get (by assumption) ?_
    | refine OnlyOptP.get (by assumption) ?_
    | refine OnlyEx.get (by assumption) ?_
    | refine OnlyExP.get (by assumption) ?_
    | split
    | dsimp only

theorem keyStatus_only {bs : List Block} {s0 : State} {tk : Taken} {s : State} (hSub : Block.sub [] bs = true) (hOnly : Only bs s0 s) :
    Only bs s0 (keyStatus tk s).1 := by
  unfold keyStatus
  with_reducible repeat' first
    | exact hOnly
    | assumption
    | refine Only.ite ?_ ?_
    | refine Only.ite1 ?_ ?_
    | refine Only.ite2 ?_ ?_
    | refine Only.eq1 (by assumption) ?_
    | refine Only.eq2 (by assumption) ?_
    | refine OnlyOpt.get (by assumption) ?_
    | refine OnlyOptP.get (by assumption) ?_
    | refine OnlyEx.get (by assumption) ?_
    | refine OnlyExP.get (by assumption) ?_
    | split
    | dsimp only

theorem keyLoad_only {bs : List Block} {s0 : State} {h : Nat} {t : Taken} {s : State}
    (hSub : Block.sub [.pocket] bs = true) (hOnly : Only bs s0 s) :
    Only bs s0 (keyLoad h t s).1 := by
  unfold keyLoad
  with_reducible repeat' first
    | exact hOnly
    | refine onPocket_only (viaOne hSub) ?_
    | split
    | dsimp only

theorem slotRead_only {bs : List Block} {s0 : State} {t : Taken} {s : State} (hSub : Block.sub [] bs = true) (hOnly : Only bs s0 s) :
    Only bs s0 (slotRead t s).1 := by
  unfold slotRead
  with_reducible repeat' first
    | exact hOnly
    | split
    | dsimp only

theorem attest_only {bs : List Block} {s0 : State} {h : Nat} {t : Taken} {s : State}
    (hSub : Block.sub [.pocket] bs = true) (hOnly : Only bs s0 s) :
    Only bs s0 (attest h t s).1 := by
  unfold attest
  with_reducible repeat' first
    | exact hOnly
    | refine onPocket_only (viaOne hSub) ?_
    | split
    | dsimp only

/-! ### Fleet -/

theorem onPush_only {bs : List Block} {s0 : State} {id : Nat} {f : Push → Push} {s : State}
    (hSub : Block.sub [.fleet] bs = true) (hOnly : Only bs s0 s) :
    Only bs s0 (onPush id f s) := by
  unfold onPush
  with_reducible repeat' first
    | exact hOnly
    | refine onFleet_only (viaOne hSub) ?_
    | split

theorem onCamp_only {bs : List Block} {s0 : State} {n : Nat} {f : Camp → Camp} {s : State}
    (hSub : Block.sub [.fleet] bs = true) (hOnly : Only bs s0 s) :
    Only bs s0 (onCamp n f s) := by
  unfold onCamp
  with_reducible repeat' first
    | exact hOnly
    | refine onFleet_only (viaOne hSub) ?_
    | split

theorem notice_only {bs : List Block} {s0 : State} {kind slot meter v1 v2 v3 : Nat} {s : State}
    (hSub : Block.sub [.hosts, .fleet] bs = true) (hOnly : Only bs s0 s) :
    Only bs s0 (notice kind slot meter v1 v2 v3 s) := by
  unfold notice
  with_reducible repeat' first
    | exact hOnly
    | refine setSticky_only (via hSub) ?_
    | refine onFleet_only (viaOne hSub) ?_
    | refine pushRing_only (via hSub) ?_
    | refine OnlyOpt.get (by assumption) ?_
    | split
    | dsimp only

theorem checkPush_only {bs : List Block} {s0 : State} {id : Nat} {s : State}
    (hSub : Block.sub [.hosts, .evt, .sess, .arch, .fleet, .pair] bs = true) (hOnly : Only bs s0 s) :
    Only bs s0 (checkPush id s) := by
  unfold checkPush
  with_reducible repeat' first
    | assumption
    | refine notice_only (via hSub) ?_
    | refine onCtx_only (via hSub) ?_
    | refine onFleet_only (viaOne hSub) ?_
    | refine Only.ite ?_ ?_
    | refine Only.foldl (fun _ _ _ => ?_) ?_
    | split

theorem setPush_only {bs : List Block} {s0 : State} {m st : Nat} {s : State}
    (hSub : Block.sub [.hosts, .evt, .sess, .arch, .pair] bs = true) (hOnly : Only bs s0 s) :
    Only bs s0 (setPush m st s) := by
  unfold setPush
  with_reducible repeat' first
    | exact hOnly
    | refine onCtx_only (via hSub) ?_

theorem putAccount_only {bs : List Block} {s0 : State} {a : Nat} {b : Account} {s : State}
    (hSub : Block.sub [.hosts, .evt, .arch, .fleet, .pair] bs = true) (hOnly : Only bs s0 s) :
    Only bs s0 (putAccount a b s) := by
  unfold putAccount
  with_reducible repeat' first
    | exact hOnly
    | assumption
    | refine writeAccount_only (via hSub) ?_
    | refine mirror_only (via hSub) ?_
    | refine Only.ite ?_ ?_
    | refine Only.ite1 ?_ ?_
    | refine Only.ite2 ?_ ?_
    | refine Only.eq1 (by assumption) ?_
    | refine Only.eq2 (by assumption) ?_
    | refine OnlyOpt.get (by assumption) ?_
    | refine OnlyOptP.get (by assumption) ?_
    | refine OnlyEx.get (by assumption) ?_
    | refine OnlyExP.get (by assumption) ?_
    | split
    | dsimp only

theorem syncLedger_only {bs : List Block} {s0 : State} {s : State} (hSub : Block.sub [.arch] bs = true) (hOnly : Only bs s0 s) :
    Only bs s0 (syncLedger s) := by
  unfold syncLedger
  with_reducible repeat' first
    | exact hOnly
    | assumption
    | refine storePage_only (via hSub) ?_
    | refine Only.ite ?_ ?_
    | refine Only.ite1 ?_ ?_
    | refine Only.ite2 ?_ ?_
    | refine Only.foldl (fun _ _ _ => ?_) ?_
    | refine Only.foldl1 (fun _ _ _ => ?_) ?_
    | refine Only.foldl2 (fun _ _ _ => ?_) ?_
    | refine Only.eq1 (by assumption) ?_
    | refine Only.eq2 (by assumption) ?_
    | refine OnlyOpt.get (by assumption) ?_
    | refine OnlyOptP.get (by assumption) ?_
    | refine OnlyEx.get (by assumption) ?_
    | refine OnlyExP.get (by assumption) ?_
    | split
    | dsimp only

theorem addEntry_only {bs : List Block} {s0 : State} {a : Nat} {e : LedgerEnt} {s : State}
    (hSub : Block.sub [.hosts, .evt, .arch, .fleet, .pair] bs = true) (hOnly : Only bs s0 s) :
    Only bs s0 (addEntry a e s) := by
  unfold addEntry
  with_reducible repeat' first
    | exact hOnly
    | refine putAccount_only (via hSub) ?_
    | refine notice_only (via hSub) ?_
    | refine setSticky_only (via hSub) ?_
    | refine Only.ite ?_ ?_
    | split

theorem setEntry_only {bs : List Block} {s0 : State} {a tid cs st : Nat} {s : State}
    (hSub : Block.sub [.hosts, .evt, .arch, .fleet, .pair] bs = true) (hOnly : Only bs s0 s) :
    Only bs s0 (setEntry a tid cs st s) := by
  unfold setEntry
  with_reducible repeat' first
    | exact hOnly
    | refine putAccount_only (via hSub) ?_

theorem endToken_only {bs : List Block} {s0 : State} {m a tid cs st : Nat} {s : State}
    (hSub : Block.sub [.hosts, .evt, .sess, .arch, .fleet, .pair] bs = true) (hOnly : Only bs s0 s) :
    Only bs s0 (endToken m a tid cs st s) := by
  unfold endToken
  with_reducible repeat' first
    | exact hOnly
    | refine setEntry_only (via hSub) ?_
    | refine notice_only (via hSub) ?_
    | refine onCtx_only (via hSub) ?_
    | refine onFleet_only (viaOne hSub) ?_

theorem checkCamp_only {bs : List Block} {s0 : State} {n : Nat} {s : State}
    (hSub : Block.sub [.hosts, .evt, .sess, .arch, .fleet, .pair] bs = true) (hOnly : Only bs s0 s) :
    Only bs s0 (checkCamp n s) := by
  unfold checkCamp
  with_reducible repeat' first
    | assumption
    | refine notice_only (via hSub) ?_
    | refine onCtx_only (via hSub) ?_
    | refine onFleet_only (viaOne hSub) ?_
    | refine Only.ite ?_ ?_
    | refine Only.foldl (fun _ _ _ => ?_) ?_
    | split

theorem failMember_only {bs : List Block} {s0 : State} {m reason : Nat} {s : State}
    (hSub : Block.sub [.hosts, .evt, .sess, .arch, .pair] bs = true) (hOnly : Only bs s0 s) :
    Only bs s0 (failMember m reason s) := by
  unfold failMember
  with_reducible repeat' first
    | exact hOnly
    | refine onCtx_only (via hSub) ?_

theorem setCamp_only {bs : List Block} {s0 : State} {m n st : Nat} {s : State}
    (hSub : Block.sub [.hosts, .evt, .sess, .arch, .fleet, .pair] bs = true) (hOnly : Only bs s0 s) :
    Only bs s0 (setCamp m n st s) := by
  unfold setCamp
  with_reducible repeat' first
    | exact hOnly
    | refine onCamp_only (via hSub) ?_
    | refine onCtx_only (via hSub) ?_

theorem stepFailed_only {bs : List Block} {s0 : State} {m n : Nat} {s : State}
    (hSub : Block.sub [.hosts, .evt, .sess, .arch, .pair] bs = true) (hOnly : Only bs s0 s) :
    Only bs s0 (stepFailed m n s) := by
  unfold stepFailed
  with_reducible repeat' first
    | exact hOnly
    | refine failMember_only (via hSub) ?_
    | refine onCtx_only (via hSub) ?_
    | split

theorem takeBitmap_only {bs : List Block} {s0 : State} {m n v : Nat} {s : State}
    (hSub : Block.sub [.hosts, .evt, .sess, .arch, .fleet, .pair] bs = true) (hOnly : Only bs s0 s) :
    Only bs s0 (takeBitmap m n v s) := by
  unfold takeBitmap
  with_reducible repeat' first
    | exact hOnly
    | refine stepFailed_only (via hSub) ?_
    | refine setCamp_only (via hSub) ?_
    | refine onCamp_only (via hSub) ?_
    | refine onCtx_only (via hSub) ?_
    | refine Only.ite ?_ ?_
    | split

theorem sendApdu_only {bs : List Block} {s0 : State} {m : Nat} {c : MeterCtx} {ref : Nat} {bytes : List Byte} {s : State}
    (hSub : Block.sub [.hosts, .sched, .fab, .evt, .rad, .link, .plc, .upl, .pair] bs = true) (hOnly : Only bs s0 s) :
    OnlyOpt bs s0 (sendApdu m c ref bytes s) := by
  unfold sendApdu
  with_reducible repeat' first
    | exact hOnly
    | refine wakeBefore_only (via hSub) ?_
    | refine sendChild_only (via hSub) ?_
    | refine onUpl_only (viaOne hSub) ?_
    | refine placeDownlink_only (via hSub) ?_
    | exact OnlyOpt.none
    | refine OnlyOpt.some ?_
    | refine OnlyEx.get (by assumption) ?_
    | split
    | dsimp only

theorem openReq_only {bs : List Block} {s0 : State} {m : Nat} {c : MeterCtx} {r : FleetReq} {s : State}
    (hSub : Block.sub [.hosts, .sched, .fab, .evt, .rad, .link, .plc, .sess, .arch, .upl, .fleet, .pair] bs = true)
    (hOnly : Only bs s0 s) :
    Only bs s0 (openReq m c r s) := by
  unfold openReq
  with_reducible repeat' first
    | exact hOnly
    | assumption
    | refine setPush_only (via hSub) ?_
    | refine onPush_only (via hSub) ?_
    | refine onFleet_only (viaOne hSub) ?_
    | refine sendApdu_only (via hSub) ?_
    | refine Only.ite ?_ ?_
    | refine Only.ite1 ?_ ?_
    | refine Only.ite2 ?_ ?_
    | refine Only.getD ?_ ?_
    | refine Only.eq1 (by assumption) ?_
    | refine Only.eq2 (by assumption) ?_
    | refine OnlyOpt.get (by assumption) ?_
    | refine OnlyOptP.get (by assumption) ?_
    | refine OnlyEx.get (by assumption) ?_
    | refine OnlyExP.get (by assumption) ?_
    | split
    | dsimp only

theorem followMember_only {bs : List Block} {s0 : State} {m : Nat} {c : MeterCtx} {s : State}
    (hSub : Block.sub [.hosts, .evt, .sess, .arch, .pair] bs = true) (hOnly : Only bs s0 s) :
    Only bs s0 (followMember m c s) := by
  unfold followMember
  with_reducible repeat' first
    | exact hOnly
    | refine failMember_only (via hSub) ?_
    | refine onCtx_only (via hSub) ?_
    | refine Only.ite ?_ ?_

theorem followPush_only {bs : List Block} {s0 : State} {m : Nat} {c : MeterCtx} {s : State}
    (hSub : Block.sub [.hosts, .evt, .sess, .arch, .pair] bs = true) (hOnly : Only bs s0 s) :
    Only bs s0 (followPush m c s) := by
  unfold followPush
  with_reducible repeat' first
    | exact hOnly
    | refine setPush_only (via hSub) ?_
    | refine Only.ite ?_ ?_

theorem roundReport_only {bs : List Block} {s0 : State} {n : Nat} {p : Camp} {s : State}
    (hSub : Block.sub [.hosts, .fleet] bs = true) (hOnly : Only bs s0 s) :
    Only bs s0 (roundReport n p s) := by
  unfold roundReport
  with_reducible repeat' first
    | exact hOnly
    | refine notice_only (via hSub) ?_
    | refine onCamp_only (via hSub) ?_
    | refine Only.ite ?_ ?_

theorem endOrphans_only {bs : List Block} {s0 : State} {s : State}
    (hSub : Block.sub [.hosts, .evt, .sess, .arch, .fleet, .pair] bs = true) (hOnly : Only bs s0 s) :
    Only bs s0 (endOrphans s) := by
  unfold endOrphans
  with_reducible repeat' first
    | exact hOnly
    | assumption
    | refine endToken_only (via hSub) ?_
    | refine onCtx_only (via hSub) ?_
    | refine Only.ite ?_ ?_
    | refine Only.ite1 ?_ ?_
    | refine Only.ite2 ?_ ?_
    | refine Only.getD ?_ ?_
    | refine Only.foldl (fun _ _ _ => ?_) ?_
    | refine Only.foldl1 (fun _ _ _ => ?_) ?_
    | refine Only.foldl2 (fun _ _ _ => ?_) ?_
    | refine Only.eq1 (by assumption) ?_
    | refine Only.eq2 (by assumption) ?_
    | refine OnlyOpt.get (by assumption) ?_
    | refine OnlyOptP.get (by assumption) ?_
    | refine OnlyEx.get (by assumption) ?_
    | refine OnlyExP.get (by assumption) ?_
    | split
    | dsimp only

theorem fleetPump_only {bs : List Block} {s0 : State} {s : State}
    (hSub : Block.sub [.hosts, .sched, .fab, .evt, .rad, .link, .plc, .sess, .arch, .upl, .fleet, .pair] bs = true)
    (hOnly : Only bs s0 s) :
    Only bs s0 (fleetPump s) := by
  unfold fleetPump
  with_reducible repeat' first
    | exact hOnly
    | assumption
    | refine endOrphans_only (via hSub) ?_
    | refine roundReport_only (via hSub) ?_
    | refine followPush_only (via hSub) ?_
    | refine followMember_only (via hSub) ?_
    | refine openReq_only (via hSub) ?_
    | refine checkCamp_only (via hSub) ?_
    | refine checkPush_only (via hSub) ?_
    | refine Only.ite ?_ ?_
    | refine Only.ite1 ?_ ?_
    | refine Only.ite2 ?_ ?_
    | refine Only.foldl (fun _ _ _ => ?_) ?_
    | refine Only.foldl1 (fun _ _ _ => ?_) ?_
    | refine Only.foldl2 (fun _ _ _ => ?_) ?_
    | refine Only.eq1 (by assumption) ?_
    | refine Only.eq2 (by assumption) ?_
    | refine OnlyOpt.get (by assumption) ?_
    | refine OnlyOptP.get (by assumption) ?_
    | refine OnlyEx.get (by assumption) ?_
    | refine OnlyExP.get (by assumption) ?_
    | split
    | dsimp only

theorem attemptFailed_only {bs : List Block} {s0 : State} {o : OpenReq} {s : State}
    (hSub : Block.sub [.hosts, .evt, .sess, .arch, .fleet, .pair] bs = true) (hOnly : Only bs s0 s) :
    Only bs s0 (attemptFailed o s) := by
  unfold attemptFailed
  with_reducible repeat' first
    | exact hOnly
    | refine stepFailed_only (via hSub) ?_
    | refine endToken_only (via hSub) ?_
    | refine setPush_only (via hSub) ?_
    | refine onPush_only (via hSub) ?_
    | refine onCtx_only (via hSub) ?_
    | split
    | dsimp only

theorem pushAnswered_only {bs : List Block} {s0 : State} {o : OpenReq} {id : Nat} {ok : Bool} {s : State}
    (hSub : Block.sub [.hosts, .evt, .sess, .arch, .fleet, .pair] bs = true) (hOnly : Only bs s0 s) :
    Only bs s0 (pushAnswered o id ok s) := by
  unfold pushAnswered
  with_reducible repeat' first
    | exact hOnly
    | refine setPush_only (via hSub) ?_
    | refine onPush_only (via hSub) ?_
    | refine onCtx_only (via hSub) ?_
    | refine onFleet_only (viaOne hSub) ?_
    | split
    | dsimp only

theorem campAnswered_only {bs : List Block} {s0 : State} {o : OpenReq} {n : Nat} {ok : Bool} {data : List Nat} {s : State}
    (hSub : Block.sub [.hosts, .evt, .sess, .arch, .fleet, .pair] bs = true) (hOnly : Only bs s0 s) :
    Only bs s0 (campAnswered o n ok data s) := by
  unfold campAnswered
  with_reducible repeat' first
    | exact hOnly
    | refine takeBitmap_only (via hSub) ?_
    | refine stepFailed_only (via hSub) ?_
    | refine setCamp_only (via hSub) ?_
    | refine failMember_only (via hSub) ?_
    | refine onCamp_only (via hSub) ?_
    | refine onCtx_only (via hSub) ?_
    | split
    | dsimp only

theorem answered_only {bs : List Block} {s0 : State} {o : OpenReq} {ok : Bool} {data : List Nat} {s : State}
    (hSub : Block.sub [.hosts, .evt, .sess, .arch, .fleet, .pair] bs = true) (hOnly : Only bs s0 s) :
    Only bs s0 (answered o ok data s) := by
  unfold answered
  with_reducible repeat' first
    | exact hOnly
    | refine campAnswered_only (via hSub) ?_
    | refine pushAnswered_only (via hSub) ?_
    | refine endToken_only (via hSub) ?_
    | split

theorem closeReq_only {bs : List Block} {s0 : State} {o : OpenReq} {s : State}
    (hSub : Block.sub [.fleet] bs = true) (hOnly : Only bs s0 s) :
    Only bs s0 (closeReq o s) := by
  unfold closeReq
  with_reducible repeat' first
    | exact hOnly
    | refine onFleet_only (viaOne hSub) ?_

theorem takeReport_only {bs : List Block} {s0 : State} {s : State}
    (hSub : Block.sub [.hosts, .evt, .link, .sess, .arch, .upl, .fleet, .pair] bs = true) (hOnly : Only bs s0 s) :
    Only bs s0 (takeReport s) := by
  unfold takeReport
  with_reducible repeat' first
    | exact hOnly
    | refine closeReq_only (via hSub) ?_
    | refine answered_only (via hSub) ?_
    | refine attemptFailed_only (via hSub) ?_
    | refine onLink_only (viaOne hSub) ?_
    | refine onSess_only (viaOne hSub) ?_
    | refine onUpl_only (viaOne hSub) ?_
    | split
    | dsimp only

theorem recomputePush_only {bs : List Block} {s0 : State} {id : Nat} {p : Push} {s : State}
    (hSub : Block.sub [.fleet] bs = true) (hOnly : Only bs s0 s) :
    Only bs s0 (recomputePush id p s) := by
  unfold recomputePush
  with_reducible repeat' first
    | exact hOnly
    | refine onPush_only (via hSub) ?_
    | refine onFleet_only (viaOne hSub) ?_
    | refine Only.ite ?_ ?_

theorem activatePush_only {bs : List Block} {s0 : State} {id : Nat} {p : Push} {s : State}
    (hSub : Block.sub [.hosts, .evt, .sess, .arch, .fleet, .pair] bs = true) (hOnly : Only bs s0 s) :
    Only bs s0 (activatePush id p s) := by
  unfold activatePush
  with_reducible repeat' first
    | exact hOnly
    | assumption
    | refine setPush_only (via hSub) ?_
    | refine onPush_only (via hSub) ?_
    | refine Only.ite ?_ ?_
    | refine Only.ite1 ?_ ?_
    | refine Only.ite2 ?_ ?_
    | refine Only.foldl (fun _ _ _ => ?_) ?_
    | refine Only.foldl1 (fun _ _ _ => ?_) ?_
    | refine Only.foldl2 (fun _ _ _ => ?_) ?_
    | refine Only.eq1 (by assumption) ?_
    | refine Only.eq2 (by assumption) ?_
    | refine OnlyOpt.get (by assumption) ?_
    | refine OnlyOptP.get (by assumption) ?_
    | refine OnlyEx.get (by assumption) ?_
    | refine OnlyExP.get (by assumption) ?_
    | split
    | dsimp only

theorem fleetCheckpoint_only {bs : List Block} {s0 : State} {s : State}
    (hSub : Block.sub [.arch, .fleet] bs = true) (hOnly : Only bs s0 s) :
    Only bs s0 (fleetCheckpoint s) := by
  unfold fleetCheckpoint
  with_reducible repeat' first
    | exact hOnly
    | assumption
    | refine syncLedger_only (via hSub) ?_
    | refine onFleet_only (viaOne hSub) ?_
    | refine writeSystem_only (via hSub) ?_
    | refine Only.ite ?_ ?_
    | refine Only.ite1 ?_ ?_
    | refine Only.ite2 ?_ ?_
    | refine Only.eq1 (by assumption) ?_
    | refine Only.eq2 (by assumption) ?_
    | refine OnlyOpt.get (by assumption) ?_
    | refine OnlyOptP.get (by assumption) ?_
    | refine OnlyEx.get (by assumption) ?_
    | refine OnlyExP.get (by assumption) ?_
    | split
    | dsimp only

theorem nextBcast_only {bs : List Block} {s0 : State} {slot : Nat} {s : State}
    (hSub : Block.sub [.hosts, .evt, .arch, .fleet, .pair] bs = true) (hOnly : Only bs s0 s) :
    Only bs s0 (nextBcast slot s).2 := by
  unfold nextBcast
  with_reducible repeat' first
    | exact hOnly
    | assumption
    | refine writeCounter_only (via hSub) ?_
    | refine mirror_only (via hSub) ?_
    | refine Only.ite ?_ ?_
    | refine Only.ite1 ?_ ?_
    | refine Only.ite2 ?_ ?_
    | refine Only.eq1 (by assumption) ?_
    | refine Only.eq2 (by assumption) ?_
    | refine OnlyOpt.get (by assumption) ?_
    | refine OnlyOptP.get (by assumption) ?_
    | refine OnlyEx.get (by assumption) ?_
    | refine OnlyExP.get (by assumption) ?_
    | split
    | dsimp only

theorem sendMulticast_only {bs : List Block} {s0 : State} {p : Camp} {n key : Nat} {who : MeterCtx → Bool} {byKind : Bool} {image : Nat → List Byte} {s : State}
    (hSub : Block.sub [.hosts, .sched, .fab, .evt, .rad, .plc, .arch, .upl, .fleet, .pair] bs = true) (hOnly : Only bs s0 s) :
    Only bs s0 (sendMulticast p n key who byKind image s) := by
  unfold sendMulticast
  with_reducible repeat' first
    | assumption
    | refine nextBcast_only (via hSub) ?_
    | refine sendChild_only (via hSub) ?_
    | refine onFleet_only (viaOne hSub) ?_
    | refine onUpl_only (viaOne hSub) ?_
    | refine placeMulticast_only (via hSub) ?_
    | refine Only.foldl (fun _ _ _ => ?_) ?_
    | refine Only.eq2 (by assumption) ?_
    | refine OnlyExP.get (by assumption) ?_
    | split
    | dsimp only

theorem wakeAll_only {bs : List Block} {s0 : State} {key : Nat} {s : State}
    (hSub : Block.sub [.hosts, .sched, .fab, .evt, .rad, .pair] bs = true) (hOnly : Only bs s0 s) :
    Only bs s0 (wakeAll key s) := by
  unfold wakeAll
  with_reducible repeat' first
    | assumption
    | refine placeWake_only (via hSub) ?_
    | refine Only.ite ?_ ?_
    | refine Only.foldl (fun _ _ _ => ?_) ?_
    | refine OnlyExP.get (by assumption) ?_
    | split

theorem endRound_only {bs : List Block} {s0 : State} {n : Nat} {s : State}
    (hSub : Block.sub [.arch, .fleet] bs = true) (hOnly : Only bs s0 s) :
    Only bs s0 (endRound n s) := by
  unfold endRound
  with_reducible repeat' first
    | exact hOnly
    | refine fleetCheckpoint_only (via hSub) ?_
    | refine onCamp_only (via hSub) ?_

/-! ### FleetCmd -/

theorem fleetCmd_only {bs : List Block} {s0 : State} {f : Taken → State → State × Reply} {t : Taken} {s : State}
    (hOnly : Only bs s0 s) (hf : ∀ y, Only bs s0 y → Only bs s0 (f t y).1) : Only bs s0 (fleetCmd f t s).1 := by
  unfold fleetCmd
  split
  · exact hf _ hOnly
  · exact hOnly


theorem pushCreate_only {bs : List Block} {s0 : State} {t : Taken} {s : State}
    (hSub : Block.sub [.fleet] bs = true) (hOnly : Only bs s0 s) :
    Only bs s0 (pushCreate t s).1 := by
  unfold pushCreate
  with_reducible repeat' first
    | exact hOnly
    | refine onFleet_only (viaOne hSub) ?_
    | split
    | dsimp only

theorem leavePush_only {bs : List Block} {s0 : State} {m : Nat} {c : MeterCtx} {keep : Bool} {s : State}
    (hSub : Block.sub [.hosts, .evt, .sess, .arch, .fleet, .pair] bs = true) (hOnly : Only bs s0 s) :
    Only bs s0 (leavePush m c keep s) := by
  unfold leavePush
  with_reducible repeat' first
    | exact hOnly
    | refine setPush_only (via hSub) ?_
    | refine onPush_only (via hSub) ?_
    | refine Only.ite ?_ ?_

theorem pushMemberOne_only {bs : List Block} {s0 : State} {id mode m : Nat} {s : State}
    (hSub : Block.sub [.hosts, .evt, .sess, .arch, .fleet, .pair] bs = true) (hOnly : Only bs s0 s) :
    OnlyOpt bs s0 (pushMemberOne id mode m s) := by
  unfold pushMemberOne
  with_reducible repeat' first
    | exact hOnly
    | refine leavePush_only (via hSub) ?_
    | refine checkPush_only (via hSub) ?_
    | refine onPush_only (via hSub) ?_
    | refine onCtx_only (via hSub) ?_
    | exact OnlyOpt.none
    | refine OnlyOpt.some ?_
    | split

theorem eachMember_only {bs : List Block} {s0 : State} {f : Nat → State → Option State} {l : List Nat} {s : State}
    (hOnly : Only bs s0 s) (hf : ∀ n y, Only bs s0 y → OnlyOpt bs s0 (f n y)) : Only bs s0 (eachMember f l s).1 := by
  unfold eachMember
  refine Only.foldl1 (fun y a hy => ?_) hOnly
  split
  · exact hf _ _ hy _ (by assumption)
  · exact hy


theorem pushMember_only {bs : List Block} {s0 : State} {t : Taken} {s : State}
    (hSub : Block.sub [.hosts, .sched, .fab, .evt, .rad, .link, .plc, .sess, .arch, .upl, .fleet, .pair] bs = true)
    (hOnly : Only bs s0 s) :
    Only bs s0 (pushMember t s).1 := by
  unfold pushMember
  with_reducible repeat' first
    | assumption
    | refine eachMember_only ?_ (fun _ _ _ => ?_)
    | refine fleetPump_only (via hSub) ?_
    | refine pushMemberOne_only (via hSub) ?_
    | split
    | dsimp only

theorem pushStatus_only {bs : List Block} {s0 : State} {t : Taken} {s : State} (hSub : Block.sub [] bs = true) (hOnly : Only bs s0 s) :
    Only bs s0 (pushStatus t s).1 := by
  unfold pushStatus
  with_reducible repeat' first
    | exact hOnly
    | split
    | dsimp only

theorem pushCancel_only {bs : List Block} {s0 : State} {t : Taken} {s : State}
    (hSub : Block.sub [.hosts, .sched, .fab, .evt, .rad, .link, .plc, .sess, .arch, .upl, .fleet, .pair] bs = true)
    (hOnly : Only bs s0 s) :
    Only bs s0 (pushCancel t s).1 := by
  unfold pushCancel
  with_reducible repeat' first
    | assumption
    | refine fleetPump_only (via hSub) ?_
    | refine setPush_only (via hSub) ?_
    | refine checkPush_only (via hSub) ?_
    | refine onPush_only (via hSub) ?_
    | refine Only.foldl (fun _ _ _ => ?_) ?_
    | split
    | dsimp only

theorem queueToken_only {bs : List Block} {s0 : State} {m a tid cs href : Nat} {digits : List Byte} {fresh : Bool} {s : State}
    (hSub : Block.sub [.hosts, .evt, .sess, .arch, .fleet, .pair] bs = true) (hOnly : Only bs s0 s) :
    Only bs s0 (queueToken m a tid cs href digits fresh s) := by
  unfold queueToken
  with_reducible repeat' first
    | exact hOnly
    | refine setEntry_only (via hSub) ?_
    | refine addEntry_only (via hSub) ?_
    | refine onCtx_only (via hSub) ?_
    | refine onFleet_only (viaOne hSub) ?_
    | refine Only.ite ?_ ?_

theorem tokenSend_only {bs : List Block} {s0 : State} {t : Taken} {s : State}
    (hSub : Block.sub [.hosts, .evt, .sess, .arch, .fleet, .pair] bs = true) (hOnly : Only bs s0 s) :
    Only bs s0 (tokenSend t s).1 := by
  unfold tokenSend
  with_reducible repeat' first
    | exact hOnly
    | refine queueToken_only (via hSub) ?_
    | split
    | dsimp only

theorem ledgerNote_only {bs : List Block} {s0 : State} {t : Taken} {s : State}
    (hSub : Block.sub [.hosts, .evt, .arch, .fleet, .pair] bs = true) (hOnly : Only bs s0 s) :
    Only bs s0 (ledgerNote t s).1 := by
  unfold ledgerNote
  with_reducible repeat' first
    | exact hOnly
    | refine addEntry_only (via hSub) ?_
    | split
    | dsimp only

theorem ledgerRead_only {bs : List Block} {s0 : State} {t : Taken} {s : State} (hSub : Block.sub [] bs = true) (hOnly : Only bs s0 s) :
    Only bs s0 (ledgerRead t s).1 := by
  unfold ledgerRead
  with_reducible repeat' first
    | exact hOnly
    | split
    | dsimp only

theorem fleetMeterSet_only {bs : List Block} {s0 : State} {t : Taken} {s : State}
    (hSub : Block.sub [.hosts, .evt, .sess, .arch, .pair] bs = true) (hOnly : Only bs s0 s) :
    Only bs s0 (fleetMeterSet t s).1 := by
  unfold fleetMeterSet
  with_reducible repeat' first
    | exact hOnly
    | refine onCtx_only (via hSub) ?_
    | split
    | dsimp only

theorem campCreate_only {bs : List Block} {s0 : State} {t : Taken} {s : State}
    (hSub : Block.sub [.fleet] bs = true) (hOnly : Only bs s0 s) :
    Only bs s0 (campCreate t s).1 := by
  unfold campCreate
  with_reducible repeat' first
    | exact hOnly
    | refine onFleet_only (viaOne hSub) ?_
    | split
    | dsimp only

theorem campLoad_only {bs : List Block} {s0 : State} {t : Taken} {s : State}
    (hSub : Block.sub [.hosts, .evt, .arch, .fleet] bs = true) (hOnly : Only bs s0 s) :
    Only bs s0 (campLoad t s).1 := by
  unfold campLoad
  with_reducible repeat' first
    | exact hOnly
    | assumption
    | refine fleetCheckpoint_only (via hSub) ?_
    | refine raise_only (via hSub) ?_
    | refine onFleet_only (viaOne hSub) ?_
    | refine Only.ite ?_ ?_
    | refine Only.ite1 ?_ ?_
    | refine Only.ite2 ?_ ?_
    | refine Only.foldl (fun _ _ _ => ?_) ?_
    | refine Only.foldl1 (fun _ _ _ => ?_) ?_
    | refine Only.foldl2 (fun _ _ _ => ?_) ?_
    | refine Only.eq1 (by assumption) ?_
    | refine Only.eq2 (by assumption) ?_
    | refine OnlyOpt.get (by assumption) ?_
    | refine OnlyOptP.get (by assumption) ?_
    | refine OnlyEx.get (by assumption) ?_
    | refine OnlyExP.get (by assumption) ?_
    | split
    | dsimp only

theorem leaveCamp_only {bs : List Block} {s0 : State} {m : Nat} {c : MeterCtx} {keep : Bool} {s : State}
    (hSub : Block.sub [.hosts, .evt, .sess, .arch, .fleet, .pair] bs = true) (hOnly : Only bs s0 s) :
    Only bs s0 (leaveCamp m c keep s) := by
  unfold leaveCamp
  with_reducible repeat' first
    | exact hOnly
    | refine failMember_only (via hSub) ?_
    | refine onCamp_only (via hSub) ?_
    | refine onCtx_only (via hSub) ?_
    | refine Only.ite ?_ ?_

theorem campMemberOne_only {bs : List Block} {s0 : State} {n mode m : Nat} {s : State}
    (hSub : Block.sub [.hosts, .evt, .sess, .arch, .fleet, .pair] bs = true) (hOnly : Only bs s0 s) :
    OnlyOpt bs s0 (campMemberOne n mode m s) := by
  unfold campMemberOne
  with_reducible repeat' first
    | exact hOnly
    | refine leaveCamp_only (via hSub) ?_
    | refine checkCamp_only (via hSub) ?_
    | refine onCamp_only (via hSub) ?_
    | refine onCtx_only (via hSub) ?_
    | exact OnlyOpt.none
    | refine OnlyOpt.some ?_
    | split
    | dsimp only

theorem countNoRoom_only {bs : List Block} {s0 : State} {n mode : Nat} {l : List Nat} {s s' : State}
    (hSub : Block.sub [.hosts, .fleet] bs = true) (hOnly : Only bs s0 s') :
    Only bs s0 (countNoRoom n mode l s s') := by
  unfold countNoRoom
  with_reducible repeat' first
    | exact hOnly
    | refine setSticky_only (via hSub) ?_
    | refine onFleet_only (viaOne hSub) ?_
    | refine Only.ite ?_ ?_

theorem campMember_only {bs : List Block} {s0 : State} {t : Taken} {s : State}
    (hSub : Block.sub [.hosts, .sched, .fab, .evt, .rad, .link, .plc, .sess, .arch, .upl, .fleet, .pair] bs = true)
    (hOnly : Only bs s0 s) :
    Only bs s0 (campMember t s).1 := by
  unfold campMember
  with_reducible repeat' first
    | assumption
    | refine countNoRoom_only (via hSub) ?_
    | refine eachMember_only ?_ (fun _ _ _ => ?_)
    | refine fleetPump_only (via hSub) ?_
    | refine campMemberOne_only (via hSub) ?_
    | split
    | dsimp only

theorem campStart_only {bs : List Block} {s0 : State} {t : Taken} {s : State}
    (hSub : Block.sub [.hosts, .sched, .fab, .evt, .rad, .link, .plc, .sess, .arch, .upl, .fleet, .pair] bs = true)
    (hOnly : Only bs s0 s) :
    Only bs s0 (campStart t s).1 := by
  unfold campStart
  with_reducible repeat' first
    | exact hOnly
    | refine fleetPump_only (via hSub) ?_
    | refine onCamp_only (via hSub) ?_
    | split
    | dsimp only

theorem campStatus_only {bs : List Block} {s0 : State} {t : Taken} {s : State} (hSub : Block.sub [] bs = true) (hOnly : Only bs s0 s) :
    Only bs s0 (campStatus t s).1 := by
  unfold campStatus
  with_reducible repeat' first
    | exact hOnly
    | split
    | dsimp only

theorem campCancel_only {bs : List Block} {s0 : State} {t : Taken} {s : State}
    (hSub : Block.sub [.hosts, .evt, .sess, .arch, .fleet, .pair] bs = true) (hOnly : Only bs s0 s) :
    Only bs s0 (campCancel t s).1 := by
  unfold campCancel
  with_reducible repeat' first
    | assumption
    | refine failMember_only (via hSub) ?_
    | refine notice_only (via hSub) ?_
    | refine onCtx_only (via hSub) ?_
    | refine onFleet_only (viaOne hSub) ?_
    | refine Only.foldl (fun _ _ _ => ?_) ?_
    | split
    | dsimp only

/-! ### Fwu -/

theorem emptyStaging_only {bs : List Block} {s0 : State} {st : Nat} {s : State}
    (hSub : Block.sub [.fwu] bs = true) (hOnly : Only bs s0 s) :
    Only bs s0 (emptyStaging st s) := by
  unfold emptyStaging
  with_reducible repeat' first
    | exact hOnly
    | refine onFwu_only (viaOne hSub) ?_

theorem dropStaging_only {bs : List Block} {s0 : State} {s : State}
    (hSub : Block.sub [.hosts, .evt, .fwu] bs = true) (hOnly : Only bs s0 s) :
    Only bs s0 (dropStaging s) := by
  unfold dropStaging
  with_reducible repeat' first
    | exact hOnly
    | refine emptyStaging_only (via hSub) ?_
    | refine raise_only (via hSub) ?_
    | refine setSticky_only (via hSub) ?_

theorem beginCopy_only {bs : List Block} {s0 : State} {sig resSig : Bool} {s : State}
    (hSub : Block.sub [.hosts, .evt, .fwu] bs = true) (hOnly : Only bs s0 s) :
    Only bs s0 (beginCopy sig resSig s) := by
  unfold beginCopy
  with_reducible repeat' first
    | exact hOnly
    | refine dropStaging_only (via hSub) ?_
    | refine onFwu_only (viaOne hSub) ?_
    | split

theorem copyTo_only {bs : List Block} {s0 : State} {sector : Nat} {s : State} (hSub : Block.sub [.fwu] bs = true) (hOnly : Only bs s0 s) :
    Only bs s0 (copyTo sector s) := by
  unfold copyTo
  with_reducible repeat' first
    | exact hOnly
    | assumption
    | refine onFwu_only (viaOne hSub) ?_
    | refine Only.ite ?_ ?_
    | refine Only.ite1 ?_ ?_
    | refine Only.ite2 ?_ ?_
    | refine Only.getD ?_ ?_
    | refine Only.eq1 (by assumption) ?_
    | refine Only.eq2 (by assumption) ?_
    | refine OnlyOpt.get (by assumption) ?_
    | refine OnlyOptP.get (by assumption) ?_
    | refine OnlyEx.get (by assumption) ?_
    | refine OnlyExP.get (by assumption) ?_
    | split
    | dsimp only

theorem endCopy_only {bs : List Block} {s0 : State} {s : State} (hSub : Block.sub [.hosts, .fwu] bs = true) (hOnly : Only bs s0 s) :
    Only bs s0 (endCopy s) := by
  unfold endCopy
  with_reducible repeat' first
    | exact hOnly
    | assumption
    | refine emptyStaging_only (via hSub) ?_
    | refine setSticky_only (via hSub) ?_
    | refine onFwu_only (viaOne hSub) ?_
    | refine Only.ite ?_ ?_
    | refine Only.ite1 ?_ ?_
    | refine Only.ite2 ?_ ?_
    | refine Only.eq1 (by assumption) ?_
    | refine Only.eq2 (by assumption) ?_
    | refine OnlyOpt.get (by assumption) ?_
    | refine OnlyOptP.get (by assumption) ?_
    | refine OnlyEx.get (by assumption) ?_
    | refine OnlyExP.get (by assumption) ?_
    | split
    | dsimp only

theorem dropBelowFloor_only {bs : List Block} {s0 : State} {s : State}
    (hSub : Block.sub [.hosts, .evt, .fwu] bs = true) (hOnly : Only bs s0 s) :
    Only bs s0 (dropBelowFloor s) := by
  unfold dropBelowFloor
  with_reducible repeat' first
    | exact hOnly
    | refine dropStaging_only (via hSub) ?_
    | refine Only.ite ?_ ?_

theorem confirmStart_only {bs : List Block} {s0 : State} {s : State} (hSub : Block.sub [.fwu] bs = true) (hOnly : Only bs s0 s) :
    Only bs s0 (confirmStart s) := by
  unfold confirmStart
  with_reducible repeat' first
    | exact hOnly
    | assumption
    | refine onFwu_only (viaOne hSub) ?_
    | refine Only.ite ?_ ?_
    | refine Only.ite1 ?_ ?_
    | refine Only.ite2 ?_ ?_
    | refine Only.eq1 (by assumption) ?_
    | refine Only.eq2 (by assumption) ?_
    | refine OnlyOpt.get (by assumption) ?_
    | refine OnlyOptP.get (by assumption) ?_
    | refine OnlyEx.get (by assumption) ?_
    | refine OnlyExP.get (by assumption) ?_
    | split
    | dsimp only

theorem fwuBegin_only {bs : List Block} {s0 : State} {h : Nat} {t : Taken} {s : State}
    (hSub : Block.sub [.fwu] bs = true) (hOnly : Only bs s0 s) :
    Only bs s0 (fwuBegin h t s).1 := by
  unfold fwuBegin
  with_reducible repeat' first
    | exact hOnly
    | assumption
    | refine emptyStaging_only (via hSub) ?_
    | refine onFwu_only (viaOne hSub) ?_
    | refine Only.ite ?_ ?_
    | refine Only.ite1 ?_ ?_
    | refine Only.ite2 ?_ ?_
    | refine Only.eq1 (by assumption) ?_
    | refine Only.eq2 (by assumption) ?_
    | refine OnlyOpt.get (by assumption) ?_
    | refine OnlyOptP.get (by assumption) ?_
    | refine OnlyEx.get (by assumption) ?_
    | refine OnlyExP.get (by assumption) ?_
    | split
    | dsimp only

theorem fwuLoad_only {bs : List Block} {s0 : State} {h : Nat} {t : Taken} {s : State}
    (hSub : Block.sub [.fwu] bs = true) (hOnly : Only bs s0 s) :
    Only bs s0 (fwuLoad h t s).1 := by
  unfold fwuLoad
  with_reducible repeat' first
    | exact hOnly
    | refine onFwu_only (viaOne hSub) ?_
    | split
    | dsimp only

theorem fwuFinish_only {bs : List Block} {s0 : State} {h : Nat} {t : Taken} {s : State}
    (hSub : Block.sub [.fwu] bs = true) (hOnly : Only bs s0 s) :
    Only bs s0 (fwuFinish h t s).1 := by
  unfold fwuFinish
  with_reducible repeat' first
    | exact hOnly
    | refine onFwu_only (viaOne hSub) ?_
    | split

theorem fwuAbort_only {bs : List Block} {s0 : State} {h : Nat} {tk : Taken} {s : State}
    (hSub : Block.sub [.fwu] bs = true) (hOnly : Only bs s0 s) :
    Only bs s0 (fwuAbort h tk s).1 := by
  unfold fwuAbort
  with_reducible repeat' first
    | exact hOnly
    | refine emptyStaging_only (via hSub) ?_
    | split

theorem fwuStatus_only {bs : List Block} {s0 : State} {tk : Taken} {s : State} (hSub : Block.sub [] bs = true) (hOnly : Only bs s0 s) :
    Only bs s0 (fwuStatus tk s).1 := by
  unfold fwuStatus
  with_reducible repeat' first
    | exact hOnly
    | assumption
    | refine Only.ite ?_ ?_
    | refine Only.ite1 ?_ ?_
    | refine Only.ite2 ?_ ?_
    | refine Only.eq1 (by assumption) ?_
    | refine Only.eq2 (by assumption) ?_
    | refine OnlyOpt.get (by assumption) ?_
    | refine OnlyOptP.get (by assumption) ?_
    | refine OnlyEx.get (by assumption) ?_
    | refine OnlyExP.get (by assumption) ?_
    | split
    | dsimp only

theorem fwuFloor_only {bs : List Block} {s0 : State} {t : Taken} {s : State} (hSub : Block.sub [.fwu] bs = true) (hOnly : Only bs s0 s) :
    Only bs s0 (fwuFloor t s).1 := by
  unfold fwuFloor
  with_reducible repeat' first
    | exact hOnly
    | assumption
    | refine onFwu_only (viaOne hSub) ?_
    | refine Only.ite ?_ ?_
    | refine Only.ite1 ?_ ?_
    | refine Only.ite2 ?_ ?_
    | refine Only.eq1 (by assumption) ?_
    | refine Only.eq2 (by assumption) ?_
    | refine OnlyOpt.get (by assumption) ?_
    | refine OnlyOptP.get (by assumption) ?_
    | refine OnlyEx.get (by assumption) ?_
    | refine OnlyExP.get (by assumption) ?_
    | split
    | dsimp only

theorem answerOther_only {bs : List Block} {s0 : State} {src : Nat} {t : Taken} {r : Reply} {s : State}
    (hSub : Block.sub [.fwu] bs = true) (hOnly : Only bs s0 s) :
    Only bs s0 (answerOther src t r s) := by
  unfold answerOther
  with_reducible repeat' first
    | exact hOnly
    | refine onFwu_only (viaOne hSub) ?_

theorem runOther_only {bs : List Block} {s0 : State} {src : Nat} {t : Taken} {f : Nat → Taken → State → State × Reply} {s : State}
    (hSub : Block.sub [.fwu] bs = true) (hOnly : Only bs s0 s) (hf : ∀ n t y, Only bs s0 y → Only bs s0 (f n t y).1) :
    Only bs s0 (runOther src t f s) := by
  unfold runOther
  exact answerOther_only (via hSub) (hf _ _ _ hOnly)


theorem runFwu_only {bs : List Block} {s0 : State} {opcode : Nat} {host : Fin 4} {head : Option (List Byte)}
    {f : Nat → Taken → State → State × Reply} {s : State}
    (hSub : Block.sub [.hosts, .fwu] bs = true) (hOnly : Only bs s0 s) (hf : ∀ n t y, Only bs s0 y → Only bs s0 (f n t y).1) :
    Only bs s0 (runFwu opcode host head f s) := by
  unfold runFwu
  split
  · exact runCmd_only (via hSub) hOnly (fun t y h => hf _ t y h)
  · split
    · exact runOther_only (via hSub) hOnly hf
    · exact hOnly


theorem fwuEnd_only {bs : List Block} {s0 : State} {j : FwuJob} {r : Reply} {s : State}
    (hSub : Block.sub [.hosts, .fwu] bs = true) (hOnly : Only bs s0 s) :
    Only bs s0 (fwuEnd j r s) := by
  unfold fwuEnd
  with_reducible repeat' first
    | exact hOnly
    | refine answerOther_only (via hSub) ?_
    | refine finishAt_only (via hSub) ?_
    | refine onFwu_only (viaOne hSub) ?_
    | refine Only.ite ?_ ?_

theorem placeRestart_only {bs : List Block} {s0 : State} {j : FwuJob} {s : State}
    (hSub : Block.sub [.hosts, .sched, .evt, .pair] bs = true) (hOnly : Only bs s0 s) :
    OnlyEx bs s0 (placeRestart j s) := by
  unfold placeRestart
  with_reducible repeat' first
    | exact hOnly
    | assumption
    | refine place_only (via hSub) ?_
    | exact OnlyEx.error
    | refine OnlyEx.ok ?_
    | refine OnlyEx.ite ?_ ?_
    | refine Only.ite ?_ ?_
    | refine Only.ite1 ?_ ?_
    | refine Only.ite2 ?_ ?_
    | refine Only.eq1 (by assumption) ?_
    | refine Only.eq2 (by assumption) ?_
    | refine OnlyOpt.get (by assumption) ?_
    | refine OnlyOptP.get (by assumption) ?_
    | refine OnlyEx.get (by assumption) ?_
    | refine OnlyExP.get (by assumption) ?_
    | split
    | dsimp only

/-! ### Pair -/

theorem toPair_only {bs : List Block} {s0 : State} {p : PairState} {s : State}
    (hSub : Block.sub [.cfg, .hosts, .sched, .evt, .pair] bs = true) (hOnly : Only bs s0 s) :
    Only bs s0 (toPair p s) := by
  unfold toPair
  with_reducible repeat' first
    | exact hOnly
    | refine evalTriggers_only (via hSub) ?_
    | refine onPair_only (viaOne hSub) ?_

theorem silence_only {bs : List Block} {s0 : State} {s : State}
    (hSub : Block.sub [.hosts, .fab, .evt, .rad, .link, .plc, .upl, .reg] bs = true) (hOnly : Only bs s0 s) :
    Only bs s0 (silence s) := by
  unfold silence
  with_reducible repeat' first
    | exact hOnly
    | refine muteDriver_only (via hSub) ?_
    | refine cutRadio_only (via hSub) ?_
    | refine releasePulses_only (via hSub) ?_
    | refine Only.ite ?_ ?_

theorem stopMirror_only {bs : List Block} {s0 : State} {s : State} (hSub : Block.sub [.pair] bs = true) (hOnly : Only bs s0 s) :
    Only bs s0 (stopMirror s) := by
  unfold stopMirror
  with_reducible repeat' first
    | exact hOnly
    | refine onPair_only (viaOne hSub) ?_

theorem toStandby_only {bs : List Block} {s0 : State} {retry : Bool} {s : State}
    (hSub : Block.sub [.cfg, .hosts, .sched, .evt, .pair] bs = true) (hOnly : Only bs s0 s) :
    Only bs s0 (toStandby retry s) := by
  unfold toStandby
  with_reducible repeat' first
    | exact hOnly
    | refine toPair_only (via hSub) ?_
    | refine onPair_only (viaOne hSub) ?_

theorem startResync_only {bs : List Block} {s0 : State} {s : State} (hSub : Block.sub [.pair] bs = true) (hOnly : Only bs s0 s) :
    Only bs s0 (startResync s) := by
  unfold startResync
  with_reducible repeat' first
    | exact hOnly
    | assumption
    | refine onPair_only (viaOne hSub) ?_
    | refine Only.ite ?_ ?_
    | refine Only.ite1 ?_ ?_
    | refine Only.ite2 ?_ ?_
    | refine Only.foldl (fun _ _ _ => ?_) ?_
    | refine Only.foldl1 (fun _ _ _ => ?_) ?_
    | refine Only.foldl2 (fun _ _ _ => ?_) ?_
    | refine Only.eq1 (by assumption) ?_
    | refine Only.eq2 (by assumption) ?_
    | refine OnlyOpt.get (by assumption) ?_
    | refine OnlyOptP.get (by assumption) ?_
    | refine OnlyEx.get (by assumption) ?_
    | refine OnlyExP.get (by assumption) ?_
    | split
    | dsimp only

theorem applyItem_only {bs : List Block} {s0 : State} {b : DeltaBody} {s : State}
    (hSub : Block.sub [.sess, .bal, .arch, .fleet, .pair] bs = true) (hOnly : Only bs s0 s) :
    Only bs s0 (applyItem b s) := by
  unfold applyItem
  with_reducible repeat' first
    | exact hOnly
    | assumption
    | refine touch_only (via hSub) ?_
    | refine writeCounter_only (via hSub) ?_
    | refine writeAccount_only (via hSub) ?_
    | refine onBal_only (viaOne hSub) ?_
    | refine onPair_only (viaOne hSub) ?_
    | refine onSess_only (viaOne hSub) ?_
    | refine Only.ite ?_ ?_
    | refine Only.ite1 ?_ ?_
    | refine Only.ite2 ?_ ?_
    | refine Only.eq1 (by assumption) ?_
    | refine Only.eq2 (by assumption) ?_
    | refine OnlyOpt.get (by assumption) ?_
    | refine OnlyOptP.get (by assumption) ?_
    | refine OnlyEx.get (by assumption) ?_
    | refine OnlyExP.get (by assumption) ?_
    | split
    | dsimp only

theorem applyAt_only {bs : List Block} {s0 : State} {j : Nat} {b : DeltaBody} {s : State}
    (hSub : Block.sub [.sess, .bal, .arch, .fleet, .pair] bs = true) (hOnly : Only bs s0 s) :
    Only bs s0 (applyAt j b s) := by
  unfold applyAt
  with_reducible repeat' first
    | exact hOnly
    | refine applyItem_only (via hSub) ?_
    | refine onPair_only (viaOne hSub) ?_
    | refine Only.ite ?_ ?_

theorem applyDelta_only {bs : List Block} {s0 : State} {j : Nat} {b : DeltaBody} {s : State}
    (hSub : Block.sub [.sess, .bal, .arch, .fleet, .pair] bs = true) (hOnly : Only bs s0 s) :
    Only bs s0 (applyDelta j b s) := by
  unfold applyDelta
  with_reducible repeat' first
    | exact hOnly
    | assumption
    | refine applyAt_only (via hSub) ?_
    | refine onPair_only (viaOne hSub) ?_
    | refine Only.ite ?_ ?_
    | refine Only.ite1 ?_ ?_
    | refine Only.ite2 ?_ ?_
    | refine Only.eq1 (by assumption) ?_
    | refine Only.eq2 (by assumption) ?_
    | refine OnlyOpt.get (by assumption) ?_
    | refine OnlyOptP.get (by assumption) ?_
    | refine OnlyEx.get (by assumption) ?_
    | refine OnlyExP.get (by assumption) ?_
    | split
    | dsimp only

theorem armMirrored_only {bs : List Block} {s0 : State} {s : State}
    (hSub : Block.sub [.hosts, .sched, .evt, .pair] bs = true) (hOnly : Only bs s0 s) :
    Only bs s0 (armMirrored s) := by
  unfold armMirrored
  with_reducible repeat' first
    | assumption
    | refine placeOr_only (via hSub) ?_
    | refine Only.ite ?_ ?_
    | refine Only.foldl (fun _ _ _ => ?_) ?_

theorem mergeMaxima_only {bs : List Block} {s0 : State} {s : State} (hSub : Block.sub [.reg] bs = true) (hOnly : Only bs s0 s) :
    Only bs s0 (mergeMaxima s) := by
  unfold mergeMaxima
  with_reducible repeat' first
    | exact hOnly
    | refine onReg_only (viaOne hSub) ?_

theorem takeDebts_only {bs : List Block} {s0 : State} {s : State} (hSub : Block.sub [.reg] bs = true) (hOnly : Only bs s0 s) :
    Only bs s0 (takeDebts s) := by
  unfold takeDebts
  with_reducible repeat' first
    | exact hOnly
    | refine onReg_only (viaOne hSub) ?_
    | split

theorem becomeActive_only {bs : List Block} {s0 : State} {s : State}
    (hSub : Block.sub [.hosts, .sched, .evt, .link, .bal, .pair, .reg] bs = true) (hOnly : Only bs s0 s) :
    Only bs s0 (becomeActive s) := by
  unfold becomeActive
  with_reducible repeat' first
    | exact hOnly
    | assumption
    | refine takeDebts_only (via hSub) ?_
    | refine mergeMaxima_only (via hSub) ?_
    | refine armMirrored_only (via hSub) ?_
    | refine fillNeighbours_only (via hSub) ?_
    | refine onBal_only (viaOne hSub) ?_
    | refine onPair_only (viaOne hSub) ?_
    | refine Only.ite ?_ ?_
    | refine Only.ite1 ?_ ?_
    | refine Only.ite2 ?_ ?_
    | refine Only.eq1 (by assumption) ?_
    | refine Only.eq2 (by assumption) ?_
    | refine OnlyOpt.get (by assumption) ?_
    | refine OnlyOptP.get (by assumption) ?_
    | refine OnlyEx.get (by assumption) ?_
    | refine OnlyExP.get (by assumption) ?_
    | split
    | dsimp only

theorem takeover_only {bs : List Block} {s0 : State} {s : State}
    (hSub : Block.sub [.cfg, .hosts, .sched, .evt, .link, .bal, .pair, .reg] bs = true) (hOnly : Only bs s0 s) :
    Only bs s0 (takeover s) := by
  unfold takeover
  with_reducible repeat' first
    | exact hOnly
    | refine becomeActive_only (via hSub) ?_
    | refine stopMirror_only (via hSub) ?_
    | refine toPair_only (via hSub) ?_
    | refine setAlarm_only (via hSub) ?_
    | refine raise_only (via hSub) ?_
    | refine setSticky_only (via hSub) ?_
    | refine onPair_only (viaOne hSub) ?_

theorem onLane_only {bs : List Block} {s0 : State} {m : LaneMsg} {x : LaneSeal} {f : State → State} {s : State}
    (hSub : Block.sub [.pair] bs = true) (hOnly : Only bs s0 s) (hf : ∀ y, Only bs s0 y → Only bs s0 (f y)) :
    Only bs s0 (onLane m x f s) := by
  unfold onLane
  exact Only.ite (Only.ite (hf _ hOnly) (onPair_only (viaOne hSub) hOnly)) hOnly


theorem sendHeartbeat_only {bs : List Block} {s0 : State} {handover : Bool} {s : State}
    (hSub : Block.sub [.pair] bs = true) (hOnly : Only bs s0 s) :
    Only bs s0 (sendHeartbeat handover s) := by
  unfold sendHeartbeat
  with_reducible repeat' first
    | exact hOnly
    | assumption
    | refine onPair_only (viaOne hSub) ?_
    | refine Only.ite ?_ ?_
    | refine Only.ite1 ?_ ?_
    | refine Only.ite2 ?_ ?_
    | refine Only.eq1 (by assumption) ?_
    | refine Only.eq2 (by assumption) ?_
    | refine OnlyOpt.get (by assumption) ?_
    | refine OnlyOptP.get (by assumption) ?_
    | refine OnlyEx.get (by assumption) ?_
    | refine OnlyExP.get (by assumption) ?_
    | split
    | dsimp only

theorem handOver_only {bs : List Block} {s0 : State} {s : State}
    (hSub : Block.sub [.cfg, .hosts, .sched, .fab, .evt, .rad, .link, .plc, .upl, .pair, .reg] bs = true) (hOnly : Only bs s0 s) :
    Only bs s0 (handOver s) := by
  unfold handOver
  with_reducible repeat' first
    | exact hOnly
    | assumption
    | refine sendHeartbeat_only (via hSub) ?_
    | refine stopMirror_only (via hSub) ?_
    | refine silence_only (via hSub) ?_
    | refine toPair_only (via hSub) ?_
    | refine raise_only (via hSub) ?_
    | refine onPair_only (viaOne hSub) ?_
    | refine Only.ite ?_ ?_
    | refine Only.ite1 ?_ ?_
    | refine Only.ite2 ?_ ?_
    | refine Only.eq1 (by assumption) ?_
    | refine Only.eq2 (by assumption) ?_
    | refine OnlyOpt.get (by assumption) ?_
    | refine OnlyOptP.get (by assumption) ?_
    | refine OnlyEx.get (by assumption) ?_
    | refine OnlyExP.get (by assumption) ?_
    | split
    | dsimp only

theorem sideClash_only {bs : List Block} {s0 : State} {s : State}
    (hSub : Block.sub [.cfg, .hosts, .sched, .fab, .evt, .rad, .link, .plc, .upl, .pair, .reg] bs = true) (hOnly : Only bs s0 s) :
    Only bs s0 (sideClash s) := by
  unfold sideClash
  with_reducible repeat' first
    | exact hOnly
    | refine toStandby_only (via hSub) ?_
    | refine stopMirror_only (via hSub) ?_
    | refine silence_only (via hSub) ?_
    | refine setAlarm_only (via hSub) ?_
    | refine raise_only (via hSub) ?_
    | refine setSticky_only (via hSub) ?_
    | refine onPair_only (viaOne hSub) ?_
    | refine Only.ite ?_ ?_

theorem yieldDual_only {bs : List Block} {s0 : State} {s : State}
    (hSub : Block.sub [.cfg, .hosts, .sched, .fab, .evt, .rad, .link, .plc, .upl, .pair, .reg] bs = true) (hOnly : Only bs s0 s) :
    Only bs s0 (yieldDual s) := by
  unfold yieldDual
  with_reducible repeat' first
    | exact hOnly
    | refine stopMirror_only (via hSub) ?_
    | refine silence_only (via hSub) ?_
    | refine toPair_only (via hSub) ?_
    | refine setAlarm_only (via hSub) ?_
    | refine raise_only (via hSub) ?_
    | refine setSticky_only (via hSub) ?_
    | refine onPair_only (viaOne hSub) ?_

theorem tryResync_only {bs : List Block} {s0 : State} {s : State}
    (hSub : Block.sub [.cfg, .hosts, .sched, .evt, .pair] bs = true) (hOnly : Only bs s0 s) :
    Only bs s0 (tryResync s) := by
  unfold tryResync
  with_reducible repeat' first
    | exact hOnly
    | assumption
    | refine toPair_only (via hSub) ?_
    | refine onPair_only (viaOne hSub) ?_
    | refine Only.ite ?_ ?_
    | refine Only.ite1 ?_ ?_
    | refine Only.ite2 ?_ ?_
    | refine Only.eq1 (by assumption) ?_
    | refine Only.eq2 (by assumption) ?_
    | refine OnlyOpt.get (by assumption) ?_
    | refine OnlyOptP.get (by assumption) ?_
    | refine OnlyEx.get (by assumption) ?_
    | refine OnlyExP.get (by assumption) ?_
    | split
    | dsimp only

theorem followPartner_only {bs : List Block} {s0 : State} {h : HbMsg} {s : State}
    (hSub : Block.sub [.cfg, .hosts, .sched, .evt, .pair] bs = true) (hOnly : Only bs s0 s) :
    Only bs s0 (followPartner h s) := by
  unfold followPartner
  with_reducible repeat' first
    | exact hOnly
    | refine startResync_only (via hSub) ?_
    | refine stopMirror_only (via hSub) ?_
    | refine toPair_only (via hSub) ?_
    | refine onPair_only (viaOne hSub) ?_
    | refine Only.ite ?_ ?_
    | split

theorem placeHandover_only {bs : List Block} {s0 : State} {s : State} (hSub : Block.sub [.pair] bs = true) (hOnly : Only bs s0 s) :
    Only bs s0 (placeHandover s) := by
  unfold placeHandover
  with_reducible repeat' first
    | exact hOnly
    | refine onPair_only (viaOne hSub) ?_

theorem takeHandover_only {bs : List Block} {s0 : State} {h : HbMsg} {s : State}
    (hSub : Block.sub [.cfg, .hosts, .sched, .evt, .link, .bal, .pair, .reg] bs = true) (hOnly : Only bs s0 s) :
    Only bs s0 (takeHandover h s) := by
  unfold takeHandover
  with_reducible repeat' first
    | exact hOnly
    | assumption
    | refine becomeActive_only (via hSub) ?_
    | refine toPair_only (via hSub) ?_
    | refine onPair_only (viaOne hSub) ?_
    | refine Only.ite ?_ ?_
    | refine Only.ite1 ?_ ?_
    | refine Only.ite2 ?_ ?_
    | refine Only.eq1 (by assumption) ?_
    | refine Only.eq2 (by assumption) ?_
    | refine OnlyOpt.get (by assumption) ?_
    | refine OnlyOptP.get (by assumption) ?_
    | refine OnlyEx.get (by assumption) ?_
    | refine OnlyExP.get (by assumption) ?_
    | split
    | dsimp only

theorem pairReact_only {bs : List Block} {s0 : State} {h : HbMsg} {s : State}
    (hSub : Block.sub [.cfg, .hosts, .sched, .fab, .evt, .rad, .link, .plc, .bal, .upl, .pair, .reg] bs = true) (hOnly : Only bs s0 s) :
    Only bs s0 (pairReact h s) := by
  unfold pairReact
  with_reducible repeat' first
    | exact hOnly
    | refine takeHandover_only (via hSub) ?_
    | refine placeHandover_only (via hSub) ?_
    | refine followPartner_only (via hSub) ?_
    | refine tryResync_only (via hSub) ?_
    | refine yieldDual_only (via hSub) ?_
    | refine toStandby_only (via hSub) ?_
    | refine Only.ite ?_ ?_

theorem noteGood_only {bs : List Block} {s0 : State} {h : HbMsg} {s : State}
    (hSub : Block.sub [.mains, .pair] bs = true) (hOnly : Only bs s0 s) :
    Only bs s0 (noteGood h s) := by
  unfold noteGood
  with_reducible repeat' first
    | exact hOnly
    | refine onMains_only (viaOne hSub) ?_
    | refine onPair_only (viaOne hSub) ?_
    | refine Only.ite ?_ ?_

theorem takeHeartbeat_only {bs : List Block} {s0 : State} {hb : HbMsg} {s : State}
    (hSub : Block.sub [.cfg, .hosts, .mains, .sched, .fab, .evt, .rad, .link, .plc, .bal, .upl, .pair, .reg] bs = true)
    (hOnly : Only bs s0 s) :
    Only bs s0 (takeHeartbeat hb s) := by
  unfold takeHeartbeat
  with_reducible repeat' first
    | exact hOnly
    | assumption
    | refine noteGood_only (via hSub) ?_
    | refine pairReact_only (via hSub) ?_
    | refine onPair_only (viaOne hSub) ?_
    | refine Only.ite ?_ ?_
    | refine Only.ite1 ?_ ?_
    | refine Only.ite2 ?_ ?_
    | refine Only.getD ?_ ?_
    | refine Only.eq1 (by assumption) ?_
    | refine Only.eq2 (by assumption) ?_
    | refine OnlyOpt.get (by assumption) ?_
    | refine OnlyOptP.get (by assumption) ?_
    | refine OnlyEx.get (by assumption) ?_
    | refine OnlyExP.get (by assumption) ?_
    | split
    | dsimp only

theorem takeDelta_only {bs : List Block} {s0 : State} {jseq : Nat} {body : DeltaBody} {s : State}
    (hSub : Block.sub [.cfg, .hosts, .sched, .evt, .sess, .bal, .arch, .fleet, .pair] bs = true) (hOnly : Only bs s0 s) :
    Only bs s0 (takeDelta jseq body s) := by
  unfold takeDelta
  with_reducible repeat' first
    | exact hOnly
    | assumption
    | refine applyDelta_only (via hSub) ?_
    | refine toStandby_only (via hSub) ?_
    | refine onPair_only (viaOne hSub) ?_
    | refine Only.ite ?_ ?_
    | refine Only.ite1 ?_ ?_
    | refine Only.ite2 ?_ ?_
    | refine Only.getD ?_ ?_
    | refine Only.eq1 (by assumption) ?_
    | refine Only.eq2 (by assumption) ?_
    | refine OnlyOpt.get (by assumption) ?_
    | refine OnlyOptP.get (by assumption) ?_
    | refine OnlyEx.get (by assumption) ?_
    | refine OnlyExP.get (by assumption) ?_
    | split
    | dsimp only

theorem endSnapshot_only {bs : List Block} {s0 : State} {jseq : Nat} {s : State}
    (hSub : Block.sub [.sess, .bal, .arch, .fleet, .pair] bs = true) (hOnly : Only bs s0 s) :
    Only bs s0 (endSnapshot jseq s) := by
  unfold endSnapshot
  with_reducible repeat' first
    | exact hOnly
    | assumption
    | refine applyDelta_only (via hSub) ?_
    | refine onPair_only (viaOne hSub) ?_
    | refine Only.ite ?_ ?_
    | refine Only.ite1 ?_ ?_
    | refine Only.ite2 ?_ ?_
    | refine Only.foldl (fun _ _ _ => ?_) ?_
    | refine Only.foldl1 (fun _ _ _ => ?_) ?_
    | refine Only.foldl2 (fun _ _ _ => ?_) ?_
    | refine Only.eq1 (by assumption) ?_
    | refine Only.eq2 (by assumption) ?_
    | refine OnlyOpt.get (by assumption) ?_
    | refine OnlyOptP.get (by assumption) ?_
    | refine OnlyEx.get (by assumption) ?_
    | refine OnlyExP.get (by assumption) ?_
    | split
    | dsimp only

theorem takeAckJseq_only {bs : List Block} {s0 : State} {jseq : Nat} {s : State}
    (hSub : Block.sub [.hosts, .fab, .evt, .sess, .arch, .pair] bs = true) (hOnly : Only bs s0 s) :
    Only bs s0 (takeAckJseq jseq s) := by
  unfold takeAckJseq
  with_reducible repeat' first
    | exact hOnly
    | assumption
    | refine releaseAcked_only (via hSub) ?_
    | refine onPair_only (viaOne hSub) ?_
    | refine Only.ite ?_ ?_
    | refine Only.ite1 ?_ ?_
    | refine Only.ite2 ?_ ?_
    | refine Only.eq1 (by assumption) ?_
    | refine Only.eq2 (by assumption) ?_
    | refine OnlyOpt.get (by assumption) ?_
    | refine OnlyOptP.get (by assumption) ?_
    | refine OnlyEx.get (by assumption) ?_
    | refine OnlyExP.get (by assumption) ?_
    | split
    | dsimp only

theorem nextHeartbeat_only {bs : List Block} {s0 : State} {s : State} (hSub : Block.sub [.sched] bs = true) (hOnly : Only bs s0 s) :
    Only bs s0 (nextHeartbeat s) := by
  unfold nextHeartbeat
  with_reducible repeat' first
    | exact hOnly
    | assumption
    | refine onSched_only (viaOne hSub) ?_
    | refine Only.ite ?_ ?_
    | refine Only.ite1 ?_ ?_
    | refine Only.ite2 ?_ ?_
    | refine Only.eq1 (by assumption) ?_
    | refine Only.eq2 (by assumption) ?_
    | refine OnlyOpt.get (by assumption) ?_
    | refine OnlyOptP.get (by assumption) ?_
    | refine OnlyEx.get (by assumption) ?_
    | refine OnlyExP.get (by assumption) ?_
    | split
    | dsimp only

theorem pairStatus_only {bs : List Block} {s0 : State} {tk : Taken} {s : State} (hSub : Block.sub [] bs = true) (hOnly : Only bs s0 s) :
    Only bs s0 (pairStatus tk s).1 := by
  unfold pairStatus
  with_reducible repeat' first
    | exact hOnly

theorem pairSwitch_only {bs : List Block} {s0 : State} {t : Taken} {s : State}
    (hSub : Block.sub [.pair] bs = true) (hOnly : Only bs s0 s) :
    Only bs s0 (pairSwitch t s).1 := by
  unfold pairSwitch
  with_reducible repeat' first
    | exact hOnly
    | refine placeHandover_only (via hSub) ?_
    | refine onPair_only (viaOne hSub) ?_
    | split
    | dsimp only

theorem pairLock_only {bs : List Block} {s0 : State} {t : Taken} {s : State} (hSub : Block.sub [.pair] bs = true) (hOnly : Only bs s0 s) :
    Only bs s0 (pairLock t s).1 := by
  unfold pairLock
  with_reducible repeat' first
    | exact hOnly
    | refine onPair_only (viaOne hSub) ?_
    | split
    | dsimp only

end Sys2Proof.Machine
end

