-- ==== Sys2Proof/Laws/FramesHub.lean ====
section
/-! SUPPORT. The frames of events, hosts, configuration, start, stop and power: each operation changes no block of State outside its list. Every lemma has
one form: what changes no block outside `bs` so far still does not after the operation, when the list stands in `bs`. -/

namespace Sys2Proof.Machine

open Host (Outcome)

set_option maxHeartbeats 400000
set_option Elab.async false
set_option maxRecDepth 4000
set_option linter.unusedVariables false

/-! ### Events -/

theorem onCode_only {bs : List Block} {s0 : State} {code : Nat} {f : CodeSt → CodeSt} {s : State}
    (hSub : Block.sub [.evt] bs = true) (hOnly : Only bs s0 s) :
    Only bs s0 (onCode code f s) := by
  unfold onCode
  with_reducible repeat' first
    | exact hOnly
    | refine onEvt_only (viaOne hSub) ?_

theorem appendRecord_only {bs : List Block} {s0 : State} {r : EvtRecord} {s : State}
    (hSub : Block.sub [.evt] bs = true) (hOnly : Only bs s0 s) :
    Only bs s0 (appendRecord r s) := by
  unfold appendRecord
  with_reducible repeat' first
    | exact hOnly
    | refine onCode_only (via hSub) ?_
    | refine onEvt_only (viaOne hSub) ?_

theorem discardNative_only {bs : List Block} {s0 : State} {r : EvtRecord} {s : State}
    (hSub : Block.sub [.hosts, .evt] bs = true) (hOnly : Only bs s0 s) :
    Only bs s0 (discardNative r s) := by
  unfold discardNative
  with_reducible repeat' first
    | exact hOnly
    | refine onCode_only (via hSub) ?_
    | refine setSticky_only (via hSub) ?_
    | refine onEvt_only (viaOne hSub) ?_
    | split
    | dsimp only

theorem storeRecord_only {bs : List Block} {s0 : State} {r : EvtRecord} {s : State}
    (hSub : Block.sub [.hosts, .evt] bs = true) (hOnly : Only bs s0 s) :
    Only bs s0 (storeRecord r s).1 := by
  unfold storeRecord
  with_reducible repeat' first
    | exact hOnly
    | refine discardNative_only (via hSub) ?_
    | refine appendRecord_only (via hSub) ?_
    | refine setSticky_only (via hSub) ?_
    | refine onEvt_only (viaOne hSub) ?_
    | split

theorem judgeEvent_only {bs : List Block} {s0 : State} {e : QEvent} {s : State}
    (hSub : Block.sub [.hosts, .evt, .free] bs = true) (hOnly : Only bs s0 s) :
    Only bs s0 (judgeEvent e s).1 := by
  unfold judgeEvent
  with_reducible repeat' first
    | exact hOnly
    | refine storeRecord_only (via hSub) ?_
    | refine onCode_only (via hSub) ?_
    | refine setSticky_only (via hSub) ?_
    | refine st_takeFree_only (via hSub) ?_
    | refine Only.eq2 (by assumption) ?_
    | split
    | dsimp only

theorem pushLost_only {bs : List Block} {s0 : State} {s : State} (hSub : Block.sub [.evt] bs = true) (hOnly : Only bs s0 s) :
    Only bs s0 (pushLost s) := by
  unfold pushLost
  with_reducible repeat' first
    | assumption
    | refine onEvt_only (viaOne hSub) ?_
    | refine Only.ite ?_ ?_
    | refine Only.foldl (fun _ _ _ => ?_) ?_

theorem evtStatus_only {bs : List Block} {s0 : State} {tk : Taken} {s : State} (hSub : Block.sub [] bs = true) (hOnly : Only bs s0 s) :
    Only bs s0 (evtStatus tk s).1 := by
  unfold evtStatus
  with_reducible repeat' first
    | exact hOnly

theorem evtRead_only {bs : List Block} {s0 : State} {t : Taken} {s : State} (hSub : Block.sub [] bs = true) (hOnly : Only bs s0 s) :
    Only bs s0 (evtRead t s).1 := by
  unfold evtRead
  with_reducible repeat' first
    | exact hOnly
    | split
    | dsimp only

theorem evtCodeRead_only {bs : List Block} {s0 : State} {t : Taken} {s : State} (hSub : Block.sub [] bs = true) (hOnly : Only bs s0 s) :
    Only bs s0 (evtCodeRead t s).1 := by
  unfold evtCodeRead
  with_reducible repeat' first
    | exact hOnly
    | split
    | dsimp only

theorem setOverride_only {bs : List Block} {s0 : State} {code : Nat} {c : Option EvtCodeCfg} {s : State}
    (hSub : Block.sub [.evt] bs = true) (hOnly : Only bs s0 s) :
    Only bs s0 (setOverride code c s) := by
  unfold setOverride
  with_reducible repeat' first
    | exact hOnly
    | assumption
    | refine onCode_only (via hSub) ?_
    | refine Only.ite ?_ ?_
    | refine Only.ite1 ?_ ?_
    | refine Only.ite2 ?_ ?_
    | refine Only.eq1 (by assumption) ?_
    | refine Only.eq2 (by assumption) ?_
    | refine OnlyOpt.get (by assumption) ?_
    | refine OnlyOptP.get (by assumption) ?_
    | refine OnlyEx.get (by assumption) ?_
    | refine OnlyExP.get (by assumption) ?_
    | split
    | dsimp only

theorem evtCodeSet_only {bs : List Block} {s0 : State} {t : Taken} {s : State}
    (hSub : Block.sub [.evt] bs = true) (hOnly : Only bs s0 s) :
    Only bs s0 (evtCodeSet t s).1 := by
  unfold evtCodeSet
  with_reducible repeat' first
    | exact hOnly
    | assumption
    | refine setOverride_only (via hSub) ?_
    | refine Only.ite ?_ ?_
    | refine Only.ite1 ?_ ?_
    | refine Only.ite2 ?_ ?_
    | refine Only.eq1 (by assumption) ?_
    | refine Only.eq2 (by assumption) ?_
    | refine OnlyOpt.get (by assumption) ?_
    | refine OnlyOptP.get (by assumption) ?_
    | refine OnlyEx.get (by assumption) ?_
    | refine OnlyExP.get (by assumption) ?_
    | split
    | dsimp only

theorem trimExtension_only {bs : List Block} {s0 : State} {s : State} (hSub : Block.sub [.evt, .arch] bs = true) (hOnly : Only bs s0 s) :
    Only bs s0 (trimExtension s) := by
  unfold trimExtension
  with_reducible repeat' first
    | exact hOnly
    | assumption
    | refine trimRanges_only (via hSub) ?_
    | refine onEvt_only (viaOne hSub) ?_
    | refine Only.ite ?_ ?_
    | refine Only.ite1 ?_ ?_
    | refine Only.ite2 ?_ ?_
    | refine Only.eq1 (by assumption) ?_
    | refine Only.eq2 (by assumption) ?_
    | refine OnlyOpt.get (by assumption) ?_
    | refine OnlyOptP.get (by assumption) ?_
    | refine OnlyEx.get (by assumption) ?_
    | refine OnlyExP.get (by assumption) ?_
    | split
    | dsimp only

theorem evtClear_only {bs : List Block} {s0 : State} {h : Fin 4} {t : Taken} {s : State}
    (hSub : Block.sub [.evt, .arch, .free] bs = true) (hOnly : Only bs s0 s) :
    Only bs s0 (evtClear h t s).1 := by
  unfold evtClear
  with_reducible repeat' first
    | exact hOnly
    | assumption
    | refine trimExtension_only (via hSub) ?_
    | refine appendRecord_only (via hSub) ?_
    | refine st_takeFree_only (via hSub) ?_
    | refine onEvt_only (viaOne hSub) ?_
    | refine Only.ite ?_ ?_
    | refine Only.ite1 ?_ ?_
    | refine Only.ite2 ?_ ?_
    | refine Only.eq1 (by assumption) ?_
    | refine Only.eq2 (by assumption) ?_
    | refine OnlyOpt.get (by assumption) ?_
    | refine OnlyOptP.get (by assumption) ?_
    | refine OnlyEx.get (by assumption) ?_
    | refine OnlyExP.get (by assumption) ?_
    | split
    | dsimp only

theorem evtMlogRead_only {bs : List Block} {s0 : State} {t : Taken} {s : State} (hSub : Block.sub [] bs = true) (hOnly : Only bs s0 s) :
    Only bs s0 (evtMlogRead t s).1 := by
  unfold evtMlogRead
  with_reducible repeat' first
    | exact hOnly
    | assumption
    | refine Only.ite ?_ ?_
    | refine Only.ite1 ?_ ?_
    | refine Only.ite2 ?_ ?_
    | refine Only.foldl (fun _ _ _ => ?_) ?_
    | refine Only.foldl1 (fun _ _ _ => ?_) ?_
    | refine Only.foldl2 (fun _ _ _ => ?_) ?_
    | refine Only.eq1 (by assumption) ?_
    | refine Only.eq2 (by assumption) ?_
    | refine OnlyOpt.get (by assumption) ?_
    | refine OnlyOptP.get (by assumption) ?_
    | refine OnlyEx.get (by assumption) ?_
    | refine OnlyExP.get (by assumption) ?_
    | split
    | dsimp only

theorem evtPost_only {bs : List Block} {s0 : State} {h : Fin 4} {t : Taken} {s : State}
    (hSub : Block.sub [.hosts, .evt] bs = true) (hOnly : Only bs s0 s) :
    Only bs s0 (evtPost h t s).1 := by
  unfold evtPost
  with_reducible repeat' first
    | exact hOnly
    | refine pushEvent_only (via hSub) ?_
    | split
    | dsimp only

/-! ### Hosts -/

theorem freeEdge_only {bs : List Block} {s0 : State} {before s : State} (hSub : Block.sub [.hosts] bs = true) (hOnly : Only bs s0 s) :
    Only bs s0 (freeEdge before s) := by
  unfold freeEdge
  with_reducible repeat' first
    | exact hOnly
    | refine onHosts_only (viaOne hSub) ?_

theorem ringBell_only {bs : List Block} {s0 : State} {h : Fin 4} {s : State} (hSub : Block.sub [.pwr] bs = true) (hOnly : Only bs s0 s) :
    Only bs s0 (ringBell h s) := by
  unfold ringBell
  with_reducible repeat' first
    | exact hOnly
    | assumption
    | refine onPwr_only (viaOne hSub) ?_
    | refine Only.ite ?_ ?_
    | refine Only.ite1 ?_ ?_
    | refine Only.ite2 ?_ ?_
    | refine Only.eq1 (by assumption) ?_
    | refine Only.eq2 (by assumption) ?_
    | refine OnlyOpt.get (by assumption) ?_
    | refine OnlyOptP.get (by assumption) ?_
    | refine OnlyEx.get (by assumption) ?_
    | refine OnlyExP.get (by assumption) ?_
    | split
    | dsimp only

theorem takeBox_only {bs : List Block} {s0 : State} {k : Nat} {acc : State × List (Fin 4 × Taken)} {h : Fin 4}
    (hSub : Block.sub [.hosts] bs = true) (hOnly : Only bs s0 acc.1) : Only bs s0 (takeBox k acc h).1 := by
  unfold takeBox
  repeat' (first
    | with_reducible exact hOnly
    | with_reducible refine respond_only (via hSub) ?_
    | with_reducible refine st_setHost_only (via hSub) ?_
    | split
    | dsimp only)


theorem loseLease_only {bs : List Block} {s0 : State} {h : Fin 4} {l : Lease} {s : State}
    (hSub : Block.sub [.hosts] bs = true) (hOnly : Only bs s0 s) :
    Only bs s0 (loseLease h l s) := by
  unfold loseLease
  with_reducible repeat' first
    | exact hOnly
    | refine st_setHost_only (via hSub) ?_

theorem leaseTake_only {bs : List Block} {s0 : State} {h : Fin 4} {t : Taken} {s : State}
    (hSub : Block.sub [.hosts, .evt] bs = true) (hOnly : Only bs s0 s) :
    Only bs s0 (leaseTake h t s).1 := by
  unfold leaseTake
  with_reducible repeat' first
    | assumption
    | refine loseLease_only (via hSub) ?_
    | refine st_setHost_only (via hSub) ?_
    | refine raise_only (via hSub) ?_
    | refine Only.foldl (fun _ _ _ => ?_) ?_
    | split
    | dsimp only

theorem leaseRelease_only {bs : List Block} {s0 : State} {h : Fin 4} {t : Taken} {s : State}
    (hSub : Block.sub [.hosts] bs = true) (hOnly : Only bs s0 s) :
    Only bs s0 (leaseRelease h t s).1 := by
  unfold leaseRelease
  with_reducible repeat' first
    | exact hOnly
    | refine st_setHost_only (via hSub) ?_
    | split

theorem leaseRead_only {bs : List Block} {s0 : State} {h : Fin 4} {tk : Taken} {s : State}
    (hSub : Block.sub [] bs = true) (hOnly : Only bs s0 s) :
    Only bs s0 (leaseRead h tk s).1 := by
  unfold leaseRead
  with_reducible repeat' first
    | exact hOnly

theorem sysInfo_only {bs : List Block} {s0 : State} {h : Fin 4} {tk : Taken} {s : State}
    (hSub : Block.sub [] bs = true) (hOnly : Only bs s0 s) :
    Only bs s0 (sysInfo h tk s).1 := by
  unfold sysInfo
  with_reducible repeat' first
    | exact hOnly

theorem goOffline_only {bs : List Block} {s0 : State} {h : Fin 4} {s : State}
    (hSub : Block.sub [.cfg, .hosts, .evt, .pocket] bs = true) (hOnly : Only bs s0 s) :
    Only bs s0 (goOffline h s) := by
  unfold goOffline
  with_reducible repeat' first
    | assumption
    | refine loseLease_only (via hSub) ?_
    | refine clearStaging_only (via hSub) ?_
    | refine st_setHost_only (via hSub) ?_
    | refine onCfg_only (viaOne hSub) ?_
    | refine onEvt_only (viaOne hSub) ?_
    | refine onHosts_only (viaOne hSub) ?_
    | refine Only.ite ?_ ?_
    | refine Only.foldl (fun _ _ _ => ?_) ?_

theorem badIndex_only {bs : List Block} {s0 : State} {r : RingSt} {s : State}
    (hSub : Block.sub [.hosts] bs = true) (hOnly : Only bs s0 s) :
    Only bs s0 (badIndex r s) := by
  unfold badIndex
  with_reducible repeat' first
    | exact hOnly
    | refine setRing_only (via hSub) ?_

theorem pushHeld_only {bs : List Block} {s0 : State} {host : Fin 4} {s : State}
    (hSub : Block.sub [.hosts] bs = true) (hOnly : Only bs s0 s) :
    Only bs s0 (pushHeld host s) := by
  unfold pushHeld
  with_reducible repeat' first
    | assumption
    | refine st_setHost_only (via hSub) ?_
    | refine pushRing_only (via hSub) ?_
    | refine Only.foldl (fun _ _ _ => ?_) ?_
    | refine OnlyOpt.get (by assumption) ?_
    | split

theorem clearSticky_only {bs : List Block} {s0 : State} {h : Fin 4} {off : Nat} {v : Word} {s : State}
    (hSub : Block.sub [.hosts] bs = true) (hOnly : Only bs s0 s) :
    Only bs s0 (clearSticky h off v s) := by
  unfold clearSticky
  with_reducible repeat' first
    | exact hOnly
    | refine st_setHost_only (via hSub) ?_

theorem collarWrite_only {bs : List Block} {s0 : State} {h : Fin 4} {off : Nat} {v : Word} {s : State}
    (hSub : Block.sub [.hosts] bs = true) (hOnly : Only bs s0 s) :
    Only bs s0 (collarWrite h off v s) := by
  unfold collarWrite
  with_reducible repeat' first
    | exact hOnly
    | refine clearSticky_only (via hSub) ?_
    | refine st_setHost_only (via hSub) ?_
    | refine onHosts_only (viaOne hSub) ?_
    | refine Only.ite ?_ ?_

theorem ringPageWrite_only {bs : List Block} {s0 : State} {h : Fin 4} {off : Nat} {v : Word} {s : State}
    (hSub : Block.sub [.hosts] bs = true) (hOnly : Only bs s0 s) :
    Only bs s0 (ringPageWrite h off v s) := by
  unfold ringPageWrite
  with_reducible repeat' first
    | exact hOnly
    | refine setRing_only (via hSub) ?_
    | split

theorem hostWrite_only {bs : List Block} {s0 : State} {h : Fin 4} {off : Nat} {v : Word} {s : State}
    (hSub : Block.sub [.hosts] bs = true) (hOnly : Only bs s0 s) :
    Only bs s0 (hostWrite h off v s) := by
  unfold hostWrite
  with_reducible repeat' first
    | exact hOnly
    | refine ringPageWrite_only (via hSub) ?_
    | refine collarWrite_only (via hSub) ?_
    | refine Only.ite ?_ ?_

/-! ### Cfg -/

theorem postTab_only {bs : List Block} {s0 : State} {α : Type} [DecidableEq α] {d : α} {word : Nat → α → CtlWord} {cur new : List (Nat × α)} {s : State}
    (hSub : Block.sub [.cfg, .fab] bs = true) (hOnly : Only bs s0 s) :
    Only bs s0 (postTab d word cur new s) := by
  unfold postTab
  with_reducible repeat' first
    | assumption
    | refine postWord_only (via hSub) ?_
    | refine Only.ite ?_ ?_
    | refine Only.foldl (fun _ _ _ => ?_) ?_

theorem postWords_only {bs : List Block} {s0 : State} {new : BaseCfg} {s : State}
    (hSub : Block.sub [.cfg, .fab, .pwr] bs = true) (hOnly : Only bs s0 s) :
    Only bs s0 (postWords new s) := by
  unfold postWords
  with_reducible repeat' first
    | exact hOnly
    | assumption
    | refine postTab_only (via hSub) ?_
    | refine armRequest_only (via hSub) ?_ (fun _ _ => ?_)
    | refine postWord_only (via hSub) ?_
    | refine Only.ite ?_ ?_
    | refine Only.ite1 ?_ ?_
    | refine Only.ite2 ?_ ?_
    | refine Only.foldl (fun _ _ _ => ?_) ?_
    | refine Only.foldl1 (fun _ _ _ => ?_) ?_
    | refine Only.foldl2 (fun _ _ _ => ?_) ?_
    | refine Only.eq1 (by assumption) ?_
    | refine Only.eq2 (by assumption) ?_
    | refine OnlyOpt.get (by assumption) ?_
    | refine OnlyOptP.get (by assumption) ?_
    | refine OnlyEx.get (by assumption) ?_
    | refine OnlyExP.get (by assumption) ?_
    | split
    | dsimp only

theorem takePlc_only {bs : List Block} {s0 : State} {c : PlcCfg} {s : State}
    (hSub : Block.sub [.cfg, .hosts, .sched, .fab, .evt, .pwr, .pair] bs = true) (hOnly : Only bs s0 s) :
    Only bs s0 (takePlc c s) := by
  unfold takePlc
  with_reducible repeat' first
    | exact hOnly
    | assumption
    | refine armRequest_only (via hSub) ?_ (fun _ _ => ?_)
    | refine postWord_only (via hSub) ?_
    | refine placeMode_only (via hSub) ?_
    | refine Only.ite ?_ ?_
    | refine Only.ite1 ?_ ?_
    | refine Only.ite2 ?_ ?_
    | refine Only.getD ?_ ?_
    | refine Only.eq1 (by assumption) ?_
    | refine Only.eq2 (by assumption) ?_
    | refine OnlyOpt.get (by assumption) ?_
    | refine OnlyOptP.get (by assumption) ?_
    | refine OnlyEx.get (by assumption) ?_
    | refine OnlyExP.get (by assumption) ?_
    | split
    | dsimp only

theorem commitPort_only {bs : List Block} {s0 : State} {p mode : Nat} {s : State}
    (hSub : Block.sub [.cfg, .hosts, .time, .evt, .pwr, .sess, .upl] bs = true) (hOnly : Only bs s0 s) :
    Only bs s0 (commitPort p mode s) := by
  unfold commitPort
  with_reducible repeat' first
    | exact hOnly
    | refine endUp_only (via hSub) ?_
    | refine setLink_only (via hSub) ?_
    | refine beginTransit_only (via hSub) ?_
    | refine onCfg_only (viaOne hSub) ?_
    | refine Only.ite ?_ ?_

theorem takePorts_only {bs : List Block} {s0 : State} {l : List PortCfg} {s : State}
    (hSub : Block.sub [.cfg, .hosts, .time, .fab, .evt, .pwr, .sess, .upl] bs = true) (hOnly : Only bs s0 s) :
    Only bs s0 (takePorts l s) := by
  unfold takePorts
  with_reducible repeat' first
    | exact hOnly
    | assumption
    | refine commitPort_only (via hSub) ?_
    | refine armRequest_only (via hSub) ?_ (fun _ _ => ?_)
    | refine postWord_only (via hSub) ?_
    | refine Only.ite ?_ ?_
    | refine Only.ite1 ?_ ?_
    | refine Only.ite2 ?_ ?_
    | refine Only.getD ?_ ?_
    | refine Only.foldl (fun _ _ _ => ?_) ?_
    | refine Only.foldl1 (fun _ _ _ => ?_) ?_
    | refine Only.foldl2 (fun _ _ _ => ?_) ?_
    | refine Only.eq1 (by assumption) ?_
    | refine Only.eq2 (by assumption) ?_
    | refine OnlyOpt.get (by assumption) ?_
    | refine OnlyOptP.get (by assumption) ?_
    | refine OnlyEx.get (by assumption) ?_
    | refine OnlyExP.get (by assumption) ?_
    | split
    | dsimp only

theorem takePulses_only {bs : List Block} {s0 : State} {l : List PulseCfg} {s : State}
    (hSub : Block.sub [.reg] bs = true) (hOnly : Only bs s0 s) :
    Only bs s0 (takePulses l s) := by
  unfold takePulses
  with_reducible repeat' first
    | assumption
    | refine onPulse_only (via hSub) ?_
    | refine Only.ite ?_ ?_
    | refine Only.foldl (fun _ _ _ => ?_) ?_

theorem replaceSeries_only {bs : List Block} {s0 : State} {o n : BaseCfg} {s : State}
    (hSub : Block.sub [.hosts, .sched, .evt, .pair] bs = true) (hOnly : Only bs s0 s) :
    Only bs s0 (replaceSeries o n s) := by
  unfold replaceSeries
  with_reducible repeat' first
    | exact hOnly
    | assumption
    | refine placeSeries_only (via hSub) ?_
    | refine Only.ite ?_ ?_
    | refine Only.ite1 ?_ ?_
    | refine Only.ite2 ?_ ?_
    | refine Only.foldl (fun _ _ _ => ?_) ?_
    | refine Only.foldl1 (fun _ _ _ => ?_) ?_
    | refine Only.foldl2 (fun _ _ _ => ?_) ?_
    | refine Only.eq1 (by assumption) ?_
    | refine Only.eq2 (by assumption) ?_
    | refine OnlyOpt.get (by assumption) ?_
    | refine OnlyOptP.get (by assumption) ?_
    | refine OnlyEx.get (by assumption) ?_
    | refine OnlyExP.get (by assumption) ?_
    | split
    | dsimp only

theorem retariff_only {bs : List Block} {s0 : State} {o n : BaseCfg} {s : State}
    (hSub : Block.sub [.fab, .reg] bs = true) (hOnly : Only bs s0 s) :
    Only bs s0 (retariff o n s) := by
  unfold retariff
  with_reducible repeat' first
    | exact hOnly
    | refine commitRate_only (via hSub) ?_
    | refine onReg_only (viaOne hSub) ?_
    | refine Only.ite ?_ ?_

theorem takeSettings_only {bs : List Block} {s0 : State} {full : Bool} {e : BaseCfg} {s : State}
    (hSub : Block.sub [.cfg, .hosts, .sched, .time, .fab, .evt, .pwr, .sess, .bal, .upl, .pair, .reg] bs = true) (hOnly : Only bs s0 s) :
    Only bs s0 (takeSettings full e s) := by
  unfold takeSettings
  with_reducible repeat' first
    | exact hOnly
    | assumption
    | refine retariff_only (via hSub) ?_
    | refine replaceSeries_only (via hSub) ?_
    | refine takePulses_only (via hSub) ?_
    | refine takePorts_only (via hSub) ?_
    | refine takePlc_only (via hSub) ?_
    | refine postWords_only (via hSub) ?_
    | refine restartWindows_only (via hSub) ?_
    | refine onCfg_only (viaOne hSub) ?_
    | refine Only.ite ?_ ?_
    | refine Only.ite1 ?_ ?_
    | refine Only.ite2 ?_ ?_
    | refine Only.eq1 (by assumption) ?_
    | refine Only.eq2 (by assumption) ?_
    | refine OnlyOpt.get (by assumption) ?_
    | refine OnlyOptP.get (by assumption) ?_
    | refine OnlyEx.get (by assumption) ?_
    | refine OnlyExP.get (by assumption) ?_
    | split
    | dsimp only

theorem putOverlay_only {bs : List Block} {s0 : State} {selected n key : Nat} {full : Bool} {s : State}
    (hSub : Block.sub [.cfg, .hosts, .sched, .time, .fab, .evt, .pwr, .sess, .bal, .upl, .pair, .reg] bs = true) (hOnly : Only bs s0 s) :
    Only bs s0 (putOverlay selected n key full s) := by
  unfold putOverlay
  with_reducible repeat' first
    | exact hOnly
    | refine takeSettings_only (via hSub) ?_
    | refine onCfg_only (viaOne hSub) ?_
    | split

theorem cfgStatus_only {bs : List Block} {s0 : State} {h : Fin 4} {tk : Taken} {s : State}
    (hSub : Block.sub [] bs = true) (hOnly : Only bs s0 s) :
    Only bs s0 (cfgStatus h tk s).1 := by
  unfold cfgStatus
  with_reducible repeat' first
    | exact hOnly

theorem cfgLoad_only {bs : List Block} {s0 : State} {h : Fin 4} {t : Taken} {s : State}
    (hSub : Block.sub [.cfg] bs = true) (hOnly : Only bs s0 s) :
    Only bs s0 (cfgLoad h t s).1 := by
  unfold cfgLoad
  with_reducible repeat' first
    | exact hOnly
    | refine onCfg_only (viaOne hSub) ?_
    | split
    | dsimp only

theorem cfgApply_only {bs : List Block} {s0 : State} {h : Fin 4} {image : CfgImage} {t : Taken} {s : State}
    (hSub : Block.sub [.cfg, .hosts] bs = true) (hOnly : Only bs s0 s) :
    Only bs s0 (cfgApply h image t s).1 := by
  unfold cfgApply
  with_reducible repeat' first
    | exact hOnly
    | refine setSticky_only (via hSub) ?_
    | refine onCfg_only (viaOne hSub) ?_
    | split
    | dsimp only

theorem moveStore_only {bs : List Block} {s0 : State} {j : CfgJob} {s : State}
    (hSub : Block.sub [.cfg] bs = true) (hOnly : Only bs s0 s) :
    Only bs s0 (moveStore j s) := by
  unfold moveStore
  with_reducible repeat' first
    | exact hOnly
    | refine onCfg_only (viaOne hSub) ?_

theorem cfgOverlay_only {bs : List Block} {s0 : State} {t : Taken} {s : State}
    (hSub : Block.sub [.cfg, .hosts, .sched, .evt, .pair] bs = true) (hOnly : Only bs s0 s) :
    Only bs s0 (cfgOverlay t s).1 := by
  unfold cfgOverlay
  with_reducible repeat' first
    | exact hOnly
    | refine placeOverlay_only (via hSub) ?_
    | split
    | dsimp only

theorem cfgSchema_only {bs : List Block} {s0 : State} {t : Taken} {s : State} (hSub : Block.sub [] bs = true) (hOnly : Only bs s0 s) :
    Only bs s0 (cfgSchema t s).1 := by
  unfold cfgSchema
  with_reducible repeat' first
    | exact hOnly
    | split
    | dsimp only

theorem cfgFuses_only {bs : List Block} {s0 : State} {tk : Taken} {s : State} (hSub : Block.sub [] bs = true) (hOnly : Only bs s0 s) :
    Only bs s0 (cfgFuses tk s).1 := by
  unfold cfgFuses
  with_reducible repeat' first
    | exact hOnly

/-! ### Stop -/

theorem endRun_only {bs : List Block} {s0 : State} {loss saved : Bool} {s : State}
    (hSub : Block.sub [.pwr] bs = true) (hOnly : Only bs s0 s) :
    Only bs s0 (endRun loss saved s) := by
  unfold endRun
  with_reducible repeat' first
    | exact hOnly
    | refine onPwr_only (viaOne hSub) ?_
    | refine Only.ite ?_ ?_

theorem stopHosts_only {bs : List Block} {s0 : State} {s : State}
    (hSub : Block.sub [.cfg, .hosts, .evt, .pocket] bs = true) (hOnly : Only bs s0 s) :
    Only bs s0 (stopHosts s) := by
  unfold stopHosts
  with_reducible repeat' first
    | assumption
    | refine goOffline_only (via hSub) ?_
    | refine onHosts_only (viaOne hSub) ?_
    | refine Only.foldl (fun _ _ _ => ?_) ?_

theorem stopSched_only {bs : List Block} {s0 : State} {s : State} (hSub : Block.sub [.sched] bs = true) (hOnly : Only bs s0 s) :
    Only bs s0 (stopSched s) := by
  unfold stopSched
  with_reducible repeat' first
    | exact hOnly
    | assumption
    | refine onSched_only (viaOne hSub) ?_
    | refine Only.ite ?_ ?_
    | refine Only.ite1 ?_ ?_
    | refine Only.ite2 ?_ ?_
    | refine Only.eq1 (by assumption) ?_
    | refine Only.eq2 (by assumption) ?_
    | refine OnlyOpt.get (by assumption) ?_
    | refine OnlyOptP.get (by assumption) ?_
    | refine OnlyEx.get (by assumption) ?_
    | refine OnlyExP.get (by assumption) ?_
    | split
    | dsimp only

theorem stopEvt_only {bs : List Block} {s0 : State} {s : State} (hSub : Block.sub [.evt] bs = true) (hOnly : Only bs s0 s) :
    Only bs s0 (stopEvt s) := by
  unfold stopEvt
  with_reducible repeat' first
    | exact hOnly
    | assumption
    | refine onEvt_only (viaOne hSub) ?_
    | refine Only.ite ?_ ?_
    | refine Only.ite1 ?_ ?_
    | refine Only.ite2 ?_ ?_
    | refine Only.eq1 (by assumption) ?_
    | refine Only.eq2 (by assumption) ?_
    | refine OnlyOpt.get (by assumption) ?_
    | refine OnlyOptP.get (by assumption) ?_
    | refine OnlyEx.get (by assumption) ?_
    | refine OnlyExP.get (by assumption) ?_
    | split
    | dsimp only

theorem stopTime_only {bs : List Block} {s0 : State} {s : State} (hSub : Block.sub [.time] bs = true) (hOnly : Only bs s0 s) :
    Only bs s0 (stopTime s) := by
  unfold stopTime
  with_reducible repeat' first
    | exact hOnly
    | assumption
    | refine onTime_only (viaOne hSub) ?_
    | refine Only.ite ?_ ?_
    | refine Only.ite1 ?_ ?_
    | refine Only.ite2 ?_ ?_
    | refine Only.eq1 (by assumption) ?_
    | refine Only.eq2 (by assumption) ?_
    | refine OnlyOpt.get (by assumption) ?_
    | refine OnlyOptP.get (by assumption) ?_
    | refine OnlyEx.get (by assumption) ?_
    | refine OnlyExP.get (by assumption) ?_
    | split
    | dsimp only

theorem stopFab_only {bs : List Block} {s0 : State} {s : State} (hSub : Block.sub [.fab] bs = true) (hOnly : Only bs s0 s) :
    Only bs s0 (stopFab s) := by
  unfold stopFab
  with_reducible repeat' first
    | exact hOnly
    | assumption
    | refine onFab_only (viaOne hSub) ?_
    | refine Only.ite ?_ ?_
    | refine Only.ite1 ?_ ?_
    | refine Only.ite2 ?_ ?_
    | refine Only.eq1 (by assumption) ?_
    | refine Only.eq2 (by assumption) ?_
    | refine OnlyOpt.get (by assumption) ?_
    | refine OnlyOptP.get (by assumption) ?_
    | refine OnlyEx.get (by assumption) ?_
    | refine OnlyExP.get (by assumption) ?_
    | split
    | dsimp only

theorem stopLinks_only {bs : List Block} {s0 : State} {s : State}
    (hSub : Block.sub [.rad, .link, .plc] bs = true) (hOnly : Only bs s0 s) :
    Only bs s0 (stopLinks s) := by
  unfold stopLinks
  with_reducible repeat' first
    | exact hOnly
    | refine onLink_only (viaOne hSub) ?_
    | refine onPlc_only (viaOne hSub) ?_
    | refine onRad_only (viaOne hSub) ?_

theorem stopIngest_only {bs : List Block} {s0 : State} {s : State}
    (hSub : Block.sub [.sess, .vee, .bal] bs = true) (hOnly : Only bs s0 s) :
    Only bs s0 (stopIngest s) := by
  unfold stopIngest
  with_reducible repeat' first
    | exact hOnly
    | assumption
    | refine onBal_only (viaOne hSub) ?_
    | refine onSess_only (viaOne hSub) ?_
    | refine onVee_only (viaOne hSub) ?_
    | refine Only.ite ?_ ?_
    | refine Only.ite1 ?_ ?_
    | refine Only.ite2 ?_ ?_
    | refine Only.eq1 (by assumption) ?_
    | refine Only.eq2 (by assumption) ?_
    | refine OnlyOpt.get (by assumption) ?_
    | refine OnlyOptP.get (by assumption) ?_
    | refine OnlyEx.get (by assumption) ?_
    | refine OnlyExP.get (by assumption) ?_
    | split
    | dsimp only

theorem stopArch_only {bs : List Block} {s0 : State} {s : State} (hSub : Block.sub [.arch] bs = true) (hOnly : Only bs s0 s) :
    Only bs s0 (stopArch s) := by
  unfold stopArch
  with_reducible repeat' first
    | exact hOnly
    | assumption
    | refine onArch_only (viaOne hSub) ?_
    | refine Only.ite ?_ ?_
    | refine Only.ite1 ?_ ?_
    | refine Only.ite2 ?_ ?_
    | refine Only.eq1 (by assumption) ?_
    | refine Only.eq2 (by assumption) ?_
    | refine OnlyOpt.get (by assumption) ?_
    | refine OnlyOptP.get (by assumption) ?_
    | refine OnlyEx.get (by assumption) ?_
    | refine OnlyExP.get (by assumption) ?_
    | split
    | dsimp only

theorem stopUpl_only {bs : List Block} {s0 : State} {s : State} (hSub : Block.sub [.upl] bs = true) (hOnly : Only bs s0 s) :
    Only bs s0 (stopUpl s) := by
  unfold stopUpl
  with_reducible repeat' first
    | exact hOnly
    | refine onUpl_only (viaOne hSub) ?_

theorem stopStores_only {bs : List Block} {s0 : State} {s : State}
    (hSub : Block.sub [.cfg, .pocket, .fwu] bs = true) (hOnly : Only bs s0 s) :
    Only bs s0 (stopStores s) := by
  unfold stopStores
  with_reducible repeat' first
    | exact hOnly
    | refine onCfg_only (viaOne hSub) ?_
    | refine onFwu_only (viaOne hSub) ?_
    | refine onPocket_only (viaOne hSub) ?_

theorem stopReg_only {bs : List Block} {s0 : State} {s : State} (hSub : Block.sub [.met, .reg] bs = true) (hOnly : Only bs s0 s) :
    Only bs s0 (stopReg s) := by
  unfold stopReg
  with_reducible repeat' first
    | exact hOnly
    | assumption
    | refine onMet_only (viaOne hSub) ?_
    | refine onReg_only (viaOne hSub) ?_
    | refine Only.ite ?_ ?_
    | refine Only.ite1 ?_ ?_
    | refine Only.ite2 ?_ ?_
    | refine Only.eq1 (by assumption) ?_
    | refine Only.eq2 (by assumption) ?_
    | refine OnlyOpt.get (by assumption) ?_
    | refine OnlyOptP.get (by assumption) ?_
    | refine OnlyEx.get (by assumption) ?_
    | refine OnlyExP.get (by assumption) ?_
    | split
    | dsimp only

theorem clearLogic_only {bs : List Block} {s0 : State} {s : State}
    (hSub : Block.sub [.cfg, .hosts, .sched, .time, .fab, .evt, .met, .rad, .link, .plc, .sess, .vee, .bal, .arch, .upl, .pocket, .fwu, .reg] bs = true)
    (hOnly : Only bs s0 s) :
    Only bs s0 (clearLogic s) := by
  unfold clearLogic
  with_reducible repeat' first
    | exact hOnly
    | refine stopReg_only (via hSub) ?_
    | refine stopStores_only (via hSub) ?_
    | refine stopUpl_only (via hSub) ?_
    | refine stopArch_only (via hSub) ?_
    | refine stopIngest_only (via hSub) ?_
    | refine stopLinks_only (via hSub) ?_
    | refine stopFab_only (via hSub) ?_
    | refine stopTime_only (via hSub) ?_
    | refine stopEvt_only (via hSub) ?_
    | refine stopSched_only (via hSub) ?_
    | refine stopHosts_only (via hSub) ?_

theorem stopLogic_only {bs : List Block} {s0 : State} {s : State}
    (hSub : Block.sub [.cfg, .hosts, .sched, .time, .fab, .evt, .pwr, .met, .rad, .link, .plc, .sess, .vee, .bal, .arch, .upl, .pocket, .fwu, .reg] bs = true)
    (hOnly : Only bs s0 s) :
    Only bs s0 (stopLogic s) := by
  unfold stopLogic
  with_reducible repeat' first
    | exact hOnly
    | assumption
    | refine clearLogic_only (via hSub) ?_
    | refine silence_only (via hSub) ?_
    | refine muteDriver_only (via hSub) ?_
    | refine abortSession_only (via hSub) ?_
    | refine onFab_only (viaOne hSub) ?_
    | refine onMet_only (viaOne hSub) ?_
    | refine onPwr_only (viaOne hSub) ?_
    | refine Only.ite ?_ ?_
    | refine Only.ite1 ?_ ?_
    | refine Only.ite2 ?_ ?_
    | refine Only.getD ?_ ?_
    | refine Only.eq1 (by assumption) ?_
    | refine Only.eq2 (by assumption) ?_
    | refine OnlyOpt.get (by assumption) ?_
    | refine OnlyOptP.get (by assumption) ?_
    | refine OnlyEx.get (by assumption) ?_
    | refine OnlyExP.get (by assumption) ?_
    | split
    | dsimp only

/-! ### Boot -/

theorem islandStart_only {bs : List Block} {s0 : State} {s : State}
    (hSub : Block.sub [.hosts, .mains, .time, .fab, .evt, .pwr, .met, .arch, .reg] bs = true) (hOnly : Only bs s0 s) :
    Only bs s0 (islandStart s) := by
  unfold islandStart
  with_reducible repeat' first
    | exact hOnly
    | assumption
    | refine onArch_only (viaOne hSub) ?_
    | refine onEvt_only (viaOne hSub) ?_
    | refine onFab_only (viaOne hSub) ?_
    | refine onHosts_only (viaOne hSub) ?_
    | refine onMains_only (viaOne hSub) ?_
    | refine onMet_only (viaOne hSub) ?_
    | refine onPwr_only (viaOne hSub) ?_
    | refine onReg_only (viaOne hSub) ?_
    | refine onTime_only (viaOne hSub) ?_
    | refine Only.ite ?_ ?_
    | refine Only.ite1 ?_ ?_
    | refine Only.ite2 ?_ ?_
    | refine Only.eq1 (by assumption) ?_
    | refine Only.eq2 (by assumption) ?_
    | refine OnlyOpt.get (by assumption) ?_
    | refine OnlyOptP.get (by assumption) ?_
    | refine OnlyEx.get (by assumption) ?_
    | refine OnlyExP.get (by assumption) ?_
    | split
    | dsimp only

theorem beginRun_only {bs : List Block} {s0 : State} {s : State}
    (hSub : Block.sub [.hosts, .fab, .evt, .pwr, .met] bs = true) (hOnly : Only bs s0 s) :
    Only bs s0 (beginRun s) := by
  unfold beginRun
  with_reducible repeat' first
    | exact hOnly
    | assumption
    | refine seamComesUp_only (via hSub) ?_
    | refine logicHears_only (via hSub) ?_
    | refine deliverRegisters_only (via hSub) ?_
    | refine deliverCalImage_only (via hSub) ?_
    | refine onPwr_only (viaOne hSub) ?_
    | refine Only.ite ?_ ?_
    | refine Only.ite1 ?_ ?_
    | refine Only.ite2 ?_ ?_
    | refine Only.eq1 (by assumption) ?_
    | refine Only.eq2 (by assumption) ?_
    | refine OnlyOpt.get (by assumption) ?_
    | refine OnlyOptP.get (by assumption) ?_
    | refine OnlyEx.get (by assumption) ?_
    | refine OnlyExP.get (by assumption) ?_
    | split
    | dsimp only

theorem parkUnsaved_only {bs : List Block} {s0 : State} {s : State} (hSub : Block.sub [.pwr] bs = true) (hOnly : Only bs s0 s) :
    Only bs s0 (parkUnsaved s) := by
  unfold parkUnsaved
  with_reducible repeat' first
    | exact hOnly
    | refine onPwr_only (viaOne hSub) ?_

theorem enterStep_only {bs : List Block} {s0 : State} {n : Nat} {s : State} (hSub : Block.sub [.pwr] bs = true) (hOnly : Only bs s0 s) :
    Only bs s0 (enterStep n s) := by
  unfold enterStep
  with_reducible repeat' first
    | exact hOnly
    | refine onPwr_only (viaOne hSub) ?_

theorem chooseRoot_only {bs : List Block} {s0 : State} {s : State} (hSub : Block.sub [.pocket] bs = true) (hOnly : Only bs s0 s) :
    Only bs s0 (chooseRoot s) := by
  unfold chooseRoot
  with_reducible repeat' first
    | exact hOnly
    | assumption
    | refine onPocket_only (viaOne hSub) ?_
    | refine Only.ite ?_ ?_
    | refine Only.ite1 ?_ ?_
    | refine Only.ite2 ?_ ?_
    | refine Only.eq1 (by assumption) ?_
    | refine Only.eq2 (by assumption) ?_
    | refine OnlyOpt.get (by assumption) ?_
    | refine OnlyOptP.get (by assumption) ?_
    | refine OnlyEx.get (by assumption) ?_
    | refine OnlyExP.get (by assumption) ?_
    | split
    | dsimp only

theorem writeStart_only {bs : List Block} {s0 : State} {cause : Nat} {s : State}
    (hSub : Block.sub [.hosts, .evt, .free] bs = true) (hOnly : Only bs s0 s) :
    Only bs s0 (writeStart cause s) := by
  unfold writeStart
  with_reducible repeat' first
    | exact hOnly
    | refine judgeEvent_only (via hSub) ?_

theorem bootStage_only {bs : List Block} {s0 : State} {v : BootView} {s : State}
    (hSub : Block.sub [.hosts, .evt, .fwu] bs = true) (hOnly : Only bs s0 s) :
    Only bs s0 (bootStage v s).1 := by
  unfold bootStage
  with_reducible repeat' first
    | exact hOnly
    | assumption
    | refine dropBelowFloor_only (via hSub) ?_
    | refine endCopy_only (via hSub) ?_
    | refine copyTo_only (via hSub) ?_
    | refine beginCopy_only (via hSub) ?_
    | refine onFwu_only (viaOne hSub) ?_
    | refine Only.ite ?_ ?_
    | refine Only.ite1 ?_ ?_
    | refine Only.ite2 ?_ ?_
    | refine Only.eq1 (by assumption) ?_
    | refine Only.eq2 (by assumption) ?_
    | refine OnlyOpt.get (by assumption) ?_
    | refine OnlyOptP.get (by assumption) ?_
    | refine OnlyEx.get (by assumption) ?_
    | refine OnlyExP.get (by assumption) ?_
    | split
    | dsimp only

theorem bindHosts_only {bs : List Block} {s0 : State} {hosts : List HostCfg} {rings : List RingCfg} {s : State}
    (hSub : Block.sub [.hosts] bs = true) (hOnly : Only bs s0 s) :
    Only bs s0 (bindHosts hosts rings s) := by
  unfold bindHosts
  with_reducible repeat' first
    | exact hOnly
    | refine onHosts_only (viaOne hSub) ?_

theorem enterRecovery_only {bs : List Block} {s0 : State} {reason : Nat} {s : State}
    (hSub : Block.sub [.cfg, .hosts, .pwr, .fwu] bs = true) (hOnly : Only bs s0 s) :
    Only bs s0 (enterRecovery reason s) := by
  unfold enterRecovery
  with_reducible repeat' first
    | exact hOnly
    | refine bindHosts_only (via hSub) ?_
    | refine freeEdge_only (via hSub) ?_
    | refine onCfg_only (viaOne hSub) ?_
    | refine onFwu_only (viaOne hSub) ?_
    | refine onPwr_only (viaOne hSub) ?_

theorem startPulses_only {bs : List Block} {s0 : State} {o n : BaseCfg} {s : State}
    (hSub : Block.sub [.cfg, .reg] bs = true) (hOnly : Only bs s0 s) :
    Only bs s0 (startPulses o n s) := by
  unfold startPulses
  with_reducible repeat' first
    | assumption
    | refine applyPulseCfg_only (via hSub) ?_
    | refine onPulse_only (via hSub) ?_
    | refine Only.ite ?_ ?_
    | refine Only.foldl (fun _ _ _ => ?_) ?_

theorem useImage_only {bs : List Block} {s0 : State} {i : Option CfgImage} {s : State}
    (hSub : Block.sub [.cfg, .hosts, .fab, .evt, .sess, .reg] bs = true) (hOnly : Only bs s0 s) :
    Only bs s0 (useImage i s) := by
  unfold useImage
  with_reducible repeat' first
    | exact hOnly
    | assumption
    | refine startPulses_only (via hSub) ?_
    | refine bindHosts_only (via hSub) ?_
    | refine retariff_only (via hSub) ?_
    | refine sendMetro_only (via hSub) ?_
    | refine onCfg_only (viaOne hSub) ?_
    | refine onEvt_only (viaOne hSub) ?_
    | refine onFab_only (viaOne hSub) ?_
    | refine onReg_only (viaOne hSub) ?_
    | refine onSess_only (viaOne hSub) ?_
    | refine Only.ite ?_ ?_
    | refine Only.ite1 ?_ ?_
    | refine Only.ite2 ?_ ?_
    | refine Only.getD ?_ ?_
    | refine Only.eq1 (by assumption) ?_
    | refine Only.eq2 (by assumption) ?_
    | refine OnlyOpt.get (by assumption) ?_
    | refine OnlyOptP.get (by assumption) ?_
    | refine OnlyEx.get (by assumption) ?_
    | refine OnlyExP.get (by assumption) ?_
    | split
    | dsimp only

theorem loadPlan_only {bs : List Block} {s0 : State} {s : State}
    (hSub : Block.sub [.hosts, .fab, .evt] bs = true) (hOnly : Only bs s0 s) :
    Only bs s0 (loadPlan s) := by
  unfold loadPlan
  with_reducible repeat' first
    | exact hOnly
    | assumption
    | refine setAlarm_only (via hSub) ?_
    | refine raise_only (via hSub) ?_
    | refine onFab_only (viaOne hSub) ?_
    | refine Only.ite ?_ ?_
    | refine Only.ite1 ?_ ?_
    | refine Only.ite2 ?_ ?_
    | refine Only.eq1 (by assumption) ?_
    | refine Only.eq2 (by assumption) ?_
    | refine OnlyOpt.get (by assumption) ?_
    | refine OnlyOptP.get (by assumption) ?_
    | refine OnlyEx.get (by assumption) ?_
    | refine OnlyExP.get (by assumption) ?_
    | split
    | dsimp only

theorem verifySeals_only {bs : List Block} {s0 : State} {bad : List Nat} {s : State}
    (hSub : Block.sub [.pocket] bs = true) (hOnly : Only bs s0 s) :
    Only bs s0 (verifySeals bad s) := by
  unfold verifySeals
  with_reducible repeat' first
    | exact hOnly
    | refine onPocket_only (viaOne hSub) ?_

theorem restartSources_only {bs : List Block} {s0 : State} {s : State}
    (hSub : Block.sub [.hosts, .time, .evt] bs = true) (hOnly : Only bs s0 s) :
    Only bs s0 (restartSources s) := by
  unfold restartSources
  with_reducible repeat' first
    | exact hOnly
    | assumption
    | refine loseSource_only (via hSub) ?_
    | refine onTime_only (viaOne hSub) ?_
    | refine Only.ite ?_ ?_
    | refine Only.ite1 ?_ ?_
    | refine Only.ite2 ?_ ?_
    | refine Only.eq1 (by assumption) ?_
    | refine Only.eq2 (by assumption) ?_
    | refine OnlyOpt.get (by assumption) ?_
    | refine OnlyOptP.get (by assumption) ?_
    | refine OnlyEx.get (by assumption) ?_
    | refine OnlyExP.get (by assumption) ?_
    | split
    | dsimp only

theorem closeForRestart_only {bs : List Block} {s0 : State} {s : State}
    (hSub : Block.sub [.mains, .arch] bs = true) (hOnly : Only bs s0 s) :
    Only bs s0 (closeForRestart s) := by
  unfold closeForRestart
  with_reducible repeat' first
    | exact hOnly
    | refine closeSegment_only (via hSub) ?_
    | refine onMains_only (viaOne hSub) ?_

theorem loadConfig_only {bs : List Block} {s0 : State} {cold : Bool} {v : BootView} {s : State}
    (hSub : Block.sub [.cfg, .hosts, .mains, .time, .fab, .evt, .sess, .arch, .pocket, .reg] bs = true) (hOnly : Only bs s0 s) :
    Only bs s0 (loadConfig cold v s) := by
  unfold loadConfig
  with_reducible repeat' first
    | exact hOnly
    | assumption
    | refine closeForRestart_only (via hSub) ?_
    | refine restartSources_only (via hSub) ?_
    | refine verifySeals_only (via hSub) ?_
    | refine loadPlan_only (via hSub) ?_
    | refine useImage_only (via hSub) ?_
    | refine moveStore_only (via hSub) ?_
    | refine raise_only (via hSub) ?_
    | refine setSticky_only (via hSub) ?_
    | refine onMains_only (viaOne hSub) ?_
    | refine Only.ite ?_ ?_
    | refine Only.ite1 ?_ ?_
    | refine Only.ite2 ?_ ?_
    | refine Only.eq1 (by assumption) ?_
    | refine Only.eq2 (by assumption) ?_
    | refine OnlyOpt.get (by assumption) ?_
    | refine OnlyOptP.get (by assumption) ?_
    | refine OnlyEx.get (by assumption) ?_
    | refine OnlyExP.get (by assumption) ?_
    | split
    | dsimp only

theorem restoreSched_only {bs : List Block} {s0 : State} {s : State}
    (hSub : Block.sub [.hosts, .sched, .evt, .pair, .reg] bs = true) (hOnly : Only bs s0 s) :
    Only bs s0 (restoreSched s) := by
  unfold restoreSched
  with_reducible repeat' first
    | exact hOnly
    | assumption
    | refine placeAllSeries_only (via hSub) ?_
    | refine placeOr_only (via hSub) ?_
    | refine onReg_only (viaOne hSub) ?_
    | refine onSched_only (viaOne hSub) ?_
    | refine Only.ite ?_ ?_
    | refine Only.ite1 ?_ ?_
    | refine Only.ite2 ?_ ?_
    | refine Only.foldl (fun _ _ _ => ?_) ?_
    | refine Only.foldl1 (fun _ _ _ => ?_) ?_
    | refine Only.foldl2 (fun _ _ _ => ?_) ?_
    | refine Only.eq1 (by assumption) ?_
    | refine Only.eq2 (by assumption) ?_
    | refine OnlyOpt.get (by assumption) ?_
    | refine OnlyOptP.get (by assumption) ?_
    | refine OnlyEx.get (by assumption) ?_
    | refine OnlyExP.get (by assumption) ?_
    | split
    | dsimp only

theorem restoreSaved_only {bs : List Block} {s0 : State} {s : State}
    (hSub : Block.sub [.rad, .link, .reg] bs = true) (hOnly : Only bs s0 s) :
    Only bs s0 (restoreSaved s) := by
  unfold restoreSaved
  with_reducible repeat' first
    | exact hOnly
    | refine onLink_only (viaOne hSub) ?_
    | refine onRad_only (viaOne hSub) ?_
    | refine onReg_only (viaOne hSub) ?_
    | refine Only.ite ?_ ?_

theorem scanArchive_only {bs : List Block} {s0 : State} {ms : Nat} {unverified unreadable : List Nat} {s : State}
    (hSub : Block.sub [.hosts, .mains, .evt, .sess, .vee, .bal, .arch, .upl] bs = true) (hOnly : Only bs s0 s) :
    Only bs s0 (scanArchive ms unverified unreadable s) := by
  unfold scanArchive
  with_reducible repeat' first
    | exact hOnly
    | assumption
    | refine commitPage_only (via hSub) ?_
    | refine onArch_only (viaOne hSub) ?_
    | refine onBal_only (viaOne hSub) ?_
    | refine onEvt_only (viaOne hSub) ?_
    | refine onMains_only (viaOne hSub) ?_
    | refine Only.ite ?_ ?_
    | refine Only.ite1 ?_ ?_
    | refine Only.ite2 ?_ ?_
    | refine Only.foldl (fun _ _ _ => ?_) ?_
    | refine Only.foldl1 (fun _ _ _ => ?_) ?_
    | refine Only.foldl2 (fun _ _ _ => ?_) ?_
    | refine Only.eq1 (by assumption) ?_
    | refine Only.eq2 (by assumption) ?_
    | refine OnlyOpt.get (by assumption) ?_
    | refine OnlyOptP.get (by assumption) ?_
    | refine OnlyEx.get (by assumption) ?_
    | refine OnlyExP.get (by assumption) ?_
    | split
    | dsimp only

theorem startArchive_only {bs : List Block} {s0 : State} {ms : Nat} {unverified unreadable : List Nat} {s : State}
    (hSub : Block.sub [.hosts, .mains, .evt, .sess, .vee, .bal, .arch, .upl] bs = true) (hOnly : Only bs s0 s) :
    Only bs s0 (startArchive ms unverified unreadable s) := by
  unfold startArchive
  with_reducible repeat' first
    | exact hOnly
    | assumption
    | refine scanArchive_only (via hSub) ?_
    | refine startFormat_only (via hSub) ?_
    | refine setAlarm_only (via hSub) ?_
    | refine raise_only (via hSub) ?_
    | refine onArch_only (viaOne hSub) ?_
    | refine Only.ite ?_ ?_
    | refine Only.ite1 ?_ ?_
    | refine Only.ite2 ?_ ?_
    | refine Only.eq1 (by assumption) ?_
    | refine Only.eq2 (by assumption) ?_
    | refine OnlyOpt.get (by assumption) ?_
    | refine OnlyOptP.get (by assumption) ?_
    | refine OnlyEx.get (by assumption) ?_
    | refine OnlyExP.get (by assumption) ?_
    | split
    | dsimp only

theorem loadContexts_only {bs : List Block} {s0 : State} {unverified : List Nat} {s : State}
    (hSub : Block.sub [.hosts, .evt, .sess, .vee] bs = true) (hOnly : Only bs s0 s) :
    Only bs s0 (loadContexts unverified s) := by
  unfold loadContexts
  with_reducible repeat' first
    | exact hOnly
    | assumption
    | refine raise_only (via hSub) ?_
    | refine onSess_only (viaOne hSub) ?_
    | refine onVee_only (viaOne hSub) ?_
    | refine Only.ite ?_ ?_
    | refine Only.ite1 ?_ ?_
    | refine Only.ite2 ?_ ?_
    | refine Only.foldl (fun _ _ _ => ?_) ?_
    | refine Only.foldl1 (fun _ _ _ => ?_) ?_
    | refine Only.foldl2 (fun _ _ _ => ?_) ?_
    | refine Only.eq1 (by assumption) ?_
    | refine Only.eq2 (by assumption) ?_
    | refine OnlyOpt.get (by assumption) ?_
    | refine OnlyOptP.get (by assumption) ?_
    | refine OnlyEx.get (by assumption) ?_
    | refine OnlyExP.get (by assumption) ?_
    | split
    | dsimp only

theorem loadBalance_only {bs : List Block} {s0 : State} {unverified : List Nat} {s : State}
    (hSub : Block.sub [.hosts, .bal] bs = true) (hOnly : Only bs s0 s) :
    Only bs s0 (loadBalance unverified s) := by
  unfold loadBalance
  with_reducible repeat' first
    | exact hOnly
    | assumption
    | refine setSticky_only (via hSub) ?_
    | refine onBal_only (viaOne hSub) ?_
    | refine Only.ite ?_ ?_
    | refine Only.ite1 ?_ ?_
    | refine Only.ite2 ?_ ?_
    | refine Only.getD ?_ ?_
    | refine Only.eq1 (by assumption) ?_
    | refine Only.eq2 (by assumption) ?_
    | refine OnlyOpt.get (by assumption) ?_
    | refine OnlyOptP.get (by assumption) ?_
    | refine OnlyEx.get (by assumption) ?_
    | refine OnlyExP.get (by assumption) ?_
    | split
    | dsimp only

theorem loadFleet_only {bs : List Block} {s0 : State} {unverified : List Nat} {s : State}
    (hSub : Block.sub [.hosts, .evt, .sess, .arch, .fleet, .pair] bs = true) (hOnly : Only bs s0 s) :
    Only bs s0 (loadFleet unverified s) := by
  unfold loadFleet
  with_reducible repeat' first
    | exact hOnly
    | assumption
    | refine attemptFailed_only (via hSub) ?_
    | refine endOrphans_only (via hSub) ?_
    | refine storePage_only (via hSub) ?_
    | refine onFleet_only (viaOne hSub) ?_
    | refine Only.ite ?_ ?_
    | refine Only.ite1 ?_ ?_
    | refine Only.ite2 ?_ ?_
    | refine Only.foldl (fun _ _ _ => ?_) ?_
    | refine Only.foldl1 (fun _ _ _ => ?_) ?_
    | refine Only.foldl2 (fun _ _ _ => ?_) ?_
    | refine Only.eq1 (by assumption) ?_
    | refine Only.eq2 (by assumption) ?_
    | refine OnlyOpt.get (by assumption) ?_
    | refine OnlyOptP.get (by assumption) ?_
    | refine OnlyEx.get (by assumption) ?_
    | refine OnlyExP.get (by assumption) ?_
    | split
    | dsimp only

theorem startPair_only {bs : List Block} {s0 : State} {s : State}
    (hSub : Block.sub [.hosts, .sched, .evt, .pair] bs = true) (hOnly : Only bs s0 s) :
    Only bs s0 (startPair s) := by
  unfold startPair
  with_reducible repeat' first
    | exact hOnly
    | refine placeOr_only (via hSub) ?_
    | refine onPair_only (viaOne hSub) ?_
    | refine Only.ite ?_ ?_

theorem startRadios_only {bs : List Block} {s0 : State} {s : State}
    (hSub : Block.sub [.pwr, .rad, .plc] bs = true) (hOnly : Only bs s0 s) :
    Only bs s0 (startRadios s) := by
  unfold startRadios
  with_reducible repeat' first
    | assumption
    | refine laneHears_only (via hSub) ?_
    | refine startCalibration_only (via hSub) ?_
    | refine beginTransit_only (via hSub) ?_
    | refine onPlc_only (viaOne hSub) ?_
    | refine Only.ite ?_ ?_
    | refine Only.foldl (fun _ _ _ => ?_) ?_

theorem takeUp_only {bs : List Block} {s0 : State} {s : State}
    (hSub : Block.sub [.hosts, .sched, .evt, .pwr, .rad, .link, .pair, .reg] bs = true) (hOnly : Only bs s0 s) :
    Only bs s0 (takeUp s) := by
  unfold takeUp
  with_reducible repeat' first
    | exact hOnly
    | refine startPair_only (via hSub) ?_
    | refine restoreSaved_only (via hSub) ?_
    | refine restoreSched_only (via hSub) ?_
    | refine onPwr_only (viaOne hSub) ?_

theorem loadTables_only {bs : List Block} {s0 : State} {v : BootView} {s : State}
    (hSub : Block.sub [.hosts, .mains, .evt, .pwr, .rad, .link, .plc, .sess, .vee, .bal, .arch, .upl, .fleet, .pair] bs = true)
    (hOnly : Only bs s0 s) :
    Only bs s0 (loadTables v s) := by
  unfold loadTables
  with_reducible repeat' first
    | exact hOnly
    | assumption
    | refine startRadios_only (via hSub) ?_
    | refine loadFleet_only (via hSub) ?_
    | refine loadBalance_only (via hSub) ?_
    | refine loadContexts_only (via hSub) ?_
    | refine startArchive_only (via hSub) ?_
    | refine fillNeighbours_only (via hSub) ?_
    | refine refreshPressure_only (via hSub) ?_
    | refine onUpl_only (viaOne hSub) ?_
    | refine Only.ite ?_ ?_
    | refine Only.ite1 ?_ ?_
    | refine Only.ite2 ?_ ?_
    | refine Only.eq1 (by assumption) ?_
    | refine Only.eq2 (by assumption) ?_
    | refine OnlyOpt.get (by assumption) ?_
    | refine OnlyOptP.get (by assumption) ?_
    | refine OnlyEx.get (by assumption) ?_
    | refine OnlyExP.get (by assumption) ?_
    | split
    | dsimp only

theorem becomeReady_only {bs : List Block} {s0 : State} {s : State}
    (hSub : Block.sub [.cfg, .hosts, .sched, .evt, .pwr, .link, .fwu, .pair] bs = true) (hOnly : Only bs s0 s) :
    Only bs s0 (becomeReady s) := by
  unfold becomeReady
  with_reducible repeat' first
    | exact hOnly
    | refine freeEdge_only (via hSub) ?_
    | refine confirmStart_only (via hSub) ?_
    | refine evalTriggers_only (via hSub) ?_
    | refine onEvt_only (viaOne hSub) ?_
    | refine onHosts_only (viaOne hSub) ?_
    | refine onLink_only (viaOne hSub) ?_
    | refine onPwr_only (viaOne hSub) ?_

theorem runFirmware_only {bs : List Block} {s0 : State} {cold : Bool} {v : BootView} {s : State}
    (hSub : Block.sub [.cfg, .hosts, .mains, .sched, .time, .fab, .evt, .pwr, .rad, .link, .plc, .sess, .vee, .bal, .arch, .upl, .fleet, .pocket, .fwu, .pair, .reg] bs = true)
    (hOnly : Only bs s0 s) :
    Only bs s0 (runFirmware cold v s) := by
  unfold runFirmware
  with_reducible repeat' first
    | exact hOnly
    | refine becomeReady_only (via hSub) ?_
    | refine loadTables_only (via hSub) ?_
    | refine takeUp_only (via hSub) ?_
    | refine loadConfig_only (via hSub) ?_
    | refine enterStep_only (via hSub) ?_
    | refine onArch_only (viaOne hSub) ?_
    | refine Only.ite ?_ ?_

theorem startLogic_only {bs : List Block} {s0 : State} {cold : Bool} {cause : Nat} {v : BootView} {s : State}
    (hSub : Block.sub [.cfg, .hosts, .mains, .sched, .time, .fab, .evt, .pwr, .met, .rad, .link, .plc, .sess, .vee, .bal, .arch, .upl, .fleet, .pocket, .fwu, .pair, .reg, .free] bs = true)
    (hOnly : Only bs s0 s) :
    Only bs s0 (startLogic cold cause v s) := by
  unfold startLogic
  with_reducible repeat' first
    | exact hOnly
    | refine runFirmware_only (via hSub) ?_
    | refine enterRecovery_only (via hSub) ?_
    | refine bootStage_only (via hSub) ?_
    | refine writeStart_only (via hSub) ?_
    | refine chooseRoot_only (via hSub) ?_
    | refine enterStep_only (via hSub) ?_
    | refine parkUnsaved_only (via hSub) ?_
    | refine beginRun_only (via hSub) ?_
    | refine onEvt_only (viaOne hSub) ?_
    | refine onMet_only (viaOne hSub) ?_
    | refine Only.eq1 (by assumption) ?_
    | split
    | dsimp only

theorem warmReset_only {bs : List Block} {s0 : State} {cause : Nat} {v : BootView} {s : State}
    (hSub : Block.sub [.cfg, .hosts, .mains, .sched, .time, .fab, .evt, .pwr, .met, .rad, .link, .plc, .sess, .vee, .bal, .arch, .upl, .fleet, .pocket, .fwu, .pair, .reg, .free] bs = true)
    (hOnly : Only bs s0 s) :
    Only bs s0 (warmReset cause v s) := by
  unfold warmReset
  with_reducible repeat' first
    | exact hOnly
    | refine startLogic_only (via hSub) ?_
    | refine stopLogic_only (via hSub) ?_
    | refine endRun_only (via hSub) ?_

/-! ### Supply -/

theorem powerOff_only {bs : List Block} {s0 : State} {s : State}
    (hSub : Block.sub [.cfg, .hosts, .sched, .time, .fab, .evt, .pwr, .met, .rad, .link, .plc, .sess, .vee, .bal, .arch, .upl, .pocket, .fwu, .reg] bs = true)
    (hOnly : Only bs s0 s) :
    Only bs s0 (powerOff s) := by
  unfold powerOff
  with_reducible repeat' first
    | exact hOnly
    | refine stopLogic_only (via hSub) ?_
    | refine endRun_only (via hSub) ?_
    | refine abortSession_only (via hSub) ?_
    | refine onArch_only (viaOne hSub) ?_
    | refine onFab_only (viaOne hSub) ?_
    | refine onPwr_only (viaOne hSub) ?_

theorem countBootFail_only {bs : List Block} {s0 : State} {s : State} (hSub : Block.sub [.fwu] bs = true) (hOnly : Only bs s0 s) :
    Only bs s0 (countBootFail s) := by
  unfold countBootFail
  with_reducible repeat' first
    | exact hOnly
    | refine onFwu_only (viaOne hSub) ?_

theorem placeHem_only {bs : List Block} {s0 : State} {s : State}
    (hSub : Block.sub [.hosts, .sched, .evt, .pwr, .pair] bs = true) (hOnly : Only bs s0 s) :
    Only bs s0 (placeHem s) := by
  unfold placeHem
  with_reducible repeat' first
    | exact hOnly
    | refine placeOr_only (via hSub) ?_
    | refine onPwr_only (viaOne hSub) ?_
    | refine Only.ite ?_ ?_

theorem postFinal_only {bs : List Block} {s0 : State} {s : State} (hSub : Block.sub [.fab, .met] bs = true) (hOnly : Only bs s0 s) :
    Only bs s0 (postFinal s) := by
  unfold postFinal
  with_reducible repeat' first
    | exact hOnly
    | assumption
    | refine postLegal_only (via hSub) ?_
    | refine onMet_only (viaOne hSub) ?_
    | refine Only.ite ?_ ?_
    | refine Only.ite1 ?_ ?_
    | refine Only.ite2 ?_ ?_
    | refine Only.eq1 (by assumption) ?_
    | refine Only.eq2 (by assumption) ?_
    | refine OnlyOpt.get (by assumption) ?_
    | refine OnlyOptP.get (by assumption) ?_
    | refine OnlyEx.get (by assumption) ?_
    | refine OnlyExP.get (by assumption) ?_
    | split
    | dsimp only

theorem lineWarned_only {bs : List Block} {s0 : State} {cyc : CycleIn} {s : State}
    (hSub : Block.sub [.hosts, .fab, .evt, .met, .link, .plc, .upl, .reg] bs = true) (hOnly : Only bs s0 s) :
    Only bs s0 (lineWarned cyc s) := by
  unfold lineWarned
  with_reducible repeat' first
    | exact hOnly
    | assumption
    | refine postFinal_only (via hSub) ?_
    | refine muteDriver_only (via hSub) ?_
    | refine endDspCycle_only (via hSub) ?_
    | refine pqTruncate_only (via hSub) ?_
    | refine Only.ite ?_ ?_
    | refine Only.ite1 ?_ ?_
    | refine Only.ite2 ?_ ?_
    | refine Only.eq1 (by assumption) ?_
    | refine Only.eq2 (by assumption) ?_
    | refine OnlyOpt.get (by assumption) ?_
    | refine OnlyOptP.get (by assumption) ?_
    | refine OnlyEx.get (by assumption) ?_
    | refine OnlyExP.get (by assumption) ?_
    | split
    | dsimp only

theorem hemStopsEntry_only {bs : List Block} {s0 : State} {s : State} (hSub : Block.sub [.hosts, .pwr] bs = true) (hOnly : Only bs s0 s) :
    Only bs s0 (hemStopsEntry s) := by
  unfold hemStopsEntry
  with_reducible repeat' first
    | exact hOnly
    | refine setSticky_only (via hSub) ?_
    | refine onPwr_only (viaOne hSub) ?_
    | refine Only.ite ?_ ?_

theorem beginHem_only {bs : List Block} {s0 : State} {e : SchedEntry} {s : State}
    (hSub : Block.sub [.hosts, .sched, .fab, .evt, .pwr, .met, .rad, .link, .plc, .arch, .upl, .pair, .reg] bs = true)
    (hOnly : Only bs s0 s) :
    Only bs s0 (beginHem e s) := by
  unfold beginHem
  with_reducible repeat' first
    | exact hOnly
    | refine hemStopsEntry_only (via hSub) ?_
    | refine silence_only (via hSub) ?_
    | refine muteDriver_only (via hSub) ?_
    | refine abandonDowns_only (via hSub) ?_
    | refine abortSession_only (via hSub) ?_
    | refine dropEntries_only (via hSub) ?_
    | refine onArch_only (viaOne hSub) ?_
    | refine onPwr_only (viaOne hSub) ?_
    | refine onSched_only (viaOne hSub) ?_

theorem saveTables_only {bs : List Block} {s0 : State} {s : State}
    (hSub : Block.sub [.sched, .sess, .reg] bs = true) (hOnly : Only bs s0 s) :
    Only bs s0 (saveTables s) := by
  unfold saveTables
  with_reducible repeat' first
    | exact hOnly
    | assumption
    | refine onReg_only (viaOne hSub) ?_
    | refine onSched_only (viaOne hSub) ?_
    | refine onSess_only (viaOne hSub) ?_
    | refine Only.ite ?_ ?_
    | refine Only.ite1 ?_ ?_
    | refine Only.ite2 ?_ ?_
    | refine Only.getD ?_ ?_
    | refine Only.eq1 (by assumption) ?_
    | refine Only.eq2 (by assumption) ?_
    | refine OnlyOpt.get (by assumption) ?_
    | refine OnlyOptP.get (by assumption) ?_
    | refine OnlyEx.get (by assumption) ?_
    | refine OnlyExP.get (by assumption) ?_
    | split
    | dsimp only

theorem saveIsland_only {bs : List Block} {s0 : State} {s : State}
    (hSub : Block.sub [.mains, .evt, .reg] bs = true) (hOnly : Only bs s0 s) :
    Only bs s0 (saveIsland s) := by
  unfold saveIsland
  with_reducible repeat' first
    | exact hOnly
    | refine onEvt_only (viaOne hSub) ?_
    | refine onMains_only (viaOne hSub) ?_
    | refine onReg_only (viaOne hSub) ?_

theorem saveItems_only {bs : List Block} {s0 : State} {s : State}
    (hSub : Block.sub [.mains, .sched, .evt, .rad, .sess, .reg] bs = true) (hOnly : Only bs s0 s) :
    Only bs s0 (saveItems s) := by
  unfold saveItems
  with_reducible repeat' first
    | exact hOnly
    | refine saveIsland_only (via hSub) ?_
    | refine saveTables_only (via hSub) ?_
    | refine onRad_only (viaOne hSub) ?_
    | refine onReg_only (viaOne hSub) ?_
    | refine onSched_only (viaOne hSub) ?_
    | refine Only.ite ?_ ?_

theorem finishHem_only {bs : List Block} {s0 : State} {s : State}
    (hSub : Block.sub [.cfg, .hosts, .mains, .sched, .time, .fab, .evt, .pwr, .met, .rad, .link, .plc, .sess, .vee, .bal, .arch, .upl, .pocket, .fwu, .reg] bs = true)
    (hOnly : Only bs s0 s) :
    Only bs s0 (finishHem s) := by
  unfold finishHem
  with_reducible repeat' first
    | exact hOnly
    | assumption
    | refine saveItems_only (via hSub) ?_
    | refine clearLogic_only (via hSub) ?_
    | refine endRun_only (via hSub) ?_
    | refine onEvt_only (viaOne hSub) ?_
    | refine onPwr_only (viaOne hSub) ?_
    | refine Only.ite ?_ ?_
    | refine Only.ite1 ?_ ?_
    | refine Only.ite2 ?_ ?_
    | refine Only.eq1 (by assumption) ?_
    | refine Only.eq2 (by assumption) ?_
    | refine OnlyOpt.get (by assumption) ?_
    | refine OnlyOptP.get (by assumption) ?_
    | refine OnlyEx.get (by assumption) ?_
    | refine OnlyExP.get (by assumption) ?_
    | split
    | dsimp only

theorem sourceHost_only {bs : List Block} {s0 : State} {source : Nat} {s : State}
    (hSub : Block.sub [.fwu] bs = true) (hOnly : Only bs s0 s) :
    Only bs s0 (sourceHost source s).2 := by
  unfold sourceHost
  with_reducible repeat' first
    | exact hOnly
    | refine onFwu_only (viaOne hSub) ?_
    | refine Only.ite ?_ ?_

theorem romRun_only {bs : List Block} {s0 : State} {h : Nat} {t : Taken} {s : State}
    (hSub : Block.sub [.fwu] bs = true) (hOnly : Only bs s0 s) :
    Only bs s0 (romRun h t s).1 := by
  unfold romRun
  with_reducible repeat' first
    | exact hOnly
    | refine fwuStatus_only (via hSub) ?_
    | refine fwuAbort_only (via hSub) ?_
    | refine fwuFinish_only (via hSub) ?_
    | refine fwuLoad_only (via hSub) ?_
    | refine fwuBegin_only (via hSub) ?_
    | split

/-! ### Power -/

theorem refuseEntry_only {bs : List Block} {s0 : State} {target who : Nat} {s : State}
    (hSub : Block.sub [.hosts, .pwr] bs = true) (hOnly : Only bs s0 s) :
    Only bs s0 (refuseEntry target who s) := by
  unfold refuseEntry
  with_reducible repeat' first
    | exact hOnly
    | refine setSticky_only (via hSub) ?_
    | refine onPwr_only (viaOne hSub) ?_

theorem commitEntry_only {bs : List Block} {s0 : State} {target : Nat} {s : State}
    (hSub : Block.sub [.sched, .pwr, .sess, .reg] bs = true) (hOnly : Only bs s0 s) :
    Only bs s0 (commitEntry target s) := by
  unfold commitEntry
  with_reducible repeat' first
    | exact hOnly
    | refine saveTables_only (via hSub) ?_
    | refine beginTransit_only (via hSub) ?_
    | refine onPwr_only (viaOne hSub) ?_
    | refine Only.ite ?_ ?_

theorem radiosOff_only {bs : List Block} {s0 : State} {s : State} (hSub : Block.sub [.rad] bs = true) (hOnly : Only bs s0 s) :
    Only bs s0 (radiosOff s) := by
  unfold radiosOff
  with_reducible repeat' first
    | exact hOnly
    | refine onRad_only (viaOne hSub) ?_

theorem networkOff_only {bs : List Block} {s0 : State} {s : State}
    (hSub : Block.sub [.cfg, .hosts, .time, .evt, .sess, .upl, .pocket] bs = true) (hOnly : Only bs s0 s) :
    Only bs s0 (networkOff s) := by
  unfold networkOff
  with_reducible repeat' first
    | assumption
    | refine goOffline_only (via hSub) ?_
    | refine endChild_only (via hSub) ?_
    | refine endUp_only (via hSub) ?_
    | refine setLink_only (via hSub) ?_
    | refine loseSource_only (via hSub) ?_
    | refine onTime_only (viaOne hSub) ?_
    | refine Only.ite ?_ ?_
    | refine Only.foldl (fun _ _ _ => ?_) ?_

theorem enterState_only {bs : List Block} {s0 : State} {target : Nat} {s : State}
    (hSub : Block.sub [.cfg, .hosts, .time, .evt, .pwr, .rad, .sess, .upl, .pocket, .reg] bs = true) (hOnly : Only bs s0 s) :
    Only bs s0 (enterState target s) := by
  unfold enterState
  with_reducible repeat' first
    | exact hOnly
    | refine networkOff_only (via hSub) ?_
    | refine radiosOff_only (via hSub) ?_
    | refine releasePulses_only (via hSub) ?_
    | refine onPwr_only (viaOne hSub) ?_
    | refine Only.ite ?_ ?_

theorem beginExit_only {bs : List Block} {s0 : State} {s : State} (hSub : Block.sub [.pwr] bs = true) (hOnly : Only bs s0 s) :
    Only bs s0 (beginExit s) := by
  unfold beginExit
  with_reducible repeat' first
    | exact hOnly
    | assumption
    | refine beginTransit_only (via hSub) ?_
    | refine onPwr_only (viaOne hSub) ?_
    | refine Only.ite ?_ ?_
    | refine Only.ite1 ?_ ?_
    | refine Only.ite2 ?_ ?_
    | refine Only.eq1 (by assumption) ?_
    | refine Only.eq2 (by assumption) ?_
    | refine OnlyOpt.get (by assumption) ?_
    | refine OnlyOptP.get (by assumption) ?_
    | refine OnlyEx.get (by assumption) ?_
    | refine OnlyExP.get (by assumption) ?_
    | split
    | dsimp only

theorem finishExit_only {bs : List Block} {s0 : State} {s : State}
    (hSub : Block.sub [.cfg, .hosts, .fab, .evt, .pwr, .rad, .link, .sess, .vee, .arch, .fleet, .pair] bs = true) (hOnly : Only bs s0 s) :
    Only bs s0 (finishExit s) := by
  unfold finishExit
  with_reducible repeat' first
    | exact hOnly
    | assumption
    | refine freeEdge_only (via hSub) ?_
    | refine releaseHeld_only (via hSub) ?_
    | refine laneHears_only (via hSub) ?_
    | refine startCalibration_only (via hSub) ?_
    | refine beginTransit_only (via hSub) ?_
    | refine onLink_only (viaOne hSub) ?_
    | refine onPwr_only (viaOne hSub) ?_
    | refine Only.ite ?_ ?_
    | refine Only.ite1 ?_ ?_
    | refine Only.ite2 ?_ ?_
    | refine Only.foldl (fun _ _ _ => ?_) ?_
    | refine Only.foldl1 (fun _ _ _ => ?_) ?_
    | refine Only.foldl2 (fun _ _ _ => ?_) ?_
    | refine Only.eq1 (by assumption) ?_
    | refine Only.eq2 (by assumption) ?_
    | refine OnlyOpt.get (by assumption) ?_
    | refine OnlyOptP.get (by assumption) ?_
    | refine OnlyEx.get (by assumption) ?_
    | refine OnlyExP.get (by assumption) ?_
    | split
    | dsimp only

theorem trimState_only {bs : List Block} {s0 : State} {s : State} (hSub : Block.sub [.pwr] bs = true) (hOnly : Only bs s0 s) :
    Only bs s0 (trimState s) := by
  unfold trimState
  with_reducible repeat' first
    | exact hOnly
    | refine onPwr_only (viaOne hSub) ?_

theorem ungate_only {bs : List Block} {s0 : State} {n : Nat} {s : State}
    (hSub : Block.sub [.cfg, .hosts, .mains, .sched, .fab, .evt, .pwr, .rad, .link, .plc, .sess, .vee, .arch, .upl, .fleet, .pair, .reg] bs = true)
    (hOnly : Only bs s0 s) :
    Only bs s0 (ungate n s) := by
  unfold ungate
  with_reducible repeat' first
    | exact hOnly
    | assumption
    | refine trimState_only (via hSub) ?_
    | refine takeQ1_only (via hSub) ?_
    | refine releaseHeld_only (via hSub) ?_
    | refine takeQ9_only (via hSub) ?_
    | refine onPwr_only (viaOne hSub) ?_
    | refine Only.ite ?_ ?_
    | refine Only.ite1 ?_ ?_
    | refine Only.ite2 ?_ ?_
    | refine Only.eq1 (by assumption) ?_
    | refine Only.eq2 (by assumption) ?_
    | refine OnlyOpt.get (by assumption) ?_
    | refine OnlyOptP.get (by assumption) ?_
    | refine OnlyEx.get (by assumption) ?_
    | refine OnlyExP.get (by assumption) ?_
    | split
    | dsimp only

theorem rearmPlc_only {bs : List Block} {s0 : State} {c : PlcCfg} {s : State}
    (hSub : Block.sub [.cfg, .hosts, .sched, .fab, .evt, .pair] bs = true) (hOnly : Only bs s0 s) :
    Only bs s0 (rearmPlc c s) := by
  unfold rearmPlc
  with_reducible repeat' first
    | exact hOnly
    | assumption
    | refine postWord_only (via hSub) ?_
    | refine placeMode_only (via hSub) ?_
    | refine Only.ite ?_ ?_
    | refine Only.ite1 ?_ ?_
    | refine Only.ite2 ?_ ?_
    | refine Only.getD ?_ ?_
    | refine Only.eq1 (by assumption) ?_
    | refine Only.eq2 (by assumption) ?_
    | refine OnlyOpt.get (by assumption) ?_
    | refine OnlyOptP.get (by assumption) ?_
    | refine OnlyEx.get (by assumption) ?_
    | refine OnlyExP.get (by assumption) ?_
    | split
    | dsimp only

theorem execRearm_only {bs : List Block} {s0 : State} {fn : ArmFn} {r : ArmReq} {s : State}
    (hSub : Block.sub [.cfg, .hosts, .mains, .sched, .time, .fab, .evt, .pwr, .rad, .link, .plc, .sess, .vee, .arch, .upl, .fleet, .pair, .reg] bs = true)
    (hOnly : Only bs s0 s) :
    Only bs s0 (execRearm fn r s) := by
  unfold execRearm
  with_reducible repeat' first
    | exact hOnly
    | refine rearmPlc_only (via hSub) ?_
    | refine ungate_only (via hSub) ?_
    | refine beginExit_only (via hSub) ?_
    | refine commitPort_only (via hSub) ?_
    | refine postWord_only (via hSub) ?_
    | split

theorem transitDone_only {bs : List Block} {s0 : State} {t : Transit} {s : State}
    (hSub : Block.sub [.cfg, .hosts, .time, .fab, .evt, .pwr, .rad, .link, .sess, .vee, .arch, .upl, .fleet, .pocket, .pair, .reg] bs = true)
    (hOnly : Only bs s0 s) :
    Only bs s0 (transitDone t s) := by
  unfold transitDone
  with_reducible repeat' first
    | exact hOnly
    | refine finishExit_only (via hSub) ?_
    | refine enterState_only (via hSub) ?_
    | split

theorem pwrStatus_only {bs : List Block} {s0 : State} {h : Fin 4} {tk : Taken} {s : State}
    (hSub : Block.sub [] bs = true) (hOnly : Only bs s0 s) :
    Only bs s0 (pwrStatus h tk s).1 := by
  unfold pwrStatus
  with_reducible repeat' first
    | exact hOnly

theorem pwrTolerance_only {bs : List Block} {s0 : State} {h : Fin 4} {t : Taken} {s : State}
    (hSub : Block.sub [.hosts] bs = true) (hOnly : Only bs s0 s) :
    Only bs s0 (pwrTolerance h t s).1 := by
  unfold pwrTolerance
  with_reducible repeat' first
    | exact hOnly
    | refine st_setHost_only (via hSub) ?_
    | split
    | dsimp only

theorem pwrCounters_only {bs : List Block} {s0 : State} {tk : Taken} {s : State} (hSub : Block.sub [] bs = true) (hOnly : Only bs s0 s) :
    Only bs s0 (pwrCounters tk s).1 := by
  unfold pwrCounters
  with_reducible repeat' first
    | exact hOnly

theorem dropHead_only {bs : List Block} {s0 : State} {ring : Nat} {s : State}
    (hSub : Block.sub [.fab, .rad, .plc, .sess, .vee, .reg] bs = true) (hOnly : Only bs s0 s) :
    Only bs s0 (dropHead ring s) := by
  unfold dropHead
  with_reducible repeat' first
    | exact hOnly
    | assumption
    | refine popQ11_only (via hSub) ?_
    | refine popQ4_only (via hSub) ?_
    | refine popQ3_only (via hSub) ?_
    | refine popQ2_only (via hSub) ?_
    | refine onPlc_only (viaOne hSub) ?_
    | refine onRad_only (viaOne hSub) ?_
    | refine onReg_only (viaOne hSub) ?_
    | refine onVee_only (viaOne hSub) ?_
    | refine Only.ite ?_ ?_
    | refine Only.ite1 ?_ ?_
    | refine Only.ite2 ?_ ?_
    | refine Only.eq1 (by assumption) ?_
    | refine Only.eq2 (by assumption) ?_
    | refine OnlyOpt.get (by assumption) ?_
    | refine OnlyOptP.get (by assumption) ?_
    | refine OnlyEx.get (by assumption) ?_
    | refine OnlyExP.get (by assumption) ?_
    | split
    | dsimp only

end Sys2Proof.Machine
end

