-- ==== Sys2Proof/Laws/State.lean ====
section
/-! SUPPORT. Each block updater changes its block and no other (true by rfl; written (rfl) so that simp proves with the law itself and the kernel never compares two states). -/

namespace Sys2Proof.Machine

@[simp] theorem State.onCfg_cfg (s : State) (f : CfgSt → CfgSt) : (s.onCfg f).cfg = f s.cfg := (rfl)
@[simp] theorem State.onCfg_hosts (s : State) (f : CfgSt → CfgSt) : (s.onCfg f).hosts = s.hosts := (rfl)
@[simp] theorem State.onCfg_mains (s : State) (f : CfgSt → CfgSt) : (s.onCfg f).mains = s.mains := (rfl)
@[simp] theorem State.onCfg_sched (s : State) (f : CfgSt → CfgSt) : (s.onCfg f).sched = s.sched := (rfl)
@[simp] theorem State.onCfg_time (s : State) (f : CfgSt → CfgSt) : (s.onCfg f).time = s.time := (rfl)
@[simp] theorem State.onCfg_fab (s : State) (f : CfgSt → CfgSt) : (s.onCfg f).fab = s.fab := (rfl)
@[simp] theorem State.onCfg_evt (s : State) (f : CfgSt → CfgSt) : (s.onCfg f).evt = s.evt := (rfl)
@[simp] theorem State.onCfg_pwr (s : State) (f : CfgSt → CfgSt) : (s.onCfg f).pwr = s.pwr := (rfl)
@[simp] theorem State.onCfg_met (s : State) (f : CfgSt → CfgSt) : (s.onCfg f).met = s.met := (rfl)
@[simp] theorem State.onCfg_rad (s : State) (f : CfgSt → CfgSt) : (s.onCfg f).rad = s.rad := (rfl)
@[simp] theorem State.onCfg_link (s : State) (f : CfgSt → CfgSt) : (s.onCfg f).link = s.link := (rfl)
@[simp] theorem State.onCfg_plc (s : State) (f : CfgSt → CfgSt) : (s.onCfg f).plc = s.plc := (rfl)
@[simp] theorem State.onCfg_sess (s : State) (f : CfgSt → CfgSt) : (s.onCfg f).sess = s.sess := (rfl)
@[simp] theorem State.onCfg_vee (s : State) (f : CfgSt → CfgSt) : (s.onCfg f).vee = s.vee := (rfl)
@[simp] theorem State.onCfg_bal (s : State) (f : CfgSt → CfgSt) : (s.onCfg f).bal = s.bal := (rfl)
@[simp] theorem State.onCfg_arch (s : State) (f : CfgSt → CfgSt) : (s.onCfg f).arch = s.arch := (rfl)
@[simp] theorem State.onCfg_upl (s : State) (f : CfgSt → CfgSt) : (s.onCfg f).upl = s.upl := (rfl)
@[simp] theorem State.onCfg_fleet (s : State) (f : CfgSt → CfgSt) : (s.onCfg f).fleet = s.fleet := (rfl)
@[simp] theorem State.onCfg_pocket (s : State) (f : CfgSt → CfgSt) : (s.onCfg f).pocket = s.pocket := (rfl)
@[simp] theorem State.onCfg_fwu (s : State) (f : CfgSt → CfgSt) : (s.onCfg f).fwu = s.fwu := (rfl)
@[simp] theorem State.onCfg_pair (s : State) (f : CfgSt → CfgSt) : (s.onCfg f).pair = s.pair := (rfl)
@[simp] theorem State.onCfg_reg (s : State) (f : CfgSt → CfgSt) : (s.onCfg f).reg = s.reg := (rfl)
@[simp] theorem State.onCfg_pending (s : State) (f : CfgSt → CfgSt) : (s.onCfg f).pending = s.pending := (rfl)
@[simp] theorem State.onCfg_free (s : State) (f : CfgSt → CfgSt) : (s.onCfg f).free = s.free := (rfl)
@[simp] theorem State.onHosts_cfg (s : State) (f : HostsSt → HostsSt) : (s.onHosts f).cfg = s.cfg := (rfl)
@[simp] theorem State.onHosts_hosts (s : State) (f : HostsSt → HostsSt) : (s.onHosts f).hosts = f s.hosts := (rfl)
@[simp] theorem State.onHosts_mains (s : State) (f : HostsSt → HostsSt) : (s.onHosts f).mains = s.mains := (rfl)
@[simp] theorem State.onHosts_sched (s : State) (f : HostsSt → HostsSt) : (s.onHosts f).sched = s.sched := (rfl)
@[simp] theorem State.onHosts_time (s : State) (f : HostsSt → HostsSt) : (s.onHosts f).time = s.time := (rfl)
@[simp] theorem State.onHosts_fab (s : State) (f : HostsSt → HostsSt) : (s.onHosts f).fab = s.fab := (rfl)
@[simp] theorem State.onHosts_evt (s : State) (f : HostsSt → HostsSt) : (s.onHosts f).evt = s.evt := (rfl)
@[simp] theorem State.onHosts_pwr (s : State) (f : HostsSt → HostsSt) : (s.onHosts f).pwr = s.pwr := (rfl)
@[simp] theorem State.onHosts_met (s : State) (f : HostsSt → HostsSt) : (s.onHosts f).met = s.met := (rfl)
@[simp] theorem State.onHosts_rad (s : State) (f : HostsSt → HostsSt) : (s.onHosts f).rad = s.rad := (rfl)
@[simp] theorem State.onHosts_link (s : State) (f : HostsSt → HostsSt) : (s.onHosts f).link = s.link := (rfl)
@[simp] theorem State.onHosts_plc (s : State) (f : HostsSt → HostsSt) : (s.onHosts f).plc = s.plc := (rfl)
@[simp] theorem State.onHosts_sess (s : State) (f : HostsSt → HostsSt) : (s.onHosts f).sess = s.sess := (rfl)
@[simp] theorem State.onHosts_vee (s : State) (f : HostsSt → HostsSt) : (s.onHosts f).vee = s.vee := (rfl)
@[simp] theorem State.onHosts_bal (s : State) (f : HostsSt → HostsSt) : (s.onHosts f).bal = s.bal := (rfl)
@[simp] theorem State.onHosts_arch (s : State) (f : HostsSt → HostsSt) : (s.onHosts f).arch = s.arch := (rfl)
@[simp] theorem State.onHosts_upl (s : State) (f : HostsSt → HostsSt) : (s.onHosts f).upl = s.upl := (rfl)
@[simp] theorem State.onHosts_fleet (s : State) (f : HostsSt → HostsSt) : (s.onHosts f).fleet = s.fleet := (rfl)
@[simp] theorem State.onHosts_pocket (s : State) (f : HostsSt → HostsSt) : (s.onHosts f).pocket = s.pocket := (rfl)
@[simp] theorem State.onHosts_fwu (s : State) (f : HostsSt → HostsSt) : (s.onHosts f).fwu = s.fwu := (rfl)
@[simp] theorem State.onHosts_pair (s : State) (f : HostsSt → HostsSt) : (s.onHosts f).pair = s.pair := (rfl)
@[simp] theorem State.onHosts_reg (s : State) (f : HostsSt → HostsSt) : (s.onHosts f).reg = s.reg := (rfl)
@[simp] theorem State.onHosts_pending (s : State) (f : HostsSt → HostsSt) : (s.onHosts f).pending = s.pending := (rfl)
@[simp] theorem State.onHosts_free (s : State) (f : HostsSt → HostsSt) : (s.onHosts f).free = s.free := (rfl)
@[simp] theorem State.onMains_cfg (s : State) (f : MainsSt → MainsSt) : (s.onMains f).cfg = s.cfg := (rfl)
@[simp] theorem State.onMains_hosts (s : State) (f : MainsSt → MainsSt) : (s.onMains f).hosts = s.hosts := (rfl)
@[simp] theorem State.onMains_mains (s : State) (f : MainsSt → MainsSt) : (s.onMains f).mains = f s.mains := (rfl)
@[simp] theorem State.onMains_sched (s : State) (f : MainsSt → MainsSt) : (s.onMains f).sched = s.sched := (rfl)
@[simp] theorem State.onMains_time (s : State) (f : MainsSt → MainsSt) : (s.onMains f).time = s.time := (rfl)
@[simp] theorem State.onMains_fab (s : State) (f : MainsSt → MainsSt) : (s.onMains f).fab = s.fab := (rfl)
@[simp] theorem State.onMains_evt (s : State) (f : MainsSt → MainsSt) : (s.onMains f).evt = s.evt := (rfl)
@[simp] theorem State.onMains_pwr (s : State) (f : MainsSt → MainsSt) : (s.onMains f).pwr = s.pwr := (rfl)
@[simp] theorem State.onMains_met (s : State) (f : MainsSt → MainsSt) : (s.onMains f).met = s.met := (rfl)
@[simp] theorem State.onMains_rad (s : State) (f : MainsSt → MainsSt) : (s.onMains f).rad = s.rad := (rfl)
@[simp] theorem State.onMains_link (s : State) (f : MainsSt → MainsSt) : (s.onMains f).link = s.link := (rfl)
@[simp] theorem State.onMains_plc (s : State) (f : MainsSt → MainsSt) : (s.onMains f).plc = s.plc := (rfl)
@[simp] theorem State.onMains_sess (s : State) (f : MainsSt → MainsSt) : (s.onMains f).sess = s.sess := (rfl)
@[simp] theorem State.onMains_vee (s : State) (f : MainsSt → MainsSt) : (s.onMains f).vee = s.vee := (rfl)
@[simp] theorem State.onMains_bal (s : State) (f : MainsSt → MainsSt) : (s.onMains f).bal = s.bal := (rfl)
@[simp] theorem State.onMains_arch (s : State) (f : MainsSt → MainsSt) : (s.onMains f).arch = s.arch := (rfl)
@[simp] theorem State.onMains_upl (s : State) (f : MainsSt → MainsSt) : (s.onMains f).upl = s.upl := (rfl)
@[simp] theorem State.onMains_fleet (s : State) (f : MainsSt → MainsSt) : (s.onMains f).fleet = s.fleet := (rfl)
@[simp] theorem State.onMains_pocket (s : State) (f : MainsSt → MainsSt) : (s.onMains f).pocket = s.pocket := (rfl)
@[simp] theorem State.onMains_fwu (s : State) (f : MainsSt → MainsSt) : (s.onMains f).fwu = s.fwu := (rfl)
@[simp] theorem State.onMains_pair (s : State) (f : MainsSt → MainsSt) : (s.onMains f).pair = s.pair := (rfl)
@[simp] theorem State.onMains_reg (s : State) (f : MainsSt → MainsSt) : (s.onMains f).reg = s.reg := (rfl)
@[simp] theorem State.onMains_pending (s : State) (f : MainsSt → MainsSt) : (s.onMains f).pending = s.pending := (rfl)
@[simp] theorem State.onMains_free (s : State) (f : MainsSt → MainsSt) : (s.onMains f).free = s.free := (rfl)
@[simp] theorem State.onSched_cfg (s : State) (f : SchedSt → SchedSt) : (s.onSched f).cfg = s.cfg := (rfl)
@[simp] theorem State.onSched_hosts (s : State) (f : SchedSt → SchedSt) : (s.onSched f).hosts = s.hosts := (rfl)
@[simp] theorem State.onSched_mains (s : State) (f : SchedSt → SchedSt) : (s.onSched f).mains = s.mains := (rfl)
@[simp] theorem State.onSched_sched (s : State) (f : SchedSt → SchedSt) : (s.onSched f).sched = f s.sched := (rfl)
@[simp] theorem State.onSched_time (s : State) (f : SchedSt → SchedSt) : (s.onSched f).time = s.time := (rfl)
@[simp] theorem State.onSched_fab (s : State) (f : SchedSt → SchedSt) : (s.onSched f).fab = s.fab := (rfl)
@[simp] theorem State.onSched_evt (s : State) (f : SchedSt → SchedSt) : (s.onSched f).evt = s.evt := (rfl)
@[simp] theorem State.onSched_pwr (s : State) (f : SchedSt → SchedSt) : (s.onSched f).pwr = s.pwr := (rfl)
@[simp] theorem State.onSched_met (s : State) (f : SchedSt → SchedSt) : (s.onSched f).met = s.met := (rfl)
@[simp] theorem State.onSched_rad (s : State) (f : SchedSt → SchedSt) : (s.onSched f).rad = s.rad := (rfl)
@[simp] theorem State.onSched_link (s : State) (f : SchedSt → SchedSt) : (s.onSched f).link = s.link := (rfl)
@[simp] theorem State.onSched_plc (s : State) (f : SchedSt → SchedSt) : (s.onSched f).plc = s.plc := (rfl)
@[simp] theorem State.onSched_sess (s : State) (f : SchedSt → SchedSt) : (s.onSched f).sess = s.sess := (rfl)
@[simp] theorem State.onSched_vee (s : State) (f : SchedSt → SchedSt) : (s.onSched f).vee = s.vee := (rfl)
@[simp] theorem State.onSched_bal (s : State) (f : SchedSt → SchedSt) : (s.onSched f).bal = s.bal := (rfl)
@[simp] theorem State.onSched_arch (s : State) (f : SchedSt → SchedSt) : (s.onSched f).arch = s.arch := (rfl)
@[simp] theorem State.onSched_upl (s : State) (f : SchedSt → SchedSt) : (s.onSched f).upl = s.upl := (rfl)
@[simp] theorem State.onSched_fleet (s : State) (f : SchedSt → SchedSt) : (s.onSched f).fleet = s.fleet := (rfl)
@[simp] theorem State.onSched_pocket (s : State) (f : SchedSt → SchedSt) : (s.onSched f).pocket = s.pocket := (rfl)
@[simp] theorem State.onSched_fwu (s : State) (f : SchedSt → SchedSt) : (s.onSched f).fwu = s.fwu := (rfl)
@[simp] theorem State.onSched_pair (s : State) (f : SchedSt → SchedSt) : (s.onSched f).pair = s.pair := (rfl)
@[simp] theorem State.onSched_reg (s : State) (f : SchedSt → SchedSt) : (s.onSched f).reg = s.reg := (rfl)
@[simp] theorem State.onSched_pending (s : State) (f : SchedSt → SchedSt) : (s.onSched f).pending = s.pending := (rfl)
@[simp] theorem State.onSched_free (s : State) (f : SchedSt → SchedSt) : (s.onSched f).free = s.free := (rfl)
@[simp] theorem State.onTime_cfg (s : State) (f : TimeSt → TimeSt) : (s.onTime f).cfg = s.cfg := (rfl)
@[simp] theorem State.onTime_hosts (s : State) (f : TimeSt → TimeSt) : (s.onTime f).hosts = s.hosts := (rfl)
@[simp] theorem State.onTime_mains (s : State) (f : TimeSt → TimeSt) : (s.onTime f).mains = s.mains := (rfl)
@[simp] theorem State.onTime_sched (s : State) (f : TimeSt → TimeSt) : (s.onTime f).sched = s.sched := (rfl)
@[simp] theorem State.onTime_time (s : State) (f : TimeSt → TimeSt) : (s.onTime f).time = f s.time := (rfl)
@[simp] theorem State.onTime_fab (s : State) (f : TimeSt → TimeSt) : (s.onTime f).fab = s.fab := (rfl)
@[simp] theorem State.onTime_evt (s : State) (f : TimeSt → TimeSt) : (s.onTime f).evt = s.evt := (rfl)
@[simp] theorem State.onTime_pwr (s : State) (f : TimeSt → TimeSt) : (s.onTime f).pwr = s.pwr := (rfl)
@[simp] theorem State.onTime_met (s : State) (f : TimeSt → TimeSt) : (s.onTime f).met = s.met := (rfl)
@[simp] theorem State.onTime_rad (s : State) (f : TimeSt → TimeSt) : (s.onTime f).rad = s.rad := (rfl)
@[simp] theorem State.onTime_link (s : State) (f : TimeSt → TimeSt) : (s.onTime f).link = s.link := (rfl)
@[simp] theorem State.onTime_plc (s : State) (f : TimeSt → TimeSt) : (s.onTime f).plc = s.plc := (rfl)
@[simp] theorem State.onTime_sess (s : State) (f : TimeSt → TimeSt) : (s.onTime f).sess = s.sess := (rfl)
@[simp] theorem State.onTime_vee (s : State) (f : TimeSt → TimeSt) : (s.onTime f).vee = s.vee := (rfl)
@[simp] theorem State.onTime_bal (s : State) (f : TimeSt → TimeSt) : (s.onTime f).bal = s.bal := (rfl)
@[simp] theorem State.onTime_arch (s : State) (f : TimeSt → TimeSt) : (s.onTime f).arch = s.arch := (rfl)
@[simp] theorem State.onTime_upl (s : State) (f : TimeSt → TimeSt) : (s.onTime f).upl = s.upl := (rfl)
@[simp] theorem State.onTime_fleet (s : State) (f : TimeSt → TimeSt) : (s.onTime f).fleet = s.fleet := (rfl)
@[simp] theorem State.onTime_pocket (s : State) (f : TimeSt → TimeSt) : (s.onTime f).pocket = s.pocket := (rfl)
@[simp] theorem State.onTime_fwu (s : State) (f : TimeSt → TimeSt) : (s.onTime f).fwu = s.fwu := (rfl)
@[simp] theorem State.onTime_pair (s : State) (f : TimeSt → TimeSt) : (s.onTime f).pair = s.pair := (rfl)
@[simp] theorem State.onTime_reg (s : State) (f : TimeSt → TimeSt) : (s.onTime f).reg = s.reg := (rfl)
@[simp] theorem State.onTime_pending (s : State) (f : TimeSt → TimeSt) : (s.onTime f).pending = s.pending := (rfl)
@[simp] theorem State.onTime_free (s : State) (f : TimeSt → TimeSt) : (s.onTime f).free = s.free := (rfl)
@[simp] theorem State.onFab_cfg (s : State) (f : FabSt → FabSt) : (s.onFab f).cfg = s.cfg := (rfl)
@[simp] theorem State.onFab_hosts (s : State) (f : FabSt → FabSt) : (s.onFab f).hosts = s.hosts := (rfl)
@[simp] theorem State.onFab_mains (s : State) (f : FabSt → FabSt) : (s.onFab f).mains = s.mains := (rfl)
@[simp] theorem State.onFab_sched (s : State) (f : FabSt → FabSt) : (s.onFab f).sched = s.sched := (rfl)
@[simp] theorem State.onFab_time (s : State) (f : FabSt → FabSt) : (s.onFab f).time = s.time := (rfl)
@[simp] theorem State.onFab_fab (s : State) (f : FabSt → FabSt) : (s.onFab f).fab = f s.fab := (rfl)
@[simp] theorem State.onFab_evt (s : State) (f : FabSt → FabSt) : (s.onFab f).evt = s.evt := (rfl)
@[simp] theorem State.onFab_pwr (s : State) (f : FabSt → FabSt) : (s.onFab f).pwr = s.pwr := (rfl)
@[simp] theorem State.onFab_met (s : State) (f : FabSt → FabSt) : (s.onFab f).met = s.met := (rfl)
@[simp] theorem State.onFab_rad (s : State) (f : FabSt → FabSt) : (s.onFab f).rad = s.rad := (rfl)
@[simp] theorem State.onFab_link (s : State) (f : FabSt → FabSt) : (s.onFab f).link = s.link := (rfl)
@[simp] theorem State.onFab_plc (s : State) (f : FabSt → FabSt) : (s.onFab f).plc = s.plc := (rfl)
@[simp] theorem State.onFab_sess (s : State) (f : FabSt → FabSt) : (s.onFab f).sess = s.sess := (rfl)
@[simp] theorem State.onFab_vee (s : State) (f : FabSt → FabSt) : (s.onFab f).vee = s.vee := (rfl)
@[simp] theorem State.onFab_bal (s : State) (f : FabSt → FabSt) : (s.onFab f).bal = s.bal := (rfl)
@[simp] theorem State.onFab_arch (s : State) (f : FabSt → FabSt) : (s.onFab f).arch = s.arch := (rfl)
@[simp] theorem State.onFab_upl (s : State) (f : FabSt → FabSt) : (s.onFab f).upl = s.upl := (rfl)
@[simp] theorem State.onFab_fleet (s : State) (f : FabSt → FabSt) : (s.onFab f).fleet = s.fleet := (rfl)
@[simp] theorem State.onFab_pocket (s : State) (f : FabSt → FabSt) : (s.onFab f).pocket = s.pocket := (rfl)
@[simp] theorem State.onFab_fwu (s : State) (f : FabSt → FabSt) : (s.onFab f).fwu = s.fwu := (rfl)
@[simp] theorem State.onFab_pair (s : State) (f : FabSt → FabSt) : (s.onFab f).pair = s.pair := (rfl)
@[simp] theorem State.onFab_reg (s : State) (f : FabSt → FabSt) : (s.onFab f).reg = s.reg := (rfl)
@[simp] theorem State.onFab_pending (s : State) (f : FabSt → FabSt) : (s.onFab f).pending = s.pending := (rfl)
@[simp] theorem State.onFab_free (s : State) (f : FabSt → FabSt) : (s.onFab f).free = s.free := (rfl)
@[simp] theorem State.onEvt_cfg (s : State) (f : EvtSt → EvtSt) : (s.onEvt f).cfg = s.cfg := (rfl)
@[simp] theorem State.onEvt_hosts (s : State) (f : EvtSt → EvtSt) : (s.onEvt f).hosts = s.hosts := (rfl)
@[simp] theorem State.onEvt_mains (s : State) (f : EvtSt → EvtSt) : (s.onEvt f).mains = s.mains := (rfl)
@[simp] theorem State.onEvt_sched (s : State) (f : EvtSt → EvtSt) : (s.onEvt f).sched = s.sched := (rfl)
@[simp] theorem State.onEvt_time (s : State) (f : EvtSt → EvtSt) : (s.onEvt f).time = s.time := (rfl)
@[simp] theorem State.onEvt_fab (s : State) (f : EvtSt → EvtSt) : (s.onEvt f).fab = s.fab := (rfl)
@[simp] theorem State.onEvt_evt (s : State) (f : EvtSt → EvtSt) : (s.onEvt f).evt = f s.evt := (rfl)
@[simp] theorem State.onEvt_pwr (s : State) (f : EvtSt → EvtSt) : (s.onEvt f).pwr = s.pwr := (rfl)
@[simp] theorem State.onEvt_met (s : State) (f : EvtSt → EvtSt) : (s.onEvt f).met = s.met := (rfl)
@[simp] theorem State.onEvt_rad (s : State) (f : EvtSt → EvtSt) : (s.onEvt f).rad = s.rad := (rfl)
@[simp] theorem State.onEvt_link (s : State) (f : EvtSt → EvtSt) : (s.onEvt f).link = s.link := (rfl)
@[simp] theorem State.onEvt_plc (s : State) (f : EvtSt → EvtSt) : (s.onEvt f).plc = s.plc := (rfl)
@[simp] theorem State.onEvt_sess (s : State) (f : EvtSt → EvtSt) : (s.onEvt f).sess = s.sess := (rfl)
@[simp] theorem State.onEvt_vee (s : State) (f : EvtSt → EvtSt) : (s.onEvt f).vee = s.vee := (rfl)
@[simp] theorem State.onEvt_bal (s : State) (f : EvtSt → EvtSt) : (s.onEvt f).bal = s.bal := (rfl)
@[simp] theorem State.onEvt_arch (s : State) (f : EvtSt → EvtSt) : (s.onEvt f).arch = s.arch := (rfl)
@[simp] theorem State.onEvt_upl (s : State) (f : EvtSt → EvtSt) : (s.onEvt f).upl = s.upl := (rfl)
@[simp] theorem State.onEvt_fleet (s : State) (f : EvtSt → EvtSt) : (s.onEvt f).fleet = s.fleet := (rfl)
@[simp] theorem State.onEvt_pocket (s : State) (f : EvtSt → EvtSt) : (s.onEvt f).pocket = s.pocket := (rfl)
@[simp] theorem State.onEvt_fwu (s : State) (f : EvtSt → EvtSt) : (s.onEvt f).fwu = s.fwu := (rfl)
@[simp] theorem State.onEvt_pair (s : State) (f : EvtSt → EvtSt) : (s.onEvt f).pair = s.pair := (rfl)
@[simp] theorem State.onEvt_reg (s : State) (f : EvtSt → EvtSt) : (s.onEvt f).reg = s.reg := (rfl)
@[simp] theorem State.onEvt_pending (s : State) (f : EvtSt → EvtSt) : (s.onEvt f).pending = s.pending := (rfl)
@[simp] theorem State.onEvt_free (s : State) (f : EvtSt → EvtSt) : (s.onEvt f).free = s.free := (rfl)
@[simp] theorem State.onPwr_cfg (s : State) (f : PwrSt → PwrSt) : (s.onPwr f).cfg = s.cfg := (rfl)
@[simp] theorem State.onPwr_hosts (s : State) (f : PwrSt → PwrSt) : (s.onPwr f).hosts = s.hosts := (rfl)
@[simp] theorem State.onPwr_mains (s : State) (f : PwrSt → PwrSt) : (s.onPwr f).mains = s.mains := (rfl)
@[simp] theorem State.onPwr_sched (s : State) (f : PwrSt → PwrSt) : (s.onPwr f).sched = s.sched := (rfl)
@[simp] theorem State.onPwr_time (s : State) (f : PwrSt → PwrSt) : (s.onPwr f).time = s.time := (rfl)
@[simp] theorem State.onPwr_fab (s : State) (f : PwrSt → PwrSt) : (s.onPwr f).fab = s.fab := (rfl)
@[simp] theorem State.onPwr_evt (s : State) (f : PwrSt → PwrSt) : (s.onPwr f).evt = s.evt := (rfl)
@[simp] theorem State.onPwr_pwr (s : State) (f : PwrSt → PwrSt) : (s.onPwr f).pwr = f s.pwr := (rfl)
@[simp] theorem State.onPwr_met (s : State) (f : PwrSt → PwrSt) : (s.onPwr f).met = s.met := (rfl)
@[simp] theorem State.onPwr_rad (s : State) (f : PwrSt → PwrSt) : (s.onPwr f).rad = s.rad := (rfl)
@[simp] theorem State.onPwr_link (s : State) (f : PwrSt → PwrSt) : (s.onPwr f).link = s.link := (rfl)
@[simp] theorem State.onPwr_plc (s : State) (f : PwrSt → PwrSt) : (s.onPwr f).plc = s.plc := (rfl)
@[simp] theorem State.onPwr_sess (s : State) (f : PwrSt → PwrSt) : (s.onPwr f).sess = s.sess := (rfl)
@[simp] theorem State.onPwr_vee (s : State) (f : PwrSt → PwrSt) : (s.onPwr f).vee = s.vee := (rfl)
@[simp] theorem State.onPwr_bal (s : State) (f : PwrSt → PwrSt) : (s.onPwr f).bal = s.bal := (rfl)
@[simp] theorem State.onPwr_arch (s : State) (f : PwrSt → PwrSt) : (s.onPwr f).arch = s.arch := (rfl)
@[simp] theorem State.onPwr_upl (s : State) (f : PwrSt → PwrSt) : (s.onPwr f).upl = s.upl := (rfl)
@[simp] theorem State.onPwr_fleet (s : State) (f : PwrSt → PwrSt) : (s.onPwr f).fleet = s.fleet := (rfl)
@[simp] theorem State.onPwr_pocket (s : State) (f : PwrSt → PwrSt) : (s.onPwr f).pocket = s.pocket := (rfl)
@[simp] theorem State.onPwr_fwu (s : State) (f : PwrSt → PwrSt) : (s.onPwr f).fwu = s.fwu := (rfl)
@[simp] theorem State.onPwr_pair (s : State) (f : PwrSt → PwrSt) : (s.onPwr f).pair = s.pair := (rfl)
@[simp] theorem State.onPwr_reg (s : State) (f : PwrSt → PwrSt) : (s.onPwr f).reg = s.reg := (rfl)
@[simp] theorem State.onPwr_pending (s : State) (f : PwrSt → PwrSt) : (s.onPwr f).pending = s.pending := (rfl)
@[simp] theorem State.onPwr_free (s : State) (f : PwrSt → PwrSt) : (s.onPwr f).free = s.free := (rfl)
@[simp] theorem State.onMet_cfg (s : State) (f : MetSt → MetSt) : (s.onMet f).cfg = s.cfg := (rfl)
@[simp] theorem State.onMet_hosts (s : State) (f : MetSt → MetSt) : (s.onMet f).hosts = s.hosts := (rfl)
@[simp] theorem State.onMet_mains (s : State) (f : MetSt → MetSt) : (s.onMet f).mains = s.mains := (rfl)
@[simp] theorem State.onMet_sched (s : State) (f : MetSt → MetSt) : (s.onMet f).sched = s.sched := (rfl)
@[simp] theorem State.onMet_time (s : State) (f : MetSt → MetSt) : (s.onMet f).time = s.time := (rfl)
@[simp] theorem State.onMet_fab (s : State) (f : MetSt → MetSt) : (s.onMet f).fab = s.fab := (rfl)
@[simp] theorem State.onMet_evt (s : State) (f : MetSt → MetSt) : (s.onMet f).evt = s.evt := (rfl)
@[simp] theorem State.onMet_pwr (s : State) (f : MetSt → MetSt) : (s.onMet f).pwr = s.pwr := (rfl)
@[simp] theorem State.onMet_met (s : State) (f : MetSt → MetSt) : (s.onMet f).met = f s.met := (rfl)
@[simp] theorem State.onMet_rad (s : State) (f : MetSt → MetSt) : (s.onMet f).rad = s.rad := (rfl)
@[simp] theorem State.onMet_link (s : State) (f : MetSt → MetSt) : (s.onMet f).link = s.link := (rfl)
@[simp] theorem State.onMet_plc (s : State) (f : MetSt → MetSt) : (s.onMet f).plc = s.plc := (rfl)
@[simp] theorem State.onMet_sess (s : State) (f : MetSt → MetSt) : (s.onMet f).sess = s.sess := (rfl)
@[simp] theorem State.onMet_vee (s : State) (f : MetSt → MetSt) : (s.onMet f).vee = s.vee := (rfl)
@[simp] theorem State.onMet_bal (s : State) (f : MetSt → MetSt) : (s.onMet f).bal = s.bal := (rfl)
@[simp] theorem State.onMet_arch (s : State) (f : MetSt → MetSt) : (s.onMet f).arch = s.arch := (rfl)
@[simp] theorem State.onMet_upl (s : State) (f : MetSt → MetSt) : (s.onMet f).upl = s.upl := (rfl)
@[simp] theorem State.onMet_fleet (s : State) (f : MetSt → MetSt) : (s.onMet f).fleet = s.fleet := (rfl)
@[simp] theorem State.onMet_pocket (s : State) (f : MetSt → MetSt) : (s.onMet f).pocket = s.pocket := (rfl)
@[simp] theorem State.onMet_fwu (s : State) (f : MetSt → MetSt) : (s.onMet f).fwu = s.fwu := (rfl)
@[simp] theorem State.onMet_pair (s : State) (f : MetSt → MetSt) : (s.onMet f).pair = s.pair := (rfl)
@[simp] theorem State.onMet_reg (s : State) (f : MetSt → MetSt) : (s.onMet f).reg = s.reg := (rfl)
@[simp] theorem State.onMet_pending (s : State) (f : MetSt → MetSt) : (s.onMet f).pending = s.pending := (rfl)
@[simp] theorem State.onMet_free (s : State) (f : MetSt → MetSt) : (s.onMet f).free = s.free := (rfl)
@[simp] theorem State.onRad_cfg (s : State) (f : RadSt → RadSt) : (s.onRad f).cfg = s.cfg := (rfl)
@[simp] theorem State.onRad_hosts (s : State) (f : RadSt → RadSt) : (s.onRad f).hosts = s.hosts := (rfl)
@[simp] theorem State.onRad_mains (s : State) (f : RadSt → RadSt) : (s.onRad f).mains = s.mains := (rfl)
@[simp] theorem State.onRad_sched (s : State) (f : RadSt → RadSt) : (s.onRad f).sched = s.sched := (rfl)
@[simp] theorem State.onRad_time (s : State) (f : RadSt → RadSt) : (s.onRad f).time = s.time := (rfl)
@[simp] theorem State.onRad_fab (s : State) (f : RadSt → RadSt) : (s.onRad f).fab = s.fab := (rfl)
@[simp] theorem State.onRad_evt (s : State) (f : RadSt → RadSt) : (s.onRad f).evt = s.evt := (rfl)
@[simp] theorem State.onRad_pwr (s : State) (f : RadSt → RadSt) : (s.onRad f).pwr = s.pwr := (rfl)
@[simp] theorem State.onRad_met (s : State) (f : RadSt → RadSt) : (s.onRad f).met = s.met := (rfl)
@[simp] theorem State.onRad_rad (s : State) (f : RadSt → RadSt) : (s.onRad f).rad = f s.rad := (rfl)
@[simp] theorem State.onRad_link (s : State) (f : RadSt → RadSt) : (s.onRad f).link = s.link := (rfl)
@[simp] theorem State.onRad_plc (s : State) (f : RadSt → RadSt) : (s.onRad f).plc = s.plc := (rfl)
@[simp] theorem State.onRad_sess (s : State) (f : RadSt → RadSt) : (s.onRad f).sess = s.sess := (rfl)
@[simp] theorem State.onRad_vee (s : State) (f : RadSt → RadSt) : (s.onRad f).vee = s.vee := (rfl)
@[simp] theorem State.onRad_bal (s : State) (f : RadSt → RadSt) : (s.onRad f).bal = s.bal := (rfl)
@[simp] theorem State.onRad_arch (s : State) (f : RadSt → RadSt) : (s.onRad f).arch = s.arch := (rfl)
@[simp] theorem State.onRad_upl (s : State) (f : RadSt → RadSt) : (s.onRad f).upl = s.upl := (rfl)
@[simp] theorem State.onRad_fleet (s : State) (f : RadSt → RadSt) : (s.onRad f).fleet = s.fleet := (rfl)
@[simp] theorem State.onRad_pocket (s : State) (f : RadSt → RadSt) : (s.onRad f).pocket = s.pocket := (rfl)
@[simp] theorem State.onRad_fwu (s : State) (f : RadSt → RadSt) : (s.onRad f).fwu = s.fwu := (rfl)
@[simp] theorem State.onRad_pair (s : State) (f : RadSt → RadSt) : (s.onRad f).pair = s.pair := (rfl)
@[simp] theorem State.onRad_reg (s : State) (f : RadSt → RadSt) : (s.onRad f).reg = s.reg := (rfl)
@[simp] theorem State.onRad_pending (s : State) (f : RadSt → RadSt) : (s.onRad f).pending = s.pending := (rfl)
@[simp] theorem State.onRad_free (s : State) (f : RadSt → RadSt) : (s.onRad f).free = s.free := (rfl)
@[simp] theorem State.onLink_cfg (s : State) (f : LinkSt → LinkSt) : (s.onLink f).cfg = s.cfg := (rfl)
@[simp] theorem State.onLink_hosts (s : State) (f : LinkSt → LinkSt) : (s.onLink f).hosts = s.hosts := (rfl)
@[simp] theorem State.onLink_mains (s : State) (f : LinkSt → LinkSt) : (s.onLink f).mains = s.mains := (rfl)
@[simp] theorem State.onLink_sched (s : State) (f : LinkSt → LinkSt) : (s.onLink f).sched = s.sched := (rfl)
@[simp] theorem State.onLink_time (s : State) (f : LinkSt → LinkSt) : (s.onLink f).time = s.time := (rfl)
@[simp] theorem State.onLink_fab (s : State) (f : LinkSt → LinkSt) : (s.onLink f).fab = s.fab := (rfl)
@[simp] theorem State.onLink_evt (s : State) (f : LinkSt → LinkSt) : (s.onLink f).evt = s.evt := (rfl)
@[simp] theorem State.onLink_pwr (s : State) (f : LinkSt → LinkSt) : (s.onLink f).pwr = s.pwr := (rfl)
@[simp] theorem State.onLink_met (s : State) (f : LinkSt → LinkSt) : (s.onLink f).met = s.met := (rfl)
@[simp] theorem State.onLink_rad (s : State) (f : LinkSt → LinkSt) : (s.onLink f).rad = s.rad := (rfl)
@[simp] theorem State.onLink_link (s : State) (f : LinkSt → LinkSt) : (s.onLink f).link = f s.link := (rfl)
@[simp] theorem State.onLink_plc (s : State) (f : LinkSt → LinkSt) : (s.onLink f).plc = s.plc := (rfl)
@[simp] theorem State.onLink_sess (s : State) (f : LinkSt → LinkSt) : (s.onLink f).sess = s.sess := (rfl)
@[simp] theorem State.onLink_vee (s : State) (f : LinkSt → LinkSt) : (s.onLink f).vee = s.vee := (rfl)
@[simp] theorem State.onLink_bal (s : State) (f : LinkSt → LinkSt) : (s.onLink f).bal = s.bal := (rfl)
@[simp] theorem State.onLink_arch (s : State) (f : LinkSt → LinkSt) : (s.onLink f).arch = s.arch := (rfl)
@[simp] theorem State.onLink_upl (s : State) (f : LinkSt → LinkSt) : (s.onLink f).upl = s.upl := (rfl)
@[simp] theorem State.onLink_fleet (s : State) (f : LinkSt → LinkSt) : (s.onLink f).fleet = s.fleet := (rfl)
@[simp] theorem State.onLink_pocket (s : State) (f : LinkSt → LinkSt) : (s.onLink f).pocket = s.pocket := (rfl)
@[simp] theorem State.onLink_fwu (s : State) (f : LinkSt → LinkSt) : (s.onLink f).fwu = s.fwu := (rfl)
@[simp] theorem State.onLink_pair (s : State) (f : LinkSt → LinkSt) : (s.onLink f).pair = s.pair := (rfl)
@[simp] theorem State.onLink_reg (s : State) (f : LinkSt → LinkSt) : (s.onLink f).reg = s.reg := (rfl)
@[simp] theorem State.onLink_pending (s : State) (f : LinkSt → LinkSt) : (s.onLink f).pending = s.pending := (rfl)
@[simp] theorem State.onLink_free (s : State) (f : LinkSt → LinkSt) : (s.onLink f).free = s.free := (rfl)
@[simp] theorem State.onPlc_cfg (s : State) (f : PlcSt → PlcSt) : (s.onPlc f).cfg = s.cfg := (rfl)
@[simp] theorem State.onPlc_hosts (s : State) (f : PlcSt → PlcSt) : (s.onPlc f).hosts = s.hosts := (rfl)
@[simp] theorem State.onPlc_mains (s : State) (f : PlcSt → PlcSt) : (s.onPlc f).mains = s.mains := (rfl)
@[simp] theorem State.onPlc_sched (s : State) (f : PlcSt → PlcSt) : (s.onPlc f).sched = s.sched := (rfl)
@[simp] theorem State.onPlc_time (s : State) (f : PlcSt → PlcSt) : (s.onPlc f).time = s.time := (rfl)
@[simp] theorem State.onPlc_fab (s : State) (f : PlcSt → PlcSt) : (s.onPlc f).fab = s.fab := (rfl)
@[simp] theorem State.onPlc_evt (s : State) (f : PlcSt → PlcSt) : (s.onPlc f).evt = s.evt := (rfl)
@[simp] theorem State.onPlc_pwr (s : State) (f : PlcSt → PlcSt) : (s.onPlc f).pwr = s.pwr := (rfl)
@[simp] theorem State.onPlc_met (s : State) (f : PlcSt → PlcSt) : (s.onPlc f).met = s.met := (rfl)
@[simp] theorem State.onPlc_rad (s : State) (f : PlcSt → PlcSt) : (s.onPlc f).rad = s.rad := (rfl)
@[simp] theorem State.onPlc_link (s : State) (f : PlcSt → PlcSt) : (s.onPlc f).link = s.link := (rfl)
@[simp] theorem State.onPlc_plc (s : State) (f : PlcSt → PlcSt) : (s.onPlc f).plc = f s.plc := (rfl)
@[simp] theorem State.onPlc_sess (s : State) (f : PlcSt → PlcSt) : (s.onPlc f).sess = s.sess := (rfl)
@[simp] theorem State.onPlc_vee (s : State) (f : PlcSt → PlcSt) : (s.onPlc f).vee = s.vee := (rfl)
@[simp] theorem State.onPlc_bal (s : State) (f : PlcSt → PlcSt) : (s.onPlc f).bal = s.bal := (rfl)
@[simp] theorem State.onPlc_arch (s : State) (f : PlcSt → PlcSt) : (s.onPlc f).arch = s.arch := (rfl)
@[simp] theorem State.onPlc_upl (s : State) (f : PlcSt → PlcSt) : (s.onPlc f).upl = s.upl := (rfl)
@[simp] theorem State.onPlc_fleet (s : State) (f : PlcSt → PlcSt) : (s.onPlc f).fleet = s.fleet := (rfl)
@[simp] theorem State.onPlc_pocket (s : State) (f : PlcSt → PlcSt) : (s.onPlc f).pocket = s.pocket := (rfl)
@[simp] theorem State.onPlc_fwu (s : State) (f : PlcSt → PlcSt) : (s.onPlc f).fwu = s.fwu := (rfl)
@[simp] theorem State.onPlc_pair (s : State) (f : PlcSt → PlcSt) : (s.onPlc f).pair = s.pair := (rfl)
@[simp] theorem State.onPlc_reg (s : State) (f : PlcSt → PlcSt) : (s.onPlc f).reg = s.reg := (rfl)
@[simp] theorem State.onPlc_pending (s : State) (f : PlcSt → PlcSt) : (s.onPlc f).pending = s.pending := (rfl)
@[simp] theorem State.onPlc_free (s : State) (f : PlcSt → PlcSt) : (s.onPlc f).free = s.free := (rfl)
@[simp] theorem State.onSess_cfg (s : State) (f : SessSt → SessSt) : (s.onSess f).cfg = s.cfg := (rfl)
@[simp] theorem State.onSess_hosts (s : State) (f : SessSt → SessSt) : (s.onSess f).hosts = s.hosts := (rfl)
@[simp] theorem State.onSess_mains (s : State) (f : SessSt → SessSt) : (s.onSess f).mains = s.mains := (rfl)
@[simp] theorem State.onSess_sched (s : State) (f : SessSt → SessSt) : (s.onSess f).sched = s.sched := (rfl)
@[simp] theorem State.onSess_time (s : State) (f : SessSt → SessSt) : (s.onSess f).time = s.time := (rfl)
@[simp] theorem State.onSess_fab (s : State) (f : SessSt → SessSt) : (s.onSess f).fab = s.fab := (rfl)
@[simp] theorem State.onSess_evt (s : State) (f : SessSt → SessSt) : (s.onSess f).evt = s.evt := (rfl)
@[simp] theorem State.onSess_pwr (s : State) (f : SessSt → SessSt) : (s.onSess f).pwr = s.pwr := (rfl)
@[simp] theorem State.onSess_met (s : State) (f : SessSt → SessSt) : (s.onSess f).met = s.met := (rfl)
@[simp] theorem State.onSess_rad (s : State) (f : SessSt → SessSt) : (s.onSess f).rad = s.rad := (rfl)
@[simp] theorem State.onSess_link (s : State) (f : SessSt → SessSt) : (s.onSess f).link = s.link := (rfl)
@[simp] theorem State.onSess_plc (s : State) (f : SessSt → SessSt) : (s.onSess f).plc = s.plc := (rfl)
@[simp] theorem State.onSess_sess (s : State) (f : SessSt → SessSt) : (s.onSess f).sess = f s.sess := (rfl)
@[simp] theorem State.onSess_vee (s : State) (f : SessSt → SessSt) : (s.onSess f).vee = s.vee := (rfl)
@[simp] theorem State.onSess_bal (s : State) (f : SessSt → SessSt) : (s.onSess f).bal = s.bal := (rfl)
@[simp] theorem State.onSess_arch (s : State) (f : SessSt → SessSt) : (s.onSess f).arch = s.arch := (rfl)
@[simp] theorem State.onSess_upl (s : State) (f : SessSt → SessSt) : (s.onSess f).upl = s.upl := (rfl)
@[simp] theorem State.onSess_fleet (s : State) (f : SessSt → SessSt) : (s.onSess f).fleet = s.fleet := (rfl)
@[simp] theorem State.onSess_pocket (s : State) (f : SessSt → SessSt) : (s.onSess f).pocket = s.pocket := (rfl)
@[simp] theorem State.onSess_fwu (s : State) (f : SessSt → SessSt) : (s.onSess f).fwu = s.fwu := (rfl)
@[simp] theorem State.onSess_pair (s : State) (f : SessSt → SessSt) : (s.onSess f).pair = s.pair := (rfl)
@[simp] theorem State.onSess_reg (s : State) (f : SessSt → SessSt) : (s.onSess f).reg = s.reg := (rfl)
@[simp] theorem State.onSess_pending (s : State) (f : SessSt → SessSt) : (s.onSess f).pending = s.pending := (rfl)
@[simp] theorem State.onSess_free (s : State) (f : SessSt → SessSt) : (s.onSess f).free = s.free := (rfl)
@[simp] theorem State.onVee_cfg (s : State) (f : VeeSt → VeeSt) : (s.onVee f).cfg = s.cfg := (rfl)
@[simp] theorem State.onVee_hosts (s : State) (f : VeeSt → VeeSt) : (s.onVee f).hosts = s.hosts := (rfl)
@[simp] theorem State.onVee_mains (s : State) (f : VeeSt → VeeSt) : (s.onVee f).mains = s.mains := (rfl)
@[simp] theorem State.onVee_sched (s : State) (f : VeeSt → VeeSt) : (s.onVee f).sched = s.sched := (rfl)
@[simp] theorem State.onVee_time (s : State) (f : VeeSt → VeeSt) : (s.onVee f).time = s.time := (rfl)
@[simp] theorem State.onVee_fab (s : State) (f : VeeSt → VeeSt) : (s.onVee f).fab = s.fab := (rfl)
@[simp] theorem State.onVee_evt (s : State) (f : VeeSt → VeeSt) : (s.onVee f).evt = s.evt := (rfl)
@[simp] theorem State.onVee_pwr (s : State) (f : VeeSt → VeeSt) : (s.onVee f).pwr = s.pwr := (rfl)
@[simp] theorem State.onVee_met (s : State) (f : VeeSt → VeeSt) : (s.onVee f).met = s.met := (rfl)
@[simp] theorem State.onVee_rad (s : State) (f : VeeSt → VeeSt) : (s.onVee f).rad = s.rad := (rfl)
@[simp] theorem State.onVee_link (s : State) (f : VeeSt → VeeSt) : (s.onVee f).link = s.link := (rfl)
@[simp] theorem State.onVee_plc (s : State) (f : VeeSt → VeeSt) : (s.onVee f).plc = s.plc := (rfl)
@[simp] theorem State.onVee_sess (s : State) (f : VeeSt → VeeSt) : (s.onVee f).sess = s.sess := (rfl)
@[simp] theorem State.onVee_vee (s : State) (f : VeeSt → VeeSt) : (s.onVee f).vee = f s.vee := (rfl)
@[simp] theorem State.onVee_bal (s : State) (f : VeeSt → VeeSt) : (s.onVee f).bal = s.bal := (rfl)
@[simp] theorem State.onVee_arch (s : State) (f : VeeSt → VeeSt) : (s.onVee f).arch = s.arch := (rfl)
@[simp] theorem State.onVee_upl (s : State) (f : VeeSt → VeeSt) : (s.onVee f).upl = s.upl := (rfl)
@[simp] theorem State.onVee_fleet (s : State) (f : VeeSt → VeeSt) : (s.onVee f).fleet = s.fleet := (rfl)
@[simp] theorem State.onVee_pocket (s : State) (f : VeeSt → VeeSt) : (s.onVee f).pocket = s.pocket := (rfl)
@[simp] theorem State.onVee_fwu (s : State) (f : VeeSt → VeeSt) : (s.onVee f).fwu = s.fwu := (rfl)
@[simp] theorem State.onVee_pair (s : State) (f : VeeSt → VeeSt) : (s.onVee f).pair = s.pair := (rfl)
@[simp] theorem State.onVee_reg (s : State) (f : VeeSt → VeeSt) : (s.onVee f).reg = s.reg := (rfl)
@[simp] theorem State.onVee_pending (s : State) (f : VeeSt → VeeSt) : (s.onVee f).pending = s.pending := (rfl)
@[simp] theorem State.onVee_free (s : State) (f : VeeSt → VeeSt) : (s.onVee f).free = s.free := (rfl)
@[simp] theorem State.onBal_cfg (s : State) (f : BalSt → BalSt) : (s.onBal f).cfg = s.cfg := (rfl)
@[simp] theorem State.onBal_hosts (s : State) (f : BalSt → BalSt) : (s.onBal f).hosts = s.hosts := (rfl)
@[simp] theorem State.onBal_mains (s : State) (f : BalSt → BalSt) : (s.onBal f).mains = s.mains := (rfl)
@[simp] theorem State.onBal_sched (s : State) (f : BalSt → BalSt) : (s.onBal f).sched = s.sched := (rfl)
@[simp] theorem State.onBal_time (s : State) (f : BalSt → BalSt) : (s.onBal f).time = s.time := (rfl)
@[simp] theorem State.onBal_fab (s : State) (f : BalSt → BalSt) : (s.onBal f).fab = s.fab := (rfl)
@[simp] theorem State.onBal_evt (s : State) (f : BalSt → BalSt) : (s.onBal f).evt = s.evt := (rfl)
@[simp] theorem State.onBal_pwr (s : State) (f : BalSt → BalSt) : (s.onBal f).pwr = s.pwr := (rfl)
@[simp] theorem State.onBal_met (s : State) (f : BalSt → BalSt) : (s.onBal f).met = s.met := (rfl)
@[simp] theorem State.onBal_rad (s : State) (f : BalSt → BalSt) : (s.onBal f).rad = s.rad := (rfl)
@[simp] theorem State.onBal_link (s : State) (f : BalSt → BalSt) : (s.onBal f).link = s.link := (rfl)
@[simp] theorem State.onBal_plc (s : State) (f : BalSt → BalSt) : (s.onBal f).plc = s.plc := (rfl)
@[simp] theorem State.onBal_sess (s : State) (f : BalSt → BalSt) : (s.onBal f).sess = s.sess := (rfl)
@[simp] theorem State.onBal_vee (s : State) (f : BalSt → BalSt) : (s.onBal f).vee = s.vee := (rfl)
@[simp] theorem State.onBal_bal (s : State) (f : BalSt → BalSt) : (s.onBal f).bal = f s.bal := (rfl)
@[simp] theorem State.onBal_arch (s : State) (f : BalSt → BalSt) : (s.onBal f).arch = s.arch := (rfl)
@[simp] theorem State.onBal_upl (s : State) (f : BalSt → BalSt) : (s.onBal f).upl = s.upl := (rfl)
@[simp] theorem State.onBal_fleet (s : State) (f : BalSt → BalSt) : (s.onBal f).fleet = s.fleet := (rfl)
@[simp] theorem State.onBal_pocket (s : State) (f : BalSt → BalSt) : (s.onBal f).pocket = s.pocket := (rfl)
@[simp] theorem State.onBal_fwu (s : State) (f : BalSt → BalSt) : (s.onBal f).fwu = s.fwu := (rfl)
@[simp] theorem State.onBal_pair (s : State) (f : BalSt → BalSt) : (s.onBal f).pair = s.pair := (rfl)
@[simp] theorem State.onBal_reg (s : State) (f : BalSt → BalSt) : (s.onBal f).reg = s.reg := (rfl)
@[simp] theorem State.onBal_pending (s : State) (f : BalSt → BalSt) : (s.onBal f).pending = s.pending := (rfl)
@[simp] theorem State.onBal_free (s : State) (f : BalSt → BalSt) : (s.onBal f).free = s.free := (rfl)
@[simp] theorem State.onArch_cfg (s : State) (f : ArchSt → ArchSt) : (s.onArch f).cfg = s.cfg := (rfl)
@[simp] theorem State.onArch_hosts (s : State) (f : ArchSt → ArchSt) : (s.onArch f).hosts = s.hosts := (rfl)
@[simp] theorem State.onArch_mains (s : State) (f : ArchSt → ArchSt) : (s.onArch f).mains = s.mains := (rfl)
@[simp] theorem State.onArch_sched (s : State) (f : ArchSt → ArchSt) : (s.onArch f).sched = s.sched := (rfl)
@[simp] theorem State.onArch_time (s : State) (f : ArchSt → ArchSt) : (s.onArch f).time = s.time := (rfl)
@[simp] theorem State.onArch_fab (s : State) (f : ArchSt → ArchSt) : (s.onArch f).fab = s.fab := (rfl)
@[simp] theorem State.onArch_evt (s : State) (f : ArchSt → ArchSt) : (s.onArch f).evt = s.evt := (rfl)
@[simp] theorem State.onArch_pwr (s : State) (f : ArchSt → ArchSt) : (s.onArch f).pwr = s.pwr := (rfl)
@[simp] theorem State.onArch_met (s : State) (f : ArchSt → ArchSt) : (s.onArch f).met = s.met := (rfl)
@[simp] theorem State.onArch_rad (s : State) (f : ArchSt → ArchSt) : (s.onArch f).rad = s.rad := (rfl)
@[simp] theorem State.onArch_link (s : State) (f : ArchSt → ArchSt) : (s.onArch f).link = s.link := (rfl)
@[simp] theorem State.onArch_plc (s : State) (f : ArchSt → ArchSt) : (s.onArch f).plc = s.plc := (rfl)
@[simp] theorem State.onArch_sess (s : State) (f : ArchSt → ArchSt) : (s.onArch f).sess = s.sess := (rfl)
@[simp] theorem State.onArch_vee (s : State) (f : ArchSt → ArchSt) : (s.onArch f).vee = s.vee := (rfl)
@[simp] theorem State.onArch_bal (s : State) (f : ArchSt → ArchSt) : (s.onArch f).bal = s.bal := (rfl)
@[simp] theorem State.onArch_arch (s : State) (f : ArchSt → ArchSt) : (s.onArch f).arch = f s.arch := (rfl)
@[simp] theorem State.onArch_upl (s : State) (f : ArchSt → ArchSt) : (s.onArch f).upl = s.upl := (rfl)
@[simp] theorem State.onArch_fleet (s : State) (f : ArchSt → ArchSt) : (s.onArch f).fleet = s.fleet := (rfl)
@[simp] theorem State.onArch_pocket (s : State) (f : ArchSt → ArchSt) : (s.onArch f).pocket = s.pocket := (rfl)
@[simp] theorem State.onArch_fwu (s : State) (f : ArchSt → ArchSt) : (s.onArch f).fwu = s.fwu := (rfl)
@[simp] theorem State.onArch_pair (s : State) (f : ArchSt → ArchSt) : (s.onArch f).pair = s.pair := (rfl)
@[simp] theorem State.onArch_reg (s : State) (f : ArchSt → ArchSt) : (s.onArch f).reg = s.reg := (rfl)
@[simp] theorem State.onArch_pending (s : State) (f : ArchSt → ArchSt) : (s.onArch f).pending = s.pending := (rfl)
@[simp] theorem State.onArch_free (s : State) (f : ArchSt → ArchSt) : (s.onArch f).free = s.free := (rfl)
@[simp] theorem State.onUpl_cfg (s : State) (f : UplSt → UplSt) : (s.onUpl f).cfg = s.cfg := (rfl)
@[simp] theorem State.onUpl_hosts (s : State) (f : UplSt → UplSt) : (s.onUpl f).hosts = s.hosts := (rfl)
@[simp] theorem State.onUpl_mains (s : State) (f : UplSt → UplSt) : (s.onUpl f).mains = s.mains := (rfl)
@[simp] theorem State.onUpl_sched (s : State) (f : UplSt → UplSt) : (s.onUpl f).sched = s.sched := (rfl)
@[simp] theorem State.onUpl_time (s : State) (f : UplSt → UplSt) : (s.onUpl f).time = s.time := (rfl)
@[simp] theorem State.onUpl_fab (s : State) (f : UplSt → UplSt) : (s.onUpl f).fab = s.fab := (rfl)
@[simp] theorem State.onUpl_evt (s : State) (f : UplSt → UplSt) : (s.onUpl f).evt = s.evt := (rfl)
@[simp] theorem State.onUpl_pwr (s : State) (f : UplSt → UplSt) : (s.onUpl f).pwr = s.pwr := (rfl)
@[simp] theorem State.onUpl_met (s : State) (f : UplSt → UplSt) : (s.onUpl f).met = s.met := (rfl)
@[simp] theorem State.onUpl_rad (s : State) (f : UplSt → UplSt) : (s.onUpl f).rad = s.rad := (rfl)
@[simp] theorem State.onUpl_link (s : State) (f : UplSt → UplSt) : (s.onUpl f).link = s.link := (rfl)
@[simp] theorem State.onUpl_plc (s : State) (f : UplSt → UplSt) : (s.onUpl f).plc = s.plc := (rfl)
@[simp] theorem State.onUpl_sess (s : State) (f : UplSt → UplSt) : (s.onUpl f).sess = s.sess := (rfl)
@[simp] theorem State.onUpl_vee (s : State) (f : UplSt → UplSt) : (s.onUpl f).vee = s.vee := (rfl)
@[simp] theorem State.onUpl_bal (s : State) (f : UplSt → UplSt) : (s.onUpl f).bal = s.bal := (rfl)
@[simp] theorem State.onUpl_arch (s : State) (f : UplSt → UplSt) : (s.onUpl f).arch = s.arch := (rfl)
@[simp] theorem State.onUpl_upl (s : State) (f : UplSt → UplSt) : (s.onUpl f).upl = f s.upl := (rfl)
@[simp] theorem State.onUpl_fleet (s : State) (f : UplSt → UplSt) : (s.onUpl f).fleet = s.fleet := (rfl)
@[simp] theorem State.onUpl_pocket (s : State) (f : UplSt → UplSt) : (s.onUpl f).pocket = s.pocket := (rfl)
@[simp] theorem State.onUpl_fwu (s : State) (f : UplSt → UplSt) : (s.onUpl f).fwu = s.fwu := (rfl)
@[simp] theorem State.onUpl_pair (s : State) (f : UplSt → UplSt) : (s.onUpl f).pair = s.pair := (rfl)
@[simp] theorem State.onUpl_reg (s : State) (f : UplSt → UplSt) : (s.onUpl f).reg = s.reg := (rfl)
@[simp] theorem State.onUpl_pending (s : State) (f : UplSt → UplSt) : (s.onUpl f).pending = s.pending := (rfl)
@[simp] theorem State.onUpl_free (s : State) (f : UplSt → UplSt) : (s.onUpl f).free = s.free := (rfl)
@[simp] theorem State.onFleet_cfg (s : State) (f : FleetSt → FleetSt) : (s.onFleet f).cfg = s.cfg := (rfl)
@[simp] theorem State.onFleet_hosts (s : State) (f : FleetSt → FleetSt) : (s.onFleet f).hosts = s.hosts := (rfl)
@[simp] theorem State.onFleet_mains (s : State) (f : FleetSt → FleetSt) : (s.onFleet f).mains = s.mains := (rfl)
@[simp] theorem State.onFleet_sched (s : State) (f : FleetSt → FleetSt) : (s.onFleet f).sched = s.sched := (rfl)
@[simp] theorem State.onFleet_time (s : State) (f : FleetSt → FleetSt) : (s.onFleet f).time = s.time := (rfl)
@[simp] theorem State.onFleet_fab (s : State) (f : FleetSt → FleetSt) : (s.onFleet f).fab = s.fab := (rfl)
@[simp] theorem State.onFleet_evt (s : State) (f : FleetSt → FleetSt) : (s.onFleet f).evt = s.evt := (rfl)
@[simp] theorem State.onFleet_pwr (s : State) (f : FleetSt → FleetSt) : (s.onFleet f).pwr = s.pwr := (rfl)
@[simp] theorem State.onFleet_met (s : State) (f : FleetSt → FleetSt) : (s.onFleet f).met = s.met := (rfl)
@[simp] theorem State.onFleet_rad (s : State) (f : FleetSt → FleetSt) : (s.onFleet f).rad = s.rad := (rfl)
@[simp] theorem State.onFleet_link (s : State) (f : FleetSt → FleetSt) : (s.onFleet f).link = s.link := (rfl)
@[simp] theorem State.onFleet_plc (s : State) (f : FleetSt → FleetSt) : (s.onFleet f).plc = s.plc := (rfl)
@[simp] theorem State.onFleet_sess (s : State) (f : FleetSt → FleetSt) : (s.onFleet f).sess = s.sess := (rfl)
@[simp] theorem State.onFleet_vee (s : State) (f : FleetSt → FleetSt) : (s.onFleet f).vee = s.vee := (rfl)
@[simp] theorem State.onFleet_bal (s : State) (f : FleetSt → FleetSt) : (s.onFleet f).bal = s.bal := (rfl)
@[simp] theorem State.onFleet_arch (s : State) (f : FleetSt → FleetSt) : (s.onFleet f).arch = s.arch := (rfl)
@[simp] theorem State.onFleet_upl (s : State) (f : FleetSt → FleetSt) : (s.onFleet f).upl = s.upl := (rfl)
@[simp] theorem State.onFleet_fleet (s : State) (f : FleetSt → FleetSt) : (s.onFleet f).fleet = f s.fleet := (rfl)
@[simp] theorem State.onFleet_pocket (s : State) (f : FleetSt → FleetSt) : (s.onFleet f).pocket = s.pocket := (rfl)
@[simp] theorem State.onFleet_fwu (s : State) (f : FleetSt → FleetSt) : (s.onFleet f).fwu = s.fwu := (rfl)
@[simp] theorem State.onFleet_pair (s : State) (f : FleetSt → FleetSt) : (s.onFleet f).pair = s.pair := (rfl)
@[simp] theorem State.onFleet_reg (s : State) (f : FleetSt → FleetSt) : (s.onFleet f).reg = s.reg := (rfl)
@[simp] theorem State.onFleet_pending (s : State) (f : FleetSt → FleetSt) : (s.onFleet f).pending = s.pending := (rfl)
@[simp] theorem State.onFleet_free (s : State) (f : FleetSt → FleetSt) : (s.onFleet f).free = s.free := (rfl)
@[simp] theorem State.onPocket_cfg (s : State) (f : KeySt → KeySt) : (s.onPocket f).cfg = s.cfg := (rfl)
@[simp] theorem State.onPocket_hosts (s : State) (f : KeySt → KeySt) : (s.onPocket f).hosts = s.hosts := (rfl)
@[simp] theorem State.onPocket_mains (s : State) (f : KeySt → KeySt) : (s.onPocket f).mains = s.mains := (rfl)
@[simp] theorem State.onPocket_sched (s : State) (f : KeySt → KeySt) : (s.onPocket f).sched = s.sched := (rfl)
@[simp] theorem State.onPocket_time (s : State) (f : KeySt → KeySt) : (s.onPocket f).time = s.time := (rfl)
@[simp] theorem State.onPocket_fab (s : State) (f : KeySt → KeySt) : (s.onPocket f).fab = s.fab := (rfl)
@[simp] theorem State.onPocket_evt (s : State) (f : KeySt → KeySt) : (s.onPocket f).evt = s.evt := (rfl)
@[simp] theorem State.onPocket_pwr (s : State) (f : KeySt → KeySt) : (s.onPocket f).pwr = s.pwr := (rfl)
@[simp] theorem State.onPocket_met (s : State) (f : KeySt → KeySt) : (s.onPocket f).met = s.met := (rfl)
@[simp] theorem State.onPocket_rad (s : State) (f : KeySt → KeySt) : (s.onPocket f).rad = s.rad := (rfl)
@[simp] theorem State.onPocket_link (s : State) (f : KeySt → KeySt) : (s.onPocket f).link = s.link := (rfl)
@[simp] theorem State.onPocket_plc (s : State) (f : KeySt → KeySt) : (s.onPocket f).plc = s.plc := (rfl)
@[simp] theorem State.onPocket_sess (s : State) (f : KeySt → KeySt) : (s.onPocket f).sess = s.sess := (rfl)
@[simp] theorem State.onPocket_vee (s : State) (f : KeySt → KeySt) : (s.onPocket f).vee = s.vee := (rfl)
@[simp] theorem State.onPocket_bal (s : State) (f : KeySt → KeySt) : (s.onPocket f).bal = s.bal := (rfl)
@[simp] theorem State.onPocket_arch (s : State) (f : KeySt → KeySt) : (s.onPocket f).arch = s.arch := (rfl)
@[simp] theorem State.onPocket_upl (s : State) (f : KeySt → KeySt) : (s.onPocket f).upl = s.upl := (rfl)
@[simp] theorem State.onPocket_fleet (s : State) (f : KeySt → KeySt) : (s.onPocket f).fleet = s.fleet := (rfl)
@[simp] theorem State.onPocket_pocket (s : State) (f : KeySt → KeySt) : (s.onPocket f).pocket = f s.pocket := (rfl)
@[simp] theorem State.onPocket_fwu (s : State) (f : KeySt → KeySt) : (s.onPocket f).fwu = s.fwu := (rfl)
@[simp] theorem State.onPocket_pair (s : State) (f : KeySt → KeySt) : (s.onPocket f).pair = s.pair := (rfl)
@[simp] theorem State.onPocket_reg (s : State) (f : KeySt → KeySt) : (s.onPocket f).reg = s.reg := (rfl)
@[simp] theorem State.onPocket_pending (s : State) (f : KeySt → KeySt) : (s.onPocket f).pending = s.pending := (rfl)
@[simp] theorem State.onPocket_free (s : State) (f : KeySt → KeySt) : (s.onPocket f).free = s.free := (rfl)
@[simp] theorem State.onFwu_cfg (s : State) (f : FwuSt → FwuSt) : (s.onFwu f).cfg = s.cfg := (rfl)
@[simp] theorem State.onFwu_hosts (s : State) (f : FwuSt → FwuSt) : (s.onFwu f).hosts = s.hosts := (rfl)
@[simp] theorem State.onFwu_mains (s : State) (f : FwuSt → FwuSt) : (s.onFwu f).mains = s.mains := (rfl)
@[simp] theorem State.onFwu_sched (s : State) (f : FwuSt → FwuSt) : (s.onFwu f).sched = s.sched := (rfl)
@[simp] theorem State.onFwu_time (s : State) (f : FwuSt → FwuSt) : (s.onFwu f).time = s.time := (rfl)
@[simp] theorem State.onFwu_fab (s : State) (f : FwuSt → FwuSt) : (s.onFwu f).fab = s.fab := (rfl)
@[simp] theorem State.onFwu_evt (s : State) (f : FwuSt → FwuSt) : (s.onFwu f).evt = s.evt := (rfl)
@[simp] theorem State.onFwu_pwr (s : State) (f : FwuSt → FwuSt) : (s.onFwu f).pwr = s.pwr := (rfl)
@[simp] theorem State.onFwu_met (s : State) (f : FwuSt → FwuSt) : (s.onFwu f).met = s.met := (rfl)
@[simp] theorem State.onFwu_rad (s : State) (f : FwuSt → FwuSt) : (s.onFwu f).rad = s.rad := (rfl)
@[simp] theorem State.onFwu_link (s : State) (f : FwuSt → FwuSt) : (s.onFwu f).link = s.link := (rfl)
@[simp] theorem State.onFwu_plc (s : State) (f : FwuSt → FwuSt) : (s.onFwu f).plc = s.plc := (rfl)
@[simp] theorem State.onFwu_sess (s : State) (f : FwuSt → FwuSt) : (s.onFwu f).sess = s.sess := (rfl)
@[simp] theorem State.onFwu_vee (s : State) (f : FwuSt → FwuSt) : (s.onFwu f).vee = s.vee := (rfl)
@[simp] theorem State.onFwu_bal (s : State) (f : FwuSt → FwuSt) : (s.onFwu f).bal = s.bal := (rfl)
@[simp] theorem State.onFwu_arch (s : State) (f : FwuSt → FwuSt) : (s.onFwu f).arch = s.arch := (rfl)
@[simp] theorem State.onFwu_upl (s : State) (f : FwuSt → FwuSt) : (s.onFwu f).upl = s.upl := (rfl)
@[simp] theorem State.onFwu_fleet (s : State) (f : FwuSt → FwuSt) : (s.onFwu f).fleet = s.fleet := (rfl)
@[simp] theorem State.onFwu_pocket (s : State) (f : FwuSt → FwuSt) : (s.onFwu f).pocket = s.pocket := (rfl)
@[simp] theorem State.onFwu_fwu (s : State) (f : FwuSt → FwuSt) : (s.onFwu f).fwu = f s.fwu := (rfl)
@[simp] theorem State.onFwu_pair (s : State) (f : FwuSt → FwuSt) : (s.onFwu f).pair = s.pair := (rfl)
@[simp] theorem State.onFwu_reg (s : State) (f : FwuSt → FwuSt) : (s.onFwu f).reg = s.reg := (rfl)
@[simp] theorem State.onFwu_pending (s : State) (f : FwuSt → FwuSt) : (s.onFwu f).pending = s.pending := (rfl)
@[simp] theorem State.onFwu_free (s : State) (f : FwuSt → FwuSt) : (s.onFwu f).free = s.free := (rfl)
@[simp] theorem State.onPair_cfg (s : State) (f : PairSt → PairSt) : (s.onPair f).cfg = s.cfg := (rfl)
@[simp] theorem State.onPair_hosts (s : State) (f : PairSt → PairSt) : (s.onPair f).hosts = s.hosts := (rfl)
@[simp] theorem State.onPair_mains (s : State) (f : PairSt → PairSt) : (s.onPair f).mains = s.mains := (rfl)
@[simp] theorem State.onPair_sched (s : State) (f : PairSt → PairSt) : (s.onPair f).sched = s.sched := (rfl)
@[simp] theorem State.onPair_time (s : State) (f : PairSt → PairSt) : (s.onPair f).time = s.time := (rfl)
@[simp] theorem State.onPair_fab (s : State) (f : PairSt → PairSt) : (s.onPair f).fab = s.fab := (rfl)
@[simp] theorem State.onPair_evt (s : State) (f : PairSt → PairSt) : (s.onPair f).evt = s.evt := (rfl)
@[simp] theorem State.onPair_pwr (s : State) (f : PairSt → PairSt) : (s.onPair f).pwr = s.pwr := (rfl)
@[simp] theorem State.onPair_met (s : State) (f : PairSt → PairSt) : (s.onPair f).met = s.met := (rfl)
@[simp] theorem State.onPair_rad (s : State) (f : PairSt → PairSt) : (s.onPair f).rad = s.rad := (rfl)
@[simp] theorem State.onPair_link (s : State) (f : PairSt → PairSt) : (s.onPair f).link = s.link := (rfl)
@[simp] theorem State.onPair_plc (s : State) (f : PairSt → PairSt) : (s.onPair f).plc = s.plc := (rfl)
@[simp] theorem State.onPair_sess (s : State) (f : PairSt → PairSt) : (s.onPair f).sess = s.sess := (rfl)
@[simp] theorem State.onPair_vee (s : State) (f : PairSt → PairSt) : (s.onPair f).vee = s.vee := (rfl)
@[simp] theorem State.onPair_bal (s : State) (f : PairSt → PairSt) : (s.onPair f).bal = s.bal := (rfl)
@[simp] theorem State.onPair_arch (s : State) (f : PairSt → PairSt) : (s.onPair f).arch = s.arch := (rfl)
@[simp] theorem State.onPair_upl (s : State) (f : PairSt → PairSt) : (s.onPair f).upl = s.upl := (rfl)
@[simp] theorem State.onPair_fleet (s : State) (f : PairSt → PairSt) : (s.onPair f).fleet = s.fleet := (rfl)
@[simp] theorem State.onPair_pocket (s : State) (f : PairSt → PairSt) : (s.onPair f).pocket = s.pocket := (rfl)
@[simp] theorem State.onPair_fwu (s : State) (f : PairSt → PairSt) : (s.onPair f).fwu = s.fwu := (rfl)
@[simp] theorem State.onPair_pair (s : State) (f : PairSt → PairSt) : (s.onPair f).pair = f s.pair := (rfl)
@[simp] theorem State.onPair_reg (s : State) (f : PairSt → PairSt) : (s.onPair f).reg = s.reg := (rfl)
@[simp] theorem State.onPair_pending (s : State) (f : PairSt → PairSt) : (s.onPair f).pending = s.pending := (rfl)
@[simp] theorem State.onPair_free (s : State) (f : PairSt → PairSt) : (s.onPair f).free = s.free := (rfl)
@[simp] theorem State.onReg_cfg (s : State) (f : RegSt → RegSt) : (s.onReg f).cfg = s.cfg := (rfl)
@[simp] theorem State.onReg_hosts (s : State) (f : RegSt → RegSt) : (s.onReg f).hosts = s.hosts := (rfl)
@[simp] theorem State.onReg_mains (s : State) (f : RegSt → RegSt) : (s.onReg f).mains = s.mains := (rfl)
@[simp] theorem State.onReg_sched (s : State) (f : RegSt → RegSt) : (s.onReg f).sched = s.sched := (rfl)
@[simp] theorem State.onReg_time (s : State) (f : RegSt → RegSt) : (s.onReg f).time = s.time := (rfl)
@[simp] theorem State.onReg_fab (s : State) (f : RegSt → RegSt) : (s.onReg f).fab = s.fab := (rfl)
@[simp] theorem State.onReg_evt (s : State) (f : RegSt → RegSt) : (s.onReg f).evt = s.evt := (rfl)
@[simp] theorem State.onReg_pwr (s : State) (f : RegSt → RegSt) : (s.onReg f).pwr = s.pwr := (rfl)
@[simp] theorem State.onReg_met (s : State) (f : RegSt → RegSt) : (s.onReg f).met = s.met := (rfl)
@[simp] theorem State.onReg_rad (s : State) (f : RegSt → RegSt) : (s.onReg f).rad = s.rad := (rfl)
@[simp] theorem State.onReg_link (s : State) (f : RegSt → RegSt) : (s.onReg f).link = s.link := (rfl)
@[simp] theorem State.onReg_plc (s : State) (f : RegSt → RegSt) : (s.onReg f).plc = s.plc := (rfl)
@[simp] theorem State.onReg_sess (s : State) (f : RegSt → RegSt) : (s.onReg f).sess = s.sess := (rfl)
@[simp] theorem State.onReg_vee (s : State) (f : RegSt → RegSt) : (s.onReg f).vee = s.vee := (rfl)
@[simp] theorem State.onReg_bal (s : State) (f : RegSt → RegSt) : (s.onReg f).bal = s.bal := (rfl)
@[simp] theorem State.onReg_arch (s : State) (f : RegSt → RegSt) : (s.onReg f).arch = s.arch := (rfl)
@[simp] theorem State.onReg_upl (s : State) (f : RegSt → RegSt) : (s.onReg f).upl = s.upl := (rfl)
@[simp] theorem State.onReg_fleet (s : State) (f : RegSt → RegSt) : (s.onReg f).fleet = s.fleet := (rfl)
@[simp] theorem State.onReg_pocket (s : State) (f : RegSt → RegSt) : (s.onReg f).pocket = s.pocket := (rfl)
@[simp] theorem State.onReg_fwu (s : State) (f : RegSt → RegSt) : (s.onReg f).fwu = s.fwu := (rfl)
@[simp] theorem State.onReg_pair (s : State) (f : RegSt → RegSt) : (s.onReg f).pair = s.pair := (rfl)
@[simp] theorem State.onReg_reg (s : State) (f : RegSt → RegSt) : (s.onReg f).reg = f s.reg := (rfl)
@[simp] theorem State.onReg_pending (s : State) (f : RegSt → RegSt) : (s.onReg f).pending = s.pending := (rfl)
@[simp] theorem State.onReg_free (s : State) (f : RegSt → RegSt) : (s.onReg f).free = s.free := (rfl)

end Sys2Proof.Machine
end

