-- ==== Sys2Proof/Laws/Ops.lean ====
section
/-! SUPPORT. What the shared operations do: sparse tables, the passing of time, hosts, W1C copies, events, responses and host rings. -/

namespace Sys2Proof.Machine

/-! ### Sparse tables -/

section Tables
variable {α : Type} {t : List (Nat × α)} {j k : Nat} {v d : α}

theorem find_tput_self : (tput t k v).find? (fun p => p.1 == k) = some (k, v) := by
  induction t with
  | nil => simp [tput]
  | cons a t ih =>
    obtain ⟨i, w⟩ := a
    unfold tput
    split
    · simp
    · split
      · simp
      · rename_i h
        simp [ih, Ne.symm h]

theorem find_tput_ne (h : j ≠ k) : (tput t k v).find? (fun p => p.1 == j) = t.find? (fun p => p.1 == j) := by
  induction t with
  | nil => simp [tput, h.symm]
  | cons a t ih =>
    obtain ⟨i, w⟩ := a
    unfold tput
    split
    · simp [h.symm]
    · split
      · rename_i e
        subst e
        simp [h.symm]
      · simp [List.find?_cons, ih]

@[simp] theorem tget_tput_self : tget (tput t k v) k d = v := by simp [tget, find_tput_self]

theorem tget_tput_ne (h : j ≠ k) : tget (tput t k v) j d = tget t j d := by simp [tget, find_tput_ne h]

@[simp] theorem tfind_tput_self : tfind (tput t k v) k = some v := by simp [tfind, find_tput_self]

theorem tfind_tput_ne (h : j ≠ k) : tfind (tput t k v) j = tfind t j := by simp [tfind, find_tput_ne h]

@[simp] theorem tfind_tdel_self : tfind (tdel t k) k = none := by simp [tfind, tdel]

theorem tfind_tdel_ne (h : j ≠ k) : tfind (tdel t k) j = tfind t j := by
  unfold tfind tdel
  congr 1
  induction t with
  | nil => rfl
  | cons a t ih =>
    by_cases e : a.1 = k
    · simp [e, h.symm, ih]
    · by_cases e' : a.1 = j
      · subst e'
        simp [h]
      · simp [e, e', ih]

@[simp] theorem tget_tbump_self {t : List (Nat × Nat)} {d : Nat} : tget (tbump t k) k d = inc32 (tget t k 0) := by simp [tbump]

@[simp] theorem modAt_length {l : List α} {n : Nat} {f : α → α} : (modAt l n f).length = l.length := by
  induction l generalizing n with
  | nil => cases n <;> rfl
  | cons a l ih => cases n <;> simp [modAt, ih]

@[simp] theorem bumpAt_length {l : List Nat} {n : Nat} : (bumpAt l n).length = l.length := by simp [bumpAt]

theorem modAt_get? {l : List α} {n i : Nat} {f : α → α} : (modAt l n f)[i]? = if i = n then l[i]?.map f else l[i]? := by
  induction l generalizing n i with
  | nil => cases n <;> simp [modAt]
  | cons a l ih => cases n <;> cases i <;> simp [modAt, ih]

theorem bumpAt_getD {l : List Nat} {n i : Nat} (h : n < l.length) :
    (bumpAt l n).getD i 0 = if i = n then inc32 (l.getD i 0) else l.getD i 0 := by
  simp only [List.getD_eq_getElem?_getD, bumpAt, modAt_get?]
  by_cases e : i = n
  · subst e
    simp [h]
  · simp [e]

end Tables

/-! ### Time -/

theorem tick_frame (dt : Nat) (s : State) : Only [.time, .met] s (tick dt s) := by
  unfold tick
  cases s.pwr.lineOn <;> cases h : s.pwr.aonOn <;>
    (simp only [Bool.false_eq_true, if_false, if_true, State.onMet_pwr, h]
     intro b hb
     cases b <;> first | rfl | simp at hb)

section Tick
variable (dt : Nat) (s : State)

@[simp] theorem tick_cfg : (tick dt s).cfg = s.cfg := tick_frame dt s .cfg (by simp)
@[simp] theorem tick_hosts : (tick dt s).hosts = s.hosts := tick_frame dt s .hosts (by simp)
@[simp] theorem tick_mains : (tick dt s).mains = s.mains := tick_frame dt s .mains (by simp)
@[simp] theorem tick_sched : (tick dt s).sched = s.sched := tick_frame dt s .sched (by simp)
@[simp] theorem tick_fab : (tick dt s).fab = s.fab := tick_frame dt s .fab (by simp)
@[simp] theorem tick_evt : (tick dt s).evt = s.evt := tick_frame dt s .evt (by simp)
@[simp] theorem tick_pwr : (tick dt s).pwr = s.pwr := tick_frame dt s .pwr (by simp)
@[simp] theorem tick_rad : (tick dt s).rad = s.rad := tick_frame dt s .rad (by simp)
@[simp] theorem tick_link : (tick dt s).link = s.link := tick_frame dt s .link (by simp)
@[simp] theorem tick_plc : (tick dt s).plc = s.plc := tick_frame dt s .plc (by simp)
@[simp] theorem tick_sess : (tick dt s).sess = s.sess := tick_frame dt s .sess (by simp)
@[simp] theorem tick_vee : (tick dt s).vee = s.vee := tick_frame dt s .vee (by simp)
@[simp] theorem tick_bal : (tick dt s).bal = s.bal := tick_frame dt s .bal (by simp)
@[simp] theorem tick_arch : (tick dt s).arch = s.arch := tick_frame dt s .arch (by simp)
@[simp] theorem tick_upl : (tick dt s).upl = s.upl := tick_frame dt s .upl (by simp)
@[simp] theorem tick_fleet : (tick dt s).fleet = s.fleet := tick_frame dt s .fleet (by simp)
@[simp] theorem tick_pocket : (tick dt s).pocket = s.pocket := tick_frame dt s .pocket (by simp)
@[simp] theorem tick_fwu : (tick dt s).fwu = s.fwu := tick_frame dt s .fwu (by simp)
@[simp] theorem tick_pair : (tick dt s).pair = s.pair := tick_frame dt s .pair (by simp)
@[simp] theorem tick_reg : (tick dt s).reg = s.reg := tick_frame dt s .reg (by simp)
@[simp] theorem tick_pending : (tick dt s).pending = s.pending := tick_frame dt s .pending (by simp)
@[simp] theorem tick_free : (tick dt s).free = s.free := tick_frame dt s .free (by simp)

/-- What the passing of time does (R114–R116). -/
theorem tick_time : (tick dt s).time =
    if s.pwr.aonOn then { s.time with count := s.time.count + dt, rc := s.time.rc + dt * s.time.incr } else s.time := by
  unfold tick
  cases hl : s.pwr.lineOn <;> cases ha : s.pwr.aonOn <;> simp [ha]

/-- No time passes in 0 ticks. -/
theorem tick_zero : tick 0 s = s := by
  obtain ⟨⟩ := s
  unfold tick
  simp [State.onMet, State.onTime]

/-- What the passing of time does to the line side (ML3). -/
theorem tick_met : (tick dt s).met = if s.pwr.lineOn then { s.met with lineNs := s.met.lineNs + 2 * dt } else s.met := by
  unfold tick
  cases hl : s.pwr.lineOn <;> cases ha : s.pwr.aonOn <;> simp [ha]

end Tick

/-! ### Hosts -/

section HostLaws
variable {s : State} {h k : Fin 4} {x : HostSt}

@[simp] theorem host_setHost_self : (s.setHost h x).host h = x := by simp [State.host, State.setHost]

theorem host_setHost_ne (n : k ≠ h) : (s.setHost h x).host k = s.host k := by
  simp only [State.host, State.setHost, State.onHosts_hosts]
  exact Vector.getElem_set_ne _ _ (fun e => n (Fin.ext e.symm))

theorem setHost_frame : Only [.hosts] s (s.setHost h x) := by
  intro b hb
  cases b <;> first | rfl | simp at hb

@[simp] theorem key_setHost : (s.setHost h x).key = s.key := by
  unfold State.key State.phase phaseAt
  rfl

@[simp] theorem phase_setHost : (s.setHost h x).phase = s.phase := by
  unfold State.phase phaseAt
  rfl

@[simp] theorem tai_setHost : (s.setHost h x).tai = s.tai := rfl
@[simp] theorem reported_setHost : (s.setHost h x).reported = s.reported := rfl

@[simp] theorem setHost_cfg : (s.setHost h x).cfg = s.cfg := rfl
@[simp] theorem setHost_mains : (s.setHost h x).mains = s.mains := rfl
@[simp] theorem setHost_sched : (s.setHost h x).sched = s.sched := rfl
@[simp] theorem setHost_time : (s.setHost h x).time = s.time := rfl
@[simp] theorem setHost_fab : (s.setHost h x).fab = s.fab := rfl
@[simp] theorem setHost_evt : (s.setHost h x).evt = s.evt := rfl
@[simp] theorem setHost_pwr : (s.setHost h x).pwr = s.pwr := rfl
@[simp] theorem setHost_met : (s.setHost h x).met = s.met := rfl
@[simp] theorem setHost_rad : (s.setHost h x).rad = s.rad := rfl
@[simp] theorem setHost_link : (s.setHost h x).link = s.link := rfl
@[simp] theorem setHost_plc : (s.setHost h x).plc = s.plc := rfl
@[simp] theorem setHost_sess : (s.setHost h x).sess = s.sess := rfl
@[simp] theorem setHost_vee : (s.setHost h x).vee = s.vee := rfl
@[simp] theorem setHost_bal : (s.setHost h x).bal = s.bal := rfl
@[simp] theorem setHost_arch : (s.setHost h x).arch = s.arch := rfl
@[simp] theorem setHost_upl : (s.setHost h x).upl = s.upl := rfl
@[simp] theorem setHost_fleet : (s.setHost h x).fleet = s.fleet := rfl
@[simp] theorem setHost_pocket : (s.setHost h x).pocket = s.pocket := rfl
@[simp] theorem setHost_fwu : (s.setHost h x).fwu = s.fwu := rfl
@[simp] theorem setHost_pair : (s.setHost h x).pair = s.pair := rfl
@[simp] theorem setHost_reg : (s.setHost h x).reg = s.reg := rfl
@[simp] theorem setHost_pending : (s.setHost h x).pending = s.pending := rfl
@[simp] theorem setHost_free : (s.setHost h x).free = s.free := rfl

/-- A host is replaced and nothing else of the mailbox block. -/
theorem setHost_hosts : (s.setHost h x).hosts = { s.hosts with hosts := s.hosts.hosts.set h x } := rfl

@[simp] theorem host_dequeue : (dequeue s).host k = s.host k := rfl

@[simp] theorem dequeue_pwr : (dequeue s).pwr = s.pwr := rfl
@[simp] theorem dequeue_cfg : (dequeue s).cfg = s.cfg := rfl

end HostLaws

/-! ### The Collar's W1C copies (R630) -/

/-- Bits become set in every host's copy of a register, in no other register, and nothing else changes. -/
theorem host_setSticky (off : Nat) (m : Word) (s : State) (h : Fin 4) :
    (setSticky off m s).host h = { s.host h with sticky := tput (s.host h).sticky off (tget (s.host h).sticky off 0 ||| m) } := by
  simp [setSticky, State.host]

theorem setSticky_frame (off : Nat) (m : Word) (s : State) : Only [.hosts] s (setSticky off m s) := by
  intro b hb
  cases b <;> first | rfl | simp at hb

theorem setAlarm_frame (m : Word) (s : State) : Only [.hosts] s (setAlarm m s) := by
  intro b hb
  cases b <;> first | rfl | simp at hb

/-- HOST.IRQ bits are set; besides them only the vectors sent change (R632, R633). -/
theorem setIrq_eq (m : BitVec 5) (x : HostSt) : ∃ l, setIrq m x = { x with irq := x.irq ||| m, msi := l } := by
  unfold setIrq irqChange
  dsimp only
  split
  · exact ⟨_, rfl⟩
  · exact ⟨x.msi, rfl⟩

/-- SYS.ALARM bits become set in all five copies (R632). -/
theorem setAlarm_alarmN (m : Word) (s : State) : (setAlarm m s).hosts.alarmN = s.hosts.alarmN ||| m := rfl

theorem setAlarm_sticky (m : Word) (s : State) (h : Fin 4) :
    ((setAlarm m s).host h).sticky = tput (s.host h).sticky 0x008 (tget (s.host h).sticky 0x008 0 ||| m) := by
  simp only [setAlarm, State.host, State.onHosts_hosts, Fin.getElem_fin, Vector.getElem_map]
  split
  · rfl
  · obtain ⟨l, e⟩ := setIrq_eq 0x04 { s.hosts.hosts[h.val] with
      sticky := tput s.hosts.hosts[h.val].sticky 0x008 (tget s.hosts.hosts[h.val].sticky 0x008 0 ||| m) }
    rw [e]

/-! ### Segments (R80) -/

/-- A segment closes at the present cycle and the next one opens there. -/
theorem closeSegment_mains (b : Bool) (s : State) : ∃ g : Segment, g.first = s.mains.segFirst ∧ g.next = s.mains.cycle ∧ g.aligned = b ∧
    g.step = s.mains.segFlags.getLsbD 2 ∧ (closeSegment b s).arch = { s.arch with segWait := s.arch.segWait ++ [g] } ∧
    (closeSegment b s).mains = { s.mains with segments := g :: s.mains.segments, segFirst := s.mains.cycle, segFlags := 0 } :=
  ⟨_, rfl, rfl, rfl, rfl, rfl, rfl⟩

/-! ### Events (R760) -/

/-- An event goes to the end of Q10 while Q10 has room and the recorder records. -/
theorem pushEvent_q10 (e : QEvent) (s : State) (hl : recorderLives s = true) (hr : s.evt.q10.length < 1024) :
    pushEvent e s = s.onEvt fun v => { v with q10 := v.q10 ++ [e] } := by simp [pushEvent, hl, hr]

/-- A full Q10 loses the event, which is counted, and sets the overflow bit (R762). -/
theorem pushEvent_lost (e : QEvent) (s : State) (hl : recorderLives s = true) (hr : ¬ s.evt.q10.length < 1024) :
    pushEvent e s = setSticky 0x078 0x10 (s.onEvt fun v => { v with lost := tbump v.lost e.source }) := by simp [pushEvent, hl, hr]

/-- In reset and parked no event is recorded (R771). -/
theorem pushEvent_dead (e : QEvent) (s : State) (hl : recorderLives s = false) : pushEvent e s = s := by simp [pushEvent, hl]

theorem pushEvent_frame (e : QEvent) (s : State) : Only [.hosts, .evt] s (pushEvent e s) := by
  unfold pushEvent
  split
  · split
    · intro b hb
      cases b <;> first | rfl | simp at hb
    · intro b hb
      cases b <;> first | rfl | simp at hb
  · exact Only.refl _ _

theorem raise_frame (e : EvName) (n : Nat) (d : List Byte) (s : State) : Only [.hosts, .evt] s (raise e n d s) := pushEvent_frame _ _

/-- An event that a block raises is logged, whatever else the block did before. -/
theorem logged_raise {e : EvName} {n : Nat} {d : List Byte} {u z : State} (hq : z.evt.q10 = u.evt.q10)
    (hs : z.pwr.stage = u.pwr.stage) : Logged e n d u (raise e n d z) := by
  intro h1 h2
  have h3 : recorderLives z = true := by simpa [recorderLives, hs] using h1
  exact ⟨_, by rw [raise, pushEvent_q10 _ _ h3 (by simpa [hq] using h2), State.onEvt_evt, hq], rfl, rfl, rfl⟩

theorem Logged.of_q10 {e : EvName} {n : Nat} {d : List Byte} {u t t' : State} (h : Logged e n d u t) (hq : t'.evt.q10 = t.evt.q10) :
    Logged e n d u t' := by
  intro h1 h2
  obtain ⟨x, hx, hr⟩ := h h1 h2
  exact ⟨x, by rw [hq, hx], hr⟩

/-! ### The scheduler (R86–R90) -/

/-- The mirror leaves the scheduler alone. -/
@[simp] theorem mirror_sched (b : DeltaBody) (s : State) : (mirror b s).sched = s.sched := by
  unfold mirror
  split
  · dsimp only
    split
    · exact (raise_frame _ _ _ _) .sched (by decide)
    · rfl
  · rfl

/-- Entries leave the table, and nothing else of the scheduler changes. -/
theorem dropEntries_sched (p : SchedEntry → Bool) (s : State) :
    (dropEntries p s).sched = { s.sched with entries := s.sched.entries.filter fun e => !p e } := by
  have hm : ∀ (l : List SchedEntry) (z : State), (l.foldl (fun s e => mirror (.sched e.seq none) s) z).sched = z.sched := by
    intro l
    induction l with
    | nil => exact fun _ => rfl
    | cons a l ih => exact fun z => by rw [List.foldl_cons, ih, mirror_sched]
  unfold dropEntries
  rw [hm, State.onSched_sched]

/-- The dispatched entry leaves the table, and nothing else of the scheduler changes (R88, R90). -/
theorem dispatch_sched {p : SchedAction → Bool} {s t : State} {e : SchedEntry} (h : dispatch p s = some (e, t)) :
    nextDue s = some e ∧ p e.action = true ∧
      t.sched = { s.sched with entries := s.sched.entries.filter fun x => !(x.seq == e.seq) } := by
  unfold dispatch at h
  split at h
  · simp at h
  · rename_i e' hn
    split at h
    · rename_i hp
      dsimp only at h
      split at h <;> simp only [Option.some.injEq, Prod.mk.injEq] at h <;> obtain ⟨rfl, rfl⟩ := h
      · exact ⟨hn, hp, dropEntries_sched _ s⟩
      · exact ⟨hn, hp, dropEntries_sched _ s⟩
    · simp at h

/-- A host-requested entry is placed while its host has room (R86). -/
theorem placeOr_host {e : SchedEntry} {s : State} (hc : e.cls = 8) (hq : quotaUsed s 8 e.owner < 256) :
    (placeOr e s).sched =
      { s.sched with entries := s.sched.entries ++ [{ e with seq := s.sched.nextSeq }], nextSeq := s.sched.nextSeq + 1 } := by
  unfold placeOr place
  simp only [hc]
  rw [show (if (8 : Nat) ≤ 6 then 512 else if (8 : Nat) = 7 then 2560 else 256) = 256 from rfl, if_neg (by omega)]
  simp [mirroredClass]

/-! ### Responses (R637–R640) -/

/-- A response goes into a free response mailbox and raises HOST.IRQ.RESP, or behind those that wait. -/
theorem deliver_eq (r : Response) (x : HostSt) :
    ∃ l, deliver r x =
      if x.resp.isNone then { x with resp := some r, irq := x.irq ||| 0x01, msi := l
                                     lastResp := if x.lastSeq == some r.seq then some r else x.lastResp }
      else { x with respQ := x.respQ ++ [r], lastResp := if x.lastSeq == some r.seq then some r else x.lastResp } := by
  unfold deliver
  cases hx : x.resp with
  | none =>
    obtain ⟨l, e⟩ := setIrq_eq 0x01 { x with lastResp := if x.lastSeq == some r.seq then some r else x.lastResp, resp := some r }
    exact ⟨l, by simpa [hx] using e⟩
  | some y => exact ⟨[], by simp⟩

theorem respond_frame (h : Fin 4) (t : Taken) (r : Reply) (s : State) : Only [.hosts] s (respond h t r s) := by
  unfold respond
  split
  · exact Only.refl _ _
  · exact setHost_frame

/-- A response changes no other host. -/
theorem respond_other {h k : Fin 4} {t : Taken} {r : Reply} {s : State} (n : k ≠ h) : (respond h t r s).host k = s.host k := by
  unfold respond
  split
  · rfl
  · exact host_setHost_ne n

end Sys2Proof.Machine
end

