-- ==== Sys2Proof/Laws/Serve.lean ====
section
/-! SUPPORT. How a command is shown to complete: what a mailbox command does is what its work does to the state without it, and the fields of
a payload are found piece by piece. -/

namespace Sys2Proof.Machine

open Host (Outcome)

/-! ### Mailbox commands -/

/-- All that a dispatched mailbox command does (R639, R641). -/
theorem runCmd_dispatched {op : Nat} {h : Fin 4} {tk : Taken} {s : State} {f : Taken → State → State × Reply}
    (hd : Dispatched h op tk s) :
    runCmd op h f s =
      if (f tk (dequeue s)).2.status == .pending && 16 ≤ (((dequeue s).host h).openCmds.filter fun u => !u.dead).length
      then respond h tk (answer .busy) (dequeue s) else respond h tk (f tk (dequeue s)).2 (f tk (dequeue s)).1 := by
  obtain ⟨hq, ho⟩ := hd
  have hl : ∃ rest, s.hosts.dispatchQ = (h.val, tk) :: rest := by
    cases e : s.hosts.dispatchQ with
    | nil => simp [e] at hq
    | cons a l => exact ⟨l, by simp [e] at hq; simp [hq]⟩
  obtain ⟨rest, e⟩ := hl
  have hs : (s.onHosts fun b => { b with dispatchQ := rest }) = dequeue s := by simp [dequeue, State.onHosts, e]
  rw [← hs]
  simp [runCmd, e, ho]

/-- A mailbox command whose answer is final does what its work does, and gives the answer. -/
theorem runCmd_final {op : Nat} {h : Fin 4} {tk : Taken} {s t : State} {r : Reply} {f : Taken → State → State × Reply}
    (hd : Dispatched h op tk s) (hf : f tk (dequeue s) = (t, r)) (hr : r.status ≠ .pending) :
    runCmd op h f s = respond h tk r t := by
  rw [runCmd_dispatched hd, hf]
  simp [hr]

/-- A mailbox command whose answer is PENDING does what its work does while the host has fewer than 16 open commands (R639). -/
theorem runCmd_open {op : Nat} {h : Fin 4} {tk : Taken} {s t : State} {r : Reply} {f : Taken → State → State × Reply}
    (hd : Dispatched h op tk s) (hf : f tk (dequeue s) = (t, r))
    (hn : (((dequeue s).host h).openCmds.filter fun u => !u.dead).length < 16) : runCmd op h f s = respond h tk r t := by
  rw [runCmd_dispatched hd, hf]
  simp only [Nat.not_le.mpr hn, decide_false, Bool.and_false, Bool.false_eq_true, if_false]

theorem Reads.of {c : Nat → Fin 4 → Instr} {op len : Nat} {pre : Fin 4 → Taken → State → Prop}
    {post : Fin 4 → Taken → State → List Byte → Prop} {f : Fin 4 → Taken → State → State × Reply}
    (hc : ∀ dt h s, exec (c dt h) s = .next (runCmd op h (f h) (tick dt s)))
    (hf : ∀ h tk u, pre h tk u → ∃ p, f h tk u = (u, okWith p) ∧ p.length = len ∧ post h tk u p) : Reads c op len pre post := by
  intro dt h s tk hd hp
  obtain ⟨p, e, hl, hq⟩ := hf h tk _ hp
  exact ⟨p, by rw [hc, runCmd_final hd e (by simp [okWith])], hl, hq⟩

theorem Serves.of {c : Nat → Fin 4 → Instr} {op : Nat} {pre : Fin 4 → Taken → State → Prop}
    {post : Fin 4 → Taken → State → State → Reply → Prop} {f : Fin 4 → Taken → State → State × Reply}
    (hc : ∀ dt h s, exec (c dt h) s = .next (runCmd op h (f h) (tick dt s)))
    (hf : ∀ h tk u, tk.opcode = op → pre h tk u → ∃ t r, f h tk u = (t, r) ∧ post h tk u t r ∧
      (r.status ≠ .pending ∨ ((u.host h).openCmds.filter fun u => !u.dead).length < 16)) : Serves c op pre post := by
  intro dt h s tk hd hp
  obtain ⟨t, r, e, hq, hr⟩ := hf h tk _ hd.2 hp
  refine ⟨t, r, ?_, hq⟩
  rcases hr with hr | hr
  · rw [hc, runCmd_final hd e hr]
  · rw [hc, runCmd_open hd e hr]

/-! ### Other commands -/

theorem next_now {t : State} {post : State → Prop} (h : post t) :
    ∃ r, (Outcome.next t : Outcome State Fault Refusal) = .next r ∧ post r := ⟨t, rfl, h⟩

theorem next_if {c : Prop} [Decidable c] {t : State} {o : Outcome State Fault Refusal} {post : State → Prop} (hc : c) (h : post t) :
    ∃ r, (if c then .next t else o) = .next r ∧ post r := ⟨t, if_pos hc, h⟩

theorem next_unless {c : Prop} [Decidable c] {t : State} {o : Outcome State Fault Refusal} {post : State → Prop} (hc : ¬ c) (h : post t) :
    ∃ r, (if c then o else .next t) = .next r ∧ post r := ⟨t, if_neg hc, h⟩

theorem if_next {c : Prop} [Decidable c] {o p : Outcome State Fault Refusal} {post : State → Prop} (hc : c)
    (h : ∃ r, o = .next r ∧ post r) : ∃ r, (if c then o else p) = .next r ∧ post r := by rwa [if_pos hc]

/-! ### Ways through a mailbox command's checks -/

section Ways
variable {α β : Type} {c : Prop} [Decidable c] {a b : α × β} {P : α → β → Prop}

theorem pass_check (hc : ¬ c) (h : ∃ t r, b = (t, r) ∧ P t r) : ∃ t r, (if c then a else b) = (t, r) ∧ P t r := by rwa [if_neg hc]

theorem meet_check (hc : c) (h : ∃ t r, a = (t, r) ∧ P t r) : ∃ t r, (if c then a else b) = (t, r) ∧ P t r := by rwa [if_pos hc]

theorem answers_with {t : α} {r : β} (h : P t r) : ∃ t' r', (t, r) = (t', r') ∧ P t' r' := ⟨t, r, rfl, h⟩

end Ways

/-! ### Fields of a payload -/

@[simp] theorem leBytes_length (k n : Nat) : (leBytes k n).length = k := by
  induction k generalizing n with
  | zero => rfl
  | succ k ih => simp [leBytes, ih]

@[simp] theorem leBytesI_length (k : Nat) (v : Int) : (leBytesI k v).length = k := by simp [leBytesI]

@[simp] theorem shows_all {k v : Nat} : Shows (leBytes k v) 0 k v := by
  have h := List.take_length (l := leBytes k v)
  simpa [Shows] using h

@[simp] theorem shows_head {k v : Nat} {b : List Byte} : Shows (leBytes k v ++ b) 0 k v := by
  unfold Shows
  rw [List.drop_zero, List.take_append_of_le_length (by simp)]
  exact shows_all

@[simp] theorem shows_next {a b : List Byte} {off k v : Nat} (hl : a.length ≤ off) :
    Shows (a ++ b) off k v ↔ Shows b (off - a.length) k v := by
  unfold Shows
  rw [List.drop_append, List.drop_eq_nil_of_le hl, List.nil_append]

@[simp] theorem shows_cons {a : Byte} {l : List Byte} {off k v : Nat} : Shows (a :: l) (off + 1) k v ↔ Shows l off k v := Iff.rfl

@[simp] theorem showsI_cons {a : Byte} {l : List Byte} {off k : Nat} {v : Int} : ShowsI (a :: l) (off + 1) k v ↔ ShowsI l off k v :=
  Iff.rfl

@[simp] theorem showsI_all {k : Nat} {v : Int} : ShowsI (leBytesI k v) 0 k v := by
  have h := List.take_length (l := leBytesI k v)
  simpa [ShowsI] using h

@[simp] theorem showsI_head {k : Nat} {v : Int} {b : List Byte} : ShowsI (leBytesI k v ++ b) 0 k v := by
  unfold ShowsI
  rw [List.drop_zero, List.take_append_of_le_length (by simp)]
  exact showsI_all

@[simp] theorem showsI_next {a b : List Byte} {off k : Nat} {v : Int} (hl : a.length ≤ off) :
    ShowsI (a ++ b) off k v ↔ ShowsI b (off - a.length) k v := by
  unfold ShowsI
  rw [List.drop_append, List.drop_eq_nil_of_le hl, List.nil_append]

/-- The number that the bytes of a number spell. -/
theorem leNat_leBytes (k n : Nat) : leNat (leBytes k n) = n % 256 ^ k := by
  induction k generalizing n with
  | zero => simp [leBytes, leNat, Nat.mod_one]
  | succ k ih =>
    rw [leBytes, leNat, ih, BitVec.toNat_ofNat, show (2 : Nat) ^ 8 = 256 from rfl, Nat.pow_succ, Nat.mul_comm (256 ^ k) 256, Nat.mod_mul]

theorem fld_next {a b : List Byte} {off k : Nat} (hl : a.length ≤ off) : fld (a ++ b) off k = fld b (off - a.length) k := by
  unfold fld
  rw [List.drop_append, List.drop_eq_nil_of_le hl, List.nil_append]

theorem fld_head {k n : Nat} {b : List Byte} : fld (leBytes k n ++ b) 0 k = n % 256 ^ k := by
  unfold fld
  rw [List.drop_zero, List.take_append_of_le_length (by simp), List.take_of_length_le (by simp), leNat_leBytes]

end Sys2Proof.Machine
end

