-- ==== Sys2Proof/Laws/Effects.lean ====
section
/-! SUPPORT. What some shared operations do beyond their frames. -/

namespace Sys2Proof.Machine

open Host (Outcome)

set_option linter.unusedVariables false
set_option linter.unusedSimpArgs false

/-- A recorder's own event changes nothing of the metering block. -/
theorem raiseCode_met {c sev src : Nat} {d : List Byte} {s : State} : (raiseCode c sev src d s).met = s.met :=
  raiseCode_only (bs := [.hosts, .evt]) (by decide) (Only.refl _ _) .met (by decide)

/-- An answer given later changes nothing of the metering block. -/
theorem finishAt_met {h : Nat} {t : Taken} {r : Reply} {s : State} : (finishAt h t r s).met = s.met :=
  finishAt_only (bs := [.hosts]) (by decide) (Only.refl _ _) .met (by decide)

/-- A delta changes nothing of the contexts. -/
theorem mirror_sess {b : DeltaBody} {s : State} : (mirror b s).sess = s.sess :=
  mirror_only (bs := [.hosts, .evt, .pair]) (by decide) (Only.refl _ _) .sess (by decide)

/-- A notice to the logic side changes nothing of the metering block. -/
theorem tellLogic_met {n : LineNotice} {s : State} : (tellLogic n s).met = s.met :=
  tellLogic_only (bs := [.hosts, .fab, .evt]) (by decide) (Only.refl _ _) .met (by decide)

/-- A write to the Lining on its way changes nothing of the metering block. -/
theorem postLegal_met {b : LegalBody} {s : State} : (postLegal b s).met = s.met := rfl

/-- A log entry changes nothing of the metering block but the log's counts. -/
theorem writeMlog_met {k a : Nat} {d : List Byte} {c : Bool} {s : State} :
    ∃ x y z, (writeMlog k a d c s).met = { s.met with mlogSeq := x, notLogged := y, mlogStopped := z } := by
  unfold writeMlog
  dsimp only
  generalize (if c = true then 4096 else 4032) = room
  split
  · exact ⟨_, _, _, rfl⟩
  · split
    · exact ⟨_, _, _, rfl⟩
    · simp only [tellLogic_met, State.onMet_met]; exact ⟨_, _, _, rfl⟩

/-- An abort ends the session and leaves the images and the reopens. -/
theorem abortSession_met (c : Nat) (s : State) : (abortSession c s).met.session = none ∧ (abortSession c s).met.cal = s.met.cal ∧
    (abortSession c s).met.calNext = s.met.calNext ∧ (abortSession c s).met.reopens = s.met.reopens ∧
    (abortSession c s).met.calEnHigh = s.met.calEnHigh := by
  unfold abortSession
  split
  · simp_all
  · dsimp only
    split
    · obtain ⟨x, y, z, h⟩ := @writeMlog_met 3 _ _ _ (s.onMet fun m => { m with session := none })
      simp only [finishAt_met]; rw [h]; exact ⟨rfl, rfl, rfl, rfl, rfl⟩
    · obtain ⟨x, y, z, h⟩ := @writeMlog_met 3 _ _ _ (s.onMet fun m => { m with session := none })
      rw [h]; exact ⟨rfl, rfl, rfl, rfl, rfl⟩

/-- The k-th field of a payload of equal fields. -/
theorem shows_flat {k : Nat} (l : List Nat) (n : Nat) (hk : k < l.length) :
    Shows (l.map (leBytes n)).flatten (n * k) n (l.getD k 0) := by
  induction l generalizing k with
  | nil => simp at hk
  | cons a l ih =>
    cases k with
    | zero => simp
    | succ k =>
      rw [List.map_cons, List.flatten_cons, shows_next (by simp [Nat.mul_succ])]
      simpa [Nat.mul_succ] using ih (by simpa using hk)

/-- The due entry is the one dispatched, and leaves the table. -/
theorem dispatch_due {p : SchedAction → Bool} {s : State} {e : SchedEntry} (h : nextDue s = some e) (hp : p e.action = true) :
    ∃ z, dispatch p s = some (e, z) ∧ z.sched = { s.sched with entries := s.sched.entries.filter fun x => !(x.seq == e.seq) } ∧
      Only [.hosts, .sched, .evt, .pair] s z := by
  have : ∃ z, dispatch p s = some (e, z) := by
    unfold dispatch
    rw [h]
    dsimp only
    rw [if_pos hp]
    split <;> exact ⟨_, rfl⟩
  obtain ⟨z, hz⟩ := this
  exact ⟨z, hz, (dispatch_sched hz).2.2, dispatch_only (by decide) (Only.refl _ _) _ _ hz⟩

/-- A shutdown or power-up that begins is the one in progress. -/
theorem transitOf_begin {fn : ArmFn} {up : Bool} {span : Nat} {s : State} :
    transitOf (beginTransit fn up span s) fn = some { fn := fn, up := up, endRc := s.rc + span } := by
  unfold transitOf beginTransit
  rw [State.onPwr_pwr, List.find?_append]
  have h : (s.pwr.transits.filter fun t => t.fn != fn).find? (fun t => t.fn == fn) = none := by
    rw [List.find?_eq_none]
    intro x hx
    have := (List.mem_filter.mp hx).2
    simp only [bne_iff_ne, ne_eq] at this
    simp [this]
  rw [h]
  simp

/-- A change of the triggers changes nothing of the configuration but the count of superseded changes. -/
theorem evalTriggers_cfg (s : State) : ∃ n, (evalTriggers s).cfg = { s.cfg with superseded := n } := by
  have hp : ∀ (e : SchedEntry) (z : State), (placeOr e z).cfg = z.cfg :=
    fun e z => placeOr_only (bs := [.hosts, .sched, .evt, .pair]) (by decide) (Only.refl _ _) .cfg (by decide)
  have hw : ∀ a k, ∃ n, (placeOverlay a k s).cfg = { s.cfg with superseded := n } := by
    intro a k
    unfold placeOverlay
    dsimp only
    have hd : (dropEntries (fun e => isOverlayChange e.action) s).cfg = s.cfg :=
      dropEntries_only (bs := [.hosts, .sched, .evt, .pair]) (by decide) (Only.refl _ _) .cfg (by decide)
    rw [hp]
    split <;> simp only [State.onCfg_cfg, hd] <;> exact ⟨_, rfl⟩
  have hb : ∀ (b : Bool) a k, ∃ n, (if b = true then s else placeOverlay a k s).cfg = { s.cfg with superseded := n } := by
    intro b a k
    cases b
    · exact hw a k
    · exact ⟨_, rfl⟩
  exact hb _ _ _

/-- A write-back leaves the sessions. -/
theorem writeBack_sess (m : Nat) (s : State) : (writeBack m s).sess = s.sess :=
  writeBack_only (bs := [.arch]) (by decide) (Only.refl _ _) .sess (by decide)

/-- A use of a context leaves every context. -/
theorem touch_ctxs (m : Nat) (s : State) : (touch m s).sess.ctxs = s.sess.ctxs := by
  unfold touch
  split
  · rfl
  · dsimp only
    split
    · split
      · rw [State.onSess_sess, writeBack_sess]
      · rfl
    · rfl

/-- The context that was changed. -/
theorem ctxOf_onCtx {m : Nat} {f : MeterCtx → MeterCtx} {s : State} : ctxOf (onCtx m f s) m = (ctxOf s m).map f := by
  unfold onCtx
  cases h : ctxOf s m with
  | none => simp [h]
  | some c =>
    dsimp only
    split
    · rename_i e; simp [h, e]
    · simp only [ctxOf, mirror_sess, touch_ctxs, State.onSess_sess, tfind_tput_self, Option.map_some]

/-- Another context. -/
theorem ctxOf_onCtx_ne {m n : Nat} {f : MeterCtx → MeterCtx} {s : State} (h : n ≠ m) : ctxOf (onCtx m f s) n = ctxOf s n := by
  unfold onCtx
  cases hc : ctxOf s m with
  | none => rfl
  | some c =>
    dsimp only
    split
    · rfl
    · simp only [ctxOf, mirror_sess, touch_ctxs, State.onSess_sess, tfind_tput_ne h]

/-- Counting a replaced slew changes nothing else (R124). -/
theorem countReplaced_eq (s : State) (t : TimeSt) : countReplaced s t = { t with slewDiscarded := (countReplaced s t).slewDiscarded } := by
  unfold countReplaced; split <;> rfl

/-- What preparing a step changes: the shadow pair, and the count of slews it discards (R121, R124). -/
theorem prepareStep_time (base : Nat) (delta : Int) (take : Bool) (s : State) : ∃ n, (prepareStep base delta take s).time =
    { s.time with shadow := some (base, some (s.time.offset + delta)), shadowSlew := none, shadowTake := take, slewDiscarded := n } := by
  refine ⟨(countReplaced s s.time).slewDiscarded, ?_⟩
  show ({ countReplaced s s.time with shadow := _, shadowSlew := none, shadowTake := take } : TimeSt) = _
  rw [countReplaced_eq]

/-- Choosing a source leaves the clock, the pair of the shadow and what the host has set as an offset (R126, R127). -/
theorem selectSource_clock (s : State) : (selectSource s).time.shadow = s.time.shadow ∧ (selectSource s).time.utcFromHost = s.time.utcFromHost ∧
    (selectSource s).time.offset = s.time.offset ∧ (selectSource s).time.incr = s.time.incr ∧ (selectSource s).time.qual0 = s.time.qual0 ∧
    (selectSource s).time.qual1 = s.time.qual1 := by
  unfold selectSource; dsimp only; split <;> exact ⟨rfl, rfl, rfl, rfl, rfl, rfl⟩

/-- Several log entries change nothing of the metering block but the log's counts. -/
theorem foldMlog_met {α : Type} (l : List α) (g : State → α → State)
    (hg : ∀ (s : State) (a : α), ∃ x y z, (g s a).met = { s.met with mlogSeq := x, notLogged := y, mlogStopped := z }) (s : State) :
    ∃ x y z, (l.foldl g s).met = { s.met with mlogSeq := x, notLogged := y, mlogStopped := z } := by
  induction l generalizing s with
  | nil => exact ⟨_, _, _, rfl⟩
  | cons a l ih =>
    obtain ⟨x, y, z, h⟩ := hg s a
    obtain ⟨x', y', z', h'⟩ := ih (g s a)
    rw [List.foldl_cons, h', h]
    exact ⟨x', y', z', rfl⟩

/-- The runs of overloaded cycles change themselves, OVERLOAD and the log's counts (R152). -/
theorem overloadRuns_met (o : BitVec 36) (s : State) : ∃ x y z l, (overloadRuns o s).met =
    { s.met with mlogSeq := x, notLogged := y, mlogStopped := z, overload := o, overRun := l } := by
  obtain ⟨x, y, z, h⟩ := foldMlog_met (s.met.overRun.filter fun r => !o.getLsbD r.1)
    (fun s r => if 50 ≤ r.2.1 then writeMlog 6 r.1 (leBytes 4 r.2.1 ++ leBytes 8 r.2.2) false s else s)
    (fun s r => by
      dsimp only
      split
      · exact writeMlog_met
      · exact ⟨_, _, _, rfl⟩) s
  unfold overloadRuns
  simp only [State.onMet_met]
  rw [h]
  exact ⟨x, y, z, _, rfl⟩

/-- A cycle in the harmonic window changes the window alone (R163). -/
theorem harmCycle_eq (cycle f : Nat) (bad : Bool) (o : BitVec 36) (l : List ChanIn) (m : MetSt) :
    ∃ w e, harmCycle cycle f bad o l m = { m with harmWin := w, harmEnded := e } := by
  unfold harmCycle
  dsimp only
  split
  · exact ⟨_, _, rfl⟩
  · split <;> exact ⟨_, _, rfl⟩

/-- A cycle start changes only the rates (R204). -/
theorem takePending_eq (cycle : Nat) (m : MetSt) :
    ∃ a b c d, takePending cycle m = { m with committed := a, pendingRate := b, tinKeep := c, rate := d } := by
  unfold takePending
  split
  · split <;> exact ⟨_, _, _, _, rfl⟩
  · exact ⟨_, _, _, _, rfl⟩

/-- What a DSP cycle does before its result set: the registers, the count of cycles, and what it leaves (R188, R191). -/
theorem measureCycle_met (e : CycleEnd) (f : Nat) (v : CycleVals) (l : List ChanIn) (c : CycleIn) (s : State) :
    (measureCycle e f v l c s).met.regs = accrueCycle s.met.cal s.met.rate v s.met.regs ∧
    (measureCycle e f v l c s).met.dspCycle = s.met.dspCycle + 1 ∧ (measureCycle e f v l c s).met.results = s.met.results ∧
    (measureCycle e f v l c s).met.cal = s.met.cal ∧ (measureCycle e f v l c s).met.calNext = s.met.calNext ∧
    (measureCycle e f v l c s).met.echoCycle = s.met.echoCycle ∧ (measureCycle e f v l c s).met.boundRc = s.met.boundRc := by
  obtain ⟨x, y, z, o, hm⟩ := overloadRuns_met c.overload s
  have hh : ∀ a b d o l m, (harmCycle a b d o l m).regs = m.regs ∧ (harmCycle a b d o l m).dspCycle = m.dspCycle ∧
      (harmCycle a b d o l m).results = m.results ∧ (harmCycle a b d o l m).cal = m.cal ∧ (harmCycle a b d o l m).calNext = m.calNext ∧
      (harmCycle a b d o l m).echoCycle = m.echoCycle ∧ (harmCycle a b d o l m).boundRc = m.boundRc ∧ (harmCycle a b d o l m).rate = m.rate := by
    intro a b d o l m
    obtain ⟨w, e, h⟩ := harmCycle_eq a b d o l m
    rw [h]
    exact ⟨rfl, rfl, rfl, rfl, rfl, rfl, rfl, rfl⟩
  unfold measureCycle
  refine ⟨?_, ?_, ?_, ?_, ?_, ?_, ?_⟩ <;> simp only [State.onMet_met, hh, debounceTin, hm]

/-- What is told to the logic side leaves the channel as it is. -/
@[simp] theorem tellLogic_seamUp (n : LineNotice) (s : State) : (tellLogic n s).fab.seamUp = s.fab.seamUp := by
  unfold tellLogic
  split
  · rw [show (hearNotice n s).fab = s.fab from hearNotice_only (bs := [.hosts, .evt]) (by decide) (Only.refl _ _) .fab (by decide)]
  · rfl

/-- A log entry leaves the channel as it is. -/
@[simp] theorem writeMlog_seamUp (k a : Nat) (d : List Byte) (c : Bool) (s : State) : (writeMlog k a d c s).fab.seamUp = s.fab.seamUp := by
  unfold writeMlog
  dsimp only
  generalize (if c = true then 4096 else 4032) = room
  split
  · rfl
  · split
    · rfl
    · rw [tellLogic_seamUp]; rfl

/-- The runs of overloaded cycles leave the channel as it is. -/
@[simp] theorem overloadRuns_seamUp (o : BitVec 36) (s : State) : (overloadRuns o s).fab.seamUp = s.fab.seamUp := by
  unfold overloadRuns
  simp only [State.onMet_fab]
  generalize (s.met.overRun.filter fun r => !o.getLsbD r.1) = l
  induction l generalizing s with
  | nil => rfl
  | cons a l ih =>
    rw [List.foldl_cons, ih]
    split
    · rw [writeMlog_seamUp]
    · rfl

/-- A DSP cycle leaves the channel as it is. -/
@[simp] theorem measureCycle_seamUp (e : CycleEnd) (f : Nat) (v : CycleVals) (l : List ChanIn) (c : CycleIn) (s : State) :
    (measureCycle e f v l c s).fab.seamUp = s.fab.seamUp := overloadRuns_seamUp _ _

/-- A write to the Lining that waits still waits after a log entry. -/
theorem writeMlog_pend {k a : Nat} {d : List Byte} {c : Bool} {s : State} {p : LegalImage} (h : p ∈ s.fab.legalPend) :
    p ∈ (writeMlog k a d c s).fab.legalPend := by
  unfold writeMlog
  dsimp only
  generalize (if c = true then 4096 else 4032) = room
  split
  · exact h
  · split
    · refine List.mem_append_left _ (List.mem_filter.mpr ⟨h, ?_⟩)
      simp [bodyReg]
    · unfold tellLogic
      split
      · rw [show ∀ z : State, ∀ n, (hearNotice n z).fab = z.fab from
          fun z n => hearNotice_only (bs := [.hosts, .evt]) (by decide) (Only.refl _ _) .fab (by decide)]
        exact h
      · exact h

/-- After a dispatched entry the state differs only in the host mailboxes, the scheduler, the events and the pair. -/
theorem dispatch_eq {u z : State} (h : Only [.hosts, .sched, .evt, .pair] u z) :
    ∃ a b c d, z = { u with hosts := a, sched := b, evt := c, pair := d } := by
  refine ⟨z.hosts, z.sched, z.evt, z.pair, ?_⟩
  have g := fun b => h b
  obtain ⟨_, _, _, _, _, _, _, _, _, _, _, _, _, _, _, _, _, _, _, _, _, _, _, _⟩ := z
  simp only [State.mk.injEq]
  refine ⟨g .cfg (by decide), trivial, g .mains (by decide), trivial, g .time (by decide), g .fab (by decide), trivial, g .pwr (by decide), g .met (by decide), g .rad (by decide), g .link (by decide), g .plc (by decide), g .sess (by decide), g .vee (by decide), g .bal (by decide), g .arch (by decide), g .upl (by decide), g .fleet (by decide), g .pocket (by decide), g .fwu (by decide), trivial, g .reg (by decide), g .pending (by decide), g .free (by decide)⟩

/-- What a close writes to the registers' windows: the closed window waits for its last cycle and the next one opens at the key (R102, R200). -/
theorem closeWindow_reg (k : Nat) (e : SchedEntry) (s : State) : (closeWindow k e s).reg =
    (fun g : RegSt =>
      let win := if k < 4 then (g.schemes.getD k {}).win else if k = 4 then g.bill else g.series.getD (k - 8) {}
      let g := { g with closings := g.closings ++ [({ win := win, kind := k, closeKey := e.key, nominalMs := if k = 4 then e.wall.map (billingMs s) else none, late := e.late } : Closing)]
                        cumSaved := g.cum }
      if k < 4 then { g with schemes := modAt g.schemes k fun m => { m with win := openWindow s e.key } }
      else if k = 4 then { g with bill := openWindow s e.key, billPlaced := if e.wall.isNone then false else g.billPlaced }
      else { g with series := modAt g.series (k - 8) fun _ => openWindow s e.key }) s.reg := by
  unfold closeWindow
  dsimp only
  split
  · exact (mirror_only (by decide) (Only.refl [.hosts, .evt, .pair] _)) .reg (by decide)
  · rfl

/-- The billing instant depends on the settings and the UTC offset alone. -/
theorem nextBilling_eq {u z : State} (h1 : z.cfg = u.cfg) (h2 : utcOffset z = utcOffset u) (h3 : leapAhead z = leapAhead u) : nextBilling z = nextBilling u := by
  have h4 : utcOf z = utcOf u := by funext x; simp only [utcOf, utcOffsetAt, h2, h3]
  have h5 : taiOfUtc z = taiOfUtc u := by funext x; simp only [taiOfUtc, h2, h3]
  funext x; unfold nextBilling; rw [h1, h4, h5]

/-- A close reads nothing that a dispatch changes. -/
theorem closeWindow_reg' {u z : State} (ho : Only [.hosts, .sched, .evt, .pair] u z) (k : Nat) (e : SchedEntry) :
    (closeWindow k e z).reg = (closeWindow k e u).reg := by
  obtain ⟨p, q, r, w, rfl⟩ := dispatch_eq ho
  rw [closeWindow_reg, closeWindow_reg]
  have hO : ∀ k, openWindow { u with hosts := p, sched := q, evt := r, pair := w } k = openWindow u k := fun _ => rfl
  have hN : nextBilling { u with hosts := p, sched := q, evt := r, pair := w } = nextBilling u := nextBilling_eq rfl rfl rfl
  have hB : billingMs { u with hosts := p, sched := q, evt := r, pair := w } = billingMs u := by
    funext x; unfold billingMs; rw [hN]
  simp only [hO, hB]

/-- Placing the next entry of a series leaves the registers. -/
theorem refireSeries_reg (e : SchedEntry) (s : State) : (refireSeries e s).reg = s.reg :=
  (refireSeries_only (e := e) (by decide) (Only.refl [.hosts, .sched, .evt, .pair] s)) .reg (by decide)

/-- A close with the front end powered (R196). -/
theorem fireClose_on {z : State} (hm : metroOff z = false) (k : Nat) (e : SchedEntry) :
    fireClose k e z = refireSeries e (closeWindow k e (missedEvent e z)) := by
  unfold fireClose
  simp only [hm, Bool.false_eq_true, if_false]

/-- The registers after a dispatched close (R102, R200). -/
theorem fireClose_reg {u z : State} (ho : Only [.hosts, .sched, .evt, .pair] u z) (hm : metroOff u = false) (k : Nat) (e : SchedEntry) :
    (fireClose k e z).reg = (closeWindow k e u).reg := by
  have hz : metroOff z = false := by
    have : z.cfg = u.cfg := ho .cfg (by decide)
    simpa [metroOff, this] using hm
  rw [fireClose_on hz, refireSeries_reg]
  exact closeWindow_reg' (missedEvent_only (by decide) ho) k e

/-- A delta leaves the pair's state. -/
theorem mirror_pairState (b : DeltaBody) (s : State) : (mirror b s).pair.state = s.pair.state := by
  unfold mirror
  split
  · dsimp only
    split
    · rw [show ∀ z, (setSticky 0x074 0x1000 (raise .journalFull 0x60 [] z)).pair = z.pair from fun z =>
        setSticky_only (by decide) (raise_only (by decide) (Only.refl [.hosts, .evt] z)) .pair (by decide)]
      rfl
    · rfl
  · rfl

/-- Removing entries leaves the pair's state. -/
theorem dropEntries_pairState (p : SchedEntry → Bool) (s : State) : (dropEntries p s).pair.state = s.pair.state := by
  unfold dropEntries
  dsimp only
  suffices h : ∀ (l : List SchedEntry) (z : State), (l.foldl (fun s e => mirror (.sched e.seq none) s) z).pair.state = z.pair.state by
    rw [h]; rfl
  intro l
  induction l with
  | nil => intro z; rfl
  | cons e l ih => intro z; rw [List.foldl_cons, ih, mirror_pairState]

/-- Dispatching leaves the pair's state. -/
theorem dispatch_pairState {p : SchedAction → Bool} {s z : State} {e : SchedEntry} (h : dispatch p s = some (e, z)) : z.pair.state = s.pair.state := by
  unfold dispatch at h
  split at h
  · cases h
  · split at h
    · dsimp only at h
      split at h <;> cases h
      · rw [show ∀ z, (setSticky 0x030 0x100 z).pair = z.pair from fun z =>
          setSticky_only (by decide) (Only.refl [.hosts, .evt] z) .pair (by decide)]
        exact dropEntries_pairState _ _
      · exact dropEntries_pairState _ _
    · cases h

/-- A change of a context leaves the rest of the session block (R375). -/
theorem onCtx_sess {m : Nat} {f : MeterCtx → MeterCtx} {s : State} :
    (onCtx m f s).sess = { s.sess with ctxs := (onCtx m f s).sess.ctxs, dirty := (onCtx m f s).sess.dirty } := by
  unfold onCtx
  cases hc : ctxOf s m with
  | none => rfl
  | some c =>
    dsimp only
    split
    · rfl
    · have ht : ∀ z : State, (touch m z).sess = { z.sess with dirty := (touch m z).sess.dirty } := by
        intro z
        unfold touch
        split
        · rfl
        · dsimp only
          split
          · split
            · rw [State.onSess_sess, writeBack_sess]
            · rfl
          · rfl
      simp only [mirror_sess]
      rw [ht]
      rfl

/-- Counting a push leaves the session block. -/
theorem countPush_sess (q : Nat) {α : Type} (a b : List α) (s : State) : (countPush q a b s).sess = s.sess :=
  countPush_only (bs := [.hosts, .fab, .evt]) (by decide) (Only.refl _ _) .sess (by decide)

/-- A push onto Q4 reaches the ring or the items held behind it, in order, and changes nothing else of the session block (R48, R49, R403). -/
theorem pushQ4_sess (r : Record) (s : State) :
    ∃ a b, (pushQ4 r s).sess = { s.sess with q4 := a, q4Held := b } ∧ a ++ b = s.sess.q4 ++ s.sess.q4Held ++ [r] := by
  unfold pushQ4 pushOrHold
  simp only [State.onSess_sess, countPush_sess]
  split
  · rename_i h
    simp only [Bool.and_eq_true, List.isEmpty_iff] at h
    exact ⟨_, _, rfl, by simp [h.1]⟩
  · exact ⟨_, _, rfl, by simp⟩

/-- Pushing records appends them to Q4 or what is held behind it, numbered, and leaves Q3 and the counts (R397, R403). -/
theorem pushMeterRecords_sess (m : Nat) (recs : List Record) (s : State) :
    (pushMeterRecords m recs s).sess.q3 = s.sess.q3 ∧ (pushMeterRecords m recs s).sess.dupRecord = s.sess.dupRecord ∧
    ((pushMeterRecords m recs s).sess.q4 ++ (pushMeterRecords m recs s).sess.q4Held).map (fun r => { r with seq := 0 }) =
      (s.sess.q4 ++ s.sess.q4Held ++ recs).map (fun r => { r with seq := 0 }) := by
  unfold pushMeterRecords
  induction recs generalizing s with
  | nil => simp
  | cons r l ih =>
    rw [List.foldl_cons]
    obtain ⟨a, b, e, g⟩ := pushQ4_sess { r with seq := s.sess.seq } s
    obtain ⟨h1, h2, h3⟩ := ih (onCtx m (fun c => { c with lastSeq := s.sess.seq }) (((pushQ4 { r with seq := s.sess.seq } s).onSess fun b => { b with seq := inc32 s.sess.seq }).onHosts fun h => { h with recordsOut := inc32 h.recordsOut }))
    refine ⟨h1.trans ?_, h2.trans ?_, h3.trans ?_⟩
    · rw [onCtx_sess]; simp [e]
    · rw [onCtx_sess]; simp [e]
    · rw [onCtx_sess]
      simp only [State.onHosts_sess, State.onSess_sess, e, g]
      simp

/-- Counting a push leaves the validation block. -/
theorem countPush_vee (q : Nat) {α : Type} (a b : List α) (s : State) : (countPush q a b s).vee = s.vee :=
  countPush_only (bs := [.fab]) (by decide) (Only.refl _ _) .vee (by decide)

/-- An item pushed onto a ring, or held for it, comes last. -/
theorem pushOrHold_append {α : Type} (n : Nat) (ring held : List α) (x : α) :
    (pushOrHold n ring held x).1 ++ (pushOrHold n ring held x).2 = ring ++ held ++ [x] := by
  unfold pushOrHold
  split
  · rename_i h
    simp only [Bool.and_eq_true, List.isEmpty_iff] at h
    simp [h.1]
  · simp

/-- A ring with room and nothing held behind it takes an item (R49). -/
theorem pushOrHold_room {α : Type} {n : Nat} {ring : List α} (x : α) (h : ring.length < n) : pushOrHold n ring [] x = (ring ++ [x], []) := by
  simp [pushOrHold, h]

/-- What an emission does to the validation block: Q5 and Q6 take the record or hold it (R49, R51, R403). -/
theorem emitRecord_vee (r : Record) (s : State) : (emitRecord r s).vee =
    { s.vee with
      q5 := (pushOrHold (Config.ringDepth 5) s.vee.q5 s.vee.q5Held r).1, q5Held := (pushOrHold (Config.ringDepth 5) s.vee.q5 s.vee.q5Held r).2
      q6 := (pushOrHold (Config.ringDepth 6) s.vee.q6 s.vee.q6Held r).1, q6Held := (pushOrHold (Config.ringDepth 6) s.vee.q6 s.vee.q6Held r).2 } := by
  unfold emitRecord
  dsimp only
  rw [show ∀ (l : List RingSt) (w : State), (l.foldl (fun s (q : RingSt) => tapRing q.number (recordBytes r) s) w).vee = w.vee from fun l w =>
    Only.foldl (bs := [.hosts]) (fun _ _ h => tapRing_only (by decide) h) (Only.refl _ _) .vee (by decide)]
  simp only [State.onHosts_vee, State.onVee_vee, countPush_vee]

/-- An emission leaves the session block. -/
theorem emitRecord_sess (r : Record) (s : State) : (emitRecord r s).sess = s.sess :=
  emitRecord_only (bs := [.hosts, .fab, .vee]) (by decide) (Only.refl _ _) .sess (by decide)

/-- A change of a child leaves the rest of the uplink. -/
theorem onChild_upl (c : Nat) (f : Child → Child) (s : State) : (onChild c f s).upl = { s.upl with children := (onChild c f s).upl.children } := by
  unfold onChild
  split <;> rfl

/-- A message to a child leaves the rest of the uplink. -/
theorem sendChild_upl (c : Nat) (m : DnMsg) (s : State) :
    (sendChild c m s).upl = { s.upl with children := (sendChild c m s).upl.children, dnOut := (sendChild c m s).upl.dnOut } := by
  unfold sendChild
  split
  · rfl
  · simp only [State.onUpl_upl]
    rw [onChild_upl]

/-- An acknowledgement to a child leaves the rest of the uplink. -/
theorem ackChild_upl (c : Nat) (s : State) : (ackChild c s).upl = { s.upl with children := (ackChild c s).upl.children, dnOut := (ackChild c s).upl.dnOut } := by
  unfold ackChild
  split
  · rfl
  · split
    · rfl
    · split
      · rfl
      · rw [sendChild_upl, onChild_upl]

/-- Credit sent to the children leaves the rest of the uplink. -/
theorem grantCredit_upl (s : State) :
    (grantCredit s).upl = { s.upl with children := (grantCredit s).upl.children, dnOut := (grantCredit s).upl.dnOut } := by
  have hf : ∀ (g : State → Nat × Child → State) (_ : ∀ z k, (g z k).upl = { z.upl with children := (g z k).upl.children, dnOut := (g z k).upl.dnOut })
      (l : List (Nat × Child)) (z : State), (l.foldl g z).upl = { z.upl with children := (l.foldl g z).upl.children, dnOut := (l.foldl g z).upl.dnOut } := by
    intro g hg l
    induction l with
    | nil => exact fun _ => rfl
    | cons k l ih =>
      intro z
      rw [List.foldl_cons, ih, hg]
  refine hf _ ?_ _ _
  intro z k
  dsimp only
  split
  · split
    · rfl
    · rw [sendChild_upl, onChild_upl]
  · rfl

/-- Back-pressure leaves the rest of the uplink. -/
theorem refreshPressure_upl (s : State) :
    (refreshPressure s).upl = { s.upl with children := (refreshPressure s).upl.children, dnOut := (refreshPressure s).upl.dnOut } := by
  unfold refreshPressure
  dsimp only
  split <;> split <;> first | rfl | (rw [grantCredit_upl]; rfl) | (split <;> first | rfl | (rw [grantCredit_upl]; rfl))

/-- A changed child reads as changed. -/
theorem onChild_self {c : Nat} {f : Child → Child} {s : State} {x : Child} (h : childOf s c = some x) : childOf (onChild c f s) c = some (f x) := by
  unfold onChild
  rw [h]
  simp [childOf]

/-- A message to a connected child takes the next MSG_SEQ of its connection. -/
theorem sendChild_self {c : Nat} {m : DnMsg} {s : State} {x : Child} {n : ChildConn} (h : childOf s c = some x) (hn : x.conn = some n) :
    childOf (sendChild c m s) c = some { x with conn := some { n with sendSeq := inc32 n.sendSeq, lastTx := s.rc } } ∧
      (sendChild c m s).upl.dnOut = s.upl.dnOut ++ [(c, n.sendSeq, m)] := by
  unfold sendChild
  rw [h]
  simp only [Option.bind_some, hn]
  refine ⟨onChild_self h, ?_⟩
  rw [State.onUpl_upl, onChild_upl]

/-- A message of a child renews its instants. -/
theorem heardChild_self {c : Nat} {s : State} {x : Child} (h : childOf s c = some x) :
    childOf (heardChild c s) c = some { x with lastSeenTai := s.tai, conn := x.conn.map fun n => { n with lastRx := s.rc } } := onChild_self h

/-- An acknowledgement changes only the connection of its child. -/
theorem ackChild_self {c : Nat} {s : State} {x : Child} (h : childOf s c = some x) : ∃ n, childOf (ackChild c s) c = some { x with conn := n } := by
  unfold ackChild
  rw [h]
  dsimp only
  split
  · exact ⟨x.conn, h⟩
  · split
    · exact ⟨x.conn, h⟩
    · exact ⟨_, (sendChild_self (onChild_self h) rfl).1⟩

/-- A change of one child's connection changes no other field of a child. -/
theorem onChild_conn {c k : Nat} {s : State} {x : Child} {n : Option ChildConn} (h : childOf s c = some x) :
    ∃ n', childOf (onChild k (fun y => { y with conn := n }) s) c = some { x with conn := n' } := by
  by_cases hk : k = c
  · subst hk
    exact ⟨n, onChild_self h⟩
  · unfold onChild
    split
    · refine ⟨x.conn, ?_⟩
      rename_i y _
      have := tfind_tput_ne (t := s.upl.children) (v := { y with conn := n }) (Ne.symm hk)
      simpa [childOf, this] using h
    · exact ⟨x.conn, h⟩

/-- A message to a child changes no field of a child but a connection. -/
theorem sendChild_conn {c k : Nat} {m : DnMsg} {s : State} {x : Child} (h : childOf s c = some x) :
    ∃ n', childOf (sendChild k m s) c = some { x with conn := n' } := by
  unfold sendChild
  split
  · exact ⟨x.conn, h⟩
  · exact onChild_conn h

/-- Credit changes no field of a child but a connection. -/
theorem grantCredit_conn {c : Nat} {s : State} {x : Child} (h : childOf s c = some x) : ∃ n', childOf (grantCredit s) c = some { x with conn := n' } := by
  have hf : ∀ (g : State → Nat × Child → State) (_ : ∀ z k y, childOf z c = some y → ∃ n, childOf (g z k) c = some { y with conn := n })
      (l : List (Nat × Child)) (z : State) (y : Child), childOf z c = some y → ∃ n, childOf (l.foldl g z) c = some { y with conn := n } := by
    intro g hg l
    induction l with
    | nil => exact fun z y hz => ⟨y.conn, hz⟩
    | cons k l ih =>
      intro z y hz
      obtain ⟨n, hn⟩ := hg z k y hz
      obtain ⟨m, hm⟩ := ih (g z k) { y with conn := n } hn
      exact ⟨m, hm⟩
  refine hf _ ?_ _ _ _ h
  intro z k y hz
  split
  · split
    · exact ⟨y.conn, hz⟩
    · rename_i n _ _
      obtain ⟨m, hm⟩ := onChild_conn (k := k.1) (n := some { n with credit := creditOf z }) hz
      obtain ⟨m, hm⟩ := sendChild_conn (k := k.1) (m := .credit (creditOf z)) hm
      exact ⟨m, hm⟩
  · exact ⟨y.conn, hz⟩

/-- Back-pressure changes no field of a child but a connection. -/
theorem refreshPressure_conn {c : Nat} {s : State} {x : Child} (h : childOf s c = some x) : ∃ n', childOf (refreshPressure s) c = some { x with conn := n' } := by
  unfold refreshPressure
  dsimp only
  split <;> split <;> first | exact ⟨x.conn, h⟩ | exact grantCredit_conn h | (split <;> first | exact ⟨x.conn, h⟩ | exact grantCredit_conn h)

/-- A fleet checkpoint changes nothing of the fleet block but the key of the last one (R583). -/
theorem fleetCheckpoint_fleet (s : State) : (fleetCheckpoint s).fleet = { s.fleet with ckptKey := (fleetCheckpoint s).fleet.ckptKey } := by
  have h0 : Only [.arch] s (syncLedger s) := syncLedger_only (by decide) (Only.refl _ _)
  have h1 : OnlyOptP [.arch] s (writeSystem definitionsPage (.fleet { pushes := s.fleet.pushes, camps := s.fleet.camps }) (syncLedger s)) := writeSystem_only (by decide) h0
  unfold fleetCheckpoint
  split
  · rename_i w h
    rw [h] at h1
    rw [State.onFleet_fleet, show w.fleet = s.fleet from h1 _ _ rfl .fleet (by decide)]
  · rfl

/-- A block written to the ledger changes nothing else of the fleet block (R596). -/
theorem putAccount_fleet (a : Nat) (b : Account) (s : State) : (putAccount a b s).fleet = { s.fleet with ledger := tput s.fleet.ledger a b } := by
  unfold putAccount
  rw [(mirror_only (bs := [.hosts, .evt, .pair]) (by decide) (Only.refl _ _) : Only [.hosts, .evt, .pair] (writeAccount a b s) _) .fleet (by decide)]
  unfold writeAccount
  dsimp only
  split
  · rw [(storePage_only (bs := [.arch]) (by decide) (Only.refl _ _) : Only [.arch] (s.onFleet fun f => { f with ledger := tput f.ledger a b }) _) .fleet (by decide)]
    rfl
  · rfl

/-- The key depends on the cycle counter and the clock alone (R59). -/
theorem key_of_clock {s t : State} (hm : t.mains = s.mains) (ht : t.time = s.time) : t.key = s.key := by
  unfold State.key State.phase phaseAt nominalHz
  rw [hm, ht]

/-- A doorbell that wakes changes no host's registers (R802). -/
theorem ringBell_host (h k : Fin 4) (s : State) : (ringBell h s).host k = s.host k := by unfold ringBell; dsimp only; split <;> rfl

/-- A doorbell that wakes leaves the clock. -/
theorem ringBell_rc (h : Fin 4) (s : State) : (ringBell h s).rc = s.rc := by unfold ringBell; dsimp only; split <;> rfl

/-- A doorbell that wakes leaves CMD_FREE. -/
theorem cmdFree_ringBell (h : Fin 4) (x : HostSt) (s : State) : cmdFree (ringBell h s) x = cmdFree s x := by unfold ringBell; dsimp only; split <;> rfl

/-- A field of the bytes before an append. -/
theorem fld_append_left {a b : List Byte} {off n : Nat} (h : off + n ≤ a.length) : fld (a ++ b) off n = fld a off n := by
  unfold fld
  rw [List.drop_append_of_le_length (by omega), List.take_append_of_le_length (by simp; omega)]

/-- The body key and the nonce of a KUM rest on its first 160 bytes (R674). -/
theorem kumSecret_append {s : State} {a b : List Byte} (h : 160 ≤ a.length) : kumSecret s (a ++ b) = kumSecret s a := by
  unfold kumSecret
  rw [fld_append_left (by omega), List.drop_append_of_le_length (by omega), List.drop_append_of_le_length (by omega),
    List.take_append_of_le_length (by simp; omega), List.take_append_of_le_length (by simp; omega)]

/-- A KUM whose tag was made over its body and bytes 0–159 opens (R673, R674). -/
theorem kumOpen_sealed {s : State} {a c sig : List Byte} (h : a.length = 160) (hc : fld a 152 4 = c.length) :
    kumOpen s (a ++ (c ++ (leBytes 16 (gcmTagOf 16 (kumSecret s a).1 (kumSecret s a).2 a c) ++ sig))) = some (gcmXor (kumSecret s a).1 (kumSecret s a).2 c) := by
  unfold kumOpen gcmOpen
  rw [kumSecret_append (by omega), fld_append_left (by omega), hc]
  dsimp only
  rw [List.drop_left' h, List.take_left' rfl, List.take_left' h, ← h, fld_next (by omega), fld_next (by omega), show a.length + c.length - a.length - c.length = 0 by omega, fld_head, if_pos]
  exact Nat.mod_eq_of_lt (Nat.mod_lt _ (by decide))

/-- A unit that does not mirror sends no delta. -/
theorem mirror_idle {b : DeltaBody} {s : State} (h : s.pair.state ≠ .active ∨ s.pair.mirroring = false) : mirror b s = s := by
  unfold mirror
  split
  · rename_i h1 h2
    rcases h with h | h
    · exact absurd h1 h
    · rw [h] at h2; cases h2
  · rfl

/-- On a unit that does not mirror, removing entries leaves the pair. -/
theorem dropEntries_idle {p : SchedEntry → Bool} {s : State} (h : s.pair.state ≠ .active ∨ s.pair.mirroring = false) : (dropEntries p s).pair = s.pair := by
  unfold dropEntries
  dsimp only
  suffices hl : ∀ (l : List SchedEntry) (z : State), z.pair = s.pair → (l.foldl (fun s e => mirror (.sched e.seq none) s) z).pair = s.pair from hl _ _ rfl
  intro l
  induction l with
  | nil => exact fun _ hz => hz
  | cons e l ih =>
    intro z hz
    rw [List.foldl_cons, mirror_idle (by rw [hz]; exact h)]
    exact ih z hz

/-- On a unit that does not mirror, placing an entry leaves the pair. -/
theorem placeOr_idle {e : SchedEntry} {s : State} (h : s.pair.state ≠ .active ∨ s.pair.mirroring = false) : (placeOr e s).pair = s.pair := by
  unfold placeOr
  cases hp : place e s with
  | none => rfl
  | some z =>
    unfold place at hp
    dsimp only at hp
    by_cases hq : (if e.cls ≤ 6 then 512 else if e.cls = 7 then 2560 else 256) ≤ quotaUsed s e.cls e.owner
    · rw [if_pos hq] at hp
      cases hp
    · rw [if_neg hq] at hp
      cases hp
      show (if mirroredClass e.cls = true then _ else _ : State).pair = s.pair
      split
      · rw [mirror_idle (by exact h)]; rfl
      · rfl

/-- On a unit that does not mirror, the triggers leave the pair. -/
theorem evalTriggers_idle {s : State} (h : s.pair.state ≠ .active ∨ s.pair.mirroring = false) : (evalTriggers s).pair = s.pair := by
  have hb : ∀ (b : Bool) a k, (if b = true then s else placeOverlay a k s).pair = s.pair := by
    intro b a k
    cases b
    · have hd := dropEntries_idle (p := fun e => isOverlayChange e.action) h
      unfold placeOverlay
      dsimp only
      simp only [Bool.false_eq_true, if_false]
      generalize hz : (if (waitingOverlay s).isSome = true then _ else _) = z
      have hp : z.pair = s.pair := by
        subst hz
        split <;> exact hd
      rw [placeOr_idle (by rw [hp]; exact h), hp]
    · rfl
  exact hb _ _ _

/-- What entering a pair state changes of the pair on a unit that does not mirror in it (R735, R746). -/
theorem toPair_pair {p : PairState} {s : State} (h : p ≠ .active ∨ s.pair.mirroring = false) : (toPair p s).pair =
    { s.pair with
      state := p, takeoverKey := if leads p then s.key else s.pair.takeoverKey, insyncKey := if p = .inSync then s.key else s.pair.insyncKey
      revertReq := s.pair.revertReq && p == .inSync } := by
  unfold toPair
  rw [evalTriggers_idle]
  · rfl
  · exact h

/-- A lane message that the other SIDE sealed verifies where slot 5 is usable (R733, R734). -/
theorem laneVerifies_sealed {s : State} {m : LaneMsg} {starts msg : Nat} (h : slotUsable s 5 = true) :
    laneVerifies s m { starts := starts, msg := msg, tag := laneTag s (1 - (pairCfg s).side) starts msg m } = true := by
  unfold laneVerifies
  rw [h]
  exact beq_self_eq_true _

/-- A lane message that verifies is taken (R734). -/
theorem onLane_good {s : State} {m : LaneMsg} {x : LaneSeal} {f : State → State} (h1 : pairOn s = true) (h2 : s.pwr.stage = .running) (h3 : s.pair.laneUp = true)
    (h4 : laneVerifies s m x = true) : onLane m x f s = f s := by
  unfold onLane
  rw [if_pos (by simp [h1, h2, h3]), if_pos h4]

/-- A heartbeat goes out by pin, and by lane as one message (R727). -/
theorem sendHeartbeat_pair (b : Bool) (s : State) : (sendHeartbeat b s).pair =
    { s.pair with pinOut := s.pair.pinOut ++ [heartbeatOf s false b], laneOut := (sendHeartbeat b s).pair.laneOut, msgCount := (sendHeartbeat b s).pair.msgCount } := by
  unfold sendHeartbeat
  rw [State.onPair_pair]
  dsimp only
  split <;> rfl

/-- Nothing of the pair but what a mirrored change sends and keeps differs (R736, R740, R742). -/
def SentOnly (a b : PairSt) : Prop :=
  b = { a with laneOut := b.laneOut, msgCount := b.msgCount, jseq := b.jseq, itemSeq := b.itemSeq, journal := b.journal, journalOpen := b.journalOpen
               mirroring := b.mirroring, lostSent := b.lostSent }

/-- What two changes send is what one sends. -/
theorem SentOnly.trans {a b c : PairSt} (h : SentOnly a b) (k : SentOnly b c) : SentOnly a c := by
  unfold SentOnly at *
  rw [k, h]

/-- What a mirrored change does to the pair (R736, R742). -/
theorem mirror_sent (b : DeltaBody) (s : State) : SentOnly s.pair (mirror b s).pair := by
  unfold mirror
  split
  · dsimp only
    split
    · rw [show ∀ z, (setSticky 0x074 0x1000 (raise .journalFull 0x60 [] z)).pair = z.pair from fun z =>
        setSticky_only (by decide) (raise_only (by decide) (Only.refl [.hosts, .evt] z)) .pair (by decide)]
      rfl
    · rfl
  · rfl

/-- Removing entries does no more to the pair than their deltas. -/
theorem dropEntries_sent (p : SchedEntry → Bool) (s : State) : SentOnly s.pair (dropEntries p s).pair := by
  unfold dropEntries
  dsimp only
  suffices h : ∀ (l : List SchedEntry) (z : State), SentOnly z.pair (l.foldl (fun s e => mirror (.sched e.seq none) s) z).pair from h _ _
  intro l
  induction l with
  | nil => exact fun _ => rfl
  | cons e l ih => exact fun z => (mirror_sent _ z).trans (ih _)

/-- Placing an entry does no more to the pair than its delta. -/
theorem placeOr_sent (e : SchedEntry) (s : State) : SentOnly s.pair (placeOr e s).pair := by
  unfold placeOr
  cases hp : place e s with
  | none => exact rfl
  | some z =>
    unfold place at hp
    dsimp only at hp
    by_cases hq : (if e.cls ≤ 6 then 512 else if e.cls = 7 then 2560 else 256) ≤ quotaUsed s e.cls e.owner
    · rw [if_pos hq] at hp
      cases hp
    · rw [if_neg hq] at hp
      cases hp
      show SentOnly s.pair (if mirroredClass e.cls = true then _ else _ : State).pair
      split
      · exact mirror_sent _ _
      · rfl

/-- Dispatching an entry does no more to the pair than its delta. -/
theorem dispatch_sent {p : SchedAction → Bool} {s z : State} {e : SchedEntry} (h : dispatch p s = some (e, z)) : SentOnly s.pair z.pair := by
  unfold dispatch at h
  split at h
  · cases h
  · split at h
    · dsimp only at h
      split at h <;> cases h
      · rw [show ∀ z, (setSticky 0x030 0x100 z).pair = z.pair from fun z =>
          setSticky_only (by decide) (Only.refl [.hosts, .evt] z) .pair (by decide)]
        exact dropEntries_sent _ _
      · exact dropEntries_sent _ _
    · cases h

/-- The triggers do no more to the pair than the deltas of the overlay entries. -/
theorem evalTriggers_sent (s : State) : SentOnly s.pair (evalTriggers s).pair := by
  have hb : ∀ (b : Bool) a k, SentOnly s.pair (if b = true then s else placeOverlay a k s).pair := by
    intro b a k
    cases b
    · unfold placeOverlay
      simp only [Bool.false_eq_true, if_false]
      refine SentOnly.trans ?_ (placeOr_sent _ _)
      split <;> exact dropEntries_sent _ s
    · exact rfl
  exact hb _ _ _

/-- The CRC of a heartbeat frame does not cover itself (HF8). -/
theorem frameCrc_crc (h : HbMsg) (c : BitVec 16) : frameCrc { h with crc := c } = frameCrc h := rfl

/-- An entry that is due is dispatched and gone (R88, R90). -/
theorem dispatch_some {p : SchedAction → Bool} {s : State} {e : SchedEntry} (h : nextDue s = some e) (hp : p e.action = true) :
    ∃ z, dispatch p s = some (e, z) ∧ z.pair = (dropEntry e.seq s).pair ∧ z.sched = { s.sched with entries := s.sched.entries.filter fun o => !(o.seq == e.seq) } := by
  unfold dispatch
  rw [h]
  dsimp only
  rw [if_pos hp]
  have hs : ∀ z : State, (setSticky 0x030 0x100 z).pair = z.pair ∧ (setSticky 0x030 0x100 z).sched = z.sched := fun z =>
    ⟨setSticky_frame 0x030 0x100 z .pair (by decide), setSticky_frame 0x030 0x100 z .sched (by decide)⟩
  split
  · refine ⟨_, rfl, (hs _).1, ?_⟩
    rw [(hs _).2]
    exact dropEntries_sched _ _
  · exact ⟨_, rfl, rfl, dropEntries_sched _ _⟩

/-- Placing an entry adds to the table alone (R86). -/
theorem placeOr_sched (e : SchedEntry) (s : State) :
    (placeOr e s).sched = { s.sched with entries := (placeOr e s).sched.entries, nextSeq := (placeOr e s).sched.nextSeq } := by
  unfold placeOr
  cases hp : place e s with
  | none => rfl
  | some z =>
    unfold place at hp
    dsimp only at hp
    by_cases hq : (if e.cls ≤ 6 then 512 else if e.cls = 7 then 2560 else 256) ≤ quotaUsed s e.cls e.owner
    · rw [if_pos hq] at hp
      cases hp
    · rw [if_neg hq] at hp
      cases hp
      dsimp only [Option.getD_some]
      split
      · rw [mirror_only (bs := [.hosts, .evt, .pair]) (by decide) (Only.refl _ _) .sched (by decide)]
        rfl
      · rfl

/-- A heartbeat that carries its own CRC checks (R727). -/
theorem frameCrc_kept (h : HbMsg) : ({ h with crc := frameCrc h } : HbMsg).crc = frameCrc { h with crc := frameCrc h } := (frameCrc_crc h _).symm

/-- A broadcast counter as written (R605). -/
theorem writeCounter_bcast (n v : Nat) (s : State) : (writeCounter n v s).fleet.bcast = tput s.fleet.bcast n v := by
  have hs : ∀ z : State, (saveCounter n v z).fleet.bcast = z.fleet.bcast := by
    intro z
    unfold saveCounter
    dsimp only
    split
    · exact (congrArg FleetSt.bcast (storePage_only (bs := [.arch]) (by decide) (Only.refl _ (z.onFleet fun b => { b with bcastSaved := tput b.bcastSaved n v })) .fleet (by decide)) :)
    · rfl
  unfold writeCounter
  dsimp only
  split
  · split
    · rfl
    · rw [hs]
      rfl
  · rw [hs]
    rfl


/-- A class 2 item that is newer is applied, its JSEQ kept, the sessions untouched (R736, R737). -/
theorem applyAt_bcast {j n v : Nat} {s : State} (h : itemJseq s (2, n) < j) :
    (applyAt j (.bcast n v) s).fleet.bcast = tput s.fleet.bcast n v ∧ (applyAt j (.bcast n v) s).sess = s.sess ∧
    (applyAt j (.bcast n v) s).pair = { s.pair with itemSeq := ((2, n), j) :: s.pair.itemSeq.filter fun q => q.1 != (2, n) } := by
  have hp : (writeCounter n v s).pair = s.pair := writeCounter_only (bs := [.arch, .fleet]) (by decide) (Only.refl _ s) .pair (by decide)
  have hq : (writeCounter n v s).sess = s.sess := writeCounter_only (bs := [.arch, .fleet]) (by decide) (Only.refl _ s) .sess (by decide)
  have hi : applyAt j (.bcast n v) s = (writeCounter n v s).onPair fun p => { p with itemSeq := ((2, n), j) :: p.itemSeq.filter fun q => q.1 != (2, n) } := by
    unfold applyAt
    rw [if_pos (show itemJseq s (DeltaBody.item (.bcast n v)) < j from h)]
    rfl
  rw [hi]
  exact ⟨writeCounter_bcast n v s, hq, by rw [State.onPair_pair, hp]⟩


/-- The pair state after a return to Standby (PT7). -/
theorem toStandby_pair (b : Bool) (s : State) : (toStandby b s).pair = { s.pair with
    state := .standby, revertReq := false, rxJseq := none, snapEndSeen := none, jGap := [], resyncPct := 0
    retryKey := if b then some (s.key + 3000 * mc) else s.pair.retryKey } := by
  unfold toStandby
  rw [State.onPair_pair, toPair_pair (Or.inl (by decide))]
  simp [leads]

end Sys2Proof.Machine
end

