-- ==== Sys2Proof/Tests/Base.lean ====
section
/-! SUPPORT. The small states on which the tests and the witnesses stand. -/

namespace Sys2Proof.Machine

/-- The state with a dispatched command of a host in front. -/
def enqueue (h : Fin 4) (tk : Taken) (s : State) : State := s.onHosts fun b => { b with dispatchQ := (h.val, tk) :: b.dispatchQ }

/-- A dispatched command with a payload. -/
def cmd (op : Nat) (p : List Byte) : Taken := { opcode := op, payload := p }

/-- A device that runs: both islands powered, the start ended. -/
def running : State :=
  (State.reset.onPwr fun p => { p with lineOn := true, aonOn := true, stage := .running, resetLow := false, runLive := true, runReached7 := true,
                                       vinMv := 36000 }).onHosts fun b => { b with ready := true }

/-- A device that runs, in the power state Run. -/
def working : State := running.onPwr fun p => { p with state := .run }

/-- A device with a small archive of two dies: two blocks to a die, four pages to a block. -/
def archUp : State :=
  working.onArch fun a =>
    { a with state := 2, format := some { groups := [[0, 1]], dies := [0, 1], recPages := 4 }, dies := [(0, {}), (1, {})], blocks := 2,
             pagesPerBlock := 4 }

/-- A device of the field role that keeps no parent and stands alone. -/
def aloneIn (s : State) : State :=
  (s.onCfg fun c => { c with startCfg := { c.startCfg with role := some .field, parent := false } }).onPair fun p => { p with state := .solo }

/-- A device whose parent's connection is this one. -/
def underParent (c : UpConn) : State :=
  (working.onUpl fun u => { u with conn := some c, state := 2 }).onCfg fun x => { x with act := { x.act with parent := true } }

/-- A device with this child under number 7. -/
def withChild (x : Child) : State := working.onUpl fun u => { u with children := [(7, x)] }

/-- A device of the field role that takes part in a pair. -/
def paired (f : PairSt → PairSt) : State :=
  (working.onCfg fun c =>
    { c with startCfg := { c.startCfg with role := some .field, pair := { c.startCfg.pair with enable := true } } }).onPair f

/-- A deployed device with a staged Key Update Message of this head, of 160 bytes, a body of 8 zero bytes under its tag, and a signature. -/
def sealedKum (a : List Byte) : State :=
  working.onPocket fun k => { k with lifecycle := .deployed, staged := a ++ (leBytes 8 0 ++ (leBytes 16 (gcmTagOf 16 (kumSecret working a).1
    (kumSecret working a).2 a (leBytes 8 0)) ++ leBytes 96 0)) }

/-- The bytes of a small configuration image: version 1, no fields. -/
def imageBytes : List Byte :=
  leBytes 4 0x47464344 ++ leBytes 4 1 ++ leBytes 4 0x9100 ++ leBytes 4 1 ++ leBytes 32 0 ++ leBytes 80 0 ++ leBytes 96 0

/-- What the schema reads in it. -/
def imageRead : CfgImage := { base := { State.reset.cfg.startCfg with role := some .field } }

theorem append_low {n m : Nat} (a : BitVec n) (b : BitVec m) : (a ++ b).extractLsb' 0 m = b := by
  ext i hi
  simp [BitVec.getLsbD_append, hi]

theorem append_high {n m : Nat} (a : BitVec n) (b : BitVec m) : (a ++ b).extractLsb' m n = a := by
  apply BitVec.eq_of_getLsbD_eq
  intro i hi
  simp [BitVec.getLsbD_append, hi]

/-- The bits of a frame whose TYPE and CRC-16 are those of its position, with SEQ 0. -/
def goodBits (type : BitVec 4) (crc : BitVec 84 → BitVec 16) : BitVec 100 := (type ++ 0#80 : BitVec 84) ++ crc (type ++ 0#80 : BitVec 84)

/-- A frame whose TYPE and CRC-16 are those of its position, with SEQ 0. -/
def goodFrame {α : Type} (up : Bool) (position : Nat) (body : α) : SeamFrame α :=
  ⟨position, goodBits (Config.seamType up position) Config.crc16, body⟩

theorem goodBits_body (type : BitVec 4) (crc : BitVec 84 → BitVec 16) : (goodBits type crc).extractLsb' 16 84 = type ++ 0#80 :=
  append_high (type ++ 0#80 : BitVec 84) _

theorem goodBits_crc (type : BitVec 4) (crc : BitVec 84 → BitVec 16) :
    (goodBits type crc).extractLsb' 0 16 = crc (type ++ 0#80 : BitVec 84) := append_low (type ++ 0#80 : BitVec 84) _

theorem goodBits_type (type : BitVec 4) (crc : BitVec 84 → BitVec 16) : (goodBits type crc).extractLsb' 96 4 = type := by
  have h : (goodBits type crc).extractLsb' 96 4 = ((goodBits type crc).extractLsb' 16 84).extractLsb' 80 4 := by
    apply BitVec.eq_of_getLsbD_eq
    intro i hi
    simp [hi, show 80 + i < 84 by omega, show 16 + (80 + i) = 96 + i by omega]
  rw [h, goodBits_body]
  exact append_high type 0#80

theorem goodFrame_good {α : Type} (up : Bool) (position : Nat) (body : α) :
    frameGood up position (goodFrame up position body).bits = true := by
  simp only [frameGood, goodFrame, goodBits_type, goodBits_body, goodBits_crc, beq_self_eq_true, Bool.and_self]

end Sys2Proof.Machine
end

