-- ==== Sys2Proof/WellFormed.lean ====
section
/-! DEFINITION. Which commands are well formed: every operand lies in the range that the spec gives the thing it stands for. A
meaning is total and runs on any operand; well-formedness says which commands an agent of the spec can send. -/

namespace Sys2Proof

open Machine

/-- The header fields fit their widths and HOST_ID is 0-3 (R636). -/
def headerOk (h : CmdHeader) : Bool :=
  h.opcode < 0x10000 && h.tag < 0x10000 && h.hostId < 4 && h.flags < 256 && h.length ≤ 4080 && h.seq < 0x100000000
    && h.claim < 0x100000000

/-- A start reaches one of the steps up to SU8 (R798). -/
def viewOk (v : BootView) : Bool := v.reach ≤ 8 && v.unverified.all (· < 524288)

/-- The fields of a Reading Record fit their widths (R394). -/
def recordOk (r : Record) : Bool :=
  r.meter < 0x100000000 && r.channel < 0x10000 && r.startTai < 2 ^ 64 && r.startKey < 2 ^ 64 && -(2 ^ 63) ≤ r.value && r.value < 2 ^ 63
    && r.src < 256 && r.hops < 256 && r.residenceUs < 0x100000000 && r.seq < 0x100000000

/-- The fields of a frame's descriptor fit their widths (R275). -/
def radioOk (f : RadioFrame) : Bool :=
  f.lane < 64 && f.phy < 256 && f.mcs < 8 && f.length < 0x10000 && f.chanId < 0x10000 && f.lqi < 256 && f.fe < 2
    && f.key < 2 ^ 64 && f.tai < 2 ^ 64 && f.addr < 2 ^ 64

/-- A child is named by its index, or the upstream is meant (R550). -/
def childOk : Option Nat → Bool
  | none => true
  | some c => c < 512

/-- A UDP checksum has 16 bits. -/
def udpOk : Option PtpUdp → Bool
  | none => true
  | some u => u.checksum < 0x10000

/-- The channels and orders of a DSP cycle (R148, R149). -/
def cycleOk (c : CycleIn) : Bool := c.chans.length ≤ 36 && c.chans.all (fun x => x.spec.length ≤ 128)

/-- The requester of an access is at a fabric port, F0–F27. -/
def eccOk : EccError → Bool
  | .corrected _ => true
  | .uncorrectable _ port => port < 28

/-- Whether a command is well formed. -/
def wellFormed (i : Instr) : Bool :=
  match i with
  | .vinRise _ mv => mv < 0x10000
  | .vinUvlo _ mv => mv < 0x10000
  | .resetNRelease _ view => viewOk view
  | .resetNAssert _ => true
  | .bootWatchdog _ view => viewOk view
  | .recoveryFrame _ source _ hdr payload => source < 2 ^ 48 && headerOk hdr && payload.length == hdr.length && payload.length ≤ 1024
  | .seamFrameReceive _ frame => frame.position < 16 && frame.body.fits frame.position
  | .legalWriteRepeat _ => true
  | .seamChannelDown _ _ => true
  | .seamResync _ => true
  | .engineMemoryError _ engine ring _ meter => engine < 16 && ring < 12 && meter < 0x100000000
  | .lockstepMismatch _ view => viewOk view
  | .eccUncorrectable _ error => eccOk error
  | .controlWordCommit _ _ => true
  | .zeroCrossing _ chan _ => chan < 3
  | .holdoverEntry _ => true
  | .holdoverCycleEnd _ => true
  | .holdoverToVirtual _ => true
  | .virtualCycleEnd _ => true
  | .cycleCheckpoint _ => true
  | .mainsCountAlign _ => true
  | .xrefSegmentClose _ => true
  | .anchorApply _ => true
  | .stepApply _ => true
  | .entryReconvert _ _ => true
  | .hemStart _ => true
  | .hemComplete _ => true
  | .brownoutRestart _ view => viewOk view
  | .earlyWarningAssert _ mv cyc => mv < 0x10000 && cycleOk cyc
  | .earlyWarningDeassert _ mv => mv < 0x10000
  | .heartbeatSend _ => true
  | .demandClose _ => true
  | .billingPeriodClose _ => true
  | .tariffSwitch _ => true
  | .registerSnapshot _ => true
  | .overlayChange _ => true
  | .hostEvent _ => true
  | .fwuRestart _ view => viewOk view
  | .timePairCommit _ => true
  | .slewEnd _ => true
  | .sourceSelect _ _ _ _ _ => true
  | .sourceLoss _ => true
  | .ptpEventReceive _ port msg => port < 2 && msg.seqId < 0x10000 && msg.kind < 16
  | .ptpEgress _ port _ _ seqId _ _ udp => port < 2 && seqId < 0x10000 && udpOk udp
  | .leapApply _ => true
  | .timeSet _ _ => true
  | .timeAdj _ _ => true
  | .timeStep _ _ => true
  | .timeStatus _ _ => true
  | .schedAdd _ _ => true
  | .schedCancel _ _ => true
  | .xref _ _ => true
  | .timeNowLoRead _ _ => true
  | .mainsCycLoRead _ _ => true
  | .dspCycleEnd _ cyc => cycleOk cyc
  | .resultSetReceive _ => true
  | .windowComplete _ => true
  | .registerImageRefresh _ reg => reg < 768
  | .harmonicWindowEnd _ => true
  | .calFallbackTimeout _ => true
  | .calEnRelease _ => true
  | .calSessionTimeout _ => true
  | .calStepComplete _ => true
  | .metStatus _ _ => true
  | .calOpen _ _ _ => true
  | .calStep _ _ => true
  | .calClose _ _ => true
  | .calRead _ _ => true
  | .harmRead _ _ => true
  | .tariffInputTakeover _ => true
  | .regRead _ _ => true
  | .tariffSet _ _ => true
  | .demandRead _ _ => true
  | .billingClose _ _ => true
  | .pqUpdate _ ms _ => ms.length ≤ 3
  | .pqReportReceive _ => true
  | .pulseStart _ out => out < 8
  | .pulseEnd _ out => out < 8
  | .pulseDebtAlarm _ out => out < 8
  | .pulseConfigApply _ out => out < 8
  | .pulseLandEdge _ out => out < 8
  | .pulseSet _ _ => true
  | .pulseStatus _ _ => true
  | .feCalibrationDone _ fe => fe < 2
  | .feRetune _ fe _ => fe < 2
  | .laneFrameReceive _ frame => radioOk frame
  | .txRelease _ _ => true
  | .txEnd _ fe => fe < 2
  | .wurFrame _ addr check rssiClass => addr < 0x10000 && check < 256 && rssiClass < 4
  | .feSet _ _ => true
  | .laneSet _ _ => true
  | .rfStatus _ _ => true
  | .wurSet _ _ => true
  | .wakeSend _ _ => true
  | .macFrameAccept _ _ => true
  | .checkinEvaluate _ meter => meter < 0x100000000
  | .joinTimeout _ meter => meter < 0x100000000
  | .ackWaitExpire _ _ => true
  | .nbrRead _ _ => true
  | .lprofSet _ _ => true
  | .nbrPin _ _ => true
  | .linkCounters _ _ => true
  | .plcModeApply _ => true
  | .plcRetrainEnd _ => true
  | .plcDriverMute _ => true
  | .plcNoiseUpdate _ _ => true
  | .plcTxDue _ => true
  | .plcFrameStart _ _ _ => true
  | .plcNoWindow _ => true
  | .plcFrameReceive _ frame => frame.addr < 2 ^ 64 && frame.length < 0x10000
  | .plcThermal _ => true
  | .plcNodeAge _ node => node < 2048
  | .plcSet _ _ => true
  | .plcStatus _ _ => true
  | .noiseRead _ _ => true
  | .zcRead _ _ => true
  | .firmwareUnpack _ => true
  | .sessionStage _ => true
  | .ecdsaVerify _ _ => true
  | .datablockTimeout _ meter => meter < 0x100000000
  | .prevKeyExpire _ meter => meter < 0x100000000
  | .normalise _ => true
  | .pairHoldTimeout _ => true
  | .contextWriteback _ meter => meter < 0x100000000
  | .burstCreditUpdate _ => true
  | .meterAdmit _ _ => true
  | .meterRetire _ _ => true
  | .meterRead _ _ => true
  | .parseSet _ _ => true
  | .ingestCounters _ _ => true
  | .meterFind _ _ => true
  | .validate _ => true
  | .veeProfileSet _ _ => true
  | .veeShapeSet _ _ => true
  | .veeMeterSet _ _ => true
  | .veeEdit _ _ => true
  | .veeEstimate _ _ => true
  | .veeCounters _ _ => true
  | .topoSample _ => true
  | .balCompile _ => true
  | .topoRead _ _ => true
  | .topoPin _ _ => true
  | .balFeederSet _ _ => true
  | .balReportRead _ _ => true
  | .scoreRead _ _ => true
  | .balCounters _ _ => true
  | .balRecompile _ _ => true
  | .recordPack _ => true
  | .pageFlush _ => true
  | .pageProgramDone _ die _ => die < 128
  | .dieFail _ die => die < 128
  | .dieRebuildDone _ die => die < 128
  | .spaceRecovery _ _ => true
  | .patrolRead _ _ _ _ => true
  | .nandTempRead _ temps => temps.all (fun p => p.1 < 128)
  | .hostBlockRequest _ ring _ => ring < 64
  | .hostBlockComplete _ _ => true
  | .archQueryScan _ host _ _ _ => host < 4
  | .eventCopy _ => true
  | .archHealth _ _ => true
  | .archDieRead _ _ => true
  | .archQuery _ _ => true
  | .archQueryCancel _ _ => true
  | .archFormat _ _ => true
  | .archDieRetire _ _ => true
  | .uplinkConnect _ _ => true
  | .uplinkLinkLoss _ port _ => port < 2
  | .connectionTimeout _ child => childOk child
  | .keepaliveSend _ child => childOk child
  | .bundleSend _ => true
  | .hello _ port unit idHash formatId => port < 2 && unit < 2 ^ 64 && idHash < 2 ^ 256 && formatId < 2 ^ 64
  | .helloAck _ _ nextPos bound _ _ => nextPos < 2 ^ 64 && bound < 0x100000000
  | .bundle _ child seq first recs => child < 512 && seq < 0x100000000 && first < 2 ^ 64 && recs.all recordOk
  | .cipher _ child seq entries => child < 512 && seq < 0x100000000 && 1 ≤ entries.length && entries.length ≤ 64
  | .ack _ seq pos => seq < 0x100000000 && pos < 2 ^ 64
  | .credit _ _ => true
  | .timeReqSend _ => true
  | .timeReq _ child _ => child < 512
  | .timeResp _ _ _ _ _ _ _ _ => true
  | .down _ body => body.addr < 2 ^ 64 && body.tag < 0x100000000 && body.bytes.length < 0x10000
  | .downResult _ child tag outcome => child < 512 && tag < 0x100000000 && outcome < 5
  | .keepalive _ child => childOk child
  | .headEndAck _ pos => pos < 2 ^ 64
  | .uplStatus _ _ => true
  | .childRead _ _ => true
  | .childSet _ _ => true
  | .fleetResponse _ => true
  | .pushRecompute _ => true
  | .pushActivate _ => true
  | .fleetCheckpoint _ => true
  | .tokenDeliver _ => true
  | .campaignRoundStart _ => true
  | .campaignBlockSend _ => true
  | .campaignActivate _ => true
  | .pushCreate _ _ => true
  | .pushMember _ _ => true
  | .pushStatus _ _ => true
  | .pushCancel _ _ => true
  | .tokenSend _ _ => true
  | .ledgerNote _ _ => true
  | .ledgerRead _ _ => true
  | .fleetMeterSet _ _ => true
  | .campCreate _ _ => true
  | .campLoad _ _ => true
  | .campMember _ _ => true
  | .campStart _ _ => true
  | .campStatus _ _ => true
  | .campCancel _ _ => true
  | .doorbellCmd _ _ hdr payload => headerOk hdr && payload.length == hdr.length
  | .commandTake _ => true
  | .respAck _ _ => true
  | .detach _ _ => true
  | .hostOffline _ _ => true
  | .collarHalfwordRead _ _ off => off < 0x1000 && off % 4 == 0
  | .ringProdWrite _ _ _ prod _ => prod < 0x100000000
  | .ringConsWrite _ _ _ cons => cons < 0x100000000
  | .registerWrite _ _ off _ _ => off < 0x1000 && off % 4 == 0
  | .leaseExpire _ => true
  | .sysInfo _ _ => true
  | .leaseTake _ _ => true
  | .leaseRelease _ _ => true
  | .leaseRead _ _ => true
  | .keyStatus _ _ => true
  | .keyLoad _ _ => true
  | .keyApply _ _ _ => true
  | .keyApplyComplete _ => true
  | .slotRead _ _ => true
  | .attest _ _ => true
  | .attestComplete _ => true
  | .fwuStatus _ _ => true
  | .fwuBegin _ _ head => (head.getD []).length ≤ 4080
  | .fwuBeginComplete _ => true
  | .fwuLoad _ _ head => (head.getD []).length ≤ 4080
  | .fwuFinish _ _ head => (head.getD []).length ≤ 4080
  | .fwuFinishComplete _ _ _ => true
  | .fwuAbort _ _ head => (head.getD []).length ≤ 4080
  | .fwuFloor _ _ => true
  | .heartbeatReceive _ hb mark => hb.side < 2 && hb.cycle < 2 ^ 48 && hb.phase < 65536 && mark.msg < 2 ^ 32 && mark.starts < 2 ^ 32 && mark.tag < 2 ^ 128
  | .heartbeatMiss _ => true
  | .listenEnd _ => true
  | .yokeLaneChange _ _ => true
  | .delta _ jseq _ mark => jseq < 2 ^ 64 && mark.msg < 2 ^ 32 && mark.starts < 2 ^ 32 && mark.tag < 2 ^ 128
  | .yokeAcknowledgement _ jseq mark => jseq < 2 ^ 64 && mark.msg < 2 ^ 32 && mark.starts < 2 ^ 32 && mark.tag < 2 ^ 128
  | .snapshot _ jseq _ mark => jseq < 2 ^ 64 && mark.msg < 2 ^ 32 && mark.starts < 2 ^ 32 && mark.tag < 2 ^ 128
  | .snapshotEnd _ jseq mark => jseq < 2 ^ 64 && mark.msg < 2 ^ 32 && mark.starts < 2 ^ 32 && mark.tag < 2 ^ 128
  | .syncLost _ mark => mark.msg < 2 ^ 32 && mark.starts < 2 ^ 32 && mark.tag < 2 ^ 128
  | .mirrorPeriodic _ => true
  | .resyncRetry _ => true
  | .revertHoldoff _ => true
  | .handover _ => true
  | .pairStatus _ _ => true
  | .pairSwitch _ _ => true
  | .pairLock _ _ => true
  | .eventRaise _ => true
  | .bucketRefill _ code => code < 0x10000
  | .opTimeCheckpoint _ => true
  | .evtStatus _ _ => true
  | .evtRead _ _ => true
  | .evtCodeRead _ _ => true
  | .evtCodeSet _ _ => true
  | .evtClear _ _ => true
  | .evtClearComplete _ => true
  | .evtMlogRead _ _ => true
  | .evtPost _ _ => true
  | .powerStateEntry _ target _ => target == 2 || target == 3
  | .wake _ source => 1 ≤ source && source ≤ 7
  | .clusterGate _ _ => true
  | .clusterUngate _ _ => true
  | .rearmExecute _ => true
  | .thermalWarn _ _ => true
  | .thermalStop _ _ => true
  | .thermalRestart _ view => viewOk view
  | .pwrStatus _ _ => true
  | .pwrTolerance _ _ => true
  | .pwrCounters _ _ => true
  | .islandedTrigger _ => true
  | .cfgStatus _ _ => true
  | .cfgLoad _ _ => true
  | .cfgApply _ _ image => image.root < 256 && image.hwType < 0x100000000 && image.version < 0x100000000 && image.idHash < 2 ^ 256 && image.overlays.length ≤ 8
  | .cfgApplyComplete _ => true
  | .cfgOverlay _ _ => true
  | .cfgSchema _ _ => true
  | .cfgFuses _ _ => true
  | .lineSideFrameReceive _ frame => frame.position < 16 && frame.body.fits frame.position
  | .plcFrameEnd _ _ => true
  | .plcThermalRecover _ => true
  | .thermalClear _ _ => true
  | .converterFeedbackLoss _ => true
  | .formatComplete _ => true
  | .nandOperationTimeout _ die => die < 128
  | .agcOverload _ fe => fe < 2

end Sys2Proof
end

