-- ==== Sys2Proof/Tests/Slice0.lean ====
section
/-! SUPPORT. The model's own tests: an ill-formed command for each check of WellFormed, worked cases of the spec, and for each obligation with
hypotheses a state and operands that meet them. -/

namespace Sys2Proof.Tests

open Sys2Proof Sys2Proof.Machine

/-! ### Well-formedness -/

/-! ### Well-formedness: for every check a command that it refuses -/

set_option maxRecDepth 4000 in
/-- Each of these commands breaks one check of WellFormed. -/
theorem test_ill_formed_0 :
    wellFormed (.vinRise 0 0x10000) = false ∧
    wellFormed (.vinUvlo 0 0x10000) = false ∧
    wellFormed (.earlyWarningAssert 0 0x10000 {}) = false ∧
    wellFormed (.earlyWarningAssert 0 0 { chans := List.replicate 37 {} }) = false ∧
    wellFormed (.earlyWarningAssert 0 0 { chans := [{ spec := List.replicate 129 {} }] }) = false ∧
    wellFormed (.earlyWarningDeassert 0 0x10000) = false ∧
    wellFormed (.resetNRelease 0 { reach := 9 }) = false ∧
    wellFormed (.bootWatchdog 0 { reach := 9 }) = false ∧
    wellFormed (.lockstepMismatch 0 { reach := 9 }) = false ∧
    wellFormed (.brownoutRestart 0 { reach := 9 }) = false ∧
    wellFormed (.fwuRestart 0 { reach := 9 }) = false ∧
    wellFormed (.thermalRestart 0 { reach := 9 }) = false ∧
    wellFormed (.recoveryFrame 0 (2 ^ 48) false {} []) = false ∧
    wellFormed (.recoveryFrame 0 0 false { opcode := 0x10000 } []) = false ∧
    wellFormed (.recoveryFrame 0 0 false {} [0]) = false ∧
    wellFormed (.engineMemoryError 0 16 0 0 0) = false ∧
    wellFormed (.engineMemoryError 0 0 12 0 0) = false ∧
    wellFormed (.engineMemoryError 0 0 0 0 0x100000000) = false ∧
    wellFormed (.zeroCrossing 0 3 0) = false ∧
    wellFormed (.ptpEventReceive 0 2 {}) = false ∧
    wellFormed (.ptpEventReceive 0 0 { seqId := 0x10000 }) = false ∧
    wellFormed (.ptpEventReceive 0 0 { kind := 16 }) = false ∧
    wellFormed (.ptpEgress 0 2 0 0 0 0 false none) = false ∧
    wellFormed (.ptpEgress 0 0 0 0 0x10000 0 false none) = false := by decide

set_option maxRecDepth 4000 in
/-- Each of these commands breaks one check of WellFormed. -/
theorem test_ill_formed_1 :
    wellFormed (.ptpEgress 0 0 0 0 0 0 false (some { checksum := 0x10000 })) = false ∧
    wellFormed (.registerImageRefresh 0 768) = false ∧
    wellFormed (.dspCycleEnd 0 { chans := List.replicate 37 {} }) = false ∧
    wellFormed (.dspCycleEnd 0 { chans := [{ spec := List.replicate 129 {} }] }) = false ∧
    wellFormed (.seamFrameReceive 0 ⟨16, 0, .crossing⟩) = false ∧
    wellFormed (.seamFrameReceive 0 ⟨1, 0, .crossing⟩) = false ∧
    wellFormed (.lineSideFrameReceive 0 ⟨16, 0, .echo⟩) = false ∧
    wellFormed (.lineSideFrameReceive 0 ⟨1, 0, .echo⟩) = false ∧
    wellFormed (.eccUncorrectable 0 (.uncorrectable .dram 28)) = false ∧
    wellFormed (.pqUpdate 0 [0, 0, 0, 0] false) = false ∧
    wellFormed (.pulseStart 0 8) = false ∧
    wellFormed (.pulseEnd 0 8) = false ∧
    wellFormed (.pulseDebtAlarm 0 8) = false ∧
    wellFormed (.pulseConfigApply 0 8) = false ∧
    wellFormed (.pulseLandEdge 0 8) = false ∧
    wellFormed (.feCalibrationDone 0 2) = false ∧
    wellFormed (.feRetune 0 2 0) = false ∧
    wellFormed (.txEnd 0 2) = false ∧
    wellFormed (.agcOverload 0 2) = false ∧
    wellFormed (.laneFrameReceive 0 { lane := 64 }) = false ∧
    wellFormed (.laneFrameReceive 0 { phy := 256 }) = false ∧
    wellFormed (.laneFrameReceive 0 { mcs := 8 }) = false ∧
    wellFormed (.laneFrameReceive 0 { length := 0x10000 }) = false ∧
    wellFormed (.laneFrameReceive 0 { chanId := 0x10000 }) = false := by decide

set_option maxRecDepth 4000 in
/-- Each of these commands breaks one check of WellFormed. -/
theorem test_ill_formed_2 :
    wellFormed (.laneFrameReceive 0 { lqi := 256 }) = false ∧
    wellFormed (.laneFrameReceive 0 { fe := 2 }) = false ∧
    wellFormed (.laneFrameReceive 0 { key := 2 ^ 64 }) = false ∧
    wellFormed (.laneFrameReceive 0 { tai := 2 ^ 64 }) = false ∧
    wellFormed (.laneFrameReceive 0 { addr := 2 ^ 64 }) = false ∧
    wellFormed (.wurFrame 0 0x10000 0 0) = false ∧
    wellFormed (.wurFrame 0 0 256 0) = false ∧
    wellFormed (.wurFrame 0 0 0 4) = false ∧
    wellFormed (.checkinEvaluate 0 0x100000000) = false ∧
    wellFormed (.joinTimeout 0 0x100000000) = false ∧
    wellFormed (.datablockTimeout 0 0x100000000) = false ∧
    wellFormed (.prevKeyExpire 0 0x100000000) = false ∧
    wellFormed (.contextWriteback 0 0x100000000) = false ∧
    wellFormed (.plcFrameReceive 0 { addr := 2 ^ 64 }) = false ∧
    wellFormed (.plcFrameReceive 0 { length := 0x10000 }) = false ∧
    wellFormed (.plcNodeAge 0 2048) = false ∧
    wellFormed (.pageProgramDone 0 128 false) = false ∧
    wellFormed (.dieFail 0 128) = false ∧
    wellFormed (.dieRebuildDone 0 128) = false ∧
    wellFormed (.nandOperationTimeout 0 128) = false ∧
    wellFormed (.nandTempRead 0 [(128, 0)]) = false ∧
    wellFormed (.hostBlockRequest 0 64 []) = false ∧
    wellFormed (.archQueryScan 0 4 [] 0 none) = false ∧
    wellFormed (.uplinkLinkLoss 0 2 false) = false := by decide

set_option maxRecDepth 4000 in
/-- Each of these commands breaks one check of WellFormed. -/
theorem test_ill_formed_3 :
    wellFormed (.hello 0 2 0 0 0) = false ∧
    wellFormed (.hello 0 0 (2 ^ 64) 0 0) = false ∧
    wellFormed (.hello 0 0 0 (2 ^ 256) 0) = false ∧
    wellFormed (.hello 0 0 0 0 (2 ^ 64)) = false ∧
    wellFormed (.helloAck 0 .ok (2 ^ 64) 0 0 0) = false ∧
    wellFormed (.helloAck 0 .ok 0 0x100000000 0 0) = false ∧
    wellFormed (.bundle 0 512 0 0 []) = false ∧
    wellFormed (.bundle 0 0 0x100000000 0 []) = false ∧
    wellFormed (.bundle 0 0 0 (2 ^ 64) []) = false ∧
    wellFormed (.bundle 0 0 0 0 [{ meter := 0x100000000 }]) = false ∧
    wellFormed (.bundle 0 0 0 0 [{ channel := 0x10000 }]) = false ∧
    wellFormed (.bundle 0 0 0 0 [{ startTai := 2 ^ 64 }]) = false ∧
    wellFormed (.bundle 0 0 0 0 [{ startKey := 2 ^ 64 }]) = false ∧
    wellFormed (.bundle 0 0 0 0 [{ value := -(2 ^ 63) - 1 }]) = false ∧
    wellFormed (.bundle 0 0 0 0 [{ value := 2 ^ 63 }]) = false ∧
    wellFormed (.bundle 0 0 0 0 [{ src := 256 }]) = false ∧
    wellFormed (.bundle 0 0 0 0 [{ hops := 256 }]) = false ∧
    wellFormed (.bundle 0 0 0 0 [{ residenceUs := 0x100000000 }]) = false ∧
    wellFormed (.bundle 0 0 0 0 [{ seq := 0x100000000 }]) = false ∧
    wellFormed (.cipher 0 512 0 [{}]) = false ∧
    wellFormed (.cipher 0 0 0x100000000 [{}]) = false ∧
    wellFormed (.cipher 0 0 0 []) = false ∧
    wellFormed (.cipher 0 0 0 (List.replicate 65 {})) = false ∧
    wellFormed (.ack 0 0x100000000 0) = false := by decide

set_option maxRecDepth 4000 in
/-- Each of these commands breaks one check of WellFormed. -/
theorem test_ill_formed_4 :
    wellFormed (.ack 0 0 (2 ^ 64)) = false ∧
    wellFormed (.timeReq 0 512 0) = false ∧
    wellFormed (.downResult 0 512 0 0) = false ∧
    wellFormed (.downResult 0 0 0x100000000 0) = false ∧
    wellFormed (.downResult 0 0 0 5) = false ∧
    wellFormed (.connectionTimeout 0 (some 512)) = false ∧
    wellFormed (.keepaliveSend 0 (some 512)) = false ∧
    wellFormed (.keepalive 0 (some 512)) = false ∧
    wellFormed (.headEndAck 0 (2 ^ 64)) = false ∧
    wellFormed (.down 0 { addr := 2 ^ 64 }) = false ∧
    wellFormed (.down 0 { tag := 0x100000000 }) = false ∧
    wellFormed (.doorbellCmd 0 0 { opcode := 0x10000 } []) = false ∧
    wellFormed (.doorbellCmd 0 0 { tag := 0x10000 } []) = false ∧
    wellFormed (.doorbellCmd 0 0 { hostId := 4 } []) = false ∧
    wellFormed (.doorbellCmd 0 0 { flags := 256 } []) = false ∧
    wellFormed (.doorbellCmd 0 0 { length := 4081 } []) = false ∧
    wellFormed (.doorbellCmd 0 0 { seq := 0x100000000 } []) = false ∧
    wellFormed (.doorbellCmd 0 0 { claim := 0x100000000 } []) = false ∧
    wellFormed (.doorbellCmd 0 0 {} [0]) = false ∧
    wellFormed (.collarHalfwordRead 0 0 0x1000) = false ∧
    wellFormed (.collarHalfwordRead 0 0 2) = false ∧
    wellFormed (.registerWrite 0 0 0x1000 none 0) = false ∧
    wellFormed (.registerWrite 0 0 2 none 0) = false ∧
    wellFormed (.ringProdWrite 0 0 0 0x100000000 []) = false := by decide

set_option maxRecDepth 4000 in
/-- Each of these commands breaks one check of WellFormed. -/
theorem test_ill_formed_5 :
    wellFormed (.ringConsWrite 0 0 0 0x100000000) = false ∧
    wellFormed (.heartbeatReceive 0 { side := 2 } {}) = false ∧
    wellFormed (.heartbeatReceive 0 { cycle := 2 ^ 48 } {}) = false ∧
    wellFormed (.heartbeatReceive 0 { phase := 65536 } {}) = false ∧
    wellFormed (.heartbeatReceive 0 {} { msg := 2 ^ 32 }) = false ∧
    wellFormed (.heartbeatReceive 0 {} { starts := 2 ^ 32 }) = false ∧
    wellFormed (.heartbeatReceive 0 {} { tag := 2 ^ 128 }) = false ∧
    wellFormed (.delta 0 (2 ^ 64) (.bcast 0 0) {}) = false ∧
    wellFormed (.delta 0 0 (.bcast 0 0) { msg := 2 ^ 32 }) = false ∧
    wellFormed (.delta 0 0 (.bcast 0 0) { starts := 2 ^ 32 }) = false ∧
    wellFormed (.delta 0 0 (.bcast 0 0) { tag := 2 ^ 128 }) = false ∧
    wellFormed (.snapshot 0 (2 ^ 64) (.bcast 0 0) {}) = false ∧
    wellFormed (.snapshot 0 0 (.bcast 0 0) { msg := 2 ^ 32 }) = false ∧
    wellFormed (.snapshot 0 0 (.bcast 0 0) { starts := 2 ^ 32 }) = false ∧
    wellFormed (.snapshot 0 0 (.bcast 0 0) { tag := 2 ^ 128 }) = false ∧
    wellFormed (.snapshotEnd 0 (2 ^ 64) {}) = false ∧
    wellFormed (.snapshotEnd 0 0 { msg := 2 ^ 32 }) = false ∧
    wellFormed (.snapshotEnd 0 0 { starts := 2 ^ 32 }) = false ∧
    wellFormed (.snapshotEnd 0 0 { tag := 2 ^ 128 }) = false ∧
    wellFormed (.yokeAcknowledgement 0 (2 ^ 64) {}) = false ∧
    wellFormed (.yokeAcknowledgement 0 0 { msg := 2 ^ 32 }) = false ∧
    wellFormed (.yokeAcknowledgement 0 0 { starts := 2 ^ 32 }) = false ∧
    wellFormed (.yokeAcknowledgement 0 0 { tag := 2 ^ 128 }) = false ∧
    wellFormed (.syncLost 0 { msg := 2 ^ 32 }) = false := by decide

set_option maxRecDepth 4000 in
/-- Each of these commands breaks one check of WellFormed. -/
theorem test_ill_formed_6 :
    wellFormed (.syncLost 0 { starts := 2 ^ 32 }) = false ∧
    wellFormed (.syncLost 0 { tag := 2 ^ 128 }) = false ∧
    wellFormed (.bucketRefill 0 0x10000) = false ∧
    wellFormed (.powerStateEntry 0 1 false) = false ∧
    wellFormed (.powerStateEntry 0 4 false) = false ∧
    wellFormed (.wake 0 0) = false ∧
    wellFormed (.wake 0 8) = false ∧
    wellFormed (.cfgApply 0 0 { root := 256 }) = false ∧
    wellFormed (.cfgApply 0 0 { hwType := 0x100000000 }) = false ∧
    wellFormed (.cfgApply 0 0 { version := 0x100000000 }) = false ∧
    wellFormed (.cfgApply 0 0 { idHash := 2 ^ 256 }) = false ∧
    wellFormed (.cfgApply 0 0 { overlays := List.replicate 9 (0, {}) }) = false := by decide

set_option maxRecDepth 4000 in
/-- Each of these commands carries more bytes than the spec allows. -/
theorem test_overlong_0 :
    wellFormed (.recoveryFrame 0 0 false { length := 1025 } (List.replicate 1025 0)) = false ∧
    wellFormed (.down 0 { bytes := List.replicate 65536 0 }) = false ∧
    wellFormed (.fwuBegin 0 0 (some (List.replicate 4081 0))) = false ∧
    wellFormed (.fwuLoad 0 0 (some (List.replicate 4081 0))) = false ∧
    wellFormed (.fwuFinish 0 0 (some (List.replicate 4081 0))) = false ∧
    wellFormed (.fwuAbort 0 0 (some (List.replicate 4081 0))) = false := by
  simp only [wellFormed, headerOk, Option.getD_some, List.length_replicate]
  decide

set_option maxRecDepth 4000 in
/-- With operands in range the same commands are well formed. -/
theorem test_well_formed_0 :
    wellFormed (.vinRise 0 0) = true ∧
    wellFormed (.vinUvlo 0 0) = true ∧
    wellFormed (.earlyWarningAssert 0 0 {}) = true ∧
    wellFormed (.earlyWarningDeassert 0 0) = true ∧
    wellFormed (.resetNRelease 0 {}) = true ∧
    wellFormed (.bootWatchdog 0 {}) = true ∧
    wellFormed (.lockstepMismatch 0 {}) = true ∧
    wellFormed (.brownoutRestart 0 {}) = true ∧
    wellFormed (.fwuRestart 0 {}) = true ∧
    wellFormed (.thermalRestart 0 {}) = true ∧
    wellFormed (.recoveryFrame 0 0 false {} []) = true ∧
    wellFormed (.engineMemoryError 0 0 0 0 0) = true ∧
    wellFormed (.zeroCrossing 0 0 0) = true ∧
    wellFormed (.ptpEventReceive 0 0 {}) = true ∧
    wellFormed (.ptpEgress 0 0 0 0 0 0 false none) = true ∧
    wellFormed (.registerImageRefresh 0 0) = true ∧
    wellFormed (.dspCycleEnd 0 {}) = true ∧
    wellFormed (.seamFrameReceive 0 ⟨0, 0, .crossing⟩) = true ∧
    wellFormed (.lineSideFrameReceive 0 ⟨0, 0, .echo⟩) = true ∧
    wellFormed (.eccUncorrectable 0 (.corrected .dram)) = true ∧
    wellFormed (.pqUpdate 0 [] false) = true ∧
    wellFormed (.pulseStart 0 0) = true ∧
    wellFormed (.pulseEnd 0 0) = true ∧
    wellFormed (.pulseDebtAlarm 0 0) = true := by decide

set_option maxRecDepth 4000 in
/-- With operands in range the same commands are well formed. -/
theorem test_well_formed_1 :
    wellFormed (.pulseConfigApply 0 0) = true ∧
    wellFormed (.pulseLandEdge 0 0) = true ∧
    wellFormed (.feCalibrationDone 0 0) = true ∧
    wellFormed (.feRetune 0 0 0) = true ∧
    wellFormed (.txEnd 0 0) = true ∧
    wellFormed (.agcOverload 0 0) = true ∧
    wellFormed (.laneFrameReceive 0 {}) = true ∧
    wellFormed (.wurFrame 0 0 0 0) = true ∧
    wellFormed (.checkinEvaluate 0 0) = true ∧
    wellFormed (.joinTimeout 0 0) = true ∧
    wellFormed (.datablockTimeout 0 0) = true ∧
    wellFormed (.prevKeyExpire 0 0) = true ∧
    wellFormed (.contextWriteback 0 0) = true ∧
    wellFormed (.plcFrameReceive 0 {}) = true ∧
    wellFormed (.plcNodeAge 0 0) = true ∧
    wellFormed (.pageProgramDone 0 0 false) = true ∧
    wellFormed (.dieFail 0 0) = true ∧
    wellFormed (.dieRebuildDone 0 0) = true ∧
    wellFormed (.nandOperationTimeout 0 0) = true ∧
    wellFormed (.nandTempRead 0 []) = true ∧
    wellFormed (.hostBlockRequest 0 0 []) = true ∧
    wellFormed (.archQueryScan 0 0 [] 0 none) = true ∧
    wellFormed (.uplinkLinkLoss 0 0 false) = true ∧
    wellFormed (.hello 0 0 0 0 0) = true := by decide

set_option maxRecDepth 4000 in
/-- With operands in range the same commands are well formed. -/
theorem test_well_formed_2 :
    wellFormed (.helloAck 0 .ok 0 0 0 0) = true ∧
    wellFormed (.bundle 0 0 0 0 []) = true ∧
    wellFormed (.cipher 0 0 0 [{}]) = true ∧
    wellFormed (.ack 0 0 0) = true ∧
    wellFormed (.timeReq 0 0 0) = true ∧
    wellFormed (.downResult 0 0 0 0) = true ∧
    wellFormed (.connectionTimeout 0 none) = true ∧
    wellFormed (.keepaliveSend 0 none) = true ∧
    wellFormed (.keepalive 0 none) = true ∧
    wellFormed (.headEndAck 0 0) = true ∧
    wellFormed (.down 0 {}) = true ∧
    wellFormed (.doorbellCmd 0 0 {} []) = true ∧
    wellFormed (.collarHalfwordRead 0 0 0) = true ∧
    wellFormed (.registerWrite 0 0 0 none 0) = true ∧
    wellFormed (.ringProdWrite 0 0 0 0 []) = true ∧
    wellFormed (.ringConsWrite 0 0 0 0) = true ∧
    wellFormed (.heartbeatReceive 0 {} {}) = true ∧
    wellFormed (.delta 0 0 (.bcast 0 0) {}) = true ∧
    wellFormed (.snapshot 0 0 (.bcast 0 0) {}) = true ∧
    wellFormed (.snapshotEnd 0 0 {}) = true ∧
    wellFormed (.yokeAcknowledgement 0 0 {}) = true ∧
    wellFormed (.syncLost 0 {}) = true ∧
    wellFormed (.bucketRefill 0 0) = true ∧
    wellFormed (.powerStateEntry 0 2 false) = true := by decide

set_option maxRecDepth 4000 in
/-- With operands in range the same commands are well formed. -/
theorem test_well_formed_3 :
    wellFormed (.wake 0 1) = true ∧
    wellFormed (.fwuBegin 0 0 none) = true ∧
    wellFormed (.fwuLoad 0 0 none) = true ∧
    wellFormed (.fwuFinish 0 0 none) = true ∧
    wellFormed (.fwuAbort 0 0 none) = true ∧
    wellFormed (.cfgApply 0 0 {}) = true := by decide



/-! ### The spec's worked cases -/

/-- The worked case of R810: with H0 at 5,000 µs and H2 at 30,000 µs, Doze fits the effective tolerance and Hold does not. -/
theorem test_effective_tolerance :
    let s := (working.setHost 0 { working.host 0 with online := true, tolUs := some 5000 }).setHost 2
      { working.host 2 with online := true, tolUs := some 30000 }
    effTol s = 5000 ∧ exitUs 2 ≤ effTol s ∧ effTol s < exitUs 3 := by decide

/-- The worked case 'an uplink outage': a change placed in cycle c + 15,000 takes effect at (c + 15,001, 0). -/
theorem test_next_cycle_start : nextCycleStart (working.onMains fun m => { m with cycle := 15000 }) = mkKey 15001 0 := by decide

/-- The worked case 'a burst of authentication failures', WE2: 10 s after the first event a bucket of RATE 6 and BURST 4 holds 3.017 tokens. -/
theorem test_bucket_refills :
    let c : CodeSt := { override := some { code := 0xFF00, rate := 6, burst := 4 }, tokens := some (3 * tokenUnit), tokensOp := 0 }
    tokensNow (working.onEvt fun v => { v with codes := [(0xFF00, c)], opBase := ofS 10 }) 0xFF00 = 3 * tokenUnit + tokenUnit / 60 := by
  decide

/-- The worked case 'correcting rate and removing 40 µs': 200 ppm of the nominal INCR, backward, is 1,717,987 units. -/
theorem test_slew_units : slewDelta 200 (-40000) = -1717987 := by decide

/-- The worked case 'waking a meter for a rendezvous': nine frames and a gap of 5 ms before (c, 10,000) start at (c − 7, 49,168). -/
theorem test_wake_key :
    wakeKey (working.onMains fun m => { m with state := .locked, period := ofMs 20 }) true 9 5000 (mkKey 100 10000) = mkKey 93 49168 := by
  decide

/-- The worked case 'a wrap at modulus 10⁸'. -/
theorem test_wraps_once :
    rollover { modulus := 100000000000, rateCap := 100000 } { reg := some 99987650000, regTai := 0 }
      { value := 4210000, startTai := 900000000000 } = .wrapped 16560000 := by decide

/-- The same meter after 60 days of silence: two counts of wraps fit. -/
theorem test_wraps_ambiguous :
    rollover { modulus := 100000000000, rateCap := 100000 } { reg := some 4210000, regTai := 0 }
      { value := 40000000000, startTai := 5184000000000000 } = .ambiguous := by decide

/-- The worked case 'filling a gap and a late reading': three missing intervals between 412,000 and 540,000. -/
theorem test_linear_estimates :
    (linearEstimate 412000 540000 1 3, linearEstimate 412000 540000 2 3, linearEstimate 412000 540000 3 3) = (444000, 476000, 508000) := by
  decide

/-- The worked case 'a window across the wrap', WC1 to WC6. -/
theorem test_sequence_window :
    let e : Nbr := { winValid := true, seqHi := 250, seqMap := 0xFF }
    let a := seqTake (.new 1) 251 e
    let b := seqTake (.new 8) 3 a
    let c := seqTake (.late 59) 200 b
    seqClass {} e 251 0 = .new 1 ∧ seqClass {} a 251 0 = .duplicate ∧ seqClass {} a 3 0 = .new 8 ∧ seqClass {} b 200 0 = .late 59 ∧
      seqClass {} c 200 0 = .duplicate ∧ seqClass {} c 180 0 = .replay := by decide

/-- The worked case 'starting a frame between rectifier bursts': a preamble of 19,923 pt fits from 3,072 to 12,845 and from 35,840 to 45,613. -/
theorem test_quiet_spans :
    let noisy : BitVec 64 := 0x700000007
    quietFrom noisy 19923 3072 = true ∧ quietFrom noisy 19923 12845 = true ∧ quietFrom noisy 19923 12846 = false ∧
      quietFrom noisy 19923 35840 = true ∧ quietFrom noisy 19923 45613 = true ∧ quietFrom noisy 19923 45614 = false := by decide

/-- The worked case 'one feeder phase, one day': the technical loss, the coverage and the residual in basis points. -/
theorem test_balance : lossOf (12000 * 4976640000000000) = 16588800 ∧ coverOf 13536 13632 = 99295 ∧ residBp 66661200 1284600000 = 518 := by
  decide

/-- The worked case 'calibrating feeder 2, phase L1': gains and phase delay. -/
theorem test_calibration :
    gainFor 230000 (230460 * unit32) = some 0x3FDF4C ∧ gainFor 100000 (100482 * unit32) = some 0x3FB168 ∧ gainFor 23000000 (23157100 * unit32) = some 0x3F90D9 ∧
      (calResult {} { step := 3, channel := 12, refAngle := 60000 } (59820 * unit32) 50000).map (·.1) = some 0x148 := by decide

/-- The queue is empty at reset, so a step idles. -/
theorem test_step_idles : step State.reset = .next State.reset := rfl

/-- A command at the front of the queue is taken from it. -/
theorem test_step_takes : step { State.reset with pending := [.evtClearComplete 0] } = .next State.reset := rfl

/-- The checksum after one word is raised by one, by hand: one less in one's complement; a computed 0 goes out as 0xFFFF, an IPv4 checksum
of 0 stays (R136). -/
theorem test_udp_checksum :
    let sum := fun (c : Nat) (ipv4 : Bool) => udpChecksum { checksum := c, ipv4 := ipv4 } (correctionWords 0) (correctionWords 1)
    sum 0x1000 true = 0x0FFF ∧ sum 1 true = 0xFFFF ∧ sum 0 true = 0 ∧ sum 0xFFFF false = 0xFFFE := by decide

set_option maxRecDepth 20000 in
/-- The CRC-16 of polynomial 0x1021 from 0xFFFF, its published check value over the digits 1 to 9 (HF8). -/
theorem test_crc16 :
    (List.range 72).foldl (fun c k => crcStep c ((0x313233343536373839 : Nat).testBit (71 - k))) 0xFFFF = 0x29B1 := by decide

/-- One row of a profile, by hand: the register 256 and the signed 16-bit value −2 (R388). -/
theorem test_axdr_row :
    readData [0x01, 0x01, 0x02, 0x02, 0x06, 0x00, 0x00, 0x01, 0x00, 0x10, 0xFF, 0xFE] = some ([[.int 0x06 256, .int 0x10 (-2)]], false) := by decide

/-- At 60 Hz three cycles of virtual mains take exactly 50 ms, no fraction lost (R72). -/
theorem test_virtual_cycles :
    let m := fun (f : Nat) => working.onMains fun m => { m with nominal60 := true, virtFrac := f }
    let a := nextVirtFrac (m 0)
    let b := nextVirtFrac (m a)
    nominalCycle (m 0) + nominalCycle (m a) + nominalCycle (m b) = ofMs 50 := by decide

/-! ### Hypotheses that can be met -/

/-- The hypotheses of StepTakesFront can be met. -/
theorem witness_step_takes_front :
    (∃ (c : Instr) (rest : List Instr) (s : State), s.pending = c :: rest) ∧
    (∃ s : State, s.pending = []) :=
  ⟨⟨.evtClearComplete 0, [], { State.reset with pending := [.evtClearComplete 0] }, rfl⟩,
   ⟨State.reset, rfl⟩⟩

/-- The hypotheses of LegalIsKept can be met. -/
theorem witness_legal_is_kept :
    (∃ s t : State, Legal s ∧ step s = .next t) :=
  ⟨State.reset, State.reset, by unfold Legal; decide, rfl⟩

/-- The hypotheses of FusesOnlyBlow can be met. -/
theorem witness_fuses_only_blow :
    (∃ s t : State, step s = .next t) :=
  ⟨State.reset, State.reset, rfl⟩

/-- The hypotheses of FramesOfTheHub can be met. -/
theorem witness_frames_of_the_hub :
    (∃ (c : Instr) (s t : State), family c ∈ [.sys, .time, .evt, .cfg] ∧ exec c s = .next t) :=
  ⟨.evtClearComplete 0, State.reset, _, by decide, rfl⟩

/-- The hypotheses of FramesOfMetering can be met. -/
theorem witness_frames_of_metering :
    (∃ (c : Instr) (s t : State), family c ∈ [.metro, .reg] ∧ exec c s = .next t) :=
  ⟨.calEnRelease 0, State.reset, _, by decide, rfl⟩

/-- The hypotheses of FramesOfTheField can be met. -/
theorem witness_frames_of_the_field :
    (∃ (c : Instr) (s t : State), family c ∈ [.link, .plc, .meter] ∧ exec c s = .next t) :=
  ⟨.normalise 0, State.reset, _, by decide, rfl⟩

/-- The hypotheses of FramesOfTheData can be met. -/
theorem witness_frames_of_the_data :
    (∃ (c : Instr) (s t : State), family c ∈ [.vee, .bal, .arch] ∧ exec c s = .next t) :=
  ⟨.recordPack 0, State.reset, _, by decide, rfl⟩

/-- The hypotheses of FramesOfTheUplink can be met. -/
theorem witness_frames_of_the_uplink :
    (∃ (c : Instr) (s t : State), family c ∈ [.upl, .fleet] ∧ exec c s = .next t) :=
  ⟨.bundleSend 0, State.reset, _, by decide, rfl⟩

/-- The hypotheses of FramesOfControl can be met. -/
theorem witness_frames_of_control :
    (∃ (c : Instr) (s t : State), family c ∈ [.key, .fwu, .pair, .pwr] ∧ exec c s = .next t) :=
  ⟨.resyncRetry 0, State.reset, _, by decide, rfl⟩

/-- The hypotheses of StickyBits can be met. -/
theorem witness_sticky_bits :
    (∃ (host : Fin 4) (off : Nat) (value : Word), ∃ u : State, u.pwr.aonOn = true ∧ (u.host host).port ≠ 0 ∧ (u.host host).port ≠ 5 ∧
      (u.host host).port ≠ 6 ∧ (off = 0x030 ∨ 0x040 ≤ off ∧ off ≤ 0x080 ∧ off % 4 = 0)) ∧
    (∃ (host : Fin 4) (value : Word), ∃ u : State, u.pwr.aonOn = true ∧ (u.host host).port ≠ 0 ∧ (u.host host).port ≠ 5 ∧
      (u.host host).port ≠ 6) :=
  ⟨⟨0, 0x048, 3, (running.setHost 0 { running.host 0 with port := 1, precedence := 3 }), by decide⟩,
   ⟨0, 3, (running.setHost 0 { running.host 0 with port := 1, precedence := 3 }), by decide⟩⟩

/-- The hypotheses of FwuAbort can be met. -/
theorem witness_fwu_abort :
    (∃ (h : Fin 4) (tk : Taken) (u : State), Dispatched h 0x0E05 tk (enqueue h tk u) ∧ othersStaging u h.val = false) ∧
    (∃ (h : Fin 4) (tk : Taken) (u : State), Dispatched h 0x0E05 tk (enqueue h tk u) ∧ othersStaging u h.val = true) :=
  ⟨⟨0, cmd 0x0E05 [], working, ⟨rfl, rfl⟩, by decide⟩,
   ⟨1, cmd 0x0E05 [], (working.onFwu fun f => { f with staging := 1, owner := some 0 }), ⟨rfl, rfl⟩, by decide⟩⟩

/-- The hypotheses of KumCounters can be met. -/
theorem witness_kum_counters :
    (∃ (h : Fin 4) (tk : Taken) (u : State), Dispatched h 0x0D03 tk (enqueue h tk u) ∧ u.pocket.lifecycle ≠ .returned ∧
      u.pocket.applying = none ∧ (u.pocket.stagedOwner = none ∨ u.pocket.stagedOwner = some h.val) ∧
      fld tk.payload 0 4 = u.pocket.staged.length ∧ kumForm u.pocket.staged = true ∧ fld u.pocket.staged 8 4 = 0x9100 ∧
      fld u.pocket.staged 16 32 = idHashNow u ∧ fld u.pocket.staged 3 1 = bit (testRoot u) ∧ fld u.pocket.staged 12 4 ≤ kumCounter u) ∧
    (∃ (a : Applying), ∃ u : State, u.pocket.applying = some a ∧ supRuns u = true ∧ kumMirrored u a = true ∧
      (a.waits = false ∨ holdsForYoke u = true) ∧ (a.kind ≠ 1 ∨ ∀ e ∈ a.entries, tfind u.sess.dirty (fld e 0 4) = none) ∧
      kumCounter u < a.counter) ∧
    (∃ (c : Instr) (s t : State), exec c s = .next t) :=
  ⟨⟨0, cmd 0x0D03 (leBytes 4 280 ++ leBytes 4 0), (working.onPocket fun k => { k with lifecycle := .deployed, staged := leBytes 2 1 ++ leBytes 2 4 ++ leBytes 2 1 ++ leBytes 2 0 ++ leBytes 4 0x9100 ++ leBytes 4 0 ++ leBytes 32 (Config.idHash false 0) ++ leBytes 104 0 ++ leBytes 4 8 ++ leBytes 124 0 }), ⟨rfl, rfl⟩, by 
    refine ⟨by decide, by decide, by decide, by set_option maxRecDepth 20000 in decide, by set_option maxRecDepth 20000 in decide, by decide, ?_, by decide, by decide⟩
    show fld (leBytes 2 1 ++ leBytes 2 4 ++ leBytes 2 1 ++ leBytes 2 0 ++ leBytes 4 0x9100 ++ leBytes 4 0 ++ leBytes 32 (Config.idHash false 0) ++ leBytes 104 0 ++ leBytes 4 8 ++ leBytes 124 0) 16 32 = Config.idHash false 0
    simp only [List.append_assoc]
    rw [fld_next (by simp), fld_next (by simp), fld_next (by simp), fld_next (by simp), fld_next (by simp), fld_next (by simp)]
    simp only [leBytes_length]
    rw [fld_head]
    exact Nat.mod_eq_of_lt (BitVec.isLt _)⟩,
   ⟨{ kind := 4, counter := 1 }, (working.onPocket fun k => { k with applying := some { kind := 4, counter := 1 } }), by decide⟩,
   ⟨.evtClearComplete 0, State.reset, _, rfl⟩⟩

/-- The hypotheses of SupplyEvents can be met. -/
theorem witness_supply_events :
    (∃ (mv : Nat), ∃ u : State, u.pwr.lineOn = false ∧ 25500 ≤ mv) ∧
    (∃ (mv : Nat), ∃ u : State, u.pwr.lineOn = true ∧ mv ≤ 24500) ∧
    (∃ u : State, u.pwr.stage ≠ .off ∧ u.pwr.stage ≠ .held) ∧
    (∃ (view : BootView), ∃ u : State, u.pwr.stage = .held) ∧
    (∃ (mv : Nat), ∃ u : State, u.pwr.lineOn = true ∧ u.pwr.warn = true ∧ u.fab.lineWarnMv + 1800 ≤ mv) ∧
    (∃ (mv : Nat) (cyc : CycleIn), ∃ u : State, u.pwr.lineOn = true ∧ u.pwr.aonOn = true ∧ u.pwr.warn = false ∧
      mv * 100 ≤ u.fab.lineWarnMv * 101 ∧ u.pwr.stage = .running) :=
  ⟨⟨36000, State.reset, by decide⟩,
   ⟨20000, running, by decide⟩,
   ⟨running, by decide⟩,
   ⟨{}, (State.reset.onPwr fun p => { p with stage := .held }), by decide⟩,
   ⟨36000, (running.onPwr fun p => { p with warn := true }), by decide⟩,
   ⟨30000, {}, (running.onFab fun f => { f with lineWarnMv := 33000 }), by decide⟩⟩

/-- The hypotheses of StartReaches can be met. -/
theorem witness_start_reaches :
    (running.pwr.warn = false ∧ (running.onPwr fun p => { p with warn := true }).pwr.warn = true) ∧
    (∃ s : State, s.pwr.warn = false ∧ 3 ≤ s.fwu.bootFails) :=
  ⟨⟨rfl, rfl⟩,
   ⟨running.onFwu fun f => { f with bootFails := 3 }, by decide⟩⟩

/-- The hypotheses of RestartCauses can be met. -/
theorem witness_restart_causes :
    (∃ (view : BootView), ∃ u : State, (u.pwr.stage = .start 6 ∧ u.pwr.stageRc + ofS 30 ≤ u.rc) ∨ (u.pwr.stage = .start 7 ∧
      u.pwr.stageRc + (scanBound u + ofS 35) ≤ u.rc)) ∧
    (∃ (view : BootView), ∃ u : State, u.pwr.stage = .running ∨ u.pwr.stage = .recovery ∨ ∃ n, u.pwr.stage = .start n ∧ 5 ≤ n) ∧
    (∃ (view : BootView), ∃ u : State, u.pwr.stage = .parked ∧ u.pwr.parkThermal = false ∧ u.pwr.warn = false ∧
      u.pwr.warnDeRc + ofMs u.cfg.act.recoverMs ≤ u.rc) ∧
    (∃ (view : BootView), ∃ u : State, u.pwr.stage = .parked ∧ u.pwr.parkThermal = true ∧ u.pwr.tjDc < 1000 ∧ u.pwr.warn = false ∧
      (u.pwr.warnInPark = true → recovered u = true)) ∧
    (∃ (view : BootView), ∃ u : State, u.pwr.stage = .recovery ∧ u.fwu.restartRc = true) ∧
    (∃ (view : BootView), ∃ u : State, u.pwr.stage = .running ∧ u.pwr.hemFlag = false ∧
      (dispatch (fun a => a == .restart) u).isSome = true) :=
  ⟨⟨{}, ((running.onPwr fun p => { p with stage := .start 6 }).onTime fun t => { t with rc := ofS 31 }), by decide⟩,
   ⟨{}, running, by exact Or.inl rfl⟩,
   ⟨{}, ((running.onPwr fun p => { p with stage := .parked }).onTime fun t => { t with rc := ofS 3600 }), by decide⟩,
   ⟨{}, ((running.onPwr fun p => { p with stage := .parked, parkThermal := true, warnInPark := false })), by decide⟩,
   ⟨{}, ((running.onPwr fun p => { p with stage := .recovery }).onFwu fun f => { f with restartRc := true }), by decide⟩,
   ⟨{}, ((running.onSched fun c => { c with entries := [{ cls := 8, action := .restart }] }).onMains fun m => { m with cycle := 5 }), by decide⟩⟩

/-- The hypotheses of HemAndHeat can be met. -/
theorem witness_hem_and_heat :
    (∃ u : State, hemPossible u = true ∧ (dispatch (fun a => a == .hemStart) u).isSome = true) ∧
    (∃ u : State, u.pwr.stage = .hem ∧ finalImageDone u = true ∧ (nextDue u).isNone = true) ∧
    (∃ (tj : Int), ∃ u : State, u.pwr.aonOn = true ∧ u.pwr.hot = false ∧ 1050 ≤ tj) ∧
    (∃ (tj : Int), ∃ u : State, u.pwr.hot = true ∧ 1150 ≤ tj ∧ hemPossible u = true) ∧
    (∃ (tj : Int), ∃ u : State, u.pwr.hot = true ∧ tj < 1000) :=
  ⟨⟨((running.onSched fun c => { c with entries := [{ cls := 2, action := .hemStart }] }).onMains fun m => { m with cycle := 5 }), by decide⟩,
   ⟨(running.onPwr fun p => { p with stage := .hem, finalImage := true }), by decide⟩,
   ⟨1100, running, by decide⟩,
   ⟨1200, (running.onPwr fun p => { p with hot := true }), by decide⟩,
   ⟨900, (running.onPwr fun p => { p with hot := true }), by decide⟩⟩

/-- The hypotheses of SeamFrames can be met. -/
theorem witness_seam_frames :
    (∃ (frame : SeamFrame SeamRx), ∃ u : State, u.pwr.lineOn = true ∧ seamTakes u = true ∧
      (frameGood true frame.position frame.bits && frame.body.fits frame.position) = false) ∧
    (∃ (frame : SeamFrame SeamRx) (reg : Nat) (c : RegCopy) (r : RateCopy), ∃ u : State, u.pwr.lineOn = true ∧ seamTakes u = true ∧
      frameGood true frame.position frame.bits = true ∧ frame.body.fits frame.position = true ∧ frame.body = .legal ∧
      u.fab.legalPend.find? (fun q => q.seq.isNone) = some ⟨none, .register reg c r⟩) ∧
    (∃ (frame : SeamFrame SeamRx) (e : MlogEntry), ∃ u : State, u.pwr.lineOn = true ∧ seamTakes u = true ∧
      frameGood true frame.position frame.bits = true ∧ frame.body.fits frame.position = true ∧ frame.body = .legal ∧
      u.fab.legalPend.find? (fun q => q.seq.isNone) = some ⟨none, .log e⟩ ∧ (∀ x ∈ u.met.mlog, x.lseq ≠ e.lseq)) ∧
    (∃ (frame : SeamFrame SeamRx) (tin : BitVec 8) (alarms mv vin : Nat), ∃ u : State, u.pwr.lineOn = true ∧ seamTakes u = true ∧
      frameGood true frame.position frame.bits = true ∧ frame.body.fits frame.position = true ∧ frame.body = .status tin alarms mv vin ∧
      u.fab.notices = []) ∧
    (∃ (frame : SeamFrame SeamRx), ∃ u : State, u.pwr.lineOn = true ∧ seamTakes u = true ∧
      frameGood true frame.position frame.bits = true ∧ frame.body.fits frame.position = true ∧ frame.body = .waveform) ∧
    (∃ (frame : SeamFrame LineRx), ∃ u : State, u.pwr.lineOn = true ∧ seamTakes u = true ∧
      (frameGood false frame.position frame.bits && frame.body.fits frame.position) = false) ∧
    (∃ (frame : SeamFrame LineRx) (q : Nat) (rest : List Nat), ∃ u : State, u.pwr.lineOn = true ∧ seamTakes u = true ∧
      frameGood false frame.position frame.bits = true ∧ frame.body.fits frame.position = true ∧ frame.body = .ack ∧
      u.fab.legalAcks = q :: rest) ∧
    (∃ (frame : SeamFrame LineRx), ∃ u : State, u.pwr.lineOn = true ∧ seamTakes u = true ∧
      frameGood false frame.position frame.bits = true ∧ frame.body.fits frame.position = true ∧ frame.body = .echo) ∧
    (∃ (frame : SeamFrame LineRx) (mv : Nat) (rest : List LineCtl), ∃ u : State, u.pwr.lineOn = true ∧ seamTakes u = true ∧
      frameGood false frame.position frame.bits = true ∧ frame.body.fits frame.position = true ∧ frame.body = .control ∧
      u.fab.toLine = .warnV mv :: rest) ∧
    (∃ (frame : SeamFrame LineRx) (r n : Nat) (rest : List LineCtl), ∃ u : State, u.pwr.lineOn = true ∧ seamTakes u = true ∧
      frameGood false frame.position frame.bits = true ∧ frame.body.fits frame.position = true ∧ frame.body = .control ∧
      u.fab.toLine = .rate r n :: rest) ∧
    (∃ (frame : SeamFrame LineRx) (mv : Nat), ∃ u : State, u.pwr.lineOn = true ∧ seamTakes u = true ∧
      frameGood false frame.position frame.bits = true ∧ frame.body.fits frame.position = true ∧ frame.body = .setPoint mv) ∧
    (∃ (frame : SeamFrame LineRx), ∃ u : State, u.pwr.lineOn = true ∧ seamTakes u = true ∧
      frameGood false frame.position frame.bits = true ∧ frame.body.fits frame.position = true ∧ frame.body = .legalParameter) :=
  ⟨⟨⟨1, 0, .legal⟩, (running.onFab fun f => { f with seamUp := true }), by exact ⟨rfl, rfl, Bool.and_false _⟩⟩,
   ⟨goodFrame true 13 (.legal), 2, {}, {}, (running.onFab fun f => { f with seamUp := true, legalPend := [⟨none, .register 2 {} {}⟩] }), by exact ⟨rfl, rfl, goodFrame_good true 13 _, rfl, rfl, rfl⟩⟩,
   ⟨goodFrame true 13 (.legal), {}, (running.onFab fun f => { f with seamUp := true, legalPend := [⟨none, .log {}⟩] }), by exact ⟨rfl, rfl, goodFrame_good true 13 _, rfl, rfl, rfl, by decide⟩⟩,
   ⟨goodFrame true 14 (.status 1 2 3 4), 1, 2, 3, 4, (running.onFab fun f => { f with seamUp := true }), by exact ⟨rfl, rfl, goodFrame_good true 14 _, rfl, rfl, rfl⟩⟩,
   ⟨goodFrame true 1 (.waveform), (running.onFab fun f => { f with seamUp := true }), by exact ⟨rfl, rfl, goodFrame_good true 1 _, rfl, rfl⟩⟩,
   ⟨⟨1, 0, .echo⟩, (running.onFab fun f => { f with seamUp := true }), by exact ⟨rfl, rfl, Bool.and_false _⟩⟩,
   ⟨goodFrame false 13 (.ack), 1, [], (running.onFab fun f => { f with seamUp := true, legalAcks := [1] }), by exact ⟨rfl, rfl, goodFrame_good false 13 _, rfl, rfl, rfl⟩⟩,
   ⟨goodFrame false 0 (.echo), (running.onFab fun f => { f with seamUp := true }), by exact ⟨rfl, rfl, goodFrame_good false 0 _, rfl, rfl⟩⟩,
   ⟨goodFrame false 9 (.control), 33000, [], (running.onFab fun f => { f with seamUp := true, toLine := [.warnV 33000] }), by exact ⟨rfl, rfl, goodFrame_good false 9 _, rfl, rfl, rfl⟩⟩,
   ⟨goodFrame false 10 (.control), 3, 7, [], (running.onFab fun f => { f with seamUp := true, toLine := [.rate 3 7] }), by exact ⟨rfl, rfl, goodFrame_good false 10 _, rfl, rfl, rfl⟩⟩,
   ⟨goodFrame false 14 (.setPoint 36000), 36000, (running.onFab fun f => { f with seamUp := true }), by exact ⟨rfl, rfl, goodFrame_good false 14 _, rfl, rfl⟩⟩,
   ⟨goodFrame false 15 (.legalParameter), (running.onFab fun f => { f with seamUp := true }), by exact ⟨rfl, rfl, goodFrame_good false 15 _, rfl, rfl⟩⟩⟩

/-- The hypotheses of SeamAndFabric can be met. -/
theorem witness_seam_and_fabric :
    (∃ (p : LegalImage), ∃ u : State, u.pwr.lineOn = true ∧ u.fab.seamUp = true ∧
      u.fab.legalPend.find? (fun p => p.seq.isSome) = some p) ∧
    (∃ (n : Nat), ∃ u : State, u.fab.seamUp = true ∧ (8 ≤ u.fab.badToLogic ∨ 8 ≤ u.fab.badToLine)) ∧
    (∃ (g : Nat), ∃ u : State, u.fab.resync = true ∧ u.pwr.lineOn = true ∧ seamTakes (seamComesUp u) = true ∧ u.fab.missFrom = some g ∧
      u.fab.notices = [] ∧ recorderLives u = true ∧ u.evt.q10.length < 1024) ∧
    (∃ u : State, u.fab.seamUp = false ∧ u.fab.convFeedback = true ∧ u.fab.downRc + ofMs 10 < u.rc) ∧
    (∃ (engine ring item meter : Nat), ∃ u : State, stageAlive u = true ∧ engine < 16 ∧ (engine / 4, ring, item) ∉ u.fab.engRetried) ∧
    (∃ (engine ring item meter : Nat), ∃ u : State, stageAlive u = true ∧ engine < 16 ∧ (engine / 4, ring, item) ∈ u.fab.engRetried) ∧
    (∃ (region : MemRegion) (port : Nat), ∃ u : State, region ≠ .engineLocal) ∧
    (∃ (n : Nat) (w : CtlWord), ∃ u : State, u.fab.shadow[n]? = some w ∧
      wordDomainOn (u.onFab fun f => { f with shadow := f.shadow.eraseIdx n }) w = true) ∧
    (∃ (n : Nat) (w : CtlWord), ∃ u : State, u.fab.shadow[n]? = some w ∧
      wordDomainOn (u.onFab fun f => { f with shadow := f.shadow.eraseIdx n }) w = false) :=
  ⟨⟨⟨some 1, .register 2 {} {}⟩, (running.onFab fun f => { f with seamUp := true, legalPend := [⟨some 1, .register 2 {} {}⟩] }), by exact ⟨rfl, rfl, rfl⟩⟩,
   ⟨0, (running.onFab fun f => { f with seamUp := true, badToLogic := 8 }), by decide⟩,
   ⟨0, (running.onFab fun f => { f with resync := true, missFrom := some 0 }), by decide⟩,
   ⟨((running.onFab fun f => { f with convFeedback := true }).onTime fun x => { x with rc := ofMs 11 }), by decide⟩,
   ⟨1, 2, 3, 4, running, by decide⟩,
   ⟨1, 2, 3, 4, (running.onFab fun f => { f with engRetried := [(0, 2, 3)] }), by decide⟩,
   ⟨.shared, 3, running, by exact MemRegion.noConfusion⟩,
   ⟨0, .parse 1 {}, (running.onFab fun f => { f with shadow := [.parse 1 {}] }), by decide⟩,
   ⟨0, .parse 1 {}, ((running.onPwr fun p => { p with state := .doze }).onFab fun f => { f with shadow := [.parse 1 {}] }), by decide⟩⟩

/-- The hypotheses of LockedAndHoldover can be met. -/
theorem witness_locked_and_holdover :
    (∃ (chan delay last : Nat), ∃ u : State, u.pwr.aonOn = true ∧ u.fab.seamUp = true ∧ u.mains.ref = some chan ∧
      u.mains.realign = false ∧ u.mains.state = .locked ∧ u.mains.lastCross = some last ∧
      inWindow u.mains.period last (crossInstant u chan delay) = true) ∧
    (∃ (chan delay last : Nat), ∃ u : State, u.pwr.aonOn = true ∧ u.fab.seamUp = true ∧ u.mains.ref = some chan ∧
      u.mains.realign = false ∧ u.mains.state = .locked ∧ u.mains.lastCross = some last ∧
      inWindow u.mains.period last (crossInstant u chan delay) = false) ∧
    (∃ (chan delay : Nat), ∃ u : State, u.pwr.aonOn = true ∧ u.fab.seamUp = true ∧ u.mains.ref = some chan ∧ u.mains.realign = false ∧
      u.mains.state = .holdover ∧ inWindow u.mains.period u.mains.startRc (crossInstant u chan delay) = true) ∧
    (∃ (last : Nat), ∃ u : State, u.pwr.aonOn = true ∧ u.mains.lastCross = some last ∧ last + u.mains.period * 11 / 10 ≤ u.rc ∧
      u.mains.state = .locked ∧ u.mains.realign = false) ∧
    (∃ u : State, u.pwr.aonOn = true ∧ u.mains.state = .holdover ∧ u.mains.startRc + u.mains.period ≤ u.rc ∧ u.mains.holdCycles < 7) ∧
    (∃ u : State, u.pwr.aonOn = true ∧ u.mains.state = .holdover ∧ u.mains.startRc + u.mains.period ≤ u.rc ∧ u.mains.holdCycles = 7) :=
  ⟨⟨0, 0, ofMs 100, (((running.onFab fun f => { f with seamUp := true }).onMains fun m => { m with ref := some 0, cycle := 7, state := .locked, lastCross := some (ofMs 100), startRc := ofMs 100, period := ofMs 20, angles := (0, 0) }).onTime fun x => { x with rc := ofMs 120 + ofNs 1250 }), by decide⟩,
   ⟨0, 0, ofMs 100, (((running.onFab fun f => { f with seamUp := true }).onMains fun m => { m with ref := some 0, cycle := 7, state := .locked, lastCross := some (ofMs 100), startRc := ofMs 100, period := ofMs 20, angles := (0, 0) }).onTime fun x => { x with rc := ofMs 110 + ofNs 1250 }), by decide⟩,
   ⟨0, 0, (((running.onFab fun f => { f with seamUp := true }).onMains fun m => { m with ref := some 0, cycle := 7, state := .holdover, lastCross := some (ofMs 100), startRc := ofMs 100, period := ofMs 20, angles := (0, 0) }).onTime fun x => { x with rc := ofMs 120 + ofNs 1250 }), by decide⟩,
   ⟨ofMs 100, (((running.onFab fun f => { f with seamUp := true }).onMains fun m => { m with ref := some 0, cycle := 7, state := .locked, lastCross := some (ofMs 100), startRc := ofMs 100, period := ofMs 20, angles := (0, 0) }).onTime fun x => { x with rc := ofMs 130 + ofNs 1250 }), by decide⟩,
   ⟨(((running.onFab fun f => { f with seamUp := true }).onMains fun m => { m with ref := some 0, cycle := 7, state := .holdover, lastCross := some (ofMs 100), startRc := ofMs 100, period := ofMs 20, angles := (0, 0) }).onTime fun x => { x with rc := ofMs 120 + ofNs 1250 }), by decide⟩,
   ⟨(((running.onFab fun f => { f with seamUp := true }).onMains fun m => { m with holdCycles := 7, ref := some 0, cycle := 7, state := .holdover, lastCross := some (ofMs 100), startRc := ofMs 100, period := ofMs 20, angles := (0, 0) }).onTime fun x => { x with rc := ofMs 120 + ofNs 1250 }), by decide⟩⟩

/-- The hypotheses of VirtualAndAcquiring can be met. -/
theorem witness_virtual_and_acquiring :
    (∃ u : State, u.pwr.aonOn = true ∧ (u.mains.state = .virtual ∨ u.mains.state = .acquiring) ∧ u.mains.realign = false ∧
      u.mains.startRc + nominalCycle u ≤ u.rc) ∧
    (∃ (chan delay : Nat), ∃ u : State, u.pwr.aonOn = true ∧ u.fab.seamUp = true ∧ u.mains.ref = some chan ∧ u.mains.realign = false ∧
      (u.mains.state = .virtual ∨ u.mains.state = .acquiring) ∧ u.mains.lastCross = none) ∧
    (∃ (chan delay last : Nat), ∃ u : State, u.pwr.aonOn = true ∧ u.fab.seamUp = true ∧ u.mains.ref = some chan ∧
      u.mains.realign = true ∧ u.mains.lastCross = some last ∧ inWindow u.mains.period last (crossInstant u chan delay) = true) ∧
    (∃ u : State, u.pwr.aonOn = true ∧ u.mains.checkpoint + 4096 ≤ u.mains.cycle) ∧
    (∃ (n came : Nat), ∃ u : State, u.mains.moveTo = some (n, came) ∧ u.pwr.aonOn = true ∧ came < u.mains.cycle ∧ u.mains.cycle < n) ∧
    (∃ (n came : Nat), ∃ u : State, u.mains.moveTo = some (n, came) ∧ u.pwr.aonOn = true ∧ came < u.mains.cycle ∧ n ≤ u.mains.cycle) ∧
    (∃ u : State, u.pwr.stage = .running ∧ u.mains.segFirst + 65536 ≤ u.mains.cycle) :=
  ⟨⟨(((running.onFab fun f => { f with seamUp := true }).onMains fun m => { m with ref := some 0, cycle := 7, state := .virtual, lastCross := some (ofMs 100), startRc := ofMs 100, period := ofMs 20, angles := (0, 0) }).onTime fun x => { x with rc := ofMs 120 + ofNs 1250 }), by decide⟩,
   ⟨0, 0, (((running.onFab fun f => { f with seamUp := true }).onMains fun m => { m with ref := some 0, cycle := 7, state := .virtual, lastCross := none, startRc := ofMs 100, period := ofMs 20, angles := (0, 0) }).onTime fun x => { x with rc := ofMs 120 + ofNs 1250 }), by decide⟩,
   ⟨0, 0, ofMs 100, (((running.onFab fun f => { f with seamUp := true }).onMains fun m => { m with realign := true, ref := some 0, cycle := 7, state := .acquiring, lastCross := some (ofMs 100), startRc := ofMs 100, period := ofMs 20, angles := (0, 0) }).onTime fun x => { x with rc := ofMs 120 + ofNs 1250 }), by decide⟩,
   ⟨(running.onMains fun m => { m with cycle := 5000 }), by decide⟩,
   ⟨9, 5, (running.onMains fun m => { m with cycle := 7, moveTo := some (9, 5) }), by decide⟩,
   ⟨7, 5, (running.onMains fun m => { m with cycle := 7, moveTo := some (7, 5) }), by decide⟩,
   ⟨(running.onMains fun m => { m with cycle := 70000 }), by decide⟩⟩

/-- The hypotheses of TimeCommands can be met. -/
theorem witness_time_commands :
    (∃ (h : Fin 4) (tk : Taken) (u : State), Dispatched h 0x0201 tk (enqueue h tk u) ∧ fld tk.payload 10 2 ≤ 1 ∧ timeLocked u = false ∧
      u.cfg.act.srcHost = true ∧ u.reported ≤ ofNs (fld tk.payload 0 8 + 1000000000)) ∧
    (∃ (h : Fin 4) (tk : Taken) (u : State), Dispatched h 0x0202 tk (enqueue h tk u) ∧ fld tk.payload 0 1 = 0 ∧ fld tk.payload 2 2 = 0 ∧
      incrOk (fld tk.payload 8 8) = true ∧ timeLocked u = false ∧ replacedSlew u = none) ∧
    (∃ (h : Fin 4) (tk : Taken) (u : State), Dispatched h 0x0202 tk (enqueue h tk u) ∧ fld tk.payload 0 1 = 1 ∧ 1 ≤ fld tk.payload 2 2 ∧
      fld tk.payload 2 2 ≤ 500 ∧ timeLocked u = false ∧
      incrOk ((baseIncr u : Int) + slewDelta (fld tk.payload 2 2) (fldI tk.payload 8 8)).toNat = true) ∧
    (∃ (h : Fin 4) (tk : Taken) (u : State), Dispatched h 0x0203 tk (enqueue h tk u) ∧ (u.host h).timeAuth = true ∧
      hasBit (fld tk.payload 18 2) 0 = false ∧ ((ofNs (fld tk.payload 8 8) : Int) - u.reported).natAbs ≤ ofMs (fld tk.payload 16 2)) ∧
    (∃ (ns : Int), ∃ (h : Fin 4) (tk : Taken) (u : State), Dispatched h 0x0203 tk (enqueue h tk u) ∧ (u.host h).timeAuth = true ∧
      hasBit (fld tk.payload 18 2) 0 = true ∧ fld tk.payload 0 8 = 0 ∧ u.time.held = some ns ∧
      ((ofNs (fld tk.payload 8 8) : Int) - u.reported).natAbs ≤ ofMs (fld tk.payload 16 2)) :=
  ⟨⟨0, cmd 0x0201 (leBytes 8 1000000000 ++ leBytes 4 0x00010025), (running.onCfg fun c => { c with act := { c.act with srcHost := true } }), ⟨rfl, rfl⟩, by decide⟩,
   ⟨0, cmd 0x0202 (leBytes 8 0 ++ leBytes 8 0x200000000), running, ⟨rfl, rfl⟩, by decide⟩,
   ⟨0, cmd 0x0202 (leBytes 2 1 ++ leBytes 6 100 ++ leBytes 8 1000), running, ⟨rfl, rfl⟩, by decide⟩,
   ⟨0, cmd 0x0203 (leBytes 8 5000000 ++ leBytes 8 0 ++ leBytes 4 1), (running.setHost 0 { timeAuth := true }), ⟨rfl, rfl⟩, by decide⟩,
   ⟨-2000000000, 0, cmd 0x0203 (leBytes 8 0 ++ leBytes 8 0 ++ leBytes 4 0x00010001), ((running.setHost 0 { timeAuth := true }).onTime fun x => { x with held := some (-2000000000) }), ⟨rfl, rfl⟩, by decide⟩⟩

/-- The hypotheses of TimeSteering can be met. -/
theorem witness_time_steering :
    (∃ (incr : Nat), ∃ u : State, u.time.shadow = some (incr, none)) ∧
    (∃ (incr : Nat) (offset : Int), ∃ u : State, u.time.shadow = some (incr, some offset) ∧ firstOfPhaseTick u = true ∧
      u.time.offsetWritten = false ∧ u.time.stepOwners = []) ∧
    (∃ (incr : Nat) (offset : Int), ∃ u : State, u.time.shadow = some (incr, some offset) ∧ firstOfPhaseTick u = true ∧
      u.time.offsetWritten = true ∧ u.time.stepOwners = []) ∧
    (∃ (w : Slew), ∃ u : State, u.time.slew = some w ∧ w.endCount ≤ u.time.count) ∧
    (∃ (q0 q1 : Bool) (best : Nat) (announce : Option (Int × Bool × Bool)), ∃ u : State, u.pwr.stage = .running ∧
      stillQualifies (u.onTime fun x => { x with qual0 := q0, qual1 := q1, bestPort := best % 2 }) = true ∧ announce = none) ∧
    (∃ u : State, u.pwr.stage = .running ∧ u.time.src = .port0) ∧
    (∃ (s : State) (i : UtcInfo), i.leap61 = true ∧
      (((i.day + 1) * 86400 : Nat) : Int) + i.utc + 1 ≤ ((s.tai / 1000000000 : Nat) : Int)) :=
  ⟨⟨0x200000000, (running.onTime fun x => { x with shadow := some (0x200000000, none) }), by decide⟩,
   ⟨0x200000000, 5, (running.onTime fun x => { x with shadow := some (0x200000000, some 5) }), by decide⟩,
   ⟨0x200000000, 5, (running.onTime fun x => { x with shadow := some (0x200000000, some 5), offsetWritten := true }), by decide⟩,
   ⟨{ endCount := 0, restore := 0x200000000, perTick := 1 }, (running.onTime fun x => { x with slew := some { endCount := 0, restore := 0x200000000, perTick := 1 } }), by decide⟩,
   ⟨true, false, 0, none, running, by decide⟩,
   ⟨(running.onTime fun x => { x with src := .port0, qual0 := true }), by decide⟩,
   ⟨State.reset.onTime fun t => { t with offset := ofS 86438 }, { utc := 37, leap61 := true, day := 0 }, by decide⟩⟩

/-- The hypotheses of PtpStamps can be met. -/
theorem witness_ptp_stamps :
    (∃ (port : Nat) (msg : PtpMsg), ∃ u : State, u.pwr.stage = .running ∧ port < 2 ∧ ptpRecognised msg = false) ∧
    (∃ (port : Nat) (msg : PtpMsg), ∃ u : State, u.pwr.stage = .running ∧ port < 2 ∧ ptpRecognised msg = true ∧ msg.kind ≤ 3 ∧
      msg.kind ≠ 1 ∧ msg.sync = none ∧ msg.link = none) ∧
    (∃ (port : Nat) (msg : PtpMsg), ∃ u : State, u.pwr.stage = .running ∧ ptpPort u port = true ∧ port < 2 ∧ ptpRecognised msg = true ∧
      msg.kind = 1 ∧ msg.sync = none ∧ msg.link = none) ∧
    (∃ (port ident seqId : Nat) (corr : Int) (udp : Option PtpUdp), ∃ u : State, u.pwr.stage = .running ∧ ptpPort u port = true) ∧
    (∃ (port kind ident seqId : Nat) (corr : Int) (udp : Option PtpUdp) (rx : Nat), ∃ u : State, u.pwr.stage = .running ∧
      ptpPort u port = true ∧ isTransparent u = true ∧ kind ≤ 3 ∧ stampOf u (1 - port) kind ident seqId = some rx) ∧
    (∃ (port ident seqId : Nat) (corr : Int) (udp : Option PtpUdp) (q : Nat × Nat × Nat × Nat × Nat), ∃ u : State, u.pwr.stage =
      .running ∧ ptpPort u port = true ∧
      u.time.delayReqs.reverse.find? (fun q => q.1 == port && q.2.1 == ident && q.2.2.1 == seqId && u.rc ≤ q.2.2.2.2 + ofS 1) = some q) ∧
    (∃ (port ident seqId : Nat) (corr : Int) (udp : Option PtpUdp), ∃ u : State, u.pwr.stage = .running ∧ ptpPort u port = true ∧
      u.time.delayReqs.reverse.find? (fun q => q.1 == port && q.2.1 == ident && q.2.2.1 == seqId && u.rc ≤ q.2.2.2.2 + ofS 1) = none) ∧
    (∃ (port kind ident seqId : Nat) (corr : Int) (udp : Option PtpUdp), ∃ u : State, u.pwr.stage = .running ∧ ptpPort u port = true ∧
      (kind = 8 ∨ kind = 10)) :=
  ⟨⟨0, { vlans := 3 }, running, by decide⟩,
   ⟨0, {}, running, by decide⟩,
   ⟨0, { kind := 1 }, running, by decide⟩,
   ⟨0, 1, 1, 0, none, running, by decide⟩,
   ⟨0, 1, 1, 1, 0, none, 5, ((running.onCfg fun c => { c with act := { c.act with ptpClock := .endToEnd } }).onTime fun x => { x with ptpIn := [{ port := 1, kind := 1, ident := 1, seqId := 1, stamp := some 5 }] }), by decide⟩,
   ⟨0, 1, 1, 0, none, (0, 1, 1, 5, 0), (running.onTime fun x => { x with delayReqs := [(0, 1, 1, 5, 0)] }), by decide⟩,
   ⟨0, 1, 1, 0, none, running, by decide⟩,
   ⟨0, 8, 1, 1, 0, none, running, by decide⟩⟩

/-- The hypotheses of HostEvents can be met. -/
theorem witness_host_events :
    (∃ (h : Fin 4) (tk : Taken) (u : State), Dispatched h 0x0220 tk (enqueue h tk u) ∧
      namesRing u h.val (fld tk.payload 18 2) 24 = true ∧ fld tk.payload 16 1 = 0 ∧
      (fld tk.payload 20 4 = 0 → fld tk.payload 24 4 = 0) ∧ aheadEnough u (mkKey (fld tk.payload 0 6) (fld tk.payload 6 2)) = true ∧
      quotaUsed u 8 h.val < 256) ∧
    (∃ (e : HostEvt), ∃ (h : Fin 4) (tk : Taken) (u : State), Dispatched h 0x0221 tk (enqueue h tk u) ∧
      u.sched.hostEvts.find? (fun e => e.handle == fld tk.payload 0 2) = some e ∧ e.host = h.val ∧ e.done = false) ∧
    (∃ (seq w : Nat) (e : SchedEntry), ∃ u : State, u.sched.entries.find? (fun e => e.seq == seq) = some e ∧ e.wall = some w ∧
      e.lastConv = false ∧ u.mains.anchored = true ∧ e.late = none ∧ u.key < entryKey u w ∧ entryKey u w / 65536 ≤ u.mains.cycle + 1) ∧
    (∃ (hd : Nat) (e : HostEvt), ∃ u : State, (dispatch isHostNotice u).map (fun q => (q.1.action, q.1.late)) = some (.hostNotice hd,
      none) ∧ u.sched.hostEvts.find? (fun e => e.handle == hd) = some e ∧ e.period = 0) :=
  ⟨⟨0, cmd 0x0220 (leBytes 8 100 ++ leBytes 8 0 ++ [0, 0] ++ leBytes 2 12 ++ leBytes 4 0 ++ leBytes 4 0 ++ leBytes 4 77), (running.onHosts fun b => { b with rings := [{ number := 12, owner := 0 }] }), ⟨rfl, rfl⟩, by exact ⟨by decide, by decide, by decide, by set_option maxRecDepth 4000 in decide, by decide⟩⟩,
   ⟨{ handle := 5, host := 0 }, 0, cmd 0x0221 (leBytes 2 5), (running.onSched fun c => { c with hostEvts := [{ handle := 5, host := 0 }] }), ⟨rfl, rfl⟩, by decide⟩,
   ⟨3, 4294967296000000, { cls := 8, seq := 3, wall := some 4294967296000000 }, (running.onSched fun c => { c with entries := [{ cls := 8, seq := 3, wall := some 4294967296000000 }] }).onMains fun m => { m with anchored := true }, by decide⟩,
   ⟨5, { handle := 5, host := 0 }, (running.onSched fun c => { c with hostEvts := [{ handle := 5, host := 0 }], entries := [{ cls := 8, action := .hostNotice 5 }] }), by decide⟩⟩

/-- The hypotheses of AnchorAndReads can be met. -/
theorem witness_anchor_and_reads :
    (∃ u : State, u.time.stepDue = 1 ∧ stepTickDone u = true) ∧
    (∃ u : State, u.time.stepDue = 2 ∧ stepTickDone u = true) ∧
    (∃ (h : Fin 4) (tk : Taken) (u : State), Dispatched h 0x0222 tk (enqueue h tk u) ∧ fld tk.payload 0 1 ≤ 1 ∧
      u.mains.anchored = true ∧
      (if fld tk.payload 0 1 = 0 then keyToWall u (fld tk.payload 8 8) else wallToKey u (ofNs (fld tk.payload 8 8))).kept = true) ∧
    (∃ (h : Fin 4), ∃ u : State, u.pwr.aonOn = true ∧ (u.host h).port ≠ 0) ∧
    (∃ (h : Fin 4), ∃ u : State, u.pwr.aonOn = true ∧ (u.host h).port ≠ 0) :=
  ⟨⟨((running.onTime fun x => { x with stepDue := 1 }).onMains fun m => { m with cycle := 5 }), by decide⟩,
   ⟨((running.onTime fun x => { x with stepDue := 2 }).onMains fun m => { m with cycle := 5 }), by decide⟩,
   ⟨0, cmd 0x0222 (leBytes 8 0 ++ leBytes 8 0), (running.onMains fun m => { m with anchored := true, cycles := [{ cycle := 0 }] }), ⟨rfl, rfl⟩, by decide⟩,
   ⟨0, (running.setHost 0 { port := 5 }), by decide⟩,
   ⟨0, (running.setHost 0 { port := 5 }), by decide⟩⟩

/-- The hypotheses of MeteringCycle can be met. -/
theorem witness_metering_cycle :
    (∃ (cyc : CycleIn) (e : CycleEnd) (f : Nat) (v : CycleVals), ∃ u : State, u.pwr.lineOn = true ∧ metroOff u = false ∧
      u.fab.seamUp = true ∧ cycleEndNow cyc u = some e ∧
      f = (if e.measured then resampleMhz (mhzOf (e.ns - u.met.boundNs)) else freeMhz u.met) ∧
      v = cycleVals (e.ns - u.met.boundNs) f (chains u.met.cal f cyc.chans)) ∧
    (∃ (reg : Nat), ∃ u : State, u.pwr.lineOn = true ∧ reg < 768) ∧
    (∃ (w : HarmWin), ∃ u : State, u.pwr.lineOn = true ∧ metroOff u = false ∧ u.met.harmEnded = some w) ∧
    (∃ u : State, u.pwr.lineOn = true ∧ u.met.imageValid = false ∧ u.met.fallback = false ∧ u.met.startNs + 500000000 ≤ u.met.lineNs) ∧
    (∃ (sel : Nat), ∃ u : State, u.pwr.lineOn = true ∧ u.met.ctl.tinMode ≠ 0 ∧ u.met.tinSel = some sel ∧
      u.met.ctl.debounce ≤ u.met.tinCount ∧ u.met.tinTaken ≠ some sel ∧ 0 < sel ∧ sel ≤ u.met.ctl.ratesUsed) ∧
    (∃ (sel : Nat), ∃ u : State, u.pwr.lineOn = true ∧ u.met.ctl.tinMode ≠ 0 ∧ u.met.tinSel = some sel ∧
      u.met.ctl.debounce ≤ u.met.tinCount ∧ u.met.tinTaken ≠ some sel ∧ u.met.ctl.ratesUsed < sel ∧ u.met.tinInvalid = false) ∧
    (∃ (h : Fin 4) (tk : Taken) (u : State), Dispatched h 0x0306 tk (enqueue h tk u) ∧ metroOff u = false ∧ fld tk.payload 0 1 ≤ 35) :=
  ⟨⟨{ crossing := true }, { ns := 7, rc := compensate (0 + seamLatency) 0, measured := true }, _, _, ((running.onMet fun m => { m with lineNs := 7, ref := some 0 }).onFab fun f => { f with seamUp := true }), by exact ⟨rfl, rfl, rfl, rfl, rfl, rfl⟩⟩,
   ⟨5, running, by decide⟩,
   ⟨{}, (running.onMet fun m => { m with harmEnded := some {} }), by decide⟩,
   ⟨(running.onMet fun m => { m with lineNs := 600000000 }), by decide⟩,
   ⟨2, (running.onMet fun m => { m with tinSel := some 2, tinCount := 255, ctl := { m.ctl with tinMode := 1, ratesUsed := 3 } }), by decide⟩,
   ⟨4, (running.onMet fun m => { m with tinSel := some 4, tinCount := 255, ctl := { m.ctl with tinMode := 1, ratesUsed := 3 } }), by decide⟩,
   ⟨0, cmd 0x0306 (leBytes 4 0), running, ⟨rfl, rfl⟩, by decide⟩⟩

/-- The hypotheses of Calibration can be met. -/
theorem witness_calibration :
    (∃ (h : Fin 4) (tk : Taken) (u : State), Dispatched h 0x0302 tk (enqueue h tk u) ∧ metroOff u = false ∧
      fld tk.payload 0 4 = 0x43414C4F ∧ 0 < u.met.reopens ∧ u.pocket.lifecycle ≠ .debug ∧ u.met.session = none ∧
      fld tk.payload 4 1 = u.met.reopens) ∧
    (∃ (h : Fin 4) (tk : Taken) (u : State), Dispatched h 0x0302 tk (enqueue h tk u) ∧ metroOff u = false ∧
      fld tk.payload 0 4 = 0x43414C4F) ∧
    (∃ (q : CalSession), ∃ (h : Fin 4) (tk : Taken) (u : State), Dispatched h 0x0303 tk (enqueue h tk u) ∧ u.met.session = some q ∧
      q.host = h.val ∧ fld tk.payload 0 1 ≤ 35 ∧ 1 ≤ fld tk.payload 1 1 ∧ fld tk.payload 1 1 ≤ 9 ∧ 10 ≤ fld tk.payload 2 2 ∧
      fld tk.payload 2 2 ≤ 1000 ∧ (phaseCurrent (fld tk.payload 0 1) = true ∨ fld tk.payload 1 1 < 4 ∨ fld tk.payload 1 1 = 9) ∧
      ((u.host h).openCmds.filter fun x => !x.dead).length < 16) ∧
    (∃ (q : CalSession) (x : CalStepSt) (v : Nat) (c : CalRec), ∃ u : State, u.met.session = some q ∧ q.step = some x ∧
      x.cycles + 2 ≤ x.done ∧ calResult q.pending x (meanOf x.vals) (ratioOf x.freqSum x.vals.length) = some (v, c) ∧
      (x.step = 0 ∨ spreadPpm x.vals ≤ 1000)) ∧
    (∃ (q : CalSession) (x : CalStepSt) (v : Nat) (c : CalRec), ∃ u : State, u.met.session = some q ∧ q.step = some x ∧
      x.cycles + 2 ≤ x.done ∧ calResult q.pending x (meanOf x.vals) (ratioOf x.freqSum x.vals.length) = some (v, c) ∧ x.step ≠ 0 ∧
      1000 < spreadPpm x.vals) ∧
    (∃ (q : CalSession), ∃ (h : Fin 4) (tk : Taken) (u : State), Dispatched h 0x0304 tk (enqueue h tk u) ∧ u.met.session = some q ∧
      q.host = h.val ∧ fld tk.payload 0 1 = 0) ∧
    (∃ (q : CalSession), ∃ (h : Fin 4) (tk : Taken) (u : State), Dispatched h 0x0304 tk (enqueue h tk u) ∧ u.met.session = some q ∧
      q.host = h.val ∧ fld tk.payload 0 1 = 1) ∧
    (∃ u : State, u.pwr.lineOn = true) ∧
    (∃ (q : CalSession), ∃ u : State, u.met.session = some q ∧ q.lastStepNs + 3600000000000 ≤ u.met.lineNs) ∧
    (∃ (h : Fin 4) (tk : Taken) (u : State), Dispatched h 0x0305 tk (enqueue h tk u) ∧ fld tk.payload 0 1 ≤ 35) :=
  ⟨⟨0, cmd 0x0302 (leBytes 4 0x43414C4F ++ leBytes 4 15), ({ running with pocket := { running.pocket with lifecycle := .deployed } }.onMet fun m => { m with reopens := 15 }), ⟨rfl, rfl⟩, by decide⟩,
   ⟨0, cmd 0x0302 (leBytes 4 0x43414C4F ++ leBytes 4 15), running, ⟨rfl, rfl⟩, by decide⟩,
   ⟨{ number := 1, host := 0, debug := false, pending := {}, lastStepNs := 0 }, 0, cmd 0x0303 (leBytes 8 0x000A0100 ++ leBytes 8 0 ++ leBytes 8 0), (running.onMet fun m => { m with session := some { number := 1, host := 0, debug := false, pending := {}, lastStepNs := 0 } }), ⟨rfl, rfl⟩, by decide⟩,
   ⟨{ number := 1, host := 0, debug := false, pending := {}, lastStepNs := 0, step := some { host := 0, taken := cmd 0 [], channel := 0, step := 0, cycles := 0, refValue := 0, refAngle := 0, sensor := 0, cflags := 0, scale := 0, done := 2, vals := [], freqSum := 0 } }, { host := 0, taken := cmd 0 [], channel := 0, step := 0, cycles := 0, refValue := 0, refAngle := 0, sensor := 0, cflags := 0, scale := 0, done := 2, vals := [], freqSum := 0 }, _, _, (running.onMet fun m => { m with session := some { number := 1, host := 0, debug := false, pending := {}, lastStepNs := 0, step := some { host := 0, taken := cmd 0 [], channel := 0, step := 0, cycles := 0, refValue := 0, refAngle := 0, sensor := 0, cflags := 0, scale := 0, done := 2, vals := [], freqSum := 0 } } }), by exact ⟨rfl, rfl, by decide, rfl, Or.inl rfl⟩⟩,
   ⟨{ number := 1, host := 0, debug := false, pending := {}, lastStepNs := 0, step := some { host := 0, taken := cmd 0 [], channel := 0, step := 1, cycles := 0, refValue := 2, refAngle := 0, sensor := 0, cflags := 0, scale := 0, done := 2, vals := [1 * unit32, 3 * unit32], freqSum := 100000 } }, { host := 0, taken := cmd 0 [], channel := 0, step := 1, cycles := 0, refValue := 2, refAngle := 0, sensor := 0, cflags := 0, scale := 0, done := 2, vals := [1 * unit32, 3 * unit32], freqSum := 100000 }, _, _, (running.onMet fun m => { m with session := some { number := 1, host := 0, debug := false, pending := {}, lastStepNs := 0, step := some { host := 0, taken := cmd 0 [], channel := 0, step := 1, cycles := 0, refValue := 2, refAngle := 0, sensor := 0, cflags := 0, scale := 0, done := 2, vals := [1 * unit32, 3 * unit32], freqSum := 100000 } } }), by exact ⟨rfl, rfl, by decide, rfl, by decide, by set_option maxRecDepth 4000 in decide⟩⟩,
   ⟨{ number := 1, host := 0, debug := false, pending := {}, lastStepNs := 0 }, 0, cmd 0x0304 (leBytes 8 0), (running.onMet fun m => { m with session := some { number := 1, host := 0, debug := false, pending := {}, lastStepNs := 0 } }), ⟨rfl, rfl⟩, by decide⟩,
   ⟨{ number := 1, host := 0, debug := false, pending := {}, lastStepNs := 0 }, 0, cmd 0x0304 (leBytes 8 1), (running.onMet fun m => { m with session := some { number := 1, host := 0, debug := false, pending := {}, lastStepNs := 0 } }), ⟨rfl, rfl⟩, by decide⟩,
   ⟨running, by decide⟩,
   ⟨{ number := 1, host := 0, debug := false, pending := {}, lastStepNs := 0 }, (running.onMet fun m => { m with lineNs := 3600000000000, session := some { number := 1, host := 0, debug := false, pending := {}, lastStepNs := 0 } }), by decide⟩,
   ⟨0, cmd 0x0305 (leBytes 4 0), running, ⟨rfl, rfl⟩, by decide⟩⟩

/-- The hypotheses of PowerQualityAndPulses can be met. -/
theorem witness_power_quality_and_pulses :
    (∃ (ms : List Nat) (half : Bool), ∃ u : State, u.pwr.lineOn = true ∧ metroOff u = false) ∧
    (∃ (r : PqReport) (rest : List PqReport), ∃ u : State, u.fab.seamUp = true ∧ u.hosts.ready = true ∧ u.met.pqQueue = r :: rest ∧
      r.ending = false) ∧
    (∃ (r : PqReport) (rest : List PqReport), ∃ u : State, u.fab.seamUp = true ∧ u.hosts.ready = true ∧ u.met.pqQueue = r :: rest ∧
      r.ending = true) ∧
    (∃ (n : Nat), ∃ u : State, n < 8 ∧ pulseReleased u n = false ∧ (pulseOf u n).paying = true ∧
      (pulseOf u n).emitted < (pulseOf u n).owed ∧ (pulseOf u n).active = false ∧ (pulseOf u n).nextStart ≤ u.rc) ∧
    (∃ (n : Nat), ∃ u : State, n < 8 ∧ (pulseOf u n).active = true ∧ (pulseOf u n).endRc ≤ u.rc) ∧
    (∃ (n k : Nat), ∃ u : State, n < 8 ∧ (pulseOf u n).overFrom = some k ∧ k + 250 * 65536 ≤ u.key ∧ (pulseOf u n).alarmed = false) ∧
    (∃ (n : Nat) (c : PulseCfg) (cycle : Nat), ∃ u : State, n < 8 ∧ (pulseOf u n).pendingCfg = some (c, cycle) ∧ cycle ≤ u.mains.cycle) ∧
    (∃ (h : Fin 4) (tk : Taken) (u : State), Dispatched h 0x0410 tk (enqueue h tk u) ∧ fld tk.payload 0 1 ≤ 7 ∧ fld tk.payload 1 1 ≤ 1 ∧
      fld tk.payload 2 1 ≤ 7 ∧ 2 ≤ fld tk.payload 3 1 ∧ fld tk.payload 3 1 ≤ 100 ∧ 1 ≤ fld tk.payload 8 4 ∧
      fld tk.payload 8 4 ≤ 4000000000 ∧ maskRefused (fld tk.payload 1 1 == 1) (BitVec.ofNat 32 (fld tk.payload 4 4)) = false) ∧
    (∃ (h : Fin 4) (tk : Taken) (u : State), Dispatched h 0x0411 tk (enqueue h tk u) ∧ fld tk.payload 0 1 ≤ 7) :=
  ⟨⟨[230000], false, running, by decide⟩,
   ⟨{ ending := false, kind := 0, index := 0, tagCycle := 0, tagHalf := false, ms := 0, halves := 0, extreme := 0, quality := 0 }, [], ((running.onMet fun m => { m with pqQueue := [{ ending := false, kind := 0, index := 0, tagCycle := 0, tagHalf := false, ms := 0, halves := 0, extreme := 0, quality := 0 }] }).onFab fun f => { f with seamUp := true }), by decide⟩,
   ⟨{ ending := true, kind := 0, index := 0, tagCycle := 0, tagHalf := false, ms := 0, halves := 0, extreme := 0, quality := 0 }, [], ((running.onMet fun m => { m with pqQueue := [{ ending := true, kind := 0, index := 0, tagCycle := 0, tagHalf := false, ms := 0, halves := 0, extreme := 0, quality := 0 }] }).onFab fun f => { f with seamUp := true }), by decide⟩,
   ⟨0, (((running.onReg fun r => { r with pulses := [{ owed := 1, paying := true }] }).onCfg fun c => { c with act := { c.act with pulses := [{ enable := true }] }, startCfg := { c.startCfg with role := some .field } }).onPair fun p => { p with state := .solo, releaseUntil := none }), by decide⟩,
   ⟨0, (running.onReg fun r => { r with pulses := [{ active := true, endRc := 0 }] }), by decide⟩,
   ⟨0, 0, ((running.onReg fun r => { r with pulses := [{ overFrom := some 0 }] }).onMains fun m => { m with cycle := 250 }), by decide⟩,
   ⟨0, {}, 0, (running.onReg fun r => { r with pulses := [{ pendingCfg := some ({}, 0) }] }), by decide⟩,
   ⟨0, cmd 0x0410 (leBytes 4 0x0A000100 ++ leBytes 4 1 ++ leBytes 4 1000 ++ leBytes 4 0), running, ⟨rfl, rfl⟩, by decide⟩,
   ⟨0, cmd 0x0411 (leBytes 4 0), running, ⟨rfl, rfl⟩, by decide⟩⟩

/-- The hypotheses of RegistersAndTariffs can be met. -/
theorem witness_registers_and_tariffs :
    (∃ (r : ResultSet) (q : List ResultSet), ∃ u : State, u.pwr.stage = .running ∧ u.reg.q9 = r :: q ∧ u.met.results = []) ∧
    (∃ (c : Closing) (rest : List Closing), ∃ u : State, u.pwr.stage = .running ∧ u.reg.closings = c :: rest ∧
      (c.closeKey ≤ u.reg.cumKey ∨ u.reg.partialSeen = true) ∧ c.kind = 4) ∧
    (∃ u : State, u.pwr.stage = .running ∧ u.reg.closings = []) ∧
    (∃ (e : SchedEntry) (n : Nat), ∃ u : State, nextDue u = some e ∧ e.action = .demandClose n ∧ n < 4 ∧ metroOff u = false) ∧
    (∃ (e : SchedEntry), ∃ u : State, nextDue u = some e ∧ e.action = .billingClose ∧ metroOff u = false) ∧
    (∃ (e : SchedEntry) (f : Nat), ∃ u : State, nextDue u = some e ∧ e.action = .snapshot f ∧ f < 8 ∧ metroOff u = false) ∧
    (∃ (e : SchedEntry) (rate : Nat), ∃ u : State, nextDue u = some e ∧ e.action = .tariffSwitch rate ∧ e.key % 65536 = 0 ∧
      u.reg.holds = [] ∧ rateOk u rate = true) ∧
    (∃ (h : Fin 4) (tk : Taken) (u : State), Dispatched h 0x0402 tk (enqueue h tk u) ∧ fld tk.payload 0 1 = 1 ∧
      rateOk u (fld tk.payload 1 1) = true ∧ u.reg.holds = [] ∧ inputsOverride u = false) ∧
    (∃ (h : Fin 4) (tk : Taken) (u : State), Dispatched h 0x0401 tk (enqueue h tk u) ∧ fld tk.payload 0 1 ≤ 31 ∧
      fld tk.payload 1 1 ≤ 7 ∧ fld tk.payload 2 1 ≤ 8 ∧ fld tk.payload 3 1 = 1 ∧ fld tk.payload 4 1 = 0 ∧ fld tk.payload 5 1 = 0 ∧
      (fld tk.payload 0 1 % 4 = 3 ∨ fld tk.payload 2 1 = 0)) ∧
    (∃ (b : BillPeriod), ∃ (h : Fin 4) (tk : Taken) (u : State), Dispatched h 0x0401 tk (enqueue h tk u) ∧ fld tk.payload 0 1 ≤ 31 ∧
      fld tk.payload 1 1 ≤ 7 ∧ fld tk.payload 2 1 = 0 ∧ fld tk.payload 3 1 = 1 ∧ fld tk.payload 4 1 = 1 ∧ fld tk.payload 5 1 = 1 ∧
      u.reg.periods[0]? = some b) ∧
    (∃ (a b : Nat) (m : MaxDemand), ∃ (h : Fin 4) (tk : Taken) (u : State), Dispatched h 0x0403 tk (enqueue h tk u) ∧
      fld tk.payload 0 1 ≤ 3 ∧ (u.cfg.act.demand.getD (fld tk.payload 0 1) {}).enable = true ∧
      (u.cfg.act.demand.getD (fld tk.payload 0 1) {}).pairs[fld tk.payload 1 1]? = some (a, b) ∧ fld tk.payload 2 1 = 0 ∧
      (u.reg.schemes.getD (fld tk.payload 0 1) {}).maxima.find? (fun m => m.pair == fld tk.payload 1 1 && m.rate == 0) = some m) ∧
    (∃ (h : Fin 4) (tk : Taken) (u : State), Dispatched h 0x0404 tk (enqueue h tk u) ∧ fld tk.payload 0 4 = 0x42494C4C ∧
      u.reg.billPlaced = false ∧ quotaUsed u 3 0 < 512) :=
  ⟨⟨{}, [], (running.onReg fun g => { g with q9 := [{}] }), by decide⟩,
   ⟨{ kind := 4 }, [], (running.onReg fun g => { g with closings := [{ kind := 4 }] }), by decide⟩,
   ⟨running, by decide⟩,
   ⟨{ cls := 3, sub := 0, action := .demandClose 0 }, 0, (running.onSched fun c => { c with entries := [{ cls := 3, sub := 0, action := .demandClose 0 }] }), by decide⟩,
   ⟨{ cls := 3, sub := 4, action := .billingClose }, (running.onSched fun c => { c with entries := [{ cls := 3, sub := 4, action := .billingClose }] }), by decide⟩,
   ⟨{ cls := 5, sub := 0, action := .snapshot 0 }, 0, (running.onSched fun c => { c with entries := [{ cls := 5, sub := 0, action := .snapshot 0 }] }), by decide⟩,
   ⟨{ cls := 3, sub := 0, action := .tariffSwitch 2 }, 2, (((running.onSched fun c => { c with entries := [{ cls := 3, sub := 0, action := .tariffSwitch 2 }] }).onFab fun f => { f with seamUp := true }).onCfg fun c => { c with act := { c.act with ratesUsed := 3 } }), by decide⟩,
   ⟨0, cmd 0x0402 (leBytes 8 0x0201), ((running.onFab fun f => { f with seamUp := true }).onCfg fun c => { c with act := { c.act with ratesUsed := 3 } }), ⟨rfl, rfl⟩, by decide⟩,
   ⟨0, cmd 0x0401 (leBytes 8 0x01010003), running, ⟨rfl, rfl⟩, by decide⟩,
   ⟨⟨0, [], []⟩, 0, cmd 0x0401 (leBytes 4 0x01000003 ++ leBytes 4 0x0101), (running.onReg fun g => { g with periods := [⟨0, [], []⟩] }), ⟨rfl, rfl⟩, by decide⟩,
   ⟨3, 0, ⟨0, 0, 7, 9⟩, 0, cmd 0x0403 (leBytes 8 0), ((running.onReg fun g => { g with schemes := [{ maxima := [⟨0, 0, 7, 9⟩] }] }).onCfg fun c => { c with act := { c.act with demand := [{ enable := true, pairs := [(3, 0)] }] } }), ⟨rfl, rfl⟩, by decide⟩,
   ⟨0, cmd 0x0404 (leBytes 8 0x42494C4C), running, ⟨rfl, rfl⟩, by decide⟩⟩

/-- The hypotheses of RadioFrontEnds can be met. -/
theorem witness_radio_front_ends :
    (∃ (c : FeCfg), ∃ (h : Fin 4) (tk : Taken) (u : State), Dispatched h 0x0501 tk (enqueue h tk u) ∧ fld tk.payload 0 1 ≤ 1 ∧
      fld tk.payload 1 1 ≤ 1 ∧ fld tk.payload 3 1 ≤ 1 ∧ feOk c = true ∧ transitOf u (.fe (fld tk.payload 0 1)) = none ∧ (lanesOn (setFe
      (fld tk.payload 0 1) c (shadowCfg u))).any (fun q => q.2.fe == fld tk.payload 0 1 && !laneValid (setFe (fld tk.payload 0 1) c
      (shadowCfg u)) q.2) = false ∧ c =
      { enable := fld tk.payload 1 1 = 1, width := fld tk.payload 2 1, blankPeer := hasBit (fld tk.payload 3 1) 0,
        centerHz := fld tk.payload 4 4, txPower := fldI tk.payload 8 2, paLead := fld tk.payload 10 1, paLag := fld tk.payload 11 1,
        cca := fldI tk.payload 12 1 }) ∧
    (∃ (h : Fin 4) (tk : Taken) (u : State), Dispatched h 0x0502 tk (enqueue h tk u) ∧ fld tk.payload 0 1 ≤ 63 ∧
      fld tk.payload 1 1 = 0 ∧ fld tk.payload 2 1 ≤ 1 ∧ (fld tk.payload 3 1 = 0 ∨ (phyWidth (fld tk.payload 3 1)).isSome) ∧
      transitOf u (.lane (fld tk.payload 0 1)) = none) ∧
    (∃ (c : LaneCfg), ∃ (h : Fin 4) (tk : Taken) (u : State), Dispatched h 0x0502 tk (enqueue h tk u) ∧
      transitOf u (.lane (fld tk.payload 0 1)) = none ∧ fld tk.payload 0 1 ≤ 63 ∧ fld tk.payload 1 1 = 1 ∧ fld tk.payload 2 1 ≤ 1 ∧
      (phyWidth (fld tk.payload 3 1)).isSome ∧ c =
      { enable := true, fe := fld tk.payload 2 1, phy := fld tk.payload 3 1, offset := fldI tk.payload 4 4, chanId := fld tk.payload 8 2
          } ∧ laneValid (shadowCfg u) c = true ∧ (lanesOn (shadowCfg u)).filter (fun q => q.1 != fld tk.payload 0 1) = []) ∧
    (∃ (h : Fin 4) (tk : Taken) (u : State), Dispatched h 0x0504 tk (enqueue h tk u) ∧ fld tk.payload 0 1 ≤ 1 ∧ fld tk.payload 1 1 ≤ 1 ∧
      fld tk.payload 2 1 ≤ 1 ∧ wurFreqOk (fld tk.payload 4 4) = true ∧
      ((List.range 4).map fun i => fld tk.payload (8 + 2 * i) 2).contains 0xFFFF = false ∧ transitOf u .wur = none) ∧
    (∃ (n at_ : Nat), ∃ u : State, (feSt u n).calEnd = some at_ ∧ feOn u n = true ∧ at_ ≤ u.rc) ∧
    (∃ (n inFrame at_ : Nat) (c : FeCfg), ∃ u : State, (feSt u n).retune = some (c, at_) ∧ (inFrame = 0 ∨ at_ + ofMs 10 ≤ u.rc)) ∧
    (∃ (n : Nat), ∃ u : State, feOn u n = true) ∧
    (∃ (f : RadioFrame), ∃ u : State, f.lane < 64 ∧ (laneIn u.cfg.act f.lane).enable = true ∧
      carrierFollowed (laneIn u.cfg.act f.lane).phy f.freqErr = true ∧ feOn u (laneIn u.cfg.act f.lane).fe = true ∧
      (feSt u (laneIn u.cfg.act f.lane).fe).ready = true ∧ (feSt u (laneIn u.cfg.act f.lane).fe).retuneEnd ≤ u.rc - ofUs f.durationUs ∧
      blankedNow u (laneIn u.cfg.act f.lane).fe f.durationUs = true) ∧
    (∃ (f : RadioFrame), ∃ u : State, f.lane < 64 ∧ (laneIn u.cfg.act f.lane).enable = true ∧
      carrierFollowed (laneIn u.cfg.act f.lane).phy f.freqErr = true ∧ feOn u (laneIn u.cfg.act f.lane).fe = true ∧
      (feSt u (laneIn u.cfg.act f.lane).fe).ready = true ∧ (feSt u (laneIn u.cfg.act f.lane).fe).retuneEnd ≤ u.rc - ofUs f.durationUs ∧
      blankedNow u (laneIn u.cfg.act f.lane).fe f.durationUs = false ∧ u.rad.q0.length < Config.ringDepth 0) ∧
    (∃ (f : RadioFrame), ∃ u : State, f.lane < 64 ∧ (laneIn u.cfg.act f.lane).enable = true ∧
      carrierFollowed (laneIn u.cfg.act f.lane).phy f.freqErr = true ∧ feOn u (laneIn u.cfg.act f.lane).fe = true ∧
      (feSt u (laneIn u.cfg.act f.lane).fe).ready = true ∧ (feSt u (laneIn u.cfg.act f.lane).fe).retuneEnd ≤ u.rc - ofUs f.durationUs ∧
      blankedNow u (laneIn u.cfg.act f.lane).fe f.durationUs = false ∧ Config.ringDepth 0 ≤ u.rad.q0.length) ∧
    (∃ (addr cls : Nat), ∃ u : State, wurOn u = true ∧ addr ≠ 0 ∧
      (addr = 0xFFFF ∧ u.cfg.act.wur.broadcast = true ∨ u.cfg.act.wur.addrs.contains addr = true) ∧
      (feSt u 0).paOff ≤ u.rc - wakeFrameLen u.cfg.act.wur.fast ∧ paOver u 0 (u.rc - wakeFrameLen u.cfg.act.wur.fast) = false) ∧
    (∃ (h : Fin 4) (tk : Taken) (u : State), Dispatched h 0x0503 tk (enqueue h tk u) ∧ fld tk.payload 0 1 ≤ 1) :=
  ⟨⟨{ enable := true, width := 0, blankPeer := false, centerHz := 868000000, txPower := 0, paLead := 10, paLag := 10, cca := 0 }, 0, cmd 0x0501 (leBytes 4 0x0100 ++ leBytes 4 868000000 ++ leBytes 2 0 ++ leBytes 6 0x0A0A), running, ⟨rfl, rfl⟩, by decide⟩,
   ⟨0, cmd 0x0502 (leBytes 12 3), running, ⟨rfl, rfl⟩, by decide⟩,
   ⟨{ enable := true, fe := 0, phy := 0x10, offset := 0, chanId := 7 }, 0, cmd 0x0502 (leBytes 4 0x10000103 ++ leBytes 4 0 ++ leBytes 4 7), running, ⟨rfl, rfl⟩, by decide⟩,
   ⟨0, cmd 0x0504 (leBytes 4 1 ++ leBytes 4 868000000 ++ leBytes 8 0), running, ⟨rfl, rfl⟩, by decide⟩,
   ⟨0, 0, ((running.onRad fun r => { r with fes := [{ calEnd := some 0 }, {}] }).onCfg fun c => { c with act := { c.act with feA := { c.act.feA with enable := true } }, startCfg := { c.startCfg with feAPowered := true } }), by decide⟩,
   ⟨0, 0, 0, {}, (running.onRad fun r => { r with fes := [{ retune := some ({}, 0) }, {}] }), by decide⟩,
   ⟨0, (running.onCfg fun c => { c with act := { c.act with feA := { c.act.feA with enable := true } }, startCfg := { c.startCfg with feAPowered := true } }), by decide⟩,
   ⟨{}, ((running.onRad fun r => { r with fes := [{ ready := true, blankEnd := 1 }, {}] }).onCfg fun c => { c with act := { c.act with lanes := [(0, { enable := true, phy := 0x10 })], feA := { c.act.feA with enable := true } }, startCfg := { c.startCfg with feAPowered := true } }), by decide⟩,
   ⟨{}, ((running.onRad fun r => { r with fes := [{ ready := true }, {}] }).onCfg fun c => { c with act := { c.act with lanes := [(0, { enable := true, phy := 0x10 })], feA := { c.act.feA with enable := true } }, startCfg := { c.startCfg with feAPowered := true } }), by exact ⟨by decide, by decide, by decide, by decide, by decide, by decide, by decide, Nat.succ_pos _⟩⟩,
   ⟨{}, ((running.onRad fun r => { r with fes := [{ ready := true }, {}], q0 := List.replicate (Config.ringDepth 0) {} }).onCfg fun c => { c with act := { c.act with lanes := [(0, { enable := true, phy := 0x10 })], feA := { c.act.feA with enable := true } }, startCfg := { c.startCfg with feAPowered := true } }), by exact ⟨by decide, by decide, by decide, by decide, by decide, by decide, by decide, by simp⟩⟩,
   ⟨5, 0, (running.onCfg fun c => { c with act := { c.act with wur := { enable := true, addrs := [5] } }, startCfg := { c.startCfg with role := some .field } }), by decide⟩,
   ⟨0, cmd 0x0503 (leBytes 4 0), running, ⟨rfl, rfl⟩, by decide⟩⟩

/-- The hypotheses of RadioTransmission can be met. -/
theorem witness_radio_transmission :
    (∃ (h : Fin 4) (tk : Taken) (u : State), Dispatched h 0x0505 tk (enqueue h tk u) ∧ fld tk.payload 0 1 ≤ 1 ∧ fld tk.payload 1 1 = 1 ∧
      fld tk.payload 2 1 ≠ 0 ∧ fld tk.payload 8 2 ≠ 0 ∧ wurFreqOk (fld tk.payload 4 4) = true ∧ quotaUsed u 7 0 < 2560 ∧
      u.key + 16384 ≤ wakeKey u true (fld tk.payload 2 1) (fld tk.payload 10 2) (fld tk.payload 12 8)) ∧
    (∃ (cca : Int) (e : SchedEntry) (n id : Nat) (f : TxFrame), ∃ u : State, nextRelease u = some e ∧ e.action = .radioTx n id ∧
      u.sched.hemKey = none ∧ u.rad.q7.find? (fun f => f.id == id) = some f ∧ u.key ≤ e.key ∧ mayTransmit u = true ∧ feOn u n = true ∧
      n < 2 ∧ u.rad.fes.length = 2 ∧ (feSt u n).tx = none ∧ (feSt u n).txNext = [] ∧
      (feSt u n).paOff ≤ rcOfKey u e.key - ofUs (feIn u.cfg.act n).paLead ∧ (feIn u.cfg.act n).cca = 0 ∧ u.cfg.act.subBands = []) ∧
    (∃ (cca : Int) (e : SchedEntry) (n id : Nat) (f : TxFrame), ∃ u : State, nextRelease u = some e ∧ e.action = .radioTx n id ∧
      u.sched.hemKey = none ∧ u.rad.q7.find? (fun f => f.id == id) = some f ∧ f.use = 0 ∧ u.key ≤ e.key ∧ feOn u n = false ∧
      u.link.downs.find? (fun d => d.id == id) = none) ∧
    (∃ (n : Nat) (x : RunTx), ∃ u : State, (feSt u n).tx = some x ∧ n < 2 ∧ u.rad.fes.length = 2 ∧ x.offRc ≤ u.rc ∧ x.frame.use = 0) :=
  ⟨⟨0, cmd 0x0505 (leBytes 4 0x010100 ++ leBytes 4 868000000 ++ leBytes 4 5 ++ leBytes 8 10000000), running, ⟨rfl, rfl⟩, by decide⟩,
   ⟨0, { cls := 7, sub := 0, action := .radioTx 0 1 }, 0, 1, { id := 1 }, (((((running.onSched fun c => { c with entries := [{ cls := 7, sub := 0, action := .radioTx 0 1 }] }).onRad fun r => { r with q7 := [{ id := 1 }] }).onCfg fun c => { c with act := { c.act with feA := { c.act.feA with enable := true } }, startCfg := { c.startCfg with feAPowered := true, role := some .field } }).onPair fun p => { p with state := .solo })), by decide⟩,
   ⟨0, { cls := 7, sub := 0, action := .radioTx 0 1 }, 0, 1, { id := 1, use := 0 }, ((running.onSched fun c => { c with entries := [{ cls := 7, sub := 0, action := .radioTx 0 1 }] }).onRad fun r => { r with q7 := [{ id := 1, use := 0 }] }), by decide⟩,
   ⟨0, { frame := { id := 1, use := 0 }, key := 0, onRc := 0, offRc := 0 }, (running.onRad fun r => { r with fes := [{ tx := some { frame := { id := 1, use := 0 }, key := 0, onRc := 0, offRc := 0 } }, {}] }), by decide⟩⟩

/-- The hypotheses of LinkLayer can be met. -/
theorem witness_link_layer :
    (∃ (cap : Bool) (f : RadioFrame) (rest : List RadioFrame), ∃ u : State, u.rad.q0 = f :: rest ∧ radioOn u = true ∧
      u.sess.q2.length < Config.ringDepth 2 ∧ f.fcsOk = false) ∧
    (∃ (cap : Bool) (f : RadioFrame) (rest : List RadioFrame), ∃ u : State, u.rad.q0 = f :: rest ∧ radioOn u = true ∧
      u.sess.q2.length < Config.ringDepth 2 ∧ f.fcsOk = true ∧ f.modeSwitch = false ∧ addressed u f = false) ∧
    (∃ (cap : Bool) (f : RadioFrame) (rest : List RadioFrame) (n : Nat) (e : Nbr), ∃ u : State, u.rad.q0 = f :: rest ∧
      radioOn u = true ∧ u.sess.q2.length < Config.ringDepth 2 ∧ f.fcsOk = true ∧ f.modeSwitch = false ∧ addressed u f = true ∧
      f.isAck = false ∧ nbrByAddr u f.addr = some n ∧ tfind u.link.nbrs n = some e ∧
      (ctxOf u e.meter).all (fun c => c.state != .retired) = true ∧ e.recent = [] ∧
      seqClass (linkProfile u e.profile) e f.seq f.key = .replay) ∧
    (∃ (cap : Bool) (f : RadioFrame) (rest : List RadioFrame) (n : Nat) (e : Nbr), ∃ u : State, u.rad.q0 = f :: rest ∧
      radioOn u = true ∧ u.sess.q2.length < Config.ringDepth 2 ∧ f.fcsOk = true ∧ f.modeSwitch = false ∧ addressed u f = true ∧
      f.isAck = false ∧ nbrByAddr u f.addr = some n ∧ tfind u.link.nbrs n = some e ∧
      (ctxOf u e.meter).all (fun c => c.state != .retired) = true ∧ e.recent = [] ∧
      (∃ d, seqClass (linkProfile u e.profile) e f.seq f.key = .new d) ∧ stagingRefuses f.length f.ackReq u = none) ∧
    (∃ (m a b : Nat) (c : MeterCtx), ∃ u : State, ctxOf u m = some c ∧ c.state = .active ∧ (linkProfile u c.linkProfile).checkinMc ≠ 0 ∧
      c.nextKey ≠ 0 ∧ c.evalWin = some (a, b) ∧ b + 2 * mc ≤ u.key ∧ deafDuring u ((nbrOfMeter u m).map (nbrOf u)) a = false ∧
      c.contacts = [] ∧ c.misses + 1 < 3 ∧ nbrOfMeter u m = none) ∧
    (∃ (m : Nat) (c : MeterCtx), ∃ u : State, ctxOf u m = some c ∧ stageAlive u = true ∧ c.state = .joining ∧
      c.admitKey + 180000 * mc ≤ u.key) ∧
    (∃ (id at_ : Nat) (d : Downlink), ∃ u : State, u.link.downs = [d] ∧ d.id = id ∧ d.endRc = some at_ ∧
      (linkProfile u (nbrOf u d.nbr).profile).ackWaitPt * cycleLen u < (u.rc - at_) * mc ∧
      (linkProfile u (nbrOf u d.nbr).profile).maxRetries ≤ d.retries ∧ d.origin ≠ 2) ∧
    (∃ (n : Nat) (e : Nbr), ∃ (h : Fin 4) (tk : Taken) (u : State), Dispatched h 0x0510 tk (enqueue h tk u) ∧ fld tk.payload 0 1 = 1 ∧
      nbrByAddr u (fld tk.payload 8 8) = some n ∧ nbrOf u n = e) ∧
    (∃ (p : LinkProfile), ∃ (h : Fin 4) (tk : Taken) (u : State), Dispatched h 0x0511 tk (enqueue h tk u) ∧ fld tk.payload 0 1 ≤ 15 ∧
      linkProfileOk p = true ∧ p =
      { lostMisses := fld tk.payload 1 1, ackDelayPt := fld tk.payload 2 2, checkinMc := fld tk.payload 4 4,
        baseGuardUs := fld tk.payload 8 4, guardCapUs := fld tk.payload 12 4, driftPpm := fld tk.payload 16 2,
        maxRetries := fld tk.payload 18 1, wakeRepeat := fld tk.payload 19 1, retryMc := fld tk.payload 20 2,
        ackWaitPt := fld tk.payload 22 2, seqResetMc := fld tk.payload 24 4, wakeGapUs := fld tk.payload 28 2 }) ∧
    (∃ (n : Nat), ∃ (h : Fin 4) (tk : Taken) (u : State), Dispatched h 0x0512 tk (enqueue h tk u) ∧
      nbrByAddr u (fld tk.payload 0 8) = some n ∧ fld tk.payload 8 1 = 1 ∧
      (u.link.nbrs.filter fun p => willBePinned u p.2).length < 1024) :=
  ⟨⟨true, { fcsOk := false }, [], ((running.onRad fun x => { x with q0 := [{ fcsOk := false }] }).onPwr fun p => { p with state := .run }), by exact ⟨by decide, by decide, Nat.succ_pos _, by decide⟩⟩,
   ⟨true, { fcsOk := true, kind := 0, pan := 5 }, [], (((running.onRad fun x => { x with q0 := [{ fcsOk := true, kind := 0, pan := 5 }] }).onPwr fun p => { p with state := .run }).onCfg fun c => { c with act := { c.act with panId := 6 } }), by exact ⟨by decide, by decide, Nat.succ_pos _, by decide, by decide, by decide⟩⟩,
   ⟨true, { fcsOk := true, kind := 1, addr := 9, seq := 100 }, [], 0, { addr := 9, winValid := true, seqHi := 200 }, (((running.onRad fun x => { x with q0 := [{ fcsOk := true, kind := 1, addr := 9, seq := 100 }] }).onPwr fun p => { p with state := .run }).onLink fun l => { l with nbrs := [(0, { addr := 9, winValid := true, seqHi := 200 })] }), by exact ⟨by decide, by decide, Nat.succ_pos _, by decide, by decide, by decide, by decide, by decide, by decide, by decide, by decide, by decide⟩⟩,
   ⟨true, { fcsOk := true, kind := 1, addr := 9, seq := 201 }, [], 0, { addr := 9, winValid := true, seqHi := 200 }, (((running.onRad fun x => { x with q0 := [{ fcsOk := true, kind := 1, addr := 9, seq := 201 }] }).onPwr fun p => { p with state := .run }).onLink fun l => { l with nbrs := [(0, { addr := 9, winValid := true, seqHi := 200 })] }), by exact ⟨by decide, by decide, Nat.succ_pos _, by decide, by decide, by decide, by decide, by decide, by decide, by decide, by decide, ⟨1, by decide⟩, by decide⟩⟩,
   ⟨1, 0, 0, { state := .active, nextKey := 1, evalWin := some (0, 0) }, ((running.onSess fun x => { x with ctxs := [(1, { state := .active, nextKey := 1, evalWin := some (0, 0) })] }).onMains fun m => { m with cycle := 10 }), by decide⟩,
   ⟨1, { state := .joining }, ((running.onSess fun x => { x with ctxs := [(1, { state := .joining })] }).onMains fun m => { m with cycle := 180000 }), by decide⟩,
   ⟨7, 0, { id := 7, endRc := some 0, retries := 7 }, ((running.onLink fun l => { l with downs := [{ id := 7, endRc := some 0, retries := 7 }] }).onTime fun x => { x with rc := 100000000000000000000 }), by decide⟩,
   ⟨0, { addr := 9 }, 0, cmd 0x0510 (leBytes 8 1 ++ leBytes 8 9), (running.onLink fun l => { l with nbrs := [(0, { addr := 9 })] }), ⟨rfl, rfl⟩, by decide⟩,
   ⟨{ lostMisses := 10, ackDelayPt := 24576, checkinMc := 45000, baseGuardUs := 2000, guardCapUs := 10000000, driftPpm := 20, maxRetries := 3, wakeRepeat := 3, retryMc := 3000, ackWaitPt := 8192, seqResetMc := 180000, wakeGapUs := 1000 }, 0, cmd 0x0511 (leBytes 4 0x60000A00 ++ leBytes 4 45000 ++ leBytes 4 2000 ++ leBytes 4 10000000 ++ leBytes 4 0x03030014 ++ leBytes 4 0x20000BB8 ++ leBytes 4 180000 ++ leBytes 4 1000), running, ⟨rfl, rfl⟩, by decide⟩,
   ⟨0, 0, cmd 0x0512 (leBytes 8 9 ++ leBytes 8 1), (running.onLink fun l => { l with nbrs := [(0, { addr := 9 })] }), ⟨rfl, rfl⟩, by decide⟩⟩

/-- The hypotheses of PlcPort can be met. -/
theorem witness_plc_port :
    (∃ (e : SchedEntry) (m : Nat), ∃ u : State, nextDue u = some e ∧ e.action = .plcMode m ∧ stageAlive u = true ∧ m ≠ 0 ∧
      u.plc.q8 = [] ∧ u.plc.waiting = [] ∧ u.plc.tx = none) ∧
    (∃ (c : Nat), ∃ u : State, u.plc.retrainEnd = some c ∧ c ≤ u.mains.cycle) ∧
    (∃ (f : TxFrame) (x : Nat), ∃ u : State, u.pwr.lineOn = true ∧ u.plc.tx = some (f, x) ∧ f.use ≠ 3) ∧
    (∃ u : State, u.pwr.lineOn = true ∧ seamTakes u = true) ∧
    (∃ u : State, u.pwr.lineOn = true ∧ seamTakes u = false) ∧
    (∃ u : State, True) ∧
    (∃ (meas : List (Option Int)) (b : Nat) (v x : Int), ∃ u : State, plcOn u = true ∧ u.fab.seamUp = true ∧ b < 64 ∧
      u.plc.bins.getD b none = some v ∧ meas.getD b none = some x) ∧
    (∃ (e : SchedEntry) (id : Nat) (f : TxFrame), ∃ u : State, nextDue u = some e ∧ e.action = .plcTx id ∧
      u.plc.q8.find? (fun f => f.id == id) = some f ∧ mayTransmit u = true ∧ plcOn u = true ∧ u.sched.hemKey = none ∧
      workTakes u .plcModem 8 = true) ∧
    (∃ (w : PlcTx) (rest : List PlcTx), ∃ u : State, u.plc.waiting = w :: rest ∧ u.plc.tx = none ∧ u.plc.retrainEnd = none ∧
      mayTransmit u = true ∧ plcOn u = true ∧ u.fab.seamUp = true ∧ workRuns u .plcModem = true ∧ quietNow u = true ∧
      u.key ≤ w.key + u.cfg.act.plc.startLimitMc * mc) ∧
    (∃ (busy : Bool) (w : PlcTx) (rest : List PlcTx), ∃ u : State, u.plc.waiting = w :: rest ∧ u.plc.tx = none ∧
      u.plc.retrainEnd = none ∧ mayTransmit u = true ∧ plcOn u = true ∧ u.fab.seamUp = true ∧ workRuns u .plcModem = true) ∧
    (∃ (w : PlcTx), ∃ u : State, u.plc.waiting.find? (fun w => w.key + u.cfg.act.plc.startLimitMc * mc < u.key) = some w) ∧
    (∃ (f : TxFrame) (x : Nat), ∃ u : State, u.plc.tx = some (f, x) ∧ x ≤ u.rc ∧ f.use ≠ 3) ∧
    (∃ (n : Nat) (z : ZcRec), ∃ u : State, tfind u.plc.nodes n = some z ∧ z.heardRc + ofS (86400 * u.cfg.act.plc.nodeAgeDays) ≤ u.rc) :=
  ⟨⟨{ cls := 7, sub := 2, action := .plcMode 1 }, 1, (running.onSched fun c => { c with entries := [{ cls := 7, sub := 2, action := .plcMode 1 }] }), by decide⟩,
   ⟨0, (running.onPlc fun p => { p with retrainEnd := some 0 }), by decide⟩,
   ⟨{}, 0, (running.onPlc fun p => { p with tx := some ({}, 0) }), by decide⟩,
   ⟨(running.onFab fun f => { f with seamUp := true }), by decide⟩,
   ⟨running, by decide⟩,
   ⟨running, by decide⟩,
   ⟨[some 16], 0, 0, 16, ((((running.onPlc fun p => { p with mode := 1, bins := [some 0] }).onPwr fun p => { p with state := .run }).onFab fun f => { f with seamUp := true }).onCfg fun c => { c with startCfg := { c.startCfg with plcPowered := true } }), by decide⟩,
   ⟨{ cls := 7, sub := 2, action := .plcTx 1 }, 1, { id := 1 }, (((((running.onPlc fun p => { p with mode := 1, q8 := [{ id := 1 }] }).onPwr fun p => { p with state := .run }).onCfg fun c => { c with startCfg := { c.startCfg with plcPowered := true, role := some .field } }).onPair fun p => { p with state := .solo }).onSched fun c => { c with entries := [{ cls := 7, sub := 2, action := .plcTx 1 }] }), by decide⟩,
   ⟨⟨{}, 0⟩, [], (((((running.onPlc fun p => { p with mode := 1, waiting := [⟨{}, 0⟩], noisy := 0 }).onPwr fun p => { p with state := .run }).onCfg fun c => { c with startCfg := { c.startCfg with plcPowered := true, role := some .field } }).onPair fun p => { p with state := .solo }).onFab fun f => { f with seamUp := true }), by decide⟩,
   ⟨true, ⟨{}, 0⟩, [], (((((running.onPlc fun p => { p with mode := 1, waiting := [⟨{}, 0⟩] }).onPwr fun p => { p with state := .run }).onCfg fun c => { c with startCfg := { c.startCfg with plcPowered := true, role := some .field } }).onPair fun p => { p with state := .solo }).onFab fun f => { f with seamUp := true }), by decide⟩,
   ⟨⟨{}, 0⟩, ((running.onPlc fun p => { p with waiting := [⟨{}, 0⟩] }).onMains fun m => { m with cycle := 1000 }), by decide⟩,
   ⟨{}, 0, (running.onPlc fun p => { p with tx := some ({}, 0) }), by decide⟩,
   ⟨0, {}, (((running.onPlc fun p => { p with nodes := [(0, {})] }).onTime fun x => { x with rc := ofS (86400 * 1000) })), by decide⟩⟩

/-- The hypotheses of PlcFramesAndCommands can be met. -/
theorem witness_plc_frames_and_commands :
    (∃ (f : PlcFrame), ∃ u : State, plcOn u = true ∧ u.fab.seamUp = true ∧ u.plc.tx = none ∧ u.plc.q1 = [] ∧
      workTakes u .plcModem 1 = true ∧ f.crcOk = false) ∧
    (∃ (f : PlcFrame), ∃ u : State, plcOn u = true ∧ u.fab.seamUp = true ∧ u.plc.tx = none ∧ u.plc.q1 = [] ∧
      workTakes u .plcModem 1 = true ∧ f.crcOk = true ∧ u.pair.state = .standby) ∧
    (∃ (f : PlcFrame), ∃ u : State, plcOn u = true ∧ u.fab.seamUp = true ∧ u.plc.tx = none ∧ u.plc.q1 = [] ∧
      workTakes u .plcModem 1 = true ∧ f.crcOk = true ∧ u.pair.state = .active) ∧
    (∃ (f : PlcFrame), ∃ u : State, plcOn u = true ∧ u.fab.seamUp = true ∧ u.plc.tx = none ∧ Config.ringDepth 1 ≤ u.plc.q1.length) ∧
    (∃ (c : PlcCfg), ∃ (h : Fin 4) (tk : Taken) (u : State), Dispatched h 0x0601 tk (enqueue h tk u) ∧ plcCfgOk c = true ∧
      transitOf u .plc = none ∧ modeNext u = none ∧ c.mode ≠ u.plc.mode ∧ quotaUsed u 7 0 < 2560 ∧ c =
      { (shadowCfg u).plc with mode := fld tk.payload 0 1, txAtt := fld tk.payload 1 1, noiseMargin := fld tk.payload 2 1,
                               startLimitMc := fld tk.payload 3 1, blockMask := BitVec.ofNat 64 (fld tk.payload 4 8) }) ∧
    (∃ (c : PlcCfg), ∃ (h : Fin 4) (tk : Taken) (u : State), Dispatched h 0x0601 tk (enqueue h tk u) ∧ plcCfgOk c = true ∧
      transitOf u .plc = none ∧ c.mode = modeToBe u ∧ c =
      { (shadowCfg u).plc with mode := fld tk.payload 0 1, txAtt := fld tk.payload 1 1, noiseMargin := fld tk.payload 2 1,
                               startLimitMc := fld tk.payload 3 1, blockMask := BitVec.ofNat 64 (fld tk.payload 4 8) }) ∧
    (∃ (h : Fin 4) (tk : Taken) (u : State), Dispatched h 0x0603 tk (enqueue h tk u) ∧ 16 ≤ u.plc.measured ∧ u.plc.bins.length = 64) ∧
    (∃ (z : ZcRec), ∃ (h : Fin 4) (tk : Taken) (u : State), Dispatched h 0x0604 tk (enqueue h tk u) ∧ fld tk.payload 0 1 = 0 ∧
      fld tk.payload 4 2 ≤ 2047 ∧ tget u.plc.nodes (fld tk.payload 4 2) {} = z) :=
  ⟨⟨{ crcOk := false }, ((((running.onPlc fun p => { p with mode := 1 }).onPwr fun p => { p with state := .run }).onFab fun f => { f with seamUp := true }).onCfg fun c => { c with startCfg := { c.startCfg with plcPowered := true } }), by decide⟩,
   ⟨{}, (((((running.onPlc fun p => { p with mode := 1 }).onPwr fun p => { p with state := .run }).onFab fun f => { f with seamUp := true }).onCfg fun c => { c with startCfg := { c.startCfg with plcPowered := true } }).onPair fun p => { p with state := .standby }), by decide⟩,
   ⟨{}, (((((running.onPlc fun p => { p with mode := 1 }).onPwr fun p => { p with state := .run }).onFab fun f => { f with seamUp := true }).onCfg fun c => { c with startCfg := { c.startCfg with plcPowered := true } }).onPair fun p => { p with state := .active }), by decide⟩,
   ⟨{}, (((((running.onPlc fun p => { p with mode := 1 }).onPwr fun p => { p with state := .run }).onFab fun f => { f with seamUp := true }).onCfg fun c => { c with startCfg := { c.startCfg with plcPowered := true } }).onPlc fun p => { p with q1 := List.replicate (Config.ringDepth 1) {} }), by exact ⟨by decide, by decide, by decide, by simp⟩⟩,
   ⟨{ (shadowCfg running).plc with mode := 1, txAtt := 48, noiseMargin := 6, startLimitMc := 25, blockMask := 0 }, 0, cmd 0x0601 (leBytes 4 0x19063001 ++ leBytes 8 0), running, ⟨rfl, rfl⟩, by decide⟩,
   ⟨{ (shadowCfg running).plc with mode := 0, txAtt := 48, noiseMargin := 6, startLimitMc := 25, blockMask := 0 }, 0, cmd 0x0601 (leBytes 4 0x19063000 ++ leBytes 8 0), running, ⟨rfl, rfl⟩, by decide⟩,
   ⟨0, cmd 0x0603 [], (running.onPlc fun p => { p with measured := 16 }), ⟨rfl, rfl⟩, by decide⟩,
   ⟨{}, 0, cmd 0x0604 (leBytes 12 0), running, ⟨rfl, rfl⟩, by decide⟩⟩

/-- The hypotheses of IngestPipeline can be met. -/
theorem witness_ingest_pipeline :
    (∃ (e : Q2Entry) (rest : List Q2Entry), ∃ u : State, ingestRuns u = true ∧ u.sess.unpackWait = e :: rest ∧ e.security = false ∧
      e.fwUnpackable = true ∧ u.sess.q2Held = [] ∧ u.sess.q2.length < Config.ringDepth 2) ∧
    (∃ (e : Q2Entry) (rest : List Q2Entry), ∃ u : State, ingestRuns u = true ∧ u.sess.unpackWait = e :: rest ∧
      (e.security = true ∨ e.fwUnpackable = false)) ∧
    (∃ (e : Q2Entry) (rest : List Q2Entry), ∃ u : State, ingestRuns u = true ∧ u.sess.apdus < apduLimit u ∧ u.sess.q3Held = [] ∧
      u.sess.behind = [] ∧ u.sess.q2 = e :: rest ∧ u.sess.q2Held = [] ∧ (e.notUnpacked = true ∨ e.security = true)) ∧
    (∃ (e : Q2Entry) (rest : List Q2Entry), ∃ u : State, ingestRuns u = true ∧ u.sess.apdus < apduLimit u ∧ u.sess.q3Held = [] ∧
      u.sess.behind = [] ∧ u.sess.q2 = e :: rest ∧ u.sess.q2Held = [] ∧ e.notUnpacked = false ∧ e.security = false ∧ meterOf u e = none) ∧
    (∃ (e : Q2Entry) (rest : List Q2Entry) (m : Nat) (c : MeterCtx), ∃ u : State, ingestRuns u = true ∧ u.sess.apdus < apduLimit u ∧
      u.sess.q3Held = [] ∧ u.sess.behind = [] ∧ u.sess.q2 = e :: rest ∧ u.sess.q2Held = [] ∧ e.notUnpacked = false ∧
      e.security = false ∧ waitsBehind u e = false ∧ meterOf u e = some m ∧ ctxOf u m = some c ∧ c.state = .retired) ∧
    (∃ (w : SigWait) (rest : List SigWait), ∃ u : State, ingestRuns u = true ∧ u.sess.sigs < 20000 ∧ u.sess.q3Held = [] ∧
      u.sess.sigWait = w :: rest) ∧
    (∃ (w : SigWait) (rest : List SigWait) (c : MeterCtx), ∃ u : State, ingestRuns u = true ∧ u.sess.sigs < 20000 ∧ u.sess.q3Held = [] ∧
      u.sess.sigWait = w :: rest ∧ ctxOf u w.meter = some c ∧ c.signPub ≠ 0 ∧ w.entry.apdu.signedCiphered = false ∧
      plainTag w.entry.apdu.body = false) ∧
    (∃ (w : SigWait) (rest : List SigWait) (c : MeterCtx), ∃ u : State, ingestRuns u = true ∧ u.sess.sigs < 20000 ∧ u.sess.q3Held = [] ∧
      u.sess.sigWait = w :: rest ∧ ctxOf u w.meter = some c ∧ c.signPub ≠ 0 ∧ w.entry.apdu.signedCiphered = true) ∧
    (∃ (w : SigWait) (rest : List SigWait) (c : MeterCtx), ∃ u : State, ingestRuns u = true ∧ u.sess.sigs < 20000 ∧ u.sess.q3Held = [] ∧
      u.sess.sigWait = w :: rest ∧ ctxOf u w.meter = some c ∧ c.signPub ≠ 0 ∧ w.entry.apdu.signedCiphered = false ∧
      plainTag w.entry.apdu.body = true) ∧
    (∃ (q : Parsed) (rest : List Parsed), ∃ u : State, ingestRuns u = true ∧ workTakes u .normalise 3 = true ∧ u.sess.q4Held = [] ∧
      u.sess.q3 = q :: rest ∧ u.sess.q3Held = [] ∧ q.repeated = true ∧ (ctxOf u q.meter).isSome) ∧
    (∃ (q : Parsed) (rest : List Parsed) (c : MeterCtx) (inv : Nat) (rows : List (List Axdr)), ∃ u : State, ingestRuns u = true ∧
      workTakes u .normalise 3 = true ∧ u.sess.q4Held = [] ∧ u.sess.q3 = q :: rest ∧ u.sess.q3Held = [] ∧ q.repeated = false ∧
      ctxOf u q.meter = some c ∧ q.plain = .getResponse inv rows ∧ holdsForYoke u = false ∧ u.sess.held = []) ∧
    (∃ (x : HeldApdu), ∃ u : State, u.sess.held = [x] ∧ ingestRuns u = true ∧ x.key + mc ≤ u.key ∧ x.recs = [] ∧ holdsForYoke u = true) ∧
    (∃ (m : Nat) (c : MeterCtx), ∃ u : State, ctxOf u m = some c ∧ ingestRuns u = true ∧ c.db.active = true ∧
      c.db.lastKey + 3000 * mc ≤ u.key) ∧
    (∃ (m : Nat) (c : MeterCtx), ∃ u : State, ctxOf u m = some c ∧ u.pwr.stage = .running ∧ c.prevHeld = true ∧
      c.keyChangeKey + keySpan ≤ u.key) ∧
    (∃ (m : Nat), ∃ u : State, itemsRun u = true ∧ (tfind u.sess.dirty m).isSome) ∧
    (∃ u : State, stageAlive u = true ∧ u.sess.creditRc + ofS 1 ≤ u.rc) ∧
    (∃ u : State, u.rc < u.sess.creditRc + ofS 1) :=
  ⟨⟨{ notUnpacked := true, fwUnpackable := true }, [], ((running.onSess fun b => { b with loading := false, unpackWait := [{ notUnpacked := true, fwUnpackable := true }] }).onPwr fun p => { p with state := .run }), by exact ⟨by decide, by decide, by decide, by decide, by decide, Nat.succ_pos _⟩⟩,
   ⟨{ security := true }, [], ((running.onSess fun b => { b with loading := false, unpackWait := [{ security := true }] }).onPwr fun p => { p with state := .run }), by decide⟩,
   ⟨{ notUnpacked := true }, [], ((running.onSess fun b => { b with loading := false, q2 := [{ notUnpacked := true }] }).onPwr fun p => { p with state := .run }), by decide⟩,
   ⟨{ nbr := 0xFFFF, apdu := { tag := 0 } }, [], ((running.onSess fun b => { b with loading := false, q2 := [{ nbr := 0xFFFF, apdu := { tag := 0 } }] }).onPwr fun p => { p with state := .run }), by decide⟩,
   ⟨{ nbr := 0xFFFF, apdu := { tag := 0xDB, title := 9 } }, [], 5, { title := 9, state := .retired }, ((running.onSess fun b => { b with loading := false, q2 := [{ nbr := 0xFFFF, apdu := { tag := 0xDB, title := 9 } }], ctxs := [(5, { title := 9, state := .retired })] }).onPwr fun p => { p with state := .run }), by decide⟩,
   ⟨{ meter := 1, entry := {} }, [], ((running.onSess fun b => { b with loading := false, sigWait := [{ meter := 1, entry := {} }] }).onPwr fun p => { p with state := .run }), by decide⟩,
   ⟨{ meter := 1, entry := { apdu := { body := [0xDB], signedCiphered := false } } }, [], { signPub := 3 }, ((running.onSess fun b => { b with loading := false, sigWait := [{ meter := 1, entry := { apdu := { body := [0xDB], signedCiphered := false } } }], ctxs := [(1, { signPub := 3 })] }).onPwr fun p => { p with state := .run }), by decide⟩,
   ⟨{ meter := 1, entry := { apdu := { signedCiphered := true } } }, [], { signPub := 3 }, ((running.onSess fun b => { b with loading := false, sigWait := [{ meter := 1, entry := { apdu := { signedCiphered := true } } }], ctxs := [(1, { signPub := 3 })] }).onPwr fun p => { p with state := .run }), by decide⟩,
   ⟨{ meter := 1, entry := { apdu := { body := [0x0F], signedCiphered := false } } }, [], { signPub := 3 }, ((running.onSess fun b => { b with loading := false, sigWait := [{ meter := 1, entry := { apdu := { body := [0x0F], signedCiphered := false } } }], ctxs := [(1, { signPub := 3 })] }).onPwr fun p => { p with state := .run }), by decide⟩,
   ⟨{ meter := 1, repeated := true, entry := {}, plain := .bad }, [], ((running.onSess fun b => { b with loading := false, q3 := [{ meter := 1, repeated := true, entry := {}, plain := .bad }], ctxs := [(1, {})] }).onPwr fun p => { p with state := .run }), by decide⟩,
   ⟨{ meter := 1, entry := {}, plain := .getResponse 0 [] }, [], {}, 0, [], ((running.onSess fun b => { b with loading := false, q3 := [{ meter := 1, entry := {}, plain := .getResponse 0 [] }], ctxs := [(1, {})] }).onPwr fun p => { p with state := .run }), by decide⟩,
   ⟨{ jseq := 0, key := 0, meter := 1, recs := [] }, ((((running.onSess fun b => { b with loading := false, held := [{ jseq := 0, key := 0, meter := 1, recs := [] }] }).onPwr fun p => { p with state := .run }).onMains fun m => { m with cycle := 2 }).onPair fun p => { p with state := .active, partner := some .inSync, mirroring := true }), by decide⟩,
   ⟨1, { db := { active := true } }, (((running.onSess fun b => { b with loading := false, ctxs := [(1, { db := { active := true } })] }).onPwr fun p => { p with state := .run }).onMains fun m => { m with cycle := 3000 }), by decide⟩,
   ⟨1, { prevHeld := true }, ((running.onSess fun b => { b with loading := false, ctxs := [(1, { prevHeld := true })] }).onMains fun m => { m with cycle := 180000 }), by decide⟩,
   ⟨1, ((running.onSess fun b => { b with dirty := [(1, 0)], ctxs := [(1, {})] }).onPwr fun p => { p with state := .run }), by decide⟩,
   ⟨(running.onTime fun x => { x with rc := ofS 2 }), by decide⟩,
   ⟨(running.onSess fun b => { b with creditRc := ofS 100 }), by decide⟩⟩

/-- The hypotheses of MeterCommands can be met. -/
theorem witness_meter_commands :
    (∃ (h : Fin 4) (tk : Taken) (u : State), Dispatched h 0x0701 tk (enqueue h tk u) ∧ fld tk.payload 0 4 < u.sess.usable ∧
      ctxToBe u (fld tk.payload 0 4) = none ∧ titleHeld u (fld tk.payload 4 8) = false ∧ fld tk.payload 20 1 ≤ 2 ∧
      fld tk.payload 21 1 ≤ 15 ∧ fld tk.payload 22 1 ≤ 63 ∧ fld tk.payload 23 1 ≤ 31 ∧ fld tk.payload 24 1 ≤ 2 ∧
      fld tk.payload 25 1 &&& 0xC1 = 0) ∧
    (∃ (h : Fin 4) (tk : Taken) (u : State), Dispatched h 0x0701 tk (enqueue h tk u) ∧ u.sess.usable ≤ fld tk.payload 0 4) ∧
    (∃ (c : MeterCtx), ∃ (h : Fin 4) (tk : Taken) (u : State), Dispatched h 0x0702 tk (enqueue h tk u) ∧
      ctxToBe u (fld tk.payload 0 4) = some c ∧ fld tk.payload 4 1 = 0 ∧ (ctxOf u (fld tk.payload 0 4)).isSome) ∧
    (∃ (c : MeterCtx), ∃ (h : Fin 4) (tk : Taken) (u : State), Dispatched h 0x0702 tk (enqueue h tk u) ∧
      ctxToBe u (fld tk.payload 0 4) = some c ∧ fld tk.payload 4 1 = 1 ∧ c.state = .retired) ∧
    (∃ (n m : Nat) (c : MeterCtx), ∃ u : State, u.fab.shadow[n]? = some (.context m (.enrol c)) ∧
      wordDomainOn (u.onFab fun f => { f with shadow := f.shadow.eraseIdx n }) (.context m (.enrol c)) = true ∧ c.direct = false) ∧
    (∃ (n m : Nat) (c : MeterCtx), ∃ u : State, u.fab.shadow[n]? = some (.context m .retire) ∧
      wordDomainOn (u.onFab fun f => { f with shadow := f.shadow.eraseIdx n }) (.context m .retire) = true ∧ ctxOf u m = some c) ∧
    (∃ (n m : Nat), ∃ u : State, u.fab.shadow[n]? = some (.context m .free) ∧
      wordDomainOn (u.onFab fun f => { f with shadow := f.shadow.eraseIdx n }) (.context m .free) = true ∧ (ctxOf u m).isSome) ∧
    (∃ (c : MeterCtx), ∃ (h : Fin 4) (tk : Taken) (u : State), Dispatched h 0x0703 tk (enqueue h tk u) ∧
      ctxOf u (fld tk.payload 0 4) = some c) ∧
    (∃ (h : Fin 4) (tk : Taken) (u : State), Dispatched h 0x0704 tk (enqueue h tk u) ∧ fld tk.payload 0 1 ≤ 63 ∧
      parseProfileOk (tk.payload.drop 16) = true) ∧
    (∃ (m : Nat) (c : MeterCtx), ∃ (h : Fin 4) (tk : Taken) (u : State), Dispatched h 0x0706 tk (enqueue h tk u) ∧
      u.sess.ctxs.find? (fun p => p.2.title == fld tk.payload 0 8) = some (m, c)) :=
  ⟨⟨0, cmd 0x0701 (leBytes 32 1), ((running.onSess fun b => { b with usable := 1024 }).onCfg fun c => { c with startCfg := { c.startCfg with role := some .aggregation } }), ⟨rfl, rfl⟩, by decide⟩,
   ⟨0, cmd 0x0701 (leBytes 32 1), running, ⟨rfl, rfl⟩, by decide⟩,
   ⟨{}, 0, cmd 0x0702 (leBytes 8 1), (running.onSess fun b => { b with ctxs := [(1, {})] }), ⟨rfl, rfl⟩, by decide⟩,
   ⟨{ state := .retired }, 0, cmd 0x0702 (leBytes 8 0x100000001), (running.onSess fun b => { b with ctxs := [(1, { state := .retired })] }), ⟨rfl, rfl⟩, by decide⟩,
   ⟨0, 1, {}, ((running.onFab fun f => { f with shadow := [.context 1 (.enrol {})] }).onPwr fun p => { p with state := .run }), by decide⟩,
   ⟨0, 1, {}, (((running.onFab fun f => { f with shadow := [.context 1 .retire] }).onPwr fun p => { p with state := .run }).onSess fun b => { b with ctxs := [(1, {})] }), by decide⟩,
   ⟨0, 1, (((running.onFab fun f => { f with shadow := [.context 1 .free] }).onPwr fun p => { p with state := .run }).onSess fun b => { b with ctxs := [(1, {})] }), by decide⟩,
   ⟨{}, 0, cmd 0x0703 (leBytes 4 1), (running.onSess fun b => { b with ctxs := [(1, {})] }), ⟨rfl, rfl⟩, by decide⟩,
   ⟨0, cmd 0x0704 (leBytes 16 3 ++ leBytes 4 0 ++ leBytes 4 900 ++ leBytes 4 0 ++ leBytes 4 1 ++ leBytes 256 0), running, ⟨rfl, rfl⟩, by decide⟩,
   ⟨1, { title := 9 }, 0, cmd 0x0706 (leBytes 8 9), (running.onSess fun b => { b with ctxs := [(1, { title := 9 })] }), ⟨rfl, rfl⟩, by decide⟩⟩

/-- The hypotheses of Validation can be met. -/
theorem witness_validation :
    (∃ (r : Record) (rest : List Record), ∃ u : State, itemsRun u = true ∧ workTakes u .validate 4 = true ∧ u.vee.q5Held = [] ∧
      u.vee.q6Held = [] ∧ u.sess.q4 = r :: rest ∧ u.sess.q4Held = [] ∧ fromChild r = true) ∧
    (∃ (r : Record) (rest : List Record), ∃ u : State, itemsRun u = true ∧ workTakes u .validate 4 = true ∧ u.vee.q5Held = [] ∧
      u.vee.q6Held = [] ∧ u.sess.q4 = r :: rest ∧ u.sess.q4Held = [] ∧ fromChild r = false ∧
      (heldVersions u r.meter r.channel r.startTai).isSome ∧
      (latestRec ((recordsOf u r.meter r.channel r.startTai).filter fun q => originOf q == 0)).map (·.value) = some r.value) ∧
    (∃ (r : Record) (rest : List Record), ∃ u : State, itemsRun u = true ∧ workTakes u .validate 4 = true ∧ u.vee.q5Held = [] ∧
      u.vee.q6Held = [] ∧ u.sess.q4 = r :: rest ∧ u.sess.q4Held = [] ∧ fromChild r = false ∧
      heldVersions u r.meter r.channel r.startTai = none ∧ (profileOf u r.meter).rules = []) ∧
    (∃ (h : Fin 4) (tk : Taken) (u : State), Dispatched h 0x0801 tk (enqueue h tk u) ∧ fld tk.payload 0 1 ≤ 31 ∧
      veeProfileOk (tk.payload.drop 16) = true) ∧
    (∃ (h : Fin 4) (tk : Taken) (u : State), Dispatched h 0x0802 tk (enqueue h tk u) ∧ fld tk.payload 0 1 ≤ 63 ∧
      ((List.range 672).map fun k => fld tk.payload (8 + 4 * k) 4).all (· == 0) = false) ∧
    (∃ (h : Fin 4) (tk : Taken) (u : State), Dispatched h 0x0803 tk (enqueue h tk u) ∧ (ctxOf u (fld tk.payload 0 4)).isSome ∧
      (fld tk.payload 20 1 ≤ 63 ∨ fld tk.payload 20 1 = 0xFF) ∧ fld tk.payload 21 1 ≤ 1 ∧
      (fld tk.payload 8 8 = 0 ∨ fld tk.payload 16 4 ≠ 0)) ∧
    (∃ (e : VerEntry) (v : Nat), ∃ (h : Fin 4) (tk : Taken) (u : State), Dispatched h 0x0804 tk (enqueue h tk u) ∧
      fld tk.payload 6 1 = 0 ∧ fld tk.payload 0 4 ≠ ownMeter ∧ (ctxOf u (fld tk.payload 0 4)).isSome ∧
      heldVersions u (fld tk.payload 0 4) (fld tk.payload 4 2) (fld tk.payload 8 8) = some e ∧ e.high = some v ∧ v < 31) ∧
    (∃ (sl : ChSlot), ∃ (h : Fin 4) (tk : Taken) (u : State), Dispatched h 0x0805 tk (enqueue h tk u) ∧
      slotOf u (fld tk.payload 0 4) (fld tk.payload 4 2) = some sl ∧ fld tk.payload 16 8 ≤ u.tai ∧
      fld tk.payload 8 8 = fld tk.payload 16 8 ∧ fld tk.payload 8 8 % 1000000000 = 0 ∧
      utcOf u (fld tk.payload 8 8 / 1000000000) % max 1 (profileOf u (fld tk.payload 0 4)).periodS = 0) ∧
    (∃ (h : Fin 4) (tk : Taken) (u : State), Dispatched h 0x0806 tk (enqueue h tk u) ∧ u.vee.counts.length = 20) :=
  ⟨⟨{ meter := 0xFFFE0000 }, [], ((running.onSess fun b => { b with q4 := [{ meter := 0xFFFE0000 }] }).onPwr fun p => { p with state := .run }), by decide⟩,
   ⟨{ meter := 1 }, [], ((((running.onSess fun b => { b with q4 := [{ meter := 1 }] }).onPwr fun p => { p with state := .run }).onVee fun v => { v with index := [{ meter := 1, high := some 0 }] }).onArch fun a => { a with openRecs := [{ record := { meter := 1 } }] }), by decide⟩,
   ⟨{ meter := 1 }, [], ((running.onSess fun b => { b with q4 := [{ meter := 1 }] }).onPwr fun p => { p with state := .run }), by decide⟩,
   ⟨0, cmd 0x0801 (leBytes 16 3 ++ leBytes 4 0 ++ leBytes 4 0xFF0000 ++ leBytes 4 900), running, ⟨rfl, rfl⟩, by decide⟩,
   ⟨0, cmd 0x0802 (leBytes 8 3 ++ leBytes 4 1), running, ⟨rfl, rfl⟩, by exact ⟨by decide, by set_option maxRecDepth 30000 in decide⟩⟩,
   ⟨0, cmd 0x0803 (leBytes 24 1), (running.onSess fun b => { b with ctxs := [(1, {})] }), ⟨rfl, rfl⟩, by decide⟩,
   ⟨{ meter := 1, high := some 0 }, 0, 0, cmd 0x0804 (leBytes 32 1), ((running.onSess fun b => { b with ctxs := [(1, {})] }).onVee fun v => { v with index := [{ meter := 1, high := some 0 }] }), ⟨rfl, rfl⟩, by decide⟩,
   ⟨{}, 0, cmd 0x0805 (leBytes 24 1), (running.onVee fun v => { v with meters := [(1, [{}])] }), ⟨rfl, rfl⟩, by decide⟩,
   ⟨0, cmd 0x0806 [], running, ⟨rfl, rfl⟩, by decide⟩⟩

/-- The hypotheses of TopologyAndBalance can be met. -/
theorem witness_topology_and_balance :
    (∃ (x : Record), ∃ u : State, archWorks u = true ∧ workRuns u .balance = true ∧ u.arch.logBase ≤ u.bal.logPos ∧
      u.arch.commitLog[u.bal.logPos - u.arch.logBase]? = some x ∧ balDisabled u = false) ∧
    (∃ (d : Nat), ∃ u : State, balDisabled u = false ∧ archWorks u = true ∧ workRuns u .balance = true ∧ u.bal.recompile = some d) ∧
    (∃ (d : Nat), ∃ u : State, balDisabled u = false ∧ archWorks u = true ∧ workRuns u .balance = true ∧ u.bal.recompile = none ∧
      dueDays u = [d] ∧ u.bal.catching = true) ∧
    (∃ (b : TopoMeter), ∃ (h : Fin 4) (tk : Taken) (u : State), Dispatched h 0x0901 tk (enqueue h tk u) ∧
      (ctxOf u (fld tk.payload 0 4)).isSome ∧ topoOf u (fld tk.payload 0 4) = b) ∧
    (∃ (h : Fin 4) (tk : Taken) (u : State), Dispatched h 0x0902 tk (enqueue h tk u) ∧ (ctxOf u (fld tk.payload 0 4)).isSome ∧
      fld tk.payload 4 1 = 1 ∧ fld tk.payload 5 1 ≤ 7 ∧ fld tk.payload 6 1 ≤ 2 ∧
      isCandidate u (topoOf u (fld tk.payload 0 4)).child (fld tk.payload 5 1) (fld tk.payload 6 1) = true) ∧
    (∃ (h : Fin 4) (tk : Taken) (u : State), Dispatched h 0x0902 tk (enqueue h tk u) ∧ (ctxOf u (fld tk.payload 0 4)).isSome ∧
      fld tk.payload 4 1 = 0) ∧
    (∃ (h : Fin 4) (tk : Taken) (u : State), Dispatched h 0x0903 tk (enqueue h tk u) ∧ fld tk.payload 0 2 = 0 ∧ fld tk.payload 2 1 ≤ 7 ∧
      fld tk.payload 3 1 ≤ 2 ∧ fld tk.payload 4 1 ≤ 1 ∧ 0 < fld tk.payload 12 4 ∧ fld tk.payload 12 4 ≤ 10000000 ∧
      fld tk.payload 8 4 ≤ fld tk.payload 12 4) ∧
    (∃ (x : BalSummary), ∃ (h : Fin 4) (tk : Taken) (u : State), Dispatched h 0x0904 tk (enqueue h tk u) ∧
      isMidnight u (fld tk.payload 0 8) = true ∧ dayStale u (utcDay u (fld tk.payload 0 8)) = false ∧
      (balChildren u).contains (fld tk.payload 8 2) = true ∧ fld tk.payload 10 1 ≤ 7 ∧ fld tk.payload 11 1 ≤ 3 ∧ u.bal.summaries.find?
      (fun x => x.dayTai == fld tk.payload 0 8 && x.child == fld tk.payload 8 2 && x.feeder == fld tk.payload 10 1 && x.phase ==
      fld tk.payload 11 1) = some x) ∧
    (∃ (h : Fin 4) (tk : Taken) (u : State), Dispatched h 0x0905 tk (enqueue h tk u) ∧ (ctxOf u (fld tk.payload 0 4)).isSome ∧
      (topoOf u (fld tk.payload 0 4)).score.comps.length = 4) ∧
    (∃ (h : Fin 4) (tk : Taken) (u : State), Dispatched h 0x0907 tk (enqueue h tk u) ∧ u.bal.recompile = none ∧
      isMidnight u (fld tk.payload 0 8) = true ∧ dayStale u (utcDay u (fld tk.payload 0 8)) = false) :=
  ⟨⟨{}, ((((running.onArch fun a => { a with state := 2, commitLog := [{}] }).onPwr fun p => { p with state := .run }).onCfg fun c => { c with startCfg := { c.startCfg with role := some .field, parent := false } }).onPair fun p => { p with state := .solo }), by decide⟩,
   ⟨5, (((((running.onArch fun a => { a with state := 2 }).onPwr fun p => { p with state := .run }).onCfg fun c => { c with startCfg := { c.startCfg with role := some .field, parent := false } }).onPair fun p => { p with state := .solo }).onBal fun b => { b with recompile := some 5 }), by decide⟩,
   ⟨1, ((((((running.onArch fun a => { a with state := 2 }).onPwr fun p => { p with state := .run }).onCfg fun c => { c with startCfg := { c.startCfg with role := some .field, parent := false } }).onPair fun p => { p with state := .solo }).onBal fun b => { b with catching := true }).onTime fun x => { x with offset := ofS 200000 }), by decide⟩,
   ⟨{}, 0, cmd 0x0901 (leBytes 4 1), (running.onSess fun b => { b with ctxs := [(1, {})] }), ⟨rfl, rfl⟩, by decide⟩,
   ⟨0, cmd 0x0902 (leBytes 8 0x100000001), ((running.onSess fun b => { b with ctxs := [(1, {})] }).onMet fun m => { m with cal := { recs := List.replicate 36 { sensor := 1 } } }), ⟨rfl, rfl⟩, by decide⟩,
   ⟨0, cmd 0x0902 (leBytes 8 1), (running.onSess fun b => { b with ctxs := [(1, {})] }), ⟨rfl, rfl⟩, by decide⟩,
   ⟨0, cmd 0x0903 (leBytes 12 0 ++ leBytes 8 1000), running, ⟨rfl, rfl⟩, by decide⟩,
   ⟨{ dayTai := 37000000000, feeder := 0, phase := 0 }, 0, cmd 0x0904 (leBytes 16 37000000000), (running.onBal fun b => { b with lastDay := some 0, summaries := [{ dayTai := 37000000000, feeder := 0, phase := 0 }] }), ⟨rfl, rfl⟩, by decide⟩,
   ⟨0, cmd 0x0905 (leBytes 4 1), (running.onSess fun b => { b with ctxs := [(1, {})] }), ⟨rfl, rfl⟩, by decide⟩,
   ⟨0, cmd 0x0907 (leBytes 8 37000000000), (running.onBal fun b => { b with lastDay := some 0 }), ⟨rfl, rfl⟩, by decide⟩⟩

/-- The hypotheses of ArchivePages can be met. -/
theorem witness_archive_pages :
    (∃ (r : Record) (rest : List Record), ∃ u : State, se13Works u = true ∧ u.arch.segWait = [] ∧ u.arch.sumWait = [] ∧
      u.vee.q5 = r :: rest ∧ u.vee.q5Held = [] ∧ workTakes u .pageMap 5 = true ∧ u.arch.openRecs.length < 255) ∧
    (∃ u : State, se13Works u = true ∧ u.arch.segWait = [] ∧ u.arch.sumWait = [] ∧ u.vee.q5 ≠ [] ∧ workTakes u .pageMap 5 = true ∧
      u.arch.openRecs.length = 255) ∧
    (∃ (w : State), ∃ u : State, se13Works u = true ∧ u.arch.openRecs ≠ [] ∧ u.arch.openKey + u.cfg.act.arch.flushMc * mc ≤ u.key ∧
      writeOpen 1 u = some w) ∧
    (∃ (die q : Nat) (rest : List Nat), ∃ u : State, nandOn u = true ∧ tget u.arch.queues die [] = q :: rest) ∧
    (∃ (die q : Nat) (rest : List Nat) (p : PhysPage), ∃ u : State, nandOn u = true ∧ tget u.arch.queues die [] = q :: rest ∧
      u.arch.pages.find? (fun p => p.seq == q) = some p) ∧
    (∃ (die : Nat) (d : DieSt), ∃ u : State, nandOn u = true ∧ dieOf u die = some d) ∧
    (∃ (die : Nat) (d : DieSt), ∃ u : State, archWorks u = true ∧ dieOf u die = some d ∧ dieDue u d = true) ∧
    (∃ (die : Nat) (d : DieSt), ∃ u : State, archWorks u = true ∧ dieOf u die = some d ∧ d.state = 1 ∧
      (∀ p ∈ u.arch.pages, p.die = die → validPage u p = false) ∧ relocating u = false) ∧
    (∃ (g b : Nat) (fails : List Nat), ∃ u : State, se13Works u = true ∧ u.arch.victim = some (g, b) ∧ validIn u g b = [] ∧
      relocating u = false ∧ superseding u g b = []) ∧
    (∃ (g b : Nat), ∃ u : State, se13Works u = true ∧ u.arch.victim = some (g, b) ∧ validIn u g b = [] ∧ relocating u = false ∧
      superseding u g b = []) ∧
    (∃ (fails : List Nat), ∃ u : State, se13Works u = true ∧ u.arch.victim = none ∧ gcLevel u = 0 ∧ wearSpread u = false) ∧
    (∃ (p : PhysPage) (corr : List Nat) (step : Nat) (second : Option Nat), ∃ u : State, se13Works u = true ∧ patrolPage u = some p ∧
      (∀ c ∈ corr, c < 90) ∧ step < 2 ∧ u.arch.nextSeq < p.seq + 1073741824) ∧
    (∃ (p : PhysPage) (corr : List Nat) (step : Nat) (second : Option Nat), ∃ u : State, se13Works u = true ∧ patrolPage u = some p ∧
      (step = 2 ∨ step = 3)) ∧
    (∃ (corr : List Nat) (step : Nat) (second : Option Nat), ∃ u : State, se13Works u = true ∧ patrolPage u = none ∧
      u.arch.patrolRc + ofS (86400 * u.cfg.act.arch.patrolDays) ≤ u.rc) ∧
    (∃ (die : Nat) (c : Int) (d : DieSt), ∃ u : State, nandOn u = true ∧ u.cfg.startCfg.arch.tempFeature = true ∧ u.arch.tempRc = none ∧
      dieOf u die = some d) ∧
    (∃ (l : List (Nat × Int)) (x : Nat), ∃ u : State, u.arch.tempRc = some x ∧ u.rc < x + ofS 60) :=
  ⟨⟨{}, [], (archUp.onVee fun v => { v with q5 := [{}] }), by decide⟩,
   ⟨((archUp.onVee fun v => { v with q5 := [{}] }).onArch fun a => { a with openRecs := List.replicate 255 {} }), by exact ⟨by decide, rfl, rfl, by decide, by decide, by set_option maxRecDepth 20000 in decide⟩⟩,
   ⟨(writeOpen 1 ((archUp.onArch fun a => { a with openRecs := [{}] }).onCfg fun c => { c with act := { c.act with arch := { c.act.arch with flushMc := 0 } } })).getD {}, ((archUp.onArch fun a => { a with openRecs := [{}] }).onCfg fun c => { c with act := { c.act with arch := { c.act.arch with flushMc := 0 } } }), by exact ⟨by decide, by simp, by decide, rfl⟩⟩,
   ⟨0, 5, [], (archUp.onArch fun a => { a with queues := [(0, [5])] }), by decide⟩,
   ⟨0, 5, [], { seq := 5 }, (archUp.onArch fun a => { a with queues := [(0, [5])], pages := [{ seq := 5 }] }), by decide⟩,
   ⟨1, {}, archUp, by decide⟩,
   ⟨1, { timeouts := [0, 0, 0] }, (archUp.onArch fun a => { a with dies := [(0, {}), (1, { timeouts := [0, 0, 0] })] }), by decide⟩,
   ⟨1, { state := 1 }, (archUp.onArch fun a => { a with dies := [(0, {}), (1, { state := 1 })] }), by decide⟩,
   ⟨0, 1, [], (archUp.onArch fun a => { a with victim := some (0, 1) }), by decide⟩,
   ⟨0, 1, (archUp.onArch fun a => { a with victim := some (0, 1) }), by decide⟩,
   ⟨[], (archUp.onArch fun a => { a with blocks := 1024 }), by decide⟩,
   ⟨{ lpn := 7, seq := 5, durable := true }, [3, 0, 0, 1], 0, none, (archUp.onArch fun a => { a with map := [(7, 5)], pages := [{ lpn := 7, seq := 5, durable := true }] }), by decide⟩,
   ⟨{ lpn := 7, seq := 5, durable := true }, [3, 0, 0, 1], 3, none, (archUp.onArch fun a => { a with map := [(7, 5)], pages := [{ lpn := 7, seq := 5, durable := true }] }), by decide⟩,
   ⟨[], 0, none, (archUp.onTime fun x => { x with rc := ofS (86400 * 1000) }), by decide⟩,
   ⟨1, 31, {}, (archUp.onCfg fun c => { c with startCfg := { c.startCfg with arch := { c.startCfg.arch with tempFeature := true } } }), by decide⟩,
   ⟨[], 0, (archUp.onArch fun a => { a with tempRc := some 0 }), by decide⟩⟩

/-- The hypotheses of ArchiveRequestsAndFormat can be met. -/
theorem witness_archive_requests_and_format :
    (∃ (ring : Nat) (data : List (List Byte)) (q c : RingSt) (b : List Byte) (rest : List (List Byte)), ∃ u : State, itemsRun u = true ∧
      u.hosts.rings.find? (fun r => r.number == ring && r.source == 4) = some q ∧ q.items = b :: rest ∧
      u.hosts.rings.find? (fun r => r.owner == q.owner && r.source == 5) = some c ∧
      ringFill c + (u.arch.reqs.filter fun r => r.host == q.owner).length < c.depth ∧
      hostReqStatus u (hostReqOf q.owner c.number b) = .ok ∧ fld b 0 1 = 0) ∧
    (∃ (ring : Nat) (data : List (List Byte)) (q c : RingSt) (b : List Byte) (rest : List (List Byte)) (st : Status), ∃ u : State,
      itemsRun u = true ∧ u.hosts.rings.find? (fun r => r.number == ring && r.source == 4) = some q ∧ q.items = b :: rest ∧
      u.hosts.rings.find? (fun r => r.owner == q.owner && r.source == 5) = some c ∧
      ringFill c + (u.arch.reqs.filter fun r => r.host == q.owner).length < c.depth ∧
      hostReqStatus u (hostReqOf q.owner c.number b) = st ∧ st ≠ .ok) ∧
    (∃ (n : Nat) (r : HostReq) (w : State), ∃ u : State, itemsRun u = true ∧ u.arch.reqs[n]? = some r ∧ reqDone u r = true ∧ r.op ≠ 0 ∧
      pushRing r.ring (leBytes 4 r.tag ++ leBytes 1 (statusCode r.status) ++ [0] ++ leBytes 2 (if r.status ≠ .ok ∨ r.op = 2 then 0 else
      r.count) ++ leBytes 8 0) (u.onArch fun a => { a with reqs := a.reqs.eraseIdx n }) = some w) ∧
    (∃ (n : Nat) (r : HostReq) (w : State), ∃ u : State, itemsRun u = true ∧ u.arch.reqs[n]? = some r ∧ reqDone u r = true ∧ r.op = 0 ∧
      r.status = .ok ∧ goodSectors u r = r.count ∧ pushRing r.ring (leBytes 4 r.tag ++ leBytes 1 0 ++ [0] ++ leBytes 2 r.count ++
      leBytes 8 0) (u.onArch fun a =>
      { a with reqs := a.reqs.eraseIdx n, hostReads := a.hostReads ++ [(r.host, r.buf, (List.range r.count).flatMap fun k => sectorOf u
                 (r.lba + k))] }) = some w) ∧
    (∃ u : State, copyingRuns u = true ∧ 256 ≤ u.evt.ring.length ∧ (∀ p ∈ u.arch.pages, p.lpn ≠ eventRegion + u.evt.ext.length / 256)) ∧
    (∃ (groups : List (List Nat)) (pages spare : Nat), ∃ u : State, nandOn u = true ∧ u.arch.state = 5 ∧
      formatPlan u = (groups, some (pages, spare)) ∧ u.evt.ext = []) ∧
    (∃ u : State, nandOn u = true ∧ u.arch.state = 5 ∧ (formatPlan u).2 = none) ∧
    (∃ (h : Fin 4) (tk : Taken) (u : State), Dispatched h 0x0A01 tk (enqueue h tk u) ∧ u.arch.hist.length = 16 ∧
      u.arch.written.length = 4) ∧
    (∃ (x : DieSt), ∃ (h : Fin 4) (tk : Taken) (u : State), Dispatched h 0x0A02 tk (enqueue h tk u) ∧
      dieOf u (fld tk.payload 0 1) = some x ∧ x.hist.length = 16 ∧ x.reads.length = 4 ∧ x.temps.length = 33) ∧
    (∃ (h : Fin 4) (tk : Taken) (u : State), Dispatched h 0x0A02 tk (enqueue h tk u) ∧ dieOf u (fld tk.payload 0 1) = none) ∧
    (∃ (h : Fin 4) (tk : Taken) (u : State), Dispatched h 0x0A03 tk (enqueue h tk u) ∧ (∀ x ∈ u.arch.queries, x.host ≠ h.val) ∧
      fld tk.payload 0 1 = 1 ∧ queryStale u (queryOf h.val tk.payload) = false ∧ namesRing u h.val (fld tk.payload 2 2) 64 = true ∧
      fld tk.payload 16 8 < fld tk.payload 24 8) ∧
    (∃ (host : Nat) (corr : List Nat) (step : Nat) (second : Option Nat) (q : ArchQuery) (w : State), ∃ u : State, se13Works u = true ∧
      u.arch.queries.find? (fun q => q.host == host) = some q ∧ q.started = true ∧ q.out = [] ∧ q.ended = true ∧
      pushRing q.ring (recordBytes (endRecord q)) u = some w) ∧
    (∃ (h : Fin 4) (tk : Taken) (u : State), Dispatched h 0x0A04 tk (enqueue h tk u) ∧ ∃ q ∈ u.arch.queries, q.host = h.val ∧
      q.id = fld tk.payload 0 2) ∧
    (∃ (h : Fin 4) (tk : Taken) (u : State), Dispatched h 0x0A05 tk (enqueue h tk u) ∧
      (u.cfg.overlay = 2 ∨ u.cfg.overlay = 4 ∨ u.arch.state = 4) ∧ u.arch.state ≠ 5 ∧ u.arch.queries = [] ∧
      fld tk.payload 0 4 = 0x464F524D ∧ (formatPlan u).2.isSome) ∧
    (∃ (x : DieSt) (rest : State), ∃ (h : Fin 4) (tk : Taken) (u : State), Dispatched h 0x0A06 tk (enqueue h tk u) ∧
      dieOf u (fld tk.payload 0 1) = some x ∧ x.state = 0 ∧ fld tk.payload 4 4 = 0x44494521 ∧ 8 ≤ ((((groupsOf u).find? (·.contains
      (fld tk.payload 0 1))).getD []).filter fun k => k != fld tk.payload 0 1 && dieGood u k).length ∧
      rest = onDie (fld tk.payload 0 1) (fun y => { y with state := 1 }) u ∧
      recFirst u + 65536 + reserveSbs rest * sbWorth u ≤ dataPages rest ∧ rebuilding u = false) ∧
    (∃ (x : DieSt), ∃ (h : Fin 4) (tk : Taken) (u : State), Dispatched h 0x0A06 tk (enqueue h tk u) ∧
      dieOf u (fld tk.payload 0 1) = some x ∧ (x.state ≠ 0 ∨ fld tk.payload 4 4 ≠ 0x44494521)) :=
  ⟨⟨12, [], { number := 12, source := 4, items := [leBytes 8 0x10000 ++ leBytes 24 0] }, { number := 13, source := 5 }, leBytes 8 0x10000 ++ leBytes 24 0, [], ((archUp.onArch fun a => { a with format := some { hostPages := 65536 } }).onHosts fun x => { x with rings := [{ number := 12, source := 4, items := [leBytes 8 0x10000 ++ leBytes 24 0] }, { number := 13, source := 5 }] }), by decide⟩,
   ⟨12, [], { number := 12, source := 4, items := [leBytes 32 7] }, { number := 13, source := 5 }, leBytes 32 7, [], .badarg, (archUp.onHosts fun x => { x with rings := [{ number := 12, source := 4, items := [leBytes 32 7] }, { number := 13, source := 5 }] }), by decide⟩,
   ⟨0, { op := 2, tag := 9 }, (pushRing 12 (leBytes 4 9 ++ leBytes 1 0 ++ [0] ++ leBytes 2 0 ++ leBytes 8 0) (archUp.onHosts fun x => { x with rings := [{ number := 12, source := 5 }] })).getD {}, ((archUp.onHosts fun x => { x with rings := [{ number := 12, source := 5 }] }).onArch fun a => { a with reqs := [{ op := 2, tag := 9 }] }), by exact ⟨by decide, rfl, by decide, by decide, rfl⟩⟩,
   ⟨0, { op := 0, tag := 9 }, (pushRing 12 (leBytes 4 9 ++ leBytes 1 0 ++ [0] ++ leBytes 2 0 ++ leBytes 8 0) ((archUp.onHosts fun x => { x with rings := [{ number := 12, source := 5 }] }).onArch fun a => { a with reqs := [], hostReads := [(0, 0, [])] })).getD {}, ((archUp.onHosts fun x => { x with rings := [{ number := 12, source := 5 }] }).onArch fun a => { a with reqs := [{ op := 0, tag := 9 }] }), by exact ⟨by decide, rfl, by decide, by decide, by decide, by decide, rfl⟩⟩,
   ⟨(archUp.onEvt fun v => { v with ring := List.replicate 256 {} }), by exact ⟨by set_option maxRecDepth 20000 in decide, by set_option maxRecDepth 20000 in decide, by decide⟩⟩,
   ⟨[[0, 16, 32, 48, 64, 80, 96, 112]], 2808832, 250880, (working.onArch fun a => { a with state := 5, blocks := 1000 }), by decide⟩,
   ⟨(working.onArch fun a => { a with state := 5, installed := [] }), by decide⟩,
   ⟨0, cmd 0x0A01 [], archUp, ⟨rfl, rfl⟩, by decide⟩,
   ⟨{}, 0, cmd 0x0A02 (leBytes 4 1), archUp, ⟨rfl, rfl⟩, by decide⟩,
   ⟨0, cmd 0x0A02 (leBytes 4 9), archUp, ⟨rfl, rfl⟩, by decide⟩,
   ⟨0, cmd 0x0A03 (leBytes 4 0xC0001 ++ leBytes 20 0 ++ leBytes 24 7), (archUp.onHosts fun x => { x with rings := [{}] }), ⟨rfl, rfl⟩, by decide⟩,
   ⟨0, [], 0, none, { ended := true, started := true }, (pushRing 12 (recordBytes (endRecord { ended := true, started := true })) ((archUp.onArch fun a => { a with queries := [{ ended := true, started := true }] }).onHosts fun x => { x with rings := [{ source := 0 }] })).getD {}, ((archUp.onArch fun a => { a with queries := [{ ended := true, started := true }] }).onHosts fun x => { x with rings := [{ source := 0 }] }), by exact ⟨by decide, rfl, rfl, rfl, rfl, rfl⟩⟩,
   ⟨0, cmd 0x0A04 (leBytes 4 3), (archUp.onArch fun a => { a with queries := [{ id := 3 }] }), ⟨rfl, rfl⟩, by exact ⟨_, List.mem_singleton.mpr rfl, rfl, rfl⟩⟩,
   ⟨0, cmd 0x0A05 (leBytes 4 0x464F524D), (working.onArch fun a => { a with state := 4, blocks := 1000 }), ⟨rfl, rfl⟩, by decide⟩,
   ⟨{}, onDie 0 (fun y => { y with state := 1 }) ((working.onArch fun a => { a with state := 2, format := some { groups := [[0, 16, 32, 48, 64, 80, 96, 112, 1, 17]] }, dies := [(0, {}), (1, {}), (16, {}), (17, {}), (32, {}), (48, {}), (64, {}), (80, {}), (96, {}), (112, {})] })), 0, cmd 0x0A06 (leBytes 4 0 ++ leBytes 4 0x44494521), (working.onArch fun a => { a with state := 2, format := some { groups := [[0, 16, 32, 48, 64, 80, 96, 112, 1, 17]] }, dies := [(0, {}), (1, {}), (16, {}), (17, {}), (32, {}), (48, {}), (64, {}), (80, {}), (96, {}), (112, {})] }), ⟨rfl, rfl⟩, by exact ⟨by decide, by decide, by decide, by decide, rfl, by decide, by decide⟩⟩,
   ⟨{}, 0, cmd 0x0A06 (leBytes 8 0), archUp, ⟨rfl, rfl⟩, by decide⟩⟩

/-- The hypotheses of Uplink can be met. -/
theorem witness_uplink :
    (∃ (p : Nat), ∃ u : State, uplinkRuns u = true ∧ namesUpstream u = true ∧ u.upl.conn = none ∧
      (u.upl.state ≠ 3 ∨ u.upl.retryOk = true) ∧ nextPort u = some p) ∧
    (∃ (p : Nat), ∃ u : State, uplinkRuns u = true ∧ namesUpstream u = true ∧ u.upl.conn = none ∧
      (u.upl.state ≠ 3 ∨ u.upl.retryOk = true) ∧ nextPort u = some p ∧ u.cfg.act.parent = true) ∧
    (∃ (p : Nat), ∃ u : State, uplinkRuns u = true ∧ namesUpstream u = true ∧ u.upl.conn = none ∧
      (u.upl.state ≠ 3 ∨ u.upl.retryOk = true) ∧ nextPort u = some p ∧ u.cfg.act.parent = false) ∧
    (∃ (p : Nat) (c : UpConn), ∃ u : State, uplinkRuns u = true ∧ u.upl.conn = some c ∧ c.port = p ∧ p < 2) ∧
    (∃ (c : UpConn), ∃ u : State, uplinkRuns u = true ∧ u.upl.conn = some c ∧ c.lastRx + ofS 30 ≤ u.rc) ∧
    (∃ (c : UpConn), ∃ u : State, uplinkRuns u = true ∧ u.upl.conn = some c ∧ c.up = true ∧ u.cfg.act.parent = true ∧
      c.lastTx + ofS 10 ≤ u.rc) ∧
    (∃ (c : UpConn), ∃ u : State, uplinkRuns u = true ∧ u.upl.conn = some c) ∧
    (∃ (c : UpConn) (l : List Q2Entry), ∃ u : State, uplinkRuns u = true ∧ u.upl.conn = some c ∧ c.up = true ∧ u.cfg.act.parent = true ∧
      c.unacked.length < u.upl.credit ∧ u.sess.forward ≠ [] ∧ workTakes u .uplink 6 = true ∧ l = cipherFit 64 16392 u.sess.forward) ∧
    (∃ (c : UpConn) (r : ArchRec) (l b : List ArchRec), ∃ u : State, uplinkRuns u = true ∧ u.upl.conn = some c ∧ c.up = true ∧
      u.cfg.act.parent = false ∧ sendable u c.sendPos = r :: l ∧
      (256 ≤ (r :: l).length ∨ r.commitRc + ofMs u.cfg.act.bundleMaxMs ≤ u.rc) ∧ workTakes u .uplink 6 = true ∧
      b = consecutive 256 r.pos (r :: l)) ∧
    (∃ (nextPos bound credit depth : Nat) (c : UpConn), ∃ u : State, uplinkRuns u = true ∧ u.upl.conn = some c ∧ c.up = false ∧
      u.cfg.act.parent = true ∧ hopBound u + bound ≤ u.cfg.act.latBudgetUs) ∧
    (∃ (nextPos bound credit depth : Nat) (c : UpConn), ∃ u : State, uplinkRuns u = true ∧ u.upl.conn = some c ∧ c.up = false ∧
      u.cfg.act.parent = true) ∧
    (∃ (seq pos : Nat) (c : UpConn), ∃ u : State, uplinkRuns u = true ∧ u.upl.conn = some c ∧ c.up = true ∧ u.cfg.act.parent = true) ∧
    (∃ (pos : Nat) (c : UpConn), ∃ u : State, uplinkRuns u = true ∧ u.upl.conn = some c ∧ c.up = true ∧ u.cfg.act.parent = false) ∧
    (∃ (n : Nat) (c : UpConn), ∃ u : State, uplinkRuns u = true ∧ u.upl.conn = some c ∧ c.up = true ∧ u.cfg.act.parent = true) ∧
    (∃ (c : UpConn), ∃ u : State, uplinkRuns u = true ∧ u.upl.conn = some c ∧ c.up = true ∧ u.cfg.act.parent = true ∧
      c.timeReqRc + ofS 16 ≤ u.rc ∧ c.t1 = none) ∧
    (∃ (t1 t2 t3 : Nat) (utc : Int) (anchored leap61 leap59 : Bool) (c : UpConn), ∃ u : State, uplinkRuns u = true ∧
      u.upl.conn = some c ∧ c.up = true ∧ u.cfg.act.parent = true ∧ c.t1 = some t1) ∧
    (∃ (body : DownBody) (c : UpConn), ∃ u : State, uplinkRuns u = true ∧ u.upl.conn = some c ∧ c.up = true ∧ u.cfg.act.parent = true ∧
      mayTransmit u = false) ∧
    (∃ (body : DownBody) (c : UpConn), ∃ u : State, uplinkRuns u = true ∧ u.upl.conn = some c ∧ c.up = true ∧ u.cfg.act.parent = true ∧
      mayTransmit u = true ∧ body.addr ≠ 0xFFFFFFFFFFFFFFFF) :=
  ⟨⟨0, (working.onCfg fun c => { c with act := { c.act with parent := true, headEnd := true, ports := [{ mode := 1, useUp := true }, {}] } }), by decide⟩,
   ⟨0, (working.onCfg fun c => { c with act := { c.act with parent := true, headEnd := true, ports := [{ mode := 1, useUp := true }, {}] } }), by decide⟩,
   ⟨0, (working.onCfg fun c => { c with act := { c.act with parent := false, headEnd := true, ports := [{ mode := 1, useUp := true }, {}] } }), by decide⟩,
   ⟨0, {}, (underParent {}), by decide⟩,
   ⟨{}, ((underParent {}).onTime fun x => { x with rc := ofS 40 }), by decide⟩,
   ⟨{ up := true }, ((underParent { up := true }).onTime fun x => { x with rc := ofS 40 }), by decide⟩,
   ⟨{}, (underParent {}), by decide⟩,
   ⟨{ up := true }, [{}], (((underParent { up := true }).onUpl fun x => { x with credit := 4 }).onSess fun b => { b with forward := [{}] }), by decide⟩,
   ⟨{ up := true }, {}, [], [{}], ((((working.onUpl fun x => { x with conn := some { up := true } }).onArch fun a => { a with map := [(5, 6)], pages := [{ lpn := 5, seq := 6, durable := true, data := .records [{}] }], nextPos := 1 }).onTime fun x => { x with rc := ofS 4000 }).onPair fun p => { p with state := .solo }), by decide⟩,
   ⟨3, 0, 64, 1, {}, ((underParent {}).onCfg fun c => { c with act := { c.act with latBudgetUs := 1000000000 } }), by decide⟩,
   ⟨3, 0, 64, 1, {}, (underParent {}), by decide⟩,
   ⟨1, 5, { up := true }, (underParent { up := true }), by decide⟩,
   ⟨5, { up := true }, (working.onUpl fun x => { x with conn := some { up := true } }), by decide⟩,
   ⟨9, { up := true }, (underParent { up := true }), by decide⟩,
   ⟨{ up := true }, ((underParent { up := true }).onTime fun x => { x with rc := ofS 40 }), by decide⟩,
   ⟨5, 6, 7, 37, true, false, false, { up := true, t1 := some 5 }, (underParent { up := true, t1 := some 5 }), by decide⟩,
   ⟨{}, { up := true }, (underParent { up := true }), by decide⟩,
   ⟨{}, { up := true }, (aloneIn (underParent { up := true })), by decide⟩⟩

/-- The hypotheses of DeviceTree can be met. -/
theorem witness_device_tree :
    (∃ (port unit idHash formatId : Nat), ∃ u : State, uplinkRuns u = true ∧ port < 2 ∧ (portCfg u port).mode ≠ 0 ∧
      (portCfg u port).useChildren = true ∧ childOf u unit = none) ∧
    (∃ (port unit idHash formatId : Nat) (x : Child), ∃ u : State, uplinkRuns u = true ∧ port < 2 ∧ (portCfg u port).mode ≠ 0 ∧
      (portCfg u port).useChildren = true ∧ childOf u unit = some x ∧ x.enabled = true ∧ x.idHash = idHash ∧
      x.formatId = some formatId ∧ (u.upl.children.filter fun k => k.1 != unit && k.2.conn.isSome).length < 512) ∧
    (∃ (child seq first : Nat) (recs : List Record) (n : ChildConn), ∃ u : State, (childOf u child).bind (·.conn) = some n ∧
      uplinkRuns u = true ∧ u.sess.q4Held = [] ∧ (recs = [] ∨ 256 < recs.length)) ∧
    (∃ (child seq first : Nat) (r : Record) (x : Child) (n : ChildConn), ∃ u : State, childOf u child = some x ∧ x.conn = some n ∧
      uplinkRuns u = true ∧ u.sess.q4Held = [] ∧ x.nextPos = first ∧ r.residenceUs ≤ x.boundUs) ∧
    (∃ (child seq : Nat) (e : Q2Entry) (x : Child) (n : ChildConn), ∃ u : State, childOf u child = some x ∧ x.conn = some n ∧
      uplinkRuns u = true ∧ slotsOf e.length + stagingUsed u ≤ stagingSlots u ∧ cipherEntryBytes e ≤ 16392) ∧
    (∃ (child t1 : Nat) (n : ChildConn), ∃ u : State, (childOf u child).bind (·.conn) = some n ∧ uplinkRuns u = true) ∧
    (∃ (child tag outcome : Nat) (n : ChildConn), ∃ u : State, (childOf u child).bind (·.conn) = some n ∧ uplinkRuns u = true) ∧
    (∃ (child : Nat) (n : ChildConn), ∃ u : State, uplinkRuns u = true ∧ (childOf u child).bind (·.conn) = some n ∧
      n.lastRx + ofS 30 ≤ u.rc) ∧
    (∃ (child : Nat) (n : ChildConn), ∃ u : State, uplinkRuns u = true ∧ (childOf u child).bind (·.conn) = some n ∧
      n.lastTx + ofS 10 ≤ u.rc) ∧
    (∃ (x : Child), ∃ (h : Fin 4) (tk : Taken) (u : State), Dispatched h 0x0B02 tk (enqueue h tk u) ∧
      childOf u (fld tk.payload 0 2) = some x) ∧
    (∃ (h : Fin 4) (tk : Taken) (u : State), Dispatched h 0x0B02 tk (enqueue h tk u) ∧ childOf u (fld tk.payload 0 2) = none) ∧
    (∃ (h : Fin 4) (tk : Taken) (u : State), Dispatched h 0x0B03 tk (enqueue h tk u) ∧ mayHaveChildren u = true ∧
      fld tk.payload 0 2 ≤ 4095 ∧ fld tk.payload 0 2 ≠ u.cfg.act.unitId ∧ fld tk.payload 2 1 = 1 ∧
      childOf u (fld tk.payload 0 2) = none ∧ ∀ k ∈ u.upl.children, k.1 ≠ fld tk.payload 0 2 → k.2.idHash ≠ fld tk.payload 8 32) ∧
    (∃ (h : Fin 4) (tk : Taken) (u : State), Dispatched h 0x0B03 tk (enqueue h tk u) ∧ mayHaveChildren u = false) :=
  ⟨⟨0, 7, 0, 0, (working.onCfg fun c => { c with act := { c.act with ports := [{ mode := 1, useChildren := true }] } }), by decide⟩,
   ⟨0, 7, 0, 0, { enabled := true, formatId := some 0 }, ((withChild { enabled := true, formatId := some 0 }).onCfg fun c => { c with act := { c.act with ports := [{ mode := 1, useChildren := true }] } }), by decide⟩,
   ⟨7, 1, 0, [], {}, (withChild { conn := some {} }), by exact ⟨rfl, by decide, rfl, by simp⟩⟩,
   ⟨7, 1, 0, {}, { conn := some {} }, {}, (withChild { conn := some {} }), by exact ⟨rfl, rfl, by decide, rfl, rfl, by decide⟩⟩,
   ⟨7, 1, {}, { conn := some {} }, {}, ((withChild { conn := some {} }).onCfg fun c => { c with startCfg := { c.startCfg with stagingMib := 16 } }), by exact ⟨rfl, rfl, by decide, by decide, by decide⟩⟩,
   ⟨7, 5, {}, (withChild { conn := some {} }), by decide⟩,
   ⟨7, 5, 0, {}, (withChild { conn := some {} }), by decide⟩,
   ⟨7, {}, ((withChild { conn := some {} }).onTime fun x => { x with rc := ofS 40 }), by decide⟩,
   ⟨7, {}, ((withChild { conn := some {} }).onTime fun x => { x with rc := ofS 40 }), by decide⟩,
   ⟨{}, 0, cmd 0x0B02 (leBytes 4 7), (withChild {}), ⟨rfl, rfl⟩, by decide⟩,
   ⟨0, cmd 0x0B02 (leBytes 4 8), (withChild {}), ⟨rfl, rfl⟩, by decide⟩,
   ⟨0, cmd 0x0B03 (leBytes 8 0x10008 ++ leBytes 32 99), ((withChild {}).onCfg fun c => { c with startCfg := { c.startCfg with role := some .aggregation } }), ⟨rfl, rfl⟩, by refine ⟨by decide, by decide, by decide, by decide, by decide, ?_⟩; decide⟩,
   ⟨0, cmd 0x0B03 [], working, ⟨rfl, rfl⟩, by decide⟩⟩

/-- The hypotheses of FleetWork can be met. -/
theorem witness_fleet_work :
    (∃ (m inv : Nat) (ok : Bool) (data : List Nat) (rest : List (Nat × Nat × Bool × List Nat)) (o : OpenReq) (a tid cs : Nat), ∃ u :
      State, fleetOn u = true ∧ uplinkRuns u = true ∧ u.sess.fleetIn = (m, inv, ok, data) :: rest ∧
      u.fleet.reqs.find? (fun o => o.meter == m && o.invoke == inv) = some o ∧ o.req = .token a tid cs) ∧
    (∃ (c tag outcome : Nat) (rest : List (Nat × Nat × Nat)) (o : OpenReq), ∃ u : State, fleetOn u = true ∧ uplinkRuns u = true ∧
      u.sess.fleetIn = [] ∧ u.link.results = [] ∧ u.upl.downSeen = (c, tag, outcome) :: rest ∧ reqByRef u tag = some o ∧ outcome ≠ 0) ∧
    (∃ (id : Nat) (p : Push), ∃ u : State, fleetOn u = true ∧ uplinkRuns u = true ∧ u.fleet.pushes = [(id, p)]) ∧
    (∃ (id : Nat) (p : Push), ∃ u : State, fleetOn u = true ∧ uplinkRuns u = true ∧ u.fleet.pushes = [(id, p)] ∧ p.passed = false ∧
      p.actKey ≤ cycleStart u ∧ pushMembers u id = []) ∧
    (∃ (q : Nat) (w : State), ∃ u : State, fleetOn u = true ∧ uplinkRuns u = true ∧ archWorks u = true ∧
      u.fleet.ckptKey + 3000 * mc ≤ u.key ∧
      writeSystem definitionsPage (.fleet { pushes := u.fleet.pushes, camps := u.fleet.camps }) (syncLedger u) = some (q, w)) ∧
    (∃ (j : TokenJob) (rest : List TokenJob) (e : LedgerEnt), ∃ u : State, fleetOn u = true ∧ uplinkRuns u = true ∧ archWorks u = true ∧
      u.fleet.tokens = j :: rest ∧ j.ready = false ∧ ledgerEntry (accountOf u j.account) j.tid j.cs = some e ∧
      entryDurable u j.account e = true ∧ (holdsForYoke u = false ∨ j.jseq ≤ u.pair.ackedJseq)) ∧
    (∃ (n : Nat) (p : Camp), ∃ u : State, fleetSends u = true ∧ u.fleet.camps = [(n, p)] ∧ roundDue u n p = true) ∧
    (∃ (n : Nat) (p : Camp) (b c : Nat) (rest : List Nat), ∃ u : State, fleetSends u = true ∧ fleetEntries u + 3 ≤ 128 ∧
      blockDue u = some (n, p) ∧ p.blocks = some (b :: c :: rest)) ∧
    (∃ (n : Nat) (p : Camp) (z : State), ∃ u : State, fleetSends u = true ∧ u.fleet.camps = [(n, p)] ∧ p.state = 3 ∧ p.actMode = 1 ∧
      p.actSent = false ∧ p.act ≤ u.key + 2 * mc ∧ slotUsable u p.keySlot = true ∧
      z = sendMulticast p n p.act (fun c => c.campState == 5) true (fun ic => Config.multicastApdu p.keySlot ic 1 0 []) u) :=
  ⟨⟨5, 12, true, [], [], { meter := 5, req := .token 1 2 3 }, 1, 2, 3, (((aloneIn working).onFleet fun f => { f with reqs := [{ meter := 5, req := .token 1 2 3 }] }).onSess fun b => { b with fleetIn := [(5, 12, true, [])] }), by decide⟩,
   ⟨7, 3, 1, [], { ref := 3 }, (((aloneIn working).onFleet fun f => { f with reqs := [{ ref := 3 }] }).onUpl fun x => { x with downSeen := [(7, 3, 1)] }), by decide⟩,
   ⟨3, {}, ((aloneIn working).onFleet fun f => { f with pushes := [(3, {})] }), by decide⟩,
   ⟨3, {}, ((aloneIn working).onFleet fun f => { f with pushes := [(3, {})] }), by decide⟩,
   ⟨((writeSystem definitionsPage (.fleet { pushes := [], camps := [] }) (syncLedger ((aloneIn archUp).onMains fun m => { m with cycle := 4000 }))).getD (0, {})).1, ((writeSystem definitionsPage (.fleet { pushes := [], camps := [] }) (syncLedger ((aloneIn archUp).onMains fun m => { m with cycle := 4000 }))).getD (0, {})).2, ((aloneIn archUp).onMains fun m => { m with cycle := 4000 }), by exact ⟨by decide, by decide, by decide, by decide, rfl⟩⟩,
   ⟨{}, [], {}, (((aloneIn archUp).onFleet fun f => { f with tokens := [{}], ledger := [(0, { entries := [{}] })] }).onArch fun a => { a with map := [(fleetRegion, 5), (fleetRegion + copyPages, 6)], pages := [{ seq := 5, lpn := fleetRegion, durable := true, data := .system (.accounts [(0, { entries := [{}] })]) }, { seq := 6, lpn := fleetRegion + copyPages, durable := true, data := .system (.accounts [(0, { entries := [{}] })]) }] }), by decide⟩,
   ⟨0, { state := 3 }, (((aloneIn working).onSess fun b => { b with ctxs := [(5, { campSlot := 0, campState := 2 })] }).onFleet fun f => { f with camps := [(0, { state := 3 })] }), by decide⟩,
   ⟨0, { state := 3, blocks := some [0, 1] }, 0, 1, [], ((aloneIn working).onFleet fun f => { f with camps := [(0, { state := 3, blocks := some [0, 1] })] }), by decide⟩,
   ⟨0, { state := 3, actMode := 1 }, _, ((aloneIn working).onFleet fun f => { f with camps := [(0, { state := 3, actMode := 1 })] }), by exact ⟨by decide, rfl, rfl, rfl, rfl, by decide, by decide, rfl⟩⟩⟩

/-- The hypotheses of FleetCommands can be met. -/
theorem witness_fleet_commands :
    (∃ (h : Fin 4) (tk : Taken) (u : State), Dispatched h 0x0C01 tk (enqueue h tk u) ∧ fleetOn u = true ∧ fld tk.payload 0 1 ≤ 15 ∧
      fld tk.payload 1 1 = 0 ∧ fld tk.payload 2 1 ≤ 1 ∧ 1 ≤ fld tk.payload 3 1 ∧ fld tk.payload 3 1 ≤ 16 ∧ 10 ≤ fld tk.payload 4 2 ∧
      fld tk.payload 4 2 ≤ 60000 ∧ 1 ≤ fld tk.payload 6 2 ∧ fld tk.payload 6 2 ≤ 4032 ∧ tk.payload.length = 32 + fld tk.payload 6 2 ∧
      tableOk (tk.payload.drop 32) = true ∧ pushOf u (fld tk.payload 0 1) = none ∧ u.key + 3000 * mc ≤ fld tk.payload 8 8) ∧
    (∃ (p : Push) (res : State × Nat × Nat × Nat), ∃ (h : Fin 4) (tk : Taken) (u : State), Dispatched h 0x0C02 tk (enqueue h tk u) ∧
      fleetOn u = true ∧ pushOf u (fld tk.payload 0 1) = some p ∧ fld tk.payload 1 1 ≤ 2 ∧ memberForm tk.payload = true ∧ res =
      eachMember (pushMemberOne (fld tk.payload 0 1) (fld tk.payload 1 1)) (memberList (tk.payload.drop 8) (fld tk.payload 2 2)) u) ∧
    (∃ (q : Push), ∃ (h : Fin 4) (tk : Taken) (u : State), Dispatched h 0x0C03 tk (enqueue h tk u) ∧ fleetOn u = true ∧
      pushOf u (fld tk.payload 0 1) = some q) ∧
    (∃ (q : Push), ∃ (h : Fin 4) (tk : Taken) (u : State), Dispatched h 0x0C04 tk (enqueue h tk u) ∧ fleetOn u = true ∧
      pushOf u (fld tk.payload 0 1) = some q ∧ pushMembers u (fld tk.payload 0 1) = []) ∧
    (∃ (c : MeterCtx), ∃ (h : Fin 4) (tk : Taken) (u : State), Dispatched h 0x0C10 tk (enqueue h tk u) ∧ fleetOn u = true ∧
      ctxOf u (fld tk.payload 0 4) = some c ∧ c.account ≤ 1048575 ∧
      ((tk.payload.drop 16).take 20).all (fun d => 48 ≤ d.toNat && d.toNat ≤ 57) = true ∧ fld tk.payload 4 1 < 0x40 ∧
      fld tk.payload 8 4 < 0x1000000 ∧ fld tk.payload 5 1 = 0 ∧ c.tokenState ≠ 1 ∧
      tokenUsed (accountOf u c.account) (fld tk.payload 8 4) (fld tk.payload 4 1) = true) ∧
    (∃ (c : MeterCtx), ∃ (h : Fin 4) (tk : Taken) (u : State), Dispatched h 0x0C10 tk (enqueue h tk u) ∧ fleetOn u = true ∧
      ctxOf u (fld tk.payload 0 4) = some c ∧ c.account ≤ 1048575 ∧
      ((tk.payload.drop 16).take 20).all (fun d => 48 ≤ d.toNat && d.toNat ≤ 57) = true ∧ fld tk.payload 4 1 < 0x40 ∧
      fld tk.payload 8 4 < 0x1000000 ∧ fld tk.payload 5 1 = 0 ∧ c.tokenState ≠ 1 ∧
      tokenUsed (accountOf u c.account) (fld tk.payload 8 4) (fld tk.payload 4 1) = false) ∧
    (∃ (c : MeterCtx), ∃ (h : Fin 4) (tk : Taken) (u : State), Dispatched h 0x0C11 tk (enqueue h tk u) ∧ fleetOn u = true ∧
      fld tk.payload 0 4 ≤ 1048575 ∧ fld tk.payload 4 4 < 0x1000000 ∧ fld tk.payload 8 1 < 0x40 ∧
      ctxOf u (fld tk.payload 12 4) = some c ∧
      tokenUsed (accountOf u (fld tk.payload 0 4)) (fld tk.payload 4 4) (fld tk.payload 8 1) = false ∧
      (accountOf u (fld tk.payload 0 4)).entries.length < 31) ∧
    (∃ (c : MeterCtx), ∃ (h : Fin 4) (tk : Taken) (u : State), Dispatched h 0x0C11 tk (enqueue h tk u) ∧ fleetOn u = true ∧
      fld tk.payload 0 4 ≤ 1048575 ∧ fld tk.payload 4 4 < 0x1000000 ∧ fld tk.payload 8 1 < 0x40 ∧
      ctxOf u (fld tk.payload 12 4) = some c ∧
      tokenUsed (accountOf u (fld tk.payload 0 4)) (fld tk.payload 4 4) (fld tk.payload 8 1) = true) ∧
    (∃ (h : Fin 4) (tk : Taken) (u : State), Dispatched h 0x0C12 tk (enqueue h tk u) ∧ fleetOn u = true ∧ fld tk.payload 0 4 ≤ 1048575) ∧
    (∃ (c : MeterCtx), ∃ (h : Fin 4) (tk : Taken) (u : State), Dispatched h 0x0C13 tk (enqueue h tk u) ∧ fleetOn u = true ∧
      ctxOf u (fld tk.payload 0 4) = some c ∧ (fld tk.payload 4 4 ≤ 1048575 ∨ fld tk.payload 4 4 = 0xFFFFFFFF)) ∧
    (∃ (h : Fin 4) (tk : Taken) (u : State), Dispatched h 0x0C20 tk (enqueue h tk u) ∧ fleetOn u = true ∧ fld tk.payload 0 1 ≤ 7 ∧
      fld tk.payload 1 1 ≤ 1 ∧ 128 ≤ fld tk.payload 2 2 ∧ fld tk.payload 2 2 ≤ 1024 ∧ 1 ≤ fld tk.payload 4 4 ∧
      fld tk.payload 4 4 ≤ 2097152 ∧ 1 ≤ fld tk.payload 13 1 ∧ fld tk.payload 13 1 ≤ 16 ∧ fld tk.payload 14 2 ≤ 256 ∧
      1 ≤ fld tk.payload 16 2 ∧ fld tk.payload 18 2 ≤ 1439 ∧ fld tk.payload 20 2 ≤ 1440 ∧ 1 ≤ fld tk.payload 22 1 ∧
      fld tk.payload 22 1 ≤ 16 ∧ 1 ≤ fld tk.payload 64 1 ∧ fld tk.payload 64 1 ≤ 31 ∧ campOf u (fld tk.payload 0 1) = none) ∧
    (∃ (p : Camp) (piece : List Byte), ∃ (h : Fin 4) (tk : Taken) (u : State), Dispatched h 0x0C21 tk (enqueue h tk u) ∧
      fleetOn u = true ∧ campOf u (fld tk.payload 0 1) = some p ∧ p.state = 1 ∧ p.pieces = [] ∧ fld tk.payload 4 4 = 0 ∧
      piece = tk.payload.drop 8 ∧ piece ≠ [] ∧ piece.length ≤ 1000 ∧ p.imageSize = piece.length ∧ Config.sha256 piece = p.digest) ∧
    (∃ (p : Camp) (piece : List Byte), ∃ (h : Fin 4) (tk : Taken) (u : State), Dispatched h 0x0C21 tk (enqueue h tk u) ∧
      fleetOn u = true ∧ campOf u (fld tk.payload 0 1) = some p ∧ p.state = 1 ∧ p.pieces = [] ∧ fld tk.payload 4 4 = 0 ∧
      piece = tk.payload.drop 8 ∧ piece ≠ [] ∧ piece.length ≤ 1000 ∧ p.imageSize = piece.length ∧ Config.sha256 piece ≠ p.digest) ∧
    (∃ (p : Camp) (l : List Nat) (res : State × Nat × Nat × Nat), ∃ (h : Fin 4) (tk : Taken) (u : State), Dispatched h 0x0C22 tk
      (enqueue h tk u) ∧ fleetOn u = true ∧ campOf u (fld tk.payload 0 1) = some p ∧ fld tk.payload 1 1 ≤ 2 ∧
      memberForm tk.payload = true ∧ l = memberList (tk.payload.drop 8) (fld tk.payload 2 2) ∧
      res = eachMember (campMemberOne (fld tk.payload 0 1) (fld tk.payload 1 1)) l u) ∧
    (∃ (p : Camp), ∃ (h : Fin 4) (tk : Taken) (u : State), Dispatched h 0x0C23 tk (enqueue h tk u) ∧ fleetOn u = true ∧
      campOf u (fld tk.payload 0 1) = some p ∧ p.state = 2 ∧ (p.actMode ≠ 1 ∨ u.key + 3000 * mc ≤ p.act)) ∧
    (∃ (c : Camp), ∃ (h : Fin 4) (tk : Taken) (u : State), Dispatched h 0x0C24 tk (enqueue h tk u) ∧ fleetOn u = true ∧
      fld tk.payload 0 1 ≤ 7 ∧ campOf u (fld tk.payload 0 1) = some c) ∧
    (∃ (h : Fin 4) (tk : Taken) (u : State), Dispatched h 0x0C24 tk (enqueue h tk u) ∧ fleetOn u = true ∧ fld tk.payload 0 1 ≤ 7 ∧
      campOf u (fld tk.payload 0 1) = none) ∧
    (∃ (p : Camp), ∃ (h : Fin 4) (tk : Taken) (u : State), Dispatched h 0x0C25 tk (enqueue h tk u) ∧ fleetOn u = true ∧
      campOf u (fld tk.payload 0 1) = some p ∧ campMembers u (fld tk.payload 0 1) = []) ∧
    (∃ (h : Fin 4) (tk : Taken) (u : State), Dispatched h 0x0C12 tk (enqueue h tk u) ∧ fleetOn u = false) :=
  ⟨⟨0, cmd 0x0C01 (leBytes 3 3 ++ [1] ++ leBytes 2 10 ++ leBytes 2 4 ++ leBytes 8 300000000 ++ leBytes 16 0 ++ leBytes 4 0), (aloneIn working), ⟨rfl, rfl⟩, by decide⟩,
   ⟨{}, _, 0, cmd 0x0C02 (leBytes 2 3 ++ leBytes 2 1 ++ leBytes 4 0 ++ leBytes 4 5), (((aloneIn working).onSess fun b => { b with ctxs := [(5, {})] }).onFleet fun f => { f with pushes := [(3, {})] }), ⟨rfl, rfl⟩, by exact ⟨by decide, by decide, by decide, by decide, rfl⟩⟩,
   ⟨{}, 0, cmd 0x0C03 (leBytes 4 3), ((aloneIn working).onFleet fun f => { f with pushes := [(3, {})] }), ⟨rfl, rfl⟩, by decide⟩,
   ⟨{}, 0, cmd 0x0C04 (leBytes 4 3), ((aloneIn working).onFleet fun f => { f with pushes := [(3, {})] }), ⟨rfl, rfl⟩, by decide⟩,
   ⟨{ account := 1 }, 0, cmd 0x0C10 (leBytes 4 5 ++ leBytes 4 0 ++ leBytes 4 9 ++ leBytes 4 0 ++ List.replicate 20 48), (((aloneIn working).onSess fun b => { b with ctxs := [(5, { account := 1 })] }).onFleet fun f => { f with ledger := [(1, { entries := [{ tid := 9 }] })] }), ⟨rfl, rfl⟩, by decide⟩,
   ⟨{ account := 1 }, 0, cmd 0x0C10 (leBytes 4 5 ++ leBytes 4 0 ++ leBytes 4 9 ++ leBytes 4 0 ++ List.replicate 20 48), (((aloneIn working).onSess fun b => { b with ctxs := [(5, { account := 1 })] }).onFleet fun f => { f with ledger := [] }), ⟨rfl, rfl⟩, by decide⟩,
   ⟨{}, 0, cmd 0x0C11 (leBytes 4 1 ++ leBytes 4 9 ++ leBytes 4 0 ++ leBytes 4 5), (((aloneIn working).onSess fun b => { b with ctxs := [(5, {})] }).onFleet fun f => { f with ledger := [] }), ⟨rfl, rfl⟩, by decide⟩,
   ⟨{}, 0, cmd 0x0C11 (leBytes 4 1 ++ leBytes 4 9 ++ leBytes 4 0 ++ leBytes 4 5), (((aloneIn working).onSess fun b => { b with ctxs := [(5, {})] }).onFleet fun f => { f with ledger := [(1, { entries := [{ tid := 9 }] })] }), ⟨rfl, rfl⟩, by decide⟩,
   ⟨0, cmd 0x0C12 (leBytes 4 3), (aloneIn working), ⟨rfl, rfl⟩, by decide⟩,
   ⟨{}, 0, cmd 0x0C13 (leBytes 4 5 ++ leBytes 4 7), (((aloneIn working).onSess fun b => { b with ctxs := [(5, {})] }).onFleet fun f => { f with ledger := [] }), ⟨rfl, rfl⟩, by decide⟩,
   ⟨0, cmd 0x0C20 (leBytes 2 0 ++ leBytes 2 128 ++ leBytes 4 4 ++ leBytes 5 0 ++ leBytes 3 1 ++ leBytes 2 1 ++ leBytes 4 0 ++ leBytes 1 1 ++ leBytes 41 0 ++ leBytes 1 1 ++ leBytes 31 0), (aloneIn working), ⟨rfl, rfl⟩, by decide⟩,
   ⟨{ imageSize := 4, digest := Config.sha256 [1, 2, 3, 4] }, [1, 2, 3, 4], 0, cmd 0x0C21 (leBytes 8 0 ++ [1, 2, 3, 4]), ((aloneIn working).onFleet fun f => { f with camps := [(0, { imageSize := 4, digest := Config.sha256 [1, 2, 3, 4] })] }), ⟨rfl, rfl⟩, by exact ⟨by decide, rfl, rfl, rfl, by decide, rfl, by decide, by decide, rfl, rfl⟩⟩,
   ⟨{ imageSize := 4, digest := Config.sha256 [1, 2, 3, 4] + 1 }, [1, 2, 3, 4], 0, cmd 0x0C21 (leBytes 8 0 ++ [1, 2, 3, 4]), ((aloneIn working).onFleet fun f => { f with camps := [(0, { imageSize := 4, digest := Config.sha256 [1, 2, 3, 4] + 1 })] }), ⟨rfl, rfl⟩, by exact ⟨by decide, rfl, rfl, rfl, by decide, rfl, by decide, by decide, rfl, (Nat.succ_ne_self _).symm⟩⟩,
   ⟨{}, _, _, 0, cmd 0x0C22 (leBytes 2 3 ++ leBytes 2 1 ++ leBytes 4 0 ++ leBytes 4 5), (((aloneIn working).onSess fun b => { b with ctxs := [(5, {})] }).onFleet fun f => { f with camps := [(3, {})] }), ⟨rfl, rfl⟩, by exact ⟨by decide, by decide, by decide, by decide, rfl, rfl⟩⟩,
   ⟨{ state := 2 }, 0, cmd 0x0C23 (leBytes 4 0), ((aloneIn working).onFleet fun f => { f with camps := [(0, { state := 2 })] }), ⟨rfl, rfl⟩, by decide⟩,
   ⟨{}, 0, cmd 0x0C24 (leBytes 4 0), ((aloneIn working).onFleet fun f => { f with camps := [(0, {})] }), ⟨rfl, rfl⟩, by decide⟩,
   ⟨0, cmd 0x0C24 (leBytes 4 0), (aloneIn working), ⟨rfl, rfl⟩, by decide⟩,
   ⟨{}, 0, cmd 0x0C25 (leBytes 4 0), ((aloneIn working).onFleet fun f => { f with camps := [(0, {})] }), ⟨rfl, rfl⟩, by decide⟩,
   ⟨0, cmd 0x0C12 [], working, ⟨rfl, rfl⟩, by decide⟩⟩

/-- The hypotheses of MailboxesAndLeases can be met. -/
theorem witness_mailboxes_and_leases :
    (∃ (host : Fin 4) (hdr : CmdHeader) (payload : List Byte), ∃ u : State, u.pwr.aonOn = true ∧ (u.host host).port ≠ 0 ∧
      cmdFree u (u.host host) = true) ∧
    (∃ (host : Fin 4) (hdr : CmdHeader) (payload : List Byte), ∃ u : State, u.pwr.aonOn = true ∧ (u.host host).port ≠ 0 ∧
      cmdFree u (u.host host) = false) ∧
    (∃ u : State, ∀ k : Fin 4, (u.host k).box = none) ∧
    (∃ (h : Fin 4) (hdr : CmdHeader) (payload : List Byte) (tk : Taken), ∃ u : State, taking u = true ∧ u.hosts.dispatchQ = [] ∧
      (u.host h).box = some (hdr, payload) ∧ (∀ k : Fin 4, k ≠ h → (u.host k).box = none) ∧ ofUs ((u.host h).boxTick + 1) ≤ u.rc ∧
      checkBox u h hdr payload = .pass tk ∧ leaseBar u h tk = none ∧ resourceHeld u tk = false ∧ (u.host h).precedence ≤ 7) ∧
    (∃ (host : Fin 4) (x : Response), ∃ u : State, u.pwr.aonOn = true ∧ (u.host host).port ≠ 0 ∧ (u.host host).resp = some x ∧
      (u.host host).respQ = []) ∧
    (∃ (host : Fin 4) (x y : Response) (rest : List Response), ∃ u : State, u.pwr.aonOn = true ∧ (u.host host).port ≠ 0 ∧
      (u.host host).resp = some x ∧ (u.host host).respQ = y :: rest) ∧
    (∃ (host : Fin 4), ∃ u : State, u.pwr.aonOn = true ∧ (u.host host).port ≠ 0) ∧
    (∃ (host : Fin 4), ∃ u : State, u.pwr.aonOn = true ∧ 1 ≤ (u.host host).port ∧ (u.host host).port ≤ 4) ∧
    (∃ (h : Fin 4) (l : Lease), ∃ u : State, (u.host h).leases = [l] ∧ l.endRc ≤ u.rc ∧ ∀ k : Fin 4, k ≠ h → (u.host k).leases = []) ∧
    (∃ u : State, ∀ k : Fin 4, ∀ l ∈ (u.host k).leases, u.rc < l.endRc) ∧
    (∃ (h : Fin 4) (tk : Taken) (u : State), Dispatched h 0x0110 tk (enqueue h tk u) ∧ 10 ≤ fld tk.payload 0 4 ∧
      fld tk.payload 0 4 ≤ 3600000 ∧ fld tk.payload 4 1 = 0 ∧ leasable tk.claim = true ∧
      otherLease u h (fun l => leaseCovers l tk.claim || leaseCovers tk.claim l) = none ∧
      (liveLeases u h).find? (fun l => l.claim == tk.claim) = none ∧ (liveLeases u h).length < 64) ∧
    (∃ (k : Fin 4) (l : Lease), ∃ (h : Fin 4) (tk : Taken) (u : State), Dispatched h 0x0110 tk (enqueue h tk u) ∧
      10 ≤ fld tk.payload 0 4 ∧ fld tk.payload 0 4 ≤ 3600000 ∧ fld tk.payload 4 1 = 0 ∧ leasable tk.claim = true ∧
      otherLease u h (fun l => leaseCovers l tk.claim || leaseCovers tk.claim l) = some (k, l)) ∧
    (∃ (h : Fin 4) (tk : Taken) (u : State), Dispatched h 0x0111 tk (enqueue h tk u) ∧ ∃ l ∈ liveLeases u h, l.claim = tk.claim) ∧
    (∃ (h : Fin 4) (tk : Taken) (u : State), Dispatched h 0x0111 tk (enqueue h tk u) ∧ ∀ l ∈ liveLeases u h, l.claim ≠ tk.claim) :=
  ⟨⟨0, {}, [], (working.setHost 0 { working.host 0 with port := 1, precedence := 3 }), by decide⟩,
   ⟨0, {}, [], (working.setHost 0 { working.host 0 with port := 1, precedence := 3, box := some ({}, []) }), by decide⟩,
   ⟨running, by decide⟩,
   ⟨0, { opcode := 0x0101, flags := 1 }, [], { opcode := 0x0101 }, ((working.setHost 0 { working.host 0 with port := 1, precedence := 3, box := some ({ opcode := 0x0101, flags := 1 }, []) }).onTime fun x => { x with rc := ofS 1 }), by decide⟩,
   ⟨0, {}, (working.setHost 0 { working.host 0 with port := 1, precedence := 3, resp := some {} }), by decide⟩,
   ⟨0, {}, {}, [], (working.setHost 0 { working.host 0 with port := 1, precedence := 3, resp := some {}, respQ := [{}] }), by decide⟩,
   ⟨0, (working.setHost 0 { working.host 0 with port := 1, precedence := 3 }), by decide⟩,
   ⟨0, (working.setHost 0 { working.host 0 with port := 1, precedence := 3 }), by decide⟩,
   ⟨0, {}, (working.setHost 0 { working.host 0 with port := 1, precedence := 3, leases := [{}] }), by decide⟩,
   ⟨running, by simp [show ∀ k : Fin 4, (running.host k).leases = [] by decide]⟩,
   ⟨0, { opcode := 0x0110, claim := 0x02000001, payload := leBytes 4 100 ++ leBytes 4 0 }, running, ⟨rfl, rfl⟩, by decide⟩,
   ⟨1, { claim := 0x02000001, endRc := 5 }, 0, { opcode := 0x0110, claim := 0x02000001, payload := leBytes 4 100 ++ leBytes 4 0 }, (running.setHost 1 { running.host 1 with leases := [{ claim := 0x02000001, endRc := 5 }] }), ⟨rfl, rfl⟩, by decide⟩,
   ⟨0, { opcode := 0x0111, claim := 3 }, (running.setHost 0 { running.host 0 with leases := [{ claim := 3, endRc := 5 }] }), ⟨rfl, rfl⟩, by exact ⟨{ claim := 3, endRc := 5 }, by decide, rfl⟩⟩,
   ⟨0, { opcode := 0x0111, claim := 3 }, running, ⟨rfl, rfl⟩, by simp [show liveLeases running 0 = [] by decide]⟩⟩

/-- The hypotheses of RingsAndRegisters can be met. -/
theorem witness_rings_and_registers :
    (∃ (host : Fin 4) (ordinal prod n : Nat) (items : List (List Byte)) (r : RingSt), ∃ u : State, ringPageOn u = true ∧
      (u.host host).port ≠ 0 ∧ (ringsOf u host.val)[ordinal]? = some r ∧ r.source = 4 ∧
      n = (prod + 0x100000000 - r.prod) % 0x100000000 ∧ n < 0x80000000 ∧ ringFill r + n ≤ r.depth) ∧
    (∃ (host : Fin 4) (ordinal prod n : Nat) (items : List (List Byte)) (r : RingSt), ∃ u : State, ringPageOn u = true ∧
      (u.host host).port ≠ 0 ∧ (ringsOf u host.val)[ordinal]? = some r ∧ r.source = 4 ∧
      n = (prod + 0x100000000 - r.prod) % 0x100000000 ∧ (0x80000000 ≤ n ∨ r.depth < ringFill r + n)) ∧
    (∃ (host : Fin 4) (ordinal cons n : Nat) (r : RingSt), ∃ u : State, ringPageOn u = true ∧ (u.host host).port ≠ 0 ∧
      (ringsOf u host.val)[ordinal]? = some r ∧ r.source ≠ 4 ∧ n = (cons + 0x100000000 - r.cons) % 0x100000000 ∧ n ≤ ringFill r ∧
      (u.host host).heldNotices = []) ∧
    (∃ (host : Fin 4) (ordinal cons : Nat) (r : RingSt), ∃ u : State, ringPageOn u = true ∧ (u.host host).port ≠ 0 ∧
      (ringsOf u host.val)[ordinal]? = some r ∧ r.source ≠ 4 ∧ ringFill r < (cons + 0x100000000 - r.cons) % 0x100000000) ∧
    (∃ (cs : Fin 2) (off : Nat), ∃ u : State, u.pwr.aonOn = true ∧ ∀ h : Fin 4, (u.host h).port ≠ 5 + cs.val) ∧
    (∃ (cs : Fin 2) (off : Nat) (h : Fin 4), ∃ u : State, u.pwr.aonOn = true ∧
      (List.finRange 4).find? (fun h => (u.host h).port == 5 + cs.val) = some h ∧ off ≠ 0x010 ∧ off ≠ 0x034) ∧
    (∃ (host : Fin 4) (off : Nat) (value : Word) (cs : Fin 2), ∃ u : State, u.pwr.aonOn = true ∧ (u.host host).port = 5 + cs.val) ∧
    (∃ (host : Fin 4) (off : Nat) (value : Word) (cs : Fin 2), ∃ u : State, u.pwr.aonOn = true ∧ (u.host host).port = 5 + cs.val) :=
  ⟨⟨0, 0, 2, 2, [[1], [2]], { source := 4 }, ((working.setHost 0 { working.host 0 with port := 1, precedence := 3 }).onHosts fun b => { b with rings := [{ source := 4 }] }), by decide⟩,
   ⟨0, 0, 300, 300, [], { source := 4 }, ((working.setHost 0 { working.host 0 with port := 1, precedence := 3 }).onHosts fun b => { b with rings := [{ source := 4 }] }), by decide⟩,
   ⟨0, 0, 1, 1, { items := [[1]], prod := 1 }, ((working.setHost 0 { working.host 0 with port := 1, precedence := 3 }).onHosts fun b => { b with rings := [{ items := [[1]], prod := 1 }] }), by decide⟩,
   ⟨0, 0, 1, {}, ((working.setHost 0 { working.host 0 with port := 1, precedence := 3 }).onHosts fun b => { b with rings := [{}] }), by decide⟩,
   ⟨0, 4, running, by decide⟩,
   ⟨0, 0x0C4, 2, (running.setHost 2 { running.host 2 with port := 5 }), by decide⟩,
   ⟨0, 0x048, 3, 0, (running.setHost 0 { running.host 0 with port := 5 }), by decide⟩,
   ⟨0, 0x048, 3, 0, (running.setHost 0 { running.host 0 with port := 5 }), by decide⟩⟩

/-- The hypotheses of KeyStore can be met. -/
theorem witness_key_store :
    (∃ (h : Fin 4) (tk : Taken) (u : State), Dispatched h 0x0D02 tk (enqueue h tk u) ∧ u.pocket.lifecycle ≠ .returned ∧
      u.pocket.applying = none ∧ (u.pocket.stagedOwner = none ∨ u.pocket.stagedOwner = some h.val) ∧ fld tk.payload 0 4 = 0 ∧
      tk.payload.drop 8 ≠ [] ∧ (tk.payload.drop 8).length ≤ 65536) ∧
    (∃ (h : Fin 4) (tk : Taken) (u : State), Dispatched h 0x0D02 tk (enqueue h tk u) ∧ u.pocket.lifecycle ≠ .returned ∧
      u.pocket.applying = none ∧ (u.pocket.stagedOwner = none ∨ u.pocket.stagedOwner = some h.val) ∧ fld tk.payload 0 4 ≠ 0 ∧
      fld tk.payload 0 4 = u.pocket.staged.length ∧ tk.payload.drop 8 ≠ [] ∧
      u.pocket.staged.length + (tk.payload.drop 8).length ≤ 65536) ∧
    (∃ (sigOk : Bool), ∃ (h : Fin 4) (tk : Taken) (u : State), Dispatched h 0x0D03 tk (enqueue h tk u) ∧
      u.pocket.lifecycle ≠ .returned ∧ u.pocket.applying = none ∧ (u.pocket.stagedOwner = none ∨ u.pocket.stagedOwner = some h.val) ∧
      (fld tk.payload 0 4 ≠ u.pocket.staged.length ∨ kumForm u.pocket.staged = false)) ∧
    (∃ (h : Fin 4) (tk : Taken) (u : State), Dispatched h 0x0D03 tk (enqueue h tk u) ∧ u.pocket.lifecycle ≠ .returned ∧
      u.pocket.applying = none ∧ (u.pocket.stagedOwner = none ∨ u.pocket.stagedOwner = some h.val) ∧
      fld tk.payload 0 4 = u.pocket.staged.length ∧ kumForm u.pocket.staged = true) ∧
    (∃ (kind : Nat) (body : List Byte) (lists : List (List Byte)), ∃ (h : Fin 4) (tk : Taken) (u : State), Dispatched h 0x0D03 tk
      (enqueue h tk u) ∧ u.pocket.lifecycle ≠ .returned ∧ u.pocket.applying = none ∧
      (u.pocket.stagedOwner = none ∨ u.pocket.stagedOwner = some h.val) ∧ fld tk.payload 0 4 = u.pocket.staged.length ∧
      kumForm u.pocket.staged = true ∧ fld u.pocket.staged 8 4 = 0x9100 ∧ fld u.pocket.staged 16 32 = idHashNow u ∧
      fld u.pocket.staged 3 1 = bit (testRoot u) ∧ kumCounter u < fld u.pocket.staged 12 4 ∧ fld u.pocket.staged 48 8 = 0 ∧
      fld u.pocket.staged 2 1 = kind ∧ kind ≠ 1 ∧ kumOpen u u.pocket.staged = some body ∧
      lists = kumEntries (kumEntrySize kind) (fld u.pocket.staged 4 2) body ∧ kumPermitted u kind (fld (lists.headD []) 0 1) = true ∧
      firstBad u kind 1 [] lists = 0 ∧ ((u.host h).openCmds.filter fun c => !c.dead).length < 16) ∧
    (∃ (a : Applying) (e : List Byte), ∃ u : State, u.pocket.applying = some a ∧ supRuns u = true ∧ kumMirrored u a = true ∧
      (a.waits = false ∨ holdsForYoke u = true) ∧ a.kind = 4 ∧ a.entries = [e]) ∧
    (∃ u : State, u.pocket.applying = none) ∧
    (∃ (h : Fin 4) (tk : Taken) (u : State), Dispatched h 0x0D04 tk (enqueue h tk u) ∧ fld tk.payload 0 2 ≤ 255 ∧
      (fld tk.payload 0 2 ≤ 5 ∨ 16 ≤ fld tk.payload 0 2)) ∧
    (∃ (h : Fin 4) (tk : Taken) (u : State), Dispatched h 0x0D04 tk (enqueue h tk u) ∧
      (255 < fld tk.payload 0 2 ∨ 6 ≤ fld tk.payload 0 2 ∧ fld tk.payload 0 2 ≤ 15)) ∧
    (∃ (h : Fin 4) (tk : Taken) (u : State), Dispatched h 0x0D05 tk (enqueue h tk u) ∧
      (fld tk.payload 0 2 = 0xFFFF ∨ fld tk.payload 0 2 = 0) ∧ ((u.host h).openCmds.filter fun c => !c.dead).length < 16) ∧
    (∃ (a : Attest) (rest : List Attest) (b sig : List Byte) (z : State), ∃ u : State, u.pocket.attests = a :: rest ∧ supRuns u = true ∧
      b = statement u (fld a.taken.payload 0 2) ((a.taken.payload.drop 8).take 32) ∧
      signBytes (slotPublic u 0 ((keySlot u 0).getD {})) 96 b u = (sig, z)) :=
  ⟨⟨0, cmd 0x0D02 (leBytes 8 0 ++ [1, 2]), working, ⟨rfl, rfl⟩, by decide⟩,
   ⟨0, cmd 0x0D02 (leBytes 8 2 ++ [1, 2]), (working.onPocket fun k => { k with staged := [1, 2] }), ⟨rfl, rfl⟩, by decide⟩,
   ⟨true, 0, cmd 0x0D03 (leBytes 8 2), (working.onPocket fun k => { k with staged := [1, 2] }), ⟨rfl, rfl⟩, by decide⟩,
   ⟨0, cmd 0x0D03 (leBytes 4 280 ++ leBytes 4 0), (working.onPocket fun k => { k with staged := leBytes 2 1 ++ leBytes 2 4 ++ leBytes 2 1 ++ leBytes 146 0 ++ leBytes 4 8 ++ leBytes 124 0 }), ⟨rfl, rfl⟩, by set_option maxRecDepth 20000 in decide⟩,
   ⟨7, _, _, 0, cmd 0x0D03 (leBytes 4 280 ++ leBytes 4 0), (sealedKum (leBytes 2 1 ++ leBytes 1 7 ++ leBytes 1 0 ++ leBytes 2 1 ++ leBytes 2 0 ++ leBytes 4 0x9100 ++ leBytes 4 1 ++ leBytes 32 (Config.idHash false 0) ++ leBytes 104 0 ++ leBytes 4 8 ++ leBytes 4 0)), ⟨rfl, rfl⟩, by 
    refine ⟨by decide, by decide, by decide, by set_option maxRecDepth 20000 in decide, by set_option maxRecDepth 20000 in decide, by decide, ?_, by decide, by decide, by decide, by decide, by decide, ?_, rfl, ?_, ?_, by decide⟩
    · show fld ((leBytes 2 1 ++ leBytes 1 7 ++ leBytes 1 0 ++ leBytes 2 1 ++ leBytes 2 0 ++ leBytes 4 0x9100 ++ leBytes 4 1 ++ leBytes 32 (Config.idHash false 0) ++ leBytes 104 0 ++ leBytes 4 8 ++ leBytes 4 0) ++ _) 16 32 = Config.idHash false 0
      simp only [List.append_assoc]
      rw [fld_next (by simp), fld_next (by simp), fld_next (by simp), fld_next (by simp), fld_next (by simp), fld_next (by simp), fld_next (by simp)]
      simp only [leBytes_length]
      rw [fld_head]
      exact Nat.mod_eq_of_lt (BitVec.isLt _)
    · exact kumOpen_sealed (by simp) (by decide)
    · decide
    · rfl⟩,
   ⟨{ kind := 4, entries := [leBytes 8 3] }, leBytes 8 3, (working.onPocket fun k => { k with applying := some { kind := 4, entries := [leBytes 8 3] } }), by decide⟩,
   ⟨working, by decide⟩,
   ⟨0, cmd 0x0D04 (leBytes 4 2), working, ⟨rfl, rfl⟩, by decide⟩,
   ⟨0, cmd 0x0D04 (leBytes 4 6), working, ⟨rfl, rfl⟩, by decide⟩,
   ⟨0, cmd 0x0D05 (leBytes 40 0), working, ⟨rfl, rfl⟩, by decide⟩,
   ⟨{}, [], _, _, _, (working.onPocket fun k => { k with attests := [{}] }), by exact ⟨rfl, by decide, rfl, rfl⟩⟩⟩

/-- The hypotheses of FirmwareUpdate can be met. -/
theorem witness_firmware_update :
    (∃ (hd : List Byte), ∃ (h : Fin 4) (tk : Taken) (u : State), Dispatched h 0x0E02 tk (enqueue h tk u) ∧ u.fwu.job = none ∧
      othersStaging u h.val = false ∧ hd = (tk.payload.drop 8).take 256 ∧ fld tk.payload 0 1 = 0 ∧ imgForm hd = true ∧
      imgBinding u hd = true ∧ u.fwu.floor ≤ imgSvn hd ∧ imgSize hd ≤ slotBytes u ∧ isDelta hd = false ∧
      ((u.host h).openCmds.filter fun c => !c.dead).length < 16) ∧
    (∃ (piece : List Byte), ∃ (h : Fin 4) (tk : Taken) (u : State), Dispatched h 0x0E03 tk (enqueue h tk u) ∧ u.fwu.job = none ∧
      othersStaging u h.val = false ∧ u.fwu.staging = 1 ∧ piece = tk.payload.drop 8 ∧ piece ≠ [] ∧ piece.length ≤ 1024 ∧
      fld tk.payload 0 4 % 1024 = 0 ∧ (piece.length = 1024 ∧
      fld tk.payload 0 4 + piece.length ≤ imgSize u.fwu.header ∨ fld tk.payload 0 4 + piece.length = imgSize u.fwu.header) ∧
      tfind u.fwu.pieces (fld tk.payload 0 4 / 1024) = none) ∧
    (∃ (h : Fin 4) (tk : Taken) (u : State), Dispatched h 0x0E04 tk (enqueue h tk u) ∧ u.fwu.job = none ∧
      othersStaging u h.val = false ∧ u.fwu.staging = 1 ∧ granules u ≤ u.fwu.pieces.length ∧
      ((u.host h).openCmds.filter fun c => !c.dead).length < 16) ∧
    (∃ (h : Fin 4) (tk : Taken) (u : State), Dispatched h 0x0E06 tk (enqueue h tk u) ∧ fld tk.payload 0 1 ≤ imgSvn u.fwu.active ∧
      fld tk.payload 0 1 ≤ 63 ∧ fld tk.payload 4 4 = 0x464C4F52 ∧ u.fwu.confirmed = true ∧ u.fwu.floor < fld tk.payload 0 1) ∧
    (∃ (j : FwuJob), ∃ u : State, fwuRuns u = true ∧ u.fwu.job = some j ∧ j.finish = false) ∧
    (∃ (sigOk resOk : Bool) (j : FwuJob) (v : Status), ∃ u : State, fwuRuns u = true ∧ u.fwu.job = some j ∧ j.finish = true ∧
      u.fwu.staging = 2 ∧ finishVerdict u sigOk = v ∧ v ≠ .ok) ∧
    (∃ (sigOk resOk : Bool) (j : FwuJob), ∃ u : State, u.pwr.stage = .running ∧ supRuns u = true ∧ u.fwu.job = some j ∧
      j.finish = true ∧ j.restartKey = 0 ∧ u.fwu.staging = 2 ∧ finishVerdict u sigOk = .ok) ∧
    (∃ (source n : Nat) (hdr : CmdHeader) (payload : List Byte), ∃ u : State, u.pwr.stage = .recovery ∧ u.pwr.hemFlag = false ∧
      hdr.length ≤ 4080 ∧ hdr.flags ≤ 1 ∧ romCommand hdr.opcode = false ∧ source ∈ u.fwu.sources ∧
      n = u.fwu.sources.findIdx (· == source)) ∧
    (∃ (source n : Nat) (hdr : CmdHeader) (payload : List Byte) (tk : Taken), ∃ u : State, u.pwr.stage = .recovery ∧
      u.pwr.hemFlag = false ∧ hdr.length ≤ 4080 ∧ hdr.flags ≤ 1 ∧ source ∈ u.fwu.sources ∧ n = u.fwu.sources.findIdx (· == source) ∧
      checkCommand u (takenOf hdr payload) = .pass tk) :=
  ⟨⟨_, 0, cmd 0x0E02 (leBytes 8 0 ++ leBytes 4 0x57465144 ++ leBytes 2 1 ++ leBytes 2 0 ++ leBytes 4 0x9100 ++ leBytes 4 0 ++ leBytes 4 0 ++ leBytes 4 1024 ++ leBytes 232 0), working, ⟨rfl, rfl⟩, by refine ⟨by decide, by decide, rfl, by decide, ?_, ?_, ?_, ?_, ?_, by decide⟩ <;> set_option maxRecDepth 20000 in decide⟩,
   ⟨[7], 0, cmd 0x0E03 (leBytes 8 0 ++ [7]), (working.onFwu fun f => { f with staging := 1, header := leBytes 20 0 ++ leBytes 4 1 }), ⟨rfl, rfl⟩, by decide⟩,
   ⟨0, cmd 0x0E04 (leBytes 8 0), (working.onFwu fun f => { f with staging := 1 }), ⟨rfl, rfl⟩, by decide⟩,
   ⟨0, cmd 0x0E06 (leBytes 4 2 ++ leBytes 4 0x464C4F52), (working.onFwu fun f => { f with active := leBytes 16 0 ++ leBytes 4 3, confirmed := true, floor := 0 }), ⟨rfl, rfl⟩, by decide⟩,
   ⟨{}, (working.onFwu fun f => { f with job := some {} }), by decide⟩,
   ⟨false, false, { finish := true }, .denied, (working.onFwu fun f => { f with staging := 2, job := some { finish := true } }), by decide⟩,
   ⟨true, true, { finish := true }, (working.onFwu fun f => { f with staging := 2, job := some { finish := true }, pieces := [(0, leBytes 4 0x57465144 ++ leBytes 2 1 ++ leBytes 2 0 ++ leBytes 4 0x9100 ++ leBytes 244 0)] }), by set_option maxRecDepth 20000 in decide⟩,
   ⟨9, 0, { opcode := 0x0302 }, [], ((working.onPwr fun p => { p with stage := .recovery }).onFwu fun f => { f with sources := [9] }), by decide⟩,
   ⟨9, 0, { opcode := 0x0E01 }, [], { opcode := 0x0E01 }, ((working.onPwr fun p => { p with stage := .recovery }).onFwu fun f => { f with sources := [9] }), by decide⟩⟩

/-- The hypotheses of Heartbeats can be met. -/
theorem witness_heartbeats :
    (∃ (e : SchedEntry), ∃ u : State, pairOn u = true ∧ pairAlive u = true ∧ nextDue u = some e ∧ e.action = .heartbeat ∧
      resyncDone u = false ∧ handoverDue u = false ∧ (u.pair.state ≠ .active ∨ u.pair.mirroring = false)) ∧
    (∃ (hb : HbMsg) (mark : LaneSeal), ∃ u : State, pairOn u = true ∧ u.pwr.stage = .running ∧ u.pair.laneUp = true ∧ hb.lane = true ∧
      laneVerifies u (.heartbeat hb) mark = false) ∧
    (∃ (hb : HbMsg) (mark : LaneSeal), ∃ u : State, pairOn u = true ∧ u.pwr.stage = .running ∧ u.pair.laneUp = true ∧ hb.lane = true ∧
      laneVerifies u (.heartbeat hb) mark = true) ∧
    (∃ (hb : HbMsg) (mark : LaneSeal), ∃ u : State, pairOn u = true ∧ u.pwr.stage = .running ∧ hb.lane = false ∧ hb.crc ≠ frameCrc hb) ∧
    (∃ (hb : HbMsg) (mark : LaneSeal), ∃ u : State, pairOn u = true ∧ u.pwr.stage = .running ∧ hb.lane = false ∧ hb.crc = frameCrc hb ∧
      hb.side = (pairCfg u).side) ∧
    (∃ (hb : HbMsg) (mark : LaneSeal), ∃ u : State, pairOn u = true ∧ u.pwr.stage = .running ∧ hb.lane = false ∧ hb.crc = frameCrc hb ∧
      hb.side ≠ (pairCfg u).side ∧ hb.hem = false ∧ hb.handover = false ∧ (∀ l, u.pair.lastHb = some l → l.cycle < hb.cycle) ∧
      pairBound u = false ∧ u.pair.state = .standby ∧ hb.state = .standby) ∧
    (∃ (l : HbMsg), ∃ u : State, pairOn u = true ∧ u.pwr.stage = .running ∧ u.pair.lastHb = some l ∧ u.pair.deadline ≤ u.rc ∧
      u.pair.misses < 2) ∧
    (∃ (l : HbMsg), ∃ u : State, pairOn u = true ∧ u.pwr.stage = .running ∧ u.pair.lastHb = some l ∧ u.pair.deadline ≤ u.rc ∧
      u.pair.misses = 2 ∧ pairBound u = false ∧ u.pair.state = .inSync ∧ u.pwr.hemFlag = false) ∧
    (∃ (l : HbMsg), ∃ u : State, pairOn u = true ∧ u.pwr.stage = .running ∧ u.pair.lastHb = some l ∧ u.pair.deadline ≤ u.rc ∧
      u.pair.misses = 2 ∧ pairBound u = false ∧ u.pair.state = .active) ∧
    (∃ (c : Nat), ∃ u : State, pairOn u = true ∧ u.pwr.stage = .running ∧ u.pair.listenEnd = some c ∧ c ≤ u.mains.cycle ∧
      u.pair.clashed = false ∧ u.pair.partner = none) ∧
    (∃ u : State, pairOn u = true ∧ u.pwr.stage = .running ∧ u.pair.state = .inSync) ∧
    (∃ u : State, pairOn u = true ∧ u.pwr.stage = .running ∧ u.pair.state = .active) ∧
    (∃ (k : Nat), ∃ u : State, pairOn u = true ∧ u.pwr.stage = .running ∧ u.pair.forceSolo = none ∧ u.pair.handoverK = some k ∧
      k ≤ u.mains.cycle ∧ u.pair.state = .active ∧ u.pair.partner = some .inSync) ∧
    (∃ (k : Nat), ∃ u : State, pairOn u = true ∧ u.pwr.stage = .running ∧ u.pair.forceSolo = none ∧ u.pair.handoverK = some k ∧
      k ≤ u.mains.cycle ∧ u.pair.partner ≠ some .inSync) ∧
    (∃ (k : Nat), ∃ u : State, pairOn u = true ∧ u.pwr.stage = .running ∧ u.pair.forceSolo = some k ∧ k ≤ u.mains.cycle ∧
      u.pair.state = .standby) ∧
    (∃ u : State, pairOn u = true ∧ u.pwr.stage = .running ∧ (pairCfg u).revert = true ∧ (pairCfg u).side = 0 ∧ u.pair.returned = true ∧
      u.pair.state = .inSync ∧ u.pair.insyncKey + (pairCfg u).holdoffMc * mc ≤ u.key) ∧
    (∃ (out : Nat), ∃ u : State, out < 8 ∧ (pulseCfg u out).enable = true ∧ pairOn u = true ∧ leads u.pair.state = false ∧
      u.pwr.stage = .running) :=
  ⟨⟨{ cls := 1, action := .heartbeat }, ((paired fun p => { p with state := .solo }).onSched fun c => { c with entries := [{ cls := 1, action := .heartbeat }] }), by decide⟩,
   ⟨{ lane := true }, {}, (paired fun p => { p with laneUp := true }), by decide⟩,
   ⟨{ lane := true }, { tag := laneTag ((paired fun p => { p with laneUp := true, state := .standby }).onPocket fun k => { k with slots := [(5, {})] }) 1 0 0 (.heartbeat { lane := true }) }, ((paired fun p => { p with laneUp := true, state := .standby }).onPocket fun k => { k with slots := [(5, {})] }), by exact ⟨by decide, by decide, by decide, rfl, laneVerifies_sealed (s := ((paired fun p => { p with laneUp := true, state := .standby }).onPocket fun k => { k with slots := [(5, {})] })) (by decide)⟩⟩,
   ⟨{ crc := 1 + frameCrc {} }, {}, (paired fun p => { p with laneUp := true }), by exact ⟨by decide, by decide, rfl, by show 1 + frameCrc {} ≠ frameCrc { ({} : HbMsg) with crc := 1 + frameCrc {} }; rw [frameCrc_crc]; generalize frameCrc {} = c; bv_omega⟩⟩,
   ⟨{ crc := frameCrc {} }, {}, (paired fun p => { p with laneUp := true }), by exact ⟨by decide, by decide, rfl, frameCrc_kept {}, by decide⟩⟩,
   ⟨{ side := 1, state := .standby, cycle := 5, crc := frameCrc { side := 1, state := .standby, cycle := 5 } }, {}, (paired fun p => { p with state := .standby }), by exact ⟨by decide, by decide, rfl, frameCrc_kept { side := 1, state := .standby, cycle := 5 }, by decide, rfl, rfl, (by intro l h; have h : (none : Option HbMsg) = some l := h; cases h), by decide, rfl, rfl⟩⟩,
   ⟨{}, (paired fun p => { p with lastHb := some {} }), by decide⟩,
   ⟨{}, (paired fun p => { p with lastHb := some {}, misses := 2, state := .inSync }), by decide⟩,
   ⟨{}, (paired fun p => { p with lastHb := some {}, misses := 2, state := .active }), by decide⟩,
   ⟨0, (paired fun p => { p with listenEnd := some 0 }), by decide⟩,
   ⟨(paired fun p => { p with state := .inSync }), by decide⟩,
   ⟨(paired fun p => { p with state := .active }), by decide⟩,
   ⟨0, (paired fun p => { p with handoverK := some 0, state := .active, partner := some .inSync }), by decide⟩,
   ⟨0, (paired fun p => { p with handoverK := some 0, state := .active }), by decide⟩,
   ⟨0, (paired fun p => { p with forceSolo := some 0, state := .standby }), by decide⟩,
   ⟨(((paired fun p => { p with returned := true, state := .inSync }).onCfg fun c => { c with startCfg := { c.startCfg with pair := { c.startCfg.pair with revert := true, holdoffMc := 1 } } }).onMains fun m => { m with cycle := 9 }), by decide⟩,
   ⟨2, ((paired fun p => { p with state := .standby }).onCfg fun c => { c with act := { c.act with pulses := List.replicate 8 { enable := true } } }), by decide⟩⟩

/-- The hypotheses of MirrorAndPairCommands can be met. -/
theorem witness_mirror_and_pair_commands :
    (∃ (jseq : Nat) (body : DeltaBody) (mark : LaneSeal), ∃ u : State, pairOn u = true ∧ u.pwr.stage = .running ∧ u.pair.laneUp = true ∧
      laneVerifies u (.delta jseq body) mark = false) ∧
    (∃ (jseq k : Nat) (body : DeltaBody) (mark : LaneSeal), ∃ u : State, pairOn u = true ∧ u.pwr.stage = .running ∧
      u.pair.laneUp = true ∧ laneVerifies u (.delta jseq body) mark = true ∧ u.pair.state = .inSync ∧ u.pair.rxJseq = some k ∧
      k + 1 < jseq) ∧
    (∃ (jseq slot ic : Nat) (mark : LaneSeal), ∃ u : State, pairOn u = true ∧ u.pwr.stage = .running ∧ u.pair.laneUp = true ∧
      laneVerifies u (.delta jseq (.bcast slot ic)) mark = true ∧ u.pair.state = .inSync ∧
      (∀ k, u.pair.rxJseq = some k → jseq ≤ k + 1) ∧ itemJseq u (2, slot) < jseq) ∧
    (∃ (jseq : Nat) (im : List Nat) (mark : LaneSeal), ∃ u : State, pairOn u = true ∧ u.pwr.stage = .running ∧ u.pair.laneUp = true ∧
      laneVerifies u (.delta jseq (.legal im)) mark = true ∧ u.pair.state = .inSync ∧ (∀ k, u.pair.rxJseq = some k → jseq ≤ k + 1) ∧
      itemJseq u (3, 0) < jseq) ∧
    (∃ (jseq : Nat) (body : DeltaBody) (mark : LaneSeal), ∃ u : State, pairOn u = true ∧ u.pwr.stage = .running ∧ u.pair.laneUp = true ∧
      laneVerifies u (.delta jseq body) mark = true ∧ u.pair.state = .resync ∧ (∀ k, u.pair.rxJseq = some k → jseq ≤ k + 1) ∧
      u.pair.snapEndSeen = none) ∧
    (∃ (jseq slot ic : Nat) (mark : LaneSeal), ∃ u : State, pairOn u = true ∧ u.pwr.stage = .running ∧ u.pair.laneUp = true ∧
      laneVerifies u (.snapshot jseq (.bcast slot ic)) mark = true ∧ u.pair.state = .resync ∧ itemJseq u (2, slot) < jseq) ∧
    (∃ (jseq : Nat) (body : DeltaBody) (mark : LaneSeal), ∃ u : State, pairOn u = true ∧ u.pwr.stage = .running ∧ u.pair.laneUp = true ∧
      laneVerifies u (.snapshot jseq body) mark = true ∧ u.pair.state = .resync ∧ jseq ≤ itemJseq u body.item) ∧
    (∃ (jseq : Nat) (mark : LaneSeal), ∃ u : State, pairOn u = true ∧ u.pwr.stage = .running ∧ u.pair.laneUp = true ∧
      laneVerifies u (.snapshotEnd jseq) mark = true ∧ u.pair.state = .resync) ∧
    (∃ (mark : LaneSeal), ∃ u : State, pairOn u = true ∧ u.pwr.stage = .running ∧ u.pair.laneUp = true ∧
      laneVerifies u (.syncLost) mark = true ∧ u.pair.state = .resync) ∧
    (∃ (mark : LaneSeal), ∃ u : State, pairOn u = true ∧ u.pwr.stage = .running ∧ u.pair.laneUp = true ∧
      laneVerifies u (.syncLost) mark = true ∧ u.pair.state = .inSync) ∧
    (∃ (jseq : Nat) (mark : LaneSeal), ∃ u : State, pairOn u = true ∧ u.pwr.stage = .running ∧ u.pair.laneUp = true ∧
      laneVerifies u (.ack jseq) mark = true ∧ u.pair.state = .active ∧ jseq ≤ u.pair.jseq ∧ u.pair.ackedJseq < jseq) ∧
    (∃ u : State, pairOn u = true ∧ u.pwr.stage = .running ∧ u.pair.state = .active ∧ u.pair.mirroring = true ∧
      u.pair.journalOpen = false ∧ u.pair.mirLegalKey + 2 * mc ≤ u.key ∧ u.key < u.pair.mirDemandKey + 50 * mc) ∧
    (∃ u : State, pairOn u = true ∧ u.pwr.stage = .running ∧ u.pair.state = .active ∧ u.pair.mirroring = true ∧
      u.key < u.pair.mirLegalKey + 2 * mc ∧ u.key < u.pair.mirDemandKey + 50 * mc) ∧
    (∃ (k : Nat), ∃ u : State, pairOn u = true ∧ u.pwr.stage = .running ∧ u.pair.retryKey = some k ∧ k ≤ u.key) ∧
    (∃ (k : Nat), ∃ (h : Fin 4) (tk : Taken) (u : State), Dispatched h 0x0F02 tk (enqueue h tk u) ∧ fld tk.payload 0 1 = 0 ∧
      u.pair.state = .active ∧ u.pair.partner = some .inSync ∧ u.pair.handoverK = none ∧
      k = (if u.phase = 0 then u.mains.cycle + 2 else u.mains.cycle + 3)) ∧
    (∃ (h : Fin 4) (tk : Taken) (u : State), Dispatched h 0x0F02 tk (enqueue h tk u) ∧ fld tk.payload 0 1 = 1 ∧
      (u.pair.state = .standby ∨ u.pair.state = .resync) ∧ u.pair.misses = 3 ∧ u.pair.clashed = false) ∧
    (∃ (h : Fin 4) (tk : Taken) (u : State), Dispatched h 0x0F02 tk (enqueue h tk u) ∧ fld tk.payload 0 1 = 0 ∧ u.pair.state ≠ .active) ∧
    (∃ (h : Fin 4) (tk : Taken) (u : State), Dispatched h 0x0F03 tk (enqueue h tk u) ∧ fld tk.payload 33 4 = 0x50414952 ∧
      fld tk.payload 0 32 ≠ 0 ∧ fld tk.payload 0 32 ≠ idHashNow u ∧ fld tk.payload 32 1 ≤ 1 ∧ u.pair.locks.length < 4) ∧
    (∃ (h : Fin 4) (tk : Taken) (u : State), Dispatched h 0x0F03 tk (enqueue h tk u) ∧ fld tk.payload 33 4 = 0x50414952 ∧
      fld tk.payload 0 32 ≠ 0 ∧ fld tk.payload 0 32 ≠ idHashNow u ∧ fld tk.payload 32 1 ≤ 1 ∧ 4 ≤ u.pair.locks.length) :=
  ⟨⟨9, .bcast 1 2, {}, (paired fun p => { p with laneUp := true, state := .inSync }), by decide⟩,
   ⟨9, 3, .bcast 1 2, { tag := laneTag ((paired fun p => { p with laneUp := true, state := .inSync, rxJseq := some 3 }).onPocket fun k => { k with slots := [(5, {})] }) 1 0 0 (.delta 9 (.bcast 1 2)) }, ((paired fun p => { p with laneUp := true, state := .inSync, rxJseq := some 3 }).onPocket fun k => { k with slots := [(5, {})] }), by exact ⟨by decide, by decide, by decide, laneVerifies_sealed (s := ((paired fun p => { p with laneUp := true, state := .inSync, rxJseq := some 3 }).onPocket fun k => { k with slots := [(5, {})] })) (by decide), by decide, by decide, by decide⟩⟩,
   ⟨9, 1, 2, { tag := laneTag ((paired fun p => { p with laneUp := true, state := .inSync }).onPocket fun k => { k with slots := [(5, {})] }) 1 0 0 (.delta 9 (.bcast 1 2)) }, ((paired fun p => { p with laneUp := true, state := .inSync }).onPocket fun k => { k with slots := [(5, {})] }), by exact ⟨by decide, by decide, by decide, laneVerifies_sealed (s := ((paired fun p => { p with laneUp := true, state := .inSync }).onPocket fun k => { k with slots := [(5, {})] })) (by decide), by decide, (by intro k h; have h : (none : Option Nat) = some k := h; cases h), by decide⟩⟩,
   ⟨9, [], { tag := laneTag ((paired fun p => { p with laneUp := true, state := .inSync }).onPocket fun k => { k with slots := [(5, {})] }) 1 0 0 (.delta 9 (.legal [])) }, ((paired fun p => { p with laneUp := true, state := .inSync }).onPocket fun k => { k with slots := [(5, {})] }), by exact ⟨by decide, by decide, by decide, laneVerifies_sealed (s := ((paired fun p => { p with laneUp := true, state := .inSync }).onPocket fun k => { k with slots := [(5, {})] })) (by decide), by decide, (by intro k h; have h : (none : Option Nat) = some k := h; cases h), by decide⟩⟩,
   ⟨9, .bcast 1 2, { tag := laneTag ((paired fun p => { p with laneUp := true, state := .resync }).onPocket fun k => { k with slots := [(5, {})] }) 1 0 0 (.delta 9 (.bcast 1 2)) }, ((paired fun p => { p with laneUp := true, state := .resync }).onPocket fun k => { k with slots := [(5, {})] }), by exact ⟨by decide, by decide, by decide, laneVerifies_sealed (s := ((paired fun p => { p with laneUp := true, state := .resync }).onPocket fun k => { k with slots := [(5, {})] })) (by decide), by decide, (by intro k h; have h : (none : Option Nat) = some k := h; cases h), by decide⟩⟩,
   ⟨9, 1, 2, { tag := laneTag ((paired fun p => { p with laneUp := true, state := .resync }).onPocket fun k => { k with slots := [(5, {})] }) 1 0 0 (.snapshot 9 (.bcast 1 2)) }, ((paired fun p => { p with laneUp := true, state := .resync }).onPocket fun k => { k with slots := [(5, {})] }), by exact ⟨by decide, by decide, by decide, laneVerifies_sealed (s := ((paired fun p => { p with laneUp := true, state := .resync }).onPocket fun k => { k with slots := [(5, {})] })) (by decide), by decide, by decide⟩⟩,
   ⟨0, .bcast 1 2, { tag := laneTag ((paired fun p => { p with laneUp := true, state := .resync }).onPocket fun k => { k with slots := [(5, {})] }) 1 0 0 (.snapshot 0 (.bcast 1 2)) }, ((paired fun p => { p with laneUp := true, state := .resync }).onPocket fun k => { k with slots := [(5, {})] }), by exact ⟨by decide, by decide, by decide, laneVerifies_sealed (s := ((paired fun p => { p with laneUp := true, state := .resync }).onPocket fun k => { k with slots := [(5, {})] })) (by decide), by decide, by decide⟩⟩,
   ⟨9, { tag := laneTag ((paired fun p => { p with laneUp := true, state := .resync }).onPocket fun k => { k with slots := [(5, {})] }) 1 0 0 (.snapshotEnd 9) }, ((paired fun p => { p with laneUp := true, state := .resync }).onPocket fun k => { k with slots := [(5, {})] }), by exact ⟨by decide, by decide, by decide, laneVerifies_sealed (s := ((paired fun p => { p with laneUp := true, state := .resync }).onPocket fun k => { k with slots := [(5, {})] })) (by decide), by decide⟩⟩,
   ⟨{ tag := laneTag ((paired fun p => { p with laneUp := true, state := .resync }).onPocket fun k => { k with slots := [(5, {})] }) 1 0 0 (.syncLost) }, ((paired fun p => { p with laneUp := true, state := .resync }).onPocket fun k => { k with slots := [(5, {})] }), by exact ⟨by decide, by decide, by decide, laneVerifies_sealed (s := ((paired fun p => { p with laneUp := true, state := .resync }).onPocket fun k => { k with slots := [(5, {})] })) (by decide), by decide⟩⟩,
   ⟨{ tag := laneTag ((paired fun p => { p with laneUp := true, state := .inSync }).onPocket fun k => { k with slots := [(5, {})] }) 1 0 0 (.syncLost) }, ((paired fun p => { p with laneUp := true, state := .inSync }).onPocket fun k => { k with slots := [(5, {})] }), by exact ⟨by decide, by decide, by decide, laneVerifies_sealed (s := ((paired fun p => { p with laneUp := true, state := .inSync }).onPocket fun k => { k with slots := [(5, {})] })) (by decide), by decide⟩⟩,
   ⟨4, { tag := laneTag ((paired fun p => { p with laneUp := true, state := .active, jseq := 6 }).onPocket fun k => { k with slots := [(5, {})] }) 1 0 0 (.ack 4) }, ((paired fun p => { p with laneUp := true, state := .active, jseq := 6 }).onPocket fun k => { k with slots := [(5, {})] }), by exact ⟨by decide, by decide, by decide, laneVerifies_sealed (s := ((paired fun p => { p with laneUp := true, state := .active, jseq := 6 }).onPocket fun k => { k with slots := [(5, {})] })) (by decide), by decide, by decide, by decide⟩⟩,
   ⟨((paired fun p => { p with laneUp := true, state := .active, mirroring := true }).onMains fun m => { m with cycle := 3 }), by decide⟩,
   ⟨(paired fun p => { p with laneUp := true, state := .active, mirroring := true }), by decide⟩,
   ⟨0, (paired fun p => { p with retryKey := some 0 }), by decide⟩,
   ⟨_, 0, cmd 0x0F02 (leBytes 4 0), (paired fun p => { p with state := .active, partner := some .inSync }), ⟨rfl, rfl⟩, by exact ⟨by decide, by decide, by decide, by decide, rfl⟩⟩,
   ⟨0, cmd 0x0F02 (leBytes 4 1), (paired fun p => { p with state := .standby, misses := 3 }), ⟨rfl, rfl⟩, by decide⟩,
   ⟨0, cmd 0x0F02 (leBytes 4 0), (paired fun p => { p with state := .standby }), ⟨rfl, rfl⟩, by decide⟩,
   ⟨0, cmd 0x0F03 (leBytes 32 (if Config.idHash false 0 = 1 then 2 else 1) ++ [0] ++ leBytes 4 0x50414952), working, ⟨rfl, rfl⟩, by 
    have hw : idHashNow working = Config.idHash false 0 := rfl
    refine ⟨?_, ?_⟩
    · show fld (leBytes 32 _ ++ [0] ++ leBytes 4 0x50414952) 33 4 = _
      simp only [List.append_assoc]
      rw [fld_next (by simp)]
      decide
    show fld (leBytes 32 (if Config.idHash false 0 = 1 then 2 else 1) ++ [0] ++ leBytes 4 0x50414952) 0 32 ≠ 0 ∧ fld (leBytes 32 (if Config.idHash false 0 = 1 then 2 else 1) ++ [0] ++ leBytes 4 0x50414952) 0 32 ≠ idHashNow working ∧
      fld (leBytes 32 (if Config.idHash false 0 = 1 then 2 else 1) ++ [0] ++ leBytes 4 0x50414952) 32 1 ≤ 1 ∧ working.pair.locks.length < 4
    simp only [List.append_assoc, fld_head, hw]
    refine ⟨?_, ?_, ?_, by decide⟩
    · split <;> decide
    · split <;> rename_i h
      · rw [h]; decide
      · intro g; exact h (g.symm.trans (by rfl))
    · rw [fld_next (by simp)]; decide⟩,
   ⟨0, cmd 0x0F03 (leBytes 32 (if Config.idHash false 0 = 1 then 2 else 1) ++ [0] ++ leBytes 4 0x50414952), (working.onPair fun p => { p with locks := [(1, 0), (1, 0), (1, 0), (1, 0)] }), ⟨rfl, rfl⟩, by 
    have hw : idHashNow (working.onPair fun p => { p with locks := [(1, 0), (1, 0), (1, 0), (1, 0)] }) = Config.idHash false 0 := rfl
    refine ⟨?_, ?_⟩
    · show fld (leBytes 32 _ ++ [0] ++ leBytes 4 0x50414952) 33 4 = _
      simp only [List.append_assoc]
      rw [fld_next (by simp)]
      decide
    show fld (leBytes 32 (if Config.idHash false 0 = 1 then 2 else 1) ++ [0] ++ leBytes 4 0x50414952) 0 32 ≠ 0 ∧ fld (leBytes 32 (if Config.idHash false 0 = 1 then 2 else 1) ++ [0] ++ leBytes 4 0x50414952) 0 32 ≠ idHashNow (working.onPair fun p => { p with locks := [(1, 0), (1, 0), (1, 0), (1, 0)] }) ∧
      fld (leBytes 32 (if Config.idHash false 0 = 1 then 2 else 1) ++ [0] ++ leBytes 4 0x50414952) 32 1 ≤ 1 ∧ 4 ≤ (working.onPair fun p => { p with locks := [(1, 0), (1, 0), (1, 0), (1, 0)] }).pair.locks.length
    simp only [List.append_assoc, fld_head, hw]
    refine ⟨?_, ?_, ?_, by decide⟩
    · split <;> decide
    · split <;> rename_i h
      · rw [h]; decide
      · intro g; exact h (g.symm.trans (by rfl))
    · rw [fld_next (by simp)]; decide⟩⟩

/-- The hypotheses of EventRecorder can be met. -/
theorem witness_event_recorder :
    (∃ (e : QEvent) (rest : List QEvent), ∃ u : State, recorderLives u = true ∧ u.evt.q10 = e :: rest ∧ e.reply = none ∧
      (codeCfg u e.code).rate = 0 ∧ u.evt.ring.length < ringSlots u ∧ u.evt.lost = []) ∧
    (∃ (e : QEvent) (rest : List QEvent), ∃ u : State, recorderLives u = true ∧ u.evt.q10 = e :: rest ∧ e.reply = none ∧
      (codeCfg u e.code).rate ≠ 0 ∧ tokensNow u e.code < tokenUnit ∧ mayTake u = true ∧ u.evt.lost = []) ∧
    (∃ u : State, mayTake u = false) ∧
    (∃ (code : Nat), ∃ u : State, recorderLives u = true ∧ mayTake u = true ∧ (codeSt u code).suppressed ≠ 0 ∧
      (codeCfg u code).burst * tokenUnit ≤ tokensNow u code ∧ code ≠ 0x1003 ∧ u.evt.ring.length < ringSlots u) ∧
    (∃ u : State, u.pwr.aonOn = true ∧ u.evt.opCheckpoint < u.opTime / ofS 64 * 64) ∧
    (∃ u : State, u.opTime / ofS 64 * 64 ≤ u.evt.opCheckpoint) ∧
    (∃ (q h : Nat) (tk : Taken), ∃ u : State, u.evt.trimPending = true ∧ archWorks u = true ∧ u.evt.trimSeq = some q ∧
      (∀ p ∈ u.arch.pages, p.seq = q → p.durable = true) ∧ u.evt.clearing = some (h, tk)) ∧
    (∃ (q : Nat), ∃ u : State, u.evt.trimPending = true ∧ archWorks u = true ∧ u.evt.trimSeq = some q ∧
      (∀ p ∈ u.arch.pages, p.seq = q → p.durable = true) ∧ u.evt.clearing = none) ∧
    (∃ (q : Nat) (p : _), ∃ u : State, u.evt.trimPending = true ∧ archWorks u = true ∧ u.evt.trimSeq = some q ∧ p ∈ u.arch.pages ∧
      p.seq = q ∧ p.durable = false) ∧
    (∃ u : State, u.evt.trimPending = true ∧ archWorks u = true ∧ u.evt.trimSeq = none) ∧
    (∃ u : State, u.evt.trimPending = false) :=
  ⟨⟨{ code := 0x1006 }, [], (working.onEvt fun v => { v with q10 := [{ code := 0x1006 }] }), by decide⟩,
   ⟨{ code := 0xFF00 }, [], (working.onEvt fun v => { v with q10 := [{ code := 0xFF00 }], codes := [(0xFF00, { tokens := some 0 })] }), by decide⟩,
   ⟨(archUp.onEvt fun v => { v with ring := List.replicate 4096 {} }), by set_option maxRecDepth 30000 in decide⟩,
   ⟨0xFF00, (working.onEvt fun v => { v with codes := [(0xFF00, { suppressed := 3 })] }), by decide⟩,
   ⟨(working.onEvt fun v => { v with opBase := ofS 65 }), by decide⟩,
   ⟨working, by decide⟩,
   ⟨0, 0, {}, (archUp.onEvt fun v => { v with trimPending := true, trimSeq := some 0, clearing := some (0, {}) }), by exact ⟨by decide, by decide, by decide, (by intro p h; cases h), by decide⟩⟩,
   ⟨0, (archUp.onEvt fun v => { v with trimPending := true, trimSeq := some 0 }), by exact ⟨by decide, by decide, by decide, (by intro p h; cases h), by decide⟩⟩,
   ⟨0, { seq := 0 }, ((archUp.onEvt fun v => { v with trimPending := true, trimSeq := some 0 }).onArch fun a => { a with pages := [{ seq := 0 }] }), by exact ⟨by decide, by decide, by decide, List.mem_singleton.2 rfl, rfl, rfl⟩⟩,
   ⟨(archUp.onEvt fun v => { v with trimPending := true }), by decide⟩,
   ⟨working, by decide⟩⟩

/-- The hypotheses of EventCommands can be met. -/
theorem witness_event_commands :
    (∃ (h : Fin 4) (tk : Taken) (u : State), Dispatched h 0x1002 tk (enqueue h tk u) ∧
      (fld tk.payload 4 1 = 0 ∨ 63 < fld tk.payload 4 1 ∨ 3 < fld tk.payload 5 1)) ∧
    (∃ (hit : List EvtRecord), ∃ (h : Fin 4) (tk : Taken) (u : State), Dispatched h 0x1002 tk (enqueue h tk u) ∧
      1 ≤ fld tk.payload 4 1 ∧ fld tk.payload 4 1 ≤ 63 ∧ fld tk.payload 5 1 ≤ 3 ∧ (archWorks u = true ∨ u.evt.ext = []) ∧ hit =
      ((heldRecords u).filter fun r => seqGe r.eseq (fld tk.payload 0 4)).filter (fun r => fld tk.payload 5 1 ≤ r.severity && Nat.land
      r.code (fld tk.payload 10 2) == Nat.land (fld tk.payload 8 2) (fld tk.payload 10 2))) ∧
    (∃ (h : Fin 4) (tk : Taken) (u : State), Dispatched h 0x1003 tk (enqueue h tk u) ∧ codeKnown (fld tk.payload 0 2) = true) ∧
    (∃ (h : Fin 4) (tk : Taken) (u : State), Dispatched h 0x1003 tk (enqueue h tk u) ∧ codeKnown (fld tk.payload 0 2) = false) ∧
    (∃ (h : Fin 4) (tk : Taken) (u : State), Dispatched h 0x1004 tk (enqueue h tk u) ∧ codeKnown (fld tk.payload 0 2) = true ∧
      fld tk.payload 2 1 = 1) ∧
    (∃ (h : Fin 4) (tk : Taken) (u : State), Dispatched h 0x1004 tk (enqueue h tk u) ∧ (codeKnown (fld tk.payload 0 2) = false ∨ 1 <
      fld tk.payload 2 1 ∨ fld tk.payload 2 1 = 0 ∧ (3600 < fld tk.payload 4 2 ∨ fld tk.payload 6 1 = 0 ∨ 8 < fld tk.payload 7 1 ∨
      fld tk.payload 4 2 ≠ 0 ∧ codeSeverity (fld tk.payload 0 2) = 3))) ∧
    (∃ (h : Fin 4) (tk : Taken) (u : State), Dispatched h 0x1004 tk (enqueue h tk u) ∧ codeKnown (fld tk.payload 0 2) = true ∧
      fld tk.payload 2 1 = 0 ∧ fld tk.payload 4 2 ≤ 3600 ∧ fld tk.payload 6 1 ≠ 0 ∧ fld tk.payload 7 1 = 0 ∧
      (fld tk.payload 4 2 = 0 ∨ codeSeverity (fld tk.payload 0 2) ≠ 3) ∧ (codeSt u (fld tk.payload 0 2)).override.isSome = true) ∧
    (∃ (h : Fin 4) (tk : Taken) (u : State), Dispatched h 0x1005 tk (enqueue h tk u) ∧ u.cfg.overlay ≠ 2 ∧ u.cfg.overlay ≠ 4) ∧
    (∃ (h : Fin 4) (tk : Taken) (u : State), Dispatched h 0x1005 tk (enqueue h tk u) ∧ (u.cfg.overlay = 2 ∨ u.cfg.overlay = 4) ∧
      fld tk.payload 0 4 ≠ 0x434C5245) ∧
    (∃ (h : Fin 4) (tk : Taken) (u : State), Dispatched h 0x1005 tk (enqueue h tk u) ∧ (u.cfg.overlay = 2 ∨ u.cfg.overlay = 4) ∧
      fld tk.payload 0 4 = 0x434C5245 ∧ ((u.host h).openCmds.filter fun c => !c.dead).length < 16) ∧
    (∃ (h : Fin 4) (tk : Taken) (u : State), Dispatched h 0x1006 tk (enqueue h tk u) ∧
      (fld tk.payload 4 1 = 0 ∨ 126 < fld tk.payload 4 1)) ∧
    (∃ (out : List (MlogEntry × Nat)), ∃ (h : Fin 4) (tk : Taken) (u : State), Dispatched h 0x1006 tk (enqueue h tk u) ∧
      1 ≤ fld tk.payload 4 1 ∧ fld tk.payload 4 1 ≤ 126 ∧
      out = (u.met.mlog.zipIdx.filter fun e => fld tk.payload 0 4 ≤ e.1.lseq).take (fld tk.payload 4 1)) ∧
    (∃ (h : Fin 4) (tk : Taken) (u : State), Dispatched h 0x1007 tk (enqueue h tk u) ∧ 2 < fld tk.payload 1 1) ∧
    (∃ (h : Fin 4) (tk : Taken) (u : State), Dispatched h 0x1007 tk (enqueue h tk u) ∧ fld tk.payload 1 1 ≤ 2 ∧ recorderLives u = true ∧
      u.evt.q10.length < 1024) :=
  ⟨⟨0, cmd 0x1002 (leBytes 16 0), working, ⟨rfl, rfl⟩, by decide⟩,
   ⟨_, 0, cmd 0x1002 (leBytes 4 0 ++ leBytes 1 1 ++ leBytes 11 0), working, ⟨rfl, rfl⟩, by exact ⟨by decide, by decide, by decide, Or.inr rfl, rfl⟩⟩,
   ⟨0, cmd 0x1003 (leBytes 4 0xFF00), working, ⟨rfl, rfl⟩, by decide⟩,
   ⟨0, cmd 0x1003 (leBytes 4 0), working, ⟨rfl, rfl⟩, by 
    show codeKnown 0 = false
    simp [codeKnown, hostCode, recorderCode, requiredEvents, evCode, EvName.cls]⟩,
   ⟨0, cmd 0x1004 (leBytes 2 0xFF00 ++ leBytes 22 1), working, ⟨rfl, rfl⟩, by decide⟩,
   ⟨0, cmd 0x1004 (leBytes 2 0xFF00 ++ leBytes 22 0), working, ⟨rfl, rfl⟩, by decide⟩,
   ⟨0, cmd 0x1004 (leBytes 2 0xFF00 ++ [0, 0, 5, 0, 4, 0] ++ leBytes 16 0), (working.onEvt fun v => { v with codes := [(0xFF00, { override := some {} })] }), ⟨rfl, rfl⟩, by decide⟩,
   ⟨0, cmd 0x1005 [], working, ⟨rfl, rfl⟩, by decide⟩,
   ⟨0, cmd 0x1005 [], (working.onCfg fun c => { c with overlay := 2 }), ⟨rfl, rfl⟩, by decide⟩,
   ⟨0, cmd 0x1005 (leBytes 8 0x434C5245), (working.onCfg fun c => { c with overlay := 2 }), ⟨rfl, rfl⟩, by decide⟩,
   ⟨0, cmd 0x1006 (leBytes 8 0), working, ⟨rfl, rfl⟩, by decide⟩,
   ⟨[], 0, cmd 0x1006 (leBytes 4 0 ++ leBytes 4 1), working, ⟨rfl, rfl⟩, by decide⟩,
   ⟨0, cmd 0x1007 [0, 3], working, ⟨rfl, rfl⟩, by decide⟩,
   ⟨0, cmd 0x1007 [0, 1], working, ⟨rfl, rfl⟩, by decide⟩⟩

/-- The hypotheses of PowerStates can be met. -/
theorem witness_power_states :
    (∃ (target : Nat) (commit : Bool), ∃ u : State, u.pwr.stage = .running ∧ u.pwr.hemFlag = false ∧
      (u.pwr.state = .run ∨ u.pwr.state = .trim) ∧ (target = 3 ∨ target = 2 ∧ mayChoose u 3 = false) ∧ u.pwr.committed = false ∧
      u.cfg.act.allow.getLsbD (target - 1) = false) ∧
    (∃ u : State, u.pwr.stage = .running ∧ u.pwr.hemFlag = false ∧ (u.pwr.state = .run ∨ u.pwr.state = .trim) ∧
      u.pwr.committed = false ∧ mayChoose u 3 = false ∧ refuser u 2 = none) ∧
    (∃ u : State, u.pwr.stage = .running ∧ u.pwr.hemFlag = false ∧ (u.pwr.state = .run ∨ u.pwr.state = .trim) ∧
      u.pwr.committed = false ∧ refuser u 3 = none) ∧
    (∃ (commit : Bool), ∃ u : State, mayChoose u 3 = true) ∧
    (∃ (target : Nat), ∃ u : State, u.pwr.stage = .running ∧ u.pwr.hemFlag = false ∧ (u.pwr.state = .run ∨ u.pwr.state = .trim) ∧
      u.pwr.committed = false ∧ (target = 3 ∨ target = 2 ∧ mayChoose u 3 = false) ∧ refuser u target = none) ∧
    (∃ (source : Nat), ∃ u : State, u.pwr.stage = .running ∧ u.pwr.hemFlag = false ∧ u.pwr.committed = false ∧ u.pwr.entering = true) ∧
    (∃ (source : Nat), ∃ u : State, u.pwr.stage = .running ∧ u.pwr.hemFlag = false ∧ u.pwr.committed = false ∧ u.pwr.entering = false ∧
      u.pwr.state = .doze ∧ transitOf u .power = none ∧ wakes u source = true) ∧
    (∃ (source : Nat), ∃ u : State, u.pwr.stage = .running ∧ u.pwr.hemFlag = false ∧ u.pwr.committed = false ∧ u.pwr.entering = false ∧
      u.pwr.state = .hold ∧ transitOf u .power = none ∧ (source = 4 ∨ source = 5)) ∧
    (∃ (source : Nat) (x : Transit), ∃ u : State, u.pwr.stage = .running ∧ u.pwr.hemFlag = false ∧ u.pwr.committed = true ∧
      transitOf u .power = some x ∧ x.up = false) ∧
    (∃ (n : Fin 4), ∃ u : State, u.pwr.stage = .running ∧ (u.pwr.state = .run ∨ u.pwr.state = .trim) ∧
      u.cfg.act.allow.getLsbD 0 = true ∧ u.pwr.gated = 0 ∧ clusterIdle u n.val = true ∧ transitOf u (.cluster n.val) = none) ∧
    (∃ (n : Fin 4), ∃ u : State, u.pwr.stage = .running ∧ u.pwr.gated.getLsbD n.val = true ∧ transitOf u (.cluster n.val) = none) ∧
    (∃ (n : Fin 4), ∃ u : State, u.pwr.stage = .running ∧ u.pwr.state = .trim ∧ u.pwr.gated = BitVec.ofNat 4 (2 ^ n.val) ∧
      transitOf u (.cluster n.val) = none ∧ u.fab.heldWords = []) ∧
    (∃ (d : Nat), ∃ u : State, u.pwr.stage = .running ∧ u.pwr.transits = [{ fn := .power, up := false, endRc := d }] ∧ d ≤ u.rc ∧
      u.pwr.target = 2) ∧
    (∃ (n d : Nat), ∃ u : State, u.pwr.stage = .running ∧
      u.pwr.transits = [{ fn := .cluster n, up := false, endRc := d, rearm := some .ungate }] ∧ d ≤ u.rc) :=
  ⟨⟨2, true, working, by decide⟩,
   ⟨((working.onFab fun f => { f with seamUp := true }).onCfg fun c => { c with act := { c.act with allow := 7, defaultTolUs := 10000 } }), by decide⟩,
   ⟨((working.onFab fun f => { f with seamUp := true }).onCfg fun c => { c with act := { c.act with allow := 7, defaultTolUs := 30000 } }), by decide⟩,
   ⟨true, ((working.onFab fun f => { f with seamUp := true }).onCfg fun c => { c with act := { c.act with allow := 7, defaultTolUs := 30000 } }), by decide⟩,
   ⟨2, ((working.onFab fun f => { f with seamUp := true }).onCfg fun c => { c with act := { c.act with allow := 7, defaultTolUs := 10000 } }), by decide⟩,
   ⟨2, (working.onPwr fun p => { p with entering := true, target := 2 }), by decide⟩,
   ⟨4, (working.onPwr fun p => { p with state := .doze }), by decide⟩,
   ⟨4, (working.onPwr fun p => { p with state := .hold }), by decide⟩,
   ⟨4, { fn := .power, up := false, endRc := 9 }, (working.onPwr fun p => { p with committed := true, transits := [{ fn := .power, up := false, endRc := 9 }] }), by decide⟩,
   ⟨1, (working.onPwr fun p => { p with gated := 0 }), by decide⟩,
   ⟨1, (working.onPwr fun p => { p with state := .trim, gated := 2 }), by decide⟩,
   ⟨1, (working.onPwr fun p => { p with state := .trim, gated := 2 }), by decide⟩,
   ⟨0, (working.onPwr fun p => { p with transits := [{ fn := .power, up := false, endRc := 0 }], target := 2 }), by decide⟩,
   ⟨1, 0, (working.onPwr fun p => { p with transits := [{ fn := .cluster 1, up := false, endRc := 0, rearm := some .ungate }] }), by decide⟩⟩

/-- The hypotheses of PowerCommands can be met. -/
theorem witness_power_commands :
    (∃ (h : Fin 4) (tk : Taken) (u : State), Dispatched h 0x1102 tk (enqueue h tk u) ∧ 1000000 < fld tk.payload 0 4 ∧
      fld tk.payload 0 4 ≠ 0xFFFFFFFF) ∧
    (∃ (h : Fin 4) (tk : Taken) (u : State), Dispatched h 0x1102 tk (enqueue h tk u) ∧ fld tk.payload 0 4 ≤ 1000000) ∧
    (∃ (h : Fin 4) (tk : Taken) (u : State), Dispatched h 0x1102 tk (enqueue h tk u) ∧ fld tk.payload 0 4 = 0xFFFFFFFF) ∧
    (∃ (h : Fin 4) (tk : Taken) (u : State), Dispatched h 0x1103 tk (enqueue h tk u) ∧ u.pwr.entries.length = 3 ∧
      u.pwr.refused.length = 12 ∧ u.pwr.aborted.length = 12) :=
  ⟨⟨0, cmd 0x1102 (leBytes 4 1000001), working, ⟨rfl, rfl⟩, by decide⟩,
   ⟨0, cmd 0x1102 (leBytes 4 5000), working, ⟨rfl, rfl⟩, by decide⟩,
   ⟨0, cmd 0x1102 (leBytes 4 0xFFFFFFFF), working, ⟨rfl, rfl⟩, by decide⟩,
   ⟨0, cmd 0x1103 [], working, ⟨rfl, rfl⟩, by decide⟩⟩

/-- The hypotheses of OverlaysAndImages can be met. -/
theorem witness_overlays_and_images :
    (∃ (e : SchedEntry) (n : Nat), ∃ u : State, nextDue u = some e ∧ e.action = .overlayChange n ∧ n < 8 ∧ u.cfg.running = none) ∧
    (∃ (e : SchedEntry), ∃ u : State, nextDue u = some e ∧ e.action = .cfgTake) ∧
    (∃ (e : SchedEntry) (n : Nat), ∃ u : State, nextDue u = some e ∧ e.action = .overlayChange n ∧ n < 8) ∧
    (∃ (i : CfgImage) (s : State), s.cfg.running = some i) ∧
    (∃ u : State, uplinkRuns u = true ∧ namesUpstream u = true ∧ u.upl.state ≠ 2 ∧ autoEnabled u 5 = true ∧ u.cfg.trigIslanded = false ∧
      u.cfg.islandFrom + u.cfg.act.islandMc ≤ u.mains.cycle) ∧
    (∃ u : State, (namesUpstream u = false ∨ u.mains.cycle < u.cfg.islandFrom + u.cfg.act.islandMc)) ∧
    (∃ (j : CfgJob), ∃ u : State, u.cfg.applying = some j ∧ logicUp u = true) ∧
    (∃ u : State, u.cfg.applying = none) :=
  ⟨⟨{ cls := 6, action := .overlayChange 1 }, 1, (working.onSched fun c => { c with entries := [{ cls := 6, action := .overlayChange 1 }] }), by decide⟩,
   ⟨{ cls := 6, action := .cfgTake }, (working.onSched fun c => { c with entries := [{ cls := 6, action := .cfgTake }] }), by decide⟩,
   ⟨{ cls := 6, action := .overlayChange 1 }, 1, (working.onSched fun c => { c with entries := [{ cls := 6, action := .overlayChange 1 }] }), by decide⟩,
   ⟨{}, working.onCfg fun c => { c with running := some {} }, rfl⟩,
   ⟨((working.onCfg fun c => { c with act := { c.act with parent := true, ovlAuto := 0x20, islandMc := 3000 } }).onMains fun m => { m with cycle := 3000 }), by decide⟩,
   ⟨working, by decide⟩,
   ⟨{}, (working.onCfg fun c => { c with applying := some {} }), by decide⟩,
   ⟨working, by decide⟩⟩

/-- The hypotheses of ConfigurationCommands can be met. -/
theorem witness_configuration_commands :
    (∃ (h : Fin 4) (tk : Taken) (u : State), Dispatched h 0x1202 tk (enqueue h tk u) ∧ cfgBusy u h = true) ∧
    (∃ (h : Fin 4) (tk : Taken) (u : State), Dispatched h 0x1202 tk (enqueue h tk u) ∧ cfgBusy u h = false ∧ fld tk.payload 0 4 ≠ 0 ∧
      fld tk.payload 0 4 ≠ u.cfg.staged.length) ∧
    (∃ (h : Fin 4) (tk : Taken) (u : State), Dispatched h 0x1202 tk (enqueue h tk u) ∧ cfgBusy u h = false ∧
      (fld tk.payload 0 4 = 0 ∨ fld tk.payload 0 4 = u.cfg.staged.length) ∧ tk.payload.length ≤ 8) ∧
    (∃ (a b : List Byte), ∃ (h : Fin 4) (tk : Taken) (u : State), Dispatched h 0x1202 tk (enqueue h tk u) ∧ cfgBusy u h = false ∧
      b = tk.payload.drop 8 ∧ b ≠ [] ∧ b.length ≤ 4072 ∧ (fld tk.payload 0 4 = 0 ∧ a = b ∨ fld tk.payload 0 4 = u.cfg.staged.length ∧
      u.cfg.staged ≠ [] ∧ a = u.cfg.staged ++ b ∧ a.length ≤ 524288)) ∧
    (∃ (image : CfgImage) (st : Status), ∃ (h : Fin 4) (tk : Taken) (u : State), Dispatched h 0x1203 tk (enqueue h tk u) ∧
      cfgBusy u h = false ∧
      imageFault u (imageOfStaged u.cfg.staged image) (decide ((imageOfStaged u.cfg.staged image).version ≤ u.cfg.version)) = some st ∧
      fld tk.payload 0 4 = u.cfg.staged.length ∧ u.cfg.staged ≠ [] ∧ st ≠ .pending) ∧
    (∃ (image : CfgImage), ∃ (h : Fin 4) (tk : Taken) (u : State), Dispatched h 0x1203 tk (enqueue h tk u) ∧ cfgBusy u h = false ∧
      fld tk.payload 0 4 ≠ u.cfg.staged.length) ∧
    (∃ (image i : CfgImage), ∃ (h : Fin 4) (tk : Taken) (u : State), Dispatched h 0x1203 tk (enqueue h tk u) ∧ cfgBusy u h = false ∧
      fld tk.payload 0 4 = u.cfg.staged.length ∧ u.cfg.staged ≠ [] ∧ i = imageOfStaged u.cfg.staged image ∧ u.cfg.version < i.version ∧
      imageFault u i false = none ∧ (fld tk.payload 8 8 = 0 ∨ aheadEnough u (fld tk.payload 8 8) = true) ∧
      ((u.host h).openCmds.filter fun c => !c.dead).length < 16) ∧
    (∃ (h : Fin 4) (tk : Taken) (u : State), Dispatched h 0x1204 tk (enqueue h tk u) ∧ 7 < fld tk.payload 0 1) ∧
    (∃ (h : Fin 4) (tk : Taken) (u : State), Dispatched h 0x1204 tk (enqueue h tk u) ∧ fld tk.payload 0 1 ≤ 7 ∧ u.cfg.running = none) ∧
    (∃ (i : CfgImage), ∃ (h : Fin 4) (tk : Taken) (u : State), Dispatched h 0x1204 tk (enqueue h tk u) ∧ fld tk.payload 0 1 ≤ 7 ∧
      u.cfg.running = some i ∧ fld tk.payload 8 8 ≠ 0 ∧ fld tk.payload 8 8 < u.key + 64) ∧
    (∃ (i : CfgImage) (k : Nat), ∃ (h : Fin 4) (tk : Taken) (u : State), Dispatched h 0x1204 tk (enqueue h tk u) ∧
      fld tk.payload 0 1 ≤ 7 ∧ u.cfg.running = some i ∧ (fld tk.payload 8 8 = 0 ∧
      k = nextCycleStart u ∨ u.key + 64 ≤ fld tk.payload 8 8 ∧ k = (fld tk.payload 8 8 + 65535) / 65536 * 65536)) ∧
    (∃ (h : Fin 4) (tk : Taken) (u : State), Dispatched h 0x1205 tk (enqueue h tk u) ∧
      (fld tk.payload 2 2 < 1 ∨ 250 < fld tk.payload 2 2)) ∧
    (∃ (n : Nat), ∃ (h : Fin 4) (tk : Taken) (u : State), Dispatched h 0x1205 tk (enqueue h tk u) ∧ 1 ≤ fld tk.payload 2 2 ∧
      fld tk.payload 2 2 ≤ 250 ∧ n = min (fld tk.payload 2 2) (Config.cfgSchema.length - fld tk.payload 0 2)) :=
  ⟨⟨0, cmd 0x1202 [], (working.onCfg fun c => { c with stagedOwner := some 3 }), ⟨rfl, rfl⟩, by decide⟩,
   ⟨0, cmd 0x1202 (leBytes 4 5), working, ⟨rfl, rfl⟩, by decide⟩,
   ⟨0, cmd 0x1202 (leBytes 8 0), working, ⟨rfl, rfl⟩, by decide⟩,
   ⟨[7], [7], 0, cmd 0x1202 (leBytes 8 0 ++ [7]), working, ⟨rfl, rfl⟩, by decide⟩,
   ⟨{}, .badarg, 0, cmd 0x1203 (leBytes 4 1), (working.onCfg fun c => { c with staged := [0] }), ⟨rfl, rfl⟩, by decide⟩,
   ⟨{}, 0, cmd 0x1203 (leBytes 4 1), working, ⟨rfl, rfl⟩, by decide⟩,
   ⟨imageRead, _, 0, cmd 0x1203 (leBytes 4 224 ++ leBytes 12 0), (working.onCfg fun c => { c with staged := imageBytes }), ⟨rfl, rfl⟩, by set_option maxRecDepth 20000 in exact ⟨by decide, by decide, by decide, rfl, by decide, by decide, by decide, by decide⟩⟩,
   ⟨0, cmd 0x1204 [8], working, ⟨rfl, rfl⟩, by decide⟩,
   ⟨0, cmd 0x1204 [1], working, ⟨rfl, rfl⟩, by decide⟩,
   ⟨{}, 0, cmd 0x1204 (leBytes 8 1 ++ leBytes 8 5), (working.onCfg fun c => { c with running := some {} }), ⟨rfl, rfl⟩, by decide⟩,
   ⟨{}, _, 0, cmd 0x1204 (leBytes 16 1), (working.onCfg fun c => { c with running := some {} }), ⟨rfl, rfl⟩, by exact ⟨by decide, rfl, Or.inl ⟨by decide, rfl⟩⟩⟩,
   ⟨0, cmd 0x1205 (leBytes 4 0), working, ⟨rfl, rfl⟩, by decide⟩,
   ⟨_, 0, cmd 0x1205 (leBytes 2 0 ++ leBytes 2 1), working, ⟨rfl, rfl⟩, by exact ⟨by decide, by decide, rfl⟩⟩⟩

end Sys2Proof.Tests
end

section
/-! PROOFS. The statements of the architecture: the frames of the framed channel, the channel and the fabric, a DSP cycle, overlays and images. -/

namespace Sys2Proof.Machine

open Host (Outcome)

/-! ### Frames of the Seam (R23, R24, R27–R29) -/

/-- A good frame to the logic side has been counted, before what it brings (R23, R29). -/
def countUpFrame (s : State) : State := s.onFab fun f => { f with seqToLogic := (f.seqToLogic + 1) % 256, badToLogic := 0 }

/-- A good frame to the line side has been counted, before what it brings (R23, R29). -/
def countDownFrame (s : State) : State := s.onFab fun f => { f with seqToLine := (f.seqToLine + 1) % 256, badToLine := 0 }

section Frames
variable {pre : State → Prop} {post : State → State → Prop}

/-- A frame to the logic side that matches its position is counted and then brings what it holds (R23, R24). -/
theorem Completes.goodUpFrame {frame : SeamFrame SeamRx}
    (h : ∀ u, pre u → u.pwr.lineOn = true ∧ seamTakes u = true ∧ frameGood true frame.position frame.bits = true ∧
      frame.body.fits frame.position = true ∧ post u (takeUpFrame (frameSeq frame.bits) frame.body (countUpFrame u))) :
    Completes (fun dt => .seamFrameReceive dt frame) pre post := by
  intro dt s hp
  obtain ⟨hl, ht, hg, hf, hq⟩ := h _ hp
  exact if_next (by rw [hl, ht]; rfl) (next_if (by rw [hg, hf]; rfl) hq)

/-- A frame to the line side that matches its position is counted and then brings what it holds (R23, R24). -/
theorem Completes.goodDownFrame {frame : SeamFrame LineRx}
    (h : ∀ u, pre u → u.pwr.lineOn = true ∧ seamTakes u = true ∧ frameGood false frame.position frame.bits = true ∧
      frame.body.fits frame.position = true ∧ post u (takeDownFrame frame.body (countDownFrame u))) :
    Completes (fun dt => .lineSideFrameReceive dt frame) pre post := by
  intro dt s hp
  obtain ⟨hl, ht, hg, hf, hq⟩ := h _ hp
  exact if_next (by rw [hl, ht]; rfl) (next_if (by rw [hg, hf]; rfl) hq)

end Frames

theorem countUpFrame_only {bs : List Block} {s : State} (hb : Block.fab ∈ bs) : Only bs s (countUpFrame s) :=
  onFab_only hb (Only.refl _ _)

theorem countDownFrame_only {bs : List Block} {s : State} (hb : Block.fab ∈ bs) : Only bs s (countDownFrame s) :=
  onFab_only hb (Only.refl _ _)

/-- A bad frame to the logic side is discarded and counted (R27, R29). -/
theorem seamFrameReceive_bad {frame : SeamFrame SeamRx} :
    Completes (fun dt => .seamFrameReceive dt frame) (fun u => u.pwr.lineOn = true ∧ seamTakes u = true ∧
      (frameGood true frame.position frame.bits && frame.body.fits frame.position) = false)
      fun u t => t = u.onFab fun f =>
        { f with seqToLogic := (f.seqToLogic + 1) % 256, seamDiscards := inc32 f.seamDiscards, badToLogic := f.badToLogic + 1 } := by
  rintro dt s ⟨hl, ht, hb⟩
  exact if_next (by rw [hl, ht]; rfl) (next_unless (by rw [hb]; decide) rfl)

/-- A bad frame to the line side is discarded (R23, R29). -/
theorem lineSideFrameReceive_bad {frame : SeamFrame LineRx} :
    Completes (fun dt => .lineSideFrameReceive dt frame) (fun u => u.pwr.lineOn = true ∧ seamTakes u = true ∧
      (frameGood false frame.position frame.bits && frame.body.fits frame.position) = false)
      fun u t => t = u.onFab fun f => { f with seqToLine := (f.seqToLine + 1) % 256, badToLine := f.badToLine + 1 } := by
  rintro dt s ⟨hl, ht, hb⟩
  exact if_next (by rw [hl, ht]; rfl) (next_unless (by rw [hb]; decide) rfl)

/-- The first write that waits is written and acknowledged by the frame's SEQ (R28, R32). -/
theorem takeLegal_first {q : Nat} {s : State} {p : LegalImage} (h : s.fab.legalPend.find? (fun p => p.seq.isNone) = some p) :
    takeLegal q s = (writeLegal p.body s).onFab fun f =>
      { f with legalPend := sendFirst q (f.legalPend.map fun p => if p.seq == some q then { p with seq := none } else p)
               legalAcks := f.legalAcks ++ [q] } := by
  unfold takeLegal
  rw [h]

/-- A register's image goes to its older copy, the rate selector's with it (R193, R228). -/
theorem writeLegal_register (reg : Nat) (c : RegCopy) (r : RateCopy) (s : State) : writeLegal (.register reg c r) s = s.onMet fun m =>
    { m with lining := modAt m.lining reg (putCopy (·.count) c), rateImage := putCopy (·.count) r m.rateImage } := rfl

/-- A metrological entry that the Lining lacks is written there and told in an event (R774, R776). -/
theorem writeLegal_newEntry {e : MlogEntry} {s : State} (h : ∀ x ∈ s.met.mlog, x.lseq ≠ e.lseq) :
    (writeLegal (.log e) s).met = writeEntry e s.met ∧ Only [.met, .hosts, .evt] s (writeLegal (.log e) s) := by
  have hn : ¬ (s.met.mlog.any fun x => x.lseq == e.lseq) = true := by simpa using h
  unfold writeLegal
  dsimp only
  rw [if_neg hn]
  exact ⟨raiseCode_met, raiseCode_only (by decide) (onMet_only (by decide) (Only.refl _ _))⟩

/-- Where no notice waits, none is heard. -/
theorem hearNotices_nil {s : State} (h : s.fab.notices = []) : hearNotices s = s := by
  unfold hearNotices
  rw [h, List.foldl_nil, State.onFab, ← h]

/-- VIN is taken once in a mains cycle (R816). -/
def refreshVin (vin : Nat) (s : State) : State :=
  if s.fab.vinCycle == some s.mains.cycle then s
  else (s.onPwr fun p => { p with vinMv := vin }).onFab fun f => { f with vinCycle := some s.mains.cycle }

theorem refreshVin_frame (vin : Nat) (s : State) : Only [.pwr, .fab] s (refreshVin vin s) :=
  Only.ite (Only.refl _ _) (onFab_only (by decide) (onPwr_only (by decide) (Only.refl _ _)))

theorem refreshVin_fab (vin : Nat) (s : State) : ∃ c, (refreshVin vin s).fab = { s.fab with vinCycle := c } := by
  unfold refreshVin
  split
  · exact ⟨_, rfl⟩
  · exact ⟨_, rfl⟩

theorem refreshVin_vinMv (vin : Nat) (s : State) :
    (refreshVin vin s).pwr.vinMv = if s.fab.vinCycle = some s.mains.cycle then s.pwr.vinMv else vin := by
  unfold refreshVin
  simp only [beq_iff_eq]
  split
  · rfl
  · rfl

/-- A line-side status behind which no notice waits brings the inputs, the alarms, the feedback and VIN (R24, R816). -/
theorem takeUpFrame_status {q : Nat} {tin : BitVec 8} {alarms mv vin : Nat} {s : State} (h : s.fab.notices = []) :
    takeUpFrame q (.status tin alarms mv vin) s =
      ((refreshVin vin s).onFab fun f => { f with lineAlarms := alarms, feedbackMv := mv }).onMet fun m => { m with tinRaw := tin } := by
  obtain ⟨c, hc⟩ := refreshVin_fab vin s
  have hn : (refreshVin vin s).fab.notices = [] := by rw [hc]; exact h
  exact hearNotices_nil hn

/-- What the oldest acknowledgement names is held no longer (R28). -/
theorem takeLegalAck_cons {q : Nat} {rest : List Nat} {s : State} (h : s.fab.legalAcks = q :: rest) :
    takeLegalAck s = s.onFab fun f => { f with legalAcks := rest, legalPend := f.legalPend.filter fun p => p.seq != some q } := by
  unfold takeLegalAck
  rw [h]

/-- The oldest setting on its way reaches the line side (R24, R51). -/
theorem takeDownFrame_control {c : LineCtl} {rest : List LineCtl} {s : State} (h : s.fab.toLine = c :: rest) :
    takeDownFrame .control s = takeCtlFrame c (s.onFab fun f => { f with toLine := rest }) := by
  unfold takeDownFrame
  dsimp only
  rw [h]

theorem takeDownFrame_setPoint (mv : Nat) (s : State) :
    takeDownFrame (.setPoint mv) s = s.onFab fun f => { f with setPointMv := mv } := rfl

theorem takeCtlFrame_warnV (mv : Nat) (s : State) : takeCtlFrame (.warnV mv) s = s.onFab fun f => { f with lineWarnMv := mv } := rfl

theorem takeCtlFrame_rate (r n : Nat) (s : State) :
    takeCtlFrame (.rate r n) s = s.onMet fun m => { m with pendingRate := some (r, n) } := rfl

/-- Settles O19: each frame is one of the two counts, followed by what its content brings. -/
theorem seamFrames : Obligations.SeamFrames := by
  unfold Obligations.SeamFrames
  refine ⟨fun _ => seamFrameReceive_bad, fun frame reg c r => ?register, fun frame e => ?entry, fun frame tin alarms mv vin => ?status,
    fun frame => ?waveform, fun _ => lineSideFrameReceive_bad, fun frame q rest => ?ack, fun frame => ?echo,
    fun frame mv rest => ?warnV, fun frame r n rest => ?rate, fun frame mv => ?setPoint, fun frame => ?legalParameter⟩
  case register =>
    refine Completes.goodUpFrame fun u ⟨hl, ht, hg, hf, hb, hp⟩ => ⟨hl, ht, hg, hf, ?_⟩
    rw [hb]
    have hw : takeUpFrame (frameSeq frame.bits) .legal (countUpFrame u) = _ := takeLegal_first hp
    rw [hw, writeLegal_register]
    refine ⟨rfl, rfl, rfl, onFab_only ?_ (onMet_only ?_ (countUpFrame_only ?_))⟩ <;> decide
  case entry =>
    refine Completes.goodUpFrame fun u ⟨hl, ht, hg, hf, hb, hp, hn⟩ => ⟨hl, ht, hg, hf, ?_⟩
    rw [hb]
    have hw : takeUpFrame (frameSeq frame.bits) .legal (countUpFrame u) = _ := takeLegal_first hp
    obtain ⟨hm, ho⟩ := writeLegal_newEntry (s := countUpFrame u) hn
    rw [hw]
    refine ⟨congrArg MetSt.mlog hm, ?_, onFab_only (by decide) (Only.trans (countUpFrame_only (by decide)) (ho.mono (by decide)))⟩
    have hf : (writeLegal (.log e) (countUpFrame u)).fab = (countUpFrame u).fab := ho .fab (by decide)
    rw [State.onFab_fab, hf]
    rfl
  case status =>
    refine Completes.goodUpFrame fun u ⟨hl, ht, hg, hf, hb, hn⟩ => ⟨hl, ht, hg, hf, ?_⟩
    rw [hb, takeUpFrame_status (s := countUpFrame u) hn]
    have ho := refreshVin_frame vin (countUpFrame u)
    obtain ⟨c, hc⟩ := refreshVin_fab vin (countUpFrame u)
    refine ⟨congrArg (fun m : MetSt => { m with tinRaw := tin }) (ho .met (by decide)), rfl, rfl, ?_,
      refreshVin_vinMv vin (countUpFrame u),
      onMet_only (by decide) (onFab_only (by decide) (Only.trans (countUpFrame_only (by decide)) (ho.mono (by decide))))⟩
    rw [State.onMet_fab, State.onFab_fab, hc]
    rfl
  case waveform =>
    refine Completes.goodUpFrame fun u ⟨hl, ht, hg, hf, hb⟩ => ⟨hl, ht, hg, hf, ?_⟩
    rw [hb]
    rfl
  case ack =>
    refine Completes.goodDownFrame fun u ⟨hl, ht, hg, hf, hb, ha⟩ => ⟨hl, ht, hg, hf, ?_⟩
    have hw : takeDownFrame .ack (countDownFrame u) = _ := takeLegalAck_cons ha
    rw [hb, hw]
    exact ⟨rfl, rfl, onFab_only (by decide) (countDownFrame_only (by decide))⟩
  case echo =>
    refine Completes.goodDownFrame fun u ⟨hl, ht, hg, hf, hb⟩ => ⟨hl, ht, hg, hf, ?_⟩
    rw [hb]
    exact ⟨rfl, takeMainsEcho_only (by decide) (countDownFrame_only (by decide))⟩
  case warnV =>
    refine Completes.goodDownFrame fun u ⟨hl, ht, hg, hf, hb, hc⟩ => ⟨hl, ht, hg, hf, ?_⟩
    rw [hb, takeDownFrame_control (s := countDownFrame u) hc, takeCtlFrame_warnV]
    refine ⟨rfl, rfl, onFab_only ?_ (onFab_only ?_ (countDownFrame_only ?_))⟩ <;> decide
  case rate =>
    refine Completes.goodDownFrame fun u ⟨hl, ht, hg, hf, hb, hc⟩ => ⟨hl, ht, hg, hf, ?_⟩
    rw [hb, takeDownFrame_control (s := countDownFrame u) hc, takeCtlFrame_rate]
    refine ⟨rfl, rfl, onMet_only ?_ (onFab_only ?_ (countDownFrame_only ?_))⟩ <;> decide
  case setPoint =>
    refine Completes.goodDownFrame fun u ⟨hl, ht, hg, hf, hb⟩ => ⟨hl, ht, hg, hf, ?_⟩
    rw [hb, takeDownFrame_setPoint]
    refine ⟨rfl, onFab_only ?_ (countDownFrame_only ?_)⟩ <;> decide
  case legalParameter =>
    refine Completes.goodDownFrame fun u ⟨hl, ht, hg, hf, hb⟩ => ⟨hl, ht, hg, hf, ?_⟩
    rw [hb]
    exact ⟨rfl, ignoreRequest_only (by decide) (countDownFrame_only (by decide))⟩

/-! ### The channel down and up again, memory errors and control words (R28–R30, R37, R40, R53, R57) -/

/-- While the channel is down a notice of the line side waits (R21, R24). -/
theorem tellLogic_down {n : LineNotice} {s : State} (h : s.fab.seamUp = false) :
    tellLogic n s = s.onFab fun f => { f with notices := f.notices ++ [n] } := by
  unfold tellLogic seamTakes
  rw [h]
  exact if_neg Bool.false_ne_true

/-- The channel is taken down, before the driver is muted (R29, R345). -/
def seamLost (n : Nat) (s : State) : State :=
  ((s.onFab fun f => { f with seamUp := false, resync := true, downRc := s.rc, missFrom := some (f.missFrom.getD s.rc) }).onMet fun m =>
    { m with echoes := false }).onPlc fun p => { p with broken := w32 (p.broken + n) }

/-- With the channel down the mute notice waits; the driver is muted, and the line side's own counts stay (R344). -/
theorem muteDriver_down {s : State} (h : s.fab.seamUp = false) :
    (∃ l, (muteDriver s).fab = { s.fab with notices := l }) ∧ (muteDriver s).plc.muted = true ∧
      (muteDriver s).plc.broken = s.plc.broken := by
  have hc : ∀ f z, Only [.link, .upl] z (frameCut f z) := fun f z => frameCut_only (by decide) (Only.refl _ _)
  unfold muteDriver
  split
  · exact ⟨⟨_, rfl⟩, rfl, rfl⟩
  · rw [tellLogic_down (s := s.onPlc _) h, hc _ _ .fab (by decide), hc _ _ .plc (by decide)]
    exact ⟨⟨_, rfl⟩, rfl, rfl⟩

/-- An outage that has ended is told once with its length, and the samples missed in it are marked (R29, R30). -/
theorem logicHears_outage {s : State} {g d : Nat} (hg : s.fab.missFrom = some g) (ho : s.fab.outage = some d) (hn : s.fab.notices = []) :
    (logicHears s).fab = { s.fab with gaps := w32 (s.fab.gaps + (s.rc - g) / ofUs 8), missFrom := none, outage := none } ∧
      Logged .seamOutage 0x31 (leBytes 8 (d / nsUnit)) s (logicHears s) := by
  have hm : markGaps s = s.onFab fun f => { f with gaps := w32 (f.gaps + (s.rc - g) / ofUs 8), missFrom := none } := by
    unfold markGaps
    rw [hg]
  obtain ⟨z, hz⟩ : ∃ z, z = (markGaps s).onFab fun f => { f with outage := none } := ⟨_, rfl⟩
  have ht : tellOutage (markGaps s) = raise .seamOutage 0x31 (leBytes 8 (d / nsUnit)) z := by
    unfold tellOutage
    rw [show (markGaps s).fab.outage = some d by rw [hm]; exact ho, hz]
  have hr := raise_frame .seamOutage 0x31 (leBytes 8 (d / nsUnit)) z
  have hh : hearNotices (tellOutage (markGaps s)) = raise .seamOutage 0x31 (leBytes 8 (d / nsUnit)) z := by
    rw [ht, hearNotices_nil]
    rw [hr .fab (by decide), hz, hm]
    exact hn
  have hl : Only [.hosts, .met] (raise .seamOutage 0x31 (leBytes 8 (d / nsUnit)) z) (logicHears s) := by
    unfold logicHears
    rw [hh]
    exact Only.ite (Only.refl _ _) (setSticky_only (by decide) (onMet_only (by decide) (Only.refl _ _)))
  constructor
  · rw [hl .fab (by decide), hr .fab (by decide), hz, hm]
    rfl
  · refine Logged.of_q10 (logged_raise (z := z) ?_ ?_) (congrArg EvtSt.q10 (hl .evt (by decide)))
    · rw [hz, hm]; rfl
    · rw [hz, hm]; rfl

/-- Taking an item off its ring leaves what is known of the engines' errors (R37). -/
theorem dropHead_errors (ring : Nat) (s : State) :
    (dropHead ring s).fab.engRetried = s.fab.engRetried ∧ (dropHead ring s).fab.engSupervisor = s.fab.engSupervisor := by
  unfold dropHead
  split <;> exact ⟨rfl, rfl⟩

/-- The alarm and the event of a halted engine (R37). -/
def tellHalt (engine : Nat) (s : State) : State := setAlarm 0x8 (raise .engineHalt engine (leBytes 1 engine) s)

theorem tellHalt_frame (engine : Nat) (s : State) : Only [.hosts, .evt] s (tellHalt engine s) :=
  setAlarm_only (by decide) (raise_frame _ _ _ _)

theorem tellHalt_alarm (engine : Nat) (s : State) : (tellHalt engine s).hosts.alarmN.getLsbD 3 = true := by
  unfold tellHalt
  rw [setAlarm_alarmN, BitVec.getLsbD_or]
  simp

/-- An error outside the engines' memories is told and fails the access of its requester (R40). -/
theorem exec_eccUncorrectable {dt port : Nat} {region : MemRegion} {s : State} (h : region ≠ .engineLocal) :
    exec (.eccUncorrectable dt (.uncorrectable region port)) s = .next (raise .eccUncorr srcSup (leBytes 4 region.number)
      ((tick dt s).onFab fun f => { f with accessErrors := (port, region) :: f.accessErrors })) := by
  show execEccUncorrectable dt (.uncorrectable region port) s = _
  unfold execEccUncorrectable
  split
  next he => cases he
  next he => cases he; exact absurd rfl h
  next he => cases he; rfl

/-- A held word takes the place of an earlier one, which is counted as superseded (R56, R57). -/
theorem holdWord_effect (w : CtlWord) (s : State) :
    (holdWord w s).fab = { s.fab with heldWords := putWord w s.fab.heldWords } ∧ (holdWord w s).cfg.act = s.cfg.act ∧
      (holdWord w s).cfg.ctlSuperseded = (if s.fab.heldWords.any (sameWord w) then inc32 s.cfg.ctlSuperseded else s.cfg.ctlSuperseded) := by
  unfold holdWord countSuperseded
  split
  · exact ⟨rfl, rfl, rfl⟩
  · exact ⟨rfl, rfl, rfl⟩

/-- Settles O20: each command's guard holds, and its effect is that of the operation it is made of. -/
theorem seamAndFabric : Obligations.SeamAndFabric := by
  unfold Obligations.SeamAndFabric
  refine ⟨fun p => ?repeated, fun m reg c r => ⟨rfl, rfl, rfl⟩, fun n => ?down, fun g => ?up, ?feedback,
    fun engine ring item meter => ?returned, fun engine ring item meter => ?supervisor, fun region port => ?uncorrectable,
    fun region => ?corrected, fun n w => ?commit, fun n w => ?held⟩
  case repeated =>
    rintro dt s ⟨hl, hu, hp⟩
    refine if_next (by rw [hl, hu]; rfl) ?_
    rw [hp]
    exact next_now ⟨_, rfl, rfl⟩
  case down =>
    rintro dt s ⟨hu, hb⟩
    refine next_if (by rw [hu]; simpa using hb) ?_
    obtain ⟨hf, hm, hk⟩ := muteDriver_down (s := seamLost n (tick dt s)) rfl
    have he : (muteDriver (seamLost n (tick dt s))).met = (seamLost n (tick dt s)).met :=
      muteDriver_only (bs := [.hosts, .fab, .evt, .link, .plc, .upl]) (by decide) (Only.refl _ _) .met (by decide)
    exact ⟨hf, congrArg MetSt.echoes he, hm, hk⟩
  case up =>
    rintro dt s ⟨hr, hl, ht, hg, hn, hv, hq⟩
    refine next_if (by rw [hr, hl]; rfl) ?_
    rw [if_pos ht]
    obtain ⟨hf, he⟩ := logicHears_outage (s := seamComesUp (tick dt s)) (g := g) (d := (tick dt s).rc - (tick dt s).fab.downRc) hg
      (by show (if (tick dt s).fab.resync then _ else _) = _; rw [hr]; rfl) hn
    obtain ⟨x, hx, hc, -, hd⟩ := he hv hq
    exact ⟨hf, x, hx, hc, hd⟩
  case feedback =>
    rintro dt s ⟨hu, hc, hd⟩
    exact next_if (by rw [hu, hc]; simpa using hd) rfl
  case returned =>
    rintro dt s ⟨ha, he, hn⟩
    have ho := tellHalt_frame engine (tick dt s)
    have hf : (tellHalt engine (tick dt s)).fab = (tick dt s).fab := ho .fab (by decide)
    refine if_next (by rw [ha]; simpa using he) (next_unless (t := (tellHalt engine (tick dt s)).onFab _) ?_ ⟨?_, ?_, ?_⟩)
    · show ¬ (tellHalt engine (tick dt s)).fab.engRetried.contains (engine / 4, ring, item) = true
      rw [hf]
      simpa using hn
    · rw [State.onFab_fab, hf]
    · exact tellHalt_alarm engine (tick dt s)
    · exact onFab_only (by decide) (ho.mono (by decide))
  case supervisor =>
    rintro dt s ⟨ha, he, hn⟩
    have hf : (tellHalt engine (tick dt s)).fab = (tick dt s).fab := tellHalt_frame engine (tick dt s) .fab (by decide)
    refine if_next (by rw [ha]; simpa using he) (next_if (t := raise _ _ _ (dropHead ring ((tellHalt engine (tick dt s)).onFab _))) ?_ ?_)
    · show (tellHalt engine (tick dt s)).fab.engRetried.contains (engine / 4, ring, item) = true
      rw [hf]
      simpa using hn
    · have hr : ∀ z, (raise .engineItem srcSup (leBytes 4 meter) z).fab = z.fab := fun z => raise_frame _ _ _ z .fab (by decide)
      show _ ∧ _
      rw [hr, (dropHead_errors _ _).1, (dropHead_errors _ _).2, State.onFab_fab, hf]
      exact ⟨rfl, rfl⟩
  case uncorrectable =>
    rintro dt s h
    refine ⟨_, exec_eccUncorrectable h, logged_raise rfl rfl, raise_frame _ _ _ _ .fab (by decide),
      Only.trans (onFab_only (by decide) (Only.refl _ _)) ((raise_frame _ _ _ _).mono (by decide))⟩
  case corrected => exact fun dt s _ => next_now rfl
  case commit =>
    rintro dt s ⟨hw, hd⟩
    show ∃ t, execControlWordCommit dt n s = .next t ∧ _
    unfold execControlWordCommit
    dsimp only
    rw [hw]
    exact next_if hd rfl
  case held =>
    rintro dt s ⟨hw, hd⟩
    show ∃ t, execControlWordCommit dt n s = .next t ∧ _
    unfold execControlWordCommit
    dsimp only
    rw [hw]
    exact next_unless (Bool.eq_false_iff.mp hd) (holdWord_effect w _)

/-! ### A DSP cycle, the default records, tariff inputs and the registers read (R163–R210) -/

/-- Only the detectors of voltage events and the settings of the inputs differ (R234, R244). -/
def DetectorsOnly (a b : MetSt) : Prop :=
  b = { a with pq := b.pq, pqEvents := b.pqEvents, pqQueue := b.pqQueue, pqLost := b.pqLost, ctl := b.ctl, ctlNext := b.ctlNext }

theorem DetectorsOnly.trans {a b c : MetSt} (h : DetectorsOnly a b) (k : DetectorsOnly b c) : DetectorsOnly a c := by
  unfold DetectorsOnly at *
  rw [k, h]

theorem pqClose_detectors (swell : Bool) (index why : Nat) (s : State) : DetectorsOnly s.met (pqClose swell index why s).met := by
  have hr : ∀ r, DetectorsOnly s.met (pqReport r s).met := by
    intro r
    unfold pqReport
    simp only [State.onMet_met]
    split <;> exact rfl
  unfold pqClose
  split
  · exact rfl
  · exact (hr _).trans rfl

/-- The settings taken at a cycle boundary are those of the detectors and inputs alone (R234, R244). -/
theorem takeCtl_detectors (s : State) : DetectorsOnly s.met (takeCtl s).met := by
  have hc : ∀ (b : Bool) swell n z, DetectorsOnly s.met z.met →
      DetectorsOnly s.met (if b = true then pqClose swell n 8 z else z).met := by
    intro b swell n z h
    split
    · exact h.trans (pqClose_detectors _ _ _ _)
    · exact h
  have hf : ∀ (g : State → Nat → State) (_ : ∀ z n, DetectorsOnly s.met z.met → DetectorsOnly s.met (g z n).met)
      (l : List Nat) (z : State),
      DetectorsOnly s.met z.met → DetectorsOnly s.met (l.foldl g z).met := by
    intro g hg l
    induction l with
    | nil => exact fun _ h => h
    | cons n l ih => exact fun z h => ih _ (hg z n h)
  have hs : ∀ z : State, (showPq z).met = z.met := fun z => showPq_only (bs := [.reg]) (by decide) (Only.refl _ z) .met (by decide)
  unfold takeCtl
  split
  · exact rfl
  · dsimp only
    rw [hs]
    refine (hf _ (fun z n h => hc _ _ _ _ (hc _ _ _ _ h)) _ s rfl).trans rfl

/-- The cycle that starts takes a rate and settings, and nothing of what the DSP has measured (R204, R234). -/
theorem cycleStart_keeps (k : MetSt → Nat) (s : State) :
    ∃ t, t = (takeCtl (s.onMet fun m => takePending (k m) m)).met ∧ t.regs = s.met.regs ∧ t.dspCycle = s.met.dspCycle ∧
      t.boundNs = s.met.boundNs ∧ t.boundRc = s.met.boundRc ∧ t.setsLost = s.met.setsLost ∧ t.calNext = s.met.calNext ∧
      t.cal = s.met.cal ∧ t.results = s.met.results := by
  obtain ⟨a, b, c, d, hp⟩ := takePending_eq (k s.met) s.met
  have hd : (takeCtl (s.onMet fun m => takePending (k m) m)).met = _ := takeCtl_detectors (s.onMet fun m => takePending (k m) m)
  refine ⟨_, rfl, ?_⟩
  rw [hd, State.onMet_met, hp]
  exact ⟨rfl, rfl, rfl, rfl, rfl, rfl, rfl, rfl⟩

/-- A result set is sent, or lost with the channel down, and a committed image is taken (R30, R179, R194). -/
def sendResult (e : CycleEnd) (r : ResultSet) (s : State) : State := s.onMet fun m =>
  { m with
    results := if s.fab.seamUp then m.results ++ [r] else m.results
    setsLost := !s.fab.seamUp
    cal := m.calNext.getD m.cal, calNext := none
    boundNs := e.ns, boundRc := e.rc }

/-- The end of a DSP cycle is the measurement, the result set and the start of the next (R30, R156, R188–R195). -/
theorem endDspCycle_eq {e : CycleEnd} {c : CycleIn} {s w : State} {f : Nat} {v : CycleVals}
    (hf : f = (if e.measured then resampleMhz (mhzOf (e.ns - s.met.boundNs)) else freeMhz s.met))
    (hv : v = cycleVals (e.ns - s.met.boundNs) f (chains s.met.cal f c.chans))
    (hw : w = measureCycle e f v (chains s.met.cal f c.chans) c s) :
    endDspCycle e c s = takeCtl ((sendResult e (resultOf e s.met.rate f (w.met.unsync || w.met.offRange) s.met.cal v
      (chains s.met.cal f c.chans) c.overload w.met) w).onMet fun m => takePending (startCycle m e.ns (nsOfMhz f)) m) := by
  subst hf hv hw
  rfl

/-- A DSP cycle while the channel is up: the registers accrue, one result set goes out, and a committed image is taken for the next cycle
(R156, R179, R188, R191, R194). -/
theorem endDspCycle_effect {e : CycleEnd} {c : CycleIn} {s : State} {f : Nat} {v : CycleVals} (hu : s.fab.seamUp = true)
    (hf : f = (if e.measured then resampleMhz (mhzOf (e.ns - s.met.boundNs)) else freeMhz s.met))
    (hv : v = cycleVals (e.ns - s.met.boundNs) f (chains s.met.cal f c.chans)) :
    (endDspCycle e c s).met.regs = accrueCycle s.met.cal s.met.rate v s.met.regs ∧
    (endDspCycle e c s).met.dspCycle = s.met.dspCycle + 1 ∧ (endDspCycle e c s).met.boundNs = e.ns ∧
    (endDspCycle e c s).met.boundRc = e.rc ∧ (endDspCycle e c s).met.setsLost = false ∧ (endDspCycle e c s).met.calNext = none ∧
    (endDspCycle e c s).met.cal = s.met.calNext.getD s.met.cal ∧
    ∃ r, (endDspCycle e c s).met.results = s.met.results ++ [r] ∧ r.cycleTag = s.met.echoCycle ∧ r.dspCycle = s.met.dspCycle + 1 ∧
      r.rate = s.met.rate ∧ r.startRc = s.met.boundRc ∧ r.endRc = e.rc ∧ r.partialSet = e.partialSet ∧
      r.cum = (endDspCycle e c s).met.regs.map (· / nsUnit) ∧ r.freqMhz = f := by
  obtain ⟨w, hw⟩ : ∃ w, w = measureCycle e f v (chains s.met.cal f c.chans) c s := ⟨_, rfl⟩
  obtain ⟨hregs, hcount, hresults, hcal, hnext, hecho, hbound⟩ := measureCycle_met e f v (chains s.met.cal f c.chans) c s
  rw [← hw] at hregs hcount hresults hcal hnext hecho hbound
  have hup : w.fab.seamUp = true := by rw [hw, measureCycle_seamUp, hu]
  rw [endDspCycle_eq hf hv hw]
  generalize hr : resultOf e _ f _ _ v _ _ w.met = r
  obtain ⟨t, ht, kregs, kcount, kns, krc, klost, knext, kcal, kresults⟩ :=
    cycleStart_keeps (fun m => startCycle m e.ns (nsOfMhz f)) (sendResult e r w)
  rw [← ht, kregs, kcount, kns, krc, klost, knext, kcal, kresults]
  have hsent : (sendResult e r w).met.results = s.met.results ++ [r] := by
    show (if w.fab.seamUp then w.met.results ++ [r] else w.met.results) = _
    rw [if_pos hup, hresults]
  have himage : (sendResult e r w).met.cal = s.met.calNext.getD s.met.cal := by
    show w.met.calNext.getD w.met.cal = _
    rw [hnext, hcal]
  refine ⟨hregs, hcount, rfl, rfl, congrArg not hup, rfl, himage, r, hsent, ?_⟩
  subst hr
  exact ⟨hecho, hcount, rfl, hbound, rfl, rfl, rfl, rfl⟩

/-- What a selection that has become stable sets: its rate, or none where the selection is invalid (R208, R210). -/
def takeSelection (sel : Nat) (bad : Bool) (m : MetSt) : MetSt :=
  let m := { m with tinTaken := some sel, tinRate := if sel = 0 || bad then none else some sel, tinInvalid := bad
                    tinKeep := if bad then some m.rate else none }
  { m with rate := dspRate m }

/-- A valid selection gives its own rate (R203, R208). -/
theorem takeSelection_valid {sel : Nat} {m : MetSt} (h0 : 0 < sel) (hm : m.ctl.tinMode ≠ 0) : takeSelection sel false m =
    { m with tinTaken := some sel, tinRate := some sel, tinInvalid := false, tinKeep := none, rate := sel } := by
  simp [takeSelection, dspRate, hm, Nat.ne_of_gt h0]

/-- An invalid selection keeps the rate in force (R210). -/
theorem takeSelection_invalid {sel : Nat} {m : MetSt} (hm : m.ctl.tinMode ≠ 0) : takeSelection sel true m =
    { m with tinTaken := some sel, tinRate := none, tinInvalid := true, tinKeep := some m.rate, rate := m.rate } := by
  simp [takeSelection, dspRate, hm]

/-- A selection stable for DEBOUNCE cycles takes over; one that is newly invalid is told (R209, R210). -/
theorem exec_tariffInputTakeover {dt sel : Nat} {s u : State} (hu : tick dt s = u) (hl : u.pwr.lineOn = true) (hm : u.met.ctl.tinMode ≠ 0)
    (hs : u.met.tinSel = some sel) (hd : u.met.ctl.debounce ≤ u.met.tinCount) (ht : u.met.tinTaken ≠ some sel) {bad : Bool}
    (hb : decide (u.met.ctl.ratesUsed < sel) = bad) :
    exec (.tariffInputTakeover dt) s = .next (if bad && !u.met.tinInvalid then tellLogic .tariffInvalid (u.onMet (takeSelection sel bad))
      else u.onMet (takeSelection sel bad)) := by
  subst hb
  show execTariffInputTakeover dt s = _
  unfold execTariffInputTakeover
  dsimp only
  rw [hu, hs]
  dsimp only
  rw [if_pos (by rw [hl, decide_eq_true hm, decide_eq_true hd, decide_eq_true ht]; rfl)]
  rfl

/-- What the logic side hears of the default records sets its bit of SYS.ALARM (R172). -/
theorem tellLogic_fallback_alarm {s : State} (h : seamTakes s = true) : (tellLogic .fallback s).hosts.alarmN.getLsbD 6 = true := by
  unfold tellLogic
  rw [if_pos h]
  show (setAlarm 0x40 (raise .calFallback 0x30 [] s)).hosts.alarmN.getLsbD 6 = true
  rw [setAlarm_alarmN, BitVec.getLsbD_or]
  simp

/-- A log entry changes nothing of what decides whether the logic side takes frames (R30). -/
theorem writeMlog_seamTakes (k a : Nat) (d : List Byte) (c : Bool) (s : State) : seamTakes (writeMlog k a d c s) = seamTakes s := by
  have hp : (writeMlog k a d c s).pwr = s.pwr :=
    writeMlog_only (bs := [.hosts, .fab, .evt, .met]) (by decide) (Only.refl _ _) .pwr (by decide)
  unfold seamTakes
  rw [writeMlog_seamUp, hp]

/-- The length of a payload of equal fields. -/
theorem flatten_leBytes_length (n : Nat) (l : List Nat) : (l.map (leBytes n)).flatten.length = n * l.length := by
  induction l with
  | nil => rfl
  | cons a l ih => rw [List.map_cons, List.flatten_cons, List.length_append, leBytes_length, ih, List.length_cons, Nat.mul_succ, Nat.add_comm]

/-- HARM_READ's bytes: the start of the window, its frequency and 127 magnitudes (R167). -/
theorem harmRead_shows {tk : Taken} {u : State} (hm : metroOff u = false) (hc : fld tk.payload 0 1 ≤ 35) :
    ∃ p, harmRead tk u = (u, okWith p) ∧ p.length = 524 ∧ Shows p 0 6 u.met.harm.startCycle ∧ Shows p 8 4 u.met.harm.freqMhz ∧
      ∀ k < 127, Shows p (16 + 4 * k) 4 ((u.met.harm.mags.getD (fld tk.payload 0 1) []).getD k 0) := by
  unfold harmRead
  dsimp only
  rw [hm, if_neg Bool.false_ne_true, if_neg (by omega)]
  refine ⟨_, rfl, ?_, by simp, by simp, fun k hk => ?_⟩
  · simp only [List.length_append, leBytes_length, flatten_leBytes_length, List.length_map, List.length_range]
  · have hs := shows_flat (k := k) ((List.range 127).map fun j => (u.met.harm.mags.getD (fld tk.payload 0 1) []).getD j 0) 4
      (by simpa using hk)
    rw [shows_next (by simp)]
    simpa [hk] using hs

/-- Settles O28: a DSP cycle is its measurement, its result set and the start of the next; the other commands have one effect each. -/
theorem meteringCycle : Obligations.MeteringCycle := by
  unfold Obligations.MeteringCycle
  refine ⟨fun cyc e f v => ?cycle, fun reg => ?refresh, fun w => ?window, ?fallback, fun sel => ?takeover, fun sel => ?invalid,
    ?status, ?harmonics⟩
  case cycle =>
    rintro dt s ⟨hl, hm, hu, he, hf, hv⟩
    show ∃ t, execDspCycleEnd dt cyc s = .next t ∧ _
    unfold execDspCycleEnd
    dsimp only
    rw [hl, hm, he]
    have hc : (endDspCycle e cyc (tick dt s)).mains = (tick dt s).mains :=
      endDspCycle_only (bs := [.hosts, .fab, .evt, .met, .reg]) (by decide) (Only.refl _ _) .mains (by decide)
    obtain ⟨hregs, hcount, hns, hrc, hlost, hnext, himage, hset⟩ := endDspCycle_effect hu hf hv
    exact next_now ⟨hregs, hcount, hns, hrc, hlost, hnext, himage, hset, congrArg MainsSt.cycle hc⟩
  case refresh =>
    rintro dt s ⟨hl, hr⟩
    refine next_if (by rw [hl]; simpa using hr) ⟨_, rfl, ?_, rfl, rfl, ?_⟩
    · show List.filter _ _ ++ _ = _
      congr 1
    · exact postLegal_only (by decide) (onMet_only (by decide) (Only.refl _ _))
  case window =>
    rintro dt s ⟨hl, hm, hw⟩
    show ∃ t, execHarmonicWindowEnd dt s = .next t ∧ _
    unfold execHarmonicWindowEnd
    dsimp only
    rw [hw]
    exact next_if (by rw [hl, hm]; rfl) ⟨rfl, rfl, onMet_only (by decide) (Only.refl _ _)⟩
  case fallback =>
    rintro dt s ⟨hl, hi, hf, hn⟩
    refine next_if (by rw [hl, hi, hf, decide_eq_true hn]; rfl) ?_
    obtain ⟨z, hz⟩ : ∃ z, z = (tick dt s).onMet fun m => { m with fallback := true, cal := defaultImage m, span := [] } := ⟨_, rfl⟩
    rw [← hz]
    obtain ⟨a, b, c, hw⟩ := @writeMlog_met 5 (fallbackArg (tick dt s).met) [] false z
    rw [tellLogic_met, hw, hz]
    refine ⟨rfl, rfl, rfl, rfl, fun hs => tellLogic_fallback_alarm ?_⟩
    rw [writeMlog_seamTakes]
    exact hs
  case takeover =>
    rintro dt s ⟨hl, hm, hs, hd, ht, h0, hr⟩
    have hb : decide ((tick dt s).met.ctl.ratesUsed < sel) = false := decide_eq_false (by omega)
    refine ⟨_, exec_tariffInputTakeover rfl hl hm hs hd ht hb, ?_⟩
    show _ ∧ _
    rw [Bool.false_and, if_neg Bool.false_ne_true, State.onMet_met, takeSelection_valid h0 hm]
    exact ⟨rfl, rfl, rfl, rfl, rfl, onMet_only (by decide) (Only.refl _ _)⟩
  case invalid =>
    rintro dt s ⟨hl, hm, hs, hd, ht, hr, hi⟩
    refine ⟨_, exec_tariffInputTakeover rfl hl hm hs hd ht (decide_eq_true hr), ?_⟩
    show _ ∧ _
    rw [hi, if_pos (by decide), tellLogic_met, State.onMet_met, takeSelection_invalid hm]
    refine ⟨rfl, rfl, rfl, rfl, fun hs => ?_⟩
    unfold tellLogic
    rw [if_pos (show seamTakes (State.onMet _ _) = true from hs)]
    exact logged_raise rfl rfl
  case status =>
    refine Reads.of (fun _ _ _ => rfl) fun _ tk u _ => ⟨_, rfl, ?_, ?_⟩
    · simp
    · simp
  case harmonics =>
    exact Reads.of (fun _ _ _ => rfl) fun _ _ _ ⟨hm, hc⟩ => harmRead_shows hm hc

/-! ### Overlays and images (R826–R832) -/

/-- What the CFG manager keeps of the last overlay change: the selection, the overlay in force and the key of the change (R830, R832). -/
def State.lastChange (s : State) : Nat × Nat × Nat := (s.cfg.selected, s.cfg.overlay, s.cfg.lastChangeKey)

/-- What leaves the configuration block leaves the last change. -/
theorem lastChange_only {bs : List Block} {s t : State} (h : Only bs s t) (hb : Block.cfg ∉ bs := by decide) :
    t.lastChange = s.lastChange := by
  unfold State.lastChange
  rw [h .cfg hb]

theorem lastChange_foldl {α : Type} {g : State → α → State} (hg : ∀ s a, (g s a).lastChange = s.lastChange) (l : List α) (s : State) :
    (l.foldl g s).lastChange = s.lastChange := by
  induction l generalizing s with
  | nil => rfl
  | cons a l ih => rw [List.foldl_cons, ih, hg]

theorem lastChange_postWord (w : CtlWord) (s : State) : (postWord w s).lastChange = s.lastChange := by
  unfold postWord countSuperseded
  split <;> rfl

theorem lastChange_postTab {α : Type} [DecidableEq α] (d : α) (word : Nat → α → CtlWord) (cur new : List (Nat × α)) (s : State) :
    (postTab d word cur new s).lastChange = s.lastChange := by
  refine lastChange_foldl (fun s k => ?_) _ _
  split
  · rfl
  · exact lastChange_postWord _ _

theorem lastChange_armRequest {fn : ArmFn} {enable : Bool} {req : ArmReq} {now : State → State} {s : State}
    (h : (now s).lastChange = s.lastChange) : (armRequest fn enable req now s).1.lastChange = s.lastChange := by
  unfold armRequest
  split
  · exact h
  · split
    · rfl
    · split
      · rfl
      · exact h

theorem lastChange_unless {c : Prop} [Decidable c] {s t : State} (h : t.lastChange = s.lastChange) :
    (if c then s else t).lastChange = s.lastChange := by
  split
  · rfl
  · exact h

theorem lastChange_postArmed (fn : ArmFn) (enable : Bool) (req : ArmReq) (w : CtlWord) (c : Prop) [Decidable c] (s : State) :
    (if c then s else (armRequest fn enable req (postWord w) s).1).lastChange = s.lastChange :=
  lastChange_unless (lastChange_armRequest (lastChange_postWord w s))

theorem lastChange_postUnless (w : CtlWord) (c : Prop) [Decidable c] (s : State) :
    (if c then s else postWord w s).lastChange = s.lastChange := lastChange_unless (lastChange_postWord w s)

theorem lastChange_postWords (new : BaseCfg) (s : State) : (postWords new s).lastChange = s.lastChange := by
  unfold postWords
  dsimp only
  rw [lastChange_postTab, lastChange_postUnless, lastChange_postUnless, lastChange_postUnless, lastChange_postTab, lastChange_postTab,
    lastChange_postTab, lastChange_postUnless, lastChange_postArmed, lastChange_foldl fun _ _ => lastChange_postArmed _ _ _ _ _ _,
    lastChange_postArmed, lastChange_postArmed]

theorem lastChange_takePlc (c : PlcCfg) (s : State) : (takePlc c s).lastChange = s.lastChange := by
  have hm : ∀ m z, ((placeMode m z).getD z).lastChange = z.lastChange := fun m z =>
    lastChange_only (Only.getD (placeMode_only (bs := [.hosts, .sched, .evt, .pair]) (by decide) (Only.refl _ z)) (Only.refl _ z))
  unfold takePlc
  dsimp only
  split
  · exact lastChange_postUnless _ _ s
  · refine lastChange_armRequest ?_
    rw [hm, lastChange_postUnless]

theorem lastChange_endUp (st : Nat) (s : State) : (endUp st s).lastChange = s.lastChange := by
  have hi : (if s.upl.state = 2 then startIsland s else s).lastChange = s.lastChange := by split <;> rfl
  have hd : ∀ z : State, (if z.time.qualParent then dropParentTime z else z).lastChange = z.lastChange := fun z =>
    lastChange_only (Only.ite (dropParentTime_only (bs := [.hosts, .time, .evt]) (by decide) (Only.refl _ z)) (Only.refl _ z))
  unfold endUp
  split
  · rfl
  · exact (hd _).trans hi

theorem lastChange_commitPort (p mode : Nat) (s : State) : (commitPort p mode s).lastChange = s.lastChange := by
  have he : ∀ (c : Prop) [Decidable c] (z : State), (if c then endUp 1 (setLink p 0 z) else setLink p 0 z).lastChange = z.lastChange := by
    intro c _ z
    split
    · exact lastChange_endUp 1 (setLink p 0 z)
    · rfl
  have hb : ∀ (c : Prop) [Decidable c] (z : State), (if c then beginTransit (.port p) false (ofS 2) z else z).lastChange = z.lastChange := by
    intro c _ z
    split <;> rfl
  unfold commitPort
  dsimp only
  rw [lastChange_unless ((hb _ _).trans (he _ _))]
  rfl

theorem lastChange_takePorts (l : List PortCfg) (s : State) : (takePorts l s).lastChange = s.lastChange := by
  refine lastChange_foldl (fun s p => ?_) _ _
  dsimp only
  rw [lastChange_unless (lastChange_armRequest (lastChange_commitPort _ _ _)), lastChange_postUnless]

theorem lastChange_takeSettings (full : Bool) (e : BaseCfg) (s : State) : (takeSettings full e s).lastChange = s.lastChange := by
  have hr : ∀ c z, (if c = true then restartWindows z else z).lastChange = z.lastChange := fun c z =>
    lastChange_only (Only.ite (restartWindows_only (bs := [.bal]) (by decide) (Only.refl _ z)) (Only.refl _ z))
  have ht : ∀ o n z, (retariff o n (replaceSeries o n z)).lastChange = z.lastChange := fun o n z =>
    lastChange_only (retariff_only (bs := [.hosts, .sched, .fab, .evt, .pair, .reg]) (by decide)
      (replaceSeries_only (by decide) (Only.refl _ z)))
  have hp : ∀ l z, (takePulses l z).lastChange = z.lastChange := fun l z =>
    lastChange_only (takePulses_only (bs := [.reg]) (by decide) (Only.refl _ z))
  unfold takeSettings
  dsimp only
  rw [hr, ht, hp, lastChange_takePorts, lastChange_takePlc, lastChange_postWords]
  rfl

/-- With an image in force an overlay comes in force with its selection and its key (R830, R832). -/
theorem lastChange_putOverlay {n m key : Nat} {full : Bool} {i : CfgImage} {s : State} (h : s.cfg.running = some i) :
    (putOverlay n m key full s).lastChange = (n, m, key) := by
  unfold putOverlay
  rw [h]
  exact lastChange_takeSettings full (underOverlay i m) (s.onCfg fun c => { c with selected := n, overlay := m, lastChangeKey := key })

/-- Without an image no overlay comes in force. -/
theorem putOverlay_none {n m key : Nat} {full : Bool} {s : State} (h : s.cfg.running = none) : putOverlay n m key full s = s := by
  unfold putOverlay
  rw [h]

/-- Without an image the triggers change nothing. -/
theorem evalTriggers_none {s : State} (h : s.cfg.running = none) : evalTriggers s = s := by
  unfold evalTriggers
  dsimp only
  exact if_pos (by simp [h])

/-- What is due is dispatched unless another kind of entry is asked for. -/
theorem dispatch_none {p : SchedAction → Bool} {s : State} {e : SchedEntry} (h : dispatch p s = none) (hn : nextDue s = some e) :
    p e.action = false := by
  cases hp : p e.action with
  | false => rfl
  | true =>
    obtain ⟨z, hz, -⟩ := dispatch_due hn hp
    rw [h] at hz
    cases hz

/-- What the class 6 entry of a selection or an image does once it is dispatched (R827, R830, R832). -/
theorem exec_overlayChange {dt : Nat} {s : State} {e : SchedEntry} (hn : nextDue (tick dt s) = some e) :
    ∃ z, Only [.hosts, .sched, .evt, .pair] (tick dt s) z ∧
      (∀ n < 8, e.action = .overlayChange n →
        exec (.overlayChange dt) s = .next (evalTriggers (putOverlay n (overlayFor z n).1 e.key false z))) ∧
      (e.action = .cfgTake → exec (.overlayChange dt) s = .next (evalTriggers (putOverlay z.cfg.selected z.cfg.overlay z.cfg.lastChangeKey
        true (z.onCfg fun c => { c with running := c.inForce })))) := by
  show ∃ z, _ ∧ (∀ n < 8, _ → execOverlayChange dt s = _) ∧ (_ → execOverlayChange dt s = _)
  unfold execOverlayChange
  dsimp only
  split
  next e' z hd =>
    obtain rfl : e = e' := by simpa [hn] using (dispatch_sched hd).1
    refine ⟨z, dispatch_only (by decide) (Only.refl _ _) _ _ hd, fun n h8 ha => ?_, fun ha => ?_⟩
    · rw [ha]
      simp only [if_pos h8]
    · rw [ha]
      rfl
  next hd =>
    have hp := dispatch_none hd hn
    refine ⟨tick dt s, Only.refl _ _, fun n _ ha => ?_, fun ha => ?_⟩
    · simp [ha] at hp
    · simp [ha] at hp

/-- The first cycle start ahead depends on the cycle counter and the clock alone (R827, R831). -/
theorem nextCycleStart_of_clock {s t : State} (hm : t.mains = s.mains) (ht : t.time = s.time) : nextCycleStart t = nextCycleStart s := by
  unfold nextCycleStart aheadEnough
  rw [key_of_clock hm ht, hm]

/-- The moves of R826 are made, an entry for the image placed, and CFG_APPLY ended with the effective key. -/
theorem exec_cfgApplyComplete {dt : Nat} {s : State} {j : CfgJob} (hj : (tick dt s).cfg.applying = some j) (hl : logicUp (tick dt s) = true) :
    ∃ z b, z.cfg = { (moveStore j (tick dt s)).cfg with pendingStart := b } ∧
      exec (.cfgApplyComplete dt) s = .next (finishAt j.host j.taken
        (okWith (leBytes 8 (if j.key = 0 then nextCycleStart (tick dt s) else j.key))) z) := by
  show ∃ z b, _ ∧ execCfgApplyComplete dt s = _
  unfold execCfgApplyComplete
  dsimp only
  rw [hj]
  dsimp only
  rw [if_pos hl, nextCycleStart_of_clock (s := tick dt s) (t := moveStore j (tick dt s)) rfl rfl]
  have hp : ∀ e z, (placeOr e z).cfg = z.cfg := fun e z =>
    placeOr_only (bs := [.hosts, .sched, .evt, .pair]) (by decide) (Only.refl _ z) .cfg (by decide)
  refine ⟨_, ?_, ?_, rfl⟩
  rotate_left
  · rw [hp]
    rfl

/-- Settles O57: a due class 6 entry is dispatched and its overlay or image put in force; no step of the change touches what the CFG manager
keeps of it. -/
theorem overlaysAndImages : Obligations.OverlaysAndImages := by
  unfold Obligations.OverlaysAndImages
  refine ⟨fun e n => ?noImage, fun e => ?image, fun e n => ?selection, fun n m key i s hi => ?kept, ?islanded, ?waits,
    fun j => ?applied, ?idle⟩
  case noImage =>
    rintro dt s ⟨hn, ha, h8, hr⟩
    obtain ⟨z, ho, hs, -⟩ := exec_overlayChange hn
    have hc : z.cfg = (tick dt s).cfg := ho .cfg (by decide)
    have hz : z.cfg.running = none := by rw [hc, hr]
    refine ⟨_, hs n h8 ha, ?_⟩
    show _ ∧ _
    rw [putOverlay_none hz, evalTriggers_none hz, hc]
    exact ⟨rfl, rfl, rfl⟩
  case image =>
    rintro dt s ⟨hn, ha⟩
    obtain ⟨z, ho, -, hi⟩ := exec_overlayChange hn
    have hc : z.cfg = (tick dt s).cfg := ho .cfg (by decide)
    exact ⟨_, hi ha, z, ho, by rw [hc]⟩
  case selection =>
    rintro dt s ⟨hn, ha, h8⟩
    obtain ⟨z, ho, hs, -⟩ := exec_overlayChange hn
    exact ⟨_, hs n h8 ha, z, ho, rfl⟩
  case kept =>
    have h := lastChange_putOverlay (n := n) (m := m) (key := key) (full := false) hi
    simpa [State.lastChange] using h
  case islanded =>
    rintro dt s ⟨hu, hn, hs, ha, ht, hk⟩
    refine next_if (by rw [hu, hn, ha, ht, decide_eq_true hs, decide_eq_true hk]; rfl) ⟨rfl, ?_⟩
    obtain ⟨k, hc⟩ := evalTriggers_cfg ((tick dt s).onCfg fun c => { c with trigIslanded := true })
    exact congrArg CfgSt.trigIslanded hc
  case waits =>
    rintro dt s h
    refine next_unless (fun hc => ?_) rfl
    simp only [Bool.and_eq_true, decide_eq_true_eq] at hc
    obtain ⟨⟨⟨⟨⟨-, hn⟩, -⟩, -⟩, -⟩, hk⟩ := hc
    rcases h with h | h
    · rw [h] at hn
      cases hn
    · exact absurd hk (by omega)
  case applied =>
    rintro dt s ⟨hj, hl⟩
    obtain ⟨z, b, hc, he⟩ := exec_cfgApplyComplete hj hl
    have hf : (finishAt j.host j.taken (okWith (leBytes 8 (if j.key = 0 then nextCycleStart (tick dt s) else j.key))) z).cfg = z.cfg :=
      finishAt_only (bs := [.hosts]) (by decide) (Only.refl _ _) .cfg (by decide)
    refine ⟨_, he, ?_⟩
    show _ ∧ _
    rw [hf, hc]
    exact ⟨rfl, rfl, rfl, rfl, rfl, rfl, z, rfl⟩
  case idle =>
    rintro dt s h
    show ∃ t, execCfgApplyComplete dt s = .next t ∧ _
    unfold execCfgApplyComplete
    dsimp only
    rw [h]
    exact next_now rfl

end Sys2Proof.Machine
end

section
/-! PROOFS. The statements of the mains timebase: the lock, steering, host-requested entries, the anchoring, Hem and temperature. -/

namespace Sys2Proof.Machine

open Host (Outcome)

/-! ### How a cycle ends (R65, R69, R71, R74) -/

section Cycles
variable {x : Nat} {a : Bool} {n : MainsState} {s : State}

/-- Without a channel that can be the reference every cycle leads to Virtual (R65). -/
@[simp] theorem endCycle_state : (endCycle x a n s).mains.state = if (refCandidate s).isNone then .virtual else n := rfl

/-- A cycle that an accepted crossing ends carries the virtual-mains flag where it does not lead to Locked (R74). -/
theorem endCycle_flagged_accepted : (endCycle x true .locked s).mains.flagged = (refCandidate s).isNone := by
  show (!(true && (if (refCandidate s).isNone then MainsState.virtual else .locked) == .locked)) = _
  cases (refCandidate s).isNone
  · rfl
  · rfl

/-- A Virtual cycle that has no reference forgets the last crossing (R65). -/
@[simp] theorem endCycle_lastCross :
    (endCycle x a n s).mains.lastCross = if (refCandidate s).isNone then none else s.mains.lastCross := rfl

/-- In Holdover the count of its cycles goes on; else it is cleared (R71). -/
@[simp] theorem endCycle_holdCycles : (endCycle x a n s).mains.holdCycles =
    if (if (refCandidate s).isNone then MainsState.virtual else n) == .holdover then s.mains.holdCycles else 0 := rfl

/-- The check of the frequency changes of the mains only what it has told (R76). -/
theorem checkOffNominal_mains (s : State) : ∃ b, (checkOffNominal s).mains = { s.mains with freqSeen := b } := by
  unfold checkOffNominal
  dsimp only
  split
  · exact ⟨true, raise_frame _ _ _ _ .mains (by decide)⟩
  · exact ⟨_, rfl⟩

/-! ### Crossings (R68, R69, R71) -/

variable {dt chan delay last : Nat}

/-- A crossing of the reference is taken by the state in which it comes (R65). -/
theorem exec_zeroCrossing (ha : (tick dt s).pwr.aonOn = true) (hu : (tick dt s).fab.seamUp = true)
    (hr : (tick dt s).mains.ref = some chan) (hn : (tick dt s).mains.realign = false) :
    ((tick dt s).mains.state = .locked →
      exec (.zeroCrossing dt chan delay) s = .next (lockedCross (crossInstant (tick dt s) chan delay) (tick dt s))) ∧
    ((tick dt s).mains.state = .holdover →
      exec (.zeroCrossing dt chan delay) s = .next (holdoverCross (crossInstant (tick dt s) chan delay) (tick dt s))) := by
  show (_ → execZeroCrossing dt chan delay s = _) ∧ (_ → execZeroCrossing dt chan delay s = _)
  unfold execZeroCrossing
  dsimp only
  rw [if_pos (by rw [ha, hu, hr]; simp), hn, if_neg Bool.false_ne_true]
  constructor
  · intro hs
    rw [hs]
  · intro hs
    rw [hs]

/-- Inside the window the crossing ends the cycle, and an eighth of its interval goes into the predicted period (R68, R69). -/
theorem lockedCross_accepted (hl : s.mains.lastCross = some last) (hw : inWindow s.mains.period last x = true) :
    ∃ b, (lockedCross x s).mains = { (endCycle x true .locked s).mains with
      lastCross := some x, period := (7 * s.mains.period + (x - last)) / 8, freqSeen := b } := by
  unfold lockedCross
  rw [hl]
  dsimp only
  rw [if_pos hw]
  exact checkOffNominal_mains _

/-- Outside the window the crossing is counted as ignored (R68). -/
theorem lockedCross_ignored (hl : s.mains.lastCross = some last) (hw : inWindow s.mains.period last x = false) :
    lockedCross x s = s.onMains fun m => { m with ignored := inc32 m.ignored } := by
  unfold lockedCross
  rw [hl]
  exact if_neg (by rw [hw]; decide)

/-- In Holdover a crossing in the window of the cycle in progress ends it, its interval not averaged in (R71). -/
theorem holdoverCross_accepted (hw : inWindow s.mains.period s.mains.startRc x = true) :
    holdoverCross x s = (endCycle x true .locked s).onMains fun m => { m with lastCross := some x } := if_pos hw

end Cycles

/-- Settles O21: each command's guard holds, and the cycle ends as endCycle ends it. -/
theorem lockedAndHoldover : Obligations.LockedAndHoldover := by
  unfold Obligations.LockedAndHoldover
  refine ⟨fun chan delay last => ?accepted, fun chan delay last => ?ignored, fun chan delay => ?regained, fun last => ?entry, ?held,
    ?given⟩
  case accepted =>
    rintro dt s ⟨ha, hu, hr, hn, hs, hl, hw⟩
    refine ⟨_, (exec_zeroCrossing ha hu hr hn).1 hs, ?_⟩
    obtain ⟨b, hb⟩ := lockedCross_accepted hl hw
    show _ ∧ _
    rw [hb]
    exact ⟨rfl, rfl, rfl, rfl, rfl, endCycle_flagged_accepted (x := crossInstant (tick dt s) chan delay),
      lockedCross_only (by decide) (Only.refl _ _)⟩
  case ignored =>
    rintro dt s ⟨ha, hu, hr, hn, hs, hl, hw⟩
    exact ⟨_, (exec_zeroCrossing ha hu hr hn).1 hs, lockedCross_ignored hl hw⟩
  case regained =>
    rintro dt s ⟨ha, hu, hr, hn, hs, hw⟩
    refine ⟨_, (exec_zeroCrossing ha hu hr hn).2 hs, ?_⟩
    rw [holdoverCross_accepted hw]
    exact ⟨rfl, rfl, rfl, rfl, rfl, onMains_only (by decide) (endCycle_only (by decide) (Only.refl _ _))⟩
  case entry =>
    rintro dt s ⟨ha, hl, hd, hs, hn⟩
    show ∃ t, execHoldoverEntry dt s = .next t ∧ _
    unfold execHoldoverEntry
    dsimp only
    rw [hl]
    dsimp only
    refine next_if (by rw [ha, hs, decide_eq_true hd]; rfl) ?_
    rw [hn, if_neg Bool.false_ne_true]
    refine ⟨rfl, rfl, rfl, rfl, ?_, endCycle_only (by decide) (onMains_only (by decide) (Only.refl _ _))⟩
    simp
  case held =>
    rintro dt s ⟨ha, hs, hd, hc⟩
    refine next_if (by rw [ha, hs, decide_eq_true hd, decide_eq_true hc]; rfl) ⟨rfl, rfl, rfl, rfl, fun hr => ?_,
      endCycle_only (by decide) (onMains_only (by decide) (Only.refl _ _))⟩
    have hr' : (refCandidate ((tick dt s).onMains fun m => { m with holdCycles := m.holdCycles + 1 })).isNone = false :=
      Option.isNone_eq_false_iff.mpr hr
    rw [endCycle_holdCycles, hr']
    rfl
  case given =>
    rintro dt s ⟨ha, hs, hd, hc⟩
    refine next_if (by rw [ha, hs, hc, decide_eq_true hd]; rfl) ⟨rfl, rfl, ?_, rfl, ?_,
      endCycle_only (by decide) (onMains_only (by decide) (Only.refl _ _))⟩
    · simp
    · simp

/-! ### Steering (R83, R108, R121–R129) -/

/-- Where no TIME_STEP waits for the phase tick none is answered. -/
theorem answerSteps_nil {dates : List Byte} {s : State} (h : s.time.stepOwners = []) : answerSteps dates s = s := by
  unfold answerSteps
  rw [h, List.foldl_nil, State.onTime, ← h]

/-- The clock after a prepared pair has become active, its step still to be applied (R121, R122). -/
def pairActive (incr : Nat) (offset : Int) (s : State) : State := s.onTime fun t =>
  { t with
    incr := incr, offset := offset, offsetWritten := true, shadow := none, slew := t.shadowSlew.map (startSlew t.count), shadowSlew := none
    stepKey := s.key, stepDue := if s.time.offsetWritten then 2 else 1, held := if t.shadowTake then none else t.held, shadowTake := false }

section Commit
variable {dt incr : Nat} {offset : Int} {s : State}

/-- An OFFSET commits at the first tick of a phase tick (R122). -/
theorem exec_timePairCommit (hp : (tick dt s).time.shadow = some (incr, some offset)) (hf : firstOfPhaseTick (tick dt s) = true) :
    exec (.timePairCommit dt) s = .next (commitOffset incr offset (tick dt s)) := by
  show execTimePairCommit dt s = _
  unfold execTimePairCommit
  dsimp only
  rw [hp]
  exact if_pos hf

/-- The first OFFSET anchors the cycles already timed, with one event (R83). -/
theorem commitOffset_first (hw : s.time.offsetWritten = false) (ho : s.time.stepOwners = []) :
    ∃ dates, commitOffset incr offset s =
      raise .anchored srcSup dates (anchorCycles (offset - s.time.offset) (pairActive incr offset s)) := by
  have he : ∃ dates, commitOffset incr offset s =
      answerSteps dates (raise .anchored srcSup dates (anchorCycles (offset - s.time.offset) (pairActive incr offset s))) := by
    unfold commitOffset pairActive
    rw [hw]
    exact ⟨_, rfl⟩
  obtain ⟨d, hd⟩ := he
  refine ⟨d, hd.trans (answerSteps_nil ?_)⟩
  rw [raise_frame _ _ _ _ .time (by decide)]
  exact ho

/-- A move of 1 ms or less is counted as a trim (R108, R125). -/
theorem commitOffset_trim (hw : s.time.offsetWritten = true) (ho : s.time.stepOwners = [])
    (hd : (offset - s.time.offset).natAbs ≤ ofMs 1) :
    commitOffset incr offset s = (pairActive incr offset s).onTime fun t => { t with trims := inc32 t.trims } := by
  have he : ∃ dates, commitOffset incr offset s =
      answerSteps dates ((pairActive incr offset s).onTime fun t => { t with trims := inc32 t.trims }) := by
    unfold commitOffset pairActive
    rw [hw]
    dsimp only
    rw [if_pos hd]
    exact ⟨_, rfl⟩
  obtain ⟨d, hd⟩ := he
  exact hd.trans (answerSteps_nil ho)

/-- A greater move is counted as a step, with one event (R108, R110). -/
theorem commitOffset_step (hw : s.time.offsetWritten = true) (ho : s.time.stepOwners = [])
    (hd : ¬ (offset - s.time.offset).natAbs ≤ ofMs 1) :
    ∃ dates, commitOffset incr offset s = setSticky 0x030 0x80 (raise .timeStep srcSup dates
      ((pairActive incr offset s).onTime fun t => { t with steps := w16 (t.steps + 1) })) := by
  have he : ∃ dates all, commitOffset incr offset s = answerSteps dates (setSticky 0x030 0x80 (raise .timeStep srcSup all
      ((pairActive incr offset s).onTime fun t => { t with steps := w16 (t.steps + 1) }))) := by
    unfold commitOffset pairActive
    rw [hw]
    dsimp only
    rw [if_neg hd]
    exact ⟨_, _, rfl⟩
  obtain ⟨d, l, hd⟩ := he
  refine ⟨l, hd.trans (answerSteps_nil ?_)⟩
  rw [setSticky_frame _ _ _ .time (by decide), raise_frame _ _ _ _ .time (by decide)]
  exact ho

end Commit

/-- The selected source is the best that qualifies (R126). -/
theorem selectSource_src (s : State) : (selectSource s).time.src = bestSource s := by
  unfold selectSource
  dsimp only
  split
  next h => exact (eq_of_beq h).symm
  next => rfl

/-- The loss of the source leaves the clock, and is told in the alarm and one event (R127). -/
theorem loseSource_effect (s : State) :
    (loseSource s).time.qual0 = s.time.qual0 ∧ (loseSource s).time.incr = s.time.incr ∧ (loseSource s).time.offset = s.time.offset ∧
      (loseSource s).hosts.alarmN.getLsbD 8 = true ∧ Logged .sourceLoss srcSup [] s (loseSource s) := by
  obtain ⟨z, hz⟩ : ∃ z, z = s.onTime fun t => { t with servo := .holdover } := ⟨_, rfl⟩
  obtain ⟨w, hw⟩ : ∃ w, w = setAlarm 0x100 (raise .sourceLoss srcSup [] z) := ⟨_, rfl⟩
  have hl : loseSource s = selectSource w := by rw [hw, hz]; rfl
  have ht : w.time = z.time := by rw [hw]; exact setAlarm_only (by decide) (raise_frame _ _ _ z) .time (by decide)
  have ho := selectSource_only (bs := [.time]) (by decide) (Only.refl _ w)
  obtain ⟨-, -, hoff, hinc, hq, -⟩ := selectSource_clock w
  rw [hl, hq, hinc, hoff, ht, hz]
  refine ⟨rfl, rfl, rfl, ?_, ?_⟩
  · rw [ho .hosts (by decide), hw, setAlarm_alarmN, BitVec.getLsbD_or]
    simp
  · refine Logged.of_q10 (logged_raise (z := z) ?_ ?_) ?_
    · rw [hz]; rfl
    · rw [hz]; rfl
    · rw [ho .evt (by decide), hw]; rfl

/-- Settles O24: a commit is what its pair becomes, and the sources leave INCR and OFFSET. -/
theorem timeSteering : Obligations.TimeSteering := by
  unfold Obligations.TimeSteering
  refine ⟨fun incr => ?rate, fun incr offset => ?anchoring, fun incr offset => ?moved, fun w => ?slewEnd,
    fun q0 q1 best announce => ?select, ?loss, ?leap, fun s i hi hd => ?after⟩
  case rate =>
    intro dt s hp
    show ∃ t, execTimePairCommit dt s = .next t ∧ _
    unfold execTimePairCommit
    dsimp only
    rw [hp]
    exact next_now rfl
  case anchoring =>
    rintro dt s ⟨hp, hf, hw, ho⟩
    refine ⟨_, exec_timePairCommit hp hf, ?_⟩
    obtain ⟨d, hc⟩ := commitOffset_first (incr := incr) (offset := offset) hw ho
    obtain ⟨z, hz⟩ : ∃ z, z = anchorCycles (offset - (tick dt s).time.offset) (pairActive incr offset (tick dt s)) := ⟨_, rfl⟩
    have hr := raise_frame .anchored srcSup d z
    rw [hc, ← hz, hr .time (by decide), hr .mains (by decide), hz]
    exact ⟨rfl, rfl, rfl, rfl, by simp [pairActive, anchorCycles, hw], rfl, rfl, rfl, rfl⟩
  case moved =>
    rintro dt s ⟨hp, hf, hw, ho⟩
    refine ⟨_, exec_timePairCommit hp hf, ?_⟩
    have h2 : (pairActive incr offset (tick dt s)).time.stepDue = 2 := by simp [pairActive, hw]
    by_cases hd : (offset - (tick dt s).time.offset).natAbs ≤ ofMs 1
    · show _ ∧ _
      rw [commitOffset_trim hw ho hd, if_pos hd, if_pos hd]
      exact ⟨rfl, rfl, rfl, h2, rfl, rfl, rfl, rfl⟩
    · obtain ⟨d, hc⟩ := commitOffset_step (incr := incr) hw ho hd
      show _ ∧ _
      rw [hc, setSticky_frame _ _ _ .time (by decide), raise_frame _ _ _ _ .time (by decide), if_neg hd, if_neg hd]
      exact ⟨rfl, rfl, rfl, h2, rfl, rfl, rfl, rfl⟩
  case slewEnd =>
    rintro dt s ⟨hw, he⟩
    show ∃ t, execSlewEnd dt s = .next t ∧ _
    unfold execSlewEnd
    dsimp only
    rw [hw]
    exact next_if he rfl
  case select =>
    rintro dt s ⟨hs, hq, rfl⟩
    obtain ⟨u, hu⟩ : ∃ u, u = (tick dt s).onTime fun x => { x with qual0 := q0, qual1 := q1, bestPort := best % 2 } := ⟨_, rfl⟩
    have he : exec (.sourceSelect dt q0 q1 best none) s = .next (selectSource u) := by
      show execSourceSelect dt q0 q1 best none s = _
      unfold execSourceSelect
      dsimp only
      rw [if_pos (by rw [hs]; rfl), hq, ← hu, if_pos rfl]
    obtain ⟨-, -, hoff, hinc, h0, h1⟩ := selectSource_clock u
    refine ⟨_, he, ?_⟩
    show _ ∧ _
    rw [selectSource_src, h0, h1, hinc, hoff, hu]
    exact ⟨rfl, rfl, rfl, rfl, rfl, selectSource_only (by decide) (onTime_only (by decide) (Only.refl _ _))⟩
  case loss =>
    rintro dt s ⟨hs, hp⟩
    show ∃ t, execSourceLoss dt s = .next t ∧ _
    unfold execSourceLoss
    dsimp only
    rw [hs, hp]
    obtain ⟨hq, hi, ho, ha, hl⟩ := loseSource_effect ((tick dt s).onTime fun t => { t with qual0 := false })
    exact next_now ⟨hq, hi, ho, ha, hl, loseSource_only (by decide) (onTime_only (by decide) (Only.refl _ _))⟩
  case leap =>
    intro dt s _
    refine next_now ?_
    show _ = _
    cases utcSource (tick dt s) with
    | none => rfl
    | some i => rfl
  case after =>
    unfold afterLeap
    rw [hi]
    exact if_pos (by simpa using hd)

/-! ### Host-requested entries (R86, R95, R98–R100) -/

/-- The entry of a mains-based event's first firing goes behind those that wait (R86, R98). -/
theorem placeHostEvt_first {e : HostEvt} {s : State} (hw : e.wallBased = false) (hq : quotaUsed s 8 e.host < 256) :
    (placeHostEvt e 0 s).sched.hostEvts = s.sched.hostEvts ∧ ∃ n, (placeHostEvt e 0 s).sched.entries = s.sched.entries ++ [n] ∧
      n.key = e.firstKey ∧ n.cls = 8 ∧ n.owner = e.host ∧ n.action = .hostNotice e.handle ∧ n.wall = none := by
  unfold placeHostEvt
  rw [placeOr_host rfl hq, hw]
  refine ⟨rfl, _, rfl, ?_, rfl, rfl, rfl, rfl⟩
  simp [hostEvtKey, hw]

/-- What the work of a fired event that is not repeated does (R95, R98): the count, the end, and the notice to its ring. -/
theorem exec_hostEvent {dt hd : Nat} {s z : State} {en : SchedEntry} {e : HostEvt}
    (hq : dispatch isHostNotice (tick dt s) = some (en, z)) (ha : en.action = .hostNotice hd) (hl : en.late = none)
    (hf : z.sched.hostEvts.find? (fun e => e.handle == hd) = some e) (hp : e.period = 0) :
    ∃ t, exec (.hostEvent dt) s = .next t ∧ t.sched = { z.sched with
      hostEvts := z.sched.hostEvts.map fun q => if q.handle == hd then { q with fired := e.fired + 1, done := true } else q } := by
  have hn : nextFiring z e false e.fired = e.fired + 1 := rfl
  show ∃ t, execHostEvent dt s = .next t ∧ _
  unfold execHostEvent
  dsimp only
  rw [hq]
  dsimp only
  rw [ha]
  dsimp only
  rw [hf]
  dsimp only
  rw [hl, hp]
  simp only [Option.isSome_none, hn, beq_self_eq_true, Bool.true_or, if_true]
  split
  · exact next_now (pushNotice_only (bs := [.hosts]) (by decide) (Only.refl _ _) .sched (by decide))
  · exact next_now rfl

/-- Settles O26: the entry is placed, taken away, converted or dispatched, and the table of events follows it. -/
theorem hostEvents : Obligations.HostEvents := by
  unfold Obligations.HostEvents
  refine ⟨?add, fun e => ?cancel, fun seq w e => ?reconvert, fun hd e => ?fire⟩
  case add =>
    refine Serves.of (fun _ _ _ => rfl) fun h tk u _ ⟨hr, hb, hc, hk, hq⟩ => ?_
    unfold schedAdd
    dsimp only
    rw [hb, if_pos rfl]
    refine pass_check ?_ (pass_check ?_ (pass_check ?_ (pass_check (by omega) (answers_with ⟨?_, Or.inl (by simp [okWith])⟩))))
    · simpa [hr] using hc
    · simp
    · simp [hk]
    · obtain ⟨e, he⟩ : ∃ e : HostEvt, e =
        { handle := freeHandle u 65535 u.sched.nextHandle, host := h.val, ring := fld tk.payload 18 2, wallBased := false
          period := fld tk.payload 20 4, count := fld tk.payload 24 4, fired := 0, userTag := fld tk.payload 28 4
          firstKey := mkKey (fld tk.payload 0 6) (fld tk.payload 6 2), firstTai := fld tk.payload 8 8, done := false } := ⟨_, rfl⟩
      obtain ⟨hv, n, hn, h1, h2, h3, h4, h5⟩ := placeHostEvt_first (e := e)
        (s := u.onSched fun c => { c with hostEvts := c.hostEvts ++ [e], nextHandle := e.handle % 65535 + 1 })
        (by rw [he]) (by rw [he]; exact hq)
      subst he
      refine ⟨_, n, hv, rfl, rfl, rfl, rfl, rfl, rfl, rfl, hn, h1, h2, h3, h4, h5, ?_⟩
      rw [h1]
  case cancel =>
    refine Serves.of (fun _ _ _ => rfl) fun h tk u _ ⟨hf, hh, hd⟩ => ?_
    unfold schedCancel
    dsimp only
    rw [hf]
    refine pass_check (by simp [hh]) (pass_check (by simp [hd]) (answers_with ⟨⟨rfl, ?_, ?_⟩, Or.inl (by simp [answer])⟩))
    · rw [State.onSched_sched, dropEntries_sched]
    · rw [State.onSched_sched, dropEntries_sched]
  case reconvert =>
    rintro dt s ⟨hf, hw, hc, ha, hl, hk, hn⟩
    show ∃ t, execEntryReconvert dt seq s = .next t ∧ _
    unfold execEntryReconvert
    dsimp only
    rw [hf]
    dsimp only
    rw [hw]
    exact next_if (by rw [hc, ha, hl, decide_eq_true hk, decide_eq_true hn]; rfl) rfl
  case fire =>
    rintro dt s ⟨hq, hf, hp⟩
    obtain ⟨⟨en, z⟩, hz, he⟩ := Option.map_eq_some_iff.mp hq
    obtain ⟨ha, hl⟩ := Prod.mk.inj he
    obtain ⟨hn, -, hs⟩ := dispatch_sched hz
    obtain ⟨t, ht, hts⟩ := exec_hostEvent hz ha hl (by rw [hs]; exact hf) hp
    refine ⟨t, ht, ?_⟩
    show _ ∧ _
    rw [hts, hs]
    exact ⟨rfl, en, hn, rfl⟩

/-! ### The anchoring, a step and the reads (R78, R83, R101, R109, R146) -/

/-- The record of a cycle is split, and nothing else of the mains changes (R79, R82). -/
theorem splitCycle_mains (s : State) : ∃ l, (splitCycle s).mains = { s.mains with cycles := l } := ⟨_, rfl⟩

theorem setHost_setHost {h : Fin 4} {x y : HostSt} {s : State} : (s.setHost h x).setHost h y = s.setHost h y := by
  simp [State.setHost, State.onHosts]

/-- An access of a host that has a port makes it online (R624). -/
theorem touchHost_ported {h : Fin 4} {s : State} (hp : (s.host h).port ≠ 0) :
    touchHost h s = s.setHost h { s.host h with online := true } := if_neg (by simpa using hp)

/-- After a read of the time the rest of it waits for the reading host, which is online (R146, R624). -/
theorem latchTime_host {h : Fin 4} {s : State} (hp : (s.host h).port ≠ 0) : latchTime h s = s.setHost h
    { s.host h with online := true, timeLatch := [BitVec.ofNat 32 (s.tai / 0x100000000), BitVec.ofNat 32 (s.reported % nsUnit),
                    BitVec.ofNat 32 (s.key % 0x100000000), BitVec.ofNat 32 (s.key / 0x100000000)] } := by
  unfold latchTime
  rw [touchHost_ported hp]
  simp only [host_setHost_self, tai_setHost, reported_setHost, key_setHost, setHost_setHost]

/-- After a read of the cycle number the rest of it waits for the reading host, which is online (R78, R624). -/
theorem latchMains_host {h : Fin 4} {s : State} (hp : (s.host h).port ≠ 0) : latchMains h s = s.setHost h
    { s.host h with online := true, mainsLatch := BitVec.ofNat 32 (s.mains.cycle / 0x100000000 % 65536 + 65536 * s.phase) } := by
  unfold latchMains
  rw [touchHost_ported hp]
  simp only [host_setHost_self, setHost_mains, phase_setHost, setHost_setHost]

/-- XREF's bytes for an instant of the kept record (R101). -/
theorem xref_shows {tk : Taken} {u : State} (hd : fld tk.payload 0 1 ≤ 1) (ha : u.mains.anchored = true)
    (hk : (if fld tk.payload 0 1 = 0 then keyToWall u (fld tk.payload 8 8) else wallToKey u (ofNs (fld tk.payload 8 8))).kept = true) :
    ∃ p, xref tk u = (u, okWith p) ∧ p.length = 16 ∧
      Shows p 0 8 (if fld tk.payload 0 1 = 0 then ratioOf (keyToWall u (fld tk.payload 8 8)).value nsUnit
        else (wallToKey u (ofNs (fld tk.payload 8 8))).value) ∧
      (fld tk.payload 0 1 = 0 → Shows p 8 4 (keyToWall u (fld tk.payload 8 8)).errNs ∧
        Shows p 12 2 (keyToWall u (fld tk.payload 8 8)).flags) := by
  unfold xref
  dsimp only
  rw [if_neg (by omega), ha, hk, if_neg (by decide), if_neg (by decide)]
  refine ⟨_, rfl, by simp, ?_, fun h0 => ?_⟩
  · by_cases h0 : fld tk.payload 0 1 = 0
    · simp [h0]
    · simp [h0]
  · simp [h0]

/-- Settles O27: what follows the close of the segment leaves the clock and the count; XREF and the latching reads change no other block. -/
theorem anchorAndReads : Obligations.AnchorAndReads := by
  unfold Obligations.AnchorAndReads
  refine ⟨?anchor, ?step, ?xref, fun h => ?time, fun h => ?cycle⟩
  case anchor =>
    rintro dt s ⟨hd, ht⟩
    obtain ⟨w, hw⟩ : ∃ w, w = closeSegment false (tick dt s) := ⟨_, rfl⟩
    have hc : w.time = (tick dt s).time := by rw [hw]; rfl
    have ho : Only [.hosts, .sched, .evt, .pair, .fab, .reg] w (startRate (placeAllSeries (reconvertAll w))) :=
      startRate_only (by decide) (placeAllSeries_only (by decide) (reconvertAll_only (by decide) (Only.refl _ _)))
    obtain ⟨g, -, -, -, -, -, hm⟩ := closeSegment_mains false (tick dt s)
    refine next_if (by rw [hd, ht]; rfl) ?_
    rw [← hw] at hm ⊢
    show _ ∧ _
    rw [State.onTime_time, State.onTime_mains, ho .time (by decide), ho .mains (by decide), hc, hm]
    exact ⟨rfl, rfl, rfl, rfl⟩
  case step =>
    rintro dt s ⟨hd, ht⟩
    obtain ⟨v, hv⟩ : ∃ v, v = (tick dt s).onMains fun m => { m with segFlags := m.segFlags ||| 4 } := ⟨_, rfl⟩
    obtain ⟨g, -, hn, -, hs, -, hm⟩ := closeSegment_mains false v
    obtain ⟨l, hl⟩ := splitCycle_mains (closeSegment false v)
    refine next_if (by rw [hd, ht]; rfl) ⟨g, ?_⟩
    show _ ∧ _
    rw [← hv, State.onTime_time, State.onTime_mains]
    have ho : Only [.sched] (splitCycle (closeSegment false v)) (reconvertAll (splitCycle (closeSegment false v))) :=
      reconvertAll_only (by decide) (Only.refl _ _)
    rw [ho .time (by decide), ho .mains (by decide), hl, hm, hn, hs, hv]
    refine ⟨rfl, ?_, rfl, rfl, rfl, rfl⟩
    simp
  case xref => exact Reads.of (fun _ _ _ => rfl) fun _ _ _ ⟨hd, ha, hk⟩ => xref_shows hd ha hk
  case time =>
    rintro dt s ⟨ha, hp⟩
    refine next_if ha ?_
    rw [latchTime_host hp]
    exact ⟨host_setHost_self, fun k hk => host_setHost_ne hk, setHost_frame⟩
  case cycle =>
    rintro dt s ⟨ha, hp⟩
    refine next_if ha ?_
    rw [latchMains_host hp]
    exact ⟨host_setHost_self, fun k hk => host_setHost_ne hk, setHost_frame⟩

/-! ### Hem and the junction temperature (R91, R791–R794, R813, R814) -/

/-- An entry to Doze or Hold that Hem meets leaves the shutdowns and power-ups in progress (R813). -/
theorem hemStopsEntry_transits (s : State) :
    (hemStopsEntry s).pwr.transits = s.pwr.transits ∧ (hemStopsEntry s).pwr.rearmDropped = s.pwr.rearmDropped := by
  unfold hemStopsEntry
  split
  · exact ⟨rfl, rfl⟩
  · exact ⟨rfl, rfl⟩

/-- The beginning of Hem: the stage, the cleared mark, and the held Re-arms dropped and counted (R91, R813). -/
theorem beginHem_pwr (e : SchedEntry) (s : State) :
    (beginHem e s).pwr.stage = .hem ∧ (beginHem e s).pwr.hemFlag = true ∧ (beginHem e s).pwr.hemMark = false ∧
      (beginHem e s).pwr.hemOkLast = false ∧ (∀ x ∈ (beginHem e s).pwr.transits, x.rearm = none) ∧
      (beginHem e s).pwr.rearmDropped = w32 (s.pwr.rearmDropped + (s.pwr.transits.filter fun x => x.rearm.isSome).length) := by
  have ho : ∀ z, (abandonDowns (abortSession 2 (muteDriver (silence z)))).pwr = z.pwr := fun z =>
    abandonDowns_only (bs := [.hosts, .fab, .evt, .met, .rad, .link, .plc, .upl, .reg]) (by decide)
      (abortSession_only (by decide) (muteDriver_only (by decide) (silence_only (by decide) (Only.refl _ z)))) .pwr (by decide)
  have hd : ∀ p, (dropEntries p s).pwr = s.pwr := fun p =>
    dropEntries_only (bs := [.hosts, .sched, .evt, .pair]) (by decide) (Only.refl _ s) .pwr (by decide)
  unfold beginHem
  dsimp only
  rw [ho, State.onArch_pwr, State.onPwr_pwr, (hemStopsEntry_transits _).1, (hemStopsEntry_transits _).2, State.onSched_pwr, hd]
  refine ⟨rfl, rfl, rfl, rfl, fun x hx => ?_, rfl⟩
  obtain ⟨y, -, rfl⟩ := List.mem_map.mp hx
  rfl

/-- The save keeps the cycle number and leaves the supply (R61, R792). -/
theorem saveItems_saves (s : State) : (saveItems s).pwr = s.pwr ∧ (saveItems s).mains.savedCycle = some s.mains.cycle := by
  have hr : Only [.rad, .sess, .sched, .reg] (saveIsland s)
      (if (saveIsland s).pwr.hemFrom = 5 then saveIsland s
        else (saveIsland s).onRad fun r => { r with savedAirs := airsNow (saveIsland s) }) :=
    Only.ite (Only.refl _ _) (onRad_only (by decide) (Only.refl _ _))
  have ho : Only [.rad, .sess, .sched, .reg] (saveIsland s) (saveItems s) :=
    Only.ite (saveTables_only (by decide) hr) (Only.ite (onReg_only (by decide) (onSched_only (by decide) hr)) hr)
  exact ⟨ho .pwr (by decide), congrArg MainsSt.savedCycle (ho .mains (by decide))⟩

/-- What a complete save leaves: the mark, the counts, the parked stage and the cycle number (R791, R792, R794). -/
theorem finishHem_effect (s : State) : (finishHem s).pwr.stage = .parked ∧ (finishHem s).pwr.hemMark = true ∧
    (finishHem s).pwr.hemOkLast = true ∧ (finishHem s).pwr.parks = inc32 s.pwr.parks ∧ (finishHem s).pwr.transits = [] ∧
    (finishHem s).mains.savedCycle = some s.mains.cycle := by
  obtain ⟨hp, hm⟩ := saveItems_saves s
  have hc : ∀ z, Only [.cfg, .hosts, .sched, .time, .fab, .evt, .met, .rad, .link, .plc, .sess, .vee, .bal, .arch, .upl,
      .pocket, .fwu, .reg] z (clearLogic z) := fun z => clearLogic_only (by decide) (Only.refl _ z)
  have he : ∀ z, (endRun false true z).pwr.parks = z.pwr.parks ∧ (endRun false true z).mains = z.mains := by
    intro z
    unfold endRun
    split
    · exact ⟨rfl, rfl⟩
    · exact ⟨rfl, rfl⟩
  unfold finishHem
  dsimp only
  rw [State.onPwr_pwr, State.onPwr_mains, hc _ .pwr (by decide), hc _ .mains (by decide), (he _).1, (he _).2, State.onEvt_pwr,
    State.onEvt_mains, hp, hm]
  exact ⟨rfl, rfl, rfl, rfl, rfl, rfl⟩

/-- An event leaves the reset's copy of SYS.ALARM (R632). -/
theorem raise_alarmN (e : EvName) (n : Nat) (d : List Byte) (s : State) : (raise e n d s).hosts.alarmN = s.hosts.alarmN := by
  unfold raise pushEvent
  split
  · split
    · rfl
    · rfl
  · rfl

/-- Settles O18: each command's guard holds, and its effect on the supply is that of the operation it is made of. -/
theorem hemAndHeat : Obligations.HemAndHeat := by
  unfold Obligations.HemAndHeat
  refine ⟨?start, ?complete, fun tj => ?warn, fun tj => ?stop, fun tj => ?clear⟩
  case start =>
    rintro dt s ⟨hp, hd⟩
    obtain ⟨⟨e, w⟩, hw⟩ := Option.isSome_iff_exists.mp hd
    refine if_next hp ?_
    rw [hw]
    exact next_now ⟨e, w, hw, beginHem_pwr e w⟩
  case complete =>
    rintro dt s ⟨hs, hf, hn⟩
    exact next_if (by rw [hs, hf, hn]; rfl) (finishHem_effect _)
  case warn =>
    rintro dt s ⟨ha, hh, ht⟩
    refine next_if (by rw [ha, hh, decide_eq_true ht]; rfl) ?_
    refine ⟨?_, ?_, logged_raise rfl rfl, raise_only (by decide) (setAlarm_only (by decide) (onPwr_only (by decide) (Only.refl _ _)))⟩
    · exact (raise_frame _ _ _ _ .pwr (by decide)).trans rfl
    · rw [raise_alarmN]
      rfl
  case stop =>
    rintro dt s ⟨hh, ht, hp⟩
    exact next_if (by rw [hh, hp, decide_eq_true ht]; rfl) rfl
  case clear =>
    rintro dt s ⟨hh, ht⟩
    exact next_if (by rw [hh, decide_eq_true ht]; rfl) rfl

end Sys2Proof.Machine
end

section
/-! PROOFS. The statements of network time: the TIME commands, and the stamps of IEEE 1588 frames. -/

namespace Sys2Proof.Machine

open Host (Outcome)

/-! ### What the TIME commands prepare (R120–R125) -/

/-- A rate within R120 needs no limiting. -/
theorem clamp_of_incrOk {n : Nat} (h : incrOk n = true) : clamp incrMin incrMax n = n := by
  obtain ⟨hl, hu⟩ : incrMin ≤ n ∧ n ≤ incrMax := by simpa [incrOk] using h
  unfold clamp
  rw [if_neg (by omega), if_neg (by omega)]

/-- Without a slew the pair prepared for a rate is the rate, with the OFFSET that waits (R121, R122). -/
theorem prepareRate_of_noSlew {base : Nat} {s : State} (hw : replacedSlew s = none) (hi : incrOk base = true) :
    prepareRate base s = s.onTime fun x => { x with shadow := some (base, x.shadow.bind (·.2)), shadowSlew := none } := by
  unfold prepareRate
  rw [hw, clamp_of_incrOk hi]
  rfl

/-- Preparing a slew leaves the pair in force (R121). -/
theorem prepareSlew_inForce (base ppm : Nat) (amount : Int) (s : State) :
    (prepareSlew base ppm amount s).time.incr = s.time.incr ∧ (prepareSlew base ppm amount s).time.offset = s.time.offset := by
  unfold prepareSlew
  rw [State.onTime_time, countReplaced_eq]
  exact ⟨rfl, rfl⟩

/-- Once a host has set the time, the host counts as a source until a network source is selected (R126). -/
theorem selectSource_hostSet {s : State} (hn : networkSource s.time.src = false) (hh : s.time.hostSet = true) :
    (selectSource s).time.hostSet = !networkSource (selectSource s).time.src := by
  unfold selectSource
  dsimp only
  split
  · rw [hn, hh]
    rfl
  · rw [State.onTime_time]
    cases networkSource (bestSource s)
    · exact hh
    · rfl

/-- A step is prepared, and the TIME_STEP that asked for it waits for the phase tick (R121, R125, R143). -/
def awaitStep (delta : Int) (take : Bool) (owner : Nat × Taken) (s : State) : State :=
  (prepareStep (baseIncr s) delta take s).onTime fun u => { u with stepOwners := u.stepOwners ++ [owner] }

theorem awaitStep_effect (delta : Int) (take : Bool) (owner : Nat × Taken) (s : State) :
    (awaitStep delta take owner s).time.stepOwners = s.time.stepOwners ++ [owner] ∧
      (awaitStep delta take owner s).time.shadow = some (baseIncr s, some (s.time.offset + delta)) ∧
      (awaitStep delta take owner s).time.shadowTake = take ∧ Only [.time] s (awaitStep delta take owner s) := by
  obtain ⟨n, hp⟩ := prepareStep_time (baseIncr s) delta take s
  unfold awaitStep
  rw [State.onTime_time, hp]
  exact ⟨rfl, rfl, rfl, onTime_only (by decide) (prepareStep_only (by decide) (Only.refl _ _))⟩

/-! ### TIME_SET, TIME_ADJ, TIME_STEP and TIME_STATUS (R141–R144) -/

section Accepted
variable {tk : Taken} {s : State}

/-- An accepted TIME_SET prepares the step, then the best source is selected and SERVO follows it (R141, R147). -/
theorem timeSet_accepted (hf : fld tk.payload 10 2 ≤ 1) (hl : timeLocked s = false) (hc : s.cfg.act.srcHost = true)
    (ht : s.reported ≤ ofNs (fld tk.payload 0 8 + 1000000000)) :
    timeSet tk s = ((selectSource ((prepareStep (baseIncr s) ((ofNs (fld tk.payload 0 8) : Int) - s.reported) false s).onTime fun u =>
      { u with hostSet := true, lostHigher := false
               utcFromHost := if hasBit (fld tk.payload 10 2) 0 then some (fldI tk.payload 8 2) else u.utcFromHost })).onTime
        fun u => { u with servo := servoAt u.src false }, answer .ok) := by
  unfold timeSet
  dsimp only
  rw [if_neg (by omega), if_neg (by rw [hl, hc]; decide), if_neg (by omega)]

/-- Mode 0 of TIME_ADJ without a slew sets the rate (R142). -/
theorem timeAdj_rate (hm : fld tk.payload 0 1 = 0) (hp : fld tk.payload 2 2 = 0) (hi : incrOk (fld tk.payload 8 8) = true)
    (hl : timeLocked s = false) (hw : replacedSlew s = none) :
    timeAdj tk s = (prepareRate (fld tk.payload 8 8) s, okWith (leBytes 8 0)) := by
  unfold timeAdj
  dsimp only
  rw [hm, hp, hw, hl]
  simp [hi]

/-- Mode 1 of TIME_ADJ slews, and returns what is left of the slew it replaces (R142). -/
theorem timeAdj_slew (hm : fld tk.payload 0 1 = 1) (h1 : 1 ≤ fld tk.payload 2 2) (h2 : fld tk.payload 2 2 ≤ 500)
    (hl : timeLocked s = false)
    (hi : incrOk ((baseIncr s : Int) + slewDelta (fld tk.payload 2 2) (fldI tk.payload 8 8)).toNat = true) :
    timeAdj tk s = (prepareSlew (baseIncr s) (fld tk.payload 2 2) (fldI tk.payload 8 8) s, okWith (leBytesI 8 (slewRemaining s))) := by
  have hp : ¬ fld tk.payload 2 2 < 1 := by omega
  have hq : ¬ 500 < fld tk.payload 2 2 := by omega
  unfold timeAdj
  dsimp only
  rw [hm, hl]
  simp [hi, hp, hq]

/-- An authorised TIME_STEP near the expected time prepares its step and waits (R125, R143). -/
theorem timeStep_accepted {h : Fin 4} (ha : (s.host h).timeAuth = true)
    (hh : hasBit (fld tk.payload 18 2) 0 = true → s.time.held.isNone = false ∧ fld tk.payload 0 8 = 0)
    (ht : ((ofNs (fld tk.payload 8 8) : Int) - s.reported).natAbs ≤ ofMs (fld tk.payload 16 2)) :
    timeStep h tk s = (awaitStep (if hasBit (fld tk.payload 18 2) 0 = true then s.time.held.getD 0 * nsUnit
      else (ofNs (fld tk.payload 0 8) : Int) - s.reported) (hasBit (fld tk.payload 18 2) 0) (h.val, tk) s, { silent := true }) := by
  have hb : ¬ (hasBit (fld tk.payload 18 2) 0 && (s.time.held.isNone || decide (fld tk.payload 0 8 ≠ 0))) = true := by
    intro hc
    obtain ⟨hk, hc⟩ := Bool.and_eq_true_iff.mp hc
    obtain ⟨hn, h0⟩ := hh hk
    rw [hn, h0] at hc
    exact absurd hc (by decide)
  unfold timeStep
  dsimp only
  rw [if_neg (by rw [ha]; decide), if_neg hb, if_neg (by omega)]
  rfl

end Accepted

/-- Settles O23: each command passes its checks, and what it does is what it prepares; a step's OFFSET is that of its acceptance (log entry
434). -/
theorem timeCommands : Obligations.TimeCommands := by
  unfold Obligations.TimeCommands
  refine ⟨?set, ?rate, ?slew, ?step, fun ns => ?held, ?status⟩
  case set =>
    refine Serves.of (fun _ _ _ => rfl) fun _ tk u _ ⟨hf, hl, hc, ht⟩ =>
      ⟨_, _, timeSet_accepted hf hl hc ht, ?_, Or.inl (by simp [answer])⟩
    obtain ⟨z, hz⟩ : ∃ z, z = (prepareStep (baseIncr u) ((ofNs (fld tk.payload 0 8) : Int) - u.reported) false u).onTime fun x =>
      { x with hostSet := true, lostHigher := false
               utcFromHost := if hasBit (fld tk.payload 10 2) 0 then some (fldI tk.payload 8 2) else x.utcFromHost } := ⟨_, rfl⟩
    obtain ⟨n, hp⟩ := prepareStep_time (baseIncr u) ((ofNs (fld tk.payload 0 8) : Int) - u.reported) false u
    obtain ⟨hshadow, hutc, hoffset, -⟩ := selectSource_clock z
    have hset : (selectSource z).time.hostSet = !networkSource (selectSource z).time.src :=
      selectSource_hostSet (by rw [hz, State.onTime_time, hp]; exact hl) (by rw [hz]; rfl)
    have ho : Only [.time] u (selectSource z) := by
      rw [hz]
      exact selectSource_only (by decide) (onTime_only (by decide) (prepareStep_only (by decide) (Only.refl _ _)))
    rw [← hz]
    refine ⟨rfl, hshadow.trans ?_, hset, fun hb => hutc.trans ?_, hoffset.trans ?_, onTime_only (by decide) ho⟩
    · rw [hz, State.onTime_time, hp]
    · rw [hz, State.onTime_time]
      exact if_pos hb
    · rw [hz, State.onTime_time, hp]
  case rate =>
    refine Serves.of (fun _ _ _ => rfl) fun _ tk u _ ⟨hm, hp, hi, hl, hw⟩ =>
      ⟨_, _, timeAdj_rate hm hp hi hl hw, ⟨rfl, ?_⟩, Or.inl (by simp [okWith])⟩
    exact prepareRate_of_noSlew hw hi
  case slew =>
    refine Serves.of (fun _ _ _ => rfl) fun _ tk u _ ⟨hm, h1, h2, hl, hi⟩ =>
      ⟨_, _, timeAdj_slew hm h1 h2 hl hi, ?_, Or.inl (by simp [okWith])⟩
    obtain ⟨hincr, hoffset⟩ := prepareSlew_inForce (baseIncr u) (fld tk.payload 2 2) (fldI tk.payload 8 8) u
    exact ⟨rfl, rfl, hincr, hoffset, prepareSlew_only (by decide) (Only.refl _ _)⟩
  case step =>
    refine Serves.of (fun _ _ _ => rfl) fun h tk u _ ⟨ha, hb, ht⟩ =>
      ⟨_, _, timeStep_accepted ha (by simp [hb]) ht, ?_, Or.inl (by simp)⟩
    rw [hb, if_neg Bool.false_ne_true]
    obtain ⟨howners, hshadow, -, ho⟩ := awaitStep_effect ((ofNs (fld tk.payload 0 8) : Int) - u.reported) false (h.val, tk) u
    exact ⟨rfl, howners, hshadow, ho⟩
  case held =>
    refine Serves.of (fun _ _ _ => rfl) fun h tk u _ ⟨ha, hb, h0, hn, ht⟩ =>
      ⟨_, _, timeStep_accepted ha (fun _ => ⟨by rw [hn]; rfl, h0⟩) ht, ?_, Or.inl (by simp)⟩
    rw [hb, if_pos rfl, hn]
    obtain ⟨howners, hshadow, htake, ho⟩ := awaitStep_effect (ns * nsUnit) true (h.val, tk) u
    exact ⟨rfl, howners, hshadow, htake, ho⟩
  case status =>
    refine Reads.of (fun _ _ _ => rfl) fun _ tk u _ => ⟨_, rfl, by simp, ?_⟩
    simp

/-! ### A frame received (R131, R133, R135, R140) -/

/-- A frame is passed to the network with its stamp, if it has one (R133). -/
def passPtp (port : Nat) (msg : PtpMsg) (stamp : Option Nat) (s : State) : State := s.onTime fun x =>
  { x with ptpIn := x.ptpIn ++ [{ port := port, kind := msg.kind, ident := msg.ident, seqId := msg.seqId, stamp := stamp }] }

/-- A message without a Sync's times completes no measurement of the offset. -/
theorem takeSync_of_noSync {port : Nat} {m : PtpMsg} {s : State} (h : m.sync = none) : takeSync port m s = s := by
  unfold takeSync
  rw [h]

/-- The stamp of a Delay_Req is among those kept, the newest (R135). -/
theorem mem_keepDelayReq (port ident seqId stamp : Nat) (s : State) :
    (port, ident, seqId, stamp, s.rc) ∈ (keepDelayReq port ident seqId stamp s).time.delayReqs :=
  List.mem_append_right _ (List.mem_singleton.mpr rfl)

section Receive
variable {dt port : Nat} {msg : PtpMsg} {s : State}

/-- An unrecognised frame passes unstamped (R133). -/
theorem exec_ptpEventReceive_unrecognised (hs : (tick dt s).pwr.stage = .running) (hp : port < 2) (hr : ptpRecognised msg = false) :
    exec (.ptpEventReceive dt port msg) s = .next (passPtp port msg none (tick dt s)) := by
  show execPtpEventReceive dt port msg s = _
  unfold execPtpEventReceive
  dsimp only
  rw [if_pos (by rw [hs, decide_eq_true hp]; rfl), hr]
  rfl

/-- An event message that completes no measurement is passed with the reported time at the reference plane, and the stamp of a Delay_Req is
kept where the port takes part (R133, R135, R140). -/
theorem exec_ptpEventReceive_event {stamp : Nat} (hs : (tick dt s).pwr.stage = .running) (hp : port < 2)
    (hr : ptpRecognised msg = true) (hk : msg.kind ≤ 3) (hy : msg.sync = none) (hd : msg.link = none)
    (hx : stamp = (tick dt s).reported - lat ((tick dt s).cfg.act.ports.getD port {}).rxLat) :
    exec (.ptpEventReceive dt port msg) s = .next (if ptpPort (tick dt s) port = true ∧ msg.kind = 1
      then keepDelayReq port msg.ident msg.seqId stamp (passPtp port msg (some stamp) (tick dt s))
      else passPtp port msg (some stamp) (tick dt s)) := by
  have hend : ∀ z : State, (if (true && ptpPort z port) = true
      then Outcome.next (takeSync port msg (if msg.kind = 1 then keepDelayReq port msg.ident msg.seqId stamp z else z))
      else Outcome.next z : Outcome State Fault Refusal) =
      .next (if ptpPort z port = true ∧ msg.kind = 1 then keepDelayReq port msg.ident msg.seqId stamp z else z) := by
    intro z
    rw [takeSync_of_noSync hy, Bool.true_and]
    by_cases ht : ptpPort z port = true
    · by_cases hk1 : msg.kind = 1
      · rw [if_pos ht, if_pos hk1, if_pos ⟨ht, hk1⟩]
      · rw [if_pos ht, if_neg hk1, if_neg fun h => hk1 h.2]
    · rw [if_neg ht, if_neg fun h => ht h.1]
  show execPtpEventReceive dt port msg s = _
  unfold execPtpEventReceive
  dsimp only
  rw [if_pos (by rw [hs, decide_eq_true hp]; rfl), hr, decide_eq_true hk, hd, ← hx]
  exact hend (passPtp port msg (some stamp) (tick dt s))

end Receive

/-! ### A frame sent (R134, R136, R137, R140) -/

section Egress
variable {dt port kind ident seqId : Nat} {corr c : Int} {udp : Option PtpUdp} {s : State}

/-- A frame departs with its timestamp and correction fields written and its checksum updated for both (R134, R136, R137). -/
theorem sendPtp_stamped {o : Nat} : ∃ f, sendPtp port kind corr c (some o) udp s =
    (s.onTime fun x => { x with ptpOut := x.ptpOut ++ [f] }) ∧ f.port = port ∧ f.kind = kind ∧ f.origin = o ∧ f.correction = c ∧
    f.checksum = (udp.map fun d =>
      udpChecksum d (stampWords d.stamp ++ correctionWords corr) (stampWords f.origin ++ correctionWords f.correction)) ∧
    f.fcsRecomputed = true ∧ f.twoStep = false := ⟨_, rfl, rfl, rfl, rfl, rfl, rfl, rfl, rfl⟩

/-- A frame departs with its correction field alone written and its checksum updated for it (R134, R136, R137). -/
theorem sendPtp_corrected : ∃ f, sendPtp port kind corr c none udp s =
    (s.onTime fun x => { x with ptpOut := x.ptpOut ++ [f] }) ∧ f.port = port ∧ f.kind = kind ∧ f.correction = c ∧
    f.checksum = (udp.map fun d => udpChecksum d (correctionWords corr) (correctionWords f.correction)) ∧
    f.fcsRecomputed = true := ⟨_, rfl, rfl, rfl, rfl, rfl, rfl⟩

/-- A Sync of the device departs with the egress time (R134). -/
theorem exec_ptpEgress_sync (hs : (tick dt s).pwr.stage = .running) (hp : ptpPort (tick dt s) port = true) {egress : Nat}
    (hx : egress = (tick dt s).reported + lat ((tick dt s).cfg.act.ports.getD port {}).txLat) :
    exec (.ptpEgress dt port 0 ident seqId corr false udp) s =
      .next (sendPtp port 0 corr (corr + (egress % nsUnit / 65536 : Nat)) (some (egress / nsUnit)) udp (tick dt s)) := by
  subst hx
  exact if_pos (by rw [hs, hp]; rfl)

/-- An event message that a transparent clock forwards departs with its residence, a Sync of a peer-to-peer one with the link delay of its
ingress port too (R134). -/
theorem exec_ptpEgress_forwarded {rx : Nat} (hs : (tick dt s).pwr.stage = .running) (hp : ptpPort (tick dt s) port = true)
    (ht : isTransparent (tick dt s) = true) (hk : kind ≤ 3) (hr : stampOf (tick dt s) (1 - port) kind ident seqId = some rx) :
    exec (.ptpEgress dt port kind ident seqId corr true udp) s = .next (sendPtp port kind corr (corr +
      (((tick dt s).reported + lat ((tick dt s).cfg.act.ports.getD port {}).txLat - rx) / 65536 : Nat) +
      (if kind = 0 && (tick dt s).cfg.act.ptpClock == .peerToPeer then (((tick dt s).time.linkDelay.getD (1 - port) 0 : Nat) : Int)
        else 0)) none udp (tick dt s)) := by
  show execPtpEgress dt port kind ident seqId corr true udp s = _
  unfold execPtpEgress
  dsimp only
  rw [if_pos (by rw [hs, hp]; rfl), if_pos rfl, if_neg (by rw [ht]; decide), if_pos hk, hr]

/-- The stamp kept of the Delay_Req that a Delay_Resp answers, the newest of at most 1 s (R135). -/
def delayReqAnswered (port ident seqId : Nat) (s : State) : Option (Nat × Nat × Nat × Nat × Nat) :=
  s.time.delayReqs.reverse.find? fun q => q.1 == port && q.2.1 == ident && q.2.2.1 == seqId && s.rc ≤ q.2.2.2.2 + ofS 1

/-- A Delay_Resp departs with the stamp of the Delay_Req that it answers (R134, R135). -/
theorem exec_ptpEgress_delayResp (hs : (tick dt s).pwr.stage = .running) (hp : ptpPort (tick dt s) port = true)
    {q : Nat × Nat × Nat × Nat × Nat} (hq : delayReqAnswered port ident seqId (tick dt s) = some q) :
    exec (.ptpEgress dt port 9 ident seqId corr false udp) s =
      .next (sendPtp port 9 corr (corr - (q.2.2.2.1 % nsUnit / 65536 : Nat)) (some (q.2.2.2.1 / nsUnit)) udp (tick dt s)) := by
  refine (if_pos (by rw [hs, hp]; rfl) : execPtpEgress dt port 9 ident seqId corr false udp s = _).trans ?_
  show (match delayReqAnswered port ident seqId (tick dt s) with | some q => _ | none => _) = _
  rw [hq]

/-- A Delay_Resp without the stamp of its Delay_Req is dropped and counted (R135). -/
theorem exec_ptpEgress_delayResp_dropped (hs : (tick dt s).pwr.stage = .running) (hp : ptpPort (tick dt s) port = true)
    (hq : delayReqAnswered port ident seqId (tick dt s) = none) : exec (.ptpEgress dt port 9 ident seqId corr false udp) s =
      .next ((tick dt s).onTime fun x => { x with delayRespDropped := inc32 x.delayRespDropped }) := by
  refine (if_pos (by rw [hs, hp]; rfl) : execPtpEgress dt port 9 ident seqId corr false udp s = _).trans ?_
  show (match delayReqAnswered port ident seqId (tick dt s) with | some q => _ | none => _) = _
  rw [hq]

/-- A Follow_Up or Pdelay_Resp_Follow_Up of the device is never sent (R130). -/
theorem exec_ptpEgress_followUp (hs : (tick dt s).pwr.stage = .running) (hp : ptpPort (tick dt s) port = true)
    (hk : kind = 8 ∨ kind = 10) : exec (.ptpEgress dt port kind ident seqId corr false udp) s = .next (tick dt s) := by
  have hg : ((tick dt s).pwr.stage == .running && ptpPort (tick dt s) port) = true := by rw [hs, hp]; rfl
  rcases hk with rfl | rfl
  · exact if_pos hg
  · exact if_pos hg

end Egress

/-- Settles O25: each frame is passed or sent with its stamp, and nothing else changes but the stamp kept of a Delay_Req and the count of
dropped responses (checksum words: log entry 423; residence: log entry 433). -/
theorem ptpStamps : Obligations.PtpStamps := by
  unfold Obligations.PtpStamps
  refine ⟨fun port msg => ?unrecognised, fun port msg => ?event, fun port msg => ?delayReq, fun port ident seqId corr udp => ?sync,
    fun port kind ident seqId corr udp rx => ?forwarded, fun port ident seqId corr udp q => ?delayResp,
    fun port ident seqId corr udp => ?dropped, fun port kind ident seqId corr udp => ?followUp⟩
  case unrecognised =>
    rintro dt s ⟨hs, hp, hr⟩
    exact ⟨_, exec_ptpEventReceive_unrecognised hs hp hr, rfl⟩
  case event =>
    rintro dt s ⟨hs, hp, hr, hk, hn, hy, hd⟩
    exact ⟨_, exec_ptpEventReceive_event hs hp hr hk hy hd rfl, if_neg fun h => hn h.2⟩
  case delayReq =>
    rintro dt s ⟨hs, ht, hp, hr, hk, hy, hd⟩
    refine ⟨_, exec_ptpEventReceive_event hs hp hr (by omega) hy hd rfl, ?_⟩
    rw [if_pos ⟨ht, hk⟩]
    refine ⟨mem_keepDelayReq _ _ _ _ _, ?_, keepDelayReq_only (by decide) (onTime_only (by decide) (Only.refl _ _))⟩
    rw [← hk]
    rfl
  case sync =>
    rintro dt s ⟨hs, hp⟩
    exact ⟨_, exec_ptpEgress_sync hs hp rfl, sendPtp_stamped⟩
  case forwarded =>
    rintro dt s ⟨hs, hp, ht, hk, hr⟩
    exact ⟨_, exec_ptpEgress_forwarded hs hp ht hk hr, sendPtp_corrected⟩
  case delayResp =>
    rintro dt s ⟨hs, hp, hq⟩
    obtain ⟨f, hf, hport, hkind, horigin, hcorrection, -, hfcs, -⟩ := sendPtp_stamped
    exact ⟨_, exec_ptpEgress_delayResp hs hp hq, f, hf, hport, hkind, horigin, hcorrection, hfcs⟩
  case dropped =>
    rintro dt s ⟨hs, hp, hq⟩
    exact ⟨_, exec_ptpEgress_delayResp_dropped hs hp hq, rfl⟩
  case followUp =>
    rintro dt s ⟨hs, hp, hk⟩
    exact ⟨_, exec_ptpEgress_followUp hs hp hk, rfl⟩

end Sys2Proof.Machine
end

section
/-! PROOFS. The statements of the metrology front end: calibration sessions. -/

namespace Sys2Proof.Machine

/-! ### What a log entry and a write to the Lining leave (R179, R774) -/

/-- A log entry changes nothing of the metering block but the log's own counts. -/
theorem writeMlog_logOnly {k a : Nat} {d : List Byte} {c : Bool} {s : State} : (writeMlog k a d c s).met =
    { s.met with mlogSeq := (writeMlog k a d c s).met.mlogSeq, notLogged := (writeMlog k a d c s).met.notLogged
                 mlogStopped := (writeMlog k a d c s).met.mlogStopped } := by
  obtain ⟨x, y, z, h⟩ := @writeMlog_met k a d c s
  rw [h]

theorem mem_postLegal (b : LegalBody) (s : State) : ⟨none, b⟩ ∈ (postLegal b s).fab.legalPend :=
  List.mem_append_right _ (List.mem_singleton.mpr rfl)

/-! ### A session opened (R174, R176, R181) -/

/-- What CAL_OPEN makes of the metering block outside Debug: one reopen is blown, and the session starts from the committed image. -/
def openSession (h : Fin 4) (m : MetSt) : MetSt :=
  { m with
    calEnHigh := false, reopens := m.reopens - 1, sessions := w16 (m.sessions + 1)
    session := some { number := w16 (m.sessions + 1), host := h.val, debug := false, pending := committedImage m, lastStepNs := m.lineNs } }

section Open
variable {h : Fin 4} {tk : Taken} {u : State} (hm : metroOff u = false) (hk : fld tk.payload 0 4 = 0x43414C4F)
include hm hk

theorem calOpen_opens (hr : 0 < u.met.reopens) (hd : u.pocket.lifecycle ≠ .debug) (hs : u.met.session = none)
    (hp : fld tk.payload 4 1 = u.met.reopens) : calOpen true h tk u =
      (writeMlog 1 (w16 (u.met.sessions + 1)) [BitVec.ofNat 8 (u.met.reopens - 1), 0] true (u.onMet (openSession h)),
        okWith (leBytes 2 (w16 (u.met.sessions + 1)) ++ leBytes 1 (u.met.reopens - 1) ++ List.replicate 5 0)) := by
  have hl : (u.pocket.lifecycle == .debug) = false := beq_eq_false_iff_ne.mpr hd
  have hleft : ¬ (u.met.reopens = 0 && !(u.pocket.lifecycle == .debug)) = true := by
    rw [decide_eq_false (Nat.ne_of_gt hr), Bool.false_and]
    exact Bool.false_ne_true
  refine (if_neg (Bool.eq_false_iff.mp hm)).trans <| (if_neg (not_not_intro hk)).trans <| (if_neg Bool.false_ne_true).trans <|
    (if_neg hleft).trans <| (if_neg (Option.not_isSome_iff_eq_none.mpr hs)).trans <| (if_neg (not_not_intro hp)).trans ?_
  rw [State.onMet_pocket, hl]
  rfl

theorem calOpen_denied : calOpen false h tk u = (u.onMet fun m => { m with calEnHigh := true }, answer .denied) :=
  (if_neg (Bool.eq_false_iff.mp hm)).trans <| (if_neg (not_not_intro hk)).trans <| if_pos rfl

end Open

/-! ### A step (R177, R182–R184) -/

/-- A step of a channel passes the checks of its ranges and is measured. -/
theorem calStep_starts {h : Fin 4} {tk : Taken} {u : State} {q : CalSession} (hs : u.met.session = some q) (hh : q.host = h.val)
    (hc : fld tk.payload 0 1 ≤ 35) (hn : 1 ≤ fld tk.payload 1 1 ∧ fld tk.payload 1 1 ≤ 9)
    (hm : 10 ≤ fld tk.payload 2 2 ∧ fld tk.payload 2 2 ≤ 1000)
    (hp : phaseCurrent (fld tk.payload 0 1) = true ∨ fld tk.payload 1 1 < 4 ∨ fld tk.payload 1 1 = 9) :
    ∃ x : CalStepSt, calStep h tk u =
        (u.onMet fun m => { m with session := some { q with step := some x, lastStepNs := m.lineNs } }, answer .pending) ∧
      x.host = h.val ∧ x.taken = tk ∧ x.channel = fld tk.payload 0 1 ∧ x.step = fld tk.payload 1 1 ∧ x.cycles = fld tk.payload 2 2 ∧
      x.refValue = fldI tk.payload 4 8 ∧ x.done = 0 := by
  have hrange : ¬ (decide (35 < fld tk.payload 0 1) || decide (9 < fld tk.payload 1 1) ||
      decide (fld tk.payload 1 1 = 0) && decide (fld tk.payload 2 2 ≠ 0) ||
      decide (fld tk.payload 1 1 ≠ 0) && (decide (fld tk.payload 2 2 < 10) || decide (1000 < fld tk.payload 2 2))) = true := by
    simp only [Bool.or_eq_true, Bool.and_eq_true, decide_eq_true_eq]
    omega
  have hphase : ¬ (decide (4 ≤ fld tk.payload 1 1) && decide (fld tk.payload 1 1 ≤ 8) && !phaseCurrent (fld tk.payload 0 1)) = true := by
    simp only [Bool.and_eq_true, decide_eq_true_eq, Bool.not_eq_true']
    rintro ⟨⟨h4, h8⟩, hno⟩
    rcases hp with hp | hp
    · exact Bool.false_ne_true (hno.symm.trans hp)
    · omega
  unfold calStep
  dsimp only
  rw [hs]
  dsimp only
  rw [if_neg (not_not_intro hh), if_neg hrange, if_neg hphase, decide_eq_false (p := fld tk.payload 1 1 = 0) (by omega),
    Bool.false_and, if_neg Bool.false_ne_true]
  exact ⟨_, rfl, rfl, rfl, rfl, rfl, rfl, rfl, rfl⟩

/-- The payload of a measured step: the mean, the new field and the spread (R182). -/
def stepReport (x : CalStepSt) (v : Nat) : List Byte :=
  leBytesI 8 (openDiv (meanOf x.vals) unit32) ++ leBytes 4 v ++ leBytes 2 (spreadPpm x.vals) ++ [0, 0]

/-- A step of a session has ended, with this image pending. -/
def endStep (q : CalSession) (i : CalImage) (s : State) : State :=
  s.onMet fun m => { m with session := some { q with step := none, pending := i } }

/-- A measured step whose result fits is refused for its spread alone, and then nothing pending changes (R182–R184). -/
theorem exec_calStepComplete {dt v : Nat} {s : State} {q : CalSession} {x : CalStepSt} {c : CalRec}
    (hs : (tick dt s).met.session = some q) (hx : q.step = some x) (hd : x.cycles + 2 ≤ x.done)
    (hr : calResult q.pending x (meanOf x.vals) (ratioOf x.freqSum x.vals.length) = some (v, c)) :
    exec (.calStepComplete dt) s = .next (if x.step ≠ 0 ∧ 1000 < spreadPpm x.vals then
        finishAt x.host x.taken { status := .stale, payload := stepReport x v } (endStep q q.pending (tick dt s))
      else finishAt x.host x.taken (okWith (stepReport x v))
        (endStep q { q.pending with recs := modAt q.pending.recs x.channel fun _ => markStep q.number x.step c } (tick dt s))) := by
  show execCalStepComplete dt s = _
  unfold execCalStepComplete
  dsimp only
  rw [hs]
  dsimp only
  rw [hx]
  dsimp only
  rw [if_pos hd, hr]
  dsimp only
  have hstale : (decide (x.step ≠ 0) && decide (1000 < spreadPpm x.vals)) = true ↔ x.step ≠ 0 ∧ 1000 < spreadPpm x.vals := by
    simp only [Bool.and_eq_true, decide_eq_true_eq]
  by_cases hn : x.step ≠ 0 ∧ 1000 < spreadPpm x.vals
  · rw [if_pos (hstale.mpr hn), if_pos hn]
    rfl
  · rw [if_neg fun hf => hn (hstale.mp hf), if_neg hn]
    rfl

/-! ### A session closed (R173, R178, R179, R185) -/

/-- The image that CAL_CLOSE commits: the pending records, sealed under the DSP's key. -/
def sealedImage (q : CalSession) (m : MetSt) : CalImage :=
  let i := { q.pending with sessions := m.sessions, madeInDebug := q.debug, calibrated := true, sealTag := 0 }
  { i with sealTag := Config.calSeal m.sealKey i }

theorem sealedImage_verifies (q : CalSession) (m : MetSt) : calVerifies m.sealKey (sealedImage q m) = true := beq_self_eq_true _

section Close
variable {h : Fin 4} {tk : Taken} {u : State} {q : CalSession} (hs : u.met.session = some q) (hh : q.host = h.val)
include hs hh

theorem calClose_commits (hk : fld tk.payload 0 1 = 0) : calClose h tk u =
    (writeMlog 2 q.number (leBytes 8 (calTag (committedImage u.met)) ++ leBytes 8 (calTag (sealedImage q u.met))) (!q.debug)
      (postLegal (.cal (sealedImage q u.met)) (u.onMet fun m => { m with session := none, calNext := some (sealedImage q u.met) })),
      okWith (leBytes 8 (calTag (sealedImage q u.met)))) := by
  unfold calClose
  rw [hs]
  dsimp only
  rw [hk, if_neg (not_not_intro hh), if_neg (by decide), if_neg (by decide)]
  rfl

theorem calClose_aborts (hk : fld tk.payload 0 1 = 1) : ∃ cause, calClose h tk u =
    (abortSession cause u.takeFree.2, okWith (leBytes 8 (calTag (committedImage (abortSession cause u.takeFree.2).met)))) := by
  unfold calClose
  rw [hs]
  dsimp only
  rw [hk, if_neg (not_not_intro hh), if_neg (by decide), if_pos rfl]
  exact ⟨_, rfl⟩

end Close

/-! ### A record read (R159, R186) -/

theorem calRecBytes_length (r : CalRec) : (calRecBytes r).length = 48 := by
  simp [calRecBytes]

theorem calRecBytes_shows (r : CalRec) : Shows (calRecBytes r) 0 1 r.sensor ∧ Shows (calRecBytes r) 4 4 r.scale ∧
    Shows (calRecBytes r) 8 4 r.gainRms ∧ Shows (calRecBytes r) 40 2 r.session := by
  simp [calRecBytes]

/-- Settles O29: each command passes its checks, and the session ends, or goes on, as the operation it is made of leaves it. The order of
CAL_OPEN's checks and the two cycles beyond CYCLES are the model's (log entries 446 and 444). -/
theorem calibration : Obligations.Calibration := by
  unfold Obligations.Calibration
  refine ⟨?opened, ?denied, fun q => ?started, fun q x v c => ?measured, fun q x v c => ?spread, fun q => ?committed, fun q => ?aborted,
    ?released, fun q => ?timeout, ?read⟩
  case opened =>
    refine Serves.of (fun _ _ _ => rfl) fun _ _ _ _ ⟨hm, hk, hr, hd, hs, hp⟩ =>
      ⟨_, _, calOpen_opens hm hk hr hd hs hp, ?_, .inl (by simp [okWith])⟩
    rw [writeMlog_logOnly]
    exact ⟨rfl, rfl, rfl, ⟨_, rfl, rfl, rfl, rfl, rfl, rfl⟩, rfl⟩
  case denied =>
    exact Serves.of (fun _ _ _ => rfl) fun _ _ _ _ ⟨hm, hk⟩ => ⟨_, _, calOpen_denied hm hk, ⟨rfl, rfl⟩, .inl (by decide)⟩
  case started =>
    refine Serves.of (fun _ _ _ => rfl) fun _ _ _ _ ⟨hs, hh, hc, h1, h9, h10, h1000, hp, ho⟩ => ?_
    obtain ⟨x, hx, hf⟩ := calStep_starts hs hh hc ⟨h1, h9⟩ ⟨h10, h1000⟩ hp
    exact ⟨_, _, hx, ⟨rfl, ⟨x, rfl, hf⟩, onMet_only (by decide) (Only.refl _ _)⟩, .inr ho⟩
  case measured =>
    rintro dt s ⟨hs, hx, hd, hr, hp⟩
    exact ⟨_, exec_calStepComplete hs hx hd hr, if_neg (by omega)⟩
  case spread =>
    rintro dt s ⟨hs, hx, hd, hr, hn, hp⟩
    exact ⟨_, exec_calStepComplete hs hx hd hr, if_pos ⟨hn, hp⟩⟩
  case committed =>
    refine Serves.of (fun _ _ _ => rfl) fun _ _ u _ ⟨hs, hh, hk⟩ => ⟨_, _, calClose_commits hs hh hk, ?_, .inl (by simp [okWith])⟩
    rw [writeMlog_logOnly]
    exact ⟨_, rfl, rfl, rfl, rfl, sealedImage_verifies q u.met, rfl, rfl, writeMlog_pend (mem_postLegal _ _), rfl, rfl⟩
  case aborted =>
    refine Serves.of (fun _ _ _ => rfl) fun _ _ u _ ⟨hs, hh, hk⟩ => ?_
    obtain ⟨cause, he⟩ := calClose_aborts hs hh hk
    obtain ⟨hnone, hcal, hnext, hleft, -⟩ := abortSession_met cause u.takeFree.2
    refine ⟨_, _, he, ⟨hnone, hcal, hnext, hleft, ?_⟩, .inl (by simp [okWith])⟩
    unfold committedImage
    rw [hcal, hnext]
    rfl
  case released =>
    intro dt s hl
    obtain ⟨hnone, hcal, hnext, hleft, hhigh⟩ := abortSession_met 1 ((tick dt s).onMet fun m => { m with calEnHigh := true })
    exact next_if hl ⟨hhigh, hnone, hcal, hnext, hleft⟩
  case timeout =>
    rintro dt s ⟨hs, hd⟩
    show ∃ t, execCalSessionTimeout dt s = .next t ∧ _
    unfold execCalSessionTimeout
    dsimp only
    rw [hs]
    obtain ⟨hnone, hcal, hnext, hleft, -⟩ := abortSession_met 5 (tick dt s)
    exact next_if hd ⟨hnone, hcal, hnext, hleft⟩
  case read =>
    exact Reads.of (fun _ _ _ => rfl) fun _ _ _ hc => ⟨_, if_neg (by omega), calRecBytes_length _, rfl, calRecBytes_shows _⟩

end Sys2Proof.Machine
end

section
/-! PROOFS. The statements of registers, tariffs and demand: the frames of metering and registers, and what waits on Q9 for a gated
cluster. -/

namespace Sys2Proof.Machine

open Host (Outcome)

/-! ### The frames of metering and registers (R178, R194, R252) -/

section Frames
variable {bs : List Block} {s : State} {dt : Nat}

theorem ticked_only (hSub : Block.sub [.time, .met] bs = true) : Only bs s (tick dt s) := tick_only hSub (Only.refl _ _)

/-- A command that does nothing lets its time pass. -/
theorem OnlyOut.ticked (hSub : Block.sub [.time, .met] bs = true) : OnlyOut bs s (.next (tick dt s)) := .next (ticked_only hSub)

/-- A mailbox command changes its host, besides what its work changes. -/
theorem runCmd_frame {op : Nat} {h : Fin 4} {f : Taken → State → State × Reply} (hSub : Block.sub [.hosts, .time, .met] bs = true)
    (hf : ∀ t y, Only bs s y → Only bs s (f t y).1) : OnlyOut bs s (.next (runCmd op h f (tick dt s))) :=
  .next (runCmd_only (via hSub) (ticked_only (via hSub)) hf)

/-! A DSP cycle, its images and its windows -/

theorem execDspCycleEnd_frame {cyc : CycleIn} : OnlyOut [.hosts, .time, .fab, .evt, .met, .reg] s (execDspCycleEnd dt cyc s) := by
  refine .ite ?_ (.ticked (by decide))
  split
  · exact .next (endDspCycle_only (by decide) (ticked_only (by decide)))
  · exact .ticked (by decide)

theorem execRegisterImageRefresh_frame {reg : Nat} : OnlyOut [.time, .fab, .met] s (execRegisterImageRefresh dt reg s) :=
  .ite (.next (postLegal_only (by decide) (onMet_only (by decide) (ticked_only (by decide))))) (.ticked (by decide))

theorem execHarmonicWindowEnd_frame : OnlyOut [.time, .met] s (execHarmonicWindowEnd dt s) := by
  unfold execHarmonicWindowEnd
  dsimp only
  split
  · exact .ite (.next (onMet_only (by decide) (ticked_only (by decide)))) (.ticked (by decide))
  · exact .ticked (by decide)

theorem execTariffInputTakeover_frame : OnlyOut [.hosts, .time, .fab, .evt, .met] s (execTariffInputTakeover dt s) := by
  have htold : ∀ (b : Prop) [Decidable b] (x : State), Only [.hosts, .time, .fab, .evt, .met] s x →
      Only [.hosts, .time, .fab, .evt, .met] s (if b then tellLogic .tariffInvalid x else x) :=
    fun _ _ _ hx => .ite (tellLogic_only (by decide) hx) hx
  unfold execTariffInputTakeover
  dsimp only
  split
  · exact .ite (.next (htold _ _ (onMet_only (by decide) (ticked_only (by decide))))) (.ticked (by decide))
  · exact .ticked (by decide)

/-! Calibration sessions -/

theorem execCalFallbackTimeout_frame : OnlyOut [.hosts, .time, .fab, .evt, .met] s (execCalFallbackTimeout dt s) :=
  .ite (.next (tellLogic_only (by decide) (writeMlog_only (by decide) (onMet_only (by decide) (ticked_only (by decide))))))
    (.ticked (by decide))

theorem execCalEnRelease_frame : OnlyOut [.hosts, .time, .fab, .evt, .met] s (execCalEnRelease dt s) :=
  .ite (.next (abortSession_only (by decide) (onMet_only (by decide) (ticked_only (by decide)))))
    (.next (onMet_only (by decide) (ticked_only (by decide))))

theorem execCalSessionTimeout_frame : OnlyOut [.hosts, .time, .fab, .evt, .met] s (execCalSessionTimeout dt s) := by
  unfold execCalSessionTimeout
  dsimp only
  split
  · exact .ite (.next (abortSession_only (by decide) (ticked_only (by decide)))) (.ticked (by decide))
  · exact .ticked (by decide)

theorem execCalStepComplete_frame : OnlyOut [.hosts, .time, .met] s (execCalStepComplete dt s) := by
  have hdone : ∀ (h : Nat) (k : Taken) (r : Reply) (f : MetSt → MetSt),
      OnlyOut [.hosts, .time, .met] s (.next (finishAt h k r ((tick dt s).onMet f))) :=
    fun _ _ _ _ => .next (finishAt_only (by decide) (onMet_only (by decide) (ticked_only (by decide))))
  unfold execCalStepComplete
  dsimp only
  split
  · exact .ticked (by decide)
  · split
    · exact .ticked (by decide)
    · refine .ite ?_ (.ticked (by decide))
      split
      · exact hdone _ _ _ _
      · exact .ite (hdone _ _ _ _) (hdone _ _ _ _)

/-! Windows, billing and tariff rates -/

/-- DEMAND_CLOSE, BILLING_PERIOD_CLOSE and REGISTER_SNAPSHOT: the entry that is dispatched closes the window of its kind. -/
theorem fireClose_frame {p : SchedAction → Bool} (kind : SchedEntry → Nat) :
    OnlyOut [.hosts, .sched, .time, .evt, .met, .pair, .reg] s
      (match dispatch p (tick dt s) with
        | some (e, z) => .next (fireClose (kind e) e z)
        | none => .next (tick dt s)) := by
  split
  next hd => exact .next (fireClose_only (by decide) (dispatch_only (by decide) (ticked_only (by decide)) _ _ hd))
  next => exact .ticked (by decide)

theorem execTariffSwitch_frame : OnlyOut [.hosts, .sched, .time, .fab, .evt, .met, .pair, .reg] s (execTariffSwitch dt s) := by
  unfold execTariffSwitch
  dsimp only
  split
  next hd =>
    have hz : Only [.hosts, .sched, .time, .fab, .evt, .met, .pair, .reg] s _ :=
      dispatch_only (by decide) (ticked_only (by decide)) _ _ hd
    split
    · exact .next (refireSeries_only (by decide) (commitRate_only (by decide) (onReg_only (by decide) hz)))
    · exact .next hz
  next => exact .ticked (by decide)

theorem execResultSetReceive_frame :
    OnlyOut [.hosts, .mains, .time, .fab, .evt, .met, .pair, .reg] s (execResultSetReceive dt s) := by
  have htaken : OnlyOut [.hosts, .mains, .time, .fab, .evt, .met, .pair, .reg] s (.next (takeQ9 (pushResult (tick dt s)))) :=
    .next (takeQ9_only (by decide) (pushResult_only (by decide) (ticked_only (by decide))))
  unfold execResultSetReceive
  dsimp only
  split
  · exact htaken
  · exact htaken
  · exact .ticked (by decide)

theorem execWindowComplete_frame : OnlyOut [.hosts, .time, .fab, .evt, .met, .sess, .reg] s (execWindowComplete dt s) := by
  have hcomplete : OnlyOut [.hosts, .time, .fab, .evt, .met, .sess, .reg] s (.next (completeFirst (tick dt s))) :=
    .next (completeFirst_only (by decide) (ticked_only (by decide)))
  unfold execWindowComplete
  dsimp only
  split
  · exact hcomplete
  · exact hcomplete
  · exact .ticked (by decide)

/-! Power quality and pulses -/

theorem execPqUpdate_frame {ms : List Nat} {half : Bool} : OnlyOut [.mains, .time, .met, .reg] s (execPqUpdate dt ms half s) := by
  have hshown : ∀ (x : State) (f : MainsSt → MainsSt), Only [.mains, .time, .met, .reg] s x →
      Only [.mains, .time, .met, .reg] s (if x.fab.seamUp then (showPq x).onMains f else x) :=
    fun _ _ hx => .ite (onMains_only (by decide) (showPq_only (by decide) hx)) hx
  refine .ite (.next (hshown _ _ (onMet_only (by decide) ?_))) (.ticked (by decide))
  exact pqPoly_only (by decide) (pqPoly_only (by decide) (.foldl (fun _ _ => pqPhase_only (by decide)) (ticked_only (by decide))))

theorem execPqReportReceive_frame : OnlyOut [.hosts, .time, .fab, .evt, .met, .sess] s (execPqReportReceive dt s) := by
  unfold execPqReportReceive
  dsimp only
  split
  · exact .ite (.next (takePqReport_only (by decide) (onMet_only (by decide) (ticked_only (by decide))))) (.ticked (by decide))
  · exact .ticked (by decide)

theorem execPulseStart_frame {out : Nat} : OnlyOut [.time, .met, .reg] s (execPulseStart dt out s) :=
  .ite (.next (onPulse_only (by decide) (ticked_only (by decide)))) (.ticked (by decide))

theorem execPulseEnd_frame {out : Nat} : OnlyOut [.time, .met, .reg] s (execPulseEnd dt out s) :=
  .ite (.next (onPulse_only (by decide) (ticked_only (by decide)))) (.ticked (by decide))

theorem execPulseDebtAlarm_frame {out : Nat} : OnlyOut [.hosts, .time, .evt, .met, .reg] s (execPulseDebtAlarm dt out s) :=
  .ite (.next (raise_only (by decide) (onPulse_only (by decide) (ticked_only (by decide))))) (.ticked (by decide))

theorem execPulseConfigApply_frame {out : Nat} : OnlyOut [.cfg, .time, .met, .reg] s (execPulseConfigApply dt out s) := by
  unfold execPulseConfigApply
  dsimp only
  split
  · exact .ite (.next (applyPulseCfg_only (by decide) (ticked_only (by decide)))) (.ticked (by decide))
  · exact .ticked (by decide)

/-- Each command of the two families keeps the blocks that `touches` does not list for it. -/
theorem exec_touches_of_metering {c : Instr} (hc : [Family.metro, .reg].contains (family c) = true) :
    OnlyOut (touches c) s (exec c s) := by
  cases c with
  | dspCycleEnd => exact execDspCycleEnd_frame
  | registerImageRefresh => exact execRegisterImageRefresh_frame
  | harmonicWindowEnd => exact execHarmonicWindowEnd_frame
  | tariffInputTakeover => exact execTariffInputTakeover_frame
  | calFallbackTimeout => exact execCalFallbackTimeout_frame
  | calEnRelease => exact execCalEnRelease_frame
  | calSessionTimeout => exact execCalSessionTimeout_frame
  | calStepComplete => exact execCalStepComplete_frame
  | metStatus => exact runCmd_frame rfl fun _ _ => metStatus_only rfl
  | calOpen => exact runCmd_frame rfl fun _ _ => calOpen_only rfl
  | calStep => exact runCmd_frame rfl fun _ _ => calStep_only rfl
  | calClose => exact runCmd_frame rfl fun _ _ => calClose_only rfl
  | calRead => exact runCmd_frame rfl fun _ _ => calRead_only rfl
  | harmRead => exact runCmd_frame rfl fun _ _ => harmRead_only rfl
  | demandClose => exact fireClose_frame fun e => seriesId e.action
  | billingPeriodClose => exact fireClose_frame fun _ => 4
  | registerSnapshot => exact fireClose_frame fun e => seriesId e.action
  | tariffSwitch => exact execTariffSwitch_frame
  | resultSetReceive => exact execResultSetReceive_frame
  | windowComplete => exact execWindowComplete_frame
  | regRead => exact runCmd_frame rfl fun _ _ => regRead_only rfl
  | tariffSet => exact runCmd_frame rfl fun _ _ => tariffSet_only rfl
  | demandRead => exact runCmd_frame rfl fun _ _ => demandRead_only rfl
  | billingClose => exact runCmd_frame rfl fun _ _ => billingClose_only rfl
  | pqUpdate => exact execPqUpdate_frame
  | pqReportReceive => exact execPqReportReceive_frame
  | pulseStart => exact execPulseStart_frame
  | pulseEnd => exact execPulseEnd_frame
  | pulseDebtAlarm => exact execPulseDebtAlarm_frame
  | pulseConfigApply => exact execPulseConfigApply_frame
  | pulseSet => exact runCmd_frame rfl fun _ _ => pulseSet_only rfl
  | pulseStatus => exact runCmd_frame rfl fun _ _ => pulseStatus_only rfl
  | _ => exact absurd hc Bool.false_ne_true

end Frames

/-- Settles O7: each command changes at most the blocks of the operations it is made of, and `touches` lists them. -/
theorem framesOfMetering : Obligations.FramesOfMetering :=
  fun _ _ t hf he => exec_touches_of_metering (List.contains_iff_mem.mpr hf) t he

/-! ### What waits on Q9 for a gated cluster (R35, R47, R802–R804) -/

/-- What is on Q9 waits while no powered engine takes from it. -/
theorem takeQ9_waits {s : State} (h : workTakes s .normalise 9 = false) : takeQ9 s = s := by
  unfold takeQ9
  split
  · exact if_neg (Bool.eq_false_iff.mp h)
  · rfl

/-- A device that runs in Trim with cluster 0 gated, and a result set that has reached Q9. -/
def setAtGatedCluster : State :=
  (running.onPwr fun p => { p with state := .trim, gated := 1 }).onReg fun g => { g with q9 := [{}] }

/-- Refutes O31, by its clause of RESULT_SET_RECEIVE: a start that has ended does not say that an engine takes from Q9. In Trim with
cluster 0 gated the set waits on Q9 for CLUSTER_UNGATE (R803, R804), and the registers are as they were. -/
theorem not_registersAndTariffs : ¬ Obligations.RegistersAndTariffs := by
  unfold Obligations.RegistersAndTariffs
  rintro ⟨hreceive, -⟩
  obtain ⟨t, ht, -, -, -, -, -, -, hq9, -⟩ := hreceive {} [] 0 setAtGatedCluster (by decide)
  have hwaits : exec (.resultSetReceive 0) setAtGatedCluster = .next (tick 0 setAtGatedCluster) :=
    congrArg Outcome.next (takeQ9_waits (by decide))
  cases ht.symm.trans hwaits
  exact absurd hq9 (by decide)

end Sys2Proof.Machine
end

section
/-! PROOFS. The statements of power quality and pulse outputs. -/

namespace Sys2Proof.Machine

/-! ### The detectors of voltage events (R236–R242) -/

/-- Of the metering block, only the detectors' open events, their count and their reports differ. -/
def PqOnly (s t : State) : Prop :=
  t.met = { s.met with pq := t.met.pq, pqEvents := t.met.pqEvents, pqQueue := t.met.pqQueue, pqLost := t.met.pqLost }

theorem PqOnly.refl (s : State) : PqOnly s s := rfl

theorem PqOnly.trans {s t u : State} (h : PqOnly s t) (k : PqOnly t u) : PqOnly s u := by
  unfold PqOnly at *
  rw [k, h]

/-- The registers, the result sets and the settings stay (R178, R194, R234). -/
theorem PqOnly.keeps {s t : State} (h : PqOnly s t) : t.met.regs = s.met.regs ∧ t.met.results = s.met.results ∧ t.met.ctl = s.met.ctl := by
  unfold PqOnly at h
  rw [h]
  exact ⟨rfl, rfl, rfl⟩

theorem PqOnly.foldl {α : Type} {g : State → α → State} (hg : ∀ z a, PqOnly z (g z a)) (l : List α) (s : State) :
    PqOnly s (l.foldl g s) := by
  induction l generalizing s with
  | nil => exact .refl s
  | cons a l ih => exact (hg s a).trans (ih _)

theorem pqReport_pqOnly (r : PqReport) (s : State) : PqOnly s (pqReport r s) := by
  unfold PqOnly pqReport
  simp only [State.onMet_met]
  split
  · rfl
  · rfl

theorem pqClose_pqOnly (swell : Bool) (index why : Nat) (s : State) : PqOnly s (pqClose swell index why s) := by
  unfold pqClose
  split
  · exact .refl s
  · exact (pqReport_pqOnly _ s).trans rfl

theorem pqStart_pqOnly (swell : Bool) (index : Nat) (e : PqOpen) (s : State) : PqOnly s (pqStart swell index e s) :=
  PqOnly.trans (t := s.onMet fun m => { m with pq := modAt m.pq index (pqSet swell (some e)) }) rfl (pqReport_pqOnly _ _)

theorem pqStep_pqOnly (swell begins ends unsync intr half : Bool) (index v : Nat) (s : State) :
    PqOnly s (pqStep swell begins ends unsync intr half index v s) := by
  unfold pqStep
  dsimp only
  split
  next e _ =>
    have hmore : PqOnly s (s.onMet fun m => { m with pq := modAt m.pq index (pqSet swell (some (pqMore swell unsync v intr e))) }) := rfl
    split
    · exact hmore.trans (pqClose_pqOnly _ _ _ _)
    · exact hmore
  next =>
    split
    · exact pqStart_pqOnly _ _ _ _
    · exact .refl s

theorem pqPhase_pqOnly (n v : Nat) (unsync half : Bool) (s : State) : PqOnly s (pqPhase n v unsync half s) := by
  unfold pqPhase
  split
  · exact (pqStep_pqOnly ..).trans (pqStep_pqOnly ..)
  · exact (pqClose_pqOnly ..).trans (pqClose_pqOnly ..)

theorem pqPoly_pqOnly (swell : Bool) (rms : List Nat) (was : List PqPhase) (unsync half : Bool) (s : State) :
    PqOnly s (pqPoly swell rms was unsync half s) := by
  unfold pqPoly
  dsimp only
  split
  · exact pqClose_pqOnly ..
  · exact pqStep_pqOnly ..

/-- The RMS values of CH0–CH2 of an update, corrected (R150, R236). -/
def rmsOfUpdate (ms : List Nat) (m : MetSt) : List Nat := (List.range 3).map fun n => rmsOfChan m.cal n (ms.getD n 0)

/-- The detectors have taken an update of these RMS values, the polyphase ones after those of the phases (R238, R239). -/
def detectPq (rms : List Nat) (half : Bool) (s : State) : State :=
  pqPoly true rms s.met.pq (unsyncNow s.met) half (pqPoly false rms s.met.pq (unsyncNow s.met) half
    ((List.range 3).foldl (fun z n => pqPhase n (rms.getD n 0) (unsyncNow s.met) half z) s))

theorem detectPq_pqOnly (rms : List Nat) (half : Bool) (s : State) : PqOnly s (detectPq rms half s) :=
  ((PqOnly.foldl (fun z n => pqPhase_pqOnly n (rms.getD n 0) _ half z) _ s).trans (pqPoly_pqOnly ..)).trans (pqPoly_pqOnly ..)

theorem detectPq_frame (rms : List Nat) (half : Bool) (s : State) : Only [.met] s (detectPq rms half s) :=
  pqPoly_only (by decide) (pqPoly_only (by decide) (.foldl (fun _ _ => pqPhase_only (by decide)) (Only.refl _ s)))

/-- Every detector has seen the update, which was synchronous with the mains or not (R241, R244). -/
def endPqUpdate (unsync : Bool) (s : State) : State :=
  s.onMet fun m => { m with pqUnsync := unsync, pq := m.pq.map fun d => { d with seen := true } }

/-- While the channel is up the line side tells the detectors' state and the RMS values (R21, R24, R65). -/
def tellPq (rms : Vector Nat 3) (s : State) : State :=
  if s.fab.seamUp then (showPq s).onMains fun m => { m with rms := rms } else s

theorem tellPq_frame (rms : Vector Nat 3) (s : State) : Only [.mains, .reg] s (tellPq rms s) :=
  .ite (onMains_only (by decide) (showPq_only (by decide) (Only.refl _ s))) (Only.refl _ s)

theorem tellPq_met (rms : Vector Nat 3) (s : State) : (tellPq rms s).met = s.met := tellPq_frame rms s .met (by decide)

theorem tellPq_rms {rms : Vector Nat 3} {s : State} (h : s.fab.seamUp = true) : (tellPq rms s).mains.rms = rms := by
  unfold tellPq
  rw [if_pos h]
  rfl

theorem tellPq_cycle (rms : Vector Nat 3) (s : State) : (tellPq rms s).mains.cycle = s.mains.cycle := by
  have hshow : (showPq s).mains = s.mains := showPq_only (bs := [.reg]) (by decide) (Only.refl _ s) .mains (by decide)
  unfold tellPq
  split
  · rw [State.onMains_mains, hshow]
  · rfl

/-- An update is what the detectors make of it, then told to the logic side (R236–R241). -/
theorem exec_pqUpdate {dt : Nat} {ms : List Nat} {half : Bool} {s u : State} (hu : tick dt s = u) (hl : u.pwr.lineOn = true)
    (hm : metroOff u = false) : exec (.pqUpdate dt ms half) s = .next (tellPq
      ⟨#[rmsOfChan u.met.cal 0 (ms.getD 0 0), rmsOfChan u.met.cal 1 (ms.getD 1 0), rmsOfChan u.met.cal 2 (ms.getD 2 0)], rfl⟩
      (endPqUpdate (unsyncNow u.met) (detectPq (rmsOfUpdate ms u.met) half u))) := by
  subst hu
  exact if_pos (by rw [hl, hm]; rfl)

/-! ### Reports of voltage events (R242, R243) -/

/-- A report is logged when it starts an event and when it ends one, the records of an ended event being none of Q10's (R243, R245). -/
theorem takePqReport_logged (r : PqReport) (s : State) : Logged (if r.ending then .pqEnd else .pqStart) 0x30
    ([BitVec.ofNat 8 r.kind, BitVec.ofNat 8 r.index] ++ leBytes 4 r.extreme) s (takePqReport r s) := by
  unfold takePqReport
  dsimp only
  cases r.ending with
  | false => exact logged_raise rfl rfl
  | true =>
    have hrecords : ∀ ch1 ch2 ch3 key v1 v2 v3 fl q, Only [.hosts, .fab, .sess] s
        (emitOwn ch3 key v3 fl q (emitOwn ch2 key v2 fl q (emitOwn ch1 key v1 fl q s))) := fun _ _ _ _ _ _ _ _ _ =>
      emitOwn_only (by decide) (emitOwn_only (by decide) (emitOwn_only (by decide) (Only.refl _ s)))
    exact logged_raise (congrArg EvtSt.q10 (hrecords _ _ _ _ _ _ _ _ _ .evt (by decide)))
      (congrArg PwrSt.stage (hrecords _ _ _ _ _ _ _ _ _ .pwr (by decide)))

/-- The oldest report leaves the line side and is taken, with the event of its start or end (R242, R243). -/
theorem pqReportReceive_takes (ending : Bool) (r : PqReport) (rest : List PqReport) :
    Completes (fun dt => .pqReportReceive dt) (fun u => u.fab.seamUp = true ∧ u.hosts.ready = true ∧ u.met.pqQueue = r :: rest ∧
      r.ending = ending)
      fun u t => t.met.pqQueue = rest ∧ Logged (if ending then .pqEnd else .pqStart) 0x30
        ([BitVec.ofNat 8 r.kind, BitVec.ofNat 8 r.index] ++ leBytes 4 r.extreme) u t := by
  rintro dt s ⟨hs, hr, hq, rfl⟩
  have hmet : (takePqReport r ((tick dt s).onMet fun m => { m with pqQueue := rest })).met = { (tick dt s).met with pqQueue := rest } :=
    takePqReport_only (bs := [.hosts, .fab, .evt, .sess]) (by decide) (Only.refl _ _) .met (by decide)
  show ∃ t, execPqReportReceive dt s = .next t ∧ _
  unfold execPqReportReceive
  dsimp only
  rw [hq]
  exact next_if (by rw [hs, hr]; rfl) ⟨congrArg MetSt.pqQueue hmet, takePqReport_logged r ((tick dt s).onMet _)⟩

/-! ### Pulse outputs (R249–R261) -/

theorem applyPulseCfg_pulses (n : Nat) (c : PulseCfg) (s : State) : (applyPulseCfg n c s).reg.pulses = modAt s.reg.pulses n fun p =>
    { p with discarded := w32 (p.discarded + debt p), base := pulseSum c s.reg.cum, owed := 0, emitted := 0, dropped := 0,
             pendingCfg := none, overFrom := none, alarmed := false, paying := p.paying && c.enable } := rfl

/-- The configuration that the payload of PULSE_SET spells (R260). -/
def pulseCfgOf (p : List Byte) : PulseCfg :=
  { enable := fld p 1 1 == 1, pointMask := BitVec.ofNat 32 (fld p 4 4), code := fld p 2 1, perPulse := fld p 8 4, widthMs := fld p 3 1 }

/-- A configuration within its limits waits for the next cycle start (R251, R258, R260). -/
theorem pulseSet_accepted {tk : Taken} {u : State} (hout : fld tk.payload 0 1 ≤ 7) (hen : fld tk.payload 1 1 ≤ 1)
    (hcode : fld tk.payload 2 1 ≤ 7) (hw2 : 2 ≤ fld tk.payload 3 1) (hw100 : fld tk.payload 3 1 ≤ 100) (hper : 1 ≤ fld tk.payload 8 4)
    (hmax : fld tk.payload 8 4 ≤ 4000000000)
    (hmask : maskRefused (fld tk.payload 1 1 == 1) (BitVec.ofNat 32 (fld tk.payload 4 4)) = false) : pulseSet tk u =
      (onPulse (fld tk.payload 0 1) (fun q => { q with pendingCfg := some (pulseCfgOf tk.payload, nextCycleStart u / 65536) }) u,
        okWith (leBytes 6 (nextCycleStart u / 65536) ++ [0, 0])) := by
  refine if_neg ?_
  simp only [hmask, Bool.or_false, Bool.or_eq_true, decide_eq_true_eq]
  omega

/-- The answer of PULSE_STATUS (R261). -/
def pulseReport (out : Nat) (s : State) : List Byte :=
  leBytes 8 (pulseOf s out).owed ++ leBytes 8 (pulseOf s out).emitted ++ leBytes 4 (debt (pulseOf s out))
    ++ leBytes 4 (pulseOf s out).discarded ++ leBytes 4 (pulseOf s out).lost
    ++ leBytes 2 (bit (pulseReleased s out) + 2 * bit (overCapacity s out)) ++ [0, 0]

theorem pulseStatus_answers {tk : Taken} {u : State} (h : fld tk.payload 0 1 ≤ 7) :
    pulseStatus tk u = (u, okWith (pulseReport (fld tk.payload 0 1) u)) := if_neg (by omega)

theorem pulseReport_length (out : Nat) (s : State) : (pulseReport out s).length = 32 := by
  simp [pulseReport]

theorem pulseReport_shows (out : Nat) (s : State) : Shows (pulseReport out s) 0 8 (pulseOf s out).owed ∧
    Shows (pulseReport out s) 8 8 (pulseOf s out).emitted ∧ Shows (pulseReport out s) 16 4 (debt (pulseOf s out)) ∧
    Shows (pulseReport out s) 20 4 (pulseOf s out).discarded ∧ Shows (pulseReport out s) 24 4 (pulseOf s out).lost ∧
    Shows (pulseReport out s) 28 2 (bit (pulseReleased s out) + 2 * bit (overCapacity s out)) := by
  simp [pulseReport]

/-- Settles O30: an update touches the metering by its detectors alone, a report is taken with its event, and each pulse command passes
its checks. BASE taken at PULSE_CONFIG_APPLY, and SOURCE and DETAIL of the debt's event, are the model's (log entries 51, 16 and 31). -/
theorem powerQualityAndPulses : Obligations.PowerQualityAndPulses := by
  unfold Obligations.PowerQualityAndPulses
  refine ⟨fun ms half => ?update, fun r rest => ?started, fun r rest => ?ended, fun n => ?pulseStart, fun n => ?pulseEnd,
    fun n k => ?debtAlarm, fun n c cycle => ?configApply, ?configSet, ?status⟩
  case update =>
    rintro dt s ⟨hl, hm⟩
    obtain ⟨hregs, hresults, hctl⟩ := (detectPq_pqOnly (rmsOfUpdate ms (tick dt s).met) half (tick dt s)).keeps
    have hdetected : Only [.met] (tick dt s)
        (endPqUpdate (unsyncNow (tick dt s).met) (detectPq (rmsOfUpdate ms (tick dt s).met) half (tick dt s))) :=
      onMet_only (by decide) (detectPq_frame _ _ _)
    refine ⟨_, exec_pqUpdate rfl hl hm, ?_⟩
    dsimp only
    rw [tellPq_met, tellPq_cycle]
    exact ⟨rfl, hregs, hresults, hctl, fun hup => tellPq_rms ((congrArg FabSt.seamUp (hdetected .fab (by decide))).trans hup),
      congrArg MainsSt.cycle (hdetected .mains (by decide)),
      Only.trans (hdetected.mono (by decide)) ((tellPq_frame _ _).mono (by decide))⟩
  case started => exact pqReportReceive_takes false r rest
  case ended => exact pqReportReceive_takes true r rest
  case pulseStart =>
    rintro dt s ⟨hn, hreleased, hpaying, howes, hidle, hspaced⟩
    have hdebt : 0 < debt (pulseOf (tick dt s) n) := Nat.sub_pos_of_lt howes
    exact next_if (by simp [hn, hreleased, hpaying, hdebt, hidle, hspaced]) ⟨_, _, rfl⟩
  case pulseEnd =>
    rintro dt s ⟨hn, hactive, hend⟩
    exact next_if (by simp [hn, hactive, hend]) rfl
  case debtAlarm =>
    rintro dt s ⟨hn, hover, hlong, hquiet⟩
    have hraised := raise_frame .pulseDebt srcSup [BitVec.ofNat 8 n] (onPulse n (fun p => { p with alarmed := true }) (tick dt s))
    exact next_if (by simp [hn, hover, hlong, hquiet]) ⟨hraised .reg (by decide), logged_raise rfl rfl,
      raise_only (by decide) (onPulse_only (by decide) (Only.refl _ _))⟩
  case configApply =>
    rintro dt s ⟨hn, hwaits, hcycle⟩
    show ∃ t, execPulseConfigApply dt n s = .next t ∧ _
    unfold execPulseConfigApply
    dsimp only
    rw [hwaits]
    exact next_if (by simpa [hn] using hcycle) ⟨rfl, applyPulseCfg_pulses n c _, applyPulseCfg_only (by decide) (Only.refl _ _)⟩
  case configSet =>
    exact Serves.of (fun _ _ _ => rfl) fun _ _ _ _ ⟨hout, hen, hcode, hw2, hw100, hper, hmax, hmask⟩ =>
      ⟨_, _, pulseSet_accepted hout hen hcode hw2 hw100 hper hmax hmask, ⟨rfl, rfl, rfl⟩, .inl (by simp [okWith])⟩
  case status =>
    exact Reads.of (fun _ _ _ => rfl) fun _ _ _ hout =>
      ⟨_, pulseStatus_answers hout, pulseReport_length _ _, pulseReport_shows _ _⟩

end Sys2Proof.Machine
end

section
/-! PROOFS. The statements of the radio front ends: the frames of radio, power line and ingest. -/

namespace Sys2Proof.Machine

open Host (Outcome)

section Frames
variable {s : State} {dt : Nat}

/-! ### The frames of the radio and the link layer (R263–R292, R305–R337) -/

theorem execControlWordCommit_frame {n : Nat} :
    OnlyOut [.cfg, .hosts, .time, .fab, .evt, .pwr, .met, .rad, .link, .sess, .vee, .arch, .fleet, .pair] s
      (execControlWordCommit dt n s) := by
  unfold execControlWordCommit
  dsimp only
  split
  · exact .ite (.next (commitShadow_only (by decide) (onFab_only (by decide) (ticked_only (by decide)))))
      (.next (holdWord_only (by decide) (onFab_only (by decide) (ticked_only (by decide)))))
  · exact .ticked (by decide)

theorem execFeCalibrationDone_frame {fe : Nat} : OnlyOut [.time, .met, .rad] s (execFeCalibrationDone dt fe s) := by
  unfold execFeCalibrationDone
  dsimp only
  split
  · exact .ite (.next (onFe_only (by decide) (ticked_only (by decide)))) (.ticked (by decide))
  · exact .ticked (by decide)

theorem execFeRetune_frame {fe inFrame : Nat} : OnlyOut [.cfg, .time, .met, .rad] s (execFeRetune dt fe inFrame s) := by
  unfold execFeRetune
  dsimp only
  split
  · exact .ite (.next (onFe_only (by decide) (commitWord_only (by decide) (ticked_only (by decide))))) (.ticked (by decide))
  · exact .ticked (by decide)

theorem execAgcOverload_frame {fe : Nat} : OnlyOut [.hosts, .time, .met] s (execAgcOverload dt fe s) :=
  .ite (.next (setSticky_only (by decide) (ticked_only (by decide)))) (.ticked (by decide))

theorem execLaneFrameReceive_frame {f : RadioFrame} : OnlyOut [.hosts, .time, .fab, .met, .rad] s (execLaneFrameReceive dt f s) := by
  refine .ite (.ticked (by decide)) (.ite (.next (onFe_only (by decide) (ticked_only (by decide)))) (.ite (.next ?queued) (.next ?refused)))
  case queued => exact tapFrame_only (by decide) (onRad_only (by decide) (onFe_only (by decide) (ticked_only (by decide))))
  case refused =>
    exact setSticky_only (by decide) (onFe_only (by decide) (countRefused_only (by decide) (onRad_only (by decide)
      (onFe_only (by decide) (ticked_only (by decide))))))

theorem execWurFrame_frame {addr check cls : Nat} : OnlyOut [.hosts, .time, .evt, .pwr, .met] s (execWurFrame dt addr check cls s) :=
  .ite (.next (onPwr_only (by decide) (raise_only (by decide) (setSticky_only (by decide) (ticked_only (by decide))))))
    (.ticked (by decide))

theorem execTxRelease_frame {cca : Int} :
    OnlyOut [.hosts, .sched, .time, .fab, .evt, .met, .rad, .link, .plc, .upl, .pair] s (execTxRelease dt cca s) := by
  have htaken : ∀ (q : Nat) (f : RadSt → RadSt), Only [.hosts, .sched, .time, .fab, .evt, .met, .rad, .link, .plc, .upl, .pair] s
      ((dropEntry q (tick dt s)).onRad f) := fun _ _ => onRad_only (by decide) (dropEntry_only (by decide) (ticked_only (by decide)))
  unfold execTxRelease
  dsimp only
  split
  · exact .ticked (by decide)
  · split
    · refine .ite (.next ?_) ?_
      · split
        · exact .ite (frameDropped_only (by decide) (onSched_only (by decide) (htaken _ _))) (onSched_only (by decide) (htaken _ _))
        · exact onSched_only (by decide) (htaken _ _)
      · split
        · exact .next (frameDropped_only (by decide) (countTxDrop_only (by decide) (htaken _ _)))
        · exact .ite (.next (frameDropped_only (by decide) (countTxDrop_only (by decide) (htaken _ _))))
            (.next (releaseFrame_only (by decide) (htaken _ _)))
    · exact .ticked (by decide)

theorem execTxEnd_frame {fe : Nat} : OnlyOut [.hosts, .time, .met, .rad, .link, .upl] s (execTxEnd dt fe s) := by
  unfold execTxEnd
  dsimp only
  split
  · exact .ticked (by decide)
  next t _ =>
    have hended : ∀ (f : FeSt → FeSt) (g : RadSt → RadSt) (h : HostsSt → HostsSt), Only [.hosts, .time, .met, .rad, .link, .upl] s
        (((onFe fe f (addAir t t.offRc (endBlank fe t.offRc (tick dt s)))).onRad g).onHosts h) := fun _ _ _ =>
      onHosts_only (by decide) (onRad_only (by decide) (onFe_only (by decide) (addAir_only (by decide) (endBlank_only (by decide)
        (ticked_only (by decide))))))
    exact .ite (.next (onLink_only (by decide) (.ite (multicastEnd_only (by decide) (hended _ _ _)) (hended _ _ _)))) (.ticked (by decide))

theorem execMacFrameAccept_frame {cap : Bool} :
    OnlyOut [.hosts, .sched, .time, .fab, .evt, .met, .rad, .link, .sess, .arch, .upl, .pair] s (execMacFrameAccept dt cap s) := by
  unfold execMacFrameAccept
  dsimp only
  split
  · exact .ite (.next (macFrame_only (by decide) (onRad_only (by decide) (ticked_only (by decide))))) (.ticked (by decide))
  · exact .ticked (by decide)

theorem execCheckinEvaluate_frame {meter : Nat} :
    OnlyOut [.hosts, .sched, .time, .fab, .evt, .met, .rad, .link, .sess, .arch, .pair] s (execCheckinEvaluate dt meter s) := by
  unfold execCheckinEvaluate
  dsimp only
  split
  · exact .ticked (by decide)
  · refine .ite (.next (wakeForCheckin_only (by decide) (.ite ?kept (raise_only (by decide) ?kept)))) (.ticked (by decide))
    case kept =>
      split
      · exact onNbr_only (by decide) (onCtx_only (by decide) (ticked_only (by decide)))
      · exact onCtx_only (by decide) (ticked_only (by decide))

theorem execJoinTimeout_frame {meter : Nat} :
    OnlyOut [.hosts, .time, .evt, .met, .link, .sess, .vee, .arch, .fleet, .pair] s (execJoinTimeout dt meter s) := by
  unfold execJoinTimeout
  dsimp only
  split
  · exact .ite (.next (raise_only (by decide) (freeCtx_only (by decide) (ticked_only (by decide))))) (.ticked (by decide))
  · exact .ticked (by decide)

theorem execAckWaitExpire_frame {id : Nat} :
    OnlyOut [.hosts, .sched, .time, .fab, .evt, .met, .rad, .link, .plc, .upl, .pair] s (execAckWaitExpire dt id s) := by
  unfold execAckWaitExpire
  dsimp only
  split
  · split
    · exact .ite (.next (retryDown_only (by decide) (ticked_only (by decide)))) (.ticked (by decide))
    · exact .ticked (by decide)
  · exact .ticked (by decide)

/-! ### The frames of the power-line port (R29, R341–R356) -/

theorem execSeamChannelDown_frame {n : Nat} :
    OnlyOut [.hosts, .time, .fab, .evt, .met, .link, .plc, .upl] s (execSeamChannelDown dt n s) :=
  .ite (.next (muteDriver_only (by decide) (onPlc_only (by decide) (onMet_only (by decide) (onFab_only (by decide)
    (ticked_only (by decide))))))) (.ticked (by decide))

theorem execPlcModeApply_frame :
    OnlyOut [.cfg, .hosts, .sched, .time, .fab, .evt, .pwr, .met, .rad, .link, .plc, .upl, .pair] s (execPlcModeApply dt s) := by
  refine .ite ?_ (.ticked (by decide))
  split
  next hd => exact .next (applyMode_only (by decide) (dispatch_only (by decide) (ticked_only (by decide)) _ _ hd))
  next => exact .ticked (by decide)

theorem execPlcRetrainEnd_frame : OnlyOut [.time, .met, .plc] s (execPlcRetrainEnd dt s) := by
  unfold execPlcRetrainEnd
  dsimp only
  split
  · exact .ite (.next (onPlc_only (by decide) (ticked_only (by decide)))) (.ticked (by decide))
  · exact .ticked (by decide)

theorem execPlcDriverMute_frame : OnlyOut [.hosts, .time, .fab, .evt, .met, .link, .plc, .upl] s (execPlcDriverMute dt s) :=
  .ite (.next (muteDriver_only (by decide) (ticked_only (by decide)))) (.ticked (by decide))

theorem execPlcNoiseUpdate_frame {meas : List (Option Int)} : OnlyOut [.time, .met, .plc] s (execPlcNoiseUpdate dt meas s) :=
  .ite (.next (onPlc_only (by decide) (ticked_only (by decide)))) (.ticked (by decide))

theorem execPlcTxDue_frame :
    OnlyOut [.hosts, .sched, .time, .fab, .evt, .met, .rad, .link, .plc, .upl, .pair] s (execPlcTxDue dt s) := by
  refine .ite (.next (dropDuePlc_only (by decide) (ticked_only (by decide)))) (.ite (.ticked (by decide)) ?_)
  split
  next hd =>
    have hz : Only [.hosts, .sched, .time, .fab, .evt, .met, .rad, .link, .plc, .upl, .pair] s _ :=
      dispatch_only (by decide) (ticked_only (by decide)) _ _ hd
    dsimp only
    split
    · split
      · exact .next (frameDropped_only (by decide) (onPlc_only (by decide) hz))
      · exact .ite (.next (onPlc_only (by decide) (onPlc_only (by decide) hz)))
          (.next (frameDropped_only (by decide) (onPlc_only (by decide) hz)))
    · exact .next hz
  next => exact .ticked (by decide)

theorem execPlcFrameStart_frame {csmaFail busy : Bool} :
    OnlyOut [.hosts, .sched, .time, .fab, .evt, .met, .rad, .link, .plc, .upl, .pair] s (execPlcFrameStart dt csmaFail busy s) := by
  unfold execPlcFrameStart
  dsimp only
  split
  · exact .ticked (by decide)
  · refine .ite (.ticked (by decide)) (.ite (.next ?failed) (.ite (.ticked (by decide)) (.next ?started)))
    case failed => exact frameDropped_only (by decide) (onPlc_only (by decide) (ticked_only (by decide)))
    case started => exact onFab_only (by decide) (onPlc_only (by decide) (ticked_only (by decide)))

theorem execPlcNoWindow_frame :
    OnlyOut [.hosts, .sched, .time, .fab, .evt, .met, .rad, .link, .plc, .upl, .pair] s (execPlcNoWindow dt s) := by
  unfold execPlcNoWindow
  dsimp only
  split
  · exact .next (frameDropped_only (by decide) (onPlc_only (by decide) (ticked_only (by decide))))
  · exact .ticked (by decide)

theorem execPlcFrameReceive_frame {f : PlcFrame} :
    OnlyOut [.hosts, .sched, .time, .fab, .evt, .met, .rad, .link, .plc, .sess, .arch, .upl, .pair] s (execPlcFrameReceive dt f s) :=
  .ite (.ticked (by decide)) (.ite (.next (takeQ1_only (by decide) (onPlc_only (by decide) (ticked_only (by decide)))))
    (.next (countRefused_only (by decide) (ticked_only (by decide)))))

theorem execPlcThermal_frame : OnlyOut [.hosts, .time, .fab, .evt, .met, .plc] s (execPlcThermal dt s) :=
  .ite (.next (tellLogic_only (by decide) (onPlc_only (by decide) (ticked_only (by decide))))) (.ticked (by decide))

theorem execPlcNodeAge_frame {node : Nat} : OnlyOut [.time, .met, .plc] s (execPlcNodeAge dt node s) := by
  unfold execPlcNodeAge
  dsimp only
  split
  · exact .ticked (by decide)
  · exact .ite (.next (onPlc_only (by decide) (ticked_only (by decide)))) (.ticked (by decide))

theorem execPlcFrameEnd_frame {ilim : Bool} : OnlyOut [.hosts, .time, .met, .link, .plc, .upl] s (execPlcFrameEnd dt ilim s) := by
  unfold execPlcFrameEnd
  dsimp only
  split
  · exact .ticked (by decide)
  · have hended : ∀ (f : PlcSt → PlcSt) (h : HostsSt → HostsSt), Only [.hosts, .time, .met, .link, .plc, .upl] s
        (if ilim then setSticky 0x054 0x80 (((tick dt s).onPlc f).onHosts h) else ((tick dt s).onPlc f).onHosts h) := by
      intro f h
      have hcounted : Only [.hosts, .time, .met, .link, .plc, .upl] s (((tick dt s).onPlc f).onHosts h) :=
        onHosts_only (by decide) (onPlc_only (by decide) (ticked_only (by decide)))
      exact .ite (setSticky_only (by decide) hcounted) hcounted
    exact .ite (.next (onLink_only (by decide) (.ite (multicastEnd_only (by decide) (hended _ _)) (hended _ _)))) (.ticked (by decide))

theorem execPlcThermalRecover_frame : OnlyOut [.time, .met, .plc] s (execPlcThermalRecover dt s) :=
  .next (onPlc_only (by decide) (ticked_only (by decide)))

/-! ### The frames of ingest (R362–R404) -/

theorem execFirmwareUnpack_frame : OnlyOut [.time, .fab, .met, .sess, .upl] s (execFirmwareUnpack dt s) := by
  refine .ite ?_ (.ticked (by decide))
  split
  · exact .ticked (by decide)
  · exact .ite (.next (refreshPressure_only (by decide) (onSess_only (by decide) (onSess_only (by decide) (ticked_only (by decide))))))
      (.next (pushBack_only (by decide) (onSess_only (by decide) (ticked_only (by decide)))))

theorem execSessionStage_frame :
    OnlyOut [.hosts, .time, .fab, .evt, .met, .link, .sess, .arch, .upl, .pocket, .pair] s (execSessionStage dt s) := by
  have hnext : Only [.hosts, .time, .fab, .evt, .met, .link, .sess, .arch, .upl, .pocket, .pair] s (nextApdu (tick dt s)).2 :=
    nextApdu_only (by decide) (ticked_only (by decide))
  refine .ite ?_ (.ticked (by decide))
  split
  next hn => exact .next (refreshPressure_only (by decide) (stage_only (by decide) (onSess_only (by decide) (.eq2 hn hnext))))
  next hn => exact .next (.eq2 hn hnext)

theorem execEcdsaVerify_frame {ok : Bool} :
    OnlyOut [.hosts, .time, .fab, .evt, .met, .link, .sess, .arch, .upl, .pocket, .pair] s (execEcdsaVerify dt ok s) := by
  have htaken : ∀ f g : SessSt → SessSt, Only [.hosts, .time, .fab, .evt, .met, .link, .sess, .arch, .upl, .pocket, .pair] s
      (((tick dt s).onSess f).onSess g) := fun _ _ => onSess_only (by decide) (onSess_only (by decide) (ticked_only (by decide)))
  refine .ite ?_ (.ticked (by decide))
  split
  · exact .ticked (by decide)
  · refine .ite (.next (refreshPressure_only (by decide) (htaken _ _))) (.ite (.next ?ciphered) (.ite (.next ?plain) (.next ?refused)))
    case ciphered => exact refreshPressure_only (by decide) (cipheredIn_only (by decide) (htaken _ _))
    case plain =>
      exact refreshPressure_only (by decide) (parseAccepted_only (by decide) (frameContact_only (by decide) (verified_only (by decide)
        (htaken _ _))))
    case refused => exact refreshPressure_only (by decide) (countAuthFail_only (by decide) (htaken _ _))

theorem execDatablockTimeout_frame {meter : Nat} :
    OnlyOut [.hosts, .time, .evt, .met, .sess, .arch, .pair] s (execDatablockTimeout dt meter s) := by
  unfold execDatablockTimeout
  dsimp only
  split
  · exact .ticked (by decide)
  · exact .ite (.next (parseDrop_only (by decide) (onCtx_only (by decide) (ticked_only (by decide))))) (.ticked (by decide))

theorem execPrevKeyExpire_frame {meter : Nat} :
    OnlyOut [.hosts, .time, .evt, .met, .sess, .arch, .pair] s (execPrevKeyExpire dt meter s) := by
  unfold execPrevKeyExpire
  dsimp only
  split
  · exact .ticked (by decide)
  · exact .ite (.next (onCtx_only (by decide) (ticked_only (by decide)))) (.ticked (by decide))

theorem execNormalise_frame : OnlyOut [.hosts, .time, .fab, .evt, .met, .sess, .arch, .upl, .pair] s (execNormalise dt s) := by
  have htaken : Only [.hosts, .time, .fab, .evt, .met, .sess, .arch, .upl, .pair] s (popQ3 (tick dt s)) :=
    popQ3_only (by decide) (ticked_only (by decide))
  refine .ite ?_ (.ticked (by decide))
  split
  · exact .ticked (by decide)
  · exact .next (refreshPressure_only (by decide) (.ite (normalise_only (by decide) htaken) htaken))

theorem execPairHoldTimeout_frame :
    OnlyOut [.hosts, .time, .fab, .evt, .met, .sess, .arch, .pair] s (execPairHoldTimeout dt s) := by
  unfold execPairHoldTimeout
  dsimp only
  split
  · exact .ticked (by decide)
  · have hreleased : ∀ (l : List HeldApdu) (f : SessSt → SessSt), Only [.hosts, .time, .fab, .evt, .met, .sess, .arch, .pair] s
        (l.foldl (fun z h => pushMeterRecords h.meter h.recs z) ((tick dt s).onSess f)) := fun _ _ =>
      .foldl (fun _ _ => pushMeterRecords_only (by decide)) (onSess_only (by decide) (ticked_only (by decide)))
    exact .ite (.ite (.next (hreleased _ _)) (.next (setAlarm_only (by decide) (raise_only (by decide) (onPair_only (by decide)
      (hreleased _ _)))))) (.ticked (by decide))

theorem execContextWriteback_frame {meter : Nat} : OnlyOut [.time, .met, .arch] s (execContextWriteback dt meter s) :=
  .ite (.next (writeBack_only (by decide) (ticked_only (by decide)))) (.ticked (by decide))

theorem execBurstCreditUpdate_frame : OnlyOut [.time, .met, .sess] s (execBurstCreditUpdate dt s) :=
  .ite (.next (onSess_only (by decide) (ticked_only (by decide)))) (.ticked (by decide))

/-- Each command of the three families keeps the blocks that `touches` does not list for it. -/
theorem exec_touches_of_field {c : Instr} (hc : [Family.link, .plc, .meter].contains (family c) = true) :
    OnlyOut (touches c) s (exec c s) := by
  cases c with
  | controlWordCommit => exact execControlWordCommit_frame
  | feCalibrationDone => exact execFeCalibrationDone_frame
  | feRetune => exact execFeRetune_frame
  | laneFrameReceive => exact execLaneFrameReceive_frame
  | txRelease => exact execTxRelease_frame
  | txEnd => exact execTxEnd_frame
  | wurFrame => exact execWurFrame_frame
  | feSet => exact runCmd_frame rfl fun _ _ => feSet_only rfl
  | laneSet => exact runCmd_frame rfl fun _ _ => laneSet_only rfl
  | rfStatus => exact runCmd_frame rfl fun _ _ => rfStatus_only rfl
  | wurSet => exact runCmd_frame rfl fun _ _ => wurSet_only rfl
  | wakeSend => exact runCmd_frame rfl fun _ _ => wakeSend_only rfl
  | macFrameAccept => exact execMacFrameAccept_frame
  | checkinEvaluate => exact execCheckinEvaluate_frame
  | joinTimeout => exact execJoinTimeout_frame
  | ackWaitExpire => exact execAckWaitExpire_frame
  | nbrRead => exact runCmd_frame rfl fun _ _ => nbrRead_only rfl
  | lprofSet => exact runCmd_frame rfl fun _ _ => lprofSet_only rfl
  | nbrPin => exact runCmd_frame rfl fun _ _ => nbrPin_only rfl
  | linkCounters => exact runCmd_frame rfl fun _ _ => linkCounters_only rfl
  | agcOverload => exact execAgcOverload_frame
  | seamChannelDown => exact execSeamChannelDown_frame
  | plcModeApply => exact execPlcModeApply_frame
  | plcRetrainEnd => exact execPlcRetrainEnd_frame
  | plcDriverMute => exact execPlcDriverMute_frame
  | plcNoiseUpdate => exact execPlcNoiseUpdate_frame
  | plcTxDue => exact execPlcTxDue_frame
  | plcFrameStart => exact execPlcFrameStart_frame
  | plcNoWindow => exact execPlcNoWindow_frame
  | plcFrameReceive => exact execPlcFrameReceive_frame
  | plcThermal => exact execPlcThermal_frame
  | plcNodeAge => exact execPlcNodeAge_frame
  | plcSet => exact runCmd_frame rfl fun _ _ => plcSet_only rfl
  | plcStatus => exact runCmd_frame rfl fun _ _ => plcStatus_only rfl
  | noiseRead => exact runCmd_frame rfl fun _ _ => noiseRead_only rfl
  | zcRead => exact runCmd_frame rfl fun _ _ => zcRead_only rfl
  | plcFrameEnd => exact execPlcFrameEnd_frame
  | plcThermalRecover => exact execPlcThermalRecover_frame
  | firmwareUnpack => exact execFirmwareUnpack_frame
  | sessionStage => exact execSessionStage_frame
  | ecdsaVerify => exact execEcdsaVerify_frame
  | datablockTimeout => exact execDatablockTimeout_frame
  | prevKeyExpire => exact execPrevKeyExpire_frame
  | normalise => exact execNormalise_frame
  | pairHoldTimeout => exact execPairHoldTimeout_frame
  | contextWriteback => exact execContextWriteback_frame
  | burstCreditUpdate => exact execBurstCreditUpdate_frame
  | meterAdmit => exact runCmd_frame rfl fun _ _ => meterAdmit_only rfl
  | meterRetire => exact runCmd_frame rfl fun _ _ => meterRetire_only rfl
  | meterRead => exact runCmd_frame rfl fun _ _ => meterRead_only rfl
  | parseSet => exact runCmd_frame rfl fun _ _ => parseSet_only rfl
  | ingestCounters => exact runCmd_frame rfl fun _ _ => ingestCounters_only rfl
  | meterFind => exact runCmd_frame rfl fun _ _ => meterFind_only rfl
  | _ => exact absurd hc Bool.false_ne_true

end Frames

/-- Settles O8: each command changes at most the blocks of the operations it is made of, and `touches` lists them. -/
theorem framesOfTheField : Obligations.FramesOfTheField :=
  fun _ _ t hf he => exec_touches_of_field (List.contains_iff_mem.mpr hf) t he

end Sys2Proof.Machine
end

section
/-! PROOFS. The statements of the radio front ends: front ends, lanes and the wake-up receiver. -/

namespace Sys2Proof.Machine

open Host (Outcome)

/-- A command whose first check does not hold goes on. -/
theorem unless_next {c : Prop} [Decidable c] {o p : Outcome State Fault Refusal} {post : State → Prop} (hc : ¬ c)
    (h : ∃ r, o = .next r ∧ post r) : ∃ r, (if c then p else o) = .next r ∧ post r := by rwa [if_neg hc]

/-! ### The settings posted (R262, R267–R270, R290, R296, R297, R299) -/

/-- While no shutdown or power-up of a function is in progress, a request is done at once (R812, R813). -/
theorem armRequest_idle {fn : ArmFn} {enable : Bool} {req : ArmReq} {now : State → State} {s : State} (h : transitOf s fn = none) :
    armRequest fn enable req now s = (now s, answer .ok) := by
  unfold armRequest
  rw [h]

/-- The front end that the payload of FE_SET spells (R296). -/
def feCfgOf (p : List Byte) : FeCfg :=
  { enable := fld p 1 1 = 1, width := fld p 2 1, blankPeer := hasBit (fld p 3 1) 0, centerHz := fld p 4 4, txPower := fldI p 8 2,
    paLead := fld p 10 1, paLag := fld p 11 1, cca := fldI p 12 1 }

/-- A front end within its ranges under which its enabled lanes stay valid is posted (R262, R268, R296). -/
theorem feSet_accepted {tk : Taken} {u : State} (hn : fld tk.payload 0 1 ≤ 1) (hen : fld tk.payload 1 1 ≤ 1)
    (hblank : fld tk.payload 3 1 ≤ 1) (hok : feOk (feCfgOf tk.payload) = true) (hidle : transitOf u (.fe (fld tk.payload 0 1)) = none)
    (hlanes : (lanesOn (setFe (fld tk.payload 0 1) (feCfgOf tk.payload) (shadowCfg u))).any (fun q => q.2.fe == fld tk.payload 0 1 &&
      !laneValid (setFe (fld tk.payload 0 1) (feCfgOf tk.payload) (shadowCfg u)) q.2) = false) :
    feSet tk u = (postWord (.fe (fld tk.payload 0 1) (feCfgOf tk.payload)) u, answer .ok) := by
  have hpasses : ¬ (1 < fld tk.payload 0 1 || 1 < fld tk.payload 1 1 || 1 < fld tk.payload 3 1 || !feOk (feCfgOf tk.payload) ||
      (lanesOn (setFe (fld tk.payload 0 1) (feCfgOf tk.payload) (shadowCfg u))).any (fun q => q.2.fe == fld tk.payload 0 1 &&
        !laneValid (setFe (fld tk.payload 0 1) (feCfgOf tk.payload) (shadowCfg u)) q.2)) = true := by
    rw [hok, hlanes]
    simp only [Bool.not_true, Bool.or_false, Bool.or_eq_true, decide_eq_true_eq]
    omega
  exact (if_neg hpasses).trans (armRequest_idle hidle)

/-- The lane that the payload of LANE_SET spells (R297). -/
def laneCfgOf (p : List Byte) : LaneCfg :=
  { enable := fld p 1 1 = 1, fe := fld p 2 1, phy := fld p 3 1, offset := fldI p 4 4, chanId := fld p 8 2 }

/-- A lane within its ranges is posted: one that is disabled, or the only one enabled, within its front end's capture
(R267–R270, R297). -/
theorem laneSet_accepted {tk : Taken} {u : State} (hn : fld tk.payload 0 1 ≤ 63) (hen : fld tk.payload 1 1 ≤ 1)
    (hfe : fld tk.payload 2 1 ≤ 1) (hphy : fld tk.payload 3 1 = 0 ∨ (phyWidth (fld tk.payload 3 1)).isSome = true)
    (hidle : transitOf u (.lane (fld tk.payload 0 1)) = none)
    (honly : (laneCfgOf tk.payload).enable = false ∨ laneValid (shadowCfg u) (laneCfgOf tk.payload) = true ∧
      (lanesOn (shadowCfg u)).filter (fun q => q.1 != fld tk.payload 0 1) = []) :
    laneSet tk u = (postWord (.lane (fld tk.payload 0 1) (laneCfgOf tk.payload)) u, answer .ok) := by
  have hranges : ¬ (63 < fld tk.payload 0 1 || 1 < fld tk.payload 1 1 || 1 < fld tk.payload 2 1 ||
      (fld tk.payload 3 1 ≠ 0 && (phyWidth (fld tk.payload 3 1)).isNone) ||
      ((laneCfgOf tk.payload).enable && !laneValid (shadowCfg u) (laneCfgOf tk.payload))) = true := by
    have hknown : (decide (fld tk.payload 3 1 ≠ 0) && (phyWidth (fld tk.payload 3 1)).isNone) = false := by
      rcases hphy with hzero | hsome
      · simp [hzero]
      · simp [hsome]
    have hcapture : ((laneCfgOf tk.payload).enable && !laneValid (shadowCfg u) (laneCfgOf tk.payload)) = false := by
      rcases honly with hoff | ⟨hvalid, -⟩
      · rw [hoff, Bool.false_and]
      · rw [hvalid, Bool.not_true, Bool.and_false]
    rw [hknown, hcapture]
    simp only [Bool.or_false, Bool.or_eq_true, decide_eq_true_eq]
    omega
  refine (if_neg hranges).trans ((if_neg ?twin).trans ((if_neg ?ofdm).trans (armRequest_idle hidle)))
  case twin =>
    rcases honly with hoff | ⟨-, hothers⟩
    · simp [show decide (fld tk.payload 1 1 = 1) = false from hoff]
    · simp [hothers]
  case ofdm =>
    rcases honly with hoff | ⟨-, hothers⟩
    · simp [show decide (fld tk.payload 1 1 = 1) = false from hoff]
    · simp [hothers]

/-- The wake-up receiver that the payload of WUR_SET spells (R299). -/
def wurCfgOf (p : List Byte) : WurCfg :=
  { enable := fld p 0 1 = 1, fast := fld p 1 1 = 1, broadcast := hasBit (fld p 2 1) 0, freqHz := fld p 4 4,
    addrs := ((List.range 4).map fun i => fld p (8 + 2 * i) 2).filter (· != 0) }

/-- A wake-up receiver within its ranges is posted (R290, R299). -/
theorem wurSet_accepted {tk : Taken} {u : State} (hen : fld tk.payload 0 1 ≤ 1) (hfast : fld tk.payload 1 1 ≤ 1)
    (hbc : fld tk.payload 2 1 ≤ 1) (hfreq : wurFreqOk (fld tk.payload 4 4) = true)
    (haddrs : ((List.range 4).map fun i => fld tk.payload (8 + 2 * i) 2).contains 0xFFFF = false) (hidle : transitOf u .wur = none) :
    wurSet tk u = (postWord (.wur (wurCfgOf tk.payload)) u, answer .ok) := by
  refine Eq.trans (if_neg ?_) (armRequest_idle hidle)
  rw [hfreq, haddrs]
  simp only [Bool.not_true, Bool.or_false, Bool.or_eq_true, decide_eq_true_eq]
  omega

/-! ### Frames received (R263, R272–R277, R284) -/

/-- A lane is enabled, follows the frame's carrier, and its front end hears from the frame's start (R263, R264, R272). -/
structure HeardByLane (f : RadioFrame) (u : State) : Prop where
  number : f.lane < 64
  enabled : (laneIn u.cfg.act f.lane).enable = true
  follows : carrierFollowed (laneIn u.cfg.act f.lane).phy f.freqErr = true
  on : feOn u (laneIn u.cfg.act f.lane).fe = true
  ready : (feSt u (laneIn u.cfg.act f.lane).fe).ready = true
  tuned : (feSt u (laneIn u.cfg.act f.lane).fe).retuneEnd ≤ u.rc - ofUs f.durationUs

/-- The frame with its descriptor (R275). -/
def described (f : RadioFrame) (u : State) : RadioFrame :=
  { frameAs (laneIn u.cfg.act f.lane).phy f with
    fe := (laneIn u.cfg.act f.lane).fe, phy := (laneIn u.cfg.act f.lane).phy, chanId := (laneIn u.cfg.act f.lane).chanId,
    key := keyOfRc u (u.rc - ofUs f.durationUs), tai := reportedAt u (u.rc - ofUs f.durationUs) / nsUnit,
    virtualMains := flaggedCycle u (keyOfRc u (u.rc - ofUs f.durationUs)) }

/-- The front end counts a frame by its checksum (R298). -/
def countFrame (f : RadioFrame) (u : State) : State :=
  onFe (laneIn u.cfg.act f.lane).fe
    (fun e => if (described f u).fcsOk then { e with framesOk := inc32 e.framesOk } else { e with framesBad := inc32 e.framesBad }) u

/-- A frame that a lane hears is counted as blanked, goes to Q0, or is refused by a full Q0 (R275–R277, R284). -/
theorem exec_laneFrameReceive {dt : Nat} {f : RadioFrame} {s u : State} (hu : tick dt s = u) (h : HeardByLane f u) :
    exec (.laneFrameReceive dt f) s =
      if blankedNow u (laneIn u.cfg.act f.lane).fe f.durationUs then
        .next (onFe (laneIn u.cfg.act f.lane).fe (fun x => { x with blanked := inc32 x.blanked }) u)
      else if u.rad.q0.length < Config.ringDepth 0 then
        .next (tapFrame (described f u) ((countFrame f u).onRad fun r => { r with q0 := r.q0 ++ [described f u] }))
      else
        .next (setSticky 0x04C 0x400 (onFe (laneIn u.cfg.act f.lane).fe (fun e => { e with droppedFull := inc32 e.droppedFull })
          (countRefused 0 ((countFrame f u).onRad fun r => { r with laneDrops := tbump r.laneDrops f.lane })))) := by
  subst hu
  obtain ⟨hnumber, henabled, hfollows, hon, hready, htuned⟩ := h
  refine if_neg ?_
  simp only [henabled, hfollows, hon, hready, Bool.not_true, Bool.or_false, Bool.or_eq_true, decide_eq_true_eq]
  omega

/-! ### The wake-up receiver and the counters of a front end (R284, R289–R291, R298) -/

/-- The answer of RF_STATUS, in which the noise floor is a measured value (R298). -/
def rfReport (n noise : Nat) (s : State) : List Byte :=
  leBytes 4 (feSt s n).framesOk ++ leBytes 4 (feSt s n).framesBad ++ leBytes 4 (feSt s n).droppedFull ++ leBytes 4 (feSt s n).blanked
    ++ leBytes 4 (feSt s n).txSent ++ leBytes 4 (feSt s n).txDropped
    ++ leBytes 2 ((s.cfg.act.subBands.map fun b => bandSum s b * 10000 / ofS 3600).foldl max 0) ++ leBytes 2 noise
    ++ List.replicate 4 0

theorem rfStatus_answers {tk : Taken} {u : State} (h : fld tk.payload 0 1 ≤ 1) :
    rfStatus tk u = (u.takeFree.2, okWith (rfReport (fld tk.payload 0 1) u.takeFree.1 u.takeFree.2)) := if_neg (by omega)

theorem rfReport_length (n noise : Nat) (s : State) : (rfReport n noise s).length = 32 := by
  simp [rfReport]

theorem rfReport_shows (n noise : Nat) (s : State) : Shows (rfReport n noise s) 0 4 (feSt s n).framesOk ∧
    Shows (rfReport n noise s) 4 4 (feSt s n).framesBad ∧ Shows (rfReport n noise s) 8 4 (feSt s n).droppedFull ∧
    Shows (rfReport n noise s) 12 4 (feSt s n).blanked ∧ Shows (rfReport n noise s) 16 4 (feSt s n).txSent ∧
    Shows (rfReport n noise s) 20 4 (feSt s n).txDropped := by
  simp [rfReport]

/-- Settles O32: each command passes its checks, and its effect is that of the operation it is made of. That FE_SET, LANE_SET and WUR_SET
post words which commit later is the model's (log entry 407). -/
theorem radioFrontEnds : Obligations.RadioFrontEnds := by
  unfold Obligations.RadioFrontEnds
  refine ⟨fun c => ?frontEnd, ?laneOff, fun c => ?laneOn, ?receiver, fun n at_ => ?calibrated, fun n inFrame at_ c => ?retuned,
    fun n => ?overload, fun f => ?blanked, fun f => ?queued, fun f => ?refused, fun addr cls => ?wakeFrame, ?status⟩
  case frontEnd =>
    refine Serves.of (fun _ _ _ => rfl) fun _ _ _ _ ⟨hn, hen, hblank, hok, hidle, hlanes, hc⟩ => ?_
    subst hc
    exact ⟨_, _, feSet_accepted hn hen hblank hok hidle hlanes, ⟨rfl, rfl⟩, .inl (by simp [answer])⟩
  case laneOff =>
    refine Serves.of (fun _ _ _ => rfl) fun _ tk _ _ ⟨hn, hoff, hfe, hphy, hidle⟩ => ?_
    have henable : (laneCfgOf tk.payload).enable = false := by simp [laneCfgOf, hoff]
    refine ⟨_, _, laneSet_accepted hn (by omega) hfe hphy hidle (.inl henable), ⟨rfl, ?_⟩, .inl (by simp [answer])⟩
    rw [← henable]
    rfl
  case laneOn =>
    refine Serves.of (fun _ _ _ => rfl) fun _ tk _ _ ⟨hidle, hn, hon, hfe, hphy, hc, hvalid, hothers⟩ => ?_
    have hcfg : c = laneCfgOf tk.payload := by simp [hc, laneCfgOf, hon]
    subst hcfg
    exact ⟨_, _, laneSet_accepted hn (by omega) hfe (.inr hphy) hidle (.inr ⟨hvalid, hothers⟩), ⟨rfl, rfl⟩,
      .inl (by simp [answer])⟩
  case receiver =>
    exact Serves.of (fun _ _ _ => rfl) fun _ _ _ _ ⟨hen, hfast, hbc, hfreq, haddrs, hidle⟩ =>
      ⟨_, _, wurSet_accepted hen hfast hbc hfreq haddrs hidle, ⟨rfl, rfl⟩, .inl (by simp [answer])⟩
  case calibrated =>
    rintro dt s ⟨hcal, hon, hend⟩
    show ∃ t, execFeCalibrationDone dt n s = .next t ∧ _
    unfold execFeCalibrationDone
    dsimp only
    rw [hcal]
    exact next_if (by simpa [hon] using hend) rfl
  case retuned =>
    rintro dt s ⟨hretune, hdue⟩
    show ∃ t, execFeRetune dt n inFrame s = .next t ∧ _
    unfold execFeRetune
    dsimp only
    rw [hretune]
    exact next_if (by simpa using hdue) ⟨rfl, rfl, onFe_only (by decide) (commitWord_only (by decide) (Only.refl _ _))⟩
  case overload => exact fun dt s hon => next_if hon rfl
  case blanked =>
    rintro dt s ⟨hnumber, henabled, hfollows, hon, hready, htuned, hblanked⟩
    rw [exec_laneFrameReceive rfl ⟨hnumber, henabled, hfollows, hon, hready, htuned⟩]
    exact next_if hblanked rfl
  case queued =>
    rintro dt s ⟨hnumber, henabled, hfollows, hon, hready, htuned, hclear, hroom⟩
    rw [exec_laneFrameReceive rfl ⟨hnumber, henabled, hfollows, hon, hready, htuned⟩]
    have htap : ∀ z, Only [.hosts] z (tapFrame (described f (tick dt s)) z) := fun z => tapFrame_only (by decide) (Only.refl _ z)
    refine unless_next (Bool.eq_false_iff.mp hclear) (next_if hroom ⟨congrArg RadSt.q0 (htap _ .rad (by decide)), ?_⟩)
    exact tapFrame_only (by decide) (onRad_only (by decide) (onFe_only (by decide) (Only.refl _ _)))
  case refused =>
    rintro dt s ⟨hnumber, henabled, hfollows, hon, hready, htuned, hclear, hfull⟩
    rw [exec_laneFrameReceive rfl ⟨hnumber, henabled, hfollows, hon, hready, htuned⟩]
    refine unless_next (Bool.eq_false_iff.mp hclear) (next_unless (Nat.not_lt.mpr hfull) ⟨rfl, rfl, ?_⟩)
    exact setSticky_only (by decide) (onFe_only (by decide) (countRefused_only (by decide) (onRad_only (by decide)
      (onFe_only (by decide) (Only.refl _ _)))))
  case wakeFrame =>
    rintro dt s ⟨hon, haddr, hmatch, hoff, hquiet⟩
    have hlogged : ∀ z, Logged .wurHit 0x42 (leBytes 2 addr ++ leBytes 1 cls) (tick dt s)
        ((raise .wurHit 0x42 (leBytes 2 addr ++ leBytes 1 cls) (setSticky 0x04C 0x20 (tick dt s))).onPwr z) := fun _ =>
      Logged.of_q10 (logged_raise (z := setSticky 0x04C 0x20 (tick dt s)) rfl rfl) rfl
    refine next_if ?_ ⟨rfl, hlogged _, ?_⟩
    · simpa [-tick_cfg, hon, haddr, hquiet, Nat.not_lt.mpr hoff] using hmatch
    · exact onPwr_only (by decide) (raise_only (by decide) (setSticky_only (by decide) (Only.refl _ _)))
  case status =>
    refine Serves.of (fun _ _ _ => rfl) fun _ _ _ _ hn => ⟨_, _, rfStatus_answers hn, ?_, .inl (by simp [okWith])⟩
    obtain ⟨hok, hbad, hfull, hblank, hsent, hdropped⟩ := rfReport_shows _ _ _
    exact ⟨rfl, rfReport_length _ _ _, hok, hbad, hfull, hblank, hsent, hdropped, st_takeFree_only (by decide) (Only.refl _ _)⟩

end Sys2Proof.Machine
end

section
/-! PROOFS. The statements of the radio front ends: a transmission placed, released and ended. -/

namespace Sys2Proof.Machine

open Host (Outcome)

/-! ### The state of a front end (R262, R298) -/

section FrontEnd
variable {n k : Nat} {f : FeSt → FeSt} {s : State}

@[simp] theorem onFe_fes_length : (onFe n f s).rad.fes.length = s.rad.fes.length := modAt_length

theorem feSt_onFe_self (h : n < s.rad.fes.length) : feSt (onFe n f s) n = f (feSt s n) := by
  simp only [feSt, onFe, State.onRad_rad, List.getD_eq_getElem?_getD, modAt_get?, if_true, List.getElem?_eq_getElem h,
    Option.map_some, Option.getD_some]

theorem feSt_onFe_ne (h : k ≠ n) : feSt (onFe n f s) k = feSt s k := by
  simp [feSt, onFe, List.getD_eq_getElem?_getD, modAt_get?, h]

theorem feSt_of_fes {t : State} (h : t.rad.fes = s.rad.fes) (n : Nat) : feSt t n = feSt s n := by
  unfold feSt
  rw [h]

end FrontEnd

/-! ### A wake sequence placed (R86, R279, R292, R300) -/

/-- An entry of class 7 is placed while its table has room; it is not mirrored (R86, R90). -/
theorem place_class7 {e : SchedEntry} {s : State} (hc : e.cls = 7) (hq : quotaUsed s 7 e.owner < 2560) :
    place e s = some (s.onSched fun c =>
      { c with entries := c.entries ++ [{ e with seq := s.sched.nextSeq }], nextSeq := c.nextSeq + 1 }) := by
  have hroom : ¬ (if e.cls ≤ 6 then 512 else if e.cls = 7 then 2560 else 256) ≤ quotaUsed s e.cls e.owner := by
    rw [hc]
    simpa using hq
  unfold place
  dsimp only
  rw [if_neg hroom, hc]
  rfl

/-- A frame 16,384 pt ahead or more has its entry placed, whether Q7 takes it or not (R279, R280). -/
theorem placeRadio_ahead {n key : Nat} {f : TxFrame} {s : State} (hk : s.key + 16384 ≤ key) (hq : quotaUsed s 7 0 < 2560) :
    ∃ t, placeRadio n key f s = .ok t ∧ t.sched.entries = s.sched.entries ++
      [{ cls := 7, sub := n, action := .radioTx n f.id, key := key, seq := s.sched.nextSeq }] := by
  unfold placeRadio
  rw [if_neg (by omega), place_class7 rfl hq]
  dsimp only
  split
  · exact ⟨_, rfl, rfl⟩
  · exact ⟨_, rfl, rfl⟩

/-- A wake sequence 16,384 pt ahead or more is placed under the next frame number, at its key (R292). -/
theorem placeWake_ahead {n freqHz addr rep gapUs rdv : Nat} {fast : Bool} {s : State}
    (hk : s.key + 16384 ≤ wakeKey s fast rep gapUs rdv) (hq : quotaUsed s 7 0 < 2560) :
    ∃ t, placeWake n freqHz addr rep gapUs rdv fast s = .ok (wakeKey s fast rep gapUs rdv, t) ∧
      t.sched.entries = s.sched.entries ++
        [{ cls := 7, sub := n, action := .radioTx n s.rad.nextFrame, key := wakeKey s fast rep gapUs rdv, seq := s.sched.nextSeq }] := by
  have hnew : (newFrame s).2.key = s.key := key_of_clock rfl rfl
  obtain ⟨t, ht, hentries⟩ := placeRadio_ahead (n := n) (key := wakeKey s fast rep gapUs rdv)
    (f := wakeTx (newFrame s).1 freqHz addr rep fast) (s := (newFrame s).2) (by rwa [hnew]) hq
  refine ⟨t, ?_, hentries⟩
  unfold placeWake
  rw [ht]
  rfl

/-- WAKE_SEND within its ranges answers with the key of its sequence (R300). -/
theorem wakeSend_accepted {tk : Taken} {u : State} (hfe : fld tk.payload 0 1 ≤ 1) (hrate : fld tk.payload 1 1 = 1)
    (hrep : fld tk.payload 2 1 ≠ 0) (haddr : fld tk.payload 8 2 ≠ 0) (hfreq : wurFreqOk (fld tk.payload 4 4) = true)
    {t : State} {key : Nat} (hplaced : placeWake (fld tk.payload 0 1) (fld tk.payload 4 4) (fld tk.payload 8 2) (fld tk.payload 2 1)
      (fld tk.payload 10 2) (fld tk.payload 12 8) true u = .ok (key, t)) : wakeSend tk u = (t, okWith (leBytes 8 key)) := by
  have hpasses : ¬ (1 < fld tk.payload 0 1 || 1 < fld tk.payload 1 1 || fld tk.payload 2 1 = 0 || fld tk.payload 8 2 = 0 ||
      !wurFreqOk (fld tk.payload 4 4)) = true := by
    simp [hrate, hrep, haddr, hfreq, hfe]
  unfold wakeSend
  dsimp only
  rw [if_neg hpasses, hrate, beq_self_eq_true, hplaced]

/-! ### A released entry (R278–R282, R288) -/

/-- An entry has left the table, and its frame Q7 (R279). -/
def unqueue (seq id : Nat) (s : State) : State :=
  (dropEntry seq s).onRad fun r => { r with q7 := r.q7.filter fun f => f.id != id }

section Unqueue
variable (seq id : Nat) (s : State)

theorem dropEntry_frame : Only [.hosts, .sched, .evt, .pair] s (dropEntry seq s) := dropEntry_only (by decide) (Only.refl _ s)

theorem unqueue_frame : Only [.hosts, .sched, .evt, .pair, .rad] s (unqueue seq id s) :=
  onRad_only (by decide) (dropEntry_only (by decide) (Only.refl _ s))

theorem unqueue_rad : (unqueue seq id s).rad = { s.rad with q7 := s.rad.q7.filter fun f => f.id != id } := by
  unfold unqueue
  rw [State.onRad_rad, dropEntry_frame seq s .rad (by decide)]

theorem unqueue_fes : (unqueue seq id s).rad.fes = s.rad.fes := by rw [unqueue_rad]

theorem unqueue_q7 : (unqueue seq id s).rad.q7 = s.rad.q7.filter fun f => f.id != id := by rw [unqueue_rad]

theorem unqueue_sched : (unqueue seq id s).sched = { s.sched with entries := s.sched.entries.filter fun x => !(x.seq == seq) } :=
  dropEntries_sched _ s

theorem cfg_unqueue : (unqueue seq id s).cfg = s.cfg := unqueue_frame seq id s .cfg (by decide)
theorem pwr_unqueue : (unqueue seq id s).pwr = s.pwr := unqueue_frame seq id s .pwr (by decide)

theorem key_unqueue : (unqueue seq id s).key = s.key :=
  key_of_clock (unqueue_frame seq id s .mains (by decide)) (unqueue_frame seq id s .time (by decide))

theorem rcOfKey_unqueue (k : Nat) : rcOfKey (unqueue seq id s) k = rcOfKey s k := by
  have htime : (unqueue seq id s).time = s.time := unqueue_frame seq id s .time (by decide)
  have hmains : (unqueue seq id s).mains = s.mains := unqueue_frame seq id s .mains (by decide)
  unfold rcOfKey cycleLen nominalHz State.rc
  rw [key_unqueue, htime, hmains]

theorem mayTransmit_unqueue : mayTransmit (unqueue seq id s) = mayTransmit s := by
  have hpair : (unqueue seq id s).pair.state = s.pair.state := dropEntries_pairState _ s
  unfold mayTransmit
  rw [cfg_unqueue, pwr_unqueue, hpair, unqueue_sched]

theorem feOn_unqueue (n : Nat) : feOn (unqueue seq id s) n = feOn s n := by
  unfold feOn radioOn itemsRun stageAlive fePowered
  rw [cfg_unqueue, pwr_unqueue]

theorem feSt_unqueue (n : Nat) : feSt (unqueue seq id s) n = feSt s n := feSt_of_fes (unqueue_fes seq id s) n

end Unqueue

/-- The next radio entry leaves the table before Hem start and goes to its front end with its frame, its key not yet passed (R279, R280). -/
theorem exec_txRelease {dt n id : Nat} {cca : Int} {s u : State} {e : SchedEntry} {f : TxFrame} (hu : tick dt s = u)
    (hnext : nextRelease u = some e) (ha : e.action = .radioTx n id) (hhem : u.sched.hemKey = none)
    (hf : u.rad.q7.find? (fun f => f.id == id) = some f) (hkey : u.key ≤ e.key) :
    exec (.txRelease dt cca) s = .next (releaseFrame n e.key cca f (unqueue e.seq id u)) := by
  subst hu
  have hq7 : (dropEntry e.seq (tick dt s)).rad = (tick dt s).rad := dropEntry_frame e.seq (tick dt s) .rad (by decide)
  have hlate : ¬ e.key < (unqueue e.seq id (tick dt s)).key := by
    rw [key_unqueue]
    omega
  have hstarted : ¬ (unqueue e.seq id (tick dt s)).sched.hemKey.isSome = true := by
    rw [unqueue_sched]
    show ¬ (tick dt s).sched.hemKey.isSome = true
    rw [hhem]
    exact Bool.false_ne_true
  show execTxRelease dt cca s = _
  unfold execTxRelease
  dsimp only
  rw [hnext]
  dsimp only
  rw [ha]
  dsimp only
  rw [hq7, hf]
  exact (if_neg hstarted).trans (if_neg hlate)

/-- A transmission starts at once where none runs, or waits behind it (R281). -/
def startTx (run : RunTx) (e : FeSt) : FeSt :=
  match e.tx with
  | none => { e with dutyHold := false, tx := some run }
  | some _ => { e with dutyHold := false, txNext := e.txNext ++ [run] }

theorem startTx_idle {run : RunTx} {e : FeSt} (h : e.tx = none) : startTx run e = { e with dutyHold := false, tx := some run } := by
  unfold startTx
  rw [h]

/-- The transmission of a released frame: PA_EN is asserted at its key less the lead (R279, R284). -/
def runOf (n key : Nat) (f : TxFrame) (s : State) : RunTx :=
  { frame := f, key := key, onRc := rcOfKey s key - ofUs (feIn s.cfg.act n).paLead,
    offRc := rcOfKey s key - ofUs (feIn s.cfg.act n).paLead + airTime (feIn s.cfg.act n) f }

theorem runOf_unqueue (n key : Nat) (f : TxFrame) (seq id : Nat) (s : State) : runOf n key f (unqueue seq id s) = runOf n key f s := by
  unfold runOf
  rw [rcOfKey_unqueue, cfg_unqueue]

/-- A frame whose conditions hold is scheduled after those before it, with no measurement and no duty budget (R278, R281, R282, R288). -/
theorem releaseFrame_starts {n key : Nat} {cca : Int} {f : TxFrame} {s : State} (hmay : mayTransmit s = true) (hon : feOn s n = true)
    (hoff : lastOff (feSt s n) ≤ (runOf n key f s).onRc) (hcca : (feIn s.cfg.act n).cca = 0) (hbands : s.cfg.act.subBands = []) :
    releaseFrame n key cca f s = onFe n (startTx (runOf n key f s)) s := by
  have hduty : overDuty s f (airTime (feIn s.cfg.act n) f) = none := by
    unfold overDuty
    rw [hbands]
    rfl
  have hlead : ¬ rcOfKey s key - ofUs (feIn s.cfg.act n).paLead < lastOff (feSt s n) := Nat.not_lt.mpr hoff
  unfold releaseFrame
  dsimp only
  rw [if_neg (by simp [hmay, hon]), if_neg hlead, if_neg (by simp [hcca]), hduty]
  rfl

/-- The frame of a front end that is off is dropped and counted (R278; log entry 64). -/
theorem releaseFrame_off {n key : Nat} {cca : Int} {f : TxFrame} {s : State} (hoff : feOn s n = false) (huse : f.use = 0) :
    releaseFrame n key cca f s = frameDropped f.id 0 (onFe n (fun e => { e with txDropped := inc32 e.txDropped }) s) := by
  unfold releaseFrame
  dsimp only
  rw [if_pos (by simp [hoff]), huse]
  rfl

/-- A frame that no downlink waits for is dropped without a trace. -/
theorem frameDropped_alone {id : Nat} {s : State} (h : s.link.downs.find? (fun d => d.id == id) = none) : frameDropped id 0 s = s := by
  unfold frameDropped
  rw [if_neg (by decide), if_neg (by decide), h]

/-! ### The end of a transmission (R281, R284, R287) -/

theorem endBlank_frame (n off : Nat) (s : State) : Only [.rad] s (endBlank n off s) := endBlank_only (by decide) (Only.refl _ s)

/-- The end of a blanking changes nothing of the radio subsystem but its front ends (R284). -/
theorem endBlank_rad (n off : Nat) (s : State) : (endBlank n off s).rad = { s.rad with fes := (endBlank n off s).rad.fes } := by
  unfold endBlank
  dsimp only
  split
  · rfl
  · rfl

/-- The blanking of the front end's own lanes ends (R284). -/
theorem feSt_endBlank {n off : Nat} {s : State} (hn : n < 2) (hl : s.rad.fes.length = 2) :
    feSt (endBlank n off s) n = { feSt s n with blankEnd := off } := by
  have hown : feSt (onFe n (fun f => { f with blankEnd := off }) s) n = { feSt s n with blankEnd := off } := feSt_onFe_self (by omega)
  unfold endBlank
  dsimp only
  split
  · rw [feSt_onFe_ne (by omega), hown]
  · exact hown

theorem endBlank_fes_length (n off : Nat) (s : State) : (endBlank n off s).rad.fes.length = s.rad.fes.length := by
  unfold endBlank
  dsimp only
  split
  · rw [onFe_fes_length, onFe_fes_length]
  · rw [onFe_fes_length]

/-- The transmission that runs has ended, and the next part follows it (R281). -/
def endTx (off : Nat) (f : FeSt) : FeSt :=
  { f with tx := f.txNext.head?, txNext := f.txNext.drop 1, paOff := off, txSent := inc32 f.txSent }

/-- A transmission has ended and counts as sent, its airtime added (R281, R284, R287). -/
def endedTx (n : Nat) (x : RunTx) (s : State) : State :=
  ((onFe n (endTx x.offRc) (addAir x x.offRc (endBlank n x.offRc s))).onRad fun r =>
    { r with sent := (n, x.key, x.frame) :: r.sent }).onHosts fun h => { h with txFrames := inc32 h.txFrames }

/-- The acknowledgement of a downlink frame is awaited from its end (R329). -/
def awaitAck (n : Nat) (x : RunTx) (s : State) : State := s.onLink fun l =>
  { l with downs := l.downs.map fun d =>
             if d.id == x.frame.id then { d with endRc := some (x.offRc - ofUs (feIn s.cfg.act n).paLag) } else d }

/-- The end of a frame that is neither an acknowledgement nor a multicast. -/
theorem exec_txEnd {dt n : Nat} {s u : State} {x : RunTx} (hu : tick dt s = u) (htx : (feSt u n).tx = some x) (hoff : x.offRc ≤ u.rc)
    (huse : x.frame.use = 0) : exec (.txEnd dt n) s = .next (awaitAck n x (endedTx n x u)) := by
  subst hu
  show execTxEnd dt n s = _
  unfold execTxEnd
  dsimp only
  rw [htx]
  dsimp only
  rw [if_pos hoff, huse]
  rfl

theorem endedTx_frame (n : Nat) (x : RunTx) (s : State) : Only [.rad, .hosts] s (endedTx n x s) :=
  onHosts_only (by decide) (onRad_only (by decide) (onFe_only (by decide) (addAir_only (by decide) (endBlank_only (by decide)
    (Only.refl _ s)))))

theorem feSt_endedTx {n : Nat} {x : RunTx} {s : State} (hn : n < 2) (hl : s.rad.fes.length = 2) :
    feSt (endedTx n x s) n = endTx x.offRc { feSt s n with blankEnd := x.offRc } := by
  have hlen : n < (addAir x x.offRc (endBlank n x.offRc s)).rad.fes.length := by
    show n < (endBlank n x.offRc s).rad.fes.length
    rw [endBlank_fes_length]
    omega
  show feSt (onFe n (endTx x.offRc) (addAir x x.offRc (endBlank n x.offRc s))) n = _
  rw [feSt_onFe_self hlen]
  exact congrArg _ (feSt_endBlank hn hl)

theorem endedTx_sent (n : Nat) (x : RunTx) (s : State) : (endedTx n x s).rad.sent = (n, x.key, x.frame) :: s.rad.sent := by
  show (n, x.key, x.frame) :: (endBlank n x.offRc s).rad.sent = _
  rw [endBlank_rad]

theorem endedTx_txFrames (n : Nat) (x : RunTx) (s : State) : (endedTx n x s).hosts.txFrames = inc32 s.hosts.txFrames :=
  congrArg (fun h : HostsSt => inc32 h.txFrames) (endBlank_frame n x.offRc s .hosts (by decide))

/-- Settles O33: each command passes its checks, and its effect is that of the operation it is made of. The rounding of a wake sequence's
key, and TX_DROPPED alone for the frame of a front end that is off, are the model's (log entries 63 and 64). -/
theorem radioTransmission : Obligations.RadioTransmission := by
  unfold Obligations.RadioTransmission
  refine ⟨?wake, fun cca e n id f => ?released, fun cca e n id f => ?dropped, fun n x => ?ended⟩
  case wake =>
    refine Serves.of (fun _ _ _ => rfl) fun _ _ _ _ ⟨hfe, hrate, hrep, haddr, hfreq, hquota, hahead⟩ => ?_
    obtain ⟨t, hplaced, hentries⟩ := placeWake_ahead hahead hquota
    exact ⟨t, _, wakeSend_accepted hfe hrate hrep haddr hfreq hplaced, ⟨rfl, hentries⟩, .inl (by simp [okWith])⟩
  case released =>
    rintro dt s ⟨hnext, ha, hhem, hf, hkey, hmay, hon, hn, hl, htx, hrest, hoff, hcca, hbands⟩
    have hlast : lastOff (feSt (tick dt s) n) = (feSt (tick dt s) n).paOff := by simp [lastOff, htx, hrest]
    have hstarts : releaseFrame n e.key cca f (unqueue e.seq id (tick dt s)) =
        onFe n (startTx (runOf n e.key f (tick dt s))) (unqueue e.seq id (tick dt s)) := by
      rw [releaseFrame_starts, runOf_unqueue]
      · rwa [mayTransmit_unqueue]
      · rwa [feOn_unqueue]
      · rwa [feSt_unqueue, runOf_unqueue, hlast]
      · rwa [cfg_unqueue]
      · rwa [cfg_unqueue]
    have hfe : feSt (onFe n (startTx (runOf n e.key f (tick dt s))) (unqueue e.seq id (tick dt s))) n =
        { feSt (tick dt s) n with dutyHold := false, tx := some (runOf n e.key f (tick dt s)) } := by
      rw [feSt_onFe_self (by rw [unqueue_fes]; omega), feSt_unqueue, startTx_idle htx]
    refine ⟨_, (exec_txRelease rfl hnext ha hhem hf hkey).trans (congrArg Outcome.next hstarts), ?_⟩
    dsimp only
    rw [hfe]
    exact ⟨rfl, rfl, unqueue_q7 e.seq id (tick dt s), congrArg SchedSt.entries (unqueue_sched e.seq id (tick dt s))⟩
  case dropped =>
    rintro dt s ⟨hnext, ha, hhem, hf, huse, hkey, hoff, halone⟩
    have hlink : (unqueue e.seq id (tick dt s)).link = (tick dt s).link := unqueue_frame _ _ _ .link (by decide)
    have hid : f.id = id := by simpa using List.find?_some hf
    have hdropped : releaseFrame n e.key cca f (unqueue e.seq id (tick dt s)) =
        onFe n (fun x => { x with txDropped := inc32 x.txDropped }) (unqueue e.seq id (tick dt s)) := by
      rw [releaseFrame_off ((feOn_unqueue ..).trans hoff) huse, frameDropped_alone]
      show (unqueue e.seq id (tick dt s)).link.downs.find? _ = none
      rw [hlink, hid]
      exact halone
    exact ⟨_, (exec_txRelease rfl hnext ha hhem hf hkey).trans (congrArg Outcome.next hdropped),
      congrArg (fun l => modAt l n _) (unqueue_fes e.seq id (tick dt s)), unqueue_q7 e.seq id (tick dt s),
      congrArg SchedSt.entries (unqueue_sched e.seq id (tick dt s))⟩
  case ended =>
    rintro dt s ⟨htx, hn, hl, hoff, huse⟩
    have hfe : feSt (awaitAck n x (endedTx n x (tick dt s))) n = _ := feSt_endedTx hn hl
    have hlink : (endedTx n x (tick dt s)).link = (tick dt s).link := endedTx_frame _ _ _ .link (by decide)
    have hacks : (endedTx n x (tick dt s)).link.acksSent = (tick dt s).link.acksSent := congrArg LinkSt.acksSent hlink
    refine ⟨_, exec_txEnd rfl htx hoff huse, ?_⟩
    dsimp only
    rw [hfe]
    exact ⟨rfl, rfl, rfl, rfl, endedTx_sent _ _ _, endedTx_txFrames _ _ _,
      hacks, onLink_only (by decide) ((endedTx_frame _ _ _).mono (by decide))⟩

end Sys2Proof.Machine
end

section
/-! PROOFS. The statements of the link layer: frames accepted, and what is held behind Q2. -/

namespace Sys2Proof.Machine

open Host (Outcome)

/-! ### A new frame of a known neighbour (R309, R310, R402) -/

section Accepted
variable {n d dt : Nat} {cap : Bool} {f : RadioFrame} {s : State} {e : Nbr}

/-- A good data frame that is addressed to the unit goes to FA5 and FA6 with the entry of its address. -/
theorem macFrame_known (hfcs : f.fcsOk = true) (hmode : f.modeSwitch = false) (haddr : addressed s f = true) (hack : f.isAck = false)
    (hn : nbrByAddr s f.addr = some n) : macFrame cap f s = judgeFrame n f (onNbr n (fun e => { e with ackCap := cap }) s) := by
  have hallot : allotNbr f.addr f.kind s = some (n, s) := by
    unfold allotNbr
    rw [hn]
  unfold macFrame
  rw [if_neg (by simp [hfcs]), if_neg (by simp [hmode]), if_neg (by simp [haddr]), if_neg (by simp [hack]), hallot]

/-- A new frame of a meter that is not Retired is accepted while staging takes it, with no frame of the last mc to be a copy of. -/
theorem judgeFrame_new (he : nbrOf s n = e) (hret : (ctxOf s e.meter).all (fun c => c.state != .retired) = true) (hrecent : e.recent = [])
    (hnew : seqClass (linkProfile s e.profile) e f.seq f.key = .new d) (hroom : stagingRefuses f.length f.ackReq s = none) :
    judgeFrame n f s = acceptFrame n (.new d) f s := by
  have hlive : (match ctxOf s e.meter with | some c => c.state == .retired | none => false) = false := by
    cases hc : ctxOf s e.meter with
    | none => rfl
    | some c => simpa [hc] using hret
  unfold judgeFrame
  dsimp only
  rw [he]
  refine (if_neg (Bool.eq_false_iff.mp hlive)).trans ?_
  rw [if_neg (by simp [hrecent]), hnew]
  dsimp only
  rw [hroom]

/-- A frame is refused by staging unless it finds room and no back-pressure. -/
theorem stagingRefuses_none_iff {length : Nat} {ackReq : Bool} :
    stagingRefuses length ackReq s = none ↔ stagingFull s length = false ∧ (s.sess.pressure && ackReq) = false := by
  unfold stagingRefuses
  cases stagingFull s length <;> cases (s.sess.pressure && ackReq) <;> simp

/-- The frame is taken from Q0, and FLAGS bit 5 of its neighbour is as firmware has set it (R309, R313). -/
def atAccept (n : Nat) (cap : Bool) (rest : List RadioFrame) (s : State) : State :=
  onNbr n (fun e => { e with ackCap := cap }) (s.onRad fun x => { x with q0 := rest })

theorem nbrOf_atAccept {rest : List RadioFrame} (he : tfind s.link.nbrs n = some e) :
    nbrOf (atAccept n cap rest s) n = { e with ackCap := cap } := by
  unfold nbrOf atAccept onNbr
  rw [State.onLink_link, State.onRad_link, he, tget_tput_self]

/-- The oldest frame on Q0 is accepted when it is new. -/
theorem exec_macFrameAccept_new {rest : List RadioFrame} {u : State} (hu : tick dt s = u) (hq0 : u.rad.q0 = f :: rest)
    (hradio : radioOn u = true) (hfcs : f.fcsOk = true) (hmode : f.modeSwitch = false) (haddr : addressed u f = true)
    (hack : f.isAck = false) (hn : nbrByAddr u f.addr = some n) (he : tfind u.link.nbrs n = some e)
    (hret : (ctxOf u e.meter).all (fun c => c.state != .retired) = true) (hrecent : e.recent = [])
    (hnew : seqClass (linkProfile u e.profile) e f.seq f.key = .new d) (hroom : stagingRefuses f.length f.ackReq u = none) :
    exec (.macFrameAccept dt cap) s = .next (acceptFrame n (.new d) f (atAccept n cap rest u)) := by
  have hroom' : stagingRefuses f.length f.ackReq (atAccept n cap rest u) = none := by
    rw [stagingRefuses_none_iff] at hroom ⊢
    exact hroom
  have hjudged : judgeFrame n f (atAccept n cap rest u) = acceptFrame n (.new d) f (atAccept n cap rest u) :=
    judgeFrame_new (nbrOf_atAccept he) hret hrecent hnew hroom'
  have hmac : macFrame cap f (u.onRad fun x => { x with q0 := rest }) = judgeFrame n f (atAccept n cap rest u) :=
    macFrame_known hfcs hmode haddr hack hn
  show execMacFrameAccept dt cap s = _
  unfold execMacFrameAccept
  dsimp only
  rw [hu, hq0]
  dsimp only
  rw [if_pos hradio, hmac, hjudged]

end Accepted

/-! ### A frame accepted while entries are held behind Q2 (R48, R49, R309, R403) -/

/-- Q2 and what is held behind it are the same. -/
def SameQ2 (s t : State) : Prop := t.sess.q2 = s.sess.q2 ∧ t.sess.q2Held = s.sess.q2Held

section Q2
variable {s a b : State} {m n k : Nat}

theorem SameQ2.of_sess (h : a.sess = s.sess) : SameQ2 s a := ⟨congrArg SessSt.q2 h, congrArg SessSt.q2Held h⟩

theorem SameQ2.ite {c : Prop} [Decidable c] (ha : SameQ2 s a) (hb : SameQ2 s b) : SameQ2 s (if c then a else b) := by
  split <;> assumption

theorem SameQ2.onCtx {f : MeterCtx → MeterCtx} (h : SameQ2 s a) : SameQ2 s (onCtx m f a) := by
  unfold SameQ2
  rw [onCtx_sess]
  exact h

theorem SameQ2.onLink {f : LinkSt → LinkSt} (h : SameQ2 s a) : SameQ2 s (a.onLink f) := h

theorem SameQ2.onNbr {f : Nbr → Nbr} (h : SameQ2 s a) : SameQ2 s (onNbr n f a) := h

theorem resync_q2 : SameQ2 s (resync n k s) :=
  .ite (.of_sess rfl) (.ite (.onCtx (.of_sess rfl)) (.ite (.onCtx (.of_sess rfl)) (.of_sess rfl)))

theorem contact_q2 : SameQ2 s (contact m k s) := by
  have hraise : ∀ z : State, SameQ2 s z → SameQ2 s (raise .meterBack srcSup (leBytes 4 m) z) := by
    intro z hz
    unfold SameQ2
    rw [show (raise .meterBack srcSup (leBytes 4 m) z).sess = z.sess from raise_frame _ _ _ z .sess (by decide)]
    exact hz
  unfold contact
  split
  · exact .of_sess rfl
  · refine .ite (hraise _ ?kept) ?kept
    case kept =>
      split
      · exact .onCtx (.of_sess rfl)
      · exact .onCtx (.of_sess rfl)

theorem refreshPressure_q2 : SameQ2 s (refreshPressure s) := by
  refine .ite (.of_sess rfl) ?_
  unfold SameQ2
  rw [show ∀ z : State, (grantCredit z).sess = z.sess from fun z =>
    grantCredit_only (bs := [.upl]) (by decide) (Only.refl _ z) .sess (by decide)]
  exact ⟨rfl, rfl⟩

/-- An entry pushed while others are held behind Q2 is held behind them: Q2 stays as it is. -/
theorem pushQ2_held {e : Q2Entry} (h : s.sess.q2Held ≠ []) : (pushQ2 e s).sess.q2 = s.sess.q2 := by
  unfold pushQ2
  rw [refreshPressure_q2.1]
  simp only [State.onHosts_sess, State.onSess_sess, countPush_sess, pushOrHold, List.isEmpty_eq_false_iff.mpr h, Bool.false_and,
    Bool.false_eq_true, if_false]

/-- A frame accepted while entries are held behind Q2 does not reach Q2. -/
theorem acceptFrame_held {c : SeqClass} {f : RadioFrame} (h : s.sess.q2Held ≠ []) : (acceptFrame n c f s).sess.q2 = s.sess.q2 := by
  have hpush : ∀ (e : Q2Entry) (z : State), SameQ2 s z → (pushQ2 e z).sess.q2 = s.sess.q2 := fun e z hz =>
    (pushQ2_held (by rwa [hz.2])).trans hz.1
  have hack : ∀ z : State, (acknowledge n f z).sess = z.sess := fun z =>
    acknowledge_only (bs := [.hosts, .sched, .fab, .evt, .rad, .link, .pair]) (by decide) (Only.refl _ z) .sess (by decide)
  unfold acceptFrame
  dsimp only
  generalize hw : acknowledge n f _ = w
  have hpushed : w.sess.q2 = s.sess.q2 := by
    rw [← hw, hack]
    exact hpush _ _ (.onLink (.onNbr resync_q2))
  split
  · split
    · exact contact_q2.1.trans hpushed
    · exact hpushed
  · exact hpushed

end Q2

/-- The neighbour with address 9, its duplicate window open. -/
def nine : Nbr := { addr := 9, winValid := true }

/-- Its next frame. -/
def nextOfNine : RadioFrame := { fcsOk := true, kind := 1, addr := 9, seq := 1 }

/-- A device in Run to which that frame has come: Q2 is empty, and an entry is held behind it. -/
def heldBehindQ2 : State :=
  ((working.onLink fun l => { l with nbrs := [(0, nine)] }).onRad fun r => { r with q0 := [nextOfNine] }).onSess fun b =>
    { b with q2Held := [{}] }

/-- Refutes O34, by its clause of MAC_FRAME_ACCEPT for a new frame: room in Q2 does not say that the frame goes there. While an entry is
held behind Q2 the frame is held behind that one (R48, R49, R403), and Q2 is as it was. The clause speaks of every state and lacks the
hypothesis that nothing is held, which the clauses of ingest have. -/
theorem not_linkLayer : ¬ Obligations.LinkLayer := by
  unfold Obligations.LinkLayer
  rintro ⟨-, -, -, haccept, -⟩
  have hradio : radioOn heldBehindQ2 = true := by decide
  have haddr : addressed heldBehindQ2 nextOfNine = true := by decide
  have hn : nbrByAddr heldBehindQ2 nextOfNine.addr = some 0 := by decide
  have hret : (ctxOf heldBehindQ2 nine.meter).all (fun c => c.state != .retired) = true := by decide
  have hnew : seqClass (linkProfile heldBehindQ2 nine.profile) nine nextOfNine.seq nextOfNine.key = .new 1 := by decide
  have hroom : stagingRefuses nextOfNine.length nextOfNine.ackReq heldBehindQ2 = none := by decide
  have hclause := haccept true nextOfNine [] 0 nine 0 heldBehindQ2
  rw [tick_zero] at hclause
  obtain ⟨t, ht, -, -, -, x, hq2, -⟩ :=
    hclause ⟨rfl, hradio, Nat.succ_pos _, rfl, rfl, haddr, rfl, hn, rfl, hret, rfl, ⟨1, hnew⟩, hroom⟩
  have haccepted : t = acceptFrame 0 (.new 1) nextOfNine (atAccept 0 true [] heldBehindQ2) := Outcome.next.inj (ht.symm.trans
    (exec_macFrameAccept_new (tick_zero _) rfl hradio rfl rfl haddr rfl hn rfl hret rfl hnew hroom))
  have hempty : t.sess.q2 = [] := by
    rw [haccepted]
    exact acceptFrame_held (List.cons_ne_nil _ _)
  exact absurd (hempty.symm.trans hq2) (by simp [heldBehindQ2])

end Sys2Proof.Machine
end

section
/-! PROOFS. The statements of the power-line port: frames received, and the commands of the port. -/

namespace Sys2Proof.Machine

open Host (Outcome)

/-! ### Frames received (R47, R49, R342, R345, R354–R358) -/

/-- The port is on over a working Seam, with no frame of its own on the line (R345). -/
structure PlcListens (u : State) : Prop where
  on : plcOn u = true
  seam : u.fab.seamUp = true
  quiet : u.plc.tx = none

/-- A frame that the port hears passes Q1, or a full Q1 refuses it (R49, R342). -/
theorem exec_plcFrameReceive {dt : Nat} {f : PlcFrame} {s u : State} (hu : tick dt s = u) (h : PlcListens u) :
    exec (.plcFrameReceive dt f) s = if u.plc.q1.length < Config.ringDepth 1 then
      .next (takeQ1 (u.onPlc fun p => { p with q1 := p.q1 ++ [f] })) else .next (countRefused 1 u) := by
  subst hu
  exact if_neg (by simp [-tick_fab, -tick_plc, h.on, h.seam, h.quiet])

/-- The frame that alone stands on Q1 is taken from it (R47). -/
theorem takeQ1_single {f : PlcFrame} {u : State} (hempty : u.plc.q1 = []) (htakes : workTakes u .plcModem 1 = true) :
    takeQ1 (u.onPlc fun p => { p with q1 := p.q1 ++ [f] }) = takePlc1 f (u.onPlc fun p => { p with q1 := [] }) := by
  refine (if_pos htakes).trans ?_
  rw [State.onPlc_plc, hempty]
  rfl

/-- A frame that the port hears while Q1 is empty and its consumer works is demodulated at once (R342, R345). -/
theorem exec_plcFrameReceive_taken {dt : Nat} {f : PlcFrame} {s u : State} (hu : tick dt s = u) (h : PlcListens u)
    (hempty : u.plc.q1 = []) (htakes : workTakes u .plcModem 1 = true) :
    exec (.plcFrameReceive dt f) s = .next (takePlc1 f (u.onPlc fun p => { p with q1 := [] })) := by
  have hroom : u.plc.q1.length < Config.ringDepth 1 := by
    rw [hempty]
    exact Nat.succ_pos _
  rw [exec_plcFrameReceive hu h, if_pos hroom, takeQ1_single hempty htakes]

/-- What is recorded of a frame's node is the port's, but for the event and the alarm of a full domain (R359, R360). -/
theorem noteNode_frame (f : PlcFrame) (s : State) : Only [.hosts, .evt, .plc] s (noteNode f s) := noteNode_only (by decide) (Only.refl _ s)

/-- A good frame is counted and its node recorded; in Solo and Active it goes on to the MAC (R354). -/
theorem takePlc1_good {f : PlcFrame} {s : State} (hcrc : f.crcOk = true) :
    takePlc1 f s = if s.pair.state == .solo || s.pair.state == .active
      then plcMac f (noteNode f (s.onPlc fun p => { p with framesOk := inc32 p.framesOk }))
      else noteNode f (s.onPlc fun p => { p with framesOk := inc32 p.framesOk }) := by
  have hpair : ∀ z : State, (noteNode f z).pair = z.pair := fun z => noteNode_frame f z .pair (by decide)
  unfold takePlc1
  dsimp only
  rw [if_neg (by simp [hcrc]), hpair]
  rfl

/-! ### PLC_SET (R339–R341, R364) -/

/-- Entries of which none is meant leave the scheduler's table as it is. -/
theorem dropEntries_none {p : SchedEntry → Bool} {s : State} (h : ∀ e ∈ s.sched.entries, p e = false) : dropEntries p s = s := by
  have hgone : (s.sched.entries.filter fun e => p e && mirroredClass e.cls) = [] :=
    List.filter_eq_nil_iff.mpr fun e he => by simp [h e he]
  have hkept : (s.sched.entries.filter fun e => !p e) = s.sched.entries :=
    List.filter_eq_self.mpr fun e he => by simp [h e he]
  have hsame : (s.onSched fun c => { c with entries := c.entries.filter fun e => !p e }) = s := by
    rw [State.onSched, hkept]
  unfold dropEntries
  rw [hgone, hsame]
  rfl

/-- No MODE waits for its cycle exactly while no entry of the table sets one. -/
theorem modeNext_none_iff {s : State} : modeNext s = none ↔ ∀ e ∈ s.sched.entries, (modeOf e.action).isSome = false := by
  simp [modeNext, List.findSome?_eq_none_iff]

theorem modeToBe_of_none {s : State} (h : modeNext s = none) : modeToBe s = s.plc.mode := by
  unfold modeToBe
  rw [h]

/-- The entry of a MODE change stands behind the others, at the next cycle start (R55, R341). -/
def awaitMode (mode : Nat) (s : State) : State := s.onSched fun c =>
  { c with entries := c.entries ++ [{ cls := 7, sub := 2, action := .plcMode mode, key := nextCycleStart s, seq := c.nextSeq }],
           nextSeq := c.nextSeq + 1 }

/-- A new MODE has its entry placed while none waits and class 7 has room (R86, R341). -/
theorem placeMode_new {mode : Nat} {s : State} (hnext : modeNext s = none) (hmode : mode ≠ s.plc.mode) (hquota : quotaUsed s 7 0 < 2560) :
    placeMode mode s = some (awaitMode mode s) := by
  unfold placeMode
  dsimp only
  rw [if_neg hmode, dropEntries_none (modeNext_none_iff.mp hnext)]
  exact place_class7 rfl hquota

/-- The settings of the port that the payload of PLC_SET spells over those to be (R364). -/
def plcCfgOf (s : State) (p : List Byte) : PlcCfg :=
  { (shadowCfg s).plc with mode := fld p 0 1, txAtt := fld p 1 1, noiseMargin := fld p 2 1, startLimitMc := fld p 3 1,
                           blockMask := BitVec.ofNat 64 (fld p 4 8) }

/-- The fields of PLC_SET besides MODE are posted as a control word (R51, R53; log entry 407). -/
def postPlc (c : PlcCfg) (s : State) : State := postWord (.plc { c with mode := (shadowCfg s).plc.mode }) s

theorem postPlc_frame (c : PlcCfg) (s : State) : Only [.cfg, .fab] s (postPlc c s) := postWord_only (by decide) (Only.refl _ s)

theorem postPlc_sched (c : PlcCfg) (s : State) : (postPlc c s).sched = s.sched := postPlc_frame c s .sched (by decide)
theorem postPlc_plc (c : PlcCfg) (s : State) : (postPlc c s).plc = s.plc := postPlc_frame c s .plc (by decide)

theorem nextCycleStart_postPlc (c : PlcCfg) (s : State) : nextCycleStart (postPlc c s) = nextCycleStart s :=
  nextCycleStart_of_clock (postPlc_frame c s .mains (by decide)) (postPlc_frame c s .time (by decide))

/-- Once the other fields are posted a new MODE is placed as before (R341, R364). -/
theorem placeMode_postPlc {c : PlcCfg} {mode : Nat} {s : State} (hnext : modeNext s = none) (hmode : mode ≠ s.plc.mode)
    (hquota : quotaUsed s 7 0 < 2560) : placeMode mode (postPlc c s) = some (awaitMode mode (postPlc c s)) :=
  placeMode_new (by rwa [modeNext, postPlc_sched]) (by rwa [postPlc_plc]) (by rwa [quotaUsed, postPlc_sched])

theorem awaitMode_postPlc_entries (c : PlcCfg) (mode : Nat) (s : State) : (awaitMode mode (postPlc c s)).sched.entries =
    s.sched.entries ++ [{ cls := 7, sub := 2, action := .plcMode mode, key := nextCycleStart s, seq := s.sched.nextSeq }] := by
  rw [awaitMode, State.onSched_sched, postPlc_sched, nextCycleStart_postPlc]

/-- Where MODE stays, PLC_SET posts the other fields and answers the present cycle (R364; log entry 71). -/
theorem plcSet_sameMode {tk : Taken} {u : State} (hok : plcCfgOk (plcCfgOf u tk.payload) = true) (hidle : transitOf u .plc = none)
    (hmode : (plcCfgOf u tk.payload).mode = modeToBe u) :
    plcSet tk u = (postPlc (plcCfgOf u tk.payload) u, okWith (leBytes 6 u.mains.cycle)) := by
  have hvalid : ¬ (!plcCfgOk (plcCfgOf u tk.payload)) = true := by simp [hok]
  have hstays : ((plcCfgOf u tk.payload).mode = modeToBe u && (transitOf u .plc).isNone) = true := by simp [hmode, hidle]
  exact (if_neg hvalid).trans (if_pos hstays)

/-- PLC_SET posts the other fields, places the entry of a new MODE and answers its cycle (R341, R364; log entry 71). -/
theorem plcSet_newMode {tk : Taken} {u : State} (hok : plcCfgOk (plcCfgOf u tk.payload) = true) (hidle : transitOf u .plc = none)
    (hnext : modeNext u = none) (hmode : (plcCfgOf u tk.payload).mode ≠ u.plc.mode) (hquota : quotaUsed u 7 0 < 2560) :
    plcSet tk u = (awaitMode (plcCfgOf u tk.payload).mode (postPlc (plcCfgOf u tk.payload) u),
      okWith (leBytes 6 (nextCycleStart u / mc))) := by
  have hvalid : ¬ (!plcCfgOk (plcCfgOf u tk.payload)) = true := by simp [hok]
  have hchanges : ¬ ((plcCfgOf u tk.payload).mode = modeToBe u && (transitOf u .plc).isNone) = true := by
    simp [modeToBe_of_none hnext, hmode]
  have hroom : ¬ (placeMode (plcCfgOf u tk.payload).mode u).isNone = true := by simp [placeMode_new hnext hmode hquota]
  refine (if_neg hvalid).trans ((if_neg hchanges).trans ((if_neg hroom).trans ?_))
  rw [armRequest_idle hidle]
  exact congrArg (fun o : Option State => (o.getD (postPlc (plcCfgOf u tk.payload) u), okWith (leBytes 6 (nextCycleStart u / mc))))
    (placeMode_postPlc hnext hmode hquota)

/-! ### PLC_STATUS, NOISE_READ and ZC_READ (R350, R358, R365–R367) -/

/-- The answer of PLC_STATUS (R365). -/
def plcReport (p : PlcSt) : List Byte :=
  leBytes 4 p.framesOk ++ (leBytes 4 p.framesBad ++ (leBytes 4 p.broken ++ (leBytes 4 p.txSent ++ (leBytes 4 p.noWindow ++
    (leBytes 4 p.truncated ++ (leBytes 4 p.csmaFail ++ leBytes 4 p.joinRefused))))))

theorem plcStatus_answers (tk : Taken) (u : State) : plcStatus tk u = (u, okWith (plcReport u.plc)) := by
  simp [plcStatus, plcReport]

theorem plcReport_shows (p : PlcSt) : Shows (plcReport p) 0 4 p.framesOk ∧ Shows (plcReport p) 4 4 p.framesBad ∧
    Shows (plcReport p) 8 4 p.broken ∧ Shows (plcReport p) 12 4 p.txSent ∧ Shows (plcReport p) 16 4 p.noWindow ∧
    Shows (plcReport p) 20 4 p.truncated ∧ Shows (plcReport p) 24 4 p.csmaFail ∧ Shows (plcReport p) 28 4 p.joinRefused := by
  simp [plcReport]

/-- The answer of NOISE_READ: the median, the noisy bins and every bin's average (R366). -/
def noiseReport (p : PlcSt) : List Byte :=
  leBytesI 2 (binMedian p.bins) ++ leBytes 4 (p.noisy.toNat % 0x100000000) ++ leBytes 2 (p.noisy.toNat / 0x100000000 % 0x10000)
    ++ (p.bins.map fun b => leBytesI 2 (b.getD 0)).flatten

theorem noiseRead_answers (tk : Taken) {u : State} (h : 16 ≤ u.plc.measured) : noiseRead tk u = (u, okWith (noiseReport u.plc)) :=
  if_neg (Nat.not_lt.mpr h)

theorem noiseReport_length (p : PlcSt) : (noiseReport p).length = 8 + 2 * p.bins.length := by
  simp only [noiseReport, List.length_append, leBytes_length, leBytesI_length, List.length_flatten, List.map_map, Function.comp_def,
    List.map_const', List.sum_replicate_nat]
  omega

theorem noiseReport_shows (p : PlcSt) : ShowsI (noiseReport p) 0 2 (binMedian p.bins) ∧
    Shows (noiseReport p) 2 4 (p.noisy.toNat % 0x100000000) ∧ Shows (noiseReport p) 6 2 (p.noisy.toNat / 0x100000000 % 0x10000) := by
  simp [noiseReport]

/-- ZC_READ by the number of a node answers its record, which is empty where no node has that number (R367). -/
theorem zcRead_byIndex {tk : Taken} {u : State} (hform : fld tk.payload 0 1 = 0) (hindex : fld tk.payload 4 2 ≤ 2047) :
    zcRead tk u = (u, okWith (zcBytes (tget u.plc.nodes (fld tk.payload 4 2) {}))) := by
  unfold zcRead
  dsimp only
  rw [hform]
  exact if_neg (Nat.not_lt.mpr hindex)

theorem zcBytes_length (r : ZcRec) : (zcBytes r).length = 24 := by
  simp [zcBytes]

theorem zcBytes_shows (r : ZcRec) : Shows (zcBytes r) 0 8 r.addr ∧ Shows (zcBytes r) 8 2 r.last ∧ Shows (zcBytes r) 10 2 r.mean ∧
    Shows (zcBytes r) 12 2 r.spread ∧ Shows (zcBytes r) 14 2 r.count ∧ Shows (zcBytes r) 16 8 r.lastKey := by
  simp [zcBytes]

/-- Settles O36: a frame heard is demodulated at once, or refused by a full Q1; each command passes its checks and its effect is that of
the operation it is made of. The joining of nodes, the class 7 entry of MODE with the cycle answered, and the fields posted as a word that
commits later are the model's (log entries 72, 71 and 407). -/
theorem plcFramesAndCommands : Obligations.PlcFramesAndCommands := by
  unfold Obligations.PlcFramesAndCommands
  refine ⟨fun f => ?bad, fun f => ?standby, fun f => ?active, fun f => ?refused, fun c => ?newMode, fun c => ?sameMode, ?status, ?noise,
    fun z => ?crossing⟩
  case bad =>
    rintro dt s ⟨hon, hseam, htx, hempty, htakes, hcrc⟩
    exact ⟨_, (exec_plcFrameReceive_taken rfl ⟨hon, hseam, htx⟩ hempty htakes).trans (congrArg Outcome.next (if_pos (by simp [hcrc]))), rfl⟩
  case standby =>
    rintro dt s ⟨hon, hseam, htx, hempty, htakes, hcrc, hpair⟩
    exact ⟨_, (exec_plcFrameReceive_taken rfl ⟨hon, hseam, htx⟩ hempty htakes).trans (congrArg Outcome.next
      ((takePlc1_good hcrc).trans (if_neg (by rw [State.onPlc_pair, hpair]; decide)))), rfl, noteNode_frame f _ .sess (by decide)⟩
  case active =>
    rintro dt s ⟨hon, hseam, htx, hempty, htakes, hcrc, hpair⟩
    exact ⟨_, (exec_plcFrameReceive_taken rfl ⟨hon, hseam, htx⟩ hempty htakes).trans (congrArg Outcome.next
      ((takePlc1_good hcrc).trans (if_pos (by rw [State.onPlc_pair, hpair]; decide)))), rfl⟩
  case refused =>
    rintro dt s ⟨hon, hseam, htx, hfull⟩
    exact ⟨_, (exec_plcFrameReceive rfl ⟨hon, hseam, htx⟩).trans (if_neg (Nat.not_lt.mpr hfull)), rfl⟩
  case newMode =>
    refine Serves.of (fun _ _ _ => rfl) fun _ tk u _ ⟨hok, hidle, hnext, hmode, hquota, hc⟩ => ?_
    change c = plcCfgOf u tk.payload at hc
    subst hc
    exact ⟨_, _, plcSet_newMode hok hidle hnext hmode hquota, ⟨rfl, awaitMode_postPlc_entries .., rfl, postPlc_plc ..⟩,
      .inl (by simp [okWith])⟩
  case sameMode =>
    refine Serves.of (fun _ _ _ => rfl) fun _ tk u _ ⟨hok, hidle, hmode, hc⟩ => ?_
    change c = plcCfgOf u tk.payload at hc
    subst hc
    exact ⟨_, _, plcSet_sameMode hok hidle hmode, ⟨rfl, rfl⟩, .inl (by simp [okWith])⟩
  case status =>
    exact Reads.of (fun _ _ _ => rfl) fun _ tk u _ => ⟨_, plcStatus_answers tk u, by simp [plcReport], plcReport_shows _⟩
  case noise =>
    exact Reads.of (fun _ _ _ => rfl) fun _ tk u ⟨hmeasured, hbins⟩ =>
      ⟨_, noiseRead_answers tk hmeasured, by rw [noiseReport_length, hbins], noiseReport_shows _⟩
  case crossing =>
    refine Reads.of (fun _ _ _ => rfl) fun _ tk u ⟨hform, hindex, hz⟩ => ?_
    subst hz
    exact ⟨_, zcRead_byIndex hform hindex, zcBytes_length _, zcBytes_shows _⟩

end Sys2Proof.Machine
end

section
/-! PROOFS. The statements of sessions and ingest: the frames of validation, balance and archive. -/

namespace Sys2Proof.Machine

open Host (Outcome)

section Frames
variable {bs : List Block} {s : State} {dt : Nat}

/-! ### The frames of validation and balance (R410, R413–R482) -/

theorem execValidate_frame : OnlyOut [.hosts, .time, .fab, .evt, .met, .sess, .vee, .arch] s (execValidate dt s) := by
  refine .ite ?_ (.ticked (by decide))
  split
  · exact .ticked (by decide)
  · exact .next (validateRecord_only (by decide) (popQ4_only (by decide) (ticked_only (by decide))))

theorem execTopoSample_frame : OnlyOut [.time, .met, .bal] s (execTopoSample dt s) := by
  refine .ite (.ticked (by decide)) ?_
  have hread : ∀ f : BalSt → BalSt, Only [.time, .met, .bal] s (if (tick dt s).bal.logPos < (tick dt s).arch.logBase then
      (tick dt s).onBal f else tick dt s) := fun _ =>
    .ite (onBal_only (by decide) (ticked_only (by decide))) (ticked_only (by decide))
  dsimp only
  split
  · exact .next (hread _)
  · exact .next (.ite (onBal_only (by decide) (hread _)) (topoTake_only (by decide) (onBal_only (by decide) (hread _))))

theorem execBalCompile_frame :
    OnlyOut [.hosts, .time, .fab, .evt, .met, .sess, .vee, .bal, .arch, .pair] s (execBalCompile dt s) := by
  refine .ite (.ticked (by decide)) ?_
  split
  · exact .next (compileDay_only (by decide) (onBal_only (by decide) (ticked_only (by decide))))
  · split
    · exact .ticked (by decide)
    · exact .next (compileDay_only (by decide) (onBal_only (by decide) (.ite (balAlert_only (by decide) (ticked_only (by decide)))
        (ticked_only (by decide)))))

/-! ### The frames of the archive (R498–R543, R661, R766) -/

theorem execRecordPack_frame : OnlyOut [.hosts, .time, .met, .vee, .arch] s (execRecordPack dt s) := by
  have hpacked : Only [.hosts, .time, .met, .vee, .arch] s (packOne (writeSide (tick dt s))) :=
    packOne_only (by decide) (writeSide_only (by decide) (ticked_only (by decide)))
  exact .ite (.next (.ite (.getD (writeOpen_only (by decide) hpacked) hpacked) hpacked)) (.ticked (by decide))

theorem execPageFlush_frame : OnlyOut [.hosts, .time, .met, .arch] s (execPageFlush dt s) := by
  refine .ite ?_ (.ticked (by decide))
  split
  next hw => exact .next (flushStripe_only (by decide) (OnlyOpt.get hw (writeOpen_only (by decide) (ticked_only (by decide)))))
  next => exact .ticked (by decide)

theorem execPageProgramDone_frame {die : Nat} {ok : Bool} :
    OnlyOut [.hosts, .time, .evt, .met, .sess, .vee, .bal, .arch, .upl] s (execPageProgramDone dt die ok s) := by
  unfold execPageProgramDone
  dsimp only
  split
  · refine .ite (.next (commitNew_only (by decide) (onArch_only (by decide) ?ended))) ?_
    case ended => exact onArch_only (by decide) (ticked_only (by decide))
    split
    · exact .next (abandonSb_only (by decide) (writeJournal_only (by decide) (growBad_only (by decide)
        (onArch_only (by decide) (ticked_only (by decide))))))
    · exact .next (onArch_only (by decide) (ticked_only (by decide)))
  · exact .ticked (by decide)

theorem execDieFail_frame {die : Nat} : OnlyOut [.hosts, .time, .evt, .met, .arch] s (execDieFail dt die s) := by
  unfold execDieFail
  dsimp only
  split
  · exact .ticked (by decide)
  · exact .next (.ite (failDie_only (by decide) (ticked_only (by decide))) (ticked_only (by decide)))

/-- The relocations that a die's rebuild and the recovery of space queue (R513, R529). -/
theorem relocations_frame {l : List PhysPage} (hSub : Block.sub [.arch] bs = true) {x : State} (hx : Only bs s x) :
    Only bs s (l.foldl (fun s p => relocate p s) x) :=
  .foldl (fun _ _ => relocate_only hSub) hx

theorem execDieRebuildDone_frame {die : Nat} : OnlyOut [.time, .met, .arch] s (execDieRebuildDone dt die s) := by
  unfold execDieRebuildDone
  dsimp only
  split
  · exact .ticked (by decide)
  · refine .ite (.ite (.ite (.next ?flushed) (.next ?rebuilt)) (.next ?moved)) (.ticked (by decide))
    case flushed => exact flushStripe_only (by decide) (ticked_only (by decide))
    case rebuilt => exact writeJournal_only (by decide) (onDie_only (by decide) (ticked_only (by decide)))
    case moved => exact relocations_frame (by decide) (ticked_only (by decide))

theorem execSpaceRecovery_frame {fails : List Nat} :
    OnlyOut [.hosts, .time, .evt, .met, .arch] s (execSpaceRecovery dt fails s) := by
  refine .ite ?_ (.ticked (by decide))
  split
  · refine .ite (.next ?moved) (.ite (.next ?flushed) (.ite (.next ?superseded) (.next ?erased)))
    case moved => exact relocations_frame (by decide) (ticked_only (by decide))
    case flushed => exact flushStripe_only (by decide) (ticked_only (by decide))
    case superseded => exact .foldl (fun _ _ => flushStripe_only (by decide)) (ticked_only (by decide))
    case erased => exact checkReadOnly_only (by decide) (eraseSb_only (by decide) (ticked_only (by decide)))
  · refine .ite (.ticked (by decide)) (.ite (.ticked (by decide)) ?_)
    split
    · exact .ticked (by decide)
    · exact .next (relocations_frame (by decide) (onArch_only (by decide) (ticked_only (by decide))))

theorem execPatrolRead_frame {corr : List Nat} {step : Nat} {second : Option Nat} :
    OnlyOut [.hosts, .time, .evt, .met, .arch] s (execPatrolRead dt corr step second s) := by
  refine .ite ?_ (.ticked (by decide))
  split
  · exact .next (.ite (onArch_only (by decide) (ticked_only (by decide))) (ticked_only (by decide)))
  next p _ =>
    have hread : ∀ f : ArchSt → ArchSt,
        Only [.hosts, .time, .evt, .met, .arch] s (readPage p corr step second ((tick dt s).onArch f)) := fun _ =>
      readPage_only (by decide) (onArch_only (by decide) (ticked_only (by decide)))
    exact .next (.ite (relocate_only (by decide) (hread _)) (hread _))

theorem execNandTempRead_frame {temps : List (Nat × Int)} : OnlyOut [.time, .met, .arch] s (execNandTempRead dt temps s) :=
  .ite (.next (.foldl (fun _ _ h => onArch_only (by decide) (onDie_only (by decide) h)) (onArch_only (by decide)
    (ticked_only (by decide))))) (.ticked (by decide))

theorem execNandOperationTimeout_frame {die : Nat} : OnlyOut [.time, .met, .arch] s (execNandOperationTimeout dt die s) :=
  .ite (.next (onDie_only (by decide) (ticked_only (by decide)))) (.ticked (by decide))

theorem execEventCopy_frame : OnlyOut [.time, .met, .arch] s (execEventCopy dt s) :=
  .ite (.next (.ite (ticked_only (by decide)) (storePage_only (by decide) (ticked_only (by decide))))) (.ticked (by decide))

theorem execHostBlockRequest_frame {ring : Nat} {data : List (List Byte)} :
    OnlyOut [.hosts, .time, .met, .arch] s (execHostBlockRequest dt ring data s) := by
  have htaken : ∀ q : RingSt, Only [.hosts, .time, .met, .arch] s (setRing q (tick dt s)) := fun _ =>
    setRing_only (by decide) (ticked_only (by decide))
  refine .ite (.ticked (by decide)) ?_
  split
  · exact .ticked (by decide)
  · split
    · refine .ite (.ticked (by decide)) (.ite (.ticked (by decide)) (.ite (.next ?refused) (.ite ?write (.ite ?trim (.ite (.next ?flush)
        (.next ?read))))))
      case refused => exact onArch_only (by decide) (htaken _)
      case flush => exact onArch_only (by decide) (htaken _)
      case read => exact onArch_only (by decide) (htaken _)
      case write =>
        dsimp only
        split
        · exact .ticked (by decide)
        next hw =>
          exact .next (onArch_only (by decide) (setRing_only (by decide) (onArch_only (by decide)
            (OnlyOptP.get hw (writeSectors_only (by decide) (ticked_only (by decide)))))))
      case trim =>
        dsimp only
        split
        · exact .ticked (by decide)
        next hw =>
          exact .next (onArch_only (by decide) (setRing_only (by decide) (OnlyOptP.get hw (trimSectors_only (by decide)
            (ticked_only (by decide))))))
    · exact .ticked (by decide)

theorem execHostBlockComplete_frame {n : Nat} : OnlyOut [.hosts, .time, .met, .arch] s (execHostBlockComplete dt n s) := by
  have hread : ∀ (b : Prop) [Decidable b] (f : ArchSt → ArchSt),
      Only [.hosts, .time, .met, .arch] s (if b then (tick dt s).onArch f else tick dt s) := fun _ _ _ =>
    .ite (onArch_only (by decide) (ticked_only (by decide))) (ticked_only (by decide))
  refine .ite (.ticked (by decide)) ?_
  split
  · exact .ticked (by decide)
  · refine .ite ?_ (.next (.ite (flushStripe_only (by decide) (ticked_only (by decide))) (ticked_only (by decide))))
    dsimp only
    split
    next hp => exact .next (OnlyOpt.get hp (pushRing_only (by decide) (onArch_only (by decide) (hread _ _))))
    next => exact .next (hread _ _)

theorem execArchQueryScan_frame {host : Nat} {corr : List Nat} {step : Nat} {second : Option Nat} :
    OnlyOut [.hosts, .time, .fab, .evt, .met, .arch] s (execArchQueryScan dt host corr step second s) := by
  refine .ite ?_ (.ticked (by decide))
  split
  · exact .ticked (by decide)
  next hq =>
    have hwork := queryAtWork_only (bs := [.hosts, .time, .fab, .evt, .met, .arch]) (by decide) (ticked_only (by decide)) _ _ hq
    exact .next (onArch_only (by decide) (pushFound_only (by decide) (.ite2 (scanPage_only (by decide) hwork) hwork)))

theorem execFormatComplete_frame :
    OnlyOut [.hosts, .time, .evt, .met, .sess, .vee, .bal, .arch, .upl, .free] s (execFormatComplete dt s) := by
  refine .ite ?_ (.ticked (by decide))
  split
  · exact .next (setAlarm_only (by decide) (onArch_only (by decide) (ticked_only (by decide))))
  · have hformatted : ∀ (groups : List (List Nat)) (pages spare : Nat) (f : EvtSt → EvtSt),
        Only [.hosts, .time, .evt, .met, .sess, .vee, .bal, .arch, .upl, .free] s
          ((formatted groups pages spare (tick dt s)).onEvt f) := fun _ _ _ _ =>
      onEvt_only (by decide) (formatted_only (by decide) (ticked_only (by decide)))
    exact .next (.ite (hformatted _ _ _ _) (raiseCode_only (by decide) (hformatted _ _ _ _)))

/-- Each command of the three families keeps the blocks that `touches` does not list for it. -/
theorem exec_touches_of_data {c : Instr} (hc : [Family.vee, .bal, .arch].contains (family c) = true) :
    OnlyOut (touches c) s (exec c s) := by
  cases c with
  | validate => exact execValidate_frame
  | veeProfileSet => exact runCmd_frame rfl fun _ _ => veeProfileSet_only rfl
  | veeShapeSet => exact runCmd_frame rfl fun _ _ => veeShapeSet_only rfl
  | veeMeterSet => exact runCmd_frame rfl fun _ _ => veeMeterSet_only rfl
  | veeEdit => exact runCmd_frame rfl fun _ _ => veeEdit_only rfl
  | veeEstimate => exact runCmd_frame rfl fun _ _ => veeEstimate_only rfl
  | veeCounters => exact runCmd_frame rfl fun _ _ => veeCounters_only rfl
  | topoSample => exact execTopoSample_frame
  | balCompile => exact execBalCompile_frame
  | topoRead => exact runCmd_frame rfl fun _ _ => topoRead_only rfl
  | topoPin => exact runCmd_frame rfl fun _ _ => topoPin_only rfl
  | balFeederSet => exact runCmd_frame rfl fun _ _ => balFeederSet_only rfl
  | balReportRead => exact runCmd_frame rfl fun _ _ => balReportRead_only rfl
  | scoreRead => exact runCmd_frame rfl fun _ _ => scoreRead_only rfl
  | balCounters => exact runCmd_frame rfl fun _ _ => balCounters_only rfl
  | balRecompile => exact runCmd_frame rfl fun _ _ => balRecompile_only rfl
  | recordPack => exact execRecordPack_frame
  | pageFlush => exact execPageFlush_frame
  | pageProgramDone => exact execPageProgramDone_frame
  | dieFail => exact execDieFail_frame
  | dieRebuildDone => exact execDieRebuildDone_frame
  | spaceRecovery => exact execSpaceRecovery_frame
  | patrolRead => exact execPatrolRead_frame
  | nandTempRead => exact execNandTempRead_frame
  | hostBlockRequest => exact execHostBlockRequest_frame
  | hostBlockComplete => exact execHostBlockComplete_frame
  | archQueryScan => exact execArchQueryScan_frame
  | eventCopy => exact execEventCopy_frame
  | archHealth => exact runCmd_frame rfl fun _ _ => archHealth_only rfl
  | archDieRead => exact runCmd_frame rfl fun _ _ => archDieRead_only rfl
  | archQuery => exact runCmd_frame rfl fun _ _ => archQuery_only rfl
  | archQueryCancel => exact runCmd_frame rfl fun _ _ => archQueryCancel_only rfl
  | archFormat => exact runCmd_frame rfl fun _ _ => archFormat_only rfl
  | archDieRetire => exact runCmd_frame rfl fun _ _ => archDieRetire_only rfl
  | formatComplete => exact execFormatComplete_frame
  | nandOperationTimeout => exact execNandOperationTimeout_frame
  | _ => exact absurd hc Bool.false_ne_true

end Frames

/-- Settles O9: each command changes at most the blocks of the operations it is made of, and `touches` lists them. -/
theorem framesOfTheData : Obligations.FramesOfTheData :=
  fun _ _ t hf he => exec_touches_of_data (List.contains_iff_mem.mpr hf) t he

end Sys2Proof.Machine
end

section
/-! PROOFS. The statements of sessions and ingest: the ingest pipeline. -/

namespace Sys2Proof.Machine

open Host (Outcome)

/-- A command completes when it does from each state that it finds once its time has passed. -/
theorem Completes.of {c : Nat → Instr} {pre : State → Prop} {post : State → State → Prop}
    (h : ∀ dt s u, tick dt s = u → pre u → ∃ t, exec (c dt) s = .next t ∧ post u t) : Completes c pre post :=
  fun dt s hp => h dt s _ rfl hp

/-! ### The session block (R402) -/

theorem onSess_congr {f g : SessSt → SessSt} {s : State} (h : f s.sess = g s.sess) : s.onSess f = s.onSess g :=
  congrArg (fun b => { s with sess := b }) h

/-- Back-pressure changes the pressure and nothing else of the session block. -/
theorem refreshPressure_sess (s : State) : (refreshPressure s).sess = { s.sess with pressure := (refreshPressure s).sess.pressure } := by
  have hgrant : ∀ z : State, (grantCredit z).sess = z.sess := fun z =>
    grantCredit_only (bs := [.upl]) (by decide) (Only.refl _ z) .sess (by decide)
  unfold refreshPressure
  dsimp only
  generalize (if stagingSlots s * 75 ≤ stagingUsed s * 100 then true
    else if stagingUsed s * 100 < stagingSlots s * 50 then false else s.sess.pressure) = p
  by_cases hp : p = s.sess.pressure
  · rw [if_pos hp]
  · rw [if_neg hp, hgrant]
    rfl

/-! ### Queues with nothing held behind them (R48, R49, R403) -/

section Queues
variable {u : State}

theorem refill_empty {α : Type} (n : Nat) (ring : List α) : refill n ring [] = (ring, []) := by simp [refill]

/-- A push that its ring takes is not counted. -/
theorem countPush_room {α : Type} {q : Nat} {ring held : List α} (hheld : held = []) (hroom : ring.length < Config.ringDepth q) :
    countPush q ring held u = u :=
  if_pos (by simp [hheld, hroom])

theorem popQ2_front {e : Q2Entry} {rest : List Q2Entry} (hq : u.sess.q2 = e :: rest) (hheld : u.sess.q2Held = []) :
    popQ2 u = u.onSess fun b => { b with q2 := rest } := by
  refine onSess_congr ?_
  rw [hq, hheld, List.drop_one, List.tail_cons, refill_empty]

theorem popQ3_front {q : Parsed} {rest : List Parsed} (hq : u.sess.q3 = q :: rest) (hheld : u.sess.q3Held = []) :
    popQ3 u = u.onSess fun b => { b with q3 := rest } := by
  refine onSess_congr ?_
  rw [hq, hheld, List.drop_one, List.tail_cons, refill_empty]

/-- An unpacked frame stands at the end of Q2 again while Q2 has room (R371). -/
theorem pushBack_room {e : Q2Entry} (hheld : u.sess.q2Held = []) (hroom : u.sess.q2.length < Config.ringDepth 2) :
    pushBack e u = u.onSess fun b => { b with q2 := b.q2 ++ [e] } := by
  unfold pushBack
  rw [countPush_room hheld hroom]
  refine onSess_congr ?_
  rw [hheld, pushOrHold_room _ hroom]

end Queues

/-! ### Unpacking (R331, R371) -/

/-- The frame that has waited longest is dropped and counted, or pushed back onto Q2. -/
theorem exec_firmwareUnpack {dt : Nat} {s u : State} {e : Q2Entry} {rest : List Q2Entry} (hu : tick dt s = u)
    (hon : ingestRuns u = true) (hwait : u.sess.unpackWait = e :: rest) :
    exec (.firmwareUnpack dt) s = if e.security || !e.fwUnpackable
      then .next (refreshPressure (u.onSess fun b => { b with unpackWait := rest, notDlms := inc32 b.notDlms }))
      else .next (pushBack { e with notUnpacked := false } (u.onSess fun b => { b with unpackWait := rest })) := by
  subst hu
  refine (if_pos hon).trans ?_
  rw [hwait]
  rfl

/-! ### Lookup (R48, R369, R371, R378, R379) -/

/-- The stage takes an entry: the pipeline runs, the second's APDUs are not spent, and Q3 refuses none (R401, R403). -/
structure StageOpen (u : State) : Prop where
  runs : ingestRuns u = true
  limit : u.sess.apdus < apduLimit u
  room : u.sess.q3Held = []

section Stage
variable {dt : Nat} {s u t : State} {e : Q2Entry} {rest : List Q2Entry}

theorem StageOpen.takes (h : StageOpen u) : (ingestRuns u && u.sess.apdus < apduLimit u && u.sess.q3Held.isEmpty) = true := by
  simp [h.runs, h.limit, h.room]

theorem exec_sessionStage_aside (hu : tick dt s = u) (h : StageOpen u) (hnext : nextApdu u = (.aside, t)) :
    exec (.sessionStage dt) s = .next t := by
  subst hu
  refine (if_pos h.takes).trans ?_
  rw [hnext]

theorem exec_sessionStage_run (hu : tick dt s = u) (h : StageOpen u) (hnext : nextApdu u = (.run e, t)) :
    exec (.sessionStage dt) s = .next (refreshPressure (stage e (t.onSess fun b => { b with apdus := b.apdus + 1 }))) := by
  subst hu
  refine (if_pos h.takes).trans ?_
  rw [hnext]

/-- The entry at the head of Q2 is what the lookup finds next: nothing stands behind an earlier APDU, nor behind Q2 (R48, R369). -/
structure AtFront (u : State) (e : Q2Entry) (rest : List Q2Entry) : Prop where
  behind : u.sess.behind = []
  front : u.sess.q2 = e :: rest
  held : u.sess.q2Held = []

/-- The head of Q2 goes to firmware, behind an earlier APDU of its meter, or through IG3 (R369, R371). -/
theorem nextApdu_front (h : AtFront u e rest) : nextApdu u =
    if e.notUnpacked || e.security then (.aside, u.onSess fun b => { b with q2 := rest, unpackWait := b.unpackWait ++ [e] })
    else if waitsBehind u e then (.aside, u.onSess fun b => { b with q2 := rest, behind := b.behind ++ [e] })
    else (.run e, u.onSess fun b => { b with q2 := rest }) := by
  have hpop := popQ2_front h.front h.held
  unfold nextApdu
  rw [h.behind, h.front]
  dsimp only [List.find?_nil]
  rw [hpop]
  rfl

theorem nextApdu_packed (h : AtFront u e rest) (hpacked : e.notUnpacked = true ∨ e.security = true) :
    nextApdu u = (.aside, u.onSess fun b => { b with q2 := rest, unpackWait := b.unpackWait ++ [e] }) :=
  (nextApdu_front h).trans (if_pos (Bool.or_eq_true_iff.mpr hpacked))

theorem nextApdu_run (h : AtFront u e rest) (hunpacked : e.notUnpacked = false) (hsecurity : e.security = false)
    (hwaits : waitsBehind u e = false) : nextApdu u = (.run e, u.onSess fun b => { b with q2 := rest }) := by
  rw [nextApdu_front h, hunpacked, hsecurity, hwaits]
  rfl

/-- The head of Q2 has left it for IG3, counted against the second's APDUs (R401). -/
def onStage (rest : List Q2Entry) (s : State) : State :=
  (s.onSess fun b => { b with q2 := rest }).onSess fun b => { b with apdus := b.apdus + 1 }

theorem exec_sessionStage_front (hu : tick dt s = u) (h : StageOpen u) (hfront : AtFront u e rest) (hunpacked : e.notUnpacked = false)
    (hsecurity : e.security = false) (hwaits : waitsBehind u e = false) :
    exec (.sessionStage dt) s = .next (refreshPressure (stage e (onStage rest u))) :=
  exec_sessionStage_run hu h (nextApdu_run hfront hunpacked hsecurity hwaits)

theorem waitsBehind_unknown (hmeter : meterOf u e = none) : waitsBehind u e = false := by
  unfold waitsBehind
  rw [hmeter]

/-- An entry without a meter waits for joining, counted (R378). -/
theorem stage_unknown (hmeter : meterOf u e = none) :
    stage e u = u.onSess fun b => { b with unknownTitle := inc32 b.unknownTitle, joining := b.joining ++ [e] } := by
  unfold stage
  rw [hmeter]

/-- An entry of a retired meter is dropped, counted (R379). -/
theorem stage_retired {m : Nat} {c : MeterCtx} (hmeter : meterOf u e = some m) (hctx : ctxOf u m = some c)
    (hretired : c.state = .retired) : stage e u = (takeHot m u).onSess fun b => { b with retiredDrop := inc32 b.retiredDrop } := by
  unfold stage
  rw [hmeter]
  dsimp only
  rw [hctx]
  exact if_pos (by rw [hretired]; rfl)

end Stage

/-! ### Signatures (R380–R382, R401) -/

/-- The signed APDU that has waited longest is verified: the pipeline runs, the second's signatures are not spent, and Q3 refuses no
APDU (R401, R403). -/
structure SigTaken (u : State) (w : SigWait) (rest : List SigWait) : Prop where
  runs : ingestRuns u = true
  limit : u.sess.sigs < 20000
  room : u.sess.q3Held = []
  front : u.sess.sigWait = w :: rest

/-- A good signature has been counted (R382). -/
def sigGood (rest : List SigWait) (s : State) : State :=
  s.onSess fun b => { b with sigWait := rest, sigs := b.sigs + 1, sigOk := inc32 b.sigOk }

section Signatures
variable {dt : Nat} {s u : State} {w : SigWait} {rest : List SigWait} {c : MeterCtx}

theorem SigTaken.takes (h : SigTaken u w rest) : (ingestRuns u && u.sess.sigs < 20000 && u.sess.q3Held.isEmpty) = true := by
  simp [h.runs, h.limit, h.room]

theorem exec_ecdsaVerify_bad (hu : tick dt s = u) (h : SigTaken u w rest) : exec (.ecdsaVerify dt false) s =
    .next (refreshPressure (u.onSess fun b => { b with sigWait := rest, sigs := b.sigs + 1, sigFail := inc32 b.sigFail })) := by
  subst hu
  refine (if_pos h.takes).trans ?_
  rw [h.front]
  rfl

/-- A good signature under a key that the meter has: the content it covers is opened, parsed or refused (R380–R382). -/
theorem exec_ecdsaVerify_good (hu : tick dt s = u) (h : SigTaken u w rest) (hctx : ctxOf u w.meter = some c) (hkey : c.signPub ≠ 0) :
    exec (.ecdsaVerify dt true) s =
      if w.entry.apdu.signedCiphered then .next (refreshPressure (cipheredIn w.meter w.entry true (sigGood rest u)))
      else if plainTag w.entry.apdu.body then
        .next (refreshPressure (parseAccepted w.meter w.entry true (readApdu w.entry.apdu.body)
          (frameContact w.meter w.entry (verified w.meter (sigGood rest u)))))
      else .next (refreshPressure (countAuthFail (sigGood rest u))) := by
  subst hu
  have hknown : ((((ctxOf (tick dt s) w.meter).map (·.signPub)).getD 0) != 0) = true := by simp [hctx, hkey]
  refine (if_pos h.takes).trans ?_
  rw [h.front]
  refine (if_neg ?_).trans rfl
  change ¬ (!(true && ((((ctxOf (tick dt s) w.meter).map (·.signPub)).getD 0) != 0))) = true
  rw [hknown]
  decide

end Signatures

/-! ### Normalisation (R389, R392–R400) -/

section Normalise
variable {dt : Nat} {s u : State} {q : Parsed} {c : MeterCtx}

/-- The cluster that normalises takes the APDU at the head of Q3: it runs, Q4 refuses no record, and nothing stands behind Q3 (R403). -/
structure NormTaken (u : State) (q : Parsed) (rest : List Parsed) : Prop where
  runs : ingestRuns u = true
  works : workTakes u .normalise 3 = true
  room : u.sess.q4Held = []
  front : u.sess.q3 = q :: rest
  held : u.sess.q3Held = []

/-- The head of Q3 has left it. -/
def offQ3 (rest : List Parsed) (s : State) : State := s.onSess fun b => { b with q3 := rest }

theorem exec_normalise {rest : List Parsed} (hu : tick dt s = u) (h : NormTaken u q rest) (hctx : (ctxOf u q.meter).isSome = true) :
    exec (.normalise dt) s = .next (refreshPressure (normalise q (offQ3 rest u))) := by
  subst hu
  have hpop := popQ3_front h.front h.held
  refine (if_pos (by simp only [h.runs, h.works, h.room]; rfl)).trans ?_
  rw [h.front]
  dsimp only
  rw [hpop]
  exact congrArg (fun t => Outcome.next (refreshPressure t)) (if_pos hctx)

theorem normalise_repeated (hrepeated : q.repeated = true) :
    normalise q u = u.onSess fun b => { b with dupApdu := inc32 b.dupApdu } := if_pos hrepeated

theorem normalise_rows {inv : Nat} {rows : List (List Axdr)} (hfresh : q.repeated = false) (hplain : q.plain = .getResponse inv rows) :
    normalise q u = rowsWithoutTime q rows u := by
  unfold normalise
  rw [hfresh, hplain]
  rfl

/-- The records of a meter's rows that carry no meter time, and how many repeat another (R105, R391, R398). -/
def keptRows (u : State) (q : Parsed) (c : MeterCtx) (rows : List (List Axdr)) : List Record × Nat :=
  dedup (rowRecords u q (parseProfile u c.parseProfile) (placeLast u c (parseProfile u c.parseProfile).guardMc) rows none) []

/-- What the rows of an APDU become rests on nothing of the session block. -/
theorem rowRecords_onSess {f : SessSt → SessSt} {p : ParseProfile} {pl : Placing} (rows : List (List Axdr)) (prev : Option (Nat × Bool)) :
    rowRecords (u.onSess f) q p pl rows prev = rowRecords u q p pl rows prev := by
  induction rows generalizing prev with
  | nil => rfl
  | cons row rest ih =>
    unfold rowRecords
    dsimp only
    rw [ih]
    rfl

theorem keptRows_offQ3 (rest : List Parsed) (rows : List (List Axdr)) : keptRows (offQ3 rest u) q c rows = keptRows u q c rows :=
  congrArg (dedup · []) (rowRecords_onSess rows none)

/-- Records go on at once where the Yoke holds none and no earlier APDU is held (R398–R400). -/
theorem sendOn_free {recs : List Record} (hyoke : holdsForYoke u = false) (hheld : u.sess.held = []) : sendOn q recs u =
    pushMeterRecords q.meter (dedup recs []).1 (u.onSess fun b => { b with dupRecord := w32 (b.dupRecord + (dedup recs []).2) }) := by
  refine if_neg ?_
  change ¬ ((holdsForYoke u && u.pair.ackedJseq < q.jseq) || u.sess.held.any fun h => h.meter == q.meter) = true
  rw [hyoke, hheld]
  exact Bool.false_ne_true

theorem rowsWithoutTime_free {rows : List (List Axdr)} (hctx : ctxOf u q.meter = some c) (hyoke : holdsForYoke u = false)
    (hheld : u.sess.held = []) : rowsWithoutTime q rows u = pushMeterRecords q.meter (keptRows u q c rows).1
      (u.onSess fun b => { b with dupRecord := w32 (b.dupRecord + (keptRows u q c rows).2) }) := by
  unfold rowsWithoutTime
  dsimp only
  rw [hctx, Option.getD_some, sendOn_free hyoke hheld]
  rfl

end Normalise

/-! ### The end of a hold for the Yoke (R400, R740) -/

/-- The partner is told SYNC_LOST and mirroring stops. -/
def stopHold (s : State) : State := s.onPair fun p =>
  { p.send .syncLost with holdReleases := inc32 p.holdReleases, mirroring := false, lostSent := true, journalOpen := false, journal := [] }

/-- The loss of the partner's copy in the alarm and one event (R740). -/
def alarmSyncLost (s : State) : State := setAlarm 0x400 (raise .syncLost 0x60 [] s)

section SyncLost
variable {u z : State}

theorem alarmSyncLost_frame (z : State) : Only [.hosts, .evt] z (alarmSyncLost z) := setAlarm_only (by decide) (raise_frame _ _ _ z)

theorem alarmSyncLost_sess : (alarmSyncLost z).sess = z.sess := alarmSyncLost_frame z .sess (by decide)
theorem alarmSyncLost_pair : (alarmSyncLost z).pair = z.pair := alarmSyncLost_frame z .pair (by decide)

theorem alarmSyncLost_alarmN : (alarmSyncLost z).hosts.alarmN.getLsbD 10 = true := by
  rw [alarmSyncLost, setAlarm_alarmN, BitVec.getLsbD_or]
  simp

theorem alarmSyncLost_logged (hq : z.evt.q10 = u.evt.q10) (hstage : z.pwr.stage = u.pwr.stage) :
    Logged .syncLost 0x60 [] u (alarmSyncLost z) := (logged_raise hq hstage).of_q10 rfl

end SyncLost

/-- After 1 mc a held APDU without records leaves, and mirroring stops. -/
theorem exec_pairHoldTimeout {dt : Nat} {s u : State} {x : HeldApdu} (hu : tick dt s = u) (hheld : u.sess.held = [x])
    (hon : ingestRuns u = true) (hlate : x.key + mc ≤ u.key) (hempty : x.recs = []) (hyoke : holdsForYoke u = true) :
    exec (.pairHoldTimeout dt) s =
      .next (alarmSyncLost (stopHold (u.onSess fun b => { b with held := [] }))) := by
  subst hu
  have hrelease : [x].foldl (fun s h => pushMeterRecords h.meter h.recs s) ((tick dt s).onSess fun b => { b with held := [] }) =
      (tick dt s).onSess fun b => { b with held := [] } := by
    rw [List.foldl_cons, hempty]
    rfl
  change execPairHoldTimeout dt s = _
  unfold execPairHoldTimeout
  dsimp only
  rw [hheld]
  dsimp only
  rw [if_pos (by rw [hon, decide_eq_true hlate]; rfl), hrelease, if_neg]
  · rfl
  · change ¬ (!holdsForYoke (tick dt s)) = true
    rw [hyoke]
    decide

/-! ### The events of a context (R375, R384, R389) -/

section Contexts
variable {dt m : Nat} {s u : State} {c : MeterCtx}

theorem exec_datablockTimeout (hu : tick dt s = u) (hctx : ctxOf u m = some c) (hon : ingestRuns u = true) (hopen : c.db.active = true)
    (hlate : c.db.lastKey + 3000 * mc ≤ u.key) :
    exec (.datablockTimeout dt m) s = .next (parseDrop m (onCtx m (fun x => { x with db := {} }) u)) := by
  subst hu
  change execDatablockTimeout dt m s = _
  unfold execDatablockTimeout
  dsimp only
  rw [hctx]
  exact if_pos (by rw [hon, hopen, decide_eq_true hlate]; rfl)

theorem exec_prevKeyExpire (hu : tick dt s = u) (hctx : ctxOf u m = some c) (hon : u.pwr.stage = .running) (hprev : c.prevHeld = true)
    (hlate : c.keyChangeKey + keySpan ≤ u.key) :
    exec (.prevKeyExpire dt m) s = .next (onCtx m (fun x => { x with prevHeld := false, wrapPrevEk := 0 }) u) := by
  subst hu
  change execPrevKeyExpire dt m s = _
  unfold execPrevKeyExpire
  dsimp only
  rw [hctx]
  exact if_pos (by rw [hon, hprev, decide_eq_true hlate]; rfl)

/-- A change of a context is the session block's, with the events, the deltas and the pages written back. -/
theorem onCtx_frame (m : Nat) (f : MeterCtx → MeterCtx) (s : State) : Only [.sess, .hosts, .evt, .pair, .arch] s (onCtx m f s) :=
  onCtx_only (by decide) (Only.refl _ s)

/-- An exception that firmware drops is counted, besides its event (R388). -/
theorem parseDrop_sess (m : Nat) (s : State) : (parseDrop m s).sess = { s.sess with parseExcept := inc32 s.sess.parseExcept } :=
  raise_frame .apduDropped srcSup (leBytes 4 m) _ .sess (by decide)

theorem parseDrop_logged (m : Nat) (s : State) : Logged .apduDropped srcSup (leBytes 4 m) s (parseDrop m s) := logged_raise rfl rfl

end Contexts

/-- Settles O37: each stage passes its checks on the item at the front of its queue, and its effect is that of the operation on it. A packed
entry set aside at the head of Q2 and the meter in the detail of the event of a dropped APDU are the model's (log entries 466 and 31). -/
theorem ingestPipeline : Obligations.IngestPipeline := by
  unfold Obligations.IngestPipeline
  refine ⟨fun e rest => .of ?unpacked, fun e rest => .of ?dropped, fun e rest => .of ?packed, fun e rest => .of ?unknown,
    fun e rest m c => .of ?retired, fun w rest => .of ?badSig, fun w rest c => .of ?noContent, fun w rest c => .of ?ciphered,
    fun w rest c => .of ?plain, fun q rest => .of ?repeated, fun q rest c inv rows => .of ?rows, fun x => .of ?hold,
    fun m c => .of ?datablock, fun m c => .of ?prevKey, fun m => .of ?writeback, .of ?second, .of ?early⟩
  case unpacked =>
    rintro dt s u hu ⟨hon, hwait, hsecurity, hknown, hheld, hroom⟩
    refine ⟨_, (exec_firmwareUnpack hu hon hwait).trans (if_neg (by simp [hsecurity, hknown])), ?_⟩
    exact pushBack_room (u := u.onSess fun b => { b with unpackWait := rest }) hheld hroom
  case dropped =>
    rintro dt s u hu ⟨hon, hwait, hbad⟩
    exact ⟨_, (exec_firmwareUnpack hu hon hwait).trans (if_pos (by simpa using hbad)), rfl⟩
  case packed =>
    rintro dt s u hu ⟨hon, hlimit, hroom, hbehind, hq, hheld, hpacked⟩
    exact ⟨_, exec_sessionStage_aside hu ⟨hon, hlimit, hroom⟩ (nextApdu_packed ⟨hbehind, hq, hheld⟩ hpacked), rfl⟩
  case unknown =>
    rintro dt s u hu ⟨hon, hlimit, hroom, hbehind, hq, hheld, hunpacked, hsecurity, hmeter⟩
    exact ⟨_, exec_sessionStage_front hu ⟨hon, hlimit, hroom⟩ ⟨hbehind, hq, hheld⟩ hunpacked hsecurity (waitsBehind_unknown hmeter),
      congrArg refreshPressure (stage_unknown (u := onStage rest u) hmeter)⟩
  case retired =>
    rintro dt s u hu ⟨hon, hlimit, hroom, hbehind, hq, hheld, hunpacked, hsecurity, hwaits, hmeter, hctx, hretired⟩
    refine ⟨_, exec_sessionStage_front hu ⟨hon, hlimit, hroom⟩ ⟨hbehind, hq, hheld⟩ hunpacked hsecurity hwaits, ?_⟩
    rw [stage_retired (u := onStage rest u) hmeter hctx hretired, refreshPressure_sess]
    exact ⟨rfl, rfl, rfl, rfl, rfl⟩
  case badSig =>
    rintro dt s u hu ⟨hon, hlimit, hroom, hw⟩
    exact ⟨_, exec_ecdsaVerify_bad hu ⟨hon, hlimit, hroom, hw⟩, rfl⟩
  case noContent =>
    rintro dt s u hu ⟨hon, hlimit, hroom, hw, hctx, hkey, hopen, htag⟩
    exact ⟨_, (exec_ecdsaVerify_good hu ⟨hon, hlimit, hroom, hw⟩ hctx hkey).trans (by rw [hopen, htag]; rfl), rfl⟩
  case ciphered =>
    rintro dt s u hu ⟨hon, hlimit, hroom, hw, hctx, hkey, hciphered⟩
    exact ⟨_, (exec_ecdsaVerify_good hu ⟨hon, hlimit, hroom, hw⟩ hctx hkey).trans (if_pos hciphered), rfl⟩
  case plain =>
    rintro dt s u hu ⟨hon, hlimit, hroom, hw, hctx, hkey, hopen, htag⟩
    exact ⟨_, (exec_ecdsaVerify_good hu ⟨hon, hlimit, hroom, hw⟩ hctx hkey).trans (by rw [hopen, htag]; rfl), rfl⟩
  case repeated =>
    rintro dt s u hu ⟨hon, hworks, hroom, hq, hheld, hrepeated, hctx⟩
    exact ⟨_, exec_normalise hu ⟨hon, hworks, hroom, hq, hheld⟩ hctx, congrArg refreshPressure (normalise_repeated hrepeated)⟩
  case rows =>
    rintro dt s u hu ⟨hon, hworks, hroom, hq, hheld, hfresh, hctx, hplain, hyoke, hnone⟩
    refine ⟨_, exec_normalise hu ⟨hon, hworks, hroom, hq, hheld⟩ (by rw [hctx]; rfl), ?_⟩
    rw [normalise_rows hfresh hplain, rowsWithoutTime_free (u := offQ3 rest u) hctx hyoke hnone, keptRows_offQ3, refreshPressure_sess]
    obtain ⟨hq3, hdup, hq4⟩ := pushMeterRecords_sess q.meter (keptRows u q c rows).1
      ((offQ3 rest u).onSess fun b => { b with dupRecord := w32 (b.dupRecord + (keptRows u q c rows).2) })
    refine ⟨hq3, hdup, hq4.trans ?_⟩
    change List.map _ (u.sess.q4 ++ u.sess.q4Held ++ _) = _
    rw [hroom, List.append_nil]
    rfl
  case hold =>
    rintro dt s u hu ⟨hheld, hon, hlate, hempty, hyoke⟩
    refine ⟨_, exec_pairHoldTimeout hu hheld hon hlate hempty hyoke, ?_⟩
    rw [alarmSyncLost_sess, alarmSyncLost_pair]
    exact ⟨rfl, rfl, rfl, rfl, rfl, alarmSyncLost_alarmN, alarmSyncLost_logged rfl rfl⟩
  case datablock =>
    rintro dt s u hu ⟨hctx, hon, hopen, hlate⟩
    refine ⟨_, exec_datablockTimeout hu hctx hon hopen hlate, ?_, ?_, parseDrop_logged _ _⟩
    · rw [ctxOf, parseDrop_sess]
      exact ctxOf_onCtx.trans (by rw [hctx]; rfl)
    · rw [parseDrop_sess, onCtx_sess]
  case prevKey =>
    rintro dt s u hu ⟨hctx, hon, hprev, hlate⟩
    refine ⟨_, exec_prevKeyExpire hu hctx hon hprev hlate, ?_, by rw [onCtx_sess], onCtx_frame _ _ _⟩
    rw [ctxOf_onCtx, hctx]
    rfl
  case writeback =>
    rintro dt s u rfl ⟨hruns, hdirty⟩
    exact ⟨_, if_pos (by rw [hruns, hdirty]; rfl), rfl, fun hidle => if_neg (by simp [hidle]),
      writeBack_only (by decide) (Only.refl _ _)⟩
  case second =>
    rintro dt s u rfl ⟨halive, hlate⟩
    exact ⟨_, if_pos (by rw [halive, decide_eq_true hlate]; rfl), rfl⟩
  case early =>
    rintro dt s u rfl hearly
    exact ⟨_, if_neg (by rw [decide_eq_false (Nat.not_le.mpr hearly), Bool.and_false]; exact Bool.false_ne_true), rfl⟩

end Sys2Proof.Machine
end

section
/-! PROOFS. The statements of validation, estimation and editing. -/

namespace Sys2Proof.Machine

open Host (Outcome)

/-! ### What IG7 makes of a record's marks (R430, R431, R433) -/

/-- QUALITY with ORIGIN, STANDS and VERSION over its low byte (R430). -/
def markQuality (origin : Nat) (stands : Bool) (version : Nat) (low : BitVec 16) : BitVec 16 :=
  (low &&& 0xFF) ||| BitVec.ofNat 16 (origin * 256 + bit stands * 1024 + version * 2048)

section Marks
variable {origin version : Nat} {stands : Bool} {low : BitVec 16} {r : Record}

theorem bit_le_one (b : Bool) : bit b ≤ 1 := by cases b <;> decide

/-- The marks lie above the low byte, side by side. -/
theorem markQuality_toNat (horigin : origin < 4) (hversion : version < 32) :
    (markQuality origin stands version low).toNat = 256 * (origin + 4 * bit stands + 8 * version) + low.toNat % 256 := by
  have hstands := bit_le_one stands
  have hlow : (low &&& 0xFF).toNat = low.toNat % 256 := Nat.and_two_pow_sub_one_eq_mod low.toNat 8
  have hmarks : (BitVec.ofNat 16 (origin * 256 + bit stands * 1024 + version * 2048)).toNat =
      2 ^ 8 * (origin + 4 * bit stands + 8 * version) := by
    rw [BitVec.toNat_ofNat, Nat.mod_eq_of_lt (by omega)]
    omega
  have hbyte : low.toNat % 256 < 2 ^ 8 := Nat.mod_lt _ (by decide)
  rw [markQuality, BitVec.toNat_or, hlow, hmarks, Nat.or_comm, ← Nat.two_pow_add_eq_or_of_lt hbyte]

theorem originOf_marked (hr : r.quality = markQuality origin stands version low) (horigin : origin < 4) (hversion : version < 32) :
    originOf r = origin := by
  rw [originOf, hr, markQuality_toNat horigin hversion]
  omega

theorem versionOf_marked (hr : r.quality = markQuality origin stands version low) (horigin : origin < 4) (hversion : version < 32) :
    versionOf r = version := by
  have hstands := bit_le_one stands
  rw [versionOf, hr, markQuality_toNat horigin hversion]
  omega

theorem standsOf_marked (hr : r.quality = markQuality origin stands version low) (horigin : origin < 4) (hversion : version < 32) :
    standsOf r = stands := by
  have hbit : (256 * (origin + 4 * bit stands + 8 * version) + low.toNat % 256) / 2 ^ 10 % 2 = bit stands := by
    have hstands := bit_le_one stands
    omega
  rw [standsOf, hr, BitVec.getLsbD, markQuality_toNat horigin hversion, Nat.testBit_eq_decide_div_mod_eq, hbit]
  cases stands <;> rfl

end Marks

/-! ### Versions and the index (R431, R434, R527) -/

section Versions
variable {origin : Nat} {stands : Option Bool} {second : Bool} {r : Record} {s : State}

/-- The first version of an interval is version 0, and stands (R431, R433). -/
theorem assignVersion_new (hnew : heldVersions s r.meter r.channel r.startTai = none) :
    (assignVersion origin none second r s).1.quality = markQuality origin true 0 r.quality := by
  unfold assignVersion markQuality
  rw [hnew]
  rfl

/-- A further version of an interval is the one after its highest (R431). -/
theorem assignVersion_next {marked : Bool} {e : VerEntry} {n : Nat} (hheld : heldVersions s r.meter r.channel r.startTai = some e)
    (hhigh : e.high = some n) :
    (assignVersion origin (some marked) second r s).1.quality = markQuality origin marked (n + 1) r.quality := by
  unfold assignVersion markQuality
  rw [hheld]
  dsimp only
  simp only [highOf, Option.bind_some, hhigh, Option.getD_some]

theorem putIndex_vee (e : VerEntry) (s : State) :
    ∃ index drops, (putIndex e s).vee = { s.vee with index := index, indexDrops := drops } := by
  unfold putIndex
  dsimp only
  split
  · exact ⟨_, s.vee.indexDrops, rfl⟩
  · split
    · exact ⟨_, _, rfl⟩
    · exact ⟨_, _, rfl⟩

/-- A version changes the index and nothing else of the validation block. -/
theorem assignVersion_vee : ∃ index drops, (assignVersion origin stands second r s).2.vee =
    { s.vee with index := index, indexDrops := drops } := by
  unfold assignVersion
  dsimp only
  split
  · exact putIndex_vee _ s
  · exact ⟨s.vee.index, s.vee.indexDrops, rfl⟩

theorem assignVersion_sess : (assignVersion origin stands second r s).2.sess = s.sess :=
  assignVersion_only (bs := [.vee]) (by decide) (Only.refl _ s) .sess (by decide)

end Versions

/-! ### Emission (R49, R403, R413) -/

/-- Q5 and Q6, with what is held behind each, have taken one record more. -/
def Emitted (x : Record) (s t : State) : Prop :=
  t.vee.q5 ++ t.vee.q5Held = s.vee.q5 ++ s.vee.q5Held ++ [x] ∧ t.vee.q6 ++ t.vee.q6Held = s.vee.q6 ++ s.vee.q6Held ++ [x]

theorem emitRecord_emitted (x : Record) (s : State) : Emitted x s (emitRecord x s) := by
  unfold Emitted
  rw [emitRecord_vee]
  exact ⟨pushOrHold_append .., pushOrHold_append ..⟩

/-- With nothing held for either ring the record is the last that stands or waits. -/
theorem Emitted.last {x : Record} {s t : State} (h : Emitted x s t) (h5 : s.vee.q5Held = []) (h6 : s.vee.q6Held = []) :
    t.vee.q5 ++ t.vee.q5Held = s.vee.q5 ++ [x] ∧ t.vee.q6 ++ t.vee.q6Held = s.vee.q6 ++ [x] := by
  rwa [Emitted, h5, h6, List.append_nil, List.append_nil] at h

/-- IG7 gives a record its version and emits it. -/
def emitVersion (origin : Nat) (stands : Option Bool) (second : Bool) (r : Record) (s : State) : State :=
  emitRecord (assignVersion origin stands second r s).1 (assignVersion origin stands second r s).2

theorem emitVersion_emitted {origin : Nat} {stands : Option Bool} {second : Bool} (r : Record) (s : State) :
    Emitted (assignVersion origin stands second r s).1 s (emitVersion origin stands second r s) := by
  obtain ⟨index, drops, hvee⟩ := assignVersion_vee (origin := origin) (stands := stands) (second := second) (r := r) (s := s)
  have h := emitRecord_emitted (assignVersion origin stands second r s).1 (assignVersion origin stands second r s).2
  rw [Emitted, hvee] at h
  exact h

theorem emitVersion_sess {origin : Nat} {stands : Option Bool} {second : Bool} (r : Record) (s : State) :
    (emitVersion origin stands second r s).sess = s.sess := (emitRecord_sess _ _).trans assignVersion_sess

/-! ### VALIDATE (R413–R415, R431, R432, R450) -/

/-- The cluster that validates takes the record at the head of Q4: it runs, Q5 and Q6 refuse no record, and nothing stands behind Q4
(R403, R413, R414). -/
structure RecordTaken (u : State) (r : Record) (rest : List Record) : Prop where
  runs : itemsRun u = true
  works : workTakes u .validate 4 = true
  room5 : u.vee.q5Held = []
  room6 : u.vee.q6Held = []
  front : u.sess.q4 = r :: rest
  held : u.sess.q4Held = []

/-- The head of Q4 has left it for IG7, counted (R450). -/
def offQ4 (rest : List Record) (s : State) : State := countVee 0 (s.onSess fun b => { b with q4 := rest })

section Validate
variable {dt : Nat} {s u : State} {r : Record} {rest : List Record}

theorem popQ4_front (hq : u.sess.q4 = r :: rest) (hheld : u.sess.q4Held = []) : popQ4 u = u.onSess fun b => { b with q4 := rest } := by
  refine onSess_congr ?_
  rw [hq, hheld, List.drop_one, List.tail_cons, refill_empty]

theorem exec_validate (hu : tick dt s = u) (h : RecordTaken u r rest) :
    exec (.validate dt) s = .next (validateRecord r (u.onSess fun b => { b with q4 := rest })) := by
  subst hu
  refine (if_pos (by simp only [h.runs, h.works, h.room5, h.room6]; rfl)).trans ?_
  rw [h.front]
  dsimp only
  rw [popQ4_front h.front h.held]

theorem validateRecord_fromChild (hchild : fromChild r = true) :
    validateRecord r (u.onSess fun b => { b with q4 := rest }) = emitRecord r (offQ4 rest u) := if_pos hchild

/-- What is read of the versions, the archive and the profiles rests on neither Q4 nor the counters. -/
theorem heldVersions_offQ4 (m ch tai : Nat) : heldVersions (offQ4 rest u) m ch tai = heldVersions u m ch tai := rfl

theorem recordsOf_offQ4 (m ch tai : Nat) : recordsOf (offQ4 rest u) m ch tai = recordsOf u m ch tai := rfl

theorem profileOf_offQ4 (m : Nat) : profileOf (offQ4 rest u) m = profileOf u m := rfl

/-- A reading that repeats the value of the latest one of its interval is counted and goes no further (R432). -/
theorem validateRecord_repeats (hown : fromChild r = false) (hknown : (heldVersions u r.meter r.channel r.startTai).isSome = true)
    (hvalue : (latestRec ((recordsOf u r.meter r.channel r.startTai).filter fun q => originOf q == 0)).map (·.value) = some r.value) :
    validateRecord r (u.onSess fun b => { b with q4 := rest }) = countVee 18 (offQ4 rest u) := by
  refine (if_neg (by rw [hown]; exact Bool.false_ne_true)).trans (if_pos ?_)
  change ((heldVersions (offQ4 rest u) r.meter r.channel r.startTai).isSome &&
    (latestRec ((recordsOf (offQ4 rest u) r.meter r.channel r.startTai).filter fun q => originOf q == 0)).map (·.value) ==
      some r.value) = true
  rw [heldVersions_offQ4, recordsOf_offQ4, hknown, hvalue, beq_self_eq_true, Bool.and_self]

/-- The record of a reading that no rule judged: NOT_VALIDATED, with its version (R429, R431; log entry 106). -/
def unvalidated (r : Record) (s : State) : Record := (assignVersion 0 none false { r with outcome := 0x4000 } s).1

theorem unvalidated_quality (hnew : heldVersions s r.meter r.channel r.startTai = none) :
    (unvalidated r s).quality = markQuality 0 true 0 r.quality := assignVersion_new hnew

/-- The first reading of an interval, under a profile without rules, is marked as not validated and goes on (R415; log entry 106). -/
theorem validateRecord_unruled (hown : fromChild r = false) (hnew : heldVersions u r.meter r.channel r.startTai = none)
    (hrules : (profileOf u r.meter).rules = []) :
    validateRecord r (u.onSess fun b => { b with q4 := rest }) =
      emitVersion 0 none false { r with outcome := 0x4000 } (offQ4 rest u) := by
  have hnew' : heldVersions (offQ4 rest u) r.meter r.channel r.startTai = none := hnew
  have hrules' : (profileOf (offQ4 rest u) r.meter).rules.isEmpty = true := by rw [profileOf_offQ4, hrules]; rfl
  refine (if_neg (by rw [hown]; exact Bool.false_ne_true)).trans ?_
  refine (if_neg ?noVersion).trans ((if_neg ?notFull).trans (if_pos hrules'))
  case noVersion =>
    change ¬ ((heldVersions (offQ4 rest u) r.meter r.channel r.startTai).isSome && _) = true
    rw [hnew']
    exact Bool.false_ne_true
  case notFull =>
    change ¬ ((highOf (heldVersions (offQ4 rest u) r.meter r.channel r.startTai)).any _) = true
    rw [hnew']
    exact Bool.false_ne_true

end Validate

/-! ### Profiles, shapes and declarations (R444–R447) -/

section Settings
variable {tk : Taken} {u : State}

theorem veeProfileSet_posts (hnumber : fld tk.payload 0 1 ≤ 31) (hok : veeProfileOk (tk.payload.drop 16) = true) :
    veeProfileSet tk u = (postWord (.vee (fld tk.payload 0 1) (veeOfBytes (tk.payload.drop 16))) u, answer .ok) :=
  if_neg (by simp [hok, hnumber])

/-- The 672 weights that the payload of VEE_SHAPE_SET spells (R446). -/
def shapeOfBytes (b : List Byte) : List Nat := (List.range 672).map fun k => fld b (8 + 4 * k) 4

theorem veeShapeSet_posts (hnumber : fld tk.payload 0 1 ≤ 63) (hweights : (shapeOfBytes tk.payload).all (· == 0) = false) :
    veeShapeSet tk u = (postWord (.shape (fld tk.payload 0 1) (shapeOfBytes tk.payload)) u, answer .ok) := by
  refine if_neg ?_
  change ¬ (decide (63 < fld tk.payload 0 1) || (shapeOfBytes tk.payload).all (· == 0)) = true
  rw [hweights, decide_eq_false (Nat.not_lt.mpr hnumber)]
  exact Bool.false_ne_true

theorem veeMeterSet_posts (hctx : (ctxOf u (fld tk.payload 0 4)).isSome = true)
    (hshape : fld tk.payload 20 1 ≤ 63 ∨ fld tk.payload 20 1 = 0xFF) (hflags : fld tk.payload 21 1 ≤ 1)
    (hcap : fld tk.payload 8 8 = 0 ∨ fld tk.payload 16 4 ≠ 0) :
    veeMeterSet tk u = (postWord (.veeMeter (fld tk.payload 0 4) (fld tk.payload 8 8) (fld tk.payload 16 4) (fld tk.payload 20 1)
      (hasBit (fld tk.payload 21 1) 0)) u, answer .ok) := by
  have hknown : (ctxOf u (fld tk.payload 0 4)).isNone = false := Option.isNone_eq_false_iff.mpr hctx
  refine if_neg ?_
  simp only [hknown, Bool.false_or, Bool.or_eq_true, Bool.and_eq_true, decide_eq_true_eq, bne_iff_ne, beq_iff_eq]
  omega

end Settings

/-! ### VEE_EDIT (R441–R443, R448) -/

section Edit
variable {m ch tai : Nat} {s u : State}

theorem latestRec_mem {l : List Record} {q : Record} (h : latestRec l = some q) : q ∈ l := by
  induction l generalizing q with
  | nil => cases h
  | cons r rest ih =>
    unfold latestRec at h
    split at h
    next => exact Option.some.inj h ▸ List.mem_cons_self
    next x hx =>
      split at h
      · exact Option.some.inj h ▸ List.mem_cons_self
      · exact Option.some.inj h ▸ List.mem_cons_of_mem _ (ih hx)

/-- The record that an edit follows: the one a reader takes of the interval, or one of its start where the archive holds none. -/
def editedRec (s : State) (m ch tai : Nat) : Record :=
  (latestRec (recordsOf s m ch tai)).getD { meter := m, channel := ch, startTai := tai, startKey := keyOfTai s tai }

theorem editedRec_interval (s : State) (m ch tai : Nat) :
    (editedRec s m ch tai).meter = m ∧ (editedRec s m ch tai).channel = ch := by
  unfold editedRec
  cases h : latestRec (recordsOf s m ch tai) with
  | none => exact ⟨rfl, rfl⟩
  | some q =>
    have hq := (List.mem_filter.mp (latestRec_mem h)).2
    simp only [Bool.and_eq_true, beq_iff_eq] at hq
    obtain ⟨⟨hmeter, hchannel⟩, -⟩ := hq
    exact ⟨hmeter, hchannel⟩

/-- The record that an edit creates, before it has a version, and the state whose SEQ it took (R435, R441). -/
def editCreated (v : Int) (like : Record) (tai : Nat) (s : State) : Record × State := createdLike like tai like.startKey v 0x2000 s

/-- The record of a host's edit: it stands (R433, R441). -/
def hostEdit (v : Int) (like : Record) (tai : Nat) (s : State) : Record :=
  (assignVersion 2 (some true) true (editCreated v like tai s).1 (editCreated v like tai s).2).1

/-- The edit is emitted. -/
def emitEdit (v : Int) (like : Record) (tai : Nat) (s : State) : State :=
  emitVersion 2 (some true) true (editCreated v like tai s).1 (editCreated v like tai s).2

theorem hostEdit_quality {v : Int} {like : Record} {e : VerEntry} {n : Nat}
    (hheld : heldVersions s like.meter like.channel tai = some e) (hhigh : e.high = some n) :
    (hostEdit v like tai s).quality = markQuality 2 true (n + 1) 0 := assignVersion_next hheld hhigh

/-- An edit takes the next SEQ (R435). -/
theorem emitEdit_seq (v : Int) (like : Record) (tai : Nat) (s : State) : (emitEdit v like tai s).sess.seq = inc32 s.sess.seq := by
  rw [emitEdit, emitVersion_sess]
  rfl

theorem emitEdit_emitted (v : Int) (like : Record) (tai : Nat) (s : State) :
    Emitted (hostEdit v like tai s) s (emitEdit v like tai s) := emitVersion_emitted _ _

/-- An edit is counted and logged, and its interval holds no measured value for SUM_CHECK any more (R428, R441, R450). -/
def noteEdit (h : Fin 4) (b : List Byte) (key : Nat) (version : Nat) (s : State) : State :=
  raise .veeEdit (0x20 + h.val)
    (leBytes 1 h.val ++ leBytes 4 (fld b 0 4) ++ leBytes 2 (fld b 4 2) ++ leBytes 8 (fld b 8 8) ++ leBytes 1 version ++
      leBytes 4 (fld b 24 4))
    (onSlot (fld b 0 4) (fld b 4 2) (fun c => { c with meas := c.meas.filter fun q => q.1 != key }) (countVee 17 s))

theorem noteEdit_sess (h : Fin 4) (b : List Byte) (key version : Nat) (s : State) : (noteEdit h b key version s).sess = s.sess :=
  raise_frame _ _ _ _ .sess (by decide)

theorem Emitted.noted {x : Record} {t : State} (hx : Emitted x s t) (h : Fin 4) (b : List Byte) (key version : Nat) :
    Emitted x s (noteEdit h b key version t) := by
  have hvee : (noteEdit h b key version t).vee = _ := raise_frame _ _ _ _ .vee (by decide)
  rw [Emitted, hvee]
  exact hx

/-- An edit of an interval with versions to spare takes the next one, which its answer gives with its SEQ (R441, R448). -/
theorem veeEdit_replaces {h : Fin 4} {tk : Taken} {e : VerEntry} {n : Nat} (hmode : fld tk.payload 6 1 = 0)
    (hown : fld tk.payload 0 4 ≠ ownMeter) (hctx : (ctxOf u (fld tk.payload 0 4)).isSome = true)
    (hheld : heldVersions u (fld tk.payload 0 4) (fld tk.payload 4 2) (fld tk.payload 8 8) = some e) (hhigh : e.high = some n)
    (hroom : n < 31) {like : Record} (hlike : editedRec u (fld tk.payload 0 4) (fld tk.payload 4 2) (fld tk.payload 8 8) = like)
    {x : Record} (hx : hostEdit (fldI tk.payload 16 8) like (fld tk.payload 8 8) u = x) :
    veeEdit h tk u = (noteEdit h tk.payload like.startKey (versionOf x) (emitEdit (fldI tk.payload 16 8) like (fld tk.payload 8 8) u),
      okWith (leBytes 1 (versionOf x) ++ leBytes 3 0 ++ leBytes 4 x.seq)) := by
  subst hx hlike
  have hspare : ¬ ((highOf (some e)).any (31 ≤ ·)) = true := by simp [highOf, hhigh, hroom]
  refine (if_neg (by simp [hmode])).trans ((if_neg (by simpa using hown)).trans ((if_neg ?unknown).trans ?_))
  case unknown =>
    rw [Option.isNone_eq_false_iff.mpr hctx]
    exact Bool.false_ne_true
  rw [hheld]
  exact (if_neg hspare).trans (if_pos hmode)

end Edit

/-! ### VEE_ESTIMATE and VEE_COUNTERS (R449, R450) -/

/-- A span without an interval has none to fill (R449). -/
theorem veeEstimate_empty {tk : Taken} {u : State} {sl : ChSlot} (hslot : slotOf u (fld tk.payload 0 4) (fld tk.payload 4 2) = some sl)
    (hpast : fld tk.payload 16 8 ≤ u.tai) (hempty : fld tk.payload 8 8 = fld tk.payload 16 8)
    (hsecond : fld tk.payload 8 8 % 1000000000 = 0)
    (hstart : utcOf u (fld tk.payload 8 8 / 1000000000) % max 1 (profileOf u (fld tk.payload 0 4)).periodS = 0) :
    veeEstimate tk u = (u, okWith (leBytes 4 0 ++ leBytes 4 0)) := by
  have hnone : ∀ per : Nat, (fld tk.payload 16 8 - fld tk.payload 8 8 + max 1 per * 1000000000 - 1) / (max 1 per * 1000000000) = 0 :=
    fun per => Nat.div_eq_of_lt (by omega)
  unfold veeEstimate
  simp [hslot, hnone, Nat.not_lt.mpr hpast, hsecond, hstart]

/-- Settles O39: each command passes its checks, and what it emits is the record with its version. A profile without rules that marks
NOT_VALIDATED alone, and the settings posted as words that commit later, are the model's (log entries 106 and 407). -/
theorem validation : Obligations.Validation := by
  unfold Obligations.Validation
  refine ⟨fun r rest => .of ?child, fun r rest => .of ?repeats, fun r rest => .of ?unruled, ?profile, ?shape, ?meter, fun e v => ?edit,
    fun sl => ?estimate, ?counters⟩
  case child =>
    rintro dt s u hu ⟨hruns, hworks, hroom5, hroom6, hq, hheld, hchild⟩
    refine ⟨_, (exec_validate hu ⟨hruns, hworks, hroom5, hroom6, hq, hheld⟩).trans
      (congrArg Outcome.next (validateRecord_fromChild hchild)), rfl, ?_⟩
    obtain ⟨h5, h6⟩ := (emitRecord_emitted r (offQ4 rest u)).last hroom5 hroom6
    exact ⟨h5, h6, by rw [emitRecord_sess]; rfl⟩
  case repeats =>
    rintro dt s u hu ⟨hruns, hworks, hroom5, hroom6, hq, hheld, hown, hknown, hvalue⟩
    exact ⟨_, exec_validate hu ⟨hruns, hworks, hroom5, hroom6, hq, hheld⟩, validateRecord_repeats hown hknown hvalue⟩
  case unruled =>
    rintro dt s u hu ⟨hruns, hworks, hroom5, hroom6, hq, hheld, hown, hnew, hrules⟩
    have hmarks := unvalidated_quality (s := offQ4 rest u) hnew
    obtain ⟨h5, h6⟩ := (emitVersion_emitted { r with outcome := 0x4000 } (offQ4 rest u)).last hroom5 hroom6
    exact ⟨_, (exec_validate hu ⟨hruns, hworks, hroom5, hroom6, hq, hheld⟩).trans
      (congrArg Outcome.next (validateRecord_unruled hown hnew hrules)), unvalidated r (offQ4 rest u), h5, h6, rfl, rfl, rfl, rfl,
      originOf_marked hmarks (by decide) (by decide), versionOf_marked hmarks (by decide) (by decide),
      standsOf_marked hmarks (by decide) (by decide), by rw [emitVersion_sess]; rfl⟩
  case profile =>
    exact Serves.of (fun _ _ _ => rfl) fun _ tk u _ ⟨hnumber, hok⟩ =>
      ⟨_, _, veeProfileSet_posts hnumber hok, ⟨rfl, rfl⟩, .inl (by decide)⟩
  case shape =>
    exact Serves.of (fun _ _ _ => rfl) fun _ tk u _ ⟨hnumber, hweights⟩ =>
      ⟨_, _, veeShapeSet_posts hnumber hweights, ⟨rfl, rfl⟩, .inl (by decide)⟩
  case meter =>
    exact Serves.of (fun _ _ _ => rfl) fun _ tk u _ ⟨hctx, hshape, hflags, hcap⟩ =>
      ⟨_, _, veeMeterSet_posts hctx hshape hflags hcap, ⟨rfl, rfl⟩, .inl (by decide)⟩
  case edit =>
    refine Serves.of (fun _ _ _ => rfl) fun h tk u _ ⟨hmode, hown, hctx, hheld, hhigh, hroom⟩ => ?_
    obtain ⟨hmeter, hchannel⟩ :=
      editedRec_interval u (fld tk.payload 0 4) (fld tk.payload 4 2) (fld tk.payload 8 8)
    have hmarks := hostEdit_quality (v := fldI tk.payload 16 8) (by rw [hmeter, hchannel]; exact hheld) hhigh
    have hversion := versionOf_marked hmarks (by decide) (by omega)
    obtain ⟨h5, h6⟩ := (emitEdit_emitted (fldI tk.payload 16 8) _ (fld tk.payload 8 8) u).noted h tk.payload _ _
    refine ⟨_, _, veeEdit_replaces hmode hown hctx hheld hhigh hroom rfl rfl, ⟨_, ?_, h5, h6, rfl,
      originOf_marked hmarks (by decide) (by omega), standsOf_marked hmarks (by decide) (by omega), hversion, rfl, ?_⟩,
      .inl (by simp [okWith])⟩
    · rw [hversion]
      rfl
    · rw [noteEdit_sess, emitEdit_seq]
  case estimate =>
    exact Serves.of (fun _ _ _ => rfl) fun _ tk u _ ⟨hslot, hpast, hempty, hsecond, hstart⟩ =>
      ⟨_, _, veeEstimate_empty hslot hpast hempty hsecond hstart, ⟨rfl, rfl⟩, .inl (by simp [okWith])⟩
  case counters =>
    exact Reads.of (fun _ _ _ => rfl) fun _ tk u hcounts =>
      ⟨_, rfl, (flatten_leBytes_length 4 u.vee.counts).trans (by rw [hcounts]), rfl⟩

end Sys2Proof.Machine
end

section
/-! PROOFS. The statements of the hub: the frames of hosts, Seam, time, recorder and configuration. -/

namespace Sys2Proof.Machine

open Host (Outcome)

section Frames
variable {bs : List Block} {s : State} {dt : Nat}

/-! ### The frames of the Seam and of the fabric (R27–R40) -/

theorem execSeamFrameReceive_frame {frame : SeamFrame SeamRx} :
    OnlyOut [.hosts, .time, .fab, .evt, .pwr, .met] s (execSeamFrameReceive dt frame s) := by
  have hcounted : ∀ f : FabSt → FabSt, Only [.hosts, .time, .fab, .evt, .pwr, .met] s ((tick dt s).onFab f) := fun _ =>
    onFab_only (by decide) (ticked_only (by decide))
  exact .ite (.ite (.next (takeUpFrame_only (by decide) (onFab_only (by decide) (hcounted _))))
    (.next (onFab_only (by decide) (hcounted _)))) (.ticked (by decide))

theorem execLineSideFrameReceive_frame {frame : SeamFrame LineRx} :
    OnlyOut [.hosts, .time, .fab, .evt, .met] s (execLineSideFrameReceive dt frame s) := by
  have hcounted : ∀ f : FabSt → FabSt, Only [.hosts, .time, .fab, .evt, .met] s ((tick dt s).onFab f) := fun _ =>
    onFab_only (by decide) (ticked_only (by decide))
  exact .ite (.ite (.next (takeDownFrame_only (by decide) (onFab_only (by decide) (hcounted _))))
    (.next (onFab_only (by decide) (hcounted _)))) (.ticked (by decide))

theorem execLegalWriteRepeat_frame : OnlyOut [.time, .fab, .met] s (execLegalWriteRepeat dt s) := by
  refine .ite ?_ (.ticked (by decide))
  split
  · exact .ticked (by decide)
  · exact .next (onFab_only (by decide) (onMet_only (by decide) (ticked_only (by decide))))

theorem execSeamResync_frame : OnlyOut [.hosts, .time, .fab, .evt, .met] s (execSeamResync dt s) := by
  have hup : Only [.hosts, .time, .fab, .evt, .met] s (seamComesUp (tick dt s)) :=
    seamComesUp_only (by decide) (ticked_only (by decide))
  exact .ite (.next (.ite (logicHears_only (by decide) hup) hup)) (.ticked (by decide))

theorem execConverterFeedbackLoss_frame : OnlyOut [.time, .fab, .met] s (execConverterFeedbackLoss dt s) :=
  .ite (.next (onFab_only (by decide) (ticked_only (by decide)))) (.ticked (by decide))

theorem execEccUncorrectable_frame {error : EccError} :
    OnlyOut [.hosts, .time, .fab, .evt, .met] s (execEccUncorrectable dt error s) := by
  unfold execEccUncorrectable
  dsimp only
  split
  · exact .next (onFab_only (by decide) (ticked_only (by decide)))
  · exact .ticked (by decide)
  · exact .next (raise_only (by decide) (onFab_only (by decide) (ticked_only (by decide))))

/-! ### The frames of hosts, mailboxes and rings (R624–R661) -/

/-- A doorbell touches its host and may wake the unit (R642, R802). -/
theorem rung_frame {h : Fin 4} {x : State} (hSub : Block.sub [.hosts, .pwr] bs = true) (hx : Only bs s x) :
    Only bs s (ringBell h (touchHost h x)) := ringBell_only (via hSub) (touchHost_only (via hSub) hx)

theorem execDoorbellCmd_frame {host : Fin 4} {hdr : CmdHeader} {payload : List Byte} :
    OnlyOut [.hosts, .time, .pwr, .met] s (execDoorbellCmd dt host hdr payload s) :=
  .ite (.ite (.next (st_setHost_only (by decide) (rung_frame (by decide) (ticked_only (by decide)))))
    (.next (rung_frame (by decide) (ticked_only (by decide))))) (.ticked (by decide))

theorem execRespAck_frame {host : Fin 4} : OnlyOut [.hosts, .time, .pwr, .met] s (execRespAck dt host s) := by
  have hrung : Only [.hosts, .time, .pwr, .met] s (ringBell host (touchHost host (tick dt s))) :=
    rung_frame (by decide) (ticked_only (by decide))
  refine .ite ?_ (.ticked (by decide))
  split
  · exact .next hrung
  · exact .next (freeEdge_only (by decide) (st_setHost_only (by decide) hrung))
  · exact .next (freeEdge_only (by decide) (st_setHost_only (by decide) hrung))

theorem execDetach_frame {host : Fin 4} : OnlyOut [.cfg, .hosts, .time, .evt, .pwr, .met, .pocket] s (execDetach dt host s) :=
  .ite (.next (freeEdge_only (by decide) (goOffline_only (by decide) (ringBell_only (by decide) (ticked_only (by decide))))))
    (.ticked (by decide))

theorem execHostOffline_frame {host : Fin 4} : OnlyOut [.cfg, .hosts, .time, .evt, .met, .pocket] s (execHostOffline dt host s) :=
  .ite (.next (freeEdge_only (by decide) (goOffline_only (by decide) (ticked_only (by decide))))) (.ticked (by decide))

/-- The answers to the commands that the arbitration turns away change their hosts alone (R646–R648). -/
theorem answered_frame {α : Type} {l : List α} {h : α → Fin 4} {tk : α → Taken} {r : α → Reply} {x : State}
    (hSub : Block.sub [.hosts] bs = true) (hx : Only bs s x) : Only bs s (l.foldl (fun s q => respond (h q) (tk q) (r q) s) x) :=
  .foldl (fun _ _ => respond_only hSub) hx

theorem execCommandTake_frame : OnlyOut [.hosts, .time, .met] s (execCommandTake dt s) := by
  unfold execCommandTake
  dsimp only
  split
  · exact .ticked (by decide)
  · refine .ite (.next (freeEdge_only (by decide) (onHosts_only (by decide) ?_))) (.ticked (by decide))
    exact answered_frame (by decide) (answered_frame (by decide) (answered_frame (by decide)
      (.foldl1 (fun _ _ => takeBox_only (by decide)) (ticked_only (by decide)))))

theorem execCollarHalfwordRead_frame {cs : Fin 2} {off : Nat} : OnlyOut [.hosts, .time, .met] s (execCollarHalfwordRead dt cs off s) := by
  refine .ite ?_ (.ticked (by decide))
  dsimp only
  split
  · exact .next (onHosts_only (by decide) (ticked_only (by decide)))
  next h _ =>
    have htouched : Only [.hosts, .time, .met] s (touchHost h (tick dt s)) := touchHost_only (by decide) (ticked_only (by decide))
    exact .next (onHosts_only (by decide) (.ite (latchTime_only (by decide) htouched)
      (.ite (latchMains_only (by decide) htouched) htouched)))

theorem execRingProdWrite_frame {host : Fin 4} {ordinal prod : Nat} {items : List (List Byte)} :
    OnlyOut [.hosts, .time, .met] s (execRingProdWrite dt host ordinal prod items s) := by
  have htouched : Only [.hosts, .time, .met] s (touchHost host (tick dt s)) := touchHost_only (by decide) (ticked_only (by decide))
  refine .ite ?_ (.ticked (by decide))
  dsimp only
  split
  · exact .next htouched
  · exact .ite (.next htouched) (.ite (.next (badIndex_only (by decide) htouched)) (.next (setRing_only (by decide) htouched)))

theorem execRingConsWrite_frame {host : Fin 4} {ordinal cons : Nat} :
    OnlyOut [.hosts, .time, .met] s (execRingConsWrite dt host ordinal cons s) := by
  have htouched : Only [.hosts, .time, .met] s (touchHost host (tick dt s)) := touchHost_only (by decide) (ticked_only (by decide))
  refine .ite ?_ (.ticked (by decide))
  dsimp only
  split
  · exact .next htouched
  · exact .ite (.next htouched) (.ite (.next (badIndex_only (by decide) htouched))
      (.next (pushHeld_only (by decide) (setRing_only (by decide) htouched))))

theorem execRegisterWrite_frame {host : Fin 4} {off : Nat} {half : Option Bool} {value : Word} :
    OnlyOut [.hosts, .time, .met] s (execRegisterWrite dt host off half value s) := by
  have htouched : Only [.hosts, .time, .met] s (touchHost host (tick dt s)) := touchHost_only (by decide) (ticked_only (by decide))
  refine .ite ?_ (.ticked (by decide))
  dsimp only
  split
  · exact .ite (.next htouched) (.next (hostWrite_only (by decide) htouched))
  · exact .ite (.ite (.next (hostWrite_only (by decide) htouched)) (.next (onHosts_only (by decide) htouched))) (.next htouched)

theorem execLeaseExpire_frame : OnlyOut [.hosts, .time, .met] s (execLeaseExpire dt s) :=
  .next (.foldl (fun _ _ => .foldl fun _ _ => loseLease_only (by decide)) (ticked_only (by decide)))

/-! ### The frames of the mains timebase (R55–R85) -/

theorem execZeroCrossing_frame {chan delay : Nat} :
    OnlyOut [.hosts, .mains, .time, .evt, .met, .arch] s (execZeroCrossing dt chan delay s) := by
  refine .ite (.ite (.next (realignCross_only (by decide) (ticked_only (by decide)))) ?_) (.ticked (by decide))
  split
  · exact .next (acquire_only (by decide) (ticked_only (by decide)))
  · exact .next (acquire_only (by decide) (ticked_only (by decide)))
  · exact .next (lockedCross_only (by decide) (ticked_only (by decide)))
  · exact .next (holdoverCross_only (by decide) (ticked_only (by decide)))

theorem execHoldoverEntry_frame : OnlyOut [.hosts, .mains, .time, .evt, .met, .arch] s (execHoldoverEntry dt s) := by
  unfold execHoldoverEntry
  dsimp only
  split
  next last _ =>
    have hended : ∀ (due : Nat) (f : MainsSt → MainsSt), Only [.hosts, .mains, .time, .evt, .met, .arch] s
        (endCycle due false .holdover ((tick dt s).onMains f)) := fun _ _ =>
      endCycle_only (by decide) (onMains_only (by decide) (ticked_only (by decide)))
    exact .ite (.next (.ite (closeSegment_only (by decide) (noteRealigned_only (by decide) (hended _ _))) (hended _ _)))
      (.ticked (by decide))
  next => exact .ticked (by decide)

theorem execHoldoverCycleEnd_frame : OnlyOut [.mains, .time, .met] s (execHoldoverCycleEnd dt s) :=
  .ite (.next (endCycle_only (by decide) (onMains_only (by decide) (ticked_only (by decide))))) (.ticked (by decide))

theorem execHoldoverToVirtual_frame : OnlyOut [.mains, .time, .met] s (execHoldoverToVirtual dt s) :=
  .ite (.next (endCycle_only (by decide) (onMains_only (by decide) (ticked_only (by decide))))) (.ticked (by decide))

theorem execVirtualCycleEnd_frame : OnlyOut [.mains, .time, .met] s (execVirtualCycleEnd dt s) :=
  .ite (.next (onMains_only (by decide) (endCycle_only (by decide) (ticked_only (by decide))))) (.ticked (by decide))

theorem execCycleCheckpoint_frame : OnlyOut [.mains, .time, .met] s (execCycleCheckpoint dt s) :=
  .ite (.next (onMains_only (by decide) (ticked_only (by decide)))) (.ticked (by decide))

theorem execMainsCountAlign_frame :
    OnlyOut [.hosts, .mains, .sched, .time, .evt, .met, .arch, .pair] s (execMainsCountAlign dt s) := by
  unfold execMainsCountAlign
  dsimp only
  split
  · refine .ite (.ite (.next (raise_only (by decide) (lateSkipped_only (by decide) (onMains_only (by decide) ?closed))))
      (.next (onMains_only (by decide) (ticked_only (by decide))))) (.ticked (by decide))
    exact closeSegment_only (by decide) (ticked_only (by decide))
  · exact .ticked (by decide)

theorem execXrefSegmentClose_frame : OnlyOut [.mains, .time, .met, .arch] s (execXrefSegmentClose dt s) :=
  .ite (.next (closeSegment_only (by decide) (ticked_only (by decide)))) (.ticked (by decide))

theorem execAnchorApply_frame :
    OnlyOut [.hosts, .mains, .sched, .time, .fab, .evt, .met, .arch, .pair, .reg] s (execAnchorApply dt s) := by
  refine .ite (.next (onTime_only (by decide) (startRate_only (by decide) (placeAllSeries_only (by decide)
    (reconvertAll_only (by decide) ?closed))))) (.ticked (by decide))
  exact closeSegment_only (by decide) (ticked_only (by decide))

theorem execStepApply_frame : OnlyOut [.mains, .sched, .time, .met, .arch] s (execStepApply dt s) := by
  refine .ite (.next (onTime_only (by decide) (reconvertAll_only (by decide) (splitCycle_only (by decide) ?closed))))
    (.ticked (by decide))
  exact closeSegment_only (by decide) (onMains_only (by decide) (ticked_only (by decide)))

/-! ### The frames of time and of the scheduler (R86–R145) -/

theorem execEntryReconvert_frame {seq : Nat} : OnlyOut [.sched, .time, .met] s (execEntryReconvert dt seq s) := by
  unfold execEntryReconvert
  dsimp only
  split
  · split
    · exact .ite (.next (onSched_only (by decide) (ticked_only (by decide)))) (.ticked (by decide))
    · exact .ticked (by decide)
  · exact .ticked (by decide)

theorem execHostEvent_frame : OnlyOut [.hosts, .sched, .time, .evt, .met, .pair] s (execHostEvent dt s) := by
  unfold execHostEvent
  dsimp only
  split
  · exact .ticked (by decide)
  next en z hd =>
    have hz : Only [.hosts, .sched, .time, .evt, .met, .pair] s z := dispatch_only (by decide) (ticked_only (by decide)) _ _ hd
    split
    · split
      · exact .next hz
      · have hfired : ∀ (last : Prop) [Decidable last] (f : SchedSt → SchedSt) (e : HostEvt) (n : Nat),
            Only [.hosts, .sched, .time, .evt, .met, .pair] s (if last then z.onSched f else placeHostEvt e n (z.onSched f)) :=
          fun _ _ _ _ _ => .ite (onSched_only (by decide) hz) (placeHostEvt_only (by decide) (onSched_only (by decide) hz))
        split
        · exact .next (pushNotice_only (by decide) (hfired _ _ _ _))
        · exact .next (hfired _ _ _ _)
    · exact .next hz

theorem execTimePairCommit_frame : OnlyOut [.hosts, .mains, .time, .evt, .met] s (execTimePairCommit dt s) := by
  unfold execTimePairCommit
  dsimp only
  split
  · exact .ticked (by decide)
  · exact .next (onTime_only (by decide) (ticked_only (by decide)))
  · exact .ite (.next (commitOffset_only (by decide) (ticked_only (by decide)))) (.ticked (by decide))

theorem execSlewEnd_frame : OnlyOut [.time, .met] s (execSlewEnd dt s) := by
  unfold execSlewEnd
  dsimp only
  split
  · exact .ite (.next (onTime_only (by decide) (ticked_only (by decide)))) (.ticked (by decide))
  · exact .ticked (by decide)

theorem execSourceSelect_frame {q0 q1 : Bool} {best : Nat} {announce : Option (Int × Bool × Bool)} :
    OnlyOut [.hosts, .time, .evt, .met] s (execSourceSelect dt q0 q1 best announce s) := by
  have hchosen : ∀ (b : Prop) [Decidable b] (f : TimeSt → TimeSt), Only [.hosts, .time, .evt, .met] s
      (if b then selectSource ((tick dt s).onTime f) else loseSource ((tick dt s).onTime f)) := fun _ _ _ =>
    .ite (selectSource_only (by decide) (onTime_only (by decide) (ticked_only (by decide))))
      (loseSource_only (by decide) (onTime_only (by decide) (ticked_only (by decide))))
  refine .ite ?_ (.ticked (by decide))
  split
  · exact .next (onTime_only (by decide) (hchosen _ _))
  · exact .next (onTime_only (by decide) (hchosen _ _))
  · exact .next (hchosen _ _)

theorem execSourceLoss_frame : OnlyOut [.hosts, .time, .evt, .met] s (execSourceLoss dt s) := by
  have hlost : ∀ f : TimeSt → TimeSt, OnlyOut [.hosts, .time, .evt, .met] s (.next (loseSource ((tick dt s).onTime f))) := fun _ =>
    .next (loseSource_only (by decide) (onTime_only (by decide) (ticked_only (by decide))))
  unfold execSourceLoss
  dsimp only
  split
  · exact hlost _
  · exact hlost _
  · exact hlost _
  · exact .ticked (by decide)

theorem execPtpEventReceive_frame {port : Nat} {msg : PtpMsg} :
    OnlyOut [.hosts, .time, .evt, .met] s (execPtpEventReceive dt port msg s) := by
  have hstamped : ∀ f : TimeSt → TimeSt, Only [.hosts, .time, .evt, .met] s ((tick dt s).onTime f) := fun _ =>
    onTime_only (by decide) (ticked_only (by decide))
  have hkept : ∀ (b : Prop) [Decidable b] (f : TimeSt → TimeSt) (stamp : Nat), Only [.hosts, .time, .evt, .met] s
      (if b then keepDelayReq port msg.ident msg.seqId stamp ((tick dt s).onTime f) else (tick dt s).onTime f) := fun _ _ _ _ =>
    .ite (keepDelayReq_only (by decide) (hstamped _)) (hstamped _)
  refine .ite (.ite (.next (takeSync_only (by decide) ?_)) (.next (hstamped _))) (.ticked (by decide))
  split
  · exact .ite (onTime_only (by decide) (hkept _ _ _)) (hkept _ _ _)
  · exact hkept _ _ _

theorem execPtpEgress_frame {port kind ident seqId : Nat} {corr : Int} {forwarded : Bool} {udp : Option PtpUdp} :
    OnlyOut [.time, .met] s (execPtpEgress dt port kind ident seqId corr forwarded udp s) := by
  have hsent : ∀ (c : Int) (origin : Option Nat), OnlyOut [.time, .met] s (.next (sendPtp port kind corr c origin udp (tick dt s))) :=
    fun _ _ => .next (sendPtp_only (by decide) (ticked_only (by decide)))
  have hplain : ∀ f : TimeSt → TimeSt, OnlyOut [.time, .met] s (.next ((tick dt s).onTime f)) := fun _ =>
    .next (onTime_only (by decide) (ticked_only (by decide)))
  refine .ite (.ite (.ite (.ticked (by decide)) (.ite ?forwarded (hplain _))) ?own) (.ticked (by decide))
  case forwarded =>
    split
    · exact hsent _ _
    · exact .ticked (by decide)
  case own =>
    split
    · exact hsent _ _
    · split
      · exact hsent _ _
      · exact .ticked (by decide)
    · exact .ticked (by decide)
    · exact .ticked (by decide)
    · split
      · exact hsent _ _
      · exact hplain _
    · exact hplain _

theorem execLeapApply_frame : OnlyOut [.time, .met] s (execLeapApply dt s) := .next (onTime_only (by decide) (ticked_only (by decide)))

theorem execTimeNowLoRead_frame {host : Fin 4} : OnlyOut [.hosts, .time, .met] s (execTimeNowLoRead dt host s) :=
  .ite (.next (latchTime_only (by decide) (ticked_only (by decide)))) (.ticked (by decide))

theorem execMainsCycLoRead_frame {host : Fin 4} : OnlyOut [.hosts, .time, .met] s (execMainsCycLoRead dt host s) :=
  .ite (.next (latchMains_only (by decide) (ticked_only (by decide)))) (.ticked (by decide))

/-! ### The frames of the recorder (R755–R785) -/

theorem execEventRaise_frame : OnlyOut [.hosts, .time, .evt, .met, .free] s (execEventRaise dt s) := by
  unfold execEventRaise
  dsimp only
  split
  · exact .ticked (by decide)
  next e _ _ =>
    have hjudged : ∀ f : EvtSt → EvtSt, Only [.hosts, .time, .evt, .met, .free] s (judgeEvent e ((tick dt s).onEvt f)).1 := fun _ =>
      judgeEvent_only (by decide) (onEvt_only (by decide) (ticked_only (by decide)))
    refine .ite (.next (pushLost_only (by decide) ?_)) (.ticked (by decide))
    split
    · split
      · exact respond_only (by decide) (hjudged _)
      · exact hjudged _
    · exact hjudged _

theorem execBucketRefill_frame {code : Nat} : OnlyOut [.hosts, .time, .evt, .met, .free] s (execBucketRefill dt code s) :=
  .ite (.next (judgeEvent_only (by decide) (onCode_only (by decide) (ticked_only (by decide))))) (.ticked (by decide))

theorem execOpTimeCheckpoint_frame : OnlyOut [.time, .evt, .met] s (execOpTimeCheckpoint dt s) :=
  .ite (.next (onEvt_only (by decide) (ticked_only (by decide)))) (.ticked (by decide))

theorem execEvtClearComplete_frame : OnlyOut [.hosts, .time, .evt, .met, .arch] s (execEvtClearComplete dt s) := by
  refine .ite ?_ (.ticked (by decide))
  dsimp only
  split
  · exact .next (trimExtension_only (by decide) (ticked_only (by decide)))
  · refine .ite (.ticked (by decide)) (.next ?_)
    split
    · exact finishAt_only (by decide) (onEvt_only (by decide) (ticked_only (by decide)))
    · exact onEvt_only (by decide) (ticked_only (by decide))

/-! ### The frames of the configuration (R823–R837) -/

theorem execOverlayChange_frame :
    OnlyOut [.cfg, .hosts, .sched, .time, .fab, .evt, .pwr, .met, .sess, .bal, .upl, .pair, .reg] s (execOverlayChange dt s) := by
  unfold execOverlayChange
  dsimp only
  split
  next e z hd =>
    have hz : Only [.cfg, .hosts, .sched, .time, .fab, .evt, .pwr, .met, .sess, .bal, .upl, .pair, .reg] s z :=
      dispatch_only (by decide) (ticked_only (by decide)) _ _ hd
    split
    · exact .next (evalTriggers_only (by decide) (putOverlay_only (by decide) hz))
    · exact .next (evalTriggers_only (by decide) (putOverlay_only (by decide) (onCfg_only (by decide) hz)))
    · exact .next hz
  next => exact .ticked (by decide)

theorem execIslandedTrigger_frame : OnlyOut [.cfg, .hosts, .sched, .time, .evt, .met, .pair] s (execIslandedTrigger dt s) :=
  .ite (.next (evalTriggers_only (by decide) (onCfg_only (by decide) (ticked_only (by decide))))) (.ticked (by decide))

theorem execCfgApplyComplete_frame : OnlyOut [.cfg, .hosts, .sched, .time, .evt, .met, .pair] s (execCfgApplyComplete dt s) := by
  unfold execCfgApplyComplete
  dsimp only
  split
  · exact .ticked (by decide)
  · exact .ite (.next (finishAt_only (by decide) (placeOr_only (by decide) (onCfg_only (by decide) (moveStore_only (by decide)
      (ticked_only (by decide))))))) (.ticked (by decide))

/-- Each command of the four families keeps the blocks that `touches` does not list for it. -/
theorem exec_touches_of_hub {c : Instr} (hc : [Family.sys, .time, .evt, .cfg].contains (family c) = true) :
    OnlyOut (touches c) s (exec c s) := by
  cases c with
  | seamFrameReceive => exact execSeamFrameReceive_frame
  | legalWriteRepeat => exact execLegalWriteRepeat_frame
  | seamResync => exact execSeamResync_frame
  | eccUncorrectable => exact execEccUncorrectable_frame
  | doorbellCmd => exact execDoorbellCmd_frame
  | commandTake => exact execCommandTake_frame
  | respAck => exact execRespAck_frame
  | detach => exact execDetach_frame
  | hostOffline => exact execHostOffline_frame
  | collarHalfwordRead => exact execCollarHalfwordRead_frame
  | ringProdWrite => exact execRingProdWrite_frame
  | ringConsWrite => exact execRingConsWrite_frame
  | registerWrite => exact execRegisterWrite_frame
  | leaseExpire => exact execLeaseExpire_frame
  | sysInfo => exact runCmd_frame rfl fun _ _ => sysInfo_only rfl
  | leaseTake => exact runCmd_frame rfl fun _ _ => leaseTake_only rfl
  | leaseRelease => exact runCmd_frame rfl fun _ _ => leaseRelease_only rfl
  | leaseRead => exact runCmd_frame rfl fun _ _ => leaseRead_only rfl
  | lineSideFrameReceive => exact execLineSideFrameReceive_frame
  | converterFeedbackLoss => exact execConverterFeedbackLoss_frame
  | zeroCrossing => exact execZeroCrossing_frame
  | holdoverEntry => exact execHoldoverEntry_frame
  | holdoverCycleEnd => exact execHoldoverCycleEnd_frame
  | holdoverToVirtual => exact execHoldoverToVirtual_frame
  | virtualCycleEnd => exact execVirtualCycleEnd_frame
  | cycleCheckpoint => exact execCycleCheckpoint_frame
  | mainsCountAlign => exact execMainsCountAlign_frame
  | xrefSegmentClose => exact execXrefSegmentClose_frame
  | anchorApply => exact execAnchorApply_frame
  | stepApply => exact execStepApply_frame
  | entryReconvert => exact execEntryReconvert_frame
  | hostEvent => exact execHostEvent_frame
  | timePairCommit => exact execTimePairCommit_frame
  | slewEnd => exact execSlewEnd_frame
  | sourceSelect => exact execSourceSelect_frame
  | sourceLoss => exact execSourceLoss_frame
  | ptpEventReceive => exact execPtpEventReceive_frame
  | ptpEgress => exact execPtpEgress_frame
  | leapApply => exact execLeapApply_frame
  | timeSet => exact runCmd_frame rfl fun _ _ => timeSet_only rfl
  | timeAdj => exact runCmd_frame rfl fun _ _ => timeAdj_only rfl
  | timeStep => exact runCmd_frame rfl fun _ _ => timeStep_only rfl
  | timeStatus => exact runCmd_frame rfl fun _ _ => timeStatus_only rfl
  | schedAdd => exact runCmd_frame rfl fun _ _ => schedAdd_only rfl
  | schedCancel => exact runCmd_frame rfl fun _ _ => schedCancel_only rfl
  | xref => exact runCmd_frame rfl fun _ _ => xref_only rfl
  | timeNowLoRead => exact execTimeNowLoRead_frame
  | mainsCycLoRead => exact execMainsCycLoRead_frame
  | eventRaise => exact execEventRaise_frame
  | bucketRefill => exact execBucketRefill_frame
  | opTimeCheckpoint => exact execOpTimeCheckpoint_frame
  | evtStatus => exact runCmd_frame rfl fun _ _ => evtStatus_only rfl
  | evtRead => exact runCmd_frame rfl fun _ _ => evtRead_only rfl
  | evtCodeRead => exact runCmd_frame rfl fun _ _ => evtCodeRead_only rfl
  | evtCodeSet => exact runCmd_frame rfl fun _ _ => evtCodeSet_only rfl
  | evtClear => exact runCmd_frame rfl fun _ _ => evtClear_only rfl
  | evtClearComplete => exact execEvtClearComplete_frame
  | evtMlogRead => exact runCmd_frame rfl fun _ _ => evtMlogRead_only rfl
  | evtPost => exact runCmd_frame rfl fun _ _ => evtPost_only rfl
  | overlayChange => exact execOverlayChange_frame
  | islandedTrigger => exact execIslandedTrigger_frame
  | cfgStatus => exact runCmd_frame rfl fun _ _ => cfgStatus_only rfl
  | cfgLoad => exact runCmd_frame rfl fun _ _ => cfgLoad_only rfl
  | cfgApply => exact runCmd_frame rfl fun _ _ => cfgApply_only rfl
  | cfgApplyComplete => exact execCfgApplyComplete_frame
  | cfgOverlay => exact runCmd_frame rfl fun _ _ => cfgOverlay_only rfl
  | cfgSchema => exact runCmd_frame rfl fun _ _ => cfgSchema_only rfl
  | cfgFuses => exact runCmd_frame rfl fun _ _ => cfgFuses_only rfl
  | _ => exact absurd hc Bool.false_ne_true

end Frames

/-- Settles O6: each command changes at most the blocks of the operations it is made of, and `touches` lists them. -/
theorem framesOfTheHub : Obligations.FramesOfTheHub :=
  fun _ _ t hf he => exec_touches_of_hub (List.contains_iff_mem.mpr hf) t he

end Sys2Proof.Machine
end

section
/-! PROOFS. The statements of uplink and fleet: the frames. -/

namespace Sys2Proof.Machine

open Host (Outcome)

section Frames
variable {bs : List Block} {s : State} {dt : Nat}

/-! ### The frames of the uplink (R544–R575) -/

theorem execUplinkConnect_frame {ok : Bool} :
    OnlyOut [.cfg, .hosts, .sched, .time, .evt, .met, .upl, .pair] s (execUplinkConnect dt ok s) := by
  refine .ite ?_ (.ticked (by decide))
  split
  · exact .ticked (by decide)
  · have htried : ∀ f : UplSt → UplSt, Only [.cfg, .hosts, .sched, .time, .evt, .met, .upl, .pair] s ((tick dt s).onUpl f) :=
      fun _ => onUpl_only (by decide) (ticked_only (by decide))
    have hopened : ∀ (f g : UplSt → UplSt) (p v : Nat), Only [.cfg, .hosts, .sched, .time, .evt, .met, .upl, .pair] s
        (setLink p v (((tick dt s).onUpl f).onUpl g)) := fun f _ _ _ =>
      setLink_only (by decide) (onUpl_only (by decide) (htried f))
    exact .ite (.next (htried _)) (.ite (.next (sendUp_only (by decide) (hopened _ _ _ _)))
      (.next (goUp_only (by decide) (onUpl_only (by decide) (hopened _ _ _ _)))))

theorem execUplinkLinkLoss_frame {port : Nat} {lost : Bool} :
    OnlyOut [.cfg, .hosts, .time, .evt, .met, .sess, .upl] s (execUplinkLinkLoss dt port lost s) := by
  have hseen : Only [.cfg, .hosts, .time, .evt, .met, .sess, .upl] s (if lost = true then setLink port 0 (tick dt s) else tick dt s) :=
    .ite (setLink_only (by decide) (ticked_only (by decide))) (ticked_only (by decide))
  exact .ite (.ite (.next (onUpl_only (by decide) (endUp_only (by decide) hseen))) (.next hseen)) (.ticked (by decide))

theorem execConnectionTimeout_frame {child : Option Nat} :
    OnlyOut [.cfg, .hosts, .time, .evt, .met, .sess, .upl] s (execConnectionTimeout dt child s) := by
  refine .ite ?_ (.ticked (by decide))
  split
  · split
    · exact .next (.ite (endChild_only (by decide) (ticked_only (by decide))) (ticked_only (by decide)))
    · exact .ticked (by decide)
  · split
    · exact .next (.ite (endUp_only (by decide) (ticked_only (by decide))) (ticked_only (by decide)))
    · exact .ticked (by decide)

theorem execKeepaliveSend_frame {child : Option Nat} : OnlyOut [.time, .met, .upl] s (execKeepaliveSend dt child s) := by
  refine .ite ?_ (.ticked (by decide))
  split
  · split
    · exact .next (.ite (sendChild_only (by decide) (ticked_only (by decide))) (ticked_only (by decide)))
    · exact .ticked (by decide)
  · split
    · exact .next (.ite (sendUp_only (by decide) (ticked_only (by decide))) (ticked_only (by decide)))
    · exact .ticked (by decide)

theorem execKeepalive_frame {child : Option Nat} : OnlyOut [.time, .met, .upl] s (execKeepalive dt child s) := by
  refine .ite ?_ (.ticked (by decide))
  split
  · exact .next (onChild_only (by decide) (ticked_only (by decide)))
  · exact .next (onUpl_only (by decide) (ticked_only (by decide)))

theorem execBundleSend_frame : OnlyOut [.time, .met, .sess, .upl, .free] s (execBundleSend dt s) := by
  unfold execBundleSend
  dsimp only
  split
  · exact .ticked (by decide)
  · refine .ite (.ite (.next ?cipher) ?_) (.ticked (by decide))
    case cipher =>
      exact sendNumbered_only (by decide) (signMessage_only (by decide) (onSess_only (by decide) (ticked_only (by decide))))
    split
    · exact .ticked (by decide)
    · exact .ite (.next (sendNumbered_only (by decide) (signMessage_only (by decide) (ticked_only (by decide))))) (.ticked (by decide))

theorem execHello_frame {port unit idHash formatId : Nat} :
    OnlyOut [.hosts, .time, .evt, .met, .upl] s (execHello dt port unit idHash formatId s) := by
  refine .ite ?_ (.ticked (by decide))
  have hlinked : ∀ v, Only [.hosts, .time, .evt, .met, .upl] s (setLink port v (tick dt s)) := fun _ =>
    setLink_only (by decide) (ticked_only (by decide))
  dsimp only
  split
  · exact .next (refuseChild_only (by decide) (hlinked _))
  · refine .ite (.next (refuseChild_only (by decide) (hlinked _))) (.next (sendChild_only (by decide) (onChild_only (by decide) ?_)))
    split
    · exact .ite (hlinked _) (raise_only (by decide) (onChild_only (by decide) (hlinked _)))
    · exact hlinked _

theorem execHelloAck_frame {status : Status} {nextPos bound credit depth : Nat} :
    OnlyOut [.cfg, .hosts, .sched, .time, .evt, .met, .sess, .upl, .pair] s (execHelloAck dt status nextPos bound credit depth s) := by
  unfold execHelloAck
  dsimp only
  split
  · exact .ticked (by decide)
  · refine .ite (.ticked (by decide)) (.ite (.next (endUp_only (by decide) (ticked_only (by decide)))) (.ite (.next ?overBudget) (.next ?up)))
    case overBudget =>
      exact onUpl_only (by decide) (endUp_only (by decide) (raise_only (by decide) (onUpl_only (by decide) (ticked_only (by decide)))))
    case up => exact goUp_only (by decide) (onUpl_only (by decide) (onUpl_only (by decide) (ticked_only (by decide))))

theorem execBundle_frame {child seq first : Nat} {recs : List Record} :
    OnlyOut [.hosts, .time, .fab, .evt, .met, .sess, .upl] s (execBundle dt child seq first recs s) := by
  unfold execBundle
  dsimp only
  split
  · exact .ticked (by decide)
  · refine .ite (.ticked (by decide)) (.ite (.next (malformed_only (by decide) (ticked_only (by decide)))) (.next ?_))
    exact ackChild_only (by decide) (onChild_only (by decide) (takeBundle_only (by decide) (.ite (onUpl_only (by decide)
      (heardChild_only (by decide) (ticked_only (by decide)))) (heardChild_only (by decide) (ticked_only (by decide))))))

theorem execCipher_frame {child seq : Nat} {entries : List Q2Entry} :
    OnlyOut [.hosts, .time, .fab, .evt, .met, .sess, .upl] s (execCipher dt child seq entries s) := by
  unfold execCipher
  dsimp only
  split
  · exact .ticked (by decide)
  · refine .ite (.ticked (by decide)) (.ite (.next (malformed_only (by decide) (ticked_only (by decide)))) (.ite (.ticked (by decide))
      (.next ?_)))
    exact ackChild_only (by decide) (onChild_only (by decide) (.foldl (fun _ _ => pushQ2_only (by decide))
      (heardChild_only (by decide) (ticked_only (by decide)))))

theorem execTimeReq_frame {child t1 : Nat} : OnlyOut [.time, .met, .upl] s (execTimeReq dt child t1 s) := by
  unfold execTimeReq
  dsimp only
  split
  · exact .ticked (by decide)
  · exact .ite (.next (sendChild_only (by decide) (heardChild_only (by decide) (ticked_only (by decide))))) (.ticked (by decide))

theorem execDownResult_frame {child tag outcome : Nat} : OnlyOut [.time, .met, .upl] s (execDownResult dt child tag outcome s) := by
  unfold execDownResult
  dsimp only
  split
  · exact .ticked (by decide)
  · exact .ite (.next (onUpl_only (by decide) (heardChild_only (by decide) (ticked_only (by decide))))) (.ticked (by decide))

theorem execAck_frame {seq pos : Nat} :
    OnlyOut [.cfg, .hosts, .sched, .time, .evt, .met, .sess, .upl, .pair] s (execAck dt seq pos s) := by
  unfold execAck
  dsimp only
  split
  · exact .ticked (by decide)
  · exact .ite (.next (endCatchup_only (by decide) (refreshPressure_only (by decide) (onUpl_only (by decide)
      (heardUp_only (by decide) (ticked_only (by decide))))))) (.ticked (by decide))

theorem execHeadEndAck_frame {pos : Nat} :
    OnlyOut [.cfg, .hosts, .sched, .time, .evt, .met, .upl, .pair] s (execHeadEndAck dt pos s) := by
  unfold execHeadEndAck
  dsimp only
  split
  · exact .ticked (by decide)
  · exact .ite (.next (endCatchup_only (by decide) (onUpl_only (by decide) (heardUp_only (by decide) (ticked_only (by decide))))))
      (.ticked (by decide))

theorem execCredit_frame {credit : Nat} : OnlyOut [.time, .met, .upl] s (execCredit dt credit s) := by
  unfold execCredit
  dsimp only
  split
  · exact .ticked (by decide)
  · exact .ite (.next (onUpl_only (by decide) (heardUp_only (by decide) (ticked_only (by decide))))) (.ticked (by decide))

theorem execTimeReqSend_frame : OnlyOut [.hosts, .time, .evt, .met, .upl] s (execTimeReqSend dt s) := by
  unfold execTimeReqSend
  dsimp only
  split
  · exact .ticked (by decide)
  · exact .ite (.next (sendUp_only (by decide) (onUpl_only (by decide) (.ite (noteExchange_only (by decide) (ticked_only (by decide)))
      (ticked_only (by decide)))))) (.ticked (by decide))

theorem execTimeResp_frame {t1 t2 t3 : Nat} {utc : Int} {anchored leap61 leap59 : Bool} :
    OnlyOut [.hosts, .time, .evt, .met, .upl] s (execTimeResp dt t1 t2 t3 utc anchored leap61 leap59 s) := by
  unfold execTimeResp
  dsimp only
  split
  · exact .ticked (by decide)
  · have hnoted : ∀ (f : UplSt → UplSt) (e : Option (Nat × Int × Bool)), Only [.hosts, .time, .evt, .met, .upl] s
        (noteExchange e ((heardUp (tick dt s)).onUpl f)) := fun _ _ =>
      noteExchange_only (by decide) (onUpl_only (by decide) (heardUp_only (by decide) (ticked_only (by decide))))
    exact .ite (.ite (.next (proposeCorrection_only (by decide) (onTime_only (by decide) (onTime_only (by decide) (hnoted _ _)))))
      (.next (onTime_only (by decide) (hnoted _ _)))) (.ticked (by decide))

theorem execDown_frame {body : DownBody} :
    OnlyOut [.hosts, .sched, .time, .fab, .evt, .met, .rad, .link, .plc, .upl, .pair] s (execDown dt body s) := by
  unfold execDown
  dsimp only
  split
  · exact .ticked (by decide)
  · have hheard : Only [.hosts, .sched, .time, .fab, .evt, .met, .rad, .link, .plc, .upl, .pair] s (heardUp (tick dt s)) :=
      heardUp_only (by decide) (ticked_only (by decide))
    exact .ite (.ite (.next (answerDown_only (by decide) hheard)) (.ite (.next (takeMulticast_only (by decide) hheard))
      (.next (takeUnicast_only (by decide) hheard)))) (.ticked (by decide))

/-! ### The frames of fleet work (R576–R620) -/

theorem execFleetResponse_frame :
    OnlyOut [.hosts, .sched, .time, .fab, .evt, .met, .rad, .link, .plc, .sess, .arch, .upl, .fleet, .pair] s (execFleetResponse dt s) :=
  .ite (.next (fleetPump_only (by decide) (takeReport_only (by decide) (ticked_only (by decide))))) (.ticked (by decide))

theorem execPushRecompute_frame :
    OnlyOut [.hosts, .sched, .time, .fab, .evt, .met, .rad, .link, .plc, .sess, .arch, .upl, .fleet, .pair] s (execPushRecompute dt s) :=
  .ite (.next (fleetPump_only (by decide) (.foldl (fun _ _ => recomputePush_only (by decide)) (ticked_only (by decide)))))
    (.ticked (by decide))

theorem execPushActivate_frame :
    OnlyOut [.hosts, .sched, .time, .fab, .evt, .met, .rad, .link, .plc, .sess, .arch, .upl, .fleet, .pair] s (execPushActivate dt s) :=
  .ite (.next (fleetPump_only (by decide) (.foldl (fun _ _ => checkPush_only (by decide))
    (.foldl (fun _ _ => activatePush_only (by decide)) (ticked_only (by decide)))))) (.ticked (by decide))

theorem execFleetCheckpoint_frame :
    OnlyOut [.hosts, .sched, .time, .fab, .evt, .met, .rad, .link, .plc, .sess, .arch, .upl, .fleet, .pair] s (execFleetCheckpoint dt s) :=
  .ite (.next (fleetPump_only (by decide) (fleetCheckpoint_only (by decide) (ticked_only (by decide))))) (.ticked (by decide))

theorem execTokenDeliver_frame :
    OnlyOut [.hosts, .sched, .time, .fab, .evt, .met, .rad, .link, .plc, .sess, .arch, .upl, .fleet, .pair] s (execTokenDeliver dt s) := by
  refine .ite ?_ (.ticked (by decide))
  dsimp only
  split
  · exact .next (fleetPump_only (by decide) (onFleet_only (by decide) (ticked_only (by decide))))
  · exact .ticked (by decide)

theorem execCampaignRoundStart_frame :
    OnlyOut [.hosts, .sched, .time, .fab, .evt, .met, .rad, .link, .plc, .sess, .arch, .upl, .fleet, .pair] s
      (execCampaignRoundStart dt s) := by
  refine .ite ?_ (.ticked (by decide))
  split
  · exact .ticked (by decide)
  · refine .next (fleetPump_only (by decide) (wakeAll_only (by decide) (onCamp_only (by decide) (.foldl (fun _ _ h => ?_)
      (ticked_only (by decide))))))
    exact .ite (onCtx_only (by decide) h) h

theorem execCampaignBlockSend_frame :
    OnlyOut [.hosts, .sched, .time, .fab, .evt, .met, .rad, .link, .plc, .sess, .arch, .upl, .fleet, .pair] s
      (execCampaignBlockSend dt s) := by
  refine .ite ?_ (.ticked (by decide))
  split
  · exact .ticked (by decide)
  next n p _ =>
    dsimp only
    split
    · have hsent : ∀ (key : Nat) (who : MeterCtx → Bool) (image : Nat → List Byte) (f : FleetSt → FleetSt) (g : Camp → Camp),
          Only [.hosts, .sched, .time, .fab, .evt, .met, .rad, .link, .plc, .sess, .arch, .upl, .fleet, .pair] s
            (onCamp n g ((sendMulticast p n key who false image (tick dt s)).onFleet f)) := fun _ _ _ _ _ =>
        onCamp_only (by decide) (onFleet_only (by decide) (sendMulticast_only (by decide) (ticked_only (by decide))))
      exact .next (fleetPump_only (by decide) (.ite (endRound_only (by decide) (hsent _ _ _ _ _)) (hsent _ _ _ _ _)))
    · exact .ticked (by decide)

theorem execCampaignActivate_frame :
    OnlyOut [.hosts, .sched, .time, .fab, .evt, .met, .rad, .link, .plc, .sess, .arch, .upl, .fleet, .pair] s
      (execCampaignActivate dt s) := by
  refine .ite ?_ (.ticked (by decide))
  split
  · exact .ticked (by decide)
  · exact .next (fleetPump_only (by decide) (onCamp_only (by decide) (sendMulticast_only (by decide) (ticked_only (by decide)))))

/-- A FLEET command changes its host, besides what its work changes where fleet work runs (R576, R612). -/
theorem runFleet_frame {op : Nat} {h : Fin 4} {f : Taken → State → State × Reply} (hSub : Block.sub [.hosts, .time, .met] bs = true)
    (hf : ∀ t y, Only bs s y → Only bs s (f t y).1) : OnlyOut bs s (.next (runCmd op h (fleetCmd f) (tick dt s))) :=
  runCmd_frame hSub fun t _ hy => fleetCmd_only hy (hf t)

/-- Each command of the two families keeps the blocks that `touches` does not list for it. -/
theorem exec_touches_of_uplink {c : Instr} (hc : [Family.upl, .fleet].contains (family c) = true) :
    OnlyOut (touches c) s (exec c s) := by
  cases c with
  | uplinkConnect => exact execUplinkConnect_frame
  | uplinkLinkLoss => exact execUplinkLinkLoss_frame
  | connectionTimeout => exact execConnectionTimeout_frame
  | keepaliveSend => exact execKeepaliveSend_frame
  | bundleSend => exact execBundleSend_frame
  | hello => exact execHello_frame
  | helloAck => exact execHelloAck_frame
  | bundle => exact execBundle_frame
  | cipher => exact execCipher_frame
  | ack => exact execAck_frame
  | credit => exact execCredit_frame
  | timeReqSend => exact execTimeReqSend_frame
  | timeReq => exact execTimeReq_frame
  | timeResp => exact execTimeResp_frame
  | down => exact execDown_frame
  | downResult => exact execDownResult_frame
  | keepalive => exact execKeepalive_frame
  | headEndAck => exact execHeadEndAck_frame
  | uplStatus => exact runCmd_frame rfl fun _ _ => uplStatus_only rfl
  | childRead => exact runCmd_frame rfl fun _ _ => childRead_only rfl
  | childSet => exact runCmd_frame rfl fun _ _ => childSet_only rfl
  | fleetResponse => exact execFleetResponse_frame
  | pushRecompute => exact execPushRecompute_frame
  | pushActivate => exact execPushActivate_frame
  | fleetCheckpoint => exact execFleetCheckpoint_frame
  | tokenDeliver => exact execTokenDeliver_frame
  | campaignRoundStart => exact execCampaignRoundStart_frame
  | campaignBlockSend => exact execCampaignBlockSend_frame
  | campaignActivate => exact execCampaignActivate_frame
  | pushCreate => exact runFleet_frame rfl fun _ _ => pushCreate_only rfl
  | pushMember => exact runFleet_frame rfl fun _ _ => pushMember_only rfl
  | pushStatus => exact runFleet_frame rfl fun _ _ => pushStatus_only rfl
  | pushCancel => exact runFleet_frame rfl fun _ _ => pushCancel_only rfl
  | tokenSend => exact runFleet_frame rfl fun _ _ => tokenSend_only rfl
  | ledgerNote => exact runFleet_frame rfl fun _ _ => ledgerNote_only rfl
  | ledgerRead => exact runFleet_frame rfl fun _ _ => ledgerRead_only rfl
  | fleetMeterSet => exact runFleet_frame rfl fun _ _ => fleetMeterSet_only rfl
  | campCreate => exact runFleet_frame rfl fun _ _ => campCreate_only rfl
  | campLoad => exact runFleet_frame rfl fun _ _ => campLoad_only rfl
  | campMember => exact runFleet_frame rfl fun _ _ => campMember_only rfl
  | campStart => exact runFleet_frame rfl fun _ _ => campStart_only rfl
  | campStatus => exact runFleet_frame rfl fun _ _ => campStatus_only rfl
  | campCancel => exact runFleet_frame rfl fun _ _ => campCancel_only rfl
  | _ => exact absurd hc Bool.false_ne_true

end Frames

/-- Settles O10: each command changes at most the blocks of the operations it is made of, and `touches` lists them. -/
theorem framesOfTheUplink : Obligations.FramesOfTheUplink :=
  fun _ _ t hf he => exec_touches_of_uplink (List.contains_iff_mem.mpr hf) t he

end Sys2Proof.Machine
end

section
/-! PROOFS. The statements of control: the frames of keys, firmware, pair and power. -/

namespace Sys2Proof.Machine

open Host (Outcome)

section Frames
variable {bs : List Block} {s : State} {dt : Nat}

/-! ### The frames of the keys (R664–R700) -/

theorem execKeyApplyComplete_frame :
    OnlyOut [.hosts, .time, .evt, .met, .sess, .arch, .pocket, .pair, .free] s (execKeyApplyComplete dt s) := by
  unfold execKeyApplyComplete
  dsimp only
  split
  · exact .ticked (by decide)
  next a _ =>
    refine .ite (.next (applyAgain_only (by decide) (ticked_only (by decide)))) (.ite (.next ?unsaved) (.ite (.next ?applied)
      (.ticked (by decide))))
    case unsaved => exact .foldl (fun _ _ => writeBack_only (by decide)) (ticked_only (by decide))
    case applied =>
      exact finishAt_only (by decide) (clearStaging_only (by decide) (onPocket_only (by decide) (.ite (ticked_only (by decide))
        (.foldl (fun _ _ => applyEntry_only (by decide)) (ticked_only (by decide))))))

theorem execAttestComplete_frame : OnlyOut [.hosts, .time, .met, .pocket, .free] s (execAttestComplete dt s) := by
  unfold execAttestComplete
  dsimp only
  split
  · exact .ticked (by decide)
  · exact .ite (.next (finishAt_only (by decide) (onPocket_only (by decide) (signBytes_only (by decide) (ticked_only (by decide))))))
      (.ticked (by decide))

/-! ### The frames of the firmware update (R701–R723) -/

/-- A firmware command of a host or the head end changes the mailboxes and Staging (R704, R707). -/
theorem runFwu_frame {op : Nat} {h : Fin 4} {head : Option (List Byte)} {f : Nat → Taken → State → State × Reply}
    (hf : ∀ n t y, Only [.hosts, .time, .met, .fwu] s y → Only [.hosts, .time, .met, .fwu] s (f n t y).1) :
    OnlyOut [.hosts, .time, .met, .fwu] s (.next (runFwu op h head f (tick dt s))) :=
  .next (runFwu_only (by decide) (ticked_only (by decide)) hf)

theorem execFwuBeginComplete_frame : OnlyOut [.hosts, .time, .met, .fwu] s (execFwuBeginComplete dt s) := by
  unfold execFwuBeginComplete
  dsimp only
  split
  · exact .ticked (by decide)
  · exact .ite (.next (fwuEnd_only (by decide) (ticked_only (by decide)))) (.ticked (by decide))

theorem execFwuFinishComplete_frame {sigOk resOk : Bool} :
    OnlyOut [.hosts, .sched, .time, .evt, .met, .fwu, .pair] s (execFwuFinishComplete dt sigOk resOk s) := by
  have hended : ∀ (j : FwuJob) (r : Reply) (f : FwuSt → FwuSt),
      OnlyOut [.hosts, .sched, .time, .evt, .met, .fwu, .pair] s (.next (fwuEnd j r ((tick dt s).onFwu f))) := fun _ _ _ =>
    .next (fwuEnd_only (by decide) (onFwu_only (by decide) (ticked_only (by decide))))
  unfold execFwuFinishComplete
  dsimp only
  split
  · exact .ticked (by decide)
  next j _ =>
    refine .ite (.next (fwuEnd_only (by decide) (ticked_only (by decide)))) (.ite (.ite ?verified (hended _ _ _)) (.ticked (by decide)))
    split
    · exact hended _ _ _
    · exact hended _ _ _
    next z hz =>
      have hready : ∀ (r : Reply) (f : FwuSt → FwuSt),
          Only [.hosts, .sched, .time, .evt, .met, .fwu, .pair] s (fwuEnd j r (z.onFwu f)) := fun _ _ =>
        fwuEnd_only (by decide) (onFwu_only (by decide) (OnlyEx.get hz (placeRestart_only (by decide) (ticked_only (by decide)))))
      have hcopied : ∀ (r : Reply) (f : FwuSt → FwuSt),
          Only [.hosts, .sched, .time, .evt, .met, .fwu, .pair] s (beginCopy true resOk (fwuEnd j r (z.onFwu f))) := fun _ _ =>
        beginCopy_only (by decide) (hready _ _)
      exact .ite (.ite (.next (onFwu_only (by decide) (endCopy_only (by decide) (hcopied _ _)))) (.next (hcopied _ _)))
        (.next (hready _ _))

theorem execRecoveryFrame_frame {source : Nat} {broadcast : Bool} {hdr : CmdHeader} {payload : List Byte} :
    OnlyOut [.time, .met, .fwu] s (execRecoveryFrame dt source broadcast hdr payload s) := by
  have hfrom : Only [.time, .met, .fwu] s (sourceHost source (tick dt s)).2 := sourceHost_only (by decide) (ticked_only (by decide))
  refine .ite ?_ (.ticked (by decide))
  split
  · exact .next (answerOther_only (by decide) hfrom)
  · exact .next (runOther_only (by decide) hfrom fun _ _ _ => romRun_only (by decide))

/-! ### The frames of the pair (R724–R754) -/

theorem execHeartbeatSend_frame :
    OnlyOut [.cfg, .hosts, .sched, .time, .fab, .evt, .met, .rad, .link, .plc, .upl, .pair, .reg] s (execHeartbeatSend dt s) := by
  refine .ite ?_ (.ticked (by decide))
  split
  · exact .ticked (by decide)
  next e z hd =>
    have hplaced : ∀ k, Only [.cfg, .hosts, .sched, .time, .fab, .evt, .met, .rad, .link, .plc, .upl, .pair, .reg] s (placeOr k z) :=
      fun _ => placeOr_only (by decide) (dispatch_only (by decide) (ticked_only (by decide)) _ _ hd)
    have hsynced : ∀ (b : Prop) [Decidable b] k, Only [.cfg, .hosts, .sched, .time, .fab, .evt, .met, .rad, .link, .plc, .upl, .pair, .reg]
        s (if b then toPair .inSync (placeOr k z) else placeOr k z) := fun _ _ _ =>
      .ite (toPair_only (by decide) (hplaced _)) (hplaced _)
    exact .next (.ite (handOver_only (by decide) (hsynced _ _)) (sendHeartbeat_only (by decide) (hsynced _ _)))

theorem execPulseLandEdge_frame {out : Nat} : OnlyOut [.time, .met, .reg] s (execPulseLandEdge dt out s) :=
  .ite (.next (onPulse_only (by decide) (ticked_only (by decide)))) (.ticked (by decide))

theorem execHeartbeatReceive_frame {hb : HbMsg} {mark : LaneSeal} :
    OnlyOut [.cfg, .hosts, .mains, .sched, .time, .fab, .evt, .met, .rad, .link, .plc, .bal, .upl, .pair, .reg] s
      (execHeartbeatReceive dt hb mark s) :=
  .ite (.next (onLane_only (by decide) (ticked_only (by decide)) fun _ => takeHeartbeat_only (by decide))) (.ite (.ticked (by decide))
    (.ite (.next (sideClash_only (by decide) (ticked_only (by decide)))) (.next (takeHeartbeat_only (by decide) (ticked_only (by decide))))))

theorem execHeartbeatMiss_frame :
    OnlyOut [.cfg, .hosts, .sched, .time, .evt, .met, .link, .bal, .pair, .reg] s (execHeartbeatMiss dt s) := by
  have hmissed : ∀ f : PairSt → PairSt,
      Only [.cfg, .hosts, .sched, .time, .evt, .met, .link, .bal, .pair, .reg] s ((tick dt s).onPair f) := fun _ =>
    onPair_only (by decide) (ticked_only (by decide))
  refine .ite (.ite ?third (.next (hmissed _))) (.ticked (by decide))
  split
  · exact .next (.ite (hmissed _) (takeover_only (by decide) (hmissed _)))
  · exact .next (raise_only (by decide) (toPair_only (by decide) (stopMirror_only (by decide) (hmissed _))))
  · exact .next (hmissed _)

theorem execListenEnd_frame : OnlyOut [.cfg, .hosts, .sched, .time, .evt, .met, .pair] s (execListenEnd dt s) := by
  have hended : ∀ f : PairSt → PairSt, Only [.cfg, .hosts, .sched, .time, .evt, .met, .pair] s ((tick dt s).onPair f) := fun _ =>
    onPair_only (by decide) (ticked_only (by decide))
  unfold execListenEnd
  dsimp only
  split
  · exact .ticked (by decide)
  · refine .ite (.ite (.next (hended _)) ?heard) (.ticked (by decide))
    split
    · exact .next (toPair_only (by decide) (hended _))
    · exact .ite (.next (toPair_only (by decide) (hended _))) (.next (tryResync_only (by decide) (onPair_only (by decide) (hended _))))

theorem execYokeLaneChange_frame {up : Bool} :
    OnlyOut [.cfg, .hosts, .sched, .time, .evt, .met, .pair] s (execYokeLaneChange dt up s) := by
  have hnoted : ∀ f : PairSt → PairSt, Only [.cfg, .hosts, .sched, .time, .evt, .met, .pair] s ((tick dt s).onPair f) := fun _ =>
    onPair_only (by decide) (ticked_only (by decide))
  refine .ite (.ite (.next (tryResync_only (by decide) (hnoted _))) ?lost) (.ticked (by decide))
  split
  · exact .next (toStandby_only (by decide) (hnoted _))
  · exact .next (toStandby_only (by decide) (hnoted _))
  · exact .next (stopMirror_only (by decide) (hnoted _))
  · exact .next (hnoted _)

theorem execDelta_frame {jseq : Nat} {body : DeltaBody} {mark : LaneSeal} :
    OnlyOut [.cfg, .hosts, .sched, .time, .evt, .met, .sess, .bal, .arch, .fleet, .pair] s (execDelta dt jseq body mark s) :=
  .next (onLane_only (by decide) (ticked_only (by decide)) fun _ hy => .ite (takeDelta_only (by decide) hy) hy)

theorem execYokeAcknowledgement_frame {jseq : Nat} {mark : LaneSeal} :
    OnlyOut [.hosts, .time, .fab, .evt, .met, .sess, .arch, .pair] s (execYokeAcknowledgement dt jseq mark s) :=
  .next (onLane_only (by decide) (ticked_only (by decide)) fun _ => takeAckJseq_only (by decide))

theorem execSnapshot_frame {jseq : Nat} {body : DeltaBody} {mark : LaneSeal} :
    OnlyOut [.time, .met, .sess, .bal, .arch, .fleet, .pair] s (execSnapshot dt jseq body mark s) :=
  .next (onLane_only (by decide) (ticked_only (by decide)) fun _ hy => .ite (applyAt_only (by decide) hy) hy)

theorem execSnapshotEnd_frame {jseq : Nat} {mark : LaneSeal} :
    OnlyOut [.time, .met, .sess, .bal, .arch, .fleet, .pair] s (execSnapshotEnd dt jseq mark s) :=
  .next (onLane_only (by decide) (ticked_only (by decide)) fun _ hy => .ite (endSnapshot_only (by decide) hy) hy)

theorem execSyncLost_frame {mark : LaneSeal} :
    OnlyOut [.cfg, .hosts, .sched, .time, .evt, .met, .pair] s (execSyncLost dt mark s) :=
  .next (onLane_only (by decide) (ticked_only (by decide)) fun _ hy => .ite (toStandby_only (by decide) hy) hy)

theorem execMirrorPeriodic_frame : OnlyOut [.hosts, .time, .evt, .met, .pair] s (execMirrorPeriodic dt s) := by
  have hlegal : ∀ (b : Prop) [Decidable b] (d : DeltaBody) (f : PairSt → PairSt),
      Only [.hosts, .time, .evt, .met, .pair] s (if b then mirror d ((tick dt s).onPair f) else tick dt s) := fun _ _ _ _ =>
    .ite (mirror_only (by decide) (onPair_only (by decide) (ticked_only (by decide)))) (ticked_only (by decide))
  refine .ite (.ite (.next (.foldl (fun _ _ => mirror_only (by decide)) ?_)) (.next (hlegal _ _ _))) (.ticked (by decide))
  exact onPair_only (by decide) (hlegal _ _ _)

theorem execResyncRetry_frame : OnlyOut [.cfg, .hosts, .sched, .time, .evt, .met, .pair] s (execResyncRetry dt s) := by
  unfold execResyncRetry
  dsimp only
  split
  · exact .ticked (by decide)
  · exact .ite (.next (tryResync_only (by decide) (onPair_only (by decide) (ticked_only (by decide))))) (.ticked (by decide))

theorem execRevertHoldoff_frame : OnlyOut [.time, .met, .pair] s (execRevertHoldoff dt s) :=
  .ite (.next (onPair_only (by decide) (ticked_only (by decide)))) (.ticked (by decide))

theorem execHandover_frame :
    OnlyOut [.cfg, .hosts, .sched, .time, .fab, .evt, .met, .rad, .link, .plc, .bal, .upl, .pair, .reg] s (execHandover dt s) := by
  have hforced : ∀ f : PairSt → PairSt,
      Only [.cfg, .hosts, .sched, .time, .fab, .evt, .met, .rad, .link, .plc, .bal, .upl, .pair, .reg] s ((tick dt s).onPair f) := fun _ =>
    onPair_only (by decide) (ticked_only (by decide))
  refine .ite (.ticked (by decide)) ?_
  split
  · refine .ite (.next ?solo) (.ticked (by decide))
    split
    · exact becomeActive_only (by decide) (toPair_only (by decide) (onPair_only (by decide) (hforced _)))
    · exact becomeActive_only (by decide) (toPair_only (by decide) (onPair_only (by decide) (hforced _)))
    · exact hforced _
  · split
    · exact .ticked (by decide)
    · exact .ite (.next (nextHeartbeat_only (by decide) (handOver_only (by decide) (ticked_only (by decide))))) (.ticked (by decide))

/-! ### The frames of supply, start and power states (R787–R822) -/

theorem execVinRise_frame {mv : Nat} : OnlyOut [.time, .fab, .pwr, .met] s (execVinRise dt mv s) :=
  .ite (.next (onPwr_only (by decide) (onFab_only (by decide) (onMet_only (by decide) (ticked_only (by decide)))))) (.ticked (by decide))

theorem execVinUvlo_frame {mv : Nat} :
    OnlyOut [.cfg, .hosts, .sched, .time, .fab, .evt, .pwr, .met, .rad, .link, .plc, .sess, .vee, .bal, .arch, .upl, .pocket, .fwu, .reg] s
      (execVinUvlo dt mv s) := .ite (.next (powerOff_only (by decide) (ticked_only (by decide)))) (.ticked (by decide))

/-- The blocks that a start of the logic side may change (R798). -/
def startBlocks : List Block :=
  [.cfg, .hosts, .mains, .sched, .time, .fab, .evt, .pwr, .met, .rad, .link, .plc, .sess, .vee, .bal, .arch, .upl, .fleet, .pocket, .fwu,
    .pair, .reg, .free]

theorem execResetNRelease_frame {view : BootView} : OnlyOut startBlocks s (execResetNRelease dt view s) := by
  have hstrapped : ∀ f : FwuSt → FwuSt, Only startBlocks s ((tick dt s).onFwu f) := fun _ =>
    onFwu_only (by decide) (ticked_only (by decide))
  exact .ite (.ite (.next (startLogic_only (by decide) (hstrapped _)))
    (.next (startLogic_only (by decide) (islandStart_only (by decide) (hstrapped _))))) (.ticked (by decide))

theorem execResetNAssert_frame :
    OnlyOut [.cfg, .hosts, .sched, .time, .fab, .evt, .pwr, .met, .rad, .link, .plc, .sess, .vee, .bal, .arch, .upl, .pocket, .fwu, .reg] s
      (execResetNAssert dt s) := by
  unfold execResetNAssert
  dsimp only
  split
  · exact .ticked (by decide)
  · exact .ticked (by decide)
  · exact .next (onPwr_only (by decide) (stopLogic_only (by decide) (endRun_only (by decide) (ticked_only (by decide)))))

theorem execBootWatchdog_frame {view : BootView} : OnlyOut startBlocks s (execBootWatchdog dt view s) :=
  .ite (.next (warmReset_only (by decide) (countBootFail_only (by decide) (ticked_only (by decide))))) (.ticked (by decide))

theorem execEngineMemoryError_frame {engine ring item meter : Nat} :
    OnlyOut [.hosts, .time, .fab, .evt, .met, .rad, .plc, .sess, .vee, .reg] s (execEngineMemoryError dt engine ring item meter s) := by
  have halted : ∀ (d : List Byte) (f : FabSt → FabSt), Only [.hosts, .time, .fab, .evt, .met, .rad, .plc, .sess, .vee, .reg] s
      ((setAlarm 0x8 (raise .engineHalt engine d (tick dt s))).onFab f) := fun _ _ =>
    onFab_only (by decide) (setAlarm_only (by decide) (raise_only (by decide) (ticked_only (by decide))))
  exact .ite (.ite (.next (raise_only (by decide) (dropHead_only (by decide) (halted _ _)))) (.next (halted _ _))) (.ticked (by decide))

theorem execLockstepMismatch_frame {view : BootView} : OnlyOut startBlocks s (execLockstepMismatch dt view s) := by
  have hjudged : ∀ e : QEvent, Only startBlocks s (judgeEvent e (setAlarm 0x2 (tick dt s))).1 := fun _ =>
    judgeEvent_only (by decide) (setAlarm_only (by decide) (ticked_only (by decide)))
  exact .ite (.next (warmReset_only (by decide) (.ite (hjudged _) (countBootFail_only (by decide) (hjudged _))))) (.ticked (by decide))

theorem execHemStart_frame :
    OnlyOut [.hosts, .sched, .time, .fab, .evt, .pwr, .met, .rad, .link, .plc, .arch, .upl, .pair, .reg] s (execHemStart dt s) := by
  refine .ite ?_ (.ticked (by decide))
  split
  next hd => exact .next (beginHem_only (by decide) (dispatch_only (by decide) (ticked_only (by decide)) _ _ hd))
  next => exact .ticked (by decide)

theorem execHemComplete_frame :
    OnlyOut [.cfg, .hosts, .mains, .sched, .time, .fab, .evt, .pwr, .met, .rad, .link, .plc, .sess, .vee, .bal, .arch, .upl, .pocket, .fwu,
      .reg] s (execHemComplete dt s) := .ite (.next (finishHem_only (by decide) (ticked_only (by decide)))) (.ticked (by decide))

theorem execBrownoutRestart_frame {view : BootView} : OnlyOut startBlocks s (execBrownoutRestart dt view s) :=
  .ite (.next (warmReset_only (by decide) (setSticky_only (by decide) (ticked_only (by decide))))) (.ticked (by decide))

theorem execEarlyWarningAssert_frame {mv : Nat} {cyc : CycleIn} :
    OnlyOut [.hosts, .sched, .time, .fab, .evt, .pwr, .met, .link, .plc, .upl, .pair, .reg] s (execEarlyWarningAssert dt mv cyc s) := by
  have hwarned : ∀ (b : Prop) [Decidable b] (f g : PwrSt → PwrSt),
      Only [.hosts, .sched, .time, .fab, .evt, .pwr, .met, .link, .plc, .upl, .pair, .reg] s
        (lineWarned cyc (if b then (tick dt s).onPwr f else ((tick dt s).onPwr f).onPwr g)) := fun _ _ _ _ =>
    lineWarned_only (by decide) (.ite (onPwr_only (by decide) (ticked_only (by decide)))
      (onPwr_only (by decide) (onPwr_only (by decide) (ticked_only (by decide)))))
  have halarmed : ∀ (b : Prop) [Decidable b] (f g : PwrSt → PwrSt),
      Only [.hosts, .sched, .time, .fab, .evt, .pwr, .met, .link, .plc, .upl, .pair, .reg] s
        (setAlarm 0x20 (lineWarned cyc (if b then (tick dt s).onPwr f else ((tick dt s).onPwr f).onPwr g))) := fun _ _ _ _ =>
    setAlarm_only (by decide) (hwarned _ _ _)
  refine .ite (.ite (.next (hwarned _ _ _)) ?alarmed) (.ticked (by decide))
  dsimp only
  split
  · exact .next (.ite (placeHem_only (by decide) (halarmed _ _ _)) (parkUnsaved_only (by decide) (halarmed _ _ _)))
  · exact .next (onPwr_only (by decide) (halarmed _ _ _))
  · exact .next (placeHem_only (by decide) (halarmed _ _ _))

theorem execEarlyWarningDeassert_frame {mv : Nat} : OnlyOut [.time, .pwr, .met] s (execEarlyWarningDeassert dt mv s) :=
  .ite (.next (onPwr_only (by decide) (ticked_only (by decide)))) (.ticked (by decide))

theorem execFwuRestart_frame {view : BootView} : OnlyOut startBlocks s (execFwuRestart dt view s) := by
  refine .ite (.ite (.next (warmReset_only (by decide) (ticked_only (by decide)))) (.ticked (by decide))) (.ite ?_ (.ticked (by decide)))
  split
  next hd => exact .next (warmReset_only (by decide) (dispatch_only (by decide) (ticked_only (by decide)) _ _ hd))
  next => exact .ticked (by decide)

theorem execPowerStateEntry_frame {target : Nat} {commit : Bool} :
    OnlyOut [.hosts, .sched, .time, .pwr, .met, .sess, .reg] s (execPowerStateEntry dt target commit s) := by
  refine .ite ?_ (.ticked (by decide))
  split
  · exact .next (refuseEntry_only (by decide) (ticked_only (by decide)))
  · exact .next (.ite (commitEntry_only (by decide) (ticked_only (by decide))) (onPwr_only (by decide) (ticked_only (by decide))))

theorem execWake_frame {source : Nat} : OnlyOut [.hosts, .time, .pwr, .met] s (execWake dt source s) := by
  refine .ite (.ite (.next ?held) (.ite (.next ?aborted) ?asleep)) (.ticked (by decide))
  case held => exact armRequest_only (by decide) (ticked_only (by decide)) fun _ h => h
  case aborted => exact setSticky_only (by decide) (onPwr_only (by decide) (ticked_only (by decide)))
  split
  · exact .next (.ite (beginExit_only (by decide) (ticked_only (by decide))) (ticked_only (by decide)))
  · exact .next (.ite (beginExit_only (by decide) (ticked_only (by decide))) (ticked_only (by decide)))
  · exact .ticked (by decide)
  · exact .ticked (by decide)

theorem execClusterGate_frame {cluster : Fin 4} : OnlyOut [.time, .pwr, .met] s (execClusterGate dt cluster s) :=
  .ite (.next (trimState_only (by decide) (beginTransit_only (by decide) (onPwr_only (by decide) (ticked_only (by decide))))))
    (.ticked (by decide))

theorem execClusterUngate_frame {cluster : Fin 4} :
    OnlyOut [.cfg, .hosts, .mains, .sched, .time, .fab, .evt, .pwr, .met, .rad, .link, .plc, .sess, .vee, .arch, .upl, .fleet, .pair, .reg] s
      (execClusterUngate dt cluster s) :=
  .ite (.next (armRequest_only (by decide) (ticked_only (by decide)) fun _ => ungate_only (by decide))) (.ticked (by decide))

theorem execRearmExecute_frame :
    OnlyOut [.cfg, .hosts, .mains, .sched, .time, .fab, .evt, .pwr, .met, .rad, .link, .plc, .sess, .vee, .arch, .upl, .fleet, .pocket,
      .pair, .reg] s (execRearmExecute dt s) := by
  refine .ite ?_ (.ticked (by decide))
  split
  · exact .ticked (by decide)
  next t _ =>
    have hdone : ∀ f : PwrSt → PwrSt, Only [.cfg, .hosts, .mains, .sched, .time, .fab, .evt, .pwr, .met, .rad, .link, .plc, .sess, .vee,
        .arch, .upl, .fleet, .pocket, .pair, .reg] s (transitDone t ((tick dt s).onPwr f)) := fun _ =>
      transitDone_only (by decide) (onPwr_only (by decide) (ticked_only (by decide)))
    refine .next ?_
    split
    · exact execRearm_only (by decide) (hdone _)
    · exact hdone _

theorem execThermalWarn_frame {tj : Int} : OnlyOut [.hosts, .time, .evt, .pwr, .met] s (execThermalWarn dt tj s) :=
  .ite (.next (raise_only (by decide) (setAlarm_only (by decide) (onPwr_only (by decide) (ticked_only (by decide))))))
    (.ticked (by decide))

theorem execThermalStop_frame {tj : Int} : OnlyOut [.hosts, .sched, .time, .evt, .pwr, .met, .pair] s (execThermalStop dt tj s) :=
  .ite (.next (placeHem_only (by decide) (onPwr_only (by decide) (ticked_only (by decide))))) (.ticked (by decide))

theorem execThermalRestart_frame {view : BootView} : OnlyOut startBlocks s (execThermalRestart dt view s) :=
  .ite (.next (warmReset_only (by decide) (ticked_only (by decide)))) (.ticked (by decide))

theorem execThermalClear_frame {tj : Int} : OnlyOut [.time, .pwr, .met] s (execThermalClear dt tj s) :=
  .ite (.next (onPwr_only (by decide) (ticked_only (by decide)))) (.ticked (by decide))

/-- Each command of the four families keeps the blocks that `touches` does not list for it. -/
theorem exec_touches_of_control {c : Instr} (hc : [Family.key, .fwu, .pair, .pwr].contains (family c) = true) :
    OnlyOut (touches c) s (exec c s) := by
  cases c with
  | keyStatus => exact runCmd_frame rfl fun _ _ => keyStatus_only rfl
  | keyLoad => exact runCmd_frame rfl fun _ _ => keyLoad_only rfl
  | keyApply => exact runCmd_frame rfl fun _ _ => keyApply_only rfl
  | keyApplyComplete => exact execKeyApplyComplete_frame
  | slotRead => exact runCmd_frame rfl fun _ _ => slotRead_only rfl
  | attest => exact runCmd_frame rfl fun _ _ => attest_only rfl
  | attestComplete => exact execAttestComplete_frame
  | fwuStatus => exact runCmd_frame rfl fun _ _ => fwuStatus_only rfl
  | fwuBegin => exact runFwu_frame fun _ _ _ => fwuBegin_only rfl
  | fwuBeginComplete => exact execFwuBeginComplete_frame
  | fwuLoad => exact runFwu_frame fun _ _ _ => fwuLoad_only rfl
  | fwuFinish => exact runFwu_frame fun _ _ _ => fwuFinish_only rfl
  | fwuFinishComplete => exact execFwuFinishComplete_frame
  | fwuAbort => exact runFwu_frame fun _ _ _ => fwuAbort_only rfl
  | fwuFloor => exact runCmd_frame rfl fun _ _ => fwuFloor_only rfl
  | heartbeatSend => exact execHeartbeatSend_frame
  | pulseLandEdge => exact execPulseLandEdge_frame
  | heartbeatReceive => exact execHeartbeatReceive_frame
  | heartbeatMiss => exact execHeartbeatMiss_frame
  | listenEnd => exact execListenEnd_frame
  | yokeLaneChange => exact execYokeLaneChange_frame
  | delta => exact execDelta_frame
  | yokeAcknowledgement => exact execYokeAcknowledgement_frame
  | snapshot => exact execSnapshot_frame
  | snapshotEnd => exact execSnapshotEnd_frame
  | syncLost => exact execSyncLost_frame
  | mirrorPeriodic => exact execMirrorPeriodic_frame
  | resyncRetry => exact execResyncRetry_frame
  | revertHoldoff => exact execRevertHoldoff_frame
  | handover => exact execHandover_frame
  | pairStatus => exact runCmd_frame rfl fun _ _ => pairStatus_only rfl
  | pairSwitch => exact runCmd_frame rfl fun _ _ => pairSwitch_only rfl
  | pairLock => exact runCmd_frame rfl fun _ _ => pairLock_only rfl
  | vinRise => exact execVinRise_frame
  | recoveryFrame => exact execRecoveryFrame_frame
  | vinUvlo => exact execVinUvlo_frame
  | resetNRelease => exact execResetNRelease_frame
  | resetNAssert => exact execResetNAssert_frame
  | bootWatchdog => exact execBootWatchdog_frame
  | engineMemoryError => exact execEngineMemoryError_frame
  | lockstepMismatch => exact execLockstepMismatch_frame
  | hemStart => exact execHemStart_frame
  | hemComplete => exact execHemComplete_frame
  | brownoutRestart => exact execBrownoutRestart_frame
  | earlyWarningAssert dt mv cyc => exact execEarlyWarningAssert_frame (dt := dt) (mv := mv) (cyc := cyc)
  | earlyWarningDeassert => exact execEarlyWarningDeassert_frame
  | fwuRestart => exact execFwuRestart_frame
  | powerStateEntry => exact execPowerStateEntry_frame
  | wake => exact execWake_frame
  | clusterGate => exact execClusterGate_frame
  | clusterUngate => exact execClusterUngate_frame
  | rearmExecute => exact execRearmExecute_frame
  | thermalWarn => exact execThermalWarn_frame
  | thermalStop => exact execThermalStop_frame
  | thermalRestart => exact execThermalRestart_frame
  | thermalClear => exact execThermalClear_frame
  | pwrStatus => exact runCmd_frame rfl fun _ _ => pwrStatus_only rfl
  | pwrTolerance => exact runCmd_frame rfl fun _ _ => pwrTolerance_only rfl
  | pwrCounters => exact runCmd_frame rfl fun _ _ => pwrCounters_only rfl
  | _ => exact absurd hc Bool.false_ne_true

end Frames

/-- Settles O11: each command changes at most the blocks of the operations it is made of, and `touches` lists them. -/
theorem framesOfControl : Obligations.FramesOfControl :=
  fun _ _ t hf he => exec_touches_of_control (List.contains_iff_mem.mpr hf) t he

end Sys2Proof.Machine
end

section
/-! PROOFS. The statements of control: what every step keeps of the fuses, the boot record, the root and the KUM counters. -/

namespace Sys2Proof.Machine

open Host (Outcome)

/-! ### The frame of any command -/

/-- Each command keeps the blocks that `touches` does not list for it. -/
theorem exec_frame {c : Instr} {s t : State} (he : exec c s = .next t) : Only (touches c) s t := by
  cases hf : family c with
  | sys | time | evt | cfg => exact framesOfTheHub c s t (by rw [hf]; decide) he
  | metro | reg => exact framesOfMetering c s t (by rw [hf]; decide) he
  | link | plc | meter => exact framesOfTheField c s t (by rw [hf]; decide) he
  | vee | bal | arch => exact framesOfTheData c s t (by rw [hf]; decide) he
  | upl | fleet => exact framesOfTheUplink c s t (by rw [hf]; decide) he
  | key | fwu | pair | pwr => exact framesOfControl c s t (by rw [hf]; decide) he

/-! ### The relation that every step keeps -/

/-- The fields of the boot record stay in their ranges, and the floor is no lower (R702, R711, R715). -/
structure BootKept (f g : FwuSt) : Prop where
  raised : f.floor ≤ g.floor
  floor : f.floor ≤ 63 → g.floor ≤ 63
  fails : f.bootFails ≤ 3 → g.bootFails ≤ 3
  staging : f.staging ≤ 5 → g.staging ≤ 5
  reason : f.reason ≤ 3 → g.reason ≤ 3

/-- The root stays in its range, the lifecycle moves by LT3 and LT4, and no counter is lower (R676, R681, R687). -/
structure PocketKept (k l : KeySt) : Prop where
  root : k.root ≤ 2 → l.root ≤ 2
  lifecycle : LifecycleMoves k.lifecycle l.lifecycle
  counter : k.counter ≤ l.counter
  testCounter : k.testCounter ≤ l.testCounter

/-- What every step keeps of the boot record and of the Pocket. -/
structure Kept (s t : State) : Prop where
  boot : BootKept s.fwu t.fwu
  pocket : PocketKept s.pocket t.pocket

theorem LifecycleMoves.trans {a b c : Lifecycle} (h : LifecycleMoves a b) (k : LifecycleMoves b c) : LifecycleMoves a c := by
  unfold LifecycleMoves at *
  rcases h with rfl | ⟨rfl, rfl⟩ | ⟨ha, rfl⟩
  · exact k
  · rcases k with rfl | ⟨k, -⟩ | ⟨-, rfl⟩
    · exact .inr (.inl ⟨rfl, rfl⟩)
    · exact absurd k (by decide)
    · exact .inr (.inr ⟨.inl rfl, rfl⟩)
  · rcases k with rfl | ⟨k, -⟩ | ⟨k, -⟩
    · exact .inr (.inr ⟨ha, rfl⟩)
    · exact absurd k (by decide)
    · exact absurd k (by decide)

theorem BootKept.refl (f : FwuSt) : BootKept f f := ⟨Nat.le_refl _, id, id, id, id⟩

theorem BootKept.trans {f g h : FwuSt} (a : BootKept f g) (b : BootKept g h) : BootKept f h :=
  ⟨Nat.le_trans a.raised b.raised, b.floor ∘ a.floor, b.fails ∘ a.fails, b.staging ∘ a.staging, b.reason ∘ a.reason⟩

theorem PocketKept.refl (k : KeySt) : PocketKept k k := ⟨id, .inl rfl, Nat.le_refl _, Nat.le_refl _⟩

theorem PocketKept.trans {k l m : KeySt} (a : PocketKept k l) (b : PocketKept l m) : PocketKept k m :=
  ⟨b.root ∘ a.root, a.lifecycle.trans b.lifecycle, Nat.le_trans a.counter b.counter, Nat.le_trans a.testCounter b.testCounter⟩

theorem Kept.refl (s : State) : Kept s s := ⟨.refl _, .refl _⟩

theorem Kept.trans {s t u : State} (h : Kept s t) (k : Kept t u) : Kept s u := ⟨h.boot.trans k.boot, h.pocket.trans k.pocket⟩

/-- Every block but the boot record's and the Pocket's. -/
def unfused : List Block :=
  [.cfg, .hosts, .mains, .sched, .time, .fab, .evt, .pwr, .met, .rad, .link, .plc, .sess, .vee, .bal, .arch, .upl, .fleet, .pair, .reg,
    .pending, .free]

section Operations
variable {s0 s : State}

/-- What touches neither block keeps both. -/
theorem Kept.of_only {bs : List Block} {t : State} (ho : Only bs s t) (hf : bs.contains .fwu = false) (hp : bs.contains .pocket = false) :
    Kept s t := by
  have hfwu : t.fwu = s.fwu := ho .fwu fun hm => by simp [hm] at hf
  have hpocket : t.pocket = s.pocket := ho .pocket fun hm => by simp [hm] at hp
  exact ⟨hfwu ▸ .refl _, hpocket ▸ .refl _⟩

/-- An operation on the other blocks, after one that keeps. -/
theorem Kept.after {t : State} (ho : Only unfused s t) (h : Kept s0 s) : Kept s0 t := h.trans (.of_only ho rfl rfl)

/-- The operation on the other blocks that leads from a state. -/
theorem framed : Only unfused s s := Only.refl _ s

theorem Kept.ite {a b : State} {c : Prop} [Decidable c] (ha : Kept s a) (hb : Kept s b) : Kept s (if c then a else b) := by
  split <;> assumption

theorem Kept.foldl {α : Type} {l : List α} {g : State → α → State} {x : State} (hg : ∀ y a, Kept s y → Kept s (g y a)) (hx : Kept s x) :
    Kept s (l.foldl g x) := by
  induction l generalizing x with
  | nil => exact hx
  | cons a l ih => exact ih (hg x a hx)

/-- A change of the boot record within its ranges. -/
theorem Kept.onFwu {f : FwuSt → FwuSt} (h : Kept s0 s) (hf : BootKept s.fwu (f s.fwu)) : Kept s0 (s.onFwu f) :=
  h.trans ⟨hf, .refl _⟩

/-- A change of the boot record that leaves its limited fields. -/
theorem Kept.onFwu_same {f : FwuSt → FwuSt} (h : Kept s0 s) (hfloor : (f s.fwu).floor = s.fwu.floor)
    (hfails : (f s.fwu).bootFails = s.fwu.bootFails) (hstaging : (f s.fwu).staging = s.fwu.staging)
    (hreason : (f s.fwu).reason = s.fwu.reason) : Kept s0 (s.onFwu f) :=
  h.onFwu ⟨hfloor ▸ Nat.le_refl _, by rw [hfloor]; exact id, by rw [hfails]; exact id, by rw [hstaging]; exact id, by rw [hreason]; exact id⟩

/-- A change of the boot record that gives STAGING a value of the spec. -/
theorem Kept.onFwu_staging {f : FwuSt → FwuSt} (h : Kept s0 s) (n : Nat) (hn : n ≤ 5)
    (hstaging : (f s.fwu).staging = n) (hfloor : (f s.fwu).floor = s.fwu.floor) (hfails : (f s.fwu).bootFails = s.fwu.bootFails)
    (hreason : (f s.fwu).reason = s.fwu.reason) : Kept s0 (s.onFwu f) :=
  h.onFwu ⟨hfloor ▸ Nat.le_refl _, by rw [hfloor]; exact id, by rw [hfails]; exact id, fun _ => hstaging ▸ hn, by rw [hreason]; exact id⟩

/-- A change of the boot record that gives BOOT_FAILS a value of the spec. -/
theorem Kept.onFwu_fails {f : FwuSt → FwuSt} (h : Kept s0 s) (n : Nat) (hn : n ≤ 3)
    (hfails : (f s.fwu).bootFails = n) (hfloor : (f s.fwu).floor = s.fwu.floor) (hstaging : (f s.fwu).staging = s.fwu.staging)
    (hreason : (f s.fwu).reason = s.fwu.reason) : Kept s0 (s.onFwu f) :=
  h.onFwu ⟨hfloor ▸ Nat.le_refl _, by rw [hfloor]; exact id, fun _ => hfails ▸ hn, by rw [hstaging]; exact id, by rw [hreason]; exact id⟩

/-- A change of the boot record that gives REASON a value of the spec. -/
theorem Kept.onFwu_reason {f : FwuSt → FwuSt} (h : Kept s0 s) (n : Nat) (hn : n ≤ 3)
    (hreason : (f s.fwu).reason = n) (hfloor : (f s.fwu).floor = s.fwu.floor) (hfails : (f s.fwu).bootFails = s.fwu.bootFails)
    (hstaging : (f s.fwu).staging = s.fwu.staging) : Kept s0 (s.onFwu f) :=
  h.onFwu ⟨hfloor ▸ Nat.le_refl _, by rw [hfloor]; exact id, by rw [hfails]; exact id, by rw [hstaging]; exact id, fun _ => hreason ▸ hn⟩

/-- A change of the Pocket that leaves root, lifecycle and counters. -/
theorem Kept.onPocket {f : KeySt → KeySt} (h : Kept s0 s) (hroot : (f s.pocket).root = s.pocket.root)
    (hlife : (f s.pocket).lifecycle = s.pocket.lifecycle) (hcounter : (f s.pocket).counter = s.pocket.counter)
    (htest : (f s.pocket).testCounter = s.pocket.testCounter) : Kept s0 (s.onPocket f) :=
  h.trans ⟨.refl _, ⟨by rw [State.onPocket_pocket, hroot]; exact id, .inl hlife, hcounter ▸ Nat.le_refl _, htest ▸ Nat.le_refl _⟩⟩

/-! ### Staging, the copy and the floor (R702–R711, R720–R722) -/

theorem emptyStaging_kept {st : Nat} (hst : st ≤ 5) (h : Kept s0 s) : Kept s0 (emptyStaging st s) :=
  h.onFwu_staging st hst rfl rfl rfl rfl

theorem dropStaging_kept (h : Kept s0 s) : Kept s0 (dropStaging s) :=
  Kept.after (raise_only (by decide) (setSticky_only (by decide) framed)) (emptyStaging_kept (by decide) h)

theorem beginCopy_kept {sig resSig : Bool} (h : Kept s0 s) : Kept s0 (beginCopy sig resSig s) := by
  refine .ite h ?_
  split
  · exact dropStaging_kept h
  · exact h.onFwu_staging 4 (by decide) rfl rfl rfl rfl

theorem copyTo_kept {n : Nat} (h : Kept s0 s) : Kept s0 (copyTo n s) := by
  unfold copyTo
  exact h.onFwu_same rfl rfl rfl rfl

theorem endCopy_kept (h : Kept s0 s) : Kept s0 (endCopy s) :=
  Kept.after (setSticky_only (by decide) framed) ((emptyStaging_kept (by decide) h).onFwu_same rfl rfl rfl rfl)

theorem dropBelowFloor_kept (h : Kept s0 s) : Kept s0 (dropBelowFloor s) := .ite (dropStaging_kept h) h

theorem countBootFail_kept (h : Kept s0 s) : Kept s0 (countBootFail s) :=
  h.onFwu_fails (min 3 (s.fwu.bootFails + 1)) (Nat.min_le_left _ _) rfl rfl rfl rfl

/-- An image with RAISE_FLOOR raises the floor to its SVN, at most 63 (R706, R711). -/
theorem confirmStart_kept (h : Kept s0 s) : Kept s0 (confirmStart s) := by
  refine h.onFwu ⟨?_, fun hfloor => ?_, fun _ => Nat.zero_le 3, id, id⟩
  · dsimp only
    split
    · exact Nat.le_max_left _ _
    · exact Nat.le_refl _
  · dsimp only
    split
    · exact Nat.max_le.mpr ⟨hfloor, Nat.min_le_left _ _⟩
    · exact hfloor

theorem answerOther_kept {n : Nat} {tk : Taken} {r : Reply} (h : Kept s0 s) : Kept s0 (answerOther n tk r s) :=
  h.onFwu_same rfl rfl rfl rfl

theorem fwuEnd_kept {j : FwuJob} {r : Reply} (h : Kept s0 s) : Kept s0 (fwuEnd j r s) :=
  .ite (Kept.after (finishAt_only (by decide) framed) (h.onFwu_same rfl rfl rfl rfl)) (answerOther_kept (h.onFwu_same rfl rfl rfl rfl))

theorem fwuBegin_kept {n : Nat} {tk : Taken} (h : Kept s0 s) : Kept s0 (fwuBegin n tk s).1 := by
  unfold fwuBegin
  dsimp only
  repeat' split
  all_goals first
    | exact h
    | dsimp only
      refine .onFwu_staging ?_ 1 (by decide) rfl rfl rfl rfl
      first
        | exact h
        | refine .onFwu_same ?_ rfl rfl rfl rfl
          exact emptyStaging_kept (by decide) h

theorem fwuLoad_kept {n : Nat} {tk : Taken} (h : Kept s0 s) : Kept s0 (fwuLoad n tk s).1 := by
  unfold fwuLoad
  dsimp only
  repeat' split
  · exact h
  · exact h
  · exact h
  · dsimp only
    exact .onFwu_same h rfl rfl rfl rfl

theorem fwuFinish_kept {n : Nat} {tk : Taken} (h : Kept s0 s) : Kept s0 (fwuFinish n tk s).1 := by
  unfold fwuFinish
  repeat' split
  · exact h
  · exact h
  · dsimp only
    exact .onFwu_staging h 2 (by decide) rfl rfl rfl rfl

theorem fwuAbort_kept {n : Nat} {tk : Taken} (h : Kept s0 s) : Kept s0 (fwuAbort n tk s).1 := by
  unfold fwuAbort
  split
  · exact h
  · exact emptyStaging_kept (by decide) h

/-- FWU_FLOOR only raises the floor, at most to 63 (R711, R722). -/
theorem fwuFloor_kept {tk : Taken} (h : Kept s0 s) : Kept s0 (fwuFloor tk s).1 := by
  unfold fwuFloor
  dsimp only
  split
  · exact h
  next hok =>
    split
    · exact h
    next habove =>
      simp only [Bool.or_eq_true, decide_eq_true_eq, not_or, Nat.not_lt] at hok
      obtain ⟨⟨⟨-, hlimit⟩, -⟩, -⟩ := hok
      dsimp only
      exact h.onFwu ⟨Nat.le_of_lt (Nat.lt_of_not_le habove), fun _ => hlimit, fun hfails => hfails, fun hstaging => hstaging, fun hreason => hreason⟩

theorem sourceHost_kept {n : Nat} (h : Kept s0 s) : Kept s0 (sourceHost n s).2 :=
  .ite h (h.onFwu_same rfl rfl rfl rfl)

theorem romRun_kept {n : Nat} {tk : Taken} (h : Kept s0 s) : Kept s0 (romRun n tk s).1 := by
  unfold romRun
  split
  · exact h
  · exact h
  · exact fwuBegin_kept h
  · split
    · exact h
    · exact fwuLoad_kept h
  · exact fwuFinish_kept h
  · exact fwuAbort_kept h
  · exact h

/-! ### The Pocket (R671, R676–R693) -/

theorem clearStaging_kept (h : Kept s0 s) : Kept s0 (clearStaging s) := h.onPocket rfl rfl rfl rfl

theorem keyRefuse_kept {st : Status} {kind bad : Nat} (h : Kept s0 s) : Kept s0 (keyRefuse st kind bad s).1 := clearStaging_kept h

theorem kumReject_kept (h : Kept s0 s) : Kept s0 (kumReject s) :=
  Kept.after (raise_only (by decide) (setSticky_only (by decide) framed)) (h.onPocket rfl rfl rfl rfl)

theorem meterKeys_kept {l : List (List Byte)} (h : Kept s0 s) : Kept s0 (l.foldl (fun s e => applyMeterKeys e s) s) :=
  .after (.foldl (fun _ _ => applyMeterKeys_only (by decide)) framed) h

theorem keyCheck_kept {n : Nat} {tk : Taken} {ok : Bool} (h : Kept s0 s) : Kept s0 (keyCheck n tk ok s).1 := by
  unfold keyCheck
  dsimp only
  repeat' split
  all_goals first
    | exact keyRefuse_kept (kumReject_kept h)
    | exact keyRefuse_kept h
    | dsimp only
      refine .onPocket ?_ rfl rfl rfl rfl
      first
        | exact h
        | exact meterKeys_kept h

theorem keyApply_kept {n : Nat} {ok : Bool} {tk : Taken} (h : Kept s0 s) : Kept s0 (keyApply n ok tk s).1 := by
  unfold keyApply
  repeat' split
  · exact h
  · exact h
  · exact keyRefuse_kept h
  · exact keyCheck_kept h

theorem applyAgain_kept {a : Applying} (h : Kept s0 s) : Kept s0 (applyAgain a s) := by
  unfold applyAgain
  refine .onPocket ?_ rfl rfl rfl rfl
  exact .ite (meterKeys_kept h) h

theorem applyEntry_kept {kind counter : Nat} {e : List Byte} (h : Kept s0 s) : Kept s0 (applyEntry kind counter e s) := by
  unfold applyEntry
  dsimp only
  split
  · exact h.onPocket rfl rfl rfl rfl
  · exact (Kept.after (st_takeFree_only (by decide) framed) h).onPocket rfl rfl rfl rfl
  · exact h.onPocket rfl rfl rfl rfl
  · exact h.onPocket rfl rfl rfl rfl
  · exact h.onPocket rfl rfl rfl rfl
  · exact h.onPocket rfl rfl rfl rfl
  · exact h

theorem keyLoad_kept {n : Nat} {tk : Taken} (h : Kept s0 s) : Kept s0 (keyLoad n tk s).1 := by
  unfold keyLoad
  dsimp only
  repeat' split
  · exact h
  · exact h
  · exact h
  · exact h
  all_goals
    dsimp only
    exact .onPocket h rfl rfl rfl rfl

theorem attest_kept {n : Nat} {tk : Taken} (h : Kept s0 s) : Kept s0 (attest n tk s).1 := by
  unfold attest
  dsimp only
  split
  · exact h
  · dsimp only
    exact .onPocket h rfl rfl rfl rfl

/-- The larger of the two counters stands for the root in force after a KUM (R676, R679). -/
theorem countKum_kept {a : Applying} {b : Bool} (h : Kept s0 s) : Kept s0 (s.onPocket fun k =>
    { k with counter := if b then k.counter else max k.counter a.counter
             testCounter := if b then max k.testCounter a.counter else k.testCounter, applying := none }) := by
  refine h.trans ⟨.refl _, ⟨id, .inl rfl, ?_, ?_⟩⟩
  · cases b
    · exact Nat.le_max_left _ _
    · exact Nat.le_refl _
  · cases b
    · exact Nat.le_refl _
    · exact Nat.le_max_left _ _

/-- A start moves the lifecycle as LT3 and LT4 allow (R681). -/
theorem lifecycleAfter_moves (l : Lifecycle) (n : Option Lifecycle) : LifecycleMoves l (lifecycleAfter l n) := by
  unfold LifecycleMoves lifecycleAfter
  split
  · exact .inr (.inl ⟨rfl, rfl⟩)
  · exact .inr (.inr ⟨.inl rfl, rfl⟩)
  · exact .inr (.inr ⟨.inr (.inl rfl), rfl⟩)
  · exact .inr (.inr ⟨.inr (.inr rfl), rfl⟩)
  · exact .inl rfl

theorem chooseRoot_kept (h : Kept s0 s) : Kept s0 (chooseRoot s) := by
  refine h.trans ⟨.refl _, ⟨fun _ => ?_, lifecycleAfter_moves _ _, Nat.le_refl _, Nat.le_refl _⟩⟩
  unfold chooseRoot
  rw [State.onPocket_pocket]
  dsimp only
  repeat' split
  all_goals decide

theorem verifySeals_kept {bad : List Nat} (h : Kept s0 s) : Kept s0 (verifySeals bad s) := h.onPocket rfl rfl rfl rfl

theorem cipheredIn_kept {m : Nat} {e : Q2Entry} {signed : Bool} (h : Kept s0 s) : Kept s0 (cipheredIn m e signed s) := by
  unfold cipheredIn
  repeat' split
  all_goals first
    | exact h
    | exact Kept.after (setSticky_only (by decide) (onSess_only (by decide) framed)) (h.onPocket rfl rfl rfl rfl)
    | exact Kept.after (countAuthFail_only (by decide) framed) h
    | exact Kept.after (acceptCurrent_only (by decide) framed) h
    | exact Kept.after (acceptPrevious_only (by decide) framed) h
    | exact Kept.after (tagFailure_only (by decide) framed) h

theorem stage_kept {e : Q2Entry} (h : Kept s0 s) : Kept s0 (stage e s) := by
  unfold stage
  split
  · exact Kept.after (onSess_only (by decide) framed) h
  next m _ =>
    split
    · exact h
    · have hot : Kept s0 (takeHot m s) := Kept.after (takeHot_only (by decide) framed) h
      dsimp only
      repeat' split
      all_goals first
        | exact Kept.after (onSess_only (by decide) framed) hot
        | exact Kept.after (countAuthFail_only (by decide) framed) hot
        | exact cipheredIn_kept hot

/-! ### Hosts that go offline and the end of a run (R624, R643, R690, R885) -/

theorem goOffline_kept {x : Fin 4} (h : Kept s0 s) : Kept s0 (goOffline x s) := by
  have hcleared : ∀ (y : State) (b : Prop) [Decidable b], Kept s0 y → Kept s0 (if b then clearStaging y else y) :=
    fun _ _ _ hy => .ite (clearStaging_kept hy) hy
  refine .ite (Kept.after (onCfg_only (by decide) framed) (hcleared _ _ ?gone)) (hcleared _ _ ?gone)
  exact Kept.after (onEvt_only (by decide) (onHosts_only (by decide) (st_setHost_only (by decide)
    (.foldl (fun _ _ => loseLease_only (by decide)) framed)))) h

theorem stopHosts_kept (h : Kept s0 s) : Kept s0 (stopHosts s) := by
  unfold stopHosts
  exact .after (onHosts_only (by decide) framed) (.foldl (fun _ _ hy => goOffline_kept hy) h)

theorem stopStores_kept (h : Kept s0 s) : Kept s0 (stopStores s) := by
  unfold stopStores
  refine .after (onCfg_only (by decide) framed) (.onFwu (.onPocket h rfl rfl rfl rfl) ⟨Nat.le_refl _, id, id, fun hst => ?_, id⟩)
  dsimp only
  split
  · decide
  · exact hst

theorem clearLogic_kept (h : Kept s0 s) : Kept s0 (clearLogic s) := by
  unfold clearLogic
  refine .after (stopReg_only (by decide) framed) (stopStores_kept (.after ?_ (stopHosts_kept h)))
  exact stopUpl_only (by decide) (stopArch_only (by decide) (stopIngest_only (by decide) (stopLinks_only (by decide)
    (stopFab_only (by decide) (stopTime_only (by decide) (stopEvt_only (by decide) (stopSched_only (by decide) framed)))))))

theorem stopLogic_kept (h : Kept s0 s) : Kept s0 (stopLogic s) := by
  unfold stopLogic
  refine .after (onPwr_only (by decide) framed) (clearLogic_kept (.after ?_ h))
  exact onMet_only (by decide) (onFab_only (by decide) (abortSession_only (by decide) (muteDriver_only (by decide)
    (silence_only (by decide) framed))))

theorem powerOff_kept (h : Kept s0 s) : Kept s0 (powerOff s) := by
  unfold powerOff
  refine .after (onPwr_only (by decide) (onArch_only (by decide) (onFab_only (by decide) framed))) (stopLogic_kept (.after ?_ h))
  exact endRun_only (by decide) (abortSession_only (by decide) framed)

theorem finishHem_kept (h : Kept s0 s) : Kept s0 (finishHem s) := by
  unfold finishHem
  refine .after (onPwr_only (by decide) framed) (clearLogic_kept (.after ?_ h))
  exact endRun_only (by decide) (onEvt_only (by decide) (saveItems_only (by decide) framed))

/-! ### A start of the logic side (R701, R702, R798) -/

/-- What the boot stage answers: the fields are kept, and it goes to recovery with a REASON of the spec (R715). -/
def StageKept (s0 : State) (x : State × BootEnd) : Prop := Kept s0 x.1 ∧ ∀ r, x.2 = .recovery r → r ≤ 3

theorem StageKept.ite {x y : State × BootEnd} {c : Prop} [Decidable c] (hx : StageKept s0 x) (hy : StageKept s0 y) :
    StageKept s0 (if c then x else y) := by
  split <;> assumption

theorem StageKept.recovery {r : Nat} (hr : r ≤ 3) (h : Kept s0 s) : StageKept s0 (s, .recovery r) := ⟨h, by rintro r ⟨⟩; exact hr⟩

theorem StageKept.copying (h : Kept s0 s) : StageKept s0 (s, .copying) := ⟨h, by rintro r ⟨⟩⟩

theorem StageKept.loaded (h : Kept s0 s) : StageKept s0 (s, .loaded) := ⟨h, by rintro r ⟨⟩⟩

theorem bootStage_kept {v : BootView} (h : Kept s0 s) : StageKept s0 (bootStage v s) := by
  unfold bootStage
  extract_lets a b c copy d
  have ha : Kept s0 a := h.onFwu_reason 0 (by decide) rfl rfl rfl rfl
  have hb : Kept s0 b := dropBelowFloor_kept ha
  have hc : Kept s0 c := .ite (beginCopy_kept hb) hb
  have hd : Kept s0 d := .ite (endCopy_kept hc) hc
  clear_value d c b a
  refine .ite (.recovery (by decide) ha) (.ite (.recovery (by decide) ha) ?_)
  refine .ite (.copying (copyTo_kept hc)) (.ite (.loaded hd) (.recovery (by decide) (.ite ?_ hd)))
  exact hd.onFwu_fails _ (Nat.min_le_left 3 _) rfl rfl rfl rfl

theorem enterRecovery_kept {r : Nat} (hr : r ≤ 3) (h : Kept s0 s) : Kept s0 (enterRecovery r s) := by
  unfold enterRecovery
  extract_lets a b before c
  have ha : Kept s0 a := .after (bindHosts_only (by decide) framed) h
  have hb : Kept s0 b := .after (onCfg_only (by decide) framed) ha
  clear_value b
  have hreason : Kept s0 (b.onFwu fun f => { f with reason := r }) := by
    exact hb.onFwu_reason r hr rfl rfl rfl rfl
  have hc : Kept s0 c := .after (onPwr_only (by decide) framed) hreason
  clear_value c before
  exact .after (freeEdge_only (by decide) framed) hc

theorem loadConfig_kept {cold : Bool} {v : BootView} (h : Kept s0 s) : Kept s0 (loadConfig cold v s) := by
  unfold loadConfig
  extract_lets a
  have ha : Kept s0 a := by
    unfold a
    split
    · exact .after (moveStore_only (by decide) framed) h
    · exact h
  clear_value a
  split
  extract_lets b c d hz e f
  have hb : Kept s0 b := .ite (.after (raise_only (by decide) (setSticky_only (by decide) framed)) ha) ha
  have hc : Kept s0 c := .after (loadPlan_only (by decide) (useImage_only (by decide) framed)) hb
  have hd : Kept s0 d := verifySeals_kept hc
  have he : Kept s0 e := .after (onMains_only (by decide) framed) hd
  have hf : Kept s0 f := .after (restartSources_only (by decide) framed) he
  clear_value f
  exact .ite hf (.after (closeForRestart_only (by decide) framed) hf)

theorem becomeReady_kept (h : Kept s0 s) : Kept s0 (becomeReady s) := by
  unfold becomeReady
  extract_lets before a b c d e
  have ha : Kept s0 a := confirmStart_kept h
  have he : Kept s0 e := .after (onEvt_only (by decide) (onLink_only (by decide) (onPwr_only (by decide) (onHosts_only (by decide)
    framed)))) ha
  clear_value e before
  exact .after (freeEdge_only (by decide) (evalTriggers_only (by decide) framed)) he

theorem runFirmware_kept {cold : Bool} {v : BootView} (h : Kept s0 s) : Kept s0 (runFirmware cold v s) := by
  unfold runFirmware
  extract_lets a b
  have ha : Kept s0 a := loadConfig_kept (.after (enterStep_only (by decide) framed) h)
  have hb : Kept s0 b := .after (takeUp_only (by decide) (enterStep_only (by decide) framed)) ha
  clear_value b a
  exact .ite ha (.ite (.after (onArch_only (by decide) framed) hb) (becomeReady_kept (.after (loadTables_only (by decide) framed) hb)))

theorem startLogic_kept {cold : Bool} {cause : Nat} {v : BootView} (h : Kept s0 s) : Kept s0 (startLogic cold cause v s) := by
  unfold startLogic
  extract_lets a b c d
  have ha : Kept s0 a := .after (onMet_only (by decide) framed) h
  have hb : Kept s0 b := .ite ha (.after (onEvt_only (by decide) framed) ha)
  have hc : Kept s0 c := .after (beginRun_only (by decide) framed) hb
  have hd : Kept s0 d := .after (writeStart_only (by decide) framed) (chooseRoot_kept (.after (enterStep_only (by decide) framed) hc))
  clear_value d c
  refine .ite (.after (parkUnsaved_only (by decide) framed) hc) (.ite hc ?_)
  obtain ⟨hstage, hreason⟩ := bootStage_kept (v := v) hd
  generalize bootStage v d = x at hstage hreason ⊢
  obtain ⟨y, b⟩ := x
  cases b with
  | copying => exact hstage
  | recovery r => exact enterRecovery_kept (hreason r rfl) hstage
  | loaded => exact .ite hstage (runFirmware_kept hstage)

theorem warmReset_kept {cause : Nat} {v : BootView} (h : Kept s0 s) : Kept s0 (warmReset cause v s) :=
  startLogic_kept (stopLogic_kept (.after (endRun_only (by decide) framed) h))

/-! ### Power states (R805, R806) -/

theorem networkOff_kept (h : Kept s0 s) : Kept s0 (networkOff s) := by
  unfold networkOff
  extract_lets pcie a b c
  have ha : Kept s0 a := .foldl (fun _ _ hy => goOffline_kept hy) h
  have hb : Kept s0 b := .after (.foldl (fun _ _ => endChild_only (by decide)) (endUp_only (by decide) (setLink_only (by decide)
    (setLink_only (by decide) framed)))) ha
  have hc : Kept s0 c := .after (onTime_only (by decide) framed) hb
  clear_value c
  exact .ite hc (.after (loseSource_only (by decide) framed) hc)

theorem enterState_kept {n : Nat} (h : Kept s0 s) : Kept s0 (enterState n s) := by
  unfold enterState
  have hradios : Kept s0 (radiosOff s) := .after (radiosOff_only (by decide) framed) h
  exact .after (onPwr_only (by decide) framed) (.ite (.after (releasePulses_only (by decide) framed) (networkOff_kept hradios)) hradios)

theorem transitDone_kept {t : Transit} (h : Kept s0 s) : Kept s0 (transitDone t s) := by
  unfold transitDone
  split
  · exact .ite (.after (finishExit_only (by decide) framed) h) (enterState_kept h)
  · exact h

end Operations

/-! ### Every command keeps them -/

/-- An outcome whose next state keeps what every step keeps. -/
def KeptOut (s : State) (o : Outcome State Fault Refusal) : Prop := ∀ t, o = .next t → Kept s t

theorem KeptOut.next {s t : State} (h : Kept s t) : KeptOut s (.next t) := by rintro _ ⟨⟩; exact h

theorem KeptOut.ite {s : State} {a b : Outcome State Fault Refusal} {c : Prop} [Decidable c] (ha : KeptOut s a) (hb : KeptOut s b) :
    KeptOut s (if c then a else b) := by
  split <;> assumption

section Commands
variable {s : State} {dt : Nat}

theorem ticked_kept : Kept s (tick dt s) := .of_only (ticked_only (bs := [.time, .met]) rfl) rfl rfl

theorem KeptOut.ticked : KeptOut s (.next (tick dt s)) := .next ticked_kept

/-- A command that `touches` gives neither block. -/
theorem KeptOut.of_frame {c : Instr} (hf : (touches c).contains .fwu = false) (hp : (touches c).contains .pocket = false) :
    KeptOut s (exec c s) := fun _ he => .of_only (exec_frame he) hf hp

theorem respond_kept {s0 : State} {h : Fin 4} {tk : Taken} {r : Reply} (hs : Kept s0 s) : Kept s0 (respond h tk r s) :=
  .after (respond_only (by decide) framed) hs

theorem runCmd_kept {op : Nat} {h : Fin 4} {f : Taken → State → State × Reply} (hf : ∀ t y, Kept s y → Kept s (f t y).1) :
    Kept s (runCmd op h f (tick dt s)) := by
  unfold runCmd
  split
  · exact ticked_kept
  · extract_lets x
    have hx : Kept s x := .after (onHosts_only (by decide) framed) ticked_kept
    exact .ite (.ite (respond_kept hx) (respond_kept (hf _ _ hx))) ticked_kept

theorem runFwu_kept {op : Nat} {h : Fin 4} {head : Option (List Byte)} {f : Nat → Taken → State → State × Reply}
    (hf : ∀ n t y, Kept s y → Kept s (f n t y).1) : KeptOut s (.next (runFwu op h head f (tick dt s))) := by
  refine .next ?_
  unfold runFwu
  split
  · exact runCmd_kept (hf _)
  · exact .ite (answerOther_kept (hf _ _ _ ticked_kept)) ticked_kept

theorem execFwuBeginComplete_kept : KeptOut s (execFwuBeginComplete dt s) := by
  unfold execFwuBeginComplete
  extract_lets x
  split
  · exact .ticked
  · exact .ite (.next (fwuEnd_kept ticked_kept)) .ticked

theorem execFwuFinishComplete_kept {sigOk resOk : Bool} : KeptOut s (execFwuFinishComplete dt sigOk resOk s) := by
  unfold execFwuFinishComplete
  extract_lets x v
  have hx : Kept s x := ticked_kept
  split
  · exact .ticked
  next j _ =>
    have hrejected : Kept s (x.onFwu fun f => { f with staging := 5 }) := hx.onFwu_staging 5 (by decide) rfl rfl rfl rfl
    refine .ite (.next (fwuEnd_kept hx)) (.ite (.ite ?verified (.next (fwuEnd_kept hrejected))) .ticked)
    split
    · exact .next (fwuEnd_kept hrejected)
    · exact .next (fwuEnd_kept (hx.onFwu_staging 1 (by decide) rfl rfl rfl rfl))
    next y hy =>
      have hplaced : Kept s y := .after (OnlyEx.get hy (placeRestart_only (by decide) framed)) hx
      extract_lets z a b
      have ha : Kept s a := fwuEnd_kept (hplaced.onFwu_staging 3 (by decide) rfl rfl rfl rfl)
      have hb : Kept s b := beginCopy_kept ha
      exact .ite (.ite (.next ((endCopy_kept hb).onFwu_fails 0 (by decide) rfl rfl rfl rfl)) (.next hb)) (.next ha)

theorem execRecoveryFrame_kept {source : Nat} {broadcast : Bool} {hdr : CmdHeader} {payload : List Byte} :
    KeptOut s (execRecoveryFrame dt source broadcast hdr payload s) := by
  have hfrom : Kept s (sourceHost source (tick dt s)).2 := sourceHost_kept ticked_kept
  refine .ite ?_ .ticked
  split
  · exact .next (answerOther_kept hfrom)
  · exact .next (answerOther_kept (romRun_kept hfrom))

theorem execKeyApplyComplete_kept : KeptOut s (execKeyApplyComplete dt s) := by
  unfold execKeyApplyComplete
  extract_lets x
  have hx : Kept s x := ticked_kept
  split
  · exact .ticked
  next a _ =>
    extract_lets unsaved y z w
    have hy : Kept s y := .ite hx (.foldl (fun _ _ hk => applyEntry_kept hk) hx)
    have hw : Kept s w := clearStaging_kept (countKum_kept hy)
    exact .ite (.next (applyAgain_kept hx)) (.ite (.next (.after (.foldl (fun _ _ => writeBack_only (by decide)) framed) hx))
      (.ite (.next (.after (finishAt_only (by decide) framed) hw)) .ticked))

theorem execAttestComplete_kept : KeptOut s (execAttestComplete dt s) := by
  unfold execAttestComplete
  extract_lets x
  have hx : Kept s x := ticked_kept
  split
  · exact .ticked
  next a rest _ =>
    refine .ite ?_ .ticked
    extract_lets b
    generalize hsign : signBytes (slotPublic x 0 ((keySlot x 0).getD {})) 96 b x = signed
    have hy : Kept s signed.2 := hsign ▸ .after (signBytes_only (by decide) framed) hx
    exact .next (.after (finishAt_only (by decide) framed) (hy.onPocket rfl rfl rfl rfl))

theorem execSessionStage_kept : KeptOut s (execSessionStage dt s) := by
  unfold execSessionStage
  extract_lets x
  have hx : Kept s x := ticked_kept
  refine .ite ?_ .ticked
  have hnext : Kept s (nextApdu x).2 := .after (nextApdu_only (by decide) framed) hx
  generalize nextApdu x = n at hnext ⊢
  obtain ⟨e, y⟩ := n
  split
  next heq =>
    obtain ⟨rfl, rfl⟩ := Prod.mk.inj heq
    exact .next (.after (refreshPressure_only (by decide) framed) (stage_kept (.after (onSess_only (by decide) framed) hnext)))
  next heq =>
    obtain ⟨-, rfl⟩ := Prod.mk.inj heq
    exact .next hnext

theorem execEcdsaVerify_kept {ok : Bool} : KeptOut s (execEcdsaVerify dt ok s) := by
  unfold execEcdsaVerify
  extract_lets x
  have hx : Kept s x := ticked_kept
  refine .ite ?_ .ticked
  split
  · exact .ticked
  next w rest _ =>
    extract_lets y known z
    have hy : Kept s y := .after (onSess_only (by decide) framed) hx
    have hz : Kept s z := .after (onSess_only (by decide) framed) hy
    refine .ite (.next (.after (refreshPressure_only (by decide) (onSess_only (by decide) framed)) hy))
      (.ite (.next (.after (refreshPressure_only (by decide) framed) (cipheredIn_kept hz))) (.ite (.next ?_) (.next ?_)))
    · exact .after (refreshPressure_only (by decide) (parseAccepted_only (by decide) (frameContact_only (by decide)
        (verified_only (by decide) framed)))) hz
    · exact .after (refreshPressure_only (by decide) (countAuthFail_only (by decide) framed)) hz

theorem execDetach_kept {h : Fin 4} : KeptOut s (execDetach dt h s) :=
  .ite (.next (.after (freeEdge_only (by decide) framed) (goOffline_kept (.after (ringBell_only (by decide) framed) ticked_kept)))) .ticked

theorem execHostOffline_kept {h : Fin 4} : KeptOut s (execHostOffline dt h s) :=
  .ite (.next (.after (freeEdge_only (by decide) framed) (goOffline_kept ticked_kept))) .ticked

theorem execResetNAssert_kept : KeptOut s (execResetNAssert dt s) := by
  unfold execResetNAssert
  extract_lets x
  split
  · exact .ticked
  · exact .ticked
  · exact .next (.after (onPwr_only (by decide) framed) (stopLogic_kept (.after (endRun_only (by decide) framed) ticked_kept)))

theorem execResetNRelease_kept {v : BootView} : KeptOut s (execResetNRelease dt v s) := by
  unfold execResetNRelease
  extract_lets x y
  have hy : Kept s y := ticked_kept.onFwu_same rfl rfl rfl rfl
  clear_value y
  exact .ite (.ite (.next (startLogic_kept hy)) (.next (startLogic_kept (.after (islandStart_only (by decide) framed) hy)))) .ticked

theorem execLockstepMismatch_kept {v : BootView} : KeptOut s (execLockstepMismatch dt v s) := by
  unfold execLockstepMismatch
  extract_lets x runs c y z w
  have hz : Kept s z := .after (judgeEvent_only (by decide) (setAlarm_only (by decide) framed)) ticked_kept
  clear_value z
  exact .ite (.next (warmReset_kept (.ite hz (countBootFail_kept hz)))) .ticked

theorem execFwuRestart_kept {v : BootView} : KeptOut s (execFwuRestart dt v s) := by
  unfold execFwuRestart
  extract_lets x
  have hx : Kept s x := ticked_kept
  refine .ite (.ite (.next (warmReset_kept hx)) .ticked) (.ite ?_ .ticked)
  split
  next hd => exact .next (warmReset_kept (.after (dispatch_only (by decide) framed _ _ hd) hx))
  · exact .ticked

theorem execRearmExecute_kept : KeptOut s (execRearmExecute dt s) := by
  unfold execRearmExecute
  extract_lets x
  have hx : Kept s x := ticked_kept
  refine .ite ?_ .ticked
  split
  · exact .ticked
  next t _ =>
    have hdone : ∀ f, Kept s (transitDone t (x.onPwr f)) := fun _ => transitDone_kept (.after (onPwr_only (by decide) framed) hx)
    refine .next ?_
    split
    · exact .after (execRearm_only (by decide) framed) (hdone _)
    · exact hdone _

/-- Every command keeps the ranges of the boot record, the root, the fuses and the counters. -/
theorem exec_kept (c : Instr) (s : State) : KeptOut s (exec c s) := by
  cases c with
  | vinUvlo => exact .ite (.next (powerOff_kept ticked_kept)) .ticked
  | resetNAssert => exact execResetNAssert_kept
  | resetNRelease => exact execResetNRelease_kept
  | bootWatchdog => exact .ite (.next (warmReset_kept (countBootFail_kept ticked_kept))) .ticked
  | lockstepMismatch => exact execLockstepMismatch_kept
  | brownoutRestart => exact .ite (.next (warmReset_kept (.after (setSticky_only (by decide) framed) ticked_kept))) .ticked
  | fwuRestart => exact execFwuRestart_kept
  | thermalRestart => exact .ite (.next (warmReset_kept ticked_kept)) .ticked
  | recoveryFrame => exact execRecoveryFrame_kept
  | hemComplete => exact .ite (.next (finishHem_kept ticked_kept)) .ticked
  | fwuBegin => exact runFwu_kept fun _ _ _ => fwuBegin_kept
  | fwuBeginComplete => exact execFwuBeginComplete_kept
  | fwuLoad => exact runFwu_kept fun _ _ _ => fwuLoad_kept
  | fwuFinish => exact runFwu_kept fun _ _ _ => fwuFinish_kept
  | fwuAbort => exact runFwu_kept fun _ _ _ => fwuAbort_kept
  | fwuFloor => exact .next (runCmd_kept fun _ _ => fwuFloor_kept)
  | fwuFinishComplete => exact execFwuFinishComplete_kept
  | sessionStage => exact execSessionStage_kept
  | ecdsaVerify => exact execEcdsaVerify_kept
  | detach => exact execDetach_kept
  | hostOffline => exact execHostOffline_kept
  | keyLoad => exact .next (runCmd_kept fun _ _ => keyLoad_kept)
  | attest => exact .next (runCmd_kept fun _ _ => attest_kept)
  | keyApply => exact .next (runCmd_kept fun _ _ => keyApply_kept)
  | keyApplyComplete => exact execKeyApplyComplete_kept
  | attestComplete => exact execAttestComplete_kept
  | rearmExecute => exact execRearmExecute_kept
  | _ => exact .of_frame (by rfl) (by rfl)

/-- A step keeps what the command at the front of the queue keeps (log entry 2). -/
theorem step_kept {t : State} (hs : step s = .next t) : Kept s t := by
  unfold step at hs
  split at hs
  · cases hs
    exact .refl s
  · have hk := exec_kept _ _ t hs
    exact ⟨hk.boot, hk.pocket⟩

theorem LifecycleMoves.ne_blank {a b : Lifecycle} (h : LifecycleMoves a b) (ha : a ≠ .blank) : b ≠ .blank := by
  rcases h with rfl | ⟨-, rfl⟩ | ⟨-, rfl⟩
  · exact ha
  · decide
  · decide

end Commands

/-! ### The obligations -/

/-- Settles O3: the model's state at reset, field by field (R681, R687, R711, R715). -/
theorem resetIsLegal : Obligations.ResetIsLegal := by
  unfold Obligations.ResetIsLegal Legal
  decide

/-- Settles O4: each range is one that `Kept` carries over the step. -/
theorem legalIsKept : Obligations.LegalIsKept := by
  unfold Obligations.LegalIsKept
  rintro s t ⟨hfloor, hfails, hstaging, hreason, hroot, hlife⟩ hs
  obtain ⟨boot, pocket⟩ := step_kept hs
  exact ⟨boot.floor hfloor, boot.fails hfails, boot.staging hstaging, boot.reason hreason, pocket.root hroot,
    pocket.lifecycle.ne_blank hlife⟩

/-- Settles O5: the floor and the lifecycle of `Kept`. -/
theorem fusesOnlyBlow : Obligations.FusesOnlyBlow := by
  unfold Obligations.FusesOnlyBlow
  exact fun s t hs => ⟨(step_kept hs).boot.raised, (step_kept hs).pocket.lifecycle⟩

/-- Settles O1: the two branches of the step (log entry 2). -/
theorem stepTakesFront : Obligations.StepTakesFront := by
  unfold Obligations.StepTakesFront
  exact ⟨fun c rest s hq => by simp [step, hq], fun s hq => by simp [step, hq]⟩

end Sys2Proof.Machine
end

section
/-! PROOFS. The statement of control that every command answers a next state: a lemma for each group of families. -/

namespace Sys2Proof.Machine

open Host (Outcome)

/-- An outcome that is a next state. -/
def Answers (o : Outcome State Fault Refusal) : Prop := ∃ t, o = .next t

theorem Answers.here {t : State} : Answers (.next t) := ⟨t, rfl⟩

theorem Answers.ite {a b : Outcome State Fault Refusal} {c : Prop} [Decidable c] (ha : Answers a) (hb : Answers b) :
    Answers (if c then a else b) := by
  split <;> assumption

theorem execEarlyWarningAssert_answers {dt mv : Nat} {cyc : CycleIn} {s : State} : Answers (execEarlyWarningAssert dt mv cyc s) := by
  unfold execEarlyWarningAssert
  extract_lets x y z w v
  clear_value v w
  refine .ite (.ite .here ?_) .here
  split
  · exact .here
  · exact .here
  · exact .here

section Families
variable {c : Instr} {s : State}

/-! In each group the commands stand by the shape of their definition: one effect, an effect under one guard or under several, and those that
look at a queue's head, an optional entry or a step's outcome. -/

theorem hub_answers (hc : [Family.sys, .time, .evt, .cfg].contains (family c) = true) : Answers (exec c s) := by
  cases c with
  | leapApply | timeSet | timeAdj | timeStep | timeStatus | schedAdd | schedCancel | xref | leaseExpire | sysInfo | leaseTake |
    leaseRelease | leaseRead | evtStatus | evtRead | evtCodeRead | evtCodeSet | evtClear | evtMlogRead | evtPost | cfgStatus | cfgLoad |
    cfgApply | cfgOverlay | cfgSchema | cfgFuses => exact .here
  | seamResync | holdoverCycleEnd | holdoverToVirtual | virtualCycleEnd | cycleCheckpoint | xrefSegmentClose | anchorApply | stepApply |
    timeNowLoRead | mainsCycLoRead | detach | hostOffline | bucketRefill | opTimeCheckpoint | islandedTrigger | converterFeedbackLoss => exact .ite .here .here
  | seamFrameReceive | ptpEventReceive | doorbellCmd | lineSideFrameReceive => exact .ite (.ite .here .here) .here
  | legalWriteRepeat | eccUncorrectable | zeroCrossing | holdoverEntry | mainsCountAlign | entryReconvert | overlayChange | hostEvent |
    timePairCommit | slewEnd | sourceSelect | sourceLoss | ptpEgress | commandTake | respAck | collarHalfwordRead | ringProdWrite |
    ringConsWrite | registerWrite | eventRaise | evtClearComplete | cfgApplyComplete =>
    dsimp only [exec, execLegalWriteRepeat, execEccUncorrectable, execZeroCrossing, execHoldoverEntry, execMainsCountAlign,
      execEntryReconvert, execOverlayChange, execHostEvent, execTimePairCommit, execSlewEnd, execSourceSelect, execSourceLoss,
      execPtpEgress, execCommandTake, execRespAck, execCollarHalfwordRead, execRingProdWrite, execRingConsWrite, execRegisterWrite,
      execEventRaise, execEvtClearComplete, execCfgApplyComplete]
    repeat' first
      | exact .here
      | refine .ite ?_ ?_
      | split
  | _ => exact absurd hc Bool.false_ne_true

theorem metering_answers (hc : [Family.metro, .reg].contains (family c) = true) : Answers (exec c s) := by
  cases c with
  | metStatus | calOpen | calStep | calClose | calRead | harmRead | regRead | tariffSet | demandRead | billingClose | pulseSet |
    pulseStatus => exact .here
  | registerImageRefresh | calFallbackTimeout | calEnRelease | pqUpdate | pulseStart | pulseEnd | pulseDebtAlarm => exact .ite .here .here
  | demandClose | billingPeriodClose | tariffSwitch | registerSnapshot | dspCycleEnd | resultSetReceive | windowComplete |
    harmonicWindowEnd | calSessionTimeout | calStepComplete | tariffInputTakeover | pqReportReceive | pulseConfigApply =>
    dsimp only [exec, execDemandClose, execBillingPeriodClose, execTariffSwitch, execRegisterSnapshot, execDspCycleEnd,
      execResultSetReceive, execWindowComplete, execHarmonicWindowEnd, execCalSessionTimeout, execCalStepComplete,
      execTariffInputTakeover, execPqReportReceive, execPulseConfigApply]
    repeat' first
      | exact .here
      | refine .ite ?_ ?_
      | split
  | _ => exact absurd hc Bool.false_ne_true

theorem field_answers (hc : [Family.link, .plc, .meter].contains (family c) = true) : Answers (exec c s) := by
  cases c with
  | feSet | laneSet | rfStatus | wurSet | wakeSend | nbrRead | lprofSet | nbrPin | linkCounters | plcSet | plcStatus | noiseRead |
    zcRead | meterAdmit | meterRetire | meterRead | parseSet | ingestCounters | meterFind | plcThermalRecover => exact .here
  | seamChannelDown | wurFrame | plcDriverMute | plcNoiseUpdate | plcThermal | contextWriteback | burstCreditUpdate | agcOverload => exact .ite .here .here
  | plcFrameReceive => exact .ite .here (.ite .here .here)
  | laneFrameReceive => exact .ite .here (.ite .here (.ite .here .here))
  | controlWordCommit | feCalibrationDone | feRetune | txRelease | txEnd | macFrameAccept | checkinEvaluate | joinTimeout |
    ackWaitExpire | plcModeApply | plcRetrainEnd | plcTxDue | plcFrameStart | plcNoWindow | plcNodeAge | firmwareUnpack | sessionStage |
    ecdsaVerify | datablockTimeout | prevKeyExpire | normalise | pairHoldTimeout | plcFrameEnd =>
    dsimp only [exec, execControlWordCommit, execFeCalibrationDone, execFeRetune, execTxRelease, execTxEnd, execMacFrameAccept,
      execCheckinEvaluate, execJoinTimeout, execAckWaitExpire, execPlcModeApply, execPlcRetrainEnd, execPlcTxDue, execPlcFrameStart,
      execPlcNoWindow, execPlcNodeAge, execFirmwareUnpack, execSessionStage, execEcdsaVerify, execDatablockTimeout, execPrevKeyExpire,
      execNormalise, execPairHoldTimeout, execPlcFrameEnd]
    repeat' first
      | exact .here
      | refine .ite ?_ ?_
      | split
  | _ => exact absurd hc Bool.false_ne_true

theorem data_answers (hc : [Family.vee, .bal, .arch].contains (family c) = true) : Answers (exec c s) := by
  cases c with
  | veeProfileSet | veeShapeSet | veeMeterSet | veeEdit | veeEstimate | veeCounters | topoRead | topoPin | balFeederSet | balReportRead
    | scoreRead | balCounters | balRecompile | archHealth | archDieRead | archQuery | archQueryCancel | archFormat | archDieRetire => exact .here
  | recordPack | nandTempRead | eventCopy | nandOperationTimeout => exact .ite .here .here
  | validate | topoSample | balCompile | pageFlush | pageProgramDone | dieFail | dieRebuildDone | spaceRecovery | patrolRead |
    hostBlockRequest | hostBlockComplete | archQueryScan | formatComplete =>
    dsimp only [exec, execValidate, execTopoSample, execBalCompile, execPageFlush, execPageProgramDone, execDieFail, execDieRebuildDone,
      execSpaceRecovery, execPatrolRead, execHostBlockRequest, execHostBlockComplete, execArchQueryScan, execFormatComplete]
    repeat' first
      | exact .here
      | refine .ite ?_ ?_
      | split
  | _ => exact absurd hc Bool.false_ne_true

theorem upstream_answers (hc : [Family.upl, .fleet].contains (family c) = true) : Answers (exec c s) := by
  cases c with
  | uplStatus | childRead | childSet | pushCreate | pushMember | pushStatus | pushCancel | tokenSend | ledgerNote | ledgerRead |
    fleetMeterSet | campCreate | campLoad | campMember | campStart | campStatus | campCancel => exact .here
  | fleetResponse | pushRecompute | pushActivate | fleetCheckpoint => exact .ite .here .here
  | uplinkLinkLoss => exact .ite (.ite .here .here) .here
  | uplinkConnect | connectionTimeout | keepaliveSend | bundleSend | hello | helloAck | bundle | cipher | ack | credit | timeReqSend |
    timeReq | timeResp | down | downResult | keepalive | headEndAck | tokenDeliver | campaignRoundStart | campaignBlockSend |
    campaignActivate =>
    dsimp only [exec, execUplinkConnect, execConnectionTimeout, execKeepaliveSend, execBundleSend, execHello, execHelloAck, execBundle,
      execCipher, execAck, execCredit, execTimeReqSend, execTimeReq, execTimeResp, execDown, execDownResult, execKeepalive,
      execHeadEndAck, execTokenDeliver, execCampaignRoundStart, execCampaignBlockSend, execCampaignActivate]
    repeat' first
      | exact .here
      | refine .ite ?_ ?_
      | split
  | _ => exact absurd hc Bool.false_ne_true

theorem control_answers (hc : [Family.key, .fwu, .pair].contains (family c) = true) : Answers (exec c s) := by
  cases c with
  | keyStatus | keyLoad | keyApply | slotRead | attest | fwuStatus | fwuBegin | fwuLoad | fwuFinish | fwuAbort | fwuFloor | delta |
    yokeAcknowledgement | snapshot | snapshotEnd | syncLost | pairStatus | pairSwitch | pairLock => exact .here
  | pulseLandEdge | revertHoldoff => exact .ite .here .here
  | mirrorPeriodic => exact .ite (.ite .here .here) .here
  | heartbeatReceive => exact .ite .here (.ite .here (.ite .here .here))
  | heartbeatSend | keyApplyComplete | attestComplete | fwuBeginComplete | fwuFinishComplete | heartbeatMiss | listenEnd |
    yokeLaneChange | resyncRetry | handover =>
    dsimp only [exec, execHeartbeatSend, execKeyApplyComplete, execAttestComplete, execFwuBeginComplete, execFwuFinishComplete,
      execHeartbeatMiss, execListenEnd, execYokeLaneChange, execResyncRetry, execHandover]
    repeat' first
      | exact .here
      | refine .ite ?_ ?_
      | split
  | _ => exact absurd hc Bool.false_ne_true

theorem power_answers (hc : [Family.pwr].contains (family c) = true) : Answers (exec c s) := by
  cases c with
  | pwrStatus | pwrTolerance | pwrCounters => exact .here
  | vinRise | vinUvlo | bootWatchdog | lockstepMismatch | hemComplete | brownoutRestart | earlyWarningDeassert | clusterGate |
    clusterUngate | thermalWarn | thermalStop | thermalRestart | thermalClear => exact .ite .here .here
  | resetNRelease | engineMemoryError => exact .ite (.ite .here .here) .here
  | earlyWarningAssert dt mv cyc => exact execEarlyWarningAssert_answers (dt := dt) (mv := mv) (cyc := cyc)
  | resetNAssert | recoveryFrame | hemStart | fwuRestart | powerStateEntry | wake | rearmExecute =>
    dsimp only [exec, execResetNAssert, execRecoveryFrame, execHemStart, execFwuRestart, execPowerStateEntry, execWake,
      execRearmExecute]
    repeat' first
      | exact .here
      | refine .ite ?_ ?_
      | split
  | _ => exact absurd hc Bool.false_ne_true

theorem exec_answers (c : Instr) (s : State) : Answers (exec c s) := by
  cases hf : family c with
  | sys | time | evt | cfg => exact hub_answers (by rw [hf]; rfl)
  | metro | reg => exact metering_answers (by rw [hf]; rfl)
  | link | plc | meter => exact field_answers (by rw [hf]; rfl)
  | vee | bal | arch => exact data_answers (by rw [hf]; rfl)
  | upl | fleet => exact upstream_answers (by rw [hf]; rfl)
  | key | fwu | pair => exact control_answers (by rw [hf]; rfl)
  | pwr => exact power_answers (by rw [hf]; rfl)

end Families

/-- Settles O2: every branch of every command is a next state. That a command whose event cannot occur, or that is not dispatched first, only
lets its time pass is the model's choice (log entries 4 and 5). -/
theorem everyCommandCompletes : Obligations.EveryCommandCompletes := by
  unfold Obligations.EveryCommandCompletes
  exact exec_answers

end Sys2Proof.Machine
end

section
/-! PROOFS. The statements of single rules: the sticky bits, FWU_ABORT, the KUM counters and the supply's events. -/

namespace Sys2Proof.Machine

open Host (Outcome)

/-! ### W1C bits (R630) -/

theorem stickyOf_put (l : List (Nat × Word)) (off : Nat) (w : Word) : tget (tput l off w) off 0 = w := tget_tput_self ..

theorem setHost_alarmN (h : Fin 4) (x : HostSt) (s : State) : (s.setHost h x).hosts.alarmN = s.hosts.alarmN := rfl

/-- A host's access marks it online and leaves the sticky bits and the other hosts. -/
theorem touchHost_host (h k : Fin 4) (s : State) :
    (touchHost h s).host k = if (s.host h).port = 0 ∨ k ≠ h then s.host k else { s.host h with online := true } := by
  unfold touchHost
  by_cases hp : (s.host h).port = 0
  · simp [hp]
  by_cases hk : k = h
  · subst hk
    simp [hp]
  · simp [hp, hk, host_setHost_ne hk]

theorem touchHost_alarmN (h : Fin 4) (s : State) : (touchHost h s).hosts.alarmN = s.hosts.alarmN := by
  unfold touchHost
  split <;> rfl

theorem touchHost_sticky (h : Fin 4) (off : Nat) (s : State) : stickyOf ((touchHost h s).host h) off = stickyOf (s.host h) off := by
  rw [touchHost_host]
  split <;> rfl

theorem touchHost_other {h k : Fin 4} (hk : k ≠ h) (s : State) : (touchHost h s).host k = s.host k := by
  rw [touchHost_host, if_pos (.inr hk)]

/-- A write of ones to a register of sticky bits: the writing host's copy is cleared, the other hosts are as they were. -/
theorem clearSticky_copies (h : Fin 4) (off : Nat) (v : Word) (s : State) :
    stickyOf ((clearSticky h off v s).host h) off = stickyOf (s.host h) off &&& ~~~v ∧
      (clearSticky h off v s).hosts.alarmN = s.hosts.alarmN ∧ ∀ k, k ≠ h → (clearSticky h off v s).host k = s.host k := by
  unfold clearSticky
  refine ⟨?_, rfl, fun k hk => host_setHost_ne hk⟩
  rw [host_setHost_self]
  exact tget_tput_self ..

/-- What a register write of a host on a port of its own comes to (R623, R630). -/
theorem execRegisterWrite_whole {dt : Nat} {h : Fin 4} {off : Nat} {v : Word} {s u : State} (hu : tick dt s = u)
    (hp : u.pwr.aonOn = true ∧ (u.host h).port ≠ 0 ∧ (u.host h).port ≠ 5 ∧ (u.host h).port ≠ 6) :
    exec (.registerWrite dt h off none v) s = .next (hostWrite h off v (touchHost h u)) := by
  obtain ⟨hon, h0, h5, h6⟩ := hp
  show execRegisterWrite dt h off none v s = _
  unfold execRegisterWrite
  rw [hu]
  simp [hon, h0, h5, h6]

/-- Settles O12: the event's operation sets the bits in all four copies, a host's write clears them in its own. -/
theorem stickyBits : Obligations.StickyBits := by
  unfold Obligations.StickyBits
  refine ⟨fun off mask s h => ?_, fun h off v => .of fun dt s u hu hpre => ?_, fun h v => .of fun dt s u hu hpre => ?_⟩
  · rw [host_setSticky]
    exact tget_tput_self ..
  · obtain ⟨hon, h0, h5, h6, hoff⟩ := hpre
    refine ⟨_, execRegisterWrite_whole hu ⟨hon, h0, h5, h6⟩, ?_⟩
    have hlt : off < 0x400 := by omega
    have hne : off ≠ 0x008 := by omega
    have hw : hostWrite h off v (touchHost h u) = clearSticky h off v (touchHost h u) := by
      simp only [hostWrite, if_pos hlt, collarWrite, if_neg hne]
      exact if_pos (by simpa [and_assoc] using hoff)
    obtain ⟨hown, halarm, hother⟩ := clearSticky_copies h off v (touchHost h u)
    rw [hw]
    exact ⟨by rw [hown, touchHost_sticky], by rw [halarm, touchHost_alarmN], fun k hk => by rw [hother k hk, touchHost_other hk]⟩
  · refine ⟨_, execRegisterWrite_whole hu hpre, ?_⟩
    obtain ⟨hown, halarm, hother⟩ := clearSticky_copies h 0x008 v ((touchHost h u).onHosts fun b => { b with alarmN := b.alarmN &&& ~~~v })
    have hw : hostWrite h 0x008 v (touchHost h u) =
        clearSticky h 0x008 v ((touchHost h u).onHosts fun b => { b with alarmN := b.alarmN &&& ~~~v }) := by
      simp [hostWrite, collarWrite]
    rw [hw]
    refine ⟨hown.trans ?_, halarm.trans ?_, fun k hk => (hother k hk).trans (touchHost_other hk u)⟩
    · exact congrArg (· &&& ~~~v) (touchHost_sticky h 0x008 u)
    · exact congrArg (· &&& ~~~v) (touchHost_alarmN h u)

/-! ### FWU_ABORT (R721) -/

/-- Settles O13: the one check of FWU_ABORT, and `emptyStaging`. -/
theorem fwuAbortEmptiesStaging : Obligations.FwuAbort := by
  unfold Obligations.FwuAbort
  refine ⟨.of (f := fun h => fwuAbort h.val) (fun _ _ _ => rfl) fun h tk u _ hfree => ?_,
    .of (f := fun h => fwuAbort h.val) (fun _ _ _ => rfl) fun h tk u _ hother => ?_⟩
  · exact ⟨_, _, if_neg (by simp [hfree]), ⟨rfl, rfl⟩, .inl (by simp [answer])⟩
  · exact ⟨_, _, if_pos hother, ⟨rfl, rfl⟩, .inl (by simp [answer])⟩

/-! ### The KUM counters (R676) -/

/-- The root and both counters of two Pockets agree. -/
structure SameCounters (k l : KeySt) : Prop where
  root : l.root = k.root
  counter : l.counter = k.counter
  testCounter : l.testCounter = k.testCounter

theorem SameCounters.trans {k l m : KeySt} (a : SameCounters k l) (b : SameCounters l m) : SameCounters k m :=
  ⟨b.root.trans a.root, b.counter.trans a.counter, b.testCounter.trans a.testCounter⟩

theorem applyEntry_counters (kind c : Nat) (e : List Byte) (s : State) : SameCounters s.pocket (applyEntry kind c e s).pocket := by
  unfold applyEntry
  dsimp only
  split <;> exact ⟨rfl, rfl, rfl⟩

theorem applyEntries_counters (kind c : Nat) (l : List (List Byte)) (s : State) :
    SameCounters s.pocket (l.foldl (fun s e => applyEntry kind c e s) s).pocket := by
  induction l generalizing s with
  | nil => exact ⟨rfl, rfl, rfl⟩
  | cons e l ih => exact (applyEntry_counters kind c e s).trans (ih _)

theorem finishAt_pocket (h : Nat) (tk : Taken) (r : Reply) (s : State) : (finishAt h tk r s).pocket = s.pocket :=
  finishAt_only (bs := [.hosts]) (by decide) (Only.refl _ _) .pocket (by decide)

/-- The entries of a KUM applied to the state, none where KEY_APPLY has written them (R677, R683). -/
def applyLists (a : Applying) (s : State) : State :=
  if a.kind = 1 then s else a.entries.foldl (fun s e => applyEntry a.kind a.counter e s) s

theorem applyLists_counters (a : Applying) (s : State) : SameCounters s.pocket (applyLists a s).pocket := by
  unfold applyLists
  split
  · exact ⟨rfl, rfl, rfl⟩
  · exact applyEntries_counters ..

/-- KEY_APPLY_COMPLETE of a KUM that nothing holds back. -/
theorem execKeyApplyComplete_applied {dt : Nat} {s u : State} {a : Applying} (hu : tick dt s = u) (ha : u.pocket.applying = some a)
    (hrun : supRuns u = true) (hmirror : kumMirrored u a = true) (hwait : a.waits = false ∨ holdsForYoke u = true)
    (hsaved : a.kind ≠ 1 ∨ ∀ e ∈ a.entries, tfind u.sess.dirty (fld e 0 4) = none) :
    execKeyApplyComplete dt s = .next (finishAt a.host a.taken (okWith (keyApplyPayload (clearStaging ((applyLists a u).onPocket fun k =>
      { k with counter := if testRoot (applyLists a u) then k.counter else max k.counter a.counter
               testCounter := if testRoot (applyLists a u) then max k.testCounter a.counter else k.testCounter, applying := none }))
      a.kind a.entries.length 0)) (clearStaging ((applyLists a u).onPocket fun k =>
      { k with counter := if testRoot (applyLists a u) then k.counter else max k.counter a.counter
               testCounter := if testRoot (applyLists a u) then max k.testCounter a.counter else k.testCounter, applying := none }))) := by
  unfold execKeyApplyComplete
  rw [hu]
  dsimp only
  rw [ha]
  dsimp only
  have hnowait : (supRuns u && a.waits && !holdsForYoke u) = false := by
    rcases hwait with hw | hw <;> simp [hw]
  have hnone : (supRuns u && (decide (a.kind = 1) && a.entries.any fun e => (tfind u.sess.dirty (fld e 0 4)).isSome)) = false := by
    rcases hsaved with hk | hk
    · simp [hk]
    · have hno : (a.entries.any fun e => (tfind u.sess.dirty (fld e 0 4)).isSome) = false := by
        rw [List.any_eq_false]
        intro e he
        simp [hk e he]
      simp [hno]
  rw [if_neg (by rw [hnowait]; decide), if_neg (by rw [hnone]; decide), if_pos (by rw [hrun, hmirror]; rfl)]
  rfl

/-- Settles O14: the checks before R677 KC4 and its refusal (the answers given in KEY_APPLY and the effects at its completion are log
entries 261 and 262), what completion sets, and the counters that every command keeps (`exec_kept`). -/
theorem kumCounters : Obligations.KumCounters := by
  unfold Obligations.KumCounters
  refine ⟨⟨rfl, rfl, fun _ => rfl⟩, .of (fun _ _ _ => rfl) fun h tk u _ hpre => ?_, fun a => .of fun dt s u hu hpre => ?_,
    fun c s t he => ?_⟩
  · obtain ⟨hlife, hidle, howner, hlen, hform, htarget, hid, htest, hlow⟩ := hpre
    have hown : (u.pocket.stagedOwner.isSome && decide (u.pocket.stagedOwner ≠ some h.val)) = false := by
      rcases howner with ho | ho <;> simp [ho]
    refine ⟨(keyRefuse .stale (fld u.pocket.staged 2 1) 0 u).1, (keyRefuse .stale (fld u.pocket.staged 2 1) 0 u).2, ?_, ⟨rfl, rfl, rfl⟩,
      .inl (by simp [keyRefuse])⟩
    show keyApply h.val true tk u = _
    unfold keyApply
    rw [if_neg (by simpa using hlife), if_neg (by rw [hidle, hown]; decide), if_neg (by simp [hlen, hform])]
    simp only [keyCheck]
    rw [if_neg (by decide), if_neg (by simp [htarget, hid, htest]), if_pos hlow]
  · obtain ⟨ha, hrun, hmirror, hwait, hsaved, hlow⟩ := hpre
    refine ⟨_, execKeyApplyComplete_applied hu ha hrun hmirror hwait hsaved, ?_⟩
    rw [finishAt_pocket]
    obtain ⟨hroot, hcounter, htest⟩ := applyLists_counters a u
    have hsame : testRoot (applyLists a u) = testRoot u := by unfold testRoot; rw [hroot]
    unfold kumCounter at hlow
    refine ⟨rfl, ?_, ?_⟩
    · show (if testRoot (applyLists a u) then _ else _) = _
      rw [hsame, hcounter]
      split at hlow
      next ht => simp [ht]
      next ht => simp [ht, Nat.le_of_lt hlow]
    · show (if testRoot (applyLists a u) then _ else _) = _
      rw [hsame, htest]
      split at hlow
      next ht => simp [ht, Nat.le_of_lt hlow]
      next ht => simp [ht]
  · obtain ⟨-, pocket⟩ := exec_kept c s t he
    exact ⟨pocket.counter, pocket.testCounter⟩

/-! ### Supply events (R787–R790, R799) -/

/-- What the last image and the muted driver leave of the power block (R799). -/
theorem lineWarned_pwr (cyc : CycleIn) (s : State) : (lineWarned cyc s).pwr = s.pwr :=
  lineWarned_only (bs := [.hosts, .fab, .evt, .met, .link, .plc, .upl, .reg]) (by decide) (Only.refl _ _) .pwr (by decide)

theorem setAlarm_pwr (m : Word) (s : State) : (setAlarm m s).pwr = s.pwr :=
  setAlarm_only (bs := [.hosts]) (by decide) (Only.refl _ _) .pwr (by decide)

/-- Settles O15: each event under its condition, and the state that its operation gives (VIN_RISE's warning below 33.0 V is log entry 350, the
straps and the voltages as operands are log entries 349 and 462). -/
theorem supplyEvents : Obligations.SupplyEvents := by
  unfold Obligations.SupplyEvents
  refine ⟨fun mv => .of ?rise, fun mv => .of ?uvlo, .of ?held, fun v => .of ?release, fun mv => .of ?clear, fun mv cyc => .of ?warn⟩
  case rise =>
    rintro dt s u hu ⟨hoff, hmv⟩
    refine ⟨((u.onMet (lineStart u.rc)).onFab fun f => { f with lineWarnMv := 33000 }).onPwr fun p =>
      { p with lineOn := true, vinMv := mv, stage := .held, resetLow := true, warn := decide (mv < 33000) },
      ?_, rfl, rfl, rfl, rfl, rfl, rfl, onPwr_only (by decide) (onFab_only (by decide) (onMet_only (by decide) (Only.refl _ _)))⟩
    show execVinRise dt mv s = _
    unfold execVinRise
    rw [hu]
    exact if_pos (by simp [hoff, hmv])
  case uvlo =>
    rintro dt s u hu ⟨hon, hmv⟩
    refine ⟨powerOff u, ?_, rfl, rfl, rfl, rfl, rfl, rfl⟩
    show execVinUvlo dt mv s = _
    unfold execVinUvlo
    rw [hu]
    exact if_pos (by simp [hon, hmv])
  case held =>
    rintro dt s u rfl ⟨hoff, hheld⟩
    refine ⟨(stopLogic (endRun false false (tick dt s))).onPwr fun p => { p with stage := .held, resetLow := true }, ?_,
      rfl, rfl, rfl, rfl, rfl⟩
    show execResetNAssert dt s = _
    unfold execResetNAssert
    dsimp only
    split
    next h => exact absurd h hoff
    next h => exact absurd h hheld
    next => rfl
  case release =>
    rintro dt s u rfl hheld
    refine ⟨_, if_pos (by simpa using hheld) |>.trans ?_, _, rfl, rfl⟩
    exact (apply_ite Outcome.next _ _ _).symm
  case clear =>
    rintro dt s u hu ⟨hon, hwarn, hmv⟩
    refine ⟨_, ?_, rfl⟩
    show execEarlyWarningDeassert dt mv s = _
    unfold execEarlyWarningDeassert
    rw [hu]
    exact if_pos (by simp [hon, hwarn, hmv])
  case warn =>
    rintro dt s u hu ⟨hon, haon, hwarn, hmv, hrun⟩
    refine ⟨_, ?_, _, rfl, rfl, by rw [lineWarned_pwr]; rfl, by rw [lineWarned_pwr]; rfl⟩
    show execEarlyWarningAssert dt mv cyc s = _
    unfold execEarlyWarningAssert
    rw [hu]
    dsimp only
    rw [if_pos (by simp [hon, hwarn, hmv])]
    have hfinal : (if (u.onPwr fun p => { p with warn := true, vinMv := mv }).pwr.stage == .hem then
        u.onPwr fun p => { p with warn := true, vinMv := mv } else
        (u.onPwr fun p => { p with warn := true, vinMv := mv }).onPwr fun p => { p with finalImage := false }) =
        u.onPwr fun p => { p with warn := true, vinMv := mv, finalImage := false } := if_neg (by simp [hrun])
    rw [hfinal, if_neg (by rw [lineWarned_pwr]; simp [haon])]
    have hstage : (setAlarm 0x20 (lineWarned cyc (u.onPwr fun p => { p with warn := true, vinMv := mv, finalImage := false }))).pwr.stage =
        .running := by
      rw [setAlarm_pwr, lineWarned_pwr]
      exact hrun
    split
    next h => exact absurd (hstage.symm.trans h) (by simp)
    next h => exact absurd (hstage.symm.trans h) (by simp)
    next => rfl

end Sys2Proof.Machine
end

section
/-! PROOFS. The statements of control: the commands of power and configuration. -/

namespace Sys2Proof.Machine

open Host (Outcome)

/-! ### The PWR commands (R818–R820) -/

/-- The counters of PWR_COUNTERS in the order of the payload (R820). -/
def pwrCountList (p : PwrSt) : List Nat :=
  p.entries ++ p.refused ++ p.aborted ++ [p.rearms, p.rearmSuperseded, p.rearmCancelled, p.rearmDropped, p.parks, p.thermalStops, 0]

theorem pwrCounters_answers (tk : Taken) (u : State) : pwrCounters tk u = (u, okWith ((pwrCountList u.pwr).map (leBytes 4)).flatten) := by
  simp [pwrCounters, pwrCountList, List.flatMap]

/-- The length of a list of fields of `k` bytes each. -/
theorem length_flatMap_leBytes (k : Nat) (l : List Nat) : (l.flatMap (leBytes k)).length = k * l.length := by
  induction l with
  | nil => rfl
  | cons n l ih => rw [List.flatMap_cons, List.length_append, leBytes_length, ih, List.length_cons, Nat.mul_succ, Nat.add_comm]

theorem words_length (l : List Nat) : (l.map (leBytes 4)).flatten.length = 4 * l.length := length_flatMap_leBytes 4 l

theorem words_show {l : List Nat} {k n : Nat} (hk : l[k]? = some n) : Shows (l.map (leBytes 4)).flatten (4 * k) 4 n := by
  obtain ⟨hlt, rfl⟩ := List.getElem?_eq_some_iff.mp hk
  simpa [List.getD_eq_getElem?_getD, hlt] using shows_flat l 4 hlt

/-- PWR_TOLERANCE of a tolerance in range, or of the withdrawal. -/
theorem pwrTolerance_set (h : Fin 4) {tk : Taken} {u : State} (hv : fld tk.payload 0 4 ≤ 1000000 ∨ fld tk.payload 0 4 = 0xFFFFFFFF) :
    pwrTolerance h tk u = (u.setHost h { u.host h with tolUs := if fld tk.payload 0 4 = 0xFFFFFFFF then none else some (fld tk.payload 0 4) },
      okWith (leBytes 4 (effTol (u.setHost h { u.host h with
        tolUs := if fld tk.payload 0 4 = 0xFFFFFFFF then none else some (fld tk.payload 0 4) })) ++ leBytes 4 0)) :=
  if_neg (by simp only [Bool.and_eq_true, decide_eq_true_eq, ne_eq]; omega)

/-- Settles O56: the fields of the two reports, and the branches of PWR_TOLERANCE (a host that has stated no tolerance shows
PWR_DEFAULT_TOL_US by log entry 369). -/
theorem powerCommands : Obligations.PowerCommands := by
  unfold Obligations.PowerCommands
  refine ⟨.of (fun _ _ _ => rfl) fun h tk u _ => ⟨_, rfl, by simp, by simp⟩, ?bad, ?stated, ?withdrawn,
    .of (fun _ _ _ => rfl) fun h tk u hlen => ⟨_, pwrCounters_answers tk u, ?_, fun k n hk => words_show hk⟩⟩
  case bad =>
    exact .of (fun _ _ _ => rfl) fun h tk u _ hv => ⟨_, _, if_pos (by simpa using hv), ⟨rfl, rfl⟩, .inl (by decide)⟩
  case stated =>
    refine .of (fun _ _ _ => rfl) fun h tk u _ hv => ⟨_, _, pwrTolerance_set h (.inl hv), ⟨?_, rfl, setHost_frame⟩, .inl (by simp [okWith])⟩
    rw [host_setHost_self]
    exact if_neg (by omega)
  case withdrawn =>
    refine .of (fun _ _ _ => rfl) fun h tk u _ hv => ⟨_, _, pwrTolerance_set h (.inr hv), ⟨?_, rfl⟩, .inl (by simp [okWith])⟩
    rw [host_setHost_self]
    exact if_pos hv
  · obtain ⟨hentries, hrefused, haborted⟩ := hlen
    rw [words_length]
    simp [pwrCountList, hentries, hrefused, haborted]

/-! ### The CFG commands (R834–R837) -/

/-- CFG_LOAD past its first two checks: no one else's staging, and the offset is 0 or the end of what is staged (R837). -/
theorem cfgLoad_placed {h : Fin 4} {tk : Taken} {u : State} (hfree : cfgBusy u h = false)
    (hoff : fld tk.payload 0 4 = 0 ∨ fld tk.payload 0 4 = u.cfg.staged.length) :
    cfgLoad h tk u =
      if ((tk.payload.drop 8).isEmpty || 4072 < (tk.payload.drop 8).length || 524288 < fld tk.payload 0 4 + (tk.payload.drop 8).length)
      then (u, answer .badarg)
      else (u.onCfg fun c => { c with
          staged := if fld tk.payload 0 4 = 0 then tk.payload.drop 8 else u.cfg.staged ++ tk.payload.drop 8, stagedOwner := some h.val },
        okWith (leBytes 4 (if fld tk.payload 0 4 = 0 then tk.payload.drop 8 else u.cfg.staged ++ tk.payload.drop 8).length ++ leBytes 4 0)) := by
  unfold cfgLoad
  dsimp only
  rw [if_neg (by rw [hfree]; decide), if_neg (by rcases hoff with ho | ho <;> simp [ho])]

/-- CFG_APPLY of a whole staging that no one else holds: the image's first fault answers (R835). -/
theorem cfgApply_whole {h : Fin 4} {image : CfgImage} {tk : Taken} {u : State} (hfree : cfgBusy u h = false)
    (hlen : fld tk.payload 0 4 = u.cfg.staged.length) (hstaged : u.cfg.staged ≠ []) :
    cfgApply h image tk u = match imageFault u (imageOfStaged u.cfg.staged image)
        (decide ((imageOfStaged u.cfg.staged image).version ≤ u.cfg.version)) with
      | some st => (setSticky 0x080 0x400 u, answer st)
      | none =>
        if fld tk.payload 8 8 ≠ 0 && !aheadEnough u (fld tk.payload 8 8) then (u, answer .stale)
        else (u.onCfg fun c => { c with applying := some { host := h.val, taken := tk, key := fld tk.payload 8 8
                                                           image := imageOfStaged u.cfg.staged image } }, answer .pending) := by
  unfold cfgApply
  dsimp only
  rw [if_neg (by rw [hfree]; decide), if_neg (by simp [hlen, hstaged])] <;> rfl

theorem nextCycleStart_aligned (s : State) : nextCycleStart s % 65536 = 0 := by
  unfold nextCycleStart
  dsimp only
  split <;> simp [mkKey]

/-- CFG_OVERLAY of an overlay number in range with an image in force: the key asked for must be ahead enough (R837). -/
theorem cfgOverlay_running {tk : Taken} {u : State} {i : CfgImage} (hn : fld tk.payload 0 1 ≤ 7) (hi : u.cfg.running = some i) :
    cfgOverlay tk u = if fld tk.payload 8 8 ≠ 0 && !aheadEnough u (fld tk.payload 8 8) then (u, answer .stale)
      else (placeOverlay (fld tk.payload 0 1)
          (if fld tk.payload 8 8 = 0 then nextCycleStart u else (fld tk.payload 8 8 + 65535) / 65536 * 65536) u,
        okWith (leBytes 8 (if fld tk.payload 8 8 = 0 then nextCycleStart u else (fld tk.payload 8 8 + 65535) / 65536 * 65536))) := by
  unfold cfgOverlay
  dsimp only
  rw [if_neg (by omega), if_neg (by simp [hi])]

theorem cfgLoad_loads (a b : List Byte) : Serves (fun dt h => .cfgLoad dt h) 0x1202 (fun h tk u => cfgBusy u h = false ∧
    b = tk.payload.drop 8 ∧ b ≠ [] ∧ b.length ≤ 4072 ∧ (fld tk.payload 0 4 = 0 ∧ a = b ∨ fld tk.payload 0 4 = u.cfg.staged.length ∧
    u.cfg.staged ≠ [] ∧ a = u.cfg.staged ++ b ∧ a.length ≤ 524288))
    fun h _ u t r => r = okWith (leBytes 4 a.length ++ leBytes 4 0) ∧
      t = u.onCfg fun c => { c with staged := a, stagedOwner := some h.val } := by
  refine .of (fun _ _ _ => rfl) fun h tk u _ ⟨hfree, hb, hne, hlen, hplace⟩ => ?_
  subst hb
  rcases hplace with ⟨hoff, rfl⟩ | ⟨hoff, hstaged, rfl, hsum⟩
  · refine ⟨_, _, (cfgLoad_placed hfree (.inl hoff)).trans (if_neg ?_), ?_, .inl (by simp [okWith])⟩
    · simp only [hoff, Nat.zero_add, Bool.or_eq_true, List.isEmpty_iff, decide_eq_true_eq, not_or]
      exact ⟨⟨hne, by omega⟩, by omega⟩
    · rw [if_pos hoff]
      exact ⟨rfl, rfl⟩
  · refine ⟨_, _, (cfgLoad_placed hfree (.inr hoff)).trans (if_neg ?_), ?_, .inl (by simp [okWith])⟩
    · rw [List.length_append] at hsum
      simp only [hoff, Bool.or_eq_true, List.isEmpty_iff, decide_eq_true_eq, not_or]
      exact ⟨⟨hne, by omega⟩, by omega⟩
    · rw [if_neg (by rw [hoff]; exact mt List.length_eq_zero_iff.mp hstaged)]
      exact ⟨rfl, rfl⟩

/-- Settles O58: the checks of each command in their order and the answer of the branch it ends in. What the log decides is said in its entries:
CFG_SCHEMA's NEXT is FIRST + RETURNED (323), a failed CFG_APPLY keeps the staging (329), and the order of its checks (330). -/
theorem configurationCommands : Obligations.ConfigurationCommands := by
  unfold Obligations.ConfigurationCommands
  refine ⟨.of (fun _ _ _ => rfl) fun h tk u _ => ⟨_, rfl, by simp, by simp⟩, ?loadBusy, ?loadStale, ?loadEmpty, cfgLoad_loads,
    fun image st => ?applyFault, fun image => ?applyLength, fun image i => ?applied, ?overlayNumber, ?overlayBare, fun i => ?overlayStale,
    fun i k => ?overlayPlaced, ?schemaCount, fun n => ?schema, .of (fun _ _ _ => rfl) fun h tk u _ => ⟨_, rfl, by simp, ?fuses⟩⟩
  case loadBusy => exact .of (fun _ _ _ => rfl) fun h tk u _ hb => ⟨_, _, if_pos hb, ⟨rfl, rfl⟩, .inl (by decide)⟩
  case loadStale =>
    exact .of (fun _ _ _ => rfl) fun h tk u _ ⟨hfree, h0, hn⟩ =>
      ⟨_, _, (if_neg (by simp [hfree])).trans (if_pos (by simp [h0, hn])), ⟨rfl, rfl⟩, .inl (by decide)⟩
  case loadEmpty =>
    exact .of (fun _ _ _ => rfl) fun h tk u _ ⟨hfree, hoff, hlen⟩ =>
      ⟨_, _, (cfgLoad_placed hfree hoff).trans (if_pos (by simp [hlen])), ⟨rfl, rfl⟩, .inl (by decide)⟩
  case applyFault =>
    refine .of (fun _ _ _ => rfl) fun h tk u _ ⟨hfree, hfault, hlen, hstaged, hst⟩ =>
      ⟨_, _, (cfgApply_whole hfree hlen hstaged).trans ?_, ⟨rfl, rfl⟩, .inl (by simpa [answer] using hst)⟩
    rw [hfault]
  case applyLength =>
    refine .of (fun _ _ _ => rfl) fun h tk u _ ⟨hfree, hlen⟩ => ⟨setSticky 0x080 0x400 u, answer .badarg, ?_, ⟨rfl, rfl⟩, .inl (by decide)⟩
    unfold cfgApply
    dsimp only
    rw [if_neg (by rw [hfree]; decide), if_pos (by simp [hlen])]
  case applied =>
    refine .of (fun _ _ _ => rfl) fun h tk u _ ⟨hfree, hlen, hstaged, hi, hver, hfault, hkey, hroom⟩ => ?_
    subst hi
    refine ⟨_, _, (cfgApply_whole hfree hlen hstaged).trans ?_, ⟨rfl, rfl⟩, .inr hroom⟩
    rw [decide_eq_false (Nat.not_le.mpr hver), hfault]
    exact if_neg (by rcases hkey with hk | hk <;> simp [hk])
  case overlayNumber => exact .of (fun _ _ _ => rfl) fun h tk u _ hn => ⟨_, _, if_pos hn, ⟨rfl, rfl⟩, .inl (by decide)⟩
  case overlayBare =>
    exact .of (fun _ _ _ => rfl) fun h tk u _ ⟨hn, hi⟩ =>
      ⟨_, _, (if_neg (Nat.not_lt.mpr hn)).trans (if_pos (by simp [hi])), ⟨rfl, rfl⟩, .inl (by decide)⟩
  case overlayStale =>
    exact .of (fun _ _ _ => rfl) fun h tk u _ ⟨hn, hi, h0, hkey⟩ =>
      ⟨_, _, (cfgOverlay_running hn hi).trans (if_pos (by simp [h0, aheadEnough, hkey])), ⟨rfl, rfl⟩, .inl (by decide)⟩
  case overlayPlaced =>
    refine .of (fun _ _ _ => rfl) fun h tk u _ ⟨hn, hi, hk⟩ => ⟨_, _, (cfgOverlay_running hn hi).trans (if_neg ?_), ?_, .inl (by simp [okWith])⟩
    · rcases hk with ⟨h0, -⟩ | ⟨hahead, -⟩
      · simp [h0]
      · simp [aheadEnough, hahead]
    · rcases hk with ⟨h0, rfl⟩ | ⟨hahead, rfl⟩
      · rw [if_pos h0]
        exact ⟨rfl, rfl, nextCycleStart_aligned u⟩
      · rw [if_neg (by omega)]
        exact ⟨rfl, rfl, Nat.mul_mod_left ..⟩
  case schemaCount => exact .of (fun _ _ _ => rfl) fun h tk u _ hn => ⟨_, _, if_pos (by simpa using hn), ⟨rfl, rfl⟩, .inl (by decide)⟩
  case schema =>
    refine .of (fun _ _ _ => rfl) fun h tk u _ ⟨hlow, hhigh, hn⟩ => ⟨_, _, if_neg (by simp; omega), ⟨rfl, _, rfl, ?_⟩, .inl (by simp [okWith])⟩
    subst hn
    simp
  case fuses => simp [locksLeft]

end Sys2Proof.Machine
end

section
/-! PROOFS. The statements of control: the event recorder and its commands. -/

namespace Sys2Proof.Machine

open Host (Outcome)

/-! ### The recorder's state for a code, and a record's way into the ring (R759, R763–R766) -/

theorem codeSt_onCode_self (code : Nat) (f : CodeSt → CodeSt) (s : State) : codeSt (onCode code f s) code = f (codeSt s code) := by
  simp [codeSt, onCode]

theorem codeSt_onCode_ne {code k : Nat} (hk : k ≠ code) (f : CodeSt → CodeSt) (s : State) : codeSt (onCode code f s) k = codeSt s k := by
  simp [codeSt, onCode, tfind_tput_ne hk]

theorem codeSt_appendRecord_ne {r : EvtRecord} {k : Nat} (hk : k ≠ r.code) (s : State) : codeSt (appendRecord r s) k = codeSt s k :=
  codeSt_onCode_ne hk _ _

theorem codeSt_setSticky (off : Nat) (m : Word) (k : Nat) (s : State) : codeSt (setSticky off m s) k = codeSt s k := rfl

theorem mayTake_of_room {u : State} (hroom : u.evt.ring.length < ringSlots u) : mayTake u = true := by
  simp [mayTake, hroom]

/-- The state after a value of the environment is taken. -/
def freed (u : State) : State := { u with free := u.free + 1 }

theorem codeSt_freed (k : Nat) (u : State) : codeSt (freed u) k = codeSt u k := rfl

/-- A code without a rate, and room in the ring: the event's record is written with the count of those suppressed, which starts over. -/
theorem judgeEvent_recorded {e : QEvent} {u : State} (hrate : (codeCfg u e.code).rate = 0) (hroom : u.evt.ring.length < ringSlots u) :
    judgeEvent e u = (onCode e.code (fun x => { x with suppressed := 0 })
      (appendRecord (recordOf (freed u) (Config.freeNat u.free) e (codeSt u e.code).suppressed) (freed u)), .recorded u.evt.eseq) := by
  have hstore : storeRecord (recordOf (freed u) (Config.freeNat u.free) e (codeSt u e.code).suppressed) (freed u) =
      (appendRecord (recordOf (freed u) (Config.freeNat u.free) e (codeSt u e.code).suppressed) (freed u), .recorded u.evt.eseq) :=
    if_pos hroom
  unfold judgeEvent
  dsimp only
  rw [if_neg (by simp [hrate]), if_pos hrate]
  show (match storeRecord (recordOf (freed u) (Config.freeNat u.free) e (codeSt u e.code).suppressed) (freed u) with
    | (s, f) => match f with
      | .recorded n => (onCode e.code (fun x => { x with suppressed := 0 }) s, Fate.recorded n)
      | f => (s, f)) = _
  rw [hstore]

/-- An event whose bucket holds less than one token is counted, and no record is written (R764, R765). -/
theorem judgeEvent_suppressed {e : QEvent} {u : State} (hrate : (codeCfg u e.code).rate ≠ 0) (hlow : tokensNow u e.code < tokenUnit) :
    judgeEvent e u = (setSticky 0x078 0x8 (onCode e.code (fun x =>
      { x with suppressed := inc32 x.suppressed, suppressedTotal := inc32 x.suppressedTotal, sev := e.severity
               tokens := some (tokensNow u e.code), tokensOp := u.opTime }) u), .suppressed) :=
  if_pos (by simp [hrate, hlow])

theorem pushLost_none {s : State} (h : s.evt.lost = []) : pushLost s = s := by
  unfold pushLost
  rw [h]
  rfl

/-! ### EVENT_RAISE, BUCKET_REFILL and EVT_CLEAR_COMPLETE (R760, R765, R768, R783) -/

/-- EVENT_RAISE of an event that no one waits for: it is judged, and the LOST records follow. -/
theorem exec_eventRaise {dt : Nat} {s u : State} {e : QEvent} {rest : List QEvent} (hu : tick dt s = u) (hlive : recorderLives u = true)
    (htake : mayTake u = true) (hq : u.evt.q10 = e :: rest) (hreply : e.reply = none) :
    exec (.eventRaise dt) s = .next (pushLost (judgeEvent e (u.onEvt fun v => { v with q10 := rest })).1) := by
  show execEventRaise dt s = _
  unfold execEventRaise
  rw [hu]
  dsimp only
  rw [hq]
  dsimp only
  rw [if_pos (by simp [hlive, htake]), hreply]

/-- EVT_CLEAR_COMPLETE of a trim of which every page is durable. -/
theorem exec_evtClearComplete_durable {dt q : Nat} {s u : State} (hu : tick dt s = u) (hp : u.evt.trimPending = true)
    (hw : archWorks u = true) (hq : u.evt.trimSeq = some q) (hd : ∀ p ∈ u.arch.pages, p.seq = q → p.durable = true) :
    exec (.evtClearComplete dt) s = .next (match u.evt.clearing with
      | some (h, t) => finishAt h t (answer .ok) (u.onEvt fun v => { v with trimPending := false, trimSeq := none, clearing := none })
      | none => u.onEvt fun v => { v with trimPending := false, trimSeq := none, clearing := none }) := by
  show execEvtClearComplete dt s = _
  unfold execEvtClearComplete
  rw [hu]
  dsimp only
  rw [if_pos (by simp [hp, hw]), hq]
  dsimp only
  exact if_neg (by simpa using hd)

/-- BUCKET_REFILL of a full bucket with suppressed events (R765). -/
theorem exec_bucketRefill {dt code : Nat} {s u : State} (hu : tick dt s = u) (hlive : recorderLives u = true) (htake : mayTake u = true)
    (hsup : (codeSt u code).suppressed ≠ 0) (hfull : (codeCfg u code).burst * tokenUnit ≤ tokensNow u code) :
    exec (.bucketRefill dt code) s = .next (judgeEvent
      { code := 0x1003, source := 0xFF, severity := if hostCode code then (codeSt u code).sev else codeSeverity code
        detail := leBytes 2 code ++ [0, 0] ++ leBytes 4 (codeSt u code).suppressed, opS := u.opS, opSub := u.opSub }
      (onCode code (fun y => { y with suppressed := 0 }) u)).1 := by
  show execBucketRefill dt code s = _
  unfold execBucketRefill
  rw [hu]
  exact if_pos (by simp [hlive, htake, hsup, hfull])

/-- A code of the recorder's own has no rate (R763). -/
theorem codeCfg_rate_recorder {code : Nat} (h : recorderCode code = true) (s : State) : (codeCfg s code).rate = 0 := by
  unfold codeCfg
  dsimp only
  rw [if_pos (by simp [h])]

/-- Settles O53: an event judged by its bucket, the refill, the operating time, and the end of a clear. SEVERITY of a SUPPRESSED record of a
host code and the extension's trim are the model's (log entries 313 and 114). -/
theorem eventRecorder : Obligations.EventRecorder := by
  unfold Obligations.EventRecorder
  refine ⟨fun e rest => .of ?recorded, fun e rest => .of ?suppressed, .of ?full, fun code => .of ?refill, .of ?opTime, .of ?noTime,
    fun q h tk => .of ?answered, fun q => .of ?durable, fun q p => .of ?waits, .of ?trim, .of ?idle⟩
  case recorded =>
    rintro dt s u hu ⟨hlive, hq, hreply, hrate, hroom, hlost⟩
    have hjudged := judgeEvent_recorded (e := e) (u := u.onEvt fun v => { v with q10 := rest }) hrate hroom
    refine ⟨_, exec_eventRaise hu hlive (mayTake_of_room hroom) hq hreply, ?_⟩
    rw [hjudged, pushLost_none (by exact hlost)]
    exact ⟨rfl, rfl, rfl, _, rfl, rfl, rfl, rfl, rfl, rfl, rfl, rfl, rfl⟩
  case suppressed =>
    rintro dt s u hu ⟨hlive, hq, hreply, hrate, hlow, htake, hlost⟩
    have hjudged := judgeEvent_suppressed (e := e) (u := u.onEvt fun v => { v with q10 := rest }) hrate hlow
    refine ⟨_, exec_eventRaise hu hlive htake hq hreply, ?_⟩
    rw [hjudged, pushLost_none (by exact hlost)]
    refine ⟨rfl, rfl, rfl, ?_, fun h => ?_⟩
    · rw [codeSt_setSticky, codeSt_onCode_self]
      rfl
    · rw [host_setSticky]
      exact tget_tput_self ..
  case full =>
    rintro dt s u hu hfull
    refine ⟨u, ?_, rfl⟩
    show execEventRaise dt s = _
    unfold execEventRaise
    rw [hu]
    dsimp only
    split
    · rfl
    · exact if_neg (by simp [hfull])
  case refill =>
    rintro dt s u hu ⟨hlive, htake, hsup, hfull, hne, hroom⟩
    have hjudged := judgeEvent_recorded (e :=
      { code := 0x1003, source := 0xFF, severity := if hostCode code then (codeSt u code).sev else codeSeverity code
        detail := leBytes 2 code ++ [0, 0] ++ leBytes 4 (codeSt u code).suppressed, opS := u.opS, opSub := u.opSub })
      (u := onCode code (fun y => { y with suppressed := 0 }) u) (codeCfg_rate_recorder (show recorderCode 0x1003 = true by decide) _) hroom
    refine ⟨_, exec_bucketRefill hu hlive htake hsup hfull, ?_⟩
    rw [hjudged]
    refine ⟨?_, _, rfl, rfl, rfl, ?_⟩
    · rw [codeSt_onCode_ne hne, codeSt_appendRecord_ne hne, codeSt_freed, codeSt_onCode_self]
    · show List.take 8 (List.take 8 (_ ++ List.replicate 40 0)) = _
      rw [List.take_take, Nat.min_self, List.take_left' (by simp)]
  case opTime =>
    rintro dt s u hu ⟨hon, hnext⟩
    refine ⟨_, ?_, rfl⟩
    show execOpTimeCheckpoint dt s = _
    unfold execOpTimeCheckpoint
    rw [hu]
    exact if_pos (by simp [hon, hnext])
  case noTime =>
    rintro dt s u hu hpast
    refine ⟨u, ?_, rfl⟩
    show execOpTimeCheckpoint dt s = _
    unfold execOpTimeCheckpoint
    rw [hu]
    exact if_neg (by simp [Nat.not_lt.mpr hpast])
  case answered =>
    rintro dt s u hu ⟨hp, hw, hq, hd, hc⟩
    refine ⟨_, exec_evtClearComplete_durable hu hp hw hq hd, ?_⟩
    rw [hc]
  case durable =>
    rintro dt s u hu ⟨hp, hw, hq, hd, hc⟩
    refine ⟨_, exec_evtClearComplete_durable hu hp hw hq hd, ?_⟩
    rw [hc]
  case waits =>
    rintro dt s u hu ⟨hp, hw, hq, hmem, hseq, hd⟩
    refine ⟨u, ?_, rfl⟩
    show execEvtClearComplete dt s = _
    unfold execEvtClearComplete
    rw [hu]
    dsimp only
    rw [if_pos (by simp [hp, hw]), hq]
    exact if_pos (List.any_eq_true.mpr ⟨p, hmem, by simp [hseq, hd]⟩)
  case trim =>
    rintro dt s u hu ⟨hp, hw, hq⟩
    refine ⟨_, ?_, rfl⟩
    show execEvtClearComplete dt s = _
    unfold execEvtClearComplete
    rw [hu]
    dsimp only
    rw [if_pos (by simp [hp, hw]), hq]
  case idle =>
    rintro dt s u hu hp
    refine ⟨u, ?_, rfl⟩
    show execEvtClearComplete dt s = _
    unfold execEvtClearComplete
    rw [hu]
    exact if_neg (by simp [hp])

/-! ### The EVT commands (R779–R785) -/

/-- The records of the store are all shown where the archive works or the extension is empty (R780). -/
theorem evtRead_answers {tk : Taken} {u : State} (hlow : 1 ≤ fld tk.payload 4 1) (hhigh : fld tk.payload 4 1 ≤ 63)
    (hsev : fld tk.payload 5 1 ≤ 3) (hshown : archWorks u = true ∨ u.evt.ext = []) {hit : List EvtRecord}
    (hhit : hit = ((heldRecords u).filter fun r => seqGe r.eseq (fld tk.payload 0 4)).filter (fun r =>
      fld tk.payload 5 1 ≤ r.severity && Nat.land r.code (fld tk.payload 10 2) == Nat.land (fld tk.payload 8 2) (fld tk.payload 10 2))) :
    ∃ next flags, evtRead tk u = (u, okWith (leBytes 4 next ++ leBytes 1 (hit.take (fld tk.payload 4 1)).length ++ leBytes 1 flags ++
      leBytes 2 0 ++ (hit.take (fld tk.payload 4 1)).flatMap evtRecordBytes)) := by
  have hall : (((heldRecords u).filter fun r => seqGe r.eseq (fld tk.payload 0 4)).filter fun r =>
      archWorks u || !(u.evt.ext.any fun q => q.eseq == r.eseq)) =
      (heldRecords u).filter fun r => seqGe r.eseq (fld tk.payload 0 4) := by
    refine List.filter_eq_self.mpr fun r _ => ?_
    rcases hshown with hw | he
    · simp [hw]
    · simp [he]
  subst hhit
  unfold evtRead
  dsimp only
  rw [if_neg (by simp; omega), hall]
  exact ⟨_, _, rfl⟩

theorem evtCodeRead_answers {tk : Taken} {u : State} (hk : codeKnown (fld tk.payload 0 2) = true) :
    evtCodeRead tk u = (u, okWith (leBytes 2 (fld tk.payload 0 2) ++ leBytes 1 (codeSeverity (fld tk.payload 0 2)) ++
      leBytes 1 (bit (codeExtended (fld tk.payload 0 2))) ++ leBytes 2 (codeCfg u (fld tk.payload 0 2)).rate ++
      leBytes 1 (codeCfg u (fld tk.payload 0 2)).burst ++ leBytes 1 ((codeCfg u (fld tk.payload 0 2)).snap.take 8).length ++
      ((((codeCfg u (fld tk.payload 0 2)).snap.take 8).map fun w => BitVec.ofNat 8 w) ++ List.replicate 8 0xFF).take 8 ++
      leBytes 4 (codeSt u (fld tk.payload 0 2)).recorded ++ leBytes 4 (codeSt u (fld tk.payload 0 2)).suppressedTotal)) :=
  if_neg (by simp [hk])

theorem setOverride_override (code : Nat) (c : Option EvtCodeCfg) (s : State) : (codeSt (setOverride code c s) code).override = c := by
  unfold setOverride
  rw [codeSt_onCode_self]

theorem setOverride_frame (code : Nat) (c : Option EvtCodeCfg) (s : State) : Only [.evt] s (setOverride code c s) := by
  unfold setOverride
  exact onCode_only (by decide) (Only.refl _ _)

/-- The extension's trim leaves the recorder but for the trim's SEQ (R783). -/
theorem trimExtension_evt (s : State) : ∃ q, (trimExtension s).evt = { s.evt with trimSeq := q } := by
  unfold trimExtension
  split
  · have hevt : (trimRanges [(eventRegion, 4096), (eventRegion + copyPages, 4096)] s).2.evt = s.evt :=
      trimRanges_only (bs := [.arch]) (by decide) (Only.refl _ _) .evt (by decide)
    exact ⟨_, congrArg (fun v : EvtSt => { v with trimSeq := (trimRanges [(eventRegion, 4096), (eventRegion + copyPages, 4096)] s).1 }) hevt⟩
  · exact ⟨_, rfl⟩

/-- EVT_CLEAR past its checks: the store is empty but for the CLEARED record, and the trim follows (R783). -/
theorem evtClear_clears {h : Fin 4} {tk : Taken} {u : State} (hmode : u.cfg.overlay = 2 ∨ u.cfg.overlay = 4)
    (hconfirm : fld tk.payload 0 4 = 0x434C5245) :
    ∃ t, evtClear h tk u = (t, answer .pending) ∧ t.evt.ext = [] ∧ t.evt.eseq = 1 ∧ t.evt.trimPending = true ∧
      t.evt.clearing = some (h.val, tk) ∧ t.met.mlog = u.met.mlog ∧ ∃ x, t.evt.ring = [x] ∧ x.eseq = 0 ∧ x.code = 0x1005 := by
  obtain ⟨q, hq⟩ := trimExtension_evt ((freed u).onEvt fun v =>
    { v with ring := [], fullRec := none, ext := [], extGone := [], eseq := 0, discarded := 0, fullDisc := 0, copyFrom := none
             clearing := some (h.val, tk), trimPending := true })
  have hmet : (trimExtension ((freed u).onEvt fun v =>
    { v with ring := [], fullRec := none, ext := [], extGone := [], eseq := 0, discarded := 0, fullDisc := 0, copyFrom := none
             clearing := some (h.val, tk), trimPending := true })).met = u.met :=
    trimExtension_only (bs := [.evt, .arch]) (by decide) (Only.refl _ _) .met (by decide)
  generalize hx : trimExtension ((freed u).onEvt fun v =>
    { v with ring := [], fullRec := none, ext := [], extGone := [], eseq := 0, discarded := 0, fullDisc := 0, copyFrom := none
             clearing := some (h.val, tk), trimPending := true }) = x at hq hmet
  refine ⟨appendRecord (recordOf x (Config.freeNat u.free)
    { code := 0x1005, source := 0x20 + h.val, severity := 1, detail := leBytes 1 h.val ++ [0, 0, 0] ++ leBytes 4 (heldRecords u).length
      opS := x.opS, opSub := x.opSub } 0) x, ?_, ?_⟩
  · unfold evtClear
    rw [if_neg (by simp; omega), if_neg (by simp [hconfirm])]
    rw [← hx]
    rfl
  · have hring : x.evt.ring = [] := by rw [hq]; rfl
    have heseq : x.evt.eseq = 0 := by rw [hq]; rfl
    refine ⟨?_, ?_, ?_, ?_, congrArg MetSt.mlog hmet, { recordOf x (Config.freeNat u.free)
      { code := 0x1005, source := 0x20 + h.val, severity := 1, detail := leBytes 1 h.val ++ [0, 0, 0] ++ leBytes 4 (heldRecords u).length
        opS := x.opS, opSub := x.opSub } 0 with eseq := x.evt.eseq }, ?_, heseq, rfl⟩
    · show x.evt.ext = []
      rw [hq]; rfl
    · show inc32 x.evt.eseq = 1
      rw [heseq]; rfl
    · show x.evt.trimPending = true
      rw [hq]; rfl
    · show x.evt.clearing = _
      rw [hq]; rfl
    · show x.evt.ring ++ _ = _
      rw [hring]; rfl

theorem evtMlogRead_answers {tk : Taken} {u : State} (hlow : 1 ≤ fld tk.payload 4 1) (hhigh : fld tk.payload 4 1 ≤ 126)
    {out : List (MlogEntry × Nat)}
    (hout : out = (u.met.mlog.zipIdx.filter fun e => fld tk.payload 0 4 ≤ e.1.lseq).take (fld tk.payload 4 1)) :
    ∃ next lost, evtMlogRead tk u = (u, okWith (leBytes 4 next ++ leBytes 1 out.length ++ [0, 0, 0] ++ leBytes 2 (mlogFree u) ++ [0, 0] ++
      leBytes 4 lost ++ out.flatMap fun e => mlogBytes u.met e.2 e.1)) := by
  subst hout
  unfold evtMlogRead
  dsimp only
  rw [if_neg (by simp; omega)]
  exact ⟨_, _, rfl⟩

/-- Settles O54: each command's checks in their order, and the payload or the change of the branch it ends in. EVT_POST answers when EVENT_RAISE
takes its event, which codes are known and what EVT_MLOG_READ does are the model's (log entries 314, 417 and 442). -/
theorem eventCommands : Obligations.EventCommands := by
  unfold Obligations.EventCommands
  refine ⟨.of (fun _ _ _ => rfl) fun h tk u _ => ⟨_, rfl, by simp, by simp⟩, ?readRange, fun hit => ?read, ?codeRead, ?codeUnknown, ?codeEnds,
    ?codeRange, ?codeSets, ?clearMode, ?clearConfirm, ?clears, ?mlogRange, fun out => ?mlog, ?postRange, ?posts⟩
  case readRange => exact .of (fun _ _ _ => rfl) fun h tk u _ hn =>
    ⟨_, _, if_pos (by simpa [or_assoc] using hn), ⟨rfl, rfl⟩, .inl (by decide)⟩
  case read =>
    refine .of (fun _ _ _ => rfl) fun h tk u _ ⟨hlow, hhigh, hsev, hshown, hhit⟩ => ?_
    obtain ⟨next, flags, e⟩ := evtRead_answers hlow hhigh hsev hshown hhit
    exact ⟨_, _, e, ⟨rfl, _, rfl, by simp, List.drop_left' (by simp)⟩, .inl (by simp [okWith])⟩
  case codeRead =>
    exact .of (fun _ _ _ => rfl) fun h tk u hk => ⟨_, evtCodeRead_answers hk, by simp, by simp⟩
  case codeUnknown => exact .of (fun _ _ _ => rfl) fun h tk u _ hk => ⟨_, _, if_pos (by simp [hk]), ⟨rfl, rfl⟩, .inl (by decide)⟩
  case codeEnds =>
    exact .of (fun _ _ _ => rfl) fun h tk u _ ⟨hk, hm⟩ =>
      ⟨_, _, (if_neg (by simp [hk, hm])).trans (if_pos hm), ⟨rfl, rfl, setOverride_override _ _ _⟩, .inl (by decide)⟩
  case codeRange =>
    refine .of (fun _ _ _ => rfl) fun h tk u _ hbad => ⟨u, answer .badarg, ?_, ⟨rfl, rfl⟩, .inl (by decide)⟩
    unfold evtCodeSet
    dsimp only
    by_cases hform : codeKnown (fld tk.payload 0 2) = false ∨ 1 < fld tk.payload 2 1
    · exact if_pos (by simpa using hform)
    · obtain ⟨hk, hm⟩ := not_or.mp hform
      obtain ⟨h0, hrange⟩ : fld tk.payload 2 1 = 0 ∧ _ := hbad.resolve_left hk |>.resolve_left hm
      rw [if_neg (by simpa using hform), if_neg (by omega), if_pos]
      simp only [Bool.or_eq_true, Bool.and_eq_true, decide_eq_true_eq]
      rcases hrange with hr | hr | hr | hr
      · exact .inl (.inl (.inl (.inl hr)))
      · exact .inl (.inl (.inl (.inr hr)))
      · exact .inl (.inl (.inr hr))
      · exact .inr hr
  case codeSets =>
    refine .of (fun _ _ _ => rfl) fun h tk u _ ⟨hk, hm, hrate, hburst, hn, hlow, hset⟩ =>
      ⟨setOverride (fld tk.payload 0 2) (some { code := fld tk.payload 0 2, rate := fld tk.payload 4 2, burst := fld tk.payload 6 1
                                                snap := [] }) u,
        answer .ok, ?_, ⟨rfl, setOverride_override _ _ _, setOverride_frame _ _ _⟩, .inl (by decide)⟩
    unfold evtCodeSet
    dsimp only
    have hrange : ¬ (decide (3600 < fld tk.payload 4 2) || decide (fld tk.payload 6 1 = 0) || decide (8 < 0) ||
        !((List.range 0).map fun i => fld tk.payload (8 + i) 1).all snapAllowed ||
        decide (fld tk.payload 4 2 ≠ 0) && decide (codeSeverity (fld tk.payload 0 2) = 3)) = true := by
      rcases hlow with hl | hl
      · simp [hl, hburst]
      · simp [hl, hburst]
        omega
    rw [hn, if_neg (by simp [hk, hm]), if_neg (by omega), if_neg hrange,
      if_neg (by simp [Option.isNone_eq_false_iff.mpr hset])]
    rfl
  case clearMode => exact .of (fun _ _ _ => rfl) fun h tk u _ hm => ⟨_, _, if_pos (by simpa using hm), ⟨rfl, rfl⟩, .inl (by decide)⟩
  case clearConfirm =>
    exact .of (fun _ _ _ => rfl) fun h tk u _ ⟨hm, hc⟩ =>
      ⟨_, _, (if_neg (by rcases hm with hm | hm <;> simp [hm])).trans (if_pos hc), ⟨rfl, rfl⟩, .inl (by decide)⟩
  case clears =>
    refine .of (fun _ _ _ => rfl) fun h tk u _ ⟨hm, hc, hroom⟩ => ?_
    obtain ⟨t, e, hpost⟩ := evtClear_clears (h := h) hm hc
    exact ⟨t, _, e, ⟨rfl, hpost⟩, .inr hroom⟩
  case mlogRange => exact .of (fun _ _ _ => rfl) fun h tk u _ hn => ⟨_, _, if_pos (by simpa using hn), ⟨rfl, rfl⟩, .inl (by decide)⟩
  case mlog =>
    refine .of (fun _ _ _ => rfl) fun h tk u _ ⟨hlow, hhigh, hout⟩ => ?_
    obtain ⟨next, lost, e⟩ := evtMlogRead_answers hlow hhigh hout
    exact ⟨_, _, e, ⟨rfl, _, rfl, by simp, by simp [mlogFree], List.drop_left' (by simp)⟩, .inl (by simp [okWith])⟩
  case postRange => exact .of (fun _ _ _ => rfl) fun h tk u _ hn => ⟨_, _, if_pos hn, ⟨rfl, rfl⟩, .inl (by decide)⟩
  case posts =>
    refine .of (fun _ _ _ => rfl) fun h tk u _ ⟨hn, hlive, hroom⟩ =>
      ⟨_, _, (if_neg (Nat.not_lt.mpr hn)).trans (if_pos (by simp [hlive, hroom])), ⟨rfl, ?_⟩, .inl (by decide)⟩
    unfold pushEvent
    rw [if_pos hlive, if_pos hroom]

end Sys2Proof.Machine
end

section
/-! PROOFS. The statements of the hub: mailboxes, leases and hosts that go offline. -/

namespace Sys2Proof.Machine

open Host (Outcome)

/-! ### Hosts, one at a time (R623, R632, R635) -/

/-- A mailbox that becomes free changes a host's interrupt alone (R632). -/
theorem freeEdge_host (before s : State) (h : Fin 4) :
    ∃ i l, (freeEdge before s).host h = { s.host h with irq := i, msi := l } := by
  have hmap : (freeEdge before s).host h = if cmdFree s (s.host h) && !cmdFree before (before.hosts.hosts.toList.getD h.val {})
      then setIrq 0x02 (s.host h) else s.host h := by
    simp [freeEdge, State.host]
  rw [hmap]
  split
  · obtain ⟨l, e⟩ := setIrq_eq 0x02 (s.host h)
    exact ⟨_, l, e⟩
  · exact ⟨_, _, rfl⟩

theorem freeEdge_dispatchQ (before s : State) : (freeEdge before s).hosts.dispatchQ = s.hosts.dispatchQ := rfl

theorem touchHost_bound {h : Fin 4} {s : State} (hp : (s.host h).port ≠ 0) :
    touchHost h s = s.setHost h { s.host h with online := true } := if_neg (by simpa using hp)

theorem host_cases (h : Fin 4) : h = 0 ∨ h = 1 ∨ h = 2 ∨ h = 3 := by
  revert h
  decide

theorem count_hosts (h : Fin 4) : (List.finRange 4).count h = 1 := by
  revert h
  decide

/-- An operation that leaves a state alone leaves it alone over a list. -/
theorem foldl_unchanged {α β : Type} {g : α → β → α} {a : α} (h : ∀ b, g a b = a) (l : List β) : l.foldl g a = a := by
  induction l with
  | nil => rfl
  | cons b l ih => rw [List.foldl_cons, h b, ih]

/-- An operation on each host in turn that leaves all but one host's part alone is that host's operation. -/
theorem foldHosts_one {α : Type} {g : α → Fin 4 → α} {h : Fin 4} {s : α} (hbefore : ∀ k, k ≠ h → g s k = s)
    (hafter : ∀ k, k ≠ h → g (g s h) k = g s h) : (List.finRange 4).foldl g s = g s h := by
  show g (g (g (g s 0) 1) 2) 3 = _
  obtain rfl | rfl | rfl | rfl := host_cases h
  · exact (congrArg (fun x => g (g x 2) 3) (hafter 1 (by decide))).trans
      ((congrArg (g · 3) (hafter 2 (by decide))).trans (hafter 3 (by decide)))
  · exact (congrArg (fun x => g (g (g x 1) 2) 3) (hbefore 0 (by decide))).trans
      ((congrArg (g · 3) (hafter 2 (by decide))).trans (hafter 3 (by decide)))
  · exact (congrArg (fun x => g (g (g x 1) 2) 3) (hbefore 0 (by decide))).trans
      ((congrArg (fun x => g (g x 2) 3) (hbefore 1 (by decide))).trans (hafter 3 (by decide)))
  · exact (congrArg (fun x => g (g (g x 1) 2) 3) (hbefore 0 (by decide))).trans
      ((congrArg (fun x => g (g x 2) 3) (hbefore 1 (by decide))).trans (congrArg (g · 3) (hbefore 2 (by decide))))

/-! ### The command doorbell (R635) -/

/-- The state after a host's access with its doorbell rung (R623, R803). -/
def rung (h : Fin 4) (u : State) : State := ringBell h (u.setHost h { u.host h with online := true })

theorem rung_host (h : Fin 4) (u : State) : (rung h u).host h = { u.host h with online := true } := by
  unfold rung
  rw [ringBell_host, host_setHost_self]

theorem cmdFree_rung (h : Fin 4) (u : State) : cmdFree (rung h u) ((rung h u).host h) = cmdFree u (u.host h) := by
  rw [rung_host]
  unfold rung
  rw [cmdFree_ringBell]
  rfl

theorem exec_doorbellCmd {dt : Nat} {h : Fin 4} {hdr : CmdHeader} {payload : List Byte} {s u : State} (hu : tick dt s = u)
    (hon : u.pwr.aonOn = true) (hp : (u.host h).port ≠ 0) :
    exec (.doorbellCmd dt h hdr payload) s = if cmdFree u (u.host h)
      then .next ((rung h u).setHost h { u.host h with online := true, box := some (hdr, payload), boxTick := u.rc / ofUs 1 })
      else .next (rung h u) := by
  show execDoorbellCmd dt h hdr payload s = _
  unfold execDoorbellCmd
  rw [hu]
  dsimp only
  rw [if_pos (by simp [hon, hp]), touchHost_bound hp]
  show (if cmdFree (rung h u) ((rung h u).host h) then _ else _) = _
  rw [cmdFree_rung]
  show (if _ then Outcome.next ((rung h u).setHost h { (rung h u).host h with box := _, boxTick := (rung h u).rc / ofUs 1 }) else _) = _
  rw [rung_host]
  have hrc : (rung h u).rc = u.rc := by
    unfold rung
    rw [ringBell_rc]
    rfl
  rw [hrc]
  rfl

/-! ### The taking of a command (R635, R640, R646, R647) -/

/-- COMMAND_TAKE with no doorbell written. -/
theorem exec_commandTake_empty {dt : Nat} {s u : State} (hu : tick dt s = u) (hnone : ∀ k : Fin 4, (u.host k).box = none) :
    exec (.commandTake dt) s = .next u := by
  have hticks : ((List.finRange 4).filterMap fun h => if (u.host h).box.isSome then some (u.host h).boxTick else none) = [] := by
    rw [List.filterMap_eq_nil_iff]
    intro k _
    simp [hnone k]
  show execCommandTake dt s = _
  unfold execCommandTake
  rw [hu]
  dsimp only
  rw [hticks]

/-- Where one host alone has its doorbell written, its tick is the only one. -/
theorem ticks_one {u : State} {h : Fin 4} (hbox : (u.host h).box.isSome = true) (hothers : ∀ k : Fin 4, k ≠ h → (u.host k).box = none) :
    ((List.finRange 4).filterMap fun h => if (u.host h).box.isSome then some (u.host h).boxTick else none) = [(u.host h).boxTick] := by
  have hk : ∀ k, (if (u.host k).box.isSome then some (u.host k).boxTick else none) =
      if k = h then some (u.host h).boxTick else none := by
    intro k
    by_cases e : k = h
    · simp [e, hbox]
    · simp [e, hothers k e]
  simp only [hk]
  obtain rfl | rfl | rfl | rfl := host_cases h <;> rfl

/-- The state in which a host's command has been taken, its checks passed. -/
def takenState (u : State) (h : Fin 4) (hdr : CmdHeader) : State :=
  u.setHost h { u.host h with box := none, cmds := inc32 (u.host h).cmds, lastSeq := some hdr.seq, lastResp := none }

theorem takeBox_none {k : Nat} {acc : State × List (Fin 4 × Taken)} {j : Fin 4} (hj : (acc.1.host j).box = none) : takeBox k acc j = acc := by
  unfold takeBox
  dsimp only
  rw [hj]

theorem takeBox_pass {u : State} {h : Fin 4} {hdr : CmdHeader} {payload : List Byte} {tk : Taken} (hbox : (u.host h).box = some (hdr, payload))
    (hpass : checkBox u h hdr payload = .pass tk) :
    takeBox (u.host h).boxTick (u, []) h = (takenState u h hdr, [(h, tk)]) := by
  unfold takeBox
  dsimp only
  rw [hbox]
  dsimp only
  rw [if_neg (fun hne => hne rfl), hpass]
  rfl

/-- The hosts in the order of R647 hold each host once, whose precedence is in its range. -/
theorem count_execOrder {s : State} {h : Fin 4} (hp : (s.host h).precedence ≤ 7) : (execOrder s).count h = 1 := by
  have hcount : ∀ p, List.count h ((List.finRange 4).filter fun k => (s.host k).precedence == p) =
      if (s.host h).precedence = p then 1 else 0 := by
    intro p
    split
    next e => rw [List.count_filter (by simp [e]), count_hosts]
    next e => exact List.count_eq_zero_of_not_mem (by simp [e])
  unfold execOrder
  rw [List.count_flatMap]
  simp only [Function.comp_def, hcount]
  have hone : ∀ p, p < 8 → (((List.range 8).reverse.map fun k => if p = k then 1 else 0).sum = 1) := by decide
  exact hone _ (Nat.lt_succ_of_le hp)

/-- A list of pairs of one host, in the order of the hosts. -/
theorem order_one (l : List (Fin 4)) (h : Fin 4) (tk : Taken) :
    (l.flatMap fun k => ([(h, tk)].filter fun q => q.1 == k).map fun q => (k.val, q.2)) = List.replicate (l.count h) (h.val, tk) := by
  induction l with
  | nil => rfl
  | cons k l ih =>
    rw [List.flatMap_cons, ih, List.count_cons]
    by_cases e : k = h
    · subst e
      simp [List.replicate_succ]
    · simp [e, Ne.symm e]

section Taken
variable {u : State} {h : Fin 4} {hdr : CmdHeader} {tk : Taken}

theorem takenState_other {k : Fin 4} (hk : k ≠ h) : (takenState u h hdr).host k = u.host k := host_setHost_ne hk

theorem takenState_self : (takenState u h hdr).host h =
    { u.host h with box := none, cmds := inc32 (u.host h).cmds, lastSeq := some hdr.seq, lastResp := none } := host_setHost_self

/-- The taking leaves each host's leases, open commands and precedence. -/
theorem takenState_kept (k : Fin 4) : ((takenState u h hdr).host k).leases = (u.host k).leases ∧
    ((takenState u h hdr).host k).openCmds = (u.host k).openCmds ∧ ((takenState u h hdr).host k).precedence = (u.host k).precedence := by
  by_cases e : k = h
  · subst e
    rw [takenState_self]
    exact ⟨rfl, rfl, rfl⟩
  · rw [takenState_other e]
    exact ⟨rfl, rfl, rfl⟩

theorem liveLeases_taken (k : Fin 4) : liveLeases (takenState u h hdr) k = liveLeases u k := by
  unfold liveLeases
  rw [(takenState_kept k).1]
  rfl

theorem leaseBar_taken : leaseBar (takenState u h hdr) h tk = leaseBar u h tk := by
  unfold leaseBar otherLease
  simp only [liveLeases_taken]

theorem resourceHeld_taken : resourceHeld (takenState u h hdr) tk = resourceHeld u tk := by
  unfold resourceHeld
  simp only [fun k => (takenState_kept (u := u) (h := h) (hdr := hdr) k).2.1]

/-- A command alone has no winner over it (R646). -/
theorem winnerOver_alone (s : State) : winnerOver s [(h, tk)] h tk = none := by
  have hself : beats s h h = false := by simp [beats]
  unfold winnerOver
  split
  · rfl
  · simp [hself]

end Taken

/-- COMMAND_TAKE of the one command that stands in a mailbox, where it passes every check. -/
theorem exec_commandTake_one {dt : Nat} {s u : State} {h : Fin 4} {hdr : CmdHeader} {payload : List Byte} {tk : Taken} (hu : tick dt s = u)
    (htaking : taking u = true) (hidle : u.hosts.dispatchQ = []) (hbox : (u.host h).box = some (hdr, payload))
    (hothers : ∀ k : Fin 4, k ≠ h → (u.host k).box = none) (hdue : ofUs ((u.host h).boxTick + 1) ≤ u.rc)
    (hpass : checkBox u h hdr payload = .pass tk) (hbar : leaseBar u h tk = none) (hheld : resourceHeld u tk = false)
    (hprec : (u.host h).precedence ≤ 7) :
    exec (.commandTake dt) s = .next (freeEdge u ((takenState u h hdr).onHosts fun b => { b with dispatchQ := [(h.val, tk)] })) := by
  have htaken : (List.finRange 4).foldl (takeBox (u.host h).boxTick) (u, []) = (takenState u h hdr, [(h, tk)]) := by
    have hself := takeBox_pass hbox hpass
    refine (foldHosts_one (h := h) (fun k hk => takeBox_none (hothers k hk)) fun k hk => ?_).trans hself
    rw [hself]
    exact takeBox_none (by rw [takenState_other hk]; exact hothers k hk)
  show execCommandTake dt s = _
  unfold execCommandTake
  rw [hu]
  dsimp only
  rw [ticks_one (by simp [hbox]) hothers]
  dsimp only
  rw [List.foldl_nil, if_pos (by simp [htaking, hidle, hdue]), htaken]
  have horder : ((execOrder (takenState u h hdr)).flatMap fun k => ([(h, tk)].filter fun q => q.1 == k).map fun q => (k.val, q.2)) =
      [(h.val, tk)] := by
    rw [order_one, count_execOrder (by rw [(takenState_kept h).2.2]; exact hprec)]
    rfl
  simp [leaseBar_taken, hbar, winnerOver_alone, resourceHeld_taken, hheld, horder]

/-! ### Responses (R637) -/

/-- RESP_ACK of a response that stands in the mailbox: the next one is delivered, or the mailbox is free. -/
theorem exec_respAck {dt : Nat} {s u : State} {h : Fin 4} {x : Response} (hu : tick dt s = u) (hon : u.pwr.aonOn = true)
    (hp : (u.host h).port ≠ 0) (hx : (u.host h).resp = some x) :
    exec (.respAck dt h) s = .next (freeEdge (rung h u) ((rung h u).setHost h (match (u.host h).respQ with
      | [] => { u.host h with online := true, resp := none }
      | r :: q => setIrq 0x01 { u.host h with online := true, resp := some r, respQ := q }))) := by
  show execRespAck dt h s = _
  unfold execRespAck
  rw [hu]
  dsimp only
  rw [if_pos (by simp [hon, hp]), touchHost_bound hp]
  show (match ((rung h u).host h).resp, ((rung h u).host h).respQ with
    | none, _ => Outcome.next (rung h u)
    | some _, [] => .next (freeEdge (rung h u) ((rung h u).setHost h { (rung h u).host h with resp := none }))
    | some _, r :: q => .next (freeEdge (rung h u) ((rung h u).setHost h (setIrq 0x01 { (rung h u).host h with resp := some r, respQ := q })))) = _
  rw [rung_host]
  dsimp only
  rw [hx]
  cases (u.host h).respQ <;> rfl

/-! ### Hosts that go offline (R624) -/

/-- What a host has no more once it is offline (R624). -/
structure Offline (x : HostSt) : Prop where
  online : x.online = false
  respQ : x.respQ = []
  lastSeq : x.lastSeq = none
  lastResp : x.lastResp = none
  tolUs : x.tolUs = none
  heldNotices : x.heldNotices = []

theorem hosts_clearIf (c : Prop) [Decidable c] (s : State) : (if c then clearStaging s else s).hosts = s.hosts := by split <;> rfl

theorem goOffline_offline (h : Fin 4) (s : State) : Offline ((goOffline h s).host h) := by
  unfold goOffline
  extract_lets a x b c d e
  have hb : Offline (b.host h) := by
    unfold b
    rw [host_setHost_self]
    exact ⟨rfl, rfl, rfl, rfl, rfl, rfl⟩
  have hd : d.host h = b.host h := rfl
  have he : e.host h = d.host h := congrArg (fun t : HostsSt => t.hosts[h]) (hosts_clearIf _ d)
  clear_value e
  have hlast : ∀ t : State, t.host h = e.host h → Offline (t.host h) := fun t ht => by
    rw [ht, he, hd]
    exact hb
  split
  · exact hlast _ rfl
  · exact hlast _ rfl

theorem freeEdge_offline {before s : State} {h : Fin 4} (hs : Offline (s.host h)) : Offline ((freeEdge before s).host h) := by
  obtain ⟨i, l, e⟩ := freeEdge_host before s h
  rw [e]
  exact ⟨hs.online, hs.respQ, hs.lastSeq, hs.lastResp, hs.tolUs, hs.heldNotices⟩

/-! ### Leases (R649–R655) -/

/-- The leases of a host that have run out are lost, one after the other. -/
def expireLeases (s : State) (h : Fin 4) : State :=
  ((s.host h).leases.filter fun l => l.endRc ≤ s.rc).foldl (fun s l => loseLease h l s) s

theorem exec_leaseExpire {dt : Nat} {s u : State} (hu : tick dt s = u) :
    exec (.leaseExpire dt) s = .next ((List.finRange 4).foldl expireLeases u) := by
  subst hu
  rfl

theorem expireLeases_none {s : State} {h : Fin 4} (hl : ∀ l ∈ (s.host h).leases, s.rc < l.endRc) : expireLeases s h = s := by
  unfold expireLeases
  rw [List.filter_eq_nil_iff.mpr fun l hm => by simpa using hl l hm]
  rfl

theorem expireLeases_one {s : State} {h : Fin 4} {l : Lease} (hl : (s.host h).leases = [l]) (he : l.endRc ≤ s.rc) :
    expireLeases s h = loseLease h l s := by
  unfold expireLeases
  rw [hl]
  simp [he]

theorem loseLease_other {h k : Fin 4} (hk : k ≠ h) (l : Lease) (s : State) : (loseLease h l s).host k = s.host k := host_setHost_ne hk

theorem loseLease_self (h : Fin 4) (l : Lease) (s : State) : ∃ m, (loseLease h l s).host h =
    { s.host h with leases := (s.host h).leases.erase l, irq := (s.host h).irq ||| 0x08, msi := m } := by
  obtain ⟨m, e⟩ := setIrq_eq 0x08 { s.host h with leases := (s.host h).leases.erase l }
  exact ⟨m, host_setHost_self.trans e⟩

/-- No other host's lease meets a claim where none is found. -/
theorem no_holders {u : State} {h : Fin 4} {p : Nat → Bool} (hn : otherLease u h p = none) :
    ((List.finRange 4).filter (· != h)).filter (fun k => (liveLeases u k).any fun l => p l.claim) = [] := by
  unfold otherLease at hn
  rw [List.findSome?_eq_none_iff] at hn
  rw [List.filter_eq_nil_iff]
  intro k hk
  have hnone := hn k hk
  rw [Option.map_eq_none_iff, List.find?_eq_none] at hnone
  simpa using hnone

/-- LEASE_TAKE past its checks of form: without BREAK it asks whether another host's lease meets the claim (R653). -/
theorem leaseTake_formed {h : Fin 4} {tk : Taken} {u : State} (hlow : 10 ≤ fld tk.payload 0 4) (hhigh : fld tk.payload 0 4 ≤ 3600000)
    (hflags : fld tk.payload 4 1 = 0) (hclaim : leasable tk.claim = true) :
    leaseTake h tk u = match otherLease u h (fun l => leaseCovers l tk.claim || leaseCovers tk.claim l) with
      | some (k, l) => (u, { status := .conflict, detail := conflictDetail l.tag k.val true })
      | none =>
        if ((liveLeases u h).find? fun l => l.claim == tk.claim).isNone && 64 ≤ (liveLeases u h).length then (u, answer .nospace)
        else
          let s := (((List.finRange 4).filter (· != h)).filter fun k =>
              (liveLeases u k).any fun l => leaseCovers l.claim tk.claim || leaseCovers tk.claim l.claim).foldl (fun s k =>
            raise .leaseBreak (0x20 + h.val) [BitVec.ofNat 8 h.val, BitVec.ofNat 8 k.val]
              (((liveLeases s k).filter fun l => leaseCovers l.claim tk.claim || leaseCovers tk.claim l.claim).foldl
                (fun s l => loseLease k l s) s)) u
          (s.setHost h { s.host h with leases := ((s.host h).leases.filter fun l => l.claim != tk.claim) ++
            [{ claim := tk.claim, endRc := s.rc + ofMs (fld tk.payload 0 4)
               tag := (((liveLeases u h).find? fun l => l.claim == tk.claim).map (·.tag)).getD tk.tag }] },
            okWith (leBytes 4 (fld tk.payload 0 4) ++ [0, 0, 0, 0])) := by
  unfold leaseTake
  dsimp only
  rw [hflags, if_neg (by simp [hclaim]; omega), if_neg (by simp [hasBit])]
  rfl

/-- The answer of LEASE_READ: the number of leases, and 64 places for them (R655). -/
def leaseReport (l : List Lease) (rc : Nat) : List Byte :=
  leBytes 1 l.length ++ List.replicate 7 0 ++
    ((l.flatMap fun (q : Lease) => leBytes 4 q.claim ++ leBytes 4 ((q.endRc - rc) / ofMs 1)) ++ List.replicate 512 0).take 512

theorem leaseReport_length (l : List Lease) (rc : Nat) : (leaseReport l rc).length = 520 := by
  simp only [leaseReport, List.length_append, leBytes_length, List.length_replicate, List.length_take]
  omega

theorem leaseReport_shows (l : List Lease) (rc : Nat) : Shows (leaseReport l rc) 0 1 l.length := by
  unfold leaseReport
  rw [List.append_assoc]
  exact shows_head

/-- Settles O47: each event and command under its condition. What going offline discards, the doorbell ignored while CMD_FREE is 0, the
ringing and the idle LEASE_EXPIRE are the model's (log entries 306, 310, 463 and 4). -/
theorem mailboxesAndLeases : Obligations.MailboxesAndLeases := by
  unfold Obligations.MailboxesAndLeases
  refine ⟨fun h hdr payload => .of ?bell, fun h hdr payload => .of ?bellTaken, .of ?noBox, fun h hdr payload tk => .of ?take, fun h x => .of ?ack,
    fun h x y rest => .of ?ackNext, fun h => .of ?detach, fun h => .of ?offline, fun h l => .of ?expire, .of ?idle, ?lease, fun k l => ?conflict,
    ?release, ?notHeld, .of (fun _ _ _ => rfl) fun h tk u _ => ⟨_, rfl, leaseReport_length _ _, leaseReport_shows _ _⟩,
    .of (fun _ _ _ => rfl) fun h tk u _ => ⟨_, rfl, by simp [sysInfoBytes], by simp [sysInfoBytes]⟩⟩
  case bell =>
    rintro dt s u hu ⟨hon, hp, hfree⟩
    refine ⟨_, (exec_doorbellCmd hu hon hp).trans (if_pos hfree), ?_⟩
    rw [host_setHost_self]
    refine ⟨rfl, rfl, rfl, fun k hk => ?_⟩
    rw [host_setHost_ne hk]
    unfold rung
    rw [ringBell_host, host_setHost_ne hk]
  case bellTaken =>
    rintro dt s u hu ⟨hon, hp, hfree⟩
    exact ⟨_, (exec_doorbellCmd hu hon hp).trans (if_neg (by simp [hfree])), rfl⟩
  case noBox =>
    rintro dt s u hu hnone
    exact ⟨_, exec_commandTake_empty hu hnone, rfl⟩
  case take =>
    rintro dt s u hu ⟨htaking, hidle, hbox, hothers, hdue, hpass, hbar, hheld, hprec⟩
    refine ⟨_, exec_commandTake_one hu htaking hidle hbox hothers hdue hpass hbar hheld hprec, freeEdge_dispatchQ _ _, ?_⟩
    obtain ⟨i, l, e⟩ := freeEdge_host u ((takenState u h hdr).onHosts fun b => { b with dispatchQ := [(h.val, tk)] }) h
    rw [e]
    show ((takenState u h hdr).host h).box = _ ∧ ((takenState u h hdr).host h).lastSeq = _ ∧ ((takenState u h hdr).host h).cmds = _
    rw [takenState_self]
    exact ⟨rfl, rfl, rfl⟩
  case ack =>
    rintro dt s u hu ⟨hon, hp, hx, hq⟩
    refine ⟨_, exec_respAck hu hon hp hx, ?_⟩
    rw [hq]
    obtain ⟨i, l, e⟩ := freeEdge_host (rung h u) ((rung h u).setHost h { u.host h with online := true, resp := none }) h
    rw [e, host_setHost_self]
    exact ⟨rfl, hq⟩
  case ackNext =>
    rintro dt s u hu ⟨hon, hp, hx, hq⟩
    refine ⟨_, exec_respAck hu hon hp hx, ?_⟩
    rw [hq]
    obtain ⟨i, l, e⟩ := freeEdge_host (rung h u)
      ((rung h u).setHost h (setIrq 0x01 { u.host h with online := true, resp := some y, respQ := rest })) h
    obtain ⟨m, ei⟩ := setIrq_eq 0x01 { u.host h with online := true, resp := some y, respQ := rest }
    dsimp only
    rw [e, host_setHost_self, ei]
    exact ⟨rfl, rfl⟩
  case detach =>
    rintro dt s u hu ⟨hon, hp⟩
    have hoff : Offline ((freeEdge u (goOffline h (ringBell h u))).host h) := freeEdge_offline (goOffline_offline h _)
    refine ⟨freeEdge u (goOffline h (ringBell h u)), ?_, hoff.online, hoff.respQ, hoff.lastSeq, hoff.lastResp, hoff.tolUs, hoff.heldNotices⟩
    show execDetach dt h s = _
    unfold execDetach
    rw [hu]
    exact if_pos (by simp [hon, hp])
  case offline =>
    rintro dt s u hu ⟨hon, hlow, hhigh⟩
    have hoff : Offline ((freeEdge u (goOffline h u)).host h) := freeEdge_offline (goOffline_offline h _)
    refine ⟨freeEdge u (goOffline h u), ?_, hoff.online, hoff.respQ, hoff.lastSeq, hoff.lastResp, hoff.tolUs, hoff.heldNotices⟩
    show execHostOffline dt h s = _
    unfold execHostOffline
    rw [hu]
    exact if_pos (by simp [hon, hlow, hhigh])
  case expire =>
    rintro dt s u hu ⟨hl, he, hothers⟩
    have hself := expireLeases_one hl he
    have hfold : (List.finRange 4).foldl expireLeases u = loseLease h l u := by
      refine (foldHosts_one (h := h) (fun k hk => expireLeases_none (by simp [hothers k hk])) fun k hk => ?_).trans hself
      rw [hself]
      exact expireLeases_none (by rw [loseLease_other hk, hothers k hk]; simp)
    refine ⟨loseLease h l u, by rw [exec_leaseExpire hu, hfold], ?_⟩
    obtain ⟨m, e⟩ := loseLease_self h l u
    rw [e]
    exact ⟨by simp [hl], rfl, fun k hk => loseLease_other hk l u⟩
  case idle =>
    rintro dt s u hu hl
    exact ⟨_, exec_leaseExpire hu, foldl_unchanged (fun k => expireLeases_none (hl k)) _⟩
  case lease =>
    refine .of (fun _ _ _ => rfl) fun h tk u _ ⟨hlow, hhigh, hflags, hclaim, hother, hmine, hroom⟩ =>
      ⟨_, _, (leaseTake_formed hlow hhigh hflags hclaim).trans ?_, ⟨rfl, rfl⟩, .inl (by simp [okWith])⟩
    rw [hother]
    dsimp only
    rw [if_neg (by simp; omega), hmine, no_holders hother]
    rfl
  case conflict =>
    refine .of (fun _ _ _ => rfl) fun h tk u _ ⟨hlow, hhigh, hflags, hclaim, hother⟩ =>
      ⟨u, { status := .conflict, detail := conflictDetail l.tag k.val true }, (leaseTake_formed hlow hhigh hflags hclaim).trans ?_,
        ⟨rfl, rfl, rfl⟩, .inl (by simp)⟩
    rw [hother]
  case release =>
    exact .of (fun _ _ _ => rfl) fun h tk u _ ⟨l, hl, he⟩ =>
      ⟨_, _, if_pos (List.any_eq_true.mpr ⟨l, hl, by simp [he]⟩), ⟨rfl, rfl⟩, .inl (by decide)⟩
  case notHeld =>
    exact .of (fun _ _ _ => rfl) fun h tk u _ hl => ⟨_, _, if_neg (by simpa using hl), ⟨rfl, rfl⟩, .inl (by decide)⟩

end Sys2Proof.Machine
end

section
/-! PROOFS. The statements of the hub: host rings and register accesses. -/

namespace Sys2Proof.Machine

open Host (Outcome)

section Rings
variable {dt : Nat} {h : Fin 4} {ordinal : Nat} {s u : State} {r : RingSt}

/-- An access marks the host online, and its rings are as they were. -/
theorem ringsOf_online (x : HostSt) (n : Nat) : ringsOf (u.setHost h x) n = ringsOf u n := rfl

/-- A write of PROD to a request ring that the host has (R657). -/
theorem exec_ringProdWrite {prod : Nat} {items : List (List Byte)} (hu : tick dt s = u) (hon : ringPageOn u = true) (hp : (u.host h).port ≠ 0)
    (hr : (ringsOf u h.val)[ordinal]? = some r) (hsource : r.source = 4) :
    exec (.ringProdWrite dt h ordinal prod items) s =
      if 0x80000000 ≤ (prod + 0x100000000 - r.prod) % 0x100000000 || r.depth < ringFill r + (prod + 0x100000000 - r.prod) % 0x100000000
      then .next (badIndex r (u.setHost h { u.host h with online := true }))
      else .next (setRing { r with prod := w32 prod, items := r.items ++ ((List.range ((prod + 0x100000000 - r.prod) % 0x100000000)).map
        fun i => ((items.getD i []) ++ List.replicate r.slot 0).take r.slot) } (u.setHost h { u.host h with online := true })) := by
  show execRingProdWrite dt h ordinal prod items s = _
  unfold execRingProdWrite
  rw [hu]
  dsimp only
  rw [if_pos (by simp [hon, hp]), touchHost_bound hp, ringsOf_online, hr]
  exact if_neg (fun hne => hne hsource)

/-- A write of CONS to another ring that the host has (R657). -/
theorem exec_ringConsWrite {cons : Nat} (hu : tick dt s = u) (hon : ringPageOn u = true) (hp : (u.host h).port ≠ 0)
    (hr : (ringsOf u h.val)[ordinal]? = some r) (hsource : r.source ≠ 4) :
    exec (.ringConsWrite dt h ordinal cons) s =
      if ringFill r < (cons + 0x100000000 - r.cons) % 0x100000000 then .next (badIndex r (u.setHost h { u.host h with online := true }))
      else .next (pushHeld h (setRing { r with cons := w32 cons, items := r.items.drop ((cons + 0x100000000 - r.cons) % 0x100000000) }
        (u.setHost h { u.host h with online := true }))) := by
  show execRingConsWrite dt h ordinal cons s = _
  unfold execRingConsWrite
  rw [hu]
  dsimp only
  rw [if_pos (by simp [hon, hp]), touchHost_bound hp, ringsOf_online, hr]
  exact if_neg hsource

/-- Without held notices a ring with room gets none (R660). -/
theorem pushHeld_none {y : State} (hy : (y.host h).heldNotices = []) : pushHeld h y = y.setHost h { y.host h with heldNotices := [] } := by
  unfold pushHeld
  dsimp only
  rw [hy]
  rfl

end Rings

/-- A half-word of a register write at a chip select (R627). -/
theorem exec_registerWrite_half {dt : Nat} {h : Fin 4} {off : Nat} {high : Bool} {v : Word} {cs : Fin 2} {s u : State} (hu : tick dt s = u)
    (hon : u.pwr.aonOn = true) (hp : (u.host h).port = 5 + cs.val) :
    exec (.registerWrite dt h off (some high) v) s = if high
      then .next (hostWrite h off (v.setWidth 16 ++ u.hosts.hlbWrite.getD cs.val 0) (u.setHost h { u.host h with online := true }))
      else .next ((u.setHost h { u.host h with online := true }).onHosts fun b =>
        { b with hlbWrite := b.hlbWrite.set cs.val (v.setWidth 16) }) := by
  have hbound : (u.host h).port ≠ 0 := by omega
  have hport : (u.host h).port - 5 = cs.val := by omega
  have hlocal : (u.host h).port = 5 ∨ (u.host h).port = 6 := by omega
  show execRegisterWrite dt h off (some high) v s = _
  unfold execRegisterWrite
  rw [hu]
  dsimp only
  rw [if_pos (by simp [hon, hbound]), if_pos (by simpa using hlocal), touchHost_bound hbound, hport]
  rfl

/-- Settles O48: the index's checks, and the half-words of the local bus. A latched word of the time or the cycle count is left out by a
hypothesis (log entry 309). -/
theorem ringsAndRegisters : Obligations.RingsAndRegisters := by
  unfold Obligations.RingsAndRegisters
  refine ⟨fun h o prod n items r => .of ?prod, fun h o prod n items r => .of ?badProd, fun h o cons n r => .of ?cons,
    fun h o cons r => .of ?badCons, fun cs off => .of ?shared, fun cs off h => .of ?bound, fun h off v cs => .of ?low,
    fun h off v cs => .of ?high⟩
  case prod =>
    rintro dt s u hu ⟨hon, hp, hr, hsource, hn, hspan, hroom⟩
    subst hn
    exact ⟨_, (exec_ringProdWrite hu hon hp hr hsource).trans (if_neg (by simp; omega)), rfl⟩
  case badProd =>
    rintro dt s u hu ⟨hon, hp, hr, hsource, hn, hbad⟩
    subst hn
    exact ⟨_, (exec_ringProdWrite hu hon hp hr hsource).trans (if_pos (by simpa using hbad)), rfl⟩
  case cons =>
    rintro dt s u hu ⟨hon, hp, hr, hsource, hn, hfill, hheld⟩
    subst hn
    refine ⟨_, (exec_ringConsWrite hu hon hp hr hsource).trans (if_neg (Nat.not_lt.mpr hfill)), ?_⟩
    have hnone : ((setRing { r with cons := w32 cons, items := r.items.drop ((cons + 0x100000000 - r.cons) % 0x100000000) }
        (u.setHost h { u.host h with online := true })).host h) = { u.host h with online := true } := host_setHost_self
    rw [pushHeld_none (by rw [hnone]; exact hheld), host_setHost_self, hnone]
    exact ⟨rfl, rfl, rfl⟩
  case badCons =>
    rintro dt s u hu ⟨hon, hp, hr, hsource, hbad⟩
    exact ⟨_, (exec_ringConsWrite hu hon hp hr hsource).trans (if_pos hbad), rfl⟩
  case shared =>
    rintro dt s u hu ⟨hon, hnone⟩
    refine ⟨_, ?_, rfl⟩
    show execCollarHalfwordRead dt cs off s = _
    unfold execCollarHalfwordRead
    rw [hu]
    dsimp only
    rw [if_pos hon, List.find?_eq_none.mpr fun k _ => by simpa using hnone k]
  case bound =>
    rintro dt s u hu ⟨hon, hfind, htime, hmains⟩
    refine ⟨_, ?_, rfl⟩
    show execCollarHalfwordRead dt cs off s = _
    unfold execCollarHalfwordRead
    rw [hu]
    dsimp only
    rw [if_pos hon, hfind]
    dsimp only
    rw [if_neg htime, if_neg hmains]
  case low =>
    rintro dt s u hu ⟨hon, hp⟩
    exact ⟨_, exec_registerWrite_half hu hon hp, rfl⟩
  case high =>
    rintro dt s u hu ⟨hon, hp⟩
    exact ⟨_, exec_registerWrite_half hu hon hp, rfl⟩

end Sys2Proof.Machine
end

section
/-! PROOFS. The statements of control: firmware staging and the recovery ROM. -/

namespace Sys2Proof.Machine

open Host (Outcome)

/-! ### Staging (R707–R713, R717–R722) -/

theorem fwuBusy_false {u : State} {n : Nat} (hjob : u.fwu.job = none) (hother : othersStaging u n = false) : fwuBusy u n = false := by
  simp [fwuBusy, hjob, hother]

/-- FWU_BEGIN of a header that every check passes, without RESUME (R707, R708). -/
theorem fwuBegin_accepts {n : Nat} {tk : Taken} {u : State} {hd : List Byte} (hjob : u.fwu.job = none) (hother : othersStaging u n = false)
    (hhd : hd = (tk.payload.drop 8).take 256) (hflags : fld tk.payload 0 1 = 0) (hform : imgForm hd = true) (hbind : imgBinding u hd = true)
    (hfloor : u.fwu.floor ≤ imgSvn hd) (hfits : imgSize hd ≤ slotBytes u) (hwhole : isDelta hd = false) :
    fwuBegin n tk u = (u.onFwu fun f => { f with staging := 1, header := hd, pieces := [], owner := some n, copying := none, stagedDigest := 0
                                                 job := some { host := n, taken := tk } }, answer .pending) := by
  subst hhd
  unfold fwuBegin
  dsimp only
  rw [if_neg (by simp [fwuBusy_false hjob hother]), if_neg (by simp [hflags, hform]), if_neg (by simp [hbind]), if_neg (Nat.not_lt.mpr hfloor),
    if_neg (Nat.not_lt.mpr hfits), if_neg (by simp [hwhole]), hflags]
  rfl

/-- A granule of a piece goes into the piece map, unless there is none or it is held (R709). -/
def putGranule (off : Nat) (piece : List Byte) (l : List (Nat × List Byte)) (k : Nat) : List (Nat × List Byte) :=
  if ((piece.drop (1024 * k)).take 1024).isEmpty || (tfind l (off / 1024 + k)).isSome then l
  else tput l (off / 1024 + k) ((piece.drop (1024 * k)).take 1024)

theorem putGranule_none {off k : Nat} {piece : List Byte} (l : List (Nat × List Byte)) (hk : piece.length ≤ 1024 * k) :
    putGranule off piece l k = l :=
  if_pos (by simp [List.drop_eq_nil_of_le hk])

theorem putGranule_first {off : Nat} {piece : List Byte} {l : List (Nat × List Byte)} (hne : piece ≠ []) (hlen : piece.length ≤ 1024)
    (hnew : tfind l (off / 1024) = none) : putGranule off piece l 0 = tput l (off / 1024) piece := by
  simp [putGranule, List.take_of_length_le hlen, hne, hnew]

theorem putGranules_one {off : Nat} {piece : List Byte} {l : List (Nat × List Byte)} (hne : piece ≠ []) (hlen : piece.length ≤ 1024)
    (hnew : tfind l (off / 1024) = none) : [0, 1, 2].foldl (putGranule off piece) l = tput l (off / 1024) piece := by
  rw [List.foldl_cons, List.foldl_cons, List.foldl_cons, List.foldl_nil, putGranule_first hne hlen hnew, putGranule_none _ (by omega),
    putGranule_none _ (by omega)]

/-- FWU_LOAD of one granule that is not held yet (R709). -/
theorem fwuLoad_stores {n : Nat} {tk : Taken} {u : State} {piece : List Byte} (hjob : u.fwu.job = none) (hother : othersStaging u n = false)
    (hstaging : u.fwu.staging = 1) (hpiece : piece = tk.payload.drop 8) (hne : piece ≠ []) (hlen : piece.length ≤ 1024)
    (halign : fld tk.payload 0 4 % 1024 = 0) (hplace : piece.length = 1024 ∧ fld tk.payload 0 4 + piece.length ≤ imgSize u.fwu.header ∨
      fld tk.payload 0 4 + piece.length = imgSize u.fwu.header) (hnew : tfind u.fwu.pieces (fld tk.payload 0 4 / 1024) = none) :
    fwuLoad n tk u = (u.onFwu fun f => { f with pieces := tput f.pieces (fld tk.payload 0 4 / 1024) piece },
      okWith (leBytes 4 (tput u.fwu.pieces (fld tk.payload 0 4 / 1024) piece).length ++ leBytes 4 0)) := by
  subst hpiece
  unfold fwuLoad
  dsimp only
  rw [if_neg (by simp [fwuBusy_false hjob hother]), if_neg (by simp [hstaging]), if_neg]
  · show (u.onFwu fun f => { f with pieces := [0, 1, 2].foldl (putGranule (fld tk.payload 0 4) (tk.payload.drop 8)) f.pieces },
      okWith (leBytes 4 ([0, 1, 2].foldl (putGranule (fld tk.payload 0 4) (tk.payload.drop 8)) u.fwu.pieces).length ++ leBytes 4 0)) = _
    unfold State.onFwu
    dsimp only
    rw [putGranules_one hne hlen hnew]
  · simp only [Bool.or_eq_true, Bool.and_eq_true, decide_eq_true_eq, List.isEmpty_iff, ne_eq, not_or, not_and, Classical.not_not, Nat.not_lt]
    exact ⟨⟨⟨⟨hne, by omega⟩, halign⟩, by omega⟩, by omega⟩

theorem fwuEnd_fwu (j : FwuJob) (r : Reply) (u : State) : ∃ l, (fwuEnd j r u).fwu = { u.fwu with job := none, otherOut := l } := by
  unfold fwuEnd
  split
  · exact ⟨_, finishAt_only (bs := [.hosts]) (by decide) (Only.refl _ _) .fwu (by decide)⟩
  · exact ⟨_, rfl⟩

theorem fwuEnd_pwr (j : FwuJob) (r : Reply) (u : State) : (fwuEnd j r u).pwr = u.pwr :=
  fwuEnd_only (bs := [.hosts, .fwu]) (by decide) (Only.refl _ _) .pwr (by decide)

/-- FWU_FINISH_COMPLETE of a staging that waits for its verdict: one that is not accepted is rejected (R712, R713). -/
theorem exec_fwuFinishComplete_rejects {dt : Nat} {sigOk resOk : Bool} {s u : State} {j : FwuJob} {v : Status} (hu : tick dt s = u)
    (hrun : fwuRuns u = true) (hjob : u.fwu.job = some j) (hfinish : j.finish = true) (hstaging : u.fwu.staging = 2)
    (hv : finishVerdict u sigOk = v) (hne : v ≠ .ok) :
    exec (.fwuFinishComplete dt sigOk resOk) s = .next (fwuEnd j (answer v) (u.onFwu fun f => { f with staging := 5 })) := by
  show execFwuFinishComplete dt sigOk resOk s = _
  unfold execFwuFinishComplete
  rw [hu]
  dsimp only
  rw [hjob]
  dsimp only
  rw [if_neg (by simp [hstaging]), if_pos (by simp [hrun, hfinish]), hv, if_neg hne]

/-- The staging that FWU_FINISH_COMPLETE makes ready (R713). -/
def readied (u : State) : State := u.onFwu fun f => { f with staging := 3, stagedDigest := Config.sha256 (stagedBytes u) }

/-- FWU_FINISH_COMPLETE of an accepted staging of a unit that runs, without a key for the restart (R713). -/
theorem exec_fwuFinishComplete_readies {dt : Nat} {sigOk resOk : Bool} {s u : State} {j : FwuJob} (hu : tick dt s = u)
    (hrunning : u.pwr.stage = .running) (hrun : supRuns u = true) (hjob : u.fwu.job = some j) (hfinish : j.finish = true)
    (hkey : j.restartKey = 0) (hstaging : u.fwu.staging = 2) (hv : finishVerdict u sigOk = .ok) :
    exec (.fwuFinishComplete dt sigOk resOk) s = .next (fwuEnd j (answer .ok) (readied u)) := by
  have hplace : placeRestart j u = .ok u := if_pos (by simp [hkey])
  have hstage : (fwuEnd j (answer .ok) (readied u)).pwr.stage = .running := by
    rw [fwuEnd_pwr]
    exact hrunning
  show execFwuFinishComplete dt sigOk resOk s = _
  unfold execFwuFinishComplete
  rw [hu]
  dsimp only
  rw [hjob]
  dsimp only
  rw [if_neg (by simp [hstaging]), if_pos (by simp [fwuRuns, hrun, hfinish]), if_pos hv, hplace]
  exact if_neg (by show ¬ ((fwuEnd j (answer .ok) (readied u)).pwr.stage == .recovery) = true; rw [hstage]; decide)

/-! ### The recovery ROM (R700, R718) -/

/-- RECOVERY_FRAME from a source that the ROM knows, with a header in its form: the command's checks decide (R718). -/
theorem exec_recoveryFrame {dt source : Nat} {hdr : CmdHeader} {payload : List Byte} {s u : State} (hu : tick dt s = u)
    (hstage : u.pwr.stage = .recovery) (hflag : u.pwr.hemFlag = false) (hlen : hdr.length ≤ 4080) (hflags : hdr.flags ≤ 1)
    (hsource : source ∈ u.fwu.sources) :
    exec (.recoveryFrame dt source false hdr payload) s = match checkCommand u (takenOf hdr payload) with
      | .fail st => .next (answerOther (17 + u.fwu.sources.findIdx (· == source)) (takenOf hdr payload) (answer st) u)
      | _ => .next (runOther (17 + u.fwu.sources.findIdx (· == source)) (takenOf hdr payload) romRun u) := by
  have hhost : sourceHost source u = (17 + u.fwu.sources.findIdx (· == source), u) := by
    unfold sourceHost
    rw [if_pos (by simpa using hsource)]
  show execRecoveryFrame dt source false hdr payload s = _
  unfold execRecoveryFrame
  rw [hu]
  dsimp only
  rw [if_pos (by simp [hstage, hflag]), hhost]
  dsimp only
  rw [if_neg (by simp; omega)] <;> rfl

/-- Settles O50: the checks of each command and job in their order and what the branch changes. The ROM's checks CK4 to CK6, those of the
header, its BADARG cases and FWU_FINISH's are the model's (log entries 368, 271 to 275, 413 and 432). -/
theorem firmwareUpdate : Obligations.FirmwareUpdate := by
  unfold Obligations.FirmwareUpdate
  refine ⟨fun hd => ?begins, fun piece => ?loads, ?finishes, ?floor, .of (fun _ _ _ => rfl) fun h tk u _ => ⟨_, rfl, by simp, by simp⟩,
    fun j => .of ?begun, fun sigOk resOk j v => .of ?rejected, fun sigOk resOk j => .of ?ready, fun source n hdr payload => .of ?locked,
    fun source n hdr payload tk => .of ?rom⟩
  case begins =>
    refine .of (f := fun h => fwuBegin h.val) (fun _ _ _ => rfl)
      fun h tk u _ ⟨hjob, hother, hhd, hflags, hform, hbind, hfloor, hfits, hwhole, hroom⟩ => ?_
    exact ⟨_, _, fwuBegin_accepts hjob hother hhd hflags hform hbind hfloor hfits hwhole, ⟨rfl, rfl⟩, .inr hroom⟩
  case loads =>
    refine .of (f := fun h => fwuLoad h.val) (fun _ _ _ => rfl)
      fun h tk u _ ⟨hjob, hother, hstaging, hpiece, hne, hlen, halign, hplace, hnew⟩ => ?_
    exact ⟨_, _, fwuLoad_stores hjob hother hstaging hpiece hne hlen halign hplace hnew, ⟨rfl, rfl⟩, .inl (by simp [okWith])⟩
  case finishes =>
    refine .of (f := fun h => fwuFinish h.val) (fun _ _ _ => rfl) fun h tk u _ ⟨hjob, hother, hstaging, hwhole, hroom⟩ => ?_
    exact ⟨_, _, (if_neg (by simp [fwuBusy_false hjob hother])).trans (if_neg (by simp [hstaging, hwhole])), ⟨rfl, rfl⟩, .inr hroom⟩
  case floor =>
    exact .of (fun _ _ _ => rfl) fun h tk u _ ⟨hsvn, hlimit, hword, hconfirmed, hup⟩ =>
      ⟨_, _, (if_neg (by simp [hword, hconfirmed]; omega)).trans (if_neg (Nat.not_le.mpr hup)), ⟨rfl, rfl⟩, .inl (by simp [okWith])⟩
  case begun =>
    rintro dt s u hu ⟨hrun, hjob, hfinish⟩
    obtain ⟨l, e⟩ := fwuEnd_fwu j (okWith (leBytes 4 u.fwu.pieces.length ++ leBytes 4 (granules u))) u
    refine ⟨_, ?_, rfl, by rw [e], by rw [e]⟩
    show execFwuBeginComplete dt s = _
    unfold execFwuBeginComplete
    rw [hu]
    dsimp only
    rw [hjob]
    exact if_pos (by simp [hrun, hfinish])
  case rejected =>
    rintro dt s u hu ⟨hrun, hjob, hfinish, hstaging, hv, hne⟩
    obtain ⟨l, e⟩ := fwuEnd_fwu j (answer v) (u.onFwu fun f => { f with staging := 5 })
    exact ⟨_, exec_fwuFinishComplete_rejects hu hrun hjob hfinish hstaging hv hne, rfl, by rw [e]; rfl, by rw [e]⟩
  case ready =>
    rintro dt s u hu ⟨hrunning, hrun, hjob, hfinish, hkey, hstaging, hv⟩
    obtain ⟨l, e⟩ := fwuEnd_fwu j (answer .ok) (readied u)
    exact ⟨_, exec_fwuFinishComplete_readies hu hrunning hrun hjob hfinish hkey hstaging hv, by rw [e]; rfl, by rw [e], by rw [e]; rfl,
      by rw [e]; rfl⟩
  case locked =>
    rintro dt s u hu ⟨hstage, hflag, hlen, hflags, hrom, hsource, hn⟩
    subst hn
    refine ⟨_, (exec_recoveryFrame hu hstage hflag hlen hflags hsource).trans ?_, rfl⟩
    have hcheck : checkCommand u (takenOf hdr payload) = .fail .locked := if_pos (by simp [hstage, takenOf, hrom])
    rw [hcheck]
  case rom =>
    rintro dt s u hu ⟨hstage, hflag, hlen, hflags, hsource, hn, hpass⟩
    subst hn
    refine ⟨_, (exec_recoveryFrame hu hstage hflag hlen hflags hsource).trans ?_, rfl⟩
    rw [hpass]

end Sys2Proof.Machine
end

section
/-! PROOFS. The statements of control: entering and leaving Doze and Hold, Trim and Re-arms. -/

namespace Sys2Proof.Machine

open Host (Outcome)

/-! ### Entries (R803–R808) -/

/-- Whether the unit is in Run or Trim. -/
def awakeIn : PowerState → Bool
  | .run | .trim => true
  | .doze | .hold => false

theorem awakeIn_of {p : PowerState} (h : p = .run ∨ p = .trim) : awakeIn p = true := by
  rcases h with rfl | rfl <;> rfl

/-- POWER_STATE_ENTRY of a unit that runs with no entry committed: the refusers decide (R805, R806). -/
theorem exec_powerStateEntry {dt target : Nat} {commit : Bool} {s u : State} (hu : tick dt s = u) (hrun : u.pwr.stage = .running)
    (hhem : u.pwr.hemFlag = false) (hawake : u.pwr.state = .run ∨ u.pwr.state = .trim)
    (htarget : target = 3 ∨ target = 2 ∧ mayChoose u 3 = false) (hcommitted : u.pwr.committed = false) :
    exec (.powerStateEntry dt target commit) s = match refuser u target with
      | some w => .next (refuseEntry target w u)
      | none => .next (if commit then commitEntry target u else u.onPwr fun p => { p with target := target, entering := true }) := by
  have hdeep : (target = 3 || target = 2 && !mayChoose u 3) = true := by
    rcases htarget with rfl | ⟨rfl, h⟩
    · rfl
    · simp [h]
  show execPowerStateEntry dt target commit s = _
  unfold execPowerStateEntry
  rw [hu]
  exact if_pos (by
    show (u.pwr.stage == .running && !u.pwr.hemFlag && awakeIn u.pwr.state && _ && !u.pwr.committed) = true
    rw [hdeep, awakeIn_of hawake, hrun, hhem, hcommitted]
    rfl)

/-- What PWR_ALLOW forbids the firmware refuses (RF1 of R806). -/
theorem refuser_forbidden {u : State} {target : Nat} (h : u.cfg.act.allow.getLsbD (target - 1) = false) : refuser u target = some 3 :=
  if_pos (by simp [firmwareRefuses, h])

theorem commitEntry_doze (u : State) :
    commitEntry 2 u = beginTransit .power false (ofUs 1000) (u.onPwr fun p => { p with target := 2, entering := true, committed := true }) :=
  rfl

theorem commitEntry_pwr (target : Nat) (u : State) : (commitEntry target u).pwr.committed = true ∧ (commitEntry target u).pwr.target = target := by
  unfold commitEntry
  exact ⟨rfl, rfl⟩

/-! ### Wakes (R805, R811, R812) -/

/-- An entry in its check phase that a wake source has ended (R805). -/
def abortEntry (source : Nat) (u : State) : State :=
  setSticky 0x07C 0x40 (u.onPwr fun p =>
    { p with entering := false, wakeReq := false, bell := none, lastRefuser := abortName source,
             aborted := bumpAt p.aborted (4 * (p.target - 1) + abortName source) })

theorem exec_wake {dt source : Nat} {s u : State} (hu : tick dt s = u) (hrun : u.pwr.stage = .running) (hhem : u.pwr.hemFlag = false) :
    exec (.wake dt source) s = if u.pwr.committed then .next (armRequest .power true .run (fun s => s) u).1
      else if u.pwr.entering then .next (abortEntry source u)
      else match u.pwr.state with
        | .doze | .hold => .next (if (transitOf u .power).isNone && wakes u source then beginExit u else u)
        | .run | .trim => .next u := by
  show execWake dt source s = _
  unfold execWake
  rw [hu]
  exact if_pos (by simp [hrun, hhem])

theorem beginExit_doze {u : State} (h : u.pwr.state = .doze) :
    beginExit u = beginTransit .power true (ofUs 3000) (u.onPwr fun p => { p with wakeReq := false, bell := none }) := by
  unfold beginExit
  rw [h]
  rfl

/-- A request against a transition in the other direction is held by it (R812). -/
theorem armRequest_opposed {fn : ArmFn} {enable : Bool} {req : ArmReq} {now : State → State} {u : State} {x : Transit}
    (hx : transitOf u fn = some x) (hup : x.up ≠ enable) :
    (armRequest fn enable req now u).1 = u.onPwr fun p =>
      { p with transits := p.transits.map (fun y => if y.fn == fn then { y with rearm := some req } else y), rearms := inc32
                 p.rearms, rearmSuperseded := if x.rearm.isSome then inc32 p.rearmSuperseded else p.rearmSuperseded } := by
  unfold armRequest
  rw [hx]
  dsimp only
  rw [if_pos (by simpa using hup)]

/-! ### Trim (R804) -/

theorem trimState_gated {u : State} (hawake : u.pwr.state = .run ∨ u.pwr.state = .trim) :
    trimState u = u.onPwr fun p => { p with state := if p.gated = 0 then .run else .trim } := by
  unfold trimState State.onPwr
  dsimp only
  rcases hawake with h | h <;> rw [h]

/-- The state in which CLUSTER_GATE has gated its cluster, the first one (R804). -/
def gateFirst (n : Nat) (u : State) : State :=
  beginTransit (.cluster n) false (ofUs 2) (u.onPwr fun p =>
    { p with gated := p.gated ||| BitVec.ofNat 4 (2 ^ n), target := 1, entries := bumpAt p.entries 0 })

theorem exec_clusterGate {dt : Nat} {n : Fin 4} {s u : State} (hu : tick dt s = u) (hrun : u.pwr.stage = .running)
    (hawake : u.pwr.state = .run ∨ u.pwr.state = .trim) (hallow : u.cfg.act.allow.getLsbD 0 = true)
    (hgated : u.pwr.gated.getLsbD n.val = false) (hidle : clusterIdle u n.val = true) (hno : transitOf u (.cluster n.val) = none) :
    exec (.clusterGate dt n) s = .next (trimState (gateFirst n.val u)) := by
  show execClusterGate dt n s = _
  unfold execClusterGate
  rw [hu]
  refine if_pos ?_
  rw [hallow, hgated, hidle, hno]
  rcases hawake with h | h <;> simp [hrun, h]

theorem exec_clusterUngate {dt : Nat} {n : Fin 4} {s u : State} (hu : tick dt s = u) (hrun : u.pwr.stage = .running)
    (hgated : u.pwr.gated.getLsbD n.val = true) (hidle : transitOf u (.cluster n.val) = none) :
    exec (.clusterUngate dt n) s = .next (ungate n.val u) := by
  show execClusterUngate dt n s = _
  unfold execClusterUngate
  rw [hu]
  dsimp only
  rw [armRequest_idle hidle, hgated]
  exact if_pos (by simp [hrun])

theorem releaseHeld_none {u : State} (h : u.fab.heldWords = []) : releaseHeld u = u.onFab fun f => { f with heldWords := [] } := by
  unfold releaseHeld
  rw [h]
  rfl

theorem oneCluster_gated (n : Fin 4) : (BitVec.ofNat 4 (2 ^ n.val)).getLsbD n.val = true ∧ BitVec.ofNat 4 (2 ^ n.val) ≠ 0#4 ∧
    BitVec.ofNat 4 (2 ^ n.val) &&& ~~~(BitVec.ofNat 4 (2 ^ n.val)) = 0#4 := by
  revert n
  decide

/-- The last gated cluster that runs again takes the unit from Trim to Run (R804). -/
theorem ungate_last {n : Fin 4} {u : State} (htrim : u.pwr.state = .trim) (hgated : u.pwr.gated = BitVec.ofNat 4 (2 ^ n.val))
    (hheld : u.fab.heldWords = []) : (ungate n.val u).pwr = { u.pwr with state := .run, gated := 0 } := by
  have hfree : u.pwr.gated &&& ~~~(BitVec.ofNat 4 (2 ^ n.val)) = 0#4 := by
    rw [hgated]
    exact (oneCluster_gated n).2.2
  have hone : trimState (u.onPwr fun p => { p with gated := p.gated &&& ~~~(BitVec.ofNat 4 (2 ^ n.val)) })
      = u.onPwr fun p => { p with state := .run, gated := 0 } := by
    refine (trimState_gated (.inr ?_)).trans ?_
    · exact htrim
    unfold State.onPwr
    dsimp only
    rw [hfree]
    rfl
  have htaken := takeQ1_only (bs := [.hosts, .mains, .sched, .fab, .evt, .rad, .link, .plc, .sess, .arch, .upl, .pair, .reg]) (by decide)
    (takeQ9_only (by decide) (Only.refl _ ((u.onPwr fun p => { p with state := .run, gated := 0 }).onFab fun f => { f with heldWords := [] })))
  unfold ungate
  rw [hone, releaseHeld_none]
  · exact htaken .pwr (by decide)
  · exact hheld

/-! ### Re-arms (R812, R813) -/

/-- The Re-arm that a transition held executes once it has ended (R812). -/
def rearmAfter (t : Transit) (u : State) : State :=
  match t.rearm with
  | some r => execRearm t.fn r u
  | none => u

/-- REARM_EXECUTE of a unit with one transition, which has ended (R812). -/
theorem exec_rearmExecute_one {dt : Nat} {s u : State} {t : Transit} (hu : tick dt s = u) (hrun : u.pwr.stage = .running)
    (hone : u.pwr.transits = [t]) (hended : t.endRc ≤ u.rc) :
    exec (.rearmExecute dt) s = .next (rearmAfter t (transitDone t (u.onPwr fun p => { p with transits := [] }))) := by
  have hfind : u.pwr.transits.find? (fun t => decide (t.endRc ≤ u.rc)) = some t := by simp [hone, hended]
  have hrest : (u.onPwr fun p => { p with transits := p.transits.filter fun x => x.fn != t.fn }) = u.onPwr fun p => { p with transits := [] } := by
    unfold State.onPwr
    simp [hone]
  show execRearmExecute dt s = _
  unfold execRearmExecute
  rw [hu]
  dsimp only
  rw [if_pos (by simp [hrun]), hfind]
  exact congrArg (fun v => Outcome.next (rearmAfter t (transitDone t v))) hrest

theorem enterState_doze (u : State) : enterState 2 u = (radiosOff u).onPwr fun p =>
    { p with state := .doze, entering := false, committed := false, gated := 0, entries := bumpAt p.entries 1 } := rfl

theorem radiosOff_off (u : State) : ∀ x ∈ (radiosOff u).rad.fes, x.ready = false := by
  simp [radiosOff, State.onRad]

/-- Settles O55: each operation's guard and what the branch changes. The numbers of the wake sources, what takes effect when a Re-arm
executes, Trim's count and an entry of a shallower state are the model's (log entries 366, 342, 365 and 463). -/
theorem powerStates : Obligations.PowerStates := by
  unfold Obligations.PowerStates
  refine ⟨fun target commit => .of ?forbidden, .of ?commitsDoze, .of ?commitsHold, fun commit => .of ?deeper, fun target => .of ?checks,
    fun source => .of ?aborts, fun source => .of ?wakesDoze, fun source => .of ?sleepsOn, fun source x => .of ?armed,
    fun n => .of ?gates, fun n => .of ?ungates, fun n => .of ?runsAgain, fun d => .of ?entered, fun n d => .of ?rearmed⟩
  case forbidden =>
    rintro dt s u hu ⟨hrun, hhem, hawake, htarget, hcommitted, hforbidden⟩
    refine ⟨_, ?_, rfl⟩
    rw [exec_powerStateEntry hu hrun hhem hawake htarget hcommitted, refuser_forbidden hforbidden]
    rfl
  case commitsDoze =>
    rintro dt s u hu ⟨hrun, hhem, hawake, hcommitted, hdeeper, hnone⟩
    refine ⟨commitEntry 2 u, ?_, rfl, rfl, rfl, transitOf_begin⟩
    rw [exec_powerStateEntry hu hrun hhem hawake (.inr ⟨rfl, hdeeper⟩) hcommitted, hnone]
    rfl
  case commitsHold =>
    rintro dt s u hu ⟨hrun, hhem, hawake, hcommitted, hnone⟩
    refine ⟨commitEntry 3 u, ?_, (commitEntry_pwr 3 u).1, (commitEntry_pwr 3 u).2, rfl⟩
    rw [exec_powerStateEntry hu hrun hhem hawake (.inl rfl) hcommitted, hnone]
    rfl
  case deeper =>
    rintro dt s u hu hdeeper
    refine ⟨_, ?_, rfl⟩
    show execPowerStateEntry dt 2 commit s = _
    unfold execPowerStateEntry
    rw [hu]
    exact if_neg (by simp [hdeeper])
  case checks =>
    rintro dt s u hu ⟨hrun, hhem, hawake, hcommitted, htarget, hnone⟩
    refine ⟨_, ?_, rfl⟩
    rw [exec_powerStateEntry hu hrun hhem hawake htarget hcommitted, hnone]
    rfl
  case aborts =>
    rintro dt s u hu ⟨hrun, hhem, hcommitted, hentering⟩
    refine ⟨abortEntry source u, ?_, rfl, rfl, rfl, rfl⟩
    rw [exec_wake hu hrun hhem, hcommitted, hentering]
    rfl
  case wakesDoze =>
    rintro dt s u hu ⟨hrun, hhem, hcommitted, hentering, hdoze, hidle, hwakes⟩
    refine ⟨beginTransit .power true (ofUs 3000) (u.onPwr fun p => { p with wakeReq := false, bell := none }), ?_, hdoze, rfl, rfl,
      transitOf_begin⟩
    rw [exec_wake hu hrun hhem, hcommitted, hentering, hdoze, hidle, hwakes, beginExit_doze hdoze]
    rfl
  case sleepsOn =>
    rintro dt s u hu ⟨hrun, hhem, hcommitted, hentering, hhold, hidle, hsource⟩
    have hdeaf : wakes u source = false := by rcases hsource with rfl | rfl <;> simp [wakes, hhold]
    refine ⟨_, ?_, rfl⟩
    rw [exec_wake hu hrun hhem, hcommitted, hentering, hhold, hidle, hdeaf]
    rfl
  case armed =>
    rintro dt s u hu ⟨hrun, hhem, hcommitted, hx, hdown⟩
    refine ⟨_, ?_, rfl⟩
    rw [exec_wake hu hrun hhem, hcommitted, if_pos rfl, armRequest_opposed hx (by simp [hdown])]
  case gates =>
    rintro dt s u hu ⟨hrun, hawake, hallow, hgated, hidle, hno⟩
    have hfirst : (gateFirst n.val u).pwr.gated = BitVec.ofNat 4 (2 ^ n.val) := by
      show u.pwr.gated ||| BitVec.ofNat 4 (2 ^ n.val) = _
      rw [hgated]
      exact BitVec.zero_or
    refine ⟨_, exec_clusterGate hu hrun hawake hallow (by simp [hgated]) hidle hno, ?_⟩
    rw [trimState_gated (u := gateFirst n.val u) hawake]
    exact ⟨if_neg (by rw [hfirst]; exact (oneCluster_gated n).2.1), hfirst, rfl, transitOf_begin⟩
  case ungates =>
    rintro dt s u hu ⟨hrun, hgated, hidle⟩
    exact ⟨_, exec_clusterUngate hu hrun hgated hidle, rfl⟩
  case runsAgain =>
    rintro dt s u hu ⟨hrun, htrim, hgated, hidle, hheld⟩
    refine ⟨_, exec_clusterUngate hu hrun (by rw [hgated]; exact (oneCluster_gated n).1) hidle, ?_⟩
    rw [ungate_last htrim hgated hheld]
    exact ⟨rfl, rfl⟩
  case entered =>
    rintro dt s u hu ⟨hrun, hone, hended, htarget⟩
    refine ⟨_, exec_rearmExecute_one hu hrun hone hended, ?_⟩
    have hdone : transitDone { fn := .power, up := false, endRc := d } (u.onPwr fun p => { p with transits := [] })
        = enterState 2 (u.onPwr fun p => { p with transits := [] }) := congrArg (enterState · _) htarget
    show (transitDone { fn := .power, up := false, endRc := d } _).pwr.state = _ ∧ _
    rw [hdone, enterState_doze]
    exact ⟨rfl, rfl, rfl, rfl, rfl, rfl, radiosOff_off _⟩
  case rearmed =>
    rintro dt s u hu ⟨hrun, hone, hended⟩
    exact ⟨_, exec_rearmExecute_one hu hrun hone hended, rfl⟩

end Sys2Proof.Machine
end

section
/-! PROOFS. The statements of control: heartbeats, misses, listening, the lane and a planned handover. -/

namespace Sys2Proof.Machine

open Host (Outcome)

/-! ### Heartbeats sent and received (R727–R730) -/

/-- A heartbeat by pin shows what of the state a dispatched entry and its successor leave (R727). -/
theorem heartbeatOf_pin {u z : State} {handover : Bool} (hpair : z.pair = u.pair) (hhem : z.sched.hemKey = u.sched.hemKey)
    (hcfg : z.cfg = u.cfg) (hpwr : z.pwr = u.pwr) (hmains : z.mains = u.mains) : heartbeatOf z false handover = heartbeatOf u false handover := by
  unfold heartbeatOf pairCfg
  rw [hpair, hhem, hcfg, hpwr, hmains]
  rfl

theorem handoverDue_of {u z : State} (hpair : z.pair = u.pair) (hmains : z.mains = u.mains) : handoverDue z = handoverDue u := by
  unfold handoverDue
  rw [hpair, hmains]

theorem resyncDone_of {u z : State} (hpair : z.pair = u.pair) (hsess : z.sess = u.sess) : resyncDone z = resyncDone u := by
  unfold resyncDone
  rw [hpair, hsess]

/-- HEARTBEAT_SEND of a unit that neither mirrors nor hands over: its entry, the next one, and a heartbeat (R727, R729). -/
theorem exec_heartbeatSend {dt : Nat} {s u : State} {e : SchedEntry} (hu : tick dt s = u) (hon : pairOn u = true) (halive : pairAlive u = true)
    (hdue : nextDue u = some e) (hbeat : e.action = .heartbeat) (hresync : resyncDone u = false) (hhand : handoverDue u = false)
    (hidle : u.pair.state ≠ .active ∨ u.pair.mirroring = false) :
    ∃ z, exec (.heartbeatSend dt) s = .next (sendHeartbeat false z) ∧ z.pair = u.pair ∧ heartbeatOf z false false = heartbeatOf u false false := by
  obtain ⟨z, hz, hpair, hsched⟩ := dispatch_some (p := fun a => a == .heartbeat) hdue (by simp [hbeat])
  have hzpair : z.pair = u.pair := hpair.trans (dropEntries_idle hidle)
  have hzonly : Only [.hosts, .sched, .evt, .pair] u z := dispatch_only (by decide) (Only.refl _ _) _ _ hz
  have hidle' : z.pair.state ≠ .active ∨ z.pair.mirroring = false := by rwa [hzpair]
  obtain ⟨y, hy⟩ : ∃ y, y = placeOr { cls := 1, action := .heartbeat, key := mkKey (z.mains.cycle + 1) (e.key % 65536) } z := ⟨_, rfl⟩
  have hypair : y.pair = u.pair := by rw [hy, placeOr_idle hidle', hzpair]
  have hyonly : Only [.hosts, .sched, .evt, .pair] u y := hy ▸ placeOr_only (by decide) hzonly
  have hhem : y.sched.hemKey = u.sched.hemKey := by rw [hy, placeOr_sched, hsched]
  have hyresync : resyncDone y = false := (resyncDone_of hypair (hyonly .sess (by decide))).trans hresync
  have hyhand : handoverDue y = false := (handoverDue_of hypair (hyonly .mains (by decide))).trans hhand
  refine ⟨y, ?_, hypair, heartbeatOf_pin hypair hhem (hyonly .cfg (by decide)) (hyonly .pwr (by decide)) (hyonly .mains (by decide))⟩
  show execHeartbeatSend dt s = _
  unfold execHeartbeatSend
  rw [hu]
  dsimp only
  rw [if_pos (by simp [hon, halive]), hz]
  dsimp only
  rw [← hy, hyresync, if_neg Bool.false_ne_true, hyhand]
  rfl

/-- A lane message that does not verify is counted and discarded (R734). -/
theorem onLane_bad {u : State} {m : LaneMsg} {x : LaneSeal} {f : State → State} (hon : pairOn u = true) (hrun : u.pwr.stage = .running)
    (hup : u.pair.laneUp = true) (hbad : laneVerifies u m x = false) :
    onLane m x f u = u.onPair fun p => { p with laneDiscards := inc32 p.laneDiscards } := by
  unfold onLane
  rw [if_pos (by simp [hon, hrun, hup]), if_neg (by simp [hbad])]

theorem exec_heartbeatReceive_lane {dt : Nat} {hb : HbMsg} {mark : LaneSeal} {s u : State} (hu : tick dt s = u) (hlane : hb.lane = true) :
    exec (.heartbeatReceive dt hb mark) s =
      .next (onLane (.heartbeat hb) mark (takeHeartbeat { hb with side := 1 - (pairCfg u).side }) u) := by
  show execHeartbeatReceive dt hb mark s = _
  unfold execHeartbeatReceive
  rw [hu]
  exact if_pos hlane

/-- A heartbeat by pin whose CRC is right comes from the own side, a clash, or from the other (R727, R728, R743). -/
theorem exec_heartbeatReceive_pin {dt : Nat} {hb : HbMsg} {mark : LaneSeal} {s u : State} (hu : tick dt s = u) (hon : pairOn u = true)
    (hrun : u.pwr.stage = .running) (hlane : hb.lane = false) (hcrc : hb.crc = frameCrc hb) :
    exec (.heartbeatReceive dt hb mark) s = if hb.side = (pairCfg u).side then .next (sideClash u) else .next (takeHeartbeat hb u) := by
  show execHeartbeatReceive dt hb mark s = _
  unfold execHeartbeatReceive
  rw [hu]
  exact (if_neg (by simp [hlane])).trans (if_neg (by simp [hon, hrun, ← hcrc]))

/-- What a good heartbeat notes of the other side (R728). -/
theorem noteGood_pair (hb : HbMsg) (u : State) : (noteGood hb u).pair =
    { u.pair with misses := 0, deadline := u.rc + cycleLen u * 12 / 10, lastHb := some hb, lastHbKey := u.key, partner := some hb.state
                  hbEdges := u.reg.pulses.map (·.seenEdges) } := by
  unfold noteGood
  dsimp only
  split <;> rfl

/-- A pin heartbeat that is newer than the last one is good, and Standby weighs the way back (R728, R730). -/
theorem takeHeartbeat_standby {hb : HbMsg} {u : State} (hlane : hb.lane = false) (hhem : hb.hem = false) (hhand : hb.handover = false)
    (hfresh : ∀ l, u.pair.lastHb = some l → l.cycle < hb.cycle) (hbound : pairBound u = false) (hstate : u.pair.state = .standby) :
    takeHeartbeat hb u = tryResync (noteGood hb u) := by
  have hnew : (u.pair.lastHb.isNone || decide ((u.pair.lastHb.map (·.cycle)).getD 0 < hb.cycle)) = true := by
    cases hlast : u.pair.lastHb with
    | none => rfl
    | some l => simpa using hfresh l hlast
  have hbound' : pairBound (noteGood hb u) = false := by
    unfold pairBound
    rw [noteGood_pair]
    exact hbound
  have hstate' : (noteGood hb u).pair.state = .standby := by
    rw [noteGood_pair]
    exact hstate
  unfold takeHeartbeat
  simp only [hlane, hhem, Bool.false_eq_true, if_false]
  refine (if_pos hnew).trans ?_
  unfold pairReact
  rw [if_neg (by simp [hbound']), hstate', if_neg (by decide), if_neg (by simp [hhand]), if_neg (by simp [hlane])]

/-- Where neither side leads there is nothing to resynchronise with (R739). -/
theorem tryResync_follower {u : State} {q : PairState} (hstate : u.pair.state = .standby) (hpartner : u.pair.partner = some q)
    (hq : leads q = false) :
    tryResync u = u.onPair fun p => { p with noSecret := !slotUsable u 5 || (p.laneUp && p.lastHb.isSome && !partnerSecret p) } := by
  unfold tryResync
  dsimp only
  rw [hstate, hpartner]
  exact if_neg (by simp [hq])

/-! ### Misses, the lane, and the handover (R730, R732, R739, R746, R747) -/

/-- The state after the n-th missed heartbeat (R730). -/
def missed (n : Nat) (u : State) : State := u.onPair fun p => { p with misses := n, deadline := p.deadline + cycleLen u }

theorem missed_count {n m : Nat} (u : State) (h : u.pair.misses = n) (hm : min 3 (n + 1) = m) :
    (u.onPair fun p => { p with misses := min 3 (p.misses + 1), deadline := p.deadline + cycleLen u }) = missed m u := by
  unfold missed State.onPair
  dsimp only
  rw [h, hm]

/-- HEARTBEAT_MISS of the first or second miss only counts it (R730). -/
theorem exec_heartbeatMiss_few {dt : Nat} {s u : State} {l : HbMsg} (hu : tick dt s = u) (hon : pairOn u = true)
    (hrun : u.pwr.stage = .running) (hlast : u.pair.lastHb = some l) (hdead : u.pair.deadline ≤ u.rc) (hfew : u.pair.misses < 2) :
    exec (.heartbeatMiss dt) s = .next (missed (u.pair.misses + 1) u) := by
  show execHeartbeatMiss dt s = _
  unfold execHeartbeatMiss
  rw [hu]
  dsimp only
  rw [if_pos (by simp [hon, hrun, hlast, hdead]), missed_count (m := u.pair.misses + 1) u rfl (by omega)]
  exact if_neg (by simp [Nat.ne_of_lt hfew])

/-- HEARTBEAT_MISS of the third miss: what follows is the state's (R730, R732, R739). -/
theorem exec_heartbeatMiss_third {dt : Nat} {s u : State} {l : HbMsg} (hu : tick dt s = u) (hon : pairOn u = true)
    (hrun : u.pwr.stage = .running) (hlast : u.pair.lastHb = some l) (hdead : u.pair.deadline ≤ u.rc) (htwo : u.pair.misses = 2)
    (hbound : pairBound u = false) :
    exec (.heartbeatMiss dt) s = match u.pair.state with
      | .inSync => .next (if u.pwr.hemFlag then missed 3 u else takeover (missed 3 u))
      | .active => .next (raise .takeover 0x60 [] (toPair .solo (stopMirror (missed 3 u))))
      | _ => .next (missed 3 u) := by
  have hbound' : pairBound (missed 3 u) = false := hbound
  show execHeartbeatMiss dt s = _
  unfold execHeartbeatMiss
  rw [hu]
  dsimp only
  rw [if_pos (by simp [hon, hrun, hlast, hdead]), missed_count u htwo rfl]
  exact if_pos (by simp [htwo, hbound'])

theorem exec_yokeLaneChange_lost {dt : Nat} {s u : State} (hu : tick dt s = u) (hon : pairOn u = true) (hrun : u.pwr.stage = .running) :
    exec (.yokeLaneChange dt false) s =
      (let t := u.onPair fun p => { p with laneUp := false }
       match u.pair.state with
       | .resync | .inSync => .next (toStandby false t)
       | .active => .next (stopMirror t)
       | _ => .next t) := by
  show execYokeLaneChange dt false s = _
  unfold execYokeLaneChange
  rw [hu]
  exact (if_pos (by simp [hon, hrun])).trans rfl

/-- HANDOVER at its boundary, with no forced Solo asked for (R746). -/
theorem exec_handover {dt k : Nat} {s u : State} (hu : tick dt s = u) (hon : pairOn u = true) (hrun : u.pwr.stage = .running)
    (hforce : u.pair.forceSolo = none) (hk : u.pair.handoverK = some k) (hdue : k ≤ u.mains.cycle) :
    exec (.handover dt) s = .next (nextHeartbeat (handOver u)) := by
  show execHandover dt s = _
  unfold execHandover
  rw [hu]
  dsimp only
  rw [if_neg (by simp [hon, hrun]), hforce]
  dsimp only
  rw [hk]
  exact if_pos hdue

/-- A handover whose partner is not InSync is given up. -/
theorem handOver_none {u : State} (h : u.pair.partner ≠ some .inSync) : handOver u = u.onPair fun p => { p with handoverK := none } := by
  unfold handOver
  exact if_pos (by simp [State.onPair, h])

/-- The state in which a handover has gone silent and left Active (R746). -/
def handedOver (u : State) : State :=
  toPair .inSync (stopMirror (raise .handover 0x60 [] (silence (u.onPair fun p => { p with handoverK := none }))))

theorem handedOver_pair (u : State) : ∃ a b, (handedOver u).pair =
    { u.pair with state := .inSync, handoverK := none, mirroring := false, journalOpen := false, journal := [], resyncPct := 0, insyncKey := a
                  revertReq := b } := by
  have hsilent := raise_only (bs := [.hosts, .fab, .evt, .rad, .link, .plc, .upl, .reg]) (e := .handover) (source := 0x60) (detail := [])
    (by decide) (silence_only (by decide) (Only.refl _ (u.onPair fun p => { p with handoverK := none }))) .pair (by decide)
  unfold handedOver
  rw [toPair_pair (.inl (by decide))]
  unfold stopMirror
  rw [State.onPair_pair, hsilent]
  exact ⟨_, _, rfl⟩

/-- A handover leaves InSync, with a heartbeat that carries HANDOVER (R746). -/
theorem handOver_inSync {u : State} (hstate : u.pair.state = .active) (hpartner : u.pair.partner = some .inSync) :
    ∃ b : HbMsg, ((handOver u).pair.state = .inSync ∧ (handOver u).pair.handoverK = none ∧ (handOver u).pair.pinOut = u.pair.pinOut ++ [b]) ∧
      b.handover = true ∧ b.state = .inSync := by
  obtain ⟨a, c, hpair⟩ := handedOver_pair u
  have hall : handOver u = (sendHeartbeat true (handedOver u)).onPair fun p => { p with rxJseq := none, snapEndSeen := some p.jseq } := by
    unfold handOver
    exact if_neg (by simp [State.onPair, hstate, hpartner])
  refine ⟨heartbeatOf (handedOver u) false true, ?_, rfl, ?_⟩
  · rw [hall, State.onPair_pair, sendHeartbeat_pair, hpair]
    exact ⟨rfl, rfl, rfl⟩
  · show (handedOver u).pair.state = _
    rw [hpair]

/-- Settles O51: each operation's guard and what the branch changes. The event of a takeover without detail, a handover that is given up and a
forced Solo are the model's (log entries 290, 461 and 284). -/
theorem heartbeats : Obligations.Heartbeats := by
  unfold Obligations.Heartbeats
  refine ⟨fun e => .of ?sends, fun hb mark => .of ?discards, fun hb mark => .of ?laneTaken, fun hb mark => .of ?badCrc,
    fun hb mark => .of ?clash, fun hb mark => .of ?good, fun l => .of ?misses, fun l => .of ?takesOver, fun l => .of ?solo,
    fun c => .of ?listens, .of ?laneLost, .of ?mirrorEnds, fun k => .of ?hands, fun k => .of ?givesUp, fun k => .of ?forced,
    .of ?reverts, fun out => .of ?edge⟩
  case sends =>
    rintro dt s u hu ⟨hon, halive, hdue, hbeat, hresync, hhand, hidle⟩
    obtain ⟨z, hz, hpair, hshows⟩ := exec_heartbeatSend hu hon halive hdue hbeat hresync hhand hidle
    refine ⟨_, hz, ?_, ?_⟩
    · rw [sendHeartbeat_pair, hpair, hshows]
    · rw [sendHeartbeat_pair, hpair]
  case discards =>
    rintro dt s u hu ⟨hon, hrun, hup, hlane, hbad⟩
    exact ⟨_, (exec_heartbeatReceive_lane hu hlane).trans (congrArg _ (onLane_bad hon hrun hup hbad)), rfl⟩
  case laneTaken =>
    rintro dt s u hu ⟨hon, hrun, hup, hlane, hgood⟩
    exact ⟨_, (exec_heartbeatReceive_lane hu hlane).trans (congrArg _ (onLane_good hon hrun hup hgood)), rfl⟩
  case badCrc =>
    rintro dt s u hu ⟨hon, hrun, hlane, hcrc⟩
    refine ⟨_, ?_, rfl⟩
    show execHeartbeatReceive dt hb mark s = _
    unfold execHeartbeatReceive
    rw [hu]
    exact (if_neg (by simp [hlane])).trans (if_pos (by simp [hcrc]))
  case clash =>
    rintro dt s u hu ⟨hon, hrun, hlane, hcrc, hside⟩
    exact ⟨_, (exec_heartbeatReceive_pin hu hon hrun hlane hcrc).trans (if_pos hside), rfl⟩
  case good =>
    rintro dt s u hu ⟨hon, hrun, hlane, hcrc, hside, hhem, hhand, hfresh, hbound, hstate, hother⟩
    refine ⟨_, (exec_heartbeatReceive_pin hu hon hrun hlane hcrc).trans (if_neg hside), ?_⟩
    rw [takeHeartbeat_standby hlane hhem hhand hfresh hbound hstate, tryResync_follower (by rw [noteGood_pair]; exact hstate)
      (by rw [noteGood_pair]) (by rw [hother]; decide), State.onPair_pair, noteGood_pair, hother]
    exact ⟨rfl, rfl, rfl, rfl, rfl, hstate⟩
  case misses =>
    rintro dt s u hu ⟨hon, hrun, hlast, hdead, hfew⟩
    exact ⟨_, exec_heartbeatMiss_few hu hon hrun hlast hdead hfew, rfl⟩
  case takesOver =>
    rintro dt s u hu ⟨hon, hrun, hlast, hdead, htwo, hbound, hstate, hhem⟩
    refine ⟨_, ?_, rfl⟩
    rw [exec_heartbeatMiss_third hu hon hrun hlast hdead htwo hbound, hstate, hhem]
    rfl
  case solo =>
    rintro dt s u hu ⟨hon, hrun, hlast, hdead, htwo, hbound, hstate⟩
    refine ⟨raise .takeover 0x60 [] (toPair .solo (stopMirror (missed 3 u))), ?_, ?_, rfl⟩
    · rw [exec_heartbeatMiss_third hu hon hrun hlast hdead htwo hbound, hstate]
    · rw [raise_only (bs := [.hosts, .evt]) (by decide) (Only.refl _ _) .pair (by decide), toPair_pair (.inl (by decide))]
  case listens =>
    rintro dt s u hu ⟨hon, hrun, hend, hover, hclash, hnone⟩
    refine ⟨_, ?_, by rw [toPair_pair (.inl (by decide))], rfl⟩
    show execListenEnd dt s = _
    unfold execListenEnd
    rw [hu]
    dsimp only
    rw [hend]
    dsimp only
    rw [if_pos (by simp [hon, hrun, hover]), if_neg (by simp [State.onPair, hclash])]
    dsimp only [State.onPair]
    rw [hnone]
  case laneLost =>
    rintro dt s u hu ⟨hon, hrun, hstate⟩
    refine ⟨toStandby false (u.onPair fun p => { p with laneUp := false }), ?_, ?_⟩
    · rw [exec_yokeLaneChange_lost hu hon hrun, hstate]
    · rw [toStandby_pair]
      exact ⟨rfl, rfl, rfl, rfl⟩
  case mirrorEnds =>
    rintro dt s u hu ⟨hon, hrun, hstate⟩
    refine ⟨stopMirror (u.onPair fun p => { p with laneUp := false }), ?_, rfl⟩
    rw [exec_yokeLaneChange_lost hu hon hrun, hstate]
  case hands =>
    rintro dt s u hu ⟨hon, hrun, hforce, hk, hdue, hstate, hpartner⟩
    obtain ⟨b, hpair, hhand, hin⟩ := handOver_inSync hstate hpartner
    refine ⟨_, exec_handover hu hon hrun hforce hk hdue, ?_⟩
    rw [nextHeartbeat_only (bs := [.sched]) (by decide) (Only.refl _ _) .pair (by decide)]
    obtain ⟨hs, hn, hp⟩ := hpair
    exact ⟨hs, hn, b, hp, hhand, hin⟩
  case givesUp =>
    rintro dt s u hu ⟨hon, hrun, hforce, hk, hdue, hpartner⟩
    refine ⟨_, exec_handover hu hon hrun hforce hk hdue, ?_⟩
    rw [handOver_none hpartner]
  case forced =>
    rintro dt s u hu ⟨hon, hrun, hforce, hdue, hstate⟩
    refine ⟨_, ?_, rfl⟩
    show execHandover dt s = _
    unfold execHandover
    rw [hu]
    dsimp only
    rw [if_neg (by simp [hon, hrun]), hforce]
    dsimp only
    rw [if_pos hdue]
    dsimp only [State.onPair]
    rw [hstate]
  case reverts =>
    rintro dt s u hu ⟨hon, hrun, hrevert, hside, hreturned, hstate, hheld⟩
    refine ⟨_, ?_, rfl⟩
    show execRevertHoldoff dt s = _
    unfold execRevertHoldoff
    rw [hu]
    exact if_pos (by simp [hon, hrun, hrevert, hside, hreturned, hstate, hheld])
  case edge =>
    rintro dt s u hu ⟨hout, henable, hon, hlead, hrun⟩
    refine ⟨_, ?_, rfl⟩
    show execPulseLandEdge dt out s = _
    unfold execPulseLandEdge
    rw [hu]
    exact if_pos (by simp [hout, henable, hon, hlead, hrun])

end Sys2Proof.Machine
end

section
/-! PROOFS. The statements of control: deltas, snapshots and acknowledgements over the Yoke, and the PAIR commands. -/

namespace Sys2Proof.Machine

open Host (Outcome)

/-! ### Deltas and snapshots (R734, R736, R737) -/

/-- A lane message of a lane that is up and does not verify is counted and discarded (R734). -/
theorem onLane_discards {u : State} {m : LaneMsg} {x : LaneSeal} {f : State → State} (hon : pairOn u = true) (hrun : u.pwr.stage = .running)
    (hup : u.pair.laneUp = true) (hbad : laneVerifies u m x = false) :
    onLane m x f u = u.onPair fun p => { p with laneDiscards := inc32 p.laneDiscards } := by
  unfold onLane
  rw [if_pos (by simp [hon, hrun, hup]), if_neg (by simp [hbad])]

/-- A DELTA that verifies at a unit that takes the mirror (R734, R736). -/
theorem exec_delta {dt jseq : Nat} {body : DeltaBody} {mark : LaneSeal} {s u : State} (hu : tick dt s = u) (hon : pairOn u = true)
    (hrun : u.pwr.stage = .running) (hup : u.pair.laneUp = true) (hgood : laneVerifies u (.delta jseq body) mark = true)
    (htakes : takesMirror u = true) : exec (.delta dt jseq body mark) s = .next (takeDelta jseq body u) := by
  show execDelta dt jseq body mark s = _
  unfold execDelta
  rw [hu, onLane_good hon hrun hup hgood, if_pos htakes]

/-- The JSEQ held after a DELTA that is in order (R736). -/
def orderedAt (jseq : Nat) (u : State) : State := u.onPair fun p => { p with rxJseq := some (max jseq (p.rxJseq.getD 0)) }

theorem takeDelta_ordered {jseq : Nat} {body : DeltaBody} {u : State} (horder : ∀ k, u.pair.rxJseq = some k → jseq ≤ k + 1) :
    takeDelta jseq body u = if u.pair.state == .resync && u.pair.snapEndSeen.isNone
      then (orderedAt jseq u).onPair fun p => { p with jGap := p.jGap ++ [(jseq, body)] }
      else applyDelta jseq body (orderedAt jseq u) := by
  unfold takeDelta
  dsimp only
  cases hr : u.pair.rxJseq with
  | none => rfl
  | some k => exact if_neg (by simpa using horder k hr)

/-- A DELTA beyond a gap takes the unit back to Standby (R736). -/
theorem takeDelta_gap {jseq k : Nat} {body : DeltaBody} {u : State} (hk : u.pair.rxJseq = some k) (hgap : k + 1 < jseq) :
    takeDelta jseq body u = toStandby false u := by
  unfold takeDelta
  rw [hk]
  exact if_pos (by simpa using hgap)

theorem itemJseq_put (k : Nat × Nat) (j : Nat) (l : List ((Nat × Nat) × Nat)) {u : State} (h : u.pair.itemSeq = (k, j) :: l) :
    itemJseq u k = j := by
  simp [itemJseq, h]

/-- What a broadcast counter of a DELTA or SNAPSHOT that is newer leaves (R736, R737). -/
theorem applyAt_bcast_shows {j n v : Nat} {u : State} (h : itemJseq u (2, n) < j) :
    tget (applyAt j (.bcast n v) u).fleet.bcast n 0 = v ∧ itemJseq (applyAt j (.bcast n v) u) (2, n) = j := by
  obtain ⟨hbcast, -, hpair⟩ := applyAt_bcast (v := v) h
  refine ⟨?_, itemJseq_put _ _ _ (by rw [hpair])⟩
  rw [hbcast]
  exact tget_tput_self

/-- A legal image of a DELTA that is newer is kept with its key, the registers untouched (R736). -/
theorem applyAt_legal {j : Nat} {im : List Nat} {u : State} (h : itemJseq u (3, 0) < j) :
    applyAt j (.legal im) u = u.onPair fun p =>
      { p with image := im, imageKey := u.key, itemSeq := ((3, 0), j) :: p.itemSeq.filter fun q => q.1 != (3, 0) } :=
  if_pos h

theorem applyAt_old {j : Nat} {body : DeltaBody} {u : State} (h : j ≤ itemJseq u body.item) : applyAt j body u = u :=
  if_neg (Nat.not_lt.mpr h)

/-- A SNAPSHOT, SNAPSHOT_END that verify while the unit resynchronises (R737). -/
theorem exec_snapshot {dt jseq : Nat} {body : DeltaBody} {mark : LaneSeal} {s u : State} (hu : tick dt s = u) (hon : pairOn u = true)
    (hrun : u.pwr.stage = .running) (hup : u.pair.laneUp = true) (hgood : laneVerifies u (.snapshot jseq body) mark = true)
    (hstate : u.pair.state = .resync) : exec (.snapshot dt jseq body mark) s = .next (applyAt jseq body u) := by
  show execSnapshot dt jseq body mark s = _
  unfold execSnapshot
  rw [hu, onLane_good hon hrun hup hgood, if_pos (by simp [hstate])]

theorem exec_syncLost {dt : Nat} {mark : LaneSeal} {s u : State} (hu : tick dt s = u) (hon : pairOn u = true) (hrun : u.pwr.stage = .running)
    (hup : u.pair.laneUp = true) (hgood : laneVerifies u .syncLost mark = true) (htakes : takesMirror u = true) :
    exec (.syncLost dt mark) s = .next (toStandby (u.pair.state == .resync) u) := by
  show execSyncLost dt mark s = _
  unfold execSyncLost
  rw [hu, onLane_good hon hrun hup hgood, if_pos htakes]

/-! ### Acknowledgements and the mirror in time (R740–R742) -/

/-- A changed context does no more to the pair than its delta. -/
theorem onCtx_sent (m : Nat) (f : MeterCtx → MeterCtx) (s : State) : SentOnly s.pair (onCtx m f s).pair := by
  have htouch : ∀ z : State, (touch m z).pair = z.pair := fun z =>
    touch_only (bs := [.sess, .arch]) (by decide) (Only.refl _ z) .pair (by decide)
  unfold onCtx
  split
  · exact rfl
  · split
    · exact rfl
    · refine SentOnly.trans ?_ (mirror_sent _ _)
      rw [htouch]
      exact rfl

/-- Records pushed for a meter do no more to the pair than the deltas of its context. -/
theorem pushMeterRecords_sent (m : Nat) (recs : List Record) (s : State) : SentOnly s.pair (pushMeterRecords m recs s).pair := by
  unfold pushMeterRecords
  induction recs generalizing s with
  | nil => exact rfl
  | cons r recs ih =>
    refine SentOnly.trans (SentOnly.trans ?_ (onCtx_sent _ _ _)) (ih _)
    show SentOnly s.pair (pushQ4 { r with seq := s.sess.seq } s).pair
    rw [pushQ4_only (bs := [.fab, .sess]) (by decide) (Only.refl _ s) .pair (by decide)]
    exact rfl

/-- What an acknowledgement releases does no more to the pair than the deltas of the contexts. -/
theorem releaseAcked_sent (s : State) : SentOnly s.pair (releaseAcked s).pair := by
  unfold releaseAcked
  dsimp only
  suffices h : ∀ (l : List HeldApdu) (z : State), SentOnly z.pair (l.foldl (fun s h => pushMeterRecords h.meter h.recs s) z).pair from h _ _
  intro l
  induction l with
  | nil => exact fun _ => rfl
  | cons h l ih => exact fun z => (pushMeterRecords_sent _ _ z).trans (ih _)

/-- The JSEQ that an acknowledgement covers (R740). -/
def ackedUpTo (jseq : Nat) (u : State) : State :=
  u.onPair fun p => { p with deltasAcked := w32 (p.deltasAcked + (jseq - p.ackedJseq)), ackedJseq := jseq }

theorem exec_yokeAcknowledgement {dt jseq : Nat} {mark : LaneSeal} {s u : State} (hu : tick dt s = u) (hon : pairOn u = true)
    (hrun : u.pwr.stage = .running) (hup : u.pair.laneUp = true) (hgood : laneVerifies u (.ack jseq) mark = true)
    (hstate : u.pair.state = .active) (hsent : jseq ≤ u.pair.jseq) (hnew : u.pair.ackedJseq < jseq) :
    exec (.yokeAcknowledgement dt jseq mark) s = .next (releaseAcked (ackedUpTo jseq u)) := by
  show execYokeAcknowledgement dt jseq mark s = _
  unfold execYokeAcknowledgement
  rw [hu, onLane_good hon hrun hup hgood]
  exact congrArg _ (if_pos (by simp [hstate, hsent, hnew]))

/-- An Active unit that mirrors, with no journal open, sends an item as one DELTA (R736). -/
theorem mirror_sends {b : DeltaBody} {u : State} (hstate : u.pair.state = .active) (hmirror : u.pair.mirroring = true)
    (hjournal : u.pair.journalOpen = false) : mirror b u = u.onPair fun p =>
      { p.send (.delta (u.pair.jseq + 1) b) with
               jseq := u.pair.jseq + 1
               itemSeq := (b.item, u.pair.jseq + 1) :: p.itemSeq.filter (fun q => q.1 != b.item) } := by
  unfold mirror
  rw [hstate, hmirror]
  dsimp only [State.onPair, PairSt.send]
  rw [hjournal]
  rfl

theorem exec_mirrorPeriodic {dt : Nat} {s u : State} (hu : tick dt s = u) (hon : pairOn u = true) (hrun : u.pwr.stage = .running)
    (hstate : u.pair.state = .active) (hmirror : u.pair.mirroring = true) (hdemand : u.key < u.pair.mirDemandKey + 50 * mc) :
    exec (.mirrorPeriodic dt) s = .next (if u.pair.mirLegalKey + 2 * mc ≤ u.key
      then mirror (.legal u.reg.cum) (u.onPair fun p => { p with mirLegalKey := u.key }) else u) := by
  have hlater : ∀ z : State, z.key = u.key → z.pair.mirDemandKey = u.pair.mirDemandKey → ¬ z.pair.mirDemandKey + 50 * mc ≤ z.key := by
    intro z hkey hk
    rw [hkey, hk]
    exact Nat.not_le.mpr hdemand
  show execMirrorPeriodic dt s = _
  unfold execMirrorPeriodic
  rw [hu]
  dsimp only
  rw [if_pos (by simp [hon, hrun, hstate, hmirror])]
  split
  · have hsent := mirror_sent (.legal u.reg.cum) (u.onPair fun p => { p with mirLegalKey := u.key })
    refine if_neg (hlater _ ?_ ?_)
    · have hkept := mirror_only (b := .legal u.reg.cum) (bs := [.hosts, .evt, .pair]) (by decide)
        (Only.refl _ (u.onPair fun p => { p with mirLegalKey := u.key }))
      exact key_of_clock (hkept .mains (by decide)) (hkept .time (by decide))
    · rw [hsent]
      rfl
  · exact if_neg (hlater u rfl rfl)

/-- PAIR_SWITCH of an Active unit whose partner is InSync places the handover (R753). -/
theorem pairSwitch_hands {tk : Taken} {u : State} (hmode : fld tk.payload 0 1 = 0) (hstate : u.pair.state = .active)
    (hpartner : u.pair.partner = some .inSync) (hidle : u.pair.handoverK = none) :
    pairSwitch tk u = (u.onPair fun p => { p with handoverK := some (if u.phase = 0 then u.mains.cycle + 2 else u.mains.cycle + 3) },
      okWith (leBytes 8 (mkKey (if u.phase = 0 then u.mains.cycle + 2 else u.mains.cycle + 3) 0))) := by
  unfold pairSwitch
  exact (if_neg (by simp [hmode])).trans ((if_pos hmode).trans ((if_neg (by simp [hstate])).trans ((if_neg (by simp [hpartner])).trans
    (if_neg (by simp [hidle])))))

/-- Settles O52: each message's guard and what the branch changes. The snapshot that RESYNC_PCT shows at 0 and then 100, JSEQ_HI and slot 5 of
the partner are the model's (log entries 281, 289 and 460). -/
theorem mirrorAndPairCommands : Obligations.MirrorAndPairCommands := by
  unfold Obligations.MirrorAndPairCommands
  refine ⟨fun jseq body mark => .of ?discards, fun jseq k body mark => .of ?gap, fun jseq slot ic mark => .of ?counter,
    fun jseq im mark => .of ?legal, fun jseq body mark => .of ?waits, fun jseq slot ic mark => .of ?snapCounter,
    fun jseq body mark => .of ?snapOld, fun jseq mark => .of ?snapEnd, fun mark => .of ?lostResync, fun mark => .of ?lostInSync,
    fun jseq mark => .of ?acked, .of ?periodic, .of ?early, fun k => .of ?retries, ?status, fun k => ?switches, ?forces, ?denied, ?locks,
    ?full⟩
  case discards =>
    rintro dt s u hu ⟨hon, hrun, hup, hbad⟩
    refine ⟨_, ?_, rfl⟩
    show execDelta dt jseq body mark s = _
    unfold execDelta
    rw [hu, onLane_discards hon hrun hup hbad]
  case gap =>
    rintro dt s u hu ⟨hon, hrun, hup, hgood, hstate, hk, hgap⟩
    have hkept := toStandby_only (bs := [.cfg, .hosts, .sched, .evt, .pair]) (retry := false) (by decide) (Only.refl _ u)
    refine ⟨_, exec_delta hu hon hrun hup hgood (by simp [takesMirror, hstate]), ?_⟩
    rw [takeDelta_gap hk hgap]
    exact ⟨by rw [toStandby_pair], by rw [toStandby_pair], by rw [toStandby_pair], hkept .sess (by decide), hkept .fleet (by decide)⟩
  case counter =>
    rintro dt s u hu ⟨hon, hrun, hup, hgood, hstate, horder, hnew⟩
    obtain ⟨hshows, hitem⟩ := applyAt_bcast_shows (u := orderedAt jseq u) (v := ic) hnew
    obtain ⟨-, -, hpair⟩ := applyAt_bcast (s := orderedAt jseq u) (v := ic) hnew
    refine ⟨_, exec_delta hu hon hrun hup hgood (by simp [takesMirror, hstate]), ?_⟩
    rw [takeDelta_ordered horder, if_neg (by simp [hstate])]
    unfold applyDelta
    refine ⟨hshows, hitem, ?_⟩
    rw [State.onPair_pair, hpair]
    exact ⟨rfl, rfl, rfl⟩
  case legal =>
    rintro dt s u hu ⟨hon, hrun, hup, hgood, hstate, horder, hnew⟩
    refine ⟨_, exec_delta hu hon hrun hup hgood (by simp [takesMirror, hstate]), ?_⟩
    rw [takeDelta_ordered horder, if_neg (by simp [hstate])]
    unfold applyDelta
    rw [applyAt_legal (u := orderedAt jseq u) hnew]
    exact ⟨rfl, rfl, rfl⟩
  case waits =>
    rintro dt s u hu ⟨hon, hrun, hup, hgood, hstate, horder, hsnap⟩
    refine ⟨_, exec_delta hu hon hrun hup hgood (by simp [takesMirror, hstate]), ?_⟩
    rw [takeDelta_ordered horder, if_pos (by simp [hstate, hsnap])]
    rfl
  case snapCounter =>
    rintro dt s u hu ⟨hon, hrun, hup, hgood, hstate, hnew⟩
    obtain ⟨hshows, hitem⟩ := applyAt_bcast_shows (v := ic) hnew
    obtain ⟨-, -, hpair⟩ := applyAt_bcast (v := ic) hnew
    exact ⟨_, exec_snapshot hu hon hrun hup hgood hstate, hshows, hitem, by rw [hpair]⟩
  case snapOld =>
    rintro dt s u hu ⟨hon, hrun, hup, hgood, hstate, hold⟩
    exact ⟨_, exec_snapshot hu hon hrun hup hgood hstate, applyAt_old hold⟩
  case snapEnd =>
    rintro dt s u hu ⟨hon, hrun, hup, hgood, hstate⟩
    refine ⟨_, ?_, rfl⟩
    show execSnapshotEnd dt jseq mark s = _
    unfold execSnapshotEnd
    rw [hu, onLane_good hon hrun hup hgood, if_pos (by simp [hstate])]
    rfl
  case lostResync =>
    rintro dt s u hu ⟨hon, hrun, hup, hgood, hstate⟩
    refine ⟨_, exec_syncLost hu hon hrun hup hgood (by simp [takesMirror, hstate]), ?_⟩
    rw [hstate, toStandby_pair]
    exact ⟨rfl, rfl, rfl⟩
  case lostInSync =>
    rintro dt s u hu ⟨hon, hrun, hup, hgood, hstate⟩
    refine ⟨_, exec_syncLost hu hon hrun hup hgood (by simp [takesMirror, hstate]), ?_⟩
    rw [hstate, toStandby_pair]
    exact ⟨rfl, rfl, rfl⟩
  case acked =>
    rintro dt s u hu ⟨hon, hrun, hup, hgood, hstate, hsent, hnew⟩
    refine ⟨_, exec_yokeAcknowledgement hu hon hrun hup hgood hstate hsent hnew, ?_⟩
    rw [releaseAcked_sent (ackedUpTo jseq u)]
    exact ⟨rfl, rfl⟩
  case periodic =>
    rintro dt s u hu ⟨hon, hrun, hstate, hmirror, hjournal, hlegal, hdemand⟩
    refine ⟨_, exec_mirrorPeriodic hu hon hrun hstate hmirror hdemand, ?_⟩
    rw [if_pos hlegal, mirror_sends (u := u.onPair fun p => { p with mirLegalKey := u.key }) hstate hmirror hjournal]
    exact ⟨rfl, rfl, rfl, rfl⟩
  case early =>
    rintro dt s u hu ⟨hon, hrun, hstate, hmirror, hlegal, hdemand⟩
    exact ⟨_, exec_mirrorPeriodic hu hon hrun hstate hmirror hdemand, if_neg (Nat.not_le.mpr hlegal)⟩
  case retries =>
    rintro dt s u hu ⟨hon, hrun, hk, hdue⟩
    refine ⟨_, ?_, rfl⟩
    show execResyncRetry dt s = _
    unfold execResyncRetry
    rw [hu]
    dsimp only
    rw [hk]
    exact if_pos (by simp [hon, hrun, hdue])
  case status =>
    exact .of (fun _ _ _ => rfl) fun h tk u _ => ⟨_, rfl, by simp, by simp⟩
  case switches =>
    refine .of (fun _ _ _ => rfl) fun h tk u _ ⟨hmode, hstate, hpartner, hidle, hk⟩ => ?_
    subst hk
    refine ⟨_, _, pairSwitch_hands hmode hstate hpartner hidle, ⟨rfl, rfl⟩, .inl (by simp [okWith])⟩
  case forces =>
    refine .of (fun _ _ _ => rfl) fun h tk u _ ⟨hmode, hstate, hmisses, hclash⟩ => ?_
    refine ⟨_, _, (if_neg (by simp [hmode])).trans ((if_neg (by simp [hmode])).trans (if_pos ?_)), ⟨rfl, rfl⟩, .inl (by simp [okWith])⟩
    rcases hstate with hs | hs <;> simp [hs, hmisses, hclash]
  case denied =>
    exact .of (fun _ _ _ => rfl) fun h tk u _ ⟨hmode, hstate⟩ => ⟨_, _, (if_neg (by simp [hmode])).trans ((if_pos hmode).trans
      (if_pos (by simpa using hstate))), ⟨rfl, rfl⟩, .inl (by decide)⟩
  case locks =>
    refine .of (fun _ _ _ => rfl) fun h tk u _ ⟨hword, hzero, hown, hside, hroom⟩ => ?_
    have hleft : 4 - (u.pair.locks ++ [(fld tk.payload 0 32, fld tk.payload 32 1)]).length = 3 - u.pair.locks.length := by
      rw [List.length_append, List.length_singleton]
      omega
    exact ⟨_, _, (if_neg (by simp [hword, hzero, hown, hside])).trans (if_neg (Nat.not_le.mpr hroom)),
      ⟨congrArg (fun n => okWith (leBytes 1 n ++ leBytes 7 0)) hleft, rfl⟩, .inl (by simp [okWith])⟩
  case full =>
    exact .of (fun _ _ _ => rfl) fun h tk u _ ⟨hword, hzero, hown, hside, hfull⟩ =>
      ⟨_, _, (if_neg (by simp [hword, hzero, hown, hside])).trans (if_pos hfull), ⟨rfl, rfl⟩, .inl (by decide)⟩

end Sys2Proof.Machine
end

section
/-! PROOFS. The statements of the fleet: the FLEET commands. -/

namespace Sys2Proof.Machine

open Host (Outcome)

/-! ### Commands of a unit with fleet work (R586) -/

theorem fleetCmd_on {f : Taken → State → State × Reply} {tk : Taken} {u : State} (h : fleetOn u = true) : fleetCmd f tk u = f tk u := if_pos h

/-- A fleet command of a unit with fleet work is answered at once by its work. -/
theorem Serves.ofFleet {c : Nat → Fin 4 → Instr} {op : Nat} {pre : Fin 4 → Taken → State → Prop}
    {post : Fin 4 → Taken → State → State → Reply → Prop} {f : Taken → State → State × Reply}
    (hc : ∀ dt h s, exec (c dt h) s = .next (runCmd op h (fleetCmd f) (tick dt s)))
    (hf : ∀ h tk u, pre h tk u → fleetOn u = true ∧ ∃ t r, f tk u = (t, r) ∧ post h tk u t r ∧ r.status ≠ .pending) : Serves c op pre post :=
  .of (f := fun _ => fleetCmd f) hc fun h tk u _ hpre =>
    let ⟨hon, t, r, he, hpost, hr⟩ := hf h tk u hpre
    ⟨t, r, (fleetCmd_on hon).trans he, hpost, .inl hr⟩

theorem Reads.ofFleet {c : Nat → Fin 4 → Instr} {op len : Nat} {pre : Fin 4 → Taken → State → Prop}
    {post : Fin 4 → Taken → State → List Byte → Prop} {f : Taken → State → State × Reply}
    (hc : ∀ dt h s, exec (c dt h) s = .next (runCmd op h (fleetCmd f) (tick dt s)))
    (hf : ∀ h tk u, pre h tk u → fleetOn u = true ∧ ∃ p, f tk u = (u, okWith p) ∧ p.length = len ∧ post h tk u p) : Reads c op len pre post :=
  .of (f := fun _ => fleetCmd f) hc fun h tk u hpre =>
    let ⟨hon, p, he, hlen, hpost⟩ := hf h tk u hpre
    ⟨p, (fleetCmd_on hon).trans he, hlen, hpost⟩

theorem okWith_status (p : List Byte) : (okWith p).status ≠ .pending := by simp [okWith]

/-! ### Pushes (R586, R591, R592) -/

/-- PUSH_CREATE of a push in form, by key, whose key lies 3,000 mc ahead (R586). -/
theorem pushCreate_takes {tk : Taken} {u : State} (hid : fld tk.payload 0 1 ≤ 15) (hform : fld tk.payload 1 1 = 0) (hlate : fld tk.payload 2 1 ≤ 1)
    (htries : 1 ≤ fld tk.payload 3 1 ∧ fld tk.payload 3 1 ≤ 16) (hresend : 10 ≤ fld tk.payload 4 2 ∧ fld tk.payload 4 2 ≤ 60000)
    (hlen : 1 ≤ fld tk.payload 6 2 ∧ fld tk.payload 6 2 ≤ 4032) (hwhole : tk.payload.length = 32 + fld tk.payload 6 2)
    (htable : tableOk (tk.payload.drop 32) = true) (hfree : pushOf u (fld tk.payload 0 1) = none) (hkey : u.key + 3000 * mc ≤ fld tk.payload 8 8) :
    pushCreate tk u = (u.onFleet fun f =>
      { f with pushes := tput f.pushes (fld tk.payload 0 1) { actKey := fld tk.payload 8 8, late := fld tk.payload 2 1,
                                                              maxTries := fld tk.payload 3 1, resendMs := fld tk.payload 4 2,
                                                              hostref := fld tk.payload 16 4, table := tk.payload.drop 32,
                                                              lastCalc := u.key } }, okWith (leBytes 8 (fld tk.payload 8 8))) := by
  have hchosen : (if fld tk.payload 1 1 = 1 then keyOfTai u (fld tk.payload 8 8) else fld tk.payload 8 8) = fld tk.payload 8 8 :=
    if_neg (by simp [hform])
  unfold pushCreate
  dsimp only
  rw [hchosen, if_neg (by simp [hform, htable, hwhole]; omega), if_neg (by simp [hfree]), if_neg (by simp [hform]),
    if_neg (Nat.not_lt.mpr hkey)]

/-- PUSH_STATUS' answer for a push (R592). -/
def pushReport (id : Nat) (q : Push) (u : State) : List Byte :=
  leBytes 8 q.actKey ++ leBytes 4 ((pushMembers u id).length + q.ended.length) ++ leBytes 4 (pushCount u id 1 + pushCount u id 2)
    ++ leBytes 4 (pushCount u id 3) ++ leBytes 4 (pushCount u id 4) ++ leBytes 4 (pushCount u id 5) ++ leBytes 4 (pushCount u id 6)

theorem onPush_sess (id : Nat) (f : Push → Push) (u : State) : (onPush id f u).sess = u.sess := by
  unfold onPush
  split <;> rfl

/-- PUSH_CANCEL of a push without members (R592). -/
theorem pushCancel_empty {tk : Taken} {u : State} {q : Push} (hq : pushOf u (fld tk.payload 0 1) = some q)
    (hnone : pushMembers u (fld tk.payload 0 1) = []) :
    pushCancel tk u = (fleetPump (checkPush (fld tk.payload 0 1) (onPush (fld tk.payload 0 1) (fun p =>
      { p with cancelled := true, again := [] }) u)), answer .ok) := by
  have hstill : pushMembers (onPush (fld tk.payload 0 1) (fun p => { p with cancelled := true, again := [] }) u) (fld tk.payload 0 1) = [] := by
    unfold pushMembers
    rw [onPush_sess]
    exact hnone
  unfold pushCancel
  dsimp only
  rw [hq]
  dsimp only
  rw [hstill]
  rfl

/-! ### Tokens and the ledger (R594–R599) -/

/-- What TOKEN_SEND returns of a prior entry (R595). -/
def priorPayload (e : Option LedgerEnt) : List Byte :=
  match e with
  | some e => leBytes 1 e.state ++ leBytes 3 0 ++ leBytes 4 e.meter
  | none => leBytes 8 0

/-- TOKEN_SEND without RETRY, of a token in form to a meter that takes none (R594, R595). -/
theorem tokenSend_fresh {tk : Taken} {u : State} {c : MeterCtx} (hc : ctxOf u (fld tk.payload 0 4) = some c) (hacc : c.account ≤ 1048575)
    (hdigits : ((tk.payload.drop 16).take 20).all (fun d => 48 ≤ d.toNat && d.toNat ≤ 57) = true) (hcs : fld tk.payload 4 1 < 0x40)
    (htid : fld tk.payload 8 4 < 0x1000000) (hflags : fld tk.payload 5 1 = 0) (hidle : c.tokenState ≠ 1) :
    tokenSend tk u = if tokenUsed (accountOf u c.account) (fld tk.payload 8 4) (fld tk.payload 4 1)
      then (u, { status := .stale
                 payload := priorPayload (ledgerEntry (accountOf u c.account) (fld tk.payload 8 4) (fld tk.payload 4 1)) })
      else (queueToken (fld tk.payload 0 4) c.account (fld tk.payload 8 4) (fld tk.payload 4 1) (fld tk.payload 12 4)
        ((tk.payload.drop 16).take 20) true u, okWith (leBytes 8 0)) := by
  unfold tokenSend
  dsimp only
  rw [hc]
  dsimp only
  rw [if_neg (by rw [hdigits]; simp [hflags]; omega), if_neg hidle, if_neg (by simp [hflags, hasBit])]
  rfl

theorem accountOf_put (a : Nat) (b : Account) (u : State) : accountOf (putAccount a b u) a = b := by
  unfold accountOf
  rw [putAccount_fleet]
  simp

/-- LEDGER_NOTE of a token in form: STALE where it is used, else noted (R595, R598). -/
theorem ledgerNote_formed {tk : Taken} {u : State} {c : MeterCtx} (hacc : fld tk.payload 0 4 ≤ 1048575) (htid : fld tk.payload 4 4 < 0x1000000)
    (hcs : fld tk.payload 8 1 < 0x40) (hc : ctxOf u (fld tk.payload 12 4) = some c) :
    ledgerNote tk u = if tokenUsed (accountOf u (fld tk.payload 0 4)) (fld tk.payload 4 4) (fld tk.payload 8 1) then (u, answer .stale)
      else (addEntry (fld tk.payload 0 4) { tid := fld tk.payload 4 4, cs := fld tk.payload 8 1, state := 4
                                            meter := fld tk.payload 12 4 % 0x1000000 } u, answer .ok) := by
  unfold ledgerNote
  exact if_neg (by simp [hc]; omega)

theorem addEntry_room {a : Nat} {e : LedgerEnt} {u : State} (h : (accountOf u a).entries.length < 31) :
    accountOf (addEntry a e u) a = { accountOf u a with entries := (accountOf u a).entries ++ [e] } := by
  have hput : addEntry a e u = putAccount a { accountOf u a with entries := (accountOf u a).entries ++ [e] } u := if_pos h
  rw [hput, accountOf_put]

theorem accountBytes_length (b : Account) : (accountBytes b).length = 256 := by
  unfold accountBytes
  rw [List.length_take]
  refine Nat.min_eq_left ?_
  rw [List.length_append (bs := List.replicate 248 0), List.length_replicate]
  simp only [List.length_append, leBytes_length]
  omega

theorem accountBytes_floor (b : Account) : Shows (accountBytes b) 0 3 b.floorTid := by
  unfold accountBytes Shows
  rw [List.drop_zero, List.take_take]
  simp only [List.append_assoc]
  exact shows_head

/-! ### Campaigns (R601, R610–R614) -/

/-- The campaign that CAMP_CREATE makes of its payload (R601). -/
def campOfPayload (b : List Byte) : Camp :=
  { actMode := fld b 1 1, blockSize := fld b 2 2, imageSize := fld b 4 4, uid := fld b 8 4, keySlot := fld b 12 1
    maxRounds := fld b 13 1, unicastMax := fld b 14 2, gapMc := fld b 16 2, winStart := fld b 18 2, winEnd := fld b 20 2
    maxTries := fld b 22 1, act := fld b 24 8, digest := fld b 32 32, imageId := (b.drop 65).take (fld b 64 1) }

theorem campOf_put (n : Nat) (p : Camp) (u : State) : campOf (u.onFleet fun f => { f with camps := tput f.camps n p }) n = some p :=
  tfind_tput_self

/-- The bytes loaded of an image of one piece. -/
theorem loadedBytes_one {p : Camp} {piece : List Byte} (h : p.pieces = [(0, piece)]) : loadedBytes p = piece.length := by
  simp [loadedBytes, h]

theorem pieceUnits_one {piece : List Byte} (hne : piece ≠ []) (hlen : piece.length ≤ 1000) : pieceUnits 4 0 piece = [(0, piece)] := by
  have hrest : piece.drop 1000 = [] := List.drop_eq_nil_of_le hlen
  simp [pieceUnits, hne, hrest, List.take_of_length_le hlen]

/-- A checkpoint, where the archive takes one, leaves the campaigns (R583). -/
theorem checkpoint_camps (n : Nat) (u : State) : campOf (if archWorks u then fleetCheckpoint u else u) n = campOf u n := by
  split
  · unfold campOf
    rw [fleetCheckpoint_fleet]
  · rfl

/-- CAMP_LOAD of a whole image in one piece: loaded when its digest is right, else discarded (R610). -/
theorem campLoad_whole {tk : Taken} {u : State} {p : Camp} {piece : List Byte} (hp : campOf u (fld tk.payload 0 1) = some p)
    (hstate : p.state = 1) (hempty : p.pieces = []) (hoff : fld tk.payload 4 4 = 0) (hpiece : piece = tk.payload.drop 8) (hne : piece ≠ [])
    (hlen : piece.length ≤ 1000) (hsize : p.imageSize = piece.length) (p' : Camp)
    (hp' : p' = if Config.sha256 piece = p.digest then { p with state := 2, pieces := [(0, piece)] } else { p with pieces := [] }) :
    ∃ t, campLoad tk u = (t, okWith (leBytes 4 (loadedBytes p') ++ leBytes 1 p'.state ++ leBytes 3 0)) ∧
      campOf t (fld tk.payload 0 1) = some p' := by
  have hunits : (pieceUnits 4 (fld tk.payload 4 4 / 1000) piece).foldl (fun l u => tput l u.1 u.2) p.pieces = [(0, piece)] := by
    rw [hoff, pieceUnits_one hne hlen, hempty]
    rfl
  have hbytes : loadedBytes { p with pieces := [(0, piece)] } = p.imageSize := (loadedBytes_one rfl).trans hsize.symm
  have hflat : [(0, piece)].flatMap (·.2) = piece := by simp
  unfold campLoad
  dsimp only
  rw [hp, ← hpiece]
  dsimp only
  rw [if_neg (by simp [hstate]), if_neg (by simp [hoff, hne, hsize]; omega), hunits, hflat, if_pos hbytes]
  have hafter : (if Config.sha256 piece = p.digest then { { p with pieces := [(0, piece)] } with state := 2 }
      else { { p with pieces := [(0, piece)] } with pieces := [] }) = p' := hp'.symm
  rw [hafter]
  refine ⟨_, rfl, ?_⟩
  have hcamp := (checkpoint_camps (fld tk.payload 0 1) (u.onFleet fun f => { f with camps := tput f.camps (fld tk.payload 0 1) p' })).trans
    (campOf_put _ _ _)
  split
  · rw [← hcamp]
    exact congrArg (fun f : FleetSt => tfind f.camps (fld tk.payload 0 1)) (raise_only (bs := [.hosts, .evt]) (by decide) (Only.refl _ _) .fleet (by decide))
  · exact hcamp

/-- CAMP_STATUS' answer for a campaign (R613). -/
def campReport (n : Nat) (p : Camp) (u : State) : List Byte :=
  leBytes 1 p.state ++ leBytes 1 p.round ++ leBytes 2 0 ++ leBytes 4 p.uid ++ leBytes 2 (campBlocksN p)
    ++ leBytes 2 (if p.blocks.isSome then p.unionN else 0) ++ leBytes 4 (loadedBytes p) ++ leBytes 4 ((campMembers u n).length + p.ended.length)
    ++ leBytes 4 (campCount u n 2) ++ leBytes 4 (campCount u n 5) ++ leBytes 4 (campCount u n 6) ++ leBytes 4 (campCount u n 7)
    ++ leBytes 4 (campCount u n 8) ++ leBytes 8 0

/-- CAMP_CANCEL of a campaign without members frees it (R614). -/
theorem campCancel_empty {tk : Taken} {u : State} {p : Camp} (hp : campOf u (fld tk.payload 0 1) = some p)
    (hnone : campMembers u (fld tk.payload 0 1) = []) :
    ∃ t, campCancel tk u = (t, answer .ok) ∧ campOf t (fld tk.payload 0 1) = none ∧ t.sess = u.sess := by
  obtain ⟨n, hn⟩ : ∃ n, n = fld tk.payload 0 1 := ⟨_, rfl⟩
  have hsess : (notice 4 n 0xFFFFFFFF (campCount u n 6) (campCount u n 7) p.uid u).sess = u.sess :=
    notice_only (bs := [.hosts, .fleet]) (by decide) (Only.refl _ _) .sess (by decide)
  have hstill : campMembers (notice 4 n 0xFFFFFFFF (campCount u n 6) (campCount u n 7) p.uid u) n = [] := by
    unfold campMembers
    rw [hsess, hn]
    exact hnone
  unfold campCancel
  dsimp only
  rw [hp]
  dsimp only
  rw [hnone, ← hn]
  dsimp only [List.foldl_nil]
  rw [hstill]
  exact ⟨_, rfl, tfind_tdel_self, hsess⟩

/-- Settles O46: the checks of each command in their order and what the branch changes. -/
theorem fleetCommands : Obligations.FleetCommands := by
  unfold Obligations.FleetCommands
  refine ⟨?creates, fun p res => ?adds, fun q => ?shows, fun q => ?cancels, fun c => ?used, fun c => ?queues, fun c => ?notes, fun c => ?noted,
    ?ledger, fun c => ?sets, ?camp, fun p piece => ?loads, fun p piece => ?rejects, fun p l res => ?members, fun p => ?starts, fun c => ?status,
    ?noCamp, fun p => ?frees, ?off⟩
  case creates =>
    exact .ofFleet (fun _ _ _ => rfl)
      fun h tk u ⟨hon, hid, hform, hlate, htries, htries', hresend, hresend', hlen, hlen', hwhole, htable, hfree, hkey⟩ => ⟨hon, _, _,
        pushCreate_takes hid hform hlate ⟨htries, htries'⟩ ⟨hresend, hresend'⟩ ⟨hlen, hlen'⟩ hwhole htable hfree hkey, ⟨rfl, rfl⟩, okWith_status _⟩
  case adds =>
    refine .ofFleet (fun _ _ _ => rfl) fun h tk u ⟨hon, hp, hmode, hform, hres⟩ => ?_
    subst hres
    exact ⟨hon, _, _, if_neg (by simp [hp, hform, hmode]), ⟨rfl, rfl⟩, okWith_status _⟩
  case shows =>
    refine .ofFleet (fun _ _ _ => rfl) fun h tk u ⟨hon, hq⟩ => ⟨hon, pushReport (fld tk.payload 0 1) q u, ?_, by simp [pushReport],
      by simp [pushReport], by simp [pushReport]⟩
    unfold pushStatus
    dsimp only
    rw [hq]
    rfl
  case cancels =>
    exact .ofFleet (fun _ _ _ => rfl) fun h tk u ⟨hon, hq, hnone⟩ => ⟨hon, _, _, pushCancel_empty hq hnone, ⟨rfl, rfl⟩, by decide⟩
  case used =>
    exact .ofFleet (fun _ _ _ => rfl) fun h tk u ⟨hon, hc, hacc, hdigits, hcs, htid, hflags, hidle, hused⟩ => ⟨hon, _, _,
      (tokenSend_fresh hc hacc hdigits hcs htid hflags hidle).trans (if_pos hused), ⟨rfl, rfl⟩, by simp⟩
  case queues =>
    exact .ofFleet (fun _ _ _ => rfl) fun h tk u ⟨hon, hc, hacc, hdigits, hcs, htid, hflags, hidle, hfresh⟩ => ⟨hon, _, _,
      (tokenSend_fresh hc hacc hdigits hcs htid hflags hidle).trans (if_neg (by simp [hfresh])), ⟨rfl, rfl⟩, okWith_status _⟩
  case notes =>
    exact .ofFleet (fun _ _ _ => rfl) fun h tk u ⟨hon, hacc, htid, hcs, hc, hfresh, hroom⟩ => ⟨hon, _, _,
      (ledgerNote_formed hacc htid hcs hc).trans (if_neg (by simp [hfresh])), ⟨rfl, addEntry_room hroom⟩, by decide⟩
  case noted =>
    exact .ofFleet (fun _ _ _ => rfl) fun h tk u ⟨hon, hacc, htid, hcs, hc, hused⟩ => ⟨hon, _, _,
      (ledgerNote_formed hacc htid hcs hc).trans (if_pos hused), ⟨rfl, rfl⟩, by decide⟩
  case ledger =>
    exact .ofFleet (fun _ _ _ => rfl) fun h tk u ⟨hon, hacc⟩ => ⟨hon, _, if_neg (Nat.not_lt.mpr hacc), accountBytes_length _,
      accountBytes_floor _, rfl⟩
  case sets =>
    refine .ofFleet (fun _ _ _ => rfl) fun h tk u ⟨hon, hc, hacc⟩ => ⟨hon, _, _, if_neg ?_, ⟨rfl, ?_, fun m hm => ctxOf_onCtx_ne hm⟩, by decide⟩
    · simp [hc]
      omega
    · rw [ctxOf_onCtx, hc]
      rfl
  case camp =>
    refine .ofFleet (fun _ _ _ => rfl) fun h tk u ⟨hon, hn, hmode, hb, hb', hi, hi', hr, hr', hm, hg, hw, hw', ht, ht', hl, hl', hfree⟩ =>
      ⟨hon, u.onFleet fun f => { f with camps := tput f.camps (fld tk.payload 0 1) (campOfPayload tk.payload) }, _,
        (if_neg ?_).trans (if_neg (by simp [hfree])), ⟨rfl, _, campOf_put _ _ _, rfl, rfl, rfl, rfl, rfl, rfl, rfl, rfl, rfl, rfl⟩, by decide⟩
    simp
    omega
  case loads =>
    refine .ofFleet (fun _ _ _ => rfl) fun h tk u ⟨hon, hp, hstate, hempty, hoff, hpiece, hne, hlen, hsize, hgood⟩ => ?_
    obtain ⟨t, he, hcamp⟩ := campLoad_whole hp hstate hempty hoff hpiece hne hlen hsize _ (if_pos hgood).symm
    exact ⟨hon, t, _, he, ⟨by rw [loadedBytes_one rfl], hcamp⟩, okWith_status _⟩
  case rejects =>
    refine .ofFleet (fun _ _ _ => rfl) fun h tk u ⟨hon, hp, hstate, hempty, hoff, hpiece, hne, hlen, hsize, hbad⟩ => ?_
    obtain ⟨t, he, hcamp⟩ := campLoad_whole hp hstate hempty hoff hpiece hne hlen hsize _ (if_neg hbad).symm
    exact ⟨hon, t, _, he, ⟨by rw [hstate]; rfl, hcamp⟩, okWith_status _⟩
  case members =>
    refine .ofFleet (fun _ _ _ => rfl) fun h tk u ⟨hon, hp, hmode, hform, hl, hres⟩ => ?_
    subst hres
    subst hl
    exact ⟨hon, _, _, if_neg (by simp [hp, hform, hmode]), ⟨rfl, rfl⟩, okWith_status _⟩
  case starts =>
    refine .ofFleet (fun _ _ _ => rfl) fun h tk u ⟨hon, hp, hstate, hact⟩ => ⟨hon, _, _, ?_, ⟨rfl, rfl⟩, by decide⟩
    unfold campStart
    dsimp only
    rw [hp]
    dsimp only
    rw [if_neg (by simp [hstate]), if_neg (by simp; omega)]
  case status =>
    refine .ofFleet (fun _ _ _ => rfl) fun h tk u ⟨hon, hn, hc⟩ => ⟨hon, campReport (fld tk.payload 0 1) c u, ?_, by simp [campReport],
      by simp [campReport]⟩
    unfold campStatus
    dsimp only
    rw [if_neg (Nat.not_lt.mpr hn), hc]
    rfl
  case noCamp =>
    refine .ofFleet (fun _ _ _ => rfl) fun h tk u ⟨hon, hn, hc⟩ => ⟨hon, _, ?_, List.length_replicate, rfl⟩
    unfold campStatus
    dsimp only
    rw [if_neg (Nat.not_lt.mpr hn), hc]
  case frees =>
    refine .ofFleet (fun _ _ _ => rfl) fun h tk u ⟨hon, hp, hnone⟩ => ?_
    obtain ⟨t, he, hcamp, hsess⟩ := campCancel_empty hp hnone
    exact ⟨hon, t, _, he, ⟨rfl, hcamp, hsess⟩, by decide⟩
  case off =>
    exact .of (fun _ _ _ => rfl) fun h tk u _ hoff => ⟨_, _, if_neg (by simp [hoff]), ⟨rfl, rfl⟩, .inl (by decide)⟩

end Sys2Proof.Machine
end

section
/-! PROOFS. The statements of the fleet: responses, pushes, checkpoints, tokens and the rounds of a campaign. -/

namespace Sys2Proof.Machine

open Host (Outcome)

/-! ### Responses and pushes (R577, R579, R588, R589) -/

theorem exec_fleetResponse {dt : Nat} {s u : State} (hu : tick dt s = u) (hon : fleetOn u = true) (hruns : uplinkRuns u = true) :
    exec (.fleetResponse dt) s = .next (fleetPump (takeReport u)) := by
  show execFleetResponse dt s = _
  unfold execFleetResponse
  rw [hu]
  exact if_pos (by simp [hon, hruns])

/-- The response of a token's request ends the token as accepted or rejected (R579, R597). -/
theorem takeReport_token {u : State} {m inv : Nat} {ok : Bool} {data : List Nat} {rest : List (Nat × Nat × Bool × List Nat)} {o : OpenReq}
    {a tid cs : Nat} (hin : u.sess.fleetIn = (m, inv, ok, data) :: rest)
    (hreq : u.fleet.reqs.find? (fun o => o.meter == m && o.invoke == inv) = some o) (htoken : o.req = .token a tid cs) :
    takeReport u = endToken o.meter a tid cs (if ok then 1 else 2) (closeReq o (u.onSess fun b => { b with fleetIn := rest })) := by
  unfold takeReport
  rw [hin]
  dsimp only [State.onSess]
  rw [hreq]
  dsimp only
  unfold answered
  rw [htoken]

/-- A DOWN_RESULT that is not good ends the attempt of its request (R577). -/
theorem takeReport_failed {u : State} {c tag outcome : Nat} {rest : List (Nat × Nat × Nat)} {o : OpenReq} (hin : u.sess.fleetIn = [])
    (hlink : u.link.results = []) (hseen : u.upl.downSeen = (c, tag, outcome) :: rest) (hreq : reqByRef u tag = some o) (hbad : outcome ≠ 0) :
    takeReport u = attemptFailed o (closeReq o (u.onUpl fun x => { x with downSeen := rest })) := by
  have hreq' : reqByRef (u.onUpl fun x => { x with downSeen := rest }) tag = some o := hreq
  unfold takeReport
  rw [hin]
  dsimp only
  rw [hlink, List.find?_nil]
  dsimp only
  rw [hseen]
  dsimp only
  rw [hreq']
  exact if_neg hbad

/-- The activation of a push without members, whose key's cycle has begun (R589). -/
theorem activatePush_empty {id : Nat} {p : Push} {u : State} (hpassed : p.passed = false) (hkey : p.actKey ≤ cycleStart u)
    (hnone : pushMembers u id = []) : activatePush id p u = onPush id (fun p => { p with passed := true, again := [] }) u := by
  have hsess : (onPush id (fun p => { p with passed := true, again := [] }) u).sess = u.sess := by
    unfold onPush
    split <;> rfl
  have hstill : pushMembers (onPush id (fun p => { p with passed := true, again := [] }) u) id = [] := by
    unfold pushMembers
    rw [hsess]
    exact hnone
  unfold activatePush
  rw [if_neg (by simp [hpassed]; exact hkey)]
  dsimp only
  rw [hstill]
  rfl

/-! ### Rounds of a campaign (R603, R605–R607) -/

/-- The state in which a round has its number, its blocks and its key (R603). -/
def roundBegun (n : Nat) (p : Camp) (u : State) : State :=
  onCamp n (fun q => { q with round := p.round + 1, blocks := some (unionOf u n p), unionN := (unionOf u n p).length, nextKey := roundKey u,
                              read := [], noticed := true })
    ((campMembers u n).foldl (fun s q => if q.2.campState = 2 then onCtx q.1 (fun c => { c with campRound := p.round + 1 }) s else s) u)

theorem exec_campaignRoundStart {dt n : Nat} {p : Camp} {s u : State} (hu : tick dt s = u) (hsends : fleetSends u = true)
    (hcamps : u.fleet.camps = [(n, p)]) (hdue : roundDue u n p = true) :
    exec (.campaignRoundStart dt) s = .next (fleetPump (wakeAll (roundKey u) (roundBegun n p u))) := by
  have hfind : u.fleet.camps.find? (fun q => roundDue u q.1 q.2) = some (n, p) := by simp [hcamps, hdue]
  show execCampaignRoundStart dt s = _
  unfold execCampaignRoundStart
  rw [hu]
  dsimp only
  rw [if_pos hsends, hfind]
  rfl

/-- Sending to the members of a campaign leaves the clock. -/
theorem sendMulticast_key (p : Camp) (n key : Nat) (who : MeterCtx → Bool) (byKind : Bool) (image : Nat → List Byte) (u : State) :
    (sendMulticast p n key who byKind image u).key = u.key :=
  have hkept := sendMulticast_only (bs := [.hosts, .sched, .fab, .evt, .rad, .plc, .arch, .upl, .fleet, .pair]) (by decide) (Only.refl _ u)
  key_of_clock (hkept .mains (by decide)) (hkept .time (by decide))

/-- The block that CAMPAIGN_BLOCK_SEND sends (R605). -/
def blockSent (n b : Nat) (p : Camp) (u : State) : State :=
  (sendMulticast p n p.nextKey (fun m => m.campState == 2) false (fun ic => Config.multicastApdu p.keySlot ic 0 b (campBlock p b))
    u).onFleet fun x => { x with turn := n }

/-- CAMPAIGN_BLOCK_SEND of a block that is not the round's last (R605, R606). -/
theorem exec_campaignBlockSend {dt n b c : Nat} {p : Camp} {rest : List Nat} {s u : State} (hu : tick dt s = u) (hsends : fleetSends u = true)
    (hroom : fleetEntries u + 3 ≤ 128) (hdue : blockDue u = some (n, p)) (hblocks : p.blocks = some (b :: c :: rest)) :
    exec (.campaignBlockSend dt) s = .next (fleetPump (onCamp n (fun q =>
      { q with blocks := some (c :: rest), nextKey := max u.key q.nextKey + q.gapMc * mc }) (blockSent n b p u))) := by
  have hkey : (blockSent n b p u).key = u.key := sendMulticast_key _ _ _ _ _ _ _
  rw [← hkey]
  show execCampaignBlockSend dt s = _
  unfold execCampaignBlockSend
  rw [hu]
  dsimp only
  rw [if_pos (by simp [hsends, hroom]), hdue]
  dsimp only
  rw [hblocks]
  rfl

/-- Settles O45: each operation's guard, and its own work before the requests due next. A round's start, notice 3, the multicast of an
activation and responses taken by FLEET_RESPONSE are the model's (log entries 242, 243, 248 and 253). -/
theorem fleetWork : Obligations.FleetWork := by
  unfold Obligations.FleetWork
  refine ⟨fun m inv ok data rest o a tid cs => .of ?responds, fun c tag outcome rest o => .of ?fails, fun id p => .of ?recomputes,
    fun id p => .of ?activates, fun q w => .of ?checkpoints, fun j rest e => .of ?delivers, fun n p => .of ?round, fun n p b c rest => .of ?sends,
    fun n p z => .of ?activation⟩
  case responds =>
    rintro dt s u hu ⟨hon, hruns, hin, hreq, htoken⟩
    exact ⟨_, exec_fleetResponse hu hon hruns, congrArg fleetPump (takeReport_token hin hreq htoken)⟩
  case fails =>
    rintro dt s u hu ⟨hon, hruns, hin, hlink, hseen, hreq, hbad⟩
    exact ⟨_, exec_fleetResponse hu hon hruns, congrArg fleetPump (takeReport_failed hin hlink hseen hreq hbad)⟩
  case recomputes =>
    rintro dt s u hu ⟨hon, hruns, hone⟩
    refine ⟨_, ?_, rfl⟩
    show execPushRecompute dt s = _
    unfold execPushRecompute
    rw [hu]
    dsimp only
    rw [if_pos (by simp [hon, hruns]), hone]
    rfl
  case activates =>
    rintro dt s u hu ⟨hon, hruns, hone, hpassed, hkey, hnone⟩
    refine ⟨_, ?_, rfl⟩
    show execPushActivate dt s = _
    unfold execPushActivate
    rw [hu]
    dsimp only
    rw [if_pos (by simp [hon, hruns]), hone, List.foldl_cons, List.foldl_nil, activatePush_empty hpassed hkey hnone]
  case checkpoints =>
    rintro dt s u hu ⟨hon, hruns, hworks, hdue, hwrites⟩
    have hckpt : fleetCheckpoint u = w.onFleet fun b => { b with ckptKey := w.key } := by
      unfold fleetCheckpoint
      rw [hwrites]
    refine ⟨_, ?_, congrArg fleetPump hckpt⟩
    show execFleetCheckpoint dt s = _
    unfold execFleetCheckpoint
    rw [hu]
    exact if_pos (by simp [hon, hruns, hworks, hdue])
  case delivers =>
    rintro dt s u hu ⟨hon, hruns, hworks, htokens, hready, hentry, hdurable, hyoke⟩
    refine ⟨_, ?_, rfl⟩
    show execTokenDeliver dt s = _
    unfold execTokenDeliver
    rw [hu]
    dsimp only
    rw [if_pos (by simp [hon, hruns, hworks]), htokens, List.find?_cons_of_pos (by simp [hready, hentry, hdurable]; exact hyoke)]
  case round =>
    rintro dt s u hu ⟨hsends, hcamps, hdue⟩
    exact ⟨_, exec_campaignRoundStart hu hsends hcamps hdue, rfl⟩
  case sends =>
    rintro dt s u hu ⟨hsends, hroom, hdue, hblocks⟩
    exact ⟨_, exec_campaignBlockSend hu hsends hroom hdue hblocks, rfl⟩
  case activation =>
    rintro dt s u hu ⟨hsends, hcamps, hstate, hmode, hunsent, hact, hslot, rfl⟩
    refine ⟨_, ?_, rfl⟩
    have hfind : (u.fleet.camps.find? fun q => q.2.state = 3 && q.2.actMode = 1 && !q.2.actSent && q.2.act ≤ u.key + 2 * mc
        && slotUsable u q.2.keySlot) = some (n, p) := by simp [hcamps, hstate, hmode, hunsent, hact, hslot]
    show execCampaignActivate dt s = _
    unfold execCampaignActivate
    rw [hu]
    dsimp only
    rw [if_pos hsends, hfind]

end Sys2Proof.Machine
end

section
/-! PROOFS. The statements of the uplink: the upstream connection. -/

namespace Sys2Proof.Machine

open Host (Outcome)

/-! ### The connection's beginning and end (R546, R550, R551, R558, R561) -/

theorem sendUp_conn {m : UpMsg} {u : State} {c : UpConn} (h : u.upl.conn = some c) : sendUp m u = u.onUpl fun x =>
    { x with conn := some { c with sendSeq := inc32 c.sendSeq, lastTx := u.rc }, upOut := x.upOut ++ [(c.sendSeq, m)] } := by
  unfold sendUp
  rw [h]

theorem heardUp_conn {u : State} {c : UpConn} (h : u.upl.conn = some c) :
    heardUp u = u.onUpl fun x => { x with conn := some { c with lastRx := u.rc } } := by
  unfold heardUp State.onUpl
  dsimp only
  rw [h]
  rfl

theorem endIslanded_upl (u : State) : (endIslanded u).upl = u.upl :=
  endIslanded_only (bs := [.cfg, .hosts, .sched, .evt, .pair]) (by decide) (Only.refl _ u) .upl (by decide)

theorem endCatchup_upl (u : State) : (endCatchup u).upl = u.upl :=
  endCatchup_only (bs := [.cfg, .hosts, .sched, .evt, .pair]) (by decide) (Only.refl _ u) .upl (by decide)

theorem dropParentTime_upl (u : State) : (dropParentTime u).upl = u.upl :=
  dropParentTime_only (bs := [.hosts, .time, .evt]) (by decide) (Only.refl _ u) .upl (by decide)

/-- What the end of the upstream connection leaves of the uplink (R558, R560). -/
theorem endUp_upl {st : Nat} {u : State} {c : UpConn} (h : u.upl.conn = some c) :
    (endUp st u).upl = { u.upl with conn := none, state := st, credit := 0, exchanges := [], badEx := 0 } := by
  have hisland : ∀ z : State, (if z.upl.state = 2 then startIsland z else z).upl = z.upl := by
    intro z
    split <;> rfl
  have hdrop : ∀ z : State, (if z.time.qualParent then dropParentTime z else z).upl = z.upl := by
    intro z
    split
    · exact dropParentTime_upl z
    · rfl
  unfold endUp
  rw [h]
  dsimp only
  rw [hdrop, State.onUpl_upl, State.onSess_upl, hisland]

/-- What the connection that is up leaves of the uplink (R571, R573). -/
theorem goUp_upl (c : UpConn) (u : State) : (goUp c u).upl =
    { u.upl with conn := some { c with up := true, timeReqRc := u.rc }, state := 2, everUp := true
                 reconnects := if u.upl.everUp then inc32 u.upl.reconnects else u.upl.reconnects } := by
  unfold goUp
  rw [endIslanded_upl, State.onUpl_upl]

/-- The attempt that UPLINK_CONNECT makes on a port (R546). -/
def attempt (p : Nat) (u : State) : State :=
  u.onUpl fun x => { x with lastPort := p, attemptRc := u.rc, state := 1, tryOther := false, retryOk := true }

/-- The connection that UPLINK_CONNECT establishes on a port (R549). -/
def connected (p : Nat) (u : State) : State :=
  setLink p (portCfg u p).mode ((attempt p u).onUpl fun x =>
    { x with conn := some { port := p, lastRx := u.rc, lastTx := u.rc, sendPos := u.upl.acked } })

theorem exec_uplinkConnect {dt p : Nat} {ok : Bool} {s u : State} (hu : tick dt s = u) (hruns : uplinkRuns u = true)
    (hnames : namesUpstream u = true) (hnone : u.upl.conn = none) (hretry : u.upl.state ≠ 3 ∨ u.upl.retryOk = true) (hport : nextPort u = some p) :
    exec (.uplinkConnect dt ok) s = if !ok then .next (attempt p u)
      else if u.cfg.act.parent then
        .next (sendUp (.hello u.cfg.act.unitId (if u.cfg.startCfg.role == some .aggregation then 2 else 1) (release u)
          ((u.arch.format.map (·.formatId)).getD 0)) (connected p u))
      else .next (goUp { port := p, lastRx := u.rc, lastTx := u.rc, sendPos := u.upl.acked }
        ((connected p u).onUpl fun x => { x with depth := 1 })) := by
  show execUplinkConnect dt ok s = _
  unfold execUplinkConnect
  rw [hu]
  dsimp only
  rw [if_pos (by rw [hruns, hnames, hnone]; simpa using hretry), hport]
  rfl

/-! ### What goes up (R553–R556) -/

/-- A message that the upstream acknowledges goes out and waits for its acknowledgement (R556, R560). -/
theorem sendNumbered_upl {m : UpMsg} {next : Option Nat} {l : List Q2Entry} {u : State} {c : UpConn} (h : u.upl.conn = some c) :
    (sendNumbered m next l u).upl = { u.upl with
      upOut := u.upl.upOut ++ [(c.sendSeq, m)]
      conn := some { c with sendSeq := inc32 c.sendSeq, lastTx := u.rc, sendPos := next.getD c.sendPos
                            unacked := c.unacked ++ [{ seq := c.sendSeq, nextPos := next, entries := l }] } } := by
  unfold sendNumbered
  rw [h]
  dsimp only
  rw [sendUp_conn h]
  rfl

theorem sendNumbered_sess {m : UpMsg} {next : Option Nat} {l : List Q2Entry} {u : State} : (sendNumbered m next l u).sess = u.sess :=
  sendNumbered_only (bs := [.upl]) (by decide) (Only.refl _ u) .sess (by decide)

/-- The frames of a CIPHER leave the ones forwarded (R555). -/
def cipherTaken (l : List Q2Entry) (u : State) : State := u.onSess fun b => { b with forward := b.forward.drop l.length }

/-- BUNDLE_SEND of a child that has frames to forward (R555). -/
theorem exec_bundleSend_cipher {dt : Nat} {s u : State} {c : UpConn} {l : List Q2Entry} (hu : tick dt s = u) (hruns : uplinkRuns u = true)
    (hc : u.upl.conn = some c) (hup : c.up = true) (hparent : u.cfg.act.parent = true) (hcredit : c.unacked.length < u.upl.credit)
    (hforward : u.sess.forward ≠ []) (hwork : workTakes u .uplink 6 = true) (hl : l = cipherFit 64 16392 u.sess.forward) :
    exec (.bundleSend dt) s = .next (sendNumbered (.cipher (l.map (hopEntry u)) (signMessage 4 c.sendSeq (cipherBody (l.map (hopEntry u))) u).1)
      none l (signMessage 4 c.sendSeq (cipherBody (l.map (hopEntry u))) (cipherTaken l u)).2) := by
  subst hl
  show execBundleSend dt s = _
  unfold execBundleSend
  rw [hu]
  dsimp only
  rw [hc]
  dsimp only
  rw [if_pos (by simp [hruns, hwork, hup, hasCredit, hcredit]), if_pos (by simp [hparent, hforward])]
  rfl

/-- BUNDLE_SEND of a unit without a parent that has records enough, or old enough (R553, R554). -/
theorem exec_bundleSend_records {dt : Nat} {s u : State} {c : UpConn} {r : ArchRec} {l b : List ArchRec} (hu : tick dt s = u)
    (hruns : uplinkRuns u = true) (hc : u.upl.conn = some c) (hup : c.up = true) (hparent : u.cfg.act.parent = false)
    (hsend : sendable u c.sendPos = r :: l) (hdue : 256 ≤ (r :: l).length ∨ r.commitRc + ofMs u.cfg.act.bundleMaxMs ≤ u.rc)
    (hwork : workTakes u .uplink 6 = true) (hb : b = consecutive 256 r.pos (r :: l)) :
    exec (.bundleSend dt) s = .next (sendNumbered (.bundle (c.sendPos < r.pos) r.pos (b.map fun x => hopRecord u x.record)
      (signMessage 3 c.sendSeq (bundleBody (c.sendPos < r.pos) r.pos (b.map fun x => hopRecord u x.record)) u).1) (some (r.pos + b.length)) []
      (signMessage 3 c.sendSeq (bundleBody (c.sendPos < r.pos) r.pos (b.map fun x => hopRecord u x.record)) u).2) := by
  subst hb
  rw [← List.length_map (as := consecutive 256 r.pos (r :: l)) (fun x => hopRecord u x.record)]
  show execBundleSend dt s = _
  unfold execBundleSend
  rw [hu]
  dsimp only
  rw [hc]
  dsimp only
  rw [if_pos (by simp [hruns, hwork, hup, hasCredit, hparent]), if_neg (by simp [hparent]), hsend]
  exact if_pos (by simpa using hdue)

/-! ### What comes down (R556, R558, R560, R562, R563) -/

/-- The result of an exchange goes before the earlier ones, and changes nothing else of the uplink but the count of bad ones (R563). -/
theorem noteExchange_upl (e : Nat × Int × Bool) (u : State) :
    ∃ n, (noteExchange (some e) u).upl = { u.upl with exchanges := (e :: u.upl.exchanges).take 8, badEx := n } := by
  have hjudged : ∀ (l : List (Nat × Int × Bool)) (z : State), (if z.time.qualParent then (if z.upl.badEx = 4 then dropParentTime z else z)
      else if exchangesQualify l then selectSource (z.onTime fun t => { t with qualParent := true }) else z).upl = z.upl := by
    intro l z
    split
    · split
      · exact dropParentTime_upl z
      · rfl
    · split
      · exact selectSource_only (bs := [.time]) (by decide) (Only.refl _ (z.onTime fun t => { t with qualParent := true })) .upl (by decide)
      · rfl
  exact ⟨_, hjudged _ _⟩

/-- HELLO_ACK OK within the latency budget takes the connection up (R550, R569). -/
theorem exec_helloAck_ok {dt nextPos bound credit depth : Nat} {s u : State} {c : UpConn} (hu : tick dt s = u) (hruns : uplinkRuns u = true)
    (hc : u.upl.conn = some c) (hdown : c.up = false) (hparent : u.cfg.act.parent = true) (hbudget : hopBound u + bound ≤ u.cfg.act.latBudgetUs) :
    exec (.helloAck dt .ok nextPos bound credit depth) s = .next (goUp { c with lastRx := u.rc, sendPos := nextPos }
      ((u.onUpl fun x => { x with parentBound := bound, depth := depth % 256 }).onUpl fun x => { x with credit := credit % 65536 })) := by
  have hpath : pathBound (u.onUpl fun x => { x with parentBound := bound, depth := depth % 256 }) = hopBound u + bound :=
    congrArg (hopBound u + ·) (if_pos hparent)
  show execHelloAck dt .ok nextPos bound credit depth s = _
  unfold execHelloAck
  rw [hu]
  dsimp only
  rw [hc]
  dsimp only
  rw [if_neg (by simp [hruns, hdown, hparent]), if_neg (by decide), hpath]
  exact if_neg (Nat.not_lt.mpr hbudget)

/-- The cursor that an acknowledgement moves, with the messages that still wait (R556). -/
def ackedTo (pos : Nat) (waits : Unacked → Bool) (u : State) : State :=
  (heardUp u).onUpl fun x => { x with acked := pos, conn := x.conn.map fun n => { n with unacked := n.unacked.filter waits } }

theorem ackedTo_shows {pos : Nat} {waits : Unacked → Bool} {u : State} {c : UpConn} (hc : u.upl.conn = some c) :
    (ackedTo pos waits u).upl.acked = pos ∧
      (ackedTo pos waits u).upl.conn = some { c with lastRx := u.rc, unacked := c.unacked.filter waits } := by
  unfold ackedTo
  rw [heardUp_conn hc]
  exact ⟨rfl, rfl⟩

/-- The connection that notes T1 of a TIME_REQ (R563). -/
def asked (u : State) : State := u.onUpl fun x => { x with conn := x.conn.map fun n => { n with timeReqRc := u.rc, t1 := some u.tai } }

theorem asked_conn {u : State} {c : UpConn} (hc : u.upl.conn = some c) :
    (asked u).upl.conn = some { c with timeReqRc := u.rc, t1 := some u.tai } := by
  show u.upl.conn.map _ = _
  rw [hc]
  rfl

/-- The connection whose TIME_REQ has been answered (R563). -/
def replied (u : State) : State := (heardUp u).onUpl fun x => { x with conn := x.conn.map fun n => { n with t1 := none } }

theorem replied_conn {u : State} {c : UpConn} (hc : u.upl.conn = some c) : (replied u).upl.conn = some { c with lastRx := u.rc, t1 := none } := by
  unfold replied
  rw [heardUp_conn hc]
  rfl

/-- TIME_RESP to the request that waits: its exchange is noted, and steering changes nothing of the uplink (R129, R563). -/
theorem exec_timeResp {dt t1 t2 t3 : Nat} {utc : Int} {anchored leap61 leap59 : Bool} {s u : State} {c : UpConn} (hu : tick dt s = u)
    (hruns : uplinkRuns u = true) (hc : u.upl.conn = some c) (hup : c.up = true) (hparent : u.cfg.act.parent = true) (ht1 : c.t1 = some t1) :
    ∃ t, exec (.timeResp dt t1 t2 t3 utc anchored leap61 leap59) s = .next t ∧
      t.upl = (noteExchange (some (u.tai - t1, openDiv (((t1 : Int) - t2) + ((u.tai : Int) - t3)) 2, anchored)) (replied u)).upl := by
  have hexec : ∃ z : State, z.upl = (noteExchange (some (u.tai - t1, openDiv (((t1 : Int) - t2) + ((u.tai : Int) - t3)) 2, anchored))
      (replied u)).upl ∧ ∃ (f : TimeSt → TimeSt) (n : Int), exec (.timeResp dt t1 t2 t3 utc anchored leap61 leap59) s =
        if z.time.src = .parent then .next (proposeCorrection (baseIncr (z.onTime f)) n (z.onTime f)) else .next z := by
    refine ⟨?z, ?hz, ?f, ?n, ?he⟩
    case he =>
      show execTimeResp dt t1 t2 t3 utc anchored leap61 leap59 s = _
      unfold execTimeResp
      rw [hu]
      dsimp only
      rw [hc]
      dsimp only
      rw [if_pos (by simp [hruns, hup, hparent, ht1])]
    case hz => rfl
  obtain ⟨z, hz, f, n, he⟩ := hexec
  rw [he]
  split
  · refine ⟨_, rfl, ?_⟩
    rw [← hz]
    exact proposeCorrection_only (bs := [.hosts, .time, .evt]) (by decide) (Only.refl _ (z.onTime f)) .upl (by decide)
  · exact ⟨z, rfl, hz⟩

/-- An answer to a DOWN goes to the parent (R562). -/
theorem answerDown_sends {tag outcome : Nat} {u : State} {c : UpConn} (hc : u.upl.conn = some c) (hup : c.up = true)
    (hparent : u.cfg.act.parent = true) : answerDown tag outcome u =
      sendUp (.downResult tag outcome) (u.onUpl fun x => { x with downs := x.downs.filter fun d => d.body.tag != tag }) := by
  refine if_pos ?_
  show (((u.upl.conn.map (·.up)).getD false) && u.cfg.act.parent) = true
  rw [hc, hparent]
  simpa using hup

theorem exec_down {dt : Nat} {body : DownBody} {s u : State} {c : UpConn} (hu : tick dt s = u) (hruns : uplinkRuns u = true)
    (hc : u.upl.conn = some c) (hup : c.up = true) (hparent : u.cfg.act.parent = true) :
    exec (.down dt body) s = if !mayTransmit u then .next (answerDown body.tag 1 (heardUp u))
      else if body.addr = 0xFFFFFFFFFFFFFFFF then .next (takeMulticast body (heardUp u)) else .next (takeUnicast body (heardUp u)) := by
  show execDown dt body s = _
  unfold execDown
  rw [hu]
  dsimp only
  rw [hc]
  exact if_pos (by simp [hruns, hup, hparent])

/-- Settles O43: each message's guard and what the branch changes. Signing with slot 4, the cursor that HELLO_ACK leaves and a DOWN's outcome
are the model's (log entries 456, 232 and 234). -/
theorem uplink : Obligations.Uplink := by
  unfold Obligations.Uplink
  refine ⟨fun p => .of ?tries, fun p => .of ?hello, fun p => .of ?headEnd, fun p c => .of ?linkLoss, fun c => .of ?timeout, fun c => .of ?alive,
    fun c => .of ?heard, fun c l => .of ?cipher, fun c r l b => .of ?bundle, fun nextPos bound credit depth c => .of ?accepted,
    fun nextPos bound credit depth c => .of ?denied, fun seq pos c => .of ?acked, fun pos c => .of ?headAck, fun n c => .of ?credit,
    fun c => .of ?asks, fun t1 t2 t3 utc anchored leap61 leap59 c => .of ?time, fun body c => .of ?silent, fun body c => .of ?unicast⟩
  case tries =>
    rintro dt s u hu ⟨hruns, hnames, hnone, hretry, hport⟩
    exact ⟨_, exec_uplinkConnect hu hruns hnames hnone hretry hport, rfl⟩
  case hello =>
    rintro dt s u hu ⟨hruns, hnames, hnone, hretry, hport, hparent⟩
    refine ⟨_, (exec_uplinkConnect hu hruns hnames hnone hretry hport).trans (if_pos hparent), ?_⟩
    rw [sendUp_conn (u := connected p u) rfl]
    exact ⟨rfl, rfl, rfl, rfl⟩
  case headEnd =>
    rintro dt s u hu ⟨hruns, hnames, hnone, hretry, hport, hparent⟩
    refine ⟨goUp { port := p, lastRx := u.rc, lastTx := u.rc, sendPos := u.upl.acked } ((connected p u).onUpl fun x => { x with depth := 1 }),
      ?_, ?_⟩
    · rw [exec_uplinkConnect hu hruns hnames hnone hretry hport, if_neg (by decide), if_neg (by simp [hparent])]
    · rw [goUp_upl]
      exact ⟨rfl, rfl, rfl, rfl, rfl⟩
  case linkLoss =>
    rintro dt s u hu ⟨hruns, hc, hport, hlt⟩
    refine ⟨(endUp 1 (setLink p 0 u)).onUpl fun x =>
      { x with tryOther := p = u.upl.lastPort && upPort u (1 - p) && firstPort u == some p }, ?_, ?_⟩
    · show execUplinkLinkLoss dt p true s = _
      unfold execUplinkLinkLoss
      rw [hu]
      dsimp only
      rw [if_pos (by simp [hruns, hlt]), if_pos rfl, show (setLink p 0 u).upl.conn = some c from hc]
      exact if_pos (by simp [hport])
    · rw [State.onUpl_upl, endUp_upl (u := setLink p 0 u) hc]
      exact ⟨rfl, rfl, rfl⟩
  case timeout =>
    rintro dt s u hu ⟨hruns, hc, hsilent⟩
    refine ⟨endUp 1 u, ?_, ?_⟩
    · show execConnectionTimeout dt none s = _
      unfold execConnectionTimeout
      rw [hu]
      dsimp only
      rw [if_pos hruns, hc]
      dsimp only
      rw [if_pos hsilent]
    · rw [endUp_upl hc]
      exact ⟨rfl, rfl, rfl⟩
  case alive =>
    rintro dt s u hu ⟨hruns, hc, hup, hparent, hdue⟩
    refine ⟨sendUp .keepalive u, ?_, sendUp_conn hc⟩
    show execKeepaliveSend dt none s = _
    unfold execKeepaliveSend
    rw [hu]
    dsimp only
    rw [if_pos hruns, hc]
    dsimp only
    rw [if_pos (by simp [hup, hparent, hdue])]
  case heard =>
    rintro dt s u hu ⟨hruns, hc⟩
    refine ⟨heardUp u, ?_, heardUp_conn hc⟩
    show execKeepalive dt none s = _
    unfold execKeepalive
    rw [hu]
    exact if_pos hruns
  case cipher =>
    rintro dt s u hu ⟨hruns, hc, hup, hparent, hcredit, hforward, hwork, hl⟩
    refine ⟨_, exec_bundleSend_cipher hu hruns hc hup hparent hcredit hforward hwork hl, ?_⟩
    rw [sendNumbered_sess, sendNumbered_upl (c := c)]
    · exact ⟨rfl, rfl, rfl⟩
    · exact hc
  case bundle =>
    rintro dt s u hu ⟨hruns, hc, hup, hparent, hsend, hdue, hwork, hb⟩
    refine ⟨_, exec_bundleSend_records hu hruns hc hup hparent hsend hdue hwork hb, ?_⟩
    refine ⟨?_, ?_, sendNumbered_only (by decide) (signMessage_only (by decide) (Only.refl _ u))⟩
    · rw [sendNumbered_upl (c := c)]
      · rfl
      · exact hc
    · rw [sendNumbered_upl (c := c)]
      · rfl
      · exact hc
  case accepted =>
    rintro dt s u hu ⟨hruns, hc, hdown, hparent, hbudget⟩
    refine ⟨_, exec_helloAck_ok hu hruns hc hdown hparent hbudget, ?_⟩
    rw [goUp_upl]
    exact ⟨rfl, rfl, rfl, rfl, rfl⟩
  case denied =>
    rintro dt s u hu ⟨hruns, hc, hdown, hparent⟩
    refine ⟨endUp 4 u, ?_, ?_⟩
    · show execHelloAck dt .denied nextPos bound credit depth s = _
      unfold execHelloAck
      rw [hu]
      dsimp only
      rw [hc]
      dsimp only
      rw [if_neg (by simp [hruns, hdown, hparent]), if_pos (by decide)]
    · rw [endUp_upl hc]
      exact ⟨rfl, rfl⟩
  case acked =>
    rintro dt s u hu ⟨hruns, hc, hup, hparent⟩
    refine ⟨endCatchup (refreshPressure (ackedTo pos (fun m => seq < m.seq) u)), ?_, ?_⟩
    · show execAck dt seq pos s = _
      unfold execAck
      rw [hu]
      dsimp only
      rw [hc]
      exact if_pos (by simp [hruns, hup, hparent])
    · rw [endCatchup_upl, refreshPressure_upl]
      exact ackedTo_shows hc
  case headAck =>
    rintro dt s u hu ⟨hruns, hc, hup, hparent⟩
    refine ⟨endCatchup (ackedTo pos (fun m => pos < m.nextPos.getD 0) u), ?_, ?_⟩
    · show execHeadEndAck dt pos s = _
      unfold execHeadEndAck
      rw [hu]
      dsimp only
      rw [hc]
      exact if_pos (by simp [hruns, hup, hparent])
    · rw [endCatchup_upl]
      exact ackedTo_shows hc
  case credit =>
    rintro dt s u hu ⟨hruns, hc, hup, hparent⟩
    refine ⟨(heardUp u).onUpl fun x => { x with credit := n % 65536 }, ?_, by rw [heardUp_conn hc]; rfl⟩
    show execCredit dt n s = _
    unfold execCredit
    rw [hu]
    dsimp only
    rw [hc]
    exact if_pos (by simp [hruns, hup, hparent])
  case asks =>
    rintro dt s u hu ⟨hruns, hc, hup, hparent, hdue, hnone⟩
    refine ⟨sendUp (.timeReq u.tai) (asked u), ?_, ?_⟩
    · show execTimeReqSend dt s = _
      unfold execTimeReqSend
      rw [hu]
      dsimp only
      rw [hc]
      dsimp only
      rw [if_pos (by simp [hruns, hup, hparent, hdue]), hnone]
      rfl
    · rw [sendUp_conn (asked_conn hc)]
      rfl
  case time =>
    rintro dt s u hu ⟨hruns, hc, hup, hparent, ht1⟩
    obtain ⟨t, he, hupl⟩ := exec_timeResp (t2 := t2) (t3 := t3) (utc := utc) (anchored := anchored) (leap61 := leap61) (leap59 := leap59) hu
      hruns hc hup hparent ht1
    obtain ⟨n, hnote⟩ := noteExchange_upl (u.tai - t1, openDiv (((t1 : Int) - t2) + ((u.tai : Int) - t3)) 2, anchored) (replied u)
    refine ⟨t, he, ?_⟩
    rw [hupl, hnote]
    exact ⟨replied_conn hc, rfl⟩
  case silent =>
    rintro dt s u hu ⟨hruns, hc, hup, hparent, hsilent⟩
    refine ⟨answerDown body.tag 1 (heardUp u), ?_, ?_, answerDown_only (by decide) (heardUp_only (by decide) (Only.refl _ u))⟩
    · rw [exec_down hu hruns hc hup hparent, if_pos (by simpa using hsilent)]
    · have hheard : (heardUp u).upl.conn = some { c with lastRx := u.rc } := by
        rw [heardUp_conn hc]
        rfl
      rw [answerDown_sends hheard hup hparent, sendUp_conn (c := { c with lastRx := u.rc })]
      · show (heardUp u).upl.upOut ++ _ = _
        rw [heardUp_conn hc]
        rfl
      · exact hheard
  case unicast =>
    rintro dt s u hu ⟨hruns, hc, hup, hparent, htransmit, haddr⟩
    refine ⟨takeUnicast body (heardUp u), ?_, rfl⟩
    rw [exec_down hu hruns hc hup hparent, if_neg (by simp [htransmit]), if_neg haddr]

end Sys2Proof.Machine
end

section
/-! PROOFS. The statements of the uplink: the parent's side and the UPL commands. -/

namespace Sys2Proof.Machine

open Host (Outcome)

/-! ### What a message of a child leaves of the rest (R550, R556) -/

/-- After an operation on the uplink alone the rest of the state is as before. -/
theorem only_upl {u z : State} (h : Only [.upl] u z) : ∃ a, z = { u with upl := a } := by
  refine ⟨z.upl, ?_⟩
  have same := fun b => h b
  obtain ⟨_, _, _, _, _, _, _, _, _, _, _, _, _, _, _, _, _, _, _, _, _, _, _, _⟩ := z
  simp only [State.mk.injEq]
  exact ⟨same .cfg (by decide), same .hosts (by decide), same .mains (by decide), same .sched (by decide), same .time (by decide),
    same .fab (by decide), same .evt (by decide), same .pwr (by decide), same .met (by decide), same .rad (by decide), same .link (by decide),
    same .plc (by decide), same .sess (by decide), same .vee (by decide), same .bal (by decide), same .arch (by decide), trivial,
    same .fleet (by decide), same .pocket (by decide), same .fwu (by decide), same .pair (by decide), same .reg (by decide),
    same .pending (by decide), same .free (by decide)⟩

theorem creditOf_sess {u z : State} (h : z.sess = u.sess) : creditOf z = creditOf u := by
  unfold creditOf
  rw [h]

/-- The child whose message has been heard (R574). -/
def heardOf (x : Child) (u : State) : Child :=
  { x with lastSeenTai := u.tai, conn := x.conn.map fun n => { n with lastRx := u.rc } }

theorem heardChild_eq {c : Nat} {u : State} {x : Child} (h : childOf u c = some x) :
    ∃ a, heardChild c u = { u with upl := a } ∧ childOf { u with upl := a } c = some (heardOf x u) ∧ a.dnOut = u.upl.dnOut ∧
      a.skips = u.upl.skips ∧ a.resent = u.upl.resent ∧ a.overBound = u.upl.overBound := by
  obtain ⟨a, ha⟩ := only_upl (heardChild_only (c := c) (by decide) (Only.refl _ u))
  have hself := heardChild_self h
  have hupl : (heardChild c u).upl = { u.upl with children := (heardChild c u).upl.children } := onChild_upl _ _ _
  rw [ha] at hself hupl
  refine ⟨a, ha, hself, ?_⟩
  rw [show a = _ from hupl]
  exact ⟨rfl, rfl, rfl, rfl⟩

theorem bind_conn {u : State} {c : Nat} {x : Child} {n : ChildConn} (h : childOf u c = some x) (hn : x.conn = some n) :
    (childOf u c).bind (·.conn) = some n := by
  rw [h]
  exact hn

/-- A child with a connection. -/
theorem child_of_conn {u : State} {c : Nat} {n : ChildConn} (h : (childOf u c).bind (·.conn) = some n) :
    ∃ x, childOf u c = some x ∧ x.conn = some n := Option.bind_eq_some_iff.mp h

theorem endChild_conn (c : Nat) (u : State) : (childOf (endChild c u) c).bind (·.conn) = none := by
  unfold endChild
  cases h : childOf u c with
  | none =>
    have hsame : onChild c (fun x => { x with conn := none }) u = u := by
      unfold onChild
      rw [h]
    rw [hsame, h]
    rfl
  | some x =>
    rw [onChild_self h]
    rfl

/-! ### HELLO (R550, R557–R560) -/

/-- HELLO of a child not named is refused (R550). -/
theorem exec_hello_refused {dt port unit idHash formatId : Nat} {s u : State} (hu : tick dt s = u) (hruns : uplinkRuns u = true) (hport : port < 2)
    (hmode : (portCfg u port).mode ≠ 0) (huse : (portCfg u port).useChildren = true) (hnone : childOf u unit = none) :
    exec (.hello dt port unit idHash formatId) s = .next (refuseChild unit (setLink port (portCfg u port).mode u)) := by
  show execHello dt port unit idHash formatId s = _
  unfold execHello
  rw [hu]
  dsimp only
  rw [if_pos (by simp [hruns, hport, hmode, huse]), show childOf (setLink port (portCfg u port).mode u) unit = none from hnone]

/-- What HELLO notes of the child that it connects (R550, R558). -/
def connectedAs (formatId : Nat) (u : State) (x : Child) : Child :=
  { x with formatId := some formatId, conn := some { lastRx := u.rc, lastTx := u.rc, credit := creditOf u }
           lastSeenTai := u.tai, boundUs := min 0xFFFFFFFF (pathBound u) }

/-- The state in which HELLO has connected the child (R550, R558). -/
def connectChild (unit formatId : Nat) (u : State) : State := onChild unit (connectedAs formatId u) u

/-- HELLO of the child that CHILD_SET named, with the FORMAT_ID seen last, is answered with its cursor (R550, R557, R559, R560). -/
theorem exec_hello_named {dt port unit idHash formatId : Nat} {s u : State} {x : Child} (hu : tick dt s = u) (hruns : uplinkRuns u = true)
    (hport : port < 2) (hmode : (portCfg u port).mode ≠ 0) (huse : (portCfg u port).useChildren = true) (hx : childOf u unit = some x)
    (henabled : x.enabled = true) (hid : x.idHash = idHash) (hformat : x.formatId = some formatId)
    (hroom : (u.upl.children.filter fun k => k.1 != unit && k.2.conn.isSome).length < 512) :
    exec (.hello dt port unit idHash formatId) s = .next (sendChild unit (.helloAck .ok x.nextPos (min 0xFFFFFFFF (pathBound u)) (creditOf u)
      (u.upl.depth + 1)) (connectChild unit formatId (setLink port (portCfg u port).mode u))) := by
  obtain ⟨v, hv⟩ : ∃ v, v = setLink port (portCfg u port).mode u := ⟨_, rfl⟩
  have hx' : childOf v unit = some x := hv ▸ hx
  have hroom' : (v.upl.children.filter fun k => k.1 != unit && k.2.conn.isSome).length < 512 := hv ▸ hroom
  have hnext : ((childOf (connectChild unit formatId v) unit).map (·.nextPos)).getD 0 = x.nextPos := by
    unfold connectChild
    rw [onChild_self hx']
    rfl
  have hcredit : creditOf (connectChild unit formatId v) = creditOf u := by
    have hsess : (connectChild unit formatId v).sess = v.sess := onChild_only (bs := [.upl]) (by decide) (Only.refl _ v) .sess (by decide)
    exact creditOf_sess (hsess.trans (by rw [hv]; rfl))
  have hdepth : (connectChild unit formatId v).upl.depth = u.upl.depth := by
    unfold connectChild
    rw [onChild_upl, hv]
    rfl
  show execHello dt port unit idHash formatId s = _
  unfold execHello
  rw [hu]
  dsimp only
  rw [if_pos (by simp [hruns, hport, hmode, huse]), ← hv, hx']
  dsimp only
  rw [if_neg (by simp [henabled, hid]; exact hroom'), hformat]
  dsimp only
  rw [if_pos rfl]
  show Outcome.next (sendChild unit (.helloAck .ok (((childOf (connectChild unit formatId v) unit).map (·.nextPos)).getD 0) (min 0xFFFFFFFF (pathBound v))
    (creditOf (connectChild unit formatId v)) ((connectChild unit formatId v).upl.depth + 1)) (connectChild unit formatId v)) = _
  rw [hnext, hcredit, hdepth, hv]
  rfl

/-! ### Bundles and ciphertext (R555–R557, R564, R565) -/

/-- What a record at the cursor changes of its child (R556, R557). -/
def counted (pos : Nat) (x : Child) : Child :=
  { x with nextPos := pos + 1, recordsIn := inc32 x.recordsIn, uncommitted := x.uncommitted ++ [pos] }

/-- A record at the cursor and within its bound is pushed onto Q4, and the cursor moves (R556, R557, R564). -/
theorem takeChildRecord_next {c pos : Nat} {r : Record} {u : State} {x : Child} (hx : childOf u c = some x) (hpos : x.nextPos = pos)
    (hbound : r.residenceUs ≤ x.boundUs) : takeChildRecord c pos r u = pushQ4 (childRecord u c pos r)
      (onChild c (counted pos) u) := by
  unfold takeChildRecord
  rw [hx]
  dsimp only
  rw [if_neg (show ¬ x.boundUs < r.residenceUs by omega), if_neg (show ¬ pos < x.nextPos by omega)]
  rfl

/-- A message of records or entries that a child waits to see acknowledged (R556). -/
def noteWaiting (c seq pos : Nat) (u : State) : State :=
  onChild c (fun x => { x with conn := x.conn.map fun n => { n with waiting := n.waiting ++ [(seq, pos)] } }) u

theorem noteWaiting_sess (c seq pos : Nat) (u : State) : (noteWaiting c seq pos u).sess = u.sess :=
  onChild_only (bs := [.upl]) (by decide) (Only.refl _ u) .sess (by decide)

theorem noteWaiting_upl (c seq pos : Nat) (u : State) :
    (noteWaiting c seq pos u).upl = { u.upl with children := (noteWaiting c seq pos u).upl.children } := onChild_upl _ _ _

theorem ackChild_sess (c : Nat) (u : State) : (ackChild c u).sess = u.sess :=
  ackChild_only (bs := [.upl]) (by decide) (Only.refl _ u) .sess (by decide)

/-- BUNDLE of one record at its child's cursor (R554, R556, R557). -/
theorem exec_bundle_next {dt child seq first : Nat} {r : Record} {s u : State} {x : Child} {n : ChildConn} (hu : tick dt s = u)
    (hx : childOf u child = some x) (hn : x.conn = some n) (hruns : uplinkRuns u = true) (hheld : u.sess.q4Held = []) (hpos : x.nextPos = first) :
    exec (.bundle dt child seq first [r]) s =
      .next (ackChild child (noteWaiting child seq (first + 1) (takeChildRecord child first r (heardChild child u)))) := by
  obtain ⟨a, ha, hself, -⟩ := heardChild_eq hx
  have hcursor : ((childOf (heardChild child u) child).map (·.nextPos)).getD 0 = first := by
    rw [ha, hself]
    exact hpos
  show execBundle dt child seq first [r] s = _
  unfold execBundle
  rw [hu]
  dsimp only
  rw [bind_conn hx hn]
  dsimp only
  rw [if_neg (by simp [hruns, hheld]), if_neg (by simp), hcursor, if_neg (Nat.lt_irrefl _)]
  rfl

/-- What pushing an entry onto Q2 does: it comes last, one more frame is counted, and back-pressure changes no field of a child but a
connection (R49, R402, R560). -/
theorem pushQ2_takes (e : Q2Entry) (u : State) :
    (pushQ2 e u).sess.q2 ++ (pushQ2 e u).sess.q2Held = u.sess.q2 ++ u.sess.q2Held ++ [{ e with slot := u.sess.stagePtr }] ∧
      (pushQ2 e u).hosts.framesIn = inc32 u.hosts.framesIn ∧
      ∀ {c : Nat} {x : Child}, childOf u c = some x → ∃ k, childOf (pushQ2 e u) c = some { x with conn := k } := by
  have hhosts : (countPush 2 u.sess.q2 u.sess.q2Held u).hosts = u.hosts :=
    countPush_only (bs := [.fab]) (by decide) (Only.refl _ u) .hosts (by decide)
  have hupl : (countPush 2 u.sess.q2 u.sess.q2Held u).upl = u.upl :=
    countPush_only (bs := [.fab]) (by decide) (Only.refl _ u) .upl (by decide)
  refine ⟨?_, ?_, fun {c x} hx => ?_⟩
  · unfold pushQ2
    rw [refreshPressure_sess]
    dsimp only [State.onHosts, State.onSess]
    rw [countPush_sess]
    exact pushOrHold_append _ _ _ _
  · unfold pushQ2
    rw [refreshPressure_only (bs := [.sess, .upl]) (by decide) (Only.refl _ _) .hosts (by decide)]
    exact congrArg (fun h : HostsSt => inc32 h.framesIn) hhosts
  · exact refreshPressure_conn ((congrArg (fun y : UplSt => tfind y.children c) hupl).trans hx)

/-- What a CIPHER of one entry changes of its child (R556, R574). -/
def countCipher (seq : Nat) (x : Child) : Child :=
  { x with cipherIn := w32 (x.cipherIn + 1), conn := x.conn.map fun n => { n with waiting := n.waiting ++ [(seq, 0)] } }

theorem noteCipher_sess (c seq : Nat) (u : State) : (onChild c (countCipher seq) u).sess = u.sess :=
  onChild_only (bs := [.upl]) (by decide) (Only.refl _ u) .sess (by decide)

/-- CIPHER of one entry that finds room in staging (R402, R555, R565). -/
theorem exec_cipher_one {dt child seq : Nat} {e : Q2Entry} {s u : State} {x : Child} {n : ChildConn} (hu : tick dt s = u)
    (hx : childOf u child = some x) (hn : x.conn = some n) (hruns : uplinkRuns u = true)
    (hroom : slotsOf e.length + stagingUsed u ≤ stagingSlots u) (hbytes : cipherEntryBytes e ≤ 16392) :
    exec (.cipher dt child seq [e]) s =
      .next (ackChild child (onChild child (countCipher seq) (pushQ2 (childEntry (heardChild child u) child e) (heardChild child u)))) := by
  have hform : ([e].isEmpty || decide (64 < [e].length) || decide (16464 < [e].foldl (fun n e => n + cipherEntryBytes e) (8 + 64))) = false :=
    decide_eq_false (show ¬ 16464 < 8 + 64 + cipherEntryBytes e by omega)
  show execCipher dt child seq [e] s = _
  unfold execCipher
  rw [hu]
  dsimp only
  rw [bind_conn hx hn]
  dsimp only
  rw [if_neg (by simp [hruns]), if_neg (Bool.eq_false_iff.mp hform), if_neg (by simp; omega)]
  rfl

/-! ### The UPL commands (R573–R575) -/

/-- CHILD_READ's answer (R574). -/
def childReport (n : Nat) (x : Child) : List Byte :=
  leBytes 2 n ++ leBytes 1 (if !x.enabled then 3 else if x.conn.isSome then 2 else 1) ++ leBytes 5 0 ++ leBytes 8 x.nextPos
    ++ leBytes 8 x.lastSeenTai ++ leBytes 4 x.recordsIn ++ leBytes 4 x.cipherIn ++ leBytes 4 x.overBound ++ leBytes 4 x.boundUs ++ leBytes 8 0

/-- CHILD_SET of a child that no entry holds, with an identity that no other child has (R559, R575). -/
theorem childSet_names {tk : Taken} {u : State} (hmay : mayHaveChildren u = true) (hn : fld tk.payload 0 2 ≤ 4095)
    (hown : fld tk.payload 0 2 ≠ u.cfg.act.unitId) (hen : fld tk.payload 2 1 = 1) (hnone : childOf u (fld tk.payload 0 2) = none)
    (hfree : ∀ k ∈ u.upl.children, k.1 ≠ fld tk.payload 0 2 → k.2.idHash ≠ fld tk.payload 8 32) :
    childSet tk u = (u.onUpl fun x =>
      { x with children := tput x.children (fld tk.payload 0 2) { enabled := true, idHash := fld tk.payload 8 32 } }, answer .ok) := by
  have hother : (u.upl.children.any fun k => k.1 != fld tk.payload 0 2 && k.2.idHash == fld tk.payload 8 32) = false := by
    simpa [List.any_eq_false] using hfree
  unfold childSet
  dsimp only
  rw [if_neg (by simp [hmay]), if_neg (by rw [hother]; simp [hn, hown, hen]), hnone, hen]
  rfl

/-- Settles O44: each message's guard and what the branch changes. A BUNDLE out of form is handled as R555 handles a CIPHER (the model's, log
entry 239). -/
theorem deviceTree : Obligations.DeviceTree := by
  unfold Obligations.DeviceTree
  refine ⟨fun port unit idHash formatId => .of ?refused, fun port unit idHash formatId x => .of ?named,
    fun child seq first recs n => .of ?malformed, fun child seq first r x n => .of ?record, fun child seq e x n => .of ?cipher,
    fun child t1 n => .of ?time, fun child tag outcome n => .of ?result, fun child n => .of ?timeout, fun child n => .of ?alive,
    ?status, fun x => ?shows, ?unknown, ?names, ?locked⟩
  case refused =>
    rintro dt s u hu ⟨hruns, hport, hmode, huse, hnone⟩
    refine ⟨_, exec_hello_refused hu hruns hport hmode huse hnone, ?_⟩
    have hupl : (refuseChild unit (setLink port (portCfg u port).mode u)).upl =
        { (setLink port (portCfg u port).mode u).upl with dnOut := u.upl.dnOut ++ [(unit, 1, .helloAck .denied 0 0 0 0)] } :=
      raise_only (bs := [.hosts, .evt]) (by decide) (Only.refl _ _) .upl (by decide)
    refine ⟨?_, ?_, logged_raise rfl rfl⟩
    · rw [hupl]
    · rw [hupl]
      rfl
  case named =>
    rintro dt s u hu ⟨hruns, hport, hmode, huse, hx, henabled, hid, hformat, hroom⟩
    refine ⟨_, exec_hello_named hu hruns hport hmode huse hx henabled hid hformat hroom, ?_⟩
    obtain ⟨hself, hout⟩ := sendChild_self (m := .helloAck .ok x.nextPos (min 0xFFFFFFFF (pathBound u)) (creditOf u) (u.upl.depth + 1))
      (onChild_self (f := connectedAs formatId (setLink port (portCfg u port).mode u))
        (s := setLink port (portCfg u port).mode u) hx) rfl
    refine ⟨?_, ?_, ?_⟩
    · refine hout.trans ?_
      rw [onChild_upl]
      rfl
    · exact congrArg (Option.map (·.nextPos)) hself
    · exact congrArg (fun y => (Option.bind y (·.conn)).map (·.sendSeq)) hself
  case malformed =>
    rintro dt s u hu ⟨hn, hruns, hheld, hform⟩
    refine ⟨malformed child u, ?_, rfl, ?_⟩
    · show execBundle dt child seq first recs s = _
      unfold execBundle
      rw [hu]
      dsimp only
      rw [hn]
      dsimp only
      rw [if_neg (by simp [hruns, hheld]), if_pos (by rcases hform with rfl | h <;> simp [*])]
    · have hupl : (malformed child u).upl = (endChild child u).upl :=
        raise_only (bs := [.hosts, .evt]) (by decide) (Only.refl _ _) .upl (by decide)
      unfold childOf
      rw [hupl]
      exact endChild_conn child u
  case record =>
    rintro dt s u hu ⟨hx, hn, hruns, hheld, hpos, hbound⟩
    refine ⟨_, exec_bundle_next hu hx hn hruns hheld hpos, ?_⟩
    obtain ⟨a, ha, hself, hdn, hskips, hresent, hover⟩ := heardChild_eq hx
    rw [ha, takeChildRecord_next hself hpos hbound]
    obtain ⟨q, h, hsess, hq⟩ := pushQ4_sess (childRecord { u with upl := a } child first r)
      (onChild child (counted first) { u with upl := a })
    have hrest : (onChild child (counted first) { u with upl := a }).sess = u.sess :=
      onChild_only (bs := [.upl]) (by decide) (Only.refl _ _) .sess (by decide)
    have hupl : (pushQ4 (childRecord { u with upl := a } child first r) (onChild child (counted first) { u with upl := a })).upl =
        (onChild child (counted first) { u with upl := a }).upl :=
      pushQ4_only (bs := [.fab, .sess]) (by decide) (Only.refl _ _) .upl (by decide)
    refine ⟨?_, ?_, ?_⟩
    · rw [ackChild_sess, noteWaiting_sess, hsess]
      refine hq.trans ?_
      rw [hrest, hheld, List.append_nil]
      rfl
    · obtain ⟨k, hk⟩ := ackChild_self (onChild_self (c := child) (f := fun y => { y with conn := y.conn.map fun n =>
        { n with waiting := n.waiting ++ [(seq, first + 1)] } })
        ((congrArg (fun y : UplSt => tfind y.children child) hupl).trans (onChild_self (f := counted first) hself)))
      exact ⟨k, hk⟩
    · rw [ackChild_upl, noteWaiting_upl, hupl, onChild_upl]
      exact ⟨hskips, hresent, hover⟩
  case cipher =>
    rintro dt s u hu ⟨hx, hn, hruns, hroom, hbytes⟩
    obtain ⟨a, ha, hself, -⟩ := heardChild_eq hx
    obtain ⟨hq, hframes, hchild⟩ := pushQ2_takes (childEntry { u with upl := a } child e) { u with upl := a }
    obtain ⟨k, hk⟩ := hchild hself
    refine ⟨_, exec_cipher_one hu hx hn hruns hroom hbytes, ?_⟩
    rw [ha]
    refine ⟨?_, ?_, ?_⟩
    · rw [ackChild_sess, noteCipher_sess]
      exact hq
    · rw [ackChild_only (bs := [.upl]) (by decide) (Only.refl _ _) .hosts (by decide),
        onChild_only (bs := [.upl]) (by decide) (Only.refl _ _) .hosts (by decide)]
      exact hframes
    · obtain ⟨k', hk'⟩ := ackChild_self (onChild_self (c := child) (f := countCipher seq) hk)
      exact ⟨k', hk'⟩
  case time =>
    rintro dt s u hu ⟨hn, hruns⟩
    obtain ⟨x, hx, hconn⟩ := child_of_conn hn
    obtain ⟨a, ha, hself, hdn, -⟩ := heardChild_eq hx
    refine ⟨sendChild child (.timeResp t1 u.tai u.tai (utcOffset u).1 u.mains.anchored (leapFlags u).1 (leapFlags u).2) (heardChild child u),
      ?_, ?_⟩
    · show execTimeReq dt child t1 s = _
      unfold execTimeReq
      rw [hu]
      dsimp only
      rw [hn]
      exact if_pos hruns
    · rw [ha]
      refine (sendChild_self (n := { n with lastRx := u.rc }) hself ?_).2.trans ?_
      · show x.conn.map _ = _
        rw [hconn]
        rfl
      · rw [← hdn]
  case result =>
    rintro dt s u hu ⟨hn, hruns⟩
    obtain ⟨x, hx, -⟩ := child_of_conn hn
    refine ⟨(heardChild child u).onUpl fun y =>
      { y with downSeen := y.downSeen ++ [(child, tag, outcome)], downFailed := if outcome = 0 then y.downFailed else inc32 y.downFailed }, ?_, ?_⟩
    · show execDownResult dt child tag outcome s = _
      unfold execDownResult
      rw [hu]
      dsimp only
      rw [hn]
      exact if_pos hruns
    · show (heardChild child u).upl.downSeen ++ _ = _
      unfold heardChild
      rw [onChild_upl]
  case timeout =>
    rintro dt s u hu ⟨hruns, hn, hsilent⟩
    refine ⟨endChild child u, ?_, endChild_conn child u, endChild_only (by decide) (Only.refl _ u)⟩
    show execConnectionTimeout dt (some child) s = _
    unfold execConnectionTimeout
    rw [hu]
    dsimp only
    rw [if_pos hruns, hn]
    dsimp only
    rw [if_pos hsilent]
  case alive =>
    rintro dt s u hu ⟨hruns, hn, hdue⟩
    obtain ⟨x, hx, hconn⟩ := child_of_conn hn
    refine ⟨sendChild child .keepalive u, ?_, (sendChild_self hx hconn).2⟩
    show execKeepaliveSend dt (some child) s = _
    unfold execKeepaliveSend
    rw [hu]
    dsimp only
    rw [if_pos hruns, hn]
    dsimp only
    rw [if_pos hdue]
  case status =>
    exact .of (fun _ _ _ => rfl) fun h tk u _ => ⟨_, rfl, by simp, by simp⟩
  case shows =>
    refine .of (fun _ _ _ => rfl) fun h tk u hx => ⟨childReport (fld tk.payload 0 2) x, ?_, by simp [childReport], by simp [childReport]⟩
    unfold childRead
    dsimp only
    rw [hx]
    rfl
  case unknown =>
    refine .of (fun _ _ _ => rfl) fun h tk u _ hnone => ⟨u, answer .badarg, ?_, ⟨rfl, rfl⟩, .inl (by decide)⟩
    unfold childRead
    dsimp only
    rw [hnone]
  case names =>
    refine .of (fun _ _ _ => rfl) fun h tk u _ ⟨hmay, hn, hown, hen, hnone, hfree⟩ =>
      ⟨_, _, childSet_names hmay hn hown hen hnone hfree, ⟨rfl, rfl⟩, .inl (by decide)⟩
  case locked =>
    exact .of (fun _ _ _ => rfl) fun h tk u _ hno => ⟨_, _, if_pos (by simp [hno]), ⟨rfl, rfl⟩, .inl (by decide)⟩

end Sys2Proof.Machine
end

section
/-! PROOFS. The statements of topology and balance. -/

namespace Sys2Proof.Machine

open Host (Outcome)

/-! ### Samples and the daily compile (R452, R478, R487) -/

/-- TOPO_SAMPLE of a log whose next record is committed (R452). -/
theorem exec_topoSample {dt : Nat} {s u : State} {x : Record} (hu : tick dt s = u) (hworks : archWorks u = true)
    (hruns : workRuns u .balance = true) (hlog : u.arch.logBase ≤ u.bal.logPos)
    (hx : u.arch.commitLog[u.bal.logPos - u.arch.logBase]? = some x) (hon : balDisabled u = false) :
    exec (.topoSample dt) s = .next (topoTake x (u.onBal fun b => { b with logPos := b.logPos + 1 })) := by
  show execTopoSample dt s = _
  unfold execTopoSample
  rw [hu]
  dsimp only
  rw [if_neg (by simp [hworks, hruns]), if_neg (Nat.not_lt.mpr hlog), hx]
  exact congrArg _ (if_neg (by rw [show balDisabled (u.onBal fun b => { b with logPos := b.logPos + 1 }) = false from hon]; decide))

/-- A mirrored balance and its checkpoint leave the days compiled. -/
theorem mirrorBal_bal (u : State) : (mirrorBal u).bal = u.bal := by
  unfold mirrorBal
  exact Only.foldl (bs := [.hosts, .evt, .pair]) (fun _ _ h => mirror_only (by decide) h) (Only.refl _ u) .bal (by decide)

theorem balCheckpoint_bal (d : Nat) (u : State) : (balCheckpoint d u).bal = u.bal :=
  balCheckpoint_only (bs := [.arch]) (by decide) (Only.refl _ u) .bal (by decide)

/-- A day compiled in its turn is the last one compiled (R478). -/
theorem compileDay_last (d : Nat) (u : State) : (compileDay d false u).bal.lastDay = some d ∧ (compileDay d false u).bal.lostMark = false := by
  unfold compileDay
  rw [mirrorBal_bal, balCheckpoint_bal]
  exact ⟨rfl, rfl⟩

/-- BAL_COMPILE of the day that BAL_RECOMPILE asked for (R487). -/
theorem exec_balCompile_again {dt d : Nat} {s u : State} (hu : tick dt s = u) (hon : balDisabled u = false) (hworks : archWorks u = true)
    (hruns : workRuns u .balance = true) (hd : u.bal.recompile = some d) :
    exec (.balCompile dt) s = .next (compileDay d true (u.onBal fun b => { b with recompile := none })) := by
  show execBalCompile dt s = _
  unfold execBalCompile
  rw [hu]
  dsimp only
  rw [if_neg (by simp [hon, hworks, hruns]), hd]

/-- BAL_COMPILE of the last day due, while the unit catches up (R478). -/
theorem exec_balCompile_last {dt d : Nat} {s u : State} (hu : tick dt s = u) (hon : balDisabled u = false) (hworks : archWorks u = true)
    (hruns : workRuns u .balance = true) (hnone : u.bal.recompile = none) (hdays : dueDays u = [d]) (hcatching : u.bal.catching = true) :
    exec (.balCompile dt) s = .next (compileDay d false (u.onBal fun b => { b with catching := false })) := by
  show execBalCompile dt s = _
  unfold execBalCompile
  rw [hu]
  dsimp only
  rw [if_neg (by simp [hon, hworks, hruns]), hnone]
  dsimp only
  rw [hdays]
  dsimp only
  rw [if_neg (by simp [hcatching])]
  simp

/-! ### The BALANCE commands (R488–R493) -/

/-- TOPO_READ's answer (R488). -/
def topoReport (m : Nat) (b : TopoMeter) (u : State) : List Byte :=
  leBytes 4 m ++ leBytes 1 b.result.state ++ leBytes 1 b.result.phase ++ leBytes 1 b.result.feeder
    ++ leBytes 1 (b.result.source + 16 * bit b.pinned) ++ leBytes 2 b.result.phaseConf ++ leBytes 2 b.result.feederConf
    ++ leBytesI 2 b.result.rPhase ++ leBytesI 2 b.result.rFeeder ++ leBytes 4 b.result.n ++ leBytes 2 b.child ++ leBytes 2 b.result.zcMean
    ++ leBytes 8 (dayTai u b.windowDay) ++ leBytes 8 b.since ++ leBytes 1 (b.assigned.getD (0xFF, 0xFF)).2
    ++ leBytes 1 (b.assigned.getD (0xFF, 0xFF)).1 ++ leBytes 2 b.changes ++ leBytes 4 0

theorem topoRead_known {tk : Taken} {u : State} (h : (ctxOf u (fld tk.payload 0 4)).isSome) :
    topoRead tk u = (u, okWith (topoReport (fld tk.payload 0 4) (topoOf u (fld tk.payload 0 4)) u)) :=
  if_neg (by simpa [Option.isSome_iff_ne_none] using h)

/-- BAL_FEEDER_SET of a feeder of the unit itself, with its limits in range (R490). -/
theorem balFeederSet_declares {tk : Taken} {u : State} (hchild : fld tk.payload 0 2 = 0) (hfeeder : fld tk.payload 2 1 ≤ 7)
    (hphase : fld tk.payload 3 1 ≤ 2) (hflag : fld tk.payload 4 1 ≤ 1) (hmax : 0 < fld tk.payload 12 4 ∧ fld tk.payload 12 4 ≤ 10000000)
    (hdecl : fld tk.payload 8 4 ≤ fld tk.payload 12 4) : ∃ t, balFeederSet tk u = (t, answer .ok) ∧
      t.bal.feeders = tput u.bal.feeders (feederIx 0 (fld tk.payload 2 1) (fld tk.payload 3 1))
        { feederOf u 0 (fld tk.payload 2 1) (fld tk.payload 3 1) with declared := fld tk.payload 4 1 = 1, rDecl := fld tk.payload 8 4,
                                                                      rMax := fld tk.payload 12 4, fixedW := fld tk.payload 16 4 } := by
  unfold balFeederSet
  dsimp only
  rw [if_neg (by simp [hchild]; omega), hchild]
  refine ⟨_, rfl, ?_⟩
  exact congrArg BalSt.feeders (mirror_only (bs := [.hosts, .evt, .pair]) (by decide) (Only.refl _ _) .bal (by decide))

/-- BAL_REPORT_READ of a day that is kept, for a feeder and phase of a child (R491). -/
theorem balReportRead_kept {tk : Taken} {u : State} {x : BalSummary} (hday : isMidnight u (fld tk.payload 0 8) = true)
    (hfresh : dayStale u (utcDay u (fld tk.payload 0 8)) = false) (hchild : (balChildren u).contains (fld tk.payload 8 2) = true)
    (hfeeder : fld tk.payload 10 1 ≤ 7) (hphase : fld tk.payload 11 1 ≤ 3)
    (hx : u.bal.summaries.find? (fun x => x.dayTai == fld tk.payload 0 8 && x.child == fld tk.payload 8 2 && x.feeder == fld tk.payload 10 1
      && x.phase == fld tk.payload 11 1) = some x) : balReportRead tk u = (u, okWith (summaryBytes x)) := by
  unfold balReportRead
  dsimp only
  rw [if_neg (by rw [hday, hchild]; simp [hfeeder, hphase]), if_neg (by simp [hfresh]), hx]

/-- SCORE_READ's answer (R492). -/
def scoreReport (x : ScoreSt) : List Byte :=
  leBytes 2 x.score ++ x.comps.flatMap (leBytes 2) ++ leBytesI 2 x.rho ++ leBytesI 2 x.rhoMed ++ leBytes 2 (x.tamper / 4294967296)
    ++ leBytes 2 (x.sums.zeros.toNat / 4294967296) ++ leBytes 2 (x.changes / 4294967296) ++ leBytes 4 0

theorem scoreReport_shows {x : ScoreSt} (h : x.comps.length = 4) :
    (scoreReport x).length = 24 ∧ Shows (scoreReport x) 0 2 x.score ∧ ShowsI (scoreReport x) 10 2 x.rho := by
  have hcomps : (x.comps.flatMap (leBytes 2)).length = 8 := by rw [length_flatMap_leBytes, h]
  simp [scoreReport, hcomps]

/-- Settles O40: each operation's guard and what the branch changes, and the fields of the answers. A compile as one step and the days that it
takes are the model's (log entries 120 and 121). -/
theorem topologyAndBalance : Obligations.TopologyAndBalance := by
  unfold Obligations.TopologyAndBalance
  refine ⟨fun x => .of ?samples, fun d => .of ?again, fun d => .of ?due, fun b => ?topo, ?pins, ?releases, ?feeder, fun x => ?report, ?score,
    ?counters, ?recompile⟩
  case samples =>
    rintro dt s u hu ⟨hworks, hruns, hlog, hx, hon⟩
    exact ⟨_, exec_topoSample hu hworks hruns hlog hx hon, rfl⟩
  case again =>
    rintro dt s u hu ⟨hon, hworks, hruns, hd⟩
    exact ⟨_, exec_balCompile_again hu hon hworks hruns hd, rfl⟩
  case due =>
    rintro dt s u hu ⟨hon, hworks, hruns, hnone, hdays, hcatching⟩
    exact ⟨_, exec_balCompile_last hu hon hworks hruns hnone hdays hcatching, rfl, compileDay_last d _⟩
  case topo =>
    refine .of (fun _ _ _ => rfl) fun h tk u ⟨hknown, hb⟩ => ⟨_, topoRead_known hknown, ?_⟩
    subst hb
    simp [topoReport]
  case pins =>
    exact .of (fun _ _ _ => rfl) fun h tk u _ ⟨hknown, hmode, hfeeder, hphase, hcandidate⟩ => ⟨_, _,
      (if_neg (by simpa [Option.isSome_iff_ne_none, hmode] using hknown)).trans ((if_neg (by simp [hmode])).trans
        (if_neg (by simp [hfeeder, hphase, hcandidate]))), ⟨rfl, rfl⟩, .inl (by decide)⟩
  case releases =>
    exact .of (fun _ _ _ => rfl) fun h tk u _ ⟨hknown, hmode⟩ => ⟨_, _,
      (if_neg (by simpa [Option.isSome_iff_ne_none, hmode] using hknown)).trans (if_pos hmode), ⟨rfl, rfl⟩, .inl (by decide)⟩
  case feeder =>
    refine .of (fun _ _ _ => rfl) fun h tk u _ ⟨hchild, hfeeder, hphase, hflag, hmin, hmax, hdecl⟩ => ?_
    obtain ⟨t, he, hfeeders⟩ := balFeederSet_declares (u := u) hchild hfeeder hphase hflag ⟨hmin, hmax⟩ hdecl
    exact ⟨t, _, he, ⟨rfl, hfeeders⟩, .inl (by decide)⟩
  case report =>
    exact .of (fun _ _ _ => rfl) fun h tk u ⟨hday, hfresh, hchild, hfeeder, hphase, hx⟩ =>
      ⟨_, balReportRead_kept hday hfresh hchild hfeeder hphase hx, by simp [summaryBytes], rfl, by simp [summaryBytes]⟩
  case score =>
    refine .of (fun _ _ _ => rfl) fun h tk u ⟨hknown, hfour⟩ => ⟨scoreReport (topoOf u (fld tk.payload 0 4)).score,
      if_neg (by simpa [Option.isSome_iff_ne_none] using hknown), scoreReport_shows hfour⟩
  case counters =>
    exact .of (fun _ _ _ => rfl) fun h tk u _ => ⟨_, rfl, by simp, by simp⟩
  case recompile =>
    exact .of (fun _ _ _ => rfl) fun h tk u _ ⟨hnone, hday, hfresh⟩ => ⟨_, _,
      (if_neg (by simp [hnone])).trans ((if_neg (by simp [hday])).trans (if_neg (by simp [hfresh]))), ⟨rfl, rfl⟩, .inl (by decide)⟩

end Sys2Proof.Machine
end

section
/-! PROOFS. The statement of the archive's pages: packing, programs, failing dies, space recovery, patrol and temperatures. -/

namespace Sys2Proof.Machine

open Host (Outcome)

/-! ### Packing and flushing (R524) -/

/-- The state in which the next record of Q5 stands in the open page. -/
def packed (r : Record) (rest : List Record) (u : State) : State :=
  (u.onVee fun v => { v with q5 := (refill (Config.ringDepth 5) rest v.q5Held).1, q5Held := (refill (Config.ringDepth 5) rest v.q5Held).2 }).onArch
    fun a => { a with openKey := if a.openRecs.isEmpty then u.key else a.openKey, openRecs := a.openRecs ++ [{ pos := a.nextPos, record := r }],
                      nextPos := a.nextPos + 1 }

theorem packOne_takes {u : State} {r : Record} {rest : List Record} (hq : u.vee.q5 = r :: rest) (htakes : workTakes u .pageMap 5 = true)
    (hroom : u.arch.openRecs.length < 256) : packOne u = packed r rest u := by
  unfold packOne
  rw [hq]
  exact if_neg (by simp [htakes, hroom])

theorem packed_length (r : Record) (rest : List Record) (u : State) :
    (packed r rest u).arch.openRecs.length = u.arch.openRecs.length + 1 := List.length_append ..

/-- What Q5 shows when it holds nothing back. -/
theorem packed_q5 {u : State} {r : Record} {rest : List Record} (hheld : u.vee.q5Held = []) : (packed r rest u).vee.q5 = rest := by
  simp [packed, State.onVee, State.onArch, hheld, refill]

theorem writeSide_idle {u : State} (hseg : u.arch.segWait = []) (hsum : u.arch.sumWait = []) : writeSide u = u := by
  unfold writeSide
  rw [hseg]
  exact if_pos (by simp [hsum])

theorem writeOpen_empties {flags : Nat} {u w : State} (h : writeOpen flags u = some w) : w.arch.openRecs = [] := by
  unfold writeOpen at h
  split at h
  · exact absurd h (by simp)
  · cases h
    rfl

/-- RECORD_PACK when no segment and no summary waits. -/
theorem exec_recordPack {dt : Nat} {s u : State} (hu : tick dt s = u) (hworks : se13Works u = true) (hseg : u.arch.segWait = [])
    (hsum : u.arch.sumWait = []) : exec (.recordPack dt) s =
      .next (if 256 ≤ (packOne u).arch.openRecs.length then (writeOpen 0 (packOne u)).getD (packOne u) else packOne u) := by
  show execRecordPack dt s = _
  unfold execRecordPack
  rw [hu]
  dsimp only
  rw [writeSide_idle hseg hsum]
  exact if_pos hworks

theorem exec_pageFlush {dt : Nat} {s u w : State} (hu : tick dt s = u) (hworks : se13Works u = true) (hopen : u.arch.openRecs ≠ [])
    (hdue : u.arch.openKey + u.cfg.act.arch.flushMc * mc ≤ u.key) (hw : writeOpen 1 u = some w) :
    exec (.pageFlush dt) s = .next (flushStripe .records w) := by
  show execPageFlush dt s = _
  unfold execPageFlush
  rw [hu]
  dsimp only
  rw [if_pos (by simp [hworks, hopen, hdue]), hw]

/-! ### Programs (R498, R512) -/

theorem exec_pageProgramDone_good {dt die q : Nat} {rest : List Nat} {s u : State} (hu : tick dt s = u) (hon : nandOn u = true)
    (hq : tget u.arch.queues die [] = q :: rest) : exec (.pageProgramDone dt die true) s = .next (commitNew (u.onArch fun a =>
      { a with queues := tput a.queues die rest, pages := a.pages.map fun p => if p.seq = q then { p with programmed := true } else p })) := by
  show execPageProgramDone dt die true s = _
  unfold execPageProgramDone
  rw [hu]
  dsimp only
  rw [hon, Bool.true_or, hq]
  exact if_pos rfl

theorem exec_pageProgramDone_bad {dt die q : Nat} {rest : List Nat} {p : PhysPage} {s u : State} (hu : tick dt s = u) (hon : nandOn u = true)
    (hq : tget u.arch.queues die [] = q :: rest) (hp : u.arch.pages.find? (fun p => p.seq == q) = some p) :
    exec (.pageProgramDone dt die false) s = .next (abandonSb p.group (some p.blk) (writeJournal (growBad p.die p.blk (u.onArch fun a =>
      { a with queues := tput a.queues die rest })))) := by
  have hp' : (u.onArch fun a => { a with queues := tput a.queues die rest }).arch.pages.find? (fun p => p.seq == q) = some p := hp
  show execPageProgramDone dt die false s = _
  unfold execPageProgramDone
  rw [hu]
  dsimp only
  rw [hon, Bool.true_or, hq]
  dsimp only
  rw [if_neg Bool.false_ne_true, hp']

/-! ### Dies (R513, R515, R533) -/

/-- A die in use takes its change. -/
theorem dieOf_onDie {u : State} {die : Nat} {d : DieSt} {f : DieSt → DieSt} (hd : dieOf u die = some d) : dieOf (onDie die f u) die = some (f d) := by
  unfold onDie
  rw [hd]
  exact tfind_tput_self

theorem onDie_frame (die : Nat) (f : DieSt → DieSt) (u : State) : Only [.arch] u (onDie die f u) := onDie_only (by decide) (Only.refl _ u)

/-- A change of a die leaves the pages, the next SEQ and the temperatures of the archive. -/
theorem onDie_keeps (die : Nat) (f : DieSt → DieSt) (u : State) : (onDie die f u).arch.pages = u.arch.pages ∧
    (onDie die f u).arch.nextSeq = u.arch.nextSeq ∧ (onDie die f u).arch.tempMax = u.arch.tempMax ∧
      (onDie die f u).arch.tempRc = u.arch.tempRc := by
  unfold onDie
  split <;> exact ⟨rfl, rfl, rfl, rfl⟩

theorem exec_dieRebuildDone {dt die : Nat} {d : DieSt} {s u : State} (hu : tick dt s = u) (hworks : archWorks u = true)
    (hd : dieOf u die = some d) (hstate : d.state = 1) (hnone : ∀ p ∈ u.arch.pages, p.die = die → validPage u p = false)
    (hrest : relocating u = false) :
    exec (.dieRebuildDone dt die) s = .next (writeJournal (onDie die (fun d => { d with state := 2 }) u)) := by
  have hleft : (u.arch.pages.filter fun p => p.die == die && validPage u p) = [] :=
    List.filter_eq_nil_iff.mpr fun p hp => by
      intro h
      obtain ⟨hdie, hvalid⟩ := (Bool.and_eq_true ..).mp h
      exact absurd hvalid (by simp [hnone p hp (by simpa using hdie)])
  show execDieRebuildDone dt die s = _
  unfold execDieRebuildDone
  rw [hu]
  dsimp only
  rw [hd]
  dsimp only
  rw [if_pos (by simp [hworks, hstate]), hleft]
  exact (if_pos rfl).trans (if_neg (by simp [hrest]))

/-- NAND_TEMP_READ of one die, the first or 60 s after the last. -/
theorem exec_nandTempRead_one {dt die : Nat} {c : Int} {s u : State} (hu : tick dt s = u) (hon : nandOn u = true)
    (hfeature : u.cfg.startCfg.arch.tempFeature = true) (hfirst : u.arch.tempRc = none) :
    exec (.nandTempRead dt [(die, c)]) s = .next ((onDie die (fun d => { d with temps := bumpAt d.temps (tempBin c), tempNow := c })
      (u.onArch fun a => { a with tempRc := some u.rc })).onArch
        fun a => { a with tempMax := if (tfind a.dies die).isSome then max a.tempMax c else a.tempMax }) := by
  show execNandTempRead dt [(die, c)] s = _
  unfold execNandTempRead
  rw [hu]
  exact if_pos (by simp [hon, hfeature, hfirst])

theorem exec_nandTempRead_early {dt x : Nat} {l : List (Nat × Int)} {s u : State} (hu : tick dt s = u) (hlast : u.arch.tempRc = some x)
    (hearly : u.rc < x + ofS 60) : exec (.nandTempRead dt l) s = .next u := by
  show execNandTempRead dt l s = _
  unfold execNandTempRead
  rw [hu]
  exact if_neg (by simp [hlast, hearly])

/-! ### Space recovery (R529, R530) -/

theorem exec_spaceRecovery_erases {dt g b : Nat} {fails : List Nat} {s u : State} (hu : tick dt s = u) (hworks : se13Works u = true)
    (hvictim : u.arch.victim = some (g, b)) (hempty : validIn u g b = []) (hrest : relocating u = false) (hsuper : superseding u g b = []) :
    exec (.spaceRecovery dt fails) s = .next (checkReadOnly (eraseSb g b fails u)) := by
  show execSpaceRecovery dt fails s = _
  unfold execSpaceRecovery
  rw [hu]
  dsimp only
  rw [if_pos hworks, hvictim]
  dsimp only
  rw [hempty, hsuper]
  exact (if_neg (by simp)).trans ((if_neg (by simp [hrest])).trans (if_neg (by simp)))

theorem exec_spaceRecovery_idle {dt : Nat} {fails : List Nat} {s u : State} (hu : tick dt s = u) (hworks : se13Works u = true)
    (hnone : u.arch.victim = none) (hlevel : gcLevel u = 0) (hspread : wearSpread u = false) : exec (.spaceRecovery dt fails) s = .next u := by
  show execSpaceRecovery dt fails s = _
  unfold execSpaceRecovery
  rw [hu]
  dsimp only
  rw [if_pos hworks, hnone]
  exact if_pos (by simp [hlevel, hspread])

/-- Counting erases leaves the pages and the victim. -/
theorem countErases_keep (b : Nat) (dies : List Nat) (u : State) :
    (dies.foldl (fun s d => countErase d b s) u).arch.pages = u.arch.pages ∧
      (dies.foldl (fun s d => countErase d b s) u).arch.victim = u.arch.victim := by
  induction dies generalizing u with
  | nil => exact ⟨rfl, rfl⟩
  | cons d dies ih => exact ih (countErase d b u)

/-- An erase that succeeds on every die leaves no victim and none of the superblock's pages. -/
theorem eraseSb_good (g b : Nat) (u : State) : (eraseSb g b [] u).arch.victim = none ∧
    (eraseSb g b [] u).arch.pages = u.arch.pages.filter fun p => !(p.group == g && p.blk == b) := by
  have hany : (sbDies u g b).any (List.contains ([] : List Nat)) = false := by simp
  have hstep : (fun (s : State) d => if ([] : List Nat).contains d then growBad d b s else countErase d b s) = fun s d => countErase d b s := by
    funext s d
    exact if_neg (by simp)
  obtain ⟨hpages, hvictim⟩ := countErases_keep b (sbDies u g b)
    (u.onArch fun a => { a with pages := a.pages.filter (fun p => !(p.group == g && p.blk == b)), victim := none })
  unfold eraseSb
  dsimp only
  rw [hany, hstep, if_neg Bool.false_ne_true]
  exact ⟨hvictim, hpages⟩

/-- The check for the read-only state leaves the pages and the victim. -/
theorem checkReadOnly_keeps (u : State) : (checkReadOnly u).arch.victim = u.arch.victim ∧ (checkReadOnly u).arch.pages = u.arch.pages := by
  unfold checkReadOnly
  split
  · have hraised (v : State) : (raise .archReadOnly 0x50 [] v).arch = v.arch :=
      raise_only (bs := [.hosts, .evt]) (by decide) (Only.refl _ v) .arch (by decide)
    rw [hraised]
    exact ⟨rfl, rfl⟩
  · exact ⟨rfl, rfl⟩

/-! ### Patrol (R532) -/

/-- A read that succeeds before the stripe is needed leaves the pages and the next SEQ. -/
theorem readPage_keeps {p : PhysPage} {corr : List Nat} {step : Nat} {second : Option Nat} {u : State} (h : step < 4) :
    (readPage p corr step second u).arch.pages = u.arch.pages ∧ (readPage p corr step second u).arch.nextSeq = u.arch.nextSeq ∧
      Only [.arch] u (readPage p corr step second u) := by
  unfold readPage
  dsimp only
  rw [if_pos h]
  obtain ⟨hpages, hseq, -, -⟩ := onDie_keeps p.die _ _
  exact ⟨hpages, hseq, onDie_only (by decide) (onArch_only (by decide) (Only.refl _ u))⟩

/-- PATROL_READ of the next page: read, and relocated where it was found weak. -/
theorem exec_patrolRead {dt step : Nat} {corr : List Nat} {second : Option Nat} {p : PhysPage} {s u v : State} (hu : tick dt s = u)
    (hworks : se13Works u = true) (hp : patrolPage u = some p)
    (hv : readPage p corr step second (u.onArch fun a => { a with patrolNext := p.lpn + 1 }) = v) :
    exec (.patrolRead dt corr step second) s =
      .next (if ((corr.any (90 ≤ ·) || 2 ≤ step || p.seq + 1073741824 ≤ v.arch.nextSeq) && step < 4) = true then relocate p v else v) := by
  show execPatrolRead dt corr step second s = _
  unfold execPatrolRead
  rw [hu]
  dsimp only
  rw [if_pos hworks, hp]
  dsimp only
  rw [hv]

theorem exec_patrolRead_pass {dt step : Nat} {corr : List Nat} {second : Option Nat} {s u : State} (hu : tick dt s = u)
    (hworks : se13Works u = true) (hnone : patrolPage u = none)
    (hdue : u.arch.patrolRc + ofS (86400 * u.cfg.act.arch.patrolDays) ≤ u.rc) :
    exec (.patrolRead dt corr step second) s = .next (u.onArch fun a => { a with patrolNext := 0, patrolRc := u.rc }) := by
  show execPatrolRead dt corr step second s = _
  unfold execPatrolRead
  rw [hu]
  dsimp only
  rw [if_pos hworks, hnone]
  exact congrArg _ (if_pos hdue)

/-- Settles O41: each operation's guard and what its branch changes. The patrol pass, what a failed program's superblock queues again and the
writing of system pages are the model's (log entries 455, 20 and 110). -/
theorem archivePages : Obligations.ArchivePages := by
  unfold Obligations.ArchivePages
  refine ⟨fun r rest => .of ?packs, .of ?fills, fun w => .of ?flushes, fun die q rest => .of ?programs, fun die q rest p => .of ?fails,
    fun die d => .of ?timeouts, fun die d => .of ?dieFails, fun die d => .of ?rebuilt, fun g b fails => .of ?erases, fun g b => .of ?gone,
    fun fails => .of ?idles, fun p corr step second => .of ?reads, fun p corr step second => .of ?relocates, fun corr step second => .of ?passes,
    fun die c d => .of ?temps, fun l x => .of ?early⟩
  case packs =>
    rintro dt s u hu ⟨hworks, hseg, hsum, hq, hheld, htakes, hroom⟩
    have hpack := packOne_takes hq htakes (Nat.lt_trans hroom (by decide))
    have hlen := packed_length r rest u
    refine ⟨packed r rest u, ?_, packed_q5 hheld, rfl, rfl, rfl, onArch_only (by decide) (onVee_only (by decide) (Only.refl _ u))⟩
    rw [exec_recordPack hu hworks hseg hsum, hpack, if_neg (by omega)]
  case fills =>
    rintro dt s u hu ⟨hworks, hseg, hsum, hq, htakes, hlast⟩
    obtain ⟨r, rest, hq⟩ := List.exists_cons_of_ne_nil hq
    have hpack := packOne_takes hq htakes (by omega)
    have hlen := packed_length r rest u
    refine ⟨_, (exec_recordPack hu hworks hseg hsum).trans (congrArg _ (if_pos (by rw [hpack]; omega))), rfl, fun hsome => ?_⟩
    obtain ⟨w, hw⟩ := Option.isSome_iff_exists.mp hsome
    rw [hw]
    exact writeOpen_empties hw
  case flushes =>
    rintro dt s u hu ⟨hworks, hopen, hdue, hw⟩
    exact ⟨_, exec_pageFlush hu hworks hopen hdue hw, rfl, writeOpen_empties hw⟩
  case programs =>
    rintro dt s u hu ⟨hon, hq⟩
    exact ⟨_, exec_pageProgramDone_good hu hon hq, rfl⟩
  case fails =>
    rintro dt s u hu ⟨hon, hq, hp⟩
    exact ⟨_, exec_pageProgramDone_bad hu hon hq hp, rfl⟩
  case timeouts =>
    rintro dt s u hu ⟨hon, hd⟩
    refine ⟨onDie die (fun d => { d with timeouts := recent d.timeouts u.rc (ofS 600) }) u, ?_, dieOf_onDie hd, onDie_frame _ _ u⟩
    show execNandOperationTimeout dt die s = _
    unfold execNandOperationTimeout
    rw [hu]
    exact if_pos hon
  case dieFails =>
    rintro dt s u hu ⟨hworks, hd, hdue⟩
    refine ⟨_, ?_, rfl⟩
    show execDieFail dt die s = _
    unfold execDieFail
    rw [hu]
    dsimp only
    rw [hd]
    exact congrArg _ (if_pos (by simp [hworks, hdue]))
  case rebuilt =>
    rintro dt s u hu ⟨hworks, hd, hstate, hnone, hrest⟩
    exact ⟨_, exec_dieRebuildDone hu hworks hd hstate hnone hrest, rfl⟩
  case erases =>
    rintro dt s u hu ⟨hworks, hvictim, hempty, hrest, hsuper⟩
    exact ⟨_, exec_spaceRecovery_erases hu hworks hvictim hempty hrest hsuper, rfl⟩
  case gone =>
    rintro dt s u hu ⟨hworks, hvictim, hempty, hrest, hsuper⟩
    obtain ⟨hcv, hcp⟩ := checkReadOnly_keeps (eraseSb g b [] u)
    obtain ⟨hev, hep⟩ := eraseSb_good g b u
    refine ⟨_, exec_spaceRecovery_erases hu hworks hvictim hempty hrest hsuper, rfl, hcv.trans hev, fun p hp hin => ?_⟩
    rw [hcp, hep] at hp
    exact absurd (List.mem_filter.mp hp).2 (by simp [hin])
  case idles =>
    rintro dt s u hu ⟨hworks, hnone, hlevel, hspread⟩
    exact ⟨_, exec_spaceRecovery_idle hu hworks hnone hlevel hspread, rfl⟩
  case reads =>
    rintro dt s u hu ⟨hworks, hp, hcorr, hstep, hseq⟩
    obtain ⟨hpages, hnext, honly⟩ := readPage_keeps (p := p) (corr := corr) (second := second) (Nat.lt_trans hstep (by decide : 2 < 4))
      (u := u.onArch fun a => { a with patrolNext := p.lpn + 1 })
    have hstrong : corr.any (90 ≤ ·) = false := List.any_eq_false.mpr fun c hc => by simpa using hcorr c hc
    refine ⟨_, (exec_patrolRead hu hworks hp rfl).trans (congrArg _ (if_neg ?_)), rfl, hpages, (onArch_only (by decide) (Only.refl _ u)).trans honly⟩
    rw [hnext, hstrong]
    simp [Nat.not_le.mpr hstep, Nat.not_le.mpr hseq]
  case relocates =>
    rintro dt s u hu ⟨hworks, hp, hstep⟩
    exact ⟨_, (exec_patrolRead hu hworks hp rfl).trans (congrArg _ (if_pos (by rcases hstep with rfl | rfl <;> simp))), rfl⟩
  case passes =>
    rintro dt s u hu ⟨hworks, hnone, hdue⟩
    exact ⟨_, exec_patrolRead_pass hu hworks hnone hdue, rfl⟩
  case temps =>
    rintro dt s u hu ⟨hon, hfeature, hfirst, hd⟩
    have hd' : dieOf (u.onArch fun a => { a with tempRc := some u.rc }) die = some d := hd
    have hafter := dieOf_onDie (f := fun d => { d with temps := bumpAt d.temps (tempBin c), tempNow := c }) hd'
    obtain ⟨-, -, hmax, hrc⟩ := onDie_keeps die (fun d => { d with temps := bumpAt d.temps (tempBin c), tempNow := c })
      (u.onArch fun a => { a with tempRc := some u.rc })
    refine ⟨_, exec_nandTempRead_one hu hon hfeature hfirst, hafter, ?_, hrc,
      onArch_only (by decide) (onDie_only (by decide) (onArch_only (by decide) (Only.refl _ u)))⟩
    exact (if_pos (by rw [show tfind _ die = some _ from hafter]; rfl)).trans (congrArg (max · c) hmax)
  case early =>
    rintro dt s u hu ⟨hlast, hearly⟩
    exact ⟨_, exec_nandTempRead_early hu hlast hearly, rfl⟩

end Sys2Proof.Machine
end

section
/-! PROOFS. The statement of host block requests, the event extension, queries, formats and the ARCH commands. -/

namespace Sys2Proof.Machine

open Host (Outcome)

/-! ### Host block requests (R521–R523, R661) -/

/-- A request ring, the completion ring of its owner, the request at its head, and room for one more completion (R661). -/
structure RequestStands (ring : Nat) (q c : RingSt) (b : List Byte) (rest : List (List Byte)) (u : State) : Prop where
  on : itemsRun u = true
  found : u.hosts.rings.find? (fun r => r.number == ring && r.source == 4) = some q
  head : q.items = b :: rest
  completion : u.hosts.rings.find? (fun r => r.owner == q.owner && r.source == 5) = some c
  room : ringFill c + (u.arch.reqs.filter fun r => r.host == q.owner).length < c.depth

/-- The state in which a request is taken from its ring and kept. -/
def requestKept (q : RingSt) (rest : List (List Byte)) (r : HostReq) (u : State) : State :=
  (setRing { q with items := rest, cons := inc32 q.cons } u).onArch fun a => { a with reqs := a.reqs ++ [r] }

/-- A read that may start is kept. -/
theorem exec_hostBlockRequest_read {dt ring : Nat} {data rest : List (List Byte)} {q c : RingSt} {b : List Byte} {s u : State} (hu : tick dt s = u)
    (h : RequestStands ring q c b rest u) (hst : hostReqStatus u (hostReqOf q.owner c.number b) = .ok) (hop : fld b 0 1 = 0) :
    exec (.hostBlockRequest dt ring data) s = .next (requestKept q rest (hostReqOf q.owner c.number b) u) := by
  have hop' : (hostReqOf q.owner c.number b).op = 0 := hop
  show execHostBlockRequest dt ring data s = _
  unfold execHostBlockRequest
  rw [hu]
  dsimp only
  rw [if_neg (by simp [show radioOn u = true from h.on]), h.found]
  dsimp only
  rw [h.head, h.completion]
  dsimp only
  rw [if_neg (Nat.not_le.mpr h.room), hst, hop', if_neg (by simp), if_neg (by simp), if_neg (by simp), if_neg (by simp)]
  exact if_neg (by simp)

/-- A request that may not start is kept with its status. -/
theorem exec_hostBlockRequest_refused {dt ring : Nat} {data rest : List (List Byte)} {q c : RingSt} {b : List Byte} {st : Status} {s u : State}
    (hu : tick dt s = u) (h : RequestStands ring q c b rest u) (hst : hostReqStatus u (hostReqOf q.owner c.number b) = st) (hbad : st ≠ .ok) :
    exec (.hostBlockRequest dt ring data) s = .next (requestKept q rest { hostReqOf q.owner c.number b with status := st } u) := by
  show execHostBlockRequest dt ring data s = _
  unfold execHostBlockRequest
  rw [hu]
  dsimp only
  rw [if_neg (by simp [show radioOn u = true from h.on]), h.found]
  dsimp only
  rw [h.head, h.completion]
  dsimp only
  rw [if_neg (Nat.not_le.mpr h.room), hst, if_neg (by simp [hbad])]
  exact if_pos (by simpa using hbad)

/-- The completion of a request that is no read. -/
theorem exec_hostBlockComplete_other {dt n : Nat} {r : HostReq} {s u w : State} (hu : tick dt s = u) (hon : itemsRun u = true)
    (hr : u.arch.reqs[n]? = some r) (hdone : reqDone u r = true) (hop : r.op ≠ 0)
    (hw : pushRing r.ring (leBytes 4 r.tag ++ leBytes 1 (statusCode r.status) ++ [0] ++
      leBytes 2 (if r.status ≠ .ok ∨ r.op = 2 then 0 else r.count) ++ leBytes 8 0) (u.onArch fun a => { a with reqs := a.reqs.eraseIdx n }) = some w) :
    exec (.hostBlockComplete dt n) s = .next w := by
  have hread : (decide (r.op = 0) && r.status == .ok) = false := by simp [hop]
  have hcount : (if (r.status != .ok || decide (r.op = 2)) = true then 0 else r.count) = if r.status ≠ .ok ∨ r.op = 2 then 0 else r.count :=
    ite_congr (by simp) (fun _ => rfl) (fun _ => rfl)
  show execHostBlockComplete dt n s = _
  unfold execHostBlockComplete
  rw [hu]
  dsimp only
  rw [if_neg (by simp [show radioOn u = true from hon]), hr]
  dsimp only
  rw [if_pos hdone, hread]
  simp only [Bool.false_and, Bool.false_eq_true, if_false]
  rw [hcount, hw]

/-- The completion of a read without a lost sector. -/
theorem exec_hostBlockComplete_read {dt n : Nat} {r : HostReq} {s u w : State} (hu : tick dt s = u) (hon : itemsRun u = true)
    (hr : u.arch.reqs[n]? = some r) (hdone : reqDone u r = true) (hop : r.op = 0) (hst : r.status = .ok) (hgood : goodSectors u r = r.count)
    (hw : pushRing r.ring (leBytes 4 r.tag ++ leBytes 1 0 ++ [0] ++ leBytes 2 r.count ++ leBytes 8 0) (u.onArch fun a =>
      { a with reqs := a.reqs.eraseIdx n,
               hostReads := a.hostReads ++ [(r.host, r.buf, (List.range r.count).flatMap fun k => sectorOf u (r.lba + k))] }) = some w) :
    exec (.hostBlockComplete dt n) s = .next w := by
  have hw' : pushRing r.ring (leBytes 4 r.tag ++ leBytes 1 0 ++ [0] ++ leBytes 2 r.count ++ leBytes 8 0) ((u.onArch fun a =>
      { a with hostReads := a.hostReads ++ [(r.host, r.buf, (List.range r.count).flatMap fun k => sectorOf u (r.lba + k))] }).onArch fun a =>
        { a with reqs := a.reqs.eraseIdx n }) = some w := hw
  have hread : (decide (r.op = 0) && r.status == .ok) = true := by simp [hop, hst]
  have hdata : (r.status != .ok || decide (r.op = 2)) = false := by simp [hop, hst]
  have hstale : decide (r.count < r.count) = false := by simp
  show execHostBlockComplete dt n s = _
  unfold execHostBlockComplete
  rw [hu]
  dsimp only
  rw [if_neg (by simp [show radioOn u = true from hon]), hr]
  dsimp only
  rw [if_pos hdone, hread]
  simp only [if_true, hgood, hstale, hdata, Bool.and_false, Bool.false_eq_true, if_false]
  rw [hst]
  simp only [statusCode]
  rw [hw']

/-! ### The event extension and formats (R542, R766) -/

theorem exec_eventCopy {dt : Nat} {s u : State} (hu : tick dt s = u) (hruns : copyingRuns u = true) (hwait : 256 ≤ u.evt.ring.length)
    (hnew : ∀ p ∈ u.arch.pages, p.lpn ≠ eventRegion + u.evt.ext.length / 256) :
    exec (.eventCopy dt) s = .next (storePage (eventRegion + u.evt.ext.length / 256)
      (.events (((u.evt.ext ++ u.evt.ring).drop (256 * (u.evt.ext.length / 256))).take 256)) u) := by
  have hsome : u.evt.ring.isEmpty = false := by
    rw [← Bool.not_eq_true, List.isEmpty_iff_length_eq_zero]
    omega
  have hnone : (u.arch.pages.any fun p => p.lpn == eventRegion + u.evt.ext.length / 256 && validPage u p && !p.durable) = false :=
    List.any_eq_false.mpr fun p hp => by simp [hnew p hp]
  show execEventCopy dt s = _
  unfold execEventCopy
  rw [hu]
  dsimp only
  rw [if_pos (by simp [hruns, hsome, hwait]), hnone]
  exact congrArg _ (if_neg Bool.false_ne_true)

/-- The state that a format makes before its journal is written (R542, R559). -/
theorem formatted_eq (groups : List (List Nat)) (pages spare : Nat) (u : State) : ∃ z,
    formatted groups pages spare u = settle (settle (writeJournal z)) ∧ z.arch.state = 2 ∧ z.arch.map = [] ∧ z.arch.pages = [] ∧
      z.arch.nextSeq = 0 ∧ z.arch.erases = [] ∧ z.arch.openRecs = [] ∧ z.arch.nextPos = 0 ∧ z.arch.format.map (·.groups) = some groups ∧
      z.arch.format.map (·.recPages) = some pages ∧ z.upl.acked = 0 ∧ z.sess.dirty = u.sess.ctxs.map (fun c => (c.1, u.key)) :=
  ⟨_, rfl, rfl, rfl, rfl, rfl, rfl, rfl, rfl, rfl, rfl, rfl, rfl⟩

theorem exec_formatComplete {dt pages spare : Nat} {groups : List (List Nat)} {s u : State} (hu : tick dt s = u) (hon : nandOn u = true)
    (hstate : u.arch.state = 5) (hplan : formatPlan u = (groups, some (pages, spare))) (hext : u.evt.ext = []) :
    exec (.formatComplete dt) s = .next ((formatted groups pages spare u).onEvt fun v => { v with ext := [], extGone := [] }) := by
  show execFormatComplete dt s = _
  unfold execFormatComplete
  rw [hu]
  dsimp only
  rw [if_pos (by simp [hon, hstate]), hplan]
  dsimp only
  rw [hext]
  exact congrArg _ (if_pos rfl)

theorem exec_formatComplete_fails {dt : Nat} {s u : State} (hu : tick dt s = u) (hon : nandOn u = true) (hstate : u.arch.state = 5)
    (hnone : (formatPlan u).2 = none) : exec (.formatComplete dt) s = .next (setAlarm 0x80 (u.onArch fun a => { a with state := 4 })) := by
  have hplan : formatPlan u = ((formatPlan u).1, none) := Prod.ext rfl hnone
  show execFormatComplete dt s = _
  unfold execFormatComplete
  rw [hu]
  dsimp only
  rw [if_pos (by simp [hon, hstate]), hplan]

/-! ### Health (R536, R537) -/

/-- The start of ARCH_HEALTH's answer: counts of dies, space, wear and temperature, and HIST (R536). -/
def healthHead (u : State) : List Byte :=
  leBytes 1 u.arch.dies.length ++ leBytes 1 (u.arch.dies.filter fun d => d.2.state != 0).length ++ leBytes 1 (u.arch.format.getD {}).width
    ++ leBytes 1 u.arch.state ++ leBytes 2 (ratioOf (spareNow u * 1000) (u.arch.format.getD {}).spare)
    ++ leBytes 2 (wearOf u ((u.arch.erases.map (·.2)).foldl (· + ·) 0) (max 1 (u.arch.dies.length * u.arch.blocks)))
    ++ leBytes 2 (wearOf u ((u.arch.erases.map (·.2)).foldl max 0) 1) ++ leBytesI 2 u.arch.tempMax
    ++ leBytes 4 (u.arch.bad.filter fun b => b.2.2).length ++ leBytes 4 (ratioOf (u.arch.format.getD {}).recPages 65536)
    ++ leBytes 4 ((u.arch.format.getD {}).hostPages / 65536) ++ u.arch.hist.flatMap (leBytes 4)

/-- The rest of ARCH_HEALTH's answer: the counts of reads and losses, the amounts written, and the record ring (R536). -/
def healthRest (u : State) : List Byte :=
  [u.arch.retryReads, u.arch.softReads, u.arch.uncorr, u.arch.rebuilds, u.arch.pagesLost, u.arch.recordsLost].flatMap (leBytes 4)
    ++ (u.arch.written.map fun n => ratioOf n 65536).flatMap (leBytes 4)
    ++ leBytes 4 (((recordPages u).head?.map fun p => ((recsOf p).headD {}).record.seq).getD 0) ++ leBytes 4 u.vee.indexDrops
    ++ leBytes 8 (((recordPages u).head?.map (·.commitTai)).getD 0) ++ leBytes 4 u.arch.scanMs ++ leBytes 4 u.arch.unsent ++ leBytes 8 0

theorem archHealth_eq (tk : Taken) (u : State) : archHealth tk u = (u, okWith (healthHead u ++ healthRest u)) := by
  unfold archHealth healthHead healthRest
  simp only [List.append_assoc]

/-- ARCH_DIE_READ's answer (R537). -/
def dieReport (d : Nat) (x : DieSt) (u : State) : List Byte :=
  leBytes 1 d ++ leBytes 1 x.state ++ leBytes 1 (((groupsOf u).findIdx? (·.contains d)).getD 0) ++ [0] ++ leBytes 2 x.badFactory
    ++ leBytes 2 x.badGrown ++ leBytes 4 (ratioOf ((dieErases u d).foldl (· + ·) 0) u.arch.blocks) ++ leBytes 4 ((dieErases u d).foldl max 0)
    ++ x.hist.flatMap (leBytes 4) ++ x.reads.flatMap (leBytes 4) ++ x.temps.flatMap (leBytes 4) ++ leBytesI 2 x.tempNow ++ leBytes 2 0

theorem archDieRead_known {tk : Taken} {x : DieSt} {u : State} (hx : dieOf u (fld tk.payload 0 1) = some x) :
    archDieRead tk u = (u, okWith (dieReport (fld tk.payload 0 1) x u)) := by
  unfold archDieRead
  dsimp only
  rw [hx]
  rfl

theorem healthHead_shows {u : State} (hhist : u.arch.hist.length = 16) (b : List Byte) : (healthHead u).length = 88 ∧
    Shows (healthHead u ++ b) 0 1 u.arch.dies.length ∧ Shows (healthHead u ++ b) 3 1 u.arch.state ∧
      ShowsI (healthHead u ++ b) 10 2 u.arch.tempMax := by
  have hbins : (u.arch.hist.flatMap (leBytes 4)).length = 64 := by rw [length_flatMap_leBytes, hhist]
  simp [healthHead, hbins]

theorem healthRest_shows {u : State} (hwritten : u.arch.written.length = 4) : (healthRest u).length = 72 ∧
    Shows (healthRest u) 0 4 u.arch.retryReads ∧ Shows (healthRest u) 4 4 u.arch.softReads ∧ Shows (healthRest u) 8 4 u.arch.uncorr ∧
      Shows (healthRest u) 12 4 u.arch.rebuilds ∧ Shows (healthRest u) 16 4 u.arch.pagesLost ∧
      Shows (healthRest u) 20 4 u.arch.recordsLost := by
  have hamounts : ((u.arch.written.map fun n => ratioOf n 65536).flatMap (leBytes 4)).length = 16 := by
    rw [length_flatMap_leBytes, List.length_map, hwritten]
  simp [healthRest, hamounts]

theorem dieReport_shows {d : Nat} {x : DieSt} {u : State} (hhist : x.hist.length = 16) (hreads : x.reads.length = 4)
    (htemps : x.temps.length = 33) : (dieReport d x u).length = 232 ∧ Shows (dieReport d x u) 0 1 d ∧ Shows (dieReport d x u) 1 1 x.state ∧
      Shows (dieReport d x u) 4 2 x.badFactory ∧ Shows (dieReport d x u) 6 2 x.badGrown ∧ ShowsI (dieReport d x u) 228 2 x.tempNow := by
  have hbins : (x.hist.flatMap (leBytes 4)).length = 64 := by rw [length_flatMap_leBytes, hhist]
  have hsteps : (x.reads.flatMap (leBytes 4)).length = 16 := by rw [length_flatMap_leBytes, hreads]
  have hdegrees : (x.temps.flatMap (leBytes 4)).length = 132 := by rw [length_flatMap_leBytes, htemps]
  simp [dieReport, hbins, hsteps, hdegrees]

/-! ### Queries (R538–R540) -/

/-- Work given to the engines stands last on Q11 or in what is held for it (R47, R49). -/
theorem pushQ11_gives (w : ManagerWork) (u : State) :
    (pushQ11 w u).fab.q11 ++ (pushQ11 w u).fab.q11Held = u.fab.q11 ++ u.fab.q11Held ++ [w] := by
  have hcount : (countPush 11 u.fab.q11 u.fab.q11Held u).fab.q11 = u.fab.q11 ∧
      (countPush 11 u.fab.q11 u.fab.q11Held u).fab.q11Held = u.fab.q11Held := by
    unfold countPush countRefused
    split <;> exact ⟨rfl, rfl⟩
  unfold pushQ11
  dsimp only [State.onFab]
  rw [hcount.1, hcount.2]
  exact pushOrHold_append ..

/-- The query that ARCH_QUERY takes, by the record pages that it scans. -/
def queryTaken (q : ArchQuery) (u : State) : ArchQuery :=
  { q with id := u.arch.nextQuery, nextPos := ((pagesOfQuery u q).map firstPos).headD 0,
           endPos := (((pagesOfQuery u q).map fun p => firstPos p + (recsOf p).length).getLast?).getD 0, ended := (pagesOfQuery u q).isEmpty }

/-- ARCH_QUERY by meter and time, over a span that is not empty. -/
theorem archQuery_byMeter {h : Fin 4} {tk : Taken} {u : State} (hfree : ∀ x ∈ u.arch.queries, x.host ≠ h.val) (hmode : fld tk.payload 0 1 = 1)
    (hfresh : queryStale u (queryOf h.val tk.payload) = false) (hring : namesRing u h.val (fld tk.payload 2 2) 64 = true)
    (hspan : fld tk.payload 16 8 < fld tk.payload 24 8) : archQuery h tk u =
      (pushQ11 (.query h.val) (u.onArch fun a =>
        { a with queries := a.queries ++ [queryTaken (queryOf h.val tk.payload) u], nextQuery := w16 (a.nextQuery + 1) }),
       okWith (leBytes 2 u.arch.nextQuery ++ [0, 0] ++ leBytes 4 (pagesOfQuery u (queryOf h.val tk.payload)).length)) := by
  have hm : (queryOf h.val tk.payload).mode = 1 := hmode
  have hm0 : ¬ (queryOf h.val tk.payload).mode = 0 := by simp [hm]
  have hr : namesRing u h.val (queryOf h.val tk.payload).ring 64 = true := hring
  have hlo : ¬ (queryOf h.val tk.payload).hi ≤ (queryOf h.val tk.payload).lo := Nat.not_le.mpr hspan
  have hnone : u.arch.queries.any (fun x => x.host == h.val) = false := List.any_eq_false.mpr fun x hx => by simpa using hfree x hx
  unfold archQuery
  simp only [hm0, if_false, hnone]
  exact (if_neg Bool.false_ne_true).trans ((if_neg fun hc => Bool.false_ne_true (hfresh.symm.trans ((Bool.and_eq_true ..).mp hc).2)).trans
    (if_neg (by simp [hm, hr, hlo])))

/-- ARCH_QUERY_SCAN of an ended query with nothing left to push: its end record goes, and the query with it (R539). -/
theorem exec_archQueryScan_ends {dt host step : Nat} {corr : List Nat} {second : Option Nat} {q : ArchQuery} {s u w : State} (hu : tick dt s = u)
    (hworks : se13Works u = true) (hq : u.arch.queries.find? (fun q => q.host == host) = some q) (hstarted : q.started = true) (hout : q.out = [])
    (hended : q.ended = true) (hw : pushRing q.ring (recordBytes (endRecord q)) u = some w) :
    exec (.archQueryScan dt host corr step second) s =
      .next (w.onArch fun a => { a with queries := a.queries.filter fun x => x.host != host }) := by
  have hruns : workRuns u .pageMap = true := ((Bool.and_eq_true ..).mp hworks).2
  have hat : queryAtWork host u = some (q, u) := by
    unfold queryAtWork
    rw [hq]
    exact (if_pos hstarted).trans (if_pos hruns)
  have hscan : scanPage q corr step second u = (q, u) := if_pos hended
  have hpush : pushFound q [] u = (({ q with out := [] }, true), w) := by
    unfold pushFound
    rw [if_pos hended, hw]
  show execArchQueryScan dt host corr step second s = _
  unfold execArchQueryScan
  rw [hu]
  dsimp only
  rw [if_pos hworks, hat]
  dsimp only
  simp only [hscan, hout, List.isEmpty_nil, if_true, hpush]

/-- A query after ARCH_QUERY_CANCEL: ended, and what it has not pushed is dropped unless it had ended (R540). -/
def queryCancelled (q : ArchQuery) : ArchQuery :=
  { q with ended := true, cancelled := !q.ended, out := if q.ended then q.out else [] }

theorem archQueryCancel_running {h : Fin 4} {tk : Taken} {u : State} (hq : ∃ q ∈ u.arch.queries, q.host = h.val ∧ q.id = fld tk.payload 0 2) :
    archQueryCancel h tk u = (u.onArch fun a =>
      { a with queries := a.queries.map fun q => if q.host = h.val ∧ q.id = fld tk.payload 0 2 then queryCancelled q else q }, answer .ok) := by
  have hcond (q : ArchQuery) : (if (q.host == h.val && q.id == fld tk.payload 0 2) = true then queryCancelled q else q) =
      if q.host = h.val ∧ q.id = fld tk.payload 0 2 then queryCancelled q else q := ite_congr (by simp) (fun _ => rfl) (fun _ => rfl)
  refine (if_pos (List.any_eq_true.mpr (by simpa using hq))).trans (congrArg (·, answer .ok) (congrArg u.onArch (funext fun a => ?_)))
  exact congrArg (fun l => { a with queries := l }) (List.map_congr_left fun q _ => hcond q)

/-! ### Formats and retirement (R515, R542, R543) -/

theorem archFormat_starts {tk : Taken} {u : State} (hmay : u.cfg.overlay = 2 ∨ u.cfg.overlay = 4 ∨ u.arch.state = 4) (hstate : u.arch.state ≠ 5)
    (hnone : u.arch.queries = []) (hconfirm : fld tk.payload 0 4 = 0x464F524D) (hplan : (formatPlan u).2.isSome) :
    archFormat tk u = (startFormat u, answer .ok) := by
  unfold archFormat
  dsimp only
  rw [if_neg (by rcases hmay with h | h | h <;> simp [h]), if_neg (by simp [hstate, hnone]), if_neg (by simp [hconfirm])]
  exact if_neg (by simpa [Option.isSome_iff_ne_none] using hplan)

theorem archDieRetire_spare {tk : Taken} {x : DieSt} {u rest : State} (hx : dieOf u (fld tk.payload 0 1) = some x) (hstate : x.state = 0)
    (hconfirm : fld tk.payload 4 4 = 0x44494521) (hgroup : 8 ≤ ((((groupsOf u).find? (·.contains (fld tk.payload 0 1))).getD []).filter fun k =>
      k != fld tk.payload 0 1 && dieGood u k).length) (hrest : rest = onDie (fld tk.payload 0 1) (fun y => { y with state := 1 }) u)
    (hspace : recFirst u + 65536 + reserveSbs rest * sbWorth u ≤ dataPages rest) (hfree : rebuilding u = false) :
    archDieRetire tk u = (failDie (fld tk.payload 0 1) u, answer .ok) := by
  subst hrest
  unfold archDieRetire
  dsimp only
  rw [hx]
  dsimp only
  rw [if_neg (by simp [hstate, hconfirm]), if_neg (by rw [Bool.or_eq_true_iff]; simp only [decide_eq_true_eq]; omega)]
  exact if_neg (by simp [hfree])

theorem archDieRetire_badarg {tk : Taken} {x : DieSt} {u : State} (hx : dieOf u (fld tk.payload 0 1) = some x)
    (hbad : x.state ≠ 0 ∨ fld tk.payload 4 4 ≠ 0x44494521) : archDieRetire tk u = (u, answer .badarg) := by
  unfold archDieRetire
  dsimp only
  rw [hx]
  exact if_pos (by simpa using hbad)

/-- Settles O42: each operation's guard, what it answers and what its branch changes. That ARCH_FORMAT is answered at once, the order of
ARCH_QUERY's checks and the page that EVENT_COPY writes are the model's (log entries 21, 113 and 114). -/
theorem archiveRequestsAndFormat : Obligations.ArchiveRequestsAndFormat := by
  unfold Obligations.ArchiveRequestsAndFormat
  refine ⟨fun ring data q c b rest => .of ?takes, fun ring data q c b rest st => .of ?refuses, fun n r w => .of ?completes, fun n r w => .of ?delivers,
    .of ?copies, fun groups pages spare => .of ?formats, .of ?fails, ?health, fun x => ?die, ?noDie, ?query,
    fun host corr step second q w => .of ?ends, ?cancel, ?format, fun x rest => ?retires, fun x => ?keeps⟩
  case takes =>
    rintro dt s u hu ⟨hon, hq, hitems, hc, hroom, hst, hop⟩
    exact ⟨_, exec_hostBlockRequest_read hu ⟨hon, hq, hitems, hc, hroom⟩ hst hop, rfl⟩
  case refuses =>
    rintro dt s u hu ⟨hon, hq, hitems, hc, hroom, hst, hbad⟩
    exact ⟨_, exec_hostBlockRequest_refused hu ⟨hon, hq, hitems, hc, hroom⟩ hst hbad, rfl⟩
  case completes =>
    rintro dt s u hu ⟨hon, hr, hdone, hop, hw⟩
    exact ⟨_, exec_hostBlockComplete_other hu hon hr hdone hop hw, rfl⟩
  case delivers =>
    rintro dt s u hu ⟨hon, hr, hdone, hop, hst, hgood, hw⟩
    exact ⟨_, exec_hostBlockComplete_read hu hon hr hdone hop hst hgood hw, rfl⟩
  case copies =>
    rintro dt s u hu ⟨hruns, hwait, hnew⟩
    have honly (off : Nat) (d : SysData) : Only [.arch] u (storePage off d u) := storePage_only (by decide) (Only.refl _ u)
    exact ⟨_, exec_eventCopy hu hruns hwait hnew, rfl, honly _ _ .evt (by decide), honly _ _⟩
  case formats =>
    rintro dt s u hu ⟨hon, hstate, hplan, hext⟩
    obtain ⟨z, hz, hmade⟩ := formatted_eq groups pages spare u
    exact ⟨_, exec_formatComplete hu hon hstate hplan hext, z, congrArg (State.onEvt · _) hz, hmade⟩
  case fails =>
    rintro dt s u hu ⟨hon, hstate, hnone⟩
    exact ⟨_, exec_formatComplete_fails hu hon hstate hnone, rfl, rfl⟩
  case health =>
    refine .of (fun _ _ _ => rfl) fun h tk u ⟨hhist, hwritten⟩ => ⟨_, archHealth_eq tk u, ?_⟩
    obtain ⟨hlen, hdies, hstate, htemp⟩ := healthHead_shows hhist (healthRest u)
    obtain ⟨hrest, hcounts⟩ := healthRest_shows hwritten
    refine ⟨by rw [List.length_append, hlen, hrest], hdies, hstate, htemp, ?_⟩
    simpa [hlen] using hcounts
  case die =>
    exact .of (fun _ _ _ => rfl) fun h tk u ⟨hx, hhist, hreads, htemps⟩ => ⟨_, archDieRead_known hx, dieReport_shows hhist hreads htemps⟩
  case noDie =>
    refine .of (fun _ _ _ => rfl) fun h tk u _ hnone => ⟨u, answer .badarg, ?_, ⟨rfl, rfl⟩, .inl (by decide)⟩
    unfold archDieRead
    dsimp only
    rw [hnone]
  case query =>
    refine .of (fun _ _ _ => rfl) fun h tk u _ ⟨hfree, hmode, hfresh, hring, hspan⟩ =>
      ⟨_, _, archQuery_byMeter hfree hmode hfresh hring hspan, ⟨rfl, ?_, queryTaken (queryOf h.val tk.payload) u, ?_, rfl, rfl, rfl, rfl, rfl, rfl,
        rfl, rfl, rfl, ?_⟩, .inl (by simp [okWith])⟩
    · exact congrArg ArchSt.nextQuery (pushQ11_only (bs := [.fab]) (by decide) (Only.refl _ _) .arch (by decide))
    · exact congrArg ArchSt.queries (pushQ11_only (bs := [.fab]) (by decide) (Only.refl _ _) .arch (by decide))
    · exact pushQ11_gives ..
  case ends =>
    rintro dt s u hu ⟨hworks, hq, hstarted, hout, hended, hw⟩
    exact ⟨_, exec_archQueryScan_ends hu hworks hq hstarted hout hended hw, rfl⟩
  case cancel =>
    exact .of (fun _ _ _ => rfl) fun h tk u _ hq => ⟨_, _, archQueryCancel_running hq, ⟨rfl, rfl⟩, .inl (by decide)⟩
  case format =>
    exact .of (fun _ _ _ => rfl) fun h tk u _ ⟨hmay, hstate, hnone, hconfirm, hplan⟩ =>
      ⟨_, _, archFormat_starts hmay hstate hnone hconfirm hplan, ⟨rfl, rfl⟩, .inl (by decide)⟩
  case retires =>
    exact .of (fun _ _ _ => rfl) fun h tk u _ ⟨hx, hstate, hconfirm, hgroup, hrest, hspace, hfree⟩ =>
      ⟨_, _, archDieRetire_spare hx hstate hconfirm hgroup hrest hspace hfree, ⟨rfl, rfl⟩, .inl (by decide)⟩
  case keeps =>
    exact .of (fun _ _ _ => rfl) fun h tk u _ ⟨hx, hbad⟩ => ⟨_, _, archDieRetire_badarg hx hbad, ⟨rfl, rfl⟩, .inl (by decide)⟩

end Sys2Proof.Machine
end
